-- ==== Sys2Proof/Word.lean ====
section
/-! DEFINITION. The plain words of the package: bytes, little-endian fields, bit ranges, two's complement,
saturation and the three cyclic redundancy checks the manual defines (R13, R37, R83, R394). -/

namespace Sys2Proof

/-- A byte as it travels in a waybill, a flit or a frame. -/
abbrev Byte := BitVec 8

/-- A byte from the low eight bits of a number. -/
def byte (n : Nat) : Byte := BitVec.ofNat 8 n

/-- Bits `[hi:lo]` of a value, counted from bit 0 (R13). -/
def bits (v hi lo : Nat) : Nat := v / 2 ^ lo % 2 ^ (hi - lo + 1)

/-- Bit `i` of a value. -/
def bit (v i : Nat) : Bool := v.testBit i

/-- `v` with bit `i` set. -/
def setBit (v i : Nat) : Nat := v ||| 2 ^ i

/-- `v` with bit `i` clear. -/
def clrBit (v i : Nat) : Nat := if v.testBit i then v - 2 ^ i else v

/-- `v` with bit `i` made `b`. -/
def putBit (v i : Nat) (b : Bool) : Nat := if b then setBit v i else clrBit v i

/-- The bits of `v` that are not in `m`. -/
def clrMask (v m : Nat) : Nat := v - (v &&& m)

/-- One or zero. -/
def b2n (b : Bool) : Nat := if b then 1 else 0

/-- A two's complement field of `w` bits as an integer (R13). -/
def sgn (w v : Nat) : Int :=
  if v % 2 ^ w < 2 ^ (w - 1) then (v % 2 ^ w : Nat) else (v % 2 ^ w : Nat) - (2 ^ w : Nat)

/-- An integer as a two's complement field of `w` bits; it wraps. -/
def twos (w : Nat) (i : Int) : Nat := (i % (2 ^ w : Nat)).toNat

/-- An integer saturated to a signed field of `w` bits. -/
def satInt (w : Nat) (i : Int) : Int :=
  if i > (2 ^ (w - 1) : Nat) - 1 then (2 ^ (w - 1) : Nat) - 1
  else if i < -((2 ^ (w - 1) : Nat) : Int) then -((2 ^ (w - 1) : Nat) : Int) else i

/-- An integer clamped between two limits, the lower limit first. -/
def clampInt (lo hi i : Int) : Int := if i < lo then lo else if i > hi then hi else i

/-- A natural number saturated to a field of `w` bits. -/
def satNat (w n : Nat) : Nat := if n < 2 ^ w then n else 2 ^ w - 1

/-- `n` bytes of a value, least significant first (R13). -/
def toLe : Nat → Nat → List Byte
  | 0, _ => []
  | n + 1, v => byte v :: toLe n (v / 256)

/-- The value of a little-endian field (R13). -/
def ofLe : List Byte → Nat
  | [] => 0
  | b :: r => b.toNat + 256 * ofLe r

/-- The field of `n` bytes at offset `o`. -/
def fieldLe (raw : List Byte) (o n : Nat) : Nat := ofLe ((raw.drop o).take n)

/-- The byte at offset `o`, 0 past the end. -/
def byteAt (raw : List Byte) (o : Nat) : Nat := fieldLe raw o 1

/-- `l` padded with zero bytes to a multiple of four. -/
def pad4 (l : List Byte) : List Byte := l ++ List.replicate ((4 - l.length % 4) % 4) 0

/-- `l` padded with zero bytes to `n` bytes, or cut there. -/
def padTo (n : Nat) (l : List Byte) : List Byte := (l ++ List.replicate n 0).take n

/-- The ceiling of a division. -/
def cdiv (a b : Nat) : Nat := (a + b - 1) / b

/-- A reflected cyclic redundancy check, one bit. -/
def crcBitR (poly c : Nat) : Nat := if c % 2 = 1 then (c / 2) ^^^ poly else c / 2

/-- A reflected check over one byte. -/
def crcByteR (poly c : Nat) (b : Byte) : Nat :=
  let x := c ^^^ b.toNat
  crcBitR poly (crcBitR poly (crcBitR poly (crcBitR poly
    (crcBitR poly (crcBitR poly (crcBitR poly (crcBitR poly x)))))))

/-- CRC-32C over bytes (R37). -/
def crc32c (raw : List Byte) : Nat :=
  (raw.foldl (crcByteR 0x82F63B78) 0xFFFFFFFF) ^^^ 0xFFFFFFFF

/-- CRC-32 of IEEE 802.3 over bytes (R394). -/
def crc32 (raw : List Byte) : Nat :=
  (raw.foldl (crcByteR 0xEDB88320) 0xFFFFFFFF) ^^^ 0xFFFFFFFF

/-- One bit of the unreflected CRC-16. -/
def crc16Bit (c : Nat) : Nat :=
  if c.testBit 15 then ((c * 2) % 65536) ^^^ 0x1021 else (c * 2) % 65536

/-- CRC-16 CCITT over one byte, most significant bit first. -/
def crc16Byte (c : Nat) (b : Byte) : Nat :=
  let x := c ^^^ (b.toNat * 256)
  crc16Bit (crc16Bit (crc16Bit (crc16Bit (crc16Bit (crc16Bit (crc16Bit (crc16Bit x)))))))

/-- The flit check of R83 over bytes: polynomial 0x1021, initial value 0xFFFF. -/
def crc16 (raw : List Byte) : Nat := raw.foldl crc16Byte 0xFFFF

end Sys2Proof
end

