-- ==== Sys2Proof/Syntax.lean ====
section
/-! DEFINITION. The commands of the package: one constructor of `Instr` per row of spec/opcode_table.json, with the
operands the row's rule names, and the plain records those operands are made of (waybills, messages between dies,
samples and events). -/

namespace Sys2Proof

/-- The three lanes (R6). -/
inductive LaneId
  | a | b | c
deriving DecidableEq, Repr

/-- The two shared dies that belong to no lane (R15): M and S. -/
inductive Shared
  | m | s
deriving DecidableEq, Repr

/-- The eight regions (R7). -/
inductive Region
  | la | lb | lc | pa | pb | pc | m | s
deriving DecidableEq, Repr

/-- The sources of waybills of one lane, in the order of the `WBE.CNT_RX[p]` instances (R79). -/
inductive Port
  | spi | t1 | can0 | can1 | so | m
deriving DecidableEq, Repr

/-- A node of the staff: a lane, or S (R112). -/
inductive StaffNode
  | lane (l : LaneId)
  | s
deriving DecidableEq, Repr

/-- One end of a link: the die that owns it and the region code of the far end (R81, R109). -/
structure Link where
  near : Region
  far : Region
deriving DecidableEq, Repr

/-- A waybill as received: the header fields of R35 and R36, the parameters and the check field. -/
structure Waybill where
  version : Nat
  flags : Nat
  opcode : Nat
  seq : Nat
  consist : Nat
  target : Nat
  plen : Nat
  commit : Nat
  params : List Byte
  crc : Nat
deriving DecidableEq, Repr

/-- The header of an accepted waybill with the port it came from and its sender there (R35, R36, R69, R73). -/
structure Hdr where
  port : Port
  src : Nat
  seq : Nat
  ackReq : Bool
  inConsist : Bool
  last : Bool
  urgent : Bool
  voted : Bool
  consist : Nat
  region : Nat
  block : Nat
  commit : Nat
deriving DecidableEq, Repr

/-- One item of a SET or a SET_STAGED: the parameter ID, the value length in bytes and the value (R63). -/
structure Item where
  id : Nat
  len : Nat
  val : Nat
deriving DecidableEq, Repr

/-- A reply: the fields of R41 and its data. -/
structure Reply where
  flags : Nat
  opcode : Nat
  seq : Nat
  status : Nat
  region : Nat
  mask : Nat
  data : List Byte
deriving DecidableEq, Repr

/-- The exchange frame of R88. -/
structure ExchFrame where
  region : Nat
  vstate : Nat
  latched : Bool
  period : Nat
  cycle : Nat
  heard : Nat
  mode : Nat
  holder : Nat
  active : Nat
  idq : List Int
  angles : List Nat
  digest : Nat
  epoch : Nat
  angleValid : Nat
  recon : Nat
deriving DecidableEq, Repr

/-- The S echo of R90: the period echoed, the ages of the latest frame of each lane in µs, the excluded lanes. -/
structure SEcho where
  period : Nat
  ageA : Nat
  ageB : Nat
  ageC : Nat
  excluded : Nat
deriving DecidableEq, Repr

/-- The INPUT message of R104 with what later chapters append to it: the CEN output check of R247, the table checks of R283, the section table of R328, and of R360 the accepted levels with the inputs that have one, the latched
discrepancies and, two bits per input, the faults whose cause is present, and of R522 the result of the handshake. -/
structure InputMsg where
  lane : LaneId
  cycle : Nat
  an : List (Option Int)
  ref : List (Option Int)
  di : List (Option Bool)
  outCrc : Nat
  tblCrc : List (Option Nat)
  wrCount : Nat
  tblDigest : Nat
  sioIn : Nat
  sioHave : Nat
  sioDisc : Nat
  sioFault : Nat
  hs : Nat
deriving DecidableEq, Repr

/-- A STAFF message of R132. -/
structure StaffMsg where
  kind : Nat
  sender : Nat
  subject : Nat
  epoch : Nat
  lease : Nat
  reason : Nat
  cycle : Nat
deriving DecidableEq, Repr

/-- The key of a VOTED waybill: opcode, sequence and target (R94). -/
structure VKey where
  opcode : Nat
  seq : Nat
  target : Nat
deriving DecidableEq, Repr

/-- An entry of the compare table (R317). -/
structure TableEntry where
  pos : Int
  flags : Nat
  tag : Nat
  setM : Nat
  clrM : Nat
deriving DecidableEq, Repr

/-- The trigger descriptor of a standing order (R437). -/
structure OrderTrigger where
  kind : Nat
  flags : Nat
  argA : Nat
  argB : Nat
deriving DecidableEq, Repr

/-- The opcodes of waybills with their parameters parsed, class by class (R62). -/
inductive Op
  | get (ids : List Nat)
  | set (items : List Item)
  | setStaged (items : List Item)
  | commit
  | abortConsist
  | steerTarget (angle : Int)
  | brakeDemand (f1 f2 f3 f4 : Nat)
  | hold (mask : Nat)
  | release (mask : Nat)
  | startDrive (mask kind : Nat)
  | stopDrive (mask kind : Nat)
  | tableLoad (base : Nat) (entries : List TableEntry)
  | tableAppend (base : Nat) (entries : List TableEntry)
  | arm (mask : Nat)
  | disarm (mask : Nat)
  | forceOff (mask : Nat)
  | staffRequest (lane : Nat)
  | relinquish
  | rejoin (lane : Nat)
  | excludeLane (lane : Nat)
  | armReset (nonce : Nat)
  | confirmReset (nonce : Nat)
  | runRolling (lane : Nat)
  | runConverter (mask : Nat)
  | comparatorTest (mask : Nat)
  | inject (region src durMs : Nat)
  | powerState (state point : Nat)
  | traceArm
  | traceTrigger
  | traceStop
  | traceRead (start count : Nat)
  | traceStream (on : Bool)
  | archiveRead (offset len : Nat)
  | logRead (start count mask : Nat)
  | updateBegin (total : Nat)
  | updateChunk (offset : Nat) (data : List Byte)
  | updateEnd
  | attest (part : Nat) (nonce : Option (List Byte))
  | lifecycleNonce
  | lifecycleChunk (offset : Nat) (data : List Byte)
  | lifecycleApply
  | orderLoad (order action : Nat) (desc : OrderTrigger) (ws : List Waybill)
  | orderStart (order : Nat)
  | orderStop (order : Nat)
  /-- An opcode whose first parameter byte selects a kind or an action, with one that does not exist (R501, R550). -/
  | otherKind (opcode kind : Nat)
deriving DecidableEq, Repr


/-- The turn-on and turn-off time of one switch of a bridge in a DUTY message, in steps of 625 ps from the next load
point, and the time its gate takes to fall below the hold-off level (R208, R209). `sw` is 2p + h (R203). -/
structure SwitchEdge where
  sw : Nat
  on : Nat
  off : Nat
  fall : Nat
deriving DecidableEq, Repr

/-- What the power die samples of one bridge at a load point: the codes of its seven channels (R226, R228), whether the
SAMPLE flits arrive (R85, R167), and the phases whose bootstrap voltage rose above 9.0 V since the previous one and those whose bootstrap
voltage lies below 7.0 V or fell below it since, a bit per phase (R211). -/
structure BridgeSample where
  b : Nat
  arrives : Bool
  iu : Int
  iv : Int
  iw : Int
  vu : Nat
  vv : Nat
  vw : Nat
  vdc : Nat
  bootHigh : Nat
  bootLow : Nat
deriving DecidableEq, Repr

/-- An edge accepted on a wire of a feedback channel (R291): wire 0 A, 1 B, 2 Z; its new level. -/
structure WireEdge where
  wire : Nat
  level : Bool
deriving DecidableEq, Repr

/-- A converted sine and cosine pair of a channel, in converter units (R296, R297). -/
structure SinCos where
  ch : Nat
  sin : Int
  cos : Int
deriving DecidableEq, Repr

/-- A table transfer (R328): the pending entries with the bits not yet applied, the count and the digest, the highest
position in 1/256 count, whether the source is REVERSED, its requests; and the base period it holds them at. -/
structure TableXfer where
  entries : List TableEntry
  wrCount : Nat
  digest : Nat
  hwm : Int
  rev : Bool
  req : Nat
  period : Nat
deriving DecidableEq, Repr

/-- A vote message of a lane to S (R330). -/
structure VoteMsg where
  region : Nat
  void : Bool
  period : Nat
  req : Nat
  level : Nat
  hold : Nat
  release : Nat
  epoch : Nat
deriving DecidableEq, Repr

/-- The STATUS message of S (R333). -/
structure SStatus where
  armed : Nat
  out : Nat
  faulted : Nat
  latch : Nat
  athOut : Nat
  excluded : Nat
  void : Nat
deriving DecidableEq, Repr

/-- A TRIP (kind 0x81) or ACK_RELEASE (kind 0x82) message (R356). -/
structure TripMsg where
  kind : Nat
  sender : Nat
  pair : Nat
  chan : Nat
  func : Nat
  cycle : Nat
  offset : Nat
deriving DecidableEq, Repr

/-- The record of an agreed key: the waybill as lanes compare it, for a COMMIT the check of its consist (R60), the mask, the
cycle of the effect, the time of its earliest copy, the final status once known (R100). -/
structure VAgreed where
  key : VKey
  raw : List Byte
  crc : Nat
  mask : Nat
  cycle : Nat
  stamp : Nat
  status : Option (Nat × List Byte)
deriving DecidableEq, Repr

/-- The state transfer of a rejoin (R129): staff view, digest, vote record with the failed lanes of each set, the degraded
networks and the minority events, the compare table, the lost windings and those stopped by an agreed STOP_DRIVE, a mask per lane, the mode, the targets with their commands, the cycle. -/
structure StateXfer where
  holder : Nat
  epoch : Nat
  lease : Nat
  digest : Nat
  agreed : List VAgreed
  anFailed : List Nat
  diFailed : List Nat
  netState : Nat
  minority : List (LaneId × Nat)
  table : TableXfer
  lostW : List Nat
  stoppedW : List Nat
  pos : Int
  mode : Nat
  targets : List (Nat × Nat)
  cycle : Nat
deriving DecidableEq, Repr

/-- The part of the second transfer that belongs to an enabled repetitive controller (R285): its table, the two states of
its Q section, direction, fade steps, reversal distance left, source values with their validity, newest first, and the
accumulated position. -/
structure RpcXfer where
  r : Nat
  table : List Nat
  q1 : Int
  q2 : Int
  dir : Nat
  fade : Nat
  revLeft : Nat
  revFrom : Nat
  hist : List (Int × Bool)
  accPos : Nat
  qnew : Bool
deriving DecidableEq, Repr

/-- The second transfer of a rejoin (R248): the base period it is named for, the section states of closed general loops by section, the time at the limit of
every loop, the targets with their commands, the controllers. -/
structure LoopXfer where
  period : Nat
  secs : List (Nat × Int × Int)
  sat : List Nat
  targets : List (Nat × Nat)
  rpc : List RpcXfer
deriving DecidableEq, Repr

/-- The events of a local cycle (R601). -/
inductive TwlEvent
  | cycleStart | sample | latch
deriving DecidableEq, Repr

/-- What a burst does to a line of a lane die's memory (R462): a read of the line, a write of bytes of it from an offset on. -/
inductive LineXfer
  | read (line : Nat)
  | write (line off : Nat) (data : List Byte)
deriving DecidableEq, Repr

/-- A request at an arbitration of a fabric (R447, R454): the requester, the FAB cycles it has waited, and what its burst does to
memory lines, none where it goes to another target. -/
structure FabReq where
  q : Nat
  waited : Nat
  xfer : List LineXfer := []
deriving DecidableEq, Repr

/-- Where a memory line lies (R463, R464): a mirrored area; an area owned by a task or buffer that can be told; any other
area; a line of M's NVS. -/
inductive LineArea
  | mirrored | owned | other | nvs
deriving DecidableEq, Repr

/-- What a scrub read finds (R463, R467): no error; an error that the repeated read does not show; a persistent error; a
line written between the read and its check. -/
inductive ScrubError
  | clean | transient | persistent | written
deriving DecidableEq, Repr

/-- A task of the firmware image of a lane (R16, R425, R431): its number, its level, its owner block, the events it waits
for and its timeout in µs. -/
structure TaskInit where
  n : Nat
  level : Nat
  owner : Nat
  events : List Nat
  timeout : Nat
deriving DecidableEq, Repr

/-- The answer of a party to an offered change: accept, delay by so many ms, refuse with a reason (R521). -/
inductive HsAnswer
  | accept
  | delay (ms : Nat)
  | refuse (reason : Nat)
deriving DecidableEq, Repr

/-- A creep sample of one channel: the pairs averaged, or the SSI frame with the level of its start (R525, R526). -/
structure CreepSample where
  ch : Nat
  pairs : List SinCos
  frame : Option (Nat × Bool)
deriving DecidableEq, Repr

/-- Telemetry that becomes an event-log record: the region, kind and code of R539, the Towline cycle of the reporting lane
and the data. -/
structure LogRecord where
  region : Nat
  kind : Nat
  code : Nat
  cycle : Nat
  data : List Byte
deriving DecidableEq, Repr

/-- A tag port in a cartridge report: state 1 to 3, type and winding digest (R553). -/
structure CartPort where
  state : Nat
  type : Nat
  digest : Nat
deriving DecidableEq, Repr

/-- A cartridge report: the ports, `M:CRT.POLICY`, and the cycle at which it takes effect (R553). -/
structure CartReport where
  ports : List CartPort
  policy : Nat
  cycle : Nat
deriving DecidableEq, Repr

/-- A CAN FD frame: its identifier and its data (R70). -/
structure CanFrame where
  id : Nat
  data : List Byte
deriving DecidableEq, Repr

/-- The groups of a pair that differ: in the cycle of detection, and in later cycles up to the halt (R140). -/
structure PairDiff where
  groups : List Nat
  later : List Nat := []
deriving DecidableEq, Repr

/-- What an HFI alignment shows: whether the PLL converged on an axis, and the peak currents of each polarity test along +d and along −d
(R198). -/
structure HfiAlign where
  converged : Bool := false
  peaks : List (Nat × Nat) := []
deriving DecidableEq, Repr

/-- What the injection test shows: the first group that differed in the clean run, the groups of which an injection was not detected
within 4 cycles, those reported with another first group or with further groups, and whether the first detection reached the fault
collector (R143, R144). -/
structure InjRun where
  clean : Option Nat := none
  missed : List Nat := []
  wrong : List Nat := []
  wire : Bool := true
deriving DecidableEq, Repr

/-- What a start finds: the run of the injection test (R143), the digest of each image slot whose signature
the boot ROM verified (R545), whether the MRAM configuration area passes its CRC (R562), the retention banks that fail
theirs (R528), the tasks of the firmware image (R425). -/
structure StartOutcome where
  injection : InjRun
  images : List (Option Nat)
  cfgOk : Bool
  badBanks : Nat
  tasks : List TaskInit
deriving DecidableEq, Repr

/-- Where a waybill to M comes from: a lane that relays it, or the service port (R543, R558). -/
inductive UpdSource
  | lane (l : LaneId)
  | service
deriving DecidableEq, Repr
/-- The commands of the package, one constructor per row of spec/opcode_table.json, in its order. -/
inductive Instr
  /-- WAYBILL_RECEIVE (R39). -/
  | waybillReceive (l : LaneId) (p : Port) (src : Nat) (raw : List Byte) (t : Nat)
  /-- DUP_HOLD_EXPIRY (R45). -/
  | dupHoldExpiry (l : LaneId) (p : Port) (seq : Nat)
  /-- GET (R63). -/
  | get (l : LaneId) (h : Hdr) (ids : List Nat)
  /-- SET (R64). -/
  | set (l : LaneId) (h : Hdr) (items : List Item)
  /-- SET_STAGED (R53). -/
  | setStaged (l : LaneId) (h : Hdr) (items : List Item)
  /-- COMMIT (R57). -/
  | commit (l : LaneId) (h : Hdr)
  /-- ABORT_CONSIST (R55). -/
  | abortConsist (l : LaneId) (h : Hdr)
  /-- CONSIST_IDLE_TIMEOUT (R55). -/
  | consistIdleTimeout (l : LaneId) (p : Port) (consist : Nat)
  /-- COMMIT_INSTANT_REACHED (R58). -/
  | commitInstantReached (l : LaneId)
  /-- RELAY_TIMEOUT (R38). -/
  | relayTimeout (l : LaneId) (tag : Nat)
  /-- RELAY_RECEIVE (R38). -/
  | relayReceive (d : Shared) (l : LaneId) (tag epoch : Nat) (w : Waybill)
  /-- RELAY_REPLY_RECEIVE (R38). -/
  | relayReplyReceive (l : LaneId) (tag : Nat) (r : Reply)
  /-- SPI_STATUS (R66). -/
  | spiStatus (l : LaneId)
  /-- SPI_WRITE (R67). -/
  | spiWrite (l : LaneId) (raw : List Byte) (t : Nat)
  /-- SPI_READ (R67). -/
  | spiRead (l : LaneId) (count : Nat)
  /-- SPI_CLEAR (R66). -/
  | spiClear (l : LaneId)
  /-- SPI_BUFFER_DRAIN (R67). -/
  | spiBufferDrain (l : LaneId) (t : Nat)
  /-- SPI_REPLY_ENQUEUE (R67). -/
  | spiReplyEnqueue (l : LaneId)
  /-- UDP_DATAGRAM_RECEIVE (R69). -/
  | udpDatagramReceive (at' : Option LaneId) (tagged : Bool) (header body : List Byte) (t : Nat)
  /-- CAN0_SEGMENT_RECEIVE (R70). -/
  | can0SegmentReceive (l : LaneId) (f : CanFrame) (t : Nat)
  /-- CAN0_SEGMENT_TIMEOUT (R71). -/
  | can0SegmentTimeout (l : LaneId)
  /-- CAN_BUS_OFF (R71). -/
  | canBusOff (l : LaneId) (can1 : Bool)
  /-- ISO_PROPRIETARY_A_RECEIVE (R74). -/
  | isoProprietaryAReceive (l : LaneId) (src : Nat) (raw : List Byte) (t : Nat)
  /-- ISO_ADDRESS_CLAIM_RECEIVE (R72). -/
  | isoAddressClaimReceive (l : LaneId) (name sa : Nat)
  /-- ISO_ADDRESS_CLAIM_SEND (R122). -/
  | isoAddressClaimSend (l : LaneId)
  /-- FLIT_RECEIVE (R85). -/
  | flitReceive (k : Link) (flit : Nat)
  /-- FLIT_NACK_RECEIVE (R85). -/
  | flitNackReceive (k : Link) (expected : Nat)
  /-- FLIT_ACK_TIMEOUT (R85). -/
  | flitAckTimeout (k : Link)
  /-- LINK_CODE_ERRORS (R87). -/
  | linkCodeErrors (k : Link)
  /-- LINK_ACK_SILENCE (R87). -/
  | linkAckSilence (k : Link)
  /-- LINK_TRAIN_COMPLETE (R87). -/
  | linkTrainComplete (k : Link)
  /-- LINK_FAIL_TIMEOUT (R87). -/
  | linkFailTimeout (k : Link)
  /-- LINK_TRAIN_RETRY (R87). -/
  | linkTrainRetry (k : Link)
  /-- PWM_VALLEY (R27). -/
  | pwmValley (l : LaneId) (peak : Bool) (smp : List BridgeSample) (sc : List SinCos) (t : Nat)
  /-- COMPUTE_START (R156). -/
  | computeStart (l : LaneId) (t : Nat)
  /-- DUTY_RECEIVE (R208). -/
  | dutyReceive (l : LaneId) (b : Nat) (edges : List SwitchEdge)
  /-- EXCH_FRAME_RECEIVE (R88). -/
  | exchFrameReceive (l : LaneId) (f : ExchFrame) (t : Nat)
  /-- S_EXCH_RECEIVE (R90). -/
  | sExchReceive (f : ExchFrame) (t : Nat)
  /-- S_ECHO_RECEIVE (R90). -/
  | sEchoReceive (l : LaneId) (e : SEcho) (t : Nat)
  /-- S_FRAME_SILENCE (R117). -/
  | sFrameSilence (l : LaneId)
  /-- ANNOUNCE_RECEIVE (R93). -/
  | announceReceive (l : LaneId) (arrival : LaneId) (stamp : Nat) (raw : List Byte) (crc : Nat)
  /-- TOWLINE_CYCLE_START (R399). -/
  | towlineCycleStart (l : LaneId) (t : Nat)
  /-- COMMON_SAMPLE_INSTANT (R104). -/
  | commonSampleInstant (l : LaneId) (t : Nat)
  /-- COMMON_LATCH_INSTANT (R96). -/
  | commonLatchInstant (l : LaneId) (t : Nat)
  /-- INPUT_RECEIVE (R104). -/
  | inputReceive (l : LaneId) (m : InputMsg)
  /-- INPUT_VOTE_DEADLINE (R104). -/
  | inputVoteDeadline (l : LaneId)
  /-- STAFF_RENEW_RECEIVE (R112). -/
  | staffRenewReceive (n : StaffNode) (m : StaffMsg) (t : Nat)
  /-- STAFF_GRANT_RECEIVE (R122). -/
  | staffGrantReceive (l : LaneId) (m : StaffMsg) (t : Nat)
  /-- STAFF_CLAIM_RECEIVE (R120). -/
  | staffClaimReceive (n : StaffNode) (m : StaffMsg) (t : Nat)
  /-- STAFF_AGREE_RECEIVE (R120). -/
  | staffAgreeReceive (n : StaffNode) (m : StaffMsg) (t : Nat)
  /-- STAFF_DENY_RECEIVE (R120). -/
  | staffDenyReceive (l : LaneId) (m : StaffMsg)
  /-- STAFF_RELEASE_RECEIVE (R121). -/
  | staffReleaseReceive (n : StaffNode) (m : StaffMsg) (t : Nat)
  /-- STAFF_RELINQUISH_RECEIVE (R125). -/
  | staffRelinquishReceive (n : StaffNode) (m : StaffMsg) (t : Nat)
  /-- STAFF_ADMIT_RECEIVE (R130). -/
  | staffAdmitReceive (n : StaffNode) (m : StaffMsg)
  /-- STAFF_EXPIRED_RECEIVE (R127). -/
  | staffExpiredReceive (l : LaneId) (m : StaffMsg)
  /-- HOLDER_LEASE_END (R114). -/
  | holderLeaseEnd (l : LaneId)
  /-- S_LEASE_EXPIRY (R114). -/
  | sLeaseExpiry
  /-- CLAIM_WAIT_END (R119). -/
  | claimWaitEnd (l : LaneId) (t : Nat)
  /-- GRANT_MISS (R127). -/
  | grantMiss (l : LaneId)
  /-- CLAIM_TIMEOUT (R120). -/
  | claimTimeout (l : LaneId)
  /-- SUCCESSOR_RESERVE_END (R121). -/
  | successorReserveEnd (n : StaffNode)
  /-- S_LOST_TO_STAFF (R124). -/
  | sLostToStaff (l : LaneId)
  /-- LEAVE_RESET (R125). -/
  | leaveReset (l : LaneId)
  /-- STAFF_REQUEST (R131). -/
  | staffRequest (l : LaneId) (h : Hdr) (lane : Nat)
  /-- RELINQUISH (R131). -/
  | relinquish (l : LaneId) (h : Hdr)
  /-- REJOIN (R130). -/
  | rejoin (l : LaneId) (h : Hdr) (lane : Nat)
  /-- EXCLUDE_LANE (R131). -/
  | excludeLane (l : LaneId) (h : Hdr) (lane : Nat)
  /-- STATE_TRANSFER_REQUEST (R129). -/
  | stateTransferRequest (l : LaneId) (from' : LaneId)
  /-- STATE_TRANSFER_COMPLETE (R128). -/
  | stateTransferComplete (l : LaneId) (x : StateXfer) (crcSecond : Option Nat) (durationUs : Nat)
  /-- STATE_TRANSFER_TIMEOUT (R128). -/
  | stateTransferTimeout (l : LaneId)
  /-- SHADOW_END (R128). -/
  | shadowEnd (l : LaneId) (shadow : LaneId)
  /-- LOOP_STATE_TRANSFER_COMPLETE (R248). -/
  | loopStateTransferComplete (l : LaneId) (x : LoopXfer) (ok : Bool)
  /-- LOCKSTEP_MISMATCH (R139). -/
  | lockstepMismatch (l : LaneId) (d : PairDiff) (tick : Nat)
  /-- SYNC_DIFF_DETECT (R142). -/
  | syncDiffDetect (l : LaneId) (input : Nat) (t : Nat)
  /-- START_DRIVE (R178). -/
  | startDrive (l : LaneId) (h : Hdr) (mask kind : Nat)
  /-- STOP_DRIVE (R178). -/
  | stopDrive (l : LaneId) (h : Hdr) (mask kind : Nat)
  /-- STOP_RAMP_END (R178). -/
  | stopRampEnd (l : LaneId) (b : Nat)
  /-- CAPTURE_END (R201). -/
  | captureEnd (l : LaneId) (b t : Nat)
  /-- PRECHARGE_END (R212). -/
  | prechargeEnd (l : LaneId) (b : Nat)
  /-- EXTRAP_TIMEOUT (R194). -/
  | extrapTimeout (l : LaneId) (b : Nat)
  /-- HFI_ALIGN_END (R198). -/
  | hfiAlignEnd (l : LaneId) (b : Nat) (x : HfiAlign)
  /-- VGD_LOW (R205). -/
  | vgdLow (l : LaneId) (mv : Nat)
  /-- VGD_READY (R205). -/
  | vgdReady (l : LaneId) (mv : Nat)
  /-- DESAT_DETECT (R216). -/
  | desatDetect (l : LaneId) (sw : Nat) (t : Nat)
  /-- DESAT_BLANK_END (R215). -/
  | desatBlankEnd (l : LaneId) (sw : Nat) (asserted : Bool) (t : Nat)
  /-- HARD_SHORT_DETECT (R217). -/
  | hardShortDetect (l : LaneId) (phase : Nat) (hsB : Bool) (t : Nat)
  /-- SOFT_OFF_STEP2 (R216). -/
  | softOffStep2 (l : LaneId) (sw : Nat)
  /-- SOFT_OFF_CLAMP (R216). -/
  | softOffClamp (l : LaneId) (sw : Nat)
  /-- GDR_LATCH_CLEAR (R220). -/
  | gdrLatchClear (l : LaneId) (h : Hdr) (b bits : Nat) (t : Nat) (comparators : Bool)
  /-- SHORT_ZERO_CROSSING (R223). -/
  | shortZeroCrossing (l : LaneId) (b : Nat) (t : Nat)
  /-- SHORT_RELEASE_TIMEOUT (R223). -/
  | shortReleaseTimeout (l : LaneId) (b : Nat)
  /-- CAL_SKIP_TIMEOUT (R229). -/
  | calSkipTimeout (l : LaneId) (c : Nat)
  /-- CEN_GROUP_TRIGGER (R240). -/
  | cenGroupTrigger (l : LaneId) (source bridge count : Nat) (t : Nat)
  /-- STEER_TARGET (R255). -/
  | steerTarget (l : LaneId) (h : Hdr) (angle : Int)
  /-- BRAKE_DEMAND (R255). -/
  | brakeDemand (l : LaneId) (h : Hdr) (f1 f2 f3 f4 : Nat)
  /-- HOLD (R255). -/
  | hold (l : LaneId) (h : Hdr) (mask : Nat)
  /-- RELEASE (R255). -/
  | release (l : LaneId) (h : Hdr) (mask : Nat)
  /-- TRC_SAMPLE_EVENT (R257). -/
  | trcSampleEvent (l : LaneId) (t : Nat)
  /-- TRACE_ARM (R261). -/
  | traceArm (l : LaneId) (h : Hdr)
  /-- TRACE_TRIGGER (R261). -/
  | traceTrigger (l : LaneId) (h : Hdr)
  /-- TRACE_STOP (R261). -/
  | traceStop (l : LaneId) (h : Hdr)
  /-- TRACE_READ (R261). -/
  | traceRead (l : LaneId) (h : Hdr) (start count : Nat)
  /-- TRACE_STREAM (R261). -/
  | traceStream (l : LaneId) (h : Hdr) (on : Bool)
  /-- ARCHIVE_READ (R261). -/
  | archiveRead (l : LaneId) (h : Hdr) (offset len : Nat)
  /-- TRACE_ARCHIVE_WRITE (R260). -/
  | traceArchiveWrite (l : LaneId) (rowBytes : Nat) (rows : List (List Byte))
  /-- FBI_EDGE_ACCEPT (R291). -/
  | fbiEdgeAccept (l : LaneId) (ch : Nat) (edges : List WireEdge) (heldNs : Nat) (t : Nat)
  /-- FBI_LINE_FAULT (R295). -/
  | fbiLineFault (l : LaneId) (ch : Nat) (wire : Nat)
  /-- SINCOS_PAIR_RECEIVE (R297). -/
  | sincosPairReceive (l : LaneId) (ch : Nat) (pair : Option SinCos) (t : Nat)
  /-- SSI_FRAME_COMPLETE (R301). -/
  | ssiFrameComplete (l : LaneId) (ch : Nat) (frame : Nat) (startHigh : Bool) (t : Nat)
  /-- FBI_STANDSTILL_TIMEOUT (R310). -/
  | fbiStandstillTimeout (l : LaneId) (ch : Nat)
  /-- FBI_FAULT_CLEAR (R313). -/
  | fbiFaultClear (l : LaneId) (h : Hdr) (ch bits present : Nat)
  /-- FBI_INDEX_ARM (R303). -/
  | fbiIndexArm (l : LaneId) (h : Hdr) (ch : Nat)
  /-- TABLE_LOAD (R329). -/
  | tableLoad (l : LaneId) (h : Hdr) (base : Nat) (entries : List TableEntry)
  /-- TABLE_APPEND (R329). -/
  | tableAppend (l : LaneId) (h : Hdr) (base : Nat) (entries : List TableEntry)
  /-- ARM (R329). -/
  | arm (l : LaneId) (h : Hdr) (mask : Nat)
  /-- DISARM (R329). -/
  | disarm (l : LaneId) (h : Hdr) (mask : Nat)
  /-- FORCE_OFF (R329). -/
  | forceOff (l : LaneId) (h : Hdr) (mask : Nat)
  /-- TABLE_TRANSFER_COMPLETE (R328). -/
  | tableTransferComplete (l : LaneId) (x : TableXfer)
  /-- S_VOTE_RECEIVE (R331). -/
  | sVoteReceive (v : VoteMsg) (t : Nat)
  /-- ATH_PULSE_END (R344). -/
  | athPulseEnd (a : Nat)
  /-- ATH_ORPHAN_TIMEOUT (R346). -/
  | athOrphanTimeout
  /-- S_STATUS_SEND (R333). -/
  | sStatusSend
  /-- S_STATUS_RECEIVE (R333). -/
  | sStatusReceive (l : LaneId) (m : SStatus) (t : Nat)
  /-- SEC_OFF_PULSE_START (R338). -/
  | secOffPulseStart (k : Nat)
  /-- SEC_OFF_PULSE_END (R338). -/
  | secOffPulseEnd (k : Nat) (mv : Int) (ma : Nat)
  /-- SEC_READBACK_FAULT (R337). -/
  | secReadbackFault (k : Nat)
  /-- SEC_OVERCURRENT (R337). -/
  | secOvercurrent (k : Nat)
  /-- SEC_OPEN_LOAD (R337). -/
  | secOpenLoad (k : Nat)
  /-- SEC_LEAKAGE (R337). -/
  | secLeakage (k : Nat)
  /-- SEC_FAULT_CLEAR (R341). -/
  | secFaultClear (l : LaneId) (h : Hdr) (k bits present : Nat)
  /-- SIO_INPUT_ACCEPT (R350). -/
  | sioInputAccept (l : LaneId) (n : Nat) (level : Bool) (tick : Nat) (t : Nat)
  /-- TEST_PULSE_START (R351). -/
  | testPulseStart (l : LaneId) (n : Nat) (t : Nat)
  /-- TEST_PULSE_END (R351). -/
  | testPulseEnd (l : LaneId) (n : Nat) (lowSeen : Nat)
  /-- TP_READBACK_FAULT (R352). -/
  | tpReadbackFault (l : LaneId) (n : Nat)
  /-- SIO_DISCREPANCY_TIMEOUT (R354). -/
  | sioDiscrepancyTimeout (l : LaneId) (p : Nat)
  /-- TRIP_RECEIVE (R357). -/
  | tripReceive (l : LaneId) (m : TripMsg) (t : Nat)
  /-- TRIP_APPLY (R358). -/
  | tripApply (l : LaneId) (func : Nat) (t : Nat)
  /-- ESTOP_HOLD_TIMER (R358). -/
  | estopHoldTimer (l : LaneId)
  /-- ACK_RELEASE (R361). -/
  | ackRelease (l : LaneId) (t : Nat)
  /-- ACK_RELEASE_RECEIVE (R362). -/
  | ackReleaseReceive (l : LaneId) (m : TripMsg)
  /-- ARM_RESET (R363). -/
  | armReset (l : LaneId) (h : Hdr) (nonce : Nat)
  /-- CONFIRM_RESET (R363). -/
  | confirmReset (l : LaneId) (h : Hdr) (nonce : Nat)
  /-- STOP_STANDSTILL (R376). -/
  | stopStandstill (l : LaneId)
  /-- LATCH_CONFIRM_TIMEOUT (R377). -/
  | latchConfirmTimeout (l : LaneId) (target : Nat)
  /-- STOP_TIMEOUT (R378). -/
  | stopTimeout (l : LaneId)
  /-- TWL_LOSS_TIMEOUT (R381). -/
  | twlLossTimeout (l : LaneId)
  /-- TWL_FRAME_RECEIVE (R394). -/
  | twlFrameReceive (l : LaneId) (rail : Nat) (coding : Bool) (raw : List Byte) (t : Nat)
  /-- TWL_PATH_START (R395). -/
  | twlPathStart (l : LaneId) (p : Nat) (readbackFail : Nat) (t : Nat)
  /-- TWL_NIT (R402). -/
  | twlNit (l : LaneId) (t : Nat)
  /-- LOCAL_CYCLE_START (R601). -/
  | localCycleStart (l : LaneId) (e : TwlEvent) (t : Nat)
  /-- LISTEN_TIMEOUT (R415). -/
  | listenTimeout (l : LaneId) (t : Nat)
  /-- LKG_ENABLE_OPEN (R410). -/
  | lkgEnableOpen (l : LaneId) (p : Nat) (traffic : Bool)
  /-- LKG_ENABLE_CLOSE (R410). -/
  | lkgEnableClose (l : LaneId) (p : Nat) (sending : Bool)
  /-- LKG_BLOCK_TX (R410). -/
  | lkgBlockTx (l : LaneId)
  /-- LKG_CYCLE_START (R411). -/
  | lkgCycleStart (l : LaneId) (own : Int) (tapsOk : Bool)
  /-- TASK_EVENT (R429). -/
  | taskEvent (l : LaneId) (n ev : Nat)
  /-- WAIT_TIMEOUT (R432). -/
  | waitTimeout (l : LaneId) (cmp : Nat)
  /-- DELAY_LIST_TICK (R432). -/
  | delayListTick (l : LaneId) (us : Nat)
  /-- BG_SHARE_CHECK (R451). -/
  | bgShareCheck (l : LaneId) (bgTenthUs : Nat)
  /-- ORDER_LOAD (R444). -/
  | orderLoad (l : LaneId) (h : Hdr) (o action : Nat) (d : OrderTrigger) (ws : List Waybill)
  /-- ORDER_START (R444). -/
  | orderStart (l : LaneId) (h : Hdr) (o : Nat)
  /-- ORDER_STOP (R444). -/
  | orderStop (l : LaneId) (h : Hdr) (o : Nat)
  /-- ORDER_DELAY_EXPIRY (R438). -/
  | orderDelayExpiry (l : LaneId) (o : Nat)
  /-- ORDER_NEXT_WAYBILL (R441). -/
  | orderNextWaybill (l : LaneId) (t : Nat)
  /-- FAB_REQUEST (R449). -/
  | fabRequest (r : Region) (reqs : List FabReq) (withdrawn : Option Nat)
  /-- LOCK_HOLD_WRITE (R457). -/
  | lockHoldWrite (d : Shared) (u : Nat) (value : Bool) (l : LaneId) (tag epoch : Nat)
  /-- LOCK_ROLLBACK_WRITE (R461). -/
  | lockRollbackWrite (d : Shared) (u : Nat) (l : LaneId) (tag epoch : Nat)
  /-- LOCK_IDLE_TIMEOUT (R459). -/
  | lockIdleTimeout (d : Shared) (u : Nat)
  /-- EPOCH_STATUS_RECEIVE (R459). -/
  | epochStatusReceive (d : Shared) (l : LaneId) (epoch : Nat)
  /-- FAB_CNT_CLEAR (R454). -/
  | fabCntClear (r : Region) (value : Bool)
  /-- LINE_READ_ERROR (R463). -/
  | lineReadError (r : Region) (line : Nat) (area : LineArea) (persistent : Bool)
  /-- LINE_REPAIR_REPLY (R465). -/
  | lineRepairReply (l : LaneId) (line : Nat) (data : Option (List Byte)) (readBackOk : Bool)
  /-- SCRUB_READ (R467). -/
  | scrubRead (r : Region) (line : Nat) (area : LineArea) (err : ScrubError) (passMs : Option Nat)
  /-- GATE_FORCE_CLOSE (R468). -/
  | gateForceClose (l : LaneId) (block master : Nat)
  /-- GATED_TOUCH (R469). -/
  | gatedTouch (r : Region) (block master : Nat)
  /-- FCL_SOURCE_ASSERT (R478). -/
  | fclSourceAssert (r : Region) (src : Nat) (held : Bool) (t : Nat)
  /-- FCL_QUIET_END (R478). -/
  | fclQuietEnd (r : Region) (src : Nat) (t : Nat)
  /-- BLOCK_READY (R479). -/
  | blockReady (r : Region) (block : Nat)
  /-- BLOCK_RESET_TIMEOUT (R479). -/
  | blockResetTimeout (r : Region) (block : Nat)
  /-- FAULT_PIN_HOLD_END (R482). -/
  | faultPinHoldEnd (r : Region)
  /-- FCL_LATCH_CLEAR (R481). -/
  | fclLatchClear (l : LaneId) (h : Hdr) (bits : Nat)
  /-- FCL_ERR_STATUS_CLEAR (R485). -/
  | fclErrStatusClear (l : LaneId) (h : Hdr) (bits : Nat)
  /-- TROUBLE_CLEAR (R487). -/
  | troubleClear (l : LaneId) (h : Hdr) (value : Bool)
  /-- SELFTEST_RUN_ROLLING (R496). -/
  | selftestRunRolling (l : LaneId) (h : Hdr) (lane : Nat)
  /-- SELFTEST_RUN_CONVERTER (R497). -/
  | selftestRunConverter (l : LaneId) (h : Hdr) (mask : Nat)
  /-- COMPARATOR_TEST (R497). -/
  | comparatorTest (l : LaneId) (h : Hdr) (mask : Nat) (fails : List (Nat × Nat))
  /-- INJECT (R500). -/
  | inject (l : LaneId) (h : Hdr) (region src durMs : Nat)
  /-- INJECT_END (R500). -/
  | injectEnd (r : Region) (src : Nat)
  /-- LBIST_COMPLETE (R490). -/
  | lbistComplete (l : LaneId) (pass : Bool) (dur : Nat)
  /-- MBIST_COMPLETE (R490). -/
  | mbistComplete (l : LaneId) (failing : List Nat) (inj : InjRun) (dur : Nat)
  /-- JTAG_BYPASS (R502). -/
  | jtagBypass
  /-- JTAG_IDCODE (R502). -/
  | jtagIdcode
  /-- JTAG_SAMPLE_PRELOAD (R502). -/
  | jtagSamplePreload
  /-- JTAG_EXTEST (R503). -/
  | jtagExtest
  /-- JTAG_INTERNAL_SCAN (R504). -/
  | jtagInternalScan (r : Region) (keyStore : Bool)
  /-- VSUP_START (R515). -/
  | vsupStart (l : LaneId)
  /-- SUPPLY_LOSS (R22). -/
  | supplyLoss (l : LaneId)
  /-- VSUP_OVERVOLT (R515). -/
  | vsupOvervolt (l : LaneId)
  /-- RAIL_FAULT (R516). -/
  | railFault (l : LaneId) (rail : Nat)
  /-- CLKIN_QUALIFIED (R508). -/
  | clkinQualified (l : LaneId) (restarts : Nat)
  /-- CLKIN_LOSS (R509). -/
  | clkinLoss (l : LaneId)
  /-- DVFS_CHANGE_COMPLETE (R518). -/
  | dvfsChangeComplete (l : LaneId) (point : Nat)
  /-- POWER_STATE (R531). -/
  | powerState (l : LaneId) (h : Hdr) (state point : Nat)
  /-- HANDSHAKE_ANSWER (R521). -/
  | handshakeAnswer (l : LaneId) (party : Nat) (a : HsAnswer)
  /-- HANDSHAKE_TIMEOUT (R521). -/
  | handshakeTimeout (l : LaneId) (party : Nat)
  /-- HANDSHAKE_DELAY_END (R521). -/
  | handshakeDelayEnd (l : LaneId) (party : Nat)
  /-- HANDSHAKE_ABORT_TIMEOUT (R522). -/
  | handshakeAbortTimeout (l : LaneId)
  /-- CREEP_SAMPLE (R525). -/
  | creepSample (l : LaneId) (smp : List CreepSample)
  /-- PEER_WAKE (R527). -/
  | peerWake (r : Region) (from' : LaneId)
  /-- WAKE_PIN (R529). -/
  | wakePin (l : LaneId)
  /-- WAKE_TIMER_EXPIRY (R530). -/
  | wakeTimerExpiry (l : LaneId)
  /-- WAKE_ACTIVITY (R530). -/
  | wakeActivity (l : LaneId) (hostPort : Bool)
  /-- RETENTION_DROOP (R528). -/
  | retentionDroop (l : LaneId)
  /-- LANE_START (R561). -/
  | laneStart (l : LaneId) (o : StartOutcome)
  /-- LANE_READY (R561). -/
  | laneReady (l : LaneId) (t : Nat)
  /-- SLOT_ANNOUNCE_RECEIVE (R545). -/
  | slotAnnounceReceive (l : LaneId) (peer : LaneId) (active pending : Nat)
  /-- SLOT_ANNOUNCE_TIMEOUT (R545). -/
  | slotAnnounceTimeout (l : LaneId) (moved : Bool)
  /-- FORMATION_LISTEN_END (R564). -/
  | formationListenEnd (l : LaneId)
  /-- FORMATION_TIMEOUT (R565). -/
  | formationTimeout
  /-- M_HEARTBEAT_RECEIVE (R33). -/
  | mHeartbeatReceive (l : LaneId) (lifecycle : Nat)
  /-- M_LOST_TIMEOUT (R33). -/
  | mLostTimeout (l : LaneId)
  /-- LOG_RECORD_APPEND (R539). -/
  | logRecordAppend (r : LogRecord)
  /-- LOG_READ (R540). -/
  | logRead (l : LaneId) (h : Hdr) (start count mask : Nat)
  /-- UPDATE_BEGIN (R543). -/
  | updateBegin (o : UpdSource) (h : Hdr) (total : Nat)
  /-- UPDATE_CHUNK (R543). -/
  | updateChunk (o : UpdSource) (h : Hdr) (offset : Nat) (data : List Byte)
  /-- UPDATE_END (R544). -/
  | updateEnd (o : UpdSource) (h : Hdr)
  /-- UPDATE_VERIFY_DONE (R544). -/
  | updateVerifyDone
  /-- UPDATE_SESSION_TIMEOUT (R543). -/
  | updateSessionTimeout
  /-- LANE_IMAGE_INSTALL (R544). -/
  | laneImageInstall (l : LaneId) (sect : List Byte) (readBackOk : Bool)
  /-- ATTEST (R548). -/
  | attest (o : UpdSource) (h : Hdr) (part : Nat) (nonce : Option (List Byte))
  /-- ATTEST_SIGN_DONE (R548). -/
  | attestSignDone
  /-- LIFECYCLE_NONCE (R550). -/
  | lifecycleNonce (o : UpdSource) (h : Hdr)
  /-- LIFECYCLE_CHUNK (R550). -/
  | lifecycleChunk (o : UpdSource) (h : Hdr) (offset : Nat) (data : List Byte)
  /-- LIFECYCLE_APPLY (R550). -/
  | lifecycleApply (o : UpdSource) (h : Hdr)
  /-- LIFECYCLE_NONCE_EXPIRY (R550). -/
  | lifecycleNonceExpiry
  /-- TAG_PORT_CHANGE (R553). -/
  | tagPortChange (c : Nat) (present : Bool)
  /-- TAG_RESPONSE (R551). -/
  | tagResponse (c : Nat) (frame : List Byte)
  /-- TAG_TIMEOUT (R551). -/
  | tagTimeout (c : Nat)
  /-- CART_REPORT_RECEIVE (R553). -/
  | cartReportReceive (l : LaneId) (r : CartReport)
  /-- TAG_COUNTER_WRITEBACK (R556). -/
  | tagCounterWriteback (failed : List Nat)
  /-- FLIT_ACK_RECEIVE (R85). -/
  | flitAckReceive (k : Link) (seq : Nat)
  /-- POWER_DIE_READY (R18). -/
  | powerDieReady (l : LaneId)
  /-- SHARED_DIE_READY (R563). -/
  | sharedDieReady (d : Shared) (recordOk creepWake : Bool)
  /-- ATH_COIL_FAULT (R345). -/
  | athCoilFault (a : Nat) (short : Bool)
  /-- TRX_DRIVER_OVERCURRENT (R421). -/
  | trxDriverOvercurrent (l : LaneId) (rail : Nat)
  /-- CONVERTER_TEST_COMPLETE (R497). -/
  | converterTestComplete (l : LaneId) (b results : Nat)
  /-- REPAIR_REQUEST_RECEIVE (R465). -/
  | repairRequestReceive (l : LaneId) (from' : LaneId) (line period : Nat) (crcOk : Bool)
  /-- RETENTION_RESTORE_REQUEST (R528). -/
  | retentionRestoreRequest (l : LaneId) (from' : LaneId) (bank : Nat)
  /-- MXIN_LOSS (R535). -/
  | mxinLoss
deriving DecidableEq, Repr

end Sys2Proof
end

