-- ==== Sys2Proof/Config.lean ====
section
/-! DEFINITION. What the manual leaves open and what each implementation fixes: uninterpreted functions with no body,
so that no proof can see a value of theirs. Each is named in the assumption log. -/

namespace Sys2Proof

/-- A measured value the manual gives no number for (a sensor, a monitor, a duration), by identifier of the parameter
and by the number of the draw (log 5). -/
opaque Config.measured : Nat → Nat → Nat

/-- A value set when a chip is made, by identifier of the parameter: it never changes (R80; log 5). -/
opaque Config.made : Nat → Nat

/-- A free value by the rule's number and the number of the draw, where a rule leaves a result open (log 6). -/
opaque Config.free : Nat → Nat → Nat

/-- Which lines of a lane die's memory are MRAM and so outlive a reset: the spec gives no address map (R462, log 64). -/
opaque Config.mramLine : Nat → Bool

/-- A free exact value by the rule's number and the number of the draw (log 6). -/
opaque Config.freeRat : Nat → Nat → Rat

/-- The scale from the demodulated current in amperes to the PLL's input while HFI is the source; R196 states none (log 6). -/
opaque Config.hfiScale : Rat

/-- The verdict of a signature: public key, signed bytes, signature (R542, R549, RFC 8391; log 8). -/
opaque Config.sigOk : List Byte → List Byte → List Byte → Bool

/-- A vendor public key of the boot ROM, by index 0 to 3 (R542; log 8). -/
opaque Config.vendorKey : Nat → List Byte

/-- A number a cartridge manifest holds: 0 serial, 1 type code, 2 anchor index, 3 to 6 budgets, 7 to 10 counters; R552 names
the fields and gives no layout (log 37). -/
opaque Config.manifest : Nat → List (BitVec 8) → Nat

/-- A factor of a manifest: 0 screw ratio, 1 lead, 2 μ·r factor, 3 cycle force (R552, R555; log 37). -/
opaque Config.manifestRat : Nat → List (BitVec 8) → Rat

/-- A part of a manifest: 0 winding section, 1 static part, 2 certificate, 3 the bytes it signs, 4 tag key (R552; log 37). -/
opaque Config.manifestPart : Nat → List (BitVec 8) → List (BitVec 8)

/-- The parts of a tag's answer to a challenge: 0 the signed bytes, 1 the signature (R553; log 37). -/
opaque Config.tagAnswer : Nat → List (BitVec 8) → List (BitVec 8)

/-- A counter as a tag's answer shows it (R553; log 37). -/
opaque Config.tagCounter : List (BitVec 8) → Nat → Nat

end Sys2Proof
end

