-- ==== Sys2Proof/Machine/ParamTable.lean ====
section
/-! DEFINITION. The parameter maps of the manual as data: one descriptor per row of every parameter map, with the
row's block, index, width, access code, permitted values, instances and reset value (R8, R9, R11). Each group of
descriptors stands under the rule that states its map. -/

namespace Sys2Proof.Machine

/-- The kinds of region (R7, R15). -/
inductive RegionKind
  | lane | power | m | s | every
deriving DecidableEq, Repr

/-- The access codes of R11. -/
inductive Access
  | ro | rw | rws | w1c | rc | wo
deriving DecidableEq, Repr

/-- The values a write may carry (R64): any of the width, a span, a span or one more value, listed values, or two
bytes each in a span. -/
inductive PRange
  | any
  | span (lo hi : Nat)
  | spanOr (lo hi extra : Nat)
  | oneOf (vs : List Nat)
  | bytes2 (lo hi : Nat)
deriving DecidableEq, Repr

/-- One row of a parameter map. `lo` and `hi` bound the instances; `span` counts the consecutive index values over
which instances above 255 spread (R262, R287); `nonvol` marks a value kept in non-volatile memory. -/
structure PDesc where
  name : String
  kind : RegionKind
  block : Nat
  index : Nat
  width : Nat
  acc : Access
  lo : Nat := 0
  hi : Nat := 0
  range : PRange := .any
  reset : Nat := 0
  span : Nat := 1
  nonvol : Bool := false
deriving DecidableEq, Repr

end Sys2Proof.Machine

namespace Sys2Proof.Machine.Par

/-! WBE, every lane die: R79 of spec/02_waybills_and_host_ports.md. -/

def WBE_FORMAT_VERSION : PDesc := { name := "WBE.FORMAT_VERSION", kind := .lane, block := 0x1, index := 0x1, width := 8, acc := .ro, reset := 2 }
def WBE_DUP_HOLD : PDesc := { name := "WBE.DUP_HOLD", kind := .lane, block := 0x1, index := 0x2, width := 16, acc := .rw, range := .span 50 5000, reset := 500 }
def WBE_CONSIST_IDLE : PDesc := { name := "WBE.CONSIST_IDLE", kind := .lane, block := 0x1, index := 0x3, width := 16, acc := .rw, range := .span 10 10000, reset := 500 }
def WBE_OPEN_CONSISTS : PDesc := { name := "WBE.OPEN_CONSISTS", kind := .lane, block := 0x1, index := 0x4, width := 3, acc := .ro }
def WBE_CYCLE_NOW : PDesc := { name := "WBE.CYCLE_NOW", kind := .lane, block := 0x1, index := 0x5, width := 32, acc := .ro }
def WBE_COMMIT_HORIZON : PDesc := { name := "WBE.COMMIT_HORIZON", kind := .lane, block := 0x1, index := 0x6, width := 32, acc := .rw, range := .span 1 2147483647, reset := 60000 }
def WBE_COMMIT_QUEUE : PDesc := { name := "WBE.COMMIT_QUEUE", kind := .lane, block := 0x1, index := 0x7, width := 7, acc := .ro }
def WBE_CNT_RX : PDesc := { name := "WBE.CNT_RX", kind := .lane, block := 0x1, index := 0x10, width := 32, acc := .rc, lo := 0, hi := 5 }
def WBE_CNT_ERR : PDesc := { name := "WBE.CNT_ERR", kind := .lane, block := 0x1, index := 0x11, width := 32, acc := .rc, lo := 0, hi := 5 }
def WBE_CNT_DUP : PDesc := { name := "WBE.CNT_DUP", kind := .lane, block := 0x1, index := 0x12, width := 32, acc := .rc, lo := 0, hi := 5 }
def WBE_CNT_DROP : PDesc := { name := "WBE.CNT_DROP", kind := .lane, block := 0x1, index := 0x13, width := 32, acc := .rc, lo := 0, hi := 5 }
def WBE_LAST_ERR : PDesc := { name := "WBE.LAST_ERR", kind := .lane, block := 0x1, index := 0x14, width := 32, acc := .ro }
def WBE_CNT_CONSIST_DISCARD : PDesc := { name := "WBE.CNT_CONSIST_DISCARD", kind := .lane, block := 0x1, index := 0x15, width := 16, acc := .rc }
def WBE_CFG_DIGEST : PDesc := { name := "WBE.CFG_DIGEST", kind := .lane, block := 0x1, index := 0x20, width := 64, acc := .ro }

/-- The rows of this map, in table order. -/
def laneWBEMap : List PDesc :=
  [WBE_FORMAT_VERSION, WBE_DUP_HOLD, WBE_CONSIST_IDLE, WBE_OPEN_CONSISTS, WBE_CYCLE_NOW, WBE_COMMIT_HORIZON, WBE_COMMIT_QUEUE, WBE_CNT_RX, WBE_CNT_ERR, WBE_CNT_DUP, WBE_CNT_DROP, WBE_LAST_ERR] ++
  [WBE_CNT_CONSIST_DISCARD, WBE_CFG_DIGEST]

/-! HST, every lane die: R80 of spec/02_waybills_and_host_ports.md. -/

def HST_PORT_EN : PDesc := { name := "HST.PORT_EN", kind := .lane, block := 0x2, index := 0x1, width := 4, acc := .rws, reset := 7 }
def HST_SPI_MODE : PDesc := { name := "HST.SPI_MODE", kind := .lane, block := 0x2, index := 0x2, width := 1, acc := .rws }
def HST_T1_ROLE : PDesc := { name := "HST.T1_ROLE", kind := .lane, block := 0x2, index := 0x10, width := 1, acc := .rws }
def HST_IP_ADDR : PDesc := { name := "HST.IP_ADDR", kind := .lane, block := 0x2, index := 0x11, width := 32, acc := .rws }
def HST_IP_MASK : PDesc := { name := "HST.IP_MASK", kind := .lane, block := 0x2, index := 0x12, width := 32, acc := .rws, reset := 4294967040 }
def HST_MAC_ADDR : PDesc := { name := "HST.MAC_ADDR", kind := .lane, block := 0x2, index := 0x13, width := 48, acc := .ro }
def HST_UDP_PORT : PDesc := { name := "HST.UDP_PORT", kind := .lane, block := 0x2, index := 0x14, width := 16, acc := .ro, reset := 48011 }
def HST_CAN0_NBR : PDesc := { name := "HST.CAN0_NBR", kind := .lane, block := 0x2, index := 0x20, width := 16, acc := .rws, range := .span 125 1000, reset := 500 }
def HST_CAN0_DBR : PDesc := { name := "HST.CAN0_DBR", kind := .lane, block := 0x2, index := 0x21, width := 16, acc := .rws, range := .span 125 5000, reset := 2000 }
def HST_CAN0_SP : PDesc := { name := "HST.CAN0_SP", kind := .lane, block := 0x2, index := 0x22, width := 16, acc := .rws, range := .bytes2 50 90, reset := 19280 }
def HST_CAN0_REQ_ID : PDesc := { name := "HST.CAN0_REQ_ID", kind := .lane, block := 0x2, index := 0x23, width := 11, acc := .rws, reset := 1600 }
def HST_CAN0_RPL_ID : PDesc := { name := "HST.CAN0_RPL_ID", kind := .lane, block := 0x2, index := 0x24, width := 11, acc := .rws, reset := 1601 }
def HST_ISO_NAME : PDesc := { name := "HST.ISO_NAME", kind := .lane, block := 0x2, index := 0x30, width := 64, acc := .rws }
def HST_ISO_SA : PDesc := { name := "HST.ISO_SA", kind := .lane, block := 0x2, index := 0x31, width := 8, acc := .rws, reset := 254 }
def HST_ISO_STATE : PDesc := { name := "HST.ISO_STATE", kind := .lane, block := 0x2, index := 0x32, width := 2, acc := .ro }
def HST_CNT_SEG_ERR : PDesc := { name := "HST.CNT_SEG_ERR", kind := .lane, block := 0x2, index := 0x40, width := 16, acc := .rc }
def HST_CNT_BUSOFF : PDesc := { name := "HST.CNT_BUSOFF", kind := .lane, block := 0x2, index := 0x41, width := 16, acc := .rc }
def HST_CNT_UDP_DROP : PDesc := { name := "HST.CNT_UDP_DROP", kind := .lane, block := 0x2, index := 0x42, width := 16, acc := .rc }
def HST_CNT_SPI_OVR : PDesc := { name := "HST.CNT_SPI_OVR", kind := .lane, block := 0x2, index := 0x43, width := 16, acc := .rc }
def HST_CNT_ISO_RPL_DROP : PDesc := { name := "HST.CNT_ISO_RPL_DROP", kind := .lane, block := 0x2, index := 0x44, width := 16, acc := .rc }

/-- The rows of this map, in table order. -/
def laneHSTMap : List PDesc :=
  [HST_PORT_EN, HST_SPI_MODE, HST_T1_ROLE, HST_IP_ADDR, HST_IP_MASK, HST_MAC_ADDR, HST_UDP_PORT, HST_CAN0_NBR, HST_CAN0_DBR, HST_CAN0_SP, HST_CAN0_REQ_ID, HST_CAN0_RPL_ID] ++
  [HST_ISO_NAME, HST_ISO_SA, HST_ISO_STATE, HST_CNT_SEG_ERR, HST_CNT_BUSOFF, HST_CNT_UDP_DROP, HST_CNT_SPI_OVR, HST_CNT_ISO_RPL_DROP]

/-! VOT, every lane die: R108 of spec/03_lane_agreement.md. -/

def VOT_WINDOW : PDesc := { name := "VOT.WINDOW", kind := .lane, block := 0x1a, index := 0x1, width := 2, acc := .rws, range := .span 1 3, reset := 2 }
def VOT_VOTE_CUTOFF : PDesc := { name := "VOT.VOTE_CUTOFF", kind := .lane, block := 0x1a, index := 0x2, width := 8, acc := .rws, range := .span 5 200, reset := 20 }
def VOT_DUAL_ONE_COPY : PDesc := { name := "VOT.DUAL_ONE_COPY", kind := .lane, block := 0x1a, index := 0x3, width := 1, acc := .rws }
def VOT_AGREED_HOLD : PDesc := { name := "VOT.AGREED_HOLD", kind := .lane, block := 0x1a, index := 0x4, width := 16, acc := .rws, range := .span 10 10000, reset := 100 }
def VOT_NET_LIMIT : PDesc := { name := "VOT.NET_LIMIT", kind := .lane, block := 0x1a, index := 0x5, width := 8, acc := .rws, range := .span 1 255, reset := 3 }
def VOT_NET_WINDOW : PDesc := { name := "VOT.NET_WINDOW", kind := .lane, block := 0x1a, index := 0x6, width := 16, acc := .rws, range := .span 10 65535, reset := 1000 }
def VOT_NET_STATE : PDesc := { name := "VOT.NET_STATE", kind := .lane, block := 0x1a, index := 0x7, width := 3, acc := .ro }
def VOT_STATE : PDesc := { name := "VOT.STATE", kind := .lane, block := 0x1a, index := 0x8, width := 2, acc := .ro }
def VOT_DIGEST : PDesc := { name := "VOT.DIGEST", kind := .lane, block := 0x1a, index := 0x9, width := 64, acc := .ro }
def VOT_CNT_AGREED : PDesc := { name := "VOT.CNT_AGREED", kind := .lane, block := 0x1a, index := 0x10, width := 32, acc := .rc }
def VOT_CNT_FAILED : PDesc := { name := "VOT.CNT_FAILED", kind := .lane, block := 0x1a, index := 0x11, width := 32, acc := .rc }
def VOT_CNT_MINORITY : PDesc := { name := "VOT.CNT_MINORITY", kind := .lane, block := 0x1a, index := 0x12, width := 16, acc := .rc, lo := 1, hi := 3 }
def VOT_CNT_LATE : PDesc := { name := "VOT.CNT_LATE", kind := .lane, block := 0x1a, index := 0x13, width := 16, acc := .rc, lo := 1, hi := 3 }
def VOT_AN_SRC : PDesc := { name := "VOT.AN_SRC", kind := .lane, block := 0x1a, index := 0x20, width := 32, acc := .rws, lo := 0, hi := 7 }
def VOT_AN_REF : PDesc := { name := "VOT.AN_REF", kind := .lane, block := 0x1a, index := 0x21, width := 32, acc := .rws, lo := 0, hi := 7 }
def VOT_AN_DIFF : PDesc := { name := "VOT.AN_DIFF", kind := .lane, block := 0x1a, index := 0x22, width := 32, acc := .rws, lo := 0, hi := 7 }
def VOT_AN_OBS_TOL : PDesc := { name := "VOT.AN_OBS_TOL", kind := .lane, block := 0x1a, index := 0x23, width := 32, acc := .rws, lo := 0, hi := 7 }
def VOT_AN_PERSIST : PDesc := { name := "VOT.AN_PERSIST", kind := .lane, block := 0x1a, index := 0x24, width := 4, acc := .rws, lo := 0, hi := 7, range := .span 1 15, reset := 3 }
def VOT_AN_VALUE : PDesc := { name := "VOT.AN_VALUE", kind := .lane, block := 0x1a, index := 0x25, width := 32, acc := .ro, lo := 0, hi := 7 }
def VOT_AN_STATE : PDesc := { name := "VOT.AN_STATE", kind := .lane, block := 0x1a, index := 0x26, width := 16, acc := .ro, lo := 0, hi := 7 }
def VOT_DI_SRC : PDesc := { name := "VOT.DI_SRC", kind := .lane, block := 0x1a, index := 0x30, width := 32, acc := .rws, lo := 0, hi := 31 }
def VOT_DI_BIT : PDesc := { name := "VOT.DI_BIT", kind := .lane, block := 0x1a, index := 0x31, width := 5, acc := .rws, lo := 0, hi := 31 }
def VOT_DI_SAFE : PDesc := { name := "VOT.DI_SAFE", kind := .lane, block := 0x1a, index := 0x32, width := 1, acc := .rws, lo := 0, hi := 31 }
def VOT_DI_PERSIST : PDesc := { name := "VOT.DI_PERSIST", kind := .lane, block := 0x1a, index := 0x33, width := 4, acc := .rws, lo := 0, hi := 31, range := .span 1 15, reset := 3 }
def VOT_DI_VALUE : PDesc := { name := "VOT.DI_VALUE", kind := .lane, block := 0x1a, index := 0x34, width := 32, acc := .ro }
def VOT_DI_FAILED : PDesc := { name := "VOT.DI_FAILED", kind := .lane, block := 0x1a, index := 0x35, width := 32, acc := .ro, lo := 1, hi := 3 }

/-- The rows of this map, in table order. -/
def laneVOTMap : List PDesc :=
  [VOT_WINDOW, VOT_VOTE_CUTOFF, VOT_DUAL_ONE_COPY, VOT_AGREED_HOLD, VOT_NET_LIMIT, VOT_NET_WINDOW, VOT_NET_STATE, VOT_STATE, VOT_DIGEST, VOT_CNT_AGREED, VOT_CNT_FAILED, VOT_CNT_MINORITY] ++
  [VOT_CNT_LATE, VOT_AN_SRC, VOT_AN_REF, VOT_AN_DIFF, VOT_AN_OBS_TOL, VOT_AN_PERSIST, VOT_AN_VALUE, VOT_AN_STATE, VOT_DI_SRC, VOT_DI_BIT, VOT_DI_SAFE, VOT_DI_PERSIST] ++
  [VOT_DI_VALUE, VOT_DI_FAILED]

/-! XLK, every lane die: R109 of spec/03_lane_agreement.md. -/

def XLK_LINK_STATE : PDesc := { name := "XLK.LINK_STATE", kind := .lane, block := 0x4, index := 0x1, width := 2, acc := .ro, lo := 1, hi := 8 }
def XLK_DOWN_LIMIT : PDesc := { name := "XLK.DOWN_LIMIT", kind := .lane, block := 0x4, index := 0x2, width := 4, acc := .rws, range := .span 1 8, reset := 2 }
def XLK_HEARD : PDesc := { name := "XLK.HEARD", kind := .lane, block := 0x4, index := 0x3, width := 5, acc := .ro }
def XLK_CNT_CRC : PDesc := { name := "XLK.CNT_CRC", kind := .lane, block := 0x4, index := 0x10, width := 32, acc := .rc, lo := 1, hi := 8 }
def XLK_CNT_RESEND : PDesc := { name := "XLK.CNT_RESEND", kind := .lane, block := 0x4, index := 0x11, width := 32, acc := .rc, lo := 1, hi := 8 }
def XLK_CNT_MSG_LOST : PDesc := { name := "XLK.CNT_MSG_LOST", kind := .lane, block := 0x4, index := 0x12, width := 16, acc := .rc, lo := 1, hi := 8 }
def XLK_CNT_MISSING : PDesc := { name := "XLK.CNT_MISSING", kind := .lane, block := 0x4, index := 0x13, width := 32, acc := .rc, lo := 1, hi := 8 }
def XLK_CNT_RETRAIN : PDesc := { name := "XLK.CNT_RETRAIN", kind := .lane, block := 0x4, index := 0x14, width := 16, acc := .rc, lo := 1, hi := 8 }

/-- The rows of this map, in table order. -/
def laneXLKMap : List PDesc :=
  [XLK_LINK_STATE, XLK_DOWN_LIMIT, XLK_HEARD, XLK_CNT_CRC, XLK_CNT_RESEND, XLK_CNT_MSG_LOST, XLK_CNT_MISSING, XLK_CNT_RETRAIN]

/-! STF, every lane die: R133 of spec/04_staff_and_authority.md. -/

def STF_LEASE : PDesc := { name := "STF.LEASE", kind := .lane, block := 0x3, index := 0x1, width := 6, acc := .rws, range := .span 2 50, reset := 10 }
def STF_SHADOW_TIME : PDesc := { name := "STF.SHADOW_TIME", kind := .lane, block := 0x3, index := 0x2, width := 16, acc := .rws, range := .span 1000 60000, reset := 1000 }
def STF_HOLDER : PDesc := { name := "STF.HOLDER", kind := .lane, block := 0x3, index := 0x3, width := 4, acc := .ro }
def STF_EPOCH : PDesc := { name := "STF.EPOCH", kind := .lane, block := 0x3, index := 0x4, width := 32, acc := .ro }
def STF_STATE : PDesc := { name := "STF.STATE", kind := .lane, block := 0x3, index := 0x5, width := 3, acc := .ro, reset := 4 }
def STF_LEASE_LEFT : PDesc := { name := "STF.LEASE_LEFT", kind := .lane, block := 0x3, index := 0x6, width := 16, acc := .ro }
def STF_CLAIM_WAIT : PDesc := { name := "STF.CLAIM_WAIT", kind := .lane, block := 0x3, index := 0x7, width := 16, acc := .ro }
def STF_XFER_LAST : PDesc := { name := "STF.XFER_LAST", kind := .lane, block := 0x3, index := 0x8, width := 16, acc := .ro }
def STF_LAST_HANDOVER : PDesc := { name := "STF.LAST_HANDOVER", kind := .lane, block := 0x3, index := 0x9, width := 64, acc := .ro }
def STF_CNT_HANDOVER : PDesc := { name := "STF.CNT_HANDOVER", kind := .lane, block := 0x3, index := 0x10, width := 16, acc := .rc }
def STF_CNT_DENIED : PDesc := { name := "STF.CNT_DENIED", kind := .lane, block := 0x3, index := 0x11, width := 16, acc := .rc }
def STF_CNT_GRANT_MISS : PDesc := { name := "STF.CNT_GRANT_MISS", kind := .lane, block := 0x3, index := 0x12, width := 16, acc := .rc }
def STF_CNT_XFER_FAIL : PDesc := { name := "STF.CNT_XFER_FAIL", kind := .lane, block := 0x3, index := 0x13, width := 8, acc := .rc }
def STF_CNT_SHADOW_FAIL : PDesc := { name := "STF.CNT_SHADOW_FAIL", kind := .lane, block := 0x3, index := 0x14, width := 8, acc := .rc }

/-- The rows of this map, in table order. -/
def laneSTFMap : List PDesc :=
  [STF_LEASE, STF_SHADOW_TIME, STF_HOLDER, STF_EPOCH, STF_STATE, STF_LEASE_LEFT, STF_CLAIM_WAIT, STF_XFER_LAST, STF_LAST_HANDOVER, STF_CNT_HANDOVER, STF_CNT_DENIED, STF_CNT_GRANT_MISS] ++
  [STF_CNT_XFER_FAIL, STF_CNT_SHADOW_FAIL]

/-! STF, S: R134 of spec/04_staff_and_authority.md. -/

def S_STF_HOLDER : PDesc := { name := "STF.HOLDER", kind := .s, block := 0x3, index := 0x3, width := 4, acc := .ro }
def S_STF_EPOCH : PDesc := { name := "STF.EPOCH", kind := .s, block := 0x3, index := 0x4, width := 32, acc := .ro }
def S_STF_LEASE_LEFT : PDesc := { name := "STF.LEASE_LEFT", kind := .s, block := 0x3, index := 0x6, width := 16, acc := .ro }
def S_STF_EXCLUDED : PDesc := { name := "STF.EXCLUDED", kind := .s, block := 0x3, index := 0x20, width := 3, acc := .ro, reset := 7 }
def S_STF_CNT_EXPIRY : PDesc := { name := "STF.CNT_EXPIRY", kind := .s, block := 0x3, index := 0x21, width := 16, acc := .rc }
def S_STF_CNT_EXCLUDE : PDesc := { name := "STF.CNT_EXCLUDE", kind := .s, block := 0x3, index := 0x22, width := 16, acc := .rc, lo := 1, hi := 3 }
def S_STF_CNT_CLAIM_HELD : PDesc := { name := "STF.CNT_CLAIM_HELD", kind := .s, block := 0x3, index := 0x23, width := 16, acc := .rc }

/-- The rows of this map, in table order. -/
def sSTFMap : List PDesc :=
  [S_STF_HOLDER, S_STF_EPOCH, S_STF_LEASE_LEFT, S_STF_EXCLUDED, S_STF_CNT_EXPIRY, S_STF_CNT_EXCLUDE, S_STF_CNT_CLAIM_HELD]

/-! LSC, every lane die: R149 of spec/05_lockstep_pair.md. -/

def LSC_STATE : PDesc := { name := "LSC.STATE", kind := .lane, block := 0x5, index := 0x1, width := 2, acc := .ro }
def LSC_DELAY : PDesc := { name := "LSC.DELAY", kind := .lane, block := 0x5, index := 0x2, width := 2, acc := .ro, reset := 2 }
def LSC_INJ_RESULT : PDesc := { name := "LSC.INJ_RESULT", kind := .lane, block := 0x5, index := 0x3, width := 2, acc := .ro }
def LSC_INJ_FAIL_GROUP : PDesc := { name := "LSC.INJ_FAIL_GROUP", kind := .lane, block := 0x5, index := 0x4, width := 10, acc := .ro, reset := 1023 }
def LSC_INJ_DURATION : PDesc := { name := "LSC.INJ_DURATION", kind := .lane, block := 0x5, index := 0x5, width := 16, acc := .ro }
def LSC_LAST_GROUP : PDesc := { name := "LSC.LAST_GROUP", kind := .lane, block := 0x5, index := 0x10, width := 10, acc := .ro, reset := 1023, nonvol := true }
def LSC_LAST_MAP : PDesc := { name := "LSC.LAST_MAP", kind := .lane, block := 0x5, index := 0x11, width := 32, acc := .ro, lo := 0, hi := 15, nonvol := true }
def LSC_LAST_CYCLE : PDesc := { name := "LSC.LAST_CYCLE", kind := .lane, block := 0x5, index := 0x12, width := 32, acc := .ro, nonvol := true }
def LSC_LAST_TICK : PDesc := { name := "LSC.LAST_TICK", kind := .lane, block := 0x5, index := 0x13, width := 32, acc := .ro, nonvol := true }
def LSC_SYNC_DIFF_LIMIT : PDesc := { name := "LSC.SYNC_DIFF_LIMIT", kind := .lane, block := 0x5, index := 0x20, width := 8, acc := .rws, range := .span 2 255, reset := 16 }
def LSC_CNT_SYNC_DIFF : PDesc := { name := "LSC.CNT_SYNC_DIFF", kind := .lane, block := 0x5, index := 0x21, width := 32, acc := .rc }
def LSC_SYNC_DIFF_INPUT : PDesc := { name := "LSC.SYNC_DIFF_INPUT", kind := .lane, block := 0x5, index := 0x22, width := 6, acc := .ro }
def LSC_CNT_MISMATCH : PDesc := { name := "LSC.CNT_MISMATCH", kind := .lane, block := 0x5, index := 0x30, width := 16, acc := .ro, nonvol := true }

/-- The rows of this map, in table order. -/
def laneLSCMap : List PDesc :=
  [LSC_STATE, LSC_DELAY, LSC_INJ_RESULT, LSC_INJ_FAIL_GROUP, LSC_INJ_DURATION, LSC_LAST_GROUP, LSC_LAST_MAP, LSC_LAST_CYCLE, LSC_LAST_TICK, LSC_SYNC_DIFF_LIMIT, LSC_CNT_SYNC_DIFF, LSC_SYNC_DIFF_INPUT] ++
  [LSC_CNT_MISMATCH]

/-! CMT, every lane die: R181 of spec/06_winding_drive.md. -/

def CMT_STATE : PDesc := { name := "CMT.STATE", kind := .lane, block := 0x10, index := 0x1, width := 3, acc := .ro, lo := 0, hi := 5 }
def CMT_PWM_PERIOD : PDesc := { name := "CMT.PWM_PERIOD", kind := .lane, block := 0x10, index := 0x2, width := 18, acc := .rws, lo := 0, hi := 5, range := .span 20000 200000, reset := 40000 }
def CMT_PWM_PHASE : PDesc := { name := "CMT.PWM_PHASE", kind := .lane, block := 0x10, index := 0x3, width := 18, acc := .rws }
def CMT_UPDATE : PDesc := { name := "CMT.UPDATE", kind := .lane, block := 0x10, index := 0x4, width := 1, acc := .rws, lo := 0, hi := 5 }
def CMT_SENSE_MODE : PDesc := { name := "CMT.SENSE_MODE", kind := .lane, block := 0x10, index := 0x5, width := 1, acc := .rws, lo := 0, hi := 5 }
def CMT_SAMPLE_WIN : PDesc := { name := "CMT.SAMPLE_WIN", kind := .lane, block := 0x10, index := 0x6, width := 12, acc := .rws, lo := 0, hi := 5, range := .span 400 3000, reset := 1200 }
def CMT_SHIFT_MAX : PDesc := { name := "CMT.SHIFT_MAX", kind := .lane, block := 0x10, index := 0x7, width := 13, acc := .rws, lo := 0, hi := 5, range := .span 0 4000, reset := 4000 }
def CMT_THIRD_HARM : PDesc := { name := "CMT.THIRD_HARM", kind := .lane, block := 0x10, index := 0x8, width := 1, acc := .rws, lo := 0, hi := 5 }
def CMT_DT_COMP : PDesc := { name := "CMT.DT_COMP", kind := .lane, block := 0x10, index := 0x9, width := 1, acc := .rws, lo := 0, hi := 5 }
def CMT_CART : PDesc := { name := "CMT.CART", kind := .lane, block := 0x10, index := 0xa, width := 4, acc := .rws, lo := 0, hi := 5, range := .spanOr 0 7 15, reset := 15 }
def CMT_POLE_PAIRS : PDesc := { name := "CMT.POLE_PAIRS", kind := .lane, block := 0x10, index := 0xb, width := 4, acc := .rws, lo := 0, hi := 5, range := .span 1 15 }
def CMT_I_FS : PDesc := { name := "CMT.I_FS", kind := .lane, block := 0x10, index := 0x10, width := 32, acc := .rws, lo := 0, hi := 5, reset := 100000 }
def CMT_I_CONT : PDesc := { name := "CMT.I_CONT", kind := .lane, block := 0x10, index := 0x11, width := 32, acc := .rws, lo := 0, hi := 5 }
def CMT_ID_REF : PDesc := { name := "CMT.ID_REF", kind := .lane, block := 0x10, index := 0x12, width := 32, acc := .rws, lo := 0, hi := 5 }
def CMT_RS : PDesc := { name := "CMT.RS", kind := .lane, block := 0x10, index := 0x13, width := 32, acc := .rws, lo := 0, hi := 5 }
def CMT_LD : PDesc := { name := "CMT.LD", kind := .lane, block := 0x10, index := 0x14, width := 32, acc := .rws, lo := 0, hi := 5 }
def CMT_LQ : PDesc := { name := "CMT.LQ", kind := .lane, block := 0x10, index := 0x15, width := 32, acc := .rws, lo := 0, hi := 5 }
def CMT_PSI : PDesc := { name := "CMT.PSI", kind := .lane, block := 0x10, index := 0x16, width := 32, acc := .rws, lo := 0, hi := 5 }
def CMT_CPL_LD : PDesc := { name := "CMT.CPL_LD", kind := .lane, block := 0x10, index := 0x20, width := 32, acc := .rws, lo := 0, hi := 11 }
def CMT_CPL_LQ : PDesc := { name := "CMT.CPL_LQ", kind := .lane, block := 0x10, index := 0x21, width := 32, acc := .rws, lo := 0, hi := 11 }
def CMT_SET_OFFSET : PDesc := { name := "CMT.SET_OFFSET", kind := .lane, block := 0x10, index := 0x22, width := 16, acc := .rws, lo := 0, hi := 11 }
def CMT_CPL_ANG_TOL : PDesc := { name := "CMT.CPL_ANG_TOL", kind := .lane, block := 0x10, index := 0x23, width := 16, acc := .rws, reset := 1456 }
def CMT_TQ_SRC : PDesc := { name := "CMT.TQ_SRC", kind := .lane, block := 0x10, index := 0x24, width := 32, acc := .rws, lo := 0, hi := 5 }
def CMT_SHARE_RAMP : PDesc := { name := "CMT.SHARE_RAMP", kind := .lane, block := 0x10, index := 0x30, width := 8, acc := .rws, range := .span 1 255, reset := 8 }
def CMT_SHORT_MARGIN : PDesc := { name := "CMT.SHORT_MARGIN", kind := .lane, block := 0x10, index := 0x31, width := 7, acc := .rws, range := .span 50 100, reset := 90 }
def CMT_VDC_MIN : PDesc := { name := "CMT.VDC_MIN", kind := .lane, block := 0x10, index := 0x32, width := 16, acc := .rws, reset := 6000 }
def CMT_INVALID_LIMIT : PDesc := { name := "CMT.INVALID_LIMIT", kind := .lane, block := 0x10, index := 0x33, width := 4, acc := .rws, range := .span 1 15, reset := 3 }
def CMT_STOP_RAMP : PDesc := { name := "CMT.STOP_RAMP", kind := .lane, block := 0x10, index := 0x34, width := 16, acc := .rws, range := .span 1 5000, reset := 50 }
def CMT_SHARE : PDesc := { name := "CMT.SHARE", kind := .lane, block := 0x10, index := 0x40, width := 17, acc := .ro, lo := 0, hi := 5 }
def CMT_VDC : PDesc := { name := "CMT.VDC", kind := .lane, block := 0x10, index := 0x41, width := 16, acc := .ro, lo := 0, hi := 5 }
def CMT_I_DQ : PDesc := { name := "CMT.I_DQ", kind := .lane, block := 0x10, index := 0x42, width := 32, acc := .ro, lo := 0, hi := 5 }
def CMT_V_DQ : PDesc := { name := "CMT.V_DQ", kind := .lane, block := 0x10, index := 0x43, width := 32, acc := .ro, lo := 0, hi := 5 }
def CMT_V_MAG : PDesc := { name := "CMT.V_MAG", kind := .lane, block := 0x10, index := 0x44, width := 18, acc := .ro, lo := 0, hi := 5 }
def CMT_DUTY : PDesc := { name := "CMT.DUTY", kind := .lane, block := 0x10, index := 0x45, width := 16, acc := .ro, lo := 0, hi := 17 }
def CMT_BOOST_LEFT : PDesc := { name := "CMT.BOOST_LEFT", kind := .lane, block := 0x10, index := 0x46, width := 12, acc := .ro, lo := 0, hi := 5, reset := 2000 }
def CMT_CFG_CRC : PDesc := { name := "CMT.CFG_CRC", kind := .lane, block := 0x10, index := 0x47, width := 32, acc := .ro }
def CMT_LAST_RESCALE : PDesc := { name := "CMT.LAST_RESCALE", kind := .lane, block := 0x10, index := 0x50, width := 64, acc := .ro }
def CMT_CNT_SHIFT : PDesc := { name := "CMT.CNT_SHIFT", kind := .lane, block := 0x10, index := 0x60, width := 32, acc := .rc, lo := 0, hi := 5 }
def CMT_CNT_RECON : PDesc := { name := "CMT.CNT_RECON", kind := .lane, block := 0x10, index := 0x61, width := 32, acc := .rc, lo := 0, hi := 5 }
def CMT_CNT_INVALID : PDesc := { name := "CMT.CNT_INVALID", kind := .lane, block := 0x10, index := 0x62, width := 16, acc := .rc, lo := 0, hi := 5 }
def CMT_CNT_CPL_DROP : PDesc := { name := "CMT.CNT_CPL_DROP", kind := .lane, block := 0x10, index := 0x63, width := 32, acc := .rc, lo := 0, hi := 5 }
def CMT_CNT_VLIMIT : PDesc := { name := "CMT.CNT_VLIMIT", kind := .lane, block := 0x10, index := 0x64, width := 32, acc := .rc, lo := 0, hi := 5 }
def CMT_CNT_RESCALE : PDesc := { name := "CMT.CNT_RESCALE", kind := .lane, block := 0x10, index := 0x65, width := 16, acc := .rc }

/-- The rows of this map, in table order. -/
def laneCMTMap : List PDesc :=
  [CMT_STATE, CMT_PWM_PERIOD, CMT_PWM_PHASE, CMT_UPDATE, CMT_SENSE_MODE, CMT_SAMPLE_WIN, CMT_SHIFT_MAX, CMT_THIRD_HARM, CMT_DT_COMP, CMT_CART, CMT_POLE_PAIRS, CMT_I_FS] ++
  [CMT_I_CONT, CMT_ID_REF, CMT_RS, CMT_LD, CMT_LQ, CMT_PSI, CMT_CPL_LD, CMT_CPL_LQ, CMT_SET_OFFSET, CMT_CPL_ANG_TOL, CMT_TQ_SRC, CMT_SHARE_RAMP] ++
  [CMT_SHORT_MARGIN, CMT_VDC_MIN, CMT_INVALID_LIMIT, CMT_STOP_RAMP, CMT_SHARE, CMT_VDC, CMT_I_DQ, CMT_V_DQ, CMT_V_MAG, CMT_DUTY, CMT_BOOST_LEFT, CMT_CFG_CRC] ++
  [CMT_LAST_RESCALE, CMT_CNT_SHIFT, CMT_CNT_RECON, CMT_CNT_INVALID, CMT_CNT_CPL_DROP, CMT_CNT_VLIMIT, CMT_CNT_RESCALE]

/-! OBS, every lane die: R202 of spec/07_rotor_position.md. -/

def OBS_STATE : PDesc := { name := "OBS.STATE", kind := .lane, block := 0x11, index := 0x1, width := 4, acc := .ro, lo := 0, hi := 5 }
def OBS_ENC_SRC : PDesc := { name := "OBS.ENC_SRC", kind := .lane, block := 0x11, index := 0x2, width := 4, acc := .rws, lo := 0, hi := 5, range := .spanOr 0 7 15, reset := 15 }
def OBS_ENC_CPR : PDesc := { name := "OBS.ENC_CPR", kind := .lane, block := 0x11, index := 0x3, width := 32, acc := .rws, lo := 0, hi := 5 }
def OBS_ENC_OFFSET : PDesc := { name := "OBS.ENC_OFFSET", kind := .lane, block := 0x11, index := 0x4, width := 16, acc := .rws, lo := 0, hi := 5 }
def OBS_ENC_DIR : PDesc := { name := "OBS.ENC_DIR", kind := .lane, block := 0x11, index := 0x5, width := 1, acc := .rws, lo := 0, hi := 5 }
def OBS_W_RATED : PDesc := { name := "OBS.W_RATED", kind := .lane, block := 0x11, index := 0x6, width := 16, acc := .rws, lo := 0, hi := 5 }
def OBS_SENS_BAND : PDesc := { name := "OBS.SENS_BAND", kind := .lane, block := 0x11, index := 0x7, width := 7, acc := .rws, range := .span 10 100, reset := 30 }
def OBS_BAND_HYST : PDesc := { name := "OBS.BAND_HYST", kind := .lane, block := 0x11, index := 0x8, width := 7, acc := .rws, range := .span 5 50, reset := 10 }
def OBS_OBS_MIN : PDesc := { name := "OBS.OBS_MIN", kind := .lane, block := 0x11, index := 0x9, width := 7, acc := .rws, range := .span 5 99, reset := 20 }
def OBS_AGREE_WIN : PDesc := { name := "OBS.AGREE_WIN", kind := .lane, block := 0x11, index := 0xa, width := 16, acc := .rws, reset := 1456 }
def OBS_AGREE_PERSIST : PDesc := { name := "OBS.AGREE_PERSIST", kind := .lane, block := 0x11, index := 0xb, width := 8, acc := .rws, range := .span 1 255, reset := 8 }
def OBS_LOCK_WIN : PDesc := { name := "OBS.LOCK_WIN", kind := .lane, block := 0x11, index := 0xc, width := 16, acc := .rws, reset := 2731 }
def OBS_INNOV_LIM : PDesc := { name := "OBS.INNOV_LIM", kind := .lane, block := 0x11, index := 0xd, width := 16, acc := .rws, lo := 0, hi := 5, reset := 2621 }
def OBS_INNOV_PERSIST : PDesc := { name := "OBS.INNOV_PERSIST", kind := .lane, block := 0x11, index := 0xe, width := 4, acc := .rws, range := .span 1 15, reset := 3 }
def OBS_EMF_GAIN : PDesc := { name := "OBS.EMF_GAIN", kind := .lane, block := 0x11, index := 0x10, width := 16, acc := .rws, lo := 0, hi := 5, reset := 8192 }
def OBS_PLL_BW : PDesc := { name := "OBS.PLL_BW", kind := .lane, block := 0x11, index := 0x11, width := 11, acc := .rws, lo := 0, hi := 5, range := .span 10 2000, reset := 150 }
def OBS_PLL_ZETA : PDesc := { name := "OBS.PLL_ZETA", kind := .lane, block := 0x11, index := 0x12, width := 8, acc := .rws, lo := 0, hi := 5, range := .span 30 200, reset := 71 }
def OBS_EXTRAP_MAX : PDesc := { name := "OBS.EXTRAP_MAX", kind := .lane, block := 0x11, index := 0x13, width := 12, acc := .rws, range := .span 100 2000, reset := 2000 }
def OBS_REACQ : PDesc := { name := "OBS.REACQ", kind := .lane, block := 0x11, index := 0x14, width := 8, acc := .rws, range := .span 4 255, reset := 40 }
def OBS_BLEND : PDesc := { name := "OBS.BLEND", kind := .lane, block := 0x11, index := 0x15, width := 8, acc := .rws, range := .span 1 255, reset := 16 }
def OBS_CAP_EMF_MIN : PDesc := { name := "OBS.CAP_EMF_MIN", kind := .lane, block := 0x11, index := 0x20, width := 16, acc := .rws, lo := 0, hi := 5, reset := 200 }
def OBS_CAP_MAX : PDesc := { name := "OBS.CAP_MAX", kind := .lane, block := 0x11, index := 0x21, width := 13, acc := .rws, range := .span 1000 4000, reset := 4000 }
def OBS_HFI_EN : PDesc := { name := "OBS.HFI_EN", kind := .lane, block := 0x11, index := 0x30, width := 1, acc := .rws, lo := 0, hi := 5 }
def OBS_HFI_FREQ : PDesc := { name := "OBS.HFI_FREQ", kind := .lane, block := 0x11, index := 0x31, width := 11, acc := .ro, reset := 1000 }
def OBS_HFI_AMP : PDesc := { name := "OBS.HFI_AMP", kind := .lane, block := 0x11, index := 0x32, width := 16, acc := .rws, lo := 0, hi := 5, range := .span 50 2000, reset := 200 }
def OBS_LD_HF : PDesc := { name := "OBS.LD_HF", kind := .lane, block := 0x11, index := 0x33, width := 32, acc := .rws, lo := 0, hi := 5 }
def OBS_LQ_HF : PDesc := { name := "OBS.LQ_HF", kind := .lane, block := 0x11, index := 0x34, width := 32, acc := .rws, lo := 0, hi := 5 }
def OBS_POL_AMP : PDesc := { name := "OBS.POL_AMP", kind := .lane, block := 0x11, index := 0x35, width := 7, acc := .rws, lo := 0, hi := 5, range := .span 10 100, reset := 30 }
def OBS_ALIGN_MAX : PDesc := { name := "OBS.ALIGN_MAX", kind := .lane, block := 0x11, index := 0x36, width := 8, acc := .rws, range := .span 10 200, reset := 40 }
def OBS_ANGLE : PDesc := { name := "OBS.ANGLE", kind := .lane, block := 0x11, index := 0x40, width := 16, acc := .ro, lo := 0, hi := 5 }
def OBS_SPEED : PDesc := { name := "OBS.SPEED", kind := .lane, block := 0x11, index := 0x41, width := 32, acc := .ro, lo := 0, hi := 5 }
def OBS_ENC_ANGLE : PDesc := { name := "OBS.ENC_ANGLE", kind := .lane, block := 0x11, index := 0x42, width := 16, acc := .ro, lo := 0, hi := 5 }
def OBS_DIFF : PDesc := { name := "OBS.DIFF", kind := .lane, block := 0x11, index := 0x43, width := 16, acc := .ro, lo := 0, hi := 5 }
def OBS_INNOV : PDesc := { name := "OBS.INNOV", kind := .lane, block := 0x11, index := 0x44, width := 16, acc := .ro, lo := 0, hi := 5 }
def OBS_SRC : PDesc := { name := "OBS.SRC", kind := .lane, block := 0x11, index := 0x45, width := 2, acc := .ro, lo := 0, hi := 5 }
def OBS_ENC_FAILED : PDesc := { name := "OBS.ENC_FAILED", kind := .lane, block := 0x11, index := 0x46, width := 6, acc := .ro }
def OBS_CAP_RESULT : PDesc := { name := "OBS.CAP_RESULT", kind := .lane, block := 0x11, index := 0x47, width := 64, acc := .ro, lo := 0, hi := 5 }
def OBS_LAST_LOCKLOSS : PDesc := { name := "OBS.LAST_LOCKLOSS", kind := .lane, block := 0x11, index := 0x48, width := 64, acc := .ro, lo := 0, hi := 5 }
def OBS_CNT_DISAGREE : PDesc := { name := "OBS.CNT_DISAGREE", kind := .lane, block := 0x11, index := 0x60, width := 16, acc := .rc, lo := 0, hi := 5 }
def OBS_CNT_LOCKLOSS : PDesc := { name := "OBS.CNT_LOCKLOSS", kind := .lane, block := 0x11, index := 0x61, width := 16, acc := .rc, lo := 0, hi := 5 }
def OBS_CNT_EXTRAP : PDesc := { name := "OBS.CNT_EXTRAP", kind := .lane, block := 0x11, index := 0x62, width := 16, acc := .rc, lo := 0, hi := 5 }
def OBS_CNT_HFI : PDesc := { name := "OBS.CNT_HFI", kind := .lane, block := 0x11, index := 0x63, width := 16, acc := .rc, lo := 0, hi := 5 }
def OBS_CNT_CAP_FAIL : PDesc := { name := "OBS.CNT_CAP_FAIL", kind := .lane, block := 0x11, index := 0x64, width := 16, acc := .rc, lo := 0, hi := 5 }

/-- The rows of this map, in table order. -/
def laneOBSMap : List PDesc :=
  [OBS_STATE, OBS_ENC_SRC, OBS_ENC_CPR, OBS_ENC_OFFSET, OBS_ENC_DIR, OBS_W_RATED, OBS_SENS_BAND, OBS_BAND_HYST, OBS_OBS_MIN, OBS_AGREE_WIN, OBS_AGREE_PERSIST, OBS_LOCK_WIN] ++
  [OBS_INNOV_LIM, OBS_INNOV_PERSIST, OBS_EMF_GAIN, OBS_PLL_BW, OBS_PLL_ZETA, OBS_EXTRAP_MAX, OBS_REACQ, OBS_BLEND, OBS_CAP_EMF_MIN, OBS_CAP_MAX, OBS_HFI_EN, OBS_HFI_FREQ] ++
  [OBS_HFI_AMP, OBS_LD_HF, OBS_LQ_HF, OBS_POL_AMP, OBS_ALIGN_MAX, OBS_ANGLE, OBS_SPEED, OBS_ENC_ANGLE, OBS_DIFF, OBS_INNOV, OBS_SRC, OBS_ENC_FAILED] ++
  [OBS_CAP_RESULT, OBS_LAST_LOCKLOSS, OBS_CNT_DISAGREE, OBS_CNT_LOCKLOSS, OBS_CNT_EXTRAP, OBS_CNT_HFI, OBS_CNT_CAP_FAIL]

/-! GDR, every power die: R230 of spec/08_gate_drive_and_protection.md. -/

def GDR_DRV_ON : PDesc := { name := "GDR.DRV_ON", kind := .power, block := 0x20, index := 0x1, width := 3, acc := .rws, lo := 0, hi := 5, range := .span 0 7, reset := 3 }
def GDR_DRV_OFF : PDesc := { name := "GDR.DRV_OFF", kind := .power, block := 0x20, index := 0x2, width := 3, acc := .rws, lo := 0, hi := 5, range := .span 0 7, reset := 3 }
def GDR_DEAD_TIME : PDesc := { name := "GDR.DEAD_TIME", kind := .power, block := 0x20, index := 0x3, width := 12, acc := .rws, lo := 0, hi := 5, range := .span 80 3200, reset := 160 }
def GDR_DESAT_TH : PDesc := { name := "GDR.DESAT_TH", kind := .power, block := 0x20, index := 0x4, width := 4, acc := .rws, lo := 0, hi := 5, reset := 7 }
def GDR_DESAT_BLANK : PDesc := { name := "GDR.DESAT_BLANK", kind := .power, block := 0x20, index := 0x5, width := 7, acc := .rws, lo := 0, hi := 5, range := .span 10 120, reset := 40 }
def GDR_HS_TRIP : PDesc := { name := "GDR.HS_TRIP", kind := .power, block := 0x20, index := 0x6, width := 7, acc := .rws, lo := 0, hi := 5, range := .span 50 100, reset := 90 }
def GDR_PLATEAU : PDesc := { name := "GDR.PLATEAU", kind := .power, block := 0x20, index := 0x7, width := 4, acc := .rws, lo := 0, hi := 5, range := .span 0 10, reset := 6 }
def GDR_STEP1_TIME : PDesc := { name := "GDR.STEP1_TIME", kind := .power, block := 0x20, index := 0x8, width := 5, acc := .rws, lo := 0, hi := 5, range := .span 2 16, reset := 6 }
def GDR_REPEAT_LIMIT : PDesc := { name := "GDR.REPEAT_LIMIT", kind := .power, block := 0x20, index := 0x9, width := 4, acc := .rws, range := .span 1 15, reset := 4 }
def GDR_REPEAT_WIN : PDesc := { name := "GDR.REPEAT_WIN", kind := .power, block := 0x20, index := 0xa, width := 14, acc := .rws, range := .span 10 10000, reset := 100 }
def GDR_PRECHARGE : PDesc := { name := "GDR.PRECHARGE", kind := .power, block := 0x20, index := 0xb, width := 8, acc := .rws, lo := 0, hi := 5, range := .span 20 200, reset := 24 }
def GDR_RELEASE_PERIOD : PDesc := { name := "GDR.RELEASE_PERIOD", kind := .power, block := 0x20, index := 0x10, width := 16, acc := .ro, lo := 0, hi := 5 }
def GDR_STATUS : PDesc := { name := "GDR.STATUS", kind := .power, block := 0x20, index := 0x11, width := 16, acc := .ro, lo := 0, hi := 5 }
def GDR_BOOT_READY : PDesc := { name := "GDR.BOOT_READY", kind := .power, block := 0x20, index := 0x12, width := 18, acc := .ro }
def GDR_VGD : PDesc := { name := "GDR.VGD", kind := .power, block := 0x20, index := 0x13, width := 16, acc := .ro }
def GDR_LATCHED : PDesc := { name := "GDR.LATCHED", kind := .power, block := 0x20, index := 0x14, width := 7, acc := .w1c, lo := 0, hi := 5 }
def GDR_LAST_TRIP : PDesc := { name := "GDR.LAST_TRIP", kind := .power, block := 0x20, index := 0x15, width := 64, acc := .ro, lo := 0, hi := 5 }
def GDR_CMP_RESULT : PDesc := { name := "GDR.CMP_RESULT", kind := .power, block := 0x20, index := 0x16, width := 36, acc := .ro, lo := 0, hi := 5 }
def GDR_CNT_TRIP : PDesc := { name := "GDR.CNT_TRIP", kind := .power, block := 0x20, index := 0x20, width := 16, acc := .rc, lo := 0, hi := 35 }
def GDR_CNT_SHOOT : PDesc := { name := "GDR.CNT_SHOOT", kind := .power, block := 0x20, index := 0x21, width := 16, acc := .rc, lo := 0, hi := 17 }
def GDR_CNT_FLOOR : PDesc := { name := "GDR.CNT_FLOOR", kind := .power, block := 0x20, index := 0x22, width := 32, acc := .rc, lo := 0, hi := 5 }
def GDR_CNT_BOOT_BLOCK : PDesc := { name := "GDR.CNT_BOOT_BLOCK", kind := .power, block := 0x20, index := 0x23, width := 16, acc := .rc, lo := 0, hi := 5 }
def GDR_CNT_LATCH : PDesc := { name := "GDR.CNT_LATCH", kind := .power, block := 0x20, index := 0x24, width := 16, acc := .rc, lo := 0, hi := 5 }
def GDR_CNT_SHORT_REL : PDesc := { name := "GDR.CNT_SHORT_REL", kind := .power, block := 0x20, index := 0x25, width := 16, acc := .rc, lo := 0, hi := 5 }

/-- The rows of this map, in table order. -/
def powerGDRMap : List PDesc :=
  [GDR_DRV_ON, GDR_DRV_OFF, GDR_DEAD_TIME, GDR_DESAT_TH, GDR_DESAT_BLANK, GDR_HS_TRIP, GDR_PLATEAU, GDR_STEP1_TIME, GDR_REPEAT_LIMIT, GDR_REPEAT_WIN, GDR_PRECHARGE, GDR_RELEASE_PERIOD] ++
  [GDR_STATUS, GDR_BOOT_READY, GDR_VGD, GDR_LATCHED, GDR_LAST_TRIP, GDR_CMP_RESULT, GDR_CNT_TRIP, GDR_CNT_SHOOT, GDR_CNT_FLOOR, GDR_CNT_BOOT_BLOCK, GDR_CNT_LATCH, GDR_CNT_SHORT_REL]

/-! ADC, every power die: R231 of spec/08_gate_drive_and_protection.md. -/

def ADC_CS_MODE : PDesc := { name := "ADC.CS_MODE", kind := .power, block := 0x21, index := 0x1, width := 1, acc := .rws, lo := 0, hi := 5 }
def ADC_CS_GAIN : PDesc := { name := "ADC.CS_GAIN", kind := .power, block := 0x21, index := 0x2, width := 2, acc := .rws, lo := 0, hi := 5, reset := 1 }
def ADC_CAL_EN : PDesc := { name := "ADC.CAL_EN", kind := .power, block := 0x21, index := 0x3, width := 1, acc := .rws, reset := 1 }
def ADC_RESULT : PDesc := { name := "ADC.RESULT", kind := .power, block := 0x21, index := 0x10, width := 16, acc := .ro, lo := 0, hi := 41 }
def ADC_OFFSET : PDesc := { name := "ADC.OFFSET", kind := .power, block := 0x21, index := 0x11, width := 16, acc := .ro, lo := 0, hi := 41 }
def ADC_GAIN_ERR : PDesc := { name := "ADC.GAIN_ERR", kind := .power, block := 0x21, index := 0x12, width := 16, acc := .ro, lo := 0, hi := 41 }
def ADC_CAL_AGE : PDesc := { name := "ADC.CAL_AGE", kind := .power, block := 0x21, index := 0x13, width := 16, acc := .ro, lo := 0, hi := 41 }
def ADC_CNT_OVR : PDesc := { name := "ADC.CNT_OVR", kind := .power, block := 0x21, index := 0x20, width := 16, acc := .rc, lo := 0, hi := 41 }
def ADC_CNT_CAL_SKIP : PDesc := { name := "ADC.CNT_CAL_SKIP", kind := .power, block := 0x21, index := 0x21, width := 16, acc := .rc }

/-- The rows of this map, in table order. -/
def powerADCMap : List PDesc :=
  [ADC_CS_MODE, ADC_CS_GAIN, ADC_CAL_EN, ADC_RESULT, ADC_OFFSET, ADC_GAIN_ERR, ADC_CAL_AGE, ADC_CNT_OVR, ADC_CNT_CAL_SKIP]

/-! CEN, every lane die: R262 of spec/09_control_engine.md. -/

def CEN_MODE : PDesc := { name := "CEN.MODE", kind := .lane, block := 0x12, index := 0x1, width := 1, acc := .rws, lo := 0, hi := 47 }
def CEN_TRIG : PDesc := { name := "CEN.TRIG", kind := .lane, block := 0x12, index := 0x2, width := 32, acc := .rws, lo := 0, hi := 47 }
def CEN_SEC_FIRST : PDesc := { name := "CEN.SEC_FIRST", kind := .lane, block := 0x12, index := 0x3, width := 9, acc := .rws, lo := 0, hi := 47 }
def CEN_SEC_NUM : PDesc := { name := "CEN.SEC_NUM", kind := .lane, block := 0x12, index := 0x4, width := 6, acc := .rws, lo := 0, hi := 47 }
def CEN_REF_SRC : PDesc := { name := "CEN.REF_SRC", kind := .lane, block := 0x12, index := 0x5, width := 32, acc := .rws, lo := 0, hi := 47 }
def CEN_REF_K : PDesc := { name := "CEN.REF_K", kind := .lane, block := 0x12, index := 0x6, width := 32, acc := .rws, lo := 0, hi := 47, reset := 1073741824 }
def CEN_REF_E : PDesc := { name := "CEN.REF_E", kind := .lane, block := 0x12, index := 0x7, width := 5, acc := .rws, lo := 0, hi := 47 }
def CEN_FB_SRC : PDesc := { name := "CEN.FB_SRC", kind := .lane, block := 0x12, index := 0x8, width := 32, acc := .rws, lo := 0, hi := 47 }
def CEN_FB_K : PDesc := { name := "CEN.FB_K", kind := .lane, block := 0x12, index := 0x9, width := 32, acc := .rws, lo := 0, hi := 47, reset := 1073741824 }
def CEN_FB_E : PDesc := { name := "CEN.FB_E", kind := .lane, block := 0x12, index := 0xa, width := 5, acc := .rws, lo := 0, hi := 47 }
def CEN_ADD_IN_SRC : PDesc := { name := "CEN.ADD_IN_SRC", kind := .lane, block := 0x12, index := 0xb, width := 32, acc := .rws, lo := 0, hi := 47 }
def CEN_ADD_OUT_SRC : PDesc := { name := "CEN.ADD_OUT_SRC", kind := .lane, block := 0x12, index := 0xc, width := 32, acc := .rws, lo := 0, hi := 47 }
def CEN_GAIN : PDesc := { name := "CEN.GAIN", kind := .lane, block := 0x12, index := 0xd, width := 32, acc := .rws, lo := 0, hi := 47, reset := 1073741824 }
def CEN_GAIN_SHIFT : PDesc := { name := "CEN.GAIN_SHIFT", kind := .lane, block := 0x12, index := 0xe, width := 3, acc := .rws, lo := 0, hi := 47 }
def CEN_LIM_HI : PDesc := { name := "CEN.LIM_HI", kind := .lane, block := 0x12, index := 0xf, width := 32, acc := .rws, lo := 0, hi := 47, reset := 2147483647 }
def CEN_LIM_LO : PDesc := { name := "CEN.LIM_LO", kind := .lane, block := 0x12, index := 0x10, width := 32, acc := .rws, lo := 0, hi := 47, reset := 2147483648 }
def CEN_AW_SIGN : PDesc := { name := "CEN.AW_SIGN", kind := .lane, block := 0x12, index := 0x11, width := 1, acc := .rws, lo := 0, hi := 47 }
def CEN_FS : PDesc := { name := "CEN.FS", kind := .lane, block := 0x12, index := 0x12, width := 32, acc := .rws, lo := 0, hi := 47 }
def CEN_FS_UNIT : PDesc := { name := "CEN.FS_UNIT", kind := .lane, block := 0x12, index := 0x13, width := 4, acc := .rws, lo := 0, hi := 47, range := .span 0 5 }
def CEN_MAN_OUT : PDesc := { name := "CEN.MAN_OUT", kind := .lane, block := 0x12, index := 0x14, width := 32, acc := .rw, lo := 0, hi := 47 }
def CEN_SAT_WARN : PDesc := { name := "CEN.SAT_WARN", kind := .lane, block := 0x12, index := 0x15, width := 16, acc := .rws, lo := 0, hi := 47, reset := 100 }
def CEN_SAT_FAULT : PDesc := { name := "CEN.SAT_FAULT", kind := .lane, block := 0x12, index := 0x16, width := 16, acc := .rws, lo := 0, hi := 47, reset := 300 }
def CEN_OUT : PDesc := { name := "CEN.OUT", kind := .lane, block := 0x12, index := 0x17, width := 32, acc := .ro, lo := 0, hi := 47 }
def CEN_ERR : PDesc := { name := "CEN.ERR", kind := .lane, block := 0x12, index := 0x18, width := 32, acc := .ro, lo := 0, hi := 47 }
def CEN_STATUS : PDesc := { name := "CEN.STATUS", kind := .lane, block := 0x12, index := 0x19, width := 8, acc := .ro, lo := 0, hi := 47 }
def CEN_SAT_TIME : PDesc := { name := "CEN.SAT_TIME", kind := .lane, block := 0x12, index := 0x1a, width := 16, acc := .ro, lo := 0, hi := 47 }
def CEN_CLOSE_STEP : PDesc := { name := "CEN.CLOSE_STEP", kind := .lane, block := 0x12, index := 0x1b, width := 32, acc := .ro, lo := 0, hi := 47 }
def CEN_B0 : PDesc := { name := "CEN.B0", kind := .lane, block := 0x12, index := 0x100, width := 32, acc := .rws, lo := 0, hi := 511, span := 2 }
def CEN_B1 : PDesc := { name := "CEN.B1", kind := .lane, block := 0x12, index := 0x102, width := 32, acc := .rws, lo := 0, hi := 511, span := 2 }
def CEN_B2 : PDesc := { name := "CEN.B2", kind := .lane, block := 0x12, index := 0x104, width := 32, acc := .rws, lo := 0, hi := 511, span := 2 }
def CEN_A1 : PDesc := { name := "CEN.A1", kind := .lane, block := 0x12, index := 0x106, width := 32, acc := .rws, lo := 0, hi := 511, span := 2 }
def CEN_A2 : PDesc := { name := "CEN.A2", kind := .lane, block := 0x12, index := 0x108, width := 32, acc := .rws, lo := 0, hi := 511, span := 2 }
def CEN_SEC_SHIFT : PDesc := { name := "CEN.SEC_SHIFT", kind := .lane, block := 0x12, index := 0x10a, width := 3, acc := .rws, lo := 0, hi := 511, span := 2 }
def CEN_INTEG : PDesc := { name := "CEN.INTEG", kind := .lane, block := 0x12, index := 0x10c, width := 1, acc := .rws, lo := 0, hi := 511, span := 2 }
def CEN_S1 : PDesc := { name := "CEN.S1", kind := .lane, block := 0x12, index := 0x10e, width := 56, acc := .ro, lo := 0, hi := 511, span := 2 }
def CEN_S2 : PDesc := { name := "CEN.S2", kind := .lane, block := 0x12, index := 0x110, width := 56, acc := .ro, lo := 0, hi := 511, span := 2 }
def CEN_LOCAL_SRC : PDesc := { name := "CEN.LOCAL_SRC", kind := .lane, block := 0x12, index := 0x200, width := 32, acc := .rws, lo := 0, hi := 7 }
def CEN_LOCAL_K : PDesc := { name := "CEN.LOCAL_K", kind := .lane, block := 0x12, index := 0x201, width := 32, acc := .rws, lo := 0, hi := 7, reset := 1073741824 }
def CEN_LOCAL_E : PDesc := { name := "CEN.LOCAL_E", kind := .lane, block := 0x12, index := 0x202, width := 5, acc := .rws, lo := 0, hi := 7 }
def CEN_LOCAL_MAP_EN : PDesc := { name := "CEN.LOCAL_MAP_EN", kind := .lane, block := 0x12, index := 0x203, width := 1, acc := .rws, lo := 0, hi := 7 }
def CEN_MAP_X : PDesc := { name := "CEN.MAP_X", kind := .lane, block := 0x12, index := 0x204, width := 32, acc := .rws, lo := 0, hi := 127 }
def CEN_MAP_Y : PDesc := { name := "CEN.MAP_Y", kind := .lane, block := 0x12, index := 0x205, width := 32, acc := .rws, lo := 0, hi := 127 }
def CEN_LOCAL : PDesc := { name := "CEN.LOCAL", kind := .lane, block := 0x12, index := 0x206, width := 32, acc := .ro, lo := 0, hi := 7 }
def CEN_DPOS : PDesc := { name := "CEN.DPOS", kind := .lane, block := 0x12, index := 0x210, width := 32, acc := .ro, lo := 0, hi := 5 }
def CEN_AGR_SET : PDesc := { name := "CEN.AGR_SET", kind := .lane, block := 0x12, index := 0x220, width := 4, acc := .rws, lo := 0, hi := 7, range := .spanOr 0 7 15, reset := 15 }
def CEN_AGR_BR : PDesc := { name := "CEN.AGR_BR", kind := .lane, block := 0x12, index := 0x221, width := 4, acc := .rws, lo := 0, hi := 7, range := .spanOr 0 5 15, reset := 15 }
def CEN_AGR_K : PDesc := { name := "CEN.AGR_K", kind := .lane, block := 0x12, index := 0x222, width := 32, acc := .rws, lo := 0, hi := 7 }
def CEN_AGR_E : PDesc := { name := "CEN.AGR_E", kind := .lane, block := 0x12, index := 0x223, width := 5, acc := .rws, lo := 0, hi := 7 }
def CEN_AGREED : PDesc := { name := "CEN.AGREED", kind := .lane, block := 0x12, index := 0x224, width := 32, acc := .ro, lo := 0, hi := 7 }
def CEN_AGR_VALID : PDesc := { name := "CEN.AGR_VALID", kind := .lane, block := 0x12, index := 0x225, width := 8, acc := .ro }
def CEN_TARGET : PDesc := { name := "CEN.TARGET", kind := .lane, block := 0x12, index := 0x300, width := 32, acc := .ro, lo := 0, hi := 4 }
def CEN_TGT_CMD : PDesc := { name := "CEN.TGT_CMD", kind := .lane, block := 0x12, index := 0x301, width := 32, acc := .ro, lo := 0, hi := 4 }
def CEN_TGT_MAX : PDesc := { name := "CEN.TGT_MAX", kind := .lane, block := 0x12, index := 0x302, width := 32, acc := .rws, lo := 0, hi := 4 }
def CEN_TGT_RATE : PDesc := { name := "CEN.TGT_RATE", kind := .lane, block := 0x12, index := 0x303, width := 32, acc := .rws, lo := 0, hi := 4 }
def CEN_TGT_BRIDGE : PDesc := { name := "CEN.TGT_BRIDGE", kind := .lane, block := 0x12, index := 0x304, width := 4, acc := .rws, lo := 0, hi := 4, range := .spanOr 0 5 15, reset := 15 }
def CEN_HOLD_SPEED : PDesc := { name := "CEN.HOLD_SPEED", kind := .lane, block := 0x12, index := 0x305, width := 16, acc := .rws, reset := 30 }
def CEN_LOAD : PDesc := { name := "CEN.LOAD", kind := .lane, block := 0x12, index := 0x3f0, width := 10, acc := .ro }
def CEN_CFG_CRC : PDesc := { name := "CEN.CFG_CRC", kind := .lane, block := 0x12, index := 0x3f1, width := 32, acc := .ro }
def CEN_CNT_OVERRUN : PDesc := { name := "CEN.CNT_OVERRUN", kind := .lane, block := 0x12, index := 0x3f8, width := 16, acc := .rc, lo := 0, hi := 47 }
def CEN_CNT_OVF : PDesc := { name := "CEN.CNT_OVF", kind := .lane, block := 0x12, index := 0x3f9, width := 16, acc := .rc, lo := 0, hi := 47 }
def CEN_CNT_HOLD : PDesc := { name := "CEN.CNT_HOLD", kind := .lane, block := 0x12, index := 0x3fa, width := 32, acc := .rc, lo := 0, hi := 47 }
def CEN_CNT_SAT_FAULT : PDesc := { name := "CEN.CNT_SAT_FAULT", kind := .lane, block := 0x12, index := 0x3fb, width := 16, acc := .rc, lo := 0, hi := 47 }

/-- The rows of this map, in table order. -/
def laneCENMap : List PDesc :=
  [CEN_MODE, CEN_TRIG, CEN_SEC_FIRST, CEN_SEC_NUM, CEN_REF_SRC, CEN_REF_K, CEN_REF_E, CEN_FB_SRC, CEN_FB_K, CEN_FB_E, CEN_ADD_IN_SRC, CEN_ADD_OUT_SRC] ++
  [CEN_GAIN, CEN_GAIN_SHIFT, CEN_LIM_HI, CEN_LIM_LO, CEN_AW_SIGN, CEN_FS, CEN_FS_UNIT, CEN_MAN_OUT, CEN_SAT_WARN, CEN_SAT_FAULT, CEN_OUT, CEN_ERR] ++
  [CEN_STATUS, CEN_SAT_TIME, CEN_CLOSE_STEP, CEN_B0, CEN_B1, CEN_B2, CEN_A1, CEN_A2, CEN_SEC_SHIFT, CEN_INTEG, CEN_S1, CEN_S2] ++
  [CEN_LOCAL_SRC, CEN_LOCAL_K, CEN_LOCAL_E, CEN_LOCAL_MAP_EN, CEN_MAP_X, CEN_MAP_Y, CEN_LOCAL, CEN_DPOS, CEN_AGR_SET, CEN_AGR_BR, CEN_AGR_K, CEN_AGR_E] ++
  [CEN_AGREED, CEN_AGR_VALID, CEN_TARGET, CEN_TGT_CMD, CEN_TGT_MAX, CEN_TGT_RATE, CEN_TGT_BRIDGE, CEN_HOLD_SPEED, CEN_LOAD, CEN_CFG_CRC, CEN_CNT_OVERRUN, CEN_CNT_OVF] ++
  [CEN_CNT_HOLD, CEN_CNT_SAT_FAULT]

/-! TRC, every lane die: R263 of spec/09_control_engine.md. -/

def TRC_STATE : PDesc := { name := "TRC.STATE", kind := .lane, block := 0x14, index := 0x1, width := 3, acc := .ro }
def TRC_CH_EN : PDesc := { name := "TRC.CH_EN", kind := .lane, block := 0x14, index := 0x2, width := 32, acc := .rws }
def TRC_CH_SRC : PDesc := { name := "TRC.CH_SRC", kind := .lane, block := 0x14, index := 0x3, width := 32, acc := .rws, lo := 0, hi := 31 }
def TRC_SAMPLE : PDesc := { name := "TRC.SAMPLE", kind := .lane, block := 0x14, index := 0x4, width := 22, acc := .rws, reset := 1 }
def TRC_TRIG_MODE : PDesc := { name := "TRC.TRIG_MODE", kind := .lane, block := 0x14, index := 0x5, width := 9, acc := .rws }
def TRC_TRIG_LEVEL : PDesc := { name := "TRC.TRIG_LEVEL", kind := .lane, block := 0x14, index := 0x6, width := 32, acc := .rws }
def TRC_TRIG_ARG : PDesc := { name := "TRC.TRIG_ARG", kind := .lane, block := 0x14, index := 0x7, width := 32, acc := .rws }
def TRC_PRE_TRIG : PDesc := { name := "TRC.PRE_TRIG", kind := .lane, block := 0x14, index := 0x8, width := 7, acc := .rws, range := .span 0 100, reset := 50 }
def TRC_ROW_BYTES : PDesc := { name := "TRC.ROW_BYTES", kind := .lane, block := 0x14, index := 0x9, width := 8, acc := .ro, reset := 8 }
def TRC_ROWS : PDesc := { name := "TRC.ROWS", kind := .lane, block := 0x14, index := 0xa, width := 18, acc := .ro }
def TRC_TRIG_ROW : PDesc := { name := "TRC.TRIG_ROW", kind := .lane, block := 0x14, index := 0xb, width := 18, acc := .ro }
def TRC_TRIG_CYCLE : PDesc := { name := "TRC.TRIG_CYCLE", kind := .lane, block := 0x14, index := 0xc, width := 32, acc := .ro }
def TRC_STREAM_STATE : PDesc := { name := "TRC.STREAM_STATE", kind := .lane, block := 0x14, index := 0xd, width := 2, acc := .ro }
def TRC_CNT_DROP : PDesc := { name := "TRC.CNT_DROP", kind := .lane, block := 0x14, index := 0xe, width := 32, acc := .rc }

/-- The rows of this map, in table order. -/
def laneTRCMap : List PDesc :=
  [TRC_STATE, TRC_CH_EN, TRC_CH_SRC, TRC_SAMPLE, TRC_TRIG_MODE, TRC_TRIG_LEVEL, TRC_TRIG_ARG, TRC_PRE_TRIG, TRC_ROW_BYTES, TRC_ROWS, TRC_TRIG_ROW, TRC_TRIG_CYCLE] ++
  [TRC_STREAM_STATE, TRC_CNT_DROP]

/-! RPC, every lane die: R287 of spec/10_position_domain_learning.md. -/

def RPC_EN : PDesc := { name := "RPC.EN", kind := .lane, block := 0x13, index := 0x1, width := 1, acc := .rws, lo := 0, hi := 7 }
def RPC_HOST : PDesc := { name := "RPC.HOST", kind := .lane, block := 0x13, index := 0x2, width := 6, acc := .rws, lo := 0, hi := 7, range := .span 12 47 }
def RPC_IDX_KIND : PDesc := { name := "RPC.IDX_KIND", kind := .lane, block := 0x13, index := 0x3, width := 2, acc := .rws, lo := 0, hi := 7, range := .span 0 2 }
def RPC_IDX_SRC : PDesc := { name := "RPC.IDX_SRC", kind := .lane, block := 0x13, index := 0x4, width := 4, acc := .rws, lo := 0, hi := 7, reset := 15 }
def RPC_IDX_ABS : PDesc := { name := "RPC.IDX_ABS", kind := .lane, block := 0x13, index := 0x5, width := 1, acc := .rws, lo := 0, hi := 7 }
def RPC_PERIOD : PDesc := { name := "RPC.PERIOD", kind := .lane, block := 0x13, index := 0x6, width := 32, acc := .rws, lo := 0, hi := 7 }
def RPC_BINS : PDesc := { name := "RPC.BINS", kind := .lane, block := 0x13, index := 0x7, width := 13, acc := .rws, lo := 0, hi := 7, range := .oneOf [256, 512, 1024, 2048, 4096], reset := 1024 }
def RPC_DIR_TABLES : PDesc := { name := "RPC.DIR_TABLES", kind := .lane, block := 0x13, index := 0x8, width := 1, acc := .rws, lo := 0, hi := 7 }
def RPC_SPD_WIN : PDesc := { name := "RPC.SPD_WIN", kind := .lane, block := 0x13, index := 0x9, width := 5, acc := .rws, lo := 0, hi := 7, range := .span 1 16, reset := 8 }
def RPC_GAIN : PDesc := { name := "RPC.GAIN", kind := .lane, block := 0x13, index := 0xa, width := 32, acc := .rws, lo := 0, hi := 7 }
def RPC_Q_B0 : PDesc := { name := "RPC.Q_B0", kind := .lane, block := 0x13, index := 0xb, width := 32, acc := .rws, lo := 0, hi := 7, reset := 1073741824 }
def RPC_Q_B1 : PDesc := { name := "RPC.Q_B1", kind := .lane, block := 0x13, index := 0xc, width := 32, acc := .rws, lo := 0, hi := 7 }
def RPC_Q_B2 : PDesc := { name := "RPC.Q_B2", kind := .lane, block := 0x13, index := 0xd, width := 32, acc := .rws, lo := 0, hi := 7 }
def RPC_Q_A1 : PDesc := { name := "RPC.Q_A1", kind := .lane, block := 0x13, index := 0xe, width := 32, acc := .rws, lo := 0, hi := 7 }
def RPC_Q_A2 : PDesc := { name := "RPC.Q_A2", kind := .lane, block := 0x13, index := 0xf, width := 32, acc := .rws, lo := 0, hi := 7 }
def RPC_Q_SHIFT : PDesc := { name := "RPC.Q_SHIFT", kind := .lane, block := 0x13, index := 0x10, width := 3, acc := .rws, lo := 0, hi := 7 }
def RPC_Q_DELAY : PDesc := { name := "RPC.Q_DELAY", kind := .lane, block := 0x13, index := 0x11, width := 4, acc := .rws, lo := 0, hi := 7, range := .span 0 15 }
def RPC_LEAD : PDesc := { name := "RPC.LEAD", kind := .lane, block := 0x13, index := 0x12, width := 8, acc := .rws, lo := 0, hi := 7, range := .span 0 255 }
def RPC_SPD_MIN : PDesc := { name := "RPC.SPD_MIN", kind := .lane, block := 0x13, index := 0x13, width := 24, acc := .rws, lo := 0, hi := 7 }
def RPC_SPD_MAX : PDesc := { name := "RPC.SPD_MAX", kind := .lane, block := 0x13, index := 0x14, width := 24, acc := .rws, lo := 0, hi := 7 }
def RPC_FADE : PDesc := { name := "RPC.FADE", kind := .lane, block := 0x13, index := 0x15, width := 12, acc := .rws, lo := 0, hi := 7, range := .span 1 4095, reset := 400 }
def RPC_REV_HOLD : PDesc := { name := "RPC.REV_HOLD", kind := .lane, block := 0x13, index := 0x16, width := 8, acc := .rws, lo := 0, hi := 7, reset := 8 }
def RPC_OUT_LIM : PDesc := { name := "RPC.OUT_LIM", kind := .lane, block := 0x13, index := 0x17, width := 32, acc := .rws, lo := 0, hi := 7, range := .span 0 2147483647, reset := 214748365 }
def RPC_PERSIST : PDesc := { name := "RPC.PERSIST", kind := .lane, block := 0x13, index := 0x18, width := 1, acc := .rws, lo := 0, hi := 7 }
def RPC_CMD : PDesc := { name := "RPC.CMD", kind := .lane, block := 0x13, index := 0x19, width := 2, acc := .rws, lo := 0, hi := 7, range := .span 0 2 }
def RPC_STATE : PDesc := { name := "RPC.STATE", kind := .lane, block := 0x13, index := 0x20, width := 2, acc := .ro, lo := 0, hi := 7 }
def RPC_FREEZE : PDesc := { name := "RPC.FREEZE", kind := .lane, block := 0x13, index := 0x21, width := 9, acc := .ro, lo := 0, hi := 7 }
def RPC_POS : PDesc := { name := "RPC.POS", kind := .lane, block := 0x13, index := 0x22, width := 32, acc := .ro, lo := 0, hi := 7 }
def RPC_SPEED : PDesc := { name := "RPC.SPEED", kind := .lane, block := 0x13, index := 0x23, width := 32, acc := .ro, lo := 0, hi := 7 }
def RPC_DIR : PDesc := { name := "RPC.DIR", kind := .lane, block := 0x13, index := 0x24, width := 1, acc := .ro, lo := 0, hi := 7 }
def RPC_OUT : PDesc := { name := "RPC.OUT", kind := .lane, block := 0x13, index := 0x25, width := 32, acc := .ro, lo := 0, hi := 7 }
def RPC_FADE_NOW : PDesc := { name := "RPC.FADE_NOW", kind := .lane, block := 0x13, index := 0x26, width := 13, acc := .ro, lo := 0, hi := 7 }
def RPC_TBL_CRC : PDesc := { name := "RPC.TBL_CRC", kind := .lane, block := 0x13, index := 0x27, width := 32, acc := .ro, lo := 0, hi := 7 }
def RPC_CFG_CRC : PDesc := { name := "RPC.CFG_CRC", kind := .lane, block := 0x13, index := 0x28, width := 32, acc := .ro }
def RPC_CNT_REV : PDesc := { name := "RPC.CNT_REV", kind := .lane, block := 0x13, index := 0x30, width := 16, acc := .rc, lo := 0, hi := 7 }
def RPC_CNT_SKIP : PDesc := { name := "RPC.CNT_SKIP", kind := .lane, block := 0x13, index := 0x31, width := 16, acc := .rc, lo := 0, hi := 7 }
def RPC_CNT_CLAMP : PDesc := { name := "RPC.CNT_CLAMP", kind := .lane, block := 0x13, index := 0x32, width := 32, acc := .rc, lo := 0, hi := 7 }
def RPC_CNT_RESTORE_FAIL : PDesc := { name := "RPC.CNT_RESTORE_FAIL", kind := .lane, block := 0x13, index := 0x33, width := 8, acc := .rc }
def RPC_TBL : PDesc := { name := "RPC.TBL", kind := .lane, block := 0x13, index := 0x100, width := 32, acc := .rws, lo := 0, hi := 65535, span := 256 }

/-- The rows of this map, in table order. -/
def laneRPCMap : List PDesc :=
  [RPC_EN, RPC_HOST, RPC_IDX_KIND, RPC_IDX_SRC, RPC_IDX_ABS, RPC_PERIOD, RPC_BINS, RPC_DIR_TABLES, RPC_SPD_WIN, RPC_GAIN, RPC_Q_B0, RPC_Q_B1] ++
  [RPC_Q_B2, RPC_Q_A1, RPC_Q_A2, RPC_Q_SHIFT, RPC_Q_DELAY, RPC_LEAD, RPC_SPD_MIN, RPC_SPD_MAX, RPC_FADE, RPC_REV_HOLD, RPC_OUT_LIM, RPC_PERSIST] ++
  [RPC_CMD, RPC_STATE, RPC_FREEZE, RPC_POS, RPC_SPEED, RPC_DIR, RPC_OUT, RPC_FADE_NOW, RPC_TBL_CRC, RPC_CFG_CRC, RPC_CNT_REV, RPC_CNT_SKIP] ++
  [RPC_CNT_CLAMP, RPC_CNT_RESTORE_FAIL, RPC_TBL]

/-! FBI, every lane die: R316 of spec/11_feedback_inputs.md. -/

def FBI_MODE : PDesc := { name := "FBI.MODE", kind := .lane, block := 0x15, index := 0x1, width := 3, acc := .rws, lo := 0, hi := 7 }
def FBI_IN_TYPE : PDesc := { name := "FBI.IN_TYPE", kind := .lane, block := 0x15, index := 0x2, width := 1, acc := .rws, lo := 0, hi := 7 }
def FBI_INVERT : PDesc := { name := "FBI.INVERT", kind := .lane, block := 0x15, index := 0x3, width := 1, acc := .rws, lo := 0, hi := 7 }
def FBI_EDGE_MIN : PDesc := { name := "FBI.EDGE_MIN", kind := .lane, block := 0x15, index := 0x4, width := 16, acc := .rws, lo := 0, hi := 7, range := .span 2 65535, reset := 10 }
def FBI_EDGE_FAULT_LIM : PDesc := { name := "FBI.EDGE_FAULT_LIM", kind := .lane, block := 0x15, index := 0x5, width := 8, acc := .rws, lo := 0, hi := 7, range := .span 1 255, reset := 16 }
def FBI_EDGE_FAULT_WIN : PDesc := { name := "FBI.EDGE_FAULT_WIN", kind := .lane, block := 0x15, index := 0x6, width := 14, acc := .rws, range := .span 10 10000, reset := 100 }
def FBI_HYST : PDesc := { name := "FBI.HYST", kind := .lane, block := 0x15, index := 0x7, width := 4, acc := .rws, lo := 0, hi := 7, range := .span 1 15, reset := 2 }
def FBI_SPD_WIN : PDesc := { name := "FBI.SPD_WIN", kind := .lane, block := 0x15, index := 0x8, width := 16, acc := .rws, lo := 0, hi := 7, range := .span 10 65535, reset := 1000 }
def FBI_STANDSTILL_TO : PDesc := { name := "FBI.STANDSTILL_TO", kind := .lane, block := 0x15, index := 0x9, width := 14, acc := .rws, lo := 0, hi := 7, range := .span 1 10000, reset := 100 }
def FBI_ALIGN_SET : PDesc := { name := "FBI.ALIGN_SET", kind := .lane, block := 0x15, index := 0xa, width := 4, acc := .rws, lo := 0, hi := 7, range := .spanOr 0 7 15, reset := 15 }
def FBI_INDEX_MODE : PDesc := { name := "FBI.INDEX_MODE", kind := .lane, block := 0x15, index := 0x10, width := 2, acc := .rws, lo := 0, hi := 7, range := .span 0 2 }
def FBI_INDEX_QUAD : PDesc := { name := "FBI.INDEX_QUAD", kind := .lane, block := 0x15, index := 0x11, width := 2, acc := .rws, lo := 0, hi := 7 }
def FBI_INDEX_VALUE : PDesc := { name := "FBI.INDEX_VALUE", kind := .lane, block := 0x15, index := 0x12, width := 32, acc := .rws, lo := 0, hi := 7 }
def FBI_INDEX_ARM : PDesc := { name := "FBI.INDEX_ARM", kind := .lane, block := 0x15, index := 0x13, width := 1, acc := .rw, lo := 0, hi := 7 }
def FBI_INDEX_CPR : PDesc := { name := "FBI.INDEX_CPR", kind := .lane, block := 0x15, index := 0x14, width := 32, acc := .rws, lo := 0, hi := 7 }
def FBI_INDEX_TOL : PDesc := { name := "FBI.INDEX_TOL", kind := .lane, block := 0x15, index := 0x15, width := 8, acc := .rws, lo := 0, hi := 7, reset := 2 }
def FBI_SC_BITS : PDesc := { name := "FBI.SC_BITS", kind := .lane, block := 0x15, index := 0x20, width := 4, acc := .rws, lo := 0, hi := 3, range := .span 8 12, reset := 12 }
def FBI_SC_NOM : PDesc := { name := "FBI.SC_NOM", kind := .lane, block := 0x15, index := 0x21, width := 16, acc := .rws, lo := 0, hi := 3, reset := 500 }
def FBI_SC_WIN_LO : PDesc := { name := "FBI.SC_WIN_LO", kind := .lane, block := 0x15, index := 0x22, width := 8, acc := .rws, range := .span 50 99, reset := 70 }
def FBI_SC_WIN_HI : PDesc := { name := "FBI.SC_WIN_HI", kind := .lane, block := 0x15, index := 0x23, width := 8, acc := .rws, range := .span 101 200, reset := 130 }
def FBI_SC_PERSIST : PDesc := { name := "FBI.SC_PERSIST", kind := .lane, block := 0x15, index := 0x24, width := 4, acc := .rws, range := .span 1 15, reset := 4 }
def FBI_SC_OFF_SIN : PDesc := { name := "FBI.SC_OFF_SIN", kind := .lane, block := 0x15, index := 0x25, width := 16, acc := .rws, lo := 0, hi := 3 }
def FBI_SC_OFF_COS : PDesc := { name := "FBI.SC_OFF_COS", kind := .lane, block := 0x15, index := 0x26, width := 16, acc := .rws, lo := 0, hi := 3 }
def FBI_SC_GAIN_COS : PDesc := { name := "FBI.SC_GAIN_COS", kind := .lane, block := 0x15, index := 0x27, width := 16, acc := .rws, lo := 0, hi := 3, reset := 32768 }
def FBI_SSI_BITS : PDesc := { name := "FBI.SSI_BITS", kind := .lane, block := 0x15, index := 0x30, width := 6, acc := .rws, lo := 4, hi := 7, range := .span 1 32, reset := 25 }
def FBI_SSI_CLK : PDesc := { name := "FBI.SSI_CLK", kind := .lane, block := 0x15, index := 0x31, width := 11, acc := .rws, lo := 4, hi := 7, range := .span 100 2000, reset := 1000 }
def FBI_SSI_CODE : PDesc := { name := "FBI.SSI_CODE", kind := .lane, block := 0x15, index := 0x32, width := 1, acc := .rws, lo := 4, hi := 7 }
def FBI_SSI_POS_LSB : PDesc := { name := "FBI.SSI_POS_LSB", kind := .lane, block := 0x15, index := 0x33, width := 5, acc := .rws, lo := 4, hi := 7 }
def FBI_SSI_POS_W : PDesc := { name := "FBI.SSI_POS_W", kind := .lane, block := 0x15, index := 0x34, width := 6, acc := .rws, lo := 4, hi := 7, range := .span 1 32, reset := 25 }
def FBI_SSI_ERR_BIT : PDesc := { name := "FBI.SSI_ERR_BIT", kind := .lane, block := 0x15, index := 0x35, width := 7, acc := .rws, lo := 4, hi := 7, reset := 63 }
def FBI_SSI_MONO : PDesc := { name := "FBI.SSI_MONO", kind := .lane, block := 0x15, index := 0x36, width := 7, acc := .rws, lo := 4, hi := 7, range := .span 1 100, reset := 20 }
def FBI_SSI_DELAY : PDesc := { name := "FBI.SSI_DELAY", kind := .lane, block := 0x15, index := 0x37, width := 7, acc := .rws, lo := 4, hi := 7, range := .span 0 80 }
def FBI_SSI_DIV : PDesc := { name := "FBI.SSI_DIV", kind := .lane, block := 0x15, index := 0x38, width := 3, acc := .rws, lo := 4, hi := 7, range := .span 1 4, reset := 1 }
def FBI_SSI_JUMP : PDesc := { name := "FBI.SSI_JUMP", kind := .lane, block := 0x15, index := 0x39, width := 32, acc := .rws, lo := 4, hi := 7 }
def FBI_SSI_FAULT_LIM : PDesc := { name := "FBI.SSI_FAULT_LIM", kind := .lane, block := 0x15, index := 0x3a, width := 4, acc := .rws, lo := 4, hi := 7, range := .span 1 15, reset := 3 }
def FBI_STATE : PDesc := { name := "FBI.STATE", kind := .lane, block := 0x15, index := 0x40, width := 2, acc := .ro, lo := 0, hi := 7 }
def FBI_FAULT : PDesc := { name := "FBI.FAULT", kind := .lane, block := 0x15, index := 0x41, width := 6, acc := .w1c, lo := 0, hi := 7 }
def FBI_FLAGS : PDesc := { name := "FBI.FLAGS", kind := .lane, block := 0x15, index := 0x42, width := 8, acc := .ro, lo := 0, hi := 7, reset := 4 }
def FBI_POS : PDesc := { name := "FBI.POS", kind := .lane, block := 0x15, index := 0x43, width := 32, acc := .ro, lo := 0, hi := 7 }
def FBI_POS_SI : PDesc := { name := "FBI.POS_SI", kind := .lane, block := 0x15, index := 0x44, width := 32, acc := .ro, lo := 0, hi := 7 }
def FBI_SPEED : PDesc := { name := "FBI.SPEED", kind := .lane, block := 0x15, index := 0x45, width := 48, acc := .ro, lo := 0, hi := 7 }
def FBI_RAW : PDesc := { name := "FBI.RAW", kind := .lane, block := 0x15, index := 0x46, width := 32, acc := .ro, lo := 0, hi := 7 }
def FBI_AMP : PDesc := { name := "FBI.AMP", kind := .lane, block := 0x15, index := 0x47, width := 16, acc := .ro, lo := 0, hi := 7 }
def FBI_LAST_INDEX : PDesc := { name := "FBI.LAST_INDEX", kind := .lane, block := 0x15, index := 0x48, width := 64, acc := .ro, lo := 0, hi := 7 }
def FBI_CNT_EDGE_FAULT : PDesc := { name := "FBI.CNT_EDGE_FAULT", kind := .lane, block := 0x15, index := 0x60, width := 16, acc := .rc, lo := 0, hi := 7 }
def FBI_CNT_INDEX : PDesc := { name := "FBI.CNT_INDEX", kind := .lane, block := 0x15, index := 0x61, width := 16, acc := .rc, lo := 0, hi := 7 }
def FBI_CNT_INDEX_ERR : PDesc := { name := "FBI.CNT_INDEX_ERR", kind := .lane, block := 0x15, index := 0x62, width := 16, acc := .rc, lo := 0, hi := 7 }
def FBI_CNT_SC_SKIP : PDesc := { name := "FBI.CNT_SC_SKIP", kind := .lane, block := 0x15, index := 0x63, width := 32, acc := .rc, lo := 0, hi := 7 }
def FBI_CNT_SSI_ERR : PDesc := { name := "FBI.CNT_SSI_ERR", kind := .lane, block := 0x15, index := 0x64, width := 16, acc := .rc, lo := 0, hi := 7 }
def FBI_CNT_REV : PDesc := { name := "FBI.CNT_REV", kind := .lane, block := 0x15, index := 0x65, width := 16, acc := .rc, lo := 0, hi := 7 }

/-- The rows of this map, in table order. -/
def laneFBIMap : List PDesc :=
  [FBI_MODE, FBI_IN_TYPE, FBI_INVERT, FBI_EDGE_MIN, FBI_EDGE_FAULT_LIM, FBI_EDGE_FAULT_WIN, FBI_HYST, FBI_SPD_WIN, FBI_STANDSTILL_TO, FBI_ALIGN_SET, FBI_INDEX_MODE, FBI_INDEX_QUAD] ++
  [FBI_INDEX_VALUE, FBI_INDEX_ARM, FBI_INDEX_CPR, FBI_INDEX_TOL, FBI_SC_BITS, FBI_SC_NOM, FBI_SC_WIN_LO, FBI_SC_WIN_HI, FBI_SC_PERSIST, FBI_SC_OFF_SIN, FBI_SC_OFF_COS, FBI_SC_GAIN_COS] ++
  [FBI_SSI_BITS, FBI_SSI_CLK, FBI_SSI_CODE, FBI_SSI_POS_LSB, FBI_SSI_POS_W, FBI_SSI_ERR_BIT, FBI_SSI_MONO, FBI_SSI_DELAY, FBI_SSI_DIV, FBI_SSI_JUMP, FBI_SSI_FAULT_LIM, FBI_STATE] ++
  [FBI_FAULT, FBI_FLAGS, FBI_POS, FBI_POS_SI, FBI_SPEED, FBI_RAW, FBI_AMP, FBI_LAST_INDEX, FBI_CNT_EDGE_FAULT, FBI_CNT_INDEX, FBI_CNT_INDEX_ERR, FBI_CNT_SC_SKIP] ++
  [FBI_CNT_SSI_ERR, FBI_CNT_REV]

/-! SDC, every lane die: R347 of spec/12_section_control.md. -/

def SDC_STATE : PDesc := { name := "SDC.STATE", kind := .lane, block := 0x16, index := 0x1, width := 2, acc := .ro }
def SDC_SRC : PDesc := { name := "SDC.SRC", kind := .lane, block := 0x16, index := 0x2, width := 4, acc := .rws, range := .spanOr 0 7 15, reset := 15 }
def SDC_DIST_SET : PDesc := { name := "SDC.DIST_SET", kind := .lane, block := 0x16, index := 0x3, width := 4, acc := .rws, range := .spanOr 0 7 15, reset := 15 }
def SDC_REV_MODE : PDesc := { name := "SDC.REV_MODE", kind := .lane, block := 0x16, index := 0x4, width := 1, acc := .rws }
def SDC_REV_COUNTS : PDesc := { name := "SDC.REV_COUNTS", kind := .lane, block := 0x16, index := 0x5, width := 8, acc := .rws, range := .span 1 255, reset := 4 }
def SDC_LEAD_MAX : PDesc := { name := "SDC.LEAD_MAX", kind := .lane, block := 0x16, index := 0x6, width := 16, acc := .rws, reset := 4000 }
def SDC_TBL_PERSIST : PDesc := { name := "SDC.TBL_PERSIST", kind := .lane, block := 0x16, index := 0x7, width := 4, acc := .rws, range := .span 2 15, reset := 5 }
def SDC_ON_DELAY : PDesc := { name := "SDC.ON_DELAY", kind := .lane, block := 0x16, index := 0x10, width := 20, acc := .rws, lo := 0, hi := 63 }
def SDC_OFF_DELAY : PDesc := { name := "SDC.OFF_DELAY", kind := .lane, block := 0x16, index := 0x11, width := 20, acc := .rws, lo := 0, hi := 63 }
def SDC_FORCED : PDesc := { name := "SDC.FORCED", kind := .lane, block := 0x16, index := 0x12, width := 64, acc := .ro }
def SDC_AUT_LEVEL : PDesc := { name := "SDC.AUT_LEVEL", kind := .lane, block := 0x16, index := 0x13, width := 8, acc := .rw }
def SDC_POS : PDesc := { name := "SDC.POS", kind := .lane, block := 0x16, index := 0x20, width := 48, acc := .ro }
def SDC_HWM : PDesc := { name := "SDC.HWM", kind := .lane, block := 0x16, index := 0x21, width := 48, acc := .ro }
def SDC_REQ : PDesc := { name := "SDC.REQ", kind := .lane, block := 0x16, index := 0x22, width := 64, acc := .ro }
def SDC_WR_COUNT : PDesc := { name := "SDC.WR_COUNT", kind := .lane, block := 0x16, index := 0x23, width := 32, acc := .ro }
def SDC_PENDING : PDesc := { name := "SDC.PENDING", kind := .lane, block := 0x16, index := 0x24, width := 13, acc := .ro }
def SDC_TBL_DIGEST : PDesc := { name := "SDC.TBL_DIGEST", kind := .lane, block := 0x16, index := 0x25, width := 32, acc := .ro }
def SDC_LAST_LATE : PDesc := { name := "SDC.LAST_LATE", kind := .lane, block := 0x16, index := 0x26, width := 64, acc := .ro }
def SDC_VOID_CAUSE : PDesc := { name := "SDC.VOID_CAUSE", kind := .lane, block := 0x16, index := 0x27, width := 4, acc := .ro }
def SDC_CNT_LATE : PDesc := { name := "SDC.CNT_LATE", kind := .lane, block := 0x16, index := 0x30, width := 32, acc := .rc }
def SDC_CNT_REV : PDesc := { name := "SDC.CNT_REV", kind := .lane, block := 0x16, index := 0x31, width := 16, acc := .rc }
def SDC_CNT_VOID : PDesc := { name := "SDC.CNT_VOID", kind := .lane, block := 0x16, index := 0x32, width := 16, acc := .rc }
def SDC_CNT_RESYNC : PDesc := { name := "SDC.CNT_RESYNC", kind := .lane, block := 0x16, index := 0x33, width := 16, acc := .rc }

/-- The rows of this map, in table order. -/
def laneSDCMap : List PDesc :=
  [SDC_STATE, SDC_SRC, SDC_DIST_SET, SDC_REV_MODE, SDC_REV_COUNTS, SDC_LEAD_MAX, SDC_TBL_PERSIST, SDC_ON_DELAY, SDC_OFF_DELAY, SDC_FORCED, SDC_AUT_LEVEL, SDC_POS] ++
  [SDC_HWM, SDC_REQ, SDC_WR_COUNT, SDC_PENDING, SDC_TBL_DIGEST, SDC_LAST_LATE, SDC_VOID_CAUSE, SDC_CNT_LATE, SDC_CNT_REV, SDC_CNT_VOID, SDC_CNT_RESYNC]

/-! SVT, S: R348 of spec/12_section_control.md. -/

def SVT_ARMED : PDesc := { name := "SVT.ARMED", kind := .s, block := 0x31, index := 0x1, width := 64, acc := .ro }
def SVT_OUT : PDesc := { name := "SVT.OUT", kind := .s, block := 0x31, index := 0x2, width := 64, acc := .ro }
def SVT_VOID : PDesc := { name := "SVT.VOID", kind := .s, block := 0x31, index := 0x3, width := 3, acc := .ro }
def SVT_REQ : PDesc := { name := "SVT.REQ", kind := .s, block := 0x31, index := 0x4, width := 64, acc := .ro, lo := 1, hi := 3 }
def SVT_VOTE_AGE : PDesc := { name := "SVT.VOTE_AGE", kind := .s, block := 0x31, index := 0x5, width := 16, acc := .ro, lo := 1, hi := 3, reset := 65535 }
def SVT_ARM_EPOCH : PDesc := { name := "SVT.ARM_EPOCH", kind := .s, block := 0x31, index := 0x6, width := 32, acc := .ro }
def SVT_CNT_ARM : PDesc := { name := "SVT.CNT_ARM", kind := .s, block := 0x31, index := 0x10, width := 16, acc := .rc }
def SVT_CNT_DISARM : PDesc := { name := "SVT.CNT_DISARM", kind := .s, block := 0x31, index := 0x11, width := 16, acc := .rc }
def SVT_CNT_ARM_REJECT : PDesc := { name := "SVT.CNT_ARM_REJECT", kind := .s, block := 0x31, index := 0x12, width := 16, acc := .rc }

/-- The rows of this map, in table order. -/
def sSVTMap : List PDesc :=
  [SVT_ARMED, SVT_OUT, SVT_VOID, SVT_REQ, SVT_VOTE_AGE, SVT_ARM_EPOCH, SVT_CNT_ARM, SVT_CNT_DISARM, SVT_CNT_ARM_REJECT]

/-! SEC, S: R348 of spec/12_section_control.md. -/

def SEC_EN : PDesc := { name := "SEC.EN", kind := .s, block := 0x30, index := 0x1, width := 64, acc := .rws }
def SEC_MASTER : PDesc := { name := "SEC.MASTER", kind := .s, block := 0x30, index := 0x2, width := 7, acc := .rws, lo := 0, hi := 63, range := .spanOr 0 63 127, reset := 127 }
def SEC_TEST_PERIOD : PDesc := { name := "SEC.TEST_PERIOD", kind := .s, block := 0x30, index := 0x3, width := 14, acc := .rws, range := .span 100 10000, reset := 1000 }
def SEC_TEST_WIDTH : PDesc := { name := "SEC.TEST_WIDTH", kind := .s, block := 0x30, index := 0x4, width := 10, acc := .rws, range := .span 150 800, reset := 400 }
def SEC_V_ON_TH : PDesc := { name := "SEC.V_ON_TH", kind := .s, block := 0x30, index := 0x5, width := 16, acc := .rws, reset := 3000 }
def SEC_V_OFF_TH : PDesc := { name := "SEC.V_OFF_TH", kind := .s, block := 0x30, index := 0x6, width := 16, acc := .rws, reset := 2000 }
def SEC_V_LEAK_TH : PDesc := { name := "SEC.V_LEAK_TH", kind := .s, block := 0x30, index := 0x7, width := 16, acc := .rws, reset := 4000 }
def SEC_ON_BLANK : PDesc := { name := "SEC.ON_BLANK", kind := .s, block := 0x30, index := 0x8, width := 8, acc := .rws, range := .span 1 100, reset := 2 }
def SEC_OFF_BLANK : PDesc := { name := "SEC.OFF_BLANK", kind := .s, block := 0x30, index := 0x9, width := 8, acc := .rws, range := .span 5 200, reset := 20 }
def SEC_LEAK_TIME : PDesc := { name := "SEC.LEAK_TIME", kind := .s, block := 0x30, index := 0xa, width := 8, acc := .rws, range := .span 1 255, reset := 10 }
def SEC_I_MAX : PDesc := { name := "SEC.I_MAX", kind := .s, block := 0x30, index := 0xb, width := 16, acc := .rws, lo := 0, hi := 15, reset := 4000 }
def SEC_I_MIN : PDesc := { name := "SEC.I_MIN", kind := .s, block := 0x30, index := 0xc, width := 16, acc := .rws, lo := 0, hi := 15 }
def SEC_SHUNT : PDesc := { name := "SEC.SHUNT", kind := .s, block := 0x30, index := 0xd, width := 16, acc := .rws, lo := 0, hi := 15, reset := 10000 }
def SEC_VSEC : PDesc := { name := "SEC.VSEC", kind := .s, block := 0x30, index := 0x20, width := 16, acc := .ro }
def SEC_SS_V : PDesc := { name := "SEC.SS_V", kind := .s, block := 0x30, index := 0x21, width := 16, acc := .ro, lo := 0, hi := 63 }
def SEC_I_MEAS : PDesc := { name := "SEC.I_MEAS", kind := .s, block := 0x30, index := 0x22, width := 16, acc := .ro, lo := 0, hi := 15 }
def SEC_FAULT : PDesc := { name := "SEC.FAULT", kind := .s, block := 0x30, index := 0x23, width := 5, acc := .w1c, lo := 0, hi := 63 }
def SEC_FAULTED : PDesc := { name := "SEC.FAULTED", kind := .s, block := 0x30, index := 0x24, width := 64, acc := .ro }
def SEC_TEST_AGE : PDesc := { name := "SEC.TEST_AGE", kind := .s, block := 0x30, index := 0x25, width := 16, acc := .ro, lo := 0, hi := 63, reset := 65535 }
def SEC_CNT_TEST_FAIL : PDesc := { name := "SEC.CNT_TEST_FAIL", kind := .s, block := 0x30, index := 0x30, width := 16, acc := .rc, lo := 0, hi := 63 }
def SEC_CNT_TEST_SKIP : PDesc := { name := "SEC.CNT_TEST_SKIP", kind := .s, block := 0x30, index := 0x31, width := 32, acc := .rc }

/-- The rows of this map, in table order. -/
def sSECMap : List PDesc :=
  [SEC_EN, SEC_MASTER, SEC_TEST_PERIOD, SEC_TEST_WIDTH, SEC_V_ON_TH, SEC_V_OFF_TH, SEC_V_LEAK_TH, SEC_ON_BLANK, SEC_OFF_BLANK, SEC_LEAK_TIME, SEC_I_MAX, SEC_I_MIN] ++
  [SEC_SHUNT, SEC_VSEC, SEC_SS_V, SEC_I_MEAS, SEC_FAULT, SEC_FAULTED, SEC_TEST_AGE, SEC_CNT_TEST_FAIL, SEC_CNT_TEST_SKIP]

/-! ATH, S: R348 of spec/12_section_control.md. -/

def ATH_KIND : PDesc := { name := "ATH.KIND", kind := .s, block := 0x32, index := 0x1, width := 2, acc := .rws, lo := 0, hi := 7 }
def ATH_TGT_MASK : PDesc := { name := "ATH.TGT_MASK", kind := .s, block := 0x32, index := 0x2, width := 4, acc := .rws, lo := 0, hi := 7 }
def ATH_PULSE : PDesc := { name := "ATH.PULSE", kind := .s, block := 0x32, index := 0x3, width := 10, acc := .rws, lo := 0, hi := 7, range := .span 20 1000, reset := 150 }
def ATH_I_MIN : PDesc := { name := "ATH.I_MIN", kind := .s, block := 0x32, index := 0x4, width := 10, acc := .rws, lo := 0, hi := 7, reset := 100 }
def ATH_ORPHAN_TIME : PDesc := { name := "ATH.ORPHAN_TIME", kind := .s, block := 0x32, index := 0x5, width := 12, acc := .rws, range := .spanOr 100 4000 0 }
def ATH_LATCH_STATE : PDesc := { name := "ATH.LATCH_STATE", kind := .s, block := 0x32, index := 0x10, width := 8, acc := .ro }
def ATH_OUT : PDesc := { name := "ATH.OUT", kind := .s, block := 0x32, index := 0x11, width := 8, acc := .ro }
def ATH_I_MEAS : PDesc := { name := "ATH.I_MEAS", kind := .s, block := 0x32, index := 0x12, width := 10, acc := .ro, lo := 0, hi := 7 }
def ATH_FAULT : PDesc := { name := "ATH.FAULT", kind := .s, block := 0x32, index := 0x13, width := 2, acc := .w1c, lo := 0, hi := 7 }
def ATH_CNT_ENGAGE : PDesc := { name := "ATH.CNT_ENGAGE", kind := .s, block := 0x32, index := 0x20, width := 16, acc := .rc }
def ATH_CNT_RELEASE : PDesc := { name := "ATH.CNT_RELEASE", kind := .s, block := 0x32, index := 0x21, width := 16, acc := .rc }
def ATH_CNT_RELEASE_REJECT : PDesc := { name := "ATH.CNT_RELEASE_REJECT", kind := .s, block := 0x32, index := 0x22, width := 16, acc := .rc }
def ATH_CNT_ORPHAN : PDesc := { name := "ATH.CNT_ORPHAN", kind := .s, block := 0x32, index := 0x23, width := 8, acc := .rc }

/-- The rows of this map, in table order. -/
def sATHMap : List PDesc :=
  [ATH_KIND, ATH_TGT_MASK, ATH_PULSE, ATH_I_MIN, ATH_ORPHAN_TIME, ATH_LATCH_STATE, ATH_OUT, ATH_I_MEAS, ATH_FAULT, ATH_CNT_ENGAGE, ATH_CNT_RELEASE, ATH_CNT_RELEASE_REJECT] ++
  [ATH_CNT_ORPHAN]

/-! SIO, every lane die: R365 of spec/13_safety_inputs_and_reset.md. -/

def SIO_IN : PDesc := { name := "SIO.IN", kind := .lane, block := 0x17, index := 0x1, width := 17, acc := .ro }
def SIO_RAW : PDesc := { name := "SIO.RAW", kind := .lane, block := 0x17, index := 0x2, width := 17, acc := .ro }
def SIO_FILTER : PDesc := { name := "SIO.FILTER", kind := .lane, block := 0x17, index := 0x3, width := 9, acc := .rws, lo := 0, hi := 15, range := .span 0 400, reset := 40 }
def SIO_TP_SRC : PDesc := { name := "SIO.TP_SRC", kind := .lane, block := 0x17, index := 0x4, width := 3, acc := .rws, lo := 0, hi := 15, range := .spanOr 0 3 7, reset := 7 }
def SIO_PAIR_FUNC : PDesc := { name := "SIO.PAIR_FUNC", kind := .lane, block := 0x17, index := 0x10, width := 2, acc := .rws, lo := 0, hi := 7, range := .span 0 2 }
def SIO_PAIR_TYPE : PDesc := { name := "SIO.PAIR_TYPE", kind := .lane, block := 0x17, index := 0x11, width := 1, acc := .rws, lo := 0, hi := 7 }
def SIO_DISC_TICKS : PDesc := { name := "SIO.DISC_TICKS", kind := .lane, block := 0x17, index := 0x12, width := 15, acc := .rws, lo := 0, hi := 7, range := .span 40 20000, reset := 4000 }
def SIO_TP_EN : PDesc := { name := "SIO.TP_EN", kind := .lane, block := 0x17, index := 0x20, width := 4, acc := .rws }
def SIO_TP_PERIOD : PDesc := { name := "SIO.TP_PERIOD", kind := .lane, block := 0x17, index := 0x21, width := 10, acc := .rws, range := .span 10 1000, reset := 100 }
def SIO_TP_WIDTH : PDesc := { name := "SIO.TP_WIDTH", kind := .lane, block := 0x17, index := 0x22, width := 11, acc := .rws, range := .span 100 2000, reset := 500 }
def SIO_TP_SETTLE : PDesc := { name := "SIO.TP_SETTLE", kind := .lane, block := 0x17, index := 0x23, width := 8, acc := .rws, range := .span 10 250, reset := 50 }
def SIO_TP_ERR_LIM : PDesc := { name := "SIO.TP_ERR_LIM", kind := .lane, block := 0x17, index := 0x24, width := 4, acc := .rws, range := .span 1 15, reset := 2 }
def SIO_ACK_FILTER : PDesc := { name := "SIO.ACK_FILTER", kind := .lane, block := 0x17, index := 0x30, width := 9, acc := .rws, range := .span 0 400, reset := 200 }
def SIO_ACK_MIN : PDesc := { name := "SIO.ACK_MIN", kind := .lane, block := 0x17, index := 0x31, width := 13, acc := .rws, range := .span 50 5000, reset := 50 }
def SIO_ACK_MAX : PDesc := { name := "SIO.ACK_MAX", kind := .lane, block := 0x17, index := 0x32, width := 13, acc := .rws, range := .span 50 5000, reset := 5000 }
def SIO_ACK_AGREE : PDesc := { name := "SIO.ACK_AGREE", kind := .lane, block := 0x17, index := 0x33, width := 8, acc := .rws, range := .span 1 200, reset := 20 }
def SIO_RESET_SRC : PDesc := { name := "SIO.RESET_SRC", kind := .lane, block := 0x17, index := 0x34, width := 2, acc := .rws, reset := 3 }
def SIO_ESTOP_FORCE : PDesc := { name := "SIO.ESTOP_FORCE", kind := .lane, block := 0x17, index := 0x40, width := 32, acc := .rws, lo := 1, hi := 4 }
def SIO_TRIP_TQ : PDesc := { name := "SIO.TRIP_TQ", kind := .lane, block := 0x17, index := 0x41, width := 32, acc := .rws, lo := 0, hi := 5 }
def SIO_TRIP_BRIDGES : PDesc := { name := "SIO.TRIP_BRIDGES", kind := .lane, block := 0x17, index := 0x42, width := 6, acc := .rws }
def SIO_ESTOP_HOLD : PDesc := { name := "SIO.ESTOP_HOLD", kind := .lane, block := 0x17, index := 0x43, width := 1, acc := .rws }
def SIO_HOLD_TIME : PDesc := { name := "SIO.HOLD_TIME", kind := .lane, block := 0x17, index := 0x44, width := 12, acc := .rws, range := .span 100 4000, reset := 500 }
def SIO_TRIP : PDesc := { name := "SIO.TRIP", kind := .lane, block := 0x17, index := 0x50, width := 10, acc := .ro }
def SIO_TRIP_SRC : PDesc := { name := "SIO.TRIP_SRC", kind := .lane, block := 0x17, index := 0x51, width := 64, acc := .ro }
def SIO_DISC : PDesc := { name := "SIO.DISC", kind := .lane, block := 0x17, index := 0x52, width := 8, acc := .ro }
def SIO_FAULT : PDesc := { name := "SIO.FAULT", kind := .lane, block := 0x17, index := 0x53, width := 2, acc := .ro, lo := 0, hi := 15 }
def SIO_TP_FAULT : PDesc := { name := "SIO.TP_FAULT", kind := .lane, block := 0x17, index := 0x54, width := 4, acc := .ro }
def SIO_RESET_STATE : PDesc := { name := "SIO.RESET_STATE", kind := .lane, block := 0x17, index := 0x55, width := 1, acc := .ro }
def SIO_LAST_PRESS : PDesc := { name := "SIO.LAST_PRESS", kind := .lane, block := 0x17, index := 0x56, width := 13, acc := .ro }
def SIO_LAST_LAG : PDesc := { name := "SIO.LAST_LAG", kind := .lane, block := 0x17, index := 0x57, width := 15, acc := .ro, lo := 0, hi := 7 }
def SIO_CFG_CRC : PDesc := { name := "SIO.CFG_CRC", kind := .lane, block := 0x17, index := 0x58, width := 32, acc := .ro }
def SIO_CNT_TRIP : PDesc := { name := "SIO.CNT_TRIP", kind := .lane, block := 0x17, index := 0x60, width := 16, acc := .rc }
def SIO_CNT_DISC : PDesc := { name := "SIO.CNT_DISC", kind := .lane, block := 0x17, index := 0x61, width := 16, acc := .rc }
def SIO_CNT_TP_ERR : PDesc := { name := "SIO.CNT_TP_ERR", kind := .lane, block := 0x17, index := 0x62, width := 16, acc := .rc, lo := 0, hi := 15 }
def SIO_CNT_ACK_REJECT : PDesc := { name := "SIO.CNT_ACK_REJECT", kind := .lane, block := 0x17, index := 0x63, width := 16, acc := .rc }
def SIO_CNT_TRIP_LATE : PDesc := { name := "SIO.CNT_TRIP_LATE", kind := .lane, block := 0x17, index := 0x64, width := 16, acc := .rc }
def SIO_CNT_RESET : PDesc := { name := "SIO.CNT_RESET", kind := .lane, block := 0x17, index := 0x65, width := 16, acc := .rc }

/-- The rows of this map, in table order. -/
def laneSIOMap : List PDesc :=
  [SIO_IN, SIO_RAW, SIO_FILTER, SIO_TP_SRC, SIO_PAIR_FUNC, SIO_PAIR_TYPE, SIO_DISC_TICKS, SIO_TP_EN, SIO_TP_PERIOD, SIO_TP_WIDTH, SIO_TP_SETTLE, SIO_TP_ERR_LIM] ++
  [SIO_ACK_FILTER, SIO_ACK_MIN, SIO_ACK_MAX, SIO_ACK_AGREE, SIO_RESET_SRC, SIO_ESTOP_FORCE, SIO_TRIP_TQ, SIO_TRIP_BRIDGES, SIO_ESTOP_HOLD, SIO_HOLD_TIME, SIO_TRIP, SIO_TRIP_SRC] ++
  [SIO_DISC, SIO_FAULT, SIO_TP_FAULT, SIO_RESET_STATE, SIO_LAST_PRESS, SIO_LAST_LAG, SIO_CFG_CRC, SIO_CNT_TRIP, SIO_CNT_DISC, SIO_CNT_TP_ERR, SIO_CNT_ACK_REJECT, SIO_CNT_TRIP_LATE] ++
  [SIO_CNT_RESET]

/-! VOT, every lane die: R384 of spec/14_two_fault_behaviour.md. -/

def VOT_MODE : PDesc := { name := "VOT.MODE", kind := .lane, block := 0x1a, index := 0x40, width := 3, acc := .ro }
def VOT_MODE_CAUSE : PDesc := { name := "VOT.MODE_CAUSE", kind := .lane, block := 0x1a, index := 0x41, width := 64, acc := .ro }
def VOT_WARN : PDesc := { name := "VOT.WARN", kind := .lane, block := 0x1a, index := 0x42, width := 10, acc := .ro }
def VOT_AN_CRIT : PDesc := { name := "VOT.AN_CRIT", kind := .lane, block := 0x1a, index := 0x43, width := 8, acc := .rws, reset := 255 }
def VOT_DI_CRIT : PDesc := { name := "VOT.DI_CRIT", kind := .lane, block := 0x1a, index := 0x44, width := 32, acc := .rws, reset := 4294967295 }
def VOT_STOP_FORCE : PDesc := { name := "VOT.STOP_FORCE", kind := .lane, block := 0x1a, index := 0x45, width := 32, acc := .rws, lo := 1, hi := 4 }
def VOT_STOP_RATE : PDesc := { name := "VOT.STOP_RATE", kind := .lane, block := 0x1a, index := 0x46, width := 32, acc := .rws, lo := 1, hi := 4 }
def VOT_STOP_STEER_TO : PDesc := { name := "VOT.STOP_STEER_TO", kind := .lane, block := 0x1a, index := 0x47, width := 16, acc := .rws, range := .span 50 10000, reset := 500 }
def VOT_STOP_HOLD_TIME : PDesc := { name := "VOT.STOP_HOLD_TIME", kind := .lane, block := 0x1a, index := 0x48, width := 12, acc := .rws, range := .span 100 4000, reset := 500 }
def VOT_STOP_MAX : PDesc := { name := "VOT.STOP_MAX", kind := .lane, block := 0x1a, index := 0x49, width := 16, acc := .rws, range := .span 5000 60000, reset := 30000 }
def VOT_TWL_LOSS : PDesc := { name := "VOT.TWL_LOSS", kind := .lane, block := 0x1a, index := 0x4a, width := 8, acc := .rws, range := .span 5 200, reset := 20 }
def VOT_RESUME_EN : PDesc := { name := "VOT.RESUME_EN", kind := .lane, block := 0x1a, index := 0x4b, width := 1, acc := .rws }
def VOT_WINDINGS : PDesc := { name := "VOT.WINDINGS", kind := .lane, block := 0x1a, index := 0x4c, width := 2, acc := .ro, lo := 0, hi := 7 }
def VOT_CNT_MODE : PDesc := { name := "VOT.CNT_MODE", kind := .lane, block := 0x1a, index := 0x50, width := 16, acc := .rc }

/-- The rows of this map, in table order. -/
def laneVOTxMap : List PDesc :=
  [VOT_MODE, VOT_MODE_CAUSE, VOT_WARN, VOT_AN_CRIT, VOT_DI_CRIT, VOT_STOP_FORCE, VOT_STOP_RATE, VOT_STOP_STEER_TO, VOT_STOP_HOLD_TIME, VOT_STOP_MAX, VOT_TWL_LOSS, VOT_RESUME_EN] ++
  [VOT_WINDINGS, VOT_CNT_MODE]

/-! TWL, every lane die: R422 of spec/15_towline_bus.md. -/

def TWL_EN : PDesc := { name := "TWL.EN", kind := .lane, block := 0x18, index := 0x1, width := 1, acc := .rws }
def TWL_NODE : PDesc := { name := "TWL.NODE", kind := .lane, block := 0x18, index := 0x2, width := 4, acc := .rws }
def TWL_CYCLE_LEN : PDesc := { name := "TWL.CYCLE_LEN", kind := .lane, block := 0x18, index := 0x3, width := 14, acc := .rws, range := .span 250 10000, reset := 1000 }
def TWL_NIT_LEN : PDesc := { name := "TWL.NIT_LEN", kind := .lane, block := 0x18, index := 0x4, width := 10, acc := .rws, range := .span 10 1000, reset := 20 }
def TWL_SAMPLE_OFFSET : PDesc := { name := "TWL.SAMPLE_OFFSET", kind := .lane, block := 0x18, index := 0x5, width := 14, acc := .rws, reset := 50 }
def TWL_LATCH_OFFSET : PDesc := { name := "TWL.LATCH_OFFSET", kind := .lane, block := 0x18, index := 0x6, width := 14, acc := .rws, reset := 900 }
def TWL_PATH_START : PDesc := { name := "TWL.PATH_START", kind := .lane, block := 0x18, index := 0x10, width := 14, acc := .rws, lo := 0, hi := 63 }
def TWL_PATH_LEN : PDesc := { name := "TWL.PATH_LEN", kind := .lane, block := 0x18, index := 0x11, width := 14, acc := .rws, lo := 0, hi := 63 }
def TWL_PATH_OWNER : PDesc := { name := "TWL.PATH_OWNER", kind := .lane, block := 0x18, index := 0x12, width := 4, acc := .rws, lo := 0, hi := 63 }
def TWL_PATH_KIND : PDesc := { name := "TWL.PATH_KIND", kind := .lane, block := 0x18, index := 0x13, width := 2, acc := .rws, lo := 0, hi := 63 }
def TWL_PATH_PAYLOAD : PDesc := { name := "TWL.PATH_PAYLOAD", kind := .lane, block := 0x18, index := 0x14, width := 7, acc := .rws, lo := 0, hi := 63, range := .span 0 64 }
def TWL_COLDSTART_NODES : PDesc := { name := "TWL.COLDSTART_NODES", kind := .lane, block := 0x18, index := 0x15, width := 16, acc := .rws }
def TWL_ACK_SET : PDesc := { name := "TWL.ACK_SET", kind := .lane, block := 0x18, index := 0x16, width := 16, acc := .rws }
def TWL_DELAY_COMP : PDesc := { name := "TWL.DELAY_COMP", kind := .lane, block := 0x18, index := 0x17, width := 6, acc := .rws, range := .span 0 40 }
def TWL_OFFSET_LIM : PDesc := { name := "TWL.OFFSET_LIM", kind := .lane, block := 0x18, index := 0x18, width := 7, acc := .rws, range := .span 4 80, reset := 40 }
def TWL_COLDSTART_TRIES : PDesc := { name := "TWL.COLDSTART_TRIES", kind := .lane, block := 0x18, index := 0x19, width := 4, acc := .rws, range := .span 1 15, reset := 8 }
def TWL_RAIL_LOSS : PDesc := { name := "TWL.RAIL_LOSS", kind := .lane, block := 0x18, index := 0x1a, width := 4, acc := .rws, range := .span 2 15, reset := 4 }
def TWL_TX_MAP : PDesc := { name := "TWL.TX_MAP", kind := .lane, block := 0x18, index := 0x20, width := 32, acc := .rws, lo := 0, hi := 11 }
def TWL_RX_PATH : PDesc := { name := "TWL.RX_PATH", kind := .lane, block := 0x18, index := 0x21, width := 7, acc := .rws, lo := 0, hi := 7, range := .spanOr 0 63 127, reset := 127 }
def TWL_STATE : PDesc := { name := "TWL.STATE", kind := .lane, block := 0x18, index := 0x30, width := 3, acc := .ro }
def TWL_CYCLE : PDesc := { name := "TWL.CYCLE", kind := .lane, block := 0x18, index := 0x31, width := 32, acc := .ro }
def TWL_TT_DIGEST : PDesc := { name := "TWL.TT_DIGEST", kind := .lane, block := 0x18, index := 0x32, width := 32, acc := .ro }
def TWL_OFFSET_CORR : PDesc := { name := "TWL.OFFSET_CORR", kind := .lane, block := 0x18, index := 0x33, width := 16, acc := .ro }
def TWL_RATE_CORR : PDesc := { name := "TWL.RATE_CORR", kind := .lane, block := 0x18, index := 0x34, width := 32, acc := .ro }
def TWL_SYNC_SEEN : PDesc := { name := "TWL.SYNC_SEEN", kind := .lane, block := 0x18, index := 0x35, width := 16, acc := .ro }
def TWL_RAIL_STATE : PDesc := { name := "TWL.RAIL_STATE", kind := .lane, block := 0x18, index := 0x36, width := 2, acc := .ro }
def TWL_ACK_VEC : PDesc := { name := "TWL.ACK_VEC", kind := .lane, block := 0x18, index := 0x37, width := 64, acc := .ro }
def TWL_LAST_RX_ERR : PDesc := { name := "TWL.LAST_RX_ERR", kind := .lane, block := 0x18, index := 0x38, width := 4, acc := .ro }
def TWL_LAST_SYNC_LOSS : PDesc := { name := "TWL.LAST_SYNC_LOSS", kind := .lane, block := 0x18, index := 0x39, width := 64, acc := .ro }
def TWL_RX_WORD : PDesc := { name := "TWL.RX_WORD", kind := .lane, block := 0x18, index := 0x40, width := 32, acc := .ro, lo := 0, hi := 127 }
def TWL_RX_AGE : PDesc := { name := "TWL.RX_AGE", kind := .lane, block := 0x18, index := 0x41, width := 8, acc := .ro, lo := 0, hi := 7, reset := 255 }
def TWL_CNT_RX_OK : PDesc := { name := "TWL.CNT_RX_OK", kind := .lane, block := 0x18, index := 0x50, width := 32, acc := .rc, lo := 0, hi := 1 }
def TWL_CNT_RX_ERR : PDesc := { name := "TWL.CNT_RX_ERR", kind := .lane, block := 0x18, index := 0x51, width := 32, acc := .rc, lo := 0, hi := 1 }
def TWL_CNT_TX_ERR : PDesc := { name := "TWL.CNT_TX_ERR", kind := .lane, block := 0x18, index := 0x52, width := 16, acc := .rc, lo := 0, hi := 1 }
def TWL_CNT_RESEND : PDesc := { name := "TWL.CNT_RESEND", kind := .lane, block := 0x18, index := 0x53, width := 16, acc := .rc }
def TWL_CNT_RESEND_LOST : PDesc := { name := "TWL.CNT_RESEND_LOST", kind := .lane, block := 0x18, index := 0x54, width := 16, acc := .rc }
def TWL_CNT_OFFSET_CLAMP : PDesc := { name := "TWL.CNT_OFFSET_CLAMP", kind := .lane, block := 0x18, index := 0x55, width := 16, acc := .rc }
def TWL_CNT_RATE_CLAMP : PDesc := { name := "TWL.CNT_RATE_CLAMP", kind := .lane, block := 0x18, index := 0x56, width := 16, acc := .rc }
def TWL_CNT_SYNC_LOSS : PDesc := { name := "TWL.CNT_SYNC_LOSS", kind := .lane, block := 0x18, index := 0x57, width := 16, acc := .rc }
def TWL_CNT_COLDSTART : PDesc := { name := "TWL.CNT_COLDSTART", kind := .lane, block := 0x18, index := 0x58, width := 8, acc := .rc }
def TWL_CNT_TT_MISMATCH : PDesc := { name := "TWL.CNT_TT_MISMATCH", kind := .lane, block := 0x18, index := 0x59, width := 16, acc := .rc }

/-- The rows of this map, in table order. -/
def laneTWLMap : List PDesc :=
  [TWL_EN, TWL_NODE, TWL_CYCLE_LEN, TWL_NIT_LEN, TWL_SAMPLE_OFFSET, TWL_LATCH_OFFSET, TWL_PATH_START, TWL_PATH_LEN, TWL_PATH_OWNER, TWL_PATH_KIND, TWL_PATH_PAYLOAD, TWL_COLDSTART_NODES] ++
  [TWL_ACK_SET, TWL_DELAY_COMP, TWL_OFFSET_LIM, TWL_COLDSTART_TRIES, TWL_RAIL_LOSS, TWL_TX_MAP, TWL_RX_PATH, TWL_STATE, TWL_CYCLE, TWL_TT_DIGEST, TWL_OFFSET_CORR, TWL_RATE_CORR] ++
  [TWL_SYNC_SEEN, TWL_RAIL_STATE, TWL_ACK_VEC, TWL_LAST_RX_ERR, TWL_LAST_SYNC_LOSS, TWL_RX_WORD, TWL_RX_AGE, TWL_CNT_RX_OK, TWL_CNT_RX_ERR, TWL_CNT_TX_ERR, TWL_CNT_RESEND, TWL_CNT_RESEND_LOST] ++
  [TWL_CNT_OFFSET_CLAMP, TWL_CNT_RATE_CLAMP, TWL_CNT_SYNC_LOSS, TWL_CNT_COLDSTART, TWL_CNT_TT_MISMATCH]

/-! LKG, every lane die: R423 of spec/15_towline_bus.md. -/

def LKG_STATE : PDesc := { name := "LKG.STATE", kind := .lane, block := 0x19, index := 0x1, width := 3, acc := .ro }
def LKG_TT_CRC : PDesc := { name := "LKG.TT_CRC", kind := .lane, block := 0x19, index := 0x2, width := 32, acc := .ro }
def LKG_PULL : PDesc := { name := "LKG.PULL", kind := .lane, block := 0x19, index := 0x3, width := 16, acc := .ro }
def LKG_TRIM : PDesc := { name := "LKG.TRIM", kind := .lane, block := 0x19, index := 0x4, width := 32, acc := .ro }
def LKG_OSC_FREQ : PDesc := { name := "LKG.OSC_FREQ", kind := .lane, block := 0x19, index := 0x5, width := 32, acc := .ro }
def LKG_CNT_BLOCK : PDesc := { name := "LKG.CNT_BLOCK", kind := .lane, block := 0x19, index := 0x10, width := 32, acc := .rc }
def LKG_CNT_CUT : PDesc := { name := "LKG.CNT_CUT", kind := .lane, block := 0x19, index := 0x11, width := 16, acc := .rc }
def LKG_CNT_PULL_LIM : PDesc := { name := "LKG.CNT_PULL_LIM", kind := .lane, block := 0x19, index := 0x12, width := 16, acc := .rc }
def LKG_CNT_BLOCKED : PDesc := { name := "LKG.CNT_BLOCKED", kind := .lane, block := 0x19, index := 0x13, width := 16, acc := .rc }

/-- The rows of this map, in table order. -/
def laneLKGMap : List PDesc :=
  [LKG_STATE, LKG_TT_CRC, LKG_PULL, LKG_TRIM, LKG_OSC_FREQ, LKG_CNT_BLOCK, LKG_CNT_CUT, LKG_CNT_PULL_LIM, LKG_CNT_BLOCKED]

/-! TRX, every power die: R424 of spec/15_towline_bus.md. -/

def TRX_RAIL_EN : PDesc := { name := "TRX.RAIL_EN", kind := .power, block := 0x23, index := 0x1, width := 2, acc := .rws, reset := 3 }
def TRX_STATUS : PDesc := { name := "TRX.STATUS", kind := .power, block := 0x23, index := 0x2, width := 8, acc := .ro }
def TRX_VCM : PDesc := { name := "TRX.VCM", kind := .power, block := 0x23, index := 0x3, width := 16, acc := .ro, lo := 0, hi := 1 }
def TRX_CNT_OVC : PDesc := { name := "TRX.CNT_OVC", kind := .power, block := 0x23, index := 0x10, width := 16, acc := .rc, lo := 0, hi := 1 }
def TRX_CNT_READBACK : PDesc := { name := "TRX.CNT_READBACK", kind := .power, block := 0x23, index := 0x11, width := 16, acc := .rc, lo := 0, hi := 1 }

/-- The rows of this map, in table order. -/
def powerTRXMap : List PDesc :=
  [TRX_RAIL_EN, TRX_STATUS, TRX_VCM, TRX_CNT_OVC, TRX_CNT_READBACK]

/-! DPT, every lane die: R445 of spec/16_dispatcher.md. -/

def DPT_TASKS_USED : PDesc := { name := "DPT.TASKS_USED", kind := .lane, block := 0x6, index := 0x1, width := 9, acc := .ro }
def DPT_CTX_USED : PDesc := { name := "DPT.CTX_USED", kind := .lane, block := 0x6, index := 0x2, width := 6, acc := .ro }
def DPT_CMP_USED : PDesc := { name := "DPT.CMP_USED", kind := .lane, block := 0x6, index := 0x3, width := 7, acc := .ro }
def DPT_DLIST_LEN : PDesc := { name := "DPT.DLIST_LEN", kind := .lane, block := 0x6, index := 0x4, width := 9, acc := .ro }
def DPT_TASK_STATE : PDesc := { name := "DPT.TASK_STATE", kind := .lane, block := 0x6, index := 0x10, width := 3, acc := .ro, lo := 0, hi := 255 }
def DPT_TASK_PRIO : PDesc := { name := "DPT.TASK_PRIO", kind := .lane, block := 0x6, index := 0x11, width := 6, acc := .ro, lo := 0, hi := 255 }
def DPT_TASK_MAX_LAT : PDesc := { name := "DPT.TASK_MAX_LAT", kind := .lane, block := 0x6, index := 0x12, width := 16, acc := .ro, lo := 0, hi := 255 }
def DPT_CNT_TIMEOUT : PDesc := { name := "DPT.CNT_TIMEOUT", kind := .lane, block := 0x6, index := 0x13, width := 16, acc := .rc, lo := 0, hi := 255 }
def DPT_CNT_SPILL : PDesc := { name := "DPT.CNT_SPILL", kind := .lane, block := 0x6, index := 0x14, width := 32, acc := .rc }
def DPT_CNT_DLIST : PDesc := { name := "DPT.CNT_DLIST", kind := .lane, block := 0x6, index := 0x15, width := 32, acc := .rc }
def DPT_ORD_STATE : PDesc := { name := "DPT.ORD_STATE", kind := .lane, block := 0x6, index := 0x40, width := 3, acc := .ro, lo := 0, hi := 63 }
def DPT_ORD_COUNT : PDesc := { name := "DPT.ORD_COUNT", kind := .lane, block := 0x6, index := 0x41, width := 6, acc := .ro, lo := 0, hi := 63 }
def DPT_ORD_BYTES : PDesc := { name := "DPT.ORD_BYTES", kind := .lane, block := 0x6, index := 0x42, width := 16, acc := .ro, lo := 0, hi := 63 }
def DPT_ORD_TRIG : PDesc := { name := "DPT.ORD_TRIG", kind := .lane, block := 0x6, index := 0x43, width := 96, acc := .ro, lo := 0, hi := 63 }
def DPT_ORD_CRC : PDesc := { name := "DPT.ORD_CRC", kind := .lane, block := 0x6, index := 0x44, width := 32, acc := .ro, lo := 0, hi := 63 }
def DPT_ORD_STATUS : PDesc := { name := "DPT.ORD_STATUS", kind := .lane, block := 0x6, index := 0x45, width := 64, acc := .ro, lo := 0, hi := 63 }
def DPT_ORD_STORE_FREE : PDesc := { name := "DPT.ORD_STORE_FREE", kind := .lane, block := 0x6, index := 0x46, width := 19, acc := .ro, reset := 262144 }
def DPT_CNT_ORD_RUN : PDesc := { name := "DPT.CNT_ORD_RUN", kind := .lane, block := 0x6, index := 0x50, width := 16, acc := .rc, lo := 0, hi := 63 }
def DPT_CNT_ORD_FAIL : PDesc := { name := "DPT.CNT_ORD_FAIL", kind := .lane, block := 0x6, index := 0x51, width := 16, acc := .rc, lo := 0, hi := 63 }
def DPT_CNT_ORD_OVERLAP : PDesc := { name := "DPT.CNT_ORD_OVERLAP", kind := .lane, block := 0x6, index := 0x52, width := 16, acc := .rc, lo := 0, hi := 63 }
def DPT_CNT_ORD_MISSED : PDesc := { name := "DPT.CNT_ORD_MISSED", kind := .lane, block := 0x6, index := 0x53, width := 16, acc := .rc, lo := 0, hi := 63 }

/-- The rows of this map, in table order. -/
def laneDPTMap : List PDesc :=
  [DPT_TASKS_USED, DPT_CTX_USED, DPT_CMP_USED, DPT_DLIST_LEN, DPT_TASK_STATE, DPT_TASK_PRIO, DPT_TASK_MAX_LAT, DPT_CNT_TIMEOUT, DPT_CNT_SPILL, DPT_CNT_DLIST, DPT_ORD_STATE, DPT_ORD_COUNT] ++
  [DPT_ORD_BYTES, DPT_ORD_TRIG, DPT_ORD_CRC, DPT_ORD_STATUS, DPT_ORD_STORE_FREE, DPT_CNT_ORD_RUN, DPT_CNT_ORD_FAIL, DPT_CNT_ORD_OVERLAP, DPT_CNT_ORD_MISSED]

/-! FAB, every region: R470 of spec/17_fabric_and_arbitration.md. -/

def FAB_PHASE : PDesc := { name := "FAB.PHASE", kind := .every, block := 0x7, index := 0x1, width := 2, acc := .ro }
def FAB_CLASS : PDesc := { name := "FAB.CLASS", kind := .every, block := 0x7, index := 0x2, width := 2, acc := .ro, lo := 0, hi := 13 }
def FAB_PRIO : PDesc := { name := "FAB.PRIO", kind := .every, block := 0x7, index := 0x3, width := 4, acc := .rws, lo := 0, hi := 13 }
def FAB_REGION_EPOCH : PDesc := { name := "FAB.REGION_EPOCH", kind := .every, block := 0x7, index := 0x4, width := 32, acc := .ro, nonvol := true }
def FAB_PEER_EPOCH : PDesc := { name := "FAB.PEER_EPOCH", kind := .every, block := 0x7, index := 0x5, width := 32, acc := .ro, lo := 1, hi := 3 }
def FAB_CNT_GRANT : PDesc := { name := "FAB.CNT_GRANT", kind := .every, block := 0x7, index := 0x10, width := 32, acc := .ro, lo := 0, hi := 13 }
def FAB_CNT_WAIT : PDesc := { name := "FAB.CNT_WAIT", kind := .every, block := 0x7, index := 0x11, width := 32, acc := .ro, lo := 0, hi := 13 }
def FAB_MAX_WAIT : PDesc := { name := "FAB.MAX_WAIT", kind := .every, block := 0x7, index := 0x12, width := 16, acc := .ro, lo := 0, hi := 13 }
def FAB_CNT_DEAD : PDesc := { name := "FAB.CNT_DEAD", kind := .every, block := 0x7, index := 0x13, width := 16, acc := .ro, lo := 0, hi := 13 }
def FAB_CNT_BG_FORCED : PDesc := { name := "FAB.CNT_BG_FORCED", kind := .every, block := 0x7, index := 0x14, width := 32, acc := .ro }
def FAB_CNT_CLEAR : PDesc := { name := "FAB.CNT_CLEAR", kind := .every, block := 0x7, index := 0x15, width := 1, acc := .wo }
def FAB_GATED_TOUCH : PDesc := { name := "FAB.GATED_TOUCH", kind := .every, block := 0x7, index := 0x20, width := 16, acc := .rc }
def FAB_LAST_TOUCH : PDesc := { name := "FAB.LAST_TOUCH", kind := .every, block := 0x7, index := 0x21, width := 16, acc := .ro }
def FAB_CNT_GATE_FORCE : PDesc := { name := "FAB.CNT_GATE_FORCE", kind := .every, block := 0x7, index := 0x22, width := 16, acc := .rc }
def FAB_LOCK_STATE : PDesc := { name := "FAB.LOCK_STATE", kind := .every, block := 0x7, index := 0x30, width := 2, acc := .ro, lo := 0, hi := 1 }
def FAB_LOCK_OWNER : PDesc := { name := "FAB.LOCK_OWNER", kind := .every, block := 0x7, index := 0x31, width := 4, acc := .ro, lo := 0, hi := 1 }
def FAB_LOCK_EPOCH : PDesc := { name := "FAB.LOCK_EPOCH", kind := .every, block := 0x7, index := 0x32, width := 32, acc := .ro, lo := 0, hi := 1 }
def FAB_LOCK_HOLD : PDesc := { name := "FAB.LOCK_HOLD", kind := .every, block := 0x7, index := 0x33, width := 1, acc := .rw, lo := 0, hi := 1 }
def FAB_LOCK_IDLE : PDesc := { name := "FAB.LOCK_IDLE", kind := .every, block := 0x7, index := 0x34, width := 14, acc := .rws, range := .span 50 10000, reset := 500 }
def FAB_LOCK_JOURNAL : PDesc := { name := "FAB.LOCK_JOURNAL", kind := .every, block := 0x7, index := 0x35, width := 19, acc := .ro, lo := 0, hi := 1 }
def FAB_LOCK_ROLLBACK : PDesc := { name := "FAB.LOCK_ROLLBACK", kind := .every, block := 0x7, index := 0x36, width := 1, acc := .wo, lo := 0, hi := 1 }
def FAB_CNT_LOCKED : PDesc := { name := "FAB.CNT_LOCKED", kind := .every, block := 0x7, index := 0x40, width := 16, acc := .rc }
def FAB_CNT_LOCK_RECOVER : PDesc := { name := "FAB.CNT_LOCK_RECOVER", kind := .every, block := 0x7, index := 0x41, width := 16, acc := .rc }

/-- The rows of this map, in table order. -/
def everyFABMap : List PDesc :=
  [FAB_PHASE, FAB_CLASS, FAB_PRIO, FAB_REGION_EPOCH, FAB_PEER_EPOCH, FAB_CNT_GRANT, FAB_CNT_WAIT, FAB_MAX_WAIT, FAB_CNT_DEAD, FAB_CNT_BG_FORCED, FAB_CNT_CLEAR, FAB_GATED_TOUCH] ++
  [FAB_LAST_TOUCH, FAB_CNT_GATE_FORCE, FAB_LOCK_STATE, FAB_LOCK_OWNER, FAB_LOCK_EPOCH, FAB_LOCK_HOLD, FAB_LOCK_IDLE, FAB_LOCK_JOURNAL, FAB_LOCK_ROLLBACK, FAB_CNT_LOCKED, FAB_CNT_LOCK_RECOVER]

/-! MEM, every lane die: R471 of spec/17_fabric_and_arbitration.md. -/

def MEM_SCRUB_SRAM_PERIOD : PDesc := { name := "MEM.SCRUB_SRAM_PERIOD", kind := .lane, block := 0x8, index := 0x1, width := 16, acc := .ro, reset := 4000 }
def MEM_SCRUB_MRAM_PERIOD : PDesc := { name := "MEM.SCRUB_MRAM_PERIOD", kind := .lane, block := 0x8, index := 0x2, width := 16, acc := .ro, reset := 3600 }
def MEM_SCRUB_LAST : PDesc := { name := "MEM.SCRUB_LAST", kind := .lane, block := 0x8, index := 0x3, width := 16, acc := .ro }
def MEM_SPARE_USED : PDesc := { name := "MEM.SPARE_USED", kind := .lane, block := 0x8, index := 0x4, width := 8, acc := .ro, nonvol := true }
def MEM_POISONED : PDesc := { name := "MEM.POISONED", kind := .lane, block := 0x8, index := 0x5, width := 16, acc := .ro }
def MEM_LAST_ERR : PDesc := { name := "MEM.LAST_ERR", kind := .lane, block := 0x8, index := 0x6, width := 64, acc := .ro, nonvol := true }
def MEM_CNT_REREAD : PDesc := { name := "MEM.CNT_REREAD", kind := .lane, block := 0x8, index := 0x10, width := 32, acc := .rc }
def MEM_CNT_REPAIR : PDesc := { name := "MEM.CNT_REPAIR", kind := .lane, block := 0x8, index := 0x11, width := 16, acc := .rc }
def MEM_CNT_REPAIR_FAIL : PDesc := { name := "MEM.CNT_REPAIR_FAIL", kind := .lane, block := 0x8, index := 0x12, width := 16, acc := .rc }
def MEM_CNT_REMAP : PDesc := { name := "MEM.CNT_REMAP", kind := .lane, block := 0x8, index := 0x13, width := 8, acc := .rc }
def MEM_CNT_CONTAINED : PDesc := { name := "MEM.CNT_CONTAINED", kind := .lane, block := 0x8, index := 0x14, width := 16, acc := .rc }

/-- The rows of this map, in table order. -/
def laneMEMMap : List PDesc :=
  [MEM_SCRUB_SRAM_PERIOD, MEM_SCRUB_MRAM_PERIOD, MEM_SCRUB_LAST, MEM_SPARE_USED, MEM_POISONED, MEM_LAST_ERR, MEM_CNT_REREAD, MEM_CNT_REPAIR, MEM_CNT_REPAIR_FAIL, MEM_CNT_REMAP, MEM_CNT_CONTAINED]

/-! FCL, every region: R488 of spec/18_fault_collection.md. -/

def FCL_ERR_STATUS : PDesc := { name := "FCL.ERR_STATUS", kind := .every, block := 0x9, index := 0x1, width := 64, acc := .w1c }
def FCL_LATCHED : PDesc := { name := "FCL.LATCHED", kind := .every, block := 0x9, index := 0x2, width := 64, acc := .w1c, nonvol := true }
def FCL_RAW : PDesc := { name := "FCL.RAW", kind := .every, block := 0x9, index := 0x3, width := 64, acc := .ro }
def FCL_CLASS : PDesc := { name := "FCL.CLASS", kind := .every, block := 0x9, index := 0x10, width := 4, acc := .ro, lo := 0, hi := 63 }
def FCL_REACT : PDesc := { name := "FCL.REACT", kind := .every, block := 0x9, index := 0x11, width := 6, acc := .rws, lo := 0, hi := 63 }
def FCL_REACT_FIXED : PDesc := { name := "FCL.REACT_FIXED", kind := .every, block := 0x9, index := 0x12, width := 6, acc := .ro, lo := 0, hi := 63 }
def FCL_QUIET : PDesc := { name := "FCL.QUIET", kind := .every, block := 0x9, index := 0x13, width := 14, acc := .rws, lo := 0, hi := 63, range := .span 1 10000, reset := 100 }
def FCL_REC_LIMIT : PDesc := { name := "FCL.REC_LIMIT", kind := .every, block := 0x9, index := 0x14, width := 8, acc := .rws, lo := 0, hi := 63, reset := 3 }
def FCL_REC_WIN : PDesc := { name := "FCL.REC_WIN", kind := .every, block := 0x9, index := 0x15, width := 17, acc := .rws, lo := 0, hi := 63, range := .span 1 86400, reset := 600 }
def FCL_REC_COUNT : PDesc := { name := "FCL.REC_COUNT", kind := .every, block := 0x9, index := 0x16, width := 8, acc := .ro, lo := 0, hi := 63 }
def FCL_LAST : PDesc := { name := "FCL.LAST", kind := .every, block := 0x9, index := 0x17, width := 64, acc := .ro, lo := 0, hi := 63 }
def FCL_TROUBLE : PDesc := { name := "FCL.TROUBLE", kind := .every, block := 0x9, index := 0x20, width := 16, acc := .ro, lo := 0, hi := 63, nonvol := true }
def FCL_TROUBLE_CLEAR : PDesc := { name := "FCL.TROUBLE_CLEAR", kind := .every, block := 0x9, index := 0x21, width := 1, acc := .wo }
def FCL_FIRST : PDesc := { name := "FCL.FIRST", kind := .every, block := 0x9, index := 0x30, width := 64, acc := .w1c }
def FCL_LAST_RESET : PDesc := { name := "FCL.LAST_RESET", kind := .every, block := 0x9, index := 0x31, width := 64, acc := .ro, nonvol := true }
def FCL_PIN : PDesc := { name := "FCL.PIN", kind := .every, block := 0x9, index := 0x32, width := 1, acc := .ro, reset := 1 }
def FCL_FAULT_MIN : PDesc := { name := "FCL.FAULT_MIN", kind := .every, block := 0x9, index := 0x33, width := 10, acc := .rws, range := .span 1 1000, reset := 10 }
def FCL_TEST_EVENTS : PDesc := { name := "FCL.TEST_EVENTS", kind := .every, block := 0x9, index := 0x34, width := 16, acc := .rc }
def FCL_CNT_BLOCK_RESET : PDesc := { name := "FCL.CNT_BLOCK_RESET", kind := .every, block := 0x9, index := 0x40, width := 16, acc := .rc }

/-- The rows of this map, in table order. -/
def everyFCLMap : List PDesc :=
  [FCL_ERR_STATUS, FCL_LATCHED, FCL_RAW, FCL_CLASS, FCL_REACT, FCL_REACT_FIXED, FCL_QUIET, FCL_REC_LIMIT, FCL_REC_WIN, FCL_REC_COUNT, FCL_LAST, FCL_TROUBLE] ++
  [FCL_TROUBLE_CLEAR, FCL_FIRST, FCL_LAST_RESET, FCL_PIN, FCL_FAULT_MIN, FCL_TEST_EVENTS, FCL_CNT_BLOCK_RESET]

/-! BST, every lane die: R505 of spec/19_self_test.md. -/

def BST_STATE : PDesc := { name := "BST.STATE", kind := .lane, block := 0xa, index := 0x1, width := 3, acc := .ro }
def BST_REMAIN : PDesc := { name := "BST.REMAIN", kind := .lane, block := 0xa, index := 0x2, width := 32, acc := .ro }
def BST_SHUTDOWN_EN : PDesc := { name := "BST.SHUTDOWN_EN", kind := .lane, block := 0xa, index := 0x3, width := 1, acc := .rws, reset := 1 }
def BST_REC_VALID : PDesc := { name := "BST.REC_VALID", kind := .lane, block := 0xa, index := 0x4, width := 1, acc := .ro, nonvol := true }
def BST_REC : PDesc := { name := "BST.REC", kind := .lane, block := 0xa, index := 0x5, width := 256, acc := .ro, nonvol := true }
def BST_REC_AGE : PDesc := { name := "BST.REC_AGE", kind := .lane, block := 0xa, index := 0x6, width := 16, acc := .ro, nonvol := true }
def BST_OP_TIME : PDesc := { name := "BST.OP_TIME", kind := .lane, block := 0xa, index := 0x7, width := 32, acc := .ro, nonvol := true }
def BST_CONV_RESULT : PDesc := { name := "BST.CONV_RESULT", kind := .lane, block := 0xa, index := 0x10, width := 14, acc := .ro, lo := 0, hi := 5 }
def BST_CNT_ROLLING : PDesc := { name := "BST.CNT_ROLLING", kind := .lane, block := 0xa, index := 0x20, width := 16, acc := .rc }
def BST_CNT_ABORT : PDesc := { name := "BST.CNT_ABORT", kind := .lane, block := 0xa, index := 0x21, width := 16, acc := .rc }
def BST_CNT_FAIL : PDesc := { name := "BST.CNT_FAIL", kind := .lane, block := 0xa, index := 0x22, width := 16, acc := .rc }
def BST_CNT_INJECT : PDesc := { name := "BST.CNT_INJECT", kind := .lane, block := 0xa, index := 0x23, width := 16, acc := .rc }

/-- The rows of this map, in table order. -/
def laneBSTMap : List PDesc :=
  [BST_STATE, BST_REMAIN, BST_SHUTDOWN_EN, BST_REC_VALID, BST_REC, BST_REC_AGE, BST_OP_TIME, BST_CONV_RESULT, BST_CNT_ROLLING, BST_CNT_ABORT, BST_CNT_FAIL, BST_CNT_INJECT]

/-! CLK, every lane die: R532 of spec/20_clocks_and_power.md. -/

def CLK_STATE : PDesc := { name := "CLK.STATE", kind := .lane, block := 0xb, index := 0x1, width := 3, acc := .ro }
def CLK_CLKIN_FREQ : PDesc := { name := "CLK.CLKIN_FREQ", kind := .lane, block := 0xb, index := 0x2, width := 16, acc := .rws, range := .span 16000 40000, reset := 25000 }
def CLK_CLKIN_AMP : PDesc := { name := "CLK.CLKIN_AMP", kind := .lane, block := 0xb, index := 0x3, width := 12, acc := .ro }
def CLK_CLKIN_MEAS : PDesc := { name := "CLK.CLKIN_MEAS", kind := .lane, block := 0xb, index := 0x4, width := 32, acc := .ro }
def CLK_POINT : PDesc := { name := "CLK.POINT", kind := .lane, block := 0xb, index := 0x5, width := 2, acc := .ro }
def CLK_ISL_CFG : PDesc := { name := "CLK.ISL_CFG", kind := .lane, block := 0xb, index := 0x6, width := 7, acc := .rws, lo := 0, hi := 2 }
def CLK_FREQ : PDesc := { name := "CLK.FREQ", kind := .lane, block := 0xb, index := 0x7, width := 32, acc := .ro, lo := 0, hi := 7 }
def CLK_CLKOUT : PDesc := { name := "CLK.CLKOUT", kind := .lane, block := 0xb, index := 0x8, width := 12, acc := .rws, reset := 15 }
def CLK_GATE_EN : PDesc := { name := "CLK.GATE_EN", kind := .lane, block := 0xb, index := 0x9, width := 32, acc := .rws, reset := 134160382 }
def CLK_LAST_SWITCH : PDesc := { name := "CLK.LAST_SWITCH", kind := .lane, block := 0xb, index := 0xa, width := 64, acc := .ro }
def CLK_CNT_SWITCH_FORCED : PDesc := { name := "CLK.CNT_SWITCH_FORCED", kind := .lane, block := 0xb, index := 0x10, width := 16, acc := .rc }
def CLK_CNT_LOSS : PDesc := { name := "CLK.CNT_LOSS", kind := .lane, block := 0xb, index := 0x11, width := 16, acc := .rc }
def CLK_CNT_QUAL_RESTART : PDesc := { name := "CLK.CNT_QUAL_RESTART", kind := .lane, block := 0xb, index := 0x12, width := 16, acc := .rc }

/-- The rows of this map, in table order. -/
def laneCLKMap : List PDesc :=
  [CLK_STATE, CLK_CLKIN_FREQ, CLK_CLKIN_AMP, CLK_CLKIN_MEAS, CLK_POINT, CLK_ISL_CFG, CLK_FREQ, CLK_CLKOUT, CLK_GATE_EN, CLK_LAST_SWITCH, CLK_CNT_SWITCH_FORCED, CLK_CNT_LOSS] ++
  [CLK_CNT_QUAL_RESTART]

/-! PWR, every lane die: R533 of spec/20_clocks_and_power.md. -/

def PWR_STATE : PDesc := { name := "PWR.STATE", kind := .lane, block := 0xc, index := 0x1, width := 3, acc := .ro }
def PWR_WATCH_PERIOD : PDesc := { name := "PWR.WATCH_PERIOD", kind := .lane, block := 0xc, index := 0x2, width := 14, acc := .rws, range := .span 10 10000, reset := 200 }
def PWR_CREEP_CH : PDesc := { name := "PWR.CREEP_CH", kind := .lane, block := 0xc, index := 0x3, width := 8, acc := .rws }
def PWR_CREEP_TH : PDesc := { name := "PWR.CREEP_TH", kind := .lane, block := 0xc, index := 0x4, width := 16, acc := .rws, range := .span 1 65535, reset := 256 }
def PWR_PARK_FORCE : PDesc := { name := "PWR.PARK_FORCE", kind := .lane, block := 0xc, index := 0x5, width := 32, acc := .rws, lo := 1, hi := 4 }
def PWR_WAKE_EN : PDesc := { name := "PWR.WAKE_EN", kind := .lane, block := 0xc, index := 0x6, width := 6, acc := .rws, reset := 53 }
def PWR_WAKE_TIMER : PDesc := { name := "PWR.WAKE_TIMER", kind := .lane, block := 0xc, index := 0x7, width := 24, acc := .rws }
def PWR_LAST_WAKE : PDesc := { name := "PWR.LAST_WAKE", kind := .lane, block := 0xc, index := 0x10, width := 64, acc := .ro, nonvol := true }
def PWR_LAST_CHANGE : PDesc := { name := "PWR.LAST_CHANGE", kind := .lane, block := 0xc, index := 0x11, width := 64, acc := .ro }
def PWR_RET_STATUS : PDesc := { name := "PWR.RET_STATUS", kind := .lane, block := 0xc, index := 0x12, width := 16, acc := .ro }
def PWR_CREEP_POS : PDesc := { name := "PWR.CREEP_POS", kind := .lane, block := 0xc, index := 0x13, width := 32, acc := .ro, lo := 0, hi := 7 }
def PWR_CNT_WAKE : PDesc := { name := "PWR.CNT_WAKE", kind := .lane, block := 0xc, index := 0x20, width := 16, acc := .rc, lo := 1, hi := 8 }
def PWR_CNT_REFUSE : PDesc := { name := "PWR.CNT_REFUSE", kind := .lane, block := 0xc, index := 0x21, width := 16, acc := .rc }
def PWR_CNT_DELAY : PDesc := { name := "PWR.CNT_DELAY", kind := .lane, block := 0xc, index := 0x22, width := 16, acc := .rc }
def PWR_CNT_RET_FAIL : PDesc := { name := "PWR.CNT_RET_FAIL", kind := .lane, block := 0xc, index := 0x23, width := 16, acc := .rc }

/-- The rows of this map, in table order. -/
def lanePWRMap : List PDesc :=
  [PWR_STATE, PWR_WATCH_PERIOD, PWR_CREEP_CH, PWR_CREEP_TH, PWR_PARK_FORCE, PWR_WAKE_EN, PWR_WAKE_TIMER, PWR_LAST_WAKE, PWR_LAST_CHANGE, PWR_RET_STATUS, PWR_CREEP_POS, PWR_CNT_WAKE] ++
  [PWR_CNT_REFUSE, PWR_CNT_DELAY, PWR_CNT_RET_FAIL]

/-! SUP, every power die: R534 of spec/20_clocks_and_power.md. -/

def SUP_STATE : PDesc := { name := "SUP.STATE", kind := .power, block := 0x22, index := 0x1, width := 2, acc := .ro }
def SUP_VSUP : PDesc := { name := "SUP.VSUP", kind := .power, block := 0x22, index := 0x2, width := 16, acc := .ro }
def SUP_VIO : PDesc := { name := "SUP.VIO", kind := .power, block := 0x22, index := 0x3, width := 16, acc := .ro }
def SUP_VAUX : PDesc := { name := "SUP.VAUX", kind := .power, block := 0x22, index := 0x4, width := 16, acc := .ro }
def SUP_VCORE : PDesc := { name := "SUP.VCORE", kind := .power, block := 0x22, index := 0x5, width := 16, acc := .ro }
def SUP_VCORE_SET : PDesc := { name := "SUP.VCORE_SET", kind := .power, block := 0x22, index := 0x6, width := 16, acc := .ro, reset := 900 }
def SUP_FSW : PDesc := { name := "SUP.FSW", kind := .power, block := 0x22, index := 0x7, width := 2, acc := .rws, range := .span 0 2 }
def SUP_FAULT : PDesc := { name := "SUP.FAULT", kind := .power, block := 0x22, index := 0x8, width := 5, acc := .ro }
def SUP_CNT_BROWNOUT : PDesc := { name := "SUP.CNT_BROWNOUT", kind := .power, block := 0x22, index := 0x10, width := 16, acc := .rc }
def SUP_CNT_RAIL_ERR : PDesc := { name := "SUP.CNT_RAIL_ERR", kind := .power, block := 0x22, index := 0x11, width := 16, acc := .rc }
def SUP_CNT_OVERVOLT : PDesc := { name := "SUP.CNT_OVERVOLT", kind := .power, block := 0x22, index := 0x12, width := 16, acc := .rc }

/-- The rows of this map, in table order. -/
def powerSUPMap : List PDesc :=
  [SUP_STATE, SUP_VSUP, SUP_VIO, SUP_VAUX, SUP_VCORE, SUP_VCORE_SET, SUP_FSW, SUP_FAULT, SUP_CNT_BROWNOUT, SUP_CNT_RAIL_ERR, SUP_CNT_OVERVOLT]

/-! SMC, M: R559 of spec/21_stationmaster.md. -/

def SMC_LIFECYCLE : PDesc := { name := "SMC.LIFECYCLE", kind := .m, block := 0x40, index := 0x1, width := 3, acc := .ro, reset := 2, nonvol := true }
def SMC_SERIAL : PDesc := { name := "SMC.SERIAL", kind := .m, block := 0x40, index := 0x2, width := 128, acc := .ro, nonvol := true }
def SMC_IMAGE_DIGEST : PDesc := { name := "SMC.IMAGE_DIGEST", kind := .m, block := 0x40, index := 0x3, width := 128, acc := .ro }
def SMC_SVC_IP : PDesc := { name := "SMC.SVC_IP", kind := .m, block := 0x40, index := 0x10, width := 32, acc := .rws, reset := 3232238094 }
def SMC_SVC_MASK : PDesc := { name := "SMC.SVC_MASK", kind := .m, block := 0x40, index := 0x11, width := 32, acc := .rws, reset := 4294967040 }
def SMC_SVC_ROLE : PDesc := { name := "SMC.SVC_ROLE", kind := .m, block := 0x40, index := 0x12, width := 1, acc := .rws }

/-- The rows of this map, in table order. -/
def mSMCMap : List PDesc :=
  [SMC_LIFECYCLE, SMC_SERIAL, SMC_IMAGE_DIGEST, SMC_SVC_IP, SMC_SVC_MASK, SMC_SVC_ROLE]

/-! SNS, M: R559 of spec/21_stationmaster.md. -/

def SNS_TEMP : PDesc := { name := "SNS.TEMP", kind := .m, block := 0x45, index := 0x101, width := 16, acc := .ro, lo := 0, hi := 11 }
def SNS_TEMP_MAX : PDesc := { name := "SNS.TEMP_MAX", kind := .m, block := 0x45, index := 0x102, width := 16, acc := .ro, lo := 0, hi := 11, nonvol := true }
def SNS_TJ_WARN : PDesc := { name := "SNS.TJ_WARN", kind := .m, block := 0x45, index := 0x103, width := 16, acc := .rws, reset := 14000 }
def SNS_RAIL : PDesc := { name := "SNS.RAIL", kind := .m, block := 0x45, index := 0x104, width := 16, acc := .ro, lo := 0, hi := 5 }
def SNS_S_OSC : PDesc := { name := "SNS.S_OSC", kind := .m, block := 0x45, index := 0x105, width := 16, acc := .ro }

/-- The rows of this map, in table order. -/
def mSNSMap : List PDesc :=
  [SNS_TEMP, SNS_TEMP_MAX, SNS_TJ_WARN, SNS_RAIL, SNS_S_OSC]

/-! NVS, M: R559 of spec/21_stationmaster.md. -/

def NVS_ARCH_SEL : PDesc := { name := "NVS.ARCH_SEL", kind := .m, block := 0x41, index := 0x201, width := 4, acc := .rws, reset := 3 }
def NVS_ARCH_OFFSET : PDesc := { name := "NVS.ARCH_OFFSET", kind := .m, block := 0x41, index := 0x202, width := 18, acc := .rws, range := .span 0 255 }
def NVS_ARCH_WORD : PDesc := { name := "NVS.ARCH_WORD", kind := .m, block := 0x41, index := 0x203, width := 32, acc := .rws, lo := 0, hi := 255 }
def NVS_CNT_CORRECTED : PDesc := { name := "NVS.CNT_CORRECTED", kind := .m, block := 0x41, index := 0x210, width := 32, acc := .rc }
def NVS_CNT_PERSIST : PDesc := { name := "NVS.CNT_PERSIST", kind := .m, block := 0x41, index := 0x211, width := 16, acc := .rc }

/-- The rows of this map, in table order. -/
def mNVSMap : List PDesc :=
  [NVS_ARCH_SEL, NVS_ARCH_OFFSET, NVS_ARCH_WORD, NVS_CNT_CORRECTED, NVS_CNT_PERSIST]

/-! LOG, M: R559 of spec/21_stationmaster.md. -/

def LOG_NEWEST : PDesc := { name := "LOG.NEWEST", kind := .m, block := 0x42, index := 0x301, width := 32, acc := .ro, nonvol := true }
def LOG_OLDEST : PDesc := { name := "LOG.OLDEST", kind := .m, block := 0x42, index := 0x302, width := 32, acc := .ro, nonvol := true }

/-- The rows of this map, in table order. -/
def mLOGMap : List PDesc :=
  [LOG_NEWEST, LOG_OLDEST]

/-! UPD, M: R559 of spec/21_stationmaster.md. -/

def UPD_STATE : PDesc := { name := "UPD.STATE", kind := .m, block := 0x43, index := 0x401, width := 8, acc := .ro }
def UPD_RECEIVED : PDesc := { name := "UPD.RECEIVED", kind := .m, block := 0x43, index := 0x402, width := 25, acc := .ro }
def UPD_FLOOR_M : PDesc := { name := "UPD.FLOOR_M", kind := .m, block := 0x43, index := 0x403, width := 32, acc := .ro, nonvol := true }
def UPD_LANE_STATE : PDesc := { name := "UPD.LANE_STATE", kind := .m, block := 0x43, index := 0x404, width := 12, acc := .ro }

/-- The rows of this map, in table order. -/
def mUPDMap : List PDesc :=
  [UPD_STATE, UPD_RECEIVED, UPD_FLOOR_M, UPD_LANE_STATE]

/-! ATT, M: R559 of spec/21_stationmaster.md. -/

def ATT_STATE : PDesc := { name := "ATT.STATE", kind := .m, block := 0x44, index := 0x501, width := 2, acc := .ro }
def ATT_LEAF_NEXT : PDesc := { name := "ATT.LEAF_NEXT", kind := .m, block := 0x44, index := 0x502, width := 21, acc := .ro, nonvol := true }
def ATT_LEAF_LEFT : PDesc := { name := "ATT.LEAF_LEFT", kind := .m, block := 0x44, index := 0x503, width := 21, acc := .ro, reset := 1048576, nonvol := true }
def ATT_LEAF_SKIPPED : PDesc := { name := "ATT.LEAF_SKIPPED", kind := .m, block := 0x44, index := 0x504, width := 21, acc := .ro, nonvol := true }
def ATT_LEAF_WARN : PDesc := { name := "ATT.LEAF_WARN", kind := .m, block := 0x44, index := 0x505, width := 21, acc := .rws, reset := 4096 }

/-- The rows of this map, in table order. -/
def mATTMap : List PDesc :=
  [ATT_STATE, ATT_LEAF_NEXT, ATT_LEAF_LEFT, ATT_LEAF_SKIPPED, ATT_LEAF_WARN]

/-! CRT, M: R559 of spec/21_stationmaster.md. -/

def CRT_POLICY : PDesc := { name := "CRT.POLICY", kind := .m, block := 0x46, index := 0x601, width := 1, acc := .rws }
def CRT_ANCHOR : PDesc := { name := "CRT.ANCHOR", kind := .m, block := 0x46, index := 0x602, width := 544, acc := .rws, lo := 0, hi := 3 }
def CRT_PORT_STATE : PDesc := { name := "CRT.PORT_STATE", kind := .m, block := 0x46, index := 0x603, width := 2, acc := .ro, lo := 0, hi := 7 }
def CRT_SERIAL : PDesc := { name := "CRT.SERIAL", kind := .m, block := 0x46, index := 0x604, width := 128, acc := .ro, lo := 0, hi := 7 }
def CRT_COUNTER : PDesc := { name := "CRT.COUNTER", kind := .m, block := 0x46, index := 0x605, width := 64, acc := .ro, lo := 0, hi := 31, nonvol := true }
def CRT_LIFE_USED : PDesc := { name := "CRT.LIFE_USED", kind := .m, block := 0x46, index := 0x606, width := 16, acc := .ro, lo := 0, hi := 31 }
def CRT_LAST_WRITEBACK : PDesc := { name := "CRT.LAST_WRITEBACK", kind := .m, block := 0x46, index := 0x607, width := 32, acc := .ro }

/-- The rows of this map, in table order. -/
def mCRTMap : List PDesc :=
  [CRT_POLICY, CRT_ANCHOR, CRT_PORT_STATE, CRT_SERIAL, CRT_COUNTER, CRT_LIFE_USED, CRT_LAST_WRITEBACK]

/-! UPD, every lane die: R560 of spec/21_stationmaster.md. -/

def UPD_SLOT_STATE : PDesc := { name := "UPD.SLOT_STATE", kind := .lane, block := 0x43, index := 0x1, width := 8, acc := .ro, nonvol := true }
def UPD_ACTIVE_DIGEST : PDesc := { name := "UPD.ACTIVE_DIGEST", kind := .lane, block := 0x43, index := 0x2, width := 128, acc := .ro }
def UPD_FLOOR_LANE : PDesc := { name := "UPD.FLOOR_LANE", kind := .lane, block := 0x43, index := 0x3, width := 32, acc := .ro, nonvol := true }

/-- The rows of this map, in table order. -/
def laneUPDMap : List PDesc :=
  [UPD_SLOT_STATE, UPD_ACTIVE_DIGEST, UPD_FLOOR_LANE]

/-! CRT, every lane die: R560 of spec/21_stationmaster.md. -/

def CRT_EXP_TYPE : PDesc := { name := "CRT.EXP_TYPE", kind := .lane, block := 0x46, index := 0x10, width := 16, acc := .rws, lo := 0, hi := 7 }
def CRT_EXP_DIGEST : PDesc := { name := "CRT.EXP_DIGEST", kind := .lane, block := 0x46, index := 0x11, width := 64, acc := .rws, lo := 0, hi := 7 }
def CRT_MAN_STATE : PDesc := { name := "CRT.MAN_STATE", kind := .lane, block := 0x46, index := 0x12, width := 2, acc := .ro, lo := 0, hi := 7 }
def CRT_MAN_TYPE : PDesc := { name := "CRT.MAN_TYPE", kind := .lane, block := 0x46, index := 0x13, width := 16, acc := .ro, lo := 0, hi := 7 }
def CRT_MAN_DIGEST : PDesc := { name := "CRT.MAN_DIGEST", kind := .lane, block := 0x46, index := 0x14, width := 64, acc := .ro, lo := 0, hi := 7 }
def CRT_WHEEL_SET : PDesc := { name := "CRT.WHEEL_SET", kind := .lane, block := 0x46, index := 0x15, width := 4, acc := .rws, range := .spanOr 0 7 15, reset := 15 }
def CRT_WHEEL_CPR : PDesc := { name := "CRT.WHEEL_CPR", kind := .lane, block := 0x46, index := 0x16, width := 32, acc := .rws }
def CRT_POLICY_SEEN : PDesc := { name := "CRT.POLICY_SEEN", kind := .lane, block := 0x46, index := 0x17, width := 1, acc := .ro }

/-- The rows of this map, in table order. -/
def laneCRTMap : List PDesc :=
  [CRT_EXP_TYPE, CRT_EXP_DIGEST, CRT_MAN_STATE, CRT_MAN_TYPE, CRT_MAN_DIGEST, CRT_WHEEL_SET, CRT_WHEEL_CPR, CRT_POLICY_SEEN]

/-! STF, S: R572 of spec/22_startup_and_shutdown.md. -/

def S_STF_FORM_LAST : PDesc := { name := "STF.FORM_LAST", kind := .s, block := 0x3, index := 0x24, width := 64, acc := .ro }

/-- The rows of this map, in table order. -/
def sSTFxMap : List PDesc :=
  [S_STF_FORM_LAST]

/-! TRC, M: R264 of spec/09_control_engine.md. -/

def M_TRC_ARCH_BYTES : PDesc := { name := "TRC.ARCH_BYTES", kind := .m, block := 0x14, index := 0x20, width := 24, acc := .ro }
def M_TRC_ARCH_LOST : PDesc := { name := "TRC.ARCH_LOST", kind := .m, block := 0x14, index := 0x21, width := 32, acc := .rc }

/-- The rows of this map, in table order. -/
def mTRCMap : List PDesc :=
  [M_TRC_ARCH_BYTES, M_TRC_ARCH_LOST]

/-! BST, M: R506 of spec/19_self_test.md. -/

def M_BST_SCAN_STATE : PDesc := { name := "BST.SCAN_STATE", kind := .m, block := 0xa, index := 0x30, width := 3, acc := .ro }
def M_BST_CNT_SCAN_CLEAR : PDesc := { name := "BST.CNT_SCAN_CLEAR", kind := .m, block := 0xa, index := 0x31, width := 16, acc := .rc }

/-- The rows of this map, in table order. -/
def mBSTMap : List PDesc :=
  [M_BST_SCAN_STATE, M_BST_CNT_SCAN_CLEAR]

/-- The descriptors of one block of one kind of region (R8). -/
def blockMap : RegionKind → Nat → List PDesc
  | .lane, 0x1 => laneWBEMap
  | .lane, 0x2 => laneHSTMap
  | .lane, 0x1a => laneVOTMap ++ laneVOTxMap
  | .lane, 0x4 => laneXLKMap
  | .lane, 0x3 => laneSTFMap
  | .lane, 0x5 => laneLSCMap
  | .lane, 0x10 => laneCMTMap
  | .lane, 0x11 => laneOBSMap
  | .lane, 0x12 => laneCENMap
  | .lane, 0x14 => laneTRCMap
  | .lane, 0x13 => laneRPCMap
  | .lane, 0x15 => laneFBIMap
  | .lane, 0x16 => laneSDCMap
  | .lane, 0x17 => laneSIOMap
  | .lane, 0x18 => laneTWLMap
  | .lane, 0x19 => laneLKGMap
  | .lane, 0x6 => laneDPTMap
  | .lane, 0x8 => laneMEMMap
  | .lane, 0xa => laneBSTMap
  | .lane, 0xb => laneCLKMap
  | .lane, 0xc => lanePWRMap
  | .lane, 0x43 => laneUPDMap
  | .lane, 0x46 => laneCRTMap
  | .power, 0x20 => powerGDRMap
  | .power, 0x21 => powerADCMap
  | .power, 0x23 => powerTRXMap
  | .power, 0x22 => powerSUPMap
  | .m, 0x40 => mSMCMap
  | .m, 0x45 => mSNSMap
  | .m, 0x41 => mNVSMap
  | .m, 0x42 => mLOGMap
  | .m, 0x43 => mUPDMap
  | .m, 0x44 => mATTMap
  | .m, 0x46 => mCRTMap
  | .m, 0x14 => mTRCMap
  | .m, 0xa => mBSTMap
  | .s, 0x3 => sSTFMap ++ sSTFxMap
  | .s, 0x31 => sSVTMap
  | .s, 0x30 => sSECMap
  | .s, 0x32 => sATHMap
  | _, 0x7 => everyFABMap
  | _, 0x9 => everyFCLMap
  | _, _ => []

end Sys2Proof.Machine.Par
end

