-- ==== Sys2Proof/Machine/State.lean ====
section
/-! DEFINITION. The state of the package as plain data. Every parameter of the manual and every numeric variable
inside a block lives in ONE keyed store in canonical form (`params`); what has structure of its own (queues, records,
messages on their way) has fields of its own. `State.reset` is the package before any lane has started. -/

namespace Sys2Proof.Machine

/-- Why the package could stop with a fault. No rule of the manual stops the package as a whole (R18). -/
inductive Fault
  /-- Raised by nothing: the widest reaction of the manual is a region reset, which is a next state (R18). Safe. -/
  | stopped
deriving DecidableEq, Repr

/-- Why a command can be refused. -/
inductive Refusal
  /-- Raised by `exec` for a command that has no meaning yet, with its mnemonic. Safe: nothing can be proved of it. -/
  | notModelled (mnemonic : String)
deriving DecidableEq, Repr

/-- The members of the family (R1). -/
inductive Part
  | fj3883 | fj3862 | fj3821
deriving DecidableEq, Repr

/-- The place of one parameter (R9): region, block, index and instance. Block codes from 0x80 up, which R8 reserves,
name the numeric variables inside a block that no parameter shows. -/
structure PKey where
  region : Nat
  block : Nat
  index : Nat
  inst : Nat
deriving DecidableEq, Repr

/-- The parameter store: pairs of place and value, places strictly rising, no value equal to its reset value. -/
abbrev Store := List (PKey × Nat)

/-! ### Waybills, consists and host ports -/

/-- A waybill held in the commit queue until Towline cycle `at'`, with the Towline time of its acceptance (R51). -/
structure HeldWb where
  hdr : Hdr
  op : Op
  at' : Nat
  voted : Bool
  stamp : Nat := 0
deriving DecidableEq, Repr

/-- A member of an open consist, in order of arrival, with the bytes of its parameters as they came (R53, R60). -/
structure Member where
  hdr : Hdr
  op : Op
  params : List Byte := []
deriving DecidableEq, Repr

/-- An open consist: its port and ID, its members, the bytes of staged values, the first failure, and whether a COMMIT
has been accepted for it (R53 to R56). -/
structure Consist where
  port : Port
  id : Nat
  members : List Member
  bytes : Nat
  failed : Option (Nat × List Byte)
  closed : Bool
deriving DecidableEq, Repr

/-- An entry of the duplicate record: header and check of a waybill and its last reply (R45). -/
structure DupEntry where
  port : Port
  src : Nat
  seq : Nat
  opcode : Nat
  crc : Nat
  ackReq : Bool
  failed : Bool
  reply : Option Reply
deriving DecidableEq, Repr

/-- A waybill relayed to M or S whose answer is awaited, with the header it is answered to (none for an agreed waybill of which
the lane has no copy), the agreement mask its reply carries, the key of an agreed one, for a relayed COMMIT its
consist, and the headers of further own copies of an agreed one (R38, R57, R99). -/
structure RelayWait where
  tag : Nat
  shared : Shared
  hdr : Option Hdr
  opcode : Nat
  mask : Nat
  key : Option VKey
  consist : Option Consist := none
  also : List Hdr := []
deriving DecidableEq, Repr

/-- A waybill completely received and not yet taken by the WBE (R49, R67). -/
structure RxWaybill where
  port : Port
  src : Nat
  raw : List Byte
deriving DecidableEq, Repr

/-- A waybill that waits in the input queue, with the time in ns at which it was completely received (R47, R49). -/
structure QueuedWb where
  at' : Nat
  wb : RxWaybill
deriving DecidableEq, Repr

/-- The waybill engine of one lane: the time in ns until which it processes a waybill, input queue, duplicate record, open consists, commit queue, relays awaiting an
answer and the replies that found the SPI queue full (R45 to R67). -/
structure Wbe where
  busy : Nat := 0
  inq : List QueuedWb := []
  dup : List DupEntry := []
  consists : List Consist := []
  commitQ : List HeldWb := []
  relays : List RelayWait := []
  tag : Nat := 0
  kept : List Reply := []
deriving DecidableEq, Repr

/-- The host ports of one lane: how often the SPI port has been disabled, its receive buffer with that count as it stood when the buffer
filled, overrun flag and reply queue (R66, R67), the partial waybill of CAN0 (R70, R71). -/
structure Hst where
  gen : Nat := 0
  spiBuf : Option (List Byte) := none
  bufGen : Nat := 0
  overrun : Bool := false
  spiReplies : List Reply := []
  canPart : Option (List Byte × Nat) := none
deriving DecidableEq, Repr

/-! ### Links -/

/-- A flit sent and not yet acknowledged: its link sequence, its 128 bits, its type and the attempts made (R85). -/
structure TxFlit where
  seq : Nat
  word : Nat
  type : Nat
  tries : Nat
deriving DecidableEq, Repr

/-- A message waiting to be sent or partly sent: its type and the payloads of the flits still to go (R84). -/
structure OutMsg where
  type : Nat
  started : Bool
  left : List (List Byte)
deriving DecidableEq, Repr

/-- A message being received: its type, its length and the bytes so far (R84). -/
structure InMsg where
  type : Nat
  len : Nat
  got : List Byte
deriving DecidableEq, Repr

/-- One end of a link: next sequence to send, flits outstanding, messages waiting, next sequence expected, messages
being received, and the messages delivered (R82 to R85). -/
structure LinkSt where
  txSeq : Nat := 0
  unacked : List TxFlit := []
  outq : List OutMsg := []
  rxSeq : Nat := 0
  partials : List InMsg := []
  delivered : List (Nat × List Byte) := []
deriving DecidableEq, Repr

/-! ### Lane agreement -/

/-- A copy of a VOTED waybill in the vote record: the lane it arrived at, its timestamp in ns of the Towline cycle
count, the cycle it was stamped in, its bytes, for a COMMIT the check of its consist (R60), and the header it is answered
with where it is the lane's own (R93, R94). -/
structure VCopy where
  lane : LaneId
  stamp : Nat
  cycle : Nat
  raw : List Byte
  crc : Nat
  own : Option Hdr
deriving DecidableEq, Repr

/-- An agreement window: its key and the cycle it opened in (R96). -/
structure VWindow where
  key : VKey
  cycle : Nat
deriving DecidableEq, Repr

/-- An agreed waybill that waits for its commit instant: the waybill as lanes compare it, for a COMMIT the check of its
consist, the time and the arrival lane of its earliest copy, the mask, the header of the lane's own copy and those of further own
copies in the group (R97 to R99). -/
structure VWaiting where
  key : VKey
  raw : List Byte
  crc : Nat
  stamp : Nat
  lane : LaneId
  mask : Nat
  own : Option Hdr
  at' : Nat
  also : List Hdr := []
deriving DecidableEq, Repr

/-- The vote unit of one lane: its own last frame, the last frame of each peer and the one before, the last S echo, copies, windows,
agreed keys, waiting effects, minority events, the INPUT messages of the present cycle, own copies that a local stop applies
at its next cycle start (R88 to R107, R381). -/
structure Vot where
  own : Option ExchFrame := none
  frameA : Option ExchFrame := none
  frameB : Option ExchFrame := none
  frameC : Option ExchFrame := none
  prevA : Option ExchFrame := none
  prevB : Option ExchFrame := none
  prevC : Option ExchFrame := none
  echo : Option SEcho := none
  copies : List VCopy := []
  windows : List VWindow := []
  agreed : List VAgreed := []
  waiting : List VWaiting := []
  minority : List (LaneId × Nat) := []
  inputs : List InputMsg := []
  loc : List HeldWb := []
deriving DecidableEq, Repr

/-! ### The staff at S -/

/-- S's claim under consideration and the lanes whose AGREE has arrived for it (R120). -/
structure SStf where
  claim : Option StaffMsg := none
  held : Bool := false
  agrees : List Nat := []
deriving DecidableEq, Repr

/-! ### What the dies send -/

/-- How a reply travels: the address or identifier it is sent under (own IPv4 address, CAN identifier, ISO 11783 source
address), the bit rates of CAN0, and the bytes of each datagram or frame (R61, R69, R70, R73). -/
structure Via where
  addr : Nat := 0
  nbr : Nat := 0
  dbr : Nat := 0
  frames : List (List Byte) := []
deriving DecidableEq, Repr

/-- Something a die has sent or ordered, in the order of sending. -/
inductive Sent
  /-- A reply on a host port other than SPI, under the settings of the port at that moment (R41, R61, R69, R70, R73). -/
  | reply (l : LaneId) (p : Port) (src : Nat) (via : Via) (r : Reply)
  /-- The bytes the SPI slave shifts out in a transaction: the status byte, and those of a READ (R66). -/
  | spi (l : LaneId) (out : List Byte)
  /-- A STAFF message to a node (R132). -/
  | staff (dst : StaffNode) (m : StaffMsg)
  /-- An exchange frame to both peers and S (R88). -/
  | exch (f : ExchFrame)
  /-- An S echo to a lane (R90). -/
  | echo (dst : LaneId) (e : SEcho)
  /-- An announcement to both peers: arrival lane, timestamp, waybill, and for a COMMIT the check of its consist (R60,
  R93). -/
  | announce (l : LaneId) (stamp : Nat) (raw : List Byte) (crc : Nat)
  /-- A DUTY message to the power die: the edges of a bridge for the next load point (R208). -/
  | duty (l : LaneId) (b : Nat) (edges : List SwitchEdge)
  /-- The INPUT message of a lane to both peers (R104). -/
  | input (m : InputMsg)
  /-- A relayed waybill to M or S with its tag and the lane's staff epoch (R38, R110). -/
  | relay (l : LaneId) (d : Shared) (tag epoch : Nat) (h : Hdr) (op : Op)
  /-- The answer of M or S to a relayed waybill (R38). -/
  | relayReply (d : Shared) (l : LaneId) (tag : Nat) (r : Reply)
  /-- A check value of a block's RWS set, sent to both peers (R103, R179). -/
  | cfgCrc (l : LaneId) (block crc : Nat)
  /-- A link control symbol: acknowledge or negative acknowledge with a sequence (R85). -/
  | flitAck (k : Link) (ok : Bool) (seq : Nat)
  /-- A flit on a link (R82). -/
  | flit (k : Link) (word : Nat)
  /-- A frame on CAN1: address claim or cannot-claim with NAME and address (R72). -/
  | isoClaim (l : LaneId) (name sa : Nat)
  /-- Trace rows streamed to M (R260). -/
  | trace (l : LaneId) (rowBytes : Nat) (rows : List (List Byte))
  /-- A fault entry or a latch of a region reported to M (R484). -/
  | telemetry (region src kind : Nat)
  /-- An entry of a lane's core pair: the non-maskable entry, or the fault task made READY, with the source (R475). -/
  | core (l : LaneId) (nmi : Bool) (region src : Nat)
  /-- A vote message to S (R330). -/
  | vote (v : VoteMsg)
  /-- A TRIP or ACK_RELEASE message of a lane to both peers (R355, R361). -/
  | trip (l : LaneId) (m : TripMsg)
  /-- A request for a table transfer to a peer (R328). -/
  | tableRequest (l source : LaneId)
  /-- The table transfer of a lane to the one that asked (R328). -/
  | tableXfer (dst : LaneId) (x : TableXfer)
  /-- The STATUS message of S to a lane (R333). -/
  | status (dst : LaneId) (m : SStatus)
  /-- A request for the state transfer to a peer (R128). -/
  | xferRequest (l source : LaneId)
  /-- The state transfer to a rejoining lane (R129). -/
  | stateXfer (dst : LaneId) (x : StateXfer)
  /-- The CRC-32C of the state transfer from the second peer (R128). -/
  | xferCrc (dst : LaneId) (crc : Nat)
  /-- A repair request for a memory line to a peer, and a peer's answer: the line, or none where its own copy fails (R465). -/
  | repairRequest (l peer : LaneId) (line period : Nat)
  | repairAnswer (l dst : LaneId) (line : Nat) (data : Option (List Byte))
  /-- The response of memory to a master of a lane's fabric: the bytes of a line, or a data error (R463, R466). -/
  | lineData (l : LaneId) (q line : Nat) (data : Option (List Byte))
  /-- The heartbeat of M to a lane with the lifecycle state (R33, R549). -/
  | heartbeat (dst : LaneId) (lifecycle : Nat)
  /-- A frame on the rails of Towline, a bit per rail (R386). -/
  | towline (l : LaneId) (rails : Nat) (raw : List Byte)
  /-- The second transfer to a rejoining lane (R248, R285). -/
  | loopXfer (dst : LaneId) (x : LoopXfer)
  /-- The digests of a lane's active and pending image slots, to both peers (R545). -/
  | slots (l : LaneId) (active pending : Nat)
  /-- The wake signal of a lane on its links (R527). -/
  | wake (l : LaneId)
  /-- A retention bank as it stood at entry, to a peer (R528). -/
  | bank (l dst : LaneId) (n : Nat)
  /-- An offer of a state change to M or S over a link (R521). -/
  | offer (l : LaneId) (d : Shared) (state : Nat)
  /-- A verified lane image section from M to a lane (R544), and the lane's verdict. -/
  | image (dst : LaneId) (sect : List Byte)
  | imageDone (l : LaneId) (ok : Bool)
  /-- A frame to a cartridge tag (R551). -/
  | tag (port : Nat) (frame : List Byte)
  /-- A cartridge report to a lane (R553). -/
  | cart (dst : LaneId) (r : CartReport)
  /-- A reply of M at the service port, under its settings at that moment (R69, R558). -/
  | service (src : Nat) (via : Via) (r : Reply)
  /-- An ARP reply or an ICMP echo reply of a lane's 100BASE-T1 port (R65). -/
  | eth (l : LaneId) (packet : List Byte)
  /-- A shift register selected at the test port: BYPASS 0, IDCODE 1, SAMPLE/PRELOAD 2, EXTEST 3, internal scan 4 (R502). -/
  | jtag (sel : Nat)
deriving DecidableEq, Repr

/-- What S holds beside its parameters and numeric variables: the latest frame and the latest vote of each lane, the
staff's claim. -/
structure SDie where
  voteA : Option VoteMsg := none
  voteB : Option VoteMsg := none
  voteC : Option VoteMsg := none
  frameA : Option ExchFrame := none
  frameB : Option ExchFrame := none
  frameC : Option ExchFrame := none
  staff : SStf := {}
deriving DecidableEq, Repr

/-- The recovery times of one fault source: region, source and times in ns (R478). -/
structure FclEv where
  region : Nat
  src : Nat
  times : List Nat
deriving DecidableEq, Repr

/-! ### Drives -/

/-- The observer of one bridge: running, the current and back-EMF estimates in the stationary frame, the speed estimate
in rad/s and the angle estimate in 1/65,536 turn (R185), and the extrapolated angle (R194). -/
structure Obsr where
  on : Bool := false
  ia : Rat := 0
  ib : Rat := 0
  ea : Rat := 0
  eb : Rat := 0
  w : Rat := 0
  th : Rat := 0
  ext : Rat := 0
deriving DecidableEq, Repr

/-- A sample of the tracking of a bridge whose switches are off: its time in ns, the back-EMF vector in volts in the stationary frame, and
whether it is clipped (R199, R200). -/
structure TrackPt where
  t : Nat
  ea : Rat
  eb : Rat
  clip : Bool
deriving DecidableEq, Repr

/-- A change of a peer's weight whose record waits for the first period computed with the new shares: peer, cause, cycle, the bridges
affected, those still to be judged, and whether the voltage condition has held so far (R174, R181). -/
structure RescaleWait where
  peer : LaneId
  cause : Nat
  cycle : Nat
  mask : Nat
  left : Nat
  met : Bool
deriving DecidableEq, Repr

/-- What one bridge carries from period to period: the weights of its own lane and of the lower- and higher-lettered
peer (R170, R171), the step of a STOP_DRIVE ramp (R178), the last references, voltages and currents (R158, R167), the
peers' previous currents (R168) and whether each peer's terms were usable (R169); the samples of the latest load point;
in the power die the edges that act and the edges received last (R208 to R211), and the trips in the repeat
window by switch 2p + h with their times (R220); the voltage applied in the period before (R185), whether the latest load point was a peak
(R158), whether new shares were computed at this compute start (R174), the tracking collection (R199), and the demodulated currents of
the last carrier period of HFI (R196). -/
structure Bridge where
  wOwn : Rat := 0
  wLo : Rat := 0
  wHi : Rat := 0
  ramp : Option Rat := none
  iqRef : Rat := 0
  vd : Rat := 0
  vq : Rat := 0
  id : Rat := 0
  iq : Rat := 0
  usedLo : Bool := false
  usedHi : Bool := false
  share : Rat := 0
  missLo : Bool := false
  missHi : Bool := false
  hand : Option (Rat × Rat) := none
  thOut : Rat := 0
  va : Rat := 0
  vb : Rat := 0
  ca : Rat := 0
  cb : Rat := 0
  closing : Nat := 0
  placed : Nat := 0
  recon : Bool := false
  obs : Obsr := {}
  smp : Option BridgeSample := none
  cur : List SwitchEdge := []
  next : List SwitchEdge := []
  trips : List (Nat × Nat) := []
  vaOld : Rat := 0
  vbOld : Rat := 0
  mid : Bool := false
  fresh : Bool := false
  track : List TrackPt := []
  hfi : List Rat := []
  late : List (SwitchEdge × Nat) := []
deriving DecidableEq, Repr

/-! ### Standing orders -/

/-- A standing order: its number and its stored waybills in order (R435). -/
structure StoredOrder where
  o : Nat
  ws : List (List Byte)
deriving DecidableEq, Repr

/-- A repetitive controller's table saved in MRAM: controller, check of its configuration, check of the table, bins (R284). -/
structure RpcSave where
  r : Nat
  cfg : Nat
  crc : Nat
  table : List Nat
deriving DecidableEq, Repr

/-! ### Trace -/

/-- The trace ring of a lane: rows, oldest first; whether the trigger is asked for and taken; whether rows were lost
before the next one; the previous sample of the trigger channel (R256 to R260). -/
structure Trc where
  rows : List (List Byte) := []
  ask : Bool := false
  taken : Bool := false
  lost : Bool := false
  prev : Option Int := none
deriving DecidableEq, Repr

/-! ### Feedback channels -/

/-- One feedback channel: its count and the same count undisturbed by index and alignment, its run of count events with
times, newest first, and the extreme of the run (R290, R308); direction, standstill, index done, aligned, stale (R312);
the accepted levels of A, B and Z; the times of its edge faults (R294); the last used phase and its time, the pairs
unused in a row (R297, R298); the last accepted raw SSI position and its latch time, the latch of the read in progress,
the valleys since, the rejected frames in a row (R301, R302); the Towline cycle it was aligned in (R314); the phase its count contains
(R297); an index event has come (R305); a fault has taken its alignment (R314); the edges accepted too late for a latch before their
acceptance, each with the end of its acceptance and the count before it (R306). -/
structure FbiCh where
  count : Int := 0
  odo : Int := 0
  run : List (Int × Nat) := []
  ext : Int := 0
  back : Bool := false
  still : Bool := true
  done : Bool := false
  aligned : Bool := false
  stale : Bool := false
  levels : Nat := 0
  faultAt : List Nat := []
  phi : Option Nat := none
  phiAt : Nat := 0
  unused : Nat := 0
  raw : Option Nat := none
  rawAt : Nat := 0
  readAt : Nat := 0
  readN : Nat := 0
  rejected : Nat := 0
  alignCyc : Nat := 0
  inc : Nat := 0
  seen : Bool := false
  again : Bool := false
  fresh : List (Nat × Int) := []
deriving DecidableEq, Repr

/-- A pending entry of the compare table with the bits not yet applied, and whether it has not been evaluated since its
acceptance (R318, R324). -/
structure PEnt where
  e : TableEntry
  fresh : Bool
deriving DecidableEq, Repr

/-- The Towline node of a lane: the deviations of the present cycle by node, rail and value, those of cycle 4k by node, the
paths received valid, the frame sent in the present cycle, the arrival times of the vectors that report it missing (R400
to R407). -/
structure Twl where
  devs : List (Nat × Nat × Int) := []
  dev0 : List (Nat × Rat) := []
  got : List Nat := []
  sent : Option (List Byte) := none
  missing : List Nat := []
deriving DecidableEq, Repr

/-- A task of a lane's dispatcher (R425 to R432): number, level, whether it is raised to level 16, owner block, state, the
events of its wait, its deadline in µs of the lane's counter, its comparator or its place on the delay list, the events
that came outside a wait, how the last wait ended (1 EVENT, 2 TIMEOUT), whether its context is resident, when and in
which order it became READY, when it last ran. -/
structure FwTask where
  n : Nat
  level : Nat
  raised : Bool := false
  owner : Nat
  state : Nat
  events : List Nat
  deadline : Nat := 0
  cmp : Option Nat := none
  listed : Bool := false
  pend : List Nat := []
  result : Nat := 0
  ctx : Bool := false
  readyAt : Nat := 0
  order : Int := 0
  ranAt : Nat := 0
deriving DecidableEq, Repr

/-- A pre-image in the journal of a lock (R458): region and number of the lock, the owner's region epoch, the parameter
and its value before the commit. -/
structure JEntry where
  region : Nat
  u : Nat
  epoch : Nat
  key : PKey
  val : Nat
deriving DecidableEq, Repr

/-- A written line of a lane die's memory: its address bits [31:5], its 32 bytes and its check (R462). -/
structure MemLine where
  line : Nat
  data : List Byte
  crc : Nat
deriving DecidableEq, Repr

/-- What a lane die keeps in its own MRAM beside its parameters, and the announcements of the present start: the digests
and the rollback indices of the two image slots, and by peer the active and the pending digest announced (R545). -/
structure Boot where
  dig0 : Nat := 0
  dig1 : Nat := 0
  roll0 : Nat := 0
  roll1 : Nat := 0
  ann : List (LaneId × Nat × Nat) := []
deriving DecidableEq, Repr

/-- The retention banks of a lane as signed at entry into LOCK WATCH: parameters and variables by place, the compare table,
the channels, the vote record (R528). -/
structure Retained where
  values : Store
  table : List PEnt
  fbi : List FbiCh
  agreed : List VAgreed
  minority : List (LaneId × Nat)
deriving DecidableEq, Repr

/-- What one lane holds beside its parameters and numeric variables: the waybill engine, the host ports, the vote record,
the bridges, the feedback channels, the standing orders and those queued, and the counted synchroniser differences of the last second
(R142), the saved tables of the repetitive controllers, the trace ring, the Towline node, the tasks with the count of their turns, the memory lines written in ascending order and the poisoned ones, the compare table and a transfer of it to load,
the second transfer of a rejoin that waits for its base period (R248), the line at which the tables of the repetitive controllers begin in
memory with what their lines held before the group under way and the repairs that wait for its end (R286), the image slots, the retention, a cartridge report
that waits for its cycle, the RWS values the configuration digest was last computed over (R78), the weight changes
whose record waits (R174), the CMT values in force until the next valley where a commit replaced them (R181), and which comparators of a
bridge will fail their test (R225). -/
structure Lane where
  wbe : Wbe := {}
  hst : Hst := {}
  vot : Vot := {}
  bridges : List Bridge := List.replicate 6 {}
  fbi : List FbiCh := List.replicate 8 {}
  orders : List StoredOrder := []
  ordQ : List Nat := []
  syncTimes : List (Nat × Nat) := []
  rpcSaved : List RpcSave := []
  trc : Trc := {}
  twl : Twl := {}
  tasks : List FwTask := []
  dptSeq : Nat := 0
  mem : List MemLine := []
  poisoned : List Nat := []
  table : List PEnt := []
  tblLoad : Option TableXfer := none
  loopLoad : Option LoopXfer := none
  tblAt : Nat := 0x200000
  undo : List (Nat × Nat) := []
  repairs : List (LaneId × Nat × Nat) := []
  boot : Boot := {}
  ret : Option Retained := none
  cart : Option CartReport := none
  cfg : Option Store := none
  rescale : List RescaleWait := []
  cmtOld : Store := []
  cmpFails : List (Nat × Nat) := []
deriving DecidableEq, Repr

/-- The record of a cartridge in the counter mirror: serial, counters, budgets, and the part of each counter below one unit
(R552, R555, R556). -/
structure CartRec where
  serial : Nat
  counters : List Nat
  budgets : List Nat
  rest : List Rat := [0, 0, 0, 0]
deriving DecidableEq, Repr

/-- A tag port of M: presence, the manifest read, the nonce sent, the counters the tag holds (R551, R553). -/
structure TagPort where
  present : Bool := false
  manifest : List Byte := []
  nonce : List Byte := []
  counters : List Nat := []
deriving DecidableEq, Repr

/-- What M holds beside its parameters and numeric variables: the event log, oldest first (R539), the RWS sets of the lanes
in archive slots 0 to 2 (R541), the update session's source, its length and its staged bytes (R543), the rollback index and
the digest of M's inactive slot (R544), the attestation report (R548), the lifecycle nonce and ticket (R550), the integrator
key, the counter mirror and the tag ports. -/
structure MDie where
  log : List (List Byte) := []
  sets : List (LaneId × Store) := []
  updSrc : Option UpdSource := none
  updTotal : Nat := 0
  staged : List Byte := []
  slotM : Option (Nat × Nat) := none
  report : List Byte := []
  nonce : List Byte := []
  ticket : List Byte := []
  intKey : List Byte := []
  mirror : List CartRec := []
  ports : List TagPort := List.replicate 8 {}
deriving DecidableEq, Repr

/-- The whole package. `part` is fixed; `archive` is M's trace archive, records oldest first (R260); `journal` holds the pre-images of the locks, oldest first (R458); `now` is the package time in ns of the last timed command; `fv` numbers the
free values drawn so far; `sent` is everything the dies have sent, oldest first; `pending` the commands waiting. -/
structure State where
  part : Part := .fj3883
  params : Store := []
  la : Lane := {}
  lb : Lane := {}
  lc : Lane := {}
  links : List (Link × LinkSt) := []
  sdie : SDie := {}
  mdie : MDie := {}
  recoveries : List FclEv := []
  archive : List (List Byte) := []
  journal : List JEntry := []
  sent : List Sent := []
  now : Nat := 0
  fv : Nat := 0
  pending : List Instr := []
deriving DecidableEq, Repr

/-- The package right after reset: every parameter at its reset value, every queue empty, no lane started. -/
def State.reset : State := {}

end Sys2Proof.Machine
end

