-- ==== Sys2Proof/Machine/Params.lean ====
section
/-! DEFINITION. Reading and writing parameters: the descriptor of a place, its width and reset value, the keyed store
in canonical form, and the accessors of `State` through which every rule reads and writes (R9 to R12). -/

namespace Sys2Proof

/-- The region code of a lane die (R7). -/
def LaneId.reg : LaneId → Nat
  | .a => 1 | .b => 2 | .c => 3

/-- The region code of a lane's power die (R7). -/
def LaneId.pow : LaneId → Nat
  | .a => 4 | .b => 5 | .c => 6

/-- The bit of a lane in a lane mask. -/
def LaneId.idx : LaneId → Nat
  | .a => 0 | .b => 1 | .c => 2

/-- The lane with a region code. -/
def LaneId.ofReg : Nat → Option LaneId
  | 1 => some .a | 2 => some .b | 3 => some .c | _ => none

/-- The peers of a lane, lower letter first. -/
def LaneId.peers : LaneId → List LaneId
  | .a => [.b, .c] | .b => [.a, .c] | .c => [.a, .b]

/-- The three lanes, A first. -/
def LaneId.all : List LaneId := [.a, .b, .c]

/-- The region code (R7). -/
def Region.code : Region → Nat
  | .la => 1 | .lb => 2 | .lc => 3 | .pa => 4 | .pb => 5 | .pc => 6 | .m => 7 | .s => 8

/-- The lane die as a region. -/
def LaneId.region : LaneId → Region
  | .a => .la | .b => .lb | .c => .lc

/-- The power die of a lane as a region. -/
def LaneId.powRegion : LaneId → Region
  | .a => .pa | .b => .pb | .c => .pc

/-- The lane a lane die or a power die belongs to (R15). -/
def Region.lane : Region → Option LaneId
  | .la => some .a | .lb => some .b | .lc => some .c
  | .pa => some .a | .pb => some .b | .pc => some .c | .m => none | .s => none

/-- The region code of a shared die. -/
def Shared.reg : Shared → Nat
  | .m => 7 | .s => 8

/-- The number of a port in `WBE.CNT_RX[p]` (R79). -/
def Port.num : Port → Nat
  | .spi => 0 | .t1 => 1 | .can0 => 2 | .can1 => 3 | .so => 4 | .m => 5

namespace Machine

/-- The kind of a region code; 0 and 9 to 15 are reserved (R7). -/
def kindOf : Nat → RegionKind
  | 1 => .lane | 2 => .lane | 3 => .lane | 4 => .power | 5 => .power | 6 => .power
  | 7 => .m | 8 => .s | _ => .every

/-- The descriptor a place falls under. -/
def lookup (k : PKey) : Option PDesc :=
  (Par.blockMap (kindOf k.region) k.block).find?
    (fun d => decide (d.index ≤ k.index) && decide (k.index < d.index + d.span))

/-- The instance number of a place under a descriptor. -/
def instOf (d : PDesc) (k : PKey) : Nat := (k.index - d.index) * 256 + k.inst

/-- The place of instance `i` of a parameter in region `r`. -/
def PDesc.key (d : PDesc) (r i : Nat) : PKey := ⟨r, d.block, d.index + i / 256, i % 256⟩

/-- Functional severity as `FCL.CLASS` codes it (R473, R488). -/
def clsF (n : Nat) : Nat := 2 * n

/-- Data class as `FCL.CLASS` codes it: 1 corrected, 2 contained, 3 fatal (R473, R488). -/
def clsD (n : Nat) : Nat := 2 * n + 1

/-- The classes of the lane-die sources 0 to 43 (R476 and the table of lane-die sources). -/
def laneClasses : List Nat :=
  [clsF 7, clsF 4, clsF 7, clsF 7, clsD 1, clsD 2, clsD 3, clsD 2, clsF 7, clsF 7, clsF 7, clsF 7,
   clsF 4, clsF 3, clsF 2, clsF 3, clsF 3, clsF 3, clsF 6, clsF 2, clsF 3, clsF 5] ++
  [clsF 5, clsF 3, clsF 2, clsF 3, clsF 4, clsF 5, clsF 4, clsF 3, clsF 5, clsF 2, clsF 5, clsF 1,
   clsF 3, clsF 2, clsF 3, clsF 3, clsF 1, clsF 2, clsF 2, clsF 3, clsF 4, clsF 5]

/-- The classes of the power-die sources 0 to 8. -/
def powClasses : List Nat :=
  [clsF 1, clsF 1, clsF 4, clsF 5, clsF 5, clsF 6, clsF 2, clsF 2, clsF 7]

/-- The classes of the sources 0 to 7 of S. -/
def sClasses : List Nat := [clsF 5, clsF 4, clsF 5, clsF 4, clsF 2, clsF 4, clsF 2, clsF 3]

/-- The classes of the sources 0 to 13 of M (R557). -/
def mClasses : List Nat :=
  [clsD 1, clsD 3, clsD 1, clsD 2, clsF 2, clsF 3, clsF 4, clsF 2, clsF 2, clsF 5, clsF 3, clsF 2, clsF 2, clsF 7]

/-- The source classes of a region. -/
def classesOf (r : Nat) : List Nat :=
  match kindOf r with
  | .lane => laneClasses | .power => powClasses | .m => mClasses | .s => sClasses | .every => []

/-- The block that owns each lane-die source, by block code. -/
def laneOwners : List Nat :=
  [0x05, 0x05, 0x0B, 0x0C, 0x08, 0x08, 0x08, 0x07, 0x0A, 0x09, 0x12, 0x1A, 0x03, 0x04, 0x04, 0x1A, 0x1A, 0x1A,
   0x1A, 0x16, 0x16, 0x10] ++
  [0x10, 0x10, 0x11, 0x11, 0x11, 0x11, 0x11, 0x12, 0x12, 0x12, 0x12, 0x13, 0x15, 0x15, 0x17, 0x17, 0x18, 0x18,
   0x18, 0x18, 0x19, 0x19]

/-- The block that owns each source of the other regions. -/
def ownersOf (r : Nat) : List Nat :=
  match kindOf r with
  | .lane => laneOwners
  | .power => [0x20, 0x20, 0x20, 0x20, 0x20, 0x20, 0x21, 0x23, 0x22]
  | .m => [0x40, 0x40, 0x41, 0x41, 0x45, 0x45, 0x45, 0x43, 0x44, 0x44, 0x46, 0x46, 0x46, 0x09]
  | .s => [0x30, 0x30, 0x30, 0x30, 0x30, 0x32, 0x03, 0x31]
  | .every => []

/-- The block that owns a source; 0 where the source is reserved. -/
def ownerOf (r s : Nat) : Nat := (ownersOf r).getD s 0

/-- A source the tables list (R472). -/
def sourceListed (r s : Nat) : Bool := decide (s < (classesOf r).length)

/-- The class of a source; 0 where the source is reserved (R472). -/
def classOf (r s : Nat) : Nat := (classesOf r).getD s 0

/-- Reset reactions by class: bit 0 IRQ, 1 NMI, 2 BLOCK_RESET, 3 REGION_RESET, 4 FAULT_PIN, 5 LATCH_PIN (R476). -/
def reactByClass : Nat → Nat
  | 4 => 0b1 | 6 => 0b1 | 8 => 0b100001 | 10 => 0b100011 | 12 => 0b110010 | 14 => 0b011010
  | 5 => 0b1 | 7 => 0b011010 | _ => 0

/-- The reset value of `FCL.REACT[s]`, with the exceptions of the source tables (R475, R476). -/
def reactReset (r s : Nat) : Nat :=
  match kindOf r with
  | .lane => if s = 1 then 0b1 else if s = 12 then 0b100001 else reactByClass (classOf r s)
  | .s => [0b110000, 0b100000, 0b110000, 0b100000, 0, 0b100000, 0, 0].getD s 0
  | .m => reactByClass (classOf r s) &&& 0b001111
  | _ => reactByClass (classOf r s)

/-- `FCL.REACT_FIXED[s]` (R476); the bits RSV for M are left out (R475). -/
def reactFixed (r s : Nat) : Nat :=
  let c := classOf r s
  let f := if c = 14 ∨ c = 7 then 0b011010 else if c = 5 then 0b1 else 0
  if r = 7 then f &&& 0b001111 else if r = 8 then f &&& 0b111100 else f

/-- The class of a fabric requester: 0 critical, 1 foreground, 2 background (R447). -/
def fabClass (r q : Nat) : Nat :=
  match kindOf r with
  | .lane => if q ≤ 3 then 0 else if q ≤ 10 then 1 else 2
  | .power => if q ≤ 1 then 0 else if q = 2 then 1 else 2
  | .m => if q ≤ 5 then 1 else 2
  | .s => if q ≤ 3 then 0 else if q ≤ 5 then 1 else 2
  | .every => 0

/-- The reset priority of a fabric requester. Only the lane die's are stated (R447); the others take the value of the
lane-die requesters of their class with the same traffic, DESIGN CHOICE (log 9). -/
def fabPrio (r q : Nat) : Nat :=
  match kindOf r with
  | .lane => [0, 0, 0, 0, 2, 4, 4, 5, 6, 6, 8, 12, 12, 12].getD q 0
  | _ => if fabClass r q = 1 then 6 else if fabClass r q = 2 then 12 else 0

/-- The number of fabric requesters of a region (R447). -/
def fabCount (r : Nat) : Nat :=
  match kindOf r with
  | .lane => 14 | .power => 4 | .m => 8 | .s => 7 | .every => 0

/-- The reset value of a place: the descriptor's, or the value a rule gives by region or instance. The lanes' copies of the
lifecycle state stand at FIELD, as M's own does (log 38). -/
def resetOf (k : PKey) : Nat :=
  match lookup k with
  | none => if k.block = 0x80 ∧ k.index = 3 ∧ kindOf k.region = .lane then 2 else 0
  | some d =>
    if k.block = 0x09 then
      if k.index = 0x010 then classOf k.region k.inst
      else if k.index = 0x011 then reactReset k.region k.inst
      else if k.index = 0x012 then reactFixed k.region k.inst
      else if k.index = 0x032 then (if kindOf k.region = .lane ∨ k.region = 8 then 1 else 0)
      else if k.index ≥ 0x013 ∧ k.index ≤ 0x015 ∧ ¬ sourceListed k.region k.inst then 0
      else d.reset
    else if k.block = 0x07 then
      if k.index = 0x002 then fabClass k.region k.inst
      else if k.index = 0x003 then fabPrio k.region k.inst
      else d.reset
    else if k.block = 0x02 ∧ k.index = 0x011 then 0xC0A80A0A + k.region
    else if k.block = 0x18 ∧ k.index = 0x002 then k.region
    else d.reset

/-- The width of a place in bits; the variables no parameter shows have 64. -/
def widthOf (k : PKey) : Nat :=
  match lookup k with
  | none => 64
  | some d => d.width

/-- The order of places: region, block, index, instance. -/
def PKey.lt (a b : PKey) : Bool :=
  decide (a.region < b.region ∨ (a.region = b.region ∧ (a.block < b.block ∨ (a.block = b.block ∧
    (a.index < b.index ∨ (a.index = b.index ∧ a.inst < b.inst))))))

/-- The listed value of a place. -/
def Store.find (k : PKey) : Store → Option Nat
  | [] => none
  | (k', v) :: r => if k = k' then some v else Store.find k r

/-- The value of a place: listed, or its reset value. -/
def Store.get (m : Store) (k : PKey) : Nat := (Store.find k m).getD (resetOf k)

/-- A store with one place listed at a value. -/
def Store.insert (k : PKey) (v : Nat) : Store → Store
  | [] => [(k, v)]
  | (k', v') :: r =>
    if k = k' then (k, v) :: r
    else if k.lt k' then (k, v) :: (k', v') :: r
    else (k', v') :: Store.insert k v r

/-- A store with one place not listed. -/
def Store.erase (m : Store) (k : PKey) : Store := m.filter (fun e => e.1 != k)

/-- A store after a write: the value is cut to the place's width, and a place back at its reset value is not listed. -/
def Store.put (m : Store) (k : PKey) (v : Nat) : Store :=
  if v % 2 ^ widthOf k = resetOf k then m.erase k else m.insert k (v % 2 ^ widthOf k)

/-- The canonical form: places strictly rising, every value within its width and not the reset value. -/
def Store.wf : Store → Bool
  | [] => true
  | (k, v) :: r =>
    r.all (fun e => k.lt e.1) && decide (v < 2 ^ widthOf k) && decide (v ≠ resetOf k) && Store.wf r

/-- The 32-bit identifier of a place (R9). -/
def PKey.toId (k : PKey) : Nat :=
  k.region * 2 ^ 28 + k.block % 256 * 2 ^ 20 + k.index % 4096 * 2 ^ 8 + k.inst % 256

/-- The place a 32-bit identifier names (R9). -/
def PKey.ofId (id : Nat) : PKey :=
  ⟨id / 2 ^ 28 % 16, id / 2 ^ 20 % 256, id / 2 ^ 8 % 4096, id % 256⟩

/-- The identifier of instance `i` of a parameter in region `r` (R9). -/
def PDesc.id (d : PDesc) (r i : Nat) : Nat := (d.key r i).toId

/-! ### Accessors of the state -/

/-- The value held for instance `i` of a parameter in region `r`. -/
def State.rd (s : State) (r : Nat) (d : PDesc) (i : Nat := 0) : Nat := s.params.get (d.key r i)

/-- The same as an integer, for signed fields. -/
def State.rdI (s : State) (r : Nat) (d : PDesc) (i : Nat := 0) : Int := sgn d.width (s.rd r d i)

/-- A flag. -/
def State.rdB (s : State) (r : Nat) (d : PDesc) (i : Nat := 0) : Bool := s.rd r d i != 0

/-- The state with instance `i` of a parameter in region `r` at `v`. -/
def State.wr (s : State) (r : Nat) (d : PDesc) (i v : Nat) : State :=
  { s with params := s.params.put (d.key r i) v }

/-- The same for a signed field. -/
def State.wrI (s : State) (r : Nat) (d : PDesc) (i : Nat) (v : Int) : State := s.wr r d i (twos d.width v)

/-- The same for a flag. -/
def State.wrB (s : State) (r : Nat) (d : PDesc) (i : Nat) (v : Bool) : State := s.wr r d i (b2n v)

/-- A counter raised by `n`; it saturates at its largest value and does not wrap. -/
def State.bumpBy (s : State) (r : Nat) (d : PDesc) (i n : Nat) : State :=
  s.wr r d i (satNat d.width (s.rd r d i + n))

/-- A counter raised by one. -/
def State.bump (s : State) (r : Nat) (d : PDesc) (i : Nat := 0) : State := s.bumpBy r d i 1

/-- One bit of a parameter made `b`. -/
def State.wrBit (s : State) (r : Nat) (d : PDesc) (i n : Nat) (b : Bool) : State :=
  s.wr r d i (putBit (s.rd r d i) n b)

/-- A place back at its reset value. -/
def State.clr (s : State) (r : Nat) (d : PDesc) (i : Nat := 0) : State :=
  { s with params := s.params.erase (d.key r i) }

/-- What a lane holds beside its parameters. -/
def State.lane (s : State) : LaneId → Lane
  | .a => s.la | .b => s.lb | .c => s.lc

/-- The state with a lane's records replaced. -/
def State.setLane (s : State) (l : LaneId) (x : Lane) : State :=
  match l with
  | .a => { s with la := x } | .b => { s with lb := x } | .c => { s with lc := x }

/-- The state with a lane's records changed by `f`. -/
def State.modLane (s : State) (l : LaneId) (f : Lane → Lane) : State := s.setLane l (f (s.lane l))

/-- The state with the package time moved on to `t` ns; it never goes back. The measured values are new ones. -/
def State.atTime (s : State) (t : Nat) : State := { s with now := max s.now t, fv := s.fv + 1 }

/-- The number of the next free value, and the state with it drawn. -/
def State.draw (s : State) : Nat × State := (s.fv, { s with fv := s.fv + 1 })

end Machine

end Sys2Proof
end

