-- ==== Sys2Proof/Machine/Flits.lean ====
section
/-! DEFINITION. Flits and messages on the links: the flit of R82 with its check, a message cut into flits, the window of
unacknowledged flits, the bytes of the messages whose layout the manual gives, and the sending of anything (R82 to R88, R90,
R132, R330, R356). -/

namespace Sys2Proof

/-- The order in which flits of different types interleave (R84). -/
def flitOrder : List Nat := [1, 9, 0xA, 3, 2, 4, 5, 7, 0xB, 6, 8]

/-- The low 112 bits of a flit with their check above them (R82, R83). -/
def flitSeal (low : Nat) : Nat := low + 2 ^ 112 * crc16 (toLe 14 low)

/-- A flit (R82). -/
def flitWord (type src seq : Nat) (first last : Bool) (payload : List Byte) : Nat :=
  flitSeal (type % 16 + src % 16 * 2 ^ 4 + seq % 16 * 2 ^ 8 + b2n first * 2 ^ 12 + b2n last * 2 ^ 13 +
    2 ^ 16 * ofLe (padTo 12 payload))

/-- A flit with another link sequence. -/
def flitReseq (w seq : Nat) : Nat :=
  let low := w % 2 ^ 112
  flitSeal (low - bits low 11 8 * 2 ^ 8 + seq % 16 * 2 ^ 8)

/-- The check of a flit holds (R83). -/
def flitOk (w : Nat) : Bool := bits w 127 112 == crc16 (toLe 14 w)

/-- The payload of a flit. -/
def flitPayload (w : Nat) : List Byte := toLe 12 (w / 2 ^ 16)

/-- Bytes cut into payloads of 12. -/
def payloads : Nat → List Byte → List (List Byte)
  | 0, _ => []
  | n + 1, raw => if raw.isEmpty then [] else raw.take 12 :: payloads n (raw.drop 12)

/-- The payloads of a message: its length, then its bytes (R84). -/
def messagePayloads (msg : List Byte) : List (List Byte) :=
  let raw := toLe 2 msg.length ++ msg
  payloads raw.length raw

/-! ### The bytes of messages -/

/-- The exchange frame, EXCH format 1 (R88). -/
def exchBytes (f : ExchFrame) : List Byte :=
  toLe 1 1 ++ toLe 1 (f.region % 16 + f.vstate % 8 * 16 + b2n f.latched * 128) ++ toLe 2 f.period ++ toLe 4 f.cycle ++
    toLe 1 f.heard ++ toLe 1 f.mode ++ toLe 1 f.holder ++ toLe 1 f.active ++ f.idq.flatMap (fun i => toLe 2 (twos 16 i)) ++
    f.angles.flatMap (fun a => toLe 2 a) ++ toLe 8 f.digest ++ toLe 4 f.epoch ++ toLe 1 f.angleValid ++ toLe 1 f.recon ++
    toLe 2 0

/-- The vote message, EXCH format 2 (R330). -/
def voteBytes (v : VoteMsg) : List Byte :=
  toLe 1 2 ++ toLe 1 (v.region % 16 + b2n v.void * 16) ++ toLe 2 v.period ++ toLe 8 v.req ++ toLe 1 v.level ++
    toLe 1 (v.hold % 16) ++ toLe 1 (v.release % 16) ++ toLe 1 0 ++ toLe 4 v.epoch ++ toLe 4 0

/-- The S echo, EXCH format 3 (R90). -/
def echoBytes (e : SEcho) : List Byte :=
  toLe 1 3 ++ toLe 1 8 ++ toLe 2 e.period ++ toLe 2 (satNat 16 e.ageA) ++ toLe 2 (satNat 16 e.ageB) ++
    toLe 2 (satNat 16 e.ageC) ++ toLe 1 (e.excluded % 8) ++ toLe 5 0

/-- A STAFF message (R132). -/
def staffBytes (m : StaffMsg) : List Byte :=
  toLe 1 m.kind ++ toLe 1 (m.sender % 16 + m.subject % 16 * 16) ++ toLe 4 m.epoch ++ toLe 1 m.lease ++ toLe 1 m.reason ++
    toLe 2 m.cycle

/-- A TRIP or ACK_RELEASE message (R356). -/
def tripBytes (m : TripMsg) : List Byte :=
  toLe 1 m.kind ++ toLe 1 (m.sender % 16 + m.pair % 8 * 16 + m.chan % 2 * 128) ++ toLe 1 (m.func % 4) ++ toLe 1 0 ++
    toLe 2 m.cycle ++ toLe 3 m.offset ++ toLe 1 0

namespace Machine

open Par

/-! ### One end of a link -/

/-- The state of one end of a link; an end that has sent and received nothing is as after training. -/
def State.link (s : State) (k : Link) : LinkSt := ((s.links.find? (fun e => e.1 == k)).map Prod.snd).getD {}

/-- The state of one end of a link replaced. -/
def State.setLink (s : State) (k : Link) (x : LinkSt) : State :=
  if s.links.any (fun e => e.1 == k) then { s with links := s.links.map (fun e => if e.1 == k then (k, x) else e) }
  else { s with links := s.links ++ [(k, x)] }

/-- What a link joins (R81): two lanes, a lane and S or M, a lane and its own power die. The kinds are 0 peer, 1 S, 2 M, 3 P. -/
def linkKind (k : Link) : Option Nat :=
  match k.near, k.far with
  | .la, .lb | .la, .lc | .lb, .la | .lb, .lc | .lc, .la | .lc, .lb => some 0
  | .la, .s | .lb, .s | .lc, .s | .s, .la | .s, .lb | .s, .lc => some 1
  | .la, .m | .lb, .m | .lc, .m | .m, .la | .m, .lb | .m, .lc => some 2
  | .la, .pa | .lb, .pb | .lc, .pc | .pa, .la | .pb, .lb | .pc, .lc => some 3
  | _, _ => none

/-- The flit types a link carries (R82). -/
def linkTypes : Nat → List Nat
  | 0 => [1, 2, 3, 4, 6]
  | 1 => [1, 4, 5, 7]
  | 2 => [5, 7, 8]
  | _ => [9, 0xA, 0xB]

/-- The state of a link as its lane end holds it: 0 down, 1 training, 2 up, 3 failed (R87). -/
def State.linkState (s : State) (k : Link) : Nat :=
  if k.near.code ≤ 3 then s.rd k.near.code XLK_LINK_STATE k.far.code else s.rd k.far.code XLK_LINK_STATE k.near.code

/-- The message that may put the next flit on the wires: one begun, or one of whose type none is in flight, in the order of
R84. -/
def LinkSt.pick (x : LinkSt) : Option OutMsg :=
  flitOrder.findSome? (fun t => (x.outq.find? (fun m => m.type == t)).filter
    (fun m => m.started || x.unacked.all (fun f => f.type != t)))

/-- One more flit put on the wires: the state of the end and the flit. -/
def LinkSt.push (x : LinkSt) (src : Nat) (m : OutMsg) : LinkSt × Nat :=
  match m.left with
  | [] => ({ x with outq := x.outq.erase m }, 0)
  | p :: rest =>
    let w := flitWord m.type src x.txSeq (!m.started) rest.isEmpty p
    let q := if rest.isEmpty then x.outq.erase m else x.outq.replace m { m with started := true, left := rest }
    ({ x with outq := q, txSeq := (x.txSeq + 1) % 16, unacked := x.unacked ++ [⟨x.txSeq, w, m.type, 1⟩] }, w)

/-- Flits sent while fewer than 8 are unacknowledged (R85). -/
def State.pump : Nat → Link → State → State
  | 0, _, s => s
  | n + 1, k, s =>
    if (s.link k).unacked.length ≥ 8 then s
    else match (s.link k).pick with
      | none => s
      | some m =>
        let p := (s.link k).push k.near.code m
        State.pump n k { (s.setLink k p.1) with sent := s.sent ++ [.flit k p.2] }

/-- A message handed to a link end; a link that is not up takes none. -/
def State.linkSend (s : State) (k : Link) (type : Nat) (msg : List Byte) : State :=
  if s.linkState k = 2 then
    let x := s.link k
    (s.setLink k { x with outq := x.outq ++ [⟨type, false, messagePayloads msg⟩] }).pump 8 k
  else s

/-- The region with a code. -/
def Region.ofCode : Nat → Option Region
  | 1 => some .la | 2 => some .lb | 3 => some .lc | 4 => some .pa | 5 => some .pb | 6 => some .pc | 7 => some .m
  | 8 => some .s | _ => none

/-- A message from a lane to its peers, and to S where the type goes there. -/
def State.laneSend (s : State) (r : Nat) (dst : List Region) (type : Nat) (msg : List Byte) : State :=
  match Region.ofCode r with
  | none => s
  | some n => dst.foldl (fun s f => if f = n then s else s.linkSend ⟨n, f⟩ type msg) s

/-- The region of a node of the staff. -/
def StaffNode.region : StaffNode → Region
  | .lane l => l.region
  | .s => .s

/-- A message as its flits go out, for the messages whose bytes the manual lays out. -/
def State.onLinks (s : State) : Sent → State
  | .exch f => s.laneSend f.region [.la, .lb, .lc, .s] 1 (exchBytes f)
  | .vote v => s.laneSend v.region [.s] 1 (voteBytes v)
  | .echo l e => s.linkSend ⟨.s, l.region⟩ 1 (echoBytes e)
  | .staff d m => s.laneSend m.sender [StaffNode.region d] 4 (staffBytes m)
  | .trip l m => s.laneSend l.reg [.la, .lb, .lc] 3 (tripBytes m)
  | _ => s

/-- The state with something sent. -/
def State.send (s : State) (x : Sent) : State := { s with sent := s.sent ++ [x] }.onLinks x

end Machine

end Sys2Proof
end

