-- ==== Sys2Proof/Machine/Internals.lean ====
section
/-! DEFINITION. The numeric variables inside the blocks that no parameter shows: counts of persistence, timers, flags and
the model's own bookkeeping. They share the keyed store under the block codes from 0x80 up, which R8 reserves and no
waybill reaches; each is 0 at reset. -/

namespace Sys2Proof.Machine.Var

/-- 1 while the region's supply is present (R561). -/
def INT_POWERED : PDesc := { name := "INT.POWERED", kind := .every, block := 0x80, index := 0, width := 64, acc := .ro }

/-- Package time in ns of the latest Towline or local cycle start of the lane (R389). -/
def INT_CYCLE_START : PDesc := { name := "INT.CYCLE_START", kind := .every, block := 0x80, index := 1, width := 64, acc := .ro }

/-- 1 while the lane's Towline is synchronised (R405). -/
def INT_SYNCED : PDesc := { name := "INT.SYNCED", kind := .every, block := 0x80, index := 2, width := 64, acc := .ro }

/-- The lane's copy of the lifecycle state (R549). -/
def INT_LIFECYCLE : PDesc := { name := "INT.LIFECYCLE", kind := .every, block := 0x80, index := 3, width := 64, acc := .ro }

/-- 1 while M is lost to the lane (R33). -/
def INT_M_LOST : PDesc := { name := "INT.M_LOST", kind := .every, block := 0x80, index := 4, width := 64, acc := .ro }

/-- Consecutive cycles with an M heartbeat while M is lost (R33). -/
def INT_M_BEATS : PDesc := { name := "INT.M_BEATS", kind := .every, block := 0x80, index := 5, width := 64, acc := .ro }

/-- The cycle of the last heartbeat counted while M is lost (R33). -/
def INT_M_BEAT_CYC : PDesc := { name := "INT.M_BEAT_CYC", kind := .every, block := 0x80, index := 15, width := 64, acc := .ro }

/-- 1 while S is lost to the lane (R334). -/
def INT_S_LOST : PDesc := { name := "INT.S_LOST", kind := .every, block := 0x80, index := 6, width := 64, acc := .ro }

/-- 1 from a region reset of the lane until it first enters standby or in service (R128). -/
def INT_REJOINING : PDesc := { name := "INT.REJOINING", kind := .every, block := 0x80, index := 7, width := 64, acc := .ro }

/-- Exchange frames sent with code 3 since the leave was ordered (R125). -/
def INT_LEFT_FRAMES : PDesc := { name := "INT.LEFT_FRAMES", kind := .every, block := 0x80, index := 8, width := 64, acc := .ro }

/-- 1 while a boundary scan holds the outputs low (R503). -/
def INT_EXTEST : PDesc := { name := "INT.EXTEST", kind := .every, block := 0x80, index := 9, width := 64, acc := .ro }

/-- Consecutive MISSING periods of a peer (R89). Instance: peer region. -/
def VOT_MISSING : PDesc := { name := "VOT.MISSING", kind := .every, block := 0x9a, index := 0, width := 64, acc := .ro }

/-- 1 while a peer is classified LOST (R89). Instance: peer region. -/
def VOT_LOST : PDesc := { name := "VOT.LOST", kind := .every, block := 0x9a, index := 1, width := 64, acc := .ro }

/-- 1 when a complete frame of the peer has arrived since the last check (R89). Instance: peer region. -/
def VOT_GOT : PDesc := { name := "VOT.GOT", kind := .every, block := 0x9a, index := 2, width := 64, acc := .ro }

/-- Consecutive base periods without an S echo (R90). -/
def VOT_ECHO_MISS : PDesc := { name := "VOT.ECHO_MISS", kind := .every, block := 0x9a, index := 3, width := 64, acc := .ro }

/-- 1 when an S echo has arrived since the last check (R90). -/
def VOT_ECHO_GOT : PDesc := { name := "VOT.ECHO_GOT", kind := .every, block := 0x9a, index := 4, width := 64, acc := .ro }

/-- Package time in ns of the latest S echo (R90). -/
def VOT_ECHO_AT : PDesc := { name := "VOT.ECHO_AT", kind := .every, block := 0x9a, index := 5, width := 64, acc := .ro }

/-- 1 once the peer's digest has been compared in this cycle (R92). Instance: peer region. -/
def VOT_DIG_DONE : PDesc := { name := "VOT.DIG_DONE", kind := .every, block := 0x9a, index := 6, width := 64, acc := .ro }

/-- Digest of the peer compared in this cycle (R92). Instance: peer region. -/
def VOT_DIG_VAL : PDesc := { name := "VOT.DIG_VAL", kind := .every, block := 0x9a, index := 7, width := 64, acc := .ro }

/-- Consecutive cycles in which a lane's value was an outlier in an analog set (R106). Instance: 8 x (lane - 1) + set. -/
def VOT_AN_OUT : PDesc := { name := "VOT.AN_OUT", kind := .every, block := 0x9a, index := 8, width := 64, acc := .ro }

/-- Consecutive cycles in which a lane's value was invalid in an analog set (R106). Instance: 8 x (lane - 1) + set. -/
def VOT_AN_INV : PDesc := { name := "VOT.AN_INV", kind := .every, block := 0x9a, index := 9, width := 64, acc := .ro }

/-- Consecutive cycles in which the last result of an analog set was held (R105). Instance: set. -/
def VOT_AN_HOLD : PDesc := { name := "VOT.AN_HOLD", kind := .every, block := 0x9a, index := 10, width := 64, acc := .ro }

/-- Consecutive cycles in which a lane's bit was outvoted in a discrete set (R107). Instance: 32 x (lane - 1) + set. -/
def VOT_DI_OUT : PDesc := { name := "VOT.DI_OUT", kind := .every, block := 0x9a, index := 11, width := 64, acc := .ro }

/-- Package time in ns of the latest common sample instant of the lane (R104). -/
def VOT_SAMPLE_AT : PDesc := { name := "VOT.SAMPLE_AT", kind := .every, block := 0x9a, index := 12, width := 64, acc := .ro }

/-- Stop causes present: bit 0 critical set, bit 1 networks, bit 2 digests, bit 3 local stop (R368). -/
def VOT_STOP_CAUSE : PDesc := { name := "VOT.STOP_CAUSE", kind := .every, block := 0x9a, index := 13, width := 64, acc := .ro }

/-- 1 while the controlled stop runs (R374). -/
def VOT_STOP_ON : PDesc := { name := "VOT.STOP_ON", kind := .every, block := 0x9a, index := 14, width := 64, acc := .ro }

/-- The stop force of a brake target, in N (R374). Instance: target. -/
def VOT_STOP_F : PDesc := { name := "VOT.STOP_F", kind := .every, block := 0x9a, index := 15, width := 64, acc := .ro }

/-- 1 once standstill has been reached in the controlled stop (R376). -/
def VOT_STANDSTILL : PDesc := { name := "VOT.STANDSTILL", kind := .every, block := 0x9a, index := 16, width := 64, acc := .ro }

/-- 1 while a target is held by force (R377). -/
def VOT_HELD_FORCE : PDesc := { name := "VOT.HELD_FORCE", kind := .every, block := 0x9a, index := 17, width := 64, acc := .ro }

/-- 1 while a lane counts among the lanes in service (R366). Instance: lane region. -/
def VOT_IN_N : PDesc := { name := "VOT.IN_N", kind := .every, block := 0x9a, index := 18, width := 64, acc := .ro }

/-- 1 while the winding of a lane's bridge is lost (R366). Instance: 8 x lane region + bridge. -/
def VOT_LOST_W : PDesc := { name := "VOT.LOST_W", kind := .every, block := 0x9a, index := 19, width := 64, acc := .ro }

/-- 1 while a bridge is out of RUN by an agreed STOP_DRIVE (R366). Instance: 8 x lane region + bridge. -/
def VOT_STOPPED_W : PDesc := { name := "VOT.STOPPED_W", kind := .every, block := 0x9a, index := 20, width := 64, acc := .ro }

/-- 1 while the lane runs in a local stop (R381). -/
def VOT_LOCAL : PDesc := { name := "VOT.LOCAL", kind := .every, block := 0x9a, index := 21, width := 64, acc := .ro }

/-- The lease carried in the latest RENEW, in ms (R112). -/
def STF_LEASE_MS : PDesc := { name := "STF.LEASE_MS", kind := .every, block := 0x83, index := 0, width := 64, acc := .ro }

/-- 1 while the holder's count, or S's count, runs (R114). -/
def STF_COUNT_ON : PDesc := { name := "STF.COUNT_ON", kind := .every, block := 0x83, index := 1, width := 64, acc := .ro }

/-- Package time in ns at which the lease count restarted (R114). -/
def STF_COUNT_AT : PDesc := { name := "STF.COUNT_AT", kind := .every, block := 0x83, index := 2, width := 64, acc := .ro }

/-- 1 while the lease + 1 ms count of a lane runs (R114). -/
def STF_WAIT_ON : PDesc := { name := "STF.WAIT_ON", kind := .every, block := 0x83, index := 3, width := 64, acc := .ro }

/-- Package time in ns at which the lease + 1 ms count restarted (R114). -/
def STF_WAIT_AT : PDesc := { name := "STF.WAIT_AT", kind := .every, block := 0x83, index := 4, width := 64, acc := .ro }

/-- 1 while a claim of the lane is outstanding (R119). -/
def STF_CLAIMING : PDesc := { name := "STF.CLAIMING", kind := .every, block := 0x83, index := 5, width := 64, acc := .ro }

/-- Package time in ns at which the lane sent its claim (R119). -/
def STF_CLAIM_AT : PDesc := { name := "STF.CLAIM_AT", kind := .every, block := 0x83, index := 6, width := 64, acc := .ro }

/-- 1 once the lane has heard a RENEW (R119). -/
def STF_HEARD : PDesc := { name := "STF.HEARD", kind := .every, block := 0x83, index := 7, width := 64, acc := .ro }

/-- 1 from a RELINQUISH of a lane until S admits it again (R118). Instance: lane region. -/
def STF_RELINQ : PDesc := { name := "STF.RELINQ", kind := .every, block := 0x83, index := 8, width := 64, acc := .ro }

/-- 1 from a RELEASE of a lane until a GRANT raises the epoch (R118). Instance: lane region. -/
def STF_RELEASED : PDesc := { name := "STF.RELEASED", kind := .every, block := 0x83, index := 9, width := 64, acc := .ro }

/-- The region code of the designated successor; 0 = none (R121). -/
def STF_RESERVED : PDesc := { name := "STF.RESERVED", kind := .every, block := 0x83, index := 10, width := 64, acc := .ro }

/-- 1 while S is lost to the staff (R124). -/
def STF_S_SILENT : PDesc := { name := "STF.S_SILENT", kind := .every, block := 0x83, index := 11, width := 64, acc := .ro }

/-- Lanes that have granted the latest RENEW under S lost, one bit per lane (R124). -/
def STF_S_GRANT : PDesc := { name := "STF.S_GRANT", kind := .every, block := 0x83, index := 12, width := 64, acc := .ro }

/-- Lanes that have agreed to the lane's claim under S lost, one bit per lane (R124). -/
def STF_S_AGREE : PDesc := { name := "STF.S_AGREE", kind := .every, block := 0x83, index := 13, width := 64, acc := .ro }

/-- 1 while the new holder waits before its address claim (R122). -/
def STF_ISO_WAIT : PDesc := { name := "STF.ISO_WAIT", kind := .every, block := 0x83, index := 14, width := 64, acc := .ro }

/-- The region code of the previous holder; 0 = none (R120). -/
def STF_PREV : PDesc := { name := "STF.PREV", kind := .every, block := 0x83, index := 15, width := 64, acc := .ro }

/-- The cause of the next handover, as LAST_HANDOVER codes it (R133). -/
def STF_CAUSE : PDesc := { name := "STF.CAUSE", kind := .every, block := 0x83, index := 16, width := 64, acc := .ro }

/-- Consecutive failures of a rejoin step (R128). Instance: step. -/
def STF_STEP_FAIL : PDesc := { name := "STF.STEP_FAIL", kind := .every, block := 0x83, index := 17, width := 64, acc := .ro }

/-- Package time in ns at which shadow began (R128). -/
def STF_SHADOW_AT : PDesc := { name := "STF.SHADOW_AT", kind := .every, block := 0x83, index := 18, width := 64, acc := .ro }

/-- Package time in ns at which the state transfer was requested (R128). -/
def STF_XFER_AT : PDesc := { name := "STF.XFER_AT", kind := .every, block := 0x83, index := 19, width := 64, acc := .ro }

/-- 1 while a state transfer is awaited (R128). -/
def STF_XFER_ON : PDesc := { name := "STF.XFER_ON", kind := .every, block := 0x83, index := 20, width := 64, acc := .ro }

/-- At S: 1 once a frame of the lane has arrived since S's reset (R117). Instance: lane region. -/
def STF_SEEN : PDesc := { name := "STF.SEEN", kind := .every, block := 0x83, index := 21, width := 64, acc := .ro }

/-- At S: package time in ns of the latest frame of a lane (R90). Instance: lane region. -/
def STF_SEEN_AT : PDesc := { name := "STF.SEEN_AT", kind := .every, block := 0x83, index := 22, width := 64, acc := .ro }

/-- At S: 1 once the lane has been admitted since S's reset (R565). Instance: lane region. -/
def STF_ADMITTED : PDesc := { name := "STF.ADMITTED", kind := .every, block := 0x83, index := 23, width := 64, acc := .ro }

/-- 1 when the lane enters service at the next common latch instant (R565). -/
def STF_ENTER : PDesc := { name := "STF.ENTER", kind := .every, block := 0x83, index := 24, width := 64, acc := .ro }

/-- Package time in ns from which the quiet period of a source counts (R478). Instance: source. -/
def FCL_QUIET_AT : PDesc := { name := "FCL.QUIET_AT", kind := .every, block := 0x89, index := 0, width := 64, acc := .ro }

/-- 1 while the wires of a block under reset are masked (R479). Instance: block code. -/
def FCL_MASKED : PDesc := { name := "FCL.MASKED", kind := .every, block := 0x89, index := 1, width := 64, acc := .ro }

/-- 1 while INJECT holds the wire of a source (R500). Instance: source. -/
def FCL_INJECTED : PDesc := { name := "FCL.INJECTED", kind := .every, block := 0x89, index := 2, width := 64, acc := .ro }

/-- 1 while the fault output is held for FAULT_MIN (R482). -/
def FCL_PIN_HELD : PDesc := { name := "FCL.PIN_HELD", kind := .every, block := 0x89, index := 3, width := 64, acc := .ro }

/-- Number of the last source that made the fault task READY, plus 1 (R475). -/
def FCL_IRQ : PDesc := { name := "FCL.IRQ", kind := .every, block := 0x89, index := 4, width := 64, acc := .ro }

/-- Number of the last source that made a non-maskable entry, plus 1 (R475). -/
def FCL_NMI : PDesc := { name := "FCL.NMI", kind := .every, block := 0x89, index := 5, width := 64, acc := .ro }

/-- 1 while a region reset is ordered and not yet taken (R485). -/
def FCL_ORDERED : PDesc := { name := "FCL.ORDERED", kind := .every, block := 0x89, index := 6, width := 64, acc := .ro }

/-- Lanes excluded by S as the lane last heard, one bit per lane (R333). -/
def STF_EXCL_SEEN : PDesc := { name := "STF.EXCL_SEEN", kind := .every, block := 0x83, index := 25, width := 64, acc := .ro }

/-- 1 while the delivered speed of a bridge is valid (R186). Instance: bridge. -/
def OBS_SPEED_OK : PDesc := { name := "OBS.SPEED_OK", kind := .every, block := 0x91, index := 0, width := 64, acc := .ro }

/-- 1 while the delivered angle of a bridge is valid (R186). Instance: bridge. -/
def OBS_ANGLE_OK : PDesc := { name := "OBS.ANGLE_OK", kind := .every, block := 0x91, index := 1, width := 64, acc := .ro }

/-- Consecutive invalid periods of a bridge (R167). Instance: bridge. -/
def CMT_INVALID_N : PDesc := { name := "CMT.INVALID_N", kind := .every, block := 0x90, index := 0, width := 64, acc := .ro }

/-- Consecutive samples of a bridge in RUN with the DC link below VDC_MIN (R163). Instance: bridge. -/
def CMT_VDC_LOW : PDesc := { name := "CMT.VDC_LOW", kind := .every, block := 0x90, index := 1, width := 64, acc := .ro }

/-- Consecutive Towline cycles in which a voting peer's CMT configuration differed (R179). -/
def CMT_CFG_DIFF : PDesc := { name := "CMT.CFG_DIFF", kind := .every, block := 0x90, index := 2, width := 64, acc := .ro }

/-- Time in ns gathered toward the next change of BOOST_LEFT above I_CONT (R173). Instance: bridge. -/
def CMT_BOOST_NS : PDesc := { name := "CMT.BOOST_NS", kind := .every, block := 0x90, index := 3, width := 64, acc := .ro }

/-- Time in ns gathered toward the next rise of BOOST_LEFT (R173). Instance: bridge. -/
def CMT_BOOST_UP : PDesc := { name := "CMT.BOOST_UP", kind := .every, block := 0x90, index := 4, width := 64, acc := .ro }

/-- What drives the gates of a bridge: 0 all off, 1 PWM, 2 three low sides on (R152). Instance: bridge. -/
def GDR_GATES : PDesc := { name := "GDR.GATES", kind := .every, block := 0xa0, index := 0, width := 64, acc := .ro }

/-- 1 once a mismatch record has been written (R147). -/
def LSC_MRAM : PDesc := { name := "LSC.MRAM", kind := .every, block := 0x85, index := 0, width := 64, acc := .ro }

/-- PWM period count of the lane (R88). -/
def INT_PERIOD : PDesc := { name := "INT.PERIOD", kind := .every, block := 0x80, index := 10, width := 64, acc := .ro }

/-- The running standing order plus 1; 0 = none (R440). -/
def DPT_RUN : PDesc := { name := "DPT.RUN", kind := .every, block := 0x86, index := 0, width := 64, acc := .ro }

/-- The index of the waybill of the running order in replay (R440). -/
def DPT_RUN_IDX : PDesc := { name := "DPT.RUN_IDX", kind := .every, block := 0x86, index := 1, width := 64, acc := .ro }

/-- 1 while the running order waits for the final status of its waybill (R440). -/
def DPT_RUN_WAIT : PDesc := { name := "DPT.RUN_WAIT", kind := .every, block := 0x86, index := 2, width := 64, acc := .ro }

/-- 1 once a waybill of the running order has failed (R442). -/
def DPT_RUN_FAIL : PDesc := { name := "DPT.RUN_FAIL", kind := .every, block := 0x86, index := 3, width := 64, acc := .ro }

/-- 1 from a resynchronisation to the cycle start that judges the held waybills again (R51). -/
def WBE_RESYNC : PDesc := { name := "WBE.RESYNC", kind := .every, block := 0x81, index := 0, width := 64, acc := .ro }

/-- 1 once the lane's count has ended, or RELEASE or RELINQUISH of the holder has come, and no RENEW since (R119). -/
def STF_MAY_CLAIM : PDesc := { name := "STF.MAY_CLAIM", kind := .every, block := 0x83, index := 26, width := 64, acc := .ro }

/-- Package time in ns at which the lane sent its latest RENEW (R114). -/
def STF_RENEW_AT : PDesc := { name := "STF.RENEW_AT", kind := .every, block := 0x83, index := 27, width := 64, acc := .ro }

/-- 1 while the lane's latest RENEW has brought no GRANT (R127). -/
def STF_RENEW_OPEN : PDesc := { name := "STF.RENEW_OPEN", kind := .every, block := 0x83, index := 28, width := 64, acc := .ro }

/-- 1 once a claim of the lane failed; it claims again at its next common sample instant (R120). -/
def STF_RETRY : PDesc := { name := "STF.RETRY", kind := .every, block := 0x83, index := 29, width := 64, acc := .ro }

/-- Lanes whose ADMIT waits for the next GRANT, one bit per lane (R130). -/
def STF_ADMIT_WAIT : PDesc := { name := "STF.ADMIT_WAIT", kind := .every, block := 0x83, index := 30, width := 64, acc := .ro }

/-- 1 once an S STATUS has come while S is lost to the staff (R124). -/
def STF_S_BACK : PDesc := { name := "STF.S_BACK", kind := .every, block := 0x83, index := 31, width := 64, acc := .ro }

/-- 1 once a fault was raised in the lane during shadow (R128). -/
def STF_SHADOW_BAD : PDesc := { name := "STF.SHADOW_BAD", kind := .every, block := 0x83, index := 32, width := 64, acc := .ro }

/-- 1 once a rejoin step has failed 3 times: the lane stays out until its next region reset (R128). -/
def STF_STAY_OUT : PDesc := { name := "STF.STAY_OUT", kind := .every, block := 0x83, index := 33, width := 64, acc := .ro }

/-- Package time in ns of the latest PWM valley of the lane (R154). -/
def INT_VALLEY_AT : PDesc := { name := "INT.VALLEY_AT", kind := .every, block := 0x80, index := 11, width := 64, acc := .ro }

/-- Package time in ns of the latest compute start of the lane (R156). -/
def INT_COMP_AT : PDesc := { name := "INT.COMP_AT", kind := .every, block := 0x80, index := 12, width := 64, acc := .ro }

/-- 1 from the commit that closes a loop to its first trigger after it (R252). Instance: loop. -/
def CEN_CLOSING : PDesc := { name := "CEN.CLOSING", kind := .every, block := 0x92, index := 0, width := 64, acc := .ro }

/-- Unlimited output of the last run, saturated to a signal (R256). Instance: loop. -/
def CEN_U : PDesc := { name := "CEN.U", kind := .every, block := 0x92, index := 1, width := 64, acc := .ro }

/-- Output of a section to the next in the last run, a signal (R256). Instance: section. -/
def CEN_Y : PDesc := { name := "CEN.Y", kind := .every, block := 0x92, index := 2, width := 64, acc := .ro, span := 2 }

/-- 1 when the last run of the loop was limited (R253). Instance: loop. -/
def CEN_X_PREV : PDesc := { name := "CEN.X_PREV", kind := .every, block := 0x92, index := 4, width := 64, acc := .ro }

/-- Continuous time at the limit in ps (R253). Instance: loop. -/
def CEN_SAT_PS : PDesc := { name := "CEN.SAT_PS", kind := .every, block := 0x92, index := 5, width := 64, acc := .ro }

/-- Package time in sixths of a ns at which the run in progress of a loop completes (R243). Instance: loop. -/
def CEN_BUSY_AT : PDesc := { name := "CEN.BUSY_AT", kind := .every, block := 0x92, index := 6, width := 64, acc := .ro }

/-- Package time in sixths of a ns at which the queued groups complete (R243). -/
def CEN_FREE_AT : PDesc := { name := "CEN.FREE_AT", kind := .every, block := 0x92, index := 7, width := 64, acc := .ro }

/-- 1 when the lane's change of angle since the reference period is usable (R244). Instance: 8 x lane region + bridge. -/
def CEN_REF_ANG : PDesc := { name := "CEN.REF_ANG", kind := .every, block := 0x92, index := 8, width := 64, acc := .ro }

/-- Unwrapped change of a lane's frame angle since the reference period, signed (R244). Instance: 8 x lane region + bridge. -/
def CEN_CHG : PDesc := { name := "CEN.CHG", kind := .every, block := 0x92, index := 9, width := 64, acc := .ro }

/-- Frame angle of a lane of the last period counted (R244). Instance: 8 x lane region + bridge. -/
def CEN_ANG : PDesc := { name := "CEN.ANG", kind := .every, block := 0x92, index := 10, width := 64, acc := .ro }

/-- Voted value an agreed input is built on (R245). Instance: input. -/
def CEN_AGR_V : PDesc := { name := "CEN.AGR_V", kind := .every, block := 0x92, index := 11, width := 64, acc := .ro }

/-- Number of the present base period in the Towline cycle (R154). -/
def CEN_BP : PDesc := { name := "CEN.BP", kind := .every, block := 0x92, index := 12, width := 64, acc := .ro }

/-- 1 while an agreed target waits for base period 0 of the next cycle (R254). Instance: target. -/
def CEN_TGT_PEND : PDesc := { name := "CEN.TGT_PEND", kind := .every, block := 0x92, index := 13, width := 64, acc := .ro }

/-- The agreed target that waits for base period 0 (R254). Instance: target. -/
def CEN_TGT_PENDV : PDesc := { name := "CEN.TGT_PENDV", kind := .every, block := 0x92, index := 14, width := 64, acc := .ro }

/-- 1 while an agreed URGENT target waits for its entry (R254). Instance: target. -/
def CEN_TGT_URG : PDesc := { name := "CEN.TGT_URG", kind := .every, block := 0x92, index := 15, width := 64, acc := .ro }

/-- The agreed URGENT target that waits (R254). Instance: target. -/
def CEN_TGT_URGV : PDesc := { name := "CEN.TGT_URGV", kind := .every, block := 0x92, index := 16, width := 64, acc := .ro }

/-- Package time in ns from which a valley lets the URGENT target enter (R254). Instance: target. -/
def CEN_TGT_URGAT : PDesc := { name := "CEN.TGT_URGAT", kind := .every, block := 0x92, index := 17, width := 64, acc := .ro }

/-- 1 when the target has taken its step at an URGENT entry (R254). Instance: target. -/
def CEN_TGT_STEPPED : PDesc := { name := "CEN.TGT_STEPPED", kind := .every, block := 0x92, index := 18, width := 64, acc := .ro }

/-- CRC-32C of the published outputs at the compute start after the reference period (R247). -/
def CEN_OUT_SNAP : PDesc := { name := "CEN.OUT_SNAP", kind := .every, block := 0x92, index := 19, width := 64, acc := .ro }

/-- Consecutive cycles in which a lane's output check was in the minority (R247). Instance: lane region. -/
def CEN_OUT_DIFF : PDesc := { name := "CEN.OUT_DIFF", kind := .every, block := 0x92, index := 20, width := 64, acc := .ro }

/-- Consecutive Towline cycles in which a voting peer's CEN configuration differed (R262). -/
def CEN_CFG_DIFF : PDesc := { name := "CEN.CFG_DIFF", kind := .every, block := 0x92, index := 21, width := 64, acc := .ro }

/-- Bin of the last run (R273). Instance: controller. -/
def RPC_ILAST : PDesc := { name := "RPC.ILAST", kind := .every, block := 0x93, index := 0, width := 64, acc := .ro }

/-- 1 once a bin of a run is known (R273). Instance: controller. -/
def RPC_ION : PDesc := { name := "RPC.ION", kind := .every, block := 0x93, index := 1, width := 64, acc := .ro }

/-- Accumulated learning error of the present bin, signed (R273). Instance: controller. -/
def RPC_ACC : PDesc := { name := "RPC.ACC", kind := .every, block := 0x93, index := 2, width := 64, acc := .ro }

/-- Runs accumulated in the present bin (R273). Instance: controller. -/
def RPC_N : PDesc := { name := "RPC.N", kind := .every, block := 0x93, index := 3, width := 64, acc := .ro }

/-- State s1 of the Q section, signed (R274). Instance: controller. -/
def RPC_QS1 : PDesc := { name := "RPC.QS1", kind := .every, block := 0x93, index := 4, width := 64, acc := .ro }

/-- State s2 of the Q section, signed (R274). Instance: controller. -/
def RPC_QS2 : PDesc := { name := "RPC.QS2", kind := .every, block := 0x93, index := 5, width := 64, acc := .ro }

/-- 1 when the Q section restarts with the next z (R276). Instance: controller. -/
def RPC_QNEW : PDesc := { name := "RPC.QNEW", kind := .every, block := 0x93, index := 6, width := 64, acc := .ro }

/-- Steps of the fade, 0 to FADE (R278). Instance: controller. -/
def RPC_FADE_N : PDesc := { name := "RPC.FADE_N", kind := .every, block := 0x93, index := 7, width := 64, acc := .ro }

/-- Distance left of the reversal hold, in 2^-16 bins (R280). Instance: controller. -/
def RPC_REV_LEFT : PDesc := { name := "RPC.REV_LEFT", kind := .every, block := 0x93, index := 8, width := 64, acc := .ro }

/-- Index position at the last run while a reversal is held, in 2^-16 bins (R280). Instance: controller. -/
def RPC_REV_FROM : PDesc := { name := "RPC.REV_FROM", kind := .every, block := 0x93, index := 9, width := 64, acc := .ro }

/-- Source values of the last cycles, newest at age 0, signed (R269). Instance: 32 x controller + age. -/
def RPC_HIST : PDesc := { name := "RPC.HIST", kind := .every, block := 0x93, index := 10, width := 64, acc := .ro }

/-- 1 when that source value was valid (R269). Instance: 32 x controller + age. -/
def RPC_HIST_OK : PDesc := { name := "RPC.HIST_OK", kind := .every, block := 0x93, index := 11, width := 64, acc := .ro }

/-- Position of kind 1 from completed cycles, modulo PERIOD (R270). Instance: controller. -/
def RPC_ACC_POS : PDesc := { name := "RPC.ACC_POS", kind := .every, block := 0x93, index := 12, width := 64, acc := .ro }

/-- 1 while the table check of a controller is pending (R283). Instance: controller. -/
def RPC_PEND : PDesc := { name := "RPC.PEND", kind := .every, block := 0x93, index := 13, width := 64, acc := .ro }

/-- 1 once the table check has been sent (R283). Instance: controller. -/
def RPC_PEND_SENT : PDesc := { name := "RPC.PEND_SENT", kind := .every, block := 0x93, index := 14, width := 64, acc := .ro }

/-- 1 when the accumulator of the present bin is discarded at its first crossing (R285). Instance: controller. -/
def RPC_DISCARD : PDesc := { name := "RPC.DISCARD", kind := .every, block := 0x93, index := 15, width := 64, acc := .ro }

/-- Consecutive Towline cycles in which a voting peer's RPC configuration differed (R282). -/
def RPC_CFG_DIFF : PDesc := { name := "RPC.CFG_DIFF", kind := .every, block := 0x93, index := 16, width := 64, acc := .ro }

/-- 1 once the fault-collector source was asserted since the last trace row (R258). Instance: source. -/
def TRC_HIT : PDesc := { name := "TRC.HIT", kind := .every, block := 0x94, index := 0, width := 64, acc := .ro }

/-- Rows still to record after the trigger row (R259). -/
def TRC_POST : PDesc := { name := "TRC.POST", kind := .every, block := 0x94, index := 1, width := 64, acc := .ro }

/-- Soft turn-off of a switch: 0 none, 1 step 1, 2 step 2, 3 off in the clamp until its command rises again (R216). Instance: switch. -/
def GDR_SW : PDesc := { name := "GDR.SW", kind := .every, block := 0xa0, index := 1, width := 64, acc := .ro }

/-- 1 while the interlock blocks a switch (R210). Instance: switch. -/
def GDR_BLOCK : PDesc := { name := "GDR.BLOCK", kind := .every, block := 0xa0, index := 2, width := 64, acc := .ro }

/-- Package time in ns of the first detection of the latest leg trip (R217). Instance: bridge. -/
def GDR_LEG_AT : PDesc := { name := "GDR.LEG_AT", kind := .every, block := 0xa0, index := 3, width := 64, acc := .ro }

/-- Phase of the latest leg trip plus 1; 0 = none (R217). Instance: bridge. -/
def GDR_LEG_PH : PDesc := { name := "GDR.LEG_PH", kind := .every, block := 0xa0, index := 4, width := 64, acc := .ro }

/-- Status bits gathered since the previous valley (R221). Instance: bridge. -/
def GDR_ACC : PDesc := { name := "GDR.ACC", kind := .every, block := 0xa0, index := 5, width := 64, acc := .ro }

/-- 1 when a DUTY has arrived for the next load point (R208). Instance: bridge. -/
def GDR_DUTY_GOT : PDesc := { name := "GDR.DUTY_GOT", kind := .every, block := 0xa0, index := 6, width := 64, acc := .ro }

/-- Load points in a row without a DUTY (R208). Instance: bridge. -/
def GDR_DUTY_MISS : PDesc := { name := "GDR.DUTY_MISS", kind := .every, block := 0xa0, index := 7, width := 64, acc := .ro }

/-- The DUTY_MISSING flag (R208). Instance: bridge. -/
def GDR_MISSING : PDesc := { name := "GDR.MISSING", kind := .every, block := 0xa0, index := 8, width := 64, acc := .ro }

/-- 1 while the precharge of a bridge runs (R212). Instance: bridge. -/
def GDR_PRE_ON : PDesc := { name := "GDR.PRE_ON", kind := .every, block := 0xa0, index := 9, width := 64, acc := .ro }

/-- 1 from VGD below 8.0 V, or absent, until it has stayed above 9.0 V for 1 ms (R205). -/
def GDR_VGD_BAD : PDesc := { name := "GDR.VGD_BAD", kind := .every, block := 0xa0, index := 10, width := 64, acc := .ro }

/-- Package time in ns of the latest rising zero crossing of phase U in SHORT (R223). Instance: bridge. -/
def GDR_ZC_AT : PDesc := { name := "GDR.ZC_AT", kind := .every, block := 0xa0, index := 11, width := 64, acc := .ro }

/-- 1 once a zero crossing has been seen in the present SHORT (R223). Instance: bridge. -/
def GDR_ZC_ON : PDesc := { name := "GDR.ZC_ON", kind := .every, block := 0xa0, index := 12, width := 64, acc := .ro }

/-- 1 when the samples of the bridge carry the latch bit (R220). Instance: bridge. -/
def CMT_LATCH_SEEN : PDesc := { name := "CMT.LATCH_SEEN", kind := .every, block := 0x90, index := 5, width := 64, acc := .ro }

/-- 1 when the latest load point of the lane was a PWM peak (R158). -/
def CMT_PEAK : PDesc := { name := "CMT.PEAK", kind := .every, block := 0x90, index := 6, width := 64, acc := .ro }

/-- 1 while the bridge is in the high band (R187). Instance: bridge. -/
def OBS_HIGH : PDesc := { name := "OBS.HIGH", kind := .every, block := 0x91, index := 2, width := 64, acc := .ro }

/-- 1 while the observer is lost (R193). Instance: bridge. -/
def OBS_LOST : PDesc := { name := "OBS.LOST", kind := .every, block := 0x91, index := 3, width := 64, acc := .ro }

/-- Consecutive periods with the innovation above its limit (R193). Instance: bridge. -/
def OBS_INNOV_N : PDesc := { name := "OBS.INNOV_N", kind := .every, block := 0x91, index := 4, width := 64, acc := .ro }

/-- Periods the observer has run without a restart (R186). Instance: bridge. -/
def OBS_RUN_N : PDesc := { name := "OBS.RUN_N", kind := .every, block := 0x91, index := 5, width := 64, acc := .ro }

/-- Consecutive periods with the two sources apart by more than AGREE_WIN (R191). Instance: bridge. -/
def OBS_DIS_N : PDesc := { name := "OBS.DIS_N", kind := .every, block := 0x91, index := 6, width := 64, acc := .ro }

/-- Consecutive periods with the encoder far from a reference of two peers (R192). Instance: bridge. -/
def OBS_FAR_N : PDesc := { name := "OBS.FAR_N", kind := .every, block := 0x91, index := 7, width := 64, acc := .ro }

/-- Consecutive clean periods toward reacquisition (R194). Instance: bridge. -/
def OBS_CLEAN_N : PDesc := { name := "OBS.CLEAN_N", kind := .every, block := 0x91, index := 8, width := 64, acc := .ro }

/-- Periods left of a blend (R188). Instance: bridge. -/
def OBS_BLEND_N : PDesc := { name := "OBS.BLEND_N", kind := .every, block := 0x91, index := 9, width := 64, acc := .ro }

/-- Source a blend leads away from (R188). Instance: bridge. -/
def OBS_BLEND_SRC : PDesc := { name := "OBS.BLEND_SRC", kind := .every, block := 0x91, index := 10, width := 64, acc := .ro }

/-- 1 while the arbitration holds the encoder unusable (R191). Instance: bridge. -/
def OBS_ENC_OUT : PDesc := { name := "OBS.ENC_OUT", kind := .every, block := 0x91, index := 11, width := 64, acc := .ro }

/-- Package time in ns of the latest declaration of lost (R194). Instance: bridge. -/
def OBS_LOSS_AT : PDesc := { name := "OBS.LOSS_AT", kind := .every, block := 0x91, index := 12, width := 64, acc := .ro }

/-- 1 while the HFI alignment of a bridge runs (R198). Instance: bridge. -/
def OBS_ALIGN : PDesc := { name := "OBS.ALIGN", kind := .every, block := 0x91, index := 13, width := 64, acc := .ro }

/-- 1 once the capture in progress has failed once (R201). Instance: bridge. -/
def OBS_CAP_TRY : PDesc := { name := "OBS.CAP_TRY", kind := .every, block := 0x91, index := 14, width := 64, acc := .ro }

/-- 1 while a bridge withdrawn after loss has not started again (R202). Instance: bridge. -/
def OBS_GONE : PDesc := { name := "OBS.GONE", kind := .every, block := 0x91, index := 15, width := 64, acc := .ro }

/-- 1 while TRIP_TQ may stand in for the demand of a bridge (R358). Instance: bridge. -/
def SIO_TRIP_B : PDesc := { name := "SIO.TRIP_B", kind := .every, block := 0x97, index := 0, width := 64, acc := .ro }

/-- 1 when the voltage of the latest period exceeded its limit (R174). Instance: bridge. -/
def CMT_LIM : PDesc := { name := "CMT.LIM", kind := .every, block := 0x90, index := 7, width := 64, acc := .ro }

/-- The last command of a target that has entered, before any floor (R374). Instance: target. -/
def CEN_TGT_LAST : PDesc := { name := "CEN.TGT_LAST", kind := .every, block := 0x92, index := 22, width := 64, acc := .ro }

/-- Count of the distance channel that POS contains, 32 bits (R320). -/
def SDC_LAST : PDesc := { name := "SDC.LAST", kind := .every, block := 0x96, index := 0, width := 64, acc := .ro }

/-- The position estimate in 1/256 count, signed (R321). -/
def SDC_X : PDesc := { name := "SDC.X", kind := .every, block := 0x96, index := 1, width := 64, acc := .ro }

/-- The highest position estimate in 1/256 count, signed (R325). -/
def SDC_HWMX : PDesc := { name := "SDC.HWMX", kind := .every, block := 0x96, index := 2, width := 64, acc := .ro }

/-- 1 while the lane is REVERSED (R325). -/
def SDC_REV : PDesc := { name := "SDC.REV", kind := .every, block := 0x96, index := 3, width := 64, acc := .ro }

/-- Position of the last entry written, signed (R318). -/
def SDC_LAST_P : PDesc := { name := "SDC.LAST_P", kind := .every, block := 0x96, index := 4, width := 64, acc := .ro }

/-- 1 once an entry has been written since the last TABLE_LOAD of none (R318). -/
def SDC_LAST_ON : PDesc := { name := "SDC.LAST_ON", kind := .every, block := 0x96, index := 5, width := 64, acc := .ro }

/-- 1 once the lane has entered void (R327). -/
def SDC_VOID_SEEN : PDesc := { name := "SDC.VOID_SEEN", kind := .every, block := 0x96, index := 6, width := 64, acc := .ro }

/-- Consecutive cycles in which two other voting lanes agreed on a table that differs (R328). -/
def SDC_DIFF : PDesc := { name := "SDC.DIFF", kind := .every, block := 0x96, index := 7, width := 64, acc := .ro }

/-- Consecutive cycles in which no other voting lane had the same table and no two agreed (R328). -/
def SDC_SPLIT : PDesc := { name := "SDC.SPLIT", kind := .every, block := 0x96, index := 8, width := 64, acc := .ro }

/-- WR_COUNT at the latest common sample instant (R328). -/
def SDC_SMP_COUNT : PDesc := { name := "SDC.SMP_COUNT", kind := .every, block := 0x96, index := 9, width := 64, acc := .ro }

/-- TBL_DIGEST at the latest common sample instant (R328). -/
def SDC_SMP_DIGEST : PDesc := { name := "SDC.SMP_DIGEST", kind := .every, block := 0x96, index := 10, width := 64, acc := .ro }

/-- HOLD bits the lane sets, targets 1 to 4 in bits 0 to 3 (R344). -/
def SDC_HOLD : PDesc := { name := "SDC.HOLD", kind := .every, block := 0x96, index := 11, width := 64, acc := .ro }

/-- RELEASE bits the lane sets (R344). -/
def SDC_REL : PDesc := { name := "SDC.REL", kind := .every, block := 0x96, index := 12, width := 64, acc := .ro }

/-- Package time in ns from which the RELEASE bit of a target is set (R344). Instance: target. -/
def SDC_REL_AT : PDesc := { name := "SDC.REL_AT", kind := .every, block := 0x96, index := 13, width := 64, acc := .ro }

/-- Section requests of the latest vote message (R330). -/
def SDC_SENT_REQ : PDesc := { name := "SDC.SENT_REQ", kind := .every, block := 0x96, index := 14, width := 64, acc := .ro }

/-- LEVEL requests of the latest vote message (R330). -/
def SDC_SENT_LEVEL : PDesc := { name := "SDC.SENT_LEVEL", kind := .every, block := 0x96, index := 15, width := 64, acc := .ro }

/-- SVT.ARMED as a lane last heard it from S (R333). -/
def SVT_V_ARMED : PDesc := { name := "SVT.V_ARMED", kind := .every, block := 0xb1, index := 0, width := 64, acc := .ro }

/-- SVT.OUT as a lane last heard it from S (R333). -/
def SVT_V_OUT : PDesc := { name := "SVT.V_OUT", kind := .every, block := 0xb1, index := 1, width := 64, acc := .ro }

/-- SEC.FAULTED as a lane last heard it from S (R333). -/
def SVT_V_FAULTED : PDesc := { name := "SVT.V_FAULTED", kind := .every, block := 0xb1, index := 2, width := 64, acc := .ro }

/-- ATH.LATCH_STATE as a lane last heard it from S (R333). -/
def SVT_V_LATCH : PDesc := { name := "SVT.V_LATCH", kind := .every, block := 0xb1, index := 3, width := 64, acc := .ro }

/-- ATH.OUT as a lane last heard it from S (R333). -/
def SVT_V_ATH : PDesc := { name := "SVT.V_ATH", kind := .every, block := 0xb1, index := 4, width := 64, acc := .ro }

/-- SVT.VOID as a lane last heard it from S (R333). -/
def SVT_V_VOID : PDesc := { name := "SVT.V_VOID", kind := .every, block := 0xb1, index := 5, width := 64, acc := .ro }

/-- At S: package time in ns of the latest vote of a lane (R348). Instance: lane region. -/
def SVT_VOTE_AT : PDesc := { name := "SVT.VOTE_AT", kind := .every, block := 0xb1, index := 6, width := 64, acc := .ro }

/-- Channel under an off-pulse plus 1; 0 = none (R338). -/
def SEC_TEST_K : PDesc := { name := "SEC.TEST_K", kind := .every, block := 0xb0, index := 0, width := 64, acc := .ro }

/-- Consecutive failed off-pulses of a channel (R338). Instance: channel. -/
def SEC_FAIL_N : PDesc := { name := "SEC.FAIL_N", kind := .every, block := 0xb0, index := 1, width := 64, acc := .ro }

/-- 1 once an off-pulse of a channel has passed (R338). Instance: channel. -/
def SEC_PASS_ON : PDesc := { name := "SEC.PASS_ON", kind := .every, block := 0xb0, index := 2, width := 64, acc := .ro }

/-- Package time in ns of the latest passed off-pulse of a channel (R338). Instance: channel. -/
def SEC_PASS_AT : PDesc := { name := "SEC.PASS_AT", kind := .every, block := 0xb0, index := 3, width := 64, acc := .ro }

/-- Coil pulse of a target: 0 none, 1 engage, 2 release (R344). Instance: target. -/
def ATH_DIR : PDesc := { name := "ATH.DIR", kind := .every, block := 0xb2, index := 0, width := 64, acc := .ro }

/-- Targets an output is pulsed for, targets 1 to 4 in bits 0 to 3 (R344). Instance: output. -/
def ATH_USERS : PDesc := { name := "ATH.USERS", kind := .every, block := 0xb2, index := 1, width := 64, acc := .ro }

/-- 1 once a coil fault was found during the pulse of a target (R345). Instance: target. -/
def ATH_BAD : PDesc := { name := "ATH.BAD", kind := .every, block := 0xb2, index := 2, width := 64, acc := .ro }

/-- HOLD bits of a lane's previous vote (R344). Instance: lane region. -/
def ATH_HOLD_PREV : PDesc := { name := "ATH.HOLD_PREV", kind := .every, block := 0xb2, index := 3, width := 64, acc := .ro }

/-- RELEASE bits of a lane's previous vote (R344). Instance: lane region. -/
def ATH_REL_PREV : PDesc := { name := "ATH.REL_PREV", kind := .every, block := 0xb2, index := 4, width := 64, acc := .ro }

/-- RELEASE bits of a lane that have started a pulse (R344). Instance: lane region. -/
def ATH_REL_SERVED : PDesc := { name := "ATH.REL_SERVED", kind := .every, block := 0xb2, index := 5, width := 64, acc := .ro }

/-- 1 from an engagement under the orphan rule until a lane is counted (R346). -/
def ATH_ORPHANED : PDesc := { name := "ATH.ORPHANED", kind := .every, block := 0xb2, index := 6, width := 64, acc := .ro }

/-- At S: 1 once a lane has been admitted since S's reset (R346). -/
def STF_ANY_ADM : PDesc := { name := "STF.ANY_ADM", kind := .every, block := 0x83, index := 34, width := 64, acc := .ro }

/-- Package time in ns of the STATUS or ADMIT after which the lane enters service (R565). -/
def STF_ENTER_AT : PDesc := { name := "STF.ENTER_AT", kind := .every, block := 0x83, index := 35, width := 64, acc := .ro }

/-- Inputs that have an accepted level, as SIO.IN numbers them (R350). -/
def SIO_HAVE : PDesc := { name := "SIO.HAVE", kind := .every, block := 0x97, index := 1, width := 64, acc := .ro }

/-- Channel of a pair that changed first and awaits the other, plus 1; 0 = none (R354). Instance: pair. -/
def SIO_PEND : PDesc := { name := "SIO.PEND", kind := .every, block := 0x97, index := 2, width := 64, acc := .ro }

/-- Tick of that change (R354). Instance: pair. -/
def SIO_PEND_TICK : PDesc := { name := "SIO.PEND_TICK", kind := .every, block := 0x97, index := 3, width := 64, acc := .ro }

/-- 1 once both channels of a pair with a latched discrepancy have been open at once (R354). Instance: pair. -/
def SIO_DISC_BOTH : PDesc := { name := "SIO.DISC_BOTH", kind := .every, block := 0x97, index := 4, width := 64, acc := .ro }

/-- Test-pulse outputs that are low, one bit per output (R351). -/
def SIO_TP_BUSY : PDesc := { name := "SIO.TP_BUSY", kind := .every, block := 0x97, index := 5, width := 64, acc := .ro }

/-- Consecutive test pulses not seen by an input (R351). Instance: input. -/
def SIO_TP_N : PDesc := { name := "SIO.TP_N", kind := .every, block := 0x97, index := 6, width := 64, acc := .ro }

/-- 1 when the latest pulse of an output failed its readback (R352). Instance: output. -/
def SIO_TP_BAD : PDesc := { name := "SIO.TP_BAD", kind := .every, block := 0x97, index := 7, width := 64, acc := .ro }

/-- Stamp of a pair's trip in ns of Towline time (R355). Instance: pair. -/
def SIO_P_AT : PDesc := { name := "SIO.P_AT", kind := .every, block := 0x97, index := 8, width := 64, acc := .ro }

/-- Channel of a pair that opened first (R355). Instance: pair. -/
def SIO_P_CH : PDesc := { name := "SIO.P_CH", kind := .every, block := 0x97, index := 9, width := 64, acc := .ro }

/-- 1 while a trip of a function waits for its application (R357). Instance: function. -/
def SIO_T_ON : PDesc := { name := "SIO.T_ON", kind := .every, block := 0x97, index := 10, width := 64, acc := .ro }

/-- Earliest stamp of a function in ns of Towline time (R357). Instance: function. -/
def SIO_T_AT : PDesc := { name := "SIO.T_AT", kind := .every, block := 0x97, index := 11, width := 64, acc := .ro }

/-- 1 once a stamp has been recorded since the last reset (R365). -/
def SIO_SRC_ON : PDesc := { name := "SIO.SRC_ON", kind := .every, block := 0x97, index := 12, width := 64, acc := .ro }

/-- Earliest stamp since the last reset in ns of Towline time (R365). -/
def SIO_SRC_AT : PDesc := { name := "SIO.SRC_AT", kind := .every, block := 0x97, index := 13, width := 64, acc := .ro }

/-- Package time in ns at which the last trip pair of the lane became closed (R361). -/
def SIO_CLOSED_AT : PDesc := { name := "SIO.CLOSED_AT", kind := .every, block := 0x97, index := 14, width := 64, acc := .ro }

/-- 1 from an accepted press of ACK to its release (R361). -/
def SIO_ACK_ON : PDesc := { name := "SIO.ACK_ON", kind := .every, block := 0x97, index := 15, width := 64, acc := .ro }

/-- Package time in ns of the accepted press of ACK (R361). -/
def SIO_ACK_AT : PDesc := { name := "SIO.ACK_AT", kind := .every, block := 0x97, index := 16, width := 64, acc := .ro }

/-- 1 once a trip was applied during the press of ACK (R361). -/
def SIO_ACK_BAD : PDesc := { name := "SIO.ACK_BAD", kind := .every, block := 0x97, index := 17, width := 64, acc := .ro }

/-- 1 while a valid release of a lane is held (R362). Instance: lane region. -/
def SIO_ACK_REL : PDesc := { name := "SIO.ACK_REL", kind := .every, block := 0x97, index := 18, width := 64, acc := .ro }

/-- Stamp of the release held of a lane in ns of Towline time (R362). Instance: lane region. -/
def SIO_ACK_REL_AT : PDesc := { name := "SIO.ACK_REL_AT", kind := .every, block := 0x97, index := 19, width := 64, acc := .ro }

/-- Nonce of the ARM_RESET in force (R363). -/
def SIO_NONCE : PDesc := { name := "SIO.NONCE", kind := .every, block := 0x97, index := 20, width := 64, acc := .ro }

/-- Package time in ns of the evaluation point of the ARM_RESET in force (R363). -/
def SIO_ARM_AT : PDesc := { name := "SIO.ARM_AT", kind := .every, block := 0x97, index := 21, width := 64, acc := .ro }

/-- The lanes in service at the latest evaluation of the mode, one bit per lane (R366). -/
def VOT_N_MASK : PDesc := { name := "VOT.N_MASK", kind := .every, block := 0x9a, index := 22, width := 64, acc := .ro }

/-- The lanes whose winding of a bridge was not lost at the latest evaluation of the mode (R366). Instance: bridge. -/
def VOT_W_MASK : PDesc := { name := "VOT.W_MASK", kind := .every, block := 0x9a, index := 23, width := 64, acc := .ro }

/-- 1 from synchronisation of a READY lane until its listening has ended in a rejoin or in shadow (R564). -/
def STF_LISTEN : PDesc := { name := "STF.LISTEN", kind := .every, block := 0x83, index := 36, width := 64, acc := .ro }

/-- Compute starts since shadow began (R128). -/
def STF_SHADOW_N : PDesc := { name := "STF.SHADOW_N", kind := .every, block := 0x83, index := 37, width := 64, acc := .ro }

/-- At S, and in a lane while S is lost: 1 once the first shadow frame has started the 500 ms (R565). -/
def STF_FORM_ON : PDesc := { name := "STF.FORM_ON", kind := .every, block := 0x83, index := 38, width := 64, acc := .ro }

/-- 1 once the second transfer of a rejoin has been loaded (R248). -/
def STF_LOOP_GOT : PDesc := { name := "STF.LOOP_GOT", kind := .every, block := 0x83, index := 39, width := 64, acc := .ro }

/-- The Towline cycle of the first run of an armed TOWLINE order (R438). Instance: order. -/
def DPT_ORD_FIRST : PDesc := { name := "DPT.ORD_FIRST", kind := .every, block := 0x86, index := 4, width := 64, acc := .ro }

/-- The node's own count of the cycle, also while it is not synchronised (R416). -/
def TWL_C : PDesc := { name := "TWL.C", kind := .every, block := 0x98, index := 0, width := 64, acc := .ro }

/-- Package time in ns of the node's present cycle start (R398). -/
def TWL_START : PDesc := { name := "TWL.START", kind := .every, block := 0x98, index := 1, width := 64, acc := .ro }

/-- The cycle the node integrated on (R417). -/
def TWL_C0 : PDesc := { name := "TWL.C0", kind := .every, block := 0x98, index := 2, width := 64, acc := .ro }

/-- Cold-start attempts since the last region reset (R415). -/
def TWL_TRIES : PDesc := { name := "TWL.TRIES", kind := .every, block := 0x98, index := 3, width := 64, acc := .ro }

/-- 1 once a valid sync frame of another node came in the present cycle (R417). -/
def TWL_SEEN_NOW : PDesc := { name := "TWL.SEEN_NOW", kind := .every, block := 0x98, index := 4, width := 64, acc := .ro }

/-- 1 when one came in the previous cycle (R417). -/
def TWL_SEEN_PREV : PDesc := { name := "TWL.SEEN_PREV", kind := .every, block := 0x98, index := 5, width := 64, acc := .ro }

/-- 1 once traffic that forms no valid frame came in the present cycle (R416). -/
def TWL_JUNK_NOW : PDesc := { name := "TWL.JUNK_NOW", kind := .every, block := 0x98, index := 6, width := 64, acc := .ro }

/-- 1 when the previous cycle brought such traffic and no valid frame (R416). -/
def TWL_JUNK_PREV : PDesc := { name := "TWL.JUNK_PREV", kind := .every, block := 0x98, index := 7, width := 64, acc := .ro }

/-- Rails on which a valid frame of another node came in the present cycle (R408). -/
def TWL_RAILS : PDesc := { name := "TWL.RAILS", kind := .every, block := 0x98, index := 8, width := 64, acc := .ro }

/-- Rails with traffic in the present cycle (R424). -/
def TWL_ACTIVE : PDesc := { name := "TWL.ACTIVE", kind := .every, block := 0x98, index := 9, width := 64, acc := .ro }

/-- 1 once the node has sent in the present cycle (R408). -/
def TWL_SENT : PDesc := { name := "TWL.SENT", kind := .every, block := 0x98, index := 10, width := 64, acc := .ro }

/-- Rails on which a frame of the node passed readback in the present cycle (R408). -/
def TWL_RB_OK : PDesc := { name := "TWL.RB_OK", kind := .every, block := 0x98, index := 11, width := 64, acc := .ro }

/-- Cycles of a rail counting towards BAD (R408). Instance: rail. -/
def TWL_BAD_N : PDesc := { name := "TWL.BAD_N", kind := .every, block := 0x98, index := 12, width := 64, acc := .ro }

/-- Cycles of a rail counting towards GOOD (R408). Instance: rail. -/
def TWL_GOOD_N : PDesc := { name := "TWL.GOOD_N", kind := .every, block := 0x98, index := 13, width := 64, acc := .ro }

/-- Consecutive odd cycles without a value of another sync node (R405). -/
def TWL_NOVAL_N : PDesc := { name := "TWL.NOVAL_N", kind := .every, block := 0x98, index := 14, width := 64, acc := .ro }

/-- Consecutive odd cycles with a clamped offset correction (R405). -/
def TWL_OFFC_N : PDesc := { name := "TWL.OFFC_N", kind := .every, block := 0x98, index := 15, width := 64, acc := .ro }

/-- Consecutive rounds with a clamped rate change (R405). -/
def TWL_RATEC_N : PDesc := { name := "TWL.RATEC_N", kind := .every, block := 0x98, index := 16, width := 64, acc := .ro }

/-- Offset correction of the cycle 4k + 1, signed (R403). -/
def TWL_OFF_4K1 : PDesc := { name := "TWL.OFF_4K1", kind := .every, block := 0x98, index := 17, width := 64, acc := .ro }

/-- 1 once the node has re-sent its frame in the present cycle (R407). -/
def TWL_RESENT : PDesc := { name := "TWL.RESENT", kind := .every, block := 0x98, index := 18, width := 64, acc := .ro }

/-- The last synchronised cycle number, counted on by local cycles (R601). -/
def TWL_LAST : PDesc := { name := "TWL.LAST", kind := .every, block := 0x98, index := 19, width := 64, acc := .ro }

/-- Receive buffers that took a frame in the present cycle (R420). -/
def TWL_RX_GOT : PDesc := { name := "TWL.RX_GOT", kind := .every, block := 0x98, index := 20, width := 64, acc := .ro }

/-- Consecutive cycles with the pull within its limit (R412). -/
def LKG_PULL_OK : PDesc := { name := "LKG.PULL_OK", kind := .every, block := 0x99, index := 0, width := 64, acc := .ro }

/-- Consecutive cycles with a valid sync frame at its position on the taps (R412). -/
def LKG_TAP_OK : PDesc := { name := "LKG.TAP_OK", kind := .every, block := 0x99, index := 1, width := 64, acc := .ro }

/-- Consecutive cycles with the pull at its limit (R413). -/
def LKG_LIM_N : PDesc := { name := "LKG.LIM_N", kind := .every, block := 0x99, index := 2, width := 64, acc := .ro }

/-- Path whose enable is open plus 1; 0 = none (R410). -/
def LKG_OPEN : PDesc := { name := "LKG.OPEN", kind := .every, block := 0x99, index := 3, width := 64, acc := .ro }

/-- Difference from the lane's cycle start left after the latest pull, signed (R411). -/
def LKG_RES : PDesc := { name := "LKG.RES", kind := .every, block := 0x99, index := 4, width := 64, acc := .ro }

/-- Cycle count of the latest transmission outside an enable plus 1 (R413). -/
def LKG_OUT_AT : PDesc := { name := "LKG.OUT_AT", kind := .every, block := 0x99, index := 5, width := 64, acc := .ro }

/-- 1 while a background task is raised to level 16 (R451). -/
def DPT_BG_BASE : PDesc := { name := "DPT.BG_BASE", kind := .every, block := 0x86, index := 5, width := 64, acc := .ro }

/-- Requester the grant is parked on plus 1; 0 = none (R448). -/
def FAB_OWNER : PDesc := { name := "FAB.OWNER", kind := .every, block := 0x87, index := 0, width := 64, acc := .ro }

/-- Requester last granted at a priority value plus 1; 0 = none (R449). Instance: priority value. -/
def FAB_RR : PDesc := { name := "FAB.RR", kind := .every, block := 0x87, index := 1, width := 64, acc := .ro }

/-- Consecutive grants to foreground requesters while a background requester waited (R450). Instance: requester. -/
def FAB_BG_WAIT : PDesc := { name := "FAB.BG_WAIT", kind := .every, block := 0x87, index := 2, width := 64, acc := .ro }

/-- Line whose repair is awaited plus 1; 0 = none (R465). -/
def MEM_REP_LINE : PDesc := { name := "MEM.REP_LINE", kind := .every, block := 0x88, index := 0, width := 64, acc := .ro }

/-- Peers asked for that line, one bit per lane (R465). -/
def MEM_REP_ASKED : PDesc := { name := "MEM.REP_ASKED", kind := .every, block := 0x88, index := 1, width := 64, acc := .ro }

/-- At M: the highest staff epoch of a relayed write of shared configuration (R110). -/
def NVS_FENCE : PDesc := { name := "NVS.FENCE", kind := .every, block := 0xc1, index := 0, width := 64, acc := .ro }

/-- Bridges under a comparator or converter test, one bit per bridge (R497). -/
def BST_MASK : PDesc := { name := "BST.MASK", kind := .every, block := 0x8a, index := 0, width := 64, acc := .ro }

/-- 1 once the LBIST of the test in progress has passed (R492). -/
def BST_LB_PASS : PDesc := { name := "BST.LB_PASS", kind := .every, block := 0x8a, index := 1, width := 64, acc := .ro }

/-- Duration of that LBIST in 10 us (R492). -/
def BST_LB_DUR : PDesc := { name := "BST.LB_DUR", kind := .every, block := 0x8a, index := 2, width := 64, acc := .ro }

/-- 1 once a result record has been written (R493). -/
def BST_REC_ON : PDesc := { name := "BST.REC_ON", kind := .every, block := 0x8a, index := 3, width := 64, acc := .ro }

/-- 1 when a sense core has failed its converter test since the last reset of its power die (R498). Instance: channel. -/
def BST_ADC_BAD : PDesc := { name := "BST.ADC_BAD", kind := .every, block := 0x8a, index := 4, width := 64, acc := .ro }

/-- At M: region held by an internal scan; 0 = none (R503). -/
def BST_SCAN_REG : PDesc := { name := "BST.SCAN_REG", kind := .every, block := 0x8a, index := 5, width := 64, acc := .ro }

/-- Package time in ns from which the operating time of the lane counts (R493). -/
def INT_ON_AT : PDesc := { name := "INT.ON_AT", kind := .every, block := 0x80, index := 13, width := 64, acc := .ro }

/-- 1 once the LBIST of the test in progress has ended (R490). -/
def BST_LB_DONE : PDesc := { name := "BST.LB_DONE", kind := .every, block := 0x8a, index := 6, width := 64, acc := .ro }

/-- Step of a start: 0 none, 1 digests announced, 2 under the start test, 3 restored and about to be READY (R561). -/
def INT_BOOT : PDesc := { name := "INT.BOOT", kind := .every, block := 0x80, index := 14, width := 64, acc := .ro }

/-- State requested of the change in progress (R521). -/
def PWR_REQ : PDesc := { name := "PWR.REQ", kind := .every, block := 0x8c, index := 0, width := 64, acc := .ro }

/-- DVFS point requested of the change in progress (R521). -/
def PWR_REQ_POINT : PDesc := { name := "PWR.REQ_POINT", kind := .every, block := 0x8c, index := 1, width := 64, acc := .ro }

/-- State before the change in progress (R521). -/
def PWR_PREV : PDesc := { name := "PWR.PREV", kind := .every, block := 0x8c, index := 2, width := 64, acc := .ro }

/-- 1 offered and awaited, 2 accepted, 3 delayed, by block code of the party (R521). Instance: party. -/
def PWR_HS_STATE : PDesc := { name := "PWR.HS_STATE", kind := .every, block := 0x8c, index := 3, width := 64, acc := .ro }

/-- DELAY answers of a party in the change in progress (R521). Instance: party. -/
def PWR_HS_DELAYS : PDesc := { name := "PWR.HS_DELAYS", kind := .every, block := 0x8c, index := 4, width := 64, acc := .ro }

/-- Result of the lane's latest package handshake as appended to INPUT: 0 pending, 1 accepted, 2 refused (R522). -/
def PWR_HS_RESULT : PDesc := { name := "PWR.HS_RESULT", kind := .every, block := 0x8c, index := 5, width := 64, acc := .ro }

/-- Towline cycle in which the package change was agreed (R522). -/
def PWR_HS_CYCLE : PDesc := { name := "PWR.HS_CYCLE", kind := .every, block := 0x8c, index := 6, width := 64, acc := .ro }

/-- DVFS point being moved to plus 1; 0 = none (R518). -/
def PWR_DVFS_TO : PDesc := { name := "PWR.DVFS_TO", kind := .every, block := 0x8c, index := 7, width := 64, acc := .ro }

/-- Bridges whose start waits for point 0 (R519). -/
def PWR_START_MASK : PDesc := { name := "PWR.START_MASK", kind := .every, block := 0x8c, index := 8, width := 64, acc := .ro }

/-- Package time in ns of the entry into LOCK WATCH or MOORED (R530). -/
def PWR_SLEEP_AT : PDesc := { name := "PWR.SLEEP_AT", kind := .every, block := 0x8c, index := 9, width := 64, acc := .ro }

/-- 1 once WAKE_x has risen during the shutdown test (R571). -/
def PWR_WAKE_PEND : PDesc := { name := "PWR.WAKE_PEND", kind := .every, block := 0x8c, index := 10, width := 64, acc := .ro }

/-- 1 from a creep wake until the parking clamp has been commanded (R527). -/
def PWR_CREEP_WOKE : PDesc := { name := "PWR.CREEP_WOKE", kind := .every, block := 0x8c, index := 11, width := 64, acc := .ro }

/-- At S: latch states saved at entry into LOCK WATCH or MOORED plus 2^16; 0 = none saved (R524). -/
def ATH_SAVED : PDesc := { name := "ATH.SAVED", kind := .every, block := 0xb2, index := 7, width := 64, acc := .ro }

/-- At M: starts since PROVISIONED (R539). -/
def SMC_STARTS : PDesc := { name := "SMC.STARTS", kind := .every, block := 0xc0, index := 0, width := 64, acc := .ro }

/-- At M: package time in ns of the last start (R539). -/
def SMC_START_AT : PDesc := { name := "SMC.START_AT", kind := .every, block := 0xc0, index := 1, width := 64, acc := .ro }

/-- At M: 1 while a lifecycle nonce is valid (R550). -/
def SMC_NONCE_ON : PDesc := { name := "SMC.NONCE_ON", kind := .every, block := 0xc0, index := 2, width := 64, acc := .ro }

/-- At M: 1 once a persistent error has marked an archive slot invalid (R538). Instance: slot. -/
def NVS_BAD_SLOT : PDesc := { name := "NVS.BAD_SLOT", kind := .every, block := 0xc1, index := 1, width := 64, acc := .ro }

/-- At M: package time in ns of the session's latest waybill (R543). -/
def UPD_AT : PDesc := { name := "UPD.AT", kind := .every, block := 0xc3, index := 0, width := 64, acc := .ro }

/-- At M: next leaf index to sign with (R547). -/
def ATT_NEXT : PDesc := { name := "ATT.NEXT", kind := .every, block := 0xc4, index := 0, width := 64, acc := .ro }

/-- At M: end of the reserved batch (R547). -/
def ATT_LIMIT : PDesc := { name := "ATT.LIMIT", kind := .every, block := 0xc4, index := 1, width := 64, acc := .ro }

/-- At M: attempts of the present command on a tag port (R551). Instance: port. -/
def CRT_TRIES : PDesc := { name := "CRT.TRIES", kind := .every, block := 0xc6, index := 2, width := 64, acc := .ro }

/-- At M: step of a tag port: 1 manifest read sent, 2 challenge sent, 3 counters being written (R551). Instance: port. -/
def CRT_STEP : PDesc := { name := "CRT.STEP", kind := .every, block := 0xc6, index := 3, width := 64, acc := .ro }

/-- At M: package time in ns of the latest write-back (R556). -/
def CRT_LAST_WB : PDesc := { name := "CRT.LAST_WB", kind := .every, block := 0xc6, index := 4, width := 64, acc := .ro }

/-- At M: 1 once a counter above its budget has raised source 11 (R556). Instance: counter. -/
def CRT_OVER : PDesc := { name := "CRT.OVER", kind := .every, block := 0xc6, index := 5, width := 64, acc := .ro }

/-- 1 from a wake whose table bank was lost until TABLE_LOAD (R528). -/
def SDC_RET_LOST : PDesc := { name := "SDC.RET_LOST", kind := .every, block := 0x96, index := 16, width := 64, acc := .ro }

/-- Image slot that is active plus 1; 0 = none known yet (R545). -/
def UPD_ACT : PDesc := { name := "UPD.ACT", kind := .every, block := 0xc3, index := 2, width := 64, acc := .ro }

/-- 1 once the lane has been READY on its TRIAL slot (R545). -/
def UPD_TRIAL_OK : PDesc := { name := "UPD.TRIAL_OK", kind := .every, block := 0xc3, index := 3, width := 64, acc := .ro }

/-- At M: 1 once MXIN is lost (R535). -/
def SMC_MX_LOST : PDesc := { name := "SMC.MX_LOST", kind := .every, block := 0xc0, index := 3, width := 64, acc := .ro }

/-- Wheel count at the latest cycle in which wear was counted (R555). -/
def CRT_WHEEL_LAST : PDesc := { name := "CRT.WHEEL_LAST", kind := .every, block := 0xc6, index := 6, width := 64, acc := .ro }

/-- 1 once a wheel count has been taken (R555). -/
def CRT_WHEEL_ON : PDesc := { name := "CRT.WHEEL_ON", kind := .every, block := 0xc6, index := 7, width := 64, acc := .ro }

/-- Target force at the latest cycle in which wear was counted (R555). Instance: target. -/
def CRT_TGT_LAST : PDesc := { name := "CRT.TGT_LAST", kind := .every, block := 0xc6, index := 8, width := 64, acc := .ro }

/-- Consecutive cycles in which a lane's value was the one of two outside the tolerance of the reference (R106). Instance: 8 x (lane - 1) + set. -/
def VOT_AN_REFO : PDesc := { name := "VOT.AN_REFO", kind := .every, block := 0x9a, index := 24, width := 64, acc := .ro }

/-- Consecutive Towline cycles in which a voting peer's SIO configuration differed (R365). -/
def SIO_CFG_DIFF : PDesc := { name := "SIO.CFG_DIFF", kind := .every, block := 0x97, index := 22, width := 64, acc := .ro }

/-- Towline cycle at the lane's last base valley, 0 while unsynchronised (R88). -/
def VOT_VALLEY_CYC : PDesc := { name := "VOT.VALLEY_CYC", kind := .every, block := 0x9a, index := 25, width := 64, acc := .ro }

/-- The command digest at the lane's last base valley (R91). -/
def VOT_VALLEY_DIG : PDesc := { name := "VOT.VALLEY_DIG", kind := .every, block := 0x9a, index := 26, width := 64, acc := .ro }

/-- The peers whose failed link took the lane out of service, one bit per lane A, B, C; kept over a region reset (R90). -/
def STF_LINK_OUT : PDesc := { name := "STF.LINK_OUT", kind := .every, block := 0x83, index := 40, width := 64, acc := .ro }

/-- The lease in ms that the latest RENEW or CLAIM sent by the lane carried (R112, R114). -/
def STF_SENT_MS : PDesc := { name := "STF.SENT_MS", kind := .every, block := 0x83, index := 41, width := 64, acc := .ro }

/-- The lease in ms by which the holder's own count runs: that of its latest RENEW or CLAIM for which a GRANT came (R114). -/
def STF_RUN_MS : PDesc := { name := "STF.RUN_MS", kind := .every, block := 0x83, index := 42, width := 64, acc := .ro }

/-- The time in ns of a bridge's latest load point (R208). -/
def GDR_LOAD_AT : PDesc := { name := "GDR.LOAD_AT", kind := .every, block := 0xa0, index := 13, width := 64, acc := .ro }

/-- The time in ns of the latest rise of a switch's command before the load point, 0 for none (R215). -/
def GDR_RISE_AT : PDesc := { name := "GDR.RISE_AT", kind := .every, block := 0xa0, index := 14, width := 64, acc := .ro }

/-- The time in ns at which the hold-off clamp of a tripped switch closed (R216, R219). -/
def GDR_CLAMP_AT : PDesc := { name := "GDR.CLAMP_AT", kind := .every, block := 0xa0, index := 15, width := 64, acc := .ro }

/-- The phase number plus 1 of the last leg of a two-leg event whose soft turn-off is under way, 0 for none (R217). -/
def GDR_TWO : PDesc := { name := "GDR.TWO", kind := .every, block := 0xa0, index := 16, width := 64, acc := .ro }

/-- The phases whose bootstrap voltage lies below 7.0 V, a bit per phase (R211). -/
def GDR_BOOT_LOW : PDesc := { name := "GDR.BOOT_LOW", kind := .every, block := 0xa0, index := 17, width := 64, acc := .ro }

/-- The periods of a bridge that its comparator test has used (R224, R225). -/
def GDR_CMP_N : PDesc := { name := "GDR.CMP_N", kind := .every, block := 0xa0, index := 18, width := 64, acc := .ro }

/-- The core keeps its last calibration (R229). -/
def ADC_HELD : PDesc := { name := "ADC.HELD", kind := .every, block := 0xa1, index := 0, width := 64, acc := .ro }

/-- The speed held for the extrapolation in mrad/s (R194). -/
def OBS_EXT_W : PDesc := { name := "OBS.EXT_W", kind := .every, block := 0x91, index := 30, width := 64, acc := .ro }

/-- The last class of a tracking result: 1 VALID, 2 STILL (R199). -/
def OBS_TRACK : PDesc := { name := "OBS.TRACK", kind := .every, block := 0x91, index := 31, width := 64, acc := .ro }

/-- The time in ns of the latest reading of the gate supply that came with an event, plus 1; 0 for none (R205). -/
def GDR_VGD_AT : PDesc := { name := "GDR.VGD_AT", kind := .every, block := 0xa0, index := 19, width := 64, acc := .ro }

/-- 1 once a lease + 1 ms count of the lane has ended, from a RENEW or from its synchronisation (R119). -/
def STF_WAITED : PDesc := { name := "STF.WAITED", kind := .every, block := 0x83, index := 43, width := 64, acc := .ro }

/-- The bridge periods since an HFI alignment began (R198). -/
def OBS_ALIGN_N : PDesc := { name := "OBS.ALIGN_N", kind := .every, block := 0x91, index := 32, width := 64, acc := .ro }

/-- The time at which the gate of switch n, turned off apart from the edges of the present period, passes the hold-off level; 0 none (R207,
R209). -/
def GDR_OFF_AT : PDesc := { name := "GDR.OFF_AT", kind := .every, block := 0xa0, index := 20, width := 64, acc := .ro }

/-- The detection of the latest trip of switch n (R219). -/
def GDR_TRIP_AT : PDesc := { name := "GDR.TRIP_AT", kind := .every, block := 0xa0, index := 21, width := 64, acc := .ro }

/-- The switches of bridge n that were on when it was latched (R217, R218). -/
def GDR_LATCH_ON : PDesc := { name := "GDR.LATCH_ON", kind := .every, block := 0xa0, index := 22, width := 64, acc := .ro }

/-- The time from which all six commands of bridge n are low, where they are (R220). -/
def GDR_LOW_AT : PDesc := { name := "GDR.LOW_AT", kind := .every, block := 0xa0, index := 23, width := 64, acc := .ro }

/-- A floor delay of bridge n counted and not yet asserted (R209, R221). -/
def GDR_FLOOR_SEEN : PDesc := { name := "GDR.FLOOR_SEEN", kind := .every, block := 0xa0, index := 24, width := 64, acc := .ro }

/-- VGD has fallen below 8.0 V and has not been seen above it since (R221). -/
def GDR_VGD_UNDER : PDesc := { name := "GDR.VGD_UNDER", kind := .every, block := 0xa0, index := 25, width := 64, acc := .ro }

/-- The time of the latest window for calibration of core n, plus 1; 0 none since the reset (R229, R231). -/
def ADC_CAL_AT : PDesc := { name := "ADC.CAL_AT", kind := .every, block := 0xa1, index := 1, width := 64, acc := .ro }

/-- The time at which core n was last found without a window for 10 s (R229). -/
def ADC_SKIP_AT : PDesc := { name := "ADC.SKIP_AT", kind := .every, block := 0xa1, index := 2, width := 64, acc := .ro }

/-- 1 when the lane held the frame of the reference period of a lane, from which its change of angle counts (R244). Instance: lane region. -/
def CEN_BASE_OK : PDesc := { name := "CEN.BASE_OK", kind := .every, block := 0x92, index := 23, width := 64, acc := .ro }

/-- Number of the base period of the latest group, plus 1; 0 before the first (R465). -/
def CEN_GRP : PDesc := { name := "CEN.GRP", kind := .every, block := 0x92, index := 24, width := 64, acc := .ro }

/-- The same of the group period before it (R286, R465). -/
def CEN_GRP_PREV : PDesc := { name := "CEN.GRP_PREV", kind := .every, block := 0x92, index := 25, width := 64, acc := .ro }

/-- Towline cycle of the commit that enabled a controller, in whose own INPUT message no check is sent (R283). Instance: controller. -/
def RPC_PEND_CYC : PDesc := { name := "RPC.PEND_CYC", kind := .every, block := 0x93, index := 17, width := 64, acc := .ro }

/-- Events of the source of `TRC.SAMPLE` since the latest sample event (R258). -/
def TRC_N : PDesc := { name := "TRC.N", kind := .every, block := 0x94, index := 2, width := 64, acc := .ro }

/-- 1 from a sample event to the row it produces (R257, R258). -/
def TRC_DUE : PDesc := { name := "TRC.DUE", kind := .every, block := 0x94, index := 3, width := 64, acc := .ro }

/-- Package time in sixteenths of a ns at which the rows sent to M so far are through at 16 MB/s (R260). -/
def TRC_TX_FREE : PDesc := { name := "TRC.TX_FREE", kind := .every, block := 0x94, index := 4, width := 64, acc := .ro }

/-- Bytes accepted by M's archive and not yet paid off at 24 MB/s, in thousandths of a byte (R260). -/
def TRC_RX_USED : PDesc := { name := "TRC.RX_USED", kind := .every, block := 0x94, index := 5, width := 64, acc := .ro }

/-- Package time in ns of the latest rows at M's archive (R260). -/
def TRC_RX_AT : PDesc := { name := "TRC.RX_AT", kind := .every, block := 0x94, index := 6, width := 64, acc := .ro }

/-- 1 from the exclusion of a lane at S until its next vote message: its latest vote is in force no more (R331). Instance: lane
region. -/
def SVT_DEAD : PDesc := { name := "SVT.DEAD", kind := .every, block := 0xb1, index := 7, width := 64, acc := .ro }

/-- Package time in ns, plus 1, of the start of a channel's latest off-pulse; 0 = none (R338). Instance: channel. -/
def SEC_TEST_AT : PDesc := { name := "SEC.TEST_AT", kind := .every, block := 0xb0, index := 4, width := 64, acc := .ro }

/-- Package time in ns, plus 1, at which the latest off-pulse of any channel ended; 0 = none (R338). -/
def SEC_GAP_AT : PDesc := { name := "SEC.GAP_AT", kind := .every, block := 0xb0, index := 5, width := 64, acc := .ro }

/-- Package time in ns, plus 1, at which a channel's latest off-pulse ended; 0 = none (R338). Instance: channel. -/
def SEC_TEST_END : PDesc := { name := "SEC.TEST_END", kind := .every, block := 0xb0, index := 6, width := 64, acc := .ro }

/-- Package time in ns, plus 1, at which the latest pulse of an output began; 0 = none (R351). Instance: output. -/
def SIO_TP_AT : PDesc := { name := "SIO.TP_AT", kind := .every, block := 0x97, index := 23, width := 64, acc := .ro }

/-- Tick of the latest change of the channel that changed first, where it changed again before the other followed (R354). Instance: pair. -/
def SIO_PEND_LAST : PDesc := { name := "SIO.PEND_LAST", kind := .every, block := 0x97, index := 24, width := 64, acc := .ro }

end Sys2Proof.Machine.Var
end

