-- ==== Sys2Proof/Machine/Ops.lean ====
section
/-! DEFINITION. The operations every family shares: the part's regions, the time a region reads, the lanes' states, what
a lane sends, withdrawing a bridge, leaving service, region resets, and the fault collector's handling of a source. -/

namespace Sys2Proof.Machine

open Par Var

/-! ### The part and its regions -/

/-- The region codes present in a part (R1). -/
def partRegions : Part → List Nat
  | .fj3883 => [1, 2, 3, 4, 5, 6, 7, 8]
  | .fj3862 => [1, 2, 4, 5, 7, 8]
  | .fj3821 => [1, 8]

/-- A region of the part (R1, R2). -/
def State.hasRegion (s : State) (r : Nat) : Bool := (partRegions s.part).contains r

/-- The lanes of the part. -/
def State.lanesOf (s : State) : List LaneId := LaneId.all.filter (fun l => s.hasRegion l.reg)

/-- The peers of a lane that the part has. -/
def State.peersOf (s : State) (l : LaneId) : List LaneId := l.peers.filter (fun p => s.hasRegion p.reg)

/-- An access to a bridge's record of a lane. -/
def State.bridge (s : State) (l : LaneId) (b : Nat) : Bridge := (s.lane l).bridges.getD b {}

/-- A change of a bridge's record. -/
def State.modBridge (s : State) (l : LaneId) (b : Nat) (f : Bridge → Bridge) : State :=
  s.modLane l (fun x => { x with bridges := x.bridges.set b (f (x.bridges.getD b {})) })

/-- A change of the waybill engine of a lane. -/
def State.modWbe (s : State) (l : LaneId) (f : Wbe → Wbe) : State := s.modLane l (fun x => { x with wbe := f x.wbe })

/-- A change of the host ports of a lane. -/
def State.modHst (s : State) (l : LaneId) (f : Hst → Hst) : State := s.modLane l (fun x => { x with hst := f x.hst })

/-- A change of the vote record of a lane. -/
def State.modVot (s : State) (l : LaneId) (f : Vot → Vot) : State := s.modLane l (fun x => { x with vot := f x.vot })

/-! ### Time -/

/-- The Towline cycle number a lane reads; 0 while it is not synchronised (R79). -/
def State.cycle (s : State) (l : LaneId) : Nat := s.rd l.reg TWL_CYCLE

/-- A lane whose Towline is synchronised (R405). -/
def State.synced (s : State) (l : LaneId) : Bool := s.rdB l.reg INT_SYNCED

/-- The frame of a lane that S holds (R90). -/
def SDie.frame (d : SDie) : LaneId → Option ExchFrame
  | .a => d.frameA | .b => d.frameB | .c => d.frameC

/-- The latest vote message of a lane, by region code, that S holds (R331). -/
def SDie.vote (d : SDie) : Nat → Option VoteMsg
  | 1 => d.voteA | 2 => d.voteB | 3 => d.voteC | _ => none

/-- The cycle number S knows: that of the latest frame with a non-zero cycle of a lane it has not excluded (R132). -/
def State.sCycle (s : State) : Nat :=
  let ok := LaneId.all.filter (fun l => !bit (s.rd 8 S_STF_EXCLUDED) l.idx)
  let fs := ok.filterMap (fun l => (s.sdie.frame l).map (fun f => (s.rd 8 STF_SEEN_AT l.reg, f.cycle)))
  let nz := fs.filter (fun p => p.2 != 0)
  (nz.foldl (fun m p => if p.1 ≥ m.1 then p else m) (0, 0)).2

/-- The cycle number a region stamps its records with. M is no Towline node and stamps 0 (R539). -/
def State.cycleOf (s : State) (r : Nat) : Nat :=
  if r = 8 then s.sCycle else if r = 7 then 0
  else match LaneId.ofReg (if r > 3 then r - 3 else r) with
    | some l => s.cycle l
    | none => 0

/-- The offset in the present cycle in steps of 25 ns, 24 bits (R488). -/
def State.offset25 (s : State) (r : Nat) : Nat :=
  let lr := if r > 3 ∧ r < 7 then r - 3 else r
  ((s.now - s.rd lr INT_CYCLE_START) / 25) % 2 ^ 24

/-- The next cycle number (R416). -/
def nextCycle (c : Nat) : Nat := if c ≥ 2 ^ 32 - 1 then 1 else c + 1

/-- A record of 64 bits with the Towline cycle in its upper half. -/
def withCycle (low cyc : Nat) : Nat := low % 2 ^ 32 + cyc % 2 ^ 32 * 2 ^ 32

/-! ### Voting states -/

/-- The voting state of a lane die: 0 shadow, 1 standby, 2 in service, 3 leaving, 4 out (R117, R133). -/
def State.vstate (s : State) (l : LaneId) : Nat := s.rd l.reg STF_STATE

/-- The last frame a lane holds of a peer. -/
def Vot.frame (v : Vot) : LaneId → Option ExchFrame
  | .a => v.frameA | .b => v.frameB | .c => v.frameC

/-- The frame before the last that a lane holds of a peer. -/
def Vot.prev (v : Vot) : LaneId → Option ExchFrame
  | .a => v.prevA | .b => v.prevB | .c => v.prevC

/-- A lane as lane `l` sees it: its own state, or the voting state of the latest frame it holds of a peer that is not
LOST; 4 without one, and of a peer whose active image differs (R88, R117, R545). -/
def State.seen (s : State) (l x : LaneId) : Nat :=
  if x = l then s.vstate l
  else if s.rdB l.reg VOT_LOST x.reg || s.rd x.reg UPD_ACTIVE_DIGEST != s.rd l.reg UPD_ACTIVE_DIGEST then 4
  else match (s.lane l).vot.frame x with
    | some f => f.vstate
    | none => 4

/-- A lane excluded by S, as lane `l` last heard from S (R90, R333). -/
def State.exclSeen (s : State) (l x : LaneId) : Bool := bit (s.rd l.reg STF_EXCL_SEEN) x.idx

/-- A voting lane in the view of lane `l`: standby or in service and not excluded by S (R88). -/
def State.voting (s : State) (l x : LaneId) : Bool :=
  s.hasRegion x.reg && (s.seen l x == 1 || s.seen l x == 2) && !s.exclSeen l x

/-- The voting lanes in the view of a lane. -/
def State.votingLanes (s : State) (l : LaneId) : List LaneId := LaneId.all.filter (fun x => s.voting l x)

/-- A region of the part with its supply present and past its reset (phase START ends when it is ready, R453); an
internal scan holds a region in reset (R503). -/
def State.on (s : State) (r : Nat) : Bool :=
  s.hasRegion r && s.rdB r INT_POWERED && s.rd r FAB_PHASE != 0 && s.rd 7 BST_SCAN_REG != r

/-- A lane die that runs: not in START, and not under LBIST and MBIST in phase TEST. -/
def State.up (s : State) (l : LaneId) : Bool := s.on l.reg && s.rd l.reg FAB_PHASE != 2

/-- A lane die whose core pair works: it runs, and the pair has not halted on a mismatch. Waybill handling and the loops are work of the
pair (R139; 16_dispatcher.md). -/
def State.pairUp (s : State) (l : LaneId) : Bool := s.up l && s.rd l.reg LSC_STATE != 3

/-- A lane die whose host ports answer: its pair works, or a rolling self-test holds it in TEST (R139, R496). -/
def State.hostUp (s : State) (l : LaneId) : Bool :=
  s.pairUp l || (s.on l.reg && s.rd l.reg BST_STATE == 1)

/-- M runs. -/
def State.mUp (s : State) : Bool := s.on 7

/-- S runs. -/
def State.sUp (s : State) : Bool := s.on 8

/-- What a lane die does while it runs; without supply or in START it does nothing. -/
def State.whenUp (s : State) (l : LaneId) (f : State → State) : State := if s.up l then f s else s

/-- What the core pair of a lane die does while it works. -/
def State.whenPair (s : State) (l : LaneId) (f : State → State) : State := if s.pairUp l then f s else s

/-- What the host ports and the waybill engine of a lane die do while they answer. -/
def State.whenHost (s : State) (l : LaneId) (f : State → State) : State := if s.hostUp l then f s else s

/-- What S does while it runs. -/
def State.whenS (s : State) (f : State → State) : State := if s.sUp then f s else s

/-- What M does while it runs. -/
def State.whenM (s : State) (f : State → State) : State := if s.mUp then f s else s

/-! ### Sending -/

/-- A STAFF message from a lane to both peers and S (R132). -/
def State.sendStaffAll (s : State) (l : LaneId) (m : StaffMsg) : State :=
  ((s.peersOf l).foldl (fun s p => s.send (.staff (.lane p) m)) s).send (.staff .s m)

/-- The lease of a claimant and of the lease + 1 ms count of a lane: the one of the latest RENEW received, or its own parameter while it
knows none (R112, R119). -/
def State.leaseMs (s : State) (l : LaneId) : Nat :=
  if s.rd l.reg STF_LEASE_MS = 0 then s.rd l.reg STF_LEASE else s.rd l.reg STF_LEASE_MS

/-- The STAFF message a lane forms: its own region, the subject, its epoch and its lease. R132 gives the lease byte a range only: in kinds
other than RENEW and CLAIM a lane sends its parameter and S the lease it counts by (R132; DESIGN CHOICE, log 67). -/
def State.staffMsg (s : State) (l : LaneId) (kind subject epoch reason : Nat) : StaffMsg :=
  { kind := kind, sender := l.reg, subject := subject, epoch := epoch, lease := s.rd l.reg STF_LEASE,
    reason := reason, cycle := s.cycle l % 65536 }

/-! ### Triggers of standing orders -/

/-- The trigger descriptor of an order (R437). -/
def State.trig (s : State) (l : LaneId) (o : Nat) : OrderTrigger :=
  let v := s.rd l.reg DPT_ORD_TRIG o
  ⟨bits v 7 0, bits v 15 8, bits v 63 32, bits v 95 64⟩

/-- A trigger of an order: an armed order, or a MANUAL one that is loaded, is queued; one already queued or running
skips the trigger and counts it (R438, R440, R443). -/
def State.triggerOrder (s : State) (l : LaneId) (o : Nat) : State :=
  let st := s.rd l.reg DPT_ORD_STATE o
  if st ≥ 3 then s.bump l.reg DPT_CNT_ORD_OVERLAP o
  else if st = 2 ∨ (st = 1 ∧ (s.trig l o).kind = 0) then
    (s.wr l.reg DPT_ORD_STATE o 3).modLane l (fun x => { x with ordQ := x.ordQ ++ [o] })
  else s

/-- An occurrence of an event in a lane: every order with that event as its trigger is triggered, in ascending order
number (R438, R440). -/
def State.event (s : State) (l : LaneId) (code arg : Nat) : State :=
  (List.range 64).foldl (fun s o =>
    if s.rd l.reg DPT_ORD_STATE o ≥ 2 ∧ (s.trig l o).kind = 2 ∧ bits (s.trig l o).argA 7 0 = code ∧
        bits (s.trig l o).argA 15 8 = arg then s.triggerOrder l o else s) s

/-! ### Withdrawing a bridge -/

/-- The electrical speed compared with a share of the crossover speed: whether |ω| is at least `pct` per cent of
V_dc/(√3·ψ). Both sides are squared, so the comparison is exact (R175). -/
def aboveCrossover (speed : Int) (pct vdc psi : Nat) : Bool :=
  decide (3 * (speed.natAbs * psi * 100) ^ 2 ≥ (pct * vdc * 10 ^ 9) ^ 2)

/-- The state a withdrawn bridge takes: 4 SHORT or 3 FREE (R175). -/
def State.withdrawTo (s : State) (l : LaneId) (b : Nat) : Nat :=
  if !s.rdB l.reg OBS_SPEED_OK b then 4
  else if aboveCrossover (s.rdI l.reg OBS_SPEED b) (s.rd l.reg CMT_SHORT_MARGIN) (s.rd l.reg CMT_VDC b) (s.rd l.reg CMT_PSI b)
  then 4 else 3

/-- The switch number of a bridge's switch 2p + h (R203). -/
def swNum (b k : Nat) : Nat := 6 * b + k

/-- A bridge is latched (R220). -/
def State.latchedB (s : State) (l : LaneId) (b : Nat) : Bool := bit (s.rd l.pow GDR_LATCHED b) 6

/-- The steps of 625 ps from a bridge's latest load point to package time `t`. -/
def State.tau (s : State) (l : LaneId) (b t : Nat) : Nat := (t - s.rd l.pow GDR_LOAD_AT b) * 8 / 5

/-- One of the turn-on intervals of switch `k` contains step `tau`: it is on from its turn-on to its turn-off time (R208). -/
def highIn (es : List SwitchEdge) (k tau : Nat) : Bool := es.any (fun e => e.sw == k && decide (e.on ≤ tau ∧ tau < e.off))

/-- The switch's command is high at package time `t`: within one of its intervals while the bridge is switched, on for a low side
in SHORT and precharge, low otherwise (R208, R215). -/
def State.cmdHigh (s : State) (l : LaneId) (b k t : Nat) : Bool :=
  match s.rd l.pow GDR_GATES b with
  | 1 => highIn (s.bridge l b).cur k (s.tau l b t)
  | 2 => k % 2 == 1
  | _ => false

/-- The package time in ns of step `n` after a bridge's latest load point. -/
def State.stepAt (s : State) (l : LaneId) (b n : Nat) : Nat := s.rd l.pow GDR_LOAD_AT b + n * 5 / 8

/-- The step at which the command of an interval rose: its turn-on, or the earlier one that the floor delayed (R209, R215). -/
def Bridge.cmdStep (x : Bridge) (e : SwitchEdge) : Nat := ((x.late.find? (fun p => p.1 == e)).map (fun p => p.2)).getD e.on

/-- The latest rise of a switch's command at or before package time `t`: within the present period, or the one kept from before it, 0 for
none (R215). -/
def State.lastRise (s : State) (l : LaneId) (b k t : Nat) : Nat :=
  let here := if s.rd l.pow GDR_GATES b = 1
    then (s.bridge l b).cur.filter (fun e => e.sw == k && decide (e.on > 0 ∧ e.on ≤ s.tau l b t)) else []
  match here.getLast? with
  | some e => s.stepAt l b ((s.bridge l b).cmdStep e)
  | none => s.rd l.pow GDR_RISE_AT (swNum b k)

/-- A tripped switch is free again: its command has risen after its gate reached the hold-off clamp (R219). -/
def State.freed (s : State) (l : LaneId) (b k t : Nat) : Bool :=
  let r := s.lastRise l b k t
  s.rd l.pow GDR_SW (swNum b k) == 3 && r != 0 && decide (r ≥ s.rd l.pow GDR_CLAMP_AT (swNum b k))

/-- The other switch of a phase. -/
def partner (k : Nat) : Nat := if k % 2 = 0 then k + 1 else k - 1

/-- A switch is in its soft turn-off, its gate not yet at the hold-off clamp (R216). -/
def State.softOff (s : State) (l : LaneId) (b k : Nat) : Bool :=
  s.rd l.pow GDR_SW (swNum b k) == 1 || s.rd l.pow GDR_SW (swNum b k) == 2

/-- The gate of a switch's partner has been below the hold-off level for 50 ns: after a soft turn-off, and after a fall outside the edges of
the present period (R209). -/
def State.partnerClear (s : State) (l : LaneId) (b k t : Nat) : Bool :=
  let q := swNum b (partner k)
  let f := s.rd l.pow GDR_OFF_AT q
  !s.softOff l b (partner k) && (s.rd l.pow GDR_SW q != 3 || decide (t ≥ s.rd l.pow GDR_CLAMP_AT q + 50)) && (f == 0 || decide (t ≥ f + 50))

/-- The switch conducts or is turning on: its command is high, it is not tripped or is free again, and its partner's gate has passed the
hold-off level 50 ns before (R209, R216, R219). -/
def State.swOn (s : State) (l : LaneId) (b k t : Nat) : Bool :=
  s.cmdHigh l b k t && (s.rd l.pow GDR_SW (swNum b k) == 0 || s.freed l b k t) && s.partnerClear l b k t

/-- The step at which a gate that is falling at step `n` has passed the hold-off level; 0 where none of its intervals ended so (R208). -/
def fallEnd (es : List SwitchEdge) (k n : Nat) : Nat :=
  (es.filter (fun e => e.sw == k && decide (e.off ≤ n ∧ n < e.off + e.fall))).foldl (fun m e => max m (e.off + e.fall)) 0

/-- The switch's command has fallen and its gate has not yet passed the hold-off level: its normal turn-off proceeds (R208, R218). -/
def State.falling (s : State) (l : LaneId) (b k t : Nat) : Bool :=
  s.rd l.pow GDR_GATES b == 1 && fallEnd (s.bridge l b).cur k (s.tau l b t) != 0 || decide (t < s.rd l.pow GDR_OFF_AT (swNum b k))

/-- A gate turned off apart from its edges: the time at which it passes the hold-off level is kept. Its fall takes the time that its latest
edges give, none where it has none (R207, R209; DESIGN CHOICE, log 74). -/
def State.noteFall (s : State) (l : LaneId) (b k : Nat) : State :=
  let es := (s.bridge l b).cur.filter (fun e => e.sw == k)
  let m := fallEnd es k (s.tau l b s.now)
  if s.swOn l b k s.now then s.wr l.pow GDR_OFF_AT (swNum b k) (s.now + ((es.getLast?.map SwitchEdge.fall).getD 0) * 5 / 8)
  else if s.rd l.pow GDR_GATES b = 1 ∧ m ≠ 0 then s.wr l.pow GDR_OFF_AT (swNum b k) (s.stepAt l b m)
  else s

/-- The low side `k` of a bridge turned on by SHORT or precharge: a rise of its command where it was low, which frees a switch that
reached its hold-off clamp; one behind a partner whose gate is not clear is delayed and counted, its source asserted with the next status word
(R209, R215, R219). A low side that is on keeps its rise. -/
def State.riseLow (s : State) (l : LaneId) (b k : Nat) : State :=
  if s.cmdHigh l b k s.now then s.wr l.pow GDR_RISE_AT (swNum b k) (s.lastRise l b k s.now)
  else
    let s := s.wr l.pow GDR_RISE_AT (swNum b k) s.now
    let s := if s.rd l.pow GDR_SW (swNum b k) = 3 then s.wr l.pow GDR_SW (swNum b k) 0 else s
    if s.partnerClear l b k s.now then s else (s.bump l.pow GDR_CNT_FLOOR b).wr l.pow GDR_FLOOR_SEEN b 1

/-- The blocks of the interlock over: the commands of the edges they held back are gone (R210). -/
def State.unblock (s : State) (l : LaneId) (b : Nat) : State :=
  (List.range 6).foldl (fun s k => s.wr l.pow GDR_BLOCK (swNum b k) 0) s

/-- The three low sides of a bridge on, its interval between zero crossings begun anew; every gate of a latched bridge stays off, and
under EXTEST (R152, R212, R220, R223, R503). -/
def State.shortGates (s : State) (l : LaneId) (b : Nat) : State :=
  if s.rdB l.reg INT_EXTEST ∨ s.latchedB l b then s.wr l.pow GDR_GATES b 0
  else
    let s := [0, 2, 4].foldl (fun s k => s.noteFall l b k) s
    let s := [1, 3, 5].foldl (fun s k => s.riseLow l b k) s
    ((s.unblock l b).wr l.pow GDR_GATES b 2).wr l.pow GDR_ZC_ON b 0

/-- The commands of a bridge that leaves its edges: its gates fall, its blocks are over, and all six commands are low from now on (R207,
R210, R220). -/
def State.commandsEnd (s : State) (l : LaneId) (b : Nat) : State :=
  (((List.range 6).foldl (fun s k => s.noteFall l b k) s).unblock l b).wr l.pow GDR_LOW_AT b s.now

/-- A bridge's state with what its gates then do: PWM in RUN, three low sides on in SHORT, all off otherwise (R152),
and under EXTEST (R503). -/
def State.setBridge (s : State) (l : LaneId) (b st : Nat) : State :=
  let s := s.wr l.reg CMT_STATE b st
  if st = 4 then s.shortGates l b
  else ((s.commandsEnd l b).wr l.pow GDR_GATES b (if st = 2 && !s.rdB l.reg INT_EXTEST then 1 else 0)).wr l.pow GDR_ZC_ON b 0

/-- An EXPRESS loop opened, its episode at the limit over (R250, R253). -/
def State.openExpress (s : State) (l : LaneId) (n : Nat) : State :=
  let s := ((s.wr l.reg CEN_MODE n 0).wr l.reg CEN_CLOSING n 0).wr l.reg CEN_STATUS n 0
  ((s.wr l.reg CEN_SAT_TIME n 0).wr l.reg CEN_SAT_PS n 0).wr l.reg CEN_X_PREV n 0

/-- A collection begun anew: its samples and the class found from them are gone (R199, R212). -/
def State.trackRestart (s : State) (l : LaneId) (b : Nat) : State :=
  (s.modBridge l b (fun x => { x with track := [] })).wr l.reg OBS_TRACK b 0

/-- A bridge leaving RUN: its own weight at 0, its share with it, its two EXPRESS loops opened (R171, R250). -/
def State.dropOwn (s : State) (l : LaneId) (b : Nat) : State :=
  let s := s.modBridge l b (fun x => { x with wOwn := 0, ramp := none, share := 0, iqRef := 0, hand := none, recon := false })
  let s := (s.modBridge l b (fun x => { x with obs := {}, closing := 0, placed := 0, hfi := [] })).trackRestart l b
  (((s.wr l.reg CMT_SHARE b 0).wr l.reg OBS_ALIGN b 0).openExpress l (2 * b)).openExpress l (2 * b + 1)

/-- A winding of a lane counted lost in the lane's own view, unless an agreed STOP_DRIVE took it out of RUN (R366). -/
def State.loseWinding (s : State) (l : LaneId) (b : Nat) : State :=
  if s.rdB l.reg VOT_STOPPED_W (8 * l.reg + b) then s else s.wr l.reg VOT_LOST_W (8 * l.reg + b) 1

/-- A bridge withdrawn: to SHORT or FREE, its weight at 0 (R171, R175). A bridge in CAPTURE, whose switches are off and whose speed is not
valid, goes to FREE: R175 with R125 names only the comparison of a switching bridge (DESIGN CHOICE, log 74). Bridges in other states stay as
they are. -/
def State.withdraw (s : State) (l : LaneId) (b : Nat) : State :=
  if s.rd l.reg CMT_STATE b = 2 then ((s.setBridge l b (s.withdrawTo l b)).dropOwn l b).loseWinding l b
  else if s.rd l.reg CMT_STATE b = 1 then s.setBridge l b 3
  else s

/-- Every bridge of a lane withdrawn. -/
def State.withdrawAll (s : State) (l : LaneId) : State := (List.range 6).foldl (fun s b => s.withdraw l b) s

/-! ### Leaving service -/

/-- The leave of R125: RELINQUISH to both peers and S whether or not the lane holds the staff, every bridge withdrawn
in the same period, the state leaving; the frames with code 3 and the region reset follow. A lane already leaving or
out stays as it is (R148). -/
def State.leave (s : State) (l : LaneId) : State :=
  if s.vstate l ≥ 3 then s
  else
    let s := s.sendStaffAll l (s.staffMsg l 7 (if s.rd l.reg STF_HOLDER = l.reg then l.reg else 0) (s.rd l.reg STF_EPOCH) 0)
    let s := if s.rd l.reg STF_HOLDER = l.reg then s.wr l.reg STF_HOLDER 0 0 else s
    let s := (s.withdrawAll l).wr l.reg STF_STATE 0 3
    let s := (s.wr l.reg INT_LEFT_FRAMES 0 0).wr l.reg STF_COUNT_ON 0 0
    (s.wr l.reg STF_CLAIMING 0 0).wr l.reg STF_WAIT_ON 0 0

/-- What a lane's exclusion discards: open consists, held waybills, the lane's own copies of VOTED ones and those of a local stop among
them, the duplicate record; no final reply is sent for them (R52, R381). -/
def State.dropHeld (s : State) (l : LaneId) : State :=
  (s.modWbe l (fun x => { x with dup := [], consists := [], commitQ := [] })).modVot l (fun v =>
    { v with copies := v.copies.filter (fun c => c.own.isNone), waiting := v.waiting.filter (fun w => w.own.isNone), loc := [] })

/-- The lanes S excludes, as a lane hears of them; a voting lane that finds itself among them anew discards what it holds
(R52, R90, R333). -/
def State.hearExcluded (s : State) (l : LaneId) (m : Nat) : State :=
  let new := bit m l.idx && !s.exclSeen l l && s.vstate l ≥ 1 && s.vstate l ≤ 3
  let s := s.wr l.reg STF_EXCL_SEEN 0 m
  if new then s.dropHeld l else s

/-! ### Region resets -/

/-- The variables held in non-volatile memory, and those of the supply and the test port. -/
def keptVars : List PDesc :=
  [INT_LIFECYCLE, INT_M_LOST, STF_LINK_OUT, INT_POWERED, INT_ON_AT, INT_EXTEST, GDR_VGD_BAD, ATH_SAVED, SMC_STARTS, NVS_BAD_SLOT, BST_REC_ON, CRT_OVER,
   UPD_ACT, UPD_TRIAL_OK, ATT_NEXT, ATT_LIMIT]

/-- What of a region's store a region reset keeps: non-volatile values, the RWS set (it stands in the MRAM
configuration area and is restored at start, R562), the lifecycle copy, and of the fault collector what R480 keeps. -/
def keptAtReset (k : PKey) : Bool :=
  match lookup k with
  | some d => d.nonvol || d.acc == .rws || (k.block == 0x09 && k.index == 0x016) || (k.block == 0x07 && k.index ≥ 0x030 && k.index ≤ 0x035) ||
      (k.block == 0x06 && k.index ≥ 0x041 && k.index ≤ 0x046)
  | none => decide (k.block ≥ 0x100) || keptVars.any (fun d => k.block == d.block && k.index == d.index)

/-- The store with a region's volatile part gone. -/
def Store.resetRegion (m : Store) (r : Nat) : Store := m.filter (fun e => e.1.region != r || keptAtReset e.1)

/-- The fault collector of a region as it leaves reset: sources not latched leave the fault state with their recovery
counts cleared, latched ones stay in it (R480, R481). -/
def State.fclAfterReset (s : State) (r : Nat) : State :=
  let lat := s.rd r FCL_LATCHED
  let s := s.wr r FCL_ERR_STATUS 0 lat
  let s := (List.range 64).foldl (fun s i => if lat.testBit i then s else s.clr r FCL_REC_COUNT i) s
  { s with recoveries := s.recoveries.filter (fun e => e.region != r || lat.testBit e.src) }

/-- The cause and the cycle of a region reset, written before it (R480). -/
def State.stampReset (s : State) (r src : Nat) (timeout : Bool) : State :=
  s.wr r FCL_LAST_RESET 0 (withCycle (src + 64 * b2n timeout) (s.cycleOf r))

/-- The region epoch of a lane die or M rises by 1 at the start of every region reset (R456). -/
def State.raiseEpoch (s : State) (r : Nat) : State :=
  s.wr r FAB_REGION_EPOCH 0 ((s.rd r FAB_REGION_EPOCH + 1) % 2 ^ 32)

/-- The links of a die gone down with the die; the far ends see them down too. -/
def State.dropLinks (s : State) (reg : Region) : State :=
  let s : State := { s with links := s.links.filter (fun e => e.1.near != reg && e.1.far != reg) }
  LaneId.all.foldl (fun s l => s.wr l.reg XLK_LINK_STATE reg.code 0) s

/-- A bridge whose short GDR holds: low sides on, and no precharge (R222). -/
def State.shortHeld (s : State) (l : LaneId) (b : Nat) : Bool :=
  s.rd l.pow GDR_GATES b == 2 && !s.rdB l.pow GDR_PRE_ON b

/-- What the always-on cells of a held short keep through a reset: the hold, the release period, the running interval between zero
crossings (R176, R222, R223). -/
def State.heldShort (s : State) (l : LaneId) (b : Nat) : List (PDesc × Nat) :=
  [(GDR_GATES, 2), (GDR_RELEASE_PERIOD, s.rd l.pow GDR_RELEASE_PERIOD b), (GDR_ZC_ON, s.rd l.pow GDR_ZC_ON b), (GDR_ZC_AT, s.rd l.pow GDR_ZC_AT b)]

/-- A region reset of a power die: its volatile state goes, a held short survives (R18, R176, R222), its bridges leave
RUN with their windings lost, and the region is in START. A precharge ends with it. -/
def State.resetPower (s : State) (l : LaneId) : State :=
  let held := ((List.range 6).filter (fun b => s.shortHeld l b)).map (fun b => (b, s.heldShort l b))
  let s := (List.range 6).foldl (fun s b =>
    if s.rd l.reg CMT_STATE b = 2 ∨ s.rd l.reg CMT_STATE b = 1
    then ((s.wr l.reg CMT_STATE b 3).dropOwn l b).loseWinding l b else s) s
  let s : State := { s with params := s.params.resetRegion l.pow }
  let s := held.foldl (fun s h => h.2.foldl (fun s v => s.wr l.pow v.1 h.1 v.2) s) s
  let s := (List.range 6).foldl (fun s b => s.modBridge l b (fun x => { x with cur := [], next := [], smp := none, trips := [] })) s
  let s := if s.rd l.reg BST_STATE = 2 ∨ s.rd l.reg BST_STATE = 3 then (s.wr l.reg BST_STATE 0 0).wr l.reg BST_MASK 0 0 else s
  (s.fclAfterReset l.pow).dropLinks l.powRegion

/-- A region reset of a lane die, which takes its power die with it: a lane reset (R18, R52, R480). Open consists, held
waybills, the duplicate record and every queue go, and of its memory all but the MRAM lines; the lane is out. -/
def State.resetLane (s : State) (l : LaneId) : State :=
  let s := s.resetPower l
  let shorts := (List.range 6).filter (fun b => s.shortHeld l b)
  let s := { s with params := s.params.resetRegion l.reg }
  let s := shorts.foldl (fun s b => s.wr l.reg CMT_STATE b 4) s
  let s := (s.fclAfterReset l.reg).dropLinks l.region
  let ords := (s.lane l).orders
  let s := (s.raiseEpoch l.reg).setLane l
    { orders := ords, rpcSaved := (s.lane l).rpcSaved, tblAt := (s.lane l).tblAt, boot := { (s.lane l).boot with ann := [] },
      mem := (s.lane l).mem.filter (fun m => Config.mramLine m.line) }
  let s := ords.foldl (fun s x => s.wr l.reg DPT_ORD_STATE x.o 1) s
  s.wr l.reg INT_REJOINING 0 1

/-- The lock a parameter lies under: its region and number (R455). -/
def lockOfKey (k : PKey) : Option (Nat × Nat) :=
  match lookup k with
  | none => none
  | some d =>
    if d.acc != .rws then none
    else if k.region == 7 && k.block == 0x41 then some (7, 0)
    else if k.region == 7 && k.block == 0x46 then some (7, 1)
    else if k.region == 8 && (k.block == 0x30 || k.block == 0x31 || k.block == 0x32) then some (8, 0)
    else none

/-- A waybill's items write a resource (R457). -/
def opTouches (r u : Nat) : Op → Bool
  | .set items => items.any (fun i => lockOfKey (PKey.ofId i.id) == some (r, u))
  | .setStaged items => items.any (fun i => lockOfKey (PKey.ofId i.id) == some (r, u))
  | _ => false

/-- A consist that holds a member on a resource. -/
def Consist.on (c : Consist) (r u : Nat) : Bool := c.members.any (fun m => opTouches r u m.op)

/-- An owner has an open consist on a resource. -/
def State.openOn (s : State) (r u owner : Nat) : Bool :=
  match LaneId.ofReg owner with
  | some l => (s.lane l).wbe.consists.any (fun c => c.on r u)
  | none => false

/-- A HELD lock BROKEN: the owner's open consists on the resource are discarded with no reply, the journal stays (R459).
`CNT_CONSIST_DISCARD` does not count them: R79 names the idle limit, abort, failure and mismatch (DESIGN CHOICE, log 60). -/
def State.breakLock (s : State) (r u : Nat) : State :=
  if s.rd r FAB_LOCK_STATE u = 1 then
    let s := match LaneId.ofReg (s.rd r FAB_LOCK_OWNER u) with
      | some l => s.modWbe l (fun x => { x with consists := x.consists.filter (fun c => !c.on r u) })
      | none => s
    s.wr r FAB_LOCK_STATE u 2
  else s

/-- Every HELD lock of a shared die is BROKEN after its region reset; records and journals stay (R459). -/
def State.breakLocks (s : State) (r : Nat) : State := (List.range 2).foldl (fun s u => s.breakLock r u) s

/-- A region reset of S: section outputs off, ARMED cleared, latch states UNKNOWN, every lane excluded, no lease; the
lock record stays and a HELD lock is BROKEN (R459, R480). -/
def State.resetS (s : State) : State :=
  let s := { s with params := s.params.resetRegion 8, sdie := {} }
  ((s.breakLocks 8).fclAfterReset 8).dropLinks .s

/-- A region reset of M: no control effect (R31); update session, staging and nonces go, the lock records stay and HELD
locks are BROKEN (R459, R543). -/
def State.resetM (s : State) : State :=
  let s := { s with params := s.params.resetRegion 7, mdie := { s.mdie with
    updSrc := none, updTotal := 0, staged := [], report := [], nonce := [], ticket := [], ports := List.replicate 8 {} } }
  (((s.raiseEpoch 7).breakLocks 7).fclAfterReset 7).dropLinks .m

end Sys2Proof.Machine
end

