-- ==== Sys2Proof/Machine/Collector.lean ====
section
/-! DEFINITION. The fault collector of every region: an assertion of an error wire with its reactions, the quiet period
and its end, the fault output, block resets (R472 to R487). -/

namespace Sys2Proof.Machine

open Par Var

/-- The lane a region's fault reactions reach: its own lane for a lane die or a power die (R475). -/
def laneOfReg (r : Nat) : Option LaneId := LaneId.ofReg (if r > 3 ∧ r < 7 then r - 3 else r)

/-- Whether some source of `mask` has reaction bit `n` (R475). -/
def State.anyReact (s : State) (r mask n : Nat) : Bool :=
  (List.range (classesOf r).length).any (fun i => mask.testBit i && (s.rd r FCL_REACT i).testBit n)

/-- A region whose fault output condition holds: FAULT_PIN in fault state, LATCH_PIN latched, in reset or START, or
without supply (R482). -/
def State.pinCause (s : State) (r : Nat) : Bool :=
  s.hasRegion r && (s.anyReact r (s.rd r FCL_ERR_STATUS) 4 || s.anyReact r (s.rd r FCL_LATCHED) 5 || !s.on r)

/-- The region whose FCL drives a fault output: the lane die for its power die (R482). -/
def pinReg (r : Nat) : Nat := if r > 3 ∧ r < 7 then r - 3 else r

/-- The fault output of a region or of the lane a power die belongs to, after a change: asserted while a cause holds,
and held for `FAULT_MIN` from an assertion (R482). M has none. -/
def State.updPin (s : State) (r : Nat) : State :=
  let p := pinReg r
  if p = 7 then s
  else
    let cause := s.pinCause p || (p ≤ 3 && s.pinCause (p + 3))
    if cause then
      if s.rdB p FCL_PIN then s.wr p FCL_PIN 0 1
      else (s.wr p FCL_PIN 0 1).wr p FCL_PIN_HELD 0 1
    else if s.rdB p FCL_PIN_HELD then s
    else s.wr p FCL_PIN 0 0

/-- The FAULT_MIN hold of a fault output has passed: the output follows its cause again (R482). -/
def State.pinHoldEnd (s : State) (r : Nat) : State := (s.wr (pinReg r) FCL_PIN_HELD 0 0).updPin r

/-- A fault entry or a latch sent to M as background telemetry; a lane whose M is lost sends none (R484). -/
def State.tell (s : State) (r src kind : Nat) : State :=
  match laneOfReg r with
  | some l => if s.rdB l.reg INT_M_LOST then s else s.send (.telemetry r src kind)
  | none => s.send (.telemetry r src kind)

/-- What a block of a lane die held in reset loses of its records (R479), and its tasks HALTED, their waits cancelled
(R430). -/
def laneBlockReset (blk : Nat) (x : Lane) : Lane :=
  let x := { x with tasks := x.tasks.map (fun k =>
    if k.owner == blk then { k with state := 5, cmp := none, listed := false, pend := [] } else k) }
  match blk with
  | 0x01 => { x with wbe := {} }
  | 0x02 => { x with hst := { gen := x.hst.gen } }
  | 0x06 => { x with ordQ := [] }
  | 0x14 => { x with trc := {} }
  | 0x15 => { x with fbi := List.replicate 8 {} }
  | 0x16 => { x with table := [], tblLoad := none }
  | 0x18 => { x with twl := {} }
  | _ => x

/-- The orders stored are loaded and not armed (R435). -/
def State.ordersLoaded (s : State) (l : LaneId) : State :=
  (s.lane l).orders.foldl (fun s x => s.wr l.reg DPT_ORD_STATE x.o 1) s

/-- A block held in reset: its wires masked, its variables and what of its parameters is neither configuration nor
non-volatile back at reset values, the region in RECOVERY until the block reports ready (R479). -/
def State.blockReset (s : State) (r blk : Nat) : State :=
  let s := { s with params := s.params.filter (fun e =>
    !(e.1.region == r && (e.1.block == blk || e.1.block == 0x80 + blk)) || keptAtReset e.1) }
  let s := match LaneId.ofReg r with
    | some l => (if blk = 6 then s.ordersLoaded l else s).modLane l (laneBlockReset blk)
    | none => s
  let s := (s.wr r FCL_MASKED blk 1).bump r FCL_CNT_BLOCK_RESET
  if s.rd r FAB_PHASE = 1 then s.wr r FAB_PHASE 0 3 else s

/-- A region reset with its cause written before it (R480). A lane die leaves service first and is reset after its
frames with code 3 (R125); the others are reset at once. -/
def State.regionReset (s : State) (r src : Nat) (timeout : Bool) : State :=
  let s := s.stampReset r src timeout
  match kindOf r with
  | .lane => match LaneId.ofReg r with
    | some l => (s.wr r FCL_ORDERED 0 1).leave l
    | none => s
  | .power => match laneOfReg r with
    | some l => s.resetPower l
    | none => s
  | .m => s.resetM
  | .s => s.resetS
  | .every => s

/-- A lane in state leaving or out starts no reaction but FAULT_PIN (R148, R484). -/
def State.quietLane (s : State) (r : Nat) : Bool :=
  match laneOfReg r with
  | some l => decide (s.vstate l ≥ 3)
  | none => false

/-- The core-pair reactions: the fault task made READY (bit 0), the non-maskable entry (bit 1), which a pair halted by
the lockstep checker does not take (R475, R146). -/
def State.coreReact (s : State) (r src bits : Nat) : State :=
  match laneOfReg r with
  | none => s
  | some l =>
    let s := if bits.testBit 0 then (s.wr l.reg FCL_IRQ 0 (src + 1)).send (.core l false r src) else s
    if bits.testBit 1 && s.rd l.reg LSC_STATE != 3 then (s.wr l.reg FCL_NMI 0 (src + 1)).send (.core l true r src) else s

/-- The reactions of a source on entry into the fault state (R475 to R480, R484, R485). -/
def State.react (s : State) (r src : Nat) : State :=
  let bits := s.rd r FCL_REACT src
  if s.quietLane r then s
  else
    let s := s.coreReact r src bits
    if bits.testBit 3 then s.regionReset r src false
    else if bits.testBit 2 then s.blockReset r (ownerOf r src)
    else s

/-- A count-only source: FUNCTIONAL severity 0 or 1, DATA corrected (R474). -/
def countOnly (cls : Nat) : Bool := cls == 0 || cls == 2 || cls == 3

/-- The trouble counter of a source raised by one, saturating (R486). -/
def State.trouble (s : State) (r src : Nat) : State := s.bump r FCL_TROUBLE src

/-- The record of the last assertion of a source (R474, R478, R488). -/
def State.stampLast (s : State) (r src : Nat) : State :=
  s.wr r FCL_LAST src (withCycle (s.offset25 r) (s.cycleOf r))

/-- The first source to enter the fault state since FIRST was cleared (R488). -/
def State.stampFirst (s : State) (r src : Nat) : State :=
  if bit (s.rd r FCL_FIRST) 6 then s
  else s.wr r FCL_FIRST 0 (withCycle (src + 64) (s.cycleOf r))

/-- A lane in shadow notes a fault of its own (R128). -/
def State.shadowNote (s : State) (r : Nat) : State :=
  match laneOfReg r with
  | some l => if s.vstate l = 0 then s.wr l.reg STF_SHADOW_BAD 0 1 else s
  | none => s

/-- An assertion in a lane die noted for the trace and the standing orders (R258, R437). -/
def State.noteHit (s : State) (r src : Nat) : State :=
  match LaneId.ofReg r with
  | some l => (s.wr l.reg TRC_HIT src 1).event l 9 src
  | none => s

/-- The entry of a source into the fault state: latched when its recoveries have reached the limit, counted, recorded,
reported to M, its reactions started (R478). -/
def State.enterFault (s : State) (r src : Nat) : State :=
  let lim := s.rd r FCL_REC_LIMIT src
  let latch := decide (lim > 0 ∧ s.rd r FCL_REC_COUNT src ≥ lim)
  let s := if latch then (s.wrBit r FCL_LATCHED 0 src true).tell r src 2 else s
  let s := (s.wrBit r FCL_ERR_STATUS 0 src true).trouble r src
  let s := ((s.stampFirst r src).tell r src 1).shadowNote r
  (s.react r src).updPin r

/-- An assertion of the error wire of a source (R478). `held` says whether the wire stays active. A reserved source has
its wire tied inactive (R472); a masked block's wire only counts (R479); in phase TEST the assertion is a test event
(R485); a count-only source counts (R474); within the fault state only the quiet period and LAST move (R478). -/
def State.raise (s : State) (r src : Nat) (held : Bool := false) : State :=
  if !sourceListed r src || !s.hasRegion r then s
  else
    let s := if held then s.wrBit r FCL_RAW 0 src true else s
    if s.rdB r FCL_MASKED (ownerOf r src) then s.trouble r src
    else if s.rd r FAB_PHASE = 2 then s.bump r FCL_TEST_EVENTS
    else
      let s := (s.stampLast r src).noteHit r src
      if countOnly (classOf r src) then s.trouble r src
      else
        let s := s.wr r FCL_QUIET_AT src s.now
        if bit (s.rd r FCL_ERR_STATUS) src then s else s.enterFault r src

/-- The release of an error wire: the quiet period counts from it (R478). -/
def State.release (s : State) (r src : Nat) : State :=
  if bit (s.rd r FCL_RAW) src then (s.wrBit r FCL_RAW 0 src false).wr r FCL_QUIET_AT src s.now else s

/-- The recovery times a source keeps. -/
def State.recTimes (s : State) (r src : Nat) : List Nat :=
  ((s.recoveries.find? (fun e => e.region == r && e.src == src)).map FclEv.times).getD []

/-- The recovery times of a source replaced. -/
def State.setRecTimes (s : State) (r src : Nat) (ts : List Nat) : State :=
  { s with recoveries := s.recoveries.filter (fun e => !(e.region == r && e.src == src)) ++
      (if ts.isEmpty then [] else [⟨r, src, ts⟩]) }

/-- A recovery: the fault state ends and the recoveries within the window, this one included, are counted (R478). -/
def State.recover (s : State) (r src : Nat) : State :=
  let win := s.rd r FCL_REC_WIN src * 10 ^ 9
  let ts := (s.recTimes r src).filter (fun t => t + win > s.now) ++ [s.now]
  let s := (s.wrBit r FCL_ERR_STATUS 0 src false).setRecTimes r src ts
  (s.wr r FCL_REC_COUNT src (satNat 8 ts.length)).updPin r

/-- The end of a source's quiet period: a recovery, unless the source is latched, its wire is active or it is not in
fault state (R478). The command is the passing of the period; an assertion in the same cycle wins (R485). -/
def State.quietEnd (s : State) (r src : Nat) : State :=
  if bit (s.rd r FCL_ERR_STATUS) src && !bit (s.rd r FCL_LATCHED) src && !bit (s.rd r FCL_RAW) src
  then s.recover r src else s

/-- A latch cleared: the fault state ends and the recovery count is 0 (R481). -/
def State.unlatch (s : State) (r src : Nat) : State :=
  if bit (s.rd r FCL_LATCHED) src then
    (((s.wrBit r FCL_LATCHED 0 src false).wrBit r FCL_ERR_STATUS 0 src false).setRecTimes r src []).wr r FCL_REC_COUNT src 0
    |>.updPin r
  else s

/-- A block reported ready: its wires count again; a lane in service with no block in reset is in RUN (R453, R479). -/
def State.blockReady (s : State) (r blk : Nat) : State :=
  let s := s.wr r FCL_MASKED blk 0
  let busy := (List.range 128).any (fun b => s.rdB r FCL_MASKED b)
  let serving := match LaneId.ofReg r with
    | some l => s.vstate l == 2
    | none => true
  if s.rd r FAB_PHASE = 3 && !busy && serving then s.wr r FAB_PHASE 0 1 else s

/-- The source of a block reset that did not complete: 9 of a lane die, 13 of M; the tables list none for a power die or
S (R479, R557). -/
def resetTimeoutSrc (r : Nat) : Option Nat :=
  match kindOf r with
  | .lane => some 9 | .m => some 13 | _ => none

/-- A block has not reported ready within 10 ms of its reset: the region's source is asserted, and `LAST_RESET` shows a
BLOCK_RESET timeout (R479, R488). -/
def State.blockResetTimeout (s : State) (r blk : Nat) : State :=
  if s.rdB r FCL_MASKED blk then
    match resetTimeoutSrc r with
    | some src => (s.raise r src).wrBit r FCL_LAST_RESET 0 6 true
    | none => s
  else s

end Sys2Proof.Machine
end

