-- ==== Sys2Proof/Hash.lean ====
section
/-! DEFINITION. SHAKE256 of FIPS 202 over bytes, which configuration digests, image digests and cartridge digests use (R78,
R492, R542, R552). -/

namespace Sys2Proof

/-- A 64-bit word turned left. -/
def rotl64 (x n : Nat) : Nat := (x * 2 ^ n ||| x / 2 ^ (64 - n)) % 2 ^ 64

/-- The turns of the lanes (x, y), at 5y + x. -/
def keccakTurns : List Nat :=
  [0, 1, 62, 28, 27, 36, 44, 6, 55, 20, 3, 10, 43, 25, 39, 41, 45, 15, 21, 8, 18, 2, 61, 56, 14]

/-- The constants of the 24 rounds. -/
def keccakConsts : List Nat :=
  [0x0000000000000001, 0x0000000000008082, 0x800000000000808A, 0x8000000080008000, 0x000000000000808B, 0x0000000080000001,
   0x8000000080008081, 0x8000000000008009, 0x000000000000008A, 0x0000000000000088, 0x0000000080008009, 0x000000008000000A] ++
  [0x000000008000808B, 0x800000000000008B, 0x8000000000008089, 0x8000000000008003, 0x8000000000008002, 0x8000000000000080,
   0x000000000000800A, 0x800000008000000A, 0x8000000080008081, 0x8000000000008080, 0x0000000080000001, 0x8000000080008008]

/-- Theta: every lane mixed with the parity of two columns. -/
def keccakTheta (a : List Nat) : List Nat :=
  let c := (List.range 5).map (fun x => [0, 5, 10, 15, 20].foldl (fun m y => m ^^^ a.getD (x + y) 0) 0)
  (List.range 25).map (fun i => a.getD i 0 ^^^ c.getD ((i + 4) % 5) 0 ^^^ rotl64 (c.getD ((i + 1) % 5) 0) 1)

/-- Rho and pi: every lane turned and moved. -/
def keccakRhoPi (a : List Nat) : List Nat :=
  (List.range 25).map (fun j =>
    let i := (j % 5 + 3 * (j / 5)) % 5 + 5 * (j % 5)
    rotl64 (a.getD i 0) (keccakTurns.getD i 0))

/-- Chi: every row combined. -/
def keccakChi (b : List Nat) : List Nat :=
  (List.range 25).map (fun i =>
    let y := i / 5 * 5
    b.getD i 0 ^^^ ((2 ^ 64 - 1 - b.getD (y + (i + 1) % 5) 0) &&& b.getD (y + (i + 2) % 5) 0))

/-- One round. -/
def keccakRound (a : List Nat) (rc : Nat) : List Nat :=
  match keccakChi (keccakRhoPi (keccakTheta a)) with
  | x :: r => (x ^^^ rc) :: r
  | [] => []

/-- The permutation. -/
def keccakF (a : List Nat) : List Nat := keccakConsts.foldl keccakRound a

/-- The 17 lanes of a block of 136 bytes. -/
def blockLanes (b : List Byte) : List Nat := (List.range 17).map (fun i => fieldLe b (8 * i) 8)

/-- A block absorbed. -/
def absorb (a : List Nat) (b : List Byte) : List Nat :=
  keccakF ((List.range 25).map (fun i => a.getD i 0 ^^^ (blockLanes b).getD i 0))

/-- A message in blocks of 136 bytes. -/
def absorbAll : Nat → List Nat → List Byte → List Nat
  | 0, a, _ => a
  | n + 1, a, m => absorbAll n (absorb a (m.take 136)) (m.drop 136)

/-- A message with the suffix and the padding of SHAKE256. -/
def shakePad (m : List Byte) : List Byte :=
  let z := 135 - m.length % 136
  if z = 0 then m ++ [byte 0x9F] else m ++ byte 0x1F :: (List.replicate (z - 1) 0 ++ [byte 0x80])

/-- The first `n` bytes of SHAKE256, at most 136 (FIPS 202). -/
def shake256 (m : List Byte) (n : Nat) : List Byte :=
  let p := shakePad m
  let a := absorbAll (p.length / 136) (List.replicate 25 0) p
  (a.flatMap (fun w => toLe 8 w)).take (min n 136)

/-- The first `n` bytes of SHAKE256 as a little-endian value. -/
def shakeNat (m : List Byte) (n : Nat) : Nat := ofLe (shake256 m n)

end Sys2Proof
end

