-- ==== Sys2Proof/Machine/Operands.lean ====
section
/-! DEFINITION. The operands of loops, votes and traces: the value a parameter ID reads as, with the values a rule
derives at the moment of reading; the validity of a source; and the number formats of the control engine with their
rounding and saturation (R233, R234, R237). -/

namespace Sys2Proof.Machine

open Par Var

/-! ### Rounding -/

/-- The nearest integer, ties towards +∞ (R234). -/
def roundQ (q : Rat) : Int := (q + 1 / 2).floor

/-- A signal saturated to its 32 bits (R233, R234). -/
def sat32 (i : Int) : Int := satInt 32 i

/-- An integer divided by a power of two, to nearest with ties towards +∞ (R234). -/
def roundShift (i : Int) (n : Nat) : Int := (2 * i + (2 ^ n : Nat)) / (2 * (2 ^ n : Nat))

/-- The circle constant, to 18 places; the manual states no precision (log 7). -/
def piQ : Rat := 3141592653589793238 / 1000000000000000000

/-! ### Clocks and periods -/

/-- The CORE frequency in MHz at the present DVFS point (R511, R518). -/
def State.coreMHz (s : State) (l : LaneId) : Nat := [400, 300, 150].getD (s.rd l.reg CLK_POINT) 150

/-- CORE cycles in a CEN cycle: CEN runs at CORE or CORE/2 (R511). -/
def State.cenDiv (s : State) (l : LaneId) : Nat := if bit (s.rd l.reg CLK_ISL_CFG (s.rd l.reg CLK_POINT)) 0 then 2 else 1

/-- The time of `n` CEN cycles in sixths of a ns, exact at every DVFS point (R511, R518). -/
def State.cenTime (s : State) (l : LaneId) (n : Nat) : Nat := n * (6000 / s.coreMHz l) * s.cenDiv l

/-- A configured bridge (R150). -/
def State.bridgeUsed (s : State) (l : LaneId) (b : Nat) : Bool := s.rd l.reg CMT_CART b != 0xF

/-- The base period in steps of 625 ps: the shortest period of a configured bridge; of any bridge where none is
configured (R153, log 23). -/
def State.basePeriod (s : State) (l : LaneId) : Nat :=
  let used := (List.range 6).filter (fun b => s.bridgeUsed l b)
  let bs := if used.isEmpty then List.range 6 else used
  bs.foldl (fun m b => min m (s.rd l.reg CMT_PWM_PERIOD b)) 200000

/-- The base period in seconds. -/
def State.baseSec (s : State) (l : LaneId) : Rat := (s.basePeriod l : Rat) * 625 / 1000000000000

/-- The number of base periods in a Towline cycle. -/
def State.basesPerCycle (s : State) (l : LaneId) : Nat := s.rd l.reg TWL_CYCLE_LEN * 1600 / s.basePeriod l

/-- The length of a bridge's period in base periods, 1 to 4 where its configuration is consistent (R153). -/
def State.baseRatio (s : State) (l : LaneId) (b : Nat) : Nat := max 1 (s.rd l.reg CMT_PWM_PERIOD b / s.basePeriod l)

/-- The number of the reference period: the base period whose valley lies on the common sample instant (R244). -/
def State.refPeriod (s : State) (l : LaneId) : Option Nat :=
  let off := s.rd l.reg TWL_SAMPLE_OFFSET * 1600
  let ph := s.rd l.reg CMT_PWM_PHASE
  if off ≥ ph ∧ (off - ph) % s.basePeriod l = 0 then some ((off - ph) / s.basePeriod l) else none

/-- The base period that follows the reference period, at whose compute start new voted values are taken; where the reference period is the
last of a cycle, base period 0 of the next (R245, R247, R269). -/
def State.afterRef (s : State) (l : LaneId) : Bool :=
  match s.refPeriod l with
  | some n => s.rd l.reg CEN_BP == (n + 1) % s.basesPerCycle l
  | none => false

/-- The number by which bridges with longer periods count base periods: over all Towline cycles, so that the lanes agree on it; by the lane's
own count while it is not synchronised (R153, R154; DESIGN CHOICE, log 69). -/
def State.baseNumber (s : State) (l : LaneId) : Nat :=
  if s.synced l then s.cycle l * s.basesPerCycle l + s.rd l.reg CEN_BP else s.rd l.reg INT_PERIOD

/-- What a base valley, or the peak after it, is to a bridge: its own valley (true), with double update its own peak (false), or no load point
(R153, R208, R227). -/
def State.ownPoint (s : State) (l : LaneId) (b : Nat) (peak : Bool) : Option Bool :=
  let r := s.baseRatio l b
  let n := s.baseNumber l % r
  if !peak ∧ n = 0 then some true
  else if s.rdB l.reg CMT_UPDATE b ∧ (if peak then r % 2 = 1 ∧ n = r / 2 else r % 2 = 0 ∧ n = r / 2) then some false
  else none

/-- The nominal interval of a loop's trigger in ps (R239, R253): for an EXPRESS loop that of its bridge's updates, two in a period with double
update. -/
def State.trigPs (s : State) (l : LaneId) (n : Nat) : Nat :=
  if n < 12 then s.rd l.reg CMT_PWM_PERIOD (n / 2) * 625 / (if s.rdB l.reg CMT_UPDATE (n / 2) then 2 else 1)
  else
    let t := s.rd l.reg CEN_TRIG n
    let d := bits t 15 8 + 1
    if bits t 3 0 = 1 then s.rd l.reg CMT_PWM_PERIOD (bits t 6 4) * 625 * d else s.rd l.reg TWL_CYCLE_LEN * 1000000 * d

/-! ### Load (R242) -/

/-- The share of the CEN cycles taken, as a fraction (R242). -/
def State.cenLoad (s : State) (l : LaneId) : Rat :=
  let cyc : Rat := (s.cenDiv l * 1000000 : Nat) / (s.coreMHz l : Rat)
  let loops := (List.range 36).map (fun i => i + 12)
  let used := loops.filter (fun n => bits (s.rd l.reg CEN_TRIG n) 3 0 != 0)
  let sum := used.foldl (fun a n => a + (((s.rd l.reg CEN_SEC_NUM n + 6 : Nat) : Rat) / (s.trigPs l n : Rat))) (0 : Rat)
  cyc * (sum + 100 / ((s.basePeriod l * 625 : Nat) : Rat))

/-! ### Reading a place -/

/-- A place belongs to a parameter. -/
def PKey.isOf (k : PKey) (d : PDesc) : Bool :=
  k.block == d.block && decide (d.index ≤ k.index) && decide (k.index < d.index + d.span)

/-! ### Configuration checks a lane reports (R103, R179, R262, R282) -/

/-- The peers, the power die and the shared dies a lane die has links to (R81). -/
def State.farEnds (s : State) (l : LaneId) : List Nat :=
  ((s.peersOf l).map LaneId.reg ++ [l.pow, 7, 8]).filter (fun r => s.hasRegion r)

/-- What of a map exists only in some regions or instances (R81, R447, R470). -/
def State.partOfMap (s : State) (k : PKey) (d : PDesc) : Bool :=
  let i := instOf d k
  if k.block = 0x04 then
    match LaneId.ofReg k.region with
    | some l =>
      if k.isOf XLK_CNT_MISSING then (s.peersOf l).any (fun p => p.reg == i)
      else if d.hi = 8 then (s.farEnds l).contains i else true
    | none => false
  else if k.block = 0x07 then
    if k.isOf FAB_REGION_EPOCH then k.region ≤ 3 || k.region == 7
    else if k.isOf FAB_PEER_EPOCH then k.region ≥ 7
    else if k.index ≥ 0x030 && k.index ≤ 0x041 then k.region == 7 || (k.region == 8 && i == 0)
    else if d.hi = 13 then decide (i < fabCount k.region) else true
  else true

/-- A parameter present in the part at this instance. -/
def State.presentAt (s : State) (k : PKey) (d : PDesc) : Bool :=
  s.hasRegion k.region && decide (d.lo ≤ instOf d k) && decide (instOf d k ≤ d.hi) && s.partOfMap k d

/-- The places of every RWS parameter of a block of a region, in ascending order of ID. -/
def rwsKeys (r block : Nat) : List PKey :=
  ((Par.blockMap (kindOf r) block).filter (fun d => d.acc == .rws)).flatMap (fun d =>
    (List.range (d.hi + 1 - d.lo)).map (fun i => d.key r (d.lo + i)))

/-- The bytes of one RWS value, little-endian and padded to a multiple of 4 bytes. -/
def valueBytes (k : PKey) (v : Nat) : List Byte := pad4 (toLe (cdiv (widthOf k) 8) v)

/-- The RWS parameters whose value is the ID of another parameter. -/
def namesParam (k : PKey) : Bool :=
  [VOT_AN_SRC, VOT_AN_REF, VOT_DI_SRC, CMT_TQ_SRC, CEN_REF_SRC, CEN_FB_SRC, CEN_ADD_IN_SRC, CEN_ADD_OUT_SRC,
   CEN_LOCAL_SRC].any (fun d => k.isOf d)

/-- A value as it enters a check that lanes compare: an ID of the lane's own lane die or power die enters as one of lane
A's, since equal configurations would never agree otherwise (log 11). -/
def laneFree (r : Nat) (k : PKey) (v : Nat) : Nat :=
  if !namesParam k then v
  else if v / 2 ^ 28 = r then v % 2 ^ 28 + 2 ^ 28
  else if v / 2 ^ 28 = r + 3 then v % 2 ^ 28 + 4 * 2 ^ 28
  else v

/-- The CRC-32C of the RWS values of a block of a lane, in ascending ID order. The manual gives neither the bytes of a
value in this check nor whether the ID enters it; the values alone enter, as R78 lays a value out (log 11). -/
def State.rwsCrc (s : State) (r block : Nat) : Nat :=
  crc32c ((rwsKeys r block).flatMap (fun k => valueBytes k (laneFree r k (s.params.get k))))

/-- The RWS values of a lane die and its power die. -/
def State.rwsValues (s : State) (l : LaneId) : Store :=
  s.params.filter (fun e => (e.1.region == l.reg || e.1.region == l.pow) &&
    (match lookup e.1 with
      | some d => d.acc == .rws
      | none => false))

/-- A place that exists in the part. -/
def State.existsAt (s : State) (k : PKey) : Bool :=
  match lookup k with
  | some d => s.presentAt k d
  | none => false

/-- The configuration digest over the RWS values `m` of a lane as its last commit left them: every RWS parameter that the lane die
and its power die have, as ID and value, in ascending ID order (R78). -/
def State.digestOver (s : State) (l : LaneId) (m : Store) : Nat :=
  let part (r : Nat) : List Byte := (List.range 128).flatMap (fun blk =>
    ((rwsKeys r blk).filter s.existsAt).flatMap (fun k => toLe 4 k.toId ++ valueBytes k (m.get k)))
  shakeNat (part l.reg ++ part l.pow) 8

/-- `WBE.CFG_DIGEST`: of the values at the last commit or start of the lane; 0 before its first start (R78, R562). -/
def State.cfgDigest (s : State) (l : LaneId) : Nat :=
  match (s.lane l).cfg with
  | some m => s.digestOver l m
  | none => 0

/-- The digest taken anew: the values it covers are those of this moment (R78). What learning changes later in an RWS table moves
it at the next commit only. -/
def State.takeDigest (s : State) (l : LaneId) : State := s.modLane l (fun x => { x with cfg := some (s.rwsValues l) })

/-- The open consists of a lane: one whose COMMIT has been accepted is closed (R53, R79). -/
def Lane.openCount (x : Lane) : Nat := (x.wbe.consists.filter (fun c => !c.closed)).length

/-- The parameters that show a measurement the manual gives no number for: the converters' calibration, the supplies, the clock input, the temperatures (log 5). -/
def measuredPars : List PDesc :=
  [ADC_OFFSET, ADC_GAIN_ERR, SEC_VSEC, SEC_SS_V, SEC_I_MEAS, ATH_I_MEAS, SIO_RAW, LKG_OSC_FREQ, TRX_VCM,
   CLK_CLKIN_AMP, CLK_CLKIN_MEAS] ++
  [SUP_VSUP, SUP_VIO, SUP_VAUX, SUP_VCORE, SNS_TEMP, SNS_TEMP_MAX, SNS_RAIL, SNS_S_OSC]

/-- A place whose value is measured. The map of its region names it: block codes of the kinds of region differ. -/
def PKey.isMeasured (k : PKey) : Bool :=
  match lookup k with
  | some d => measuredPars.contains d
  | none => false

/-- The time left in µs of a count of `len` ns that restarted at `since`, while it runs. -/
def State.leftUs (s : State) (on : Bool) (since len : Nat) : Nat :=
  if on then satNat 16 ((since + len - s.now) / 1000) else 0

/-- The place of a word of a host slot of the configuration archive (R541). -/
def archKey (slot w : Nat) : PKey := ⟨7, 0x100 + slot, w / 256, w % 256⟩

/-- A word of an archive slot: what a host wrote, and in slots 0 to 2 the RWS set of a lane, whose layout there the manual
does not give (R541, log 37). -/
def State.archWord (s : State) (slot w : Nat) : Nat :=
  if slot < 3 then Config.free 541 ((s.fv * 16 + slot) * 65536 + w) % 2 ^ 32 else s.params.get (archKey slot w)

/-- The operating time of a lane in 0.01 h: the time kept in MRAM and the time since it last began to count, which is while
the lane die is powered in RUN, TRIM or LOCK WATCH (R493). -/
def State.opTime (s : State) (l : LaneId) : Nat :=
  satNat 32 (s.rd l.reg BST_OP_TIME +
    (if s.rdB l.reg INT_POWERED && s.rd l.reg PWR_STATE != 3 then (s.now - s.rd l.reg INT_ON_AT) / 36000000000 else 0))

/-- A field of the self-test result record: `n` bytes at offset `o` (R492). -/
def State.recField (s : State) (l : LaneId) (o n : Nat) : Nat := s.rd l.reg BST_REC / 2 ^ (8 * o) % 2 ^ (8 * n)

/-- The operating time since the record's creation (R493). -/
def State.recAge (s : State) (l : LaneId) : Nat := if s.rdB l.reg BST_REC_ON then s.opTime l - s.recField l 4 4 else 0

/-- A valid result record (R493): written, all three result bits set, at most 168 h old, of the present image and
lifecycle state. A copy that failed its CRC is shown by no command. -/
def State.recValid (s : State) (l : LaneId) : Bool :=
  s.rdB l.reg BST_REC_ON && s.recField l 1 1 % 8 == 7 && decide (s.recAge l ≤ 16800) &&
    s.recField l 8 4 == s.rd l.reg UPD_ACTIVE_DIGEST % 2 ^ 32 && s.recField l 16 1 == s.rd l.reg INT_LIFECYCLE

/-- A core that keeps its last calibration: background calibration is off, or the core found no window and its bridge is not OFF (R229). -/
def State.calHeld (s : State) (l : LaneId) (c : Nat) : Bool :=
  !s.rdB l.pow ADC_CAL_EN || (s.rdB l.pow ADC_HELD c && s.rd l.reg CMT_STATE (c / 7) != 0)

/-- The time in ms since a core's last calibration: 0 before the first after the reset; since its latest window while it is held; else up to
1 s more, since a core is calibrated once per second at least (R229, R231, log 5). -/
def State.calAge (s : State) (l : LaneId) (c free : Nat) : Nat :=
  let at' := s.rd l.pow ADC_CAL_AT c
  if at' = 0 then 0 else satNat 16 ((s.now + 1 - at') / 1000000 + if s.calHeld l c then 0 else free % 1001)

/-! ### Trace rows -/

/-- The channels enabled, in ascending order (R257). -/
def State.trcChannels (s : State) (l : LaneId) : List Nat :=
  (List.range 32).filter (fun c => (s.rd l.reg TRC_CH_EN).testBit c)

/-- The length of a row in bytes: an 8-byte header and 4 bytes for each enabled channel (R257). -/
def State.rowBytes (s : State) (l : LaneId) : Nat := 8 + 4 * (s.trcChannels l).length

/-- An event of a source of `TRC.SAMPLE`, for source 3 the completion of loop `n`: every d-th while the trace samples is a sample event, counted
from the arming on (R258, DEDUCED, log 75). -/
def State.trcEvent (s : State) (l : LaneId) (source n : Nat) : State :=
  let p := s.rd l.reg TRC_SAMPLE
  let st := s.rd l.reg TRC_STATE
  if st = 0 ∨ st = 4 ∨ bits p 3 0 ≠ source ∨ (source = 3 ∧ bits p 21 16 ≠ n) then s
  else
    let k := s.rd l.reg TRC_N + 1
    if k ≤ bits p 15 4 then s.wr l.reg TRC_N 0 k else (s.wr l.reg TRC_N 0 0).wr l.reg TRC_DUE 0 1

/-- The bytes the archive holds (R264). -/
def State.archBytes (s : State) : Nat := (s.archive.map List.length).sum

/-- What a place of a power die reads as: a calibration kept is as it was, a measured value is a free one, 0 before the first calibration; the
gate supply reads 0 without supply and as last reported for 100 µs after an event (R205, R229, R231, log 5). -/
def State.readPow (s : State) (l : LaneId) (k : PKey) : Nat :=
  let fresh := Config.measured k.toId s.fv % 2 ^ widthOf k
  if k.isOf GDR_VGD then
    let at' := s.rd l.pow GDR_VGD_AT
    if !s.rdB l.pow INT_POWERED then 0
    else if at' ≠ 0 ∧ s.now + 1 < at' + 100000 then s.params.get k else fresh
  else if k.isOf ADC_OFFSET || k.isOf ADC_GAIN_ERR then
    (if s.calHeld l k.inst || s.rd l.pow ADC_CAL_AT k.inst == 0 then s.params.get k else fresh)
  else if k.isOf ADC_CAL_AGE then s.calAge l k.inst fresh
  else if k.isMeasured then fresh
  else s.params.get k

/-- The value a place reads as: the value held, or the value a rule derives at the moment of reading (R79, R133, R134,
R320, R347, R348). -/
def State.readKey (s : State) (k : PKey) : Nat :=
  match LaneId.ofReg k.region with
  | some l =>
    if k.isOf WBE_CYCLE_NOW && k.block == 1 then s.cycle l
    else if k.isOf HST_ISO_STATE then
      (if (s.rd l.reg HST_ISO_STATE == 1 || s.rd l.reg HST_ISO_STATE == 2) && (s.rd l.reg STF_HOLDER != l.reg || !bit (s.rd l.reg HST_PORT_EN) 3)
       then 0 else s.rd l.reg HST_ISO_STATE)
    else if k.isOf WBE_OPEN_CONSISTS then (s.lane l).openCount
    else if k.isOf HST_MAC_ADDR then Config.made k.toId % 2 ^ 48
    else if k.isOf WBE_COMMIT_QUEUE then (s.lane l).wbe.commitQ.length
    else if k.isOf STF_LEASE_LEFT then
      s.leftUs (s.rd l.reg STF_HOLDER == l.reg && s.rdB l.reg STF_COUNT_ON) (s.rd l.reg STF_COUNT_AT) (s.rd l.reg STF_RUN_MS * 900000)
    else if k.isOf STF_CLAIM_WAIT then
      s.leftUs (s.rdB l.reg STF_WAIT_ON) (s.rd l.reg STF_WAIT_AT) ((s.leaseMs l + 1) * 1000000)
    else if k.isOf SDC_POS then
      let src := s.rd l.reg SDC_SRC
      let now := if src < 8 then ((s.lane l).fbi.getD src {}).count else 0
      if src < 8 then twos 48 (s.rdI l.reg SDC_POS + sgn 32 (twos 32 (now - (s.rd l.reg SDC_LAST : Nat)))) else s.params.get k
    else if k.isOf SDC_PENDING then (s.lane l).table.length
    else if k.isOf BST_OP_TIME then s.opTime l
    else if k.isOf BST_REC_AGE then satNat 16 (s.recAge l)
    else if k.isOf BST_REC_VALID then b2n (s.recValid l)
    else if k.isOf CMT_CFG_CRC then s.rwsCrc l.reg 0x10
    else if k.isOf CEN_CFG_CRC then s.rwsCrc l.reg 0x12
    else if k.isOf SIO_CFG_CRC then s.rwsCrc l.reg 0x17
    else if k.isOf WBE_CFG_DIGEST then s.cfgDigest l
    else if k.isOf TRC_ROW_BYTES then s.rowBytes l
    else if k.isOf CEN_LOAD then satNat 10 (s.cenLoad l * 1000).floor.toNat
    else if k.isMeasured then Config.measured k.toId s.fv % 2 ^ widthOf k
    else s.params.get k
  | none => match LaneId.ofReg (k.region - 3) with
    | some l => s.readPow l k
    | none =>
    if k.region = 7 && k.isOf CRT_LAST_WRITEBACK then satNat 32 ((s.now - s.rd 7 CRT_LAST_WB) / 1000000000)
    else if k.region = 7 && k.isOf NVS_ARCH_WORD then s.archWord (s.rd 7 NVS_ARCH_SEL) (s.rd 7 NVS_ARCH_OFFSET * 256 + k.inst)
    else if k.region = 7 && k.isOf M_TRC_ARCH_BYTES then satNat 24 s.archBytes
    else if k.region = 8 && k.isOf S_STF_LEASE_LEFT then
      s.leftUs (s.rdB 8 STF_COUNT_ON) (s.rd 8 STF_COUNT_AT) (s.rd 8 STF_LEASE_MS * 1000000)
    else if k.region = 8 && k.isOf SVT_VOTE_AGE then
      if (s.sdie.vote k.inst).isSome then satNat 16 ((s.now - s.rd 8 SVT_VOTE_AT k.inst) / 1000) else 0xFFFF
    else if k.region = 8 && k.isOf SEC_TEST_AGE then
      if s.rdB 8 SEC_PASS_ON k.inst then satNat 16 ((s.now - s.rd 8 SEC_PASS_AT k.inst) / 1000000) else 0xFFFF
    else if k.isMeasured then Config.measured k.toId s.fv % 2 ^ widthOf k
    else s.params.get k

/-- The value a parameter ID reads as. -/
def State.readId (s : State) (id : Nat) : Nat := s.readKey (PKey.ofId id)

/-- The same as a two's complement value of its width (R237). -/
def State.readInt (s : State) (id : Nat) : Int := sgn (widthOf (PKey.ofId id)) (s.readId id)

/-- An ID names a parameter that exists, in a lane die or its own power die (R108, R256). -/
def idExists (l : LaneId) (id : Nat) : Bool :=
  let k := PKey.ofId id
  (k.region == l.reg || k.region == l.pow) &&
    (match lookup k with
      | some d => decide (d.lo ≤ instOf d k) && decide (instOf d k ≤ d.hi)
      | none => false)

/-- The block that owns a source reports it valid (R104, R108, R237): a voted set, an agreed or local input, a channel
position or speed, an angle or speed of a bridge; any other source that exists is valid. -/
def State.srcValidN (s : State) (l : LaneId) : Nat → Nat → Bool
  | 0, _ => false
  | n + 1, id =>
    let k := PKey.ofId id
    if !idExists l id then false
    else if k.region = l.pow then true
    else if k.isOf VOT_AN_VALUE then bit (s.rd l.reg VOT_AN_STATE k.inst) 8
    else if k.isOf CEN_AGREED then bit (s.rd l.reg CEN_AGR_VALID) k.inst
    else if k.isOf CEN_LOCAL then s.srcValidN l n (s.rd l.reg CEN_LOCAL_SRC k.inst)
    else if k.isOf FBI_POS || k.isOf FBI_POS_SI then bit (s.rd l.reg FBI_FLAGS k.inst) 0
    else if k.isOf FBI_SPEED then bit (s.rd l.reg FBI_FLAGS k.inst) 1
    else if k.isOf OBS_ANGLE then s.rdB l.reg OBS_ANGLE_OK k.inst
    else if k.isOf OBS_SPEED then s.rdB l.reg OBS_SPEED_OK k.inst
    else true

/-- The validity of a source of a lane; a chain of local inputs longer than the eight there are is invalid. -/
def State.srcValid (s : State) (l : LaneId) (id : Nat) : Bool := s.srcValidN l 10 id

/-! ### Input conditioning -/

/-- `cond` of R237 on an integer: times K·2^E, K with 30 fractional bits, rounded and saturated to a signal. -/
def condInt (v : Int) (k e : Nat) : Int :=
  let x := v * sgn 32 k
  let ee := sgn 5 e
  sat32 (if ee ≥ 30 then x * (2 ^ (ee - 30).toNat : Nat) else roundShift x (30 - ee).toNat)

/-- `cond` of R237 on a source; a source of 0 gives 0. -/
def State.cond (s : State) (src k e : Nat) : Int := if src = 0 then 0 else condInt (s.readInt src) k e

/-- The validity of a `cond` source: only voted sets, agreed inputs and local inputs can be invalid (R237). -/
def State.condValid (s : State) (l : LaneId) (src : Nat) : Bool :=
  let k := PKey.ofId src
  if k.isOf VOT_AN_VALUE || k.isOf CEN_AGREED || k.isOf CEN_LOCAL then s.srcValid l src else true

/-- A signal taken as it stands; 0 names none (R237). -/
def State.sig (s : State) (src : Nat) : Int := if src = 0 then 0 else sgn 32 (s.readId src)

/-! ### Biquad sections (R235) -/

/-- The coefficients of a section, 30 fractional bits, and its output shift. -/
structure Sec where
  b0 : Int
  b1 : Int
  b2 : Int
  a1 : Int
  a2 : Int
  shift : Nat

/-- The output of a section before shifting, exact with 61 fractional bits: b0·x + s1. -/
def Sec.y (c : Sec) (s1 x : Int) : Int := c.b0 * x + s1 * (2 ^ 13 : Nat)

/-- The output to the next section: y·2^shift rounded and saturated to a signal. -/
def Sec.out (c : Sec) (y : Int) : Int := sat32 (roundShift (y * (2 ^ c.shift : Nat)) 30)

/-- The next state s1, rounded to 48 fractional bits and not yet saturated: b1·x − a1·y + s2. -/
def Sec.s1' (c : Sec) (s2 x y : Int) : Int := roundShift (c.b1 * x * (2 ^ 30 : Nat) - c.a1 * y + s2 * (2 ^ 43 : Nat)) 43

/-- The next state s2, rounded and not yet saturated: b2·x − a2·y. -/
def Sec.s2' (c : Sec) (x y : Int) : Int := roundShift (c.b2 * x * (2 ^ 30 : Nat) - c.a2 * y) 43

/-- The denominator of the DC gain, in units of 2^-30: 1 + a1 + a2. -/
def Sec.den (c : Sec) : Int := (2 ^ 30 : Nat) + c.a1 + c.a2

/-- The DC gain (b0 + b1 + b2)/(1 + a1 + a2) (R252). A section of no finite DC gain that is not flagged as an
integrator has no stated one: a free value (log 6). -/
def Sec.dc (c : Sec) (fv : Nat) : Rat :=
  if c.den = 0 then (Config.free 252 fv : Rat) else ((c.b0 + c.b1 + c.b2 : Int) : Rat) / (c.den : Rat)

/-- The states of a section that stands at output y (in signal units, exact) with input x: s1 := y − b0·x and
s2 := b2·x − a2·y, rounded to their format and not yet saturated (R252). -/
def Sec.settle (c : Sec) (x : Int) (y : Rat) : Int × Int :=
  let k : Rat := (2 ^ 17 : Nat)
  let u : Rat := (2 ^ 30 : Nat)
  (roundQ ((y - c.b0 * x / u) * k), roundQ ((c.b2 * x / u - c.a2 / u * y) * k))

end Sys2Proof.Machine
end

