-- ==== Sys2Proof/Machine/Phasor.lean ====
section
/-! DEFINITION. Angles, sines and vectors of the drives: the table of R159, rotations, the units of the winding
parameters, and the exact comparison of squares. Voltages are in volts, currents in amperes, times in seconds, angles in
1/65,536 turn and speeds in rad/s unless a name says otherwise. -/

namespace Sys2Proof.Machine

open Par Var

/-! ### Roots, the sine table, angles of vectors (log 7) -/

/-- The whole square root of `n`, by the bits below `k` from the top, from a root `r` found so far. -/
def isqrt (n : Nat) : Nat → Nat → Nat
  | 0, r => r
  | k + 1, r => isqrt n k (if (r + 2 ^ k) * (r + 2 ^ k) ≤ n then r + 2 ^ k else r)

/-- A square root to 32 places after the binary point, rounded down; the manual writes √ and states no format (DESIGN CHOICE, log 7). -/
def sqrtQ (q : Rat) : Rat :=
  let n := (q * 2 ^ 64).floor.toNat
  (isqrt n (Nat.log2 n / 2 + 1) 0 : Rat) / 2 ^ 32

/-- The circle constant in steps of 2^-64. -/
def pi64 : Nat := 3141592653589793238 * 2 ^ 64 / 10 ^ 18

/-- The sum of the sine series in steps of 2^-64 from its term `t` of number `n`, with `x2` the square of the argument. -/
def sinSeries (x2 : Nat) : Nat → Nat → Int → Nat → Int
  | 0, _, acc, _ => acc
  | m + 1, t, acc, n =>
    let t := t * x2 / 2 ^ 64 / (2 * n * (2 * n + 1))
    sinSeries x2 m t (if n % 2 = 1 then acc - t else acc + t) (n + 1)

/-- The sine of `j` 1,024ths of a turn in the first quarter, to the nearest 1/32,768. -/
def sinQuarter (j : Nat) : Nat :=
  let x := pi64 * j / 512
  ((sinSeries (x * x / 2 ^ 64) 12 x (x : Int) 1 * 65536 + 2 ^ 64) / 2 ^ 65).toNat

/-- Entry k of the table of sin(2πk/1,024) in signed Q1.15: to the nearest, +1 as 32,767; to truncate an entry would exceed the
1 LSB that R159 allows the interpolated result (R159; DEDUCED, log 7). -/
def sinEntry (k : Nat) : Int :=
  let k := k % 1024
  if k ≤ 256 then min 32767 (sinQuarter k : Int)
  else if k ≤ 512 then min 32767 (sinQuarter (512 - k) : Int)
  else if k ≤ 768 then -(sinQuarter (k - 512) : Int) else -(sinQuarter (1024 - k) : Int)

/-- The sine of a 16-bit angle, interpolated in the table of 1,024 entries (R159). -/
def sinU (a : Int) : Rat :=
  let u := (a % 65536).toNat
  let k := u / 64
  let w : Rat := ((u % 64 : Nat) : Rat) / 64
  let lo : Rat := (sinEntry k : Rat)
  let hi : Rat := (sinEntry ((k + 1) % 1024) : Rat)
  (lo + (hi - lo) * w) / 32768

/-- The cosine of a 16-bit angle: the sine a quarter turn ahead (R159). -/
def cosU (a : Int) : Rat := sinU (a + 0x4000)

/-- The angle of (x, y) lies at or beyond `u` in the quarter turn that begins at or before it. -/
def atOrBeyond (y x : Rat) (u : Nat) : Bool := decide (x * sinU u - y * cosU u ≤ 0)

/-- The largest angle at or below that of (x, y), by the bits below `k` from `u` on. -/
def angleSearch (y x : Rat) : Nat → Nat → Nat
  | 0, u => u
  | k + 1, u => angleSearch y x k (if atOrBeyond y x (u + 2 ^ k) then u + 2 ^ k else u)

/-- The angle of the vector (x, y) in 1/65,536 turn, by the table of R159, rounded down; 0 for the null vector (DESIGN CHOICE, log 7). -/
def atan2U (y x : Rat) : Nat :=
  if x > 0 ∧ y ≥ 0 then angleSearch y x 14 0
  else if x ≤ 0 ∧ y > 0 then angleSearch y x 14 16384
  else if x < 0 ∧ y ≤ 0 then angleSearch y x 14 32768
  else if x ≥ 0 ∧ y < 0 then angleSearch y x 14 49152
  else 0

/-- A vector of two components. -/
abbrev Vec := Rat × Rat

/-- The sum of two vectors. -/
def Vec.add (a b : Vec) : Vec := (a.1 + b.1, a.2 + b.2)

/-- A vector scaled. -/
def Vec.scale (k : Rat) (a : Vec) : Vec := (k * a.1, k * a.2)

/-- A vector turned by an angle, to the nearest unit of the table's index (R158, R159). -/
def Vec.turn (a : Vec) (ang : Rat) : Vec :=
  let u := roundQ ang
  (a.1 * cosU u - a.2 * sinU u, a.1 * sinU u + a.2 * cosU u)

/-- The square of a vector's length. -/
def Vec.sq (a : Vec) : Rat := a.1 * a.1 + a.2 * a.2

/-- An angle in 1/65,536 turn that a speed in rad/s covers in a time in seconds. -/
def turned (w t : Rat) : Rat := w * t * 65536 / (2 * piQ)

/-- The signed difference of two angles in 1/65,536 turn. -/
def angDiff (a b : Int) : Int := sgn 16 (twos 16 (a - b))

/-- √3 as the manual uses it (log 7). -/
def sqrt3 : Rat := sqrtQ 3

/-- A parameter in billionths (nH, nWb) as an exact value. -/
def nano (i : Int) : Rat := (i : Rat) / 1000000000

/-- A parameter in thousandths (mA, mV, mrad/s) as an exact value. -/
def milli (i : Int) : Rat := (i : Rat) / 1000

/-- The sign of an exact value. -/
def sgnQ (q : Rat) : Rat := if q > 0 then 1 else if q < 0 then -1 else 0

/-- An exact value clamped between two limits. -/
def clampQ (lo hi q : Rat) : Rat := if q < lo then lo else if q > hi then hi else q

/-- The magnitude of an exact value. -/
def absQ (q : Rat) : Rat := if q < 0 then -q else q

/-- The PWM period of a bridge in seconds (R153). -/
def State.periodSec (s : State) (l : LaneId) (b : Nat) : Rat :=
  ((s.rd l.reg CMT_PWM_PERIOD b : Nat) : Rat) * 625 / 1000000000000

/-- The current full scale of a bridge in amperes (R181). -/
def State.iFs (s : State) (l : LaneId) (b : Nat) : Rat := milli (s.rd l.reg CMT_I_FS b : Nat)

/-- A sampled current in amperes (R158, R228). -/
def State.amps (s : State) (l : LaneId) (b : Nat) (code : Int) : Rat := (code : Rat) * s.iFs l b / 32768

/-- A current as a signed 16-bit share of the full scale (R88, R181). -/
def State.iCode (s : State) (l : LaneId) (b : Nat) (i : Rat) : Int :=
  if s.rd l.reg CMT_I_FS b = 0 then 0 else satInt 16 (roundQ (i * 32768 / s.iFs l b))

/-- The DC link of a bridge at its last valley in volts (R161). -/
def State.vdc (s : State) (l : LaneId) (b : Nat) : Rat := milli (s.rd l.reg CMT_VDC b : Nat)

/-- The delivered electrical speed of a bridge in rad/s (R182). -/
def State.omega (s : State) (l : LaneId) (b : Nat) : Rat := milli (s.rdI l.reg OBS_SPEED b)

/-- A dead time of a bridge in seconds (R209). -/
def State.deadSec (s : State) (l : LaneId) (b : Nat) : Rat :=
  ((s.rd l.pow GDR_DEAD_TIME b : Nat) : Rat) * 625 / 1000000000000

end Sys2Proof.Machine
end

