-- ==== Sys2Proof/Machine/Learn.lean ====
section
/-! DEFINITION. Position-domain learning: the index, one run of a repetitive controller, freezing and fading, reversal,
restoring and saving tables (R265 to R287). -/

namespace Sys2Proof.Machine

open Par Var

/-! ### Tables -/

/-- The entry of a controller's table at bin `j`, taken modulo the bins, in the table of direction `dt`. -/
def State.rpcW (s : State) (l : LaneId) (r : Nat) (dt : Nat) (j : Int) : Int :=
  let bins := s.rd l.reg RPC_BINS r
  sgn 32 (s.rd l.reg RPC_TBL (8192 * r + (j % bins).toNat + bins * dt))

/-- The same entry written; what it held is kept until the next group (R286). -/
def State.rpcSetW (s : State) (l : LaneId) (r dt : Nat) (j v : Int) : State :=
  let n := 8192 * r + (j % (s.rd l.reg RPC_BINS r)).toNat + s.rd l.reg RPC_BINS r * dt
  (s.modLane l (fun x => { x with undo := x.undo ++ [(n, s.rd l.reg RPC_TBL n)] })).wrI l.reg RPC_TBL n v

/-- The number of entries of a controller's table, both directions. -/
def State.rpcLen (s : State) (l : LaneId) (r : Nat) : Nat :=
  s.rd l.reg RPC_BINS r * (1 + s.rd l.reg RPC_DIR_TABLES r)

/-- The table of a controller. -/
def State.rpcTable (s : State) (l : LaneId) (r : Nat) : List Nat :=
  (List.range (s.rpcLen l r)).map (fun n => s.rd l.reg RPC_TBL (8192 * r + n))

/-- The table cleared to 0. -/
def State.rpcClear (s : State) (l : LaneId) (r : Nat) : State :=
  { s with params := s.params.filter (fun e => !(e.1.region == l.reg && e.1.block == RPC_TBL.block &&
      decide (RPC_TBL.index + 32 * r ≤ e.1.index) && decide (e.1.index < RPC_TBL.index + 32 * (r + 1)))) }

/-- The check of a table: CRC-32C over its entries (R283). -/
def State.rpcCrc (s : State) (l : LaneId) (r : Nat) : Nat := crc32c ((s.rpcTable l r).flatMap (toLe 4))

/-- `TBL_CRC` brought up to date. -/
def State.rpcStamp (s : State) (l : LaneId) (r : Nat) : State := s.wr l.reg RPC_TBL_CRC r (s.rpcCrc l r)

/-- The check of the configuration a saved table belongs to (R284). -/
def State.rpcCfg (s : State) (l : LaneId) (r : Nat) : Nat :=
  crc32c ([RPC_IDX_KIND, RPC_IDX_SRC, RPC_PERIOD, RPC_BINS, RPC_DIR_TABLES].flatMap
    (fun d => valueBytes (d.key l.reg r) (s.rd l.reg d r)))

/-- A controller that keeps its table in MRAM: persistent with an absolute index (R284). -/
def State.rpcKeeps (s : State) (l : LaneId) (r : Nat) : Bool := s.rdB l.reg RPC_PERSIST r && s.rdB l.reg RPC_IDX_ABS r

/-- A table saved to MRAM, at shutdown or at a commit of CMD = 2 (R284). -/
def State.rpcSave (s : State) (l : LaneId) (r : Nat) : State :=
  if s.rpcKeeps l r then
    let rec' : RpcSave := ⟨r, s.rpcCfg l r, s.rpcCrc l r, s.rpcTable l r⟩
    (s.rpcStamp l r).modLane l (fun x => { x with rpcSaved := x.rpcSaved.filter (fun e => e.r != r) ++ [rec'] })
  else s

/-- The table of a controller restored where a saved record matches the present configuration, else cleared (R284). -/
def State.rpcRestore (s : State) (l : LaneId) (r : Nat) : State :=
  let saved := (s.lane l).rpcSaved.find? (fun e => e.r == r && e.cfg == s.rpcCfg l r && s.rpcKeeps l r)
  let s := s.rpcClear l r
  match saved with
  | some e => (e.table.zipIdx).foldl (fun s p => s.wr l.reg RPC_TBL (8192 * r + p.2) p.1) s
  | none => s

/-- A controller's variables as they start at enable (R268, R272, R276, R278). -/
def State.rpcFresh (s : State) (l : LaneId) (r : Nat) : State :=
  let s := [RPC_ILAST, RPC_ION, RPC_ACC, RPC_N, RPC_QS1, RPC_QS2, RPC_FADE_N, RPC_REV_LEFT, RPC_REV_FROM, RPC_ACC_POS,
    RPC_PEND_SENT, RPC_DISCARD].foldl (fun s d => s.wr l.reg d r 0) s
  let s := (List.range 32).foldl (fun s a => (s.wr l.reg RPC_HIST (32 * r + a) 0).wr l.reg RPC_HIST_OK (32 * r + a) 0) s
  let s := ((s.wr l.reg RPC_QNEW r 1).wr l.reg RPC_DIR r 0).wr l.reg RPC_OUT r 0
  s.wr l.reg RPC_FADE_NOW r 0

/-- A commit that sets EN to 1: the table restored or cleared, its check due in the INPUT message of the next Towline cycle; a position of kind 1
starts at 0 (R268, R283). -/
def State.rpcEnable (s : State) (l : LaneId) (r : Nat) : State :=
  let s := ((s.rpcRestore l r).rpcFresh l r).rpcStamp l r
  let s := ((s.wr l.reg RPC_PEND r 1).wr l.reg RPC_PEND_CYC r (s.cycle l)).wr l.reg RPC_FREEZE r 0x100
  let d := s.rdI l.reg CEN_DPOS (s.rd l.reg RPC_IDX_SRC r)
  let s := if s.rd l.reg RPC_IDX_KIND r = 1 then s.wr l.reg RPC_ACC_POS r ((-d) % (s.rd l.reg RPC_PERIOD r : Int)).toNat else s
  s.wr l.reg RPC_STATE r 1

/-- A controller disabled: its output is 0 at once, its table kept (R279). -/
def State.rpcDisable (s : State) (l : LaneId) (r : Nat) : State :=
  let s := ((s.wr l.reg RPC_OUT r 0).wr l.reg RPC_STATE r 0).wr l.reg RPC_FREEZE r 0
  ((s.wr l.reg RPC_FADE_N r 0).wr l.reg RPC_FADE_NOW r 0).wr l.reg RPC_PEND r 0

/-- A commit of CMD: 1 clears the table, 2 saves it; CMD then reads 0 (R284). -/
def State.rpcCommand (s : State) (l : LaneId) (r : Nat) : State :=
  let s := match s.rd l.reg RPC_CMD r with
    | 1 => (s.rpcClear l r).rpcStamp l r
    | 2 => s.rpcSave l r
    | _ => s
  s.wr l.reg RPC_CMD r 0

/-- The comparison of the table checks of a controller (R283): the output may start where they agree; else every lane
clears the table, counts and asserts source 33. -/
def State.rpcCompare (s : State) (l : LaneId) (r : Nat) (equal : Bool) : State :=
  if s.rdB l.reg RPC_PEND_SENT r then
    let s := (s.wr l.reg RPC_PEND r 0).wr l.reg RPC_PEND_SENT r 0
    if equal then s
    else (((s.rpcClear l r).rpcStamp l r).bump l.reg RPC_CNT_RESTORE_FAIL).raise l.reg 33
  else s

/-! ### Position and speed -/

/-- The Towline cycle length in seconds. -/
def State.cycleLen (s : State) (l : LaneId) : Rat := (s.rd l.reg TWL_CYCLE_LEN : Rat) / 1000000

/-- A source value of a controller's record, newest at age 0. -/
def State.rpcHist (s : State) (l : LaneId) (r a : Nat) : Int := sgn 64 (s.rd l.reg RPC_HIST (32 * r + a))

/-- The speed in source units per Towline cycle (R269). -/
def State.rpcV (s : State) (l : LaneId) (r : Nat) : Rat :=
  let m := s.rd l.reg RPC_SPD_WIN r
  if s.rd l.reg RPC_IDX_KIND r = 1 then
    (((List.range m).map (fun a => s.rpcHist l r a)).foldl (· + ·) 0 : Int) / (m : Rat)
  else ((sgn 32 (twos 32 (s.rpcHist l r 0 - s.rpcHist l r m)) : Int) : Rat) / (m : Rat)

/-- The speed in bins per second (R270). -/
def State.rpcSpeed (s : State) (l : LaneId) (r : Nat) : Rat :=
  s.rpcV l r * (s.rd l.reg RPC_BINS r : Rat) / ((s.rd l.reg RPC_PERIOD r : Rat) * s.cycleLen l)

/-- The position of a controller is valid: kind 1 always, kind 2 when every value of its window was valid (R269). -/
def State.rpcPosOk (s : State) (l : LaneId) (r : Nat) : Bool :=
  s.rd l.reg RPC_IDX_KIND r == 1 || (List.range (s.rd l.reg RPC_SPD_WIN r + 1)).all (fun a => s.rdB l.reg RPC_HIST_OK (32 * r + a))

/-- The time in seconds from the reference valley of the voted value in use to a trigger that lies `off` seconds after
the cycle start (R269). The reference period lasts one base period. -/
def State.rpcTau (s : State) (l : LaneId) (off base : Rat) : Rat :=
  let ref : Rat := (s.rd l.reg TWL_SAMPLE_OFFSET : Rat) / 1000000
  if off ≥ ref + base then off - ref else off - ref + s.cycleLen l

/-- The index position in 2^-16 bins (R268 to R270). The fraction is cut, so the position stays below the bins. -/
def State.rpcIndex (s : State) (l : LaneId) (r : Nat) (tau : Rat) : Nat :=
  let per : Rat := s.rd l.reg RPC_PERIOD r
  let src : Rat :=
    if s.rd l.reg RPC_IDX_KIND r = 1 then
      (s.rd l.reg RPC_ACC_POS r : Rat) + (s.rdI l.reg CEN_DPOS (s.rd l.reg RPC_IDX_SRC r) : Int)
    else (s.rpcHist l r 0 : Int) + s.rpcV l r * tau / s.cycleLen l
  let m := src - per * (src / per).floor
  (m * (s.rd l.reg RPC_BINS r : Rat) / per * 65536).floor.toNat

/-- The values of the record moved one age on, a new one at age 0 (R269). -/
def State.rpcPush (s : State) (l : LaneId) (r : Nat) (v : Int) (ok : Bool) : State :=
  let s := (List.range 17).reverse.foldl (fun s a =>
    (s.wr l.reg RPC_HIST (32 * r + a + 1) (s.rd l.reg RPC_HIST (32 * r + a))).wr l.reg RPC_HIST_OK (32 * r + a + 1)
      (s.rd l.reg RPC_HIST_OK (32 * r + a))) s
  (s.wrI l.reg RPC_HIST (32 * r) v).wrB l.reg RPC_HIST_OK (32 * r) ok

/-- The compute start of the base period after the reference period: every enabled controller takes the new voted value
or closes the completed cycle's change of angle, and its speed is brought up to date (R268 to R270). `DPOS` stands at the change over the
whole cycle here; its restart follows. -/
def State.rpcTake (s : State) (l : LaneId) : State :=
  (List.range 8).foldl (fun s r =>
    if !s.rdB l.reg RPC_EN r ∨ s.rd l.reg RPC_IDX_KIND r = 0 then s
    else
      let src := s.rd l.reg RPC_IDX_SRC r
      let s :=
        if s.rd l.reg RPC_IDX_KIND r = 1 then
          let d := s.rdI l.reg CEN_DPOS src
          (s.rpcPush l r d true).wr l.reg RPC_ACC_POS r
            (((s.rd l.reg RPC_ACC_POS r : Int) + d) % (s.rd l.reg RPC_PERIOD r : Int)).toNat
        else s.rpcPush l r (s.rdI l.reg VOT_AN_VALUE src) (bit (s.rd l.reg VOT_AN_STATE src) 8)
      s.wrI l.reg RPC_SPEED r (roundQ (s.rpcSpeed l r))) s

/-! ### One run -/

/-- The Q section of a controller (R274). -/
def State.rpcQ (s : State) (l : LaneId) (r : Nat) : Sec :=
  ⟨s.rdI l.reg RPC_Q_B0 r, s.rdI l.reg RPC_Q_B1 r, s.rdI l.reg RPC_Q_B2 r, s.rdI l.reg RPC_Q_A1 r, s.rdI l.reg RPC_Q_A2 r,
   s.rd l.reg RPC_Q_SHIFT r⟩

/-- One updated bin: the learned value through the Q section, written behind the bin it was fed, clamped (R273, R274,
R276). -/
def State.rpcBin (s : State) (l : LaneId) (r dt : Nat) (d j : Int) (e : Rat) : State :=
  let c := s.rpcQ l r
  let z := sat32 (roundQ ((s.rpcW l r dt j : Int) + (s.rdI l.reg RPC_GAIN r : Int) / (2 ^ 30 : Nat) * e))
  let fresh := s.rdB l.reg RPC_QNEW r
  let st := if fresh then c.settle z (c.dc s.fv * z) else (sgn 64 (s.rd l.reg RPC_QS1 r), sgn 64 (s.rd l.reg RPC_QS2 r))
  let s := if fresh ∧ c.den = 0 then s.draw.2 else s
  let y := c.y (satInt 56 st.1) z
  let q := c.out y
  let lim : Int := s.rd l.reg RPC_OUT_LIM r
  let s := s.rpcSetW l r dt (j - d * (s.rd l.reg RPC_Q_DELAY r : Int)) (clampInt (-lim) lim q)
  let s := if q > lim ∨ q < -lim then s.bump l.reg RPC_CNT_CLAMP r else s
  let s := (s.wrI l.reg RPC_QS1 r (satInt 56 (c.s1' (satInt 56 st.2) z y))).wrI l.reg RPC_QS2 r (satInt 56 (c.s2' z y))
  s.wr l.reg RPC_QNEW r 0

/-- The accumulator of the present bin cleared. -/
def State.rpcZero (s : State) (l : LaneId) (r : Nat) : State :=
  ((s.wr l.reg RPC_ACC r 0).wr l.reg RPC_N r 0).wr l.reg RPC_DISCARD r 0

/-- The bins crossed since the last run (R273). -/
def State.rpcCross (s : State) (l : LaneId) (r dt : Nat) (d : Int) (i : Nat) (learn : Bool) : State :=
  let bins := s.rd l.reg RPC_BINS r
  let last := s.rd l.reg RPC_ILAST r
  if !s.rdB l.reg RPC_ION r then (s.wr l.reg RPC_ILAST r i).wr l.reg RPC_ION r 1
  else if i = last then s
  else
    let fwd := (i + bins - last) % bins
    let delta : Int := if fwd * 2 ≤ bins then (fwd : Int) else (fwd : Int) - bins
    if delta * d < 0 then s.wr l.reg RPC_ILAST r i
    else
      let c := delta.natAbs
      let n := s.rd l.reg RPC_N r
      let e : Rat := (sgn 64 (s.rd l.reg RPC_ACC r) : Int) / (n : Rat)
      let s :=
        if learn && decide (n > 0) && decide (c ≤ 4) && !s.rdB l.reg RPC_DISCARD r then
          (List.range c).foldl (fun s k => s.rpcBin l r dt d (last + d * k) e) s
        else if c > 4 then s.bump l.reg RPC_CNT_SKIP r
        else s
      (s.rpcZero l r).wr l.reg RPC_ILAST r i

/-- The direction of travel, and what a change of it does (R272, R280). -/
def State.rpcDir (s : State) (l : LaneId) (r p : Nat) : State :=
  let v := s.rpcSpeed l r
  let now := s.rd l.reg RPC_DIR r
  let dir := if absQ v ≥ (s.rd l.reg RPC_SPD_MIN r : Rat) ∧ v ≠ 0 then b2n (decide (v < 0)) else now
  if dir = now then s
  else
    let s := ((s.wr l.reg RPC_DIR r dir).bump l.reg RPC_CNT_REV r).rpcZero l r
    let s := (s.wr l.reg RPC_QNEW r 1).wr l.reg RPC_REV_LEFT r (s.rd l.reg RPC_REV_HOLD r * 65536)
    s.wr l.reg RPC_REV_FROM r p

/-- The reversal hold shortened by the distance travelled in the new direction since the last run (R280). -/
def State.rpcHold (s : State) (l : LaneId) (r p : Nat) : State :=
  let left := s.rd l.reg RPC_REV_LEFT r
  if left = 0 then s
  else
    let ring := s.rd l.reg RPC_BINS r * 65536
    let was := s.rd l.reg RPC_REV_FROM r
    let fwd := (p + ring - was) % ring
    let gone := if s.rd l.reg RPC_DIR r = 0 then (if fwd * 2 ≤ ring then fwd else 0) else (if fwd * 2 ≥ ring then ring - fwd else 0)
    (s.wr l.reg RPC_REV_LEFT r (left - gone)).wr l.reg RPC_REV_FROM r p

/-- The freeze bits of a run (R277); `held` is bit 3, the host run limited or frozen. -/
def State.rpcFreeze (s : State) (l : LaneId) (r : Nat) (held : Bool) : Nat :=
  let v := absQ (s.rpcSpeed l r)
  b2n (decide (v < (s.rd l.reg RPC_SPD_MIN r : Rat))) + 2 * b2n (decide (v > (s.rd l.reg RPC_SPD_MAX r : Rat))) + 8 * b2n held +
    32 * b2n (!s.rpcPosOk l r) + 64 * b2n (decide (s.rd l.reg VOT_MODE ≥ 2)) +
    128 * b2n (s.rd l.reg RPC_REV_LEFT r != 0) + 256 * b2n (s.rdB l.reg RPC_PEND r)

/-- The conditions that fade the output to 0 (R277): bits 0, 1, 2, 5 and 6. -/
def fadeMask : Nat := 0b001100111

/-- The linear interpolation of the table at a position in 2^-16 bins (R275). -/
def State.rpcInterp (s : State) (l : LaneId) (r dt : Nat) (p : Int) : Rat :=
  let i := p / 65536
  let f : Rat := ((p % 65536 : Int) : Rat) / 65536
  let a : Rat := s.rpcW l r dt i
  let b : Rat := s.rpcW l r dt (i + 1)
  a + f * (b - a)

/-- One run of a controller at the completion of its host's run (R266, R273 to R280): `err` is r − f of that run, `held`
whether it was limited or frozen, `tau` the time from the reference valley. -/
def State.rpcRun (s : State) (l : LaneId) (r : Nat) (err : Int) (held : Bool) (tau : Rat) : State :=
  let p := s.rpcIndex l r tau
  let s := ((s.rpcHold l r p).rpcDir l r p).wr l.reg RPC_POS r p
  let bits := s.rpcFreeze l r held
  let full := s.rd l.reg RPC_FADE r
  let f0 := s.rd l.reg RPC_FADE_N r
  let fade := if bits.testBit 8 then 0 else if bits &&& fadeMask ≠ 0 then f0 - 1 else min full (f0 + 1)
  let learn := bits == 0 && fade == full
  let s := (s.wr l.reg RPC_FREEZE r bits).wr l.reg RPC_FADE_N r fade
  let s := s.wr l.reg RPC_STATE r (if learn then 2 else 1)
  let dir := s.rd l.reg RPC_DIR r
  let d : Int := if dir = 0 then 1 else -1
  let dt := if s.rdB l.reg RPC_DIR_TABLES r then dir else 0
  let s := if learn then s else (s.rpcZero l r).wr l.reg RPC_QNEW r 1
  let s := s.rpcCross l r dt d (p / 65536) learn
  let s := if learn then
      (s.wrI l.reg RPC_ACC r (sgn 64 (s.rd l.reg RPC_ACC r) + err)).wr l.reg RPC_N r (s.rd l.reg RPC_N r + 1)
    else s
  let lim : Rat := s.rd l.reg RPC_OUT_LIM r
  let w := s.rpcInterp l r dt ((p : Int) + d * (s.rd l.reg RPC_LEAD r : Int) * 65536)
  let w := if w > lim then lim else if w < -lim then -lim else w
  let share : Rat := (fade : Rat) / (full : Rat)
  let s := s.wrI l.reg RPC_OUT r (if bits.testBit 8 then 0 else sat32 (roundQ (share * w)))
  (s.wr l.reg RPC_FADE_NOW r (roundQ (share * 4096)).toNat).rpcStamp l r

/-- A controller whose host is open: it does not run, its output is 0; the bits of other conditions stand beside that of the host (R266, R277,
R278). -/
def State.rpcHostOpen (s : State) (l : LaneId) (r : Nat) : State :=
  let s := (s.wr l.reg RPC_FREEZE r (s.rpcFreeze l r false + 4)).wr l.reg RPC_STATE r 1
  let s := ((s.wr l.reg RPC_FADE_N r 0).wr l.reg RPC_FADE_NOW r 0).wr l.reg RPC_OUT r 0
  (s.rpcZero l r).wr l.reg RPC_QNEW r 1

/-- A controller whose host is held for invalid input: it does not run and keeps its output; the bits of other conditions stand beside that one,
`held` that of the host's status (R277). -/
def State.rpcHostHeld (s : State) (l : LaneId) (r : Nat) (held : Bool) : State :=
  let s := (s.wr l.reg RPC_FREEZE r (s.rpcFreeze l r held + 16)).wr l.reg RPC_STATE r 1
  (s.rpcZero l r).wr l.reg RPC_QNEW r 1

/-- The enabled controllers of a host loop, in ascending order; one without an index is inactive (R268). -/
def State.rpcOf (s : State) (l : LaneId) (host : Nat) : List Nat :=
  (List.range 8).filter (fun r => s.rdB l.reg RPC_EN r && s.rd l.reg RPC_HOST r == host && s.rdB l.reg RPC_IDX_KIND r)

/-- A commit that changes the fade length of an enabled controller: `fade` stays where it is, to the nearest step of the new length (R278; DESIGN
CHOICE, log 75). -/
def State.rpcFadeLen (s : State) (l : LaneId) (r old : Nat) : State :=
  let new := s.rd l.reg RPC_FADE r
  if old = new ∨ old = 0 then s else s.wr l.reg RPC_FADE_N r ((2 * s.rd l.reg RPC_FADE_N r * new + old) / (2 * old))

/-! ### Tables as mirrored lines (R286, R464, R465) -/

/-- The first entry of the line of eight that a memory line holds of the tables; none of a line outside them. Where they lie in a lane die's
memory the manual does not say (log 75). -/
def State.tblLine (s : State) (l : LaneId) (line : Nat) : Option Nat :=
  let at' := (s.lane l).tblAt
  if line ≥ at' ∧ line < at' + 8192 then some ((line - at') * 8) else none

/-- The bytes of eight entries as they stand. -/
def State.tblBytes (s : State) (l : LaneId) (first : Nat) : List Byte :=
  (List.range 8).flatMap (fun i => toLe 4 (s.rd l.reg RPC_TBL (first + i)))

/-- The same as they stood before the latest group. -/
def State.tblBefore (s : State) (l : LaneId) (first : Nat) : List Byte :=
  (List.range 8).flatMap (fun i => toLe 4 (match (s.lane l).undo.find? (fun e => e.1 == first + i) with
    | some e => e.2
    | none => s.rd l.reg RPC_TBL (first + i)))

/-- Eight entries as they stood at the end of the group of a base period: of the latest, or of the one before; none of an older one (R286). -/
def State.tblThen (s : State) (l : LaneId) (first period : Nat) : Option (List Byte) :=
  if period ≥ s.rd l.reg CEN_GRP then some (s.tblBytes l first)
  else if period ≥ s.rd l.reg CEN_GRP_PREV then some (s.tblBefore l first)
  else none

/-- Eight entries written from the bytes of a line. -/
def State.tblStore (s : State) (l : LaneId) (first : Nat) (d : List Byte) : State :=
  (List.range 8).foldl (fun s i => s.wr l.reg RPC_TBL (first + i) (fieldLe d (4 * i) 4)) s

/-- A group begins: the first of its base period moves the record of the latest one on (R286, R465). -/
def State.markGroup (s : State) (l : LaneId) : State :=
  let n := s.baseNumber l + 1
  if s.rd l.reg CEN_GRP = n then s
  else ((s.wr l.reg CEN_GRP_PREV 0 (s.rd l.reg CEN_GRP)).wr l.reg CEN_GRP 0 n).modLane l (fun x => { x with undo := [] })

/-- The requests for table lines that waited for the group of a base period answered (R286, R465). -/
def State.answerRepairs (s : State) (l : LaneId) : State :=
  let g := s.rd l.reg CEN_GRP
  let due := (s.lane l).repairs.filter (fun e => decide (e.2.2 ≤ g))
  if due.isEmpty then s
  else
    let u := due.foldl (fun s e => s.send (.repairAnswer l e.1 e.2.1 ((s.tblLine l e.2.1).bind (fun f => s.tblThen l f e.2.2)))) s
    u.modLane l (fun x => { x with repairs := x.repairs.filter (fun e => !decide (e.2.2 ≤ g)) })

end Sys2Proof.Machine
end

