-- ==== Sys2Proof/Machine/Wire.lean ====
section
/-! DEFINITION. Waybills and replies as bytes: the header of R35, the flags of R36, the reply of R41, the status codes
of R44 with the data each carries, and the parameter layout of every opcode. -/

namespace Sys2Proof

/-- A waybill's fields read from its bytes; bytes past the end read as zero (R35). -/
def Waybill.parse (raw : List Byte) : Waybill :=
  { version := byteAt raw 0, flags := byteAt raw 1, opcode := fieldLe raw 2 2, seq := fieldLe raw 4 2,
    consist := fieldLe raw 6 2, target := fieldLe raw 8 2, plen := fieldLe raw 10 2, commit := fieldLe raw 12 4,
    params := (raw.drop 16).take (fieldLe raw 10 2), crc := fieldLe raw (16 + fieldLe raw 10 2) 4 }

/-- The 16 header bytes of a waybill (R35). -/
def Waybill.header (w : Waybill) : List Byte :=
  toLe 1 w.version ++ toLe 1 w.flags ++ toLe 2 w.opcode ++ toLe 2 w.seq ++ toLe 2 w.consist ++ toLe 2 w.target ++
    toLe 2 w.plen ++ toLe 4 w.commit

/-- The bytes of a waybill: header, parameters, check (R35). -/
def Waybill.encode (w : Waybill) : List Byte := w.header ++ w.params ++ toLe 4 w.crc

/-- The check a waybill must carry: over header and parameters (R37). -/
def Waybill.crcOf (w : Waybill) : Nat := crc32c (w.header ++ w.params)

/-- The region code of the target (R35). -/
def Waybill.region (w : Waybill) : Nat := bits w.target 11 8

/-- The block code of the target (R35). -/
def Waybill.block (w : Waybill) : Nat := bits w.target 7 0

/-- The header of a waybill as its port delivered it (R36). -/
def Waybill.hdr (w : Waybill) (p : Port) (src : Nat) : Hdr :=
  { port := p, src := src, seq := w.seq, ackReq := bit w.flags 0, inConsist := bit w.flags 1, last := bit w.flags 2,
    urgent := bit w.flags 3, voted := bit w.flags 4, consist := w.consist, region := w.region, block := w.block,
    commit := w.commit }

/-- A region code as lanes compare it: a lane's own lane die and power die stand as those of lane A. A lane accepts no other
lane's region (R38) and an agreed waybill takes effect in every voting lane (R97), so the copies of one VOTED waybill
differ there (DEDUCED, log 44). -/
def freeRegion (x : LaneId) (r : Nat) : Nat := if r = x.reg then 1 else if r = x.pow then 4 else r

/-- A compared region code as lane `l` takes it. -/
def ownRegion (l : LaneId) (r : Nat) : Nat := if r = 1 then l.reg else if r = 4 then l.pow else r

/-- A parameter ID with its region mapped. -/
def mapId (f : Nat → Nat) (id : Nat) : Nat := f (id / 2 ^ 28) * 2 ^ 28 + id % 2 ^ 28

/-- A waybill with the region of its target mapped; its parameters stay byte for byte (R94). -/
def Waybill.mapRegion (f : Nat → Nat) (w : Waybill) : Waybill :=
  { w with target := f (bits w.target 11 8) * 2 ^ 8 + w.target % 2 ^ 8 }

/-- A copy of lane `x` as it is compared. -/
def Waybill.free (x : LaneId) (w : Waybill) : Waybill := w.mapRegion (freeRegion x)

/-- A copy of lane `x` as lane `l` takes it. -/
def Waybill.taken (x l : LaneId) (w : Waybill) : Waybill := (w.free x).mapRegion (ownRegion l)

/-- The key of a VOTED waybill that lane `x` received (R94). -/
def Waybill.key (x : LaneId) (w : Waybill) : VKey := ⟨w.opcode, w.seq, (w.free x).target⟩

/-- Two copies, as compared, match: opcode, sequence, target, commit instant, parameters and the flags other than ACK_REQ
(R94), and for a COMMIT the consist ID (R60). -/
def Waybill.matches (v w : Waybill) : Bool :=
  v.opcode == w.opcode && v.seq == w.seq && v.target == w.target && v.commit == w.commit && v.plen == w.plen &&
    v.params == w.params && v.flags / 2 == w.flags / 2 && (v.opcode != 0x0104 || v.consist == w.consist)

/-- A waybill of class 0x03 other than ARM from CAN1 acts in every lane (R74): its target on one lane die stands for that of the
lane that takes it (DEDUCED, log 57). -/
def Waybill.atLane (w : Waybill) (l : LaneId) (p : Port) : Waybill :=
  if p == .can1 && [0x0301, 0x0302, 0x0305].contains w.opcode && (LaneId.ofReg w.region).isSome then
    { w with target := w.target % 2 ^ 8 + l.reg * 2 ^ 8 + bits w.target 15 12 * 2 ^ 12 } else w

/-- The bytes of a reply with its check (R41). -/
def Reply.encode (r : Reply) : List Byte :=
  let h := toLe 1 2 ++ toLe 1 r.flags ++ toLe 2 r.opcode ++ toLe 2 r.seq ++ toLe 2 r.status ++ toLe 2 r.data.length ++
    toLe 1 r.region ++ toLe 1 r.mask
  h ++ r.data ++ toLe 4 (crc32c (h ++ r.data))

/-! ### The transports of a reply (R69, R70) -/

/-- `n` bytes of a value, most significant first, as the standards of the Internet order them (R13). -/
def toBe (n v : Nat) : List Byte := (toLe n v).reverse

/-- The value of a field of `n` bytes at offset `o`, most significant byte first. -/
def fieldBe (raw : List Byte) (o n : Nat) : Nat := ofLe ((raw.drop o).take n).reverse

/-- The sum of 16-bit words of the Internet checksum, before its complement (RFC 791, RFC 768; PRESUMED, log 58). -/
def inetAdd : List Byte → Nat
  | [] => 0
  | [a] => a.toNat * 256
  | a :: b :: r => a.toNat * 256 + b.toNat + inetAdd r

/-- The Internet checksum's sum with its carries added back in. -/
def inetSum (raw : List Byte) : Nat :=
  let n := inetAdd raw
  let m := n % 65536 + n / 65536
  m % 65536 + m / 65536

/-- The pseudo header a UDP checksum covers: the two addresses, the protocol, the length of the datagram. -/
def udpPseudo (src dst len : Nat) : List Byte := toBe 4 src ++ toBe 4 dst ++ [0, 17] ++ toBe 2 len

/-- An IPv4 packet with one UDP datagram from `src` to `dst`, each an address times 65,536 and a port (R69, log 58). -/
def udpPacket (src dst : Nat) (payload : List Byte) : List Byte :=
  let n := 8 + payload.length
  let ip (c : Nat) : List Byte := [0x45, 0] ++ toBe 2 (20 + n) ++ [0, 0, 0x40, 0, 64, 17] ++ toBe 2 c ++ toBe 4 (src / 65536) ++
    toBe 4 (dst / 65536)
  let udp (c : Nat) : List Byte := toBe 2 (src % 65536) ++ toBe 2 (dst % 65536) ++ toBe 2 n ++ toBe 2 c ++ payload
  let c := 65535 - inetSum (udpPseudo (src / 65536) (dst / 65536) n ++ udp 0)
  ip (65535 - inetSum (ip 0)) ++ udp (if c = 0 then 65535 else c)

/-- The data length of a CAN FD frame that holds `n` bytes (ISO 11898-1). -/
def fdLen (n : Nat) : Nat := ([8, 12, 16, 20, 24, 32, 48].find? (fun k => n ≤ k)).getD 64

/-- A message cut into CAN0 segments, numbered from `i`: the header byte with FIRST, LAST and the index, up to 63 bytes, and in
the last one the padding to a data length of CAN FD (R70). -/
def canSegments : Nat → Nat → List Byte → List (List Byte)
  | 0, _, _ => []
  | n + 1, i, raw =>
    let last := decide (raw.length ≤ 63)
    let head := byte (i % 64 + 64 * b2n last + 128 * b2n (i == 0))
    if last then [padTo (fdLen (1 + raw.length)) (head :: raw)] else (head :: raw.take 63) :: canSegments n (i + 1) (raw.drop 63)

/-- The outcome of a waybill: status code and data (R44). -/
structure Rsp where
  status : Nat
  data : List Byte
deriving DecidableEq, Repr

/-- A status that is a success: OK, PENDING_COMMIT, VOTE_PENDING, LOCK_RECOVERED (R44). -/
def Rsp.good (r : Rsp) : Bool := r.status == 0 || r.status == 1 || r.status == 0x202 || r.status == 0x303

namespace Machine

/-- OK with data. -/
def rOk (data : List Byte := []) : Rsp := ⟨0x0000, data⟩

/-- PENDING_COMMIT with the commit instant. -/
def rPending (n : Nat) : Rsp := ⟨0x0001, toLe 4 n⟩

/-- BAD_CRC. -/
def rBadCrc : Rsp := ⟨0x0101, []⟩

/-- UNKNOWN_OPCODE. -/
def rUnknown : Rsp := ⟨0x0102, []⟩

/-- BAD_LENGTH with the received and the expected length; 0 when no single value applies. -/
def rBadLength (got want : Nat) : Rsp := ⟨0x0103, toLe 2 got ++ toLe 2 want⟩

/-- RANGE with a parameter ID, 0 for a header field, and the offset in the waybill. -/
def rRange (id off : Nat) : Rsp := ⟨0x0104, toLe 4 id ++ toLe 2 off ++ toLe 2 0⟩

/-- A RANGE that names no offset yet, with the offset of the item it stands for (R44). -/
def atOffset (r : Rsp) (off : Nat) : Rsp :=
  if r.status = 0x104 ∧ fieldLe r.data 4 2 = 0 then ⟨r.status, r.data.take 4 ++ toLe 2 off ++ toLe 2 0⟩ else r

/-- CONFIG_MISMATCH with the two contradicting parameters. -/
def rMismatch (a b : Nat) : Rsp := ⟨0x0105, toLe 4 a ++ toLe 4 b⟩

/-- LOOP_CLOSED with the loop parameter. -/
def rLoopClosed (id : Nat) : Rsp := ⟨0x0106, toLe 4 id⟩

/-- NOT_STAFF_HOLDER with the holder. -/
def rNotHolder (holder : Nat) : Rsp := ⟨0x0201, toLe 4 holder⟩

/-- VOTE_PENDING. -/
def rVotePending : Rsp := ⟨0x0202, []⟩

/-- VOTE_FAILED. -/
def rVoteFailed : Rsp := ⟨0x0203, []⟩

/-- BUSY_SELFTEST with the remaining test time in µs. -/
def rBusy (us : Nat) : Rsp := ⟨0x0301, toLe 4 us⟩

/-- LOCKED with the owner. -/
def rLocked (owner : Nat) : Rsp := ⟨0x0302, toLe 4 owner⟩

/-- LOCK_RECOVERED with the previous owner and its epoch. -/
def rRecovered (owner epoch : Nat) : Rsp := ⟨0x0303, toLe 4 owner ++ toLe 4 epoch⟩

/-- LIFECYCLE_DENIED with the present state. -/
def rDenied (state : Nat) : Rsp := ⟨0x0401, toLe 4 state⟩

/-- SIGNATURE_INVALID. -/
def rBadSig : Rsp := ⟨0x0402, []⟩

/-! ### Opcodes and their targets -/

/-- The opcode of each parsed waybill (R62). -/
def opcodeOf : Op → Nat
  | .get _ => 0x0101 | .set _ => 0x0102 | .setStaged _ => 0x0103 | .commit => 0x0104 | .abortConsist => 0x0105
  | .steerTarget _ => 0x0201 | .brakeDemand .. => 0x0202 | .hold _ => 0x0203 | .release _ => 0x0204
  | .startDrive .. => 0x0210 | .stopDrive .. => 0x0211
  | .tableLoad .. => 0x0301 | .tableAppend .. => 0x0302 | .arm _ => 0x0303 | .disarm _ => 0x0304 | .forceOff _ => 0x0305
  | .staffRequest _ => 0x0401 | .relinquish => 0x0402 | .rejoin _ => 0x0403 | .excludeLane _ => 0x0404
  | .armReset _ => 0x0501 | .confirmReset _ => 0x0502
  | .runRolling _ => 0x0601 | .runConverter _ => 0x0601 | .comparatorTest _ => 0x0602 | .inject .. => 0x0603
  | .powerState .. => 0x0701
  | .traceArm => 0x0801 | .traceTrigger => 0x0802 | .traceStop => 0x0803 | .traceRead .. => 0x0804
  | .traceStream _ => 0x0805 | .archiveRead .. => 0x0806
  | .logRead .. => 0x0901 | .updateBegin _ => 0x0902 | .updateChunk .. => 0x0903 | .updateEnd => 0x0904
  | .attest .. => 0x0905 | .lifecycleNonce => 0x0906 | .lifecycleChunk .. => 0x0906 | .lifecycleApply => 0x0906
  | .orderLoad .. => 0x0A01 | .orderStart _ => 0x0A02 | .orderStop _ => 0x0A03
  | .otherKind oc _ => oc

/-- An opcode that exists in a target block (check 5 of R39): class 0x01 in every block, the others in the block their
chapter names. `lane` and `pow` are the region codes of the receiving lane. The manual names no block for class 0x02,
0x04, 0x05 and 0x08; they are taken to the block whose chapter defines them, DEDUCED (log 10). -/
def opcodeIn (opcode region block lane pow : Nat) : Bool :=
  let own := region == lane
  if opcode ≥ 0x0101 && opcode ≤ 0x0105 then true
  else if opcode ≥ 0x0201 && opcode ≤ 0x0204 then own && block == 0x12
  else if opcode == 0x0210 || opcode == 0x0211 then own && block == 0x10
  else if opcode == 0x0301 || opcode == 0x0302 || opcode == 0x0305 then own && block == 0x16
  else if opcode == 0x0303 || opcode == 0x0304 then region == 8 && block == 0x31
  else if opcode ≥ 0x0401 && opcode ≤ 0x0404 then own && block == 0x03
  else if opcode == 0x0501 || opcode == 0x0502 then own && block == 0x17
  else if opcode == 0x0601 then (own && block == 0x0A) || (region == pow && block == 0x21)
  else if opcode == 0x0602 then region == pow && block == 0x20
  else if opcode == 0x0603 then (own || region == pow) && block == 0x09
  else if opcode == 0x0701 then own && block == 0x0C
  else if opcode ≥ 0x0801 && opcode ≤ 0x0805 then own && block == 0x14
  else if opcode == 0x0806 then region == 7 && block == 0x14
  else if opcode == 0x0901 then region == 7 && block == 0x42
  else if opcode ≥ 0x0902 && opcode ≤ 0x0904 then region == 7 && block == 0x43
  else if opcode == 0x0905 then region == 7 && block == 0x44
  else if opcode == 0x0906 then region == 7 && block == 0x40
  else if opcode ≥ 0x0A01 && opcode ≤ 0x0A03 then own && block == 0x06
  else false

/-- A block that is present in a kind of region (R8, R38). -/
def blockIn (region block : Nat) : Bool := !(Par.blockMap (kindOf region) block).isEmpty

/-! ### Parameter layouts -/

/-- The fixed parameter length of an opcode, where it has one (check 6 of R39). -/
def fixedLen : Nat → Option Nat
  | 0x0104 => some 0 | 0x0105 => some 0
  | 0x0201 => some 4 | 0x0202 => some 16 | 0x0203 => some 4 | 0x0204 => some 4 | 0x0210 => some 4 | 0x0211 => some 4
  | 0x0303 => some 8 | 0x0304 => some 8 | 0x0305 => some 8
  | 0x0401 => some 4 | 0x0402 => some 0 | 0x0403 => some 4 | 0x0404 => some 4
  | 0x0501 => some 4 | 0x0502 => some 4
  | 0x0601 => some 4 | 0x0602 => some 4 | 0x0603 => some 8 | 0x0701 => some 4
  | 0x0801 => some 0 | 0x0802 => some 0 | 0x0803 => some 0 | 0x0804 => some 8 | 0x0805 => some 4 | 0x0806 => some 8
  | 0x0901 => some 8 | 0x0902 => some 8 | 0x0904 => some 0
  | 0x0A02 => some 4 | 0x0A03 => some 4
  | _ => none

/-- `n` parameter IDs of 4 bytes. -/
def readIds : Nat → List Byte → List Nat
  | 0, _ => []
  | n + 1, raw => ofLe (raw.take 4) :: readIds n (raw.drop 4)

/-- `n` items of ID, length and padded value; none where the bytes do not hold exactly them (R63). -/
def readItems : Nat → List Byte → Option (List Item)
  | 0, raw => if raw.isEmpty then some [] else none
  | n + 1, raw =>
    let len := fieldLe raw 4 2
    let padded := (len + 3) / 4 * 4
    if raw.length < 8 + padded then none
    else (readItems n (raw.drop (8 + padded))).map
      (fun r => ⟨fieldLe raw 0 4, len, ofLe ((raw.drop 8).take len)⟩ :: r)

/-- `n` compare-table entries of 24 bytes (R317). -/
def readEntries : Nat → List Byte → List TableEntry
  | 0, _ => []
  | n + 1, raw =>
    ⟨sgn 48 (fieldLe raw 0 6), byteAt raw 6, byteAt raw 7, fieldLe raw 8 8, fieldLe raw 16 8⟩ ::
      readEntries n (raw.drop 24)

/-- The bytes of a compare-table entry (R317). -/
def TableEntry.encode (e : TableEntry) : List Byte :=
  toLe 6 (twos 48 e.pos) ++ toLe 1 e.flags ++ toLe 1 e.tag ++ toLe 8 e.setM ++ toLe 8 e.clrM

/-- `n` waybills end to end; none where they do not fill the bytes exactly (R444). -/
def readWaybills : Nat → List Byte → Option (List Waybill)
  | 0, raw => if raw.isEmpty then some [] else none
  | n + 1, raw =>
    let len := 20 + fieldLe raw 10 2
    if raw.length < len then none
    else (readWaybills n (raw.drop len)).map (fun r => Waybill.parse (raw.take len) :: r)

/-- The operation a waybill carries, or the failure of check 6 (BAD_LENGTH). A count or a kind outside its range is no length: it stays
in the operation and fails at check 15 (R39, R63, R317, R444). -/
def parseOp (opcode : Nat) (p : List Byte) : Except Rsp Op :=
  let n := p.length
  match fixedLen opcode with
  | some want =>
    if n ≠ want then .error (rBadLength n want)
    else match opcode with
      | 0x0104 => .ok .commit
      | 0x0105 => .ok .abortConsist
      | 0x0201 => .ok (.steerTarget (sgn 32 (fieldLe p 0 4)))
      | 0x0202 => .ok (.brakeDemand (fieldLe p 0 4) (fieldLe p 4 4) (fieldLe p 8 4) (fieldLe p 12 4))
      | 0x0203 => .ok (.hold (byteAt p 0 % 16))
      | 0x0204 => .ok (.release (byteAt p 0 % 16))
      | 0x0210 => .ok (.startDrive (byteAt p 0 % 64) (byteAt p 1))
      | 0x0211 => .ok (.stopDrive (byteAt p 0 % 64) (byteAt p 1))
      | 0x0303 => .ok (.arm (fieldLe p 0 8))
      | 0x0304 => .ok (.disarm (fieldLe p 0 8))
      | 0x0305 => .ok (.forceOff (fieldLe p 0 8))
      | 0x0401 => .ok (.staffRequest (byteAt p 0))
      | 0x0402 => .ok .relinquish
      | 0x0403 => .ok (.rejoin (byteAt p 0))
      | 0x0404 => .ok (.excludeLane (byteAt p 0))
      | 0x0501 => .ok (.armReset (fieldLe p 0 4))
      | 0x0502 => .ok (.confirmReset (fieldLe p 0 4))
      | 0x0601 => if byteAt p 0 = 1 then .ok (.runRolling (byteAt p 1))
          else if byteAt p 0 = 2 then .ok (.runConverter (byteAt p 1 % 64)) else .ok (.otherKind 0x0601 (byteAt p 0))
      | 0x0602 => .ok (.comparatorTest (byteAt p 0 % 64))
      | 0x0603 => .ok (.inject (byteAt p 0) (byteAt p 1) (fieldLe p 2 2))
      | 0x0701 => .ok (.powerState (byteAt p 0) (byteAt p 1))
      | 0x0801 => .ok .traceArm
      | 0x0802 => .ok .traceTrigger
      | 0x0803 => .ok .traceStop
      | 0x0804 => .ok (.traceRead (fieldLe p 0 4) (fieldLe p 4 2))
      | 0x0805 => .ok (.traceStream (byteAt p 0 == 1))
      | 0x0806 => .ok (.archiveRead (fieldLe p 0 4) (fieldLe p 4 2))
      | 0x0901 => .ok (.logRead (fieldLe p 0 4) (fieldLe p 4 2) (fieldLe p 6 2))
      | 0x0902 => .ok (.updateBegin (fieldLe p 0 4))
      | 0x0904 => .ok .updateEnd
      | 0x0A02 => .ok (.orderStart (byteAt p 0))
      | 0x0A03 => .ok (.orderStop (byteAt p 0))
      | _ => .error rUnknown
  | none =>
    match opcode with
    | 0x0101 =>
      let c := fieldLe p 0 2
      if n ≠ 4 + 4 * c then .error (rBadLength n (4 + 4 * c))
      else .ok (.get (readIds c (p.drop 4)))
    | 0x0102 =>
      if n < 4 then .error (rBadLength n 0)
      else match readItems (fieldLe p 0 2) (p.drop 4) with
      | none => .error (rBadLength n 0)
      | some is => .ok (.set is)
    | 0x0103 =>
      if n < 4 then .error (rBadLength n 0)
      else match readItems (fieldLe p 0 2) (p.drop 4) with
      | none => .error (rBadLength n 0)
      | some is => .ok (.setStaged is)
    | 0x0301 =>
      let c := fieldLe p 0 2
      if n ≠ 8 + 24 * c then .error (rBadLength n (8 + 24 * c))
      else .ok (.tableLoad (fieldLe p 4 4) (readEntries c (p.drop 8)))
    | 0x0302 =>
      let c := fieldLe p 0 2
      if n ≠ 8 + 24 * c then .error (rBadLength n (8 + 24 * c))
      else .ok (.tableAppend (fieldLe p 4 4) (readEntries c (p.drop 8)))
    | 0x0903 => if n < 9 ∨ n > 1024 then .error (rBadLength n 0) else .ok (.updateChunk (fieldLe p 0 4) (p.drop 8))
    | 0x0905 =>
      if bit (byteAt p 1) 0 then
        if n ≠ 36 then .error (rBadLength n 36) else .ok (.attest (byteAt p 0) (some ((p.drop 4).take 32)))
      else if n ≠ 4 then .error (rBadLength n 4) else .ok (.attest (byteAt p 0) none)
    | 0x0906 =>
      match byteAt p 0 with
      | 0 => if n ≠ 4 then .error (rBadLength n 4) else .ok .lifecycleNonce
      | 1 => if n < 9 ∨ n > 1024 then .error (rBadLength n 0) else .ok (.lifecycleChunk (fieldLe p 4 4) (p.drop 8))
      | 2 => if n ≠ 4 then .error (rBadLength n 4) else .ok .lifecycleApply
      | k => .ok (.otherKind 0x0906 k)
    | 0x0A01 =>
      if n < 16 then .error (rBadLength n 0)
      else match readWaybills (byteAt p 2) (p.drop 16) with
        | none => .error (rBadLength n 0)
        | some ws => .ok (.orderLoad (byteAt p 0) (byteAt p 1) ⟨byteAt p 4, byteAt p 5, fieldLe p 8 4, fieldLe p 12 4⟩ ws)
    | _ => .error rUnknown

end Machine

/-! ### The bytes of parsed operations (R62, R63, R64) -/

/-- The bytes of an item: ID, length, two reserved bytes, the padded value (R63). -/
def Item.encode (i : Item) : List Byte := toLe 4 i.id ++ toLe 2 i.len ++ toLe 2 0 ++ pad4 (toLe i.len i.val)

/-- The parameters of the waybill that carries an operation, reserved bytes zero. -/
def opBytes : Op → List Byte
  | .get ids => toLe 2 ids.length ++ toLe 2 0 ++ ids.flatMap (toLe 4)
  | .set is => toLe 2 is.length ++ toLe 2 0 ++ is.flatMap Item.encode
  | .setStaged is => toLe 2 is.length ++ toLe 2 0 ++ is.flatMap Item.encode
  | .commit => []
  | .abortConsist => []
  | .steerTarget a => toLe 4 (twos 32 a)
  | .brakeDemand a b c d => toLe 4 a ++ toLe 4 b ++ toLe 4 c ++ toLe 4 d
  | .hold m => toLe 4 m
  | .release m => toLe 4 m
  | .startDrive m k => toLe 1 m ++ toLe 1 k ++ toLe 2 0
  | .stopDrive m k => toLe 1 m ++ toLe 1 k ++ toLe 2 0
  | .tableLoad b es => toLe 2 es.length ++ toLe 2 0 ++ toLe 4 b ++ es.flatMap Machine.TableEntry.encode
  | .tableAppend b es => toLe 2 es.length ++ toLe 2 0 ++ toLe 4 b ++ es.flatMap Machine.TableEntry.encode
  | .arm m => toLe 8 m
  | .disarm m => toLe 8 m
  | .forceOff m => toLe 8 m
  | .staffRequest x => toLe 4 x
  | .relinquish => []
  | .rejoin x => toLe 4 x
  | .excludeLane x => toLe 4 x
  | .armReset n => toLe 4 n
  | .confirmReset n => toLe 4 n
  | .runRolling x => toLe 1 1 ++ toLe 1 x ++ toLe 2 0
  | .runConverter m => toLe 1 2 ++ toLe 1 m ++ toLe 2 0
  | .comparatorTest m => toLe 4 m
  | .inject r src d => toLe 1 r ++ toLe 1 src ++ toLe 2 d ++ toLe 4 0
  | .powerState st pt => toLe 1 st ++ toLe 1 pt ++ toLe 2 0
  | .traceArm => []
  | .traceTrigger => []
  | .traceStop => []
  | .traceRead start n => toLe 4 start ++ toLe 2 n ++ toLe 2 0
  | .traceStream on => toLe 4 (b2n on)
  | .archiveRead off n => toLe 4 off ++ toLe 2 n ++ toLe 2 0
  | .logRead start n m => toLe 4 start ++ toLe 2 n ++ toLe 2 m
  | .updateBegin total => toLe 4 total ++ toLe 4 0
  | .updateChunk off d => toLe 4 off ++ toLe 4 0 ++ d
  | .updateEnd => []
  | .attest part none => toLe 4 part
  | .attest part (some n) => toLe 1 part ++ toLe 1 1 ++ toLe 2 0 ++ n
  | .lifecycleNonce => toLe 4 0
  | .lifecycleChunk off d => toLe 4 1 ++ toLe 4 off ++ d
  | .lifecycleApply => toLe 4 2
  | .orderLoad o a t ws => toLe 1 o ++ toLe 1 a ++ toLe 1 ws.length ++ toLe 1 0 ++ toLe 1 t.kind ++ toLe 1 t.flags ++ toLe 2 0 ++
      toLe 4 t.argA ++ toLe 4 t.argB ++ ws.flatMap Waybill.encode
  | .orderStart o => toLe 4 o
  | .orderStop o => toLe 4 o
  | .otherKind _ k => toLe 4 k

end Sys2Proof
end

