-- ==== Sys2Proof/Machine/Flags.lean ====
section
/-! DEFINITION. The flags of a waybill: which opcodes may be URGENT, which need, permit or refuse VOTED, and the failure
of a copy whose flags its opcode does not take (R36, R39 check 7, R48, R60, R131, R178, R255, R261, R329, R363, R444,
R501). -/

namespace Sys2Proof.Machine

/-- What an opcode says of VOTED. -/
inductive Voting
  | required | permitted | refused
deriving DecidableEq, Repr

/-- URGENT is permitted (R48). -/
def urgentOk (opcode : Nat) : Bool :=
  [0x0202, 0x0203, 0x0211, 0x0304, 0x0305, 0x0402, 0x0404, 0x0501, 0x0502].contains opcode

/-- What an opcode says of VOTED. SELFTEST_RUN and POWER_STATE say it by their first parameter and are judged there
(R501, R531). The manual says nothing of class 0x09 and of GET and SET outside a consist: permitted. -/
def votingOf (opcode : Nat) : Voting :=
  if [0x0201, 0x0202, 0x0204, 0x0210, 0x0211, 0x0401, 0x0403, 0x0404, 0x0501, 0x0502].contains opcode then .required
  else if [0x0402, 0x0602, 0x0603, 0x0801, 0x0802, 0x0803, 0x0804, 0x0805, 0x0806, 0x0A01, 0x0A02, 0x0A03].contains opcode
  then .refused
  else .permitted

/-- The failure of a waybill whose flags its opcode does not take: RANGE at the flags byte. VOTED is refused on a member
of a consist (R60), from CAN1 (R73), from M (R93) and in a standing order (R75). -/
def flagCheck (h : Hdr) (opcode : Nat) : Option Rsp :=
  if h.urgent && !urgentOk opcode then some (rRange 0 1)
  else if h.voted && (h.port == .can1 || h.port == .m || h.port == .so) then some (rRange 0 1)
  else if h.voted && h.inConsist && opcode != 0x0104 then some (rRange 0 1)
  else match votingOf opcode with
    | .required => if h.voted then none else some (rRange 0 1)
    | .refused => if h.voted then some (rRange 0 1) else none
    | .permitted => none

end Sys2Proof.Machine
end

