-- ==== Sys2Proof/Machine/Reply.lean ====
section
/-! DEFINITION. How a waybill is answered: where its reply goes, what the duplicate record keeps of it, what a standing
order records, and the shared shape of a waybill that runs its checks and then takes effect (R41 to R46, R66, R67, R74,
R76, R442). -/

namespace Sys2Proof.Machine

open Par Var

/-- A failing replay is recorded as the first failure of its run; one that is not OK, PENDING_COMMIT or LOCK_RECOVERED
fails (R442). -/
def State.orderNote (s : State) (l : LaneId) (r : Rsp) : State :=
  let run := s.rd l.reg DPT_RUN
  if run = 0 then s
  else
    let o := run - 1
    if r.status = 0 ∨ r.status = 1 ∨ r.status = 0x303 then s
    else if s.rdB l.reg DPT_RUN_FAIL then s
    else
      let st := s.rd l.reg DPT_ORD_STATUS o
      let s := s.wr l.reg DPT_ORD_STATUS o
        (r.status + ((s.rd l.reg DPT_RUN_IDX - 1) % 32) * 2 ^ 16 + bits st 63 32 * 2 ^ 32)
      (s.wr l.reg DPT_RUN_FAIL 0 1).bump l.reg DPT_CNT_ORD_FAIL o

/-- A lane that may transmit on CAN1: it holds the staff and its lease count runs (R72, R110, R114). -/
def State.mayCan1 (s : State) (l : LaneId) : Bool := s.rd l.reg STF_HOLDER == l.reg && s.rdB l.reg STF_COUNT_ON

/-- How a reply leaves a port under its present settings: a UDP datagram of its own to the source of the request, CAN FD
segments at the rates of CAN0, a Proprietary A message (R61, R69, R70, R73). -/
def State.via (s : State) (l : LaneId) (p : Port) (src : Nat) (r : Reply) : Via :=
  match p with
  | .t1 =>
    let ip := s.rd l.reg HST_IP_ADDR
    { addr := ip, frames := [udpPacket (ip * 65536 + s.rd l.reg HST_UDP_PORT) src r.encode] }
  | .can0 => { addr := s.rd l.reg HST_CAN0_RPL_ID, nbr := s.rd l.reg HST_CAN0_NBR, dbr := s.rd l.reg HST_CAN0_DBR,
               frames := canSegments (r.encode.length / 63 + 1) 0 r.encode }
  | .can1 => { addr := s.rd l.reg HST_ISO_SA, frames := [r.encode] }
  | _ => { frames := [r.encode] }

/-- A reply handed to its port: to the SPI reply queue of 16 entries, to the WBE's kept replies while that is full, to the other
ports at once; to no host for a standing order (R66, R67, R76). A reply to a waybill that came on SPI before the port was last
disabled is discarded: `src` of an SPI waybill is the number of disablings before it (R66). On CAN1 a lane that does not hold the
staff discards it and counts it (R74). On the other ports a final reply is sent under the settings of the port, also where the
reply's own consist has just disabled it: R61 asks for the new settings and does not speak of a port switched off (DESIGN CHOICE, log 73). Two cases R74 does not name are the model's choice (DESIGN CHOICE, log 59): the holder that
has lost its address to another NAME discards the reply and counts nothing, and a holder that has not claimed the address yet
transmits. -/
def State.deliver (s : State) (l : LaneId) (h : Hdr) (r : Reply) : State :=
  match h.port with
  | .spi =>
    if !bit (s.rd l.reg HST_PORT_EN) 0 || h.src != (s.lane l).hst.gen then s
    else if (s.lane l).hst.spiReplies.length < 16 ∧ (s.lane l).wbe.kept = [] then
      s.modHst l (fun x => { x with spiReplies := x.spiReplies ++ [r] })
    else s.modWbe l (fun x => { x with kept := x.kept ++ [r] })
  | .can1 =>
    if !s.mayCan1 l then s.bump l.reg HST_CNT_ISO_RPL_DROP
    else if s.rd l.reg HST_ISO_STATE = 3 then s
    else s.send (.reply l .can1 h.src (s.via l .can1 h.src r) r)
  | .so => s
  | p => s.send (.reply l p h.src (s.via l p h.src r) r)

/-- The latest reply of a waybill noted in its duplicate entry, with whether it failed (R45). -/
def State.noteReply (s : State) (l : LaneId) (h : Hdr) (opcode : Nat) (r : Reply) (good : Bool) : State :=
  s.modWbe l (fun x => { x with dup := x.dup.map (fun e =>
    if e.port == h.port && e.seq == h.seq && e.opcode == opcode
    then { e with reply := some r, failed := e.failed || !good } else e) })

/-- The reply of a lane die to a waybill (R41): FINAL, DEFERRED, DUPLICATE, the status and its data, the agreement mask. -/
def mkReply (l : LaneId) (h : Hdr) (opcode : Nat) (r : Rsp) (final deferred : Bool) (mask : Nat) (dup : Bool := false) : Reply :=
  { flags := b2n final + 2 * b2n deferred + 4 * b2n dup, opcode := opcode, seq := h.seq, status := r.status, region := l.reg,
    mask := mask, data := r.data }

/-- A reply that leaves no trace in the duplicate record. A failure and a GET are always answered, another success only with
ACK_REQ (R42); a failure is counted and recorded (R79); a standing order's waybill is answered to no host, and its final
status goes into the order's record (R76). Two points the manual leaves open are the model's choice (DESIGN CHOICE, log 60): a
deferred GET without ACK_REQ gets the interim PENDING_COMMIT too, and a waybill counted in `CNT_RX` that fails later, at its
commit instant, in M or S, or by vote, is counted in `CNT_ERR` as well. -/
def State.reply (s : State) (l : LaneId) (h : Hdr) (opcode : Nat) (r : Rsp) (final deferred : Bool) (mask : Nat)
    (dup : Bool := false) : State :=
  let rep := mkReply l h opcode r final deferred mask dup
  let s := if r.good then s
    else (s.bump l.reg WBE_CNT_ERR h.port.num).wr l.reg WBE_LAST_ERR 0 (r.status + h.port.num * 2 ^ 16)
  if h.port = .so then (s.orderNote l r).wr l.reg DPT_RUN_WAIT 0 0
  else if !r.good || opcode == 0x0101 || h.ackReq then s.deliver l h rep
  else s

/-- The answer to a waybill that the duplicate record holds: the reply, noted there (R45). -/
def State.answer (s : State) (l : LaneId) (h : Hdr) (opcode : Nat) (r : Rsp) (final deferred : Bool) (mask : Nat)
    (dup : Bool := false) : State :=
  (s.noteReply l h opcode (mkReply l h opcode r final deferred mask dup) r.good).reply l h opcode r final deferred mask dup

/-- The final answer to a waybill that is not VOTED. -/
def State.final (s : State) (l : LaneId) (h : Hdr) (opcode : Nat) (r : Rsp) : State :=
  s.answer l h opcode r true false 0

/-- A waybill that has passed its acceptance is counted for its port (R79). -/
def State.countRx (s : State) (l : LaneId) (h : Hdr) : State := s.bump l.reg WBE_CNT_RX h.port.num

/-- The first of several checks that fails. -/
def firstFail : List (Option Rsp) → Option Rsp
  | [] => none
  | some r :: _ => some r
  | none :: rest => firstFail rest

/-- A check: the failure where the condition holds. -/
def failIf (c : Bool) (r : Rsp) : Option Rsp := if c then some r else none

/-- The opcodes that SINGLE and STOPPING reject (R379): parameter writes, RELEASE, starting and stopping drives, ARM,
REJOIN, classes 0x06 and 0x07, updates and lifecycle. -/
def stopRejects (opcode : Nat) : Bool :=
  [0x0102, 0x0103, 0x0104, 0x0105, 0x0204, 0x0210, 0x0211, 0x0303, 0x0403, 0x0902, 0x0903, 0x0904, 0x0906].contains opcode ||
    opcode / 256 == 6 || opcode / 256 == 7

/-- The acceptance by mode (R379). -/
def State.modeCheck (s : State) (l : LaneId) (opcode : Nat) : Option Rsp :=
  let m := s.rd l.reg VOT_MODE
  if m = 2 ∨ m = 3 then failIf (stopRejects opcode) (rRange (VOT_MODE.id l.reg 0) 0)
  else if m = 4 then
    if opcode = 0x0204 then failIf (s.rd l.reg INT_LIFECYCLE != 3) (rDenied (s.rd l.reg INT_LIFECYCLE))
    else failIf (opcode == 0x0210 || opcode == 0x0303) (rRange (VOT_MODE.id l.reg 0) 0)
  else none

/-- A target under self-test (R499): the gate drive and the converters of a power die while a comparator or a converter test
of it runs, for classes 0x01 and 0x06. The remaining time is a
measured value. -/
def State.busyCheck (s : State) (l : LaneId) (h : Hdr) (opcode : Nat) : Option Rsp :=
  let left := Config.measured (BST_REMAIN.id l.reg 0) s.fv % 2 ^ 32
  let st := s.rd l.reg BST_STATE
  failIf (((st == 2 || st == 3) && h.region == l.pow &&
    (h.block == 0x20 || h.block == 0x21) && (opcode / 256 == 1 || opcode / 256 == 6))) (rBusy left)

/-- From the third step of a rolling self-test until READY every waybill is answered BUSY_SELFTEST (R496). -/
def State.rollCheck (s : State) (l : LaneId) : Option Rsp :=
  failIf (!s.up l) (rBusy (Config.measured (BST_REMAIN.id l.reg 0) s.fv % 2 ^ 32))

/-- An opcode taking effect: the check of its flags, a running self-test, its own checks and the service mode decide; a failing check is the
answer and nothing else happens, otherwise the effect happens and its outcome is the answer (R39, R42). -/
def State.perform (s : State) (l : LaneId) (h : Hdr) (opcode : Nat) (chk : Option Rsp) (eff : State × Rsp) : State :=
  match firstFail [s.rollCheck l, flagCheck h opcode, s.busyCheck l h opcode, chk, s.modeCheck l opcode] with
  | some r => s.final l h opcode r
  | none => (eff.1.countRx l h).final l h opcode eff.2

end Sys2Proof.Machine
end

