-- ==== Sys2Proof/Machine/Gate.lean ====
section
/-! DEFINITION. The gate drive and the sense converters of the power die: commands and edges, interlock, bootstrap,
detections and the soft turn-off, latching, the held short, the status word and the samples (R203 to R231). -/

namespace Sys2Proof.Machine

open Par Var

/-- The peak currents of a bridge's gates in 0.1 mA, turn-on and turn-off, by its drive steps (R206). -/
def State.driveCurrents (s : State) (l : LaneId) (b : Nat) : Nat × Nat :=
  (3125 * (s.rd l.pow GDR_DRV_ON b + 1), 6250 * (s.rd l.pow GDR_DRV_OFF b + 1))

/-- The hold-off clamp of a switch is closed: it is off, whether commanded or held off, and its gate has passed below 2.0 V, in a normal
turn-off after its fall time, in a soft one at its end (R207, R209, R216). -/
def State.clampClosed (s : State) (l : LaneId) (b k t : Nat) : Bool :=
  if s.rd l.pow GDR_SW (swNum b k) = 3 ∧ !s.freed l b k t then true
  else !s.softOff l b k && !s.swOn l b k t && !s.falling l b k t

/-- A desaturation comparator is blanked: less than `DESAT_BLANK` has passed since its command rose (R215). -/
def State.blanked (s : State) (l : LaneId) (b k t : Nat) : Bool :=
  let r := s.lastRise l b k t
  r != 0 && decide (t < r + s.rd l.pow GDR_DESAT_BLANK b * 25)

/-- Every gate of a bridge off, its blocks over, a precharge and a held short ended; commands of edges stay until those end (R220). -/
def State.gatesOff (s : State) (l : LaneId) (b : Nat) : State :=
  let low := max (s.rd l.pow GDR_LOW_AT b) s.now
  let s := (s.commandsEnd l b).wr l.pow GDR_LOW_AT b low
  ((s.wr l.pow GDR_GATES b 0).wr l.pow GDR_PRE_ON b 0).wr l.pow GDR_ZC_ON b 0

/-- The switches of a bridge that are on, as a mask. -/
def State.onMask (s : State) (l : LaneId) (b t : Nat) : Nat :=
  (List.range 6).foldl (fun m k => putBit m k (s.swOn l b k t)) 0

/-- A bridge latched by switch `k`: all switches off, the latch bit, its count, its source held (R220, R221). A bridge
latched out of SHORT is in FREE (R218). -/
def State.latchBridge (s : State) (l : LaneId) (b k : Nat) : State :=
  let s := (s.wr l.pow GDR_LATCH_ON b (s.onMask l b s.now)).gatesOff l b
  let s := if s.rd l.reg CMT_STATE b = 4 then s.wr l.reg CMT_STATE b 3 else s
  let s := (s.wr l.pow GDR_LATCHED b (swNum b k % 64 + 64)).bump l.pow GDR_CNT_LATCH b
  s.raise l.pow 3 true

/-- A trip of a switch counted and kept in the repeat window, with its status bit (R220, R221). -/
def State.countTrip (s : State) (l : LaneId) (b k t : Nat) : State :=
  let win := s.rd l.pow GDR_REPEAT_WIN * 1000000
  let s := (s.bump l.pow GDR_CNT_TRIP (swNum b k)).wrBit l.pow GDR_ACC b k true
  s.modBridge l b (fun x => { x with trips := x.trips.filter (fun e => decide (e.2 + win > t)) ++ [(k, t)] })

/-- One switch trips: step 1 of its soft turn-off, its trip counted (R216, R220). -/
def State.tripSwitch (s : State) (l : LaneId) (b k t : Nat) : State :=
  ((s.wr l.pow GDR_SW (swNum b k) 1).wr l.pow GDR_TRIP_AT (swNum b k) t).countTrip l b k t

/-- The trips of switch `k` within the repeat window (R220). -/
def State.tripCount (s : State) (l : LaneId) (b k : Nat) : Nat := ((s.bridge l b).trips.filter (fun e => e.1 == k)).length

/-- One of some switches has reached the repeat limit (R220). -/
def State.atLimit (s : State) (l : LaneId) (b : Nat) (ks : List Nat) : Bool :=
  ks.any (fun k => decide (s.tripCount l b k ≥ s.rd l.pow GDR_REPEAT_LIMIT))

/-- The record of the last trip (R230). -/
def State.stampTrip (s : State) (l : LaneId) (b k cause : Nat) (blankEnd two : Bool) : State :=
  s.wr l.pow GDR_LAST_TRIP b (withCycle (swNum b k % 64 + cause * 64 + 256 * b2n blankEnd + 512 * b2n two) (s.cycle l))

/-- A leg trip lies within 1 µs of the first detection of the bridge and on another phase (R217, R218). -/
def State.secondLeg (s : State) (l : LaneId) (b p t : Nat) : Bool :=
  s.rd l.pow GDR_LEG_PH b != 0 && s.rd l.pow GDR_LEG_PH b != p + 1 && decide (t ≤ s.rd l.pow GDR_LEG_AT b + 1000)

/-- The first detection of a leg trip noted: its phase and its time; within 1 µs it stays the first (R217). -/
def State.markLeg (s : State) (l : LaneId) (b p t : Nat) : State :=
  if s.rd l.pow GDR_LEG_PH b ≠ 0 ∧ t ≤ s.rd l.pow GDR_LEG_AT b + 1000 then s
  else ((s.wr l.pow GDR_LEG_PH b (p + 1)).wr l.pow GDR_LEG_AT b t).wr l.pow GDR_TWO b 0

/-- What follows a trip: a bridge that is latched stays so, one that is `due` is latched, else the source of a trip that is not latched is
asserted (R220, R221). -/
def State.afterTrip (s : State) (l : LaneId) (b k : Nat) (due : Bool) : State :=
  if s.latchedB l b then s else if due then s.latchBridge l b k else s.raise l.pow 0

/-- A leg trip of phase `p` of a bridge: the switches `ks` in soft turn-off; a second or third phase within 1 µs, SHORT, precharge
or the repeat limit latch the bridge, and legs of one event enter step 2 together (R216 to R220). Cause 1 desaturation, 2 HS-A, 3 HS-B. -/
def State.legTrip (s : State) (l : LaneId) (b p : Nat) (ks : List Nat) (cause : Nat) (blankEnd : Bool) (t : Nat) : State :=
  match ks with
  | [] => s
  | k :: _ =>
    let two := s.secondLeg l b p t
    let whole := s.rd l.pow GDR_GATES b == 2
    let ks := if whole then [0, 1, 2, 3, 4, 5] else ks
    let s := (ks.foldl (fun s k => s.tripSwitch l b k t) s).stampTrip l b k cause blankEnd two
    let s := if two then (s.wrBit l.pow GDR_ACC b 6 true).wr l.pow GDR_TWO b (p + 1) else s.markLeg l b p t
    s.afterTrip l b k (two || whole || s.atLimit l b ks)

/-- A detection on a switch whose command has already fallen: its normal turn-off proceeds, and it counts as a trip of its leg (R218). As a
second leg it has no step 2 of its own: the first leg enters its own (R217). -/
def State.fallenTrip (s : State) (l : LaneId) (b k cause t : Nat) : State :=
  let two := s.secondLeg l b (k / 2) t
  let s := (s.countTrip l b k t).stampTrip l b k cause false two
  let s := if two then (s.wrBit l.pow GDR_ACC b 6 true).wr l.pow GDR_TWO b (s.rd l.pow GDR_LEG_PH b) else s.markLeg l b (k / 2) t
  s.afterTrip l b k (two || s.atLimit l b [k])

/-- A leg that trips within 1 µs of the first one of a bridge latched for two legs: its normal turn-off has begun with the latch, and
it is handled as the second leg (R217, R218). -/
def State.thirdLeg (s : State) (l : LaneId) (b p t : Nat) : Bool :=
  s.latchedB l b && s.rd l.pow GDR_TWO b != 0 && s.rd l.pow GDR_TWO b != p + 1 && s.secondLeg l b p t

/-- A desaturation detection on switch number `sw` (R215 to R220): none on a switch that is off or already in soft
turn-off. -/
def State.desat (s : State) (l : LaneId) (sw t : Nat) (blankEnd : Bool) : State :=
  let b := sw / 6
  let k := sw % 6
  if sw ≥ 36 then s
  else if s.thirdLeg l b (k / 2) t && !s.softOff l b k && bit (s.rd l.pow GDR_LATCH_ON b) k then s.legTrip l b (k / 2) [k] 1 blankEnd t
  else if s.latchedB l b then s
  else if s.swOn l b k t then s.legTrip l b (k / 2) [k] 1 blankEnd t
  else if s.falling l b k t then s.fallenTrip l b k 1 t else s

/-- DESAT_DETECT (R216): ignored while the comparator is blanked (R215). -/
def execDesatDetect (l : LaneId) (sw : Nat) (t : Nat) (s : State) : Host.Outcome State Fault Refusal :=
  .next (let s := s.atTime t; if !s.on l.pow || s.blanked l (sw / 6) (sw % 6) t then s else s.desat l sw t false)

/-- DESAT_BLANK_END (R215): the comparator is judged as it stands at the end of blanking. -/
def execDesatBlankEnd (l : LaneId) (sw : Nat) (asserted : Bool) (t : Nat) (s : State) : Host.Outcome State Fault Refusal :=
  .next (let s := s.atTime t; if s.on l.pow && asserted then s.desat l sw t true else s)

/-- The step at which the command of a switch last fell at or before step `n`, plus 1; 0 where it has not in this period. -/
def lastFall (es : List SwitchEdge) (k n : Nat) : Nat :=
  (es.filter (fun e => e.sw == k && decide (e.off ≤ n))).foldl (fun m e => max m (e.off + 1)) 0

/-- The switch of a phase whose command fell last in the present period, or whose gate still falls; none where neither did. -/
def State.lastFallen (s : State) (l : LaneId) (b p t : Nat) : Option Nat :=
  let n := s.tau l b t
  let f (k : Nat) : Nat := if s.rd l.pow GDR_GATES b = 1 then lastFall (s.bridge l b).cur k n else 0
  if f (2 * p) = 0 ∧ f (2 * p + 1) = 0 then [2 * p, 2 * p + 1].find? (fun k => s.falling l b k t)
  else some (if f (2 * p) > f (2 * p + 1) then 2 * p else 2 * p + 1)

/-- A hard-short detection on phase number `3b + p`: both switches of the phase that are on (R217). With neither on, a switch in its soft
turn-off is in the sequence already; a detection after the command has fallen is a trip of the switch whose command fell last, the normal
turn-off proceeding (R218; DEDUCED, log 69). -/
def State.hardShort (s : State) (l : LaneId) (phase : Nat) (hsB : Bool) (t : Nat) : State :=
  let b := phase / 3
  let p := phase % 3
  let cause := if hsB then 3 else 2
  if phase ≥ 18 then s
  else if s.thirdLeg l b p t then
    s.legTrip l b p ([2 * p, 2 * p + 1].filter (fun k => !s.softOff l b k && bit (s.rd l.pow GDR_LATCH_ON b) k)) cause false t
  else if s.latchedB l b || s.rd l.pow GDR_GATES b == 0 then s
  else
    let on := [2 * p, 2 * p + 1].filter (fun k => s.swOn l b k t)
    if on.isEmpty then
      if s.softOff l b (2 * p) || s.softOff l b (2 * p + 1) then s
      else match s.lastFallen l b p t with
        | some k => s.fallenTrip l b k cause t
        | none => s
    else s.legTrip l b p on cause false t

/-- HARD_SHORT_DETECT (R217). -/
def execHardShortDetect (l : LaneId) (phase : Nat) (hsB : Bool) (t : Nat) (s : State) : Host.Outcome State Fault Refusal :=
  .next (let s := s.atTime t; if s.on l.pow then s.hardShort l phase hsB t else s)

/-- Step 2 of a soft turn-off of a switch in step 1. In a two-leg event the step 1 of the earlier leg is extended: every switch of the
bridge in step 1 enters step 2 with the last leg (R216, R217). -/
def State.softStep2 (s : State) (l : LaneId) (sw : Nat) : State :=
  let b := sw / 6
  let leg := s.rd l.pow GDR_TWO b
  if s.rd l.pow GDR_SW sw ≠ 1 then s
  else if leg = 0 then s.wr l.pow GDR_SW sw 2
  else if leg = sw % 6 / 2 + 1 then
    (List.range 6).foldl (fun s k => if s.rd l.pow GDR_SW (swNum b k) = 1 then s.wr l.pow GDR_SW (swNum b k) 2 else s) s
  else s

/-- SOFT_OFF_STEP2 (R216). -/
def execSoftOffStep2 (l : LaneId) (sw : Nat) (s : State) : Host.Outcome State Fault Refusal :=
  .next (if s.on l.pow then s.softStep2 l sw else s)

/-- The gate of a tripped switch has reached its clamp. A turn-on of its partner that came since the trip, or comes within 50 ns, is delayed to
50 ns after it: counted, its source asserted (R209, R216). -/
def State.softClamp (s : State) (l : LaneId) (sw : Nat) : State :=
  let b := sw / 6
  let q := partner (sw % 6)
  let r := s.lastRise l b q (s.now + 50)
  let late := s.rd l.pow GDR_GATES b == 1 && s.rd l.pow GDR_SW (swNum b q) == 0 && r != 0 && decide (r ≥ s.rd l.pow GDR_TRIP_AT sw)
  let s := (s.wr l.pow GDR_SW sw 3).wr l.pow GDR_CLAMP_AT sw s.now
  if late then (s.bump l.pow GDR_CNT_FLOOR b).raise l.pow 1 else s

/-- SOFT_OFF_CLAMP (R216). -/
def execSoftOffClamp (l : LaneId) (sw : Nat) (s : State) : Host.Outcome State Fault Refusal :=
  .next (if s.on l.pow ∧ s.rd l.pow GDR_SW sw = 2 then s.softClamp l sw else s)

/-! ### Clearing a latch -/

/-- The condition on a write of 1 to the latch bit (R220): all six commands low for at least 1 ms and no comparator of
the bridge asserted. -/
def chkLatchClear (l : LaneId) (b : Nat) (lowFor1ms comparators : Bool) : Option Rsp :=
  failIf (!lowFor1ms || comparators) (rRange (GDR_LATCHED.id l.pow b) 0)

/-- All six commands of a bridge have been low for at least 1 ms (R220). -/
def State.commandsLow (s : State) (l : LaneId) (b : Nat) : Bool :=
  s.rd l.pow GDR_GATES b != 2 && decide (s.rd l.pow GDR_LOW_AT b + 1000000 ≤ s.now)

/-- A latch cleared, with the bits of its switch that the write names: its trips are over, and its source once no bridge is latched (R220). -/
def State.clearLatch (s : State) (l : LaneId) (b v : Nat) : State :=
  let s := ((s.wr l.pow GDR_LATCHED b (clrMask (s.rd l.pow GDR_LATCHED b) (v % 128))).wr l.pow GDR_TWO b 0).modBridge l b (fun x => { x with trips := [] })
  let s := (List.range 6).foldl (fun s k => s.wr l.pow GDR_SW (swNum b k) 0) s
  if (List.range 6).any (fun b => s.latchedB l b) then s else s.release l.pow 3

/-- A write to `GDR.LATCHED[b]`: a 1 in the latch bit clears the latch; a 1 in another bit clears that bit, a 0 nothing (R11, R220, R230). -/
def State.latchWrite (s : State) (l : LaneId) (b v : Nat) : State :=
  if bit v 6 && s.latchedB l b then s.clearLatch l b v
  else s.wr l.pow GDR_LATCHED b (clrMask (s.rd l.pow GDR_LATCHED b) (v % 64))

/-- GDR_LATCH_CLEAR (R220): a SET to `GDR.LATCHED[b]` that takes effect at time `t`; `comparators` tells that one of the bridge's is
asserted. -/
def execGdrLatchClear (l : LaneId) (h : Hdr) (b bits : Nat) (t : Nat) (comparators : Bool) (s : State) :
    Host.Outcome State Fault Refusal :=
  .next ((s.atTime t).whenHost l (fun s =>
    let acts := bits.testBit 6 && s.latchedB l b
    s.perform l h 0x0102 (if acts then chkLatchClear l b (s.commandsLow l b) comparators else none)
      (s.latchWrite l b bits, rOk)))

/-! ### Gate supply -/

/-- The reading of `GDR.VGD` (R205). -/
def State.setVgd (s : State) (l : LaneId) (mv : Nat) : State :=
  (s.wr l.pow GDR_VGD 0 (satNat 16 mv)).wr l.pow GDR_VGD_AT 0 (s.now + 1)

/-- VGD below 8.0 V: every gate off, every configured bridge in FREE, the windings that were in RUN lost, the source held (R205, R366).
A bridge that is latched is taken to FAULT again with its next status word (R220); an unused one stays OFF (R150). -/
def State.vgdLow (s : State) (l : LaneId) (mv : Nat) : State :=
  let s := ((s.setVgd l mv).wr l.pow GDR_VGD_BAD 0 1).wr l.pow GDR_VGD_UNDER 0 1
  let s := (List.range 6).foldl (fun s b =>
    let st := s.rd l.reg CMT_STATE b
    let s := s.gatesOff l b
    if st = 2 then ((s.wr l.reg CMT_STATE b 3).dropOwn l b).loseWinding l b
    else if s.rd l.reg CMT_CART b ≠ 0xF then s.wr l.reg CMT_STATE b 3
    else s) s
  s.raise l.pow 5 true

/-- VGD_LOW (R205); the loss ends a held short during a reset too (R222). -/
def execVgdLow (l : LaneId) (mv : Nat) (s : State) : Host.Outcome State Fault Refusal :=
  .next (if s.hasRegion l.pow ∧ s.rdB l.pow INT_POWERED then s.vgdLow l mv else s)

/-- VGD_READY (R205): gates may turn on again at the next START_DRIVE. -/
def execVgdReady (l : LaneId) (mv : Nat) (s : State) : Host.Outcome State Fault Refusal :=
  .next (if s.hasRegion l.pow ∧ s.rdB l.pow INT_POWERED then (((s.setVgd l mv).wr l.pow GDR_VGD_BAD 0 0).wr l.pow GDR_VGD_UNDER 0 0).release l.pow 5 else s)

/-! ### Held short -/

/-- A held short released to FREE, counted (R176, R223). -/
def State.releaseShort (s : State) (l : LaneId) (b : Nat) : State :=
  let s := (s.gatesOff l b).bump l.pow GDR_CNT_SHORT_REL b
  if s.rd l.reg CMT_STATE b = 4 then s.wr l.reg CMT_STATE b 3 else s

/-- SHORT_ZERO_CROSSING (R223): the interval since the previous rising zero crossing is judged. GDR acts on its own,
through a region reset of its lane too (R204, R222). -/
def execShortZeroCrossing (l : LaneId) (b : Nat) (t : Nat) (s : State) : Host.Outcome State Fault Refusal :=
  .next (let s := s.atTime t
    if b < 6 ∧ s.shortHeld l b ∧ s.rdB l.pow INT_POWERED then
      if s.rdB l.pow GDR_ZC_ON b ∧ t - s.rd l.pow GDR_ZC_AT b > s.rd l.pow GDR_RELEASE_PERIOD b * 1000 then s.releaseShort l b
      else (s.wr l.pow GDR_ZC_ON b 1).wr l.pow GDR_ZC_AT b t
    else s)

/-- SHORT_RELEASE_TIMEOUT (R223): no rising zero crossing for 100 ms. -/
def execShortReleaseTimeout (l : LaneId) (b : Nat) (s : State) : Host.Outcome State Fault Refusal :=
  .next (if b < 6 ∧ s.shortHeld l b ∧ s.rdB l.pow INT_POWERED then s.releaseShort l b else s)

/-! ### Edges (R208 to R211)

The edges of a DUTY message are judged at the load point from which they act. An interval of a switch is an edge pair with its turn-on
before its turn-off; the command of a low side, high around the valley, makes two intervals of a period. -/

/-- The steps from a load point of a bridge to its next (R153, R227). -/
def State.loadSteps (s : State) (l : LaneId) (b : Nat) : Nat :=
  s.rd l.reg CMT_PWM_PERIOD b / (if s.rdB l.reg CMT_UPDATE b then 2 else 1)

/-- The intervals of a command within `n` steps: from its turn-on to its turn-off time, or, where the turn-off comes first, up to it and
again from the turn-on; equal times mean a command that stays low (R208). -/
def intervals (n : Nat) (e : SwitchEdge) : List SwitchEdge :=
  (if e.on < e.off then [{ e with off := min n e.off }]
    else if e.off < e.on then [{ e with on := 0 }, { e with off := n }] else []).filter (fun x => decide (x.on < x.off))

/-- The edges of a bridge as they act for one period: those of the period before and its length, the intervals of this one. -/
structure Placing where
  old : List SwitchEdge
  oldLen : Nat
  es : List SwitchEdge

/-- A switch was on up to the load point. -/
def Placing.carried (p : Placing) (k : Nat) : Bool := p.old.any (fun e => e.sw == k && decide (e.off ≥ p.oldLen))

/-- An interval begins with a rise of its command, not carried over the load point. -/
def Placing.rises (p : Placing) (e : SwitchEdge) : Bool := decide (e.on > 0) || !p.carried e.sw

/-- Two intervals overlap. -/
def overlap (a b : SwitchEdge) : Bool := decide (a.on < b.off ∧ b.on < a.off)

/-- The first overlap of the two switches of a phase, high side first. -/
def Placing.clash (p : Placing) (ph : Nat) : Option (SwitchEdge × SwitchEdge) :=
  ((p.es.filter (fun e => e.sw == 2 * ph)).flatMap (fun h =>
    (p.es.filter (fun e => e.sw == 2 * ph + 1)).map (fun w => (h, w)))).find? (fun c => overlap c.1 c.2)

/-- When the command of an interval rose, for the interlock: 0 before the load point, else its step plus 1 (R210). -/
def Placing.rank (p : Placing) (e : SwitchEdge) : Nat := if p.rises e then e.on + 1 else 0

/-- The interlock on one overlap of a phase: the interval that rose later is blocked, the high side where both rose in one step;
counted, flagged, its source asserted; a command still high at the end of the period stays blocked (R210). -/
def State.interlockOne (s : State) (l : LaneId) (b ph n : Nat) (p : Placing) : State × Placing :=
  match p.clash ph with
  | none => (s, p)
  | some c =>
    let v := if p.rank c.2 > p.rank c.1 then c.2 else c.1
    let s := if v.off ≥ n then s.wr l.pow GDR_BLOCK (swNum b v.sw) 1 else s
    let s := (s.bump l.pow GDR_CNT_SHOOT (3 * b + ph)).wrBit l.pow GDR_ACC b 8 true
    (s.raise l.pow 2, { p with es := p.es.erase v })

/-- The interlock on a bridge: a switch blocked in the period before stays off until its command has fallen; then every overlap of each
phase, of which there are at most two (R210). -/
def State.interlock (s : State) (l : LaneId) (b n : Nat) (p : Placing) : State × Placing :=
  let held (e : SwitchEdge) : Bool := decide (e.on = 0) && s.rdB l.pow GDR_BLOCK (swNum b e.sw)
  let still (k : Nat) : Bool := p.es.any (fun e => e.sw == k && held e && decide (e.off ≥ n))
  let on := (List.range 6).filter still
  let s := (List.range 6).foldl (fun s k => s.wrB l.pow GDR_BLOCK (swNum b k) (on.contains k)) s
  let p := { p with es := p.es.filter (fun e => !held e) }
  [0, 0, 1, 1, 2, 2].foldl (fun a ph => a.1.interlockOne l b ph n a.2) (s, p)

/-- A high-side turn-on of a phase below 7.0 V is blocked for the rest of the period, counted and flagged; a high side that is on
stays on (R211). -/
def State.bootBlock (s : State) (l : LaneId) (b : Nat) (p : Placing) : State × Placing :=
  let hit (e : SwitchEdge) : Bool := e.sw % 2 == 0 && p.rises e && bit (s.rd l.pow GDR_BOOT_LOW) (3 * b + e.sw / 2)
  ((p.es.filter hit).foldl (fun s _ => (s.bump l.pow GDR_CNT_BOOT_BLOCK b).wrBit l.pow GDR_ACC b 9 true) s,
    { p with es := p.es.filter (fun e => !hit e) })

/-- The first step from which a switch may turn on at `at'`: 50 ns after its partner's gate has passed the hold-off level, whether the partner's
command fell in this period, at the load point or in the period before (R209). -/
def Placing.floor (p : Placing) (k at' : Nat) : Int :=
  let q := partner k
  let here := p.es.filter (fun e => e.sw == q && decide (e.off ≤ at'))
  let before := p.old.filter (fun e => e.sw == q)
  let ends (es : List SwitchEdge) (back : Nat) : Int := es.foldl (fun m e => max m ((e.off + e.fall + 80 : Nat) - (back : Int))) 0
  if here.isEmpty then ends before p.oldLen else ends here 0

/-- The floor on one turn-on: an earlier one is delayed, counted, its source asserted; a pulse delayed beyond its end is gone. One behind a
partner in soft turn-off waits for its clamp, where it is counted (R209, R216). -/
def State.floorOne (s : State) (l : LaneId) (b : Nat) (p : Placing) (e : SwitchEdge) : State × List SwitchEdge :=
  let f := (p.floor e.sw e.on).toNat
  if !p.rises e then (s, [e])
  else if f > e.on then (((s.bump l.pow GDR_CNT_FLOOR b).raise l.pow 1), if f < e.off then [{ e with on := f }] else [])
  else (s, [e])

/-- The floor on every turn-on of a period (R209). -/
def State.floors (s : State) (l : LaneId) (b : Nat) (p : Placing) : State × List SwitchEdge :=
  p.es.foldl (fun a e =>
    let r := a.1.floorOne l b p e
    (r.1, a.2 ++ r.2)) (s, [])

/-- The rises of a bridge's commands kept for blanking at a load point: the last within the period that ends, and those at the load point
itself (R215). -/
def State.keepRises (s : State) (l : LaneId) (b t : Nat) (p : Placing) (es : List SwitchEdge) : State :=
  (List.range 6).foldl (fun s k =>
    let s := s.wr l.pow GDR_RISE_AT (swNum b k) (s.lastRise l b k t)
    if es.any (fun e => e.sw == k && decide (e.on = 0) && p.rises e) then s.wr l.pow GDR_RISE_AT (swNum b k) t else s) s

/-- The turn-ons that the floor delayed, each with the step of its command (R209, R215). -/
def lateEdges (es acts : List SwitchEdge) : List (SwitchEdge × Nat) :=
  acts.filterMap (fun a => (es.find? (fun e => e.sw == a.sw && e.off == a.off && decide (e.on < a.on))).map (fun e => (a, e.on)))

/-- The gates that fall across a load point: the time at which each passes the hold-off level is kept (R207, R209). -/
def State.keepFalls (s : State) (l : LaneId) (b t n : Nat) (old es : List SwitchEdge) : State :=
  (List.range 6).foldl (fun s k =>
    let m := (old.filter (fun e => e.sw == k && decide (e.off + e.fall > n))).foldl (fun m e => max m (e.off + e.fall)) 0
    if m = 0 ∨ es.any (fun e => e.sw == k && e.on == 0) then s else s.wr l.pow GDR_OFF_AT (swNum b k) (t + (m - n) * 5 / 8)) s

/-- The last step of the commands of a period (R208, R220). -/
def lastStep (es : List SwitchEdge) : Nat := es.foldl (fun m e => max m e.off) 0

/-- The intervals of the period before, of `n` steps: those of its edges, the low sides on throughout in SHORT (R152, R208). -/
def State.oldEdges (s : State) (l : LaneId) (b n : Nat) : List SwitchEdge :=
  match s.rd l.pow GDR_GATES b with
  | 1 => (s.bridge l b).cur
  | 2 => [⟨1, 0, n, 0⟩, ⟨3, 0, n, 0⟩, ⟨5, 0, n, 0⟩]
  | _ => []

/-- The edges received last taken from a load point on, under the interlock, the bootstrap rule and the floor (R208 to R211). -/
def State.placeDuty (s : State) (l : LaneId) (b t : Nat) : State :=
  let n := s.loadSteps l b
  let old := s.oldEdges l b n
  let p : Placing := ⟨old, n, (s.bridge l b).next.flatMap (intervals n)⟩
  let i := s.interlock l b n p
  let q := i.1.bootBlock l b i.2
  let r := q.1.floors l b q.2
  let s := (r.1.keepRises l b t p r.2).keepFalls l b t n old r.2
  let s := s.modBridge l b (fun x => { x with cur := r.2, late := lateEdges q.2.es r.2 })
  (s.wr l.pow GDR_LOAD_AT b t).wr l.pow GDR_LOW_AT b (t + lastStep p.es * 5 / 8)

/-- A DUTY message for a bridge: its edges for the next load point (R208). -/
def State.dutyIn (s : State) (l : LaneId) (b : Nat) (es : List SwitchEdge) : State :=
  (s.modBridge l b (fun x => { x with next := es })).wr l.pow GDR_DUTY_GOT b 1

/-- DUTY_RECEIVE (R208). -/
def execDutyReceive (l : LaneId) (b : Nat) (edges : List SwitchEdge) (s : State) : Host.Outcome State Fault Refusal :=
  .next (if s.on l.pow ∧ b < 6 then s.dutyIn l b edges else s)

/-! ### The load point -/

/-- The edges of a bridge in RUN at a load point: those received; else the previous ones once; missing a second time, all
switches off and DUTY_MISSING (R208). -/
def State.loadDuty (s : State) (l : LaneId) (b t : Nat) : State :=
  if s.rdB l.pow GDR_DUTY_GOT b then
    let s := ((s.wr l.pow GDR_DUTY_GOT b 0).wr l.pow GDR_DUTY_MISS b 0).wr l.pow GDR_MISSING b 0
    let s := s.placeDuty l b t
    if s.latchedB l b then s else s.wr l.pow GDR_GATES b 1
  else
    let n := s.rd l.pow GDR_DUTY_MISS b + 1
    let s := s.wr l.pow GDR_DUTY_MISS b n
    if n ≥ 2 then ((s.gatesOff l b).wr l.pow GDR_MISSING b 1).wrBit l.pow GDR_ACC b 12 true else s.placeDuty l b t

/-- A tripped switch whose command has stayed high since the trip turns on at a load point, with blanking; a high side whose bootstrap voltage
is low stays off for the period, counted and flagged (R211, R219). -/
def State.retryHigh (s : State) (l : LaneId) (b k t : Nat) : State :=
  if k % 2 = 0 ∧ bit (s.rd l.pow GDR_BOOT_LOW) (3 * b + k / 2) then (s.bump l.pow GDR_CNT_BOOT_BLOCK b).wrBit l.pow GDR_ACC b 9 true
  else (s.wr l.pow GDR_SW (swNum b k) 0).wr l.pow GDR_RISE_AT (swNum b k) t

/-- Tripped switches that are not latched turn on again with a rise of their command after the clamp; one that has stayed high since the trip
takes the load point as that edge; a command that rose during the soft turn-off is ignored until it rises again (R219). -/
def State.retry (s : State) (l : LaneId) (b t : Nat) : State :=
  if s.latchedB l b then s
  else (List.range 6).foldl (fun s k =>
    if s.rd l.pow GDR_SW (swNum b k) ≠ 3 then s
    else if s.cmdHigh l b k t ∧ s.lastRise l b k t ≤ s.rd l.pow GDR_TRIP_AT (swNum b k) then s.retryHigh l b k t
    else if s.freed l b k t then s.wr l.pow GDR_SW (swNum b k) 0 else s) s

/-- VGD lies below 8.0 V: it fell there and its reading still shows it (R205, R221). -/
def State.vgdUnder (s : State) (l : LaneId) : Bool :=
  s.rdB l.pow GDR_VGD_UNDER && decide (s.readPow l (GDR_VGD.key l.pow 0) < 8000)

/-- The status word of a bridge since the previous valley (R221). -/
def State.statusWord (s : State) (l : LaneId) (b : Nat) : Nat :=
  s.rd l.pow GDR_ACC b % 8192 ||| (128 * b2n (s.latchedB l b) + 1024 * b2n (s.vgdUnder l) +
    2048 * b2n (s.shortHeld l b) + 4096 * b2n (s.rdB l.pow GDR_MISSING b))

/-- Sources that follow the status word: VGD above 8.0 V again releases its own; a floor delay of a turn-on to SHORT asserts its own (R209,
R221). No event tells when VGD has risen above 8.0 V: its reading at a valley does (DESIGN CHOICE, log 69). -/
def State.statusSources (s : State) (l : LaneId) (b : Nat) : State :=
  let s := if s.rdB l.pow GDR_VGD_UNDER && !s.vgdUnder l then (s.wr l.pow GDR_VGD_UNDER 0 0).release l.pow 5 else s
  if s.rdB l.pow GDR_FLOOR_SEEN b then (s.wr l.pow GDR_FLOOR_SEEN b 0).raise l.pow 1 else s

/-- The status word sent with the samples, a new one begun (R221). -/
def State.sendStatus (s : State) (l : LaneId) (b : Nat) : State :=
  let s := s.statusSources l b
  let s := (s.wr l.pow GDR_STATUS b (s.statusWord l b)).wr l.pow GDR_ACC b 0
  if s.latchedB l b then s.wr l.reg CMT_LATCH_SEEN b 1 else s

/-- A code is over range: a current at either end, a voltage at the top (R228). -/
def overRange (k : Nat) (code : Nat) : Bool := if k < 3 then code == 0x8000 || code == 0x7FFF else code == 0xFFFF

/-- The codes of a bridge's seven channels (R226, R228). -/
def sampleCodes (x : BridgeSample) : List Nat :=
  [twos 16 x.iu, twos 16 x.iv, twos 16 x.iw, x.vu % 65536, x.vv % 65536, x.vw % 65536, x.vdc % 65536]

/-- The results of a bridge's channels, over-range ones counted (R228). -/
def State.adcResults (s : State) (l : LaneId) (x : BridgeSample) : State :=
  (sampleCodes x).zipIdx.foldl (fun s p =>
    let s := s.wr l.pow ADC_RESULT (7 * x.b + p.2) p.1
    if overRange p.2 p.1 then s.bump l.pow ADC_CNT_OVR (7 * x.b + p.2) else s) s

/-- The bootstrap voltages of a bridge's phases: below 7.0 V or not, and ready from 9.0 V until below 7.0 V (R211). -/
def State.bootState (s : State) (l : LaneId) (x : BridgeSample) : State :=
  [0, 1, 2].foldl (fun s p =>
    let i := 3 * x.b + p
    let r := (bit (s.rd l.pow GDR_BOOT_READY) i || x.bootHigh.testBit p) && !x.bootLow.testBit p
    (s.wrBit l.pow GDR_BOOT_READY 0 i r).wrBit l.pow GDR_BOOT_LOW 0 i (x.bootLow.testBit p)) s

/-- The samples of a bridge as its converters give them: a core that failed its converter test is over range (R498). -/
def State.brokenCores (s : State) (l : LaneId) (x : BridgeSample) : BridgeSample :=
  let bad (k : Nat) : Bool := s.rdB l.pow BST_ADC_BAD (7 * x.b + k)
  { x with iu := if bad 0 then 0x7FFF else x.iu, iv := if bad 1 then 0x7FFF else x.iv, iw := if bad 2 then 0x7FFF else x.iw,
           vu := if bad 3 then 0xFFFF else x.vu, vv := if bad 4 then 0xFFFF else x.vv, vw := if bad 5 then 0xFFFF else x.vw,
           vdc := if bad 6 then 0xFFFF else x.vdc }

/-! ### The comparator test (R224, R225) -/

/-- The switch of a comparator in the order of `GDR.CMP_RESULT`: six desaturation comparators, HS-A and HS-B of the three
phases (R224, R225). -/
def cmpSwitch (i : Nat) : Nat := if i < 6 then i else if i < 9 then 2 * (i - 6) else 2 * (i - 9) + 1

/-- The comparators of a period of the test: high sides and HS-A in the odd ones, low sides and HS-B in the even ones (R224; the
alternation beyond the second period is a DESIGN CHOICE, log 70). -/
def cmpSet (n : Nat) : List Nat := if n % 2 = 1 then [0, 2, 4, 6, 7, 8] else [1, 3, 5, 9, 10, 11]

/-- The off-times of a switch within a period of `n` steps: before, between and after its intervals. -/
def offTimes (n : Nat) (es : List SwitchEdge) : List Nat :=
  let bounds := 0 :: es.flatMap (fun e => [e.on, e.off]) ++ [n]
  (List.range (es.length + 1)).map (fun i => bounds.getD (2 * i + 1) 0 - bounds.getD (2 * i) 0)

/-- A switch is off for 600 ns in one piece within the period that begins (R225). -/
def State.cmpWindow (s : State) (l : LaneId) (b k : Nat) : Bool :=
  match s.rd l.pow GDR_GATES b with
  | 1 => (offTimes (s.loadSteps l b) ((s.bridge l b).cur.filter (fun e => e.sw == k))).any (fun d => decide (d ≥ 960))
  | 2 => k % 2 == 0
  | _ => true

/-- The result of one comparator. -/
def State.cmpGet (s : State) (l : LaneId) (b i : Nat) : Nat := s.rd l.pow GDR_CMP_RESULT b / 4 ^ i % 4

/-- The result of one comparator set. -/
def State.cmpPut (s : State) (l : LaneId) (b i v : Nat) : State :=
  s.wr l.pow GDR_CMP_RESULT b (s.rd l.pow GDR_CMP_RESULT b - s.cmpGet l b i * 4 ^ i + v * 4 ^ i)

/-- One comparator tested where it has a window; a failure latches the bridge and asserts its source (R225). -/
def State.cmpOne (s : State) (l : LaneId) (b i : Nat) : State :=
  if s.cmpGet l b i ≠ 0 ∨ !s.cmpWindow l b (cmpSwitch i) then s
  else if (s.lane l).cmpFails.any (fun f => f.1 == b && f.2.testBit i) then
    let s := s.cmpPut l b i 2
    (if s.latchedB l b then s else s.latchBridge l b (cmpSwitch i)).raise l.pow 4
  else s.cmpPut l b i 1

/-- The test of a bridge ends when every comparator has its result, or after 8 periods with the others NOT_TESTED; the next named
bridge follows (R224, R225). -/
def State.cmpEnd (s : State) (l : LaneId) (b n : Nat) : State :=
  let left := (List.range 12).filter (fun i => s.cmpGet l b i == 0)
  if !left.isEmpty ∧ n < 8 then s
  else
    let s := (left.foldl (fun s i => s.cmpPut l b i 3) s).wr l.pow GDR_CMP_N b 0
    let m := clrBit (s.rd l.reg BST_MASK) b
    let s := s.wr l.reg BST_MASK 0 m
    if m = 0 then s.wr l.reg BST_STATE 0 0 else s

/-- A load point in the comparator test of a bridge, the lowest that is still to be tested: a valley begins a period, with double update
its peak the second half, in which the same comparators may have their window (R224, R225). -/
def State.cmpPeriod (s : State) (l : LaneId) (b : Nat) (valley : Bool) : State :=
  let m := s.rd l.reg BST_MASK
  if s.rd l.reg BST_STATE ≠ 2 ∨ (List.range 6).find? (fun i => m.testBit i) ≠ some b then s
  else
    let n := s.rd l.pow GDR_CMP_N b + b2n valley
    let s := s.wr l.pow GDR_CMP_N b n
    let s := (cmpSet n).foldl (fun s i => s.cmpOne l b i) s
    if n = 0 ∨ (valley ∧ s.rdB l.reg CMT_UPDATE b) then s else s.cmpEnd l b n

/-- A load point at which a core has a window for its calibration: any one while background calibration is on. A core found without one keeps
its calibration until its bridge is OFF, or until 10 s pass in which it is not found so again: it then has had one (R229; DEDUCED, log 74). -/
def State.calOne (s : State) (l : LaneId) (b t c : Nat) : State :=
  if !s.rdB l.pow ADC_CAL_EN then s
  else if s.rdB l.pow ADC_HELD c ∧ s.rd l.reg CMT_STATE b ≠ 0 ∧ t < s.rd l.pow ADC_SKIP_AT c + 10000000000 then s
  else (s.wr l.pow ADC_HELD c 0).wr l.pow ADC_CAL_AT c (t + 1)

/-- The windows of the seven cores of a bridge (R226, R229). -/
def State.calWindows (s : State) (l : LaneId) (b t : Nat) : State := (List.range 7).foldl (fun s k => s.calOne l b t (7 * b + k)) s

/-- A base valley that is no load point of a bridge whose switches are off: its channels are sampled for the tracking (R199). -/
def State.trackSample (s : State) (l : LaneId) (x : BridgeSample) : State :=
  let x := s.brokenCores l x
  if x.b ≥ 6 then s else (s.adcResults l x).modBridge l x.b (fun y => { y with smp := some x, mid := false })

/-- What the power die does for one bridge at a load point: samples, edges, retries, the status word and the comparator test; the SAMPLE
message carries the samples to the lane die (R208, R211, R219, R221, R224, R227). -/
def State.loadPoint (s : State) (l : LaneId) (x : BridgeSample) (valley : Bool) (t : Nat) : State :=
  let x := s.brokenCores l x
  if x.b ≥ 6 then s
  else
    let s := ((s.adcResults l x).bootState l x).calWindows l x.b t
    let s := if s.rd l.reg CMT_STATE x.b = 2 then s.loadDuty l x.b t else s.wr l.pow GDR_LOAD_AT x.b t
    let s := s.retry l x.b t
    let s := (if valley then s.sendStatus l x.b else s).cmpPeriod l x.b valley
    s.modBridge l x.b (fun y => { y with smp := some x, mid := !valley })

/-! ### Precharge and calibration -/

/-- Every phase of a bridge is ready (R212). -/
def State.bootReady (s : State) (l : LaneId) (b : Nat) : Bool :=
  [0, 1, 2].all (fun p => bit (s.rd l.pow GDR_BOOT_READY) (3 * b + p))

/-- The precharge of a bridge begun: all three low sides on (R212). -/
def State.precharge (s : State) (l : LaneId) (b : Nat) : State := (s.shortGates l b).wr l.pow GDR_PRE_ON b 1

/-- A core keeps the calibration it had in `s0` (R229). -/
def State.holdCal (s : State) (l : LaneId) (s0 : State) (c : Nat) : State :=
  ((s.wr l.pow ADC_OFFSET c (s0.readPow l (ADC_OFFSET.key l.pow c))).wr l.pow ADC_GAIN_ERR c (s0.readPow l (ADC_GAIN_ERR.key l.pow c))).wr
    l.pow ADC_HELD c 1

/-- CAL_SKIP_TIMEOUT (R229): a core without a window for 10 s keeps its last calibration; counted, its source asserted. -/
def execCalSkipTimeout (l : LaneId) (c : Nat) (s : State) : Host.Outcome State Fault Refusal :=
  .next (if s.on l.pow ∧ c < 42 ∧ s.rdB l.pow ADC_CAL_EN
    then (((s.holdCal l s c).wr l.pow ADC_SKIP_AT c s.now).bump l.pow ADC_CNT_CAL_SKIP).raise l.pow 6 else s)

end Sys2Proof.Machine
end

