-- ==== Sys2Proof/Machine/Control.lean ====
section
/-! DEFINITION. The control engine: the cascade of a loop, one run, bumpless closing, time at the limit, groups and
overruns, agreed and local inputs, vehicle targets (R232 to R255). -/

namespace Sys2Proof.Machine

open Par Var

/-! ### The cascade -/

/-- The coefficients of section `k` (R232, R235). -/
def State.cenSec (s : State) (l : LaneId) (k : Nat) : Sec :=
  ⟨s.rdI l.reg CEN_B0 k, s.rdI l.reg CEN_B1 k, s.rdI l.reg CEN_B2 k, s.rdI l.reg CEN_A1 k, s.rdI l.reg CEN_A2 k,
   s.rd l.reg CEN_SEC_SHIFT k⟩

/-- The sections a loop owns (R232). -/
def State.cenSecs (s : State) (l : LaneId) (n : Nat) : List Nat :=
  (List.range (s.rd l.reg CEN_SEC_NUM n)).map (fun i => s.rd l.reg CEN_SEC_FIRST n + i)

/-- The cascade of a loop: for each section its number, input and exact output, and the signal behind the last (R236). -/
def State.cascade (s : State) (l : LaneId) : List Nat → Int → List (Nat × Int × Int) × Int
  | [], x => ([], x)
  | k :: ks, x =>
    let c := s.cenSec l k
    let y := c.y (s.rdI l.reg CEN_S1 k) x
    let r := s.cascade l ks (c.out y)
    ((k, x, y) :: r.1, r.2)

/-- What one run of a loop computes before its states move: the sections, the error, the unlimited output with 61
fractional bits, the limited output, and on which side it was limited (R236). -/
structure LoopRun where
  secs : List (Nat × Int × Int)
  e : Int
  u : Int
  v : Int
  hi : Bool
  lo : Bool

/-- The outputs of a run from its error and the signal added before the limiter (R236). -/
def State.cenEval (s : State) (l : LaneId) (n : Nat) (e add : Int) : LoopRun :=
  let c := s.cascade l (s.cenSecs l n) e
  let u := c.2 * s.rdI l.reg CEN_GAIN n * (2 ^ s.rd l.reg CEN_GAIN_SHIFT n : Nat) + add * (2 ^ 30 : Nat)
  let hi := s.rdI l.reg CEN_LIM_HI n
  let lo := s.rdI l.reg CEN_LIM_LO n
  { secs := c.1, e := e, u := u, v := clampInt lo hi (roundShift u 30),
    hi := decide (u > hi * (2 ^ 30 : Nat)), lo := decide (u < lo * (2 ^ 30 : Nat)) }

/-- The sign of a loop's cascade (R236). -/
def State.awSign (s : State) (l : LaneId) (n : Nat) : Int := if s.rdB l.reg CEN_AW_SIGN n then -1 else 1

/-- The integrator sections of a run freeze: by the limiter, or by the voltage limit for an EXPRESS loop (R236, R238). -/
def State.cenFreeze (s : State) (l : LaneId) (n : Nat) (q : LoopRun) (ext : Bool) : Bool :=
  ext || (q.hi && decide (q.e * s.awSign l n > 0)) || (q.lo && decide (q.e * s.awSign l n < 0))

/-- The states of one section after a run: saturated to their 56 bits; the flag tells a saturation (R234 to R236). -/
def State.secUpdate (s : State) (l : LaneId) (p : Nat × Int × Int) : State × Bool :=
  let c := s.cenSec l p.1
  let s1 := c.s1' (s.rdI l.reg CEN_S2 p.1) p.2.1 p.2.2
  let s2 := c.s2' p.2.1 p.2.2
  ((s.wrI l.reg CEN_S1 p.1 (satInt 56 s1)).wrI l.reg CEN_S2 p.1 (satInt 56 s2), satInt 56 s1 != s1 || satInt 56 s2 != s2)

/-- The sections of a run brought up to date; frozen integrator sections keep their states (R236). -/
def State.secsUpdate (s : State) (l : LaneId) (freeze : Bool) : List (Nat × Int × Int) → State × Bool
  | [] => (s, false)
  | p :: ps =>
    let s := s.wrI l.reg CEN_Y p.1 ((s.cenSec l p.1).out p.2.2)
    let a := if freeze && s.rdB l.reg CEN_INTEG p.1 then (s, false) else s.secUpdate l p
    let r := a.1.secsUpdate l freeze ps
    (r.1, a.2 || r.2)

/-! ### Time at the limit -/

/-- The episode at the limit restarted (R253). -/
def State.satRestart (s : State) (l : LaneId) (n : Nat) : State :=
  let st := clrMask (s.rd l.reg CEN_STATUS n) 0b110000
  (((s.wr l.reg CEN_SAT_PS n 0).wr l.reg CEN_SAT_TIME n 0).wr l.reg CEN_X_PREV n 0).wr l.reg CEN_STATUS n st

/-- A limited run: the continuous time at the limit, its warning and its fault, each once per episode (R253). -/
def State.satTime (s : State) (l : LaneId) (n : Nat) (limited : Bool) : State :=
  if !limited then s.satRestart l n
  else
    let ps := if s.rdB l.reg CEN_X_PREV n then s.rd l.reg CEN_SAT_PS n + s.trigPs l n else 0
    let ms := satNat 16 (ps / 1000000000)
    let s := ((s.wr l.reg CEN_X_PREV n 1).wr l.reg CEN_SAT_PS n ps).wr l.reg CEN_SAT_TIME n ms
    let w := s.rd l.reg CEN_SAT_WARN n
    let f := s.rd l.reg CEN_SAT_FAULT n
    let s := if w ≠ 0 ∧ ms ≥ w ∧ !bit (s.rd l.reg CEN_STATUS n) 4
      then (s.wrBit l.reg CEN_STATUS n 4 true).raise l.reg 31 else s
    if f ≠ 0 ∧ ms ≥ f ∧ !bit (s.rd l.reg CEN_STATUS n) 5
      then ((s.wrBit l.reg CEN_STATUS n 5 true).bump l.reg CEN_CNT_SAT_FAULT n).raise l.reg 32 else s

/-- A run taking effect: states, output, error, status bits, saturated states and time at the limit (R234, R236, R253). -/
def State.cenCommit (s : State) (l : LaneId) (n : Nat) (q : LoopRun) (ext : Bool) : State :=
  let freeze := s.cenFreeze l n q ext
  let limited := q.hi || q.lo
  let u := s.secsUpdate l freeze q.secs
  let s := ((u.1.wrI l.reg CEN_OUT n q.v).wrI l.reg CEN_ERR n q.e).wrI l.reg CEN_U n (sat32 (roundShift q.u 30))
  let st := s.rd l.reg CEN_STATUS n
  let st := putBit (putBit (putBit (putBit st 0 true) 1 limited) 2 freeze) 3 false
  let s := s.wr l.reg CEN_STATUS n (clrBit st 6)
  let s := if u.2 then (s.bump l.reg CEN_CNT_OVF n).raise l.reg 29 else s
  s.satTime l n limited

/-! ### Closing -/

/-- The product of the DC gains behind a section up to the limiter's input, the section's own shift included (R252). -/
def State.gainBehind (s : State) (l : LaneId) (n k : Nat) (later : List Nat) : Rat :=
  let own : Rat := (2 ^ s.rd l.reg CEN_SEC_SHIFT k : Nat)
  let g := later.foldl (fun g j => g * (s.cenSec l j).dc s.fv * (2 ^ s.rd l.reg CEN_SEC_SHIFT j : Nat)) own
  g * (s.rdI l.reg CEN_GAIN n : Int) / (2 ^ 30 : Nat) * (2 ^ s.rd l.reg CEN_GAIN_SHIFT n : Nat)

/-- The states a closing loop starts from, section by section (R252): DC gain for a plain section, the last integrator
solved for the present output, earlier integrators unchanged. A product of later gains of 0 leaves the integrator as it
is and the loop closes with a step. -/
def State.settleSecs (s : State) (l : LaneId) (n : Nat) (present add : Int) : List Nat → Int → State
  | [], _ => s
  | k :: ks, x =>
    let c := s.cenSec l k
    let isLast := s.rdB l.reg CEN_INTEG k && !ks.any (fun j => s.rdB l.reg CEN_INTEG j)
    if s.rdB l.reg CEN_INTEG k && !isLast then
      s.settleSecs l n present add ks (c.out (c.y (s.rdI l.reg CEN_S1 k) x))
    else
      let g := s.gainBehind l n k ks
      if isLast && g == 0 then s.settleSecs l n present add ks (c.out (c.y (s.rdI l.reg CEN_S1 k) x))
      else
        let y : Rat := if isLast then ((present - add : Int) : Rat) / g else c.dc s.fv * (x : Rat)
        let st := c.settle x y
        let s := (s.wrI l.reg CEN_S1 k (satInt 56 st.1)).wrI l.reg CEN_S2 k (satInt 56 st.2)
        s.settleSecs l n present add ks (sat32 (roundQ (y * (2 ^ c.shift : Nat))))

/-- The commit that opens a loop (R251, R253): `MAN_OUT` takes the last output unless the consist writes it; the episode
at the limit ends. -/
def State.cenOpened (s : State) (l : LaneId) (n : Nat) (manWritten : Bool) : State :=
  let s := if manWritten then s else s.wr l.reg CEN_MAN_OUT n (s.rd l.reg CEN_OUT n)
  ((s.satRestart l n).wr l.reg CEN_CLOSING n 0).wrBit l.reg CEN_STATUS n 0 false

/-- The commit that closes a loop: its first trigger sets the states (R252). -/
def State.cenClosed (s : State) (l : LaneId) (n : Nat) : State := (s.wr l.reg CEN_CLOSING n 1).wrBit l.reg CEN_STATUS n 0 true

/-- The step a close left: the first output minus the present one (R252). -/
def State.closeStep (s : State) (l : LaneId) (n : Nat) (v present : Int) : State :=
  (s.wrI l.reg CEN_CLOSE_STEP n (sat32 (v - present))).wr l.reg CEN_CLOSING n 0

/-! ### One run of a general loop -/

/-- The controllers of a host after a run that reached the limiter (R266, R267). -/
def State.rpcRuns (s : State) (l : LaneId) (n : Nat) (err : Int) (tau : Rat) : State :=
  let st := s.rd l.reg CEN_STATUS n
  (s.rpcOf l n).foldl (fun s r => s.rpcRun l r err (bit st 1 || bit st 2) tau) s

/-- The first run of a loop after a trip's application ends the stand-in of `TRIP_TQ` for the bridges it drives (R358). -/
def State.tripRunDone (s : State) (l : LaneId) (n : Nat) : State :=
  (List.range 6).foldl (fun s b =>
    if s.rdB l.reg SIO_TRIP_B b ∧ s.rd l.reg CMT_TQ_SRC b = CEN_OUT.id l.reg n then s.wr l.reg SIO_TRIP_B b 0 else s) s

/-- One run of general loop `n`; `s0` is the state at the start of its group, from which every source is read (R236,
R240, R251, R252). -/
def State.cenRun (s s0 : State) (l : LaneId) (n : Nat) (tau : Rat) : State :=
  let s := s.tripRunDone l n
  if !s.rdB l.reg CEN_MODE n then
    (s.rpcOf l n).foldl (fun s r => s.rpcHostOpen l r) (s.wr l.reg CEN_OUT n (s.rd l.reg CEN_MAN_OUT n))
  else
    let rs := s.rd l.reg CEN_REF_SRC n
    let fs := s.rd l.reg CEN_FB_SRC n
    if !(s0.condValid l rs && s0.condValid l fs) then
      let s := (s.bump l.reg CEN_CNT_HOLD n).wrBit l.reg CEN_STATUS n 3 true
      let st := s.rd l.reg CEN_STATUS n
      (s.rpcOf l n).foldl (fun s r => s.rpcHostHeld l r (bit st 1 || bit st 2)) s
    else
      let r := s0.cond rs (s.rd l.reg CEN_REF_K n) (s.rd l.reg CEN_REF_E n)
      let f := s0.cond fs (s.rd l.reg CEN_FB_K n) (s.rd l.reg CEN_FB_E n)
      let e := sat32 (r - f + s0.sig (s.rd l.reg CEN_ADD_IN_SRC n))
      let add := s0.sig (s.rd l.reg CEN_ADD_OUT_SRC n)
      let present := s.rdI l.reg CEN_MAN_OUT n
      let closing := s.rdB l.reg CEN_CLOSING n
      let s := if closing then s.settleSecs l n present add (s.cenSecs l n) e else s
      let q := s.cenEval l n e add
      let s := s.cenCommit l n q false
      let s := if closing then s.closeStep l n q.v present else s
      s.rpcRuns l n (r - f) tau

/-! ### Groups -/

/-- A loop's trigger falls on an event (R239). -/
def State.trigMatches (s : State) (l : LaneId) (n source bridge count : Nat) : Bool :=
  let t := s.rd l.reg CEN_TRIG n
  let d := bits t 15 8 + 1
  source != 0 && bits t 3 0 == source && (source != 1 || bits t 6 4 == bridge) && count % d == bits t 23 16

/-- The count of the event of a source that stands now: the valleys of a bridge from base period 0 of the cycle on, the events of a cycle by
its number; none where no such event is (R239). -/
def State.eventCount (s : State) (l : LaneId) (source bridge : Nat) : Option Nat :=
  if source = 1 then
    if s.ownPoint l bridge false = some true then some (s.rd l.reg CEN_BP / s.baseRatio l bridge) else none
  else if source = 2 ∨ source = 3 ∨ source = 4 then some (s.cycle l)
  else none

/-- The offset in seconds of a trigger event in its Towline cycle, as configured (R239, R269). -/
def State.trigOffset (s : State) (l : LaneId) (source : Nat) : Rat :=
  match source with
  | 1 => ((s.rd l.reg CMT_PWM_PHASE + s.rd l.reg CEN_BP * s.basePeriod l : Nat) : Rat) * 625 / 1000000000000
  | 3 => (s.rd l.reg TWL_SAMPLE_OFFSET : Rat) / 1000000
  | 4 => (s.rd l.reg TWL_LATCH_OFFSET : Rat) / 1000000
  | _ => 0

/-- A trigger of a loop whose previous run has not completed is skipped (R243). -/
def State.overrun (s : State) (l : LaneId) (n : Nat) : State :=
  ((s.bump l.reg CEN_CNT_OVERRUN n).wrBit l.reg CEN_STATUS n 6 true).raise l.reg 30

/-- The run of a loop reaches its limiter: closed, with valid inputs (R236, R266). -/
def State.loopReaches (s s0 : State) (l : LaneId) (n : Nat) : Bool :=
  s.rdB l.reg CEN_MODE n && s0.condValid l (s.rd l.reg CEN_REF_SRC n) && s0.condValid l (s.rd l.reg CEN_FB_SRC n)

/-- The time a run's controllers add to it, on their own unit: each completes within 16 CEN cycles of the run, which is taken as the whole time
(R243, R266; DEDUCED, log 75). -/
def State.rpcTime (s s0 : State) (l : LaneId) (n : Nat) : Nat :=
  if s.loopReaches s0 l n && !(s.rpcOf l n).isEmpty then s.cenTime l 16 else 0

/-- One loop of a group: skipped while its previous run has not completed, else run; the engine is taken for the cycles
of the run, the run itself lasts as long as its controllers (R240, R242, R243, R266). `t` is the trigger time in ns. -/
def State.groupLoop (s s0 : State) (l : LaneId) (n t : Nat) (tau : Rat) : State :=
  if t * 6 < s.rd l.reg CEN_BUSY_AT n then s.overrun l n
  else
    let fin := max (s.rd l.reg CEN_FREE_AT) (t * 6) + s.cenTime l (s.rd l.reg CEN_SEC_NUM n + 6)
    let u := ((s.cenRun s0 l n tau).wr l.reg CEN_BUSY_AT n (fin + s.rpcTime s0 l n)).wr l.reg CEN_FREE_AT 0 fin
    u.trcEvent l 3 n

/-- The general loops whose triggers fall on an event, in ascending number (R239, R240). -/
def State.groupOf (s : State) (l : LaneId) (source bridge count : Nat) : List Nat :=
  ((List.range 36).map (fun i => i + 12)).filter (fun n => s.trigMatches l n source bridge count)

/-- A group: the loops whose triggers fall on one event, in ascending loop number, each reading its sources as they
stood at the start; requests for table lines that waited for it are then answered (R240, R286). -/
def State.cenGroup (s : State) (l : LaneId) (source bridge count t : Nat) : State :=
  let tau := s.rpcTau l (s.trigOffset l source) (s.baseSec l)
  let ns := s.groupOf l source bridge count
  if ns.isEmpty then s else (ns.foldl (fun x n => x.groupLoop s l n t tau) (s.markGroup l)).answerRepairs l

/-- CEN_GROUP_TRIGGER (R239, R240): a command whose count is not that of an event that stands triggers nothing (DEDUCED, log 75). -/
def execCenGroupTrigger (l : LaneId) (source bridge count : Nat) (t : Nat) (s : State) : Host.Outcome State Fault Refusal :=
  .next ((s.atTime t).whenPair l (fun s =>
    if s.eventCount l source bridge = some count then s.cenGroup l source bridge count t else s))

/-! ### Agreed and local inputs -/

/-- The median of three, the floored mean of two, the one value; none of none (R105, R244). -/
def medianOf : List Int → Option Int
  | [] => none
  | [a] => some a
  | [a, b] => some ((a + b) / 2)
  | a :: b :: c :: _ => some (max (min a b) (min (max a b) c))

/-- The change of a lane's angle since the reference period brought up to date with its frame of the previous period (R244). -/
def State.angleStep (s : State) (l x : LaneId) (f : ExchFrame) : State :=
  (List.range 6).foldl (fun s b =>
    let i := 8 * x.reg + b
    let a := f.angles.getD b 0
    let d := sgn 16 (twos 16 ((a : Int) - (s.rd l.reg CEN_ANG i : Int)))
    ((s.wrI l.reg CEN_CHG i (sgn 64 (s.rd l.reg CEN_CHG i) + d)).wr l.reg CEN_ANG i a).wrB l.reg CEN_REF_ANG i (bit f.angleValid b)) s

/-- The frame of the previous period of a lane as lane `l` holds it: its own as sent, a peer's unless MISSING (R244). -/
def State.lastFrame (s : State) (l x : LaneId) : Option ExchFrame :=
  if x = l then (s.lane l).vot.own
  else if s.rd l.reg VOT_MISSING x.reg > 0 then none else (s.lane l).vot.frame x

/-- `DPOS` of every bridge at a compute start, from the voting lanes whose frames of the reference period and of the previous one the lane
holds (R244). -/
def State.formDpos (s : State) (l : LaneId) : State :=
  let s := LaneId.all.foldl (fun s x => match s.lastFrame l x with
    | some f => s.angleStep l x f
    | none => s) s
  (List.range 6).foldl (fun s b =>
    let use := LaneId.all.filter (fun x =>
      s.voting l x && s.rdB l.reg CEN_BASE_OK x.reg && (s.lastFrame l x).isSome && s.rdB l.reg CEN_REF_ANG (8 * x.reg + b))
    match medianOf (use.map (fun x => sgn 64 (s.rd l.reg CEN_CHG (8 * x.reg + b)))) with
    | some d => s.wrI l.reg CEN_DPOS b d
    | none => s) s

/-- The restart of `DPOS` at the compute start after the reference period: the changes of angle count from the frames of that period, those of
a lane whose frame is not held from no frame before the next restart (R244, R245). -/
def State.dposRestart (s : State) (l : LaneId) : State :=
  let s := LaneId.all.foldl (fun s x =>
    (List.range 6).foldl (fun s b => s.wr l.reg CEN_CHG (8 * x.reg + b) 0) (s.wrB l.reg CEN_BASE_OK x.reg (s.lastFrame l x).isSome)) s
  (List.range 6).foldl (fun s b => s.wr l.reg CEN_DPOS b 0) s

/-- The agreed inputs at a compute start (R245); `take` when the new voted values are taken. -/
def State.formAgreed (s : State) (l : LaneId) (take : Bool) : State :=
  (List.range 8).foldl (fun s j =>
    let set := s.rd l.reg CEN_AGR_SET j
    let b := s.rd l.reg CEN_AGR_BR j
    if set ≥ 8 then s.wrBit l.reg CEN_AGR_VALID 0 j false
    else
      let s := if take then s.wr l.reg CEN_AGR_V j (s.rd l.reg VOT_AN_VALUE set) else s
      let v := sgn 32 (s.rd l.reg CEN_AGR_V j)
      let move := if b = 0xF then 0 else condInt (s.rdI l.reg CEN_DPOS b) (s.rd l.reg CEN_AGR_K j) (s.rd l.reg CEN_AGR_E j)
      (s.wrI l.reg CEN_AGREED j (sat32 (v + move))).wrBit l.reg CEN_AGR_VALID 0 j (bit (s.rd l.reg VOT_AN_STATE set) 8)) s

/-- The 16-point map of a local input (R246): linear between its points, the end values outside them. -/
def State.mapLocal (s : State) (l : LaneId) (j : Nat) (x : Int) : Int :=
  let px (n : Nat) : Int := s.rdI l.reg CEN_MAP_X (16 * j + n)
  let py (n : Nat) : Int := s.rdI l.reg CEN_MAP_Y (16 * j + n)
  if x ≤ px 0 then py 0
  else if x ≥ px 15 then py 15
  else
    let n := ((List.range 15).filter (fun n => decide (px n ≤ x))).foldl (fun _ n => n) 0
    let q : Rat := (py n : Rat) + ((x - px n : Int) : Rat) * ((py (n + 1) - py n : Int) : Rat) / ((px (n + 1) - px n : Int) : Rat)
    sat32 (roundQ q)

/-- The local inputs, formed in every base period (R246). -/
def State.formLocal (s : State) (l : LaneId) : State :=
  (List.range 8).foldl (fun s j =>
    let v := s.cond (s.rd l.reg CEN_LOCAL_SRC j) (s.rd l.reg CEN_LOCAL_K j) (s.rd l.reg CEN_LOCAL_E j)
    s.wrI l.reg CEN_LOCAL j (if s.rdB l.reg CEN_LOCAL_MAP_EN j then s.mapLocal l j v else v)) s

/-- The input stage of a base period (R241, R244 to R246, R269): at the period after the reference period the change over the whole cycle is
closed, the voted values are taken and the changes of angle restart. -/
def State.cenInputs (s : State) (l : LaneId) : State :=
  let take := s.afterRef l
  let s := s.formDpos l
  let s := if take then (s.rpcTake l).dposRestart l else s
  (s.formAgreed l take).formLocal l

/-- The CRC-32C of the published outputs of the general loops (R247). -/
def State.outCrc (s : State) (l : LaneId) : Nat :=
  crc32c ((List.range 36).flatMap (fun i => toLe 4 (s.rd l.reg CEN_OUT (i + 12))))

/-! ### Vehicle targets -/

/-- One step of a target towards its command: the angle is signed, the forces are not (R254, R255). -/
def State.targetStep (s : State) (l : LaneId) (t : Nat) : State :=
  let at' (d : PDesc) : Int := if t = 0 then s.rdI l.reg d t else s.rd l.reg d t
  let w := at' CEN_TARGET
  let c := at' CEN_TGT_CMD
  let rate : Int := s.rd l.reg CEN_TGT_RATE t
  s.wrI l.reg CEN_TARGET t (if rate = 0 then c else if c > w then min c (w + rate) else max c (w - rate))

/-- The least clamp force of a brake target: that of an applied ESTOP (R358) and, while a controlled stop runs or its
park is held, the stop force (R374, R379). -/
def State.targetFloor (s : State) (l : LaneId) (t : Nat) : Nat :=
  if t = 0 then 0
  else
    let e := if bit (s.rd l.reg SIO_TRIP) 8 then s.rd l.reg SIO_ESTOP_FORCE t else 0
    let latched := decide (s.rd l.reg SVT_V_LATCH / 4 ^ (t - 1) % 4 = 1)
    let m := s.rd l.reg VOT_MODE
    let f := if s.rdB l.reg VOT_STOP_ON ∨ (m = 4 ∧ !latched) then s.rd l.reg VOT_STOP_F t else 0
    max e f

/-- A target command enters: `TGT_CMD` takes it, a brake target at least its floor (R254, R358, R374). -/
def State.enterCmd (s : State) (l : LaneId) (t v : Nat) : State :=
  (s.wr l.reg CEN_TGT_LAST t v).wr l.reg CEN_TGT_CMD t (if t = 0 then v else max v (s.targetFloor l t))

/-- Base period 0 of a cycle: waiting commands enter and every target steps, but for one that stepped at its URGENT
entry (R254). `hold` names targets that other rules move (R374). -/
def State.targetsCycle (s : State) (l : LaneId) (hold : Nat → Bool) : State :=
  (List.range 5).foldl (fun s t =>
    let s := if s.rdB l.reg CEN_TGT_PEND t
      then (s.enterCmd l t (s.rd l.reg CEN_TGT_PENDV t)).wr l.reg CEN_TGT_PEND t 0 else s
    if s.rdB l.reg CEN_TGT_STEPPED t then s.wr l.reg CEN_TGT_STEPPED t 0
    else if hold t then s else s.targetStep l t) s

/-- The URGENT targets that enter at a base period whose valley lies at `v` (R254). -/
def State.targetsUrgent (s : State) (l : LaneId) (v : Nat) (hold : Nat → Bool) : State :=
  (List.range 5).foldl (fun s t =>
    if s.rdB l.reg CEN_TGT_URG t ∧ v ≥ s.rd l.reg CEN_TGT_URGAT t then
      let s := (s.enterCmd l t (s.rd l.reg CEN_TGT_URGV t)).wr l.reg CEN_TGT_URG t 0
      if hold t then s else (s.targetStep l t).wr l.reg CEN_TGT_STEPPED t 1
    else s) s

/-- The present point of the cycle lies before the common latch instant, so an evaluation now is that of the common
sample instant (R95). -/
def State.beforeLatch (s : State) (l : LaneId) : Bool :=
  decide (s.now - s.rd l.reg INT_CYCLE_START < s.rd l.reg TWL_LATCH_OFFSET * 1000)

/-- A motion command waits for its entry: base period 0 of the next cycle, or for an URGENT one agreed at a common sample
instant the first base period whose valley lies at least 10 µs after it (R254). -/
def State.targetCmd (s : State) (l : LaneId) (t : Nat) (v : Int) (urgent : Bool) : State :=
  if urgent && s.beforeLatch l then
    ((s.wr l.reg CEN_TGT_URG t 1).wr l.reg CEN_TGT_URGV t (twos 32 v)).wr l.reg CEN_TGT_URGAT t (s.now + 10000)
  else (s.wr l.reg CEN_TGT_PEND t 1).wr l.reg CEN_TGT_PENDV t (twos 32 v)

/-- The RANGE check of STEER_TARGET (R255). -/
def State.chkSteer (s : State) (l : LaneId) (angle : Int) : Option Rsp :=
  failIf (decide (angle.natAbs > s.rd l.reg CEN_TGT_MAX 0)) (rRange (CEN_TGT_MAX.id l.reg 0) 16)

/-- The effect of STEER_TARGET (R254, R255). -/
def State.effSteer (s : State) (l : LaneId) (h : Hdr) (angle : Int) : State := s.targetCmd l 0 angle h.urgent

/-- The RANGE check of BRAKE_DEMAND (R255). -/
def State.chkBrake (s : State) (l : LaneId) (f1 f2 f3 f4 : Nat) : Option Rsp :=
  firstFail ([f1, f2, f3, f4].zipIdx.map (fun p =>
    failIf (decide (p.1 > s.rd l.reg CEN_TGT_MAX (p.2 + 1))) (rRange (CEN_TGT_MAX.id l.reg (p.2 + 1)) (16 + 4 * p.2))))

/-- The effect of BRAKE_DEMAND (R254, R255). -/
def State.effBrake (s : State) (l : LaneId) (h : Hdr) (f1 f2 f3 f4 : Nat) : State :=
  (((s.targetCmd l 1 f1 h.urgent).targetCmd l 2 f2 h.urgent).targetCmd l 3 f3 h.urgent).targetCmd l 4 f4 h.urgent

/-- The targets 1 to 4 a HOLD or RELEASE names: bit 0 of its mask is target 1 (R255). -/
def targetsOf (mask : Nat) : List Nat := [1, 2, 3, 4].filter (fun t => mask.testBit (t - 1))

/-- A motor's speed lies above a speed in rpm: the electrical speed in mrad/s against n·pole pairs·2π/60 (R255). -/
def fasterThan (mrad : Int) (pairs rpm : Nat) : Bool :=
  decide ((mrad.natAbs : Rat) / 1000 > (rpm * pairs : Nat) * 2 * piQ / 60)

/-- A target with a configured bridge. -/
def State.targetDriven (s : State) (l : LaneId) (t : Nat) : Bool :=
  decide (s.rd l.reg CEN_TGT_BRIDGE t < 6) && s.bridgeUsed l (s.rd l.reg CEN_TGT_BRIDGE t)

/-- The motor of a bridge turns faster than `HOLD_SPEED` (R255). -/
def State.tooFast (s : State) (l : LaneId) (b : Nat) : Bool :=
  fasterThan (s.rdI l.reg OBS_SPEED b) (s.rd l.reg CMT_POLE_PAIRS b) (s.rd l.reg CEN_HOLD_SPEED)

/-- The RANGE check of HOLD: no named target's motor turns faster than `HOLD_SPEED`, naming its `OBS.SPEED` (R255). A
target of no bridge has no motor. -/
def State.chkHold (s : State) (l : LaneId) (mask : Nat) : Option Rsp :=
  firstFail ((targetsOf mask).map (fun t =>
    let b := s.rd l.reg CEN_TGT_BRIDGE t
    failIf (s.targetDriven l t && s.tooFast l b) (rRange (OBS_SPEED.id l.reg b) 16)))

/-- The RANGE check of RELEASE: every named target has a bridge (R255). -/
def State.chkRelease (s : State) (l : LaneId) (mask : Nat) : Option Rsp :=
  firstFail ((targetsOf mask).map (fun t => failIf (!s.targetDriven l t) (rRange (CEN_TGT_BRIDGE.id l.reg t) 16)))

end Sys2Proof.Machine
end

