-- ==== Sys2Proof/Machine/Rotor.lean ====
section
/-! DEFINITION. The rotor position of every bridge: the encoder, the observer, the peer reference, mutual supervision and
arbitration, the fallback after a loss of lock, the choice of the angle source with its blends, and what is delivered
(R182 to R202). -/

namespace Sys2Proof.Machine

open Par Var

/-! ### The encoder -/

/-- The FBI channel of a bridge's encoder (R183). -/
def State.encCh (s : State) (l : LaneId) (b : Nat) : Nat := s.rd l.reg OBS_ENC_SRC b

/-- FBI reports the encoder's position valid (R187, R312). -/
def State.encValid (s : State) (l : LaneId) (b : Nat) : Bool :=
  s.encCh l b < 8 && bit (s.rd l.reg FBI_FLAGS (s.encCh l b)) 0

/-- FBI reports the encoder's channel faulty (R192, R312). -/
def State.encFaulty (s : State) (l : LaneId) (b : Nat) : Bool :=
  s.encCh l b < 8 && s.rd l.reg FBI_STATE (s.encCh l b) == 2

/-- OBS has failed the encoder (R192). -/
def State.encFailed (s : State) (l : LaneId) (b : Nat) : Bool := bit (s.rd l.reg OBS_ENC_FAILED) b

/-- The encoder is usable: valid at FBI and neither failed nor set aside by the arbitration (R187, R191). -/
def State.encUsable (s : State) (l : LaneId) (b : Nat) : Bool :=
  s.encValid l b && !s.encFailed l b && !s.rdB l.reg OBS_ENC_OUT b

/-- The sense of an encoder (R184). -/
def State.encSense (s : State) (l : LaneId) (b : Nat) : Int := if s.rdB l.reg OBS_ENC_DIR b then -1 else 1

/-- The encoder angle of R184, to the nearest unit; 0 while no counts per turn are configured. -/
def State.encAngle (s : State) (l : LaneId) (b : Nat) : Nat :=
  let cpr := s.rd l.reg OBS_ENC_CPR b
  if cpr = 0 then 0
  else
    let c : Int := s.rdI l.reg FBI_POS (s.encCh l b) % (cpr : Int)
    let q : Rat := ((s.encSense l b * c * s.rd l.reg CMT_POLE_PAIRS b * 65536 : Int) : Rat) / (cpr : Rat)
    twos 16 (roundQ q + s.rd l.reg OBS_ENC_OFFSET b)

/-- The encoder speed in rad/s electrical, in the sense of the angle (R184). -/
def State.encSpeed (s : State) (l : LaneId) (b : Nat) : Rat :=
  let cpr := s.rd l.reg OBS_ENC_CPR b
  if cpr = 0 then 0
  else ((s.encSense l b * s.rdI l.reg FBI_SPEED (s.encCh l b) * s.rd l.reg CMT_POLE_PAIRS b : Int) : Rat) / 256 /
    (cpr : Rat) * 2 * piQ

/-- The encoder speed is valid (R184). -/
def State.encSpeedOk (s : State) (l : LaneId) (b : Nat) : Bool :=
  s.encUsable l b && bit (s.rd l.reg FBI_FLAGS (s.encCh l b)) 1

/-- An encoder failed: its bit until the lane's next start, its source (R192). -/
def State.failEncoder (s : State) (l : LaneId) (b : Nat) : State :=
  if s.encFailed l b then s else (s.wrBit l.reg OBS_ENC_FAILED 0 b true).raise l.reg 25

/-! ### Speeds and bands -/

/-- The rated electrical speed of a bridge in rad/s (R202). -/
def State.wRated (s : State) (l : LaneId) (b : Nat) : Rat :=
  ((s.rd l.reg OBS_W_RATED b * s.rd l.reg CMT_POLE_PAIRS b : Nat) : Rat) * 2 * piQ / 60

/-- A speed magnitude in rad/s is at least `k` thousandths of the rated speed. -/
def State.atLeast (s : State) (l : LaneId) (b : Nat) (w : Rat) (k : Nat) : Bool :=
  decide (absQ w * 1000 ≥ s.wRated l b * (k : Rat))

/-- A speed magnitude in rad/s is above `k` thousandths of the rated speed. -/
def State.above (s : State) (l : LaneId) (b : Nat) (w : Rat) (k : Nat) : Bool :=
  decide (absQ w * 1000 > s.wRated l b * (k : Rat))

/-- The band of a bridge after a period with the speed of the source in use (R187). -/
def State.band (s : State) (l : LaneId) (b : Nat) (w : Rat) : State :=
  if !s.atLeast l b w (s.rd l.reg OBS_SENS_BAND) then s.wr l.reg OBS_HIGH b 0
  else if s.above l b w (s.rd l.reg OBS_SENS_BAND + s.rd l.reg OBS_BAND_HYST) then s.wr l.reg OBS_HIGH b 1
  else s

/-! ### The observer (R185, R186) -/

/-- The observer of a bridge. -/
def State.obsr (s : State) (l : LaneId) (b : Nat) : Obsr := (s.bridge l b).obs

/-- The observer started or restarted from an angle and a speed, with the measured current (R185). -/
def State.obsStart (s : State) (l : LaneId) (b : Nat) (i : Vec) (th w : Rat) : State :=
  let psi := nano (s.rd l.reg CMT_PSI b : Nat)
  let u := roundQ th
  let o : Obsr := ⟨true, i.1, i.2, -(psi * w * sinU u), psi * w * cosU u, w, th, (s.obsr l b).ext⟩
  ((s.modBridge l b (fun x => { x with obs := o })).wr l.reg OBS_RUN_N b 0).wr l.reg OBS_INNOV_N b 0

/-- The PLL error of R185. With no back-EMF or no speed the quotient has no stated value: a free value (log 6). -/
def pllEps (e : Vec) (th w : Rat) (free : Rat) : Rat :=
  let den := sqrtQ e.sq * sgnQ w
  let u := roundQ th
  if den = 0 then free else (-(e.1 * cosU u) - e.2 * sinU u) / den

/-- One period of the observer: `i` the measured current, `v` the applied voltage less the coupling voltage; the result
with the innovation in amperes (R185). `bw` is the PLL bandwidth in Hz; `inj` replaces the PLL error while HFI is the
source (R196). -/
def State.obsPeriod (s : State) (l : LaneId) (b : Nat) (i v : Vec) (bw : Rat) (inj : Option Rat) : Obsr × Rat :=
  let o := s.obsr l b
  let t := s.periodSec l b
  let ind := (nano (s.rd l.reg CMT_LD b : Nat) + nano (s.rd l.reg CMT_LQ b : Nat)) / 2
  let rs : Rat := ((s.rd l.reg CMT_RS b : Nat) : Rat) / 1000000
  let ke : Rat := ((s.rd l.reg OBS_EMF_GAIN b : Nat) : Rat) / 65536
  let ih : Vec := (o.ia, o.ib)
  let e : Vec := (o.ea, o.eb)
  let pred := ih.add (Vec.scale (t / ind) ((v.add (Vec.scale (-rs) ih)).add (Vec.scale (-1) e)))
  let r := i.add (Vec.scale (-1) pred)
  let e := (e.turn (turned o.w t)).add (Vec.scale (-(ke * (ind / t))) r)
  let wn := 2 * piQ * bw
  let zeta : Rat := ((s.rd l.reg OBS_PLL_ZETA b : Nat) : Rat) / 100
  let eps := inj.getD (pllEps e o.th o.w (Config.freeRat 185 (8 * s.fv + b)))
  let w := o.w + wn * wn * eps * t
  let th := o.th + turned (w + 2 * zeta * wn * eps) t
  ({ o with ia := i.1, ib := i.2, ea := e.1, eb := e.2, w := w, th := th - 65536 * ((th / 65536).floor : Rat) },
    sqrtQ r.sq)

/-- The observer is confident (R186). -/
def State.confident (s : State) (l : LaneId) (b : Nat) : Bool :=
  (s.obsr l b).on && s.atLeast l b (s.obsr l b).w (s.rd l.reg OBS_OBS_MIN) && !s.rdB l.reg OBS_LOST b &&
    decide (s.rd l.reg OBS_RUN_N b ≥ s.rd l.reg OBS_REACQ)

/-- The observer's angle as a 16-bit value. -/
def State.obsAngle (s : State) (l : LaneId) (b : Nat) : Nat := twos 16 (roundQ (s.obsr l b).th)

/-! ### The peer reference (R190) -/

/-- The index of a peer in the pair parameters of a bridge: 2b + 0 for the lower-lettered, 2b + 1 for the higher (R168). -/
def pairIdx (l p : LaneId) (b : Nat) : Nat :=
  2 * b + (if (l.peers.filter (fun x => decide (x.reg < p.reg))).isEmpty then 0 else 1)

/-- A peer's frame can serve: the peer is not MISSING, leaving or LOST; one whose RELINQUISH has come is leaving before a frame of it says so
(R125, R169, R190). -/
def State.peerFrame (s : State) (l p : LaneId) : Option ExchFrame :=
  if s.rdB l.reg VOT_LOST p.reg || s.rdB l.reg VOT_MISSING p.reg || s.rdB l.reg STF_RELINQ p.reg then none
  else match (s.lane l).vot.frame p with
    | some f => if f.vstate = 3 then none else some f
    | none => none

/-- The reference angles of a bridge, one for each peer that gives one, carried on by T, the bridge's PWM period (R185, R190). -/
def State.refAngles (s : State) (l : LaneId) (b : Nat) : List Int :=
  (s.peersOf l).filterMap (fun p =>
    match s.peerFrame l p with
    | some f =>
      if (f.vstate = 1 ∨ f.vstate = 2) ∧ bit f.angleValid b then
        some (roundQ ((f.angles.getD b 0 : Nat) - (s.rd l.reg CMT_SET_OFFSET (pairIdx l p b) : Nat) +
          turned (s.omega l b) (s.periodSec l b)))
      else none
    | none => none)

/-- The peer reference: the circular mean of two that agree within AGREE_WIN, or the one (R190). -/
def State.peerRef (s : State) (l : LaneId) (b : Nat) : Option Int :=
  match s.refAngles l b with
  | [a] => some (a % 65536)
  | a :: c :: _ =>
    let d := angDiff c a
    if d.natAbs ≤ s.rd l.reg OBS_AGREE_WIN then some ((a + roundQ ((d : Rat) / 2)) % 65536) else none
  | [] => none

/-- Two angles lie within a window of each other. -/
def within (a b : Int) (win : Nat) : Bool := decide ((angDiff a b).natAbs ≤ win)

/-! ### Loss of lock (R193 to R195) -/

/-- Step 2 of the fallback: the held speed and the delivered angle carried on (R194). -/
def State.extrapolate (s : State) (l : LaneId) (b : Nat) : State :=
  let a : Rat := ((s.rd l.reg OBS_ANGLE b : Nat) : Rat) + turned (s.omega l b) (s.periodSec l b)
  let s := s.wrI l.reg OBS_EXT_W b (s.rdI l.reg OBS_SPEED b)
  let i : Vec := ((s.obsr l b).ia, (s.obsr l b).ib)
  let s := s.modBridge l b (fun x => { x with obs := { x.obs with ext := a } })
  ((s.obsStart l b i a (s.omega l b)).bump l.reg OBS_CNT_EXTRAP b).wr l.reg OBS_SRC b 3

/-- Step 1 of the fallback: the encoder is the source at once and the observer restarts from it (R194). -/
def State.fallEncoder (s : State) (l : LaneId) (b : Nat) : State :=
  let i : Vec := ((s.obsr l b).ia, (s.obsr l b).ib)
  (s.obsStart l b i ((s.encAngle l b : Nat) : Rat) (s.encSpeed l b)).wr l.reg OBS_SRC b 1

/-- The record of a declaration or of its end: cause, outcome, time in fallback in units of 25 µs, cycle (R202). -/
def State.stampLoss (s : State) (l : LaneId) (b cause outcome : Nat) : State :=
  let dt := satNat 12 ((s.now - s.rd l.reg OBS_LOSS_AT b) / 25000)
  s.wr l.reg OBS_LAST_LOCKLOSS b (withCycle (cause + 4 * outcome + 16 * dt) (s.cycle l))

/-- A declaration of lost: counted, recorded, its source asserted; the encoder if it is usable, else extrapolation, in
the same compute period (R193, R194). -/
def State.declareLost (s : State) (l : LaneId) (b cause : Nat) : State :=
  if s.rdB l.reg OBS_LOST b then s
  else
    let s := ((s.wr l.reg OBS_LOST b 1).wr l.reg OBS_LOSS_AT b s.now).bump l.reg OBS_CNT_LOCKLOSS b
    let s := ((s.wr l.reg OBS_CLEAN_N b 0).wr l.reg OBS_BLEND_N b 0).raise l.reg 26
    let enc := s.encUsable l b
    let s := s.stampLoss l b cause (if enc then 1 else 0)
    if enc then s.fallEncoder l b else s.extrapolate l b

/-- Innovation: watched while the observer is the source; above its limit for INNOV_PERSIST periods it is lost (R193). -/
def State.watchInnov (s : State) (l : LaneId) (b : Nat) : State :=
  if s.rd l.reg OBS_SRC b ≠ 0 ∨ s.rdB l.reg OBS_LOST b then s.wr l.reg OBS_INNOV_N b 0
  else if s.rd l.reg OBS_INNOV b > s.rd l.reg OBS_INNOV_LIM b then
    let n := s.rd l.reg OBS_INNOV_N b + 1
    let s := s.wr l.reg OBS_INNOV_N b n
    if n ≥ s.rd l.reg OBS_INNOV_PERSIST then s.declareLost l b 1 else s
  else s.wr l.reg OBS_INNOV_N b 0

/-- A clean period of the fallback: the innovation within its limit, and the observer within AGREE_WIN of the encoder in
step 1, of the peer reference where one exists in step 2 (R194). -/
def State.cleanPeriod (s : State) (l : LaneId) (b : Nat) : Bool :=
  decide (s.rd l.reg OBS_INNOV b ≤ s.rd l.reg OBS_INNOV_LIM b) &&
    (if s.rd l.reg OBS_SRC b = 3 then
      match s.peerRef l b with
      | some r => within (s.obsAngle l b) r (s.rd l.reg OBS_AGREE_WIN)
      | none => true
    else s.encValid l b && within (s.obsAngle l b) (s.encAngle l b) (s.rd l.reg OBS_AGREE_WIN))

/-- The observer reacquired after REACQ clean periods in a row (R194). -/
def State.reacquire (s : State) (l : LaneId) (b : Nat) : State :=
  if !s.rdB l.reg OBS_LOST b then s
  else if s.cleanPeriod l b then
    let n := s.rd l.reg OBS_CLEAN_N b + 1
    let s := s.wr l.reg OBS_CLEAN_N b n
    if n ≥ s.rd l.reg OBS_REACQ then
      let s := s.stampLoss l b (bits (s.rd l.reg OBS_LAST_LOCKLOSS b) 1 0) (if s.rd l.reg OBS_SRC b = 3 then 2 else 1)
      (s.wr l.reg OBS_LOST b 0).wr l.reg OBS_ENC_OUT b 0
    else s
  else s.wr l.reg OBS_CLEAN_N b 0

/-! ### Supervision (R191, R192) -/

/-- The arbitration of observer and encoder beyond LOCK_WIN (R191). -/
def State.arbitrate (s : State) (l : LaneId) (b : Nat) : State :=
  let win := s.rd l.reg OBS_AGREE_WIN
  match s.peerRef l b with
  | some r =>
    let o := within (s.obsAngle l b) r win
    let e := within (s.encAngle l b) r win
    if s.rdB l.reg OBS_HIGH b then
      if e then s.declareLost l b 2
      else if o then s.failEncoder l b
      else (s.wr l.reg OBS_ENC_OUT b 1).declareLost l b 2
    else if e then s.bump l.reg OBS_CNT_DISAGREE b
    else s.failEncoder l b
  | none => if s.rdB l.reg OBS_HIGH b then s.declareLost l b 2 else s.bump l.reg OBS_CNT_DISAGREE b

/-- The comparison of a confident observer with an encoder valid at FBI (R191). -/
def State.compareSources (s : State) (l : LaneId) (b : Nat) : State :=
  if !(s.confident l b && s.encValid l b) then s.wr l.reg OBS_DIS_N b 0
  else
    let d := angDiff (s.obsAngle l b) (s.encAngle l b)
    let s := s.wrI l.reg OBS_DIFF b d
    if d.natAbs > s.rd l.reg OBS_LOCK_WIN then s.arbitrate l b
    else if d.natAbs > s.rd l.reg OBS_AGREE_WIN then
      let n := s.rd l.reg OBS_DIS_N b + 1
      let s := s.wr l.reg OBS_DIS_N b (satNat 16 n)
      if n = s.rd l.reg OBS_AGREE_PERSIST then (s.bump l.reg OBS_CNT_DISAGREE b).raise l.reg 24 else s
    else s.wr l.reg OBS_DIS_N b 0

/-- The encoder failed on two peers or by FBI (R192). -/
def State.checkEncoder (s : State) (l : LaneId) (b : Nat) : State :=
  if s.encFaulty l b then s.failEncoder l b
  else
    let two := decide ((s.refAngles l b).length = 2)
    let far := match s.peerRef l b with
      | some r => two && s.encValid l b && !within (s.encAngle l b) r (s.rd l.reg OBS_LOCK_WIN)
      | none => false
    if far && !s.rdB l.reg OBS_HIGH b then
      let n := s.rd l.reg OBS_FAR_N b + 1
      let s := s.wr l.reg OBS_FAR_N b (satNat 16 n)
      if n ≥ s.rd l.reg OBS_AGREE_PERSIST then s.failEncoder l b else s
    else s.wr l.reg OBS_FAR_N b 0

/-! ### The source and what is delivered (R187 to R189) -/

/-- The source the table of R187 gives a bridge in RUN; none where the bridge is withdrawn. In the high band with an
observer that has not yet run REACQ periods the table has no row: the encoder if it is usable, else the observer. -/
def State.sourceOf (s : State) (l : LaneId) (b : Nat) : Option Nat :=
  let enc := s.encUsable l b
  let lost := s.rdB l.reg OBS_LOST b
  if s.rdB l.reg OBS_HIGH b then
    if lost then (if enc then some 1 else some 3)
    else if s.confident l b then some 0 else if enc then some 1 else some 0
  else if enc then some 1
  else if s.rdB l.reg OBS_HFI_EN b then some 2
  else if lost then some 3
  else if s.atLeast l b (s.obsr l b).w (s.rd l.reg OBS_OBS_MIN) then some 0 else none

/-- A change of source is made at once: the observer was declared lost, the encoder failed, or extrapolation begins
(R188). -/
def State.atOnce (s : State) (l : LaneId) (b new : Nat) : Bool :=
  let old := s.rd l.reg OBS_SRC b
  new == 3 || (old == 0 && s.rdB l.reg OBS_LOST b) || (old == 1 && !s.encUsable l b)

/-- An HFI alignment begins (R198). -/
def State.beginAlign (s : State) (l : LaneId) (b : Nat) : State := (s.wr l.reg OBS_ALIGN b 1).wr l.reg OBS_ALIGN_N b 0

/-- The alignment of a bridge is in its polarity test: the PLL has converged and holds its axis. The spec states no rule by which it is found
converged: after a free number of periods (R198; log 74). -/
def State.polarityOn (s : State) (l : LaneId) (b : Nat) : Bool :=
  s.rdB l.reg OBS_ALIGN b && decide (s.rd l.reg OBS_ALIGN_N b ≥ Config.free 198 (8 * l.reg + b))

/-- HFI becomes the source: from a valid angle it takes angle and polarity of the source it replaces, carried on to this valley; with none it
first aligns (R198). -/
def State.enterHfi (s : State) (l : LaneId) (b : Nat) : State :=
  let s := (s.bump l.reg OBS_CNT_HFI b).modBridge l b (fun x => { x with hfi := [] })
  if s.rdB l.reg OBS_ANGLE_OK b then
    s.obsStart l b ((s.obsr l b).ia, (s.obsr l b).ib) (((s.rd l.reg OBS_ANGLE b : Nat) : Rat) + turned (s.omega l b) (s.periodSec l b)) (s.omega l b)
  else s.beginAlign l b

/-- The source changed, with a blend unless the change is made at once; entries into HFI and extrapolation are counted
(R188, R198, R202). -/
def State.setSource (s : State) (l : LaneId) (b new : Nat) : State :=
  let old := s.rd l.reg OBS_SRC b
  if old = new then s
  else
    let now := s.atOnce l b new
    let s := s.wr l.reg OBS_BLEND_N b (if now then 0 else s.rd l.reg OBS_BLEND)
    let s := (s.wr l.reg OBS_BLEND_SRC b old).wr l.reg OBS_SRC b new
    if new = 2 then s.enterHfi l b else if new = 3 then s.extrapolate l b else s

/-- The angle of a source (R187). -/
def State.angleOf (s : State) (l : LaneId) (b src : Nat) : Nat :=
  match src with
  | 1 => s.encAngle l b
  | 3 => twos 16 (roundQ (s.obsr l b).ext)
  | _ => s.obsAngle l b

/-- The speed of a source in rad/s (R187, R194). -/
def State.speedOf (s : State) (l : LaneId) (b src : Nat) : Rat :=
  match src with
  | 1 => s.encSpeed l b
  | 3 => milli (s.rdI l.reg OBS_EXT_W b)
  | _ => (s.obsr l b).w

/-- The delivered angle during a blend of which `n` periods are left: linear from the old source to the new (R188). -/
def blended (new old n len : Nat) : Nat :=
  if n = 0 ∨ len = 0 then new
  else twos 16 ((new : Int) + roundQ ((angDiff old new : Rat) * (n : Rat) / (len : Rat)))

/-- What OBS delivers for a bridge in RUN: angle, speed and their valid bits (R188, R189). -/
def State.deliverAngle (s : State) (l : LaneId) (b : Nat) : State :=
  let src := s.rd l.reg OBS_SRC b
  let n := s.rd l.reg OBS_BLEND_N b - 1
  let a := blended (s.angleOf l b src) (s.angleOf l b (s.rd l.reg OBS_BLEND_SRC b)) n (s.rd l.reg OBS_BLEND)
  let w := s.speedOf l b src
  let align := s.rdB l.reg OBS_ALIGN b
  let aok := src == 1 && s.encUsable l b || src == 0 && s.confident l b || src == 2 && !align
  let wok := src == 1 && s.encSpeedOk l b || src == 0 && s.confident l b || src == 2 && !align || src == 3
  let s := ((s.wr l.reg OBS_ANGLE b a).wrI l.reg OBS_SPEED b (satInt 32 (roundQ (w * 1000)))).wr l.reg OBS_BLEND_N b n
  (s.wrB l.reg OBS_ANGLE_OK b aok).wrB l.reg OBS_SPEED_OK b wok

/-- What OBS delivers for a bridge in SHORT: the encoder alone (R189, R199). -/
def State.deliverShort (s : State) (l : LaneId) (b : Nat) : State :=
  if s.encUsable l b then
    let s := (s.wr l.reg OBS_ANGLE b (s.encAngle l b)).wrI l.reg OBS_SPEED b (satInt 32 (roundQ (s.encSpeed l b * 1000)))
    ((s.wr l.reg OBS_ANGLE_OK b 1).wrB l.reg OBS_SPEED_OK b (s.encSpeedOk l b)).wr l.reg OBS_SRC b 1
  else (s.wr l.reg OBS_ANGLE_OK b 0).wr l.reg OBS_SPEED_OK b 0

/-- The state OBS reports for a bridge (R202). -/
def State.obsState (s : State) (l : LaneId) (b : Nat) : Nat :=
  if !s.bridgeUsed l b then 0
  else match s.rd l.reg CMT_STATE b with
    | 1 => 2
    | 2 =>
      if s.rdB l.reg OBS_ALIGN b then 3
      else if s.rdB l.reg OBS_LOST b then (if s.rd l.reg OBS_SRC b = 3 then 8 else 7)
      else match s.rd l.reg OBS_SRC b with
        | 0 => 5 | 1 => 4 | 2 => 6 | _ => 8
    | 5 => 0
    | st => if s.rdB l.reg OBS_GONE b then 9 else if st = 4 then 0 else 1

/-- The reported state brought up to date. -/
def State.obsReport (s : State) (l : LaneId) (b : Nat) : State := s.wr l.reg OBS_STATE b (s.obsState l b)

/-- An angle and a speed delivered without their valid bits (R189); with none to deliver the values stay (DESIGN CHOICE, log 74). -/
def State.deliverUnsure (s : State) (l : LaneId) (b : Nat) (r : Option (Nat × Rat)) : State :=
  let s := (s.wr l.reg OBS_ANGLE_OK b 0).wr l.reg OBS_SPEED_OK b 0
  match r with
  | some v => (s.wr l.reg OBS_ANGLE b v.1).wrI l.reg OBS_SPEED b (satInt 32 (roundQ (v.2 * 1000)))
  | none => s

/-! ### One period of a bridge in RUN -/

/-- The PLL bandwidth in Hz, doubled during extrapolation (R185, R194). -/
def State.pllBw (s : State) (l : LaneId) (b : Nat) : Rat :=
  ((s.rd l.reg OBS_PLL_BW b * (if s.rd l.reg OBS_SRC b = 3 then 2 else 1) : Nat) : Rat)

/-- The injection sine of HFI at the latest load point of a bridge. Its phase against package time is not stated: a free value (R196,
log 6). -/
def State.hfiSin (s : State) (l : LaneId) (b : Nat) : Rat :=
  sinU (roundQ (((s.rd l.pow GDR_LOAD_AT b % 1000000 : Nat) : Rat) * 65536 / 1000000) + (Config.free 196 l.reg : Nat))

/-- The sampled q-axis current of a bridge demodulated with the injection sine, in the window of one carrier period of 1 ms (R196). -/
def State.hfiStep (s : State) (l : LaneId) (b : Nat) (i : Vec) : State :=
  let q := (i.turn (-(s.obsr l b).th)).2 * s.hfiSin l b
  let n := (1600000 + s.rd l.reg CMT_PWM_PERIOD b - 1) / s.rd l.reg CMT_PWM_PERIOD b
  s.modBridge l b (fun x => { x with hfi := (x.hfi ++ [q]).drop (x.hfi.length + 1 - n) })

/-- The moving average that takes the place of the PLL error while HFI is the source; R196 states no scale (log 6). -/
def State.hfiAvg (s : State) (l : LaneId) (b : Nat) : Rat :=
  let w := (s.bridge l b).hfi
  Config.hfiScale * w.foldl (fun a q => a + q) 0 / ((max 1 w.length : Nat) : Rat)

/-- An innovation in amperes as `OBS.INNOV` shows it, in I_FS / 32,768 over 16 bits without sign (R185, R193, R202). -/
def State.innovCode (s : State) (l : LaneId) (b : Nat) (r : Rat) : Nat :=
  if s.rd l.reg CMT_I_FS b = 0 then 0 else satNat 16 (roundQ (r * 32768 / s.iFs l b)).toNat

/-- What takes the place of the PLL error in a period: the average of HFI while it is the source, nothing to correct while the polarity test
holds the axis (R196, R198). -/
def State.hfiInput (s : State) (l : LaneId) (b : Nat) : Option Rat :=
  if s.rd l.reg OBS_SRC b ≠ 2 then none else if s.polarityOn l b then some 0 else some (s.hfiAvg l b)

/-- The observer of a bridge in RUN over one period with valid samples: `i` the measured current in the stationary frame, the voltage that of
the period that has just ended; its innovation reported and watched (R185, R193). While HFI is the source its average takes the place of
the PLL error (R196). -/
def State.obsRun (s : State) (l : LaneId) (b : Nat) (i : Vec) : State :=
  let x := s.bridge l b
  let v : Vec := (x.vaOld - x.ca, x.vbOld - x.cb)
  let s := if s.rd l.reg OBS_SRC b = 2 ∧ !s.polarityOn l b then s.hfiStep l b i else s
  let r := s.obsPeriod l b i v (s.pllBw l b) (s.hfiInput l b)
  let s := (s.modBridge l b (fun x => { x with obs := r.1 })).wr l.reg OBS_RUN_N b (satNat 16 (s.rd l.reg OBS_RUN_N b + 1))
  (s.wr l.reg OBS_INNOV b (s.innovCode l b r.2)).watchInnov l b

/-- The observer over a period whose samples are invalid: the angle carried on at its speed; the innovation neither adds
to the count nor resets it (R167, R193). -/
def State.obsCoast (s : State) (l : LaneId) (b : Nat) : State :=
  s.modBridge l b (fun x => { x with obs := { x.obs with th := x.obs.th + turned x.obs.w (s.periodSec l b) } })

/-- The extrapolated angle carried on at the held speed, also while it is the old source of a blend (R188, R194). -/
def State.extStep (s : State) (l : LaneId) (b : Nat) : State :=
  if s.rd l.reg OBS_SRC b = 3 ∨ (s.rd l.reg OBS_BLEND_N b > 0 ∧ s.rd l.reg OBS_BLEND_SRC b = 3) then
    s.modBridge l b (fun x => { x with obs :=
      { x.obs with ext := x.obs.ext + turned (milli (s.rdI l.reg OBS_EXT_W b)) (s.periodSec l b) } })
  else s

/-- The position of a bridge in RUN at a compute start: the observer, its supervision, the band, the source, the angle
delivered; the second component tells that the table of R187 withdraws the bridge. `i` is the measured current, none in
an invalid period. -/
def State.rotorRun (s : State) (l : LaneId) (b : Nat) (i : Option Vec) : State × Bool :=
  let s := s.extStep l b
  let s := s.wr l.reg OBS_ENC_ANGLE b (s.encAngle l b)
  let s := match i with
    | some i => s.obsRun l b i
    | none => s.obsCoast l b
  let s := ((s.compareSources l b).checkEncoder l b).reacquire l b
  let s := s.band l b (s.speedOf l b (s.rd l.reg OBS_SRC b))
  if s.rdB l.reg OBS_ALIGN b then ((s.wr l.reg OBS_ALIGN_N b (satNat 32 (s.rd l.reg OBS_ALIGN_N b + 1))).deliverAngle l b, false)
  else match s.sourceOf l b with
    | some n => (((s.setSource l b n).deliverAngle l b).obsReport l b, false)
    | none => (s.deliverAngle l b, true)

/-- The position of a bridge that is not in RUN: in SHORT the encoder's; else, without valid bits, what `found` its tracking shows, and the
encoder's where that shows none (R182, R189, R200). -/
def State.rotorIdle (s : State) (l : LaneId) (b : Nat) (found : Option (Nat × Rat)) : State :=
  let s := (s.wr l.reg OBS_ENC_ANGLE b (s.encAngle l b)).checkEncoder l b
  let enc := if s.encUsable l b then some (s.encAngle l b, s.encSpeed l b) else none
  (if s.rd l.reg CMT_STATE b = 4 then s.deliverShort l b else s.deliverUnsure l b (found.or enc)).obsReport l b

/-! ### Entry into RUN -/

/-- The current of a bridge by its latest samples, in the stationary frame (R158, R226). -/
def State.measuredI (s : State) (l : LaneId) (b : Nat) : Vec :=
  let u := s.amps l b (sgn 16 (s.rd l.pow ADC_RESULT (7 * b)))
  let v := s.amps l b (sgn 16 (s.rd l.pow ADC_RESULT (7 * b + 1)))
  (u, (u + 2 * v) / sqrt3)

/-- OBS as a bridge enters RUN: the observer starts from an angle and a speed with the measured current, the loss and its
fallback are over (R185). -/
def State.obsEnter (s : State) (l : LaneId) (b src : Nat) (th w : Rat) : State :=
  let s := (s.obsStart l b (s.measuredI l b) th w).wr l.reg OBS_SRC b src
  let s := ((s.wr l.reg OBS_LOST b 0).wr l.reg OBS_ENC_OUT b 0).wr l.reg OBS_GONE b 0
  let s := ((s.wr l.reg OBS_BLEND_N b 0).wr l.reg OBS_DIS_N b 0).wr l.reg OBS_CLEAN_N b 0
  let s := s.band l b w
  let s := (s.wr l.reg OBS_ANGLE b (twos 16 (roundQ th))).wrI l.reg OBS_SPEED b (satInt 32 (roundQ (w * 1000)))
  s.obsReport l b

end Sys2Proof.Machine
end

