-- ==== Sys2Proof/Machine/Tracking.lean ====
section
/-! DEFINITION. The rotor of a bridge whose switches are off: the coupling voltages of its peers, the collection of back-EMF samples,
their fit and the class of the result (R168, R199, R200). -/

namespace Sys2Proof.Machine

open Par Var

/-! ### Coupling (R168) -/

/-- A frame's dq current of a bridge in amperes. -/
def State.frameDq (s : State) (l : LaneId) (b : Nat) (f : ExchFrame) : Vec :=
  (s.amps l b (f.idq.getD (2 * b) 0), s.amps l b (f.idq.getD (2 * b + 1) 0))

/-- The coupling voltage of one peer in dq at speed `w`: speed terms, and derivative terms where they count (R168). -/
def State.cplTerms (s : State) (l p : LaneId) (b : Nat) (w : Rat) (deriv : Bool) : Vec :=
  let i := pairIdx l p b
  let off : Rat := ((s.rd l.reg CMT_SET_OFFSET i : Nat) : Rat)
  let md := nano (s.rdI l.reg CMT_CPL_LD i)
  let mq := nano (s.rdI l.reg CMT_CPL_LQ i)
  match (s.lane l).vot.frame p with
  | none => (0, 0)
  | some f =>
    let c := (s.frameDq l b f).turn off
    let c0 := match (s.lane l).vot.prev p with
      | some g => (s.frameDq l b g).turn off
      | none => c
    let d : Vec := if deriv then Vec.scale (1 / s.baseSec l) (c.add (Vec.scale (-1) c0)) else (0, 0)
    (-(w * mq * c.2) + md * d.1, w * md * c.1 + mq * d.2)

/-! ### The fit (R199) -/

/-- The angles of some back-EMF samples unwrapped from the one before, with their times in seconds from `t0`. -/
def unwrap (t0 : Nat) : Option Rat → List TrackPt → List (Rat × Rat)
  | _, [] => []
  | last, p :: ps =>
    let u : Int := (atan2U p.eb p.ea : Nat)
    let y : Rat := match last with
      | none => (u : Rat)
      | some a => ((roundQ a + angDiff u (roundQ a) : Int) : Rat)
    ((((p.t : Int) - (t0 : Int) : Int) : Rat) / 1000000000, y) :: unwrap t0 (some y) ps

/-- A sum over some points. -/
def sumOver (f : Rat × Rat → Rat) (ps : List (Rat × Rat)) : Rat := ps.foldl (fun a p => a + f p) 0

/-- A straight line through angle samples by least squares: slope in 1/65,536 turn per second, value at time 0, mean square residual. -/
structure Fit where
  slope : Rat
  value : Rat
  msq : Rat

/-- The least-squares line; slope 0 where the samples have one time only. -/
def fitLine (ps : List (Rat × Rat)) : Fit :=
  let n : Rat := ((max 1 ps.length : Nat) : Rat)
  let sx := sumOver (fun p => p.1) ps
  let sy := sumOver (fun p => p.2) ps
  let det := n * sumOver (fun p => p.1 * p.1) ps - sx * sx
  let k := if det = 0 then 0 else (n * sumOver (fun p => p.1 * p.2) ps - sx * sy) / det
  let a := (sy - k * sx) / n
  ⟨k, a, sumOver (fun p => (p.2 - a - k * p.1) * (p.2 - a - k * p.1)) ps / n⟩

/-- The collection of a bridge. -/
def State.trackPts (s : State) (l : LaneId) (b : Nat) : List TrackPt := (s.bridge l b).track

/-- The time of the last sample of a collection. -/
def lastTime (ps : List TrackPt) : Nat := (ps.getLast?.map TrackPt.t).getD 0

/-- The fit of a bridge's collection, at the time of its last sample. -/
def State.trackFit (s : State) (l : LaneId) (b : Nat) : Fit :=
  fitLine (unwrap (lastTime (s.trackPts l b)) none (s.trackPts l b))

/-- The fitted speed in rad/s electrical; its sign is the direction of rotation. -/
def Fit.speed (f : Fit) : Rat := f.slope * 2 * piQ / 65536

/-- The rotor angle at the last sample: the back-EMF leads it by a quarter turn forward and lags it backward (R185). -/
def Fit.angle (f : Fit) : Nat := twos 16 (roundQ (f.value - 16384 * sgnQ f.slope))

/-! ### The class (R200) -/

/-- The base period in ns. -/
def State.basePeriodNs (s : State) (l : LaneId) : Rat := (s.basePeriod l : Rat) * 5 / 8

/-- The samples of a time in ns, at least one. -/
def State.samplesIn (s : State) (l : LaneId) (ns : Rat) : Nat := max 1 (ns / s.basePeriodNs l).ceil.toNat

/-- The capture length in samples: two electrical periods at the fitted speed, between 1 ms and `CAP_MAX` (R200). -/
def State.capSamples (s : State) (l : LaneId) (k : Rat) : Nat :=
  let most : Rat := ((s.rd l.reg OBS_CAP_MAX * 1000 : Nat) : Rat)
  s.samplesIn l (if k = 0 then most else clampQ 1000000 most (131072 * 1000000000 / absQ k))

/-- The result of a bridge's tracking: whether the collection covers the capture length, class 1 VALID, 2 STILL, 3 FAILED, the angle and
the speed of the fit, and the back-EMF at the last sample in dq (R200, R201). -/
structure Tracking where
  covers : Bool
  cls : Nat
  angle : Nat
  speed : Rat
  emf : Vec

/-- The last sample of a collection as a vector. -/
def lastEmf (ps : List TrackPt) : Vec := (ps.getLast?.map (fun p => (p.ea, p.eb))).getD (0, 0)

/-- The class of the samples `w` of the capture length with the fit `f`: FAILED where more than half are clipped; VALID with every magnitude
at least `emin` volts and a residual of at most 2° rms; STILL with every magnitude below it; else FAILED (R200). -/
def trackClass (w : List TrackPt) (f : Fit) (emin : Rat) : Nat :=
  let mag (p : TrackPt) : Rat := p.ea * p.ea + p.eb * p.eb
  if (w.filter TrackPt.clip).length * 2 > w.length then 3
  else if w.all (fun p => decide (mag p ≥ emin * emin)) && decide (f.msq * 180 * 180 ≤ 65536 * 65536) then 1
  else if w.all (fun p => decide (mag p < emin * emin)) then 2 else 3

/-- The tracking result of a bridge as it stands (R199, R200). -/
def State.tracking (s : State) (l : LaneId) (b : Nat) : Tracking :=
  let ps := s.trackPts l b
  let f := s.trackFit l b
  let m := s.capSamples l f.slope
  let cls := trackClass (ps.drop (ps.length - m)) f (milli (s.rd l.reg OBS_CAP_EMF_MIN b : Nat))
  ⟨decide (ps.length ≥ m), cls, f.angle, f.speed, (lastEmf ps).turn (-((f.angle : Nat) : Rat))⟩

/-- The angle and the speed of a tracking result: those of the fit where it is VALID (R200). -/
def State.tracked (s : State) (l : LaneId) (b : Nat) : Option (Nat × Rat) :=
  let r := s.tracking l b
  if r.covers ∧ r.cls = 1 then some (r.angle, r.speed) else none

/-! ### The collection (R199) -/

/-- The coupling voltages that the peers in RUN induce in a bridge whose switches are off, in the stationary frame: its angle is taken as
each peer reports it, its speed from the fit so far (R168, R185, R199; DEDUCED, log 71). -/
def State.trackCpl (s : State) (l : LaneId) (b : Nat) (w : Rat) : Vec :=
  (s.peersOf l).foldl (fun (a : Vec) p =>
    match s.peerFrame l p with
    | some f =>
      if bit f.active b && bit f.angleValid b then
        a.add ((s.cplTerms l p b w true).turn (((f.angles.getD b 0 : Nat) : Rat) - ((s.rd l.reg CMT_SET_OFFSET (pairIdx l p b) : Nat) : Rat)))
      else a
    | none => a) (0, 0)

/-- A phase-voltage code in volts (R228). -/
def phaseVolts (c : Int) : Rat := (c : Rat) * 1144 / 1000000

/-- A sample of the three phase voltages as a point of the tracking: line-to-line voltages less the coupling voltages as the back-EMF
vector; clipped where a line-to-line voltage reaches 0.98 times the DC link (R199, R200). -/
def State.trackPoint (s : State) (l : LaneId) (x : BridgeSample) (t : Nat) : TrackPt :=
  let uv : Int := (x.vu : Int) - x.vv
  let vw : Int := (x.vv : Int) - x.vw
  let wu : Int := (x.vw : Int) - x.vu
  let c := s.trackCpl l x.b (s.trackFit l x.b).speed
  let clip := [uv, vw, wu].any (fun v => decide (v.natAbs * 100 ≥ x.vdc * 98))
  ⟨t, phaseVolts (uv - wu) / 3 - c.1, phaseVolts vw / sqrt3 - c.2, clip⟩

/-- A sample added to the collection of a bridge with its switches off; samples older than the longest capture length serve no rule and are
dropped; in a bridge that is OFF or FREE a change of the class between STILL and VALID begins it anew (R199, log 71); in CAPTURE the first
collection that covers the capture length ends the capture (R201). -/
def State.trackStep (s : State) (l : LaneId) (x : BridgeSample) (t : Nat) : State :=
  if !x.arrives then s
  else
    let p := s.trackPoint l x t
    let most := s.samplesIn l ((s.rd l.reg OBS_CAP_MAX * 1000 : Nat) : Rat)
    let s := s.modBridge l x.b (fun y => { y with track := (y.track ++ [p]).drop (y.track.length + 1 - most) })
    let r := s.tracking l x.b
    let old := s.rd l.reg OBS_TRACK x.b
    if !r.covers ∨ r.cls = 3 then s
    else
      let s := s.wr l.reg OBS_TRACK x.b r.cls
      if old ≠ 0 ∧ old ≠ r.cls ∧ s.rd l.reg CMT_STATE x.b ≠ 1 then s.trackRestart l x.b else s

end Sys2Proof.Machine
end

