-- ==== Sys2Proof/Machine/Drive.lean ====
section
/-! DEFINITION. The winding drive: weights and shares, the current limit with boost, coupling, one control period of a
bridge from samples to edges, withdrawal, starting and stopping, capture, precharge and alignment (R150 to R181, R196 to
R201, R212, R554). -/

namespace Sys2Proof.Machine

open Par Var

/-! ### Weights (R170, R171) -/

/-- What the compute start finds of a peer's weight: the new weight, whether it is 0 only through MISSING, and the cause
of a fall, 6 of a return, 0 of neither (R171, R181). -/
structure WeightStep where
  w : Rat
  miss : Bool
  cause : Nat

/-- One step of a weight ramp (R171). -/
def State.rampStep (s : State) (l : LaneId) : Rat := 1 / ((s.rd l.reg CMT_SHARE_RAMP : Nat) : Rat)

/-- A peer's weight for a bridge at a compute start, from what it was (R171). -/
def State.peerWeight (s : State) (l p : LaneId) (b : Nat) (old : Rat) (miss : Bool) : WeightStep :=
  let fall (c : Nat) : WeightStep := ⟨0, false, if old > 0 then c else 0⟩
  if s.rdB l.reg STF_RELINQ p.reg then fall 1
  else match (s.lane l).vot.frame p with
    | none => ⟨0, false, 0⟩
    | some f =>
      if f.vstate = 3 then fall 2
      else if s.rdB l.reg VOT_LOST p.reg then fall 4
      else if s.rdB l.reg VOT_MISSING p.reg then ⟨0, miss || decide (old > 0), if old > 0 then 3 else 0⟩
      else if !bit f.active b then fall 5
      else if miss then ⟨1, false, 6⟩
      else if f.vstate = 2 then ⟨min 1 (old + s.rampStep l), false, 0⟩
      else ⟨old, false, 0⟩

/-- The weight a bridge keeps of a peer, with its MISSING mark. -/
def Bridge.peer (x : Bridge) (hi : Bool) : Rat × Bool := if hi then (x.wHi, x.missHi) else (x.wLo, x.missLo)

/-- A peer is the higher-lettered of a lane's two. -/
def isHi (l p : LaneId) : Bool := pairIdx l p 0 == 1

/-- The weight of a peer replaced. -/
def Bridge.setPeer (x : Bridge) (hi : Bool) (w : WeightStep) : Bridge :=
  if hi then { x with wHi := w.w, missHi := w.miss } else { x with wLo := w.w, missLo := w.miss }

/-- A weight change that `LAST_RESCALE` records: the peer, the cause, the bridges affected (R174, R181). -/
structure Rescale where
  peer : LaneId
  cause : Nat
  mask : Nat

/-- The weights of one peer over every configured bridge, with the falls and the returns found. Bridges of one peer that fall at one compute
start make one record and one count: `CNT_RESCALE` and `LAST_RESCALE` are not per bridge; where their causes differ it names the one of the
lowest bridge (DESIGN CHOICE, log 74). -/
def State.peerStep (s : State) (l p : LaneId) : State × List Rescale :=
  let bs := (List.range 6).filter (fun b => s.bridgeUsed l b)
  let ws := bs.map (fun b => (b, s.peerWeight l p b ((s.bridge l b).peer (isHi l p)).1 ((s.bridge l b).peer (isHi l p)).2))
  let s' := ws.foldl (fun s e => s.modBridge l e.1 (fun x => x.setPeer (isHi l p) e.2)) s
  let falls := ws.filter (fun e => e.2.cause != 0 && e.2.cause != 6)
  let rets := ws.filter (fun e => e.2.cause == 6)
  let mask (es : List (Nat × WeightStep)) : Nat := es.foldl (fun m e => setBit m e.1) 0
  let c := (falls.head?.map (fun e => e.2.cause)).getD 0
  (s', (if falls.isEmpty then [] else [⟨p, c, mask falls⟩]) ++ (if rets.isEmpty then [] else [⟨p, 6, mask rets⟩]))

/-- A lane's own weight for a bridge at a compute start: held at 0 during an alignment, falling in a STOP_DRIVE ramp,
rising otherwise (R171, R178, R198). -/
def State.ownStep (s : State) (l : LaneId) (b : Nat) : State :=
  if s.rd l.reg CMT_STATE b ≠ 2 then s
  else
    let r := s.rampStep l
    let align := s.rdB l.reg OBS_ALIGN b
    s.modBridge l b (fun x => { x with wOwn :=
      match x.ramp with
      | some d => max 0 (x.wOwn - d)
      | none => if align then 0 else min 1 (x.wOwn + r) })

/-- The share of a bridge from its weights; 0 with no own weight (R170). -/
def Bridge.shareOf (x : Bridge) : Rat := if x.wOwn = 0 then 0 else x.wOwn / (x.wOwn + x.wLo + x.wHi)

/-- The weights of every bridge at a compute start, with the changes to record; a fall of a peer's weight is counted
(R171, R181). -/
def State.weights (s : State) (l : LaneId) : State × List Rescale :=
  let s := (List.range 6).foldl (fun s b => s.ownStep l b) s
  let r := (s.peersOf l).foldl (fun (a : State × List Rescale) p =>
    let q := a.1.peerStep l p
    (q.1, a.2 ++ q.2)) (s, [])
  ((r.2.filter (fun e => e.cause != 6)).foldl (fun s _ => s.bump l.reg CMT_CNT_RESCALE) r.1, r.2)

/-- The changes found at a compute start wait for the first period computed with the new shares (R174). -/
def State.awaitRescale (s : State) (l : LaneId) (rs : List Rescale) : State :=
  s.modLane l (fun x => { x with rescale := x.rescale ++ rs.map (fun r => ⟨r.peer, r.cause, s.cycle l, r.mask, r.mask, true⟩) })

/-- A waiting change after the bridges of a compute start: each affected bridge is judged in its first period with the new shares; one that
is not in RUN carries none (R174). -/
def State.judgeRescale (s : State) (l : LaneId) (r : RescaleWait) : RescaleWait :=
  (List.range 6).foldl (fun r b =>
    if !bit r.left b then r
    else if s.rd l.reg CMT_STATE b ≠ 2 then { r with left := clrBit r.left b }
    else if (s.bridge l b).fresh then { r with left := clrBit r.left b, met := r.met && !s.rdB l.reg CMT_LIM b }
    else r) r

/-- The record of a weight change; bit [7] tells that every bridge affected was within its voltage limit (R174, R181). -/
def State.stampRescale (s : State) (l : LaneId) (r : RescaleWait) : State :=
  s.wr l.reg CMT_LAST_RESCALE 0 (withCycle (r.peer.reg + 16 * r.cause + 128 * b2n r.met + 256 * r.mask) r.cycle)

/-- The waiting changes judged, those that are complete recorded in their order (R174). -/
def State.rescales (s : State) (l : LaneId) : State :=
  let rs := (s.lane l).rescale.map (fun r => s.judgeRescale l r)
  let s := s.modLane l (fun x => { x with rescale := rs.filter (fun r => r.left % 64 != 0) })
  (rs.filter (fun r => r.left % 64 == 0)).foldl (fun s r => s.stampRescale l r) s

/-! ### Current limit and boost (R173) -/

/-- A reference lies above `I_CONT` in magnitude. -/
def State.aboveCont (s : State) (l : LaneId) (b : Nat) (iq : Rat) : Bool :=
  decide (absQ iq > milli (s.rd l.reg CMT_I_CONT b : Nat))

/-- The current limit of a bridge in amperes; boost is suspended during extrapolation (R173, R195). -/
def State.iLim (s : State) (l : LaneId) (b : Nat) : Rat :=
  let c := milli (s.rd l.reg CMT_I_CONT b : Nat)
  let left := s.rd l.reg CMT_BOOST_LEFT b
  if s.rd l.reg CMT_STATE b = 2 ∧ s.rd l.reg OBS_SRC b = 3 then c
  else c * (1 + (2 / 5) * ((min left 50 : Nat) : Rat) / 50)

/-- The boost time left after `ns` more: down 1 ms for each ms above `I_CONT`, up 1 ms for each 5 ms at most at it (R173). -/
def State.boostStep (s : State) (l : LaneId) (b ns : Nat) : State :=
  if s.aboveCont l b (s.bridge l b).iqRef then
    let t := s.rd l.reg CMT_BOOST_NS b + ns
    (s.wr l.reg CMT_BOOST_NS b (t % 1000000)).wr l.reg CMT_BOOST_LEFT b (s.rd l.reg CMT_BOOST_LEFT b - t / 1000000)
  else
    let t := s.rd l.reg CMT_BOOST_UP b + ns
    (s.wr l.reg CMT_BOOST_UP b (t % 5000000)).wr l.reg CMT_BOOST_LEFT b
      (min 2000 (s.rd l.reg CMT_BOOST_LEFT b + t / 5000000))

/-! ### The torque demand -/

/-- The torque demand of a bridge as a share of the rated torque: the signal of `TQ_SRC`, or `TRIP_TQ` while a trip's
stand-in is larger in its direction (R160, R358). -/
def State.tqDemand (s : State) (l : LaneId) (b : Nat) : Rat :=
  let d : Rat := (s.sig (s.rd l.reg CMT_TQ_SRC b) : Rat) / 2147483648
  if s.rdB l.reg SIO_TRIP_B b then
    let t : Rat := (s.rdI l.reg SIO_TRIP_TQ b : Rat) / 2147483648
    if t ≥ 0 then max d t else min d t
  else d

/-- The q-axis reference of a bridge: the share of the demand, clamped so that the current stays within the limit (R158). Where `ID_REF` alone
exceeds the limit the root of R158 has no value: the reference is 0 (DESIGN CHOICE, log 74). -/
def State.iqRef (s : State) (l : LaneId) (b : Nat) (share : Rat) : Rat :=
  let idr := milli (s.rdI l.reg CMT_ID_REF b)
  let lim := sqrtQ (s.iLim l b * s.iLim l b - idr * idr)
  clampQ (-lim) lim (share * 2 * milli (s.rd l.reg CMT_I_CONT b : Nat) * s.tqDemand l b)

/-! ### Coupling (R168, R169) -/

/-- A peer's terms are usable for a bridge (R169). -/
def State.cplUsable (s : State) (l p : LaneId) (b : Nat) : Bool :=
  match s.peerFrame l p with
  | some f => bit f.active b && bit f.angleValid b &&
      within ((f.angles.getD b 0 : Nat) - (s.rd l.reg CMT_SET_OFFSET (pairIdx l p b) : Nat)) (s.rd l.reg OBS_ANGLE b)
        (s.rd l.reg CMT_CPL_ANG_TOL)
  | none => false

/-- The coupling feed-forward of one peer in dq, without derivative terms where the terms have just become
usable again (R168, R169). -/
def State.cplPeer (s : State) (l p : LaneId) (b : Nat) (before : Bool) : Vec := s.cplTerms l p b (s.omega l b) before

/-- Whether a bridge used a peer's terms in its last period. -/
def Bridge.used (x : Bridge) (hi : Bool) : Bool := if hi then x.usedHi else x.usedLo

/-- The coupling feed-forward of a bridge, with the peers' usability noted and drops counted (R168, R169). -/
def State.coupling (s : State) (l : LaneId) (b : Nat) : State × Vec :=
  let r := (s.peersOf l).foldl (fun (a : State × Vec × Bool) p =>
    let ok := a.1.cplUsable l p b
    let was := (s.bridge l b).used (isHi l p)
    let s1 := a.1.modBridge l b (fun x => if isHi l p then { x with usedHi := ok } else { x with usedLo := ok })
    if ok then (s1, a.2.1.add (s.cplPeer l p b was), a.2.2) else (s1, a.2.1, true)) (s, (0, 0), false)
  (if r.2.2 then r.1.bump l.reg CMT_CNT_CPL_DROP b else r.1, r.2.1)

/-- The sum of the q-axis coupling inductances of the peers that still carry weight (R172). -/
def State.sumMq (s : State) (l : LaneId) (b : Nat) : Rat :=
  (s.peersOf l).foldl (fun a p =>
    if ((s.bridge l b).peer (isHi l p)).1 > 0 then a + nano (s.rdI l.reg CMT_CPL_LQ (pairIdx l p b)) else a) 0

/-! ### Voltage -/

/-- The own-winding feed-forward (R160). -/
def State.ownFf (s : State) (l : LaneId) (b : Nat) (i : Vec) : Vec :=
  let w := s.omega l b
  (-(w * nano (s.rd l.reg CMT_LQ b : Nat) * i.2),
    w * nano (s.rd l.reg CMT_LD b : Nat) * i.1 + w * nano (s.rd l.reg CMT_PSI b : Nat))

/-- The square of the voltage limit (R161). -/
def State.vLimSq (s : State) (l : LaneId) (b : Nat) : Rat :=
  let v := s.vdc l b
  if s.rdB l.reg CMT_THIRD_HARM b then v * v / 3 else v * v / 4

/-- The voltage limited: d first, then q by what is left (R161). -/
def vLimited (v : Vec) (sq : Rat) : Vec :=
  if v.sq ≤ sq then v
  else
    let m := sqrtQ sq
    let d := clampQ (-m) m v.1
    (d, sgnQ v.2 * min (absQ v.2) (sqrtQ (sq - d * d)))

/-- The zero-sequence voltage for a vector in the stationary frame (R162). -/
def State.zeroSeq (s : State) (l : LaneId) (b : Nat) (v : Vec) : Rat :=
  if s.rdB l.reg CMT_THIRD_HARM b then -(sqrtQ v.sq / 6) * cosU (3 * (atan2U v.2 v.1 : Int)) else 0

/-- The three phase voltages of a vector in the stationary frame (R158). -/
def phases (v : Vec) : List Rat := [v.1, -v.1 / 2 + v.2 * sqrt3 / 2, -v.1 / 2 - v.2 * sqrt3 / 2]

/-- The dead-time compensation of each phase from its current (R160). -/
def State.dtComp (s : State) (l : LaneId) (b : Nat) (i : List Rat) : List Rat :=
  i.map (fun x =>
    if s.rdB l.reg CMT_DT_COMP b ∧ absQ x * 50 > s.iFs l b then sgnQ x * s.deadSec l b / s.periodSec l b else 0)

/-- The duties of a vector before the clamp (R158). -/
def State.rawDuties (s : State) (l : LaneId) (b : Nat) (v : Vec) (dt : List Rat) : List Rat :=
  let v0 := s.zeroSeq l b v
  (phases v).zipWith (fun p c => 1 / 2 + (p + v0) / s.vdc l b + c) dt

/-- The lowest of three duties and the second-highest. -/
def lowAndMid : List Rat → Rat × Rat
  | [a, b, c] => (min a (min b c), max (min a b) (min (max a b) c))
  | _ => (0, 0)

/-- The highest second duty that leaves the sampling window open (R162). -/
def State.dClamp (s : State) (l : LaneId) (b : Nat) : Rat :=
  1 - (((s.rd l.reg CMT_SAMPLE_WIN b + 150 : Nat) : Rat) / 1000000000 + 2 * s.deadSec l b) / s.periodSec l b

/-- The clamp condition on three duties: the second-highest lies at most `dc` above the lowest, so that lowering it to `dc` leaves the
lowest at or above 0 (R162). -/
def clampHolds (dc : Rat) (d : List Rat) : Bool := decide ((lowAndMid d).2 - (lowAndMid d).1 ≤ dc)

/-- The factors of the voltage vector at which the difference of two duties reaches `dc`, and 1 (R162). `p` are the phase voltages over
the DC link, `c` the compensation, which is not scaled. -/
def clampFactors (dc : Rat) (p c : List Rat) : List Rat :=
  let pairs := (List.range 3).flatMap (fun i => (List.range 3).map (fun j => (i, j)))
  1 :: (pairs.filterMap (fun e =>
    let m := p.getD e.1 0 - p.getD e.2 0
    if m = 0 then none else some ((dc - (c.getD e.1 0 - c.getD e.2 0)) / m))).filter (fun k => decide (0 ≤ k ∧ k ≤ 1))

/-- The largest factor of the voltage vector at which the clamp condition holds (R162). -/
def clampFactor (dc : Rat) (p c : List Rat) : Rat :=
  ((clampFactors dc p c).filter (fun k => clampHolds dc (p.zipWith (fun v d => k * v + d) c))).foldl max 0

/-- The duty clamp: the duties, and the factor the voltage vector was scaled by (R162). None acts with in-line shunts. -/
def State.clampDuties (s : State) (l : LaneId) (b : Nat) (v : Vec) (dt : List Rat) : List Rat × Rat :=
  let d := s.rawDuties l b v dt
  let dc := s.dClamp l b
  if s.rd l.reg CMT_SENSE_MODE b = 1 ∨ (lowAndMid d).2 ≤ dc then (d, 1)
  else
    let k := if clampHolds dc d then 1 else clampFactor dc ((phases v).map (fun p => p / s.vdc l b)) dt
    let e := s.rawDuties l b (Vec.scale k v) dt
    (e.map (fun x => x - max 0 ((lowAndMid e).2 - dc)), k)

/-! ### Placing edges (R164 to R166, R208) -/

/-- The low-side on-time ahead of the valley in seconds for a duty (R164). -/
def State.tAhead (s : State) (l : LaneId) (b : Nat) (d : Rat) : Rat :=
  ((1 - d) * s.periodSec l b - 2 * s.deadSec l b) / 2

/-- The shift in steps of 625 ps that opens a phase's window: 0 where it is open, none where the phase is closed (R164,
R165). -/
def State.shiftOf (s : State) (l : LaneId) (b : Nat) (d : Rat) : Option Nat :=
  let ta := s.tAhead l b d
  let win : Rat := ((s.rd l.reg CMT_SAMPLE_WIN b : Nat) : Rat) / 1000000000
  if s.rd l.reg CMT_SENSE_MODE b = 1 ∨ ta ≥ win then some 0
  else
    let n := ((win - ta) * 1600000000).ceil.toNat
    let dl : Rat := (n : Rat) * 625 / 1000000000000
    if dl * 1000000000 ≤ (s.rd l.reg CMT_SHIFT_MAX b : Rat) ∧ dl ≤ ta - 150 / 1000000000 then some n else none

/-- The edges of one phase for a duty and a shift: the high side centred in the period, moved ahead by the shift, the low
side outside it by the dead time on either side (R153, R165, R208, R209). -/
def State.phaseEdges (s : State) (l : LaneId) (b p : Nat) (d : Rat) (shift : Nat) : List SwitchEdge :=
  let t := s.rd l.reg CMT_PWM_PERIOD b
  let dt := s.rd l.pow GDR_DEAD_TIME b
  let d := clampQ 0 1 d
  let on := (roundQ ((t : Rat) * (1 - d) / 2)).toNat - shift
  let off := (roundQ ((t : Rat) * (1 + d) / 2)).toNat - shift
  if off ≤ on then [⟨2 * p, 0, 0, 0⟩, ⟨2 * p + 1, 0, t, 0⟩]
  else if on = 0 ∧ off ≥ t then [⟨2 * p, 0, t, 0⟩, ⟨2 * p + 1, 0, 0, 0⟩]
  else [⟨2 * p, on, off, 0⟩, ⟨2 * p + 1, min t (off + dt), on - dt, 0⟩]

/-- The edges of one phase for half a period with double update: from the peak the high side to its end and the low side after it, from
the valley the low side and the high side after it (R158, R208, R227). -/
def State.halfEdges (s : State) (l : LaneId) (b p : Nat) (d : Rat) (fromPeak : Bool) : List SwitchEdge :=
  let h := s.rd l.reg CMT_PWM_PERIOD b / 2
  let dt := s.rd l.pow GDR_DEAD_TIME b
  let w := min h (roundQ ((h : Rat) * clampQ 0 1 d)).toNat
  if w = 0 then [⟨2 * p, 0, 0, 0⟩, ⟨2 * p + 1, 0, h, 0⟩]
  else if w = h then [⟨2 * p, 0, h, 0⟩, ⟨2 * p + 1, 0, 0, 0⟩]
  else if fromPeak then [⟨2 * p, 0, w, 0⟩, ⟨2 * p + 1, min h (w + dt), h, 0⟩]
  else [⟨2 * p, h - w, h, 0⟩, ⟨2 * p + 1, 0, h - w - dt, 0⟩]

/-- The phases whose low side stays on for less than 150 ns after the valley at which some duties begin to act (R164). -/
def State.shortAfter (s : State) (l : LaneId) (b : Nat) (ph : List (Rat × Nat)) : Nat :=
  if s.rd l.reg CMT_SENSE_MODE b = 1 then 0
  else ph.foldl (fun m e =>
    if s.tAhead l b e.1 - (((s.shiftOf l b e.1).getD 0 : Nat) : Rat) * 625 / 1000000000000 < 150 / 1000000000 then setBit m e.2 else m) 0

/-- The edges of a bridge placed and sent, its duties reported; shifted periods are counted. The phases closed at the coming valley are those
without a window before it in the period that ends there, and those that leave it too early in the period that begins (R164 to R166). -/
def State.placeEdges (s : State) (l : LaneId) (b : Nat) (d : List Rat) : State :=
  let ph := d.zipIdx
  let s := ph.foldl (fun s e => s.wr l.reg CMT_DUTY (3 * b + e.2) (clampInt 0 65535 (roundQ (e.1 * 65536))).toNat) s
  let closed := ph.foldl (fun m e => if (s.shiftOf l b e.1).isNone then setBit m e.2 else m) 0
  let after := s.shortAfter l b ph
  let shifted := ph.any (fun e => decide ((s.shiftOf l b e.1).getD 0 > 0))
  let es := ph.flatMap (fun e =>
    if s.rdB l.reg CMT_UPDATE b then s.halfEdges l b e.2 e.1 (!(s.bridge l b).mid)
    else s.phaseEdges l b e.2 e.1 ((s.shiftOf l b e.1).getD 0))
  let s := if shifted then s.bump l.reg CMT_CNT_SHIFT b else s
  (s.modBridge l b (fun x => { x with closing := x.placed ||| after, placed := closed })).send (.duty l b es)

/-! ### The EXPRESS loops (R238, R252) -/

/-- A loop's output signal in volts: a share of `CEN.FS` in mV (R233). -/
def State.loopVolts (s : State) (l : LaneId) (n : Nat) (v : Int) : Rat :=
  (v : Rat) / 2147483648 * milli (s.rd l.reg CEN_FS n : Nat)

/-- A voltage as a signal of a loop. -/
def State.voltsToSig (s : State) (l : LaneId) (n : Nat) (v : Rat) : Int :=
  if s.rd l.reg CEN_FS n = 0 then 0 else sat32 (roundQ (v * 2147483648 / milli (s.rd l.reg CEN_FS n : Nat)))

/-- A current error as a signal of `I_FS` (R238). -/
def State.errSig (s : State) (l : LaneId) (b : Nat) (e : Rat) : Int :=
  if s.rd l.reg CMT_I_FS b = 0 then 0 else sat32 (roundQ (e * 2147483648 / s.iFs l b))

/-- An EXPRESS loop that has just closed takes its states from the present output it is handed (R252). -/
def State.expressSettle (s : State) (l : LaneId) (n : Nat) (e : Int) (present : Rat) : State :=
  if s.rdB l.reg CEN_CLOSING n then
    s.settleSecs l n (s.voltsToSig l n present) (s.sig (s.rd l.reg CEN_ADD_OUT_SRC n)) (s.cenSecs l n) e
  else s

/-- An EXPRESS run taking effect, frozen where the voltage limit acted; its completion is an event of the trace (R238, R258). -/
def State.expressCommit (s : State) (l : LaneId) (n : Nat) (q : LoopRun) (ext : Bool) (present : Rat) : State :=
  let closing := s.rdB l.reg CEN_CLOSING n
  let s := s.cenCommit l n q ext
  (if closing then s.closeStep l n q.v (s.voltsToSig l n present) else s).trcEvent l 3 n

/-! ### One control period of a bridge (R158) -/

/-- The sampled currents of a bridge with one closed phase formed from the two clean ones (R158, R166). -/
def State.currents (s : State) (l : LaneId) (x : BridgeSample) (closed : Nat) : List Rat :=
  let u := s.amps l x.b x.iu
  let v := s.amps l x.b x.iv
  let w := s.amps l x.b x.iw
  if closed = 1 then [-(v + w), v, w] else if closed = 2 then [u, -(u + w), w]
  else if closed = 4 then [u, v, -(u + v)] else [u, v, w]

/-- The HFI term on the d axis at a load point (R196). -/
def State.hfiTerm (s : State) (l : LaneId) (b : Nat) : Rat :=
  if s.rd l.reg OBS_SRC b = 2 then milli (s.rd l.reg OBS_HFI_AMP b : Nat) * s.hfiSin l b else 0

/-- The currents the loops receive: while HFI is the source with its 1 kHz component removed by a notch the manual does
not state: free values (R196, log 6). -/
def State.loopCurrents (s : State) (l : LaneId) (b : Nat) (i : Vec) : Vec :=
  if s.rd l.reg OBS_SRC b = 2 then (Config.freeRat 1961 (8 * s.fv + b), Config.freeRat 1962 (8 * s.fv + b)) else i

/-- The delay factor: 1.5 periods, 0.75 with double update (R158). -/
def State.delayFactor (s : State) (l : LaneId) (b : Nat) : Rat := if s.rdB l.reg CMT_UPDATE b then 3 / 4 else 3 / 2

/-- The voltage after limiting and clamping taking effect: reports, the applied vector, with that of the period before (R185),
the edges (R158, R161, R181). -/
def State.applyVoltage (s : State) (l : LaneId) (b : Nat) (v : Vec) (thOut : Rat) (d : List Rat) : State :=
  let w := v.turn thOut
  let cd := twos 16 (satInt 16 (roundQ (v.1 * 500)))
  let cq := twos 16 (satInt 16 (roundQ (v.2 * 500)))
  let s := s.modBridge l b (fun x => { x with vd := v.1, vq := v.2, vaOld := x.va, vbOld := x.vb, va := w.1, vb := w.2, thOut := thOut })
  (s.wr l.reg CMT_V_DQ b (cd + cq * 65536)).placeEdges l b d

/-- The periods one pulse of the polarity test takes and its voltage: the volt-seconds that bring the d-axis inductance to `POL_AMP` of
`I_CONT`, in as few periods as the voltage limit allows. R198 states the volt-seconds only by their peak current (DESIGN CHOICE, log 74). -/
def State.polShape (s : State) (l : LaneId) (b : Nat) : Nat × Rat :=
  let need := nano (s.rd l.reg CMT_LD b : Nat) * milli (s.rd l.reg CMT_I_CONT b : Nat) * ((s.rd l.reg OBS_POL_AMP b : Nat) : Rat) / 100
  let most := sqrtQ (s.vLimSq l b) * s.periodSec l b
  let n := if most = 0 then 1 else max 1 (need / most).ceil.toNat
  (n, need / ((n : Rat) * s.periodSec l b))

/-- The dq voltage of the polarity test in this period: along +d, zero, along −d, zero, each for an equal time; repeated up to 3 times, until
HFI_ALIGN_END tells its result; none outside the test (R198). -/
def State.polPulse (s : State) (l : LaneId) (b : Nat) : Option Vec :=
  if !s.polarityOn l b then none
  else
    let p := s.polShape l b
    let k := (s.rd l.reg OBS_ALIGN_N b - Config.free 198 (8 * l.reg + b)) / p.1
    if k ≥ 16 then none else some (if k % 4 = 0 then p.2 else if k % 4 = 2 then -p.2 else 0, 0)

/-- The runs of a bridge's two EXPRESS loops and the voltages handed to them, d and q. -/
structure ExpressPair where
  qd : LoopRun
  qq : LoopRun
  pd : Rat
  pq : Rat

/-- A voltage vector limited, clamped and applied from the angle `th` at the sample, the loops' runs taking effect, frozen where a limit acted
or where they are `held` (R158, R161, R162). -/
def State.applyVector (s : State) (l : LaneId) (b : Nat) (v : Vec) (iph : List Rat) (th : Rat) (x : ExpressPair) (held : Bool) : State :=
  let exceeds := decide (v.sq > s.vLimSq l b)
  let lv := vLimited v (s.vLimSq l b)
  let thOut := th + turned (s.omega l b) (s.delayFactor l b * s.periodSec l b)
  let du := s.clampDuties l b (lv.turn thOut) (s.dtComp l b iph)
  let limited := exceeds || decide (du.2 < 1)
  let s := (s.expressCommit l (2 * b) x.qd (limited || held) x.pd).expressCommit l (2 * b + 1) x.qq (limited || held) x.pq
  let mag := if s.vLimSq l b = 0 then 0 else roundQ (sqrtQ (v.sq / s.vLimSq l b) * 65536)
  let s := (s.wr l.reg CMT_V_MAG b (clampInt 0 262143 mag).toNat).wrB l.reg CMT_LIM b exceeds
  let s := if limited then s.bump l.reg CMT_CNT_VLIMIT b else s
  s.applyVoltage l b (Vec.scale du.2 lv) thOut du.1

/-- From the dq currents to the edges of the next period (R158 to R162, R172); during a polarity test its pulse is the vector applied and
the loops stand still (R198). `th` is the angle at the sample. -/
def State.regulate (s : State) (l : LaneId) (b : Nat) (i : Vec) (iph : List Rat) (th : Rat) : State :=
  let x := s.bridge l b
  let share := x.shareOf
  let ref := s.iqRef l b share
  let step : Rat := if share > x.share then
    (nano (s.rd l.reg CMT_LQ b : Nat) + s.sumMq l b) * (ref - x.iqRef) / s.periodSec l b else 0
  let fed := s.loopCurrents l b i
  let ed := s.errSig l b (milli (s.rdI l.reg CMT_ID_REF b) - fed.1)
  let eq := s.errSig l b (ref - fed.2)
  let ff := s.ownFf l b i
  let hand := x.hand.getD (0, 0)
  let pd := hand.1 - ff.1
  let pq := hand.2 - ff.2
  let s := (s.expressSettle l (2 * b) ed pd).expressSettle l (2 * b + 1) eq pq
  let qd := s.cenEval l (2 * b) ed (s.sig (s.rd l.reg CEN_ADD_OUT_SRC (2 * b)))
  let qq := s.cenEval l (2 * b + 1) eq (s.sig (s.rd l.reg CEN_ADD_OUT_SRC (2 * b + 1)))
  let c := s.coupling l b
  let v : Vec := (c.1.loopVolts l (2 * b) qd.v + ff.1 + c.2.1 + c.1.hfiTerm l b, c.1.loopVolts l (2 * b + 1) qq.v + ff.2 + c.2.2 + step)
  let pulse := c.1.polPulse l b
  let cv := Vec.turn c.2 th
  let s := c.1.modBridge l b (fun x => { x with share := share, iqRef := ref, hand := none, ca := cv.1, cb := cv.2, fresh := true })
  (s.wr l.reg CMT_SHARE b (share * 65536).floor.toNat).applyVector l b (pulse.getD v) iph th ⟨qd, qq, pd, pq⟩ pulse.isSome

/-- The dq currents of a valid period, reported with the bridge's frame bit (R158, R166, R181). -/
def State.reportDq (s : State) (l : LaneId) (b : Nat) (i : Vec) (recon : Bool) : State :=
  let cd := twos 16 (s.iCode l b i.1)
  let cq := twos 16 (s.iCode l b i.2)
  let s := s.modBridge l b (fun x => { x with id := i.1, iq := i.2, recon := recon })
  let s := s.wr l.reg CMT_I_DQ b (cd + cq * 65536)
  if recon then s.bump l.reg CMT_CNT_RECON b else s

/-- A period with valid samples (R158, R166). `mid` marks a peak of double update, at which the angle is that of the
valley carried on by half a period. -/
def State.validPeriod (s : State) (l : LaneId) (b : Nat) (x : BridgeSample) (closed : Nat) (mid : Bool) : State :=
  let iph := s.currents l x closed
  let ab : Vec := (iph.getD 0 0, (iph.getD 0 0 + 2 * iph.getD 1 0) / sqrt3)
  let r := if mid then (s, false) else s.rotorRun l b (some ab)
  let s := r.1
  if r.2 then s.withdraw l b
  else
    let th : Rat := ((s.rd l.reg OBS_ANGLE b : Nat) : Rat) + (if mid then turned (s.omega l b) (s.periodSec l b / 2) else 0)
    let dq := ab.turn (-th)
    let s := (s.wr l.reg CMT_INVALID_N b 0).reportDq l b dq (decide (closed ≠ 0))
    s.regulate l b dq iph th

/-- A vector advanced without a run of the loops, under the duty clamp, whose scaling sets the limit flag (R161, R162, R167). There is no
current to give the sign of a dead-time compensation: none is added (DESIGN CHOICE, log 74). -/
def State.holdVector (s : State) (l : LaneId) (b : Nat) : State :=
  let x := s.bridge l b
  let thOut := x.thOut + turned (s.omega l b) (s.periodSec l b)
  let v : Vec := (x.vd, x.vq)
  let du := s.clampDuties l b (v.turn thOut) [0, 0, 0]
  let s := if du.2 < 1 then (s.wr l.reg CMT_LIM b 1).bump l.reg CMT_CNT_VLIMIT b else s
  s.applyVoltage l b (Vec.scale du.2 v) thOut du.1

/-- A period with invalid samples: the loops do not run, the previous vector is advanced, the frame is marked; after
`INVALID_LIMIT` such periods the bridge is withdrawn (R167). -/
def State.invalidPeriod (s : State) (l : LaneId) (b : Nat) (mid : Bool) : State :=
  let n := s.rd l.reg CMT_INVALID_N b + 1
  let s := (s.wr l.reg CMT_INVALID_N b (satNat 16 n)).bump l.reg CMT_CNT_INVALID b
  let r := if mid then (s, false) else s.rotorRun l b none
  let s := r.1.modBridge l b (fun x => { x with recon := true })
  if n ≥ s.rd l.reg CMT_INVALID_LIMIT then (s.withdraw l b).raise l.reg 22
  else if r.2 then s.withdraw l b
  else s.holdVector l b

/-- The number of closed phases in a mask. -/
def closedCount (m : Nat) : Nat := b2n (bit m 0) + b2n (bit m 1) + b2n (bit m 2)

/-- The samples of a bridge are invalid: they did not arrive, a converter is over range, or two phases are closed (R167). -/
def badSample (x : BridgeSample) (closed : Nat) : Bool :=
  !x.arrives || (sampleCodes x).zipIdx.any (fun p => overRange p.2 p.1) || decide (closedCount closed ≥ 2)

/-- The DC link of a bridge at a sample that arrived, and its lower limit over two samples (R163, R181). A sample that does not arrive neither
counts nor ends the run of low ones (DESIGN CHOICE, log 74). -/
def State.linkCheck (s : State) (l : LaneId) (x : BridgeSample) : State :=
  if !x.arrives then s
  else
    let s := s.wr l.reg CMT_VDC x.b (satNat 16 (roundQ ((x.vdc : Rat) * 1144 / 1000)).toNat)
    if s.rd l.reg CMT_VDC x.b < s.rd l.reg CMT_VDC_MIN then s.wr l.reg CMT_VDC_LOW x.b (s.rd l.reg CMT_VDC_LOW x.b + 1)
    else s.wr l.reg CMT_VDC_LOW x.b 0

/-- One control period of a bridge in RUN (R156, R163, R167). -/
def State.runPeriod (s : State) (l : LaneId) (x : BridgeSample) (mid : Bool) : State :=
  let s := s.linkCheck l x
  if s.rd l.reg CMT_VDC_LOW x.b ≥ 2 then ((s.withdraw l x.b).wr l.reg CMT_VDC_LOW x.b 0).raise l.reg 21
  else
    let closed := if s.rd l.reg CMT_SENSE_MODE x.b = 1 then 0 else (s.bridge l x.b).closing
    if badSample x closed then s.invalidPeriod l x.b mid else s.validPeriod l x.b x closed mid

/-- The release speed of a short written to GDR as an electrical period in µs, in every period (R175, R223). -/
def State.writeRelease (s : State) (l : LaneId) (b : Nat) : State :=
  let psi := nano (s.rd l.reg CMT_PSI b : Nat)
  let pct : Rat := ((s.rd l.reg CMT_SHORT_MARGIN - 10 : Nat) : Rat) / 100
  let w := pct * s.vdc l b / (sqrt3 * psi)
  if psi = 0 ∨ w = 0 then s.wr l.pow GDR_RELEASE_PERIOD b 65535
  else s.wr l.pow GDR_RELEASE_PERIOD b (clampInt 0 65535 (roundQ (2 * piQ * 1000000 / w))).toNat

/-- A bridge in SHORT at a compute start: to FREE below the release speed (R175). -/
def State.shortPeriod (s : State) (l : LaneId) (b : Nat) : State :=
  if s.rdB l.reg OBS_SPEED_OK b && !aboveCrossover (s.rdI l.reg OBS_SPEED b) (s.rd l.reg CMT_SHORT_MARGIN - 10)
      (s.rd l.reg CMT_VDC b) (s.rd l.reg CMT_PSI b)
  then s.setBridge l b 3 else s

/-- A bridge whose samples carry the latch bit goes to FAULT, its switches off (R152, R220). -/
def State.latchBridgeSeen (s : State) (l : LaneId) (b : Nat) : State :=
  if !s.rdB l.reg CMT_LATCH_SEEN b then s
  else
    let s := s.wr l.reg CMT_LATCH_SEEN b 0
    if s.rd l.reg CMT_STATE b = 5 then s
    else
      let s := if s.rd l.reg CMT_STATE b = 2 then (s.dropOwn l b).loseWinding l b else s
      (s.setBridge l b 5).wr l.pow GDR_PRE_ON b 0

/-- One bridge at a compute start: sampled at this load point or not (R153, R156); a bridge with its switches off is tracked at every base
valley (R199). -/
def State.bridgePeriod (s : State) (l : LaneId) (b : Nat) (peak : Bool) : State :=
  if !s.bridgeUsed l b then s
  else
    let smp := (s.bridge l b).smp
    let mid := (s.bridge l b).mid
    let s := s.modBridge l b (fun x => { x with smp := none })
    match s.rd l.reg CMT_STATE b, smp with
    | 2, some x => (s.runPeriod l x mid).obsReport l b
    | 2, none => s
    | st, some x => if peak then s else
        let s := (s.linkCheck l x).wr l.reg CMT_VDC_LOW b 0
        let s := if (st = 0 ∨ st = 1 ∨ st = 3) ∧ !s.rdB l.pow GDR_PRE_ON b then s.trackStep l x (s.rd l.reg INT_VALLEY_AT) else s.trackRestart l b
        let s := s.rotorIdle l b (s.tracked l b)
        if st = 4 then s.shortPeriod l b else s
    | _, none => if peak then s else s.rotorIdle l b (s.tracked l b)

/-- The steps of a compute start for every bridge, with the weights found before (R156, R171, R173 to R175). -/
def State.driveBridges (s : State) (l : LaneId) (peak : Bool) : State :=
  let s := (List.range 6).foldl (fun s b => s.modBridge l b (fun x => { x with fresh := false })) s
  let s := (List.range 6).foldl (fun s b => s.bridgePeriod l b peak) s
  if peak then s
  else
    let ns := s.basePeriod l * 625 / 1000
    (List.range 6).foldl (fun s b => if s.bridgeUsed l b then (s.boostStep l b ns).writeRelease l b else s) s

/-- A step run with the values of CMT that were in force at the latest valley, where a commit has replaced some since (R181). -/
def State.withOld (s : State) (l : LaneId) (f : State → State) : State :=
  let old := (s.lane l).cmtOld
  if old.isEmpty then f s
  else
    let new := old.map (fun e => (e.1, s.params.get e.1))
    let t := f { s with params := old.foldl (fun m e => m.put e.1 e.2) s.params }
    { t with params := new.foldl (fun m e => m.put e.1 e.2) t.params }

/-- The weights, every bridge, boost and the records of weight changes; at a peak the shares stand (R158, R171, R174). -/
def State.driveStep (s : State) (l : LaneId) (peak : Bool) : State :=
  if peak then (s.driveBridges l true).rescales l
  else
    let w := s.weights l
    ((w.1.awaitRescale l w.2).driveBridges l false).rescales l

/-- What CMT and OBS do at a compute start: latched bridges, weights, every bridge, boost, the records; the numbering of
the free values moves on (R156, R171, R173, R174). -/
def State.driveCompute (s : State) (l : LaneId) (peak : Bool) : State :=
  let s := s.withOld l (fun s =>
    ((List.range 6).foldl (fun s b => s.latchBridgeSeen l b) s).driveStep l peak)
  { s with fv := s.fv + 1 }

/-! ### Entering RUN -/

/-- A bridge enters RUN: its loops close on the voltage handed over, which stands at its terminals until its first edges act (R185;
DESIGN CHOICE, log 71), its weight starts at 0, its winding is no longer lost, the edges of an earlier run are gone, its collection is over
(R171, R199, R201, R208, R250, R366). `ab` is that voltage in the stationary frame. -/
def State.enterRun (s : State) (l : LaneId) (b : Nat) (hand ab : Vec) : State :=
  let s := (s.wr l.reg CMT_STATE b 2).wr l.reg VOT_LOST_W (8 * l.reg + b) 0
  let s := s.modBridge l b (fun x => { x with wOwn := 0, ramp := none, share := 0, iqRef := 0, hand := some hand })
  let s := s.modBridge l b (fun x => { x with cur := [], next := [], smp := x.smp, closing := 0, placed := 0, hfi := [] })
  let s := (s.trackRestart l b).modBridge l b (fun x => { x with vaOld := ab.1, vbOld := ab.2, va := ab.1, vb := ab.2, ca := 0, cb := 0 })
  let s := ((s.wr l.reg CMT_INVALID_N b 0).wr l.reg CMT_VDC_LOW b 0).wr l.reg OBS_CAP_TRY b 0
  let s := ((s.wr l.pow GDR_DUTY_GOT b 0).wr l.pow GDR_DUTY_MISS b 0).wr l.pow GDR_MISSING b 0
  [2 * b, 2 * b + 1].foldl (fun s n => (s.wr l.reg CEN_MODE n 1).wr l.reg CEN_CLOSING n 1) s

/-- A bridge in OFF or FREE starts: to CAPTURE, after a precharge where a phase is not ready (R178, R212). -/
def State.beginCapture (s : State) (l : LaneId) (b : Nat) : State :=
  let s := (s.wr l.reg OBS_CAP_TRY b 0).wr l.reg OBS_GONE b 0
  if s.bootReady l b then (s.setBridge l b 1).obsReport l b else s.precharge l b

/-- The gates of a lane may turn on: its power die runs and its gate supply has stayed above 9.0 V for 1 ms (R18, R178, R205). -/
def State.gatesReady (s : State) (l : LaneId) : Bool := s.on l.pow && !s.rdB l.pow GDR_VGD_BAD

/-- START_DRIVE on one bridge of a lane (R178): from OFF or FREE into CAPTURE, from SHORT into RUN with the voltage of a
short handed over; a bridge under way stays as it is, and one whose gates may not turn on. -/
def State.startBridge (s : State) (l : LaneId) (b : Nat) : State :=
  if !s.gatesReady l then s
  else match s.rd l.reg CMT_STATE b with
  | 0 => if s.rdB l.pow GDR_PRE_ON b then s else s.beginCapture l b
  | 3 => if s.rdB l.pow GDR_PRE_ON b then s else s.beginCapture l b
  | 4 => (s.enterRun l b (0, 0) (0, 0)).obsEnter l b 1 ((s.encAngle l b : Nat) : Rat) (s.encSpeed l b)
  | _ => s

/-- A winding of any lane marked as out of RUN by an agreed STOP_DRIVE, or no longer so (R366). -/
def State.markStopped (s : State) (l : LaneId) (b : Nat) (on : Bool) : State :=
  s.lanesOf.foldl (fun s x => s.wrB l.reg VOT_STOPPED_W (8 * x.reg + b) on) s

/-- The bridges a mask names. -/
def bridgesOf (mask : Nat) : List Nat := (List.range 6).filter (fun b => mask.testBit b)

/-- The test of a bridge named by START_DRIVE or STOP_DRIVE ends (R499). -/
def State.abortTest (s : State) (l : LaneId) (mask : Nat) : State :=
  let hit := s.rd l.reg BST_MASK &&& mask % 64
  if hit = 0 then s
  else
    let left := clrMask (s.rd l.reg BST_MASK) hit
    let s := (s.wr l.reg BST_MASK 0 left).bumpBy l.reg BST_CNT_ABORT 0 (bridgesOf hit).length
    if left = 0 ∧ (s.rd l.reg BST_STATE = 2 ∨ s.rd l.reg BST_STATE = 3) then s.wr l.reg BST_STATE 0 0 else s

/-- START_DRIVE taking effect in a voting lane; a lane in shadow leaves its bridges as they are, a lane in TRIM first
returns to point 0 (R97, R178, R499, R519). -/
def State.effStart (s : State) (l : LaneId) (mask : Nat) : State :=
  let s := s.abortTest l mask
  (bridgesOf mask).foldl (fun s b =>
    let ramping := (s.bridge l b).ramp.isSome
    let s := s.markStopped l b false
    let s := if ramping then s.wr l.reg VOT_STOPPED_W (8 * l.reg + b) 1 else s
    if s.vstate l = 0 then s
    else if s.rd l.reg CLK_POINT ≠ 0 then (s.wr l.reg PWR_DVFS_TO 0 1).wrBit l.reg PWR_START_MASK 0 b true
    else s.startBridge l b) s

/-- A named bridge this lane cannot start: unused, in FAULT, or in SHORT without a valid encoder angle (R178). -/
def State.cannotStart (s : State) (l : LaneId) (b : Nat) : Bool :=
  !s.bridgeUsed l b || s.rd l.reg CMT_STATE b == 5 || (s.rd l.reg CMT_STATE b == 4 && !s.encUsable l b)

/-- With CEN at CORE/2, more than three bridges would be in CAPTURE or RUN, which they are at point 0 only (R157). -/
def State.tooMany (s : State) (l : LaneId) (mask : Nat) : Bool :=
  bit (s.rd l.reg CLK_ISL_CFG 0) 0 &&
    decide (((List.range 6).filter (fun b =>
      mask.testBit b || s.rd l.reg CMT_STATE b == 1 || s.rd l.reg CMT_STATE b == 2 || s.rdB l.pow GDR_PRE_ON b ||
        bit (s.rd l.reg PWR_START_MASK) b)).length > 3)

/-- A bridge that starts outside a START_DRIVE, under the conditions of one: after a deferred start and at REJOIN (R157, R178, R180, R519). -/
def State.startAlso (s : State) (l : LaneId) (b : Nat) : State :=
  if s.cannotStart l b ∨ s.tooMany l (2 ^ b) then s else s.startBridge l b

/-- The check of a block's configuration as a lane reports and sends it: for RPC `CFG_CRC`, in which `CMD` counts as written (R179, R262, R282,
R365). -/
def State.cfgCrcOf (s : State) (r block : Nat) : Nat := if block = 0x13 then s.rd r RPC_CFG_CRC else s.rwsCrc r block

/-- Where a block reports its configuration check. -/
def cfgCrcPars : List (Nat × PDesc) := [(0x10, CMT_CFG_CRC), (0x12, CEN_CFG_CRC), (0x13, RPC_CFG_CRC), (0x17, SIO_CFG_CRC)]

/-- The first voting peer whose configuration of CMT, CEN, RPC or SIO differs, as CONFIG_MISMATCH (R178, R179, R262, R282, R365). -/
def State.chkCmtCrc (s : State) (l : LaneId) : Option Rsp :=
  firstFail (cfgCrcPars.map (fun e =>
    ((s.peersOf l).find? (fun p => s.voting l p && s.cfgCrcOf p.reg e.1 != s.cfgCrcOf l.reg e.1)).map
      (fun p => rMismatch (e.2.id l.reg 0) (e.2.id p.reg 0))))

/-- Every configured brake bridge turns at most at `HOLD_SPEED` (R554). -/
def State.brakesSlow (s : State) (l : LaneId) : Bool :=
  [1, 2, 3, 4].all (fun t => !s.targetDriven l t || !s.tooFast l (s.rd l.reg CEN_TGT_BRIDGE t))

/-- The cartridge check of one bridge (R178, R554). An expected type of 0 asks for no check. -/
def State.chkCart (s : State) (l : LaneId) (b : Nat) : Option Rsp :=
  let c := s.rd l.reg CMT_CART b
  let st := s.rd l.reg CRT_MAN_STATE c
  if c ≥ 8 then none
  else if (st = 2 ∨ st = 3) ∧ s.rd l.reg CRT_EXP_TYPE c ≠ 0 ∧
      (s.rd l.reg CRT_MAN_TYPE c ≠ s.rd l.reg CRT_EXP_TYPE c ∨ s.rd l.reg CRT_MAN_DIGEST c ≠ s.rd l.reg CRT_EXP_DIGEST c)
  then some (rMismatch (CRT_EXP_DIGEST.id l.reg c) (CRT_MAN_DIGEST.id l.reg c))
  else if s.rd l.reg CRT_POLICY_SEEN = 1 ∧ (st = 1 ∨ st = 2) ∧ s.brakesSlow l
  then some (rMismatch (CRT_MAN_STATE.id l.reg c) (CRT_POLICY_SEEN.id l.reg 0))
  else none

/-- The first failure over a list. -/
def firstOf {α : Type} (f : α → Option Rsp) : List α → Option Rsp
  | [] => none
  | a :: as => match f a with
    | some r => some r
    | none => firstOf f as

/-- The checks of START_DRIVE in the receiving lane (R178). A power die in START keeps its bridges out of RUN (R18), for which no status
is stated: it is answered as a gate supply that is not ready (DESIGN CHOICE, log 66). -/
def State.chkStart (s : State) (l : LaneId) (mask kind : Nat) : Option Rsp :=
  firstFail [failIf (kind != 0) (rRange 0 17),
    failIf ((bridgesOf mask).any (fun b => s.cannotStart l b)) (rRange 0 16),
    failIf (s.tooMany l mask) (rRange 0 16),
    failIf (!s.gatesReady l) (rRange (GDR_VGD.id l.pow 0) 0),
    s.chkCmtCrc l,
    firstOf (fun b => s.chkCart l b) (bridgesOf mask)]

/-- START_DRIVE (R178). -/
def execStartDrive (l : LaneId) (h : Hdr) (mask kind : Nat) (s : State) : Host.Outcome State Fault Refusal :=
  .next (s.whenHost l (fun s => s.perform l h 0x0210 (s.chkStart l mask kind) (s.effStart l mask, rOk)))

/-! ### Stopping -/

/-- STOP_DRIVE on one bridge of a lane (R152, R178). -/
def State.stopBridge (s : State) (l : LaneId) (b kind : Nat) : State :=
  if s.rdB l.pow GDR_PRE_ON b then ((s.gatesOff l b).wr l.reg CMT_STATE b 0).obsReport l b
  else match s.rd l.reg CMT_STATE b with
    | 1 => (s.setBridge l b 0).obsReport l b
    | 2 =>
      if kind = 0 then
        let per : Rat := s.baseSec l * 1000 / ((max 1 (s.rd l.reg CMT_STOP_RAMP) : Nat) : Rat)
        s.modBridge l b (fun x => if x.ramp.isSome then x else { x with ramp := some (x.wOwn * per) })
      else (s.withdraw l b).obsReport l b
    | 3 => (s.setBridge l b 0).obsReport l b
    | 5 => if s.latchedB l b then s else s.setBridge l b 0
    | _ => s

/-- STOP_DRIVE taking effect in a voting lane (R97, R178, R499). -/
def State.effStop (s : State) (l : LaneId) (mask kind : Nat) : State :=
  let s := s.abortTest l mask
  (bridgesOf mask).foldl (fun s b =>
    let s := s.markStopped l b true
    if s.vstate l = 0 then s else s.stopBridge l b kind) s

/-- The checks of STOP_DRIVE: the kind, and a trip in force on a bridge of `TRIP_BRIDGES` (R178, R358). -/
def State.chkStop (s : State) (l : LaneId) (mask kind : Nat) : Option Rsp :=
  firstFail [failIf (decide (kind > 1)) (rRange 0 17),
    failIf (bit (s.rd l.reg SIO_TRIP) 8 && decide (mask % 64 &&& s.rd l.reg SIO_TRIP_BRIDGES ≠ 0)) (rRange (SIO_TRIP.id l.reg 0) 0)]

/-- STOP_DRIVE (R178). -/
def execStopDrive (l : LaneId) (h : Hdr) (mask kind : Nat) (s : State) : Host.Outcome State Fault Refusal :=
  .next (s.whenHost l (fun s => s.perform l h 0x0211 (s.chkStop l mask kind) (s.effStop l mask kind, rOk)))

/-- STOP_RAMP_END (R178): the own weight has fallen to 0 over `STOP_RAMP`; the bridge is withdrawn. -/
def execStopRampEnd (l : LaneId) (b : Nat) (s : State) : Host.Outcome State Fault Refusal :=
  .next (s.whenUp l (fun s =>
    if b < 6 ∧ s.rd l.reg CMT_STATE b = 2 ∧ (s.bridge l b).ramp.isSome then (s.withdraw l b).obsReport l b else s))

/-! ### Capture, precharge, alignment -/

/-- The record of a capture or an alignment (R202). -/
def State.stampCapture (s : State) (l : LaneId) (b cls angle : Nat) (speed : Int) : State :=
  let low := cls + 4 * b2n (decide (speed < 0)) + 256 * (angle % 65536)
  s.wr l.reg OBS_CAP_RESULT b (low + twos 32 speed * 2 ^ 32)

/-- A capture that failed: repeated once on a new collection; a second failure takes the bridge to FREE, counted, its source asserted
(R201). -/
def State.captureFailed (s : State) (l : LaneId) (b : Nat) : State :=
  if s.rdB l.reg OBS_CAP_TRY b then
    (((s.setBridge l b 3).bump l.reg OBS_CNT_CAP_FAIL b).obsReport l b).raise l.reg 28
  else (s.wr l.reg OBS_CAP_TRY b 1).trackRestart l b

/-- The end of a capture by the tracking result (R201): RUN from the fit with the back-EMF handed over; RUN from the encoder at
standstill with none; RUN with the HFI alignment where no encoder is usable; a failure. -/
def State.captureEnd (s : State) (l : LaneId) (b : Nat) : State :=
  let r := s.tracking l b
  let speed := satInt 32 (roundQ (r.speed * 1000))
  match r.cls with
  | 1 =>
    let s := s.stampCapture l b 1 r.angle speed
    (s.enterRun l b r.emf (r.emf.turn ((r.angle : Nat) : Rat))).obsEnter l b (if s.encUsable l b then 1 else 0) ((r.angle : Nat) : Rat) r.speed
  | 2 =>
    if s.encUsable l b then
      let s := s.stampCapture l b 2 (s.encAngle l b) (satInt 32 (roundQ (s.encSpeed l b * 1000)))
      (s.enterRun l b (0, 0) (0, 0)).obsEnter l b 1 ((s.encAngle l b : Nat) : Rat) (s.encSpeed l b)
    else
      let s := ((s.stampCapture l b 2 0 0).enterRun l b (0, 0) (0, 0)).obsEnter l b 2 0 0
      ((s.beginAlign l b).bump l.reg OBS_CNT_HFI b).obsReport l b
  | _ => (s.stampCapture l b 3 0 0).captureFailed l b

/-- CAPTURE_END (R201): at the compute, at time `t`, of the first valley at which the collection covers the capture length. -/
def execCaptureEnd (l : LaneId) (b t : Nat) (s : State) : Host.Outcome State Fault Refusal :=
  .next ((s.atTime t).whenUp l (fun s => if b < 6 ∧ s.rd l.reg CMT_STATE b = 1 ∧ (s.tracking l b).covers then s.captureEnd l b else s))

/-- PRECHARGE_END (R212): the three low sides off; in a lane die that runs the bridge is in CAPTURE, its tracking restarted. The phases are
ready by their voltage alone (R211). -/
def execPrechargeEnd (l : LaneId) (b : Nat) (s : State) : Host.Outcome State Fault Refusal :=
  .next (if b < 6 ∧ s.on l.pow ∧ s.rdB l.pow GDR_PRE_ON b then
      let s := s.gatesOff l b
      if s.up l then ((s.setBridge l b 1).trackRestart l b).obsReport l b else s
    else s)

/-- EXTRAP_TIMEOUT (R194): the bridge is withdrawn on the held speed. -/
def execExtrapTimeout (l : LaneId) (b : Nat) (s : State) : Host.Outcome State Fault Refusal :=
  .next (s.whenUp l (fun s =>
    if b < 6 ∧ s.rd l.reg CMT_STATE b = 2 ∧ s.rd l.reg OBS_SRC b = 3 then
      let s := s.stampLoss l b (bits (s.rd l.reg OBS_LAST_LOCKLOSS b) 1 0) 3
      let s := (s.wr l.reg OBS_SPEED_OK b 1).withdraw l b
      (((s.wr l.reg OBS_GONE b 1).wr l.reg OBS_LOST b 0).obsReport l b).raise l.reg 27
    else s))

/-- The polarity test of an alignment: the first attempt, of one and up to three repeats, whose two peak currents differ by at least 3 % of their
mean; the pulse with the higher peak lies along the magnet's north axis (R198). -/
def polarity (peaks : List (Nat × Nat)) : Option Bool :=
  ((peaks.take 4).find? (fun p => decide (((p.1 : Int) - p.2).natAbs * 200 ≥ 3 * (p.1 + p.2) ∧ p.1 + p.2 > 0))).map
    (fun p => decide (p.1 > p.2))

/-- The angle an alignment finds: the axis on which the PLL converged, turned by half a turn where the pulse along −d had the higher peak
(R198). -/
def alignAngle (axis : Nat) (x : HfiAlign) : Option Nat :=
  if !x.converged then none
  else (polarity x.peaks).map (fun plus => if plus then axis % 65536 else (axis + 32768) % 65536)

/-- HFI_ALIGN_END (R198): whether the PLL, whose angle is the axis, converged within `ALIGN_MAX`, and the peak currents of each polarity test
along +d and −d. With an angle the weight rises from the next period; without one the bridge goes to FREE, the capture result shows FAILED, counted,
its source asserted. -/
def execHfiAlignEnd (l : LaneId) (b : Nat) (x : HfiAlign) (s : State) : Host.Outcome State Fault Refusal :=
  .next (s.whenUp l (fun s =>
    if b < 6 ∧ s.rd l.reg CMT_STATE b = 2 ∧ s.rdB l.reg OBS_ALIGN b then
      match alignAngle (s.obsAngle l b) x with
      | some a => ((s.obsStart l b (s.measuredI l b) (a : Rat) 0).wr l.reg OBS_ALIGN b 0).obsReport l b
      | none =>
        let s := (((s.setBridge l b 3).dropOwn l b).loseWinding l b).stampCapture l b 3 0 0
        ((s.bump l.reg OBS_CNT_CAP_FAIL b).obsReport l b).raise l.reg 28
    else s))

/-- The bridges of a lane whose REJOIN takes effect: those in RUN in a voting peer start as under START_DRIVE kind 0, each
under its conditions; one in SHORT enters RUN if its encoder is usable and else stays there, since releasing it at speed would rectify the
back-EMF (R157, R178, R180; DEDUCED, log 69). -/
def State.rejoinDrives (s : State) (l : LaneId) : State :=
  (List.range 6).foldl (fun s b =>
    let runs := (s.peersOf l).any (fun p => s.voting l p &&
      match (s.lane l).vot.frame p with
      | some f => bit f.active b
      | none => false)
    if runs then s.startAlso l b else s) s

/-- The counts of cycles in which a block's configuration differed, with the block (R179, R262, R282, R365). -/
def diffBlocks : List (PDesc × Nat) := [(CMT_CFG_DIFF, 0x10), (CEN_CFG_DIFF, 0x12), (RPC_CFG_DIFF, 0x13), (SIO_CFG_DIFF, 0x17)]

/-- The comparison of the configurations of CMT, CEN, RPC and SIO at a cycle start: a difference between voting lanes for 2
cycles while a bridge is in RUN asserts source 23, the one the tables give for it (R179, R262, R282, R365, log 49). -/
def State.cfgCompare (s : State) (l : LaneId) : State :=
  let runs := s.voting l l && (List.range 6).any (fun b => s.rd l.reg CMT_STATE b == 2)
  let s := diffBlocks.foldl (fun s p =>
    let differs := runs && (s.peersOf l).any (fun x => s.voting l x && s.cfgCrcOf x.reg p.2 != s.cfgCrcOf l.reg p.2)
    s.wr l.reg p.1 0 (if differs then satNat 16 (s.rd l.reg p.1 + 1) else 0)) s
  if !diffBlocks.any (fun p => decide (s.rd l.reg p.1 ≥ 2)) then s.release l.reg 23
  else if bit (s.rd l.reg FCL_RAW) 23 then s else s.raise l.reg 23 true

end Sys2Proof.Machine
end

