-- ==== Sys2Proof/Machine/Feedback.lean ====
section
/-! DEFINITION. The position and speed feedback inputs: edges and count events, sine and cosine pairs, SSI frames, the
index, speeds, latches, faults and alignment (R288 to R316). -/

namespace Sys2Proof.Machine

open Par Var

/-- A channel of a lane. -/
def State.fch (s : State) (l : LaneId) (ch : Nat) : FbiCh := (s.lane l).fbi.getD ch {}

/-- A change of a channel. -/
def State.modCh (s : State) (l : LaneId) (ch : Nat) (f : FbiCh → FbiCh) : State :=
  s.modLane l (fun x => { x with fbi := x.fbi.set ch (f (x.fbi.getD ch {})) })

/-- The mode of a channel (R288). -/
def State.fmode (s : State) (l : LaneId) (ch : Nat) : Nat := s.rd l.reg FBI_MODE ch

/-- The modes a channel may take (R288). -/
def modeAllowed (ch mode : Nat) : Bool := if mode = 1 then ch < 4 else if mode = 2 then 4 ≤ ch else decide (mode ≤ 5)

/-- The position of a channel is valid: state 1, and aligned where it is under alignment (R312). -/
def State.posValid (s : State) (l : LaneId) (ch : Nat) : Bool :=
  s.rd l.reg FBI_STATE ch == 1 && (s.rd l.reg FBI_ALIGN_SET ch == 0xF || (s.fch l ch).aligned)

/-- The flags of a channel (R316). -/
def State.flagsOf (s : State) (l : LaneId) (ch : Nat) (speedOk : Bool) : Nat :=
  let c := s.fch l ch
  b2n (s.posValid l ch) + 2 * b2n speedOk + 4 * b2n c.still + 8 * b2n c.back + 16 * b2n c.done + 32 * b2n c.aligned +
    64 * b2n c.stale

/-! ### Count events (R290, R308, R310, R311) -/

/-- The run of a channel with an event added; of the events before the last two only those within the speed window can
still matter (R309). -/
def runAdd (run : List (Int × Nat)) (p : Int) (t win : Nat) : List (Int × Nat) :=
  match run with
  | a :: r => (p, t) :: a :: r.filter (fun e => decide (e.2 + win ≥ t))
  | [] => [(p, t)]

/-- A run restarted with an event: the direction takes the event's, each change counted (R310, R311). -/
def State.runStart (s : State) (l : LaneId) (ch t : Nat) (back : Bool) : State :=
  let c := s.fch l ch
  let s := if back != c.back then s.bump l.reg FBI_CNT_REV ch else s
  s.modCh l ch (fun x => { x with run := [(x.odo, t)], ext := x.odo, back := back, still := false })

/-- An event against the present direction has come back far enough: at once for pulses, `HYST` counts from the extreme
for SINCOS and SSI (R308, R311). -/
def State.turnsBack (s : State) (l : LaneId) (ch : Nat) : Bool :=
  if s.fmode l ch = 1 ∨ s.fmode l ch = 2 then
    decide (((s.fch l ch).odo - (s.fch l ch).ext).natAbs ≥ s.rd l.reg FBI_HYST ch)
  else true

/-- A count event of `d` units at time `t` (R290, R308, R311). A channel that is OFF or in fault counts nothing (R312). -/
def State.countEvent (s : State) (l : LaneId) (ch : Nat) (d : Int) (t : Nat) : State :=
  if d = 0 ∨ s.rd l.reg FBI_STATE ch ≠ 1 then s
  else
    let d := if s.rdB l.reg FBI_INVERT ch then -d else d
    let s := s.modCh l ch (fun x => { x with count := x.count + d, odo := x.odo + d })
    let c := s.fch l ch
    let win := s.rd l.reg FBI_SPD_WIN ch * 1000
    if c.run.isEmpty then s.runStart l ch t (decide (d < 0))
    else if decide (d < 0) = c.back then
      s.modCh l ch (fun x => { x with run := runAdd x.run x.odo t win, still := false,
                                      ext := if x.back then min x.ext x.odo else max x.ext x.odo })
    else if s.turnsBack l ch then s.runStart l ch t (decide (d < 0))
    else s

/-! ### Faults (R294, R312, R313) -/

/-- A channel enters fault: its bit, state 2, no valid speed, alignment lost, the source held (R312, R314). -/
def State.chFault (s : State) (l : LaneId) (ch n : Nat) : State :=
  if s.fmode l ch = 0 then s
  else
    let was := s.rd l.reg FBI_STATE ch == 2
    let s := (s.wrBit l.reg FBI_FAULT ch n true).wr l.reg FBI_STATE ch 2
    let s := s.modCh l ch (fun x => { x with aligned := false, again := x.again || x.aligned, run := [] })
    let s := (s.wr l.reg FBI_SPEED ch 0).wr l.reg FBI_FLAGS ch (s.flagsOf l ch false)
    if was then s else s.raise l.reg 34 true

/-- An edge fault: counted; the limit within the window sets the channel to fault (R291, R292, R294). -/
def State.edgeFault (s : State) (l : LaneId) (ch t : Nat) : State :=
  let s := s.bump l.reg FBI_CNT_EDGE_FAULT ch
  let win := s.rd l.reg FBI_EDGE_FAULT_WIN * 1000000
  let s := s.modCh l ch (fun x => { x with faultAt := x.faultAt.filter (fun u => decide (u + win > t)) ++ [t] })
  if (s.fch l ch).faultAt.length ≥ s.rd l.reg FBI_EDGE_FAULT_LIM ch then s.chFault l ch 0 else s

/-- FAULT bits cleared: with none left the channel is valid again with its run cleared; a cause that may have lost counts
clears INDEX_DONE too (R313). -/
def State.clearFaults (s : State) (l : LaneId) (ch bits : Nat) : State :=
  let left := clrMask (s.rd l.reg FBI_FAULT ch) bits
  let lost := bits &&& s.rd l.reg FBI_FAULT ch &&& 0b101110
  let s := s.wr l.reg FBI_FAULT ch left
  let s := if lost ≠ 0 then s.modCh l ch (fun x => { x with done := false, phi := none, raw := none, stale := false }) else s
  if left = 0 ∧ s.rd l.reg FBI_STATE ch = 2 then
    let s := s.wr l.reg FBI_STATE ch 1
    let s := s.modCh l ch (fun x => { x with run := [], still := true, faultAt := [], unused := 0, rejected := 0, raw := none })
    let s := s.wr l.reg FBI_FLAGS ch (s.flagsOf l ch false)
    if (List.range 8).any (fun i => s.rd l.reg FBI_STATE i == 2) then s else s.release l.reg 34
  else s.wr l.reg FBI_FLAGS ch (s.flagsOf l ch (bit (s.rd l.reg FBI_FLAGS ch) 1))

/-- FBI_LINE_FAULT (R295): a wire in use of a differential channel without a signal for 4 µs. Z is in use only while
`INDEX_MODE` is not 0; in SSI only A is checked. -/
def execFbiLineFault (l : LaneId) (ch : Nat) (wire : Nat) (s : State) : Host.Outcome State Fault Refusal :=
  .next (s.whenUp l (fun s =>
    let used : Bool := match s.fmode l ch with
      | 2 => wire == 0
      | 1 => wire == 2 && s.rdB l.reg FBI_INDEX_MODE ch
      | 0 => false
      | _ => wire ≤ 1 || (wire == 2 && s.rdB l.reg FBI_INDEX_MODE ch)
    if ch < 8 ∧ !s.rdB l.reg FBI_IN_TYPE ch ∧ used then s.chFault l ch 1 else s))

/-- FBI_FAULT_CLEAR (R313): bits of a channel cleared where none of their causes is present. -/
def execFbiFaultClear (l : LaneId) (h : Hdr) (ch bits present : Nat) (s : State) : Host.Outcome State Fault Refusal :=
  .next (s.whenHost l (fun s =>
    s.perform l h 0x0102 (failIf (decide (ch > 7 ∨ bits &&& present &&& s.rd l.reg FBI_FAULT ch ≠ 0)) (rRange (FBI_FAULT.id l.reg ch) 20))
      (s.clearFaults l ch bits, rOk)))

/-- The commit that sets a channel's mode: count 0, index state cleared, standstill, no fault (R290, R313). -/
def State.chConfigured (s : State) (l : LaneId) (ch : Nat) : State :=
  let s := s.modCh l ch (fun _ => {})
  let s := (s.wr l.reg FBI_FAULT ch 0).wr l.reg FBI_INDEX_ARM ch 0
  let s := (s.wr l.reg FBI_STATE ch (if s.fmode l ch = 0 then 0 else 1)).wr l.reg FBI_SPEED ch 0
  let s := (s.wr l.reg FBI_POS ch 0).wr l.reg FBI_POS_SI ch 0
  let s := s.wr l.reg FBI_FLAGS ch (s.flagsOf l ch false)
  if (List.range 8).any (fun i => s.rd l.reg FBI_STATE i == 2) then s else s.release l.reg 34

/-! ### Index (R303 to R305) -/

/-- The residue of an index event: the 32-bit count it finds less the count it sets, as a signed value modulo `INDEX_CPR` (R290, R305). -/
def residue (found set : Int) (cpr : Nat) : Int :=
  let m := sgn 32 (twos 32 (found - set)) % (cpr : Int)
  if 2 * m ≥ cpr then m - cpr else m

/-- An index event that sets the count to `v`: counted; every one after the channel's first is checked, whether it sets the count or not; set in
mode 1, and in mode 2 once after arming (R303, R305). -/
def State.indexEvent (s : State) (l : LaneId) (ch : Nat) (v : Int) : State :=
  let mode := s.rd l.reg FBI_INDEX_MODE ch
  if mode = 0 ∨ s.rd l.reg FBI_STATE ch ≠ 1 then s
  else
    let s := s.bump l.reg FBI_CNT_INDEX ch
    let cpr := s.rd l.reg FBI_INDEX_CPR ch
    let r := residue (s.fch l ch).count v cpr
    let s := if cpr ≠ 0 ∧ (s.fch l ch).seen ∧ r.natAbs > s.rd l.reg FBI_INDEX_TOL ch then
        ((s.bump l.reg FBI_CNT_INDEX_ERR ch).wr l.reg FBI_LAST_INDEX ch (withCycle (twos 32 r) (s.cycle l))).raise l.reg 35
      else s
    let s := s.modCh l ch (fun x => { x with seen := true })
    if mode = 1 ∨ s.rdB l.reg FBI_INDEX_ARM ch then
      (s.wr l.reg FBI_INDEX_ARM ch 0).modCh l ch (fun x => { x with count := v, done := true })
    else s

/-- FBI_INDEX_ARM (R303): a write of 1 arms a channel in mode 2; in another mode it is RANGE. -/
def execFbiIndexArm (l : LaneId) (h : Hdr) (ch : Nat) (s : State) : Host.Outcome State Fault Refusal :=
  .next (s.whenHost l (fun s =>
    s.perform l h 0x0102 (failIf (decide (ch > 7 ∨ s.rd l.reg FBI_INDEX_MODE ch ≠ 2)) (rRange (FBI_INDEX_ARM.id l.reg ch) 20))
      (s.wr l.reg FBI_INDEX_ARM ch 1, rOk)))

/-! ### Edges (R291 to R293, R304) -/

/-- The quadrant of the levels of A and B (R292). -/
def quadrant (lv : Nat) : Nat :=
  match bit lv 0, bit lv 1 with
  | false, false => 0
  | true, false => 1
  | true, true => 2
  | false, true => 3

/-- The accepted levels after edges of one time. -/
def levelsAfter (lv : Nat) (es : List WireEdge) : Nat :=
  es.foldl (fun v e => if e.wire < 3 then putBit v e.wire e.level else v) lv

/-- A wire rose in a set of edges. -/
def rose (old new n : Nat) : Bool := !bit old n && bit new n

/-- The index events of a quadrature step while Z is high (R304). -/
def State.abzIndex (s : State) (l : LaneId) (ch q0 q1 : Nat) (z : Bool) : State :=
  let iq := s.rd l.reg FBI_INDEX_QUAD ch
  let v := s.rdI l.reg FBI_INDEX_VALUE ch
  if !z then s
  else if q1 = iq ∧ (q0 + 1) % 4 = iq then s.indexEvent l ch v
  else if q0 = iq ∧ (q1 + 1) % 4 = iq then s.indexEvent l ch (v - 1)
  else s

/-- The edges of one time decoded by the channel's mode (R292, R293, R304). -/
def State.decodeEdges (s : State) (l : LaneId) (ch : Nat) (es : List WireEdge) (t : Nat) : State :=
  let lv0 := (s.fch l ch).levels
  let lv := levelsAfter lv0 es
  let s := s.modCh l ch (fun x => { x with levels := lv })
  let s := if s.fmode l ch ≥ 3 then s.wr l.reg FBI_RAW ch lv else s
  match s.fmode l ch with
  | 3 =>
    let q0 := quadrant lv0
    let q1 := quadrant lv
    if q1 = q0 then s
    else if q1 = (q0 + 1) % 4 then (s.countEvent l ch 1 t).abzIndex l ch q0 q1 (bit lv 2)
    else if q0 = (q1 + 1) % 4 then (s.countEvent l ch (-1) t).abzIndex l ch q0 q1 (bit lv 2)
    else s.edgeFault l ch t
  | 4 =>
    let s := if rose lv0 lv 0 then s.countEvent l ch (if bit lv0 1 then 1 else -1) t else s
    if rose lv0 lv 2 then s.indexEvent l ch (s.rdI l.reg FBI_INDEX_VALUE ch) else s
  | 5 =>
    let d : Int := (if rose lv0 lv 0 then 1 else 0) - (if rose lv0 lv 1 then 1 else 0)
    let s := s.countEvent l ch d t
    if rose lv0 lv 2 then s.indexEvent l ch (s.rdI l.reg FBI_INDEX_VALUE ch) else s
  | _ => s

/-- An edge at `t` whose acceptance ends more than 0.25 µs later does not count in a latch that comes before: the count before it is kept with
the end of its acceptance (R306). -/
def State.noteEdge (s : State) (l : LaneId) (ch t : Nat) : State :=
  let acc := t + s.rd l.reg FBI_EDGE_MIN ch * 10
  if acc ≤ t + 250 then s
  else s.modCh l ch (fun x => { x with fresh := x.fresh.filter (fun e => decide (e.1 > t + 250)) ++ [(acc, x.count)] })

/-- FBI_EDGE_ACCEPT (R291): edges of one pin-edge time whose level has held for `heldNs`; a pulse shorter than `EDGE_MIN`
is discarded whole and counted once. -/
def execFbiEdgeAccept (l : LaneId) (ch : Nat) (edges : List WireEdge) (heldNs : Nat) (t : Nat) (s : State) :
    Host.Outcome State Fault Refusal :=
  .next ((s.atTime t).whenUp l (fun s =>
    if ch > 7 ∨ s.fmode l ch = 0 then s
    else if heldNs < s.rd l.reg FBI_EDGE_MIN ch * 10 then s.edgeFault l ch t
    else (s.noteEdge l ch t).decodeEdges l ch edges t))

/-! ### Sine and cosine (R297 to R299) -/

/-- The corrected signals of a pair (R297). -/
def State.scSignals (s : State) (l : LaneId) (p : SinCos) : Rat × Rat :=
  ((p.sin - s.rdI l.reg FBI_SC_OFF_SIN p.ch : Int),
    ((p.cos - s.rdI l.reg FBI_SC_OFF_COS p.ch : Int) : Rat) * (s.rd l.reg FBI_SC_GAIN_COS p.ch : Nat) / 32768)

/-- The phase of a pair in steps of 2^-SC_BITS of a signal period (R297). -/
def State.scPhase (s : State) (l : LaneId) (p : SinCos) : Nat :=
  let g := s.scSignals l p
  atan2U g.1 g.2 * 2 ^ s.rd l.reg FBI_SC_BITS p.ch / 65536

/-- The amplitude of a pair relative to nominal, as a fraction; 8,192 units of the 14-bit converters are 1.0 V (R298, R590; DEDUCED, log 7). -/
def State.scAmp (s : State) (l : LaneId) (p : SinCos) : Rat :=
  let g := s.scSignals l p
  let n : Rat := (s.rd l.reg FBI_SC_NOM p.ch * 8192 : Nat) / 1000
  (g.1 * g.1 + g.2 * g.2) / (n * n)

/-- An unused pair: counted; `SC_PERSIST` of them in a row set the channel to fault, by amplitude or as missing (R298). -/
def State.scUnused (s : State) (l : LaneId) (ch : Nat) (missing : Bool) : State :=
  let s := (s.bump l.reg FBI_CNT_SC_SKIP ch).modCh l ch (fun x => { x with unused := x.unused + 1 })
  if (s.fch l ch).unused ≥ s.rd l.reg FBI_SC_PERSIST then s.chFault l ch (if missing then 5 else 2) else s

/-- The sense in which a channel counts (R290). -/
def State.sense (s : State) (l : LaneId) (ch : Nat) : Int := if s.rdB l.reg FBI_INVERT ch then -1 else 1

/-- The index of a sine and cosine channel: the phase passing through 0 while Z is high; the count is `INDEX_VALUE` at phase 0 and follows the
phase in the channel's sense (R290, R304). -/
def State.scIndex (s : State) (l : LaneId) (ch : Nat) (d : Int) (phi0 phi : Nat) : State :=
  let v := s.rdI l.reg FBI_INDEX_VALUE ch
  let full : Int := (2 ^ s.rd l.reg FBI_SC_BITS ch : Nat)
  if !bit (s.fch l ch).levels 2 then s
  else if d > 0 ∧ phi < phi0 then s.indexEvent l ch (v + s.sense l ch * phi)
  else if d < 0 ∧ phi > phi0 then s.indexEvent l ch (v + s.sense l ch * (phi - full))
  else s

/-- A used pair moves the count by its change of phase, unless it is a quarter period or more; the first one, and the first after a fault that
lost the phase, puts its phase in the place of the one the count contains, so that the period count stands (R297, R299). -/
def State.scUsed (s : State) (l : LaneId) (p : SinCos) (t : Nat) : State :=
  let phi := s.scPhase l p
  let n := s.rd l.reg FBI_SC_BITS p.ch
  let s := s.modCh l p.ch (fun x => { x with unused := 0 })
  match (s.fch l p.ch).phi with
  | none =>
    let d := s.sense l p.ch * ((phi : Int) - ((s.fch l p.ch).inc : Int))
    s.modCh l p.ch (fun x => { x with phi := some phi, phiAt := t, inc := phi, count := x.count + d, odo := x.odo + d })
  | some phi0 =>
    let d := sgn n (twos n ((phi : Int) - phi0))
    if 4 * d.natAbs ≥ 2 ^ n then s.chFault l p.ch 3
    else
      let s := s.modCh l p.ch (fun x => { x with phi := some phi, phiAt := t, inc := phi })
      (s.countEvent l p.ch d t).scIndex l p.ch d phi0 phi

/-- A pair of a channel in SINCOS mode: reported, its amplitude judged, used or counted as unused (R298). -/
def State.scPair (s : State) (l : LaneId) (p : SinCos) (t : Nat) : State :=
  if p.ch > 3 ∨ s.fmode l p.ch ≠ 1 then s
  else
    let a := s.scAmp l p
    let s := s.wr l.reg FBI_RAW p.ch (twos 16 p.sin + twos 16 p.cos * 65536)
    let s := s.wr l.reg FBI_AMP p.ch (clampInt 0 65535 (roundQ (a * 1000))).toNat
    if s.rd l.reg FBI_STATE p.ch ≠ 1 then s
    else if a * 100 < (s.rd l.reg FBI_SC_WIN_LO : Rat) ∨ a * 100 > (s.rd l.reg FBI_SC_WIN_HI : Rat)
    then s.scUnused l p.ch false
    else s.scUsed l p t

/-- A missing pair (R296, R298). -/
def State.scMissing (s : State) (l : LaneId) (ch : Nat) : State :=
  if ch > 3 ∨ s.fmode l ch ≠ 1 ∨ s.rd l.reg FBI_STATE ch ≠ 1 then s else s.scUnused l ch true

/-- SINCOS_PAIR_RECEIVE (R297): a pair held between valleys, or a missing one. -/
def execSincosPairReceive (l : LaneId) (ch : Nat) (pair : Option SinCos) (t : Nat) (s : State) :
    Host.Outcome State Fault Refusal :=
  .next ((s.atTime t).whenUp l (fun s =>
    match pair with
    | some p => s.scPair l { p with ch := ch } t
    | none => s.scMissing l ch))

/-! ### Speed (R309) -/

/-- The speed of a run at time `t` in counts per ns, none with fewer than two events (R309). -/
def runSpeed (run : List (Int × Nat)) (win t : Nat) : Option Rat :=
  match run with
  | a :: b :: _ =>
    let w := run.filter (fun e => decide (e.2 + win > t))
    let v : Rat := match w.head?, w.getLast? with
      | some x, some y =>
        if w.length ≥ 2 ∧ x.2 ≠ y.2 then ((x.1 - y.1 : Int) : Rat) / ((x.2 - y.2 : Nat) : Rat)
        else ((a.1 - b.1 : Int) : Rat) / ((a.2 - b.2 : Nat) : Rat)
      | _, _ => ((a.1 - b.1 : Int) : Rat) / ((a.2 - b.2 : Nat) : Rat)
    let dt : Rat := ((t - a.2 : Nat) : Rat)
    some (if absQ v * dt > 1 then sgnQ v / dt else v)
  | _ => none

/-- The speed of a channel at time `t` in counts per ns, from the events a latch at `t` includes; none where it is not valid (R306, R309, R312). -/
def State.chSpeed (s : State) (l : LaneId) (ch t : Nat) : Option Rat :=
  let late := s.rd l.reg FBI_EDGE_MIN ch * 10
  let run := if s.fmode l ch ≥ 3 then (s.fch l ch).run.filter (fun e => decide (e.2 + late ≤ t + 250)) else (s.fch l ch).run
  if s.rd l.reg FBI_STATE ch ≠ 1 then none else runSpeed run (s.rd l.reg FBI_SPD_WIN ch * 1000) t

/-- FBI_STANDSTILL_TIMEOUT (R310). -/
def execFbiStandstillTimeout (l : LaneId) (ch : Nat) (s : State) : Host.Outcome State Fault Refusal :=
  .next (s.whenUp l (fun s => if ch < 8 then s.modCh l ch (fun x => { x with run := [], still := true }) else s))

/-! ### SSI (R300 to R302) -/

/-- A Gray code as binary. -/
def grayToBin : Nat → Nat → Nat
  | 0, g => g
  | n + 1, g => g ^^^ grayToBin n (g / 2)

/-- The position field of a frame (R300). -/
def State.ssiPos (s : State) (l : LaneId) (ch frame : Nat) : Nat :=
  let w := s.rd l.reg FBI_SSI_POS_W ch
  let p := frame / 2 ^ s.rd l.reg FBI_SSI_POS_LSB ch % 2 ^ w
  if s.rdB l.reg FBI_SSI_CODE ch then grayToBin w p else p

/-- The count of an SSI channel extrapolated by speed to time `t` (R302). -/
def State.ssiAt (s : State) (l : LaneId) (ch t : Nat) : Int :=
  let c := s.fch l ch
  c.count + roundQ ((s.chSpeed l ch t).getD 0 * ((t - c.rawAt : Nat) : Rat))

/-- A frame is rejected (R301). -/
def State.ssiBad (s : State) (l : LaneId) (ch frame : Nat) (startHigh : Bool) : Bool :=
  let eb := s.rd l.reg FBI_SSI_ERR_BIT ch
  let jump := s.rd l.reg FBI_SSI_JUMP ch
  let c := s.fch l ch
  let w := s.rd l.reg FBI_SSI_POS_W ch
  !startHigh || (eb % 64 != 0x3F && bit frame (eb % 64) == bit eb 6) ||
    (jump != 0 && c.raw.isSome &&
      decide ((s.sense l ch * sgn w (twos w ((s.ssiPos l ch frame : Int) - (c.raw.getD 0 : Int))) - (s.ssiAt l ch c.readAt - c.count)).natAbs > jump))

/-- A rejected frame: counted, the channel stale; `SSI_FAULT_LIM` in a row set it to fault (R301, R302). -/
def State.ssiReject (s : State) (l : LaneId) (ch : Nat) : State :=
  let s := (s.bump l.reg FBI_CNT_SSI_ERR ch).modCh l ch (fun x => { x with rejected := x.rejected + 1, stale := true })
  if (s.fch l ch).rejected ≥ s.rd l.reg FBI_SSI_FAULT_LIM ch then s.chFault l ch 4 else s

/-- An accepted frame: the first sets the count, a later one adds its signed difference (R302). -/
def State.ssiAccept (s : State) (l : LaneId) (ch frame : Nat) : State :=
  let p := s.ssiPos l ch frame
  let c := s.fch l ch
  let w := s.rd l.reg FBI_SSI_POS_W ch
  let s := match c.raw with
    | none => s.modCh l ch (fun x => { x with count := p, odo := p })
    | some q => s.countEvent l ch (sgn w (twos w ((p : Int) - q))) c.readAt
  s.modCh l ch (fun x => { x with raw := some p, rawAt := x.readAt, rejected := 0, stale := false })

/-- SSI_FRAME_COMPLETE (R301): the frame whose read started at the latest reading valley. -/
def execSsiFrameComplete (l : LaneId) (ch : Nat) (frame : Nat) (startHigh : Bool) (t : Nat) (s : State) :
    Host.Outcome State Fault Refusal :=
  .next ((s.atTime t).whenUp l (fun s =>
    if ch > 7 ∨ s.fmode l ch ≠ 2 then s
    else
      let s := s.wr l.reg FBI_RAW ch frame
      if s.rd l.reg FBI_STATE ch ≠ 1 then s
      else if s.ssiBad l ch frame startHigh then s.ssiReject l ch else s.ssiAccept l ch frame))

/-- The read of an SSI channel starts at every `SSI_DIV`-th base valley (R300). -/
def State.ssiValley (s : State) (l : LaneId) (ch t : Nat) : State :=
  if s.fmode l ch ≠ 2 then s
  else
    let n := (s.fch l ch).readN + 1
    if n ≥ s.rd l.reg FBI_SSI_DIV ch then s.modCh l ch (fun x => { x with readN := 0, readAt := t })
    else s.modCh l ch (fun x => { x with readN := n })

/-! ### Latching (R306) -/

/-- The count a latch at time `t` takes: an SSI count extrapolated from its frame; a sine and cosine count extrapolated
from its last used pair; pulses as they stood before the first edge whose acceptance ends more than 0.25 µs after the latch (R302, R306). -/
def State.latchCount (s : State) (l : LaneId) (ch t : Nat) : Int :=
  let c := s.fch l ch
  match s.fmode l ch with
  | 2 => s.ssiAt l ch t
  | 1 => c.count + roundQ ((s.chSpeed l ch t).getD 0 * ((t - c.phiAt : Nat) : Rat))
  | _ => (c.fresh.find? (fun e => decide (e.1 > t + 250))).elim c.count (fun e => e.2)

/-- One channel latched at a base valley: position, speed, flags (R306, R309). -/
def State.latchCh (s : State) (l : LaneId) (ch t : Nat) : State :=
  if s.fmode l ch = 0 then s
  else
    let v := s.chSpeed l ch t
    let s := s.wr l.reg FBI_POS ch (twos 32 (s.latchCount l ch t))
    let s := s.wrI l.reg FBI_SPEED ch (satInt 48 (roundQ (v.getD 0 * 256 * 1000000000)))
    s.wr l.reg FBI_FLAGS ch (s.flagsOf l ch v.isSome)

/-- A base valley for FBI: the pairs held at it, the missing ones, every channel latched, SSI reads started (R296, R306). -/
def State.fbiValley (s : State) (l : LaneId) (sc : List SinCos) (t : Nat) : State :=
  let s := sc.foldl (fun s p => s.scPair l p t) s
  let s := [0, 1, 2, 3].foldl (fun s ch => if sc.any (fun p => p.ch == ch) then s else s.scMissing l ch) s
  (List.range 8).foldl (fun s ch => (s.latchCh l ch t).ssiValley l ch t) s

/-- The latch of every channel at a common sample instant (R306). -/
def State.fbiSample (s : State) (l : LaneId) (t : Nat) : State :=
  (List.range 8).foldl (fun s ch =>
    if s.fmode l ch = 0 then s else s.wr l.reg FBI_POS_SI ch (twos 32 (s.latchCount l ch t))) s

/-! ### Alignment (R314) -/

/-- Some other voting lane was aligned on the channel before this cycle. -/
def State.peerAligned (s : State) (l : LaneId) (ch : Nat) : Bool :=
  (s.peersOf l).any (fun p => s.voting l p && (s.fch p ch).aligned && decide ((s.fch p ch).alignCyc < s.cycle l))

/-- A channel aligned: its flag from now on. -/
def State.alignCh (s : State) (l : LaneId) (ch : Nat) (d : Int) : State :=
  let s := s.modCh l ch (fun x => { x with count := x.count + d, aligned := true, alignCyc := s.cycle l })
  s.wr l.reg FBI_FLAGS ch (s.flagsOf l ch (bit (s.rd l.reg FBI_FLAGS ch) 1))

/-- A channel that awaits alignment. -/
def State.awaitsAlign (s : State) (l : LaneId) (ch : Nat) : Bool :=
  s.rd l.reg FBI_ALIGN_SET ch != 0xF && !(s.fch l ch).aligned && s.rd l.reg FBI_STATE ch == 1

/-- The second way of alignment, at a common sample instant: no voting lane is aligned and every voting lane, of which there is one, reports the
channel in state 1; every lane then sets ALIGNED, but on a channel that a fault has unaligned (R314; one voting lane at least DEDUCED,
log 75). -/
def State.alignTogether (s : State) (l : LaneId) : State :=
  (List.range 8).foldl (fun s ch =>
    if s.awaitsAlign l ch && !(s.fch l ch).again && !s.peerAligned l ch && !(s.votingLanes l).isEmpty &&
        (s.votingLanes l).all (fun p => s.rd p.reg FBI_STATE ch == 1)
    then s.alignCh l ch 0 else s) s

/-- The first way of alignment, once the sets of a sample instant are voted: an aligned voting peer exists and the set is
valid; the difference between the set's result and the lane's own value is added (R314). -/
def State.alignToSet (s : State) (l : LaneId) : State :=
  (List.range 8).foldl (fun s ch =>
    let set := s.rd l.reg FBI_ALIGN_SET ch
    if s.awaitsAlign l ch && s.peerAligned l ch && bit (s.rd l.reg VOT_AN_STATE set) 8
    then s.alignCh l ch (s.rdI l.reg VOT_AN_VALUE set - s.rdI l.reg FBI_POS_SI ch) else s) s

/-- Every channel after a wake: counts and index states retained, runs cleared (R315). -/
def State.fbiWake (s : State) (l : LaneId) : State :=
  (List.range 8).foldl (fun s ch => s.modCh l ch (fun x => { x with run := [], still := true })) s

end Sys2Proof.Machine
end

