-- ==== Sys2Proof/Machine/Staff.lean ====
section
/-! DEFINITION. The staff: the lease with its epoch, election, grants, release and leave, in the lanes and at S (R110 to
R134). -/

namespace Sys2Proof.Machine

open Par Var

/-! ### Eligibility and claims in a lane -/

/-- A lane's Towline synchronisation in the view of lane `l`: its own, or the cycle its latest frame carries (R88). -/
def State.syncSeen (s : State) (l x : LaneId) : Bool :=
  if x = l then s.synced l else match (s.lane l).vot.frame x with
    | some f => f.cycle != 0
    | none => false

/-- A latched fault of a lane in the view of lane `l` (R118). -/
def State.latchSeen (s : State) (l x : LaneId) : Bool :=
  if x = l then s.rd l.reg FCL_LATCHED != 0 else match (s.lane l).vot.frame x with
    | some f => f.latched
    | none => false

/-- A lane eligible for the staff in the view of lane `l` (R118). -/
def State.eligible (s : State) (l x : LaneId) : Bool :=
  s.voting l x && s.syncSeen l x && !s.latchSeen l x && !s.rdB l.reg STF_RELINQ x.reg && !s.rdB l.reg STF_RELEASED x.reg

/-- The lowest-lettered eligible lane in the view of lane `l` (R119, R120). -/
def State.lowestEligible (s : State) (l : LaneId) : Option LaneId := LaneId.all.find? (fun x => s.eligible l x)

/-- A lane holds the staff and its count runs, so it may start staff functions (R110, R114). -/
def State.staffOk (s : State) (l : LaneId) : Bool := s.rd l.reg STF_HOLDER == l.reg && s.rdB l.reg STF_COUNT_ON

/-- The other voting lanes of a lane. -/
def State.otherVoting (s : State) (l : LaneId) : List LaneId := (s.votingLanes l).filter (fun x => x != l)

/-- A grant of a claim seen in a lane: the record, the view of holder and epoch; ADMITs that waited are the new holder's to send (R130,
R133). -/
def State.noteHandover (s : State) (l : LaneId) (holder epoch cause : Nat) : State :=
  let prev := if s.rd l.reg STF_HOLDER = 0 then s.rd l.reg STF_PREV else s.rd l.reg STF_HOLDER
  let s := (s.wr l.reg STF_LAST_HANDOVER 0 (withCycle (prev + holder * 16 + cause * 256) (s.cycle l))).bump l.reg STF_CNT_HANDOVER
  let s := (s.wr l.reg STF_PREV 0 prev).wr l.reg STF_HOLDER 0 holder
  let s := (s.wr l.reg STF_EPOCH 0 epoch).wr l.reg STF_RESERVED 0 0
  let s := LaneId.all.foldl (fun s x => s.wr l.reg STF_RELEASED x.reg 0) s
  let s := if holder = l.reg then s else s.wr l.reg STF_ADMIT_WAIT 0 0
  (s.wr l.reg STF_MAY_CLAIM 0 0).wr l.reg STF_CAUSE 0 0

/-- The cause of a handover a lane records: first election, or how the last lease ended (R133). -/
def State.handoverCause (s : State) (l : LaneId) : Nat :=
  if s.rd l.reg STF_EPOCH = 0 then 0
  else if s.rd l.reg STF_CAUSE = 0 then 3 else s.rd l.reg STF_CAUSE

/-- An ADMIT of the holder naming a lane, which is eligible again in the holder's own view too (R118, R130). -/
def State.sendAdmit (s : State) (l x : LaneId) : State :=
  (s.wr l.reg STF_RELINQ x.reg 0).sendStaffAll l (s.staffMsg l 8 x.reg (s.rd l.reg STF_EPOCH) 0)

/-- The ADMITs that waited for a holder, sent by the new holder (R130). -/
def State.sendWaitingAdmits (s : State) (l : LaneId) : State :=
  let w := s.rd l.reg STF_ADMIT_WAIT
  (LaneId.all.foldl (fun s x => if w.testBit x.idx then s.sendAdmit l x else s) s).wr l.reg STF_ADMIT_WAIT 0 0

/-- A lane becomes the holder: its count runs from the sending of its CLAIM; the event for standing orders; its address
claim waits while its own lease + 1 ms count still runs, unless the last holder released the staff or there was none (R114, R122, R130,
R437). -/
def State.becomeHolder (s : State) (l : LaneId) (epoch cause : Nat) : State :=
  let why := s.handoverCause l
  let s := s.noteHandover l l.reg epoch cause
  let s := (s.wr l.reg STF_COUNT_ON 0 1).wr l.reg STF_COUNT_AT 0 (s.rd l.reg STF_CLAIM_AT)
  let s := s.wr l.reg STF_RUN_MS 0 (s.rd l.reg STF_SENT_MS)
  let s := ((s.wr l.reg STF_CLAIMING 0 0).wr l.reg STF_RETRY 0 0).wr l.reg HST_ISO_STATE 0 0
  let s := if s.rdB l.reg STF_WAIT_ON ∧ why ≠ 1 ∧ why ≠ 0 then s.wr l.reg STF_ISO_WAIT 0 1 else s
  (s.event l 6 0).sendWaitingAdmits l

/-- The previous holder in a lane's view: the one whose lease it has seen run out, which under S lost no EXPIRED has taken from the view,
else the last one. -/
def State.prevHolder (s : State) (l : LaneId) : Nat :=
  if s.rd l.reg STF_HOLDER = 0 then s.rd l.reg STF_PREV else s.rd l.reg STF_HOLDER

/-- Every voting lane other than the claimant and the previous holder has sent AGREE to lane `l` (R124). -/
def State.allAgreed (s : State) (l : LaneId) : Bool :=
  (s.otherVoting l).all (fun x => x.reg == s.prevHolder l || (s.rd l.reg STF_S_AGREE).testBit x.idx)

/-- A claim of a lane granted under S lost, once every required AGREE is there; a sole voting lane grants its own at
once (R124). -/
def State.selfGrant (s : State) (l : LaneId) : State :=
  if s.rdB l.reg STF_S_SILENT && s.rdB l.reg STF_CLAIMING && s.allAgreed l
  then s.becomeHolder l (s.rd l.reg STF_EPOCH + 1) 5 else s

/-- A CLAIM with an epoch one above the epoch seen and the lease of the latest RENEW received (R112, R119). -/
def State.sendClaim (s : State) (l : LaneId) (t : Nat) : State :=
  let s := s.sendStaffAll l { s.staffMsg l 3 l.reg (s.rd l.reg STF_EPOCH + 1) 0 with lease := s.leaseMs l }
  let s := ((s.wr l.reg STF_CLAIMING 0 1).wr l.reg STF_CLAIM_AT 0 t).wr l.reg STF_SENT_MS 0 (s.leaseMs l)
  ((s.wr l.reg STF_S_AGREE 0 0).wr l.reg STF_RETRY 0 0).selfGrant l

/-- A lane may send CLAIM: eligible, its count ended or the staff given up, no claim of its own outstanding, no
lower-lettered eligible lane unless it is itself designated, no designation of another lane (R119, R121). -/
def State.canClaim (s : State) (l : LaneId) : Bool :=
  s.eligible l l && s.rdB l.reg STF_MAY_CLAIM && !s.rdB l.reg STF_CLAIMING && s.rd l.reg STF_HOLDER != l.reg &&
    (s.rd l.reg STF_RESERVED == l.reg || (s.rd l.reg STF_RESERVED == 0 && s.lowestEligible l == some l))

/-- A CLAIM where one may be sent. -/
def State.tryClaim (s : State) (l : LaneId) (t : Nat) : State := if s.canClaim l then s.sendClaim l t else s

/-- A failed claim: counted, and repeated at the next common sample instant (R120). -/
def State.claimFailed (s : State) (l : LaneId) : State :=
  if s.rdB l.reg STF_CLAIMING then
    ((s.wr l.reg STF_CLAIMING 0 0).wr l.reg STF_RETRY 0 1).bump l.reg STF_CNT_DENIED
  else s

/-- The lane's view after the holder lost the staff under the present epoch. -/
def State.holderGone (s : State) (l : LaneId) (cause : Nat) : State :=
  let s := if s.rd l.reg STF_HOLDER = 0 then s else s.wr l.reg STF_PREV 0 (s.rd l.reg STF_HOLDER)
  let s := if s.rd l.reg STF_HOLDER = l.reg then (s.wr l.reg STF_COUNT_ON 0 0).wr l.reg STF_RENEW_OPEN 0 0 else s
  (s.wr l.reg STF_HOLDER 0 0).wr l.reg STF_CAUSE 0 cause

/-- At a common sample instant: the holder's RENEW; in another lane a claim where one may be sent, repeated after a failure, or late
because the lane was not eligible when its count ended (R112, R119, R120; for the late one the moment is DEDUCED, log 67). A sole
voting lane under S lost needs no GRANT (R124). -/
def State.staffSample (s : State) (l : LaneId) (t : Nat) : State :=
  if s.rd l.reg STF_HOLDER = l.reg then
    let s := (s.sendStaffAll l (s.staffMsg l 1 l.reg (s.rd l.reg STF_EPOCH) 0)).wr l.reg STF_RENEW_AT 0 t
    let s := s.wr l.reg STF_SENT_MS 0 (s.rd l.reg STF_LEASE)
    let s := (s.wr l.reg STF_RENEW_OPEN 0 1).wr l.reg STF_S_GRANT 0 0
    if s.rdB l.reg STF_S_SILENT && (s.otherVoting l).isEmpty then
      (((s.wr l.reg STF_COUNT_ON 0 1).wr l.reg STF_COUNT_AT 0 t).wr l.reg STF_RUN_MS 0 (s.rd l.reg STF_SENT_MS)).wr l.reg STF_RENEW_OPEN 0 0
    else s
  else (s.wr l.reg STF_RETRY 0 0).tryClaim l t

/-- A release by the holder under R126: it stops every staff function, sends RELEASE naming the successor or 0, and is
not eligible until a GRANT raises the epoch (R118, R121). -/
def State.releaseStaff (s : State) (l : LaneId) (succ : Nat) : State :=
  let s := s.wr l.reg STF_COUNT_ON 0 0
  let s := s.sendStaffAll l (s.staffMsg l 6 succ (s.rd l.reg STF_EPOCH) 0)
  ((s.holderGone l 1).wr l.reg STF_RELEASED l.reg 1).wr l.reg STF_RESERVED 0 succ

/-! ### STAFF messages in a lane -/

/-- A RENEW that is valid in a lane's view: of a lane it does not see excluded, with a higher epoch than the one seen, or
with that epoch from the holder seen (R112, R123, log 20). -/
def State.renewValid (s : State) (l : LaneId) (m : StaffMsg) : Bool :=
  (match LaneId.ofReg m.sender with
    | some x => x != l && !s.exclSeen l x
    | none => false) &&
  (decide (m.epoch > s.rd l.reg STF_EPOCH) || (m.epoch == s.rd l.reg STF_EPOCH && m.sender == s.rd l.reg STF_HOLDER))

/-- A RENEW in a lane: the lease + 1 ms count restarts with the lease it carries; under S lost a voting lane answers
GRANT (R112, R114, R123, R124). -/
def State.laneRenew (s : State) (l : LaneId) (m : StaffMsg) (t : Nat) : State :=
  if s.renewValid l m then
    let s := if m.epoch > s.rd l.reg STF_EPOCH then s.noteHandover l m.sender m.epoch (if s.rdB l.reg STF_S_SILENT then 5 else s.handoverCause l) else s
    let s := (s.wr l.reg STF_LEASE_MS 0 m.lease).wr l.reg STF_HEARD 0 1
    let s := (s.wr l.reg STF_WAIT_ON 0 1).wr l.reg STF_WAIT_AT 0 t
    let s := (s.wr l.reg STF_MAY_CLAIM 0 0).wr l.reg STF_RETRY 0 0
    if s.rdB l.reg STF_S_SILENT && s.voting l l then
      match LaneId.ofReg m.sender with
      | some x => s.send (.staff (.lane x) (s.staffMsg l 2 m.sender m.epoch 0))
      | none => s
    else s
  else s

/-- The holder's count restarted from its latest RENEW, with the lease that RENEW carried (R114). -/
def State.renewGranted (s : State) (l : LaneId) : State :=
  let s := s.wr l.reg STF_RUN_MS 0 (s.rd l.reg STF_SENT_MS)
  ((s.wr l.reg STF_COUNT_ON 0 1).wr l.reg STF_COUNT_AT 0 (s.rd l.reg STF_RENEW_AT)).wr l.reg STF_RENEW_OPEN 0 0

/-- A GRANT of S in a lane: of its own claim, also of one the lane has counted as failed meanwhile, of its own RENEW, or of another
lane's claim (R114, R122). -/
def State.laneGrantS (s : State) (l : LaneId) (m : StaffMsg) : State :=
  if m.subject = l.reg then
    if m.epoch = s.rd l.reg STF_EPOCH + 1 then s.becomeHolder l m.epoch (s.handoverCause l)
    else if s.rd l.reg STF_HOLDER = l.reg ∧ m.epoch = s.rd l.reg STF_EPOCH then s.renewGranted l
    else s
  else if m.epoch > s.rd l.reg STF_EPOCH then
    let s := if s.rd l.reg STF_HOLDER = l.reg then s.holderGone l 3 else s
    s.noteHandover l m.subject m.epoch (s.handoverCause l)
  else s

/-- A GRANT of another lane under S lost: the holder's count restarts once every other voting lane has granted its
latest RENEW (R124). -/
def State.laneGrantPeer (s : State) (l : LaneId) (m : StaffMsg) : State :=
  match LaneId.ofReg m.sender with
  | none => s
  | some x =>
    if s.rdB l.reg STF_S_SILENT ∧ s.rd l.reg STF_HOLDER = l.reg ∧ m.subject = l.reg ∧ m.epoch = s.rd l.reg STF_EPOCH then
      let s := s.wrBit l.reg STF_S_GRANT 0 x.idx true
      if (s.otherVoting l).all (fun y => (s.rd l.reg STF_S_GRANT).testBit y.idx) then s.renewGranted l else s
    else s

/-- The answer of a voting lane to a CLAIM: none for AGREE, or the reason of its DENY. The order in which the reasons
are judged is the model's (R120, R132, log 21). -/
def State.claimDenied (s : State) (l : LaneId) (m : StaffMsg) : Option Nat :=
  match LaneId.ofReg m.sender with
  | none => some 4
  | some x =>
    if m.epoch ≠ s.rd l.reg STF_EPOCH + 1 then some 3
    else if s.rd l.reg STF_RESERVED = m.sender then none
    else if !s.eligible l x then some 4
    else if s.lowestEligible l ≠ some x then some 1
    else none

/-- A CLAIM in a lane: a voting lane answers AGREE to the claimant and S, or DENY to the claimant (R120, R132). -/
def State.laneClaim (s : State) (l : LaneId) (m : StaffMsg) : State :=
  match LaneId.ofReg m.sender with
  | none => s
  | some x =>
    if x = l ∨ !s.voting l l then s
    else match s.claimDenied l m with
      | none =>
        (s.send (.staff (.lane x) (s.staffMsg l 4 m.sender m.epoch 0))).send (.staff .s (s.staffMsg l 4 m.sender m.epoch 0))
      | some why => s.send (.staff (.lane x) (s.staffMsg l 5 m.sender m.epoch why))

/-- An AGREE in a lane counts for its own claim under S lost (R124). -/
def State.laneAgree (s : State) (l : LaneId) (m : StaffMsg) : State :=
  match LaneId.ofReg m.sender with
  | none => s
  | some x =>
    if s.rdB l.reg STF_CLAIMING ∧ m.subject = l.reg ∧ m.epoch = s.rd l.reg STF_EPOCH + 1
    then (s.wrBit l.reg STF_S_AGREE 0 x.idx true).selfGrant l else s

/-- The sender of a RELEASE or a RELINQUISH held the staff under its epoch, or S has already told the lane that this lease ended so (R119,
R121). -/
def State.gaveUp (s : State) (l : LaneId) (m : StaffMsg) : Bool :=
  m.epoch == s.rd l.reg STF_EPOCH && (m.sender == s.rd l.reg STF_HOLDER || (s.rd l.reg STF_HOLDER == 0 &&
    m.sender == s.rd l.reg STF_PREV && (s.rd l.reg STF_CAUSE == 1 || s.rd l.reg STF_CAUSE == 2)))

/-- A RELEASE in a lane: the sender is not eligible until a GRANT raises the epoch, the successor it names is reserved,
and a lane that may claim does (R118, R119, R121). -/
def State.laneRelease (s : State) (l : LaneId) (m : StaffMsg) (t : Nat) : State :=
  let s := s.wr l.reg STF_RELEASED m.sender 1
  if s.gaveUp l m then
    (((s.holderGone l 1).wr l.reg STF_RESERVED 0 m.subject).wr l.reg STF_MAY_CLAIM 0 1).tryClaim l t
  else s

/-- A RELINQUISH in a lane: the sender is not eligible until S admits it again; from the holder it ends its authority
and a lane that may claim does (R118, R119, R125). -/
def State.laneRelinquish (s : State) (l : LaneId) (m : StaffMsg) (t : Nat) : State :=
  let s := s.wr l.reg STF_RELINQ m.sender 1
  if s.gaveUp l m then
    ((s.holderGone l 2).wr l.reg STF_MAY_CLAIM 0 1).tryClaim l t
  else s

/-- An EXPIRED of S in a lane: the holder of that epoch has lost the staff; a lane whose count has ended may claim
(R119, R127, R132). -/
def State.laneExpired (s : State) (l : LaneId) (m : StaffMsg) : State :=
  if m.epoch = s.rd l.reg STF_EPOCH ∧ s.rd l.reg STF_HOLDER ≠ 0 then
    s.holderGone l (match m.reason with
      | 2 => 4
      | 3 => 2
      | 4 => 1
      | _ => 3)
  else s

/-! ### The staff at S -/

/-- A STAFF message of S to every lane (R132). -/
def State.sendStaffS (s : State) (kind subject epoch reason : Nat) : State :=
  let m : StaffMsg := { kind := kind, sender := 8, subject := subject, epoch := epoch, lease := s.rd 8 STF_LEASE_MS,
                        reason := reason, cycle := s.sCycle % 65536 }
  s.lanesOf.foldl (fun s l => s.send (.staff (.lane l) m)) s

/-- A DENY of S to a claimant (R120). -/
def State.denyS (s : State) (x : LaneId) (epoch reason : Nat) : State :=
  s.send (.staff (.lane x) { kind := 5, sender := 8, subject := x.reg, epoch := epoch, lease := s.rd 8 STF_LEASE_MS,
                             reason := reason, cycle := s.sCycle % 65536 })

/-- A lane excluded by S. -/
def State.excl (s : State) (r : Nat) : Bool := bit (s.rd 8 S_STF_EXCLUDED) (r - 1)

/-- A voting lane at S: its latest frame shows standby or in service, and it is not excluded (R88, R117). -/
def State.votingS (s : State) (l : LaneId) : Bool :=
  (match s.sdie.frame l with
    | some f => f.vstate == 1 || f.vstate == 2
    | none => false) && !s.excl l.reg

/-- The claim S considers has every AGREE it needs: of each voting lane other than the claimant and the previous holder
(R120). -/
def State.claimAgreed (s : State) (c : StaffMsg) : Bool :=
  (s.lanesOf.filter (fun l => s.votingS l)).all (fun l =>
    l.reg == c.sender || l.reg == s.rd 8 STF_PREV || s.sdie.staff.agrees.contains l.reg)

/-- S grants the claim it considers once the lease has ended and every AGREE is there (R116, R120, R122). The new lease runs by the
latest RENEW S received, or by the claim while it has received none (R112; the second is DESIGN CHOICE, log 67). -/
def State.tryGrantS (s : State) : State :=
  match s.sdie.staff.claim with
  | none => s
  | some c =>
    if s.rdB 8 STF_COUNT_ON || s.excl c.sender || !s.claimAgreed c then s
    else
      let s := ((s.wr 8 S_STF_EPOCH 0 c.epoch).wr 8 S_STF_HOLDER 0 c.sender).wr 8 STF_COUNT_ON 0 1
      let s := (s.wr 8 STF_COUNT_AT 0 (s.rd 8 STF_CLAIM_AT)).wr 8 STF_LEASE_MS 0
        (if s.rd 8 STF_LEASE_MS = 0 then c.lease else s.rd 8 STF_LEASE_MS)
      let s := { s with sdie := { s.sdie with staff := {} } }
      (s.wr 8 STF_RESERVED 0 0).sendStaffS 2 c.sender c.epoch 0

/-- The lease ended at S for a reason of R132: EXPIRED to all lanes, and a held claim is considered (R114, R120). -/
def State.endLeaseS (s : State) (reason : Nat) : State :=
  let h := s.rd 8 S_STF_HOLDER
  let s := ((s.wr 8 STF_PREV 0 h).wr 8 S_STF_HOLDER 0 0).wr 8 STF_COUNT_ON 0 0
  let s := (s.wr 8 STF_CAUSE 0 reason).sendStaffS 9 h (s.rd 8 S_STF_EPOCH) reason
  ({ s with sdie := { s.sdie with staff := { s.sdie.staff with held := false } } } : State).tryGrantS

/-- A RENEW at S: valid while the lease of its epoch runs, it restarts the count, is granted to all lanes and denies a
held claim; else it is answered EXPIRED under its own epoch (R112, R114, R120). That EXPIRED repeats the reason of the last end of a lease
at S, or says timeout where there was none: the manual names no reason for it (DESIGN CHOICE, log 67). -/
def State.sRenew (s : State) (m : StaffMsg) (t : Nat) : State :=
  if s.excl m.sender then s
  else if s.rdB 8 STF_COUNT_ON ∧ s.rd 8 S_STF_HOLDER = m.sender ∧ s.rd 8 S_STF_EPOCH = m.epoch then
    let s := (s.wr 8 STF_COUNT_AT 0 t).wr 8 STF_LEASE_MS 0 m.lease
    let s := s.sendStaffS 2 m.sender m.epoch 0
    match s.sdie.staff.claim with
    | none => s
    | some c =>
      let s : State := { s with sdie := { s.sdie with staff := {} } }
      match LaneId.ofReg c.sender with
      | some x => s.denyS x c.epoch 2
      | none => s
  else s.sendStaffS 9 m.sender m.epoch (if s.rd 8 STF_CAUSE = 0 then 1 else s.rd 8 STF_CAUSE)

/-- A CLAIM at S: ignored from an excluded lane; denied for a wrong epoch or while another claim is held or considered;
held while the lease runs; granted when every AGREE is there (R120). -/
def State.sClaim (s : State) (m : StaffMsg) (t : Nat) : State :=
  match LaneId.ofReg m.sender with
  | none => s
  | some x =>
    let busy : Bool := match s.sdie.staff.claim with
      | some c => c.sender != m.sender && (s.sdie.staff.held || decide (t ≤ s.rd 8 STF_CLAIM_AT + 200000))
      | none => false
    if s.excl m.sender then s
    else if m.epoch ≠ s.rd 8 S_STF_EPOCH + 1 ∨ busy then s.denyS x m.epoch 3
    else
      let run := s.rdB 8 STF_COUNT_ON
      let s : State := { s with sdie := { s.sdie with staff := { claim := some m, held := run, agrees := [] } } }
      let s := s.wr 8 STF_CLAIM_AT 0 t
      if run then s.bump 8 S_STF_CNT_CLAIM_HELD else s.tryGrantS

/-- An AGREE at S, within 200 µs of the claim it answers (R120). -/
def State.sAgree (s : State) (m : StaffMsg) (t : Nat) : State :=
  match s.sdie.staff.claim with
  | none => s
  | some c =>
    if s.excl m.sender ∨ m.subject ≠ c.sender ∨ m.epoch ≠ c.epoch ∨ t > s.rd 8 STF_CLAIM_AT + 200000 then s
    else ({ s with sdie := { s.sdie with staff := { s.sdie.staff with agrees := s.sdie.staff.agrees ++ [m.sender] } } } : State).tryGrantS

/-- A RELEASE at S: from the holder it ends the lease (R126). -/
def State.sRelease (s : State) (m : StaffMsg) : State :=
  if s.excl m.sender ∨ s.rd 8 S_STF_HOLDER ≠ m.sender ∨ s.rd 8 S_STF_EPOCH ≠ m.epoch then s
  else (s.wr 8 STF_RESERVED 0 m.subject).endLeaseS 4

/-- A RELINQUISH at S: from the holder it ends the lease at once (R125). -/
def State.sRelinquish (s : State) (m : StaffMsg) : State :=
  if s.excl m.sender ∨ s.rd 8 S_STF_HOLDER ≠ m.sender ∨ s.rd 8 S_STF_HOLDER = 0 then s else s.endLeaseS 3

/-- An ADMIT of the holder at S: the exclusion of the named lane is lifted (R117, R130). -/
def State.sAdmit (s : State) (m : StaffMsg) : State :=
  match LaneId.ofReg m.subject with
  | none => s
  | some x =>
    if s.excl m.sender ∨ s.rd 8 S_STF_HOLDER ≠ m.sender then s
    else (s.wrBit 8 S_STF_EXCLUDED 0 x.idx false).wr 8 STF_ADMITTED x.reg 1

/-- The lease count at S ends: EXPIRED, counted, source 6 asserted, and a held claim considered (R114, R120). -/
def State.leaseExpiryS (s : State) : State :=
  if s.rdB 8 STF_COUNT_ON then ((s.endLeaseS 1).bump 8 S_STF_CNT_EXPIRY).raise 8 6 else s

/-! ### Commands -/

/-- STAFF_RENEW_RECEIVE (R112). -/
def execStaffRenewReceive (n : StaffNode) (m : StaffMsg) (t : Nat) (s : State) : Host.Outcome State Fault Refusal :=
  match n with
  | .lane l => .next ((s.atTime t).whenUp l (fun s => s.laneRenew l m t))
  | .s => .next ((s.atTime t).whenS (fun s => s.sRenew m t))

/-- STAFF_GRANT_RECEIVE (R122, R124). -/
def execStaffGrantReceive (l : LaneId) (m : StaffMsg) (t : Nat) (s : State) : Host.Outcome State Fault Refusal :=
  .next ((s.atTime t).whenUp l (fun s => if m.sender = 8 then s.laneGrantS l m else s.laneGrantPeer l m))

/-- STAFF_CLAIM_RECEIVE (R120). -/
def execStaffClaimReceive (n : StaffNode) (m : StaffMsg) (t : Nat) (s : State) : Host.Outcome State Fault Refusal :=
  match n with
  | .lane l => .next ((s.atTime t).whenUp l (fun s => s.laneClaim l m))
  | .s => .next ((s.atTime t).whenS (fun s => s.sClaim m t))

/-- STAFF_AGREE_RECEIVE (R120, R124). -/
def execStaffAgreeReceive (n : StaffNode) (m : StaffMsg) (t : Nat) (s : State) : Host.Outcome State Fault Refusal :=
  match n with
  | .lane l => .next ((s.atTime t).whenUp l (fun s => s.laneAgree l m))
  | .s => .next ((s.atTime t).whenS (fun s => s.sAgree m t))

/-- STAFF_DENY_RECEIVE (R120): a DENY of the claimed epoch fails the claim. -/
def execStaffDenyReceive (l : LaneId) (m : StaffMsg) (s : State) : Host.Outcome State Fault Refusal :=
  .next (s.whenUp l (fun s =>
    if m.subject = l.reg ∧ m.epoch = s.rd l.reg STF_EPOCH + 1 then s.claimFailed l else s))

/-- STAFF_RELEASE_RECEIVE (R121, R126). -/
def execStaffReleaseReceive (n : StaffNode) (m : StaffMsg) (t : Nat) (s : State) : Host.Outcome State Fault Refusal :=
  match n with
  | .lane l => .next ((s.atTime t).whenUp l (fun s => s.laneRelease l m t))
  | .s => .next ((s.atTime t).whenS (fun s => s.sRelease m))

/-- STAFF_EXPIRED_RECEIVE (R127): a lane whose lease + 1 ms count has ended, from a RENEW or from its synchronisation, may claim (R119). -/
def execStaffExpiredReceive (l : LaneId) (m : StaffMsg) (s : State) : Host.Outcome State Fault Refusal :=
  .next (s.whenUp l (fun s =>
    let s := s.laneExpired l m
    if (s.rdB l.reg STF_HEARD ∨ s.rdB l.reg STF_WAITED) ∧ !s.rdB l.reg STF_WAIT_ON ∧ s.rd l.reg STF_HOLDER = 0
    then (s.wr l.reg STF_MAY_CLAIM 0 1).tryClaim l s.now else s))

/-- HOLDER_LEASE_END (R114): the holder starts no staff function and sends nothing on CAN1 until a GRANT. -/
def execHolderLeaseEnd (l : LaneId) (s : State) : Host.Outcome State Fault Refusal :=
  .next (s.whenUp l (fun s => if s.rd l.reg STF_HOLDER = l.reg then s.wr l.reg STF_COUNT_ON 0 0 else s))

/-- S_LEASE_EXPIRY (R114). -/
def execSLeaseExpiry (s : State) : Host.Outcome State Fault Refusal := .next (s.whenS (fun s => s.leaseExpiryS))

/-- CLAIM_WAIT_END (R119, R122): the lease + 1 ms count of a lane ends. -/
def execClaimWaitEnd (l : LaneId) (t : Nat) (s : State) : Host.Outcome State Fault Refusal :=
  .next ((s.atTime t).whenUp l (fun s =>
    if s.rdB l.reg STF_WAIT_ON then
      let s := ((s.wr l.reg STF_WAIT_ON 0 0).wr l.reg STF_WAITED 0 1).wr l.reg STF_ISO_WAIT 0 0
      if s.rd l.reg STF_HOLDER = l.reg then s else (s.wr l.reg STF_MAY_CLAIM 0 1).tryClaim l t
    else s))

/-- GRANT_MISS (R127): a RENEW that brought no GRANT within 100 µs is counted. -/
def execGrantMiss (l : LaneId) (s : State) : Host.Outcome State Fault Refusal :=
  .next (s.whenUp l (fun s =>
    if s.rdB l.reg STF_RENEW_OPEN then (s.wr l.reg STF_RENEW_OPEN 0 0).bump l.reg STF_CNT_GRANT_MISS else s))

/-- CLAIM_TIMEOUT (R120): a claim not granted within 1 ms has failed. -/
def execClaimTimeout (l : LaneId) (s : State) : Host.Outcome State Fault Refusal :=
  .next (s.whenUp l (fun s => s.claimFailed l))

/-- SUCCESSOR_RESERVE_END (R121). -/
def execSuccessorReserveEnd (n : StaffNode) (s : State) : Host.Outcome State Fault Refusal :=
  match n with
  | .lane l => .next (s.whenUp l (fun s => (s.wr l.reg STF_RESERVED 0 0).tryClaim l s.now))
  | .s => .next (s.whenS (fun s => s.wr 8 STF_RESERVED 0 0))

/-- Every voting lane's frames show the S echo bit clear in a lane's view (R124). -/
def State.echoClear (s : State) (l : LaneId) : Bool :=
  !bit (s.rd l.reg XLK_HEARD) 3 && (s.otherVoting l).all (fun x => match (s.lane l).vot.frame x with
    | some f => !bit f.heard 3
    | none => true)

/-- A lane returns to S's normal role: an S STATUS has come, and the latest frame of every other voting lane shows the
S echo bit set (R124). -/
def State.staffReturn (s : State) (l : LaneId) : State :=
  if s.rdB l.reg STF_S_SILENT && s.rdB l.reg STF_S_BACK &&
      (s.otherVoting l).all (fun x => match (s.lane l).vot.frame x with
        | some f => bit f.heard 3
        | none => false)
  then ((s.wr l.reg STF_S_SILENT 0 0).wr l.reg STF_S_BACK 0 0).wr l.reg INT_S_LOST 0 0 |>.release l.reg 19 else s

/-- S_LOST_TO_STAFF (R124, R334): the 2 ms have passed; the lane grants and claims without S and reports its loss. -/
def execSLostToStaff (l : LaneId) (s : State) : Host.Outcome State Fault Refusal :=
  .next (s.whenUp l (fun s =>
    if s.echoClear l ∧ !s.rdB l.reg STF_S_SILENT then
      let s := (s.wr l.reg STF_S_SILENT 0 1).wr l.reg STF_S_BACK 0 0
      (((s.wr l.reg INT_S_LOST 0 1).raise l.reg 19 true).event l 7 0).selfGrant l
    else s))

/-- LEAVE_RESET (R125, R496): after at least two frames with code 3 the leaving lane takes its region reset; under a
rolling self-test lane die and power die enter phase TEST instead. -/
def execLeaveReset (l : LaneId) (s : State) : Host.Outcome State Fault Refusal :=
  .next (s.whenUp l (fun s =>
    if s.vstate l = 3 ∧ s.rd l.reg INT_LEFT_FRAMES ≥ 2 then
      if s.rd l.reg BST_STATE = 1 then ((s.wr l.reg STF_STATE 0 4).wr l.reg FAB_PHASE 0 2).wr l.pow FAB_PHASE 0 2
      else s.resetLane l
    else s))

/-! ### Opcodes of class 0x04 -/

/-- The checks of STAFF_REQUEST at effect: the named lane exists and is eligible (R131). -/
def State.chkStaffRequest (s : State) (l : LaneId) (lane : Nat) : Option Rsp :=
  match LaneId.ofReg lane with
  | none => some (rRange 0 16)
  | some x => failIf (!s.eligible l x) (rRange 0 16)

/-- The effect of STAFF_REQUEST: the holder releases, naming the lane; none where that lane holds the staff (R131). -/
def State.effStaffRequest (s : State) (l : LaneId) (lane : Nat) : State :=
  if s.rd l.reg STF_HOLDER = l.reg ∧ lane ≠ l.reg then s.releaseStaff l lane else s

/-- STAFF_REQUEST (R131). -/
def execStaffRequest (l : LaneId) (h : Hdr) (lane : Nat) (s : State) : Host.Outcome State Fault Refusal :=
  .next (s.whenHost l (fun s => s.perform l h 0x0401 (s.chkStaffRequest l lane) (s.effStaffRequest l lane, rOk)))

/-- Check 12 for a staff function at a lane: it holds the staff and its count runs (R111, R114). -/
def State.chkHolder (s : State) (l : LaneId) : Option Rsp := failIf (!s.staffOk l) (rNotHolder (s.rd l.reg STF_HOLDER))

/-- RELINQUISH (R131): the holder releases with successor 0. -/
def execRelinquish (l : LaneId) (h : Hdr) (s : State) : Host.Outcome State Fault Refusal :=
  .next (s.whenHost l (fun s => s.perform l h 0x0402 (s.chkHolder l) (s.releaseStaff l 0, rOk)))

/-- The lanes that would remain in service in a lane's view if one left (R131). -/
def State.remaining (s : State) (l x : LaneId) : Nat :=
  ((s.votingLanes l).filter (fun y => y != x && s.seen l y == 2)).length

/-- The checks of EXCLUDE_LANE at effect: the lane exists and at least two lanes remain in service (R131). -/
def State.chkExcludeLane (s : State) (l : LaneId) (lane : Nat) : Option Rsp :=
  match LaneId.ofReg lane with
  | none => some (rRange 0 16)
  | some x => failIf (decide (s.remaining l x < 2)) (rRange 0 16)

/-- The effect of EXCLUDE_LANE: the named lane leaves as in R125. -/
def State.effExcludeLane (s : State) (l : LaneId) (lane : Nat) : State := if lane = l.reg then s.leave l else s

/-- EXCLUDE_LANE (R131). -/
def execExcludeLane (l : LaneId) (h : Hdr) (lane : Nat) (s : State) : Host.Outcome State Fault Refusal :=
  .next (s.whenHost l (fun s => s.perform l h 0x0404 (s.chkExcludeLane l lane) (s.effExcludeLane l lane, rOk)))

end Sys2Proof.Machine
end

