-- ==== Sys2Proof/Machine/Sections.lean ====
section
/-! DEFINITION. Section control in a lane: the compare table, position and lead, reversal, late entries, void, the vote
messages to S, and the section and motion opcodes (R254, R255, R317 to R335). -/

namespace Sys2Proof.Machine

open Par Var

/-! ### Vote messages (R330, R335) -/

/-- The lane's section and LEVEL requests are cleared: in SINGLE, STOPPING and HELD, and from a trip to its reset (R335,
R355, R358). -/
def State.sectionsOff (s : State) (l : LaneId) : Bool := s.rd l.reg VOT_MODE ≥ 2 || s.rd l.reg SIO_TRIP != 0

/-- The RELEASE bits a lane sets: for one Towline cycle (R344). -/
def State.releaseBits (s : State) (l : LaneId) : Nat :=
  (List.range 4).foldl (fun m t =>
    if (s.rd l.reg SDC_REL).testBit t ∧ s.now < s.rd l.reg SDC_REL_AT (t + 1) + s.rd l.reg TWL_CYCLE_LEN * 1000 then setBit m t else m) 0

/-- The vote message of a lane (R330). -/
def State.voteMsg (s : State) (l : LaneId) : VoteMsg :=
  let off := s.sectionsOff l
  { region := l.reg, void := s.rd l.reg SDC_VOID_CAUSE != 0, period := s.rd l.reg INT_PERIOD % 65536,
    req := if off then 0 else clrMask (s.rd l.reg SDC_REQ) (s.rd l.reg SDC_FORCED),
    level := if off then 0 else s.rd l.reg SDC_AUT_LEVEL,
    hold := s.rd l.reg SDC_HOLD % 16, release := s.releaseBits l % 16, epoch := s.rd l.reg STF_EPOCH }

/-- A vote message sent by a lane in shadow, standby or in service (R330). -/
def State.sendVote (s : State) (l : LaneId) : State :=
  if s.vstate l > 2 then s
  else
    let v := s.voteMsg l
    ((s.send (.vote v)).wr l.reg SDC_SENT_REQ 0 v.req).wr l.reg SDC_SENT_LEVEL 0 v.level

/-- A vote message sent at once where a bit reported as ON has fallen (R330). -/
def State.voteFall (s : State) (l : LaneId) : State :=
  let v := s.voteMsg l
  if clrMask (s.rd l.reg SDC_SENT_REQ) v.req ≠ 0 ∨ clrMask (s.rd l.reg SDC_SENT_LEVEL) v.level ≠ 0 then s.sendVote l else s

/-- The section requests cleared, and the fall of those and of the LEVEL requests told to S at once: at the trip of an own pair, before
its application clears `AUT_LEVEL` (R335, R355). -/
def State.clearRequests (s : State) (l : LaneId) : State := (s.wr l.reg SDC_REQ 0 0).voteFall l

/-- Section and LEVEL requests cleared with `AUT_LEVEL`, and the fall told to S at once: in SINGLE, STOPPING and HELD, and where a trip is
applied (R335, R358). -/
def State.clearSections (s : State) (l : LaneId) : State := (s.wr l.reg SDC_AUT_LEVEL 0 0).clearRequests l

/-! ### Position and lead (R320, R321) -/

/-- The commit of `SRC`: POS takes the sign-extended count and HWM starts there (R320, R325). -/
def State.srcCommitted (s : State) (l : LaneId) : State :=
  let src := s.rd l.reg SDC_SRC
  let c := if src < 8 then sgn 32 (twos 32 (s.fch l src).count) else 0
  let s := (s.wrI l.reg SDC_POS 0 c).wr l.reg SDC_LAST 0 (twos 32 c)
  let s := (s.wrI l.reg SDC_HWM 0 c).wrI l.reg SDC_HWMX 0 (c * 256)
  (s.wr l.reg SDC_REV 0 0).wr l.reg SDC_STATE 0 (if src < 8 then 1 else 0)

/-- POS brought up to the count latched at a valley (R320, R321). -/
def State.sdcTrack (s : State) (l : LaneId) (src : Nat) : State :=
  let c := s.rd l.reg FBI_POS src
  let d := sgn 32 (twos 32 ((c : Int) - (s.rd l.reg SDC_LAST : Nat)))
  (s.wrI l.reg SDC_POS 0 (s.rdI l.reg SDC_POS + d)).wr l.reg SDC_LAST 0 c

/-- The forward speed in 1/256 count per second: 0 unless valid and forward (R321). -/
def State.sdcSpeed (s : State) (l : LaneId) (src : Nat) : Int :=
  let f := s.rd l.reg FBI_FLAGS src
  if bit f 1 && !bit f 3 then s.rdI l.reg FBI_SPEED src else 0

/-- The fraction of a count travelled since the last count event, in 1/256 count, below 1 count (R321). -/
def State.sdcFrac (s : State) (l : LaneId) (src : Nat) : Int :=
  match (s.fch l src).run with
  | a :: _ => clampInt 0 255 (s.sdcSpeed l src * ((s.rd l.reg INT_VALLEY_AT - a.2 : Nat) : Int) / 1000000000)
  | [] => 0

/-- The look-ahead of a delay in µs, in 1/256,000,000 count (R321). -/
def State.sdcLead (s : State) (l : LaneId) (v : Int) (delay : Nat) : Int :=
  min (v * delay) ((s.rd l.reg SDC_LEAD_MAX * 256000000 : Nat) : Int)

/-- The look-ahead position of a section in whole counts, rounded down: `x` in 1/256 count, the delay in µs. -/
def State.sdcAhead (s : State) (l : LaneId) (x v : Int) (delay : Nat) : Int :=
  (x * 1000000 + s.sdcLead l v delay) / 256000000

/-! ### Evaluation (R322, R324) -/

/-- What an evaluation carries from entry to entry: the requests, the sections with an earlier bit not applied, the late
entries so far with the last one's tag and lateness, the entries left. -/
structure TblRun where
  req : Nat
  blocked : Nat
  lates : Nat
  last : Nat × Int
  left : List PEnt

/-- The sections of a mask whose bits apply: not blocked, and the look-ahead position at least P (R322). -/
def bitsDue (mask blocked : Nat) (p : Int) (ahead : Nat → Int) : Nat :=
  (List.range 64).foldl (fun m k => if mask.testBit k && !blocked.testBit k && decide (ahead k ≥ p) then setBit m k else m) 0

/-- The largest look-ahead position less P among the sections of a mask, and 0 (R324). -/
def lateness (mask : Nat) (p : Int) (ahead : Nat → Int) : Int :=
  (List.range 64).foldl (fun m k => if mask.testBit k then max m (ahead k - p) else m) 0

/-- One entry of an evaluation (R322, R324); `all` when every bit reached counts as late (R326). -/
def tblEntry (all : Bool) (on off at0 : Nat → Int) (r : TblRun) (q : PEnt) : TblRun :=
  let a := if bit q.e.flags 0 then at0 else on
  let b := if bit q.e.flags 0 then at0 else off
  let st := bitsDue q.e.setM r.blocked q.e.pos a
  let cl := bitsDue q.e.clrM r.blocked q.e.pos b
  let late := max (lateness st q.e.pos a) (lateness cl q.e.pos b)
  let isLate := (q.fresh || all) && decide (late ≥ 1)
  let e := { q.e with setM := clrMask q.e.setM st, clrM := clrMask q.e.clrM cl }
  { req := clrMask (r.req ||| st) cl,
    blocked := r.blocked ||| e.setM ||| e.clrM,
    lates := r.lates + b2n isLate,
    last := if isLate then (q.e.tag, late) else r.last,
    left := if e.setM = 0 ∧ e.clrM = 0 then r.left else r.left ++ [⟨e, false⟩] }

/-- The pending entries evaluated at position `x` and speed `v` (R322, R324). -/
def State.sdcApply (s : State) (l : LaneId) (x v : Int) (all : Bool) : State :=
  let on (k : Nat) := s.sdcAhead l x v (s.rd l.reg SDC_ON_DELAY k)
  let off (k : Nat) := s.sdcAhead l x v (s.rd l.reg SDC_OFF_DELAY k)
  let r := (s.lane l).table.foldl (tblEntry all on off (fun _ => x / 256)) ⟨s.rd l.reg SDC_REQ, 0, 0, (0, 0), []⟩
  let s := (s.modLane l (fun y => { y with table := r.left })).wr l.reg SDC_REQ 0 r.req
  if r.lates = 0 then s
  else (s.bumpBy l.reg SDC_CNT_LATE 0 r.lates).wr l.reg SDC_LAST_LATE 0
    (withCycle (satNat 24 r.last.2.toNat + r.last.1 * 2 ^ 24) (s.cycle l))

/-- The highest position kept (R325). -/
def State.sdcHigh (s : State) (l : LaneId) (x : Int) : State :=
  let h := max x (s.rdI l.reg SDC_HWMX)
  (s.wrI l.reg SDC_HWMX 0 h).wrI l.reg SDC_HWM 0 (h / 256)

/-- An evaluation outside and inside REVERSED (R322, R325, R326). -/
def State.sdcEval (s : State) (l : LaneId) (src : Nat) : State :=
  let s := s.sdcTrack l src
  let v := s.sdcSpeed l src
  let x := s.rdI l.reg SDC_POS * 256 + s.sdcFrac l src
  let s := s.wrI l.reg SDC_X 0 x
  if s.rdB l.reg SDC_REV then
    if x ≥ s.rdI l.reg SDC_HWMX then ((s.wr l.reg SDC_REV 0 0).sdcHigh l x).sdcApply l x v true else s
  else
    let s := s.sdcHigh l x
    if bit (s.rd l.reg FBI_FLAGS src) 3 ∧ x ≤ s.rdI l.reg SDC_HWMX - (s.rd l.reg SDC_REV_COUNTS * 256 : Nat) then
      let s := (s.wr l.reg SDC_REV 0 1).bump l.reg SDC_CNT_REV
      if s.rdB l.reg SDC_REV_MODE then s else s.wr l.reg SDC_REQ 0 0
    else s.sdcApply l x v false

/-! ### Void (R327) -/

/-- The causes of void that hold now, beside the table's: a cause of the first kind once found stays (R327). -/
def State.voidCauses (s : State) (l : LaneId) : Nat :=
  let src := s.rd l.reg SDC_SRC
  let set := s.rd l.reg SDC_DIST_SET
  let old := s.rd l.reg SDC_VOID_CAUSE
  let dist := bit old 0 || (set < 8 && bit (s.rd l.reg VOT_AN_STATE set) l.idx)
  let chan := src < 8 && (s.rd l.reg FBI_STATE src == 2 || (s.rd l.reg FBI_ALIGN_SET src != 0xF && !(s.fch l src).aligned))
  b2n dist + 2 * b2n chan + 4 * b2n (bit old 2) + 8 * b2n (!s.synced l)

/-- The causes of void replaced: an entry into void is counted, the first one raises source 20 (R327). -/
def State.setVoid (s : State) (l : LaneId) (c : Nat) : State :=
  let was := s.rd l.reg SDC_VOID_CAUSE
  let s := s.wr l.reg SDC_VOID_CAUSE 0 c
  if was = 0 ∧ c ≠ 0 then
    let s := s.bump l.reg SDC_CNT_VOID
    if s.rdB l.reg SDC_VOID_SEEN then s else (s.wr l.reg SDC_VOID_SEEN 0 1).raise l.reg 20
  else s

/-- `SDC.STATE`: off without a source, void over REVERSED over run (R347). -/
def State.sdcReport (s : State) (l : LaneId) : State :=
  s.wr l.reg SDC_STATE 0 (if s.rd l.reg SDC_SRC > 7 then 0 else if s.rd l.reg SDC_VOID_CAUSE ≠ 0 then 3
    else if s.rdB l.reg SDC_REV then 2 else 1)

/-- The compare table of a lane as a transfer carries it, with the base period it stands for (R328). -/
def State.tableXfer (s : State) (l : LaneId) : TableXfer :=
  { entries := (s.lane l).table.map (fun e => e.e), wrCount := s.rd l.reg SDC_WR_COUNT, digest := s.rd l.reg SDC_TBL_DIGEST,
    hwm := s.rdI l.reg SDC_HWMX, rev := s.rdB l.reg SDC_REV, req := s.rd l.reg SDC_REQ, period := s.baseNumber l }

/-- A request for a table transfer, and the answer of the lane asked where it runs and its link is up (R328). -/
def State.askTable (s : State) (l source : LaneId) : State :=
  let s := s.send (.tableRequest l source)
  if s.up source ∧ s.rd l.reg XLK_LINK_STATE source.reg = 2 then s.send (.tableXfer l (s.tableXfer source)) else s

/-- A table transfer loaded at a compute start (R328). -/
def State.loadTable (s : State) (l : LaneId) (x : TableXfer) : State :=
  let s := s.modLane l (fun y => { y with table := x.entries.map (fun e => ⟨e, false⟩), tblLoad := none })
  let s := (s.wr l.reg SDC_WR_COUNT 0 x.wrCount).wr l.reg SDC_TBL_DIGEST 0 x.digest
  let s := (s.wrI l.reg SDC_HWMX 0 x.hwm).wrI l.reg SDC_HWM 0 (x.hwm / 256)
  let s := (s.wrB l.reg SDC_REV 0 x.rev).wr l.reg SDC_REQ 0 x.req
  let s := match x.entries.getLast? with
    | some e => (s.wrI l.reg SDC_LAST_P 0 e.pos).wr l.reg SDC_LAST_ON 0 1
    | none => s.wr l.reg SDC_LAST_ON 0 0
  s.bump l.reg SDC_CNT_RESYNC

/-- Section control at a compute start: a transfer loaded at the first one after the base period it names, the table evaluated, requests held at 0 while their clearing
lasts, void judged (R321 to R328, R335). -/
def State.sdcCompute (s : State) (l : LaneId) : State :=
  let s := match (s.lane l).tblLoad with
    | some x => if s.baseNumber l = x.period then s else s.loadTable l x
    | none => s
  let src := s.rd l.reg SDC_SRC
  let s := if src < 8 then s.sdcEval l src else s
  let s := if s.sectionsOff l then s.wr l.reg SDC_REQ 0 0 else s
  (s.setVoid l (s.voidCauses l)).sdcReport l

/-! ### Comparison of tables (R328) -/

/-- `WR_COUNT` and `TBL_DIGEST` as they stand at a common sample instant (R328). -/
def State.sdcSample (s : State) (l : LaneId) : State :=
  (s.wr l.reg SDC_SMP_COUNT 0 (s.rd l.reg SDC_WR_COUNT)).wr l.reg SDC_SMP_DIGEST 0 (s.rd l.reg SDC_TBL_DIGEST)

/-- The pairs of the voting lanes compared in a cycle; `ps` are those of the other voting lanes, lowest letter first.
Void for the table ends where another lane has the lane's own pair; it begins after `TBL_PERSIST` cycles of disagreement,
with a transfer where two others agree (R328). -/
def State.sdcCompare (s : State) (l : LaneId) (ps : List (LaneId × Nat × Nat)) : State :=
  let own := (s.rd l.reg SDC_SMP_COUNT, s.rd l.reg SDC_SMP_DIGEST)
  let same := ps.any (fun p => p.2 == own)
  let pair := match ps with
    | [p, q] => p.2 == q.2
    | _ => false
  if ps.isEmpty then (s.wr l.reg SDC_DIFF 0 0).wr l.reg SDC_SPLIT 0 0
  else if same then
    let s := (s.wr l.reg SDC_DIFF 0 0).wr l.reg SDC_SPLIT 0 0
    if s.synced l then (s.setVoid l (clrBit (s.rd l.reg SDC_VOID_CAUSE) 2)).sdcReport l else s
  else
    let lim := s.rd l.reg SDC_TBL_PERSIST
    if pair then
      let n := s.rd l.reg SDC_DIFF + 1
      let s := s.wr l.reg SDC_SPLIT 0 0
      if n < lim then s.wr l.reg SDC_DIFF 0 n
      else
        let s := ((s.wr l.reg SDC_DIFF 0 0).setVoid l (setBit (s.rd l.reg SDC_VOID_CAUSE) 2)).sdcReport l
        match ps with
        | p :: _ => s.askTable l p.1
        | [] => s
    else
      let n := s.rd l.reg SDC_SPLIT + 1
      let s := s.wr l.reg SDC_DIFF 0 0
      if n < lim then s.wr l.reg SDC_SPLIT 0 n
      else ((s.wr l.reg SDC_SPLIT 0 0).setVoid l (setBit (s.rd l.reg SDC_VOID_CAUSE) 2)).sdcReport l

/-- TABLE_TRANSFER_COMPLETE (R328): a lane whose table disagrees takes a transfer, to be loaded at its next compute
start. -/
def execTableTransferComplete (l : LaneId) (x : TableXfer) (s : State) : Host.Outcome State Fault Refusal :=
  .next (s.whenUp l (fun s =>
    if bit (s.rd l.reg SDC_VOID_CAUSE) 2 then s.modLane l (fun y => { y with tblLoad := some x }) else s))

/-! ### Table opcodes (R318, R319, R329) -/

/-- The offset of the first entry that breaks R318, after position `p` where there is one. -/
def badEntry : Nat → Option Int → List TableEntry → Option Nat
  | _, _, [] => none
  | off, p, e :: es =>
    let below : Bool := match p with
      | some q => decide (e.pos < q)
      | none => false
    if below || e.setM &&& e.clrM != 0 then some off
    else badEntry (off + 24) (some e.pos) es

/-- The checks on the entries of a TABLE_LOAD or a TABLE_APPEND (R318, R329): base index, number pending, each entry. -/
def State.chkTable (s : State) (l : LaneId) (base : Nat) (es : List TableEntry) (load : Bool) : Option Rsp :=
  let last := if load ∨ !s.rdB l.reg SDC_LAST_ON then none else some (s.rdI l.reg SDC_LAST_P)
  firstFail [failIf (es.length > 42) (rRange 0 16),
    failIf (base != (if load then 0 else s.rd l.reg SDC_WR_COUNT)) (rRange 0 20),
    failIf (decide ((if load then 0 else (s.lane l).table.length) + es.length > 4096)) (rRange 0 16),
    (badEntry 24 last es).map (fun o => rRange 0 o)]

/-- Entries written after the last one (R318). -/
def State.writeEntries (s : State) (l : LaneId) (es : List TableEntry) : State :=
  let s := s.modLane l (fun y => { y with table := y.table ++ es.map (fun e => ⟨e, true⟩) })
  match es.getLast? with
  | some e => (s.wrI l.reg SDC_LAST_P 0 e.pos).wr l.reg SDC_LAST_ON 0 1
  | none => s

/-- The effect of TABLE_LOAD (R319, R329). -/
def State.effTableLoad (s : State) (l : LaneId) (es : List TableEntry) : State :=
  let s := (s.modLane l (fun y => { y with table := [] })).wr l.reg SDC_LAST_ON 0 0
  let s := if s.rdB l.reg SDC_RET_LOST
    then ((s.wr l.reg SDC_RET_LOST 0 0).setVoid l (clrBit (s.rd l.reg SDC_VOID_CAUSE) 2)).sdcReport l else s
  ((s.writeEntries l es).wr l.reg SDC_WR_COUNT 0 es.length).wr l.reg SDC_TBL_DIGEST 0 (crc32c (es.flatMap TableEntry.encode))

/-- The effect of TABLE_APPEND (R319, R329). -/
def State.effTableAppend (s : State) (l : LaneId) (es : List TableEntry) : State :=
  ((s.writeEntries l es).wr l.reg SDC_WR_COUNT 0 (s.rd l.reg SDC_WR_COUNT + es.length)).wr l.reg SDC_TBL_DIGEST 0
    (crc32c (toLe 4 (s.rd l.reg SDC_TBL_DIGEST) ++ es.flatMap TableEntry.encode))

/-- TABLE_LOAD (R329). -/
def execTableLoad (l : LaneId) (h : Hdr) (base : Nat) (entries : List TableEntry) (s : State) : Host.Outcome State Fault Refusal :=
  .next (s.whenHost l (fun s => s.perform l h 0x0301 (s.chkTable l base entries true) (s.effTableLoad l entries, rOk)))

/-- TABLE_APPEND (R329). -/
def execTableAppend (l : LaneId) (h : Hdr) (base : Nat) (entries : List TableEntry) (s : State) : Host.Outcome State Fault Refusal :=
  .next (s.whenHost l (fun s => s.perform l h 0x0302 (s.chkTable l base entries false) (s.effTableAppend l entries, rOk)))

/-- The effect of FORCE_OFF (R329). -/
def State.effForceOff (s : State) (l : LaneId) (mask : Nat) : State := (s.wr l.reg SDC_FORCED 0 mask).voteFall l

/-- FORCE_OFF (R329). -/
def execForceOff (l : LaneId) (h : Hdr) (mask : Nat) (s : State) : Host.Outcome State Fault Refusal :=
  .next (s.whenHost l (fun s => s.perform l h 0x0305 none (s.effForceOff l mask, rOk)))

/-! ### Motion opcodes (R254, R255, R344) -/

/-- Check 12 for a staff function (R97, R111): an agreed waybill asks whether there is a holder, another one whether the
lane holds the staff. The holder whose count has ended starts none, agreed or not, and answers so (R114; the status is DESIGN CHOICE,
log 73). -/
def State.chkStaffFn (s : State) (l : LaneId) (h : Hdr) : Option Rsp :=
  if h.voted && s.rd l.reg STF_HOLDER != l.reg then failIf (s.rd l.reg STF_HOLDER == 0) (rNotHolder 0) else s.chkHolder l

/-- STEER_TARGET (R255). -/
def execSteerTarget (l : LaneId) (h : Hdr) (angle : Int) (s : State) : Host.Outcome State Fault Refusal :=
  .next (s.whenHost l (fun s => s.perform l h 0x0201 (s.chkSteer l angle) (s.effSteer l h angle, rOk)))

/-- BRAKE_DEMAND (R255). -/
def execBrakeDemand (l : LaneId) (h : Hdr) (f1 f2 f3 f4 : Nat) (s : State) : Host.Outcome State Fault Refusal :=
  .next (s.whenHost l (fun s => s.perform l h 0x0202 (s.chkBrake l f1 f2 f3 f4) (s.effBrake l h f1 f2 f3 f4, rOk)))

/-- The effect of HOLD: the lane sets HOLD bits (R255, R344). -/
def State.effHold (s : State) (l : LaneId) (mask : Nat) : State :=
  s.wr l.reg SDC_HOLD 0 (s.rd l.reg SDC_HOLD ||| mask % 16)

/-- HOLD (R255). -/
def execHold (l : LaneId) (h : Hdr) (mask : Nat) (s : State) : Host.Outcome State Fault Refusal :=
  .next (s.whenHost l (fun s => s.perform l h 0x0203 (s.chkHold l mask) (s.effHold l mask, rOk)))

/-- The effect of RELEASE: HOLD bits cleared; the holder sets RELEASE bits, each for one Towline cycle (R255, R344). -/
def State.effRelease (s : State) (l : LaneId) (mask : Nat) : State :=
  let s := s.wr l.reg SDC_HOLD 0 (clrMask (s.rd l.reg SDC_HOLD) mask)
  if s.rd l.reg STF_HOLDER = l.reg then 
    (List.range 4).foldl (fun s t => if mask.testBit t then s.wr l.reg SDC_REL_AT (t + 1) s.now else s)
      (s.wr l.reg SDC_REL 0 (s.rd l.reg SDC_REL ||| mask % 16)) else s

/-- RELEASE (R255, R329, R358): a staff function; RANGE while an ESTOP is applied. -/
def execRelease (l : LaneId) (h : Hdr) (mask : Nat) (s : State) : Host.Outcome State Fault Refusal :=
  .next (s.whenHost l (fun s => s.perform l h 0x0204
    (firstFail [s.chkStaffFn l h, failIf (bit (s.rd l.reg SIO_TRIP) 8) (rRange (SIO_TRIP.id l.reg 0) 0), s.chkRelease l mask])
    (s.effRelease l mask, rOk)))

end Sys2Proof.Machine
end

