-- ==== Sys2Proof/Machine/Inputs.lean ====
section
/-! DEFINITION. The safety inputs of a lane: accepted levels, test pulses, pairs and discrepancies, trips with their
application, and resets by ACK or by waybill (R349 to R365). -/

namespace Sys2Proof.Machine

open Par Var

/-! ### Towline time -/

/-- A package time as a lane's Towline time in ns: its cycle number times the cycle length, and the time in the cycle. -/
def State.twlTime (s : State) (l : LaneId) (t : Nat) : Nat :=
  (((s.cycle l * (s.rd l.reg TWL_CYCLE_LEN * 1000) + t : Nat) : Int) - (s.rd l.reg INT_CYCLE_START : Int)).toNat

/-- The Towline time in ns that the base valley at package time `t` is targeted at, with the length of a base period: valley n is due
`PWM_PHASE` and n base periods after a cycle start, and a valley lies within 100 ns of its target (R154, R357). -/
def State.valleyTarget (s : State) (l : LaneId) (t : Nat) : Nat :=
  let p := s.basePeriod l * 625
  let φ : Int := (s.rd l.reg CMT_PWM_PHASE * 625 : Nat)
  let x : Int := ((t : Int) - (s.rd l.reg INT_CYCLE_START : Int)) * 1000 - φ
  let n : Int := (2 * x + p) / (2 * p : Nat)
  (((s.cycle l * (s.rd l.reg TWL_CYCLE_LEN * 1000) : Nat) : Int) + (φ + n * p) / 1000).toNat

/-- The target of the latest base valley whose compute start has come (R156, R357). -/
def State.computedTarget (s : State) (l : LaneId) : Nat :=
  let v := s.rd l.reg INT_VALLEY_AT
  if s.rd l.reg INT_COMP_AT ≥ v then s.valleyTarget l v else s.valleyTarget l v - s.basePeriod l * 625 / 1000

/-- The cycle number nearest to the lane's own with the given low 16 bits. -/
def State.fullCycle (s : State) (l : LaneId) (low : Nat) : Nat :=
  ((s.cycle l : Int) + sgn 16 (twos 16 ((low : Int) - (s.cycle l : Int)))).toNat

/-- The stamp of a message in ns of Towline time (R356). -/
def State.stampOf (s : State) (l : LaneId) (m : TripMsg) : Nat :=
  s.fullCycle l m.cycle * (s.rd l.reg TWL_CYCLE_LEN * 1000) + m.offset * 25

/-! ### Channels and pairs (R353) -/

/-- A channel's accepted level shows the demand: low for an equivalent channel or input 2p, high for input 2p + 1 of an
antivalent pair. `levels` are accepted levels as `SIO.IN` shows them (R353). -/
def State.levelOpen (s : State) (l : LaneId) (levels i : Nat) : Bool :=
  if s.rdB l.reg SIO_PAIR_TYPE (i / 2) && i % 2 == 1 then levels.testBit i else !levels.testBit i

/-- A channel of the lane that has an accepted level which shows the demand. -/
def State.accOpen (s : State) (l : LaneId) (i : Nat) : Bool :=
  (s.rd l.reg SIO_HAVE).testBit i && s.levelOpen l (s.rd l.reg SIO_IN) i

/-- A channel that is open for the functions of its pair: by its level, or by a fault (R352, R353). -/
def State.chanOpen (s : State) (l : LaneId) (i : Nat) : Bool := s.accOpen l i || s.rd l.reg SIO_FAULT i != 0

/-- An enabled test-pulse output whose latest pulse failed its readback (R352). -/
def State.outputBad (s : State) (l : LaneId) (n : Nat) : Bool := decide (n < 4) && bit (s.rd l.reg SIO_TP_EN) n && s.rdB l.reg SIO_TP_BAD n

/-- The fault bits of an input whose cause is present: the enabled output it is pulsed from was not seen in the latest pulse, or is bad
itself (R351, R352). -/
def State.causePresent (s : State) (l : LaneId) (i : Nat) : Nat :=
  let n := s.rd l.reg SIO_TP_SRC i
  s.rd l.reg SIO_FAULT i &&& (b2n (decide (n < 4) && bit (s.rd l.reg SIO_TP_EN) n && s.rdB l.reg SIO_TP_N i) + 2 * b2n (s.outputBad l n))

/-- A pair is closed: both channels have an accepted level that does not show the demand and no fault whose cause is present. A fault
bit that only waits for the reset does not keep the pair open here: the reset that clears it asks for closed pairs (R350, R352, R353,
R360; DEDUCED, log 75). -/
def State.pairClosed (s : State) (l : LaneId) (p : Nat) : Bool :=
  [2 * p, 2 * p + 1].all (fun i =>
    (s.rd l.reg SIO_HAVE).testBit i && !s.levelOpen l (s.rd l.reg SIO_IN) i && s.causePresent l i == 0)

/-- The pairs of function ESTOP or SECTIONS_OFF. -/
def State.tripPairs (s : State) (l : LaneId) : List Nat :=
  (List.range 8).filter (fun p => s.rd l.reg SIO_PAIR_FUNC p == 1 || s.rd l.reg SIO_PAIR_FUNC p == 2)

/-! ### Discrepancy (R354) -/

/-- A discrepancy latched: counted, source 37. Whether both channels are open at once is noted from here on. -/
def State.latchDisc (s : State) (l : LaneId) (p : Nat) : State :=
  let s := (s.wr l.reg SIO_PEND p 0).wrB l.reg SIO_DISC_BOTH p (s.accOpen l (2 * p) && s.accOpen l (2 * p + 1))
  ((s.wrBit l.reg SIO_DISC 0 p true).bump l.reg SIO_CNT_DISC).raise l.reg 37

/-- Channel `i` has changed first and the other is awaited from tick `first` on; `last` is its latest change. -/
def State.awaitOther (s : State) (l : LaneId) (p chan first last : Nat) : State :=
  ((s.wr l.reg SIO_PEND p chan).wr l.reg SIO_PEND_TICK p first).wr l.reg SIO_PEND_LAST p last

/-- The channels of a pair with a latched discrepancy after a change: both open at once is noted, both returned with an accepted lag
clears it (R354). -/
def State.discClear (s : State) (l : LaneId) (p : Nat) (followed : Bool) : State :=
  let a := s.accOpen l (2 * p)
  let b := s.accOpen l (2 * p + 1)
  if !bit (s.rd l.reg SIO_DISC) p then s
  else if a && b then s.wr l.reg SIO_DISC_BOTH p 1
  else if !a && !b && followed && s.rdB l.reg SIO_DISC_BOTH p then (s.wr l.reg SIO_DISC_BOTH p 0).wrBit l.reg SIO_DISC 0 p false
  else s

/-- The awaited channel of a pair has followed with an accepted lag. Where the first one has changed back meanwhile, the other is awaited
for that change too (R354). -/
def State.discFollowed (s : State) (l : LaneId) (p chan lag : Nat) : State :=
  let s := s.wr l.reg SIO_LAST_LAG p lag
  let last := s.rd l.reg SIO_PEND_LAST p
  let s := if s.accOpen l (2 * p) != s.accOpen l (2 * p + 1) then s.awaitOther l p chan last last else s.wr l.reg SIO_PEND p 0
  s.discClear l p true

/-- An accepted change of channel `i` between open and not open at a tick: the other is awaited, or it has followed, in time or too late.
A first channel that changes back before the other follows still awaits it (R354). -/
def State.discChange (s : State) (l : LaneId) (i tick : Nat) : State :=
  let p := i / 2
  let me := i % 2 + 1
  let pend := s.rd l.reg SIO_PEND p
  let lag := tick - s.rd l.reg SIO_PEND_TICK p
  if pend = 0 then
    if s.accOpen l (2 * p) != s.accOpen l (2 * p + 1) then s.awaitOther l p me tick tick else s.discClear l p false
  else if pend = me then (s.wr l.reg SIO_PEND_LAST p tick).discClear l p false
  else if lag > s.rd l.reg SIO_DISC_TICKS p then s.latchDisc l p
  else s.discFollowed l p pend lag

/-- SIO_DISCREPANCY_TIMEOUT (R354): the other channel has not followed within `DISC_TICKS`. -/
def execSioDiscrepancyTimeout (l : LaneId) (p : Nat) (s : State) : Host.Outcome State Fault Refusal :=
  .next (s.whenUp l (fun s => if p < 8 ∧ s.rd l.reg SIO_PEND p ≠ 0 then s.latchDisc l p else s))

/-! ### Trips (R355 to R357) -/

/-- A lane that counts trips: in standby or in service and not excluded (R355). -/
def State.countsTrips (s : State) (l : LaneId) : Bool := s.voting l l

/-- The earliest stamp kept, over all functions and for its own (R357, R365). -/
def State.noteStamp (s : State) (l : LaneId) (f at' region pair chan cyc : Nat) : State :=
  let s := if !s.rdB l.reg SIO_SRC_ON ∨ at' < s.rd l.reg SIO_SRC_AT then
      ((s.wr l.reg SIO_SRC_ON 0 1).wr l.reg SIO_SRC_AT 0 at').wr l.reg SIO_TRIP_SRC 0
        (withCycle (region + pair % 8 * 16 + chan * 128) cyc) else s
  if s.countsTrips l ∧ (!s.rdB l.reg SIO_T_ON f ∨ at' < s.rd l.reg SIO_T_AT f)
  then (s.wr l.reg SIO_T_ON f 1).wr l.reg SIO_T_AT f at' else s

/-- The TRIP message of an own pair (R356). -/
def State.tripMsg (s : State) (l : LaneId) (p : Nat) : TripMsg :=
  let c := s.rd l.reg TWL_CYCLE_LEN * 1000
  let at' := s.rd l.reg SIO_P_AT p
  { kind := 0x81, sender := l.reg, pair := p, chan := s.rd l.reg SIO_P_CH p, func := s.rd l.reg SIO_PAIR_FUNC p,
    cycle := at' / c % 65536, offset := at' % c / 25 }

/-- A trip of an own pair: its bit, the requests cleared at once, its stamp; a lane that counts trips announces it. Once
the function is applied, or the pair has tripped, nothing changes (R355, R357). -/
def State.tripPair (s : State) (l : LaneId) (p chan t : Nat) : State :=
  let f := s.rd l.reg SIO_PAIR_FUNC p
  if f = 0 ∨ f = 3 ∨ bit (s.rd l.reg SIO_TRIP) (7 + f) ∨ bit (s.rd l.reg SIO_TRIP) p then s
  else
    let at' := s.twlTime l t
    let s := (s.wrBit l.reg SIO_TRIP 0 p true).wr l.reg SIO_P_AT p at'
    let s := (s.wr l.reg SIO_P_CH p chan).clearRequests l
    let s := s.noteStamp l f at' l.reg p chan (s.cycle l)
    if s.countsTrips l then s.send (.trip l (s.tripMsg l p)) else s

/-- The TRIP messages of the lane's own pairs, sent again at every compute start until the reset (R355). -/
def State.tripResend (s : State) (l : LaneId) : State :=
  if s.countsTrips l then
    (List.range 8).foldl (fun s p => if bit (s.rd l.reg SIO_TRIP) p then s.send (.trip l (s.tripMsg l p)) else s) s
  else s

/-- A trip pair has become closed since state `s0` (R361). -/
def State.noteClosed (s0 s : State) (l : LaneId) (t : Nat) : State :=
  if (s.tripPairs l).any (fun p => !s0.pairClosed l p && s.pairClosed l p) then s.wr l.reg SIO_CLOSED_AT 0 t else s

/-- Channel `i` may have become open since state `s0`: its pair trips; a pair may have become closed (R355, R361). -/
def State.chanChanged (s0 s : State) (l : LaneId) (i t : Nat) : State :=
  s0.noteClosed (if !s0.chanOpen l i && s.chanOpen l i then s.tripPair l (i / 2) (i % 2) t else s) l t

/-- An accepted level of an input (R350, R353 to R355). A first acceptance that shows a channel open is a change. -/
def State.inputAccept (s : State) (l : LaneId) (i : Nat) (level : Bool) (tick t : Nat) : State :=
  let u := (s.wrBit l.reg SIO_IN 0 i level).wrBit l.reg SIO_HAVE 0 i true
  s.chanChanged (if u.accOpen l i != s.accOpen l i then u.discChange l i tick else u) l i t

/-- An accepted level of ACK (R350, R361): high begins a press, unless it was high from the start. -/
def State.ackAccept (s : State) (l : LaneId) (level : Bool) (t : Nat) : State :=
  let first := !(s.rd l.reg SIO_HAVE).testBit 16
  let s := (s.wrBit l.reg SIO_IN 0 16 level).wrBit l.reg SIO_HAVE 0 16 true
  if level && !first && !s.rdB l.reg SIO_ACK_ON then ((s.wr l.reg SIO_ACK_ON 0 1).wr l.reg SIO_ACK_AT 0 t).wr l.reg SIO_ACK_BAD 0 0
  else s

/-- The samples of an input taken at time `t` are masked: from the start of its pulse until `TP_SETTLE` after its end (R351). -/
def State.masked (s : State) (l : LaneId) (i t : Nat) : Bool :=
  let n := s.rd l.reg SIO_TP_SRC i
  decide (n < 4) && bit (s.rd l.reg SIO_TP_EN) n && s.rdB l.reg SIO_TP_AT n &&
    decide (t + 1 < s.rd l.reg SIO_TP_AT n + (s.rd l.reg SIO_TP_WIDTH + s.rd l.reg SIO_TP_SETTLE) * 1000)

/-- SIO_INPUT_ACCEPT (R350, R351): input 16 is ACK; while its samples are masked the accepted level of an input holds. -/
def execSioInputAccept (l : LaneId) (i : Nat) (level : Bool) (tick : Nat) (t : Nat) (s : State) :
    Host.Outcome State Fault Refusal :=
  .next ((s.atTime t).whenUp l (fun s =>
    if i < 16 then (if s.masked l i t then s else s.inputAccept l i level tick t) else if i = 16 then s.ackAccept l level t else s))

/-! ### Test pulses (R351, R352) -/

/-- A fault bit of an input: source 36, and the channel counts as open (R351, R352). -/
def State.inputFault (s : State) (l : LaneId) (i n : Nat) : State :=
  s.chanChanged ((s.wrBit l.reg SIO_FAULT i n true).raise l.reg 36 true) l i s.now

/-- TEST_PULSE_START (R351): an enabled output goes low; its readback is judged anew. -/
def execTestPulseStart (l : LaneId) (n : Nat) (t : Nat) (s : State) : Host.Outcome State Fault Refusal :=
  .next ((s.atTime t).whenUp l (fun s =>
    if n < 4 ∧ bit (s.rd l.reg SIO_TP_EN) n
    then s.noteClosed (((s.wrBit l.reg SIO_TP_BUSY 0 n true).wr l.reg SIO_TP_BAD n 0).wr l.reg SIO_TP_AT n (t + 1)) l t else s))

/-- One input at the end of its pulse: seen low, or a failure that is counted and sets bit 0 at the limit (R351). -/
def State.pulseSeen (s : State) (l : LaneId) (i : Nat) (low : Bool) : State :=
  if low then s.noteClosed (s.wr l.reg SIO_TP_N i 0) l s.now
  else
    let n := s.rd l.reg SIO_TP_N i + 1
    let s := (s.bump l.reg SIO_CNT_TP_ERR i).wr l.reg SIO_TP_N i n
    if n ≥ s.rd l.reg SIO_TP_ERR_LIM then s.inputFault l i 0 else s

/-- TEST_PULSE_END (R351): `lowSeen` has a bit for each input that read low within the pulse. -/
def execTestPulseEnd (l : LaneId) (n : Nat) (lowSeen : Nat) (s : State) : Host.Outcome State Fault Refusal :=
  .next (s.whenUp l (fun s =>
    if n < 4 ∧ bit (s.rd l.reg SIO_TP_BUSY) n then
      (List.range 16).foldl (fun s i => if s.rd l.reg SIO_TP_SRC i = n then s.pulseSeen l i (bit lowSeen i) else s)
        (s.wrBit l.reg SIO_TP_BUSY 0 n false)
    else s))

/-- TP_READBACK_FAULT (R352): the output's bit, and bit 1 of every input pulsed from it. -/
def execTpReadbackFault (l : LaneId) (n : Nat) (s : State) : Host.Outcome State Fault Refusal :=
  .next (s.whenUp l (fun s =>
    if n < 4 ∧ bit (s.rd l.reg SIO_TP_EN) n then
      let s := ((s.wrBit l.reg SIO_TP_FAULT 0 n true).wr l.reg SIO_TP_BAD n 1).raise l.reg 36 true
      (List.range 16).foldl (fun s i => if s.rd l.reg SIO_TP_SRC i = n then s.inputFault l i 1 else s) s
    else s))

/-! ### Messages and application (R356 to R358) -/

/-- TRIP_RECEIVE (R357): the earliest stamp of the function is kept; one that arrives after its application instant, the compute start of
a valley whose target lies at least 40 µs behind its stamp, is late. A function already applied changes nothing. -/
def execTripReceive (l : LaneId) (m : TripMsg) (t : Nat) (s : State) : Host.Outcome State Fault Refusal :=
  .next ((s.atTime t).whenUp l (fun s =>
    if m.kind ≠ 0x81 ∨ m.func = 0 ∨ m.func > 2 ∨ !s.countsTrips l ∨ bit (s.rd l.reg SIO_TRIP) (7 + m.func) then s
    else
      let at' := s.stampOf l m
      let late := s.synced l ∧ s.computedTarget l ≥ at' + 40000 ∧ (!s.rdB l.reg SIO_T_ON m.func ∨ at' < s.rd l.reg SIO_T_AT m.func)
      let s := if late then s.bump l.reg SIO_CNT_TRIP_LATE else s
      s.noteStamp l m.func at' m.sender m.pair m.chan (s.fullCycle l m.cycle)))

/-- A brake target raised to the trip's force with no slew (R358). -/
def State.tripTarget (s : State) (l : LaneId) (t : Nat) : State :=
  let f := s.rd l.reg SIO_ESTOP_FORCE t
  if f = 0 then s
  else
    let v := max (s.rd l.reg CEN_TGT_CMD t) f
    (s.wr l.reg CEN_TGT_CMD t v).wr l.reg CEN_TARGET t v

/-- A trip of a function is due at this compute start: the target of its valley lies at least 40 µs after the earliest stamp; without
Towline synchronisation at once (R357). -/
def State.tripDue (s : State) (l : LaneId) (f : Nat) : Bool :=
  s.rdB l.reg SIO_T_ON f &&
    (!s.synced l || decide (s.rd l.reg SIO_T_AT f + 40000 ≤ s.valleyTarget l (s.rd l.reg INT_VALLEY_AT)))

/-- A trip of a function applied in a voting lane: 1 ESTOP, 2 SECTIONS_OFF (R357, R358, R364, R437). -/
def State.tripApply (s : State) (l : LaneId) (f : Nat) : State :=
  if f = 0 ∨ f > 2 ∨ !s.countsTrips l ∨ !s.tripDue l f ∨ bit (s.rd l.reg SIO_TRIP) (7 + f) then s
  else
    let s := ((s.wrBit l.reg SIO_TRIP 0 (7 + f) true).wr l.reg SIO_T_ON f 0).bump l.reg SIO_CNT_TRIP
    let s := ((s.wr l.reg SIO_RESET_STATE 0 0).wr l.reg SIO_ACK_BAD 0 1).clearSections l
    let s := if f = 1 then
        (List.range 6).foldl (fun s b => if bit (s.rd l.reg SIO_TRIP_BRIDGES) b then s.wr l.reg SIO_TRIP_B b 1 else s)
          ([1, 2, 3, 4].foldl (fun s t => s.tripTarget l t) s)
      else s
    s.event l (f + 2) 0

/-- ESTOP_HOLD_TIMER (R358): the bridges of every target with a trip force have stayed at most `HOLD_SPEED` for
`HOLD_TIME` under an applied ESTOP. -/
def execEstopHoldTimer (l : LaneId) (s : State) : Host.Outcome State Fault Refusal :=
  .next (s.whenUp l (fun s =>
    let ts := [1, 2, 3, 4].filter (fun t => s.rd l.reg SIO_ESTOP_FORCE t != 0)
    if bit (s.rd l.reg SIO_TRIP) 8 ∧ s.rdB l.reg SIO_ESTOP_HOLD ∧
        ts.all (fun t => !(s.targetDriven l t && s.tooFast l (s.rd l.reg CEN_TGT_BRIDGE t)))
    then s.effHold l (ts.foldl (fun m t => setBit m (t - 1)) 0) else s))

/-! ### Resets (R360 to R364) -/

/-- The fault bits a lane appends to its INPUT message (R360). -/
def State.sioFaults (s : State) (l : LaneId) : Nat :=
  (List.range 16).foldl (fun m i => m + s.causePresent l i * 4 ^ i) 0

/-- The reset conditions of one lane in the view of lane `l`, from its INPUT message (R360). -/
def State.resetLaneOk (s : State) (l : LaneId) (m : InputMsg) : Bool :=
  (s.tripPairs l).all (fun p =>
    [2 * p, 2 * p + 1].all (fun i => bit m.sioHave i && !s.levelOpen l m.sioIn i) && !bit m.sioDisc p &&
      m.sioFault / 4 ^ (2 * p) % 16 == 0)

/-- The INPUT message of a lane that the reset conditions are judged by: that of the present cycle; at the common sample instant, where
those of the peers are still to come, that of the cycle before (R104, R360, R363; DEDUCED, log 75). -/
def State.resetMsg (s : State) (l x : LaneId) : Option InputMsg :=
  (s.lane l).vot.inputs.find? (fun m => m.lane == x && (m.cycle == s.cycle l ||
    (s.now == s.rd l.reg VOT_SAMPLE_AT && nextCycle m.cycle == s.cycle l)))

/-- The reset conditions in every voting lane; a lane whose INPUT message is not there does not meet them (R360). -/
def State.resetOk (s : State) (l : LaneId) : Bool :=
  (s.votingLanes l).all (fun x => ((s.resetMsg l x).map (s.resetLaneOk l)).getD false)

/-- A reset: every trip bit and every fault whose cause is absent cleared; counted; the event for standing orders (R360,
R437). -/
def State.tripReset (s : State) (l : LaneId) : State :=
  let s := ((s.wr l.reg SIO_TRIP 0 0).wr l.reg SIO_RESET_STATE 0 0).bump l.reg SIO_CNT_RESET
  let s := ((s.wr l.reg SIO_T_ON 1 0).wr l.reg SIO_T_ON 2 0).wr l.reg SIO_SRC_ON 0 0
  let s := (List.range 16).foldl (fun s i => s.wr l.reg SIO_FAULT i (s.causePresent l i)) s
  let s := (List.range 4).foldl (fun s n => if s.outputBad l n then s else s.wrBit l.reg SIO_TP_FAULT 0 n false) s
  let s := LaneId.all.foldl (fun s x => s.wr l.reg SIO_ACK_REL x.reg 0) s
  let s := if (List.range 16).any (fun i => s.rd l.reg SIO_FAULT i != 0) ∨ s.rd l.reg SIO_TP_FAULT ≠ 0 then s
    else s.release l.reg 36
  s.event l 5 0

/-- A release held of a lane; releases more than `ACK_AGREE` before the newest are discarded (R362). -/
def State.holdRelease (s : State) (l : LaneId) (r at' : Nat) : State :=
  let s := (s.wr l.reg SIO_ACK_REL r 1).wr l.reg SIO_ACK_REL_AT r at'
  let newest := LaneId.all.foldl (fun m x => if s.rdB l.reg SIO_ACK_REL x.reg then max m (s.rd l.reg SIO_ACK_REL_AT x.reg) else m) 0
  LaneId.all.foldl (fun s x =>
    if s.rd l.reg SIO_ACK_REL_AT x.reg + s.rd l.reg SIO_ACK_AGREE * 1000000 < newest then s.wr l.reg SIO_ACK_REL x.reg 0 else s) s

/-- A press released at time `t` is valid (R361). -/
def State.pressValid (s : State) (l : LaneId) (t : Nat) : Bool :=
  let start := s.rd l.reg SIO_ACK_AT
  decide (s.rd l.reg SIO_ACK_MIN * 1000000 ≤ t - start) && decide (t - start ≤ s.rd l.reg SIO_ACK_MAX * 1000000) &&
    (s.tripPairs l).all (fun p => s.pairClosed l p) &&
    (s.rd l.reg SIO_CLOSED_AT < start || s.rd l.reg SIO_CLOSED_AT == 0) && !s.rdB l.reg SIO_ACK_BAD

/-- ACK_RELEASE (R361): the accepted release of a press; a valid one is held and sent to both peers, another is counted. -/
def execAckRelease (l : LaneId) (t : Nat) (s : State) : Host.Outcome State Fault Refusal :=
  .next ((s.atTime t).whenUp l (fun s =>
    if !s.rdB l.reg SIO_ACK_ON then s
    else
      let ok := s.pressValid l t
      let s := (s.wr l.reg SIO_LAST_PRESS 0 (satNat 13 ((t - s.rd l.reg SIO_ACK_AT) / 1000000))).wr l.reg SIO_ACK_ON 0 0
      if ok then
        let at' := s.twlTime l t
        let c := s.rd l.reg TWL_CYCLE_LEN * 1000
        (s.holdRelease l l.reg at').send (.trip l ⟨0x82, l.reg, 0, 0, 0, at' / c % 65536, at' % c / 25⟩)
      else s.bump l.reg SIO_CNT_ACK_REJECT))

/-- ACK_RELEASE_RECEIVE (R362). -/
def execAckReleaseReceive (l : LaneId) (m : TripMsg) (s : State) : Host.Outcome State Fault Refusal :=
  .next (s.whenUp l (fun s =>
    if m.kind = 0x82 ∧ (LaneId.ofReg m.sender).isSome then s.holdRelease l m.sender (s.stampOf l m) else s))

/-- The reset by ACK at a common latch instant at Towline time `at'` (R362). -/
def State.ackLatch (s : State) (l : LaneId) (at' : Nat) : State :=
  let vs := s.votingLanes l
  let held := vs.filter (fun x => s.rdB l.reg SIO_ACK_REL x.reg &&
    decide (s.rd l.reg SIO_ACK_REL_AT x.reg + s.rd l.reg VOT_VOTE_CUTOFF * 1000 < at'))
  if bit (s.rd l.reg SIO_RESET_SRC) 0 && s.voting l l && decide (held.length ≥ min 2 vs.length) && !held.isEmpty && s.resetOk l
  then s.tripReset l else s

/-- The checks of ARM_RESET (R363). -/
def State.chkArmReset (s : State) (l : LaneId) : Option Rsp :=
  firstFail [failIf (!bit (s.rd l.reg SIO_RESET_SRC) 1) (rRange (SIO_RESET_SRC.id l.reg 0) 0),
    failIf (s.rd l.reg SIO_TRIP == 0) (rRange (SIO_TRIP.id l.reg 0) 0)]

/-- ARM_RESET (R363): the nonce and the evaluation point are recorded. -/
def execArmReset (l : LaneId) (h : Hdr) (nonce : Nat) (s : State) : Host.Outcome State Fault Refusal :=
  .next (s.whenHost l (fun s => s.perform l h 0x0501 (s.chkArmReset l)
    (((s.wr l.reg SIO_RESET_STATE 0 1).wr l.reg SIO_NONCE 0 nonce).wr l.reg SIO_ARM_AT 0 s.now, rOk)))

/-- The checks of CONFIRM_RESET that name `SIO.RESET_STATE` (R363). -/
def State.chkConfirm (s : State) (l : LaneId) (nonce : Nat) : Option Rsp :=
  failIf (!s.rdB l.reg SIO_RESET_STATE || s.rd l.reg SIO_NONCE != nonce || s.now == s.rd l.reg SIO_ARM_AT ||
    decide (s.now > s.rd l.reg SIO_ARM_AT + 2000000000)) (rRange (SIO_RESET_STATE.id l.reg 0) 0)

/-- The effect of CONFIRM_RESET: the reset, or the arm cancelled where the conditions are not met (R363). -/
def State.effConfirm (s : State) (l : LaneId) : State × Rsp :=
  if s.resetOk l then (s.tripReset l, rOk) else (s.wr l.reg SIO_RESET_STATE 0 0, rRange (SIO_TRIP.id l.reg 0) 0)

/-- CONFIRM_RESET (R363). -/
def execConfirmReset (l : LaneId) (h : Hdr) (nonce : Nat) (s : State) : Host.Outcome State Fault Refusal :=
  .next (s.whenHost l (fun s => s.perform l h 0x0502 (s.chkConfirm l nonce) (s.effConfirm l)))

end Sys2Proof.Machine
end

