-- ==== Sys2Proof/Machine/Trace.lean ====
section
/-! DEFINITION. The trace unit of a lane and the archive in M: rows, triggers, streaming and the opcodes of class 0x08
(R256 to R264). -/

namespace Sys2Proof.Machine

open Par Var

/-! ### Rows -/

/-- The rows the ring of 2,097,152 bytes holds (R256). -/
def State.ringRows (s : State) (l : LaneId) : Nat := 2097152 / s.rowBytes l

/-- The value of a channel: a parameter, or a node of CEN (R256). -/
def State.trcValue (s : State) (l : LaneId) (c : Nat) : Nat :=
  let src := s.rd l.reg TRC_CH_SRC c
  let n := bits src 11 0
  if bits src 31 28 ≠ 0 then s.readId src % 2 ^ 32
  else match bits src 27 24 with
    | 1 => s.rd l.reg CEN_ERR n
    | 2 => s.rd l.reg CEN_Y n % 2 ^ 32
    | 3 => s.rd l.reg CEN_U n % 2 ^ 32
    | 4 => s.rd l.reg CEN_OUT n
    | 5 => s.rd l.reg CEN_STATUS n
    | _ => 0

/-- A row: cycle, offset with the flags trigger row, rows lost and unsynchronised, and the channels (R257). -/
def State.trcRow (s : State) (l : LaneId) (trigger lost : Bool) : List Byte :=
  let flags := b2n trigger + 2 * b2n lost + 4 * b2n (!s.synced l)
  toLe 4 (s.cycle l) ++ toLe 4 (s.offset25 l.reg + flags * 2 ^ 24) ++
    (s.trcChannels l).flatMap (fun c => toLe 4 (s.trcValue l c))

/-- A change of a lane's trace ring, with the number of rows held reported. -/
def State.modTrc (s : State) (l : LaneId) (f : Trc → Trc) : State :=
  let s := s.modLane l (fun x => { x with trc := f x.trc })
  s.wr l.reg TRC_ROWS 0 (s.lane l).trc.rows.length

/-- A row appended to the ring; the oldest goes when it is full, and the trigger row's number with it (R258, R259). -/
def State.ringPush (s : State) (l : LaneId) (row : List Byte) : State :=
  let rows := (s.lane l).trc.rows
  if rows.length < s.ringRows l then s.modTrc l (fun x => { x with rows := x.rows ++ [row] })
  else
    let s := s.wr l.reg TRC_TRIG_ROW 0 (s.rd l.reg TRC_TRIG_ROW - 1)
    s.modTrc l (fun x => { x with rows := x.rows.drop 1 ++ [row] })

/-! ### Triggers -/

/-- The rows ahead of the trigger row (R259). -/
def State.preRows (s : State) (l : LaneId) : Nat := s.rd l.reg TRC_PRE_TRIG * s.ringRows l / 100

/-- The sample of the trigger channel (R258). -/
def State.trigSample (s : State) (l : LaneId) : Int := sgn 32 (s.trcValue l (bits (s.rd l.reg TRC_TRIG_MODE) 8 4))

/-- The trigger of `TRIG_MODE` holds at this row, or TRACE_TRIGGER asked for it (R258). -/
def State.trigDue (s : State) (l : LaneId) : Bool :=
  let x := (s.lane l).trc
  let level := s.rdI l.reg TRC_TRIG_LEVEL
  let now := s.trigSample l
  let rise := match x.prev with
    | some p => decide (p < level ∧ now ≥ level)
    | none => false
  let fall := match x.prev with
    | some p => decide (p ≥ level ∧ now < level)
    | none => false
  let arg := s.rd l.reg TRC_TRIG_ARG
  x.ask || (match bits (s.rd l.reg TRC_TRIG_MODE) 3 0 with
    | 1 => rise
    | 2 => fall
    | 3 => rise || fall
    | 4 => decide (arg < 64) && s.rdB l.reg TRC_HIT arg
    | 6 => decide ((s.cycle l + 2 ^ 32 - arg) % 2 ^ 32 < 2 ^ 31)
    | _ => false)

/-- The state after rows fill ahead of a trigger: waiting once the pre-trigger share is held (R259). -/
def State.trcFilled (s : State) (l : LaneId) : State :=
  if s.rd l.reg TRC_STATE = 1 ∧ (s.lane l).trc.rows.length ≥ s.preRows l then s.wr l.reg TRC_STATE 0 2 else s

/-- The trigger row (R259): its place, its cycle, and the rows still to come. -/
def State.trcTrigger (s : State) (l : LaneId) : State :=
  let s := s.ringPush l (s.trcRow l true false)
  let s := s.modTrc l (fun x => { x with ask := false, taken := true })
  let s := (s.wr l.reg TRC_TRIG_ROW 0 ((s.lane l).trc.rows.length - 1)).wr l.reg TRC_TRIG_CYCLE 0 (s.cycle l)
  let left := s.ringRows l - s.preRows l - 1
  (s.wr l.reg TRC_POST 0 left).wr l.reg TRC_STATE 0 (if left = 0 then 4 else 3)

/-- A row after the trigger (R259). -/
def State.trcPost (s : State) (l : LaneId) : State :=
  let s := s.ringPush l (s.trcRow l false false)
  let left := s.rd l.reg TRC_POST - 1
  (s.wr l.reg TRC_POST 0 left).wr l.reg TRC_STATE 0 (if left = 0 then 4 else 3)

/-! ### Streaming -/

/-- The rows at the head of the queue that have all the same length, which the TRACE message names. -/
def sameRows : List (List Byte) → List (List Byte)
  | [] => []
  | r :: rs => r :: rs.takeWhile (fun x => x.length == r.length)

/-- The rows of the queue that may go by now at 16 MB/s, with the time the lane's share is taken until: a row that has just come starts no
earlier than now (R260; a row counts at its start, DESIGN CHOICE, log 75). -/
def State.trcShare (s : State) (l : LaneId) : List (List Byte) × Nat :=
  let rows := sameRows (s.lane l).trc.rows
  let now := s.now * 16
  let free := s.rd l.reg TRC_TX_FREE
  let start := if rows.length ≤ 1 then max free now else free
  let dur := (rows.headD []).length * 1000
  if rows.isEmpty ∨ dur = 0 ∨ start > now then ([], free)
  else
    let k := min rows.length ((now - start) / dur + 1)
    (rows.take k, start + k * dur)

/-- The rows waiting in the queue sent to M within the lane's share while M is not lost and its link is up (R260). -/
def State.trcSend (s : State) (l : LaneId) : State :=
  let x := s.trcShare l
  if s.rdB l.reg INT_M_LOST || s.rd l.reg XLK_LINK_STATE 7 != 2 then s.wr l.reg TRC_TX_FREE 0 (max (s.rd l.reg TRC_TX_FREE) (s.now * 16))
  else if x.1.isEmpty then s
  else
    let u := (s.wr l.reg TRC_TX_FREE 0 x.2).send (.trace l (x.1.headD []).length x.1)
    u.modTrc l (fun y => { y with rows := y.rows.drop x.1.length })

/-- A row while streaming: queued and sent; dropped and counted while the queue is full; with M lost the ring fills as a
plain ring (R260). -/
def State.trcStreamRow (s : State) (l : LaneId) : State :=
  if s.rd l.reg TRC_STREAM_STATE = 2 then s.ringPush l (s.trcRow l false false)
  else if (s.lane l).trc.rows.length ≥ s.ringRows l then
    (s.bump l.reg TRC_CNT_DROP).modTrc l (fun x => { x with lost := true })
  else
    let s := s.ringPush l (s.trcRow l false (s.lane l).trc.lost)
    (s.modTrc l (fun x => { x with lost := false })).trcSend l

/-- M lost to a streaming lane: streaming stops (R260). -/
def State.trcMLost (s : State) (l : LaneId) : State :=
  if s.rd l.reg TRC_STATE = 5 then s.wr l.reg TRC_STREAM_STATE 0 2 else s

/-- A sample event: one row in every state but IDLE and DONE (R257 to R260). -/
def State.trcSample (s : State) (l : LaneId) : State :=
  let st := s.rd l.reg TRC_STATE
  let now := s.trigSample l
  let s := match st with
    | 1 => (s.ringPush l (s.trcRow l false false)).trcFilled l
    | 2 => if s.trigDue l then s.trcTrigger l else s.ringPush l (s.trcRow l false false)
    | 3 => s.trcPost l
    | 5 => s.trcStreamRow l
    | _ => s
  let arg := s.rd l.reg TRC_TRIG_ARG
  let s := if arg < 64 then s.wr l.reg TRC_HIT arg 0 else s
  if st = 0 ∨ st = 4 then s else s.modTrc l (fun x => { x with prev := some now })

/-- TRC_SAMPLE_EVENT (R257, R258): a row where the source of `TRC.SAMPLE` has made a sample event since the last. -/
def execTrcSampleEvent (l : LaneId) (t : Nat) (s : State) : Host.Outcome State Fault Refusal :=
  .next ((s.atTime t).whenUp l (fun s => if s.rdB l.reg TRC_DUE then (s.wr l.reg TRC_DUE 0 0).trcSample l else s))

/-! ### Opcodes of class 0x08 -/

/-- Sampling starts: the events of the source count anew (R258, R261). -/
def State.trcStart (s : State) (l : LaneId) (st : Nat) : State := ((s.wr l.reg TRC_N 0 0).wr l.reg TRC_DUE 0 0).wr l.reg TRC_STATE 0 st

/-- TRACE_ARM needs an enabled channel (R261). -/
def State.chkTraceArm (s : State) (l : LaneId) : Option Rsp :=
  failIf (s.rd l.reg TRC_CH_EN == 0) (rRange (TRC_CH_EN.id l.reg 0) 0)

/-- TRACE_ARM: the ring cleared, sampling started (R259, R261). -/
def State.effTraceArm (s : State) (l : LaneId) : State :=
  let s := s.modTrc l (fun _ => {})
  let s := (List.range 64).foldl (fun s i => s.wr l.reg TRC_HIT i 0) s
  let s := (s.wr l.reg TRC_TRIG_ROW 0 0).wr l.reg TRC_STREAM_STATE 0 0
  (s.trcStart l 1).trcFilled l

/-- TRACE_TRIGGER: the trigger is taken at the next row that may take one (R261). -/
def State.effTraceTrigger (s : State) (l : LaneId) : State :=
  if s.rd l.reg TRC_STATE = 1 ∨ s.rd l.reg TRC_STATE = 2 then s.modTrc l (fun x => { x with ask := true }) else s

/-- TRACE_STOP: sampling and streaming stop; DONE where a trigger was taken (R261). -/
def State.effTraceStop (s : State) (l : LaneId) : State :=
  (s.wr l.reg TRC_STREAM_STATE 0 0).wr l.reg TRC_STATE 0 (if (s.lane l).trc.taken then 4 else 0)

/-- TRACE_READ starts at a row the ring holds (R261). -/
def State.chkTraceRead (s : State) (l : LaneId) (start : Nat) : Option Rsp :=
  failIf (decide (start ≥ (s.lane l).trc.rows.length)) (rRange 0 16)

/-- The whole rows that fit in a number of bytes. -/
def fitRows : Nat → List (List Byte) → List Byte
  | _, [] => []
  | n, r :: rs => if r.length ≤ n then r ++ fitRows (n - r.length) rs else []

/-- The rows TRACE_READ returns: the whole rows that fit in 1,024 bytes (R261). -/
def State.traceRows (s : State) (l : LaneId) (start count : Nat) : List Byte :=
  fitRows 1024 (((s.lane l).trc.rows.drop start).take count)

/-- TRACE_STREAM: streaming started or stopped (R260, R261). -/
def State.effTraceStream (s : State) (l : LaneId) (on : Bool) : State :=
  if on then
    let s := (s.trcStart l 5).wr l.reg TRC_STREAM_STATE 0 (if s.rdB l.reg INT_M_LOST then 2 else 1)
    s.wr l.reg TRC_TX_FREE 0 (max (s.rd l.reg TRC_TX_FREE) (s.now * 16))
  else if s.rd l.reg TRC_STATE = 5 then s.effTraceStop l else s

/-- TRACE_ARM (R261). -/
def execTraceArm (l : LaneId) (h : Hdr) (s : State) : Host.Outcome State Fault Refusal :=
  .next (s.whenHost l (fun s => s.perform l h 0x0801 (s.chkTraceArm l) (s.effTraceArm l, rOk)))

/-- TRACE_TRIGGER (R261). -/
def execTraceTrigger (l : LaneId) (h : Hdr) (s : State) : Host.Outcome State Fault Refusal :=
  .next (s.whenHost l (fun s => s.perform l h 0x0802 none (s.effTraceTrigger l, rOk)))

/-- TRACE_STOP (R261). -/
def execTraceStop (l : LaneId) (h : Hdr) (s : State) : Host.Outcome State Fault Refusal :=
  .next (s.whenHost l (fun s => s.perform l h 0x0803 none (s.effTraceStop l, rOk)))

/-- TRACE_READ (R261). -/
def execTraceRead (l : LaneId) (h : Hdr) (start count : Nat) (s : State) : Host.Outcome State Fault Refusal :=
  .next (s.whenHost l (fun s => s.perform l h 0x0804 (s.chkTraceRead l start) (s, rOk (s.traceRows l start count))))

/-- TRACE_STREAM (R261). -/
def execTraceStream (l : LaneId) (h : Hdr) (on : Bool) (s : State) : Host.Outcome State Fault Refusal :=
  .next (s.whenHost l (fun s => s.perform l h 0x0805 none (s.effTraceStream l on, rOk)))

/-! ### The archive in M -/

/-- The oldest records overwritten until the archive fits its 8 MB; each row is counted (R260, R264). -/
def trimArchive : Nat → List (List Byte) → List (List Byte) × Nat
  | _, [] => ([], 0)
  | total, r :: rs =>
    if total > 8388608 then
      let x := trimArchive (total - r.length) rs
      (x.1, x.2 + 1)
    else (r :: rs, 0)

/-- What M's archive accepts of rows that arrive together, from the bytes not yet paid off in thousandths: the rows taken, the number refused,
the bytes then not paid off. M accepts 24 MB/s, taken over 1 ms (R260; DESIGN CHOICE, log 75). -/
def archAccept : Nat → List (List Byte) → List (List Byte) × Nat × Nat
  | used, [] => ([], 0, used)
  | used, r :: rs =>
    if used + r.length * 1000 ≤ 24000000 then
      let x := archAccept (used + r.length * 1000) rs
      (r :: x.1, x.2)
    else
      let x := archAccept used rs
      (x.1, x.2.1 + 1, x.2.2)

/-- The bytes of earlier rows not yet paid off at 24 MB/s, in thousandths (R260). -/
def State.archUsed (s : State) : Nat := s.rd 7 TRC_RX_USED - (s.now - s.rd 7 TRC_RX_AT) * 24

/-- Rows appended to the archive as far as M accepts them, each behind its tag of lane region and row length; rows refused and rows overwritten
are counted (R260, R264). -/
def State.archiveRows (s : State) (l : LaneId) (rowBytes : Nat) (rows : List (List Byte)) : State :=
  let a := archAccept s.archUsed rows
  let all := s.archive ++ a.1.map (fun r => toLe 4 (l.reg + rowBytes % 4096 * 16) ++ r)
  let x := trimArchive (all.map List.length).sum all
  let s : State := { s with archive := x.1 }
  let s := (s.wr 7 TRC_RX_USED 0 a.2.2).wr 7 TRC_RX_AT 0 s.now
  (s.bumpBy 7 M_TRC_ARCH_LOST 0 (x.2 + a.2.1)).wr 7 M_TRC_ARCH_BYTES 0 s.archBytes

/-- TRACE_ARCHIVE_WRITE (R260). -/
def execTraceArchiveWrite (l : LaneId) (rowBytes : Nat) (rows : List (List Byte)) (s : State) :
    Host.Outcome State Fault Refusal :=
  .next (s.whenM (fun s => s.archiveRows l rowBytes rows))

/-- M's answer to ARCHIVE_READ (R261): at most 1,024 bytes from the offset, counted from the oldest record. -/
def State.archiveRead (s : State) (offset len : Nat) : Rsp :=
  if len > 1024 then rRange 0 20 else rOk ((s.archive.flatten.drop offset).take len)

/-- M or S reached by a lane: the die runs, is not lost to the lane, and the link to it is up (R33, R38, R87, R334). -/
def State.reaches (s : State) (l : LaneId) (d : Shared) : Bool :=
  let link := s.rd l.reg XLK_LINK_STATE d.reg == 2
  match d with
  | .m => s.mUp && !s.rdB l.reg INT_M_LOST && link
  | .s => s.sUp && !s.rdB l.reg INT_S_LOST && link

/-- An opcode that a lane relays to M or S and that takes effect there at once: RANGE at offset 8 where the die cannot
be reached (R38). -/
def State.performAt (s : State) (l : LaneId) (d : Shared) (h : Hdr) (opcode : Nat) (chk : Option Rsp) (eff : State × Rsp) : State :=
  s.perform l h opcode (firstFail [failIf (!s.reaches l d) (rRange 0 8), chk]) eff

/-- ARCHIVE_READ (R261). -/
def execArchiveRead (l : LaneId) (h : Hdr) (offset len : Nat) (s : State) : Host.Outcome State Fault Refusal :=
  .next (s.whenHost l (fun s => s.performAt l .m h 0x0806 none (s, s.archiveRead offset len)))

end Sys2Proof.Machine
end

