-- ==== Sys2Proof/Machine/Outputs.lean ====
section
/-! DEFINITION. The section vote, the section outputs and the authority outputs of S, and the STATUS message (R25, R329 to
R346, R348). -/

namespace Sys2Proof.Machine

open Par Var

/-! ### The vote at S (R331) -/

/-- The vote of a lane in force: its latest, until S excludes the lane (R331). -/
def State.liveVote (s : State) (l : LaneId) : Option VoteMsg :=
  if s.excl l.reg || s.rdB 8 SVT_DEAD l.reg then none else s.sdie.vote l.reg

/-- The lanes counted at S: not excluded, with a vote in force that is not VOID (R331). -/
def State.countedS (s : State) : List VoteMsg :=
  LaneId.all.filterMap (fun l => (s.liveVote l).filter (fun v => !v.void))

/-- The lowest 64 bits set. -/
def all64 : Nat := 2 ^ 64 - 1

/-- Channels held off by the fault of another: the master that a faulted channel names, and the channels that name a faulted master
(R331, R339, R340). -/
def State.heldOff (s : State) : Nat :=
  let f := s.rd 8 SEC_FAULTED
  (List.range 64).foldl (fun m k =>
    let c := s.rd 8 SEC_MASTER k
    let m := if s.rd 8 SEC_FAULT k ≠ 0 ∧ c < 64 then setBit m c else m
    if c < 64 ∧ f.testBit c then setBit m k else m) 0

/-- The section outputs S wants on (R331). -/
def State.wantOut (s : State) : Nat :=
  match s.countedS with
  | [] => 0
  | vs => clrMask (clrMask (vs.foldl (fun m v => m &&& v.req) (s.rd 8 SVT_ARMED &&& s.rd 8 SEC_EN)) (s.rd 8 SEC_FAULTED)) s.heldOff

/-- The LEVEL outputs S wants on (R343). -/
def State.wantLevel (s : State) : Nat :=
  match s.countedS with
  | [] => 0
  | vs =>
    let m := vs.foldl (fun m v => m &&& v.level) 0xFF
    (List.range 8).foldl (fun x a => if s.rd 8 ATH_KIND a = 3 ∧ m.testBit a then setBit x a else x) 0

/-- `ATH.OUT`: LEVEL outputs on, and outputs pulsed for a target. -/
def State.athOut (s : State) : State :=
  if s.rdB 8 INT_EXTEST then s.wr 8 ATH_OUT 0 0
  else s.wr 8 ATH_OUT 0 ((List.range 8).foldl (fun x a => if s.rd 8 ATH_USERS a ≠ 0 then setBit x a else x) s.wantLevel)

/-- The lanes whose latest vote is VOID (R348). -/
def State.voidS (s : State) : State :=
  s.wr 8 SVT_VOID 0 (LaneId.all.foldl (fun m l => match s.sdie.vote l.reg with
    | some v => if v.void then setBit m l.idx else m
    | none => m) 0)

/-! ### Park latches (R344, R345) -/

/-- The latch state of a target: 0 UNKNOWN, 1 ENGAGED, 2 RELEASED, 3 MOVING. -/
def State.latchState (s : State) (t : Nat) : Nat := s.rd 8 ATH_LATCH_STATE / 4 ^ (t - 1) % 4

/-- The latch state of a target set. -/
def State.setLatch (s : State) (t v : Nat) : State :=
  let p := s.rd 8 ATH_LATCH_STATE
  s.wr 8 ATH_LATCH_STATE 0 (p - s.latchState t * 4 ^ (t - 1) + v * 4 ^ (t - 1))

/-- The outputs of a kind whose mask holds a target (R342). -/
def State.coilsOf (s : State) (kind t : Nat) : List Nat :=
  (List.range 8).filter (fun a => s.rd 8 ATH_KIND a == kind && (s.rd 8 ATH_TGT_MASK a).testBit (t - 1))

/-- Every pulse of a target stopped. -/
def State.stopPulse (s : State) (t : Nat) : State :=
  let s := (List.range 8).foldl (fun s a => s.wr 8 ATH_USERS a (clrBit (s.rd 8 ATH_USERS a) (t - 1))) s
  (s.wr 8 ATH_DIR t 0).wr 8 ATH_BAD t 0

/-- The pulse of a target in a direction, 1 engage, 2 release: its outputs on, each counted, the state MOVING. Without an
output of that kind there is no pulse (R344). -/
def State.pulse (s : State) (dir t : Nat) : State :=
  let s := s.stopPulse t
  let as := s.coilsOf dir t
  if as.isEmpty then s
  else
    let s := as.foldl (fun s a => (s.wr 8 ATH_USERS a (setBit (s.rd 8 ATH_USERS a) (t - 1))).bump 8
      (if dir = 1 then ATH_CNT_ENGAGE else ATH_CNT_RELEASE)) s
    (s.wr 8 ATH_DIR t dir).setLatch t 3

/-- The engagement of a target: not where it is ENGAGED or an engage pulse runs; a release pulse is stopped (R344). -/
def State.engage (s : State) (t : Nat) : State :=
  if s.latchState t = 1 ∨ s.rd 8 ATH_DIR t = 1 then s else s.pulse 1 t

/-- The HOLD bits of a lane S has not excluded. -/
def State.holdOf (s : State) (l : LaneId) : Nat := ((s.liveVote l).map VoteMsg.hold).getD 0

/-- HOLD bits that have risen in some lane engage their targets; VOID plays no part (R344). -/
def State.latchHolds (s : State) : State :=
  let rise := LaneId.all.foldl (fun m l => m ||| clrMask (s.holdOf l) (s.rd 8 ATH_HOLD_PREV l.reg)) 0
  let s := LaneId.all.foldl (fun s l => s.wr 8 ATH_HOLD_PREV l.reg (s.holdOf l)) s
  (targetsOf rise).foldl (fun s t => s.engage t) s

/-- A RELEASE request of the holder in S's view with the current epoch starts the pulse of each target that is ENGAGED and
held by no lane (R344). -/
def State.latchReleases (s : State) : State :=
  match LaneId.ofReg (s.rd 8 S_STF_HOLDER) with
  | none => s
  | some l =>
    match s.liveVote l with
    | none => s
    | some v =>
      if v.epoch ≠ s.rd 8 S_STF_EPOCH then s
      else
        let held := LaneId.all.foldl (fun m x => m ||| s.holdOf x) 0
        (targetsOf (clrMask v.release (s.rd 8 ATH_REL_SERVED l.reg))).foldl (fun s t =>
          if held.testBit (t - 1) ∨ s.latchState t ≠ 1 then s
          else (s.wr 8 ATH_REL_SERVED l.reg (setBit (s.rd 8 ATH_REL_SERVED l.reg) (t - 1))).pulse 2 t) s

/-- An off-pulse over: the time it ended at, for the gap to the next and for the blanking of the readback (R338). -/
def State.testOver (s : State) (k : Nat) : State :=
  ((s.wr 8 SEC_TEST_K 0 0).wr 8 SEC_GAP_AT 0 (s.now + 1)).wr 8 SEC_TEST_END k (s.now + 1)

/-- Every output of S evaluated: at each vote, exclusion, ADMIT, change of `ARMED` and change of a fault. An off-pulse of
an output that turns OFF is skipped (R331, R338, R340, R343, R344). -/
def State.evalS (s : State) : State :=
  let w := if s.rdB 8 INT_EXTEST then 0 else s.wantOut
  let k := s.rd 8 SEC_TEST_K
  let s := if k ≠ 0 ∧ !w.testBit (k - 1) then (s.testOver (k - 1)).bump 8 SEC_CNT_TEST_SKIP else s
  let s := if s.countedS.isEmpty then s else s.wr 8 ATH_ORPHANED 0 0
  ((((s.wr 8 SVT_OUT 0 w).voidS).latchHolds).latchReleases).athOut

/-- RELEASE bits that have fallen: those that started no pulse are refused (R344). -/
def State.releaseEnd (s : State) (l : Nat) (new : Nat) : State :=
  let fell := targetsOf (clrMask (s.rd 8 ATH_REL_PREV l) new)
  let lost := fell.filter (fun t => !(s.rd 8 ATH_REL_SERVED l).testBit (t - 1))
  let s := s.bumpBy 8 ATH_CNT_RELEASE_REJECT 0 lost.length
  (s.wr 8 ATH_REL_SERVED l (s.rd 8 ATH_REL_SERVED l &&& new)).wr 8 ATH_REL_PREV l new

/-- A vote message taken as the latest of its lane (R330, R331). -/
def State.takeVote (s : State) (l : LaneId) (v : VoteMsg) (t : Nat) : State :=
  let s : State := match l with
    | .a => { s with sdie := { s.sdie with voteA := some v } }
    | .b => { s with sdie := { s.sdie with voteB := some v } }
    | .c => { s with sdie := { s.sdie with voteC := some v } }
  let s := ((s.wr 8 SVT_REQ l.reg v.req).wr 8 SVT_VOTE_AT l.reg t).wr 8 SVT_DEAD l.reg 0
  (s.releaseEnd l.reg v.release).evalS

/-- S_VOTE_RECEIVE (R331). -/
def execSVoteReceive (v : VoteMsg) (t : Nat) (s : State) : Host.Outcome State Fault Refusal :=
  .next ((s.atTime t).whenS (fun s => match LaneId.ofReg v.region with
    | some l => s.takeVote l v t
    | none => s))

/-- The state of a target at the end of its last coil pulse: ENGAGED, RELEASED, or UNKNOWN after a coil fault (R344,
R345). -/
def State.pulseDone (s : State) (t : Nat) : State :=
  if (List.range 8).any (fun a => (s.rd 8 ATH_USERS a).testBit (t - 1)) then s
  else
    let s := s.setLatch t (if s.rdB 8 ATH_BAD t then 0 else s.rd 8 ATH_DIR t)
    (s.wr 8 ATH_DIR t 0).wr 8 ATH_BAD t 0

/-- ATH_PULSE_END (R344): the pulse of an output ends for every target it was pulsed for. -/
def execAthPulseEnd (a : Nat) (s : State) : Host.Outcome State Fault Refusal :=
  .next (s.whenS (fun s =>
    let ts := targetsOf (s.rd 8 ATH_USERS a)
    let s := s.wr 8 ATH_USERS a 0
    (ts.foldl (fun s t => s.pulseDone t) s).evalS))

/-- ATH_COIL_FAULT (R345): an open coil found during a pulse of an output, or a short of one that is on. -/
def execAthCoilFault (a : Nat) (short : Bool) (s : State) : Host.Outcome State Fault Refusal :=
  .next (s.whenS (fun s =>
    if a > 7 ∨ (s.rd 8 ATH_USERS a = 0 ∧ !(short && bit (s.rd 8 ATH_OUT) a)) then s
    else
      let s := s.wrBit 8 ATH_FAULT a (if short then 0 else 1) true
      let s := (targetsOf (s.rd 8 ATH_USERS a)).foldl (fun s t => (s.wr 8 ATH_BAD t 1).setLatch t 0) s
      s.raise 8 5))

/-- ATH_ORPHAN_TIMEOUT (R346): with the rule on and a lane admitted since S's reset, no lane has been counted for
`ORPHAN_TIME`: every latch engages, once until a lane is counted again. -/
def execAthOrphanTimeout (s : State) : Host.Outcome State Fault Refusal :=
  .next (s.whenS (fun s =>
    if s.rd 8 ATH_ORPHAN_TIME = 0 ∨ !s.rdB 8 STF_ANY_ADM ∨ !s.countedS.isEmpty ∨ s.rdB 8 ATH_ORPHANED then s
    else (([1, 2, 3, 4].foldl (fun s t => s.engage t) (s.wr 8 ATH_ORPHANED 0 1)).bump 8 ATH_CNT_ORPHAN).athOut))

/-! ### ARM and DISARM (R329, R332) -/

/-- ARM at S: the holder in S's view with S's epoch, else NOT_STAFF_HOLDER and counted (R329). -/
def State.armS (s : State) (l : LaneId) (epoch mask : Nat) : State × Rsp :=
  if s.rd 8 S_STF_HOLDER ≠ l.reg ∨ s.rd 8 S_STF_EPOCH ≠ epoch ∨ s.excl l.reg then
    (s.bump 8 SVT_CNT_ARM_REJECT, rNotHolder (s.rd 8 S_STF_HOLDER))
  else
    let s := (s.wr 8 SVT_ARMED 0 (s.rd 8 SVT_ARMED ||| mask)).wr 8 SVT_ARM_EPOCH 0 epoch
    ((s.bump 8 SVT_CNT_ARM).evalS, rOk)

/-- DISARM at S: RANGE from an excluded lane (R329). -/
def State.disarmS (s : State) (l : LaneId) (mask : Nat) : State × Rsp :=
  if s.excl l.reg then (s, rRange 0 8)
  else (((s.wr 8 SVT_ARMED 0 (clrMask (s.rd 8 SVT_ARMED) mask)).bump 8 SVT_CNT_DISARM).evalS, rOk)

/-- ARM (R329): a staff function; an agreed one is relayed by the holder only and complete elsewhere. -/
def execArm (l : LaneId) (h : Hdr) (mask : Nat) (s : State) : Host.Outcome State Fault Refusal :=
  .next (s.whenHost l (fun s =>
    if h.voted ∧ s.rd l.reg STF_HOLDER ≠ l.reg then s.perform l h 0x0303 (s.chkStaffFn l h) (s, rOk)
    else s.performAt l .s h 0x0303 (s.chkStaffFn l h) (s.armS l (s.rd l.reg STF_EPOCH) mask)))

/-- DISARM (R329). -/
def execDisarm (l : LaneId) (h : Hdr) (mask : Nat) (s : State) : Host.Outcome State Fault Refusal :=
  .next (s.whenHost l (fun s => s.performAt l .s h 0x0304 none (s.disarmS l mask)))

/-! ### STATUS (R333, R565) -/

/-- The STATUS message of S. -/
def State.statusMsg (s : State) : SStatus :=
  { armed := s.rd 8 SVT_ARMED, out := s.rd 8 SVT_OUT, faulted := s.rd 8 SEC_FAULTED, latch := s.rd 8 ATH_LATCH_STATE,
    athOut := s.rd 8 ATH_OUT, excluded := s.rd 8 S_STF_EXCLUDED, void := s.rd 8 SVT_VOID }

/-- The exclusion of a lane lifted by S, and every output evaluated (R117, R331). -/
def State.liftS (s : State) (l : LaneId) : State :=
  ((s.wrBit 8 S_STF_EXCLUDED 0 l.idx false).wr 8 STF_ANY_ADM 0 1).evalS

/-- S_STATUS_SEND (R333, R565): the lanes formed are no longer excluded, and every lane is sent the STATUS. -/
def execSStatusSend (s : State) : Host.Outcome State Fault Refusal :=
  .next (s.whenS (fun s =>
    let s := LaneId.all.foldl (fun s l => if s.rdB 8 STF_ADMITTED l.reg ∧ s.excl l.reg then s.liftS l else s) s
    s.lanesOf.foldl (fun s l => s.send (.status l s.statusMsg)) s))

/-- S_STATUS_RECEIVE (R124, R333, R565): the lane's view of S; a lane in shadow that is no longer excluded enters service
at the next common latch instant; S is heard again. -/
def execSStatusReceive (l : LaneId) (m : SStatus) (t : Nat) (s : State) : Host.Outcome State Fault Refusal :=
  .next ((s.atTime t).whenUp l (fun s =>
    let s := ((s.wr l.reg SVT_V_ARMED 0 m.armed).wr l.reg SVT_V_OUT 0 m.out).wr l.reg SVT_V_FAULTED 0 m.faulted
    let s := ((s.wr l.reg SVT_V_LATCH 0 m.latch).wr l.reg SVT_V_ATH 0 m.athOut).wr l.reg SVT_V_VOID 0 m.void
    let s := s.hearExcluded l m.excluded
    let s := if s.vstate l = 0 ∧ !bit m.excluded l.idx ∧ !s.rdB l.reg STF_ENTER
      then (s.wr l.reg STF_ENTER 0 1).wr l.reg STF_ENTER_AT 0 t else s
    (if s.rdB l.reg STF_S_SILENT then s.wr l.reg STF_S_BACK 0 1 else s).staffReturn l))

/-! ### Supervision of the section outputs (R337 to R341) -/

/-- An output in use and on (R336). -/
def State.outOn (s : State) (k : Nat) : Bool := decide (k < 64) && (s.rd 8 SEC_EN).testBit k && (s.rd 8 SVT_OUT).testBit k

/-- A fault bit of a channel: the channel off, its source held (R337). -/
def State.secFault (s : State) (k n : Nat) : State :=
  let s := (s.wrBit 8 SEC_FAULT k n true).wrBit 8 SEC_FAULTED 0 k true
  (s.raise 8 ([0, 1, 2, 3, 4].getD n 4) true).evalS

/-- An ON output due for its test: `TEST_PERIOD` after the start of its last one (R338). -/
def State.testDue (s : State) (k : Nat) : Bool :=
  s.outOn k && (!s.rdB 8 SEC_TEST_AT k || decide (s.rd 8 SEC_TEST_AT k + s.rd 8 SEC_TEST_PERIOD * 1000000 ≤ s.now + 1))

/-- The channel whose test S starts now: the lowest one due, at least 1 ms after the last test (R338, R340). -/
def State.testNext (s : State) : Option Nat :=
  if s.rdB 8 SEC_GAP_AT ∧ s.now + 1 < s.rd 8 SEC_GAP_AT + 1000000 then none else (List.range 64).find? s.testDue

/-- SEC_OFF_PULSE_START (R338, R340): an ON output under test, one at a time, in its turn. -/
def execSecOffPulseStart (k : Nat) (s : State) : Host.Outcome State Fault Refusal :=
  .next (s.whenS (fun s => if s.rd 8 SEC_TEST_K = 0 ∧ s.testNext = some k
    then (s.wr 8 SEC_TEST_K 0 (k + 1)).wr 8 SEC_TEST_AT k (s.now + 1) else s))

/-- The judgement of an off-pulse (R338): `mv` the lowest output voltage, `ma` the lowest current before its end. -/
def State.offPulseJudge (s : State) (k : Nat) (mv : Int) (ma : Nat) : State :=
  let s := s.testOver k
  if mv < (s.rd 8 SEC_V_OFF_TH : Nat) ∧ (k < 16 → ma < 50) then
    ((s.wr 8 SEC_FAIL_N k 0).wr 8 SEC_PASS_ON k 1).wr 8 SEC_PASS_AT k s.now
  else
    let n := s.rd 8 SEC_FAIL_N k + 1
    let s := (s.bump 8 SEC_CNT_TEST_FAIL k).wr 8 SEC_FAIL_N k n
    if n ≥ 2 then s.secFault k 0 else s

/-- SEC_OFF_PULSE_END (R338). -/
def execSecOffPulseEnd (k : Nat) (mv : Int) (ma : Nat) (s : State) : Host.Outcome State Fault Refusal :=
  .next (s.whenS (fun s => if s.rd 8 SEC_TEST_K = k + 1 then s.offPulseJudge k mv ma else s))

/-- The readback of a channel is not judged: from the start of an off-pulse until `ON_BLANK` after its end (R338). -/
def State.readbackOff (s : State) (k : Nat) : Bool :=
  s.rd 8 SEC_TEST_K == k + 1 ||
    (s.rdB 8 SEC_TEST_END k && decide (s.now + 1 < s.rd 8 SEC_TEST_END k + s.rd 8 SEC_ON_BLANK * 1000000))

/-- SEC_READBACK_FAULT (R337, R338). -/
def execSecReadbackFault (k : Nat) (s : State) : Host.Outcome State Fault Refusal :=
  .next (s.whenS (fun s => if s.outOn k ∧ !s.readbackOff k then s.secFault k 1 else s))

/-- SEC_OVERCURRENT (R337): sensed channels. -/
def execSecOvercurrent (k : Nat) (s : State) : Host.Outcome State Fault Refusal :=
  .next (s.whenS (fun s => if k < 16 ∧ s.outOn k then s.secFault k 3 else s))

/-- SEC_OPEN_LOAD (R337): sensed channels with a limit. -/
def execSecOpenLoad (k : Nat) (s : State) : Host.Outcome State Fault Refusal :=
  .next (s.whenS (fun s => if k < 16 ∧ s.outOn k ∧ s.rd 8 SEC_I_MIN k ≠ 0 then s.secFault k 4 else s))

/-- SEC_LEAKAGE (R337): an enabled output that is OFF. -/
def execSecLeakage (k : Nat) (s : State) : Host.Outcome State Fault Refusal :=
  .next (s.whenS (fun s =>
    if k < 64 ∧ (s.rd 8 SEC_EN).testBit k ∧ !(s.rd 8 SVT_OUT).testBit k then s.secFault k 2 else s))

/-- Fault bits of a channel cleared; the source of a bit no channel has is released (R341). -/
def State.secClear (s : State) (k bits : Nat) : State :=
  let s := s.wr 8 SEC_FAULT k (clrMask (s.rd 8 SEC_FAULT k) bits)
  let s := s.wrBit 8 SEC_FAULTED 0 k (s.rd 8 SEC_FAULT k != 0)
  let s := if bit bits 0 then s.wr 8 SEC_FAIL_N k 0 else s
  let s := (List.range 5).foldl (fun s n =>
    if (List.range 64).any (fun j => (s.rd 8 SEC_FAULT j).testBit n) then s else s.release 8 n) s
  s.evalS

/-- The checks of a write to `SEC.FAULT[k]`: the output OFF and the condition absent, and SERVICE for bits 0 and 2
(R341). -/
def State.chkSecClear (s : State) (l : LaneId) (k bits present : Nat) : Option Rsp :=
  let hit := bits &&& s.rd 8 SEC_FAULT k
  firstFail [failIf (decide (k > 63)) (rRange (SEC_FAULT.id 8 k) 20),
    failIf (hit != 0 && ((s.rd 8 SVT_OUT).testBit k || hit &&& present != 0)) (rRange (SEC_FAULT.id 8 k) 20),
    failIf (hit &&& 0b101 != 0 && s.rd l.reg INT_LIFECYCLE != 3) (rDenied (s.rd l.reg INT_LIFECYCLE))]

/-- SEC_FAULT_CLEAR (R341): a SET relayed to S; `present` are the conditions present. -/
def execSecFaultClear (l : LaneId) (h : Hdr) (k bits present : Nat) (s : State) : Host.Outcome State Fault Refusal :=
  .next (s.whenHost l (fun s => s.performAt l .s h 0x0102 (s.chkSecClear l k bits present) (s.secClear k bits, rOk)))

/-! ### Exclusion (R117) -/

/-- A lane excluded by S for a reason of R132: counted, a lease it holds ended, every output evaluated (R116, R117,
R331). -/
def State.excludeS (s : State) (l : LaneId) (reason : Nat) : State :=
  if s.excl l.reg then s
  else
    let s := ((s.wrBit 8 S_STF_EXCLUDED 0 l.idx true).wr 8 STF_ADMITTED l.reg 0).bump 8 S_STF_CNT_EXCLUDE l.reg
    let s := s.wr 8 SVT_DEAD l.reg 1
    let s := if s.rd 8 S_STF_HOLDER = l.reg then s.endLeaseS reason else s
    s.evalS

/-- S_FRAME_SILENCE (R117): 2 ms without an exchange frame of a lane. -/
def execSFrameSilence (l : LaneId) (s : State) : Host.Outcome State Fault Refusal :=
  .next (s.whenS (fun s => s.excludeS l 2))

end Sys2Proof.Machine
end

