-- ==== Sys2Proof/Machine/Modes.lean ====
section
/-! DEFINITION. The service mode: what is left, the stop causes, the transitions, the controlled stop with its park, the
local stop (R366 to R384). -/

namespace Sys2Proof.Machine

open Par Var

/-! ### What is left (R366, R367) -/

/-- A lane of the given view that has gone: leaving, LOST, RELINQUISH heard, or excluded by S (R366, R367). -/
def State.goneFrom (s : State) (l x : LaneId) : Bool :=
  s.exclSeen l x || (if x = l then s.vstate l != 2 else s.seen l x == 3 || s.seen l x == 4 || s.rdB l.reg STF_RELINQ x.reg)

/-- Lanes that have gone no longer count in N (R367). -/
def State.dropGone (s : State) (l : LaneId) : State :=
  LaneId.all.foldl (fun s x => if s.rdB l.reg VOT_IN_N x.reg ∧ s.goneFrom l x then s.wr l.reg VOT_IN_N x.reg 0 else s) s

/-- The lanes that count in N, a bit per lane. -/
def State.nMask (s : State) (l : LaneId) : Nat :=
  LaneId.all.foldl (fun m x => if s.rdB l.reg VOT_IN_N x.reg then setBit m x.idx else m) 0

/-- The lanes of N whose winding on a bridge is not lost, a bit per lane (R366). -/
def State.wMask (s : State) (l : LaneId) (b : Nat) : Nat :=
  LaneId.all.foldl (fun m x =>
    if s.rdB l.reg VOT_IN_N x.reg ∧ !s.rdB l.reg VOT_LOST_W (8 * x.reg + b) then setBit m x.idx else m) 0

/-- The number of lanes in a mask. -/
def lanesIn (m : Nat) : Nat := b2n (bit m 0) + b2n (bit m 1) + b2n (bit m 2)

/-- The windings of a lane as two of its frames in a row show them: inactive after active without an agreed STOP_DRIVE is
lost, active again is not (R366, R367). -/
def State.noteWindings (s : State) (l x : LaneId) (old new : Nat) : State :=
  (List.range 6).foldl (fun s b =>
    let i := 8 * x.reg + b
    if bit new b then s.wr l.reg VOT_LOST_W i 0
    else if bit old b ∧ !s.rdB l.reg VOT_STOPPED_W i then s.wr l.reg VOT_LOST_W i 1
    else s) s

/-- The smaller of N and every W(c) of a configured cartridge (R366). -/
def State.eCount (s : State) (l : LaneId) : Nat :=
  (List.range 6).foldl (fun e b => if s.bridgeUsed l b then min e (lanesIn (s.wMask l b)) else e) (lanesIn (s.nMask l))

/-- The lowest lane of a mask as a region code; 0 for none. -/
def firstLane (m : Nat) : Nat := if bit m 0 then 1 else if bit m 1 then 2 else if bit m 2 then 3 else 0

/-- Why a count changed, as `MODE_CAUSE` codes it: 1 lane left, 3 winding lost, 2 lane rejoined, 11 winding back, with the
lane and the tag port (R384). -/
def State.modeWhy (s : State) (l : LaneId) : Nat × Nat × Nat :=
  let old := s.rd l.reg VOT_N_MASK
  let new := s.nMask l
  let used := (List.range 6).filter (fun b => s.bridgeUsed l b)
  let lost := used.find? (fun b => clrMask (s.rd l.reg VOT_W_MASK b) (s.wMask l b) != 0)
  let back := used.find? (fun b => clrMask (s.wMask l b) (s.rd l.reg VOT_W_MASK b) != 0)
  if clrMask old new ≠ 0 then (1, firstLane (clrMask old new), 0)
  else match lost with
    | some b => (3, firstLane (clrMask (s.rd l.reg VOT_W_MASK b) (s.wMask l b)), s.rd l.reg CMT_CART b)
    | none =>
      if clrMask new old ≠ 0 then (2, firstLane (clrMask new old), 0)
      else match back with
        | some b => (11, firstLane (clrMask (s.wMask l b) (s.rd l.reg VOT_W_MASK b)), s.rd l.reg CMT_CART b)
        | none => (2, 0, 0)

/-- The counts kept for the next evaluation, and `WINDINGS` (R366, R384). -/
def State.keepCounts (s : State) (l : LaneId) : State :=
  let s := s.wr l.reg VOT_N_MASK 0 (s.nMask l)
  (List.range 6).foldl (fun s b =>
    let c := s.rd l.reg CMT_CART b
    let s := s.wr l.reg VOT_W_MASK b (s.wMask l b)
    if c < 8 then s.wr l.reg VOT_WINDINGS c (lanesIn (s.wMask l b)) else s) s

/-! ### Stop causes (R368) -/

/-- The first stop cause present as `MODE_CAUSE` codes it (R368, R384). -/
def State.stopCause (s : State) (l : LaneId) : Option Nat :=
  let c := s.rd l.reg VOT_STOP_CAUSE
  if bit c 0 then some 4 else if bit c 1 then some 5 else if bit c 2 then some 6 else if bit c 3 then some 7 else none

/-- A stop cause that has arisen; it stays until the next start. -/
def State.addStopCause (s : State) (l : LaneId) (n : Nat) : State := s.wrBit l.reg VOT_STOP_CAUSE 0 n true

/-! ### Entering a mode (R335, R369, R374) -/

/-- A brake target of the stop: one with a configured bridge (R374). -/
def State.stopTargets (s : State) (l : LaneId) : List Nat := [1, 2, 3, 4].filter (fun t => s.targetDriven l t)

/-- The controlled stop begins: the stop force starts from the target in force (R374). -/
def State.enterStop (s : State) (l : LaneId) : State :=
  let s := (((s.wr l.reg VOT_STOP_ON 0 1).wr l.reg VOT_STANDSTILL 0 0).wr l.reg VOT_HELD_FORCE 0 0)
  (s.stopTargets l).foldl (fun s t =>
    let f := s.rd l.reg CEN_TARGET t
    s.wr l.reg VOT_STOP_F t (if s.rd l.reg VOT_STOP_RATE t = 0 then max f (s.rd l.reg VOT_STOP_FORCE t) else f)) s

/-- A mode entered with its cause, counted; the events of standing orders; requests cleared in SINGLE, STOPPING and HELD;
the stop begins, goes on, or ends (R335, R367, R369, R374, R437). -/
def State.setMode (s : State) (l : LaneId) (m : Nat) (why : Nat × Nat × Nat) : State :=
  let old := s.rd l.reg VOT_MODE
  if m = old then s
  else
    let s := (s.wr l.reg VOT_MODE 0 m).wr l.reg VOT_MODE_CAUSE 0 (withCycle (why.1 + why.2.1 * 16 + why.2.2 * 256) (s.cycle l))
    let s := s.bump l.reg VOT_CNT_MODE
    let s := if m ≥ 2 then s.clearSections l else s
    let s := if s.vstate l ≠ 2 then s
      else if m = 2 ∨ m = 3 then (if s.rdB l.reg VOT_STOP_ON then s else s.enterStop l)
      else s.wr l.reg VOT_STOP_ON 0 0
    let s := s.event l 1 0
    if m = 2 ∨ m = 3 then s.event l 2 0 else s

/-! ### Park and HELD (R376, R377, R380) -/

/-- Every target of the stop is shown ENGAGED by S (R376). -/
def State.allEngaged (s : State) (l : LaneId) : Bool :=
  (s.stopTargets l).all (fun t => s.rd l.reg SVT_V_LATCH / 4 ^ (t - 1) % 4 == 1)

/-- HELD by force, with `WARN` bit 8 (R377). -/
def State.heldByForce (s : State) (l : LaneId) : State := (s.wr l.reg VOT_HELD_FORCE 0 1).setMode l 4 (9, 0, 0)

/-- The mode by E for the part: FULL with as many as the part has lanes, SINGLE at 1 or less, else DUAL (R366, R372). -/
def State.modeByE (s : State) (e : Nat) : Nat :=
  if e ≥ s.lanesOf.length then 0 else if e ≥ 2 then 1 else 2

/-- The warnings, judged with the mode (R382, R384). The FJ-3862 gives none for a lane out (R372). -/
def State.modeWarn (s : State) (l : LaneId) : State :=
  let sensor := (List.range 8).any (fun i => s.rd l.reg VOT_AN_STATE i % 8 != 0) ||
    LaneId.all.any (fun x => s.rd l.reg VOT_DI_FAILED x.reg != 0)
  let fb := (List.range 8).any (fun ch => s.rd l.reg FBI_STATE ch == 2) || s.rd l.reg OBS_ENC_FAILED % 64 != 0
  let wind := (List.range 6).any (fun b => s.bridgeUsed l b && s.wMask l b != s.nMask l)
  s.wr l.reg VOT_WARN 0 (b2n (decide (lanesIn (s.nMask l) < s.lanesOf.length)) + 2 * b2n sensor +
    4 * b2n (s.rd l.reg VOT_NET_STATE != 0) + 8 * b2n (s.rd l.reg TWL_RAIL_STATE != 0) + 16 * b2n fb +
    32 * b2n (s.rdB l.reg INT_M_LOST) + 64 * b2n (s.rdB l.reg INT_S_LOST) + 128 * b2n wind +
    256 * b2n (s.rdB l.reg VOT_HELD_FORCE) + 512 * b2n (s.rdB l.reg VOT_LOCAL))

/-- The park at standstill: HELD once every latch is ENGAGED, or by force while S is lost (R376, R377). -/
def State.parkStep (s : State) (l : LaneId) : State :=
  if !s.rdB l.reg VOT_STANDSTILL then s
  else if s.rdB l.reg INT_S_LOST then s.heldByForce l
  else if s.allEngaged l then s.setMode l 4 (8, 0, 0)
  else s

/-- HELD: held by force ends once every target is ENGAGED; a resume where it is enabled (R377, R380). -/
def State.heldStep (s : State) (l : LaneId) (e : Nat) : State :=
  let s := if s.rdB l.reg VOT_HELD_FORCE ∧ !s.rdB l.reg INT_S_LOST ∧ s.allEngaged l then s.wr l.reg VOT_HELD_FORCE 0 0 else s
  if s.rdB l.reg VOT_RESUME_EN ∧ s.rd l.reg VOT_STOP_CAUSE = 0 ∧ e ≥ 2 then s.setMode l (s.modeByE e) (10, 0, 0) else s

/-- The transitions out of FULL and DUAL (R366, R369, R373). -/
def State.fullStep (s : State) (l : LaneId) (e : Nat) (why : Nat × Nat × Nat) : State :=
  if e = 0 then s.setMode l 3 (3, (if why.1 = 3 then why.2.1 else 0), (if why.1 = 3 then why.2.2 else 0))
  else if e = 1 ∧ s.lanesOf.length ≠ 1 then s.setMode l 2 why
  else match s.stopCause l with
    | some c => if s.lanesOf.length = 1 then s else s.setMode l 3 (c, 0, 0)
    | none => s.setMode l (s.modeByE e) why

/-- A lane in shadow or standby reports the mode of the lowest-lettered lane in service it hears (R367). -/
def State.followMode (s : State) (l : LaneId) : State :=
  match (s.peersOf l).find? (fun x => s.seen l x == 2) with
  | some x => match (s.lane l).vot.frame x with
    | some f => if f.mode ≤ 4 then s.setMode l f.mode (0, 0, 0) else s
    | none => s
  | none => s

/-- The mode evaluated at a compute start (R366 to R369). -/
def State.modeCompute (s : State) (l : LaneId) : State :=
  if s.vstate l ≠ 2 then (s.followMode l).modeWarn l
  else
    let s := s.dropGone l
    let e := s.eCount l
    let why := s.modeWhy l
    let s := s.keepCounts l
    let s := match s.rd l.reg VOT_MODE with
      | 2 => s.parkStep l
      | 3 => if e = 1 then (s.setMode l 2 why).parkStep l else s.parkStep l
      | 4 => s.heldStep l e
      | _ => s.fullStep l e why
    s.modeWarn l

/-! ### The controlled stop (R374) -/

/-- A target moved by the stop and not by its own slew (R374). -/
def State.stopHolds (s : State) (l : LaneId) (t : Nat) : Bool := s.rdB l.reg VOT_STOP_ON && t != 0 && s.targetDriven l t

/-- The stop force of every brake target at base period 0 of a cycle: it rises by its rate, the command is the larger of
it, the last BRAKE_DEMAND and a trip's force, and the target follows with no slew (R358, R374). -/
def State.stopCycle (s : State) (l : LaneId) : State :=
  if !s.rdB l.reg VOT_STOP_ON then s
  else (s.stopTargets l).foldl (fun s t =>
    let f := s.rd l.reg VOT_STOP_F t
    let r := s.rd l.reg VOT_STOP_RATE t
    let m := s.rd l.reg VOT_STOP_FORCE t
    let s := s.wr l.reg VOT_STOP_F t (if f ≥ m then f else if r = 0 then m else min m (f + r))
    let v := max (s.rd l.reg CEN_TGT_LAST t) (s.targetFloor l t)
    (s.wr l.reg CEN_TGT_CMD t v).wr l.reg CEN_TARGET t v) s

/-! ### Commands -/

/-- STOP_STANDSTILL (R376): in the controlled stop every configured brake bridge of every lane in service has stayed slow
for `STOP_HOLD_TIME`; the lane sets the HOLD bits of every target with a bridge. -/
def execStopStandstill (l : LaneId) (s : State) : Host.Outcome State Fault Refusal :=
  .next (s.whenUp l (fun s =>
    let ts := s.stopTargets l
    let still := LaneId.all.all (fun x => !s.rdB l.reg VOT_IN_N x.reg || ts.all (fun t => !s.tooFast x (s.rd l.reg CEN_TGT_BRIDGE t)))
    if s.rdB l.reg VOT_STOP_ON ∧ still then
      (s.wr l.reg VOT_STANDSTILL 0 1).effHold l (ts.foldl (fun m t => setBit m (t - 1)) 0)
    else s))

/-- LATCH_CONFIRM_TIMEOUT (R377): a target's latch is faulted or UNKNOWN 1 s after its pulse or its HOLD bits. -/
def execLatchConfirmTimeout (l : LaneId) (target : Nat) (s : State) : Host.Outcome State Fault Refusal :=
  .next (s.whenUp l (fun s =>
    if s.rdB l.reg VOT_STOP_ON ∧ s.rdB l.reg VOT_STANDSTILL ∧ (s.stopTargets l).contains target ∧
        s.rd l.reg SVT_V_LATCH / 4 ^ (target - 1) % 4 ≠ 1
    then (s.heldByForce l).modeWarn l else s))

/-- STOP_TIMEOUT (R378): standstill not reached within `STOP_MAX`. -/
def execStopTimeout (l : LaneId) (s : State) : Host.Outcome State Fault Refusal :=
  .next (s.whenUp l (fun s => if s.rdB l.reg VOT_STOP_ON ∧ !s.rdB l.reg VOT_STANDSTILL then s.raise l.reg 18 else s))

/-- TWL_LOSS_TIMEOUT (R373, R381): a voting lane unsynchronised for `TWL_LOSS` leaves service where another voting lane is
synchronised, and otherwise enters a local stop. -/
def execTwlLossTimeout (l : LaneId) (s : State) : Host.Outcome State Fault Refusal :=
  .next (s.whenUp l (fun s =>
    if s.synced l ∨ !s.voting l l then s
    else if (s.otherVoting l).any (fun x => s.syncSeen l x) then s.leave l
    else ((s.wr l.reg VOT_LOCAL 0 1).addStopCause l 3)))

end Sys2Proof.Machine
end

