-- ==== Sys2Proof/Machine/Rejoin.lean ====
section
/-! DEFINITION. Formation and rejoin: how lanes enter service together after a start, and how one lane that has reset comes
back (R90, R125, R128 to R131, R248, R285, R439, R564, R565). -/

namespace Sys2Proof.Machine

open Par Var

/-! ### Entering standby or service -/

/-- An order armed: a TOWLINE order starts at its cycle N, or at the next cycle where N is 0 (R438, R439). -/
def State.armOrder (s : State) (l : LaneId) (o : Nat) : State :=
  let n := (s.trig l o).argA
  (s.wr l.reg DPT_ORD_STATE o 2).wr l.reg DPT_ORD_FIRST o (if n = 0 then s.cycle l + 1 else n)

/-- The loaded orders with AUTOSTART armed at the first entry into standby or service after a reset (R439). -/
def State.autostart (s : State) (l : LaneId) : State :=
  (List.range 64).foldl (fun s o =>
    if s.rd l.reg DPT_ORD_STATE o = 1 ∧ bit (s.trig l o).flags 1 then s.armOrder l o else s) s

/-- The parking clamp after a creep wake: of every target with a force its brake bridge started under the conditions of a START_DRIVE, its
command set, its HOLD bit set (R157, R178, R527). -/
def State.parkClamp (s : State) (l : LaneId) : State :=
  let ts := [1, 2, 3, 4].filter (fun t => s.rd l.reg PWR_PARK_FORCE t != 0 && s.targetDriven l t)
  let s := ts.foldl (fun s t =>
    let b := s.rd l.reg CEN_TGT_BRIDGE t
    if s.cannotStart l b ∨ s.tooMany l (2 ^ b) then s else s.effStart l (2 ^ b)) s
  let s := ts.foldl (fun s t => s.enterCmd l t (s.rd l.reg PWR_PARK_FORCE t)) s
  (s.effHold l (ts.foldl (fun m t => setBit m (t - 1)) 0)).wr l.reg PWR_CREEP_WOKE 0 0

/-- A lane has entered standby or service: its rejoin is over (R439, R527, R566). -/
def State.entered (s : State) (l : LaneId) : State :=
  let s := if s.rdB l.reg INT_REJOINING then (s.wr l.reg INT_REJOINING 0 0).autostart l else s
  if s.rdB l.reg PWR_CREEP_WOKE then s.parkClamp l else s

/-- A lane die in service with no block in reset is in phase RUN, and so is its power die (R453). -/
def State.servePhase (s : State) (l : LaneId) : State :=
  [l.reg, l.pow].foldl (fun s r =>
    if s.rd r FAB_PHASE = 3 ∧ !(List.range 128).any (fun b => s.rdB r FCL_MASKED b) then s.wr r FAB_PHASE 0 1 else s) s

/-- The entry into service of a formed lane at a common latch instant more than `VOTE_CUTOFF` after the STATUS or the ADMIT
(R565): every lane not excluded counts in N, no winding is lost. -/
def State.enterLatch (s : State) (l : LaneId) (t : Nat) : State :=
  if s.vstate l = 0 ∧ s.rdB l.reg STF_ENTER ∧ t > s.rd l.reg STF_ENTER_AT + 1000 * s.rd l.reg VOT_VOTE_CUTOFF then
    let s := ((s.wr l.reg STF_STATE 0 2).wr l.reg STF_ENTER 0 0).wr l.reg STF_LISTEN 0 0
    let s := s.lanesOf.foldl (fun s x => s.wr l.reg VOT_IN_N x.reg (b2n (x == l || (!s.exclSeen l x && decide (s.seen l x ≤ 2))))) s
    (s.servePhase l).entered l
  else s

/-! ### The steps of a rejoin (R128, R129) -/

/-- The peers a lane sees in standby or in service. -/
def State.liveHeard (s : State) (l : LaneId) : List LaneId :=
  (s.peersOf l).filter (fun p => s.seen l p == 1 || s.seen l p == 2)

/-- The holder the heard lanes show in their frames. -/
def State.holderHeard (s : State) (l : LaneId) : Nat :=
  match s.liveHeard l with
  | p :: _ => match (s.lane l).vot.frame p with
    | some f => f.holder
    | none => 0
  | [] => 0

/-- The source of the state transfer: the holder, or the lowest-lettered lane in service if the holder is the lane itself or
there is none (R129). -/
def State.xferSource (s : State) (l : LaneId) : Option LaneId :=
  let live := s.liveHeard l
  match live.find? (fun p => p.reg == s.holderHeard l) with
  | some p => some p
  | none => match live.find? (fun p => s.seen l p == 2) with
    | some p => some p
    | none => live.head?

/-- The state transfer requested from its source and its check from the second peer (R128, R129). -/
def State.requestXfer (s : State) (l : LaneId) : State :=
  let s := (s.wr l.reg STF_XFER_ON 0 1).wr l.reg STF_XFER_AT 0 s.now
  (s.liveHeard l).foldl (fun s p => s.send (.xferRequest l p)) s

/-- A failed step of a rejoin: the lane is out and starts the step again; after three failures in a row of one step it
stays out and raises source 12 (R128). -/
def State.stepFail (s : State) (l : LaneId) (step : Nat) : State :=
  let n := s.rd l.reg STF_STEP_FAIL step + 1
  let s := ((s.wr l.reg STF_STATE 0 4).wr l.reg STF_XFER_ON 0 0).wr l.reg STF_STEP_FAIL step n
  let s := s.bump l.reg (if step = 2 then STF_CNT_XFER_FAIL else STF_CNT_SHADOW_FAIL)
  if n ≥ 3 then (s.wr l.reg STF_STAY_OUT 0 1).raise l.reg 12 else s.requestXfer l

/-- A lane enters shadow (R128, R564). -/
def State.enterShadow (s : State) (l : LaneId) : State :=
  let s := ((s.wr l.reg STF_STATE 0 0).wr l.reg STF_SHADOW_AT 0 s.now).wr l.reg STF_SHADOW_BAD 0 0
  ((s.wr l.reg STF_SHADOW_N 0 0).wr l.reg STF_LOOP_GOT 0 0).wr l.reg STF_LISTEN 0 0

/-- The links whose failure took the lane out of service are up again (R90). -/
def State.linksBack (s : State) (l : LaneId) : Bool :=
  LaneId.all.all (fun y => !bit (s.rd l.reg STF_LINK_OUT) y.idx || s.rd l.reg XLK_LINK_STATE y.reg == 2)

/-- A listening lane begins its rejoin: it has heard a lane in standby or in service, and the links it left for are up (R90, R564). -/
def State.beginRejoin (s : State) (l : LaneId) : State :=
  if s.rdB l.reg STF_STAY_OUT ∨ s.rdB l.reg STF_XFER_ON ∨ !s.linksBack l then s
  else ((s.wr l.reg STF_LISTEN 0 0).wr l.reg STF_LINK_OUT 0 0).requestXfer l

/-- A lane at an exchange frame of a peer: a listening lane that hears a lane in standby or in service rejoins (R564), not with its pair
halted (R139). -/
def State.hearRejoin (s : State) (l : LaneId) : State :=
  if s.vstate l = 4 ∧ s.rdB l.reg STF_LISTEN ∧ !(s.liveHeard l).isEmpty ∧ s.rd l.reg LSC_STATE ≠ 3 then s.beginRejoin l else s

/-- FORMATION_LISTEN_END (R564): two cycles after synchronisation a READY lane rejoins if it hears a lane in standby or in
service, else it enters shadow with digest 0 and an empty vote record. -/
def execFormationListenEnd (l : LaneId) (s : State) : Host.Outcome State Fault Refusal :=
  .next (s.whenUp l (fun s =>
    if s.vstate l = 4 ∧ s.synced l ∧ !s.rdB l.reg STF_STAY_OUT ∧ !s.rdB l.reg STF_XFER_ON ∧ s.linksBack l ∧ s.rd l.reg LSC_STATE ≠ 3 then
      if (s.liveHeard l).isEmpty then
        ((s.wr l.reg VOT_DIGEST 0 0).modVot l (fun v =>
          { v with copies := [], windows := [], agreed := [], waiting := [], minority := [] })).enterShadow l
      else s.beginRejoin l
    else s))

/-! ### The state transfer (R129) -/

/-- What a lane holds of the windings of each lane, a mask of bridges per lane (R366). -/
def State.windingsOf (s : State) (l : LaneId) (d : PDesc) : List Nat :=
  [1, 2, 3].map (fun r => (List.range 6).foldl (fun m b => putBit m b (s.rdB l.reg d (8 * r + b))) 0)

/-- Those of a transfer loaded (R366). -/
def State.loadWindings (s : State) (l : LaneId) (d : PDesc) (ms : List Nat) : State :=
  (List.range 18).foldl (fun s i =>
    s.wrB l.reg d (8 * (i / 6 + 1) + i % 6) (bit (ms.getD (i / 6) 0) (i % 6))) s

/-- The state a source sends; it carries the lost windings beside the items of R129, since every lane counts the same ones (R129, R366;
DEDUCED, log 75). -/
def State.stateXfer (s : State) (l : LaneId) : StateXfer :=
  let v := (s.lane l).vot
  { holder := s.rd l.reg STF_HOLDER, epoch := s.rd l.reg STF_EPOCH, lease := if s.rd l.reg STF_HOLDER = l.reg then s.rd l.reg STF_SENT_MS else s.rd l.reg STF_LEASE_MS,
    digest := s.rd l.reg VOT_DIGEST, agreed := v.agreed,
    anFailed := (List.range 8).map (fun i => s.rd l.reg VOT_AN_STATE i % 8),
    diFailed := [1, 2, 3].map (fun r => s.rd l.reg VOT_DI_FAILED r), netState := s.rd l.reg VOT_NET_STATE,
    minority := v.minority, table := s.tableXfer l, lostW := s.windingsOf l VOT_LOST_W,
    stoppedW := s.windingsOf l VOT_STOPPED_W, pos := s.rdI l.reg SDC_X, mode := s.rd l.reg VOT_MODE,
    targets := (List.range 5).map (fun t => (s.rd l.reg CEN_TARGET t, s.rd l.reg CEN_TGT_CMD t)), cycle := s.cycle l }

/-- The bytes of an agreed key in the check of a transfer. -/
def agreedBytes (a : VAgreed) : List Byte :=
  toLe 2 a.key.opcode ++ toLe 2 a.key.seq ++ toLe 4 a.key.target ++ a.raw ++ toLe 4 a.crc ++ toLe 1 a.mask ++ toLe 4 a.cycle ++
    (match a.status with
      | some p => toLe 2 p.1 ++ p.2
      | none => [])

/-- The check of a state transfer: CRC-32C over its fields in order. The manual gives no layout (DESIGN CHOICE, log 30). -/
def xferCheck (x : StateXfer) : Nat :=
  crc32c (toLe 1 x.holder ++ toLe 4 x.epoch ++ toLe 1 x.lease ++ toLe 8 x.digest ++ x.agreed.flatMap agreedBytes ++
    x.anFailed.flatMap (toLe 1) ++ x.diFailed.flatMap (toLe 4) ++ toLe 1 x.netState ++
    x.minority.flatMap (fun m => toLe 1 m.1.reg ++ toLe 4 m.2) ++
    x.table.entries.flatMap (fun e => toLe 4 (twos 32 e.pos) ++ toLe 2 e.flags ++ toLe 2 e.tag ++ toLe 8 e.setM ++ toLe 8 e.clrM) ++
    toLe 4 x.table.wrCount ++ toLe 8 x.table.digest ++ toLe 8 (twos 64 x.table.hwm) ++ toLe 1 (b2n x.table.rev) ++
    toLe 8 x.table.req ++ x.lostW.flatMap (toLe 1) ++ x.stoppedW.flatMap (toLe 1) ++ toLe 8 (twos 64 x.pos) ++ toLe 1 x.mode ++
    x.targets.flatMap (fun p => toLe 4 p.1 ++ toLe 4 p.2) ++ toLe 4 x.cycle)

/-- STATE_TRANSFER_REQUEST (R128, R129): a lane in standby or in service answers a request: the source with the state, the
other with its check. -/
def execStateTransferRequest (l : LaneId) (from' : LaneId) (s : State) : Host.Outcome State Fault Refusal :=
  .next (s.whenUp l (fun s =>
    let h := s.rd l.reg STF_HOLDER
    let inService := LaneId.all.filter (fun x => x != from' && s.seen l x == 2)
    let source : Bool := if h ≠ 0 ∧ h ≠ from'.reg then h == l.reg else inService.head? == some l
    if from' = l ∨ (s.vstate l ≠ 1 ∧ s.vstate l ≠ 2) then s
    else if source then s.send (.stateXfer from' (s.stateXfer l))
    else s.send (.xferCrc from' (xferCheck (s.stateXfer l)))))

/-- A state transfer loaded (R128, R129). -/
def State.loadXfer (s : State) (l : LaneId) (x : StateXfer) : State :=
  let s := ((s.wr l.reg STF_HOLDER 0 x.holder).wr l.reg STF_EPOCH 0 x.epoch).wr l.reg STF_LEASE_MS 0 x.lease
  let s := (s.wr l.reg VOT_DIGEST 0 x.digest).wr l.reg VOT_NET_STATE 0 x.netState
  let s := s.modVot l (fun v => { v with agreed := x.agreed, minority := x.minority, copies := [], windows := [], waiting := [] })
  let s := x.anFailed.zipIdx.foldl (fun s p => s.wr l.reg VOT_AN_STATE p.2 p.1) s
  let s := x.diFailed.zipIdx.foldl (fun s p => s.wr l.reg VOT_DI_FAILED (p.2 + 1) p.1) s
  let s := (s.modLane l (fun y => { y with tblLoad := some x.table })).wrI l.reg SDC_X 0 x.pos
  let s := (s.loadWindings l VOT_LOST_W x.lostW).loadWindings l VOT_STOPPED_W x.stoppedW
  let s := s.wr l.reg VOT_MODE 0 x.mode
  x.targets.zipIdx.foldl (fun s p => (s.wr l.reg CEN_TARGET p.2 p.1.1).wr l.reg CEN_TGT_CMD p.2 p.1.2) s

/-- STATE_TRANSFER_COMPLETE (R128): the awaited transfer, complete within 15 ms and equal to the second peer's check where
there is one, is loaded and the lane is in shadow; else the step has failed. -/
def execStateTransferComplete (l : LaneId) (x : StateXfer) (crcSecond : Option Nat) (durationUs : Nat) (s : State) :
    Host.Outcome State Fault Refusal :=
  .next (s.whenUp l (fun s =>
    let same : Bool := match crcSecond with
      | some c => c == xferCheck x
      | none => true
    if !s.rdB l.reg STF_XFER_ON then s
    else if durationUs ≤ 15000 ∧ same then
      let s := (s.loadXfer l x).wr l.reg STF_XFER_ON 0 0
      ((s.wr l.reg STF_XFER_LAST 0 (satNat 16 durationUs)).wr l.reg STF_STEP_FAIL 2 0).enterShadow l
    else s.stepFail l 2))

/-- STATE_TRANSFER_TIMEOUT (R128): 15 ms without the complete transfer. -/
def execStateTransferTimeout (l : LaneId) (s : State) : Host.Outcome State Fault Refusal :=
  .next (s.whenUp l (fun s => if s.rdB l.reg STF_XFER_ON then s.stepFail l 2 else s))

/-! ### Shadow (R128) -/

/-- The voting lanes of a lane in shadow have heard its frame of the last period. -/
def State.heardByAll (s : State) (l : LaneId) : Bool :=
  (s.otherVoting l).all (fun p => match (s.lane l).vot.frame p with
    | some f => bit f.heard l.idx
    | none => true)

/-- The digest of every other voting lane, as its latest frame shows it, equals the lane's own. -/
def State.digestSame (s : State) (l : LaneId) : Bool :=
  (s.otherVoting l).all (fun p => match (s.lane l).vot.frame p with
    | some f => f.digest == s.rd l.reg VOT_DIGEST
    | none => true)

/-- The analog sets in use are valid in the lane. -/
def State.setsValid (s : State) (l : LaneId) : Bool :=
  (List.range 8).all (fun i => s.rd l.reg VOT_AN_SRC i == 0 || bit (s.rd l.reg VOT_AN_STATE i) 8)

/-- A lane in shadow at its compute start: from the third period a frame of it that a voting lane has not heard fails the
step (R128; the frames lag one period, DEDUCED, log 31). -/
def State.shadowCompute (s : State) (l : LaneId) : State :=
  if s.vstate l = 0 ∧ !s.rdB l.reg STF_ENTER then
    let n := s.rd l.reg STF_SHADOW_N + 1
    let s := s.wr l.reg STF_SHADOW_N 0 n
    if n > 2 ∧ !s.heardByAll l then s.wr l.reg STF_SHADOW_BAD 0 1 else s
  else s

/-- The general loops that are closed. -/
def State.closedLoops (s : State) (l : LaneId) : List Nat :=
  (List.range 36).filterMap (fun i => if s.rd l.reg CEN_MODE (i + 12) = 0 then none else some (i + 12))

/-- The enabled repetitive controllers of a lane. -/
def State.rpcOn (s : State) (l : LaneId) : List Nat := (List.range 8).filter (fun r => s.rdB l.reg RPC_EN r)

/-- The second transfer a source sends, as of the base period it names, the present one; with a Q section's states goes whether its restart is
due (R248, R276, R285). -/
def State.loopXfer (s : State) (l : LaneId) : LoopXfer :=
  { period := s.baseNumber l, secs := (s.closedLoops l).flatMap (fun n => (s.cenSecs l n).map (fun k => (k, s.rdI l.reg CEN_S1 k, s.rdI l.reg CEN_S2 k))),
    sat := (List.range 48).map (fun n => s.rd l.reg CEN_SAT_TIME n),
    targets := (List.range 5).map (fun t => (s.rd l.reg CEN_TARGET t, s.rd l.reg CEN_TGT_CMD t)),
    rpc := (s.rpcOn l).map (fun r =>
      { r := r, table := s.rpcTable l r, q1 := sgn 64 (s.rd l.reg RPC_QS1 r), q2 := sgn 64 (s.rd l.reg RPC_QS2 r),
        dir := s.rd l.reg RPC_DIR r, fade := s.rd l.reg RPC_FADE_N r, revLeft := s.rd l.reg RPC_REV_LEFT r,
        revFrom := s.rd l.reg RPC_REV_FROM r,
        hist := (List.range (s.rd l.reg RPC_SPD_WIN r + 1)).map (fun a => (s.rpcHist l r a, s.rdB l.reg RPC_HIST_OK (32 * r + a))),
        accPos := s.rd l.reg RPC_ACC_POS r, qnew := s.rdB l.reg RPC_QNEW r }) }

/-- The accumulators of the present bins discarded: in the source and every peer at the period named, which is that in which the shadow ends,
and in the lane that loads the transfer (R285). -/
def State.discardBins (s : State) (l : LaneId) : State := (s.rpcOn l).foldl (fun s r => s.wr l.reg RPC_DISCARD r 1) s

/-- The end of a lane's shadow in the lane itself (R128). -/
def State.shadowJudge (s : State) (l : LaneId) : State :=
  if s.vstate l ≠ 0 ∨ s.rdB l.reg STF_ENTER then s
  else if s.rdB l.reg STF_SHADOW_BAD ∨ !s.digestSame l ∨ !s.setsValid l ∨
      s.now < s.rd l.reg STF_SHADOW_AT + 1000000 * s.rd l.reg STF_SHADOW_TIME then s.stepFail l 3
  else s.wr l.reg STF_STEP_FAIL 3 0

/-- SHADOW_END (R128, R130, R248, R285). In the lane in shadow: its conditions are judged. In a lane in standby or in
service: the source of the transfer sends the second transfer, and the holder sends ADMIT; without a holder the ADMIT
waits for the next GRANT. -/
def execShadowEnd (l : LaneId) (shadow : LaneId) (s : State) : Host.Outcome State Fault Refusal :=
  .next (s.whenUp l (fun s =>
    if l = shadow then s.shadowJudge l
    else if (s.vstate l ≠ 1 ∧ s.vstate l ≠ 2) ∨ s.seen l shadow ≠ 0 then s
    else
      let h := s.rd l.reg STF_HOLDER
      let inService := LaneId.all.filter (fun x => x != shadow && s.seen l x == 2)
      let source : Bool := if h ≠ 0 then h == l.reg else inService.head? == some l
      let s := if source then s.send (.loopXfer shadow (s.loopXfer l)) else s
      let s := s.discardBins l
      if h = l.reg then s.sendAdmit l shadow
      else if h = 0 then s.wrBit l.reg STF_ADMIT_WAIT 0 shadow.idx true
      else s))

/-- A controller's part of the second transfer loaded; the accumulator restarts at 0 (R285). -/
def State.loadRpc (s : State) (l : LaneId) (x : RpcXfer) : State :=
  let r := x.r
  let s := x.table.zipIdx.foldl (fun s p => s.wr l.reg RPC_TBL (8192 * r + p.2) p.1) (s.rpcClear l r)
  let s := ((s.wrI l.reg RPC_QS1 r x.q1).wrI l.reg RPC_QS2 r x.q2).wrB l.reg RPC_QNEW r x.qnew
  let s := ((s.wr l.reg RPC_DIR r x.dir).wr l.reg RPC_FADE_N r x.fade).wr l.reg RPC_REV_LEFT r x.revLeft
  let s := (s.wr l.reg RPC_REV_FROM r x.revFrom).wr l.reg RPC_ACC_POS r x.accPos
  let s := x.hist.zipIdx.foldl (fun s p =>
    (s.wrI l.reg RPC_HIST (32 * r + p.2) p.1.1).wrB l.reg RPC_HIST_OK (32 * r + p.2) p.1.2) s
  (((s.wr l.reg RPC_ACC r 0).wr l.reg RPC_N r 0).wr l.reg RPC_DISCARD r 1).rpcStamp l r

/-- The time at the limit of a loop loaded: a loop with time on its count is in an episode (R248, R253). -/
def State.loadSat (s : State) (l : LaneId) (n ms : Nat) : State :=
  let s := (s.wr l.reg CEN_SAT_TIME n ms).wr l.reg CEN_SAT_PS n (ms * 1000000000)
  if ms = 0 then s else s.wr l.reg CEN_X_PREV n 1

/-- The second transfer loaded (R248). -/
def State.loadLoops (s : State) (l : LaneId) (x : LoopXfer) : State :=
  let s := x.secs.foldl (fun s k => (s.wrI l.reg CEN_S1 k.1 k.2.1).wrI l.reg CEN_S2 k.1 k.2.2) s
  let s := x.sat.zipIdx.foldl (fun s p => s.loadSat l p.2 p.1) s
  let s := x.targets.zipIdx.foldl (fun s p => (s.wr l.reg CEN_TARGET p.2 p.1.1).wr l.reg CEN_TGT_CMD p.2 p.1.2) s
  (x.rpc.foldl (fun s r => s.loadRpc l r) s).wr l.reg STF_LOOP_GOT 0 1

/-- The second transfer that has come is loaded at the first compute start after the base period it names (R248). -/
def State.loadPending (s : State) (l : LaneId) : State :=
  match (s.lane l).loopLoad with
  | some x => if s.baseNumber l = x.period then s else (s.modLane l (fun y => { y with loopLoad := none })).loadLoops l x
  | none => s

/-- LOOP_STATE_TRANSFER_COMPLETE (R248, R285): a lane in shadow holds the second transfer for its next compute start; a failed one fails the
shadow step. -/
def execLoopStateTransferComplete (l : LaneId) (x : LoopXfer) (ok : Bool) (s : State) : Host.Outcome State Fault Refusal :=
  .next (s.whenUp l (fun s => if s.vstate l ≠ 0 then s else if ok then s.modLane l (fun y => { y with loopLoad := some x }) else s.stepFail l 3))

/-! ### ADMIT, RELINQUISH, REJOIN -/

/-- An ADMIT in a lane (R118, R130, R565): the subject is eligible again; of the holder, it makes a lane in shadow standby;
of a lane that forms the package while S is lost, it is taken in place of S's STATUS. -/
def State.laneAdmit (s : State) (l : LaneId) (m : StaffMsg) : State :=
  let s := s.wr l.reg STF_RELINQ m.subject 0
  let s := match LaneId.ofReg m.subject with
    | some x => s.wrBit l.reg STF_ADMIT_WAIT 0 x.idx false
    | none => s
  if m.subject ≠ l.reg ∨ s.vstate l ≠ 0 then s
  else if m.epoch = 0 then
    if s.rdB l.reg STF_S_SILENT then
      ((s.wrBit l.reg STF_EXCL_SEEN 0 l.idx false).wr l.reg STF_ENTER 0 1).wr l.reg STF_ENTER_AT 0 s.now
    else s
  else if m.epoch ≠ s.rd l.reg STF_EPOCH ∨ m.sender ≠ s.rd l.reg STF_HOLDER then s
  else (s.wr l.reg STF_STATE 0 1).entered l

/-- An ADMIT at S (R117, R130): of the holder; or of a lane that forms the package while S is lost to it, in the epoch 0 in
which S itself has admitted no lane (R565, R572, DEDUCED, log 32). -/
def State.admitS (s : State) (m : StaffMsg) : State :=
  let free := s.rd 8 S_STF_EPOCH == 0 && (bit (s.rd 8 S_STF_FORM_LAST) 4 || (!s.rdB 8 STF_ANY_ADM &&
    LaneId.all.all (fun l => !s.rdB 8 STF_ADMITTED l.reg)))
  match LaneId.ofReg m.subject with
  | none => s
  | some x =>
    if m.epoch = 0 ∧ free then
      ((s.wr 8 STF_ADMITTED x.reg 1).wr 8 S_STF_FORM_LAST 0 (setBit (setBit (s.rd 8 S_STF_FORM_LAST) x.idx) 4)).liftS x
    else
      let s := s.sAdmit m
      (if s.rdB 8 STF_ADMITTED x.reg then s.wr 8 STF_ANY_ADM 0 1 else s).evalS

/-- STAFF_ADMIT_RECEIVE (R117, R130, R565). -/
def execStaffAdmitReceive (n : StaffNode) (m : StaffMsg) (s : State) : Host.Outcome State Fault Refusal :=
  match n with
  | .lane l => .next (s.whenUp l (fun s => s.laneAdmit l m))
  | .s => .next (s.whenS (fun s => s.admitS m))

/-- STAFF_RELINQUISH_RECEIVE (R125). -/
def execStaffRelinquishReceive (n : StaffNode) (m : StaffMsg) (t : Nat) (s : State) : Host.Outcome State Fault Refusal :=
  match n with
  | .lane l => .next ((s.atTime t).whenUp l (fun s => s.laneRelinquish l m t))
  | .s => .next ((s.atTime t).whenS (fun s => s.sRelinquish m))

/-- REJOIN is rejected with RANGE unless the named lane is in standby (R131). -/
def State.chkRejoin (s : State) (l : LaneId) (lane : Nat) : Option Rsp :=
  match LaneId.ofReg lane with
  | some x => failIf (s.seen l x != 1) (rRange 0 16)
  | none => some (rRange 0 16)

/-- REJOIN at effect (R130, R180): the named lane is in service, its bridges start; the others count it in N. -/
def State.effRejoin (s : State) (l : LaneId) (lane : Nat) : State :=
  if lane = l.reg then
    let s := s.wr l.reg STF_STATE 0 2
    let s := s.lanesOf.foldl (fun s x => s.wr l.reg VOT_IN_N x.reg (b2n (x == l || s.seen l x == 2))) s
    (s.servePhase l).rejoinDrives l
  else s.wr l.reg VOT_IN_N lane 1

/-- REJOIN (R130, R131). -/
def execRejoin (l : LaneId) (h : Hdr) (lane : Nat) (s : State) : Host.Outcome State Fault Refusal :=
  .next (s.whenHost l (fun s => s.perform l h 0x0403 (s.chkRejoin l lane) (s.effRejoin l lane, rOk)))

/-! ### S: frames, echoes, formation (R90, R117, R565, R572) -/

/-- The age in µs of the latest frame of a lane at S; 65,535 without one (R90). -/
def State.ageS (s : State) (l : LaneId) : Nat :=
  if s.rdB 8 STF_SEEN l.reg then satNat 16 ((s.now - s.rd 8 STF_SEEN_AT l.reg) / 1000) else 65535

/-- The echo of S to a frame (R90). -/
def State.echoS (s : State) (f : ExchFrame) : SEcho :=
  { period := f.period, ageA := s.ageS .a, ageB := s.ageS .b, ageC := s.ageS .c, excluded := s.rd 8 S_STF_EXCLUDED }

/-- S may form: it has admitted no lane and its staff epoch is 0 since its reset (R565). -/
def State.mayForm (s : State) : Bool :=
  s.rd 8 S_STF_EPOCH == 0 && LaneId.all.all (fun l => !s.rdB 8 STF_ADMITTED l.reg) && !s.rdB 8 STF_ANY_ADM

/-- The lane's latest frame at S shows shadow. -/
def State.shadowS (s : State) (l : LaneId) : Bool :=
  match s.sdie.frame l with
  | some f => f.vstate == 0
  | none => false

/-- S admits lanes at formation: their exclusion is lifted with the next STATUS (R565, R572). -/
def State.formS (s : State) (ls : List LaneId) (timed : Bool) : State :=
  let m := ls.foldl (fun m l => setBit m l.idx) 0
  (ls.foldl (fun s l => s.wr 8 STF_ADMITTED l.reg 1) s).wr 8 S_STF_FORM_LAST 0 (m + 8 * b2n timed)

/-- The Towline cycle of entry into service, from the first frame in service of an admitted lane (R572). -/
def State.formCycle (s : State) (l : LaneId) (f : ExchFrame) : State :=
  let v := s.rd 8 S_STF_FORM_LAST
  if f.vstate = 2 ∧ bit v l.idx ∧ v < 2 ^ 32 then s.wr 8 S_STF_FORM_LAST 0 (withCycle v f.cycle) else s

/-- S takes the highest staff epoch that the lanes' frames carry until it has granted a claim since its reset (R116). -/
def State.learnEpoch (s : State) (e : Nat) : State :=
  if s.rd 8 S_STF_HOLDER = 0 ∧ s.rd 8 STF_PREV = 0 then s.wr 8 S_STF_EPOCH 0 (max e (s.rd 8 S_STF_EPOCH)) else s

/-- A frame kept as the latest of its lane. -/
def State.keepFrame (s : State) (l : LaneId) (f : ExchFrame) (t : Nat) : State :=
  let s : State := match l with
    | .a => { s with sdie := { s.sdie with frameA := some f } }
    | .b => { s with sdie := { s.sdie with frameB := some f } }
    | .c => { s with sdie := { s.sdie with frameC := some f } }
  (s.wr 8 STF_SEEN l.reg 1).wr 8 STF_SEEN_AT l.reg t

/-- A frame at S: kept, answered, its staff epoch noted after a reset of S, the lane excluded at code 3, the package formed once every lane sends shadow frames (R90, R116,
R117, R565). -/
def State.frameS (s : State) (l : LaneId) (f : ExchFrame) (t : Nat) : State :=
  let s := (s.keepFrame l f t).learnEpoch f.epoch
  let s := if f.vstate = 3 then s.excludeS l 2 else s
  let s := if f.vstate = 0 then s.wr 8 STF_FORM_ON 0 1 else s
  let s := if s.mayForm ∧ s.lanesOf.all (fun x => s.shadowS x) then s.formS s.lanesOf false else s
  (s.formCycle l f).send (.echo l (s.echoS f))

/-- S_EXCH_RECEIVE (R90). -/
def execSExchReceive (f : ExchFrame) (t : Nat) (s : State) : Host.Outcome State Fault Refusal :=
  .next ((s.atTime t).whenS (fun s => match LaneId.ofReg f.region with
    | some l => if s.hasRegion l.reg then s.frameS l f t else s
    | none => s))

/-- The lanes a lane sees in shadow. -/
def State.shadowSeen (s : State) (l : LaneId) : List LaneId := s.lanesOf.filter (fun x => s.seen l x == 0)

/-- Formation by the lowest-lettered lane in shadow while S is lost to it: ADMIT for each formed lane, itself included
(R565, R572). -/
def State.formLane (s : State) (l : LaneId) : State :=
  let fs := s.shadowSeen l
  if s.vstate l = 0 ∧ s.rdB l.reg STF_S_SILENT ∧ s.rd l.reg STF_EPOCH = 0 ∧ (s.liveHeard l).isEmpty ∧ fs.head? = some l ∧
      !s.rdB l.reg STF_ENTER then
    let s := fs.foldl (fun s x => s.sendStaffAll l (s.staffMsg l 8 x.reg 0 0)) s
    ((s.wrBit l.reg STF_EXCL_SEEN 0 l.idx false).wr l.reg STF_ENTER 0 1).wr l.reg STF_ENTER_AT 0 s.now
  else s

/-- FORMATION_TIMEOUT (R565): 500 ms after the first shadow frame, S admits the lanes in shadow; a lane to which S is lost
forms in its place. -/
def execFormationTimeout (s : State) : Host.Outcome State Fault Refusal :=
  .next (
    let s := s.whenS (fun s =>
      let ls := s.lanesOf.filter (fun x => s.shadowS x)
      if s.mayForm ∧ s.rdB 8 STF_FORM_ON ∧ !ls.isEmpty then s.formS ls true else s)
    s.lanesOf.foldl (fun s l => s.whenUp l (fun s => s.formLane l)) s)

end Sys2Proof.Machine
end

