-- ==== Sys2Proof/Machine/Towline.lean ====
section
/-! DEFINITION. Towline: the node of each lane with frames, clock synchronisation, acknowledgement, rails and states, its
lock-keeper, and the drivers of its rails (R385 to R424, R601). -/

namespace Sys2Proof.Machine

open Par Var

/-! ### Frames (R390 to R393) -/

/-- A frame as a receiver parses it: the header fields, the sync fields, the vector, the data. -/
structure TwlFrame where
  node : Nat
  path : Nat
  len : Nat
  cyc : Nat
  sync : Bool
  startup : Bool
  repeat' : Bool
  ackv : Bool
  null : Bool
  cycle : Nat
  digest : Nat
  vec : Nat
  data : List Byte
deriving DecidableEq, Repr

/-- The header word of R390. -/
def twlHeader (node path len cyc flags : Nat) : Nat :=
  node % 16 + path % 64 * 2 ^ 4 + len % 128 * 2 ^ 10 + cyc % 256 * 2 ^ 17 + flags * 2 ^ 25

/-- The fields of a frame's header and payload (R390, R391). -/
def twlParse (raw : List Byte) : TwlFrame :=
  let w := fieldLe raw 0 4
  let p := (raw.drop 4).take (raw.length - 8)
  let sync := w.testBit 25
  let ackv := w.testBit 28
  let o := if sync then 8 else 0
  { node := bits w 3 0, path := bits w 9 4, len := bits w 16 10, cyc := bits w 24 17, sync := sync, startup := w.testBit 26,
    repeat' := w.testBit 27, ackv := ackv, null := w.testBit 29, cycle := if sync then fieldLe p 0 4 else 0,
    digest := if sync then fieldLe p 4 4 else 0, vec := if ackv then fieldLe p o 8 else 0,
    data := p.drop (o + if ackv then 8 else 0) }

/-- The bytes of a frame from its header word and its payload: header, payload, CRC-32 (R389, R392). -/
def twlBytes (header : Nat) (payload : List Byte) : List Byte :=
  let b := toLe 4 header ++ payload
  b ++ toLe 4 (crc32 b)

/-! ### The timetable (R395 to R397) -/

/-- The timetable digest of a lane (R397). -/
def State.ttDigest (s : State) (l : LaneId) : Nat :=
  let head := [TWL_CYCLE_LEN, TWL_NIT_LEN, TWL_SAMPLE_OFFSET, TWL_LATCH_OFFSET, TWL_COLDSTART_NODES].map (fun d => s.rd l.reg d)
  let paths := (List.range 64).flatMap (fun p =>
    [TWL_PATH_START, TWL_PATH_LEN, TWL_PATH_OWNER, TWL_PATH_KIND, TWL_PATH_PAYLOAD].map (fun d => s.rd l.reg d p))
  crc32c ((head ++ paths).flatMap (toLe 4))

/-- The used paths. -/
def State.paths (s : State) (l : LaneId) : List Nat := (List.range 64).filter (fun p => s.rd l.reg TWL_PATH_KIND p != 0)

/-- The path of a kind that a node owns. -/
def State.pathOf (s : State) (l : LaneId) (node kind : Nat) : Option Nat :=
  (s.paths l).find? (fun p => s.rd l.reg TWL_PATH_OWNER p == node && s.rd l.reg TWL_PATH_KIND p == kind)

/-- The lane's node owns a sync path. -/
def State.ownsSync (s : State) (l : LaneId) : Bool := (s.pathOf l (s.rd l.reg TWL_NODE) 2).isSome

/-- The check of the lock-keeper's copy of the timetable (R409): cycle, NIT, the lane's sync and spare path, the starts and
owners of the other sync paths. -/
def State.lkgCrc (s : State) (l : LaneId) : Nat :=
  let me := s.rd l.reg TWL_NODE
  let own := (s.paths l).filter (fun p => s.rd l.reg TWL_PATH_OWNER p == me && s.rd l.reg TWL_PATH_KIND p ≥ 2)
  let peers := (s.paths l).filter (fun p => s.rd l.reg TWL_PATH_OWNER p != me && s.rd l.reg TWL_PATH_KIND p == 2)
  crc32c (([s.rd l.reg TWL_CYCLE_LEN, s.rd l.reg TWL_NIT_LEN] ++
    own.flatMap (fun p => [s.rd l.reg TWL_PATH_START p, s.rd l.reg TWL_PATH_LEN p]) ++
    (peers.take 7).flatMap (fun p => [s.rd l.reg TWL_PATH_START p, s.rd l.reg TWL_PATH_OWNER p])).flatMap (toLe 4))

/-- Nearest integer, ties towards zero (R400, R401). -/
def roundTz (q : Rat) : Int := if q ≥ 0 then -((1 / 2 - q).floor) else (q + 1 / 2).floor

/-! ### States of the node (R414 to R418) -/

/-- The node's state. -/
def State.twlState (s : State) (l : LaneId) : Nat := s.rd l.reg TWL_STATE

/-- What the node gathered in a cycle cleared. -/
def State.twlClear (s : State) (l : LaneId) : State :=
  let s := s.modLane l (fun x => { x with twl := { x.twl with devs := [], got := [], sent := none, missing := [] } })
  [TWL_SEEN_NOW, TWL_JUNK_NOW, TWL_RAILS, TWL_ACTIVE, TWL_SENT, TWL_RB_OK, TWL_RESENT, TWL_RX_GOT].foldl
    (fun s d => s.wr l.reg d 0 0) s

/-- The node leaves LISTEN: the lock-keeper starts at its alignment, also out of BLOCKED (R411, R413). -/
def State.lkgStart (s : State) (l : LaneId) : State :=
  if s.rd l.reg LKG_STATE = 5 then s
  else
    let s := (s.wr l.reg LKG_STATE 0 1).release l.reg 42
    [LKG_PULL_OK, LKG_TAP_OK, LKG_LIM_N, LKG_OPEN, LKG_RES, LKG_OUT_AT].foldl (fun s d => s.wr l.reg d 0 0) s

/-- Every voted set of an unsynchronised lane is invalid, a discrete one at its safe value (R104). -/
def State.setsInvalid (s : State) (l : LaneId) : State :=
  let s := (List.range 8).foldl (fun s i =>
    if s.rd l.reg VOT_AN_SRC i = 0 then s else s.wr l.reg VOT_AN_STATE i (s.rd l.reg VOT_AN_STATE i % 8 + 3 * 64)) s
  (s.wr l.reg VOT_DI_VALUE 0 ((List.range 32).foldl (fun m d => putBit m d (s.rdB l.reg VOT_DI_SRC d && s.rdB l.reg VOT_DI_SAFE d)) 0)).release l.reg 16

/-- The node enters LISTEN (R415): cycle 0, no synchronisation, every enable closed; a blocked lock-keeper stays so. -/
def State.twlListen (s : State) (l : LaneId) : State :=
  let s := (((s.wr l.reg TWL_STATE 0 1).wr l.reg TWL_CYCLE 0 0).wr l.reg INT_SYNCED 0 0).setsInvalid l
  let s := s.modLane l (fun x => { x with twl := {} })
  let s := ((s.twlClear l).wr l.reg TWL_SEEN_PREV 0 0).wr l.reg TWL_JUNK_PREV 0 0
  let s := [TWL_NOVAL_N, TWL_OFFC_N, TWL_RATEC_N].foldl (fun s d => s.wr l.reg d 0 0) s
  let s := s.wr l.reg LKG_OPEN 0 0
  if s.rd l.reg LKG_STATE ≥ 4 then s else s.wr l.reg LKG_STATE 0 0

/-- The lane is synchronised: a READY lane that is out listens for lanes in service; a lane that has heard no RENEW starts
its lease + 1 ms count (R119, R564). -/
def State.nowSynced (s : State) (l : LaneId) : State :=
  let s := (s.wr l.reg INT_SYNCED 0 1).wr l.reg WBE_RESYNC 0 1
  let s := if s.vstate l = 4 ∧ !s.rdB l.reg STF_STAY_OUT ∧ !s.rdB l.reg STF_XFER_ON then s.wr l.reg STF_LISTEN 0 1 else s
  let s := if s.rdB l.reg STF_HEARD ∨ s.rdB l.reg STF_WAIT_ON then s
    else (s.wr l.reg STF_WAIT_ON 0 1).wr l.reg STF_WAIT_AT 0 s.now
  s.hearRejoin l

/-- The node enters SYNC in the NIT of cycle `c` (R416, R417). -/
def State.twlSync (s : State) (l : LaneId) (c : Nat) : State :=
  ((s.wr l.reg TWL_STATE 0 4).wr l.reg TWL_CYCLE 0 c).nowSynced l

/-- The node's state as its lane becomes READY with `EN`, or as `EN` is committed as 1 (R415, R418). -/
def State.twlStart (s : State) (l : LaneId) : State :=
  if !s.rdB l.reg TWL_EN ∨ s.rd l.reg LKG_STATE = 5 then s
  else if s.part = .fj3821 then
    let s := (((s.wr l.reg TWL_STATE 0 6).wr l.reg TWL_C 0 1).wr l.reg TWL_CYCLE 0 1).wr l.reg INT_CYCLE_START 0 s.now
    s.nowSynced l
  else s.twlListen l

/-- The node off: `EN` committed as 0 (R414). -/
def State.twlOff (s : State) (l : LaneId) : State := ((s.twlListen l).wr l.reg TWL_STATE 0 0).wr l.reg LKG_STATE 0 0

/-- The timetable of a lane has changed or been restored: digest and copy computed; a lock-keeper in HALT leaves it as the
copy agrees (R397, R409). -/
def State.twlTables (s : State) (l : LaneId) : State :=
  let s := (s.wr l.reg TWL_TT_DIGEST 0 (s.ttDigest l)).wr l.reg LKG_TT_CRC 0 (s.lkgCrc l)
  if s.rd l.reg LKG_STATE = 5 then ((s.wr l.reg LKG_STATE 0 0).release l.reg 43).twlStart l else s

/-- The lock-keeper's copy disagrees: HALT, the node off (R409). -/
def State.lkgHalt (s : State) (l : LaneId) : State :=
  ((s.twlOff l).wr l.reg TWL_STATE 0 5).wr l.reg LKG_STATE 0 5

/-- Loss of synchronisation (R405, R601). -/
def State.twlLose (s : State) (l : LaneId) (cause : Nat) : State :=
  if s.twlState l ≠ 4 then s
  else
    let c := s.rd l.reg TWL_CYCLE
    let s := (s.wr l.reg TWL_LAST 0 c).wr l.reg TWL_LAST_SYNC_LOSS 0 (withCycle cause c)
    (((s.bump l.reg TWL_CNT_SYNC_LOSS).twlListen l).raise l.reg 41)

/-- A cold-start attempt that has failed is counted and the node listens (R416). -/
def State.coldFail (s : State) (l : LaneId) : State :=
  let s := (s.bump l.reg TWL_CNT_COLDSTART).wr l.reg TWL_TRIES 0 (s.rd l.reg TWL_TRIES + 1)
  s.twlListen l

/-! ### Receiving (R394, R400, R406, R407, R420) -/

/-- The path a frame lies in: that of its header, or the owner's spare path for a re-send (R394, R407). -/
def State.framePath (s : State) (l : LaneId) (f : TwlFrame) : Nat :=
  if f.repeat' then (s.pathOf l f.node 3).getD f.path else f.path

/-- The expected time of the reference edge in the path, in ns of the package time (R400). -/
def State.expectedAt (s : State) (l : LaneId) (p : Nat) : Nat :=
  s.rd l.reg TWL_START + 1000 * s.rd l.reg TWL_PATH_START p + 1360

/-- The code of the first check of R394 that a copy fails; 0 when it passes all. In LISTEN the node has no cycle start, so
checks 5 and 6 are not judged there (DEDUCED, log 33). -/
def State.twlCheck (s : State) (l : LaneId) (coding : Bool) (raw : List Byte) (t : Nat) : Nat :=
  let f := twlParse raw
  let st := s.twlState l
  let timed := st == 2 || st == 3 || st == 4
  let p := s.framePath l f
  let lo := s.rd l.reg TWL_START + 1000 * s.rd l.reg TWL_PATH_START p
  let e := s.expectedAt l p
  let win := 25 * s.rd l.reg TWL_OFFSET_LIM + 500
  if !coding then 1
  else if raw.length < 8 ∨ raw.length ≠ f.len + 8 ∨ f.len > s.rd l.reg TWL_PATH_PAYLOAD f.path then 2
  else if crc32 (raw.take (raw.length - 4)) ≠ fieldLe raw (raw.length - 4) 4 then 3
  else if s.rd l.reg TWL_PATH_OWNER f.path ≠ f.node ∨ s.rd l.reg TWL_PATH_KIND f.path = 0 then 4
  else if timed ∧ (t < lo ∨ t ≥ lo + 1000 * s.rd l.reg TWL_PATH_LEN p) then 5
  else if timed ∧ f.cyc ≠ s.rd l.reg TWL_C % 256 then 6
  else if f.sync ∧ f.digest ≠ s.rd l.reg TWL_TT_DIGEST then 7
  else if timed ∧ (t + win < e ∨ t > e + win) then 8
  else 0

/-- The deviation of a frame in microticks (R400). -/
def State.deviation (s : State) (l : LaneId) (p t : Nat) : Int :=
  roundTz ((((t : Int) - (s.expectedAt l p : Int) - 25 * (s.rd l.reg TWL_DELAY_COMP : Int)) : Int) / 25 : Rat)

/-- The data of a valid frame in the receive buffers that keep its path (R420). -/
def State.twlData (s : State) (l : LaneId) (f : TwlFrame) : State :=
  if f.null then s
  else (List.range 8).foldl (fun s j =>
    if s.rd l.reg TWL_RX_PATH j = f.path then
      let s := (List.range 16).foldl (fun s w => s.wr l.reg TWL_RX_WORD (16 * j + w) (fieldLe f.data (4 * w) 4)) s
      (s.wr l.reg TWL_RX_AGE j 0).wrBit l.reg TWL_RX_GOT 0 j true
    else s) s

/-- A vector of a node in `ACK_SET` that covers the lane's frame and reports it missing is noted with its arrival (R407). -/
def State.twlVector (s : State) (l : LaneId) (f : TwlFrame) (t : Nat) : State :=
  match s.pathOf l (s.rd l.reg TWL_NODE) 2 with
  | none => s
  | some q =>
    let covers := s.rd l.reg TWL_PATH_START q + s.rd l.reg TWL_PATH_LEN q + 2 ≤ s.rd l.reg TWL_PATH_START (s.framePath l f) + 1
    if f.ackv ∧ (s.rd l.reg TWL_ACK_SET).testBit f.node ∧ covers ∧ !f.vec.testBit q ∧ s.rdB l.reg TWL_SENT then
      s.modLane l (fun x => { x with twl := { x.twl with missing := x.twl.missing ++ [t] } })
    else s

/-- The node integrates on a valid sync frame (R417). -/
def State.integrate (s : State) (l : LaneId) (f : TwlFrame) (t : Nat) : State :=
  let s := ((s.wr l.reg TWL_STATE 0 3).wr l.reg TWL_C 0 f.cycle).wr l.reg TWL_C0 0 f.cycle
  let s := s.wr l.reg TWL_START 0 (t - 1360 - 1000 * s.rd l.reg TWL_PATH_START (s.framePath l f))
  ((s.wr l.reg TWL_RATE_CORR 0 0).wr l.reg TWL_OFF_4K1 0 0).lkgStart l

/-- A valid frame used: the first copy gives data and vector; every copy of a sync frame gives a deviation and counts for
the node's state; a node in COLDSTART yields to a lower node number (R394, R400, R406, R416, R420). -/
def State.twlUse (s : State) (l : LaneId) (rail : Nat) (f : TwlFrame) (t : Nat) : State :=
  let tw := (s.lane l).twl
  let first := !tw.got.contains f.path
  let own := f.node == s.rd l.reg TWL_NODE
  let s := if first then ((s.twlData l f).twlVector l f t) else s
  let s := if first then s.modLane l (fun x => { x with twl := { x.twl with got := x.twl.got ++ [f.path] } }) else s
  if !f.sync ∨ own ∨ f.repeat' then s
  else if s.twlState l = 1 then s.integrate l f t
  else if s.twlState l = 2 ∧ f.node < s.rd l.reg TWL_NODE then s.coldFail l
  else if s.twlState l = 2 ∨ s.twlState l = 3 ∨ s.twlState l = 4 then
    let d := s.deviation l (s.framePath l f) t
    let s := s.modLane l (fun x => { x with twl := { x.twl with
      devs := x.twl.devs.filter (fun e => e.1 != f.node || e.2.1 != rail) ++ [(f.node, rail, d)] } })
    s.wr l.reg TWL_SEEN_NOW 0 1
  else s

/-- TWL_FRAME_RECEIVE (R394): a copy on an enabled rail is checked, counted, and used when valid. -/
def execTwlFrameReceive (l : LaneId) (rail : Nat) (coding : Bool) (raw : List Byte) (t : Nat) (s : State) :
    Host.Outcome State Fault Refusal :=
  .next ((s.atTime t).whenUp l (fun s =>
    let st := s.twlState l
    if rail > 1 ∨ !bit (s.rd l.pow TRX_RAIL_EN) rail ∨ st = 0 ∨ st ≥ 5 then s
    else
      let s := s.wrBit l.reg TWL_ACTIVE 0 rail true
      let code := s.twlCheck l coding raw t
      if code ≠ 0 then
        let s := ((s.bump l.reg TWL_CNT_RX_ERR rail).wr l.reg TWL_LAST_RX_ERR 0 code).wr l.reg TWL_JUNK_NOW 0 1
        if code = 7 then (s.bump l.reg TWL_CNT_TT_MISMATCH).raise l.reg 39 else s
      else
        let f := twlParse raw
        let s := s.bump l.reg TWL_CNT_RX_OK rail
        let s := if f.node = s.rd l.reg TWL_NODE then s else s.wrBit l.reg TWL_RAILS 0 rail true
        s.twlUse l rail f t))

/-! ### Sending (R386, R406, R407, R416, R419) -/

/-- The acknowledgement vector of a frame in path `p`: the paths received that end at least 2 µs before its action point
(R406). -/
def State.ackVec (s : State) (l : LaneId) (p : Nat) : Nat :=
  (s.lane l).twl.got.foldl (fun m q =>
    if s.rd l.reg TWL_PATH_START q + s.rd l.reg TWL_PATH_LEN q + 2 ≤ s.rd l.reg TWL_PATH_START p + 1 then setBit m q else m) 0

/-- The data words of the lane's sync path (R419). -/
def State.txData (s : State) (l : LaneId) (p : Nat) : List Byte :=
  let n := min 12 ((s.rd l.reg TWL_PATH_PAYLOAD p - 16) / 4)
  (List.range n).flatMap (fun i =>
    let id := s.rd l.reg TWL_TX_MAP i
    toLe 4 (if id = 0 then 0 else s.readId id))

/-- The lane's sync frame in path `p` (R390, R391, R406, R416, R419). -/
def State.syncFrame (s : State) (l : LaneId) (p : Nat) : List Byte :=
  let c := s.rd l.reg TWL_C
  let payload := toLe 4 c ++ toLe 4 (s.rd l.reg TWL_TT_DIGEST) ++ toLe 8 (s.ackVec l p) ++ s.txData l p
  let flags := 1 + 2 * b2n (s.twlState l == 2) + 8
  twlBytes (twlHeader (s.rd l.reg TWL_NODE) p payload.length c flags) payload

/-- The re-send of a frame: REPEAT set and a new check (R407). -/
def repeatFrame (raw : List Byte) : List Byte :=
  twlBytes (setBit (fieldLe raw 0 4) 27) ((raw.drop 4).take (raw.length - 8))

/-- A transmission outside an open enable: not driven, counted; in two cycles running the lock-keeper is BLOCKED and the
node loses synchronisation (R410, R413). -/
def State.blockTx (s : State) (l : LaneId) : State :=
  let c := s.rd l.reg TWL_C
  let last := s.rd l.reg LKG_OUT_AT
  let s := (s.bump l.reg LKG_CNT_BLOCK).wr l.reg LKG_OUT_AT 0 (c + 1)
  if last = c ∧ c ≠ 0 then
    let s := ((s.wr l.reg LKG_STATE 0 4).wr l.reg LKG_OPEN 0 0).bump l.reg LKG_CNT_BLOCKED
    (s.raise l.reg 42 true).twlLose l 4
  else s

/-- A frame driven on the enabled rails with its readback (R386, R408). -/
def State.drive (s : State) (l : LaneId) (raw : List Byte) (fail : Nat) : State :=
  let en := s.rd l.pow TRX_RAIL_EN
  let s := [0, 1].foldl (fun s r =>
    if !bit en r then s
    else
      let s := s.wrBit l.pow TRX_STATUS 0 (4 * r) false
      if bit fail r then (s.bump l.reg TWL_CNT_TX_ERR r).bump l.pow TRX_CNT_READBACK r
      else s.wrBit l.reg TWL_RB_OK 0 r true) s
  (s.wr l.reg TWL_SENT 0 1).send (.towline l en raw)

/-- TWL_PATH_START (R395, R407, R410, R416): at the action point of a path the lane owns it sends its sync frame, or a
re-send in its spare path; `readbackFail` are the rails whose readback fails. -/
def execTwlPathStart (l : LaneId) (p : Nat) (readbackFail : Nat) (t : Nat) (s : State) : Host.Outcome State Fault Refusal :=
  .next ((s.atTime t).whenUp l (fun s =>
    let st := s.twlState l
    let kind := s.rd l.reg TWL_PATH_KIND p
    if p > 63 ∨ s.rd l.reg TWL_PATH_OWNER p ≠ s.rd l.reg TWL_NODE ∨ s.rd l.reg CLK_STATE = 3 then s
    else if kind = 2 ∧ (st = 2 ∨ st = 4) then
      if s.rd l.reg LKG_OPEN = p + 1 then
        let raw := s.syncFrame l p
        (s.drive l raw readbackFail).modLane l (fun x => { x with twl := { x.twl with sent := some raw } })
      else s.blockTx l
    else if kind = 3 ∧ st = 4 then
      match (s.lane l).twl.sent with
      | some raw =>
        if (s.lane l).twl.missing.any (fun a => decide (a + 2000 ≤ t)) then
          if s.rd l.reg LKG_OPEN = p + 1 then
            ((s.drive l (repeatFrame raw) readbackFail).bump l.reg TWL_CNT_RESEND).wr l.reg TWL_RESENT 0 1
          else s.blockTx l
        else s
      | none => s
    else s))

/-! ### The NIT (R401 to R405, R408, R416, R417) -/

/-- Insertion into an ascending list. -/
def insRat (x : Rat) : List Rat → List Rat
  | [] => [x]
  | y :: ys => if x ≤ y then x :: y :: ys else y :: insRat x ys

/-- Fault-tolerant averaging before its rounding (R401). -/
def ftAverage (vs : List Rat) : Rat :=
  let v := vs.foldr insRat []
  let k := v.length
  if k ≥ 4 then ((v.drop 1).take (k - 2)).foldl (· + ·) 0 / ((k - 2 : Nat) : Rat)
  else if k = 3 then v.getD 1 0
  else if k = 2 then (v.getD 0 0 + v.getD 1 0) / 2
  else 0

/-- The deviation of each sync node in the present cycle: of two copies the mean, rounded (R400). -/
def State.devsOf (s : State) (l : LaneId) : List (Nat × Rat) :=
  let ds := (s.lane l).twl.devs
  (List.range 16).filterMap (fun n =>
    match ds.filter (fun e => e.1 == n) with
    | [] => none
    | [e] => some (n, (e.2.2 : Rat))
    | e :: f :: _ => some (n, (roundTz (((e.2.2 + f.2.2 : Int) : Rat) / 2) : Rat)))

/-- One condition of a rail judged in the NIT: `none` when it cannot be judged (R408). -/
def State.railFails (s : State) (l : LaneId) (r : Nat) : Bool × Bool :=
  let rails := s.rd l.reg TWL_RAILS
  let sent := s.rdB l.reg TWL_SENT
  let judged := rails != 0 || sent
  let fails := (rails != 0 && !bit rails r) || (sent && !bit (s.rd l.reg TWL_RB_OK) r) || !bit (s.rd l.pow TRX_RAIL_EN) r
  (judged, fails)

/-- A rail judged once per cycle (R408). -/
def State.judgeRail (s : State) (l : LaneId) (r : Nat) : State :=
  let jf := s.railFails l r
  if !jf.1 then s
  else if jf.2 then
    let n := satNat 8 (s.rd l.reg TWL_BAD_N r + 1)
    let s := (s.wr l.reg TWL_BAD_N r n).wr l.reg TWL_GOOD_N r 0
    if n ≥ s.rd l.reg TWL_RAIL_LOSS then s.wrBit l.reg TWL_RAIL_STATE 0 r true else s
  else if bit (s.rd l.reg TWL_RAILS) r then
    let n := satNat 8 (s.rd l.reg TWL_GOOD_N r + 1)
    let s := (s.wr l.reg TWL_GOOD_N r n).wr l.reg TWL_BAD_N r 0
    if n ≥ s.rd l.reg TWL_RAIL_LOSS then s.wrBit l.reg TWL_RAIL_STATE 0 r false else s
  else s

/-- Both rails judged; a disabled rail is BAD; the source is held while a rail is BAD (R408, R421, R424). -/
def State.judgeRails (s : State) (l : LaneId) : State :=
  let old := s.rd l.reg TWL_RAIL_STATE
  let s := (s.judgeRail l 0).judgeRail l 1
  let s := [0, 1].foldl (fun s r => if bit (s.rd l.pow TRX_RAIL_EN) r then s else s.wrBit l.reg TWL_RAIL_STATE 0 r true) s
  let new := s.rd l.reg TWL_RAIL_STATE
  if old = 0 ∧ new ≠ 0 then s.raise l.reg 40 true else if old ≠ 0 ∧ new = 0 then s.release l.reg 40 else s

/-- The offset correction of an odd cycle (R402, R405); answers the correction applied. -/
def State.offsetCorr (s : State) (l : LaneId) : State × Int :=
  let ds := s.devsOf l
  let vs := ds.map (fun e => e.2) ++ (if s.ownsSync l then [0] else [])
  let c := roundTz (ftAverage vs)
  let lim : Int := s.rd l.reg TWL_OFFSET_LIM
  let a := clampInt (-lim) lim c
  let own := if s.ownsSync l then [s.rd l.reg TWL_NODE] else []
  let s := (s.wrI l.reg TWL_OFFSET_CORR 0 a).wr l.reg TWL_SYNC_SEEN 0 ((ds.map (fun e => e.1) ++ own).foldl setBit 0)
  let s := s.wr l.reg TWL_NOVAL_N 0 (if ds.isEmpty then satNat 8 (s.rd l.reg TWL_NOVAL_N + 1) else 0)
  if a = c then (s.wr l.reg TWL_OFFC_N 0 0, a)
  else (((s.bump l.reg TWL_CNT_OFFSET_CLAMP).wr l.reg TWL_OFFC_N 0 (satNat 8 (s.rd l.reg TWL_OFFC_N + 1))).raise l.reg 38, a)

/-- The rate correction at the end of a round, in parts per billion (R403). -/
def State.rateCorr (s : State) (l : LaneId) : State :=
  let d0 := (s.lane l).twl.dev0
  let o : Rat := s.rdI l.reg TWL_OFF_4K1
  let rs := (s.devsOf l).filterMap (fun e => match d0.find? (fun f => f.1 == e.1) with
    | some f => some ((e.2 - f.2 + o) / 3)
    | none => none)
  let r := ftAverage (rs ++ (if s.ownsSync l then [0] else []))
  let c := roundTz (r * 1000000000 / ((40 * s.rd l.reg TWL_CYCLE_LEN : Nat) : Rat))
  let a := clampInt (-500000) 500000 c
  let old := s.rdI l.reg TWL_RATE_CORR
  let new := clampInt (-2000000) 2000000 (old + a)
  let s := s.wrI l.reg TWL_RATE_CORR 0 new
  if new = old + c then s.wr l.reg TWL_RATEC_N 0 0
  else ((s.bump l.reg TWL_CNT_RATE_CLAMP).wr l.reg TWL_RATEC_N 0 (satNat 8 (s.rd l.reg TWL_RATEC_N + 1))).raise l.reg 38

/-- The transitions of the node in the NIT of cycle `c` (R405, R416, R417). -/
def State.twlTransit (s : State) (l : LaneId) (c : Nat) : State :=
  let both := s.rdB l.reg TWL_SEEN_NOW && s.rdB l.reg TWL_SEEN_PREV
  let junk := s.rdB l.reg TWL_JUNK_NOW && (s.lane l).twl.got.isEmpty
  match s.twlState l with
  | 2 =>
    if junk ∧ s.rdB l.reg TWL_JUNK_PREV then s.coldFail l
    else if c ≥ 4 ∧ both then s.twlSync l c
    else if c ≥ 64 then s.coldFail l
    else s.wrB l.reg TWL_JUNK_PREV 0 junk
  | 3 =>
    if c = nextCycle (nextCycle (s.rd l.reg TWL_C0)) then (if both then s.twlSync l c else s.twlListen l) else s
  | 4 =>
    if s.rd l.reg TWL_NOVAL_N ≥ 2 then s.twlLose l 1
    else if s.rd l.reg TWL_OFFC_N ≥ 2 then s.twlLose l 2
    else if s.rd l.reg TWL_RATEC_N ≥ 2 then s.twlLose l 3
    else s
  | _ => s

/-- The ages of the receive buffers after a cycle (R420). -/
def State.rxAges (s : State) (l : LaneId) : State :=
  let s := (List.range 8).foldl (fun s j =>
    if bit (s.rd l.reg TWL_RX_GOT) j then s else s.wr l.reg TWL_RX_AGE j (satNat 8 (s.rd l.reg TWL_RX_AGE j + 1))) s
  s.wr l.reg TWL_RX_GOT 0 0

/-- TWL_NIT (R402, R403, R405, R406, R408, R416, R417): the network idle time of a cycle. -/
def execTwlNit (l : LaneId) (t : Nat) (s : State) : Host.Outcome State Fault Refusal :=
  .next ((s.atTime t).whenUp l (fun s =>
    let st := s.twlState l
    if st ≠ 2 ∧ st ≠ 3 ∧ st ≠ 4 then s
    else
      let c := s.rd l.reg TWL_C
      let act := s.rd l.reg TWL_ACTIVE
      let s := ((s.judgeRails l).wrBit l.pow TRX_STATUS 0 2 (bit act 0)).wrBit l.pow TRX_STATUS 0 6 (bit act 1)
      let s := (s.wr l.reg TWL_ACK_VEC 0 ((s.lane l).twl.got.foldl setBit 0)).rxAges l
      let s := if (s.lane l).twl.missing.isEmpty ∨ s.rdB l.reg TWL_RESENT then s else s.bump l.reg TWL_CNT_RESEND_LOST
      let s := if c % 4 = 0 then s.modLane l (fun x => { x with twl := { x.twl with dev0 := s.devsOf l } }) else s
      let sc := if c % 2 = 1 then s.offsetCorr l else (s, (0 : Int))
      let s := if c % 4 = 1 then sc.1.wrI l.reg TWL_OFF_4K1 0 sc.2 else sc.1
      let s := if c % 4 = 3 then (s.rateCorr l).modLane l (fun x => { x with twl := { x.twl with dev0 := [] } }) else s
      let seen := s.rd l.reg TWL_SEEN_NOW
      let s := s.twlTransit l c
      let st := s.twlState l
      if st ≠ 2 ∧ st ≠ 3 ∧ st ≠ 4 then s
      else
        let len : Int := 1000 * (s.rd l.reg TWL_CYCLE_LEN : Int) + 25 * sc.2
        let s := s.wr l.reg TWL_START 0 ((s.rd l.reg TWL_START : Int) + len).toNat
        ((s.wr l.reg TWL_C 0 (nextCycle c)).twlClear l).wr l.reg TWL_SEEN_PREV 0 seen))

/-- LISTEN_TIMEOUT (R415, R416): a coldstart node with attempts left begins cycle 1. -/
def execListenTimeout (l : LaneId) (t : Nat) (s : State) : Host.Outcome State Fault Refusal :=
  .next ((s.atTime t).whenUp l (fun s =>
    if s.twlState l = 1 ∧ (s.rd l.reg TWL_COLDSTART_NODES).testBit (s.rd l.reg TWL_NODE) ∧
        s.rd l.reg TWL_TRIES < s.rd l.reg TWL_COLDSTART_TRIES then
      let s := ((s.wr l.reg TWL_STATE 0 2).wr l.reg TWL_C 0 1).wr l.reg TWL_START 0 t
      ((s.twlClear l).wr l.reg TWL_RATE_CORR 0 0).lkgStart l
    else s))

/-! ### The lock-keeper (R409 to R413) -/

/-- LKG_ENABLE_OPEN (R410, R412): the enable of a path the lane owns; in COLDSTART of the sync path alone where the taps
decoded no traffic before the first startup frame. -/
def execLkgEnableOpen (l : LaneId) (p : Nat) (traffic : Bool) (s : State) : Host.Outcome State Fault Refusal :=
  .next (s.whenUp l (fun s =>
    let own := decide (p < 64) && s.rd l.reg TWL_PATH_OWNER p == s.rd l.reg TWL_NODE && s.rd l.reg TWL_PATH_KIND p != 0
    let lk := s.rd l.reg LKG_STATE
    if own ∧ (lk = 3 ∨ (s.twlState l = 2 ∧ s.rd l.reg TWL_PATH_KIND p = 2 ∧ !traffic ∧ lk ≠ 4 ∧ lk ≠ 5))
    then s.wr l.reg LKG_OPEN 0 (p + 1) else s))

/-- LKG_ENABLE_CLOSE (R410): a frame still being sent is cut. -/
def execLkgEnableClose (l : LaneId) (p : Nat) (sending : Bool) (s : State) : Host.Outcome State Fault Refusal :=
  .next (s.whenUp l (fun s =>
    if s.rd l.reg LKG_OPEN = p + 1 then
      let s := s.wr l.reg LKG_OPEN 0 0
      if sending then s.bump l.reg LKG_CNT_CUT else s
    else s))

/-- LKG_BLOCK_TX (R410, R413). -/
def execLkgBlockTx (l : LaneId) (s : State) : Host.Outcome State Fault Refusal :=
  .next (s.whenUp l (fun s => if s.rd l.reg LKG_OPEN = 0 then s.blockTx l else s))

/-- The lock-keeper at a cycle start of the lane: `own` is its own cycle start less the lane's, in 25 ns; pull, trim, the
checks before it opens, BLOCKED after three cycles at the limit (R411 to R413). -/
def State.lkgCycle (s : State) (l : LaneId) (own : Int) (tapsOk : Bool) : State :=
  let lim := decide (own.natAbs ≥ 80)
  let left := own - clampInt (-80) 80 own
  let ppb := roundTz (((own - s.rdI l.reg LKG_RES : Int) : Rat) * 1000000000 / ((40 * s.rd l.reg TWL_CYCLE_LEN : Nat) : Rat))
  let trim := clampInt (-30000000) 30000000 (s.rdI l.reg LKG_TRIM + clampInt (-500000) 500000 ppb)
  let s := ((s.wrI l.reg LKG_PULL 0 (satInt 16 own)).wrI l.reg LKG_TRIM 0 trim).wrI l.reg LKG_RES 0 left
  let s := s.wr l.reg LKG_TAP_OK 0 (if tapsOk then satNat 8 (s.rd l.reg LKG_TAP_OK + 1) else 0)
  if lim then
    let n := s.rd l.reg LKG_LIM_N + 1
    let s := ((s.bump l.reg LKG_CNT_PULL_LIM).wr l.reg LKG_LIM_N 0 n).wr l.reg LKG_PULL_OK 0 0
    if n ≥ 3 then
      let s := ((s.wr l.reg LKG_STATE 0 4).wr l.reg LKG_OPEN 0 0).bump l.reg LKG_CNT_BLOCKED
      (s.raise l.reg 42 true).twlLose l 4
    else s
  else
    let s := (s.wr l.reg LKG_LIM_N 0 0).wr l.reg LKG_PULL_OK 0 (satNat 8 (s.rd l.reg LKG_PULL_OK + 1))
    if s.rd l.reg LKG_STATE = 2 ∧ s.rd l.reg LKG_PULL_OK ≥ 2 ∧ s.rd l.reg LKG_TAP_OK ≥ 2 then s.wr l.reg LKG_STATE 0 3 else s

/-- LKG_CYCLE_START (R411): an aligning lock-keeper takes the lane's cycle start; after that it follows it. -/
def execLkgCycleStart (l : LaneId) (own : Int) (tapsOk : Bool) (s : State) : Host.Outcome State Fault Refusal :=
  .next (s.whenUp l (fun s =>
    match s.rd l.reg LKG_STATE with
    | 1 => (s.wr l.reg LKG_STATE 0 2).wrI l.reg LKG_PULL 0 0
    | 2 => s.lkgCycle l own tapsOk
    | 3 => s.lkgCycle l own tapsOk
    | _ => s))

/-- TRX_DRIVER_OVERCURRENT (R421, R424): that rail's driver is off to the end of the frame. -/
def execTrxDriverOvercurrent (l : LaneId) (rail : Nat) (s : State) : Host.Outcome State Fault Refusal :=
  .next (if s.on l.pow ∧ rail < 2 then
      ((s.wrBit l.pow TRX_STATUS 0 (4 * rail) true).bump l.pow TRX_CNT_OVC rail).raise l.pow 7
    else s)

end Sys2Proof.Machine
end

