-- ==== Sys2Proof/Machine/Dispatcher.lean ====
section
/-! DEFINITION. The dispatcher of a lane die: tasks, contexts, waits and timeouts, the background share, and standing orders
(R425 to R445, R451). -/

namespace Sys2Proof.Machine

open Par Var

/-! ### Tasks (R425 to R430) -/

/-- The level a task runs at: its own, or 16 while the background share raises it (R451). -/
def FwTask.lvl (k : FwTask) : Nat := if k.raised then 16 else k.level

/-- A task changed in place. -/
def State.modTask (s : State) (l : LaneId) (n : Nat) (f : FwTask → FwTask) : State :=
  s.modLane l (fun x => { x with tasks := x.tasks.map (fun k => if k.n == n then f k else k) })

/-- A task of a lane. -/
def State.task (s : State) (l : LaneId) (n : Nat) : Option FwTask := (s.lane l).tasks.find? (fun k => k.n == n)

/-- The parameters that show the tasks (R445). -/
def State.dptShow (s : State) (l : LaneId) : State :=
  let ts := (s.lane l).tasks
  let s := ts.foldl (fun s k => (s.wr l.reg DPT_TASK_STATE k.n k.state).wr l.reg DPT_TASK_PRIO k.n k.lvl) s
  let s := (s.wr l.reg DPT_TASKS_USED 0 ts.length).wr l.reg DPT_CTX_USED 0 (ts.filter (fun k => k.ctx)).length
  (s.wr l.reg DPT_CMP_USED 0 (ts.filter (fun k => k.cmp.isSome)).length).wr l.reg DPT_DLIST_LEN 0 (ts.filter (fun k => k.listed)).length

/-- `a` runs before `b`: a higher level, then the earlier in its level (R426). -/
def taskBefore (a b : FwTask) : Bool := decide (a.lvl < b.lvl) || (a.lvl == b.lvl && (decide (a.order < b.order) || (a.order == b.order && decide (a.n < b.n))))

/-- The first of some tasks in running order. -/
def firstTask : List FwTask → Option FwTask
  | [] => none
  | k :: ks => match firstTask ks with
    | none => some k
    | some j => if taskBefore j k then some j else some k

/-- The task whose context is spilled: the lowest level that is not RUNNING and not pinned; of equal levels the one that
ran least recently (R428). -/
def spillTask : List FwTask → Option FwTask
  | [] => none
  | k :: ks =>
    let rest := spillTask ks
    if !k.ctx || k.state == 3 || decide (k.level ≤ 15) then rest
    else match rest with
      | none => some k
      | some j => if j.lvl > k.lvl ∨ (j.lvl = k.lvl ∧ j.ranAt < k.ranAt) then some j else some k

/-- A context for a task that must run: one of the 8 pinned ones for levels 0 to 15, one of the 24 shared ones else; where
none is free the context of another task is spilled (R428). -/
def State.takeCtx (s : State) (l : LaneId) (k : FwTask) : State :=
  if k.ctx then s
  else
    let res := (s.lane l).tasks.filter (fun j => j.ctx)
    let pinned := min 8 (res.filter (fun j => decide (j.level ≤ 15))).length
    let free := (decide (k.level ≤ 15) && decide (pinned < 8)) || decide (res.length - pinned < 24)
    let s := if free then s
      else match spillTask (s.lane l).tasks with
        | some j => (s.modTask l j.n (fun x => { x with ctx := false })).bump l.reg DPT_CNT_SPILL
        | none => s
    s.modTask l k.n (fun x => { x with ctx := true })

/-- A task starts to run: its latency from READY is noted in 10 ns (R445). -/
def State.runTask (s : State) (l : LaneId) (k : FwTask) : State :=
  let s := s.takeCtx l k
  let lat := satNat 16 ((s.now - k.readyAt) / 10)
  let s := s.wr l.reg DPT_TASK_MAX_LAT k.n (max lat (s.rd l.reg DPT_TASK_MAX_LAT k.n))
  s.modTask l k.n (fun x => { x with state := 3, ranAt := (s.lane l).dptSeq })

/-- The core pair runs the READY task of the highest level; a task of a lower level is pre-empted and goes to the head of
its level; a pair that the lockstep checker halted runs none (R139, R426, R429). -/
def State.schedule (s : State) (l : LaneId) : State :=
  let ts := (s.lane l).tasks
  let ready := if s.rd l.reg LSC_STATE = 3 then none else firstTask (ts.filter (fun (k : FwTask) => k.state == 2))
  let s := match ready with
    | none => s
    | some k => match ts.find? (fun (j : FwTask) => j.state == 3) with
      | none => s.runTask l k
      | some j =>
        if k.lvl < j.lvl then
          (s.modTask l j.n (fun x => { x with state := 2, order := -((s.lane l).dptSeq : Int) - 1, readyAt := s.now })).runTask l k
        else s
  s.dptShow l

/-- A task becomes READY with the outcome of its wait, at the tail of its level (R426, R431). -/
def State.readyTask (s : State) (l : LaneId) (n result : Nat) : State :=
  let q := (s.lane l).dptSeq
  (s.modTask l n (fun k => { k with state := 2, result := result, events := [], cmp := none, listed := false,
                                    order := (q : Int), readyAt := s.now })).modLane l (fun x => { x with dptSeq := q + 1 })

/-! ### Waits (R431 to R434) -/

/-- The free-running 1 µs counter of a lane (R432). -/
def State.usNow (s : State) : Nat := s.now / 1000

/-- The comparators in use. -/
def State.cmpUsed (s : State) (l : LaneId) : List Nat := (s.lane l).tasks.filterMap (fun k => k.cmp)

/-- The lowest free comparator of 64. -/
def State.cmpFree (s : State) (l : LaneId) : Option Nat := (List.range 64).find? (fun c => !(s.cmpUsed l).contains c)

/-- The listed wait with the earliest deadline. -/
def earliest : List FwTask → Option FwTask
  | [] => none
  | k :: ks => match earliest ks with
    | none => some k
    | some j => if j.deadline < k.deadline then some j else some k

/-- A released comparator takes the delay-list entry with the earliest deadline, where that lies at least 20 µs ahead and
within the comparator's reach (R433). -/
def State.cmpMove (s : State) (l : LaneId) : State :=
  match s.cmpFree l, earliest ((s.lane l).tasks.filter (fun k => k.listed)) with
  | some c, some k =>
    if k.deadline ≥ s.usNow + 20 ∧ k.deadline ≤ s.usNow + 16777215
    then s.modTask l k.n (fun x => { x with cmp := some c, listed := false }) else s
  | _, _ => s

/-- A wait of a task: with timeout 0 it returns at once; else it takes a free comparator or goes to the delay list; a named
event that stayed pending ends it at once (R431, R432, R434). -/
def State.waitTask (s : State) (l : LaneId) (n : Nat) (events : List Nat) (timeout : Nat) : State :=
  match s.task l n with
  | none => s
  | some k =>
    match k.pend.find? (fun e => events.contains e) with
    | some e => (s.modTask l n (fun x => { x with pend := x.pend.erase e })).readyTask l n 1
    | none =>
      if timeout = 0 then (s.bump l.reg DPT_CNT_TIMEOUT n).readyTask l n 2
      else
        let s := s.modTask l n (fun x => { x with state := 4, events := events, deadline := s.usNow + timeout })
        match s.cmpFree l with
        | some c =>
          if timeout ≤ 16777215 then s.modTask l n (fun x => { x with cmp := some c })
          else (s.modTask l n (fun x => { x with listed := true })).bump l.reg DPT_CNT_DLIST
        | none => (s.modTask l n (fun x => { x with listed := true })).bump l.reg DPT_CNT_DLIST

/-- The tasks of the firmware image, as its start leaves them: each in its first wait (R16, R425; DESIGN CHOICE, log 34). -/
def State.startTasks (s : State) (l : LaneId) (ts : List TaskInit) : State :=
  let ok := ts.filter (fun k => decide (k.n < 256) && decide (k.level < 64))
  let s := s.modLane l (fun x => { x with tasks := ok.map (fun k =>
    ({ n := k.n, level := k.level, owner := k.owner, state := 1, events := [] } : FwTask)), dptSeq := 0 })
  (ok.foldl (fun s k => s.waitTask l k.n k.events k.timeout) s).schedule l

/-- TASK_EVENT (R429, R431, R434): a named event of a wait makes the task READY with EVENT; an event outside a wait stays
pending. -/
def execTaskEvent (l : LaneId) (n ev : Nat) (s : State) : Host.Outcome State Fault Refusal :=
  .next (s.whenUp l (fun s => match s.task l n with
    | none => s
    | some k =>
      if k.state = 5 then s
      else if k.state = 4 ∧ ev ∈ k.events then
        let had := k.cmp.isSome
        let s := s.readyTask l n 1
        (if had then s.cmpMove l else s).schedule l
      else s.modTask l n (fun x => { x with pend := x.pend.filter (fun e => e != ev) ++ [ev] })))

/-- WAIT_TIMEOUT (R432, R433): the comparator of a wait expires. -/
def execWaitTimeout (l : LaneId) (cmp : Nat) (s : State) : Host.Outcome State Fault Refusal :=
  .next (s.whenUp l (fun s => match (s.lane l).tasks.find? (fun k => k.cmp == some cmp && k.state == 4) with
    | none => s
    | some k => (((s.bump l.reg DPT_CNT_TIMEOUT k.n).readyTask l k.n 2).cmpMove l).schedule l))

/-- DELAY_LIST_TICK (R432): the listed waits due at a tick expire, in ascending task number. -/
def execDelayListTick (l : LaneId) (us : Nat) (s : State) : Host.Outcome State Fault Refusal :=
  .next (s.whenUp l (fun s =>
    let due := (List.range 256).filter (fun n => (s.lane l).tasks.any (fun k => k.n == n && k.listed && decide (k.deadline ≤ us)))
    (due.foldl (fun s n => (s.bump l.reg DPT_CNT_TIMEOUT n).readyTask l n 2) s).schedule l))

/-- BG_SHARE_CHECK (R451): 937.5 µs into a window with less than 62.5 µs of background time in it, the highest READY
background task is raised to level 16; a check with more, or of a new window, ends that. -/
def execBgShareCheck (l : LaneId) (bgTenthUs : Nat) (s : State) : Host.Outcome State Fault Refusal :=
  .next (s.whenUp l (fun s =>
    let s := s.modLane l (fun x => { x with tasks := x.tasks.map (fun k => { k with raised := false }) })
    let s := s.wr l.reg DPT_BG_BASE 0 0
    if bgTenthUs ≥ 625 then s.schedule l
    else match firstTask ((s.lane l).tasks.filter (fun k => k.state == 2 && decide (k.level ≥ 48))) with
      | some k => ((s.modTask l k.n (fun x => { x with raised := true })).wr l.reg DPT_BG_BASE 0 1).schedule l
      | none => s.schedule l))

/-! ### Standing orders (R435 to R444) -/

/-- The stored waybills of an order. -/
def State.stored (s : State) (l : LaneId) (o : Nat) : List (List Byte) :=
  match (s.lane l).orders.find? (fun x => x.o == o) with
  | some x => x.ws
  | none => []

/-- The bytes of an order's waybills. -/
def bytesOf (ws : List (List Byte)) : Nat := (ws.map List.length).sum

/-- The bytes in the order store of a lane. -/
def State.storeUsed (s : State) (l : LaneId) : Nat := ((s.lane l).orders.map (fun x => bytesOf x.ws)).sum

/-- An order's content stored, with the parameters that show it (R435, R436, R445). -/
def State.storeOrder (s : State) (l : LaneId) (o : Nat) (ws : List (List Byte)) : State :=
  let s := s.modLane l (fun x => { x with orders := x.orders.filter (fun e => e.o != o) ++ (if ws.isEmpty then [] else [⟨o, ws⟩]) })
  let s := (s.wr l.reg DPT_ORD_COUNT o ws.length).wr l.reg DPT_ORD_BYTES o (bytesOf ws)
  let s := (s.wr l.reg DPT_ORD_CRC o (if ws.isEmpty then 0 else crc32c (ws.flatMap id))).wr l.reg DPT_ORD_STATE o (if ws.isEmpty then 0 else 1)
  s.wr l.reg DPT_ORD_STORE_FREE 0 (262144 - s.storeUsed l)

/-- An opcode a standing order may hold: none that requires VOTED, as SELFTEST_RUN kind 1 and POWER_STATE 2 and 3 do, no ORDER_LOAD, of
class 0x04 only RELINQUISH (R75, R131, R444, R531). -/
def storable (w : Waybill) : Bool :=
  votingOf w.opcode != .required && w.opcode != 0x0A01 && (w.opcode / 256 != 4 || w.opcode == 0x0402) &&
    !(w.opcode == 0x0601 && byteAt w.params 0 == 1) && !(w.opcode == 0x0701 && (byteAt w.params 0 == 2 || byteAt w.params 0 == 3))

/-- A waybill that may stand in a standing order (R35, R75, R435). -/
def storedOk (w : Waybill) : Bool :=
  w.version == 2 && w.crc == w.crcOf && w.plen == w.params.length && w.commit == 0 && !bit w.flags 4 && decide (w.plen ≤ 988) && storable w

/-- A trigger descriptor that R437 and R438 allow. -/
def trigOk (d : OrderTrigger) : Bool :=
  let auto := bit d.flags 1
  let rep := bit d.flags 2
  match d.kind with
  | 0 => !auto && !rep && d.argA == 0 && d.argB == 0
  | 1 => if rep then d.argB != 0 else d.argB == 0
  | 2 => decide (1 ≤ bits d.argA 7 0) && decide (bits d.argA 7 0 ≤ 9) && d.argB == 0 &&
      (if bits d.argA 7 0 = 9 then decide (bits d.argA 15 8 < 64) else bits d.argA 15 8 == 0)
  | 3 => d.argA != 0 && (if rep then d.argB != 0 else d.argB == 0)
  | _ => false

/-- The checks of ORDER_LOAD (R444). -/
def State.chkOrderLoad (s : State) (l : LaneId) (o action : Nat) (d : OrderTrigger) (ws : List Waybill) : Option Rsp :=
  let old := if action = 0 then [] else s.stored l o
  let raws := ws.map Waybill.encode
  firstFail [failIf (decide (o > 63)) (rRange 0 16), failIf (decide (action > 1)) (rRange 0 17),
    failIf (decide (s.rd l.reg DPT_ORD_STATE o ≥ 2)) (rRange (DPT_ORD_STATE.id l.reg o) 16),
    failIf (action == 1 && s.rd l.reg DPT_ORD_STATE o == 0) (rRange (DPT_ORD_STATE.id l.reg o) 16),
    failIf (decide (old.length + raws.length > 32)) (rRange 0 18),
    failIf (decide (s.storeUsed l - (if action = 0 then bytesOf (s.stored l o) else 0) + bytesOf raws > 262144)) (rRange 0 18),
    failIf (action == 0 && !trigOk d) (rRange 0 20), failIf (ws.any (fun w => !storedOk w)) (rRange 0 32)]

/-- A trigger descriptor as `ORD_TRIG` shows it: what R437 reserves reads 0 (R12). -/
def trigWord (d : OrderTrigger) : Nat :=
  d.kind + d.flags % 8 * 2 ^ 8 + (if d.kind = 2 then d.argA % 65536 else d.argA) * 2 ^ 32 + d.argB * 2 ^ 64

/-- ORDER_LOAD at effect (R444): BEGIN replaces the order's content and its descriptor, APPEND adds after the last. -/
def State.effOrderLoad (s : State) (l : LaneId) (o action : Nat) (d : OrderTrigger) (ws : List Waybill) : State :=
  let raws := ws.map Waybill.encode
  if action = 0 then
    (s.storeOrder l o raws).wr l.reg DPT_ORD_TRIG o (trigWord d)
  else s.storeOrder l o (s.stored l o ++ raws)

/-- ORDER_LOAD (R444). -/
def execOrderLoad (l : LaneId) (h : Hdr) (o action : Nat) (d : OrderTrigger) (ws : List Waybill) (s : State) :
    Host.Outcome State Fault Refusal :=
  .next (s.whenHost l (fun s => s.perform l h 0x0A01 (s.chkOrderLoad l o action d ws) (s.effOrderLoad l o action d ws, rOk)))

/-- The checks of ORDER_START (R438, R444): the order is loaded; a TOWLINE cycle already past is refused. -/
def State.chkOrderStart (s : State) (l : LaneId) (o : Nat) : Option Rsp :=
  let n := (s.trig l o).argA
  let ahead := (n + 2 ^ 32 - s.cycle l) % 2 ^ 32
  firstFail [failIf (decide (o > 63)) (rRange 0 16),
    failIf (s.rd l.reg DPT_ORD_STATE o != 1) (rRange (DPT_ORD_STATE.id l.reg o) 16),
    failIf ((s.trig l o).kind == 1 && n != 0 && (ahead == 0 || decide (ahead ≥ 2 ^ 31))) (rRange (DPT_ORD_TRIG.id l.reg o) 16)]

/-- ORDER_START at effect: MANUAL runs at once, the other kinds are armed (R438, R444). -/
def State.effOrderStart (s : State) (l : LaneId) (o : Nat) : State :=
  if (s.trig l o).kind = 0 then s.triggerOrder l o else s.armOrder l o

/-- ORDER_START (R444). -/
def execOrderStart (l : LaneId) (h : Hdr) (o : Nat) (s : State) : Host.Outcome State Fault Refusal :=
  .next (s.whenHost l (fun s => s.perform l h 0x0A02 (s.chkOrderStart l o) (s.effOrderStart l o, rOk)))

/-- ORDER_STOP at effect (R443): disarmed; a queued order leaves the queue; of a running order the waybill in processing
completes and the rest are skipped. -/
def State.effOrderStop (s : State) (l : LaneId) (o : Nat) : State :=
  let s := s.modLane l (fun x => { x with ordQ := x.ordQ.filter (fun q => q != o) })
  s.wr l.reg DPT_ORD_STATE o 1

/-- ORDER_STOP (R443, R444). -/
def execOrderStop (l : LaneId) (h : Hdr) (o : Nat) (s : State) : Host.Outcome State Fault Refusal :=
  .next (s.whenHost l (fun s =>
    s.perform l h 0x0A03 (firstFail [failIf (decide (o > 63)) (rRange 0 16),
      failIf (s.rd l.reg DPT_ORD_STATE o == 0) (rRange (DPT_ORD_STATE.id l.reg o) 16)]) (s.effOrderStop l o, rOk)))

/-- ORDER_DELAY_EXPIRY (R438): the delay or the interval of an armed DELAY order has passed; with REPEAT it goes on while
the order is in its run. -/
def execOrderDelayExpiry (l : LaneId) (o : Nat) (s : State) : Host.Outcome State Fault Refusal :=
  .next (s.whenUp l (fun s =>
    if o < 64 ∧ (s.trig l o).kind = 3 ∧ s.rd l.reg DPT_ORD_STATE o ≥ 2 then s.triggerOrder l o else s))

/-- An armed TOWLINE order is due in a cycle: at its first cycle, and with REPEAT every period after it (R438). -/
def State.twlDue (s : State) (l : LaneId) (o c : Nat) : Bool :=
  let d := s.trig l o
  let first := s.rd l.reg DPT_ORD_FIRST o
  let age := (c + 2 ^ 32 - first) % 2 ^ 32
  d.kind == 1 && decide (s.rd l.reg DPT_ORD_STATE o ≥ 2) && (age == 0 || (bit d.flags 2 && decide (age < 2 ^ 31) && decide (d.argB > 0) && age % d.argB == 0))

/-- The TOWLINE orders at the common latch instant of a cycle, after the vote evaluation (R438). -/
def State.ordersLatch (s : State) (l : LaneId) (c : Nat) : State :=
  (List.range 64).foldl (fun s o => if s.twlDue l o c then s.triggerOrder l o else s) s

/-- A lane without synchronisation at a latch instant of its local cycles skips the orders due there (R438): the cycle is
counted on from the last synchronised one. -/
def State.ordersMissed (s : State) (l : LaneId) (c : Nat) : State :=
  (List.range 64).foldl (fun s o => if s.twlDue l o c then s.bump l.reg DPT_CNT_ORD_MISSED o else s) s

/-- An order starts to run (R440, R442, R445). -/
def State.startRun (s : State) (l : LaneId) (o : Nat) : State :=
  let s := s.modLane l (fun x => { x with ordQ := x.ordQ.drop 1 })
  let s := (s.wr l.reg DPT_ORD_STATE o 4).bump l.reg DPT_CNT_ORD_RUN o
  let s := s.wr l.reg DPT_ORD_STATUS o (withCycle 0 (s.cycle l))
  ((s.wr l.reg DPT_RUN 0 (o + 1)).wr l.reg DPT_RUN_IDX 0 0).wr l.reg DPT_RUN_FAIL 0 0

/-- The end of a run (R438, R442, R443): the order is armed again where its trigger repeats, else disarmed; a consist it
left open is discarded and counted. -/
def State.endRun (s : State) (l : LaneId) (o : Nat) : State :=
  let d := s.trig l o
  let open' := ((s.lane l).wbe.consists.filter (fun c => c.port == .so)).length
  let s := s.modWbe l (fun x => { x with consists := x.consists.filter (fun c => c.port != .so) })
  let s := s.bumpBy l.reg WBE_CNT_CONSIST_DISCARD 0 open'
  let s := if s.rd l.reg DPT_ORD_STATE o = 4 then
      s.wr l.reg DPT_ORD_STATE o (if d.kind ≠ 0 ∧ bit d.flags 2 then 2 else 1) else s
  ((s.wr l.reg DPT_RUN 0 0).wr l.reg DPT_RUN_IDX 0 0).wr l.reg DPT_RUN_WAIT 0 0

/-- The next stored waybill of the running order, or the end of its run (R441 to R443). -/
inductive NextWb
  | idle
  | ended (o : Nat)
  | stopped (o : Nat)
  | hand (o : Nat) (raw : List Byte)
deriving DecidableEq, Repr

/-- What the dispatcher does next for the running order: nothing while a waybill of it awaits its final status or the input
queue is full (R441); the end after the last, after ORDER_STOP, or after a failure under STOP_ON_FAIL (R442). -/
def State.nextWb (s : State) (l : LaneId) : NextWb :=
  let run := s.rd l.reg DPT_RUN
  if run = 0 ∨ s.rdB l.reg DPT_RUN_WAIT then .idle
  else
    let o := run - 1
    if s.rd l.reg DPT_ORD_STATE o ≠ 4 then .ended o
    else if s.rdB l.reg DPT_RUN_FAIL ∧ bit (s.trig l o).flags 0 then .stopped o
    else if (s.lane l).wbe.inq.length ≥ 32 then .idle
    else match (s.stored l o)[s.rd l.reg DPT_RUN_IDX]? with
      | some raw => .hand o raw
      | none => .ended o

end Sys2Proof.Machine
end

