-- ==== Sys2Proof/Machine/Faults.lean ====
section
/-! DEFINITION. The commands of the fault collectors: an error wire asserted, the quiet period and the hold of a fault
output at their ends, a block reset ending or not completing, and the writes that clear latches, fault states and trouble
counters (R478 to R487). -/

namespace Sys2Proof.Machine

open Par Var

/-- A write to a region the lane reaches: its own lane die and power die directly, M and S by relay; no other (R38). -/
def State.performTo (s : State) (l : LaneId) (h : Hdr) (opcode : Nat) (chk : Option Rsp) (eff : State × Rsp) : State :=
  if h.region = 7 then s.performAt l .m h opcode chk eff
  else if h.region = 8 then s.performAt l .s h opcode chk eff
  else s.perform l h opcode (firstFail [failIf (h.region != l.reg && h.region != l.pow) (rRange 0 8), chk]) eff

/-- The supply of a region is present. -/
def State.powered (s : State) (r : Nat) : Bool := s.hasRegion r && s.rdB r INT_POWERED

/-- The error wire of a source asserts (R478). The wire of source 43 of a lane die is the disagreement of the
lock-keeper's copy, which takes the lock-keeper to HALT (R409). A wire not held falls again at once. -/
def State.sourceAssert (s : State) (r src : Nat) (held : Bool) : State :=
  let s := match LaneId.ofReg r with
    | some l => if src = 43 then s.lkgHalt l else s
    | none => s
  let s := s.raise r src true
  if held then s else s.release r src

/-- FCL_SOURCE_ASSERT (R478). -/
def execFclSourceAssert (r : Region) (src : Nat) (held : Bool) (t : Nat) (s : State) : Host.Outcome State Fault Refusal :=
  let s := s.atTime t
  .next (if s.powered r.code then s.sourceAssert r.code src held else s)

/-- FCL_QUIET_END (R478): the quiet period of a source is over. -/
def execFclQuietEnd (r : Region) (src : Nat) (t : Nat) (s : State) : Host.Outcome State Fault Refusal :=
  let s := s.atTime t
  .next (if s.powered r.code then s.quietEnd r.code src else s)

/-- BLOCK_READY (R479). -/
def execBlockReady (r : Region) (block : Nat) (s : State) : Host.Outcome State Fault Refusal :=
  .next (if s.on r.code && s.rdB r.code FCL_MASKED block then s.blockReady r.code block else s)

/-- BLOCK_RESET_TIMEOUT (R479). -/
def execBlockResetTimeout (r : Region) (block : Nat) (s : State) : Host.Outcome State Fault Refusal :=
  .next (if s.on r.code then s.blockResetTimeout r.code block else s)

/-- FAULT_PIN_HOLD_END (R482): `FAULT_MIN` has passed since the output asserted. -/
def execFaultPinHoldEnd (r : Region) (s : State) : Host.Outcome State Fault Refusal :=
  .next (if s.hasRegion r.code then s.pinHoldEnd r.code else s)

/-- The sources of a mask. -/
def srcsOf (mask : Nat) : List Nat := (List.range 64).filter (fun i => mask.testBit i)

/-- A write of 1 to a bit whose wire is active: RANGE naming the parameter (R481, R485). -/
def State.chkWire (s : State) (r : Nat) (d : PDesc) (bits : Nat) : Option Rsp :=
  failIf ((srcsOf bits).any (fun i => bit (s.rd r FCL_RAW) i)) (rRange (d.id r 0) 0)

/-- Latches cleared (R481). -/
def State.effLatchClear (s : State) (r bits : Nat) : State := (srcsOf bits).foldl (fun s i => s.unlatch r i) s

/-- FCL_LATCH_CLEAR (R481): a SET of ones to `FCL.LATCHED` of the region the header names. -/
def execFclLatchClear (l : LaneId) (h : Hdr) (bits : Nat) (s : State) : Host.Outcome State Fault Refusal :=
  .next (s.whenHost l (fun s =>
    s.performTo l h 0x0102 (s.chkWire h.region FCL_LATCHED bits) (s.effLatchClear h.region bits, rOk)))

/-- Fault states ended as recoveries; a latched source stays in its own (R481, R485). -/
def State.effErrClear (s : State) (r bits : Nat) : State :=
  (srcsOf bits).foldl (fun s i => if bit (s.rd r FCL_ERR_STATUS) i && !bit (s.rd r FCL_LATCHED) i then s.recover r i else s) s

/-- FCL_ERR_STATUS_CLEAR (R485): a SET of ones to `FCL.ERR_STATUS` of the region the header names. -/
def execFclErrStatusClear (l : LaneId) (h : Hdr) (bits : Nat) (s : State) : Host.Outcome State Fault Refusal :=
  .next (s.whenHost l (fun s =>
    s.performTo l h 0x0102 (s.chkWire h.region FCL_ERR_STATUS bits) (s.effErrClear h.region bits, rOk)))

/-- TROUBLE_CLEAR is accepted in SERVICE lifecycle only (R487). -/
def State.chkTrouble (s : State) (l : LaneId) (value : Bool) : Option Rsp :=
  failIf (value && s.rd l.reg INT_LIFECYCLE != 3) (rDenied (s.rd l.reg INT_LIFECYCLE))

/-- Every trouble counter of a region cleared, with `LSC.CNT_MISMATCH` of a lane die (R149, R487). -/
def State.effTrouble (s : State) (r : Nat) (value : Bool) : State :=
  if !value then s
  else
    let s := (List.range 64).foldl (fun s i => s.wr r FCL_TROUBLE i 0) s
    match LaneId.ofReg r with
    | some l => s.wr l.reg LSC_CNT_MISMATCH 0 0
    | none => s

/-- TROUBLE_CLEAR (R487): a SET of `FCL.TROUBLE_CLEAR` of the region the header names. -/
def execTroubleClear (l : LaneId) (h : Hdr) (value : Bool) (s : State) : Host.Outcome State Fault Refusal :=
  .next (s.whenHost l (fun s => s.performTo l h 0x0102 (s.chkTrouble l value) (s.effTrouble h.region value, rOk)))

end Sys2Proof.Machine
end

