-- ==== Sys2Proof/Machine/Lockstep.lean ====
section
/-! DEFINITION. The lockstep pair: a mismatch and its record, and the synchroniser differences (R135 to R149). -/

namespace Sys2Proof.Machine

open Par Var

/-- The smallest of some group numbers; the first argument where there are fewer. -/
def lowest : Nat → List Nat → Nat
  | m, [] => m
  | m, g :: gs => lowest (min m g) gs

/-- The mismatch record of R147: first group, map, Towline cycle, low half of the CORE cycle count, and the count. The first group
is the lowest of the cycle of detection; groups that differ in later cycles, up to the halt, enter the map only (R140). -/
def State.mismatchRecord (s : State) (l : LaneId) (groups later : List Nat) (tick : Nat) : State :=
  let r := l.reg
  let s := (s.wr r LSC_LAST_GROUP 0 (lowest 0x3FF groups)).wr r LSC_LAST_CYCLE 0 (s.cycle l)
  let s := (List.range 16).foldl (fun s i =>
    s.wr r LSC_LAST_MAP i (((groups ++ later).filter (fun g => g / 32 == i)).foldl (fun m g => setBit m (g % 32)) 0)) s
  ((s.wr r LSC_LAST_TICK 0 (tick % 2 ^ 32)).wr r LSC_MRAM 0 1).bump r LSC_CNT_MISMATCH

/-- A mismatch of a comparing pair: both copies halt, the record is written, and source 0 orders the leave; in leaving or out it
has no effect but these two (R139, R140, R146 to R148). The outputs the pair held are discarded: none of them has reached another block
(R137), and the state a command finds is that of outputs already released, so nothing is left to take back (log 68). -/
def State.mismatch (s : State) (l : LaneId) (groups later : List Nat) (tick : Nat) : State :=
  let gs := groups.filter (fun g => g < 512)
  if s.rd l.reg LSC_STATE ≠ 2 ∨ gs.isEmpty then s
  else
    let s := (s.wr l.reg LSC_STATE 0 3).mismatchRecord l gs (later.filter (fun g => g < 512)) tick
    if s.vstate l ≥ 3 then s else s.raise l.reg 0 true

/-- LOCKSTEP_MISMATCH (R139), also of a lane in START whose pair runs after its injection test. -/
def execLockstepMismatch (l : LaneId) (d : PairDiff) (tick : Nat) (s : State) : Host.Outcome State Fault Refusal :=
  .next (if s.hasRegion l.reg && s.rdB l.reg INT_POWERED && s.rd l.reg FAB_PHASE != 2 then s.mismatch l d.groups d.later tick else s)

/-! ### The injection test (R143 to R145) -/

/-- The first failure of an injection test and its group, none where it passes: a clean run with a difference is 3, an injection not
detected 2, one reported in another group or in several 3, a failed wire check 3 with no group (R144, R145). Where failures of several
kinds occur the manual does not say which one `INJ_RESULT` shows: the model takes the lowest failing group before the wire check, and of one
group the missed injection before the wrong report (DESIGN CHOICE, log 74). -/
def injFailure (i : InjRun) : Option (Nat × Nat) :=
  match i.clean with
  | some g => some (3, g)
  | none =>
    let bad := lowest 512 (i.missed ++ i.wrong)
    if bad < 512 then some (if i.missed.contains bad then 2 else 3, bad)
    else if i.wire then none else some (3, 0x3FF)

/-- The length of the injection test in ns: 9,216 CORE cycles at 400 MHz, the point of a start (R144). -/
def injNs : Nat := 9216 * 1000 / 400

/-- The injection test of a lane: its result, first failing group and duration, and the test event of its wire check; the pair compares
after a pass and stays off after a failure (R143 to R145, R485, log 68). -/
def State.injTest (s : State) (l : LaneId) (i : InjRun) : State :=
  let s := s.wr l.reg LSC_INJ_DURATION 0 injNs
  let s := if i.wire then s.bump l.reg FCL_TEST_EVENTS else s
  match injFailure i with
  | none => (((s.wr l.reg LSC_INJ_RESULT 0 1).wr l.reg LSC_INJ_FAIL_GROUP 0 0x3FF)).wr l.reg LSC_STATE 0 2
  | some (kind, group) => ((s.wr l.reg LSC_INJ_RESULT 0 kind).wr l.reg LSC_INJ_FAIL_GROUP 0 group).wr l.reg LSC_STATE 0 0

/-- A failed start sequence: the lane is out. A start from supply stops there; as step 1 of a rejoin it is begun again, and after three
failures in a row the lane stays out and raises source 12 (R128, R145, R561, log 68). -/
def State.startFail (s : State) (l : LaneId) : State :=
  let n := s.rd l.reg STF_STEP_FAIL 1 + 1
  let s := s.wr l.reg STF_STEP_FAIL 1 n
  if !s.rdB l.reg INT_REJOINING then s.wr l.reg INT_BOOT 0 4
  else if n ≥ 3 then ((s.wr l.reg INT_BOOT 0 4).wr l.reg STF_STAY_OUT 0 1).raise l.reg 12
  else s.wr l.reg INT_BOOT 0 0

/-- A synchroniser difference of at least two cycles on one of the 64 inputs: counted; when the limit is reached on that
input within 1 s, the input is recorded and source 1 asserted, and its count begins anew (R142, log 22). -/
def State.syncDiff (s : State) (l : LaneId) (input t : Nat) : State :=
  if input ≥ 64 then s
  else
    let s := s.bump l.reg LSC_CNT_SYNC_DIFF
    let old := (s.lane l).syncTimes.filter (fun e => e.2 + 1000000000 > t)
    let mine := (old.filter (fun e => e.1 == input)).length + 1
    if mine ≥ s.rd l.reg LSC_SYNC_DIFF_LIMIT then
      let s := s.modLane l (fun x => { x with syncTimes := old.filter (fun e => e.1 != input) })
      (s.wr l.reg LSC_SYNC_DIFF_INPUT 0 input).raise l.reg 1
    else s.modLane l (fun x => { x with syncTimes := old ++ [(input, t)] })

/-- The core pair runs: of a lane die that runs, or of one in START whose pair compares after its injection test (R142, R143). -/
def State.pairRuns (s : State) (l : LaneId) : Bool :=
  s.up l || (s.hasRegion l.reg && s.rdB l.reg INT_POWERED && s.rd 7 BST_SCAN_REG != l.reg && s.rd l.reg FAB_PHASE == 0 && s.rd l.reg LSC_STATE == 2)

/-- SYNC_DIFF_DETECT (R142). -/
def execSyncDiffDetect (l : LaneId) (input : Nat) (t : Nat) (s : State) : Host.Outcome State Fault Refusal :=
  let s := s.atTime t
  .next (if s.pairRuns l then s.syncDiff l input t else s)

end Sys2Proof.Machine
end

