-- ==== Sys2Proof/Machine/SelfTest.lean ====
section
/-! DEFINITION. Self-test: the rolling self-test, the tests of comparators and sense cores, fault injection, LBIST and MBIST
with their record, and the test port (R489 to R506). -/

namespace Sys2Proof.Machine

open Par Var

/-! ### Rolling self-test -/

/-- No lane of the part is under a rolling self-test, in rejoin or void for sections, and all are in service (R495). -/
def State.rollReady (s : State) (l : LaneId) : Bool :=
  s.rd l.reg VOT_MODE == 0 && s.lanesOf.length == 3 &&
    s.lanesOf.all (fun x => s.seen l x == 2 && !s.exclSeen l x && s.rd x.reg BST_STATE != 1 &&
      !bit (s.rd l.reg SVT_V_VOID) x.idx)

/-- Every bridge of a lane turns below its short threshold of R175. -/
def State.belowShort (s : State) (x : LaneId) : Bool :=
  (List.range 6).all (fun b => !s.bridgeUsed x b || (s.rdB x.reg OBS_SPEED_OK b &&
    !aboveCrossover (s.rdI x.reg OBS_SPEED b) (s.rd x.reg CMT_SHORT_MARGIN) (s.rd x.reg CMT_VDC b) (s.rd x.reg CMT_PSI b)))

/-- The checks of SELFTEST_RUN kind 1 at effect: VOTED, a lane named, and the conditions of R495. -/
def State.chkRolling (s : State) (l : LaneId) (h : Hdr) (lane : Nat) : Option Rsp :=
  firstFail [failIf (!h.voted) (rRange 0 1), failIf (!s.hasRegion lane || (LaneId.ofReg lane).isNone) (rRange 0 17),
    failIf (!s.rollReady l) (rRange (BST_STATE.id l.reg 0) 0),
    match LaneId.ofReg lane with
    | some x => failIf (!s.belowShort x) (rRange (CMT_SHORT_MARGIN.id l.reg 0) 0)
    | none => none]

/-- The rolling self-test of a lane begins (R496): the staff released to the lowest-lettered other lane, every bridge to
FREE, state leaving; the phase TEST follows its two frames. -/
def State.startRolling (s : State) (l : LaneId) : State :=
  let succ := ((s.peersOf l).head?.map LaneId.reg).getD 0
  let s := if s.rd l.reg STF_HOLDER = l.reg then s.releaseStaff l succ else s
  let s := (List.range 6).foldl (fun s b =>
    if s.rd l.reg CMT_STATE b = 2 ∨ s.rd l.reg CMT_STATE b = 1 ∨ s.rd l.reg CMT_STATE b = 4
    then ((s.setBridge l b 3).dropOwn l b).loseWinding l b else s) s
  let s := (s.wr l.reg STF_STATE 0 3).wr l.reg INT_LEFT_FRAMES 0 0
  let s := ((s.wr l.reg BST_STATE 0 1).wr l.reg BST_LB_DONE 0 0).bump l.reg BST_CNT_ROLLING
  ((s.wr l.reg STF_COUNT_ON 0 0).wr l.reg STF_CLAIMING 0 0).wr l.reg STF_WAIT_ON 0 0

/-- SELFTEST_RUN kind 1 at effect in a lane: the named lane begins, the others wait for its frames (R496). -/
def State.effRolling (s : State) (l : LaneId) (lane : Nat) : State := if lane = l.reg then s.startRolling l else s

/-- SELFTEST_RUN_ROLLING (R496). -/
def execSelftestRunRolling (l : LaneId) (h : Hdr) (lane : Nat) (s : State) : Host.Outcome State Fault Refusal :=
  .next (s.whenHost l (fun s => s.perform l h 0x0601 (s.chkRolling l h lane) (s.effRolling l lane, rOk)))

/-! ### Converter and comparator tests -/

/-- The checks of a block test: not VOTED, every bridge named in use (R501). -/
def State.chkBlockTest (s : State) (l : LaneId) (h : Hdr) (mask : Nat) : Option Rsp :=
  firstFail [failIf h.voted (rRange 0 1), failIf ((bridgesOf mask).any (fun b => !s.bridgeUsed l b)) (rRange 0 16)]

/-- The converter test of the named bridges begins (R497). -/
def State.effConverter (s : State) (l : LaneId) (mask : Nat) : State :=
  if mask % 64 = 0 then s
  else
    let s := (bridgesOf mask).foldl (fun s b => s.wr l.reg BST_CONV_RESULT b 0) s
    (s.wr l.reg BST_STATE 0 3).wr l.reg BST_MASK 0 (mask % 64)

/-- SELFTEST_RUN_CONVERTER (R497). -/
def execSelftestRunConverter (l : LaneId) (h : Hdr) (mask : Nat) (s : State) : Host.Outcome State Fault Refusal :=
  .next (s.whenHost l (fun s => s.perform l h 0x0601 (s.chkBlockTest l h mask) (s.effConverter l mask, rOk)))

/-- The cores of a bridge that failed stay over range until the next reset of the power die (R498). -/
def State.failCores (s : State) (l : LaneId) (b results : Nat) : State :=
  (List.range 7).foldl (fun s k => if results / 4 ^ k % 4 = 2 then s.wr l.pow BST_ADC_BAD (7 * b + k) 1 else s) s

/-- CONVERTER_TEST_COMPLETE (R497): the results of one bridge, two bits per channel; the test ends with its last bridge. -/
def execConverterTestComplete (l : LaneId) (b results : Nat) (s : State) : Host.Outcome State Fault Refusal :=
  .next (s.whenUp l (fun s =>
    if s.rd l.reg BST_STATE = 3 ∧ b < 6 ∧ bit (s.rd l.reg BST_MASK) b then
      let s := (s.wr l.reg BST_CONV_RESULT b results).failCores l b results
      let s := s.wr l.reg BST_MASK 0 (clrBit (s.rd l.reg BST_MASK) b)
      if s.rd l.reg BST_MASK = 0 then s.wr l.reg BST_STATE 0 0 else s
    else s))

/-- The comparator test of the named bridges begins, one bridge after the other in ascending order at their load points; `fails` names for a
bridge the comparators that will not reach step 1 within 120 ns, a bit each (R224, R225, R497, log 53). -/
def State.effComparator (s : State) (l : LaneId) (mask : Nat) (fails : List (Nat × Nat)) : State :=
  if mask % 64 = 0 then s
  else
    let s := (bridgesOf mask).foldl (fun s b => (s.wr l.pow GDR_CMP_RESULT b 0).wr l.pow GDR_CMP_N b 0) s
    ((s.wr l.reg BST_STATE 0 2).wr l.reg BST_MASK 0 (mask % 64)).modLane l (fun x => { x with cmpFails := fails })

/-- COMPARATOR_TEST (R497). -/
def execComparatorTest (l : LaneId) (h : Hdr) (mask : Nat) (fails : List (Nat × Nat)) (s : State) :
    Host.Outcome State Fault Refusal :=
  .next (s.whenHost l (fun s => s.perform l h 0x0602 (s.chkBlockTest l h mask) (s.effComparator l mask fails, rOk)))

/-! ### Fault injection -/

/-- The checks of INJECT (R500, R501): SERVICE lifecycle, every configured target ENGAGED, a listed source of the own lane
die or power die, a duration of 1 to 10,000 ms. -/
def State.chkInject (s : State) (l : LaneId) (region src durMs : Nat) : Option Rsp :=
  firstFail [failIf (s.rd l.reg INT_LIFECYCLE != 3) (rDenied (s.rd l.reg INT_LIFECYCLE)),
    failIf (!s.allEngaged l) (rRange (ATH_LATCH_STATE.id 8 0) 0),
    failIf (region != l.reg && region != l.pow) (rRange 0 16), failIf (!sourceListed region src) (rRange 0 17),
    failIf (decide (durMs < 1 ∨ durMs > 10000)) (rRange 0 18)]

/-- INJECT at effect: the wire held, with its full handling (R500). -/
def State.effInject (s : State) (l : LaneId) (region src : Nat) : State :=
  ((s.bump l.reg BST_CNT_INJECT).wr region FCL_INJECTED src 1).sourceAssert region src true

/-- INJECT (R500). -/
def execInject (l : LaneId) (h : Hdr) (region src durMs : Nat) (s : State) : Host.Outcome State Fault Refusal :=
  .next (s.whenHost l (fun s => s.perform l h 0x0603 (s.chkInject l region src durMs) (s.effInject l region src, rOk)))

/-- INJECT_END (R500): the duration has passed and the wire is released. -/
def execInjectEnd (r : Region) (src : Nat) (s : State) : Host.Outcome State Fault Refusal :=
  .next (if s.rdB r.code FCL_INJECTED src then (s.wr r.code FCL_INJECTED src 0).release r.code src else s)

/-! ### LBIST and MBIST -/

/-- A lane die under LBIST and MBIST: a rolling self-test, a shutdown test or a start test in phase TEST (R489). -/
def State.inBist (s : State) (l : LaneId) : Bool :=
  s.hasRegion l.reg && s.rdB l.reg INT_POWERED && s.rd l.reg FAB_PHASE == 2 &&
    (s.rd l.reg BST_STATE == 1 || s.rd l.reg BST_STATE == 4 || s.rd l.reg BST_STATE == 5)

/-- LBIST_COMPLETE (R490): the signature judged, MBIST next. -/
def execLbistComplete (l : LaneId) (pass : Bool) (dur : Nat) (s : State) : Host.Outcome State Fault Refusal :=
  .next (if s.inBist l && !s.rdB l.reg BST_LB_DONE then
      let s := ((s.wr l.reg BST_LB_DONE 0 1).wrB l.reg BST_LB_PASS 0 pass).wr l.reg BST_LB_DUR 0 (satNat 16 dur)
      if pass then s else s.bump l.reg BST_CNT_FAIL
    else s)

/-- The origin of a record: 1 shutdown, 2 start, 3 rolling (R492). -/
def bistOrigin (state : Nat) : Nat := if state = 4 then 1 else if state = 5 then 2 else 3

/-- The 28 bytes of a record before its check (R492): durations in 10 µs, the first line that found no spare. -/
def State.recordBody (s : State) (l : LaneId) (origin : Nat) (lb mb : Bool) (mbDur : Nat) (bad : Option Nat) : List Byte :=
  toLe 1 1 ++ toLe 1 (b2n lb + 2 * b2n mb + 4 + 8 * origin) ++ toLe 2 (s.rd l.reg MEM_SPARE_USED) ++
    toLe 4 (s.opTime l) ++ toLe 4 (s.rd l.reg UPD_ACTIVE_DIGEST) ++ toLe 2 (s.rd l.reg BST_LB_DUR) ++
    toLe 2 (satNat 16 mbDur) ++ toLe 1 (s.rd l.reg INT_LIFECYCLE) ++ toLe 3 0 ++
    toLe 4 ((bad.map (fun n => n * 32)).getD 0xFFFFFFFF) ++ toLe 4 0

/-- The record written to MRAM (R492). -/
def State.writeRecord (s : State) (l : LaneId) (body : List Byte) : State :=
  (s.wr l.reg BST_REC 0 (ofLe (body ++ toLe 4 (crc32c body)))).wr l.reg BST_REC_ON 0 1

/-- Spare lines taken by the failing lines, as far as they go (R465, R490). -/
def State.takeSpares (s : State) (l : LaneId) (n : Nat) : State :=
  let free := 128 - s.rd l.reg MEM_SPARE_USED
  (s.bumpBy l.reg MEM_CNT_REMAP 0 (min n free)).wr l.reg MEM_SPARE_USED 0 (s.rd l.reg MEM_SPARE_USED + min n free)

/-- A lane die and its power die in phase START, the test over. -/
def State.endTest (s : State) (l : LaneId) : State :=
  (((s.wr l.reg FAB_PHASE 0 0).wr l.pow FAB_PHASE 0 0).wr l.reg BST_STATE 0 0).wr l.reg BST_LB_DONE 0 0

/-- The start of a lane stopped with the lane out: source 8 (R145, R494). -/
def State.stopStart (s : State) (l : LaneId) : State := ((s.endTest l).wr l.reg INT_BOOT 0 4).raise l.reg 8 true

/-- A lane die switched off at the end of its shutdown test (R569); WAKE_x that rose meanwhile wakes it (R571). -/
def State.shutOff (s : State) (l : LaneId) : State :=
  let s := ((s.endTest l).wr l.reg INT_BOOT 0 0).wr l.pow GDR_GATES 0 0
  if s.rdB l.reg PWR_WAKE_PEND then
    let s := (s.wr l.reg PWR_WAKE_PEND 0 0).wr l.reg PWR_STATE 0 0
    ((s.wr l.reg PWR_LAST_WAKE 0 1).bump l.reg PWR_CNT_WAKE 1).raiseEpoch l.reg
  else s

/-- The injection test after LBIST and MBIST that passed, and the way on: a rolling test restarts the lane, a start test goes on; a
failed injection test is a failed start (R143, R145, R496, R561). -/
def State.bistPassed (s : State) (l : LaneId) (kind : Nat) (inj : InjRun) : State :=
  let s := if kind = 1 then
      (((s.resetLane l).wr l.reg BST_STATE 0 1).wr l.reg FAB_PHASE 0 2).wr l.reg CLK_STATE 0 2
    else s.wr l.reg BST_LB_DONE 0 0
  let s := s.injTest l inj
  if (injFailure inj).isNone then s.wr l.reg INT_BOOT 0 3 else (s.endTest l).startFail l

/-- MBIST has ended (R490 to R496): lines remapped, the record written, and the way on by the test: a shutdown test ends off, a
failure stops the start with source 8, and a rolling or a start test that passed goes on. -/
def State.mbistEnd (s : State) (l : LaneId) (failing : List Nat) (inj : InjRun) (dur : Nat) : State :=
  let kind := s.rd l.reg BST_STATE
  let lb := s.rdB l.reg BST_LB_PASS
  let free := 128 - s.rd l.reg MEM_SPARE_USED
  let bad := failing[free]?
  let s := s.takeSpares l failing.length
  let s := s.writeRecord l (s.recordBody l (bistOrigin kind) lb bad.isNone dur bad)
  let s := if bad.isSome then s.bump l.reg BST_CNT_FAIL else s
  if kind = 4 then s.shutOff l
  else if !lb || bad.isSome then s.stopStart l
  else s.bistPassed l kind inj

/-- MBIST_COMPLETE (R490). -/
def execMbistComplete (l : LaneId) (failing : List Nat) (inj : InjRun) (dur : Nat) (s : State) :
    Host.Outcome State Fault Refusal :=
  .next (if s.inBist l && s.rdB l.reg BST_LB_DONE && s.rd l.reg INT_BOOT != 3 then s.mbistEnd l failing inj dur else s)

/-! ### The test port (R502 to R504) -/

/-- A region under an internal scan is let go: it leaves phase TEST and starts anew (R503). -/
def State.endScan (s : State) : State :=
  let r := s.rd 7 BST_SCAN_REG
  let s := ((s.wr 7 BST_SCAN_REG 0 0).wr 7 M_BST_SCAN_STATE 0 0)
  let s := LaneId.all.foldl (fun s l => s.wr l.reg INT_EXTEST 0 0) s
  let s := s.wr 8 INT_EXTEST 0 0
  if r = 0 then s else s.wr r FAB_PHASE 0 0

/-- An instruction selected at the test port of a part that has M with its supply present; one that the lifecycle state
does not permit selects BYPASS (R502). -/
def State.jtag (s : State) (sel : Nat) (permitted : Bool) (f : State → State) : State :=
  if !s.hasRegion 7 || !s.rdB 7 INT_POWERED then s
  else
    let s := s.endScan
    if permitted then f (s.send (.jtag sel)) else s.send (.jtag 0)

/-- SAMPLE/PRELOAD and EXTEST are permitted in BLANK, PROVISIONED and RMA (R502). -/
def State.boundaryOk (s : State) : Bool := [0, 1, 4].contains (s.rd 7 SMC_LIFECYCLE)

/-- JTAG_BYPASS (R502). -/
def execJtagBypass (s : State) : Host.Outcome State Fault Refusal := .next (s.jtag 0 true id)

/-- JTAG_IDCODE (R502). -/
def execJtagIdcode (s : State) : Host.Outcome State Fault Refusal := .next (s.jtag 1 true id)

/-- JTAG_SAMPLE_PRELOAD (R502). -/
def execJtagSamplePreload (s : State) : Host.Outcome State Fault Refusal :=
  .next (s.jtag 2 s.boundaryOk (fun s => s.wr 7 M_BST_SCAN_STATE 0 1))

/-- Every gate of a lane low, whatever a boundary cell holds (R503). -/
def State.gatesLow (s : State) (l : LaneId) : State := (List.range 6).foldl (fun s b => s.wr l.pow GDR_GATES b 0) s

/-- JTAG_EXTEST (R503): gate, section and authority outputs low. -/
def execJtagExtest (s : State) : Host.Outcome State Fault Refusal :=
  .next (s.jtag 3 s.boundaryOk (fun s =>
    let s := s.lanesOf.foldl (fun s l => (s.gatesLow l).wr l.reg INT_EXTEST 0 1) s
    let s := ((s.wr 8 INT_EXTEST 0 1).wr 8 SVT_OUT 0 0).wr 8 ATH_OUT 0 0
    s.wr 7 M_BST_SCAN_STATE 0 1))

/-- The volatile state of a region gone, with the region held in reset. -/
def State.resetRegionOf (s : State) (r : Nat) : State :=
  match kindOf r with
  | .lane => match LaneId.ofReg r with
    | some l => s.resetLane l
    | none => s
  | .power => match laneOfReg r with
    | some l => s.resetPower l
    | none => s
  | .m => s.resetM
  | .s => s.resetS
  | .every => s

/-- Session keys and challenge nonces cleared before a chain is enabled, counted (R504). -/
def State.scanClear (s : State) : State :=
  let s : State := { s with mdie := { s.mdie with nonce := [], ports := s.mdie.ports.map (fun p => { p with nonce := [] }) } }
  (s.wr 7 SMC_NONCE_ON 0 0).bump 7 M_BST_CNT_SCAN_CLEAR

/-- Internal scan and memory access of a lane die, a power die or S: BLANK and RMA; M's key store: PROVISIONED and RMA
(R502). A region without supply cannot be reached. -/
def State.scanOk (s : State) (r : Nat) (keyStore : Bool) : Bool :=
  let c := s.rd 7 SMC_LIFECYCLE
  if keyStore then c == 1 || c == 4 else (c == 0 || c == 4) && r != 7 && s.hasRegion r && s.rdB r INT_POWERED

/-- JTAG_INTERNAL_SCAN (R504): the clearing first, then the region held in reset and in phase TEST (R503). -/
def execJtagInternalScan (r : Region) (keyStore : Bool) (s : State) : Host.Outcome State Fault Refusal :=
  .next (s.jtag 4 (s.scanOk r.code keyStore) (fun s =>
    let s := s.scanClear
    if keyStore then s.wr 7 M_BST_SCAN_STATE 0 3
    else
      let s := (s.resetRegionOf r.code).wr r.code FAB_PHASE 0 2
      (s.wr 7 BST_SCAN_REG 0 r.code).wr 7 M_BST_SCAN_STATE 0 2))

end Sys2Proof.Machine
end

