-- ==== Sys2Proof/Machine/Power.lean ====
section
/-! DEFINITION. Clocks, supplies and power states of a lane: the clock input, the rails, DVFS points, the state-change
handshake, LOCK WATCH and MOORED with retention and wake sources (R22, R24, R507 to R534, R569). -/

namespace Sys2Proof.Machine

open Par Var

/-! ### Clocks -/

/-- The clock of an island in kHz at the present point (R511, R517); AON's 32,768 Hz to the nearest kHz. -/
def State.islandKhz (s : State) (l : LaneId) (i : Nat) : Nat :=
  let pt := s.rd l.reg CLK_POINT
  let cfg := s.rd l.reg CLK_ISL_CFG pt
  let core := if pt = 0 then 400000 else if pt = 1 then 300000 else 150000
  match i with
  | 0 => core
  | 1 => if bit cfg 0 then core / 2 else core
  | 2 => if bits cfg 4 3 = 1 then 100000 else 200000
  | 3 => if bits cfg 2 1 = 1 then 100000 else 200000
  | 4 => if bits cfg 6 5 = 1 then 50000 else 100000
  | 5 => 40000
  | 6 => 125000
  | _ => 33

/-- The island clocks as they stand (R509, R511): all but AON on the RC oscillator in fallback; CORE and CEN at 100 MHz
while PLL_C relocks (R518). -/
def State.clkSet (s : State) (l : LaneId) : State :=
  (List.range 8).foldl (fun s i =>
    let f := if i = 7 then 33
      else if s.rd l.reg CLK_STATE = 3 then 50000
      else if i < 2 ∧ s.rdB l.reg PWR_DVFS_TO then 100000
      else s.islandKhz l i
    s.wr l.reg CLK_FREQ i f) s

/-- The clock output of a lane: the frequency in kHz of the island it carries and the divider, none while it is driven low: switched off, the lane
in reset or on RC fallback (R513). Codes 8 to 14 name no island; the output stays low under them (DESIGN CHOICE, log 72). -/
def State.clkout (s : State) (l : LaneId) : Option (Nat × Nat) :=
  let c := s.rd l.reg CLK_CLKOUT
  if c % 16 > 7 ∨ !s.on l.reg ∨ s.rd l.reg CLK_STATE = 3 then none else some (s.rd l.reg CLK_FREQ (c % 16), c / 16 + 1)

/-- CLKIN_QUALIFIED (R508): the PLLs released and locked; dips that restarted the qualification are counted; a lane that
fell back on RC leaves it here, and the wire of source 2 falls (R509). -/
def execClkinQualified (l : LaneId) (restarts : Nat) (s : State) : Host.Outcome State Fault Refusal :=
  .next (
    if s.hasRegion l.reg && s.rdB l.reg INT_POWERED && s.rd l.reg FAB_PHASE == 0 && s.rd l.reg PWR_STATE < 2 then
      let s := (s.bumpBy l.reg CLK_CNT_QUAL_RESTART 0 restarts).wr l.reg CLK_STATE 0 2
      (s.clkSet l).release l.reg 2
    else s)

/-- A switch of every island but AON that no edge of the old clock completed (R510). -/
def State.forcedSwitches (s : State) (l : LaneId) : State :=
  (s.bumpBy l.reg CLK_CNT_SWITCH_FORCED 0 7).wr l.reg CLK_LAST_SWITCH 0 (withCycle (6 + 8) (s.cycle l))

/-- CLKIN_LOSS (R509): the lane on RC fallback, its Towline silent, source 2 asserted; a lane in state out, which starts no
reaction, is reset at once. -/
def execClkinLoss (l : LaneId) (s : State) : Host.Outcome State Fault Refusal :=
  .next (if s.on l.reg && s.rd l.reg CLK_STATE == 2 then
      let s := (s.wr l.reg CLK_STATE 0 3).bump l.reg CLK_CNT_LOSS
      let s := ((s.forcedSwitches l).clkSet l).raise l.reg 2 true
      if s.vstate l = 4 then ((s.stampReset l.reg 2 false).resetLane l).wr l.reg CLK_STATE 0 3 else s
    else s)

/-! ### Supplies -/

/-- M and S start with the first supply of any lane (R24, R563). -/
def State.powerShared (s : State) : State :=
  [7, 8].foldl (fun s r =>
    if s.hasRegion r && !s.rdB r INT_POWERED then
      let s := s.wr r INT_POWERED 0 1
      if r = 7 then s.raiseEpoch 7 else s
    else s) s

/-- The supply manager of a lane starts (R515): the lane die and its power die are powered, in phase START, with the region
epoch raised, and the gate supply not yet above 9.0 V for 1 ms (R205, R456, R561). -/
def State.supplyUp (s : State) (l : LaneId) : State :=
  let s := (s.wr l.reg INT_POWERED 0 1).wr l.pow INT_POWERED 0 1
  let s := (((s.wr l.pow SUP_STATE 0 2).wr l.pow GDR_VGD_BAD 0 1).raiseEpoch l.reg).wr l.reg INT_ON_AT 0 s.now
  s.powerShared

/-- A lane of the package is in LOCK WATCH. -/
def State.watching (s : State) : Bool := s.lanesOf.any (fun x => s.rd x.reg PWR_STATE == 2)

/-- VSUP_START (R515): VSUP above 6.0 V for 1 ms. A supply that returns during LOCK WATCH wakes the package with code 8
(R530). -/
def execVsupStart (l : LaneId) (s : State) : Host.Outcome State Fault Refusal :=
  .next (if s.hasRegion l.reg && !s.rdB l.reg INT_POWERED then
      let w := s.watching
      let s := s.supplyUp l
      if w then ((s.wr l.reg PWR_LAST_WAKE 0 8).bump l.reg PWR_CNT_WAKE 8).send (.wake l) else s
    else s)

/-- A lane die and its power die without their volatile state; a short that was held ends in FREE, the gate supply is
gone (R176, R205, R222); its next start is one from supply and raises the region epoch (R456, R561). -/
def State.coldLane (s : State) (l : LaneId) : State :=
  let e := s.rd l.reg FAB_REGION_EPOCH
  let t := s.opTime l
  let s := ((s.resetLane l).wr l.reg FAB_REGION_EPOCH 0 e).wr l.reg BST_OP_TIME 0 t
  let s := (s.wr l.pow GDR_VGD_BAD 0 1).wr l.reg INT_REJOINING 0 0
  (List.range 6).foldl (fun s b =>
    (s.wr l.reg CMT_STATE b (if s.rd l.reg CMT_STATE b = 4 then 3 else 0)).wr l.pow GDR_GATES b 0) s

/-- M and S lose their rail with the last lane supply (R24). -/
def State.sharedDown (s : State) : State :=
  if s.lanesOf.any (fun x => s.rdB x.reg INT_POWERED) then s
  else
    let e := s.rd 7 FAB_REGION_EPOCH
    let s := ((s.resetM).wr 7 FAB_REGION_EPOCH 0 e).wr 7 INT_POWERED 0 0
    (s.resetS).wr 8 INT_POWERED 0 0

/-- SUPPLY_LOSS (R22, R515): the lane's dies are without supply; its gates fall low. -/
def execSupplyLoss (l : LaneId) (s : State) : Host.Outcome State Fault Refusal :=
  .next (if s.hasRegion l.reg && s.rdB l.reg INT_POWERED then
      let s := ((s.coldLane l).wr l.reg INT_POWERED 0 0).wr l.pow INT_POWERED 0 0
      s.sharedDown
    else s)

/-- VSUP_OVERVOLT (R515). -/
def execVsupOvervolt (l : LaneId) (s : State) : Host.Outcome State Fault Refusal :=
  .next (if s.on l.pow then (s.wrBit l.pow SUP_FAULT 0 1 true).bump l.pow SUP_CNT_OVERVOLT else s)

/-- RAIL_FAULT (R516): `rail` is the bit of `SUP.FAULT`: 0 VSUP below 5.5 V, 2 VIO, 3 VAUX, 4 VCORE. -/
def execRailFault (l : LaneId) (rail : Nat) (s : State) : Host.Outcome State Fault Refusal :=
  .next (if s.on l.reg ∧ (rail = 0 ∨ (2 ≤ rail ∧ rail ≤ 4)) then
      let s := (s.wrBit l.pow SUP_FAULT 0 rail true).bump l.pow SUP_CNT_RAIL_ERR
      let s := if rail = 0 then s.bump l.pow SUP_CNT_BROWNOUT else s.wr l.pow SUP_STATE 0 3
      let s := s.raise l.reg 3 true
      if rail = 0 then s else s.raise l.pow 8 true
    else s)

/-! ### The handshake (R521, R522) -/

/-- The parties a change is offered to: the blocks of the lane die and its power die, and for LOCK WATCH and MOORED also S
and M unless lost, by block code (0x30 for S, 0x40 for M). -/
def State.parties (s : State) (l : LaneId) (req : Nat) : List Nat :=
  (List.range 0x30).filter (fun b => (b < 0x20 && blockIn l.reg b) || (b ≥ 0x20 && s.hasRegion l.pow && blockIn l.pow b)) ++
    (if req ≥ 2 && !s.rdB l.reg INT_S_LOST then [0x30] else []) ++
    (if req ≥ 2 && s.hasRegion 7 && !s.rdB l.reg INT_M_LOST then [0x40] else [])

/-- A lane change of the last offer recorded (R521, R533). -/
def State.stampChange (s : State) (l : LaneId) (done : Bool) (party reason : Nat) : State :=
  s.wr l.reg PWR_LAST_CHANGE 0 (withCycle (s.rd l.reg PWR_REQ % 8 + 8 * b2n done + party % 256 * 16 + reason % 16 * 4096) (s.cycle l))

/-- A change refused or aborted: every block back in its previous state (R521, R522). -/
def State.abortChange (s : State) (l : LaneId) (party reason : Nat) : State :=
  if s.rd l.reg PWR_STATE ≠ 4 then s
  else
    let s := ((s.stampChange l false party reason).bump l.reg PWR_CNT_REFUSE).wr l.reg PWR_STATE 0 (s.rd l.reg PWR_PREV)
    let s := if s.rd l.reg PWR_REQ ≥ 2 then s.wr l.reg PWR_HS_RESULT 0 2 else s
    (List.range 256).foldl (fun s p => s.wr l.reg PWR_HS_STATE p 0) s

/-- A package change aborted from outside the handshake: a trip applied, WAKE_x, a change of mode, a peer (R522). -/
def State.abortPackage (s : State) (l : LaneId) : State :=
  if s.rd l.reg PWR_STATE = 4 ∧ s.rd l.reg PWR_REQ ≥ 2 then s.abortChange l 0x0C 11 else s

/-- The reason for which a party must refuse, where its condition holds (R521, R157). -/
def State.mustRefuse (s : State) (l : LaneId) (party : Nat) : Option Nat :=
  let req := s.rd l.reg PWR_REQ
  let st := (List.range 6).map (fun b => s.rd l.reg CMT_STATE b)
  match party with
  | 0x10 => if req ≥ 1 && (st.contains 1 || st.contains 2 || (req ≥ 2 && st.contains 4)) then some 1 else none
  | 0x30 => if !s.allEngaged l then some 2 else if s.rd 8 FAB_LOCK_STATE 0 = 1 then some 6 else none
  | 0x11 => if req ≥ 1 && !s.brakesSlow l then some 3 else none
  | 0x0A => if s.rd l.reg BST_STATE ≠ 0 then some 4 else none
  | 0x01 => if !(s.lane l).wbe.consists.isEmpty || !(s.lane l).wbe.commitQ.isEmpty then some 5 else none
  | 0x40 =>
    if s.rd 7 FAB_LOCK_STATE 0 = 1 ∨ s.rd 7 FAB_LOCK_STATE 1 = 1 then some 6
    else if s.rd 7 UPD_STATE % 8 ≥ 1 ∧ s.rd 7 UPD_STATE % 8 ≤ 3 then some 7 else none
  | 0x1A => if s.rd l.reg VOT_MODE = 2 ∨ s.rd l.reg VOT_MODE = 3 then some 10 else none
  | _ => none

/-- A change of one lane completed (R522). -/
def State.completeChange (s : State) (l : LaneId) : State :=
  ((s.stampChange l true 0 0).wr l.reg PWR_STATE 0 (s.rd l.reg PWR_REQ)).clkSet l

/-- Every party has accepted: a change of one lane moves its DVFS point; a change of the package shows its result (R521,
R522). -/
def State.hsAccepted (s : State) (l : LaneId) : State :=
  let s := (List.range 256).foldl (fun s p => s.wr l.reg PWR_HS_STATE p 0) s
  if s.rd l.reg PWR_REQ ≥ 2 then s.wr l.reg PWR_HS_RESULT 0 1
  else if s.rd l.reg PWR_REQ_POINT = s.rd l.reg CLK_POINT then s.completeChange l
  else (s.wr l.reg PWR_DVFS_TO 0 (s.rd l.reg PWR_REQ_POINT + 1)).clkSet l

/-- A party's answer (R521). -/
def State.hsAnswer (s : State) (l : LaneId) (party : Nat) (a : HsAnswer) : State :=
  if s.rd l.reg PWR_STATE ≠ 4 ∨ s.rd l.reg PWR_HS_STATE party ≠ 1 then s
  else match s.mustRefuse l party, a with
    | some r, _ => s.abortChange l party r
    | none, .refuse r => s.abortChange l party r
    | none, .delay _ =>
      let s := (s.bump l.reg PWR_CNT_DELAY).bump l.reg PWR_HS_DELAYS party
      if s.rd l.reg PWR_HS_DELAYS party ≥ 4 then s.abortChange l party 9 else s.wr l.reg PWR_HS_STATE party 3
    | none, .accept =>
      let s := s.wr l.reg PWR_HS_STATE party 2
      if (s.parties l (s.rd l.reg PWR_REQ)).all (fun p => s.rd l.reg PWR_HS_STATE p == 2) then s.hsAccepted l else s

/-- HANDSHAKE_ANSWER (R521). -/
def execHandshakeAnswer (l : LaneId) (party : Nat) (a : HsAnswer) (s : State) : Host.Outcome State Fault Refusal :=
  .next (s.whenUp l (fun s => s.hsAnswer l party a))

/-- HANDSHAKE_TIMEOUT (R521): no answer within 100 µs is a refusal. -/
def execHandshakeTimeout (l : LaneId) (party : Nat) (s : State) : Host.Outcome State Fault Refusal :=
  .next (s.whenUp l (fun s => if s.rd l.reg PWR_HS_STATE party = 1 then s.abortChange l party 8 else s))

/-- HANDSHAKE_DELAY_END (R521): the change is offered again. -/
def execHandshakeDelayEnd (l : LaneId) (party : Nat) (s : State) : Host.Outcome State Fault Refusal :=
  .next (s.whenUp l (fun s =>
    if s.rd l.reg PWR_STATE = 4 ∧ s.rd l.reg PWR_HS_STATE party = 3 then s.wr l.reg PWR_HS_STATE party 1 else s))

/-- HANDSHAKE_ABORT_TIMEOUT (R522): 500 ms have passed. -/
def execHandshakeAbortTimeout (l : LaneId) (s : State) : Host.Outcome State Fault Refusal :=
  .next (s.whenUp l (fun s => s.abortPackage l))

/-- The checks of POWER_STATE (R531). -/
def State.chkPower (s : State) (l : LaneId) (h : Hdr) (state point : Nat) : Option Rsp :=
  firstFail [failIf (decide (state > 3)) (rRange 0 16),
    failIf (h.voted != decide (state ≥ 2)) (rRange 0 1),
    failIf (h.port == .can1) (rRange 0 2),
    failIf (if state = 1 then point != 1 && point != 2 else point != 0) (rRange 0 17),
    failIf (s.rd l.reg PWR_STATE == 4) (rRange (PWR_STATE.id l.reg 0) 0)]

/-- POWER_STATE at effect: the handshake starts, every party is offered the change, and for a package change the tables of
R284 are saved where it leads to MOORED (R521, R569). A lane in shadow runs no handshake (R522). -/
def State.effPower (s : State) (l : LaneId) (state point : Nat) : State :=
  if state ≥ 2 ∧ s.vstate l = 0 then s
  else
    let s := (s.wr l.reg PWR_PREV 0 (s.rd l.reg PWR_STATE)).wr l.reg PWR_STATE 0 4
    let s := (s.wr l.reg PWR_REQ 0 state).wr l.reg PWR_REQ_POINT 0 point
    let s := if state ≥ 2 then (s.wr l.reg PWR_HS_RESULT 0 0).wr l.reg PWR_HS_CYCLE 0 (s.cycle l) else s
    let s := (s.parties l state).foldl (fun s p => (s.wr l.reg PWR_HS_STATE p 1).wr l.reg PWR_HS_DELAYS p 0) s
    let s := if state ≥ 2 then (s.send (.offer l .s state)).send (.offer l .m state) else s
    if state = 3 then (List.range 8).foldl (fun s r => s.rpcSave l r) s else s

/-- POWER_STATE (R531). -/
def execPowerState (l : LaneId) (h : Hdr) (state point : Nat) (s : State) : Host.Outcome State Fault Refusal :=
  .next (s.whenHost l (fun s => s.perform l h 0x0701 (s.chkPower l h state point) (s.effPower l state point, rOk)))

/-- DVFS_CHANGE_COMPLETE (R518): frequency and VCORE settled; bridges whose start waited for point 0 enter CAPTURE
(R519). -/
def execDvfsChangeComplete (l : LaneId) (point : Nat) (s : State) : Host.Outcome State Fault Refusal :=
  .next (s.whenUp l (fun s =>
    if s.rd l.reg PWR_DVFS_TO ≠ point + 1 ∨ point > 2 then s
    else
      let s := (s.wr l.reg PWR_DVFS_TO 0 0).wr l.reg CLK_POINT 0 point
      let s := s.wr l.pow SUP_VCORE_SET 0 (if point = 0 then 900 else if point = 1 then 800 else 720)
      let s := if s.rd l.reg PWR_STATE = 4 ∧ s.rd l.reg PWR_REQ ≤ 1 then s.completeChange l
        else if s.rd l.reg PWR_STATE = 1 ∧ point = 0 then (s.wr l.reg PWR_STATE 0 0).clkSet l else s.clkSet l
      let m := s.rd l.reg PWR_START_MASK
      if m = 0 ∨ point ≠ 0 then s
      else (bridgesOf m).foldl (fun s b => s.startAlso l b) (s.wr l.reg PWR_START_MASK 0 0)))

/-! ### Entry into LOCK WATCH and MOORED (R522, R524) -/

/-- The parameters and variables of bank 7: VOT record, digest, staff view, mode and cause (R528). -/
def bank7 : List PDesc := [VOT_DIGEST, VOT_MODE, VOT_MODE_CAUSE, VOT_NET_STATE, VOT_DI_FAILED, STF_HOLDER, STF_EPOCH, STF_HEARD, STF_LEASE_MS]

/-- The first bank a value of a lane is retained in: 4 compare table and SDC, 7 the vote record, 8 RPC, 12 CEN, 13 FBI,
14 SIO; none for what is not retained or stands in MRAM (R528). -/
def bankOf (k : PKey) : Option Nat :=
  if keptAtReset k then none
  else if bank7.any (fun d => k.isOf d) then some 7
  else match k.block % 0x80 with
    | 0x16 => some 4 | 0x13 => some 8 | 0x12 => some 12 | 0x15 => some 13 | 0x17 => some 14 | _ => none

/-- The retention banks of a lane as they stand (R528). -/
def State.retain (s : State) (l : LaneId) : Retained :=
  { values := s.params.filter (fun e => e.1.region == l.reg && (bankOf e.1).isSome), table := (s.lane l).table,
    fbi := (s.lane l).fbi, agreed := (s.lane l).vot.agreed, minority := (s.lane l).vot.minority }

/-- The positions of the creep channels stored at entry (R525). -/
def State.storeCreep (s : State) (l : LaneId) (x : List FbiCh) : State :=
  (List.range 8).foldl (fun s ch =>
    if bit (s.rd l.reg PWR_CREEP_CH) ch then s.wr l.reg PWR_CREEP_POS ch (twos 32 (x.getD ch {}).count) else s) s

/-- S saves its latch states and, with M, goes to sleep once every lane of the part has (R524). -/
def State.sharedSleep (s : State) : State :=
  if s.lanesOf.all (fun x => s.rd x.reg PWR_STATE == 2 || s.rd x.reg PWR_STATE == 3 || !s.rdB x.reg INT_POWERED) then
    let s := if s.sUp then s.wr 8 ATH_SAVED 0 (65536 + s.rd 8 ATH_LATCH_STATE) else s
    let e := s.rd 7 FAB_REGION_EPOCH
    let s := ((s.resetM).wr 7 FAB_REGION_EPOCH 0 e).wr 7 INT_POWERED 0 0
    (s.resetS).wr 8 INT_POWERED 0 0
  else s

/-- A lane enters LOCK WATCH (2) or MOORED (3): the staff released, the banks signed, everything else off; in MOORED the
shutdown test first where `SHUTDOWN_EN` asks for it (R524, R569). -/
def State.sleepLane (s : State) (l : LaneId) (st : Nat) : State :=
  let s := if s.rd l.reg STF_HOLDER = l.reg then s.releaseStaff l 0 else s
  let s := s.stampChange l true 0 0
  let change := s.rd l.reg PWR_LAST_CHANGE
  let keep := s.retain l
  let test := st == 3 && s.rdB l.reg BST_SHUTDOWN_EN
  let s := ((s.coldLane l).wr l.reg PWR_STATE 0 st).wr l.reg PWR_SLEEP_AT 0 s.now
  let s := (s.wr l.reg PWR_LAST_CHANGE 0 change).wr l.reg INT_ON_AT 0 s.now
  let s := if st = 2 then (s.modLane l (fun x => { x with ret := some keep })).storeCreep l keep.fbi else s
  let s := if test then ((s.wr l.reg BST_STATE 0 4).wr l.reg FAB_PHASE 0 2).wr l.pow FAB_PHASE 0 2 else s
  s.sharedSleep

/-- The handshake at a common latch instant (R522): a voting lane that shows 2 aborts; with every voting lane at 1 the lane
enters the new state. -/
def State.powerLatch (s : State) (l : LaneId) : State :=
  if s.rd l.reg PWR_STATE ≠ 4 ∨ s.rd l.reg PWR_REQ < 2 ∨ s.rd l.reg PWR_HS_CYCLE = s.cycle l then s
  else
    let shown := (s.votingLanes l).map (fun x =>
      if x = l then s.rd l.reg PWR_HS_RESULT
      else ((((s.lane l).vot.inputs.find? (fun m => m.lane == x && m.cycle == s.cycle l)).map InputMsg.hs).getD 0))
    if shown.contains 2 then s.abortPackage l
    else if shown.all (fun v => v == 1) then s.sleepLane l (s.rd l.reg PWR_REQ)
    else s

/-! ### Wake (R527 to R530) -/

/-- A lane wakes: cause and time recorded, counted; from LOCK WATCH it signals the package unless a peer woke it; from
MOORED M and S start with it (R527, R529, R530, R563). -/
def State.wakeLane (s : State) (l : LaneId) (code info : Nat) : State :=
  let st := s.rd l.reg PWR_STATE
  let ms := satNat 32 ((s.now - s.rd l.reg PWR_SLEEP_AT) / 1000000)
  let s := (s.wr l.reg PWR_LAST_WAKE 0 (code + info % 16 * 16 + ms * 2 ^ 32)).bump l.reg PWR_CNT_WAKE code
  let s := ((s.wr l.reg PWR_STATE 0 0).raiseEpoch l.reg).wr l.pow SUP_STATE 0 2
  let s := if st = 3 then (s.wr l.reg INT_ON_AT 0 s.now).powerShared else s
  if st = 2 ∧ code ≠ 4 then s.send (.wake l) else s

/-- A lane in LOCK WATCH. -/
def State.asleep (s : State) (l : LaneId) : Bool := s.hasRegion l.reg && s.rdB l.reg INT_POWERED && s.rd l.reg PWR_STATE == 2

/-- PEER_WAKE (R527): a wake signal for 100 µs wakes a lane with code 4, and M and S. A wake that a creep began is a creep
wake in every lane (R527). -/
def execPeerWake (r : Region) (from' : LaneId) (s : State) : Host.Outcome State Fault Refusal :=
  .next (
    match LaneId.ofReg r.code with
    | some l =>
      if s.asleep l then (s.wakeLane l 4 from'.reg).wr l.reg PWR_CREEP_WOKE 0 (s.rd from'.reg PWR_CREEP_WOKE) else s
    | none => if (r.code = 7 ∨ r.code = 8) ∧ s.hasRegion r.code ∧ !s.rdB r.code INT_POWERED ∧
          s.lanesOf.any (fun x => s.rdB x.reg INT_POWERED) then
        let s := s.wr r.code INT_POWERED 0 1
        if r.code = 7 then s.raiseEpoch 7 else s
      else s)

/-- WAKE_PIN (R529): a wake from LOCK WATCH or MOORED; during a shutdown test the lane wakes after it (R571); between
agreement and entry it aborts the change (R522). -/
def execWakePin (l : LaneId) (s : State) : Host.Outcome State Fault Refusal :=
  .next (
    if s.asleep l then s.wakeLane l 1 0
    else if s.hasRegion l.reg ∧ s.rdB l.reg INT_POWERED ∧ s.rd l.reg PWR_STATE = 3 then
      if s.rd l.reg FAB_PHASE = 2 then s.wr l.reg PWR_WAKE_PEND 0 1 else s.wakeLane l 1 0
    else s.whenUp l (fun s => s.abortPackage l))

/-- WAKE_TIMER_EXPIRY (R530). -/
def execWakeTimerExpiry (l : LaneId) (s : State) : Host.Outcome State Fault Refusal :=
  .next (if s.asleep l && bit (s.rd l.reg PWR_WAKE_EN) 1 && s.rd l.reg PWR_WAKE_TIMER != 0 then s.wakeLane l 2 0 else s)

/-- WAKE_ACTIVITY (R530): on a host port, or on Towline. -/
def execWakeActivity (l : LaneId) (hostPort : Bool) (s : State) : Host.Outcome State Fault Refusal :=
  .next (if s.asleep l && bit (s.rd l.reg PWR_WAKE_EN) (if hostPort then 4 else 3) then s.wakeLane l (if hostPort then 6 else 5) 0
    else s)

/-- RETENTION_DROOP (R528). -/
def execRetentionDroop (l : LaneId) (s : State) : Host.Outcome State Fault Refusal :=
  .next (if s.asleep l then s.wakeLane l 7 0 else s)

/-! ### Creep (R525 to R527) -/

/-- The mean of some integers, to nearest. -/
def meanInt (xs : List Int) : Int := if xs.isEmpty then 0 else roundQ ((xs.sum : Rat) / ((xs.length : Nat) : Rat))

/-- The difference of a sample from the stored position: modulo a signal period for SINCOS (R526). -/
def State.creepDiff (s : State) (l : LaneId) (x : CreepSample) : Nat :=
  let p0 : Int := sgn 32 (s.rd l.reg PWR_CREEP_POS x.ch)
  if s.fmode l x.ch = 1 then
    let m : SinCos := ⟨x.ch, meanInt (x.pairs.map SinCos.sin), meanInt (x.pairs.map SinCos.cos)⟩
    let n := s.rd l.reg FBI_SC_BITS x.ch
    (sgn n (twos n ((s.scPhase l m : Int) - p0))).natAbs
  else match x.frame with
    | some f =>
      let w := s.rd l.reg FBI_SSI_POS_W x.ch
      (sgn w (twos w ((s.ssiPos l x.ch f.1 : Int) - p0))).natAbs
    | none => 0

/-- A sample that cannot be used: a pair outside the amplitude window, a rejected or missing frame (R526). -/
def State.creepBad (s : State) (l : LaneId) (x : CreepSample) : Bool :=
  if s.fmode l x.ch = 1 then
    x.pairs.any (fun p =>
      let a := s.scAmp l { p with ch := x.ch } * 100
      decide (a < (s.rd l.reg FBI_SC_WIN_LO : Rat) ∨ a > (s.rd l.reg FBI_SC_WIN_HI : Rat)))
  else match x.frame with
    | some f => s.ssiBad l x.ch f.1 f.2
    | none => true

/-- A sample finds creep (R526). -/
def State.findsCreep (s : State) (l : LaneId) (x : CreepSample) : Bool :=
  bit (s.rd l.reg PWR_CREEP_CH) x.ch && (s.creepBad l x || decide (s.creepDiff l x > s.rd l.reg PWR_CREEP_TH))

/-- CREEP_SAMPLE (R525): the lane that finds creep wakes with code 3 and the channel. -/
def execCreepSample (l : LaneId) (smp : List CreepSample) (s : State) : Host.Outcome State Fault Refusal :=
  .next (if !s.asleep l then s
    else match smp.find? (fun x => s.findsCreep l x) with
      | some x => (s.wakeLane l 3 x.ch).wr l.reg PWR_CREEP_WOKE 0 1
      | none => s)

/-! ### Retention at wake (R528) -/

/-- The retained values of a bank written back, from region `from'`. -/
def State.putBank (s : State) (l : LaneId) (ret : Retained) (bank from' : Nat) : State :=
  let vs := ret.values.filter (fun e => bankOf e.1 == some bank)
  let s := { s with params := vs.foldl (fun m e =>
    m.put { e.1 with region := if e.1.region = from' then l.reg else e.1.region } e.2) s.params }
  match bank with
  | 4 => s.modLane l (fun x => { x with table := ret.table })
  | 7 => s.modVot l (fun x => { x with agreed := ret.agreed, minority := ret.minority })
  | 13 => s.modLane l (fun x => { x with fbi := ret.fbi })
  | _ => s

/-- Every ESTOP and SECTIONS_OFF pair treated as tripped until reset (R528). -/
def State.tripAll (s : State) (l : LaneId) : State :=
  (List.range 8).foldl (fun s p =>
    let f := s.rd l.reg SIO_PAIR_FUNC p
    if f = 1 ∨ f = 2 then (s.wrBit l.reg SIO_TRIP 0 p true).wrBit l.reg SIO_TRIP 0 (7 + f) true else s) s

/-- A group of a lane's volatile state as the restored configuration starts it: the section control from its source, the
enabled controllers of RPC, the closed general loops of CEN bumplessly, the feedback channels (R252, R279, R284, R562). -/
def State.coldGroup (s : State) (l : LaneId) (g : Nat) : State :=
  match g with
  | 4 => s.srcCommitted l
  | 8 => (List.range 8).foldl (fun s r => if s.rdB l.reg RPC_EN r then s.rpcEnable l r else s) s
  | 12 => (List.range 48).foldl (fun s n => if n ≥ 12 && s.rdB l.reg CEN_MODE n then s.cenClosed l n else s) s
  | 13 => (List.range 8).foldl (fun s ch => s.chConfigured l ch) s
  | _ => s

/-- A bank that failed and no peer can give (R528): SDC void until TABLE_LOAD, trips in force, else as at a cold start. -/
def State.bankLost (s : State) (l : LaneId) (g : Nat) : State :=
  let s := s.coldGroup l g
  match g with
  | 4 => ((s.wr l.reg SDC_RET_LOST 0 1).setVoid l 4).sdcReport l
  | 14 => s.tripAll l
  | _ => s

/-- The banks of each group by its first. -/
def banksOf : Nat → List Nat
  | 4 => [4, 5, 6] | 8 => [8, 9, 10, 11] | b => [b]

/-- One group of banks at wake: its own where it passed, a peer's copy as it stood at entry where it failed (R528). -/
def State.wakeGroup (s : State) (l : LaneId) (keep : Retained) (bad g : Nat) : State :=
  if !(banksOf g).any (fun b => bit bad b) then s.putBank l keep g l.reg
  else if g = 13 then s.coldGroup l 13
  else match (s.peersOf l).find? (fun p => (s.lane p).ret.isSome) with
    | some p => match (s.lane p).ret with
      | some r => s.putBank l r g p.reg
      | none => s.bankLost l g
    | none => s.bankLost l g

/-- The retention checked and used at the start that follows LOCK WATCH (R528). -/
def State.useRetention (s : State) (l : LaneId) (bad : Nat) : State :=
  match (s.lane l).ret with
  | none => s
  | some keep =>
    let bad := bad % 65536
    let s := ([4, 7, 8, 12, 13, 14].foldl (fun s g => s.wakeGroup l keep bad g) s).fbiWake l
    let ns := (List.range 16).filter (fun n => bit bad n)
    let s := (s.wr l.reg PWR_RET_STATUS 0 bad).bumpBy l.reg PWR_CNT_RET_FAIL 0 ns.length
    ns.foldl (fun s n => s.tell l.reg n 9) s

/-- RETENTION_RESTORE_REQUEST (R528): a peer sends its bank as it stood at entry. -/
def execRetentionRestoreRequest (l : LaneId) (from' : LaneId) (bank : Nat) (s : State) : Host.Outcome State Fault Refusal :=
  .next (if s.on l.reg ∧ (s.lane l).ret.isSome ∧ bank < 16 then s.send (.bank l from' bank) else s)

end Sys2Proof.Machine
end

