-- ==== Sys2Proof/Machine/Fabric.lean ====
section
/-! DEFINITION. The fabric of a region with its arbiter and counters, the locks on shared resources with their journals,
memory lines with repair, and touches of gated blocks (R446 to R471, R538). -/

namespace Sys2Proof.Machine

open Par Var

/-! ### The arbiter (R447 to R454) -/

/-- The number of requesters of a region's fabric (R447). -/
def requesters (r : Nat) : Nat :=
  match kindOf r with
  | .lane => 14 | .power => 4 | .m => 8 | .s => 7 | .every => 0

/-- The class of a requester: 0 critical, 1 foreground, 2 background. -/
def State.reqClass (s : State) (r q : Nat) : Nat := s.rd r FAB_CLASS q

/-- The next requester round robin among some, starting after the one last granted. -/
def roundRobin (n last : Nat) (qs : List Nat) : Option Nat :=
  ((List.range n).map (fun i => (last + i) % n)).find? (fun q => qs.contains q)

/-- The grant among requesters of the same share of the order: the highest priority, round robin within it (R449). -/
def State.byPrio (s : State) (r : Nat) (qs : List Nat) : Option Nat :=
  match (List.range 16).find? (fun p => qs.any (fun q => s.rd r FAB_PRIO q == p)) with
  | none => none
  | some p => roundRobin (requesters r) (s.rd r FAB_RR p) (qs.filter (fun q => s.rd r FAB_PRIO q == p))

/-- The grant: a critical requester in ascending order; a background requester whose share is due; then by priority (R449,
R450). The second part says whether it is a share grant. -/
def State.fabArbitrate (s : State) (r : Nat) (qs : List Nat) : Option (Nat × Bool) :=
  match (List.range (requesters r)).find? (fun q => qs.contains q && s.reqClass r q == 0) with
  | some q => some (q, false)
  | none =>
    let due := qs.filter (fun q => s.reqClass r q == 2 && decide (s.rd r FAB_BG_WAIT q ≥ 15))
    match s.byPrio r due with
    | some q => some (q, true)
    | none => (s.byPrio r qs).map (fun q => (q, false))

/-- A fabric counter counts outside RUN only (R454). -/
def State.fabCount (s : State) (r : Nat) (d : PDesc) (q n : Nat) : State :=
  if s.rd r FAB_PHASE = 1 then s else s.bumpBy r d q n

/-- A grant taken: the owner, the round robin place of its priority, the waits of background requesters, the counters
(R448 to R450, R454). -/
def State.grant (s : State) (r q : Nat) (share : Bool) (reqs : List FabReq) : State :=
  let w := match reqs.find? (fun x => x.q == q) with
    | some x => x.waited
    | none => 0
  let s := s.wr r FAB_OWNER 0 (q + 1)
  let s := if s.reqClass r q = 0 then s else s.wr r FAB_RR (s.rd r FAB_PRIO q) (q + 1)
  let s : State := match s.reqClass r q with
    | 1 => reqs.foldl (fun (s : State) (x : FabReq) => if s.reqClass r x.q = 2 then s.wr r FAB_BG_WAIT x.q (min 255 (s.rd r FAB_BG_WAIT x.q + 1)) else s) s
    | 2 => reqs.foldl (fun (s : State) (x : FabReq) => s.wr r FAB_BG_WAIT x.q 0) s
    | _ => s
  let s := (s.fabCount r FAB_CNT_GRANT q 1).fabCount r FAB_CNT_WAIT q w
  let s := if s.rd r FAB_PHASE = 1 then s else s.wr r FAB_MAX_WAIT q (max (satNat 16 w) (s.rd r FAB_MAX_WAIT q))
  if share then s.fabCount r FAB_CNT_BG_FORCED 0 1 else s

/-! ### Memory lines (R462, R466) -/

/-- The check of a line: over the address bits [31:5] as four bytes, then the 32 bytes (R462). -/
def lineCrc (line : Nat) (data : List Byte) : Nat := crc16 (toLe 4 line ++ data)

/-- The bytes of a line as a master reads it; a line nothing has written (an SRAM line: since the lane's reset) holds zeros (DESIGN
CHOICE, log 64); a line of the RPC tables holds eight of their entries (R464). -/
def State.lineBytes (s : State) (l : LaneId) (line : Nat) : List Byte :=
  match s.tblLine l line with
  | some first => s.tblBytes l first
  | none => match (s.lane l).mem.find? (fun m => m.line == line) with
    | some m => m.data
    | none => List.replicate 32 0

/-- The check that stands beside a line. -/
def State.lineCheck (s : State) (l : LaneId) (line : Nat) : Nat :=
  if (s.tblLine l line).isSome then lineCrc line (s.lineBytes l line)
  else match (s.lane l).mem.find? (fun m => m.line == line) with
    | some m => m.crc
    | none => lineCrc line (List.replicate 32 0)

/-- A checked read: the bytes, or none as the data-error response where the line is poisoned or its check does not hold (R462,
R466). -/
def State.readLine (s : State) (l : LaneId) (line : Nat) : Option (List Byte) :=
  if (s.lane l).poisoned.contains line || s.lineCheck l line != lineCrc line (s.lineBytes l line) then none
  else some (s.lineBytes l line)

/-- A line placed among those written, in ascending order. -/
def putLine (m : MemLine) : List MemLine → List MemLine
  | [] => [m]
  | x :: r => if x.line < m.line then x :: putLine m r else if x.line = m.line then m :: r else m :: x :: r

/-- A line written whole, with its check; that clears its poison. A line of the RPC tables is written into their entries (R462, R464, R466). -/
def State.storeLine (s : State) (l : LaneId) (line : Nat) (data : List Byte) : State :=
  let d := padTo 32 (data.take 32)
  let s := s.modLane l (fun x => { x with poisoned := x.poisoned.filter (· != line) })
  let s := match s.tblLine l line with
    | some first => s.tblStore l first d
    | none => s.modLane l (fun x => { x with mem := putLine ⟨line, d, lineCrc line d⟩ x.mem })
  s.wr l.reg MEM_POISONED 0 (satNat 16 (s.lane l).poisoned.length)

/-- The line of 32 bytes with some of them replaced from an offset on. -/
def mergeLine (old : List Byte) (off : Nat) (data : List Byte) : List Byte :=
  old.take off ++ data.take (32 - off) ++ old.drop (off + data.length)

/-- One access of a burst: a read answers the bytes or a data error; a write of part of a line reads the line first, and where that read
fails nothing is written and the master gets the data error (R462, R466). -/
def State.lineXfer (s : State) (l : LaneId) (q : Nat) : LineXfer → State
  | .read line => s.send (.lineData l q line (s.readLine l line))
  | .write line off data =>
    if off = 0 ∧ data.length ≥ 32 then s.storeLine l line data
    else match s.readLine l line with
      | some old => s.storeLine l line (mergeLine old (off % 32) data)
      | none => s.send (.lineData l q line none)

/-- The burst of the requester granted, in a lane die. -/
def State.burst (s : State) (r q : Nat) (reqs : List FabReq) : State :=
  match LaneId.ofReg r, reqs.find? (fun x => x.q == q) with
  | some l, some x => x.xfer.foldl (fun s a => s.lineXfer l q a) s
  | _, _ => s

/-- A requester granted and served. -/
def State.serve (s : State) (r q : Nat) (share : Bool) (reqs : List FabReq) : State := (s.grant r q share reqs).burst r q reqs

/-- FAB_REQUEST (R448 to R450, R462): an arbitration among the requests; a requester that withdraws after its grant costs a dead
cycle and the grant is decided again among the others. -/
def execFabRequest (r : Region) (reqs : List FabReq) (withdrawn : Option Nat) (s : State) : Host.Outcome State Fault Refusal :=
  .next (if !s.hasRegion r.code then s
    else
      let r := r.code
      let reqs := reqs.filter (fun x => decide (x.q < requesters r))
      let first := s.fabArbitrate r (reqs.map (fun x => x.q))
      let back := match first, withdrawn with
        | some g, some q => g.1 == q
        | _, _ => false
      if back then
        let q := withdrawn.getD 0
        let s := s.fabCount r FAB_CNT_DEAD q 1
        let rest := reqs.filter (fun x => x.q != q)
        match s.fabArbitrate r (rest.map (fun x => x.q)) with
        | some g => s.serve r g.1 g.2 rest
        | none => s
      else match first with
        | some g => s.serve r g.1 g.2 reqs
        | none => s)

/-- FAB_CNT_CLEAR (R454): a 1 clears the counters of the arbiter. -/
def execFabCntClear (r : Region) (value : Bool) (s : State) : Host.Outcome State Fault Refusal :=
  .next (if value ∧ s.hasRegion r.code then
      let r := r.code
      let s := (List.range 16).foldl (fun s q =>
        [FAB_CNT_GRANT, FAB_CNT_WAIT, FAB_MAX_WAIT, FAB_CNT_DEAD].foldl (fun s d => s.wr r d q 0) s) s
      s.wr r FAB_CNT_BG_FORCED 0 0
    else s)

/-! ### Locks (R455 to R461) -/

/-- The space of a lock's journal in bytes (R455). -/
def journalCap (r u : Nat) : Nat := if r = 8 then 4096 else if u = 0 then 262144 else 16384

/-- The bytes of a pre-image: ID, epoch and padded value. The manual gives no layout (DESIGN CHOICE, log 35). -/
def jBytes (k : PKey) : Nat := 8 + (cdiv (widthOf k) 8 + 3) / 4 * 4

/-- The bytes a lock's journal uses. -/
def State.journalUsed (s : State) (r u : Nat) : Nat :=
  ((s.journal.filter (fun e => e.region == r && e.u == u)).map (fun e => jBytes e.key)).sum

/-- A lock's journal emptied. -/
def State.emptyJournal (s : State) (r u : Nat) : State :=
  { s with journal := s.journal.filter (fun e => !(e.region == r && e.u == u)) }.wr r FAB_LOCK_JOURNAL u 0

/-- The pre-images of a commit fit in the journal (R458). -/
def State.journalFits (s : State) (r u : Nat) (ks : List PKey) : Bool :=
  decide (s.journalUsed r u + (ks.map jBytes).sum ≤ journalCap r u)

/-- The pre-images of a commit appended (R458). -/
def State.journalAdd (s : State) (r u : Nat) (ks : List PKey) : State :=
  let e := s.rd r FAB_LOCK_EPOCH u
  let s := { s with journal := s.journal ++ ks.map (fun k => (⟨r, u, e, k, s.params.get k⟩ : JEntry)) }
  s.wr r FAB_LOCK_JOURNAL u (s.journalUsed r u)

/-- The region epoch of an owner as a shared die knows it (R456). -/
def State.ownerEpoch (s : State) (r owner : Nat) : Nat :=
  if owner = 7 then s.rd 7 FAB_REGION_EPOCH else s.rd r FAB_PEER_EPOCH owner

/-- A lock taken by an owner (R457). -/
def State.lockTo (s : State) (r u owner st : Nat) : State :=
  ((s.wr r FAB_LOCK_STATE u st).wr r FAB_LOCK_OWNER u owner).wr r FAB_LOCK_EPOCH u (s.ownerEpoch r owner)

/-- A lock FREE again, its journal emptied (R457, R458). -/
def State.lockFree (s : State) (r u : Nat) : State :=
  (((s.wr r FAB_LOCK_STATE u 0).wr r FAB_LOCK_OWNER u 0).wr r FAB_LOCK_EPOCH u 0).emptyJournal r u

/-- A HELD lock released where its owner has no open consist on the resource left and does not hold it (R457). -/
def State.lockRelease (s : State) (r u : Nat) : State :=
  if s.rd r FAB_LOCK_STATE u = 1 ∧ !s.rdB r FAB_LOCK_HOLD u ∧ !s.openOn r u (s.rd r FAB_LOCK_OWNER u) then s.lockFree r u else s

/-- The judgement of a waybill on a locked resource at check 14 (R457, R460, R461): `writes` is false for SET_STAGED. -/
def State.lockJudge (s : State) (r u owner : Nat) (writes : Bool) : Option Rsp :=
  match s.rd r FAB_LOCK_STATE u with
  | 0 => none
  | 1 => if s.rd r FAB_LOCK_OWNER u = owner then none else some (rLocked (s.rd r FAB_LOCK_OWNER u))
  | 2 => if writes then some (rLocked (s.rd r FAB_LOCK_OWNER u)) else none
  | _ => if writes then some (rRange (FAB_LOCK_STATE.id r u) 0) else none

/-- The lock as a waybill that passed check 14 takes it, and the answer that recovery gives (R457, R460). -/
def State.lockTake (s : State) (r u owner : Nat) : State × Rsp :=
  match s.rd r FAB_LOCK_STATE u with
  | 0 => (s.lockTo r u owner 1, rOk)
  | 2 =>
    let prev := rRecovered (s.rd r FAB_LOCK_OWNER u) (s.rd r FAB_LOCK_EPOCH u)
    ((s.lockTo r u owner 3).bump r FAB_CNT_LOCK_RECOVER, prev)
  | _ => (s, rOk)

/-- A refusal at check 14 is counted where it is LOCKED (R470). -/
def State.countLocked (s : State) (r : Nat) (a : Rsp) : State := if a.status = 0x302 then s.bump r FAB_CNT_LOCKED else s

/-- A SET of `LOCK_HOLD` (R457, R460). -/
def State.lockHold (s : State) (r u : Nat) (value : Bool) (owner : Nat) : State × Rsp :=
  let st := s.rd r FAB_LOCK_STATE u
  let mine := s.rd r FAB_LOCK_OWNER u == owner
  if (st = 1 ∨ st = 3) ∧ !mine then
    let a := rLocked (s.rd r FAB_LOCK_OWNER u)
    (s.countLocked r a, a)
  else if value then
    let p := s.lockTake r u owner
    (p.1.wr r FAB_LOCK_HOLD u 1, p.2)
  else if st = 2 then
    let a := rLocked (s.rd r FAB_LOCK_OWNER u)
    (s.countLocked r a, a)
  else ((s.wr r FAB_LOCK_HOLD u 0).lockRelease r u, rOk)

/-- A 1 written to `LOCK_ROLLBACK` by the owner of a RECOVERED lock: the pre-images of the broken epoch come back in reverse
order, the journal is emptied, the lock is HELD (R461). -/
def State.lockRollback (s : State) (r u owner : Nat) : State × Rsp :=
  let st := s.rd r FAB_LOCK_STATE u
  if (st ≠ 1 ∧ st ≠ 3) ∨ s.rd r FAB_LOCK_OWNER u ≠ owner then
    let a := rLocked (s.rd r FAB_LOCK_OWNER u)
    (s.countLocked r a, a)
  else if st = 1 then (s, rOk)
  else
    let es := (s.journal.filter (fun e => e.region == r && e.u == u)).reverse
    let s := { s with params := es.foldl (fun (m : Store) (e : JEntry) => m.put e.key e.val) s.params }
    ((s.emptyJournal r u).wr r FAB_LOCK_STATE u 1, rOk)

/-- The epoch fence of M (R110): a relayed write of shared configuration under a staff epoch below one already seen fails. -/
def State.fenceOk (s : State) (r epoch : Nat) : Bool := r != 7 || decide (epoch ≥ s.rd 7 NVS_FENCE)

/-- The fence raised to an epoch. -/
def State.fence (s : State) (r epoch : Nat) : State := if r = 7 then s.wr 7 NVS_FENCE 0 (max epoch (s.rd 7 NVS_FENCE)) else s

/-- A shared die runs. -/
def State.sharedUp (s : State) (d : Shared) : Bool := s.on d.reg

/-- The locks of a shared die (R455). -/
def locksOf (d : Shared) : Nat := match d with
  | .m => 2
  | .s => 1

/-- A relayed write of a lock parameter performed and answered (R38, R110). -/
def State.lockRelay (s : State) (d : Shared) (u : Nat) (l : LaneId) (tag epoch : Nat) (f : State → State × Rsp) : State :=
  if u ≥ locksOf d then s.send (.relayReply d l tag { flags := 1, opcode := 0x0102, seq := 0, status := 0x104, region := l.reg, mask := 0, data := (rRange 0 20).data })
  else
    let p := if s.fenceOk d.reg epoch then f (s.fence d.reg epoch) else (s, rNotHolder 0)
    p.1.send (.relayReply d l tag { flags := 1, opcode := 0x0102, seq := 0, status := p.2.status, region := l.reg, mask := 0, data := p.2.data })

/-- LOCK_HOLD_WRITE (R457, R460). -/
def execLockHoldWrite (d : Shared) (u : Nat) (value : Bool) (l : LaneId) (tag epoch : Nat) (s : State) : Host.Outcome State Fault Refusal :=
  .next (if s.sharedUp d then s.lockRelay d u l tag epoch (fun s => s.lockHold d.reg u value l.reg) else s)

/-- LOCK_ROLLBACK_WRITE (R461). -/
def execLockRollbackWrite (d : Shared) (u : Nat) (l : LaneId) (tag epoch : Nat) (s : State) : Host.Outcome State Fault Refusal :=
  .next (if s.sharedUp d then s.lockRelay d u l tag epoch (fun s => s.lockRollback d.reg u l.reg) else s)

/-- LOCK_IDLE_TIMEOUT (R459). -/
def execLockIdleTimeout (d : Shared) (u : Nat) (s : State) : Host.Outcome State Fault Refusal :=
  .next (if s.sharedUp d ∧ u < locksOf d then s.breakLock d.reg u else s)

/-- The heartbeat of M to a lane with the lifecycle state, once per Towline cycle: it goes out on the lane's own message of the cycle,
since the manual names no other event of a cycle at M (R33, R549; DESIGN CHOICE, log 65). -/
def State.heartbeat (s : State) (d : Shared) (l : LaneId) : State :=
  match d with
  | .m => s.send (.heartbeat l (s.rd 7 SMC_LIFECYCLE))
  | .s => s

/-- EPOCH_STATUS_RECEIVE (R456, R459): the latest epoch of a lane; locks it holds under a lower one break; M answers with its
heartbeat (R33). -/
def execEpochStatusReceive (d : Shared) (l : LaneId) (epoch : Nat) (s : State) : Host.Outcome State Fault Refusal :=
  .next (if s.sharedUp d then
      let s := (s.heartbeat d l).wr d.reg FAB_PEER_EPOCH l.reg epoch
      (List.range (locksOf d)).foldl (fun s u =>
        if s.rd d.reg FAB_LOCK_OWNER u = l.reg ∧ epoch > s.rd d.reg FAB_LOCK_EPOCH u then s.breakLock d.reg u else s) s
    else s)

/-! ### Line errors and repair (R463 to R467) -/

/-- The record of a line error (R471). -/
def State.lineRecord (s : State) (l : LaneId) (line cls : Nat) (peer : Bool) : State :=
  s.wr l.reg MEM_LAST_ERR 0 (withCycle (line % 2 ^ 27 + cls * 2 ^ 27 + b2n peer * 2 ^ 29) (s.cycle l))

/-- A corrected error: a source that is counted only (R463, R467). -/
def State.lineCorrected (s : State) (l : LaneId) (line : Nat) (peer : Bool) : State := (s.lineRecord l line 1 peer).raise l.reg 4

/-- A persistent error in a line that is not repaired: poisoned where its owner can be told, else fatal (R463). -/
def State.lineLost (s : State) (l : LaneId) (line : Nat) (area : LineArea) : State :=
  match area with
  | .owned =>
    if (s.lane l).poisoned.contains line then s
    else
      let s := s.modLane l (fun x => { x with poisoned := x.poisoned ++ [line] })
      let s := (s.wr l.reg MEM_POISONED 0 (satNat 16 (s.lane l).poisoned.length)).bump l.reg MEM_CNT_CONTAINED
      (s.lineRecord l line 2 false).raise l.reg 5
  | _ => (s.lineRecord l line 3 false).raise l.reg 6

/-- The voting peers whose links are up and that have not been asked yet, lowest letter first (R465). -/
def State.repairPeers (s : State) (l : LaneId) : List LaneId :=
  (s.peersOf l).filter (fun p => s.voting l p && s.rd l.reg XLK_LINK_STATE p.reg == 2 && !bit (s.rd l.reg MEM_REP_ASKED) p.idx)

/-- The next peer asked for a line as of the end of the lane's latest group; without one the repair has failed and the line is handled as not mirrored (R463,
R465). -/
def State.askRepair (s : State) (l : LaneId) (line : Nat) : State :=
  match s.repairPeers l with
  | p :: _ =>
    ((s.wr l.reg MEM_REP_LINE 0 (line + 1)).wrBit l.reg MEM_REP_ASKED 0 p.idx true).send (.repairRequest l p line (s.rd l.reg CEN_GRP))
  | [] => (((s.wr l.reg MEM_REP_LINE 0 0).wr l.reg MEM_REP_ASKED 0 0).bump l.reg MEM_CNT_REPAIR_FAIL).lineLost l line .other

/-- A persistent error of a lane's line (R463). -/
def State.linePersistent (s : State) (l : LaneId) (line : Nat) (area : LineArea) : State :=
  match area with
  | .mirrored =>
    if s.rd l.reg MEM_REP_LINE = line + 1 then s
    else
      let s := s.wr l.reg MEM_REP_ASKED 0 0
      if (s.repairPeers l).isEmpty then s.lineLost l line .other else s.askRepair l line
  | a => s.lineLost l line a

/-- What a persistent error of a line of the NVS does in its area (R537, R538): the update session fails, the record is
skipped, the archive slot is invalid, the counter mirror is rebuilt from its second copy. -/
def State.nvsPersistent (s : State) (line : Nat) : State :=
  let off := line * 32
  if off < 0x1000000 then
    let s := if s.mdie.updSrc.isSome then s.wr 7 UPD_STATE 0 (5 + 8 * 4) else s
    s.raise 7 3
  else if off < 0x3000000 then
    let i := (off - 0x1000000) / 64
    let s : State := { s with mdie := { s.mdie with log := s.mdie.log.filter (fun r => fieldLe r 0 4 % 524288 != i) } }
    s.raise 7 3
  else if off < 0x3400000 then (s.wr 7 NVS_BAD_SLOT ((off - 0x3000000) / 262144) 1).raise 7 3
  else if off < 0x3800000 then s.raise 7 2
  else s.raise 7 3

/-- A line error of M's NVS: corrected and rewritten, or persistent (R538). -/
def State.nvsError (s : State) (line : Nat) (persistent : Bool) : State :=
  if persistent then (s.bump 7 NVS_CNT_PERSIST).nvsPersistent line else (s.bump 7 NVS_CNT_CORRECTED).raise 7 2

/-- A read error in a region (R463, R467, R538). -/
def State.readError (s : State) (r : Region) (line : Nat) (area : LineArea) (persistent : Bool) : State :=
  match r.lane, r.code with
  | some l, c =>
    if c > 3 ∨ !s.up l then s
    else if persistent then s.linePersistent l line area
    else (s.bump l.reg MEM_CNT_REREAD).lineCorrected l line false
  | none, 7 => s.whenM (fun s => s.nvsError line persistent)
  | none, _ => s

/-- LINE_READ_ERROR (R463). -/
def execLineReadError (r : Region) (line : Nat) (area : LineArea) (persistent : Bool) (s : State) : Host.Outcome State Fault Refusal :=
  .next (s.readError r line area persistent)

/-- LINE_REPAIR_REPLY (R465): the line written and read back, remapped where the read-back fails; a refusal asks the next
peer. -/
def execLineRepairReply (l : LaneId) (line : Nat) (data : Option (List Byte)) (readBackOk : Bool) (s : State) :
    Host.Outcome State Fault Refusal :=
  .next (s.whenUp l (fun s =>
    if s.rd l.reg MEM_REP_LINE ≠ line + 1 then s
    else match data with
      | none => s.askRepair l line
      | some d =>
        let s' := (s.wr l.reg MEM_REP_LINE 0 0).wr l.reg MEM_REP_ASKED 0 0
        let done : State → State := fun u => ((u.storeLine l line d).bump l.reg MEM_CNT_REPAIR).lineCorrected l line true
        if readBackOk then done s'
        else if s.rd l.reg MEM_SPARE_USED < 128 then
          done ((s'.wr l.reg MEM_SPARE_USED 0 (s.rd l.reg MEM_SPARE_USED + 1)).bump l.reg MEM_CNT_REMAP)
        else (s'.bump l.reg MEM_CNT_REPAIR_FAIL).lineLost l line .other))

/-- SCRUB_READ (R467): an error found is handled as any read error; a line written meanwhile is not judged; `passMs` is the
length of a full pass that ends with this line. -/
def execScrubRead (r : Region) (line : Nat) (area : LineArea) (err : ScrubError) (passMs : Option Nat) (s : State) :
    Host.Outcome State Fault Refusal :=
  .next (
    let s := match err with
      | .clean => s
      | .written => s
      | .transient => s.readError r line area false
      | .persistent => s.readError r line area true
    match r.lane, passMs with
    | some l, some ms => if r.code ≤ 3 then s.whenUp l (fun s => s.wr l.reg MEM_SCRUB_LAST 0 (satNat 16 ms)) else s
    | _, _ => s)

/-- What a lane answers to a repair request: the line as it stood at the end of the group of the base period named, a refusal where its own
copy fails (R286, R465). -/
def State.repairData (s : State) (l : LaneId) (line period : Nat) (crcOk : Bool) : Option (List Byte) :=
  if !crcOk then none
  else match s.tblLine l line with
    | some first => if (s.lane l).poisoned.contains line then none else s.tblThen l first period
    | none => s.readLine l line

/-- A table line is wanted as of a group this lane has not run yet: the answer waits for it (R286). -/
def State.repairWaits (s : State) (l : LaneId) (line period : Nat) (crcOk : Bool) : Bool :=
  crcOk && (s.tblLine l line).isSome && decide (period > s.rd l.reg CEN_GRP)

/-- REPAIR_REQUEST_RECEIVE (R286, R465): a voting lane answers, once the group named has run. -/
def execRepairRequestReceive (l : LaneId) (from' : LaneId) (line period : Nat) (crcOk : Bool) (s : State) :
    Host.Outcome State Fault Refusal :=
  .next (s.whenUp l (fun s =>
    if s.voting l l ∧ from' ≠ l then
      if s.repairWaits l line period crcOk then s.modLane l (fun x => { x with repairs := x.repairs ++ [(from', line, period)] })
      else s.send (.repairAnswer l from' line (s.repairData l line period crcOk))
    else s))

/-! ### Gated blocks (R468, R469) -/

/-- A block whose gate is closed: its enable is clear; in LOCK WATCH and MOORED the whole lane die is off (R469, R514,
R523). Power dies, M and S have no gates. -/
def State.gated (s : State) (r block : Nat) : Bool :=
  match kindOf r with
  | .lane => !(s.rd r CLK_GATE_EN).testBit block && (decide (block < 32)) || s.rd r PWR_STATE == 2 || s.rd r PWR_STATE == 3
  | _ => false

/-- GATE_FORCE_CLOSE (R468): the transaction ends as a contained data error to its master. -/
def execGateForceClose (l : LaneId) (block _master : Nat) (s : State) : Host.Outcome State Fault Refusal :=
  .next (s.whenUp l (fun s =>
    if s.gated l.reg block then (s.bump l.reg FAB_CNT_GATE_FORCE).raise l.reg 7 else s))

/-- GATED_TOUCH (R469). -/
def execGatedTouch (r : Region) (block master : Nat) (s : State) : Host.Outcome State Fault Refusal :=
  .next (if s.hasRegion r.code ∧ s.gated r.code block then
      (s.bump r.code FAB_GATED_TOUCH).wr r.code FAB_LAST_TOUCH 0 (block % 256 + master % 16 * 256)
    else s)

end Sys2Proof.Machine
end

