-- ==== Sys2Proof/Machine/Start.lean ====
section
/-! DEFINITION. From supply to READY: the start of a lane die with its image choice, the power die and the shared dies after
their resets, the heartbeat of M (R33, R544, R545, R561 to R563). -/

namespace Sys2Proof.Machine

open Par Var

/-! ### Image slots (R545) -/

/-- The state of a slot, 4 bits per slot (R560). -/
def State.slotState (s : State) (l : LaneId) (i : Nat) : Nat := s.rd l.reg UPD_SLOT_STATE / 16 ^ i % 16

/-- The state of a slot set. -/
def State.setSlot (s : State) (l : LaneId) (i st : Nat) : State :=
  let v := s.rd l.reg UPD_SLOT_STATE
  s.wr l.reg UPD_SLOT_STATE 0 (v - s.slotState l i * 16 ^ i + st * 16 ^ i)

/-- The digest of a slot. -/
def Boot.dig (b : Boot) (i : Nat) : Nat := if i = 0 then b.dig0 else b.dig1

/-- The rollback index of a slot. -/
def Boot.roll (b : Boot) (i : Nat) : Nat := if i = 0 then b.roll0 else b.roll1

/-- The active slot of a lane. -/
def State.actSlot (s : State) (l : LaneId) : Nat := s.rd l.reg UPD_ACT - 1

/-- A slot made active: the lane runs its image. -/
def State.activate (s : State) (l : LaneId) (i : Nat) : State :=
  (s.wr l.reg UPD_ACT 0 (i + 1)).wr l.reg UPD_ACTIVE_DIGEST 0 ((s.lane l).boot.dig i)

/-- The boot ROM's finding of the two slots; a lane that has none marked active takes the first that passes, since the manual
does not describe how the first image is written (log 36). -/
def State.bootCheck (s : State) (l : LaneId) (images : List (Option Nat)) : State :=
  let d (i : Nat) : Nat := (images.getD i none).getD 0
  let s := s.modLane l (fun x => { x with boot := { x.boot with dig0 := d 0, dig1 := d 1 } })
  if s.rd l.reg UPD_ACT = 0 then
    match [0, 1].find? (fun i => (images.getD i none).isSome) with
    | some i => (s.setSlot l i 1).activate l i
    | none => s
  else s.activate l (s.actSlot l)

/-- A TRIAL given up: the slot REJECTED, the previous one active (R545). -/
def State.rejectTrial (s : State) (l : LaneId) : State :=
  let i := s.actSlot l
  if s.slotState l i = 3 then (s.setSlot l i 5).activate l (1 - i) else s

/-- The digest of the PENDING slot of a lane, 0 where there is none. -/
def State.pendingDigest (s : State) (l : LaneId) : Nat :=
  match [0, 1].find? (fun i => s.slotState l i == 2) with
  | some i => (s.lane l).boot.dig i
  | none => 0

/-- A TRIAL slot becomes CONFIRMED when the lane sees both peers in standby or in service on its own image; the floor rises
to the slot's rollback index (R545). The previous slot then counts as empty for the next update (log 36). -/
def State.confirmTrial (s : State) (l : LaneId) : State :=
  let i := s.actSlot l
  if s.slotState l i = 3 ∧ (s.peersOf l).all (fun p => s.seen l p == 1 || s.seen l p == 2) then
    ((s.setSlot l i 4).setSlot l (1 - i) 0).wr l.reg UPD_FLOOR_LANE 0 ((s.lane l).boot.roll i)
  else s

/-! ### The start of a lane (R561) -/

/-- The configuration of a lane restored at start: its MRAM area, else M's archive slot, else reset values (R562). -/
def State.restoreCfg (s : State) (l : LaneId) (cfgOk : Bool) : State :=
  if cfgOk then s
  else
    let isRws (k : PKey) : Bool := (k.region == l.reg || k.region == l.pow) &&
      (match lookup k with
        | some d => d.acc == .rws
        | none => false)
    let s : State := { s with params := s.params.filter (fun e => !isRws e.1) }
    match s.mdie.sets.find? (fun e => e.1 == l) with
    | some e => if s.mUp then { s with params := (e.2.filter (fun v => isRws v.1)).foldl (fun m v => m.put v.1 v.2) s.params } else s
    | none => s

/-- LANE_START (R561): with the clock locked the injection test, the boot ROM's check of both slots, the configuration and
the retention, the tasks of the firmware image, and the announcement of the slots. A failed step leaves the lane out. -/
def State.laneStart (s : State) (l : LaneId) (o : StartOutcome) : State :=
  let s := s.injTest l o.injection
  if (injFailure o.injection).isSome then s.startFail l
  else
    let s := s.bootCheck l o.images
    let s := if s.slotState l (s.actSlot l) = 3 ∧ !s.rdB l.reg UPD_TRIAL_OK then s.rejectTrial l else s
    if s.rd l.reg UPD_ACT = 0 ∨ (o.images.getD (s.actSlot l) none).isNone then (s.wr l.reg LSC_STATE 0 0).startFail l
    else
      let s := (s.restoreCfg l o.cfgOk).takeDigest l
      let s := if (s.lane l).ret.isSome then s.useRetention l o.badBanks
        else [4, 8, 12, 13].foldl (fun s g => s.coldGroup l g) s
      let s := (s.startTasks l o.tasks).wr l.reg INT_BOOT 0 1
      let s := s.modLane l (fun x => { x with boot := { x.boot with ann := [] } })
      s.send (.slots l (s.rd l.reg UPD_ACTIVE_DIGEST) (s.pendingDigest l))

/-- LANE_START (R561). -/
def execLaneStart (l : LaneId) (o : StartOutcome) (s : State) : Host.Outcome State Fault Refusal :=
  .next (if s.hasRegion l.reg && s.rdB l.reg INT_POWERED && s.rd l.reg FAB_PHASE == 0 && s.rd l.reg CLK_STATE == 2 &&
      decide (s.rd l.reg PWR_STATE < 2) && s.rd l.reg INT_BOOT == 0 then s.laneStart l o else s)

/-- SLOT_ANNOUNCE_RECEIVE (R545): recorded for the choice; a lane in TRIAL that hears another active digest restarts on its
previous slot. -/
def execSlotAnnounceReceive (l : LaneId) (peer : LaneId) (active pending : Nat) (s : State) : Host.Outcome State Fault Refusal :=
  .next (if !s.hasRegion l.reg || !s.rdB l.reg INT_POWERED || peer == l then s
    else
      let s := s.modLane l (fun x => { x with boot := { x.boot with ann := x.boot.ann.filter (fun e => e.1 != peer) ++ [(peer, active, pending)] } })
      if s.on l.reg ∧ s.slotState l (s.actSlot l) = 3 ∧ active ≠ s.rd l.reg UPD_ACTIVE_DIGEST
      then (s.rejectTrial l).resetLane l else s)

/-- The choice of the slot after the wait (R545): the PENDING slot as TRIAL where every lane die of the part announced the
same digest and no encoder moved, else the active one. -/
def State.chooseSlot (s : State) (l : LaneId) (moved : Bool) : State :=
  let d := s.pendingDigest l
  let all := (s.peersOf l).all (fun p => (s.lane l).boot.ann.any (fun e => e.1 == p && e.2.2 == d))
  match [0, 1].find? (fun i => s.slotState l i == 2) with
  | some i => if d != 0 && all && !moved then ((s.setSlot l i 3).activate l i).wr l.reg UPD_TRIAL_OK 0 0 else s
  | none => s

/-- SLOT_ANNOUNCE_TIMEOUT (R545): the slot chosen, the self-test record judged against it; without a valid record LBIST and
MBIST run first (R492). -/
def execSlotAnnounceTimeout (l : LaneId) (moved : Bool) (s : State) : Host.Outcome State Fault Refusal :=
  .next (if s.rd l.reg INT_BOOT ≠ 1 then s
    else
      let s := s.chooseSlot l moved
      if s.recValid l then s.wr l.reg INT_BOOT 0 3
      else
        let s := ((s.wr l.reg INT_BOOT 0 2).wr l.reg BST_STATE 0 5).wr l.reg BST_LB_DONE 0 0
        (s.wr l.reg FAB_PHASE 0 2).wr l.pow FAB_PHASE 0 2)

/-- The lane die and its power die out of START at READY: phase RECOVERY, clocks and supply as they run, step 1 of a
rejoin passed (R128, R453, R561). -/
def State.readyDies (s : State) (l : LaneId) : State :=
  let s := ((s.wr l.reg INT_BOOT 0 0).wr l.reg BST_STATE 0 0).wr l.reg BST_LB_DONE 0 0
  let s := ((s.wr l.reg FAB_PHASE 0 3).wr l.pow FAB_PHASE 0 3).wr l.pow SUP_STATE 0 2
  ((s.clkSet l).wr l.reg STF_STEP_FAIL 1 0).release l.reg 8

/-- LANE_READY (R561): the lane is READY in state out; with `TWL.EN` its Towline listens (R415). -/
def State.laneReady (s : State) (l : LaneId) : State :=
  let s := s.readyDies l
  let s := if s.slotState l (s.actSlot l) = 3 then s.wr l.reg UPD_TRIAL_OK 0 1 else s
  let s := (s.wr l.reg INT_REJOINING 0 1).twlTables l
  let s := if s.rdB l.reg TWL_EN then s.twlStart l else s
  s.updPin l.reg

/-- LANE_READY (R561): a lane whose pair has halted on a mismatch in START does not become ready (R139, R148). -/
def execLaneReady (l : LaneId) (t : Nat) (s : State) : Host.Outcome State Fault Refusal :=
  let s := s.atTime t
  .next (if s.rd l.reg INT_BOOT = 3 ∧ s.rdB l.reg INT_POWERED ∧ s.rd l.reg LSC_STATE ≠ 3 then s.laneReady l else s)

/-! ### The other dies -/

/-- POWER_DIE_READY (R18): a power die back from its own region reset; its bridges stay out of RUN. -/
def execPowerDieReady (l : LaneId) (s : State) : Host.Outcome State Fault Refusal :=
  .next (s.whenUp l (fun s =>
    if s.hasRegion l.pow ∧ s.rd l.pow FAB_PHASE = 0 ∧ s.rdB l.pow INT_POWERED then
      ((s.wr l.pow FAB_PHASE 0 (if s.vstate l = 2 then 1 else 3)).wr l.pow SUP_STATE 0 2).updPin l.pow
    else s))

/-- S ready after its start: the latch states restored from a record that passes its CRC, UNKNOWN after a creep wake and
after a region reset (R345, R524, R563). -/
def State.sReady (s : State) (recordOk creepWake : Bool) : State :=
  let v := s.rd 8 ATH_SAVED
  let s := (s.wr 8 FAB_PHASE 0 1).wr 8 ATH_SAVED 0 0
  (s.wr 8 ATH_LATCH_STATE 0 (if v ≠ 0 ∧ recordOk ∧ !creepWake then v % 65536 else 0)).updPin 8

/-- M ready after its start: its start counted, the unused rest of the batch of leaf indices skipped, the next batch taken
from `LEAF_NEXT` (R539, R547, R563). -/
def State.mReady (s : State) : State :=
  let s := ((s.wr 7 FAB_PHASE 0 1).bump 7 SMC_STARTS).wr 7 SMC_START_AT 0 s.now
  let rest := s.rd 7 ATT_LIMIT - s.rd 7 ATT_NEXT
  let b := s.rd 7 ATT_LEAF_NEXT
  let s := s.wr 7 ATT_LEAF_SKIPPED 0 (satNat 21 (s.rd 7 ATT_LEAF_SKIPPED + rest))
  ((s.wr 7 ATT_NEXT 0 b).wr 7 ATT_LIMIT 0 b).wr 7 ATT_LEAF_LEFT 0 (if s.rd 7 SMC_LIFECYCLE = 0 then s.rd 7 ATT_LEAF_LEFT else 1048576 - b)

/-- SHARED_DIE_READY (R563). -/
def execSharedDieReady (d : Shared) (recordOk creepWake : Bool) (s : State) : Host.Outcome State Fault Refusal :=
  .next (if s.hasRegion d.reg && s.rdB d.reg INT_POWERED && s.rd d.reg FAB_PHASE == 0 then
      match d with
      | .s => s.sReady recordOk creepWake
      | .m => s.mReady
    else s)

/-- The count of consecutive cycles with a heartbeat after one more: another in the same cycle adds nothing, a cycle between without
one begins the count anew; a lane that is not synchronised has no cycles to tell apart (R33). -/
def State.beatCount (s : State) (l : LaneId) : Nat :=
  let n := s.rd l.reg INT_M_BEATS
  let last := s.rd l.reg INT_M_BEAT_CYC
  if !s.synced l ∨ n = 0 ∨ s.cycle l = nextCycle last then n + 1 else if s.cycle l = last then n else 1

/-- M_HEARTBEAT_RECEIVE (R33, R549): the lifecycle copied; heartbeats in ten consecutive cycles end "M lost". -/
def execMHeartbeatReceive (l : LaneId) (lifecycle : Nat) (s : State) : Host.Outcome State Fault Refusal :=
  .next (s.whenUp l (fun s =>
    let s := s.wr l.reg INT_LIFECYCLE 0 lifecycle
    if !s.rdB l.reg INT_M_LOST then s
    else
      let n := s.beatCount l
      let s := s.wr l.reg INT_M_BEAT_CYC 0 (s.cycle l)
      if n ≥ 10 then ((s.wr l.reg INT_M_LOST 0 0).wr l.reg INT_M_BEATS 0 0).release l.reg 14
      else s.wr l.reg INT_M_BEATS 0 n))

/-- M_LOST_TIMEOUT (R33): no heartbeat for 10 consecutive cycles. The record stands in MRAM through a region reset; the source is raised
again where its wire is not active. -/
def execMLostTimeout (l : LaneId) (s : State) : Host.Outcome State Fault Refusal :=
  .next (s.whenUp l (fun s =>
    let s := s.wr l.reg INT_M_BEATS 0 0
    if s.rdB l.reg INT_M_LOST then (if bit (s.rd l.reg FCL_RAW) 14 then s else s.raise l.reg 14 true)
    else (((s.wr l.reg INT_M_LOST 0 1).raise l.reg 14 true).trcMLost l).event l 8 0))

end Sys2Proof.Machine
end

