-- ==== Sys2Proof/Machine/Station.lean ====
section
/-! DEFINITION. The Stationmaster M: event log, signed updates, attestation, lifecycle, cartridges (R531 to R560). -/

namespace Sys2Proof.Machine

open Par Var

/-- A change of what M holds. -/
def State.modM (s : State) (f : MDie → MDie) : State := { s with mdie := f s.mdie }

/-! ### The event log (R539, R540) -/

/-- A record of 64 bytes (R539). -/
def State.logRecord (s : State) (seq region kind code cycle : Nat) (data : List Byte) : List Byte :=
  let body := toLe 4 seq ++ toLe 4 cycle ++ toLe 8 ((s.now - s.rd 7 SMC_START_AT) / 1000) ++ toLe 4 (s.rd 7 SMC_STARTS) ++
    toLe 1 region ++ toLe 1 kind ++ toLe 2 code ++ padTo 32 data ++ toLe 4 0
  body ++ toLe 4 (crc32c body)

/-- A record appended to the ring of 524,288; the oldest is overwritten (R539). The first record has sequence 1. -/
def State.logAppend (s : State) (region kind code cycle : Nat) (data : List Byte) : State :=
  let seq := (s.rd 7 LOG_NEWEST + 1) % 2 ^ 32
  let rows := s.mdie.log ++ [s.logRecord seq region kind code cycle data]
  let rows := rows.drop (rows.length - 524288)
  let s := (s.modM (fun m => { m with log := rows })).wr 7 LOG_NEWEST 0 seq
  s.wr 7 LOG_OLDEST 0 ((rows.head?.map (fun r => fieldLe r 0 4)).getD seq)

/-- LOG_RECORD_APPEND (R539): telemetry of a region. -/
def execLogRecordAppend (r : LogRecord) (s : State) : Host.Outcome State Fault Refusal :=
  .next (s.whenM (fun s => s.logAppend r.region r.kind r.code r.cycle r.data))

/-- The checks of LOG_READ (R540). -/
def State.chkLogRead (s : State) (start count : Nat) : Option Rsp :=
  firstFail [failIf (decide (count < 1 ∨ count > 16)) (rRange 0 20), failIf (decide (start > s.rd 7 LOG_NEWEST)) (rRange 0 16)]

/-- The matching records in ascending sequence (R540). -/
def State.logRows (s : State) (start count mask : Nat) : List Byte :=
  ((s.mdie.log.filter (fun r => decide (fieldLe r 0 4 ≥ start) && (mask == 0 || bit mask (byteAt r 21)))).take count).flatten

/-- LOG_READ (R540). -/
def execLogRead (l : LaneId) (h : Hdr) (start count mask : Nat) (s : State) : Host.Outcome State Fault Refusal :=
  .next (s.whenHost l (fun s => s.performAt l .m h 0x0901 (s.chkLogRead start count) (s, rOk (s.logRows start count mask))))

/-! ### Where a waybill to M comes from -/

/-- The region code of a source: 7 for the service port (R543). -/
def sourceCode : UpdSource → Nat
  | .lane l => l.reg
  | .service => 7

/-- A reply of M at the service port, in a datagram of its own from `SMC.SVC_IP` to the source of the waybill (R69, R558). -/
def State.serviceReply (s : State) (src opcode seq : Nat) (r : Rsp) : State :=
  let rep : Reply := { flags := 1, opcode := opcode, seq := seq, status := r.status, region := 7, mask := 0, data := r.data }
  let ip := s.rd 7 SMC_SVC_IP
  s.send (.service src { addr := ip, frames := [udpPacket (ip * 65536 + 48011) src rep.encode] } rep)

/-- A waybill that takes effect in M, relayed by a lane or received at the service port, which answers as R42 says (R38, R558). The service port stops
while MXIN is lost (R535). -/
def State.performM (s : State) (o : UpdSource) (h : Hdr) (opcode : Nat) (chk : Option Rsp) (eff : State × Rsp) : State :=
  match o with
  | .lane l => s.whenHost l (fun s => s.performAt l .m h opcode chk eff)
  | .service => s.whenM (fun s =>
      if s.rdB 7 SMC_MX_LOST then s
      else
        let out := match chk with
          | some r => (s, r)
          | none => eff
        if out.2.good && !h.ackReq then out.1
        else out.1.serviceReply h.src opcode h.seq out.2)

/-! ### Signed updates (R542 to R544) -/

/-- A session discarded with its staged bytes (R543). -/
def State.dropSession (s : State) : State :=
  ((s.modM (fun m => { m with updSrc := none, updTotal := 0, staged := [] })).wr 7 UPD_RECEIVED 0 0).wr 7 UPD_STATE 0 0

/-- UPDATE_BEGIN's checks (R543). -/
def State.chkBegin (s : State) (o : UpdSource) (total : Nat) : Option Rsp :=
  firstFail [
    match s.mdie.updSrc with
    | some x => if x = o then none else some (rLocked (sourceCode x))
    | none => none,
    failIf (decide (total > 16777216)) (rRange 0 16)]

/-- UPDATE_BEGIN at effect: a session opened for the source (R543). -/
def State.effBegin (s : State) (o : UpdSource) (total : Nat) : State :=
  let s := s.modM (fun m => { m with updSrc := some o, updTotal := total, staged := [] })
  (((s.wr 7 UPD_RECEIVED 0 0).wr 7 UPD_STATE 0 1).wr 7 UPD_LANE_STATE 0 0).wr 7 UPD_AT 0 s.now

/-- UPDATE_BEGIN (R543). -/
def execUpdateBegin (o : UpdSource) (h : Hdr) (total : Nat) (s : State) : Host.Outcome State Fault Refusal :=
  .next (s.performM o h 0x0902 (s.chkBegin o total) (s.effBegin o total, rOk))

/-- UPDATE_CHUNK's checks (R543); without a session of the source nothing has been received at any offset. -/
def State.chkChunk (s : State) (o : UpdSource) (offset : Nat) (data : List Byte) : Option Rsp :=
  firstFail [failIf (data.isEmpty || decide (data.length > 1016)) (rBadLength (data.length + 8) 0),
    failIf (s.mdie.updSrc != some o || s.rd 7 UPD_STATE != 1) (rRange (UPD_RECEIVED.id 7 0) 16),
    failIf (decide (offset ≠ s.rd 7 UPD_RECEIVED ∨ offset + data.length > s.mdie.updTotal)) (rRange (UPD_RECEIVED.id 7 0) 16)]

/-- UPDATE_CHUNK at effect (R543). -/
def State.effChunk (s : State) (data : List Byte) : State :=
  let s := s.modM (fun m => { m with staged := m.staged ++ data })
  (s.wr 7 UPD_RECEIVED 0 (s.rd 7 UPD_RECEIVED + data.length)).wr 7 UPD_AT 0 s.now

/-- UPDATE_CHUNK (R543). -/
def execUpdateChunk (o : UpdSource) (h : Hdr) (offset : Nat) (data : List Byte) (s : State) : Host.Outcome State Fault Refusal :=
  .next (s.performM o h 0x0903 (s.chkChunk o offset data) (s.effChunk data, rOk))

/-- UPDATE_END's check: everything has been received (R543). -/
def State.chkEnd (s : State) (o : UpdSource) : Option Rsp :=
  failIf (s.mdie.updSrc != some o || s.rd 7 UPD_STATE != 1 || s.rd 7 UPD_RECEIVED != s.mdie.updTotal) (rRange (UPD_RECEIVED.id 7 0) 0)

/-- UPDATE_END (R544): OK means that verification has started. -/
def execUpdateEnd (o : UpdSource) (h : Hdr) (s : State) : Host.Outcome State Fault Refusal :=
  .next (s.performM o h 0x0904 (s.chkEnd o) ((s.wr 7 UPD_STATE 0 2).wr 7 UPD_AT 0 s.now, rOk))

/-- UPDATE_SESSION_TIMEOUT (R543): 60 s without a waybill. -/
def execUpdateSessionTimeout (s : State) : Host.Outcome State Fault Refusal :=
  .next (s.whenM (fun s => if s.rd 7 UPD_STATE = 1 then s.dropSession else s))

/-- The image of a section, between its header of 32 bytes and its signature of 2,820 (R542). -/
def sectImage (x : List Byte) : List Byte := (x.drop 32).take (x.length - 2852)

/-- The layout of a section: kind, key index, lengths (R542). -/
def sectLayout (x : List Byte) (kind : Nat) : Bool :=
  decide (x.length ≥ 2853) && byteAt x 0 == kind && decide (byteAt x 1 < 4) && fieldLe x 12 4 + 2852 == x.length &&
    decide (fieldLe x 12 4 ≤ (if kind = 1 then 1568768 else 2093056))

/-- The signature of a section over header and image, and the digest in its header (R542). -/
def sectSigned (x : List Byte) : Bool :=
  Config.sigOk (Config.vendorKey (byteAt x 1)) (x.take (x.length - 2820)) (x.drop (x.length - 2820)) &&
    fieldLe x 16 16 == shakeNat (sectImage x) 16

/-- The lane section and the M section of a container (R542). -/
def container (c : List Byte) : Option (List Byte) × Option (List Byte) :=
  let part (n o : Nat) : Option (List Byte) := if bit (byteAt c 1) n then some ((c.drop (fieldLe c o 4)).take (fieldLe c (o + 4) 4)) else none
  (part 0 8, part 1 16)

/-- The layout of a container and its sections (R542). -/
def containerOk (c : List Byte) : Bool :=
  let inside (n o : Nat) : Bool := !bit (byteAt c 1) n || (decide (fieldLe c o 4 ≥ 64) && decide (fieldLe c o 4 + fieldLe c (o + 4) 4 ≤ c.length))
  decide (c.length ≥ 64) && byteAt c 0 == 1 && byteAt c 1 % 4 != 0 && fieldLe c 4 4 == c.length && inside 0 8 && inside 1 16 &&
    ((container c).1.map (fun x => sectLayout x 1)).getD true && ((container c).2.map (fun x => sectLayout x 2)).getD true

/-- The cause of a failed verification: 1 layout, 2 signature, 3 rollback (R544, R559). -/
def State.updCause (s : State) (c : List Byte) : Option Nat :=
  let p := container c
  let floor := (s.lanesOf.map (fun l => s.rd l.reg UPD_FLOOR_LANE)).foldl max 0
  if !containerOk c then some 1
  else if !(p.1.map sectSigned).getD true || !(p.2.map sectSigned).getD true then some 2
  else if !(p.1.map (fun x => decide (fieldLe x 8 4 ≥ floor))).getD true ||
      !(p.2.map (fun x => decide (fieldLe x 8 4 ≥ s.rd 7 UPD_FLOOR_M))).getD true then some 3
  else none

/-- The installation state of a lane at M, 4 bits per lane (R559). -/
def State.setLaneUpd (s : State) (l : LaneId) (v : Nat) : State :=
  let x := s.rd 7 UPD_LANE_STATE
  s.wr 7 UPD_LANE_STATE 0 (x - x / 16 ^ l.idx % 16 * 16 ^ l.idx + v * 16 ^ l.idx)

/-- The lane section sent to every lane in service or standby (R544). -/
def State.sendImages (s : State) (x : List Byte) : State :=
  let ls := s.lanesOf.filter (fun l => s.up l && (s.vstate l == 1 || s.vstate l == 2) && !s.rdB l.reg INT_M_LOST)
  ls.foldl (fun s l => (s.setLaneUpd l 1).send (.image l x)) (s.wr 7 UPD_STATE 0 (if ls.isEmpty then 4 else 3))

/-- Verification done (R544): FAILED with its cause and source 7, or M's section in its inactive slot and the lane section
on its way. -/
def State.verifyDone (s : State) : State :=
  match s.updCause s.mdie.staged with
  | some c => ((s.wr 7 UPD_STATE 0 (5 + 8 * c)).raise 7 7).logAppend 7 6 c 0 []
  | none =>
    let p := container s.mdie.staged
    let s := s.logAppend 7 6 0 0 []
    let s := match p.2 with
      | some x => s.modM (fun m => { m with slotM := some (fieldLe x 16 16, fieldLe x 8 4) })
      | none => s
    match p.1 with
    | some x => s.sendImages x
    | none => s.wr 7 UPD_STATE 0 4

/-- UPDATE_VERIFY_DONE (R544). -/
def execUpdateVerifyDone (s : State) : Host.Outcome State Fault Refusal :=
  .next (s.whenM (fun s => if s.rd 7 UPD_STATE = 2 then s.verifyDone else s))

/-- M told of a lane's verdict: done once no lane is installing, FAILED by cause 5 where a lane failed (R544). -/
def State.laneVerdict (s : State) (l : LaneId) (ok : Bool) : State :=
  if !s.reaches l .m ∨ s.rd 7 UPD_STATE ≠ 3 then s
  else
    let s := s.setLaneUpd l (if ok then 2 else 3)
    let sts := [0, 1, 2].map (fun i => s.rd 7 UPD_LANE_STATE / 16 ^ i % 16)
    if sts.contains 1 then s else s.wr 7 UPD_STATE 0 (if sts.contains 3 then 5 + 8 * 5 else 4)

/-- LANE_IMAGE_INSTALL (R544): the lane verifies the section itself, writes it to its inactive slot, reads it back and marks
it PENDING; a failing step leaves the slot as it was. -/
def State.installImage (s : State) (l : LaneId) (x : List Byte) (readBackOk : Bool) : State :=
  let ok := sectLayout x 1 && sectSigned x && decide (fieldLe x 8 4 ≥ s.rd l.reg UPD_FLOOR_LANE) && readBackOk
  let i := if s.rd l.reg UPD_ACT = 0 then 0 else 1 - s.actSlot l
  let s := if ok then
      (s.setSlot l i 2).modLane l (fun y => { y with boot := if i = 0 then { y.boot with dig0 := fieldLe x 16 16, roll0 := fieldLe x 8 4 }
        else { y.boot with dig1 := fieldLe x 16 16, roll1 := fieldLe x 8 4 } })
    else s
  (s.send (.imageDone l ok)).laneVerdict l ok

/-- LANE_IMAGE_INSTALL (R544). -/
def execLaneImageInstall (l : LaneId) (sect : List Byte) (readBackOk : Bool) (s : State) : Host.Outcome State Fault Refusal :=
  .next (s.whenUp l (fun s => s.installImage l sect readBackOk))

/-! ### Attestation (R546 to R548) -/

/-- The lowest-lettered lane with a property. -/
def State.lowestLane (s : State) (p : LaneId → Bool) : Option LaneId := s.lanesOf.find? (fun l => s.up l && p l)

/-- A batch of 16 leaf indices reserved before its first is used (R547). -/
def State.reserveLeaf (s : State) : State :=
  if s.rd 7 ATT_NEXT < s.rd 7 ATT_LIMIT then s
  else
    let b := s.rd 7 ATT_LEAF_NEXT
    ((s.wr 7 ATT_LEAF_NEXT 0 (b + 16)).wr 7 ATT_NEXT 0 b).wr 7 ATT_LIMIT 0 (b + 16)

/-- Bytes 0 to 251 of the report (R548). -/
def State.reportBody (s : State) (nonce : List Byte) (leaf left : Nat) : List Byte :=
  let cyc := match s.lowestLane (fun l => s.synced l) with
    | some l => s.cycle l
    | none => 0
  let lane (l : LaneId) (d : PDesc) : Nat := if s.up l && !s.rdB l.reg INT_M_LOST then s.rd l.reg d else 0
  let serving := s.lowestLane (fun l => s.vstate l == 2)
  let man (c : Nat) : Nat :=
    let p := s.mdie.ports.getD c {}
    if p.manifest.isEmpty then 0 else shakeNat (Config.manifestPart 1 p.manifest) 8
  let present := (List.range 8).foldl (fun m c => if (s.mdie.ports.getD c {}).present then setBit m c else m) 0
  let verified := (List.range 8).foldl (fun m c => if s.rd 7 CRT_PORT_STATE c = 3 then setBit m c else m) 0
  toLe 1 1 ++ toLe 1 (s.rd 7 SMC_LIFECYCLE) ++ toLe 2 0 ++ toLe 16 (s.rd 7 SMC_SERIAL) ++ padTo 32 nonce ++ toLe 4 cyc ++
    toLe 4 leaf ++ toLe 16 (s.rd 7 SMC_IMAGE_DIGEST) ++ LaneId.all.flatMap (fun l => toLe 16 (lane l UPD_ACTIVE_DIGEST)) ++
    LaneId.all.flatMap (fun l => toLe 8 (if s.up l && !s.rdB l.reg INT_M_LOST then s.cfgDigest l else 0)) ++ (List.range 8).flatMap (fun c => toLe 8 (man c)) ++
    toLe 1 ((serving.map (fun l => s.rd l.reg VOT_MODE)).getD 0) ++ toLe 1 0 ++
    toLe 2 ((serving.map (fun l => s.rd l.reg VOT_WARN)).getD 0) ++ toLe 4 (present + verified * 256) ++ toLe 4 left ++ toLe 28 0

/-- ATTEST's checks (R548). -/
def State.chkAttest (s : State) (part : Nat) (nonce : Option (List Byte)) : Option Rsp :=
  firstFail [failIf (decide (part > 2)) (rRange 0 16),
    match nonce with
    | some _ => firstFail [failIf (s.rd 7 ATT_STATE == 3) (rRange (ATT_STATE.id 7 0) 0),
        failIf (s.rd 7 ATT_LEAF_LEFT == 0) (rRange (ATT_LEAF_LEFT.id 7 0) 0)]
    | none => failIf (s.rd 7 ATT_STATE != 2) (rRange (ATT_STATE.id 7 0) 0)]

/-- A new report built and its signature started (R547, R548). -/
def State.effAttestNew (s : State) (nonce : List Byte) : State :=
  let s := s.reserveLeaf
  let leaf := s.rd 7 ATT_NEXT
  let left := 1048576 - (leaf + 1)
  let s := ((s.wr 7 ATT_NEXT 0 (leaf + 1)).wr 7 ATT_LEAF_LEFT 0 left).wr 7 ATT_STATE 0 1
  let s := s.modM (fun m => { m with report := s.reportBody nonce leaf left })
  if left ≤ s.rd 7 ATT_LEAF_WARN then s.raise 7 8 else s

/-- ATTEST (R548): a new report, or 1,024 bytes of the present one. -/
def execAttest (o : UpdSource) (h : Hdr) (part : Nat) (nonce : Option (List Byte)) (s : State) : Host.Outcome State Fault Refusal :=
  .next (s.performM o h 0x0905 (s.chkAttest part nonce)
    (match nonce with
      | some n => (s.effAttestNew n, rOk)
      | none => (s, rOk ((s.mdie.report.drop (1024 * part)).take 1024))))

/-- ATTEST_SIGN_DONE (R548): bytes 252 to 3,071 hold the signature, whose value depends on the private key: a free value
(log 6). -/
def execAttestSignDone (s : State) : Host.Outcome State Fault Refusal :=
  .next (s.whenM (fun s =>
    if s.rd 7 ATT_STATE ≠ 1 then s
    else
      let d := s.draw
      ((d.2).modM (fun m => { m with report := m.report.take 252 ++ toLe 2820 (Config.free 548 d.1) })).wr 7 ATT_STATE 0 2))

/-! ### Lifecycle (R549, R550) -/

/-- LIFECYCLE_NONCE (R550): a fresh nonce of 32 bytes, a free value (log 6). -/
def execLifecycleNonce (o : UpdSource) (h : Hdr) (s : State) : Host.Outcome State Fault Refusal :=
  .next (
    let n := toLe 32 (Config.free 550 s.fv)
    let t := ((s.draw).2.modM (fun m => { m with nonce := n })).wr 7 SMC_NONCE_ON 0 1
    s.performM o h 0x0906 none (t, rOk n))

/-- The longest ticket: body, integrator key, signature (R550). -/
def ticketMax : Nat := 64 + 68 + 2820

/-- Bytes written at an offset, with zeros up to it. -/
def writeAt (old : List Byte) (o : Nat) (d : List Byte) : List Byte := padTo o old ++ d ++ old.drop (o + d.length)

/-- LIFECYCLE_CHUNK (R550). -/
def execLifecycleChunk (o : UpdSource) (h : Hdr) (offset : Nat) (data : List Byte) (s : State) : Host.Outcome State Fault Refusal :=
  .next (s.performM o h 0x0906 (firstFail [failIf (data.isEmpty || decide (data.length > 1016)) (rBadLength (data.length + 8) 0),
      failIf (decide (offset + data.length > ticketMax)) (rRange 0 20)])
    (s.modM (fun m => { m with ticket := writeAt m.ticket offset data }), rOk))

/-- Who signs a transition: vendor, integrator; whether the ticket carries the integrator key (R549). `none` where the table
has no such transition. -/
def transition (from' target : Nat) : Option (Bool × Bool × Bool) :=
  match from', target with
  | 0, 1 => some (true, false, false)
  | 1, 2 => some (true, false, true)
  | 4, 2 => some (true, false, true)
  | 3, 2 => some (false, true, false)
  | 2, 3 => some (false, true, false)
  | 2, 4 => some (true, false, false)
  | 3, 4 => some (true, false, false)
  | f, 5 => if f = 0 ∨ f ≥ 5 then none else some (true, true, false)
  | _, _ => none

/-- Latches held: every configured target is shown ENGAGED (R549). -/
def State.latchesHeld (s : State) : Bool :=
  match s.lowestLane (fun _ => true) with
  | some l => s.allEngaged l
  | none => false

/-- The signature of a ticket verifies against a key it may be signed with (R549, R550). -/
def State.ticketSigned (s : State) (t : List Byte) (who : Bool × Bool × Bool) : Bool :=
  let n := 64 + (if who.2.2 then 68 else 0)
  let body := t.take n
  let sig := (t.drop n).take 2820
  t.length == n + 2820 && ((who.1 && decide (byteAt t 2 < 4) && Config.sigOk (Config.vendorKey (byteAt t 2)) body sig) ||
    (who.2.1 && !s.mdie.intKey.isEmpty && Config.sigOk s.mdie.intKey body sig))

/-- APPLY's checks (R549, R550): a transition of the table, signature, serial and nonce, latches held. At manufacture there
is no serial to compare yet. -/
def State.chkApply (s : State) : Option Rsp :=
  let t := s.mdie.ticket
  let cur := s.rd 7 SMC_LIFECYCLE
  let target := byteAt t 1
  match transition cur target with
  | none => some (rDenied cur)
  | some who =>
    let nonceOk := s.rdB 7 SMC_NONCE_ON && (t.drop 20).take 32 == s.mdie.nonce
    let serialOk := cur == 0 || fieldLe t 4 16 == s.rd 7 SMC_SERIAL
    firstFail [failIf (byteAt t 0 != 1 || !s.ticketSigned t who || !nonceOk || !serialOk) rBadSig,
      failIf (decide (cur ≥ 2) && !s.latchesHeld) (rRange (ATH_LATCH_STATE.id 8 0) 0)]

/-- The transition made (R549): the integrator key taken, the serial and the device key written at manufacture, secrets
erased at SCRAPPED; logged with kind 7. -/
def State.effApply (s : State) : State :=
  let t := s.mdie.ticket
  let cur := s.rd 7 SMC_LIFECYCLE
  let target := byteAt t 1
  let s := if target = 2 ∧ (cur = 1 ∨ cur = 4) then s.modM (fun m => { m with intKey := (t.drop 64).take 68 }) else s
  let s := if target = 1 then ((s.wr 7 SMC_SERIAL 0 (fieldLe t 4 16)).wr 7 ATT_LEAF_NEXT 0 0).wr 7 ATT_LEAF_LEFT 0 1048576 else s
  let s := if target = 5 then ((s.modM (fun m => { m with intKey := [], report := [] })).wr 7 ATT_LEAF_LEFT 0 0).wr 7 ATT_STATE 0 3 else s
  let s := (s.wr 7 SMC_LIFECYCLE 0 target).wr 7 SMC_NONCE_ON 0 0
  let s := s.modM (fun m => { m with nonce := [], ticket := [] })
  s.logAppend 7 7 target 0 []

/-- LIFECYCLE_APPLY (R550). -/
def execLifecycleApply (o : UpdSource) (h : Hdr) (s : State) : Host.Outcome State Fault Refusal :=
  .next (s.performM o h 0x0906 s.chkApply (s.effApply, rOk))

/-- LIFECYCLE_NONCE_EXPIRY (R550). -/
def execLifecycleNonceExpiry (s : State) : Host.Outcome State Fault Refusal :=
  .next (s.whenM (fun s => (s.modM (fun m => { m with nonce := [] })).wr 7 SMC_NONCE_ON 0 0))

/-- MXIN_LOSS (R535): M runs on its RC oscillator and the service port stops; source 6. -/
def execMxinLoss (s : State) : Host.Outcome State Fault Refusal :=
  .next (s.whenM (fun s => if s.rdB 7 SMC_MX_LOST then s else (s.wr 7 SMC_MX_LOST 0 1).raise 7 6 true))

/-! ### Cartridges (R551 to R556) -/

/-- A change of a tag port. -/
def State.modPort (s : State) (c : Nat) (f : TagPort → TagPort) : State :=
  s.modM (fun m => { m with ports := m.ports.set c (f (m.ports.getD c {})) })

/-- A frame to a tag: command, length, data and the check of R83 (R551). -/
def tagFrame (cmd : Nat) (data : List Byte) : List Byte :=
  let b := toLe 1 cmd ++ toLe 2 data.length ++ data
  b ++ toLe 2 (crc16 b)

/-- The frame of the step a port is in: READ of the whole manifest, CHALLENGE with the nonce, WRITE_COUNTERS (R551). -/
def State.tagStep (s : State) (c : Nat) : State :=
  let p := s.mdie.ports.getD c {}
  match s.rd 7 CRT_STEP c with
  | 1 => s.send (.tag c (tagFrame 1 (toLe 2 0 ++ toLe 2 4096)))
  | 2 => s.send (.tag c (tagFrame 2 p.nonce))
  | 3 => s.send (.tag c (tagFrame 3 (p.counters.flatMap (toLe 8))))
  | _ => s

/-- The cartridge report M sends to every lane: in effect two cycles on (R553). -/
def State.cartReport (s : State) : CartReport :=
  let now := match s.lowestLane (fun l => s.synced l) with
    | some l => s.cycle l
    | none => 0
  { ports := (List.range 8).map (fun c =>
      let p := s.mdie.ports.getD c {}
      ⟨s.rd 7 CRT_PORT_STATE c, if p.manifest.isEmpty then 0 else Config.manifest 1 p.manifest % 65536,
        if p.manifest.isEmpty then 0 else shakeNat (Config.manifestPart 0 p.manifest) 8⟩),
    policy := s.rd 7 CRT_POLICY, cycle := now + 2 }

/-- The report sent to every lane (R553). -/
def State.sendReports (s : State) : State := s.lanesOf.foldl (fun s l => s.send (.cart l s.cartReport)) s

/-- The state of a port settled: reported, source 10 while a port is UNVERIFIED (R553, R557). -/
def State.portState (s : State) (c st : Nat) : State :=
  let s := ((s.wr 7 CRT_PORT_STATE c st).wr 7 CRT_STEP c 0).wr 7 CRT_TRIES c 0
  let s := if st = 2 then s.raise 7 10 true
    else if (List.range 8).any (fun i => s.rd 7 CRT_PORT_STATE i == 2) then s else s.release 7 10
  s.sendReports

/-- TAG_PORT_CHANGE (R553): the manifest of a tag that appears is read; one that goes is ABSENT. -/
def execTagPortChange (c : Nat) (present : Bool) (s : State) : Host.Outcome State Fault Refusal :=
  .next (s.whenM (fun s =>
    if c > 7 then s
    else
      let s := s.modPort c (fun _ => { present := present })
      if present then ((s.wr 7 CRT_STEP c 1).wr 7 CRT_TRIES c 0).tagStep c else s.portState c 1))

/-- A command repeated up to three times; a port that does not answer is absent (R551). -/
def State.tagRetry (s : State) (c : Nat) : State :=
  let n := s.rd 7 CRT_TRIES c + 1
  if n > 3 then
    if s.rd 7 CRT_STEP c = 3 then ((s.wr 7 CRT_STEP c 0).wr 7 CRT_TRIES c 0).raise 7 12 else s.portState c 1
  else (s.wr 7 CRT_TRIES c n).tagStep c

/-- TAG_TIMEOUT (R551): no answer within 2 ms. -/
def execTagTimeout (c : Nat) (s : State) : Host.Outcome State Fault Refusal :=
  .next (s.whenM (fun s => if c < 8 ∧ s.rd 7 CRT_STEP c ≠ 0 then s.tagRetry c else s))

/-- The record of a cartridge in the mirror. -/
def State.mirrorOf (s : State) (serial : Nat) : Option CartRec := s.mdie.mirror.find? (fun r => r.serial == serial)

/-- A record put into the mirror of 64 cartridges (R556). -/
def State.putMirror (s : State) (r : CartRec) : State :=
  s.modM (fun m => { m with mirror := (m.mirror.filter (fun e => e.serial != r.serial)).take 63 ++ [r] })

/-- The counters a port shows, with their use of the budget; source 11 once for each counter above its budget (R555,
R556). -/
def State.showLife (s : State) (c : Nat) (r : CartRec) : State :=
  (List.range 4).foldl (fun s k =>
    let v := r.counters.getD k 0
    let b := r.budgets.getD k 0
    let s := (s.wr 7 CRT_COUNTER (4 * c + k) v).wr 7 CRT_LIFE_USED (4 * c + k) (if b = 0 then 0 else satNat 16 (v * 10000 / b))
    if b ≠ 0 ∧ v > b ∧ !s.rdB 7 CRT_OVER (4 * c + k) then (s.wr 7 CRT_OVER (4 * c + k) 1).raise 7 11 else s) s

/-- The mirror takes the larger of mirror and tag; a larger mirror is written to the tag at once (R556). -/
def State.mergeLife (s : State) (c serial : Nat) (tag budgets : List Nat) : State :=
  let old := ((s.mirrorOf serial).map CartRec.counters).getD [0, 0, 0, 0]
  let new := (List.range 4).map (fun k => max (old.getD k 0) (tag.getD k 0))
  let r : CartRec := { serial := serial, counters := new, budgets := budgets }
  let s := ((s.putMirror r).showLife c r).modPort c (fun p => { p with counters := new })
  if new ≠ tag then (s.wr 7 CRT_STEP c 3).tagStep c else s

/-- The manifest read: its certificate verified against the anchor, and the tag challenged (R553). -/
def State.tagManifest (s : State) (c : Nat) (man : List Byte) : State :=
  let a := Config.manifest 2 man
  let ok := decide (a < 4) && Config.sigOk (toLe 68 (s.rd 7 CRT_ANCHOR a)) (Config.manifestPart 3 man) (Config.manifestPart 2 man)
  let nonce := toLe 32 (Config.free 553 s.fv)
  let s := ((s.draw).2.modPort c (fun p => { p with manifest := man, nonce := nonce })).wr 7 CRT_SERIAL c (Config.manifest 0 man)
  if ok then ((s.wr 7 CRT_STEP c 2).wr 7 CRT_TRIES c 0).tagStep c else s.portState c 2

/-- The tag's answer to the challenge: its signature over nonce, serial and counters, and the counters themselves (R553). -/
def State.tagChallenge (s : State) (c : Nat) (ans : List Byte) : State :=
  let p := s.mdie.ports.getD c {}
  let read := (List.range 4).map (fun k => Config.manifest (7 + k) p.manifest)
  let signed := (List.range 4).map (fun k => Config.tagCounter ans k)
  let ok := Config.sigOk (Config.manifestPart 4 p.manifest) (Config.tagAnswer 0 (p.nonce ++ ans)) (Config.tagAnswer 1 ans) && signed == read
  let s := s.portState c (if ok then 3 else 2)
  if ok then s.mergeLife c (Config.manifest 0 p.manifest) signed ((List.range 4).map (fun k => Config.manifest (3 + k) p.manifest)) else s

/-- TAG_RESPONSE (R551): a frame that fails its check is asked for again. -/
def execTagResponse (c : Nat) (frame : List Byte) (s : State) : Host.Outcome State Fault Refusal :=
  .next (s.whenM (fun s =>
    let step := s.rd 7 CRT_STEP c
    let n := frame.length
    if c > 7 ∨ step = 0 then s
    else if n < 5 ∨ fieldLe frame (n - 2) 2 ≠ crc16 (frame.take (n - 2)) ∨ byteAt frame 0 ≠ step ∨ fieldLe frame 1 2 + 5 ≠ n then s.tagRetry c
    else
      let data := (frame.drop 3).take (n - 5)
      match step with
      | 1 => s.tagManifest c data
      | 2 => s.tagChallenge c data
      | _ => (s.wr 7 CRT_STEP c 0).wr 7 CRT_TRIES c 0))

/-- An increment of a counter of a record, exact, whole units counted (R555). -/
def CartRec.add (r : CartRec) (k : Nat) (x : Rat) : CartRec :=
  let y := r.rest.getD k 0 + x
  let n := y.floor.toNat
  { r with counters := r.counters.set k (r.counters.getD k 0 + n), rest := r.rest.set k (y - n) }

/-- The wheel's change since the last cycle in rad, where a set and its counts are configured (R555). -/
def State.wheelAngle (s : State) (l : LaneId) : Rat :=
  let set := s.rd l.reg CRT_WHEEL_SET
  let cpr := s.rd l.reg CRT_WHEEL_CPR
  if set > 7 ∨ cpr = 0 ∨ !s.rdB l.reg CRT_WHEEL_ON then 0
  else 2 * piQ * ((s.rd l.reg VOT_AN_VALUE set : Int) - (s.rd l.reg CRT_WHEEL_LAST : Int)).natAbs / (cpr : Rat)

/-- The increments of one bridge's cartridge in a cycle (R555): ball-screw revolutions of an S-22; of a B-14 pad wear at an
actuation, whose contact position no rule locates (a free value, log 6), absorbed energy, actuation cycles. -/
def State.wear (s : State) (l : LaneId) (b : Nat) (man : List Byte) (r : CartRec) : CartRec :=
  if Config.manifest 1 man % 65536 = 0x22 then
    let den := 65536 * (s.rd l.reg CMT_POLE_PAIRS b : Rat) * Config.manifestRat 0 man
    r.add 0 (if den = 0 then 0 else ((s.rdI l.reg CEN_DPOS b).natAbs : Rat) * 1000 / den)
  else match [1, 2, 3, 4].find? (fun t => s.targetDriven l t && s.rd l.reg CEN_TGT_BRIDGE t == b) with
    | none => r
    | some t =>
      let f : Rat := (s.rd l.reg CEN_TARGET t : Nat)
      let force := Config.manifestRat 3 man
      let r := r.add 1 (f * Config.manifestRat 2 man * s.wheelAngle l / 1000)
      if (s.rd l.reg CRT_TGT_LAST t : Rat) < force ∧ f ≥ force then (r.add 2 1).add 0 ((Config.free 555 s.fv : Nat) : Rat) else r

/-- The wear of a Towline cycle: M adds what the lowest-lettered lane in service counts (R555). -/
def State.lifeCycle (s : State) (l : LaneId) : State :=
  let s := if s.lowestLane (fun x => s.vstate x == 2) = some l ∧ s.reaches l .m then
      (List.range 6).foldl (fun s b =>
        let c := s.rd l.reg CMT_CART b
        if c > 7 ∨ s.rd 7 CRT_PORT_STATE c ≠ 3 then s
        else match s.mirrorOf (s.rd 7 CRT_SERIAL c) with
          | some r =>
            let r := s.wear l b (s.mdie.ports.getD c {}).manifest r
            (((s.draw).2.putMirror r).showLife c r)
          | none => s) s
    else s
  let set := s.rd l.reg CRT_WHEEL_SET
  let s := if set ≤ 7 then (s.wr l.reg CRT_WHEEL_LAST 0 (s.rd l.reg VOT_AN_VALUE set)).wr l.reg CRT_WHEEL_ON 0 1 else s
  [1, 2, 3, 4].foldl (fun s t => s.wr l.reg CRT_TGT_LAST t (s.rd l.reg CEN_TARGET t)) s

/-- TAG_COUNTER_WRITEBACK (R556): every 10 min and at shutdown the mirror goes to every verified tag; a failed write raises
source 12 and waits for the next interval. -/
def execTagCounterWriteback (failed : List Nat) (s : State) : Host.Outcome State Fault Refusal :=
  .next (s.whenM (fun s =>
    (List.range 8).foldl (fun s c =>
      if s.rd 7 CRT_PORT_STATE c ≠ 3 then s
      else match s.mirrorOf (s.rd 7 CRT_SERIAL c) with
        | none => s
        | some r =>
          let s := (s.send (.tag c (tagFrame 3 (r.counters.flatMap (toLe 8))))).showLife c r
          if failed.contains c then s.raise 7 12 else s.modPort c (fun p => { p with counters := r.counters }))
      (s.wr 7 CRT_LAST_WB 0 s.now)))

/-- CART_REPORT_RECEIVE (R553): held until its cycle. -/
def execCartReportReceive (l : LaneId) (r : CartReport) (s : State) : Host.Outcome State Fault Refusal :=
  .next (s.whenUp l (fun s => if s.rdB l.reg INT_M_LOST then s else s.modLane l (fun x => { x with cart := some r })))

/-- A report whose cycle has come taken into the lane's parameters (R553). -/
def State.cartCycle (s : State) (l : LaneId) : State :=
  match (s.lane l).cart with
  | none => s
  | some r =>
    if (s.cycle l + 2 ^ 32 - r.cycle) % 2 ^ 32 ≥ 2 ^ 31 then s
    else
      let s := (r.ports.zipIdx).foldl (fun s p =>
        if p.2 > 7 then s
        else ((s.wr l.reg CRT_MAN_STATE p.2 p.1.state).wr l.reg CRT_MAN_TYPE p.2 p.1.type).wr l.reg CRT_MAN_DIGEST p.2 p.1.digest) s
      (s.wr l.reg CRT_POLICY_SEEN 0 r.policy).modLane l (fun x => { x with cart := none })

end Sys2Proof.Machine
end

