-- ==== Sys2Proof/Machine/Rules.lean ====
section
/-! DEFINITION. The consistency rules of every block, which a consist, or a SET of RWS parameters, meets over the present
values (R57, R59): R80, R108, R113, R181, R197, R202, R230, R231, R242, R245, R246, R262, R269, R287, R316, R347, R348,
R365, R384, R396, R419, R422, R470, R488, R514, R526, R533. A set is judged against every rule of every block it touches; a rule is one
of each block whose parameters it names (log 40). -/

namespace Sys2Proof.Machine

open Par Var

/-! ### The shape of a rule -/

/-- A set that writes the places `ks` touches a block of one of the parameters `ps` (R57). -/
def touches (ks ps : List PKey) : Bool := ps.any (fun p => ks.any (fun k => k.region == p.region && k.block == p.block))

/-- A rule over the parameters `ps`: judged where the set touches one of their blocks, broken as CONFIG_MISMATCH naming the first
two (R44, R57). -/
def rule (ks ps : List PKey) (bad : Bool) : Option Rsp :=
  if touches ks ps && bad then
    some (rMismatch ((ps.map PKey.toId).getD 0 0) ((ps.map PKey.toId).getD 1 0))
  else none

/-- A rule with two names of its own. -/
def ruleN (ks ps : List PKey) (bad : Bool) (a b : Nat) : Option Rsp :=
  if touches ks ps && bad then some (rMismatch a b) else none

/-- Parameters that change only while a condition holds: the breach names the parameter and what shows the condition. -/
def frozen (s t : State) (free : Bool) (why : Nat) (ps : List PKey) : Option Rsp :=
  match ps.find? (fun k => s.params.get k != t.params.get k) with
  | some k => if free then none else some (rMismatch k.toId why)
  | none => none

/-- Parameters that change only while a condition holds, where the breach is RANGE naming what shows the condition. -/
def locked (s t : State) (free : Bool) (why : Nat) (ps : List PKey) : Option Rsp :=
  if !free && ps.any (fun k => s.params.get k != t.params.get k) then some (rRange why 0) else none

/-- The places of one parameter in all its instances. -/
def PDesc.keys (d : PDesc) (r : Nat) : List PKey := (List.range (d.hi + 1 - d.lo)).map (fun i => d.key r (d.lo + i))

/-- The pairs i < j below `n`. -/
def pairsBelow (n : Nat) : List (Nat × Nat) := (List.range n).flatMap (fun i => (List.range i).map (fun j => (j, i)))

/-- The bridges of a lane. -/
def six : List Nat := List.range 6

/-! ### Host ports, clock and power -/

/-- The rules of HST (R80). A mask of 0xFFFFFFFF leaves no host bits and so no broadcast address: any address passes it (DESIGN CHOICE,
log 60). The self-configurable-address bit is bit 63 of a NAME (ISO 11783-5, log 41). -/
def hstRules (t : State) (l : LaneId) (ks : List PKey) : Option Rsp :=
  let g (d : PDesc) : Nat := t.rd l.reg d
  let k (d : PDesc) : PKey := d.key l.reg 0
  let can1 := bit (g HST_PORT_EN) 3
  let host := 2 ^ 32 - 1 - g HST_IP_MASK
  firstFail [rule ks [k HST_CAN0_DBR, k HST_CAN0_NBR] (decide (g HST_CAN0_DBR < g HST_CAN0_NBR)),
    rule ks [k HST_CAN0_REQ_ID, k HST_CAN0_RPL_ID] (g HST_CAN0_REQ_ID == g HST_CAN0_RPL_ID),
    rule ks [k HST_PORT_EN, k HST_ISO_SA] (can1 && decide (g HST_ISO_SA > 0xFD)),
    rule ks [k HST_PORT_EN, k HST_ISO_NAME] (can1 && (g HST_ISO_NAME == 0 || bit (g HST_ISO_NAME) 63)),
    rule ks [k HST_IP_ADDR] (g HST_IP_ADDR == 0),
    rule ks [k HST_IP_ADDR, k HST_IP_MASK] (host != 0 && g HST_IP_ADDR &&& host == host)]

/-- The parameter that shows configured work of a block whose gate is to close (R514). -/
def State.gateWork (t : State) (l : LaneId) : Nat → Option Nat
  | 2 => if t.rdB l.reg HST_PORT_EN then some (HST_PORT_EN.id l.reg 0) else none
  | 19 => ((List.range 8).find? (fun r => t.rdB l.reg RPC_EN r)).map (fun r => RPC_EN.id l.reg r)
  | 20 => if t.rd l.reg TRC_STATE = 0 ∨ t.rd l.reg TRC_STATE = 4 then none else some (TRC_STATE.id l.reg 0)
  | 21 => ((List.range 8).find? (fun ch => t.rdB l.reg FBI_MODE ch)).map (fun ch => FBI_MODE.id l.reg ch)
  | 22 => if t.rd l.reg SDC_SRC = 0xF then none else some (SDC_SRC.id l.reg 0)
  | _ => none

/-- The rules of CLK (R514): a gate closes only over a block without configured work. -/
def clkRules (s t : State) (l : LaneId) : Option Rsp :=
  firstOf (fun n =>
    if bit (s.rd l.reg CLK_GATE_EN) n && !bit (t.rd l.reg CLK_GATE_EN) n then
      (t.gateWork l n).map (fun id => rMismatch (CLK_GATE_EN.id l.reg 0) id)
    else none) [2, 19, 20, 21, 22]

/-- The rules of PWR (R526, R533). -/
def pwrRules (t : State) (l : LaneId) (ks : List PKey) : Option Rsp :=
  let cr := t.rd l.reg PWR_CREEP_CH
  let chs := (List.range 8).filter (fun ch => cr.testBit ch)
  firstFail [rule ks [PWR_CREEP_CH.key l.reg 0] (decide (chs.length > 4)),
    firstOf (fun ch => rule ks [PWR_CREEP_CH.key l.reg 0, FBI_MODE.key l.reg ch]
      (t.rd l.reg FBI_MODE ch != 1 && t.rd l.reg FBI_MODE ch != 2)) chs,
    firstOf (fun x => rule ks [PWR_PARK_FORCE.key l.reg x, CEN_TGT_MAX.key l.reg x]
      (decide (t.rd l.reg PWR_PARK_FORCE x > t.rd l.reg CEN_TGT_MAX x))) [1, 2, 3, 4],
    firstOf (fun x => rule ks [PWR_PARK_FORCE.key l.reg x, CEN_TGT_BRIDGE.key l.reg x]
      (t.rdB l.reg PWR_PARK_FORCE x && t.rd l.reg CEN_TGT_BRIDGE x == 0xF)) [1, 2, 3, 4]]

/-! ### Votes, modes, staff and safety inputs -/

/-- A vote source: a read-only parameter of at most 32 bits in the lane die or its power die (R108). -/
def srcOk (l : LaneId) (id : Nat) : Bool :=
  idExists l id && (match lookup (PKey.ofId id) with
    | some d => d.acc == .ro && decide (d.width ≤ 32)
    | none => false)

/-- The rules of VOT (R108, R384). -/
def votRules (t : State) (l : LaneId) (ks : List PKey) : Option Rsp :=
  let r := l.reg
  let smp := t.rd r TWL_SAMPLE_OFFSET
  let cut := t.rd r VOT_VOTE_CUTOFF
  firstFail [
    rule ks [VOT_VOTE_CUTOFF.key r 0, TWL_SAMPLE_OFFSET.key r 0] (decide (cut ≥ smp)),
    rule ks [VOT_VOTE_CUTOFF.key r 0, TWL_LATCH_OFFSET.key r 0] (decide (cut + smp ≥ t.rd r TWL_LATCH_OFFSET)),
    firstOf (fun i => firstFail [
      rule ks [VOT_AN_SRC.key r i, VOT_AN_DIFF.key r i] (t.rdB r VOT_AN_SRC i && !t.rdB r VOT_AN_DIFF i),
      rule ks [VOT_AN_REF.key r i, VOT_AN_OBS_TOL.key r i] (t.rdB r VOT_AN_REF i && !t.rdB r VOT_AN_OBS_TOL i),
      rule ks [VOT_AN_SRC.key r i] (t.rdB r VOT_AN_SRC i && !srcOk l (t.rd r VOT_AN_SRC i)),
      rule ks [VOT_AN_REF.key r i] (t.rdB r VOT_AN_REF i && !srcOk l (t.rd r VOT_AN_REF i))]) (List.range 8),
    firstOf (fun i => firstFail [
      rule ks [VOT_DI_SRC.key r i] (t.rdB r VOT_DI_SRC i && !srcOk l (t.rd r VOT_DI_SRC i)),
      rule ks [VOT_DI_BIT.key r i, VOT_DI_SRC.key r i] (t.rdB r VOT_DI_SRC i &&
        decide (t.rd r VOT_DI_BIT i ≥ widthOf (PKey.ofId (t.rd r VOT_DI_SRC i))))]) (List.range 32),
    firstOf (fun x => firstFail [
      rule ks [VOT_STOP_FORCE.key r x, CEN_TGT_MAX.key r x] (decide (t.rd r VOT_STOP_FORCE x > t.rd r CEN_TGT_MAX x)),
      rule ks [VOT_STOP_FORCE.key r x, CEN_TGT_BRIDGE.key r x]
        (!t.rdB r VOT_STOP_FORCE x && t.rd r CEN_TGT_BRIDGE x != 0xF)]) [1, 2, 3, 4]]

/-- The rule of STF (R113). -/
def stfRules (t : State) (l : LaneId) (ks : List PKey) : Option Rsp :=
  rule ks [STF_LEASE.key l.reg 0, TWL_CYCLE_LEN.key l.reg 0]
    (decide (t.rd l.reg STF_LEASE * 1000 < 2 * t.rd l.reg TWL_CYCLE_LEN))

/-- The rules of SIO (R365). -/
def sioRules (t : State) (l : LaneId) (ks : List PKey) : Option Rsp :=
  let r := l.reg
  firstFail [
    rule ks [SIO_TP_WIDTH.key r 0, SIO_TP_PERIOD.key r 0, SIO_TP_SETTLE.key r 0]
      (decide ((t.rd r SIO_TP_WIDTH + t.rd r SIO_TP_SETTLE) * 4 ≥ t.rd r SIO_TP_PERIOD * 1000)),
    firstOf (fun i => rule ks [SIO_TP_SRC.key r i, SIO_TP_EN.key r 0]
      (t.rd r SIO_TP_SRC i != 7 && !bit (t.rd r SIO_TP_EN) (t.rd r SIO_TP_SRC i))) (List.range 16),
    rule ks [SIO_ACK_MIN.key r 0, SIO_ACK_MAX.key r 0] (decide (t.rd r SIO_ACK_MIN ≥ t.rd r SIO_ACK_MAX)),
    firstOf (fun x => rule ks [SIO_ESTOP_FORCE.key r x, CEN_TGT_MAX.key r x]
      (decide (t.rd r SIO_ESTOP_FORCE x > t.rd r CEN_TGT_MAX x))) [1, 2, 3, 4],
    firstOf (fun b => rule ks [SIO_TRIP_BRIDGES.key r 0, CMT_TQ_SRC.key r b]
      (bit (t.rd r SIO_TRIP_BRIDGES) b && !t.rdB r CMT_TQ_SRC b)) six]

/-! ### Drives -/

/-- Two configured bridges. -/
def State.bothUsed (t : State) (l : LaneId) (p : Nat × Nat) : Bool := t.bridgeUsed l p.1 && t.bridgeUsed l p.2

/-- The rules of CMT (R181), that of double update among them (R155). -/
def cmtRules (s t : State) (l : LaneId) (ks : List PKey) : Option Rsp :=
  let r := l.reg
  let base := t.basePeriod l
  let used := six.filter (fun b => t.bridgeUsed l b)
  firstFail [
    firstOf (fun b => frozen s t (s.rd r CMT_STATE b == 0) (CMT_STATE.id r b)
      [CMT_PWM_PERIOD.key r b, CMT_UPDATE.key r b, CMT_SENSE_MODE.key r b, CMT_CART.key r b, CMT_POLE_PAIRS.key r b]) six,
    firstOf (fun b => rule ks [CMT_PWM_PERIOD.key r b, CMT_CART.key r b]
      (t.rd r CMT_PWM_PERIOD b % base != 0 || decide (t.rd r CMT_PWM_PERIOD b > 4 * base))) used,
    firstOf (fun b => rule ks [CMT_PWM_PERIOD.key r b, TWL_CYCLE_LEN.key r 0, CMT_CART.key r b]
      (t.rd r TWL_CYCLE_LEN * 1600 % base != 0)) used,
    firstOf (fun b => rule ks [CMT_PWM_PHASE.key r 0, CMT_PWM_PERIOD.key r b, CMT_CART.key r b]
      (decide (t.rd r CMT_PWM_PHASE ≥ base))) used,
    firstOf (fun b => rule ks [CMT_UPDATE.key r b, CMT_SENSE_MODE.key r b] (t.rdB r CMT_UPDATE b && !t.rdB r CMT_SENSE_MODE b)) six,
    firstOf (fun b => rule ks [CMT_SAMPLE_WIN.key r b, CMT_PWM_PERIOD.key r b, CMT_SHIFT_MAX.key r b]
      (decide ((t.rd r CMT_SAMPLE_WIN b + t.rd r CMT_SHIFT_MAX b) * 2000 > t.rd r CMT_PWM_PERIOD b * 625))) six,
    firstOf (fun p => rule ks [CMT_CART.key r p.1, CMT_CART.key r p.2]
      (t.bothUsed l p && t.rd r CMT_CART p.1 == t.rd r CMT_CART p.2)) (pairsBelow 6),
    firstOf (fun b => firstOf (fun d => rule ks [d.key r b, CMT_CART.key r b] (!t.rdB r d b))
      [CMT_POLE_PAIRS, CMT_I_CONT, CMT_LD, CMT_LQ, CMT_PSI, CMT_TQ_SRC]) used,
    firstOf (fun b => rule ks [CMT_I_CONT.key r b, CMT_I_FS.key r b, CMT_CART.key r b]
      (decide (t.rd r CMT_I_CONT b * 14 > t.rd r CMT_I_FS b * 10))) used]

/-- The conditions on high-frequency injection (R197). -/
def hfiRules (t : State) (l : LaneId) (ks : List PKey) (b : Nat) : Option Rsp :=
  let r := l.reg
  let ld := t.rd r OBS_LD_HF b
  let lq := t.rd r OBS_LQ_HF b
  let en := t.rdB r OBS_HFI_EN b
  let sal := if lq ≥ ld then lq - ld else ld - lq
  firstFail [
    rule ks [OBS_HFI_EN.key r b, OBS_LQ_HF.key r b, OBS_LD_HF.key r b] (en && decide (sal * 40 < lq + ld)),
    rule ks [OBS_HFI_EN.key r b, CMT_PWM_PERIOD.key r b] (en && decide (t.rd r CMT_PWM_PERIOD b > 100000))]

/-- The rules of OBS (R202). -/
def obsRules (s t : State) (l : LaneId) (ks : List PKey) : Option Rsp :=
  let r := l.reg
  let enc (b : Nat) : Bool := t.rd r OBS_ENC_SRC b != 0xF
  let used := six.filter (fun b => t.bridgeUsed l b)
  firstFail [
    firstOf (fun b => frozen s t (s.rd r CMT_STATE b == 0) (CMT_STATE.id r b)
      [OBS_ENC_SRC.key r b, OBS_ENC_CPR.key r b, OBS_ENC_DIR.key r b, OBS_ENC_OFFSET.key r b]) six,
    firstOf (fun p => rule ks [OBS_ENC_SRC.key r p.1, OBS_ENC_SRC.key r p.2]
      (t.bothUsed l p && enc p.1 && t.rd r OBS_ENC_SRC p.1 == t.rd r OBS_ENC_SRC p.2)) (pairsBelow 6),
    firstOf (fun b => rule ks [OBS_ENC_SRC.key r b, FBI_MODE.key r (t.rd r OBS_ENC_SRC b)]
      (enc b && !t.rdB r FBI_MODE (t.rd r OBS_ENC_SRC b))) six,
    firstOf (fun b => rule ks [OBS_W_RATED.key r b, CMT_CART.key r b] (!t.rdB r OBS_W_RATED b)) used,
    firstOf (fun b => rule ks [OBS_ENC_CPR.key r b, OBS_ENC_SRC.key r b] (enc b && !t.rdB r OBS_ENC_CPR b)) used,
    rule ks [OBS_OBS_MIN.key r 0, OBS_SENS_BAND.key r 0] (decide (t.rd r OBS_OBS_MIN ≥ t.rd r OBS_SENS_BAND)),
    rule ks [OBS_AGREE_WIN.key r 0, OBS_LOCK_WIN.key r 0] (decide (t.rd r OBS_AGREE_WIN ≥ t.rd r OBS_LOCK_WIN)),
    firstOf (fun b => rule ks [OBS_REACQ.key r 0, OBS_EXTRAP_MAX.key r 0]
      (decide (t.rd r OBS_REACQ * t.rd r CMT_PWM_PERIOD b * 625 > t.rd r OBS_EXTRAP_MAX * 1000000))) used,
    firstOf (fun b => hfiRules t l ks b) six]

/-- The rules of GDR and ADC (R230, R231). With low-side shunts the duty clamp of R162 must leave a positive duty (log 42). -/
def powRules (s t : State) (l : LaneId) (ks : List PKey) : Option Rsp :=
  let r := l.reg
  let p := l.pow
  firstFail [
    firstOf (fun b => frozen s t (s.rd r CMT_STATE b == 0) (CMT_STATE.id r b)
      [GDR_DEAD_TIME.key p b, ADC_CS_MODE.key p b, ADC_CS_GAIN.key p b]) six,
    firstOf (fun b => rule ks [GDR_DEAD_TIME.key p b, CMT_SAMPLE_WIN.key r b, CMT_PWM_PERIOD.key r b]
      (!t.rdB r CMT_SENSE_MODE b && decide (t.rd r CMT_SAMPLE_WIN b * 1000 + 150000 + 2 * t.rd p GDR_DEAD_TIME b * 625 ≥
        t.rd r CMT_PWM_PERIOD b * 625))) six,
    firstOf (fun b => rule ks [ADC_CS_MODE.key p b, CMT_SENSE_MODE.key r b]
      (touches ks [ADC_CS_MODE.key p b] && t.rd p ADC_CS_MODE b != s.rd r CMT_SENSE_MODE b)) six]

/-! ### Control, learning and feedback -/

/-- Two loops that own a common section (R262). -/
def State.secClash (t : State) (l : LaneId) (p : Nat × Nat) : Bool :=
  let f (n : Nat) : Nat := t.rd l.reg CEN_SEC_FIRST n
  let c (n : Nat) : Nat := t.rd l.reg CEN_SEC_NUM n
  c p.1 != 0 && c p.2 != 0 && decide (f p.1 < f p.2 + c p.2) && decide (f p.2 < f p.1 + c p.1)

/-- The rules of one loop (R242, R246, R262). -/
def loopRules (t : State) (l : LaneId) (ks : List PKey) (n : Nat) : Option Rsp :=
  let r := l.reg
  let num := t.rd r CEN_SEC_NUM n
  let trg := t.rd r CEN_TRIG n
  let names (d : PDesc) : Bool := let k := PKey.ofId (t.rd r d n); k.region == r && k.isOf CEN_LOCAL
  firstFail [
    rule ks [CEN_SEC_NUM.key r n] (if n < 12 then num == 0 || decide (num > 4) else decide (num > 32)),
    rule ks [CEN_SEC_FIRST.key r n, CEN_SEC_NUM.key r n] (decide (t.rd r CEN_SEC_FIRST n + num > 512)),
    rule ks [CEN_LIM_LO.key r n, CEN_LIM_HI.key r n] (decide (t.rdI r CEN_LIM_LO n ≥ t.rdI r CEN_LIM_HI n)),
    rule ks [CEN_TRIG.key r n, TWL_CYCLE_LEN.key r 0] (decide (n ≥ 12) && bits trg 3 0 == 1 && t.basesPerCycle l % (bits trg 15 8 + 1) != 0),
    rule ks [CEN_REF_SRC.key r n, CEN_LOCAL.key r (PKey.ofId (t.rd r CEN_REF_SRC n)).inst] (decide (n ≥ 12) && names CEN_REF_SRC),
    rule ks [CEN_FB_SRC.key r n, CEN_LOCAL.key r (PKey.ofId (t.rd r CEN_FB_SRC n)).inst] (decide (n ≥ 12) && names CEN_FB_SRC)]

/-- The rule on the load of CEN: a set that would raise it above 70 %, whichever of its parameters does, is refused, naming the highest-numbered
general loop that it configures; of a set that configures none, the highest with a trigger (R242; the last DESIGN CHOICE, log 75). -/
def loadRule (s t : State) (l : LaneId) (ks : List PKey) : Option Rsp :=
  let r := l.reg
  let down := (List.range 36).map (fun i => 47 - i)
  let own := (down.find? (fun n => ks.any (fun k =>
      k.region == r && k.block == 0x12 && decide (1 ≤ k.index) && decide (k.index ≤ 0x016) && k.inst == n))).or
    (down.find? (fun n => bits (t.rd r CEN_TRIG n) 3 0 != 0))
  if touches ks [CEN_TRIG.key r 12, CMT_PWM_PERIOD.key r 0, CLK_ISL_CFG.key r 0, TWL_CYCLE_LEN.key r 0] &&
      decide (t.cenLoad l > 7 / 10) && decide (t.cenLoad l > s.cenLoad l) then
    some (rMismatch (CEN_LOAD.id r 0) (CEN_TRIG.id r (own.getD 47)))
  else none

/-- The rules of CEN (R242, R245, R246, R262). -/
def cenRules (s t : State) (l : LaneId) (ks : List PKey) : Option Rsp :=
  let r := l.reg
  firstFail [
    firstOf (fun p => rule ks [CEN_SEC_FIRST.key r p.1, CEN_SEC_FIRST.key r p.2, CEN_SEC_NUM.key r p.1, CEN_SEC_NUM.key r p.2]
      (t.secClash l p)) (pairsBelow 48),
    firstOf (fun n => loopRules t l ks n) (List.range 48),
    firstOf (fun b =>
      let k := PKey.ofId (t.rd r CMT_TQ_SRC b)
      let ok := k.region == r && k.isOf CEN_OUT && t.rd r CEN_FS k.inst == 100 && t.rd r CEN_FS_UNIT k.inst == 1
      rule ks [CMT_TQ_SRC.key r b, CEN_FS.key r k.inst, CEN_FS_UNIT.key r k.inst] (t.rdB r CMT_TQ_SRC b && !ok)) six,
    loadRule s t l ks,
    firstOf (fun j => ruleN ks [CEN_AGR_SET.key r j, CEN_AGR_BR.key r j, CEN_AGR_K.key r j, CEN_AGR_E.key r j]
      (t.rd r CEN_AGR_SET j != 0xF && (t.refPeriod l).isNone) (CEN_AGR_SET.id r j) (CMT_PWM_PHASE.id r 0)) (List.range 8),
    firstOf (fun i => rule ks [CEN_MAP_X.key r i, CEN_MAP_X.key r (i + 1), CEN_LOCAL_MAP_EN.key r (i / 16)]
      (i % 16 != 15 && t.rdB r CEN_LOCAL_MAP_EN (i / 16) && decide (t.rdI r CEN_MAP_X i ≥ t.rdI r CEN_MAP_X (i + 1)))) (List.range 128)]

/-- The rules of one controller (R269, R287). Those on its host, its period and its speeds bind an enabled one: a consist that disables a
controller may free the host's add point (R279). -/
def rpcRule (s t : State) (l : LaneId) (ks : List PKey) (n : Nat) : Option Rsp :=
  let r := l.reg
  let host := t.rd r RPC_HOST n
  let kind := t.rd r RPC_IDX_KIND n
  let src := t.rd r RPC_IDX_SRC n
  let bins := t.rd r RPC_BINS n
  let used := t.rdB r RPC_EN n
  let out := RPC_OUT.id r n
  firstFail [
    frozen s t (s.rd r RPC_EN n == 0) (RPC_EN.id r n)
      [RPC_HOST.key r n, RPC_IDX_KIND.key r n, RPC_IDX_SRC.key r n, RPC_IDX_ABS.key r n, RPC_PERIOD.key r n, RPC_BINS.key r n,
       RPC_DIR_TABLES.key r n],
    rule ks [RPC_HOST.key r n, CEN_ADD_IN_SRC.key r host, RPC_IDX_KIND.key r n]
      (used && (decide (host < 12) || (t.rd r CEN_ADD_IN_SRC host != out && t.rd r CEN_ADD_OUT_SRC host != out))),
    rule ks [RPC_IDX_SRC.key r n, CMT_CART.key r src, RPC_IDX_KIND.key r n] (kind == 1 && !(decide (src < 6) && t.bridgeUsed l src)),
    rule ks [RPC_IDX_ABS.key r n, RPC_IDX_KIND.key r n] (kind == 1 && t.rdB r RPC_IDX_ABS n),
    rule ks [RPC_IDX_SRC.key r n, VOT_AN_SRC.key r src, RPC_IDX_KIND.key r n] (kind == 2 && !(decide (src < 8) && t.rdB r VOT_AN_SRC src)),
    ruleN ks [RPC_IDX_KIND.key r n, RPC_IDX_SRC.key r n] (kind == 2 && (t.refPeriod l).isNone) (RPC_IDX_SRC.id r n) (CMT_PWM_PHASE.id r 0),
    rule ks [RPC_PERIOD.key r n, RPC_BINS.key r n, RPC_IDX_KIND.key r n] (used && decide (t.rd r RPC_PERIOD n < bins)),
    rule ks [RPC_LEAD.key r n, RPC_BINS.key r n] (decide (t.rd r RPC_LEAD n * 2 ≥ bins)),
    rule ks [RPC_Q_DELAY.key r n, RPC_BINS.key r n] (decide (t.rd r RPC_Q_DELAY n * 2 ≥ bins)),
    rule ks [RPC_SPD_MIN.key r n, RPC_SPD_MAX.key r n, RPC_IDX_KIND.key r n] (used && decide (t.rd r RPC_SPD_MIN n ≥ t.rd r RPC_SPD_MAX n)),
    rule ks [RPC_SPD_MAX.key r n, CEN_TRIG.key r host, RPC_HOST.key r n, RPC_IDX_KIND.key r n]
      (used && decide (t.rd r RPC_SPD_MAX n * 2 * t.trigPs l host > 10 ^ 12))]

/-- The rules of RPC (R287). -/
def rpcRules (s t : State) (l : LaneId) (ks : List PKey) : Option Rsp :=
  let r := l.reg
  let ns := List.range 8
  let sum := ((ns.filter (fun n => t.rdB r RPC_EN n)).map (fun n => t.rd r RPC_BINS n * (1 + t.rd r RPC_DIR_TABLES n))).sum
  firstFail [firstOf (fun n => rpcRule s t l ks n) ns,
    firstOf (fun n => rule ks [RPC_EN.key r n, RPC_BINS.key r n, RPC_DIR_TABLES.key r n] (decide (sum > 32768))) ns]

/-- The time of an SSI read and its recovery in ns (R316). -/
def State.ssiTime (t : State) (l : LaneId) (ch : Nat) : Rat :=
  ((t.rd l.reg FBI_SSI_BITS ch + 1 : Nat) : Rat) * 1000000 / (t.rd l.reg FBI_SSI_CLK ch : Rat) +
    (t.rd l.reg FBI_SSI_DELAY ch * 25 + t.rd l.reg FBI_SSI_MONO ch * 1000 + 1000 : Nat)

/-- The rules of one channel of FBI (R316). -/
def fbiRule (s t : State) (l : LaneId) (ks : List PKey) (ch : Nat) : Option Rsp :=
  let r := l.reg
  let mode := t.rd r FBI_MODE ch
  let ssi : List PDesc := [FBI_SSI_BITS, FBI_SSI_CLK, FBI_SSI_DELAY, FBI_SSI_MONO, FBI_SSI_DIV, FBI_SSI_POS_LSB, FBI_SSI_POS_W,
    FBI_SSI_ERR_BIT, FBI_SSI_CODE, FBI_SSI_JUMP, FBI_SSI_FAULT_LIM]
  let b := six.find? (fun b => s.rd r OBS_ENC_SRC b == ch && s.rd r CMT_STATE b != 0 && s.rd r CMT_STATE b != 3)
  let err := bits (t.rd r FBI_SSI_ERR_BIT ch) 5 0
  let set := t.rd r FBI_ALIGN_SET ch
  firstFail [
    frozen s t b.isNone (CMT_STATE.id r (b.getD 0))
      ([FBI_MODE.key r ch, FBI_IN_TYPE.key r ch] ++ (if ch < 4 then [FBI_SC_BITS.key r ch] else ssi.map (fun d => d.key r ch))),
    if ch < 4 then none else firstFail [
      rule ks [FBI_SSI_POS_LSB.key r ch, FBI_SSI_POS_W.key r ch, FBI_SSI_BITS.key r ch]
        (decide (t.rd r FBI_SSI_POS_LSB ch + t.rd r FBI_SSI_POS_W ch > t.rd r FBI_SSI_BITS ch)),
      rule ks [FBI_SSI_ERR_BIT.key r ch, FBI_SSI_BITS.key r ch] (err != 0x3F && decide (err ≥ t.rd r FBI_SSI_BITS ch)),
      rule ks ([FBI_SSI_BITS, FBI_SSI_DIV, FBI_SSI_CLK, FBI_SSI_DELAY, FBI_SSI_MONO, FBI_MODE].map (fun d => d.key r ch))
        (decide (t.ssiTime l ch > (t.rd r FBI_SSI_DIV ch : Rat) * t.basePeriod l * 625 / 1000))],
    rule ks [FBI_INDEX_MODE.key r ch, FBI_MODE.key r ch] (mode == 2 && t.rdB r FBI_INDEX_MODE ch),
    rule ks [FBI_SPD_WIN.key r ch, FBI_STANDSTILL_TO.key r ch] (decide (t.rd r FBI_SPD_WIN ch ≥ t.rd r FBI_STANDSTILL_TO ch * 1000)),
    rule ks [FBI_ALIGN_SET.key r ch, VOT_AN_SRC.key r set] (set != 0xF && t.rd r VOT_AN_SRC set != FBI_POS_SI.id r ch)]

/-- The rules of FBI (R316). -/
def fbiRules (s t : State) (l : LaneId) (ks : List PKey) : Option Rsp :=
  let r := l.reg
  firstFail [rule ks [FBI_SC_WIN_LO.key r 0] (decide (t.rd r FBI_SC_WIN_LO ≥ 100)),
    rule ks [FBI_SC_WIN_HI.key r 0] (decide (t.rd r FBI_SC_WIN_HI ≤ 100)),
    firstOf (fun ch => fbiRule s t l ks ch) (List.range 8)]

/-- The rules of SDC (R347). -/
def sdcRules (t : State) (l : LaneId) (ks : List PKey) : Option Rsp :=
  let r := l.reg
  let src := t.rd r SDC_SRC
  let set := t.rd r SDC_DIST_SET
  firstFail [
    rule ks [SDC_SRC.key r 0, FBI_MODE.key r src] (src != 0xF && decide (t.rd r FBI_MODE src < 3)),
    rule ks [SDC_DIST_SET.key r 0, VOT_AN_SRC.key r set, SDC_SRC.key r 0] (set != 0xF && t.rd r VOT_AN_SRC set != FBI_POS_SI.id r src),
    firstOf (fun k => firstFail [rule ks [SDC_ON_DELAY.key r k] (decide (t.rd r SDC_ON_DELAY k > 1000000)),
      rule ks [SDC_OFF_DELAY.key r k] (decide (t.rd r SDC_OFF_DELAY k > 1000000))]) (List.range 64)]

/-! ### Towline (R396, R419, R422) -/

/-- The timetable parameters (R397). -/
def timetable (r : Nat) : List PKey :=
  [TWL_CYCLE_LEN.key r 0, TWL_NIT_LEN.key r 0, TWL_SAMPLE_OFFSET.key r 0, TWL_LATCH_OFFSET.key r 0] ++
    [TWL_PATH_START, TWL_PATH_LEN, TWL_PATH_OWNER, TWL_PATH_KIND, TWL_PATH_PAYLOAD].flatMap (fun d => d.keys r)

/-- The end of a path in µs. -/
def State.pathEnd (t : State) (l : LaneId) (p : Nat) : Nat := t.rd l.reg TWL_PATH_START p + t.rd l.reg TWL_PATH_LEN p

/-- The paths of a node of a kind. -/
def State.nodePaths (t : State) (l : LaneId) (node kind : Nat) : List Nat :=
  (t.paths l).filter (fun p => t.rd l.reg TWL_PATH_OWNER p == node && t.rd l.reg TWL_PATH_KIND p == kind)

/-- The rules of one used path (R395, R396). -/
def State.pathBad (t : State) (l : LaneId) (p : Nat) : Bool :=
  let len := t.rd l.reg TWL_PATH_LEN p
  decide (len < 4 ∨ len * 1000 < 1000 + (75 + 8 * t.rd l.reg TWL_PATH_PAYLOAD p) * 40 ∨
    t.pathEnd l p + t.rd l.reg TWL_NIT_LEN > t.rd l.reg TWL_CYCLE_LEN)

/-- Two used paths that overlap (R396). -/
def State.pathClash (t : State) (l : LaneId) (p q : Nat) : Bool :=
  p != q && decide (t.rd l.reg TWL_PATH_START p < t.pathEnd l q ∧ t.rd l.reg TWL_PATH_START q < t.pathEnd l p)

/-- A node's spare path is at least as long as its longest other path and starts at least 4 µs after the end of each
(R396). -/
def State.spareBad (t : State) (l : LaneId) (p : Nat) : Bool :=
  let others := (t.paths l).filter (fun q => q != p && t.rd l.reg TWL_PATH_OWNER q == t.rd l.reg TWL_PATH_OWNER p)
  others.any (fun q => decide (t.rd l.reg TWL_PATH_LEN q > t.rd l.reg TWL_PATH_LEN p ∨
    t.rd l.reg TWL_PATH_START p < t.pathEnd l q + 4))

/-- The rules of the timetable as a whole (R396, R418). -/
def timetableRules (t : State) (l : LaneId) (ks : List PKey) : Option Rsp :=
  let r := l.reg
  let ps := t.paths l
  let nodes := List.range 16
  let syncs := nodes.filter (fun n => (t.nodePaths l n 2) != [])
  let cold := nodes.filter (fun n => bit (t.rd r TWL_COLDSTART_NODES) n)
  let own := t.rd r TWL_NODE
  let written := touches ks [TWL_NODE.key r 0]
  let mm (bad : Bool) (a b : Nat) : Option Rsp := if bad then some (rMismatch a b) else none
  if !written || (ps.isEmpty && t.part == .fj3821) then none
  else firstFail [
    firstOf (fun p => mm (t.pathBad l p) (TWL_PATH_LEN.id r p) (TWL_CYCLE_LEN.id r 0)) ps,
    firstOf (fun p => (ps.find? (fun q => t.pathClash l p q)).map (fun q => rMismatch (TWL_PATH_START.id r p) (TWL_PATH_START.id r q))) ps,
    mm (decide (syncs.length < 3 ∨ syncs.length > 8)) (TWL_PATH_KIND.id r 0) 0,
    firstOf (fun n => mm (decide ((t.nodePaths l n 2).length > 1)) (TWL_PATH_OWNER.id r ((t.nodePaths l n 2).getD 0 0))
      (TWL_PATH_OWNER.id r ((t.nodePaths l n 2).getD 1 0))) nodes,
    firstOf (fun n => mm (decide ((t.nodePaths l n 3).length > 1)) (TWL_PATH_OWNER.id r ((t.nodePaths l n 3).getD 0 0))
      (TWL_PATH_OWNER.id r ((t.nodePaths l n 3).getD 1 0))) nodes,
    firstOf (fun p => mm (t.rd r TWL_PATH_KIND p == 3 && t.spareBad l p) (TWL_PATH_START.id r p) (TWL_PATH_LEN.id r p)) ps,
    mm (decide (cold.length > 3) || cold.any (fun n => !syncs.contains n)) (TWL_COLDSTART_NODES.id r 0) (TWL_PATH_OWNER.id r 0),
    mm (t.part != .fj3821 && ((t.nodePaths l own 2).length != 1 || (t.nodePaths l own 3).length != 1 || t.nodePaths l own 1 != []))
      (TWL_NODE.id r 0) (TWL_PATH_OWNER.id r 0)]

/-- The rules of TWL (R396, R419, R422). -/
def twlRules (t : State) (l : LaneId) (ks : List PKey) : Option Rsp :=
  let r := l.reg
  let g (d : PDesc) : Nat := t.rd r d
  firstFail [
    rule ks [TWL_NIT_LEN.key r 0, TWL_OFFSET_LIM.key r 0] (decide (g TWL_NIT_LEN * 1000 < g TWL_OFFSET_LIM * 25 + 8000)),
    rule ks [TWL_SAMPLE_OFFSET.key r 0] (decide (g TWL_SAMPLE_OFFSET < 10)),
    rule ks [TWL_LATCH_OFFSET.key r 0, TWL_SAMPLE_OFFSET.key r 0] (decide (g TWL_LATCH_OFFSET ≤ g TWL_SAMPLE_OFFSET)),
    rule ks [TWL_LATCH_OFFSET.key r 0, TWL_CYCLE_LEN.key r 0, TWL_NIT_LEN.key r 0]
      (decide (g TWL_LATCH_OFFSET + g TWL_NIT_LEN + 10 > g TWL_CYCLE_LEN)),
    timetableRules t l ks,
    firstOf (fun i => rule ks [TWL_TX_MAP.key r i] (t.rdB r TWL_TX_MAP i &&
      !(idExists l (t.rd r TWL_TX_MAP i) && decide (widthOf (PKey.ofId (t.rd r TWL_TX_MAP i)) ≤ 32)))) (List.range 12),
    firstOf (fun j =>
      let p := t.rd r TWL_RX_PATH j
      rule ks [TWL_RX_PATH.key r j, TWL_PATH_OWNER.key r p]
        (p != 0x7F && (!t.rdB r TWL_PATH_KIND p || t.rd r TWL_PATH_OWNER p == g TWL_NODE))) (List.range 8)]

/-! ### Fabric and fault collector, in every region -/

/-- The rules of FAB and FCL (R470, R488). R470's is a rule on the writing of `PRIO[q]`, so only a set that writes it breaks it. -/
def fclRules (t : State) (r : Nat) (ks : List PKey) : Option Rsp :=
  firstFail [
    firstOf (fun q => rule ks [FAB_PRIO.key r q, FAB_CLASS.key r q]
      (ks.contains (FAB_PRIO.key r q) && t.rd r FAB_CLASS q == 0)) (List.range 14),
    firstOf (fun i => rule ks [FCL_REC_WIN.key r i, FCL_QUIET.key r i]
      (decide (t.rd r FCL_REC_WIN i * 1000 < t.rd r FCL_QUIET i))) (List.range 64)]

/-! ### S (R348) -/

/-- The targets of the outputs of a kind. -/
def State.athTargets (t : State) (kind : Nat) : Nat :=
  (List.range 8).foldl (fun m a => if t.rd 8 ATH_KIND a = kind then m ||| t.rd 8 ATH_TGT_MASK a else m) 0

/-- The rules of S. -/
def sRules (t : State) (ks : List PKey) : Option Rsp :=
  firstFail [
    firstOf (fun k =>
      let m := t.rd 8 SEC_MASTER k
      rule ks [SEC_MASTER.key 8 k, SEC_EN.key 8 0] (m != 0x7F && (m == k || !bit (t.rd 8 SEC_EN) m))) (List.range 64),
    firstOf (fun a => rule ks [ATH_TGT_MASK.key 8 a, ATH_KIND.key 8 a] (t.athTargets 1 != t.athTargets 2)) (List.range 8)]

/-- An RWS parameter: only its writes are under the rules of consistency, so `CEN.MAN_OUT` is written at any time (R59, R251). -/
def isRws (k : PKey) : Bool :=
  match lookup k with
  | some d => d.acc == .rws
  | none => false

/-- Every rule of a set that writes the places `all`, `s` before it and `t` with it applied, in the region a waybill of a lane
reaches (R57). -/
def setRules (s t : State) (l : LaneId) (region : Nat) (all : List PKey) : Option Rsp :=
  let ks := all.filter isRws
  if region = 8 then firstFail [sRules t ks, fclRules t 8 ks]
  else if region = 7 then fclRules t 7 ks
  else firstFail [hstRules t l ks, votRules t l ks, stfRules t l ks, cmtRules s t l ks, obsRules s t l ks, powRules s t l ks,
    cenRules s t l ks, rpcRules s t l ks, fbiRules s t l ks, sdcRules t l ks, sioRules t l ks, twlRules t l ks,
    clkRules s t l, pwrRules t l ks, fclRules t l.reg ks, fclRules t l.pow ks]

end Sys2Proof.Machine
end

