-- ==== Sys2Proof/Machine/Write.lean ====
section
/-! DEFINITION. Reading and writing parameters by waybill: the checks of an item, alone and with the set it comes in; how a
set takes effect, with what its blocks do at the commit; the locks it lies under; and the data of a GET (R11, R12, R39,
R55 to R64, R457 to R461). -/

namespace Sys2Proof.Machine

open Par Var

/-- A write of one parameter: its place, its value, and the offset of its item in the waybill. -/
structure PWrite where
  k : PKey
  v : Nat
  off : Nat
deriving DecidableEq, Repr

/-- The writes of a SET or a SET_STAGED; the first item stands at offset 20 (R63). -/
def writesOf : Nat → List Item → List PWrite
  | _, [] => []
  | o, i :: r => ⟨PKey.ofId i.id, i.val, o⟩ :: writesOf (o + 8 + (i.len + 3) / 4 * 4) r

/-! ### Presence and access -/

/-- A value a write may carry (R64). -/
def PRange.ok : PRange → Nat → Bool
  | .any, _ => true
  | .span lo hi, v => decide (lo ≤ v ∧ v ≤ hi)
  | .spanOr lo hi x, v => decide ((lo ≤ v ∧ v ≤ hi) ∨ v = x)
  | .oneOf vs, v => vs.contains v
  | .bytes2 lo hi, v => decide (lo ≤ v % 256 ∧ v % 256 ≤ hi ∧ lo ≤ v / 256 ∧ v / 256 ≤ hi)

/-- A block of a lane die whose clock gate is closed (R514). -/
def State.gatedKey (s : State) (k : PKey) : Bool :=
  decide (k.region ≤ 3) && [0x02, 0x13, 0x14, 0x15, 0x16].contains k.block && !bit (s.rd k.region CLK_GATE_EN) k.block

/-! ### The length of an item (check 6) -/

/-- An item whose value length is not the parameter's width in bytes (R64). -/
def itemLength (i : Item) : Option Rsp :=
  match lookup (PKey.ofId i.id) with
  | some d => failIf (i.len != cdiv d.width 8) (rBadLength i.len (cdiv d.width 8))
  | none => none

/-! ### The value of an item (check 15) -/

/-- The owner blocks whose reset BLOCK_RESET may select, by region (R477). -/
def resettable (r : Nat) : List Nat :=
  match kindOf r with
  | .lane => [0x01, 0x02, 0x06, 0x13, 0x14, 0x15, 0x16, 0x18, 0x0A]
  | .power => [0x21, 0x23]
  | .m => [0x42, 0x43, 0x44, 0x45, 0x46]
  | _ => []

/-- The reaction bits that are RSV: both of the core pair for S, both of the fault output for M (R475). -/
def reactRsv (r : Nat) : Nat := if r = 8 then 0b11 else if r = 7 then 0b110000 else 0

/-- A write of `FCL.REACT[s]` keeps the fixed bits, leaves the RSV ones 0 and selects BLOCK_RESET only where the owner may be
reset (R475 to R477). -/
def State.reactOk (s : State) (r i v : Nat) : Bool :=
  s.rd r FCL_REACT_FIXED i &&& v == s.rd r FCL_REACT_FIXED i && v &&& reactRsv r == 0 && (!bit v 2 || (resettable r).contains (ownerOf r i))

/-- A trigger field with a source, a bridge and a phase that its encoding has (R239). -/
def cenTrigOk (v : Nat) : Bool :=
  decide (bits v 3 0 ≤ 4) && (bits v 3 0 != 1 || decide (bits v 6 4 ≤ 5)) && decide (bits v 23 16 ≤ bits v 15 8)

/-- A value refused at check 15 by the rule of its parameter (R239, R250, R288, R475 to R477, R514, R524). -/
def State.valueOk (s : State) (k : PKey) (d : PDesc) (v : Nat) : Bool :=
  let i := instOf d k
  let cleared := clrMask (s.params.get k) v
  if kindOf k.region = .lane then
    if k.isOf FBI_MODE then modeAllowed i v
    else if k.isOf CLK_GATE_EN then clrMask cleared (2 ^ 2 + 2 ^ 19 + 2 ^ 20 + 2 ^ 21 + 2 ^ 22) == 0
    else if k.isOf PWR_WAKE_EN then cleared &&& 0b100101 == 0
    else if k.isOf CEN_MODE then decide (i ≥ 12)
    else if k.isOf CEN_TRIG then decide (i < 12) || cenTrigOk v
    else if k.isOf FCL_REACT then s.reactOk k.region i v
    else true
  else if k.isOf FCL_REACT then s.reactOk k.region i v
  else true

/-- An item at check 15: its ID in the target's region and block, the parameter present and writable, the value within its
width and range (R63, R64). -/
def State.itemRange (s : State) (region block : Nat) (w : PWrite) : Option Rsp :=
  let bad : Option Rsp := some (rRange w.k.toId w.off)
  if w.k.region != region || w.k.block != block then bad
  else match lookup w.k with
    | none => bad
    | some d =>
      if !s.presentAt w.k d || d.acc == .ro || d.acc == .rc || decide (w.v ≥ 2 ^ d.width) || !d.range.ok w.v || !s.valueOk w.k d w.v
      then bad else none

/-! ### Conditions on the writing of a value (check 16) -/

/-- The closed loop that a section belongs to (R249). -/
def State.closedWith (s : State) (l : LaneId) (k : Nat) : Option Nat :=
  (List.range 48).find? (fun n => s.rd l.reg CEN_MODE n == 1 && (s.cenSecs l n).contains k)

/-- The parameters of a section, and those of a loop, that change only while their loop is open (R249). -/
def secPars : List PDesc := [CEN_B0, CEN_B1, CEN_B2, CEN_A1, CEN_A2, CEN_SEC_SHIFT, CEN_INTEG]
def loopPars : List PDesc := [CEN_SEC_FIRST, CEN_SEC_NUM, CEN_GAIN, CEN_GAIN_SHIFT]

/-- LOOP_CLOSED (R249). -/
def State.loopCheck (s : State) (l : LaneId) (k : PKey) (i : Nat) : Option Rsp :=
  if secPars.any (fun d => k.isOf d) then (s.closedWith l i).map (fun n => rLoopClosed (CEN_MODE.id l.reg n))
  else if loopPars.any (fun d => k.isOf d) then failIf (s.rd l.reg CEN_MODE i == 1) (rLoopClosed (CEN_MODE.id l.reg i))
  else none

/-- The conditions on clearing bits (R220, R313, R341, R481, R485, R487). What no state shows, whether a comparator is
asserted and which causes of a fault are present, is a free value (log 6). -/
def State.clearCheck (s : State) (l : LaneId) (w : PWrite) (i : Nat) : Option Rsp :=
  let r := w.k.region
  if w.k.isOf FCL_LATCHED then s.chkWire r FCL_LATCHED w.v
  else if w.k.isOf FCL_ERR_STATUS then s.chkWire r FCL_ERR_STATUS w.v
  else if w.k.isOf FCL_TROUBLE_CLEAR then s.chkTrouble l (w.v == 1)
  else if r = l.pow && w.k.isOf GDR_LATCHED then
    if bit w.v 6 && s.latchedB l i then chkLatchClear l i (s.commandsLow l i) (bit (Config.free 220 s.fv) 1) else none
  else if r = l.reg && w.k.isOf FBI_FAULT then
    failIf (w.v &&& Config.free 313 s.fv &&& s.rd r FBI_FAULT i != 0) (rRange w.k.toId 0)
  else if r = 8 && w.k.isOf SEC_FAULT then s.chkSecClear l i w.v (Config.free 341 s.fv)
  else none

/-- A table is written only while its controller is disabled (R284). -/
def State.tableCheck (s : State) (l : LaneId) (r : Nat) : Option Rsp :=
  failIf (s.rdB l.reg RPC_EN r) (rRange (RPC_EN.id l.reg r) 0)

/-- The conditions on one item (R64): its block's gate open, its loop open, its controller disabled, its causes absent. A RANGE carries the offset of the
item (R44). -/
def State.itemState (s : State) (l : LaneId) (w : PWrite) : Option Rsp :=
  match lookup w.k with
  | none => none
  | some d => (firstFail [
      failIf (s.gatedKey w.k) (rRange (CLK_GATE_EN.id l.reg 0) 0),
      if w.k.region = l.reg then s.loopCheck l w.k (instOf d w.k) else none,
      if w.k.region = l.reg && w.k.isOf RPC_TBL then s.tableCheck l (instOf d w.k / 8192) else none,
      s.clearCheck l w (instOf d w.k)]).map (fun r => atOffset r w.off)

/-! ### The set applied -/

/-- The reserved bits inside a value, which a write ignores: those of `CEN.TRIG`, the bits of `CLK.GATE_EN` at reserved block codes, and
all of a parameter of a reserved fault source (R8, R12, R239, R472, R514). R64 answers a value in a reserved field with RANGE; for bits
reserved inside a parameter of its own R12 is followed (DESIGN CHOICE, log 61). -/
def reservedIn (k : PKey) : Nat :=
  if kindOf k.region = .lane && k.isOf CEN_TRIG then 0xFF000080
  else if kindOf k.region = .lane && k.isOf CLK_GATE_EN then 0xF800E001
  else if k.block == 0x09 && k.index ≥ 0x010 && k.index ≤ 0x016 && !sourceListed k.region k.inst then 2 ^ 64 - 1
  else 0

/-- A place whose value is written as it stands: RWS and RW but the lock's hold and the archive's window. -/
def PKey.plain (k : PKey) : Bool :=
  match lookup k with
  | some d => (d.acc == .rws || d.acc == .rw) && !k.isOf FAB_LOCK_HOLD && !(k.region == 7 && k.isOf NVS_ARCH_WORD)
  | none => false

/-- The state with the values of a set written and nothing else done. -/
def State.putAll (s : State) (ws : List PWrite) : State :=
  { s with params := ws.foldl (fun m w => if w.k.plain then m.put w.k (clrMask w.v (reservedIn w.k)) else m) s.params }

/-- The place a write changes: a word of the archive window lies in the slot selected (R541). -/
def State.placeOf (t : State) (k : PKey) : PKey :=
  if k.region = 7 && k.isOf NVS_ARCH_WORD then archKey (t.rd 7 NVS_ARCH_SEL) (t.rd 7 NVS_ARCH_OFFSET * 256 + k.inst) else k

/-! ### Rules of a set that answer RANGE -/

/-- The RWS mode parameters of VOT (R384). -/
def modePars : List PDesc :=
  [VOT_AN_CRIT, VOT_DI_CRIT, VOT_STOP_FORCE, VOT_STOP_RATE, VOT_STOP_STEER_TO, VOT_STOP_HOLD_TIME, VOT_STOP_MAX, VOT_TWL_LOSS, VOT_RESUME_EN]

/-- The RWS parameters of TRC (R263). -/
def trcPars : List PDesc := [TRC_CH_EN, TRC_CH_SRC, TRC_SAMPLE, TRC_TRIG_MODE, TRC_TRIG_LEVEL, TRC_TRIG_ARG, TRC_PRE_TRIG]

/-- What a lane's set may not change in the present state (R259, R303, R347, R365, R384, R396, R415). -/
def State.laneLate (s t : State) (l : LaneId) (ks : List PKey) : Option Rsp :=
  let r := l.reg
  let driving := (List.range 6).any (fun b => s.rd r CMT_STATE b == 1 || s.rd r CMT_STATE b == 2)
  firstFail [
    firstOf (fun ch => failIf (ks.contains (FBI_INDEX_ARM.key r ch) && t.rdB r FBI_INDEX_ARM ch && t.rd r FBI_INDEX_MODE ch != 2)
      (rRange (FBI_INDEX_ARM.id r ch) 0)) (List.range 8),
    locked s t (s.rd r SVT_V_ARMED == 0) (SVT_ARMED.id 8 0) [SDC_SRC.key r 0, SDC_DIST_SET.key r 0],
    failIf (s.rd r SIO_TRIP != 0 && ks.any (fun k => k.region == r && k.block == 0x17)) (rRange (SIO_TRIP.id r 0) 0),
    locked s t (s.rd r TRC_STATE == 0 || s.rd r TRC_STATE == 4) (TRC_STATE.id r 0) (trcPars.flatMap (fun d => d.keys r)),
    locked s t (s.rd r VOT_MODE == 0) (VOT_MODE.id r 0) (modePars.flatMap (fun d => d.keys r)),
    locked s t (s.rd r TWL_STATE == 0) (TWL_STATE.id r 0)
      ([TWL_NODE.key r 0, TWL_COLDSTART_NODES.key r 0, TRX_RAIL_EN.key l.pow 0] ++ timetable r),
    failIf (s.rdB r TWL_EN && !t.rdB r TWL_EN && driving) (rRange (TWL_EN.id r 0) 0)]

/-- What a set of S may not change while sections are armed or a latch pulse runs (R348). -/
def State.sLate (s t : State) : Option Rsp :=
  let pulse := [1, 2, 3, 4].any (fun x => s.rdB 8 ATH_DIR x)
  locked s t (s.rd 8 SVT_ARMED == 0 && !pulse) (SVT_ARMED.id 8 0)
    ([SEC_EN.key 8 0] ++ [SEC_MASTER, ATH_KIND, ATH_TGT_MASK].flatMap (fun d => d.keys 8))

/-- A RANGE that names a parameter a set writes, with the offset of the item that writes it (R44). -/
def namedIn (ws : List PWrite) (r : Option Rsp) : Option Rsp :=
  r.map (fun r => match ws.find? (fun w => r.status == 0x104 && w.k.toId == fieldLe r.data 0 4) with
    | some w => atOffset r w.off
    | none => r)

/-- The rules of a set that answer RANGE, and the archive slots M writes itself (R541). -/
def State.lateCheck (s t : State) (l : LaneId) (region : Nat) (ks : List PKey) : Option Rsp :=
  if region = 8 then s.sLate t
  else if region = 7 then
    failIf (decide (t.rd 7 NVS_ARCH_SEL < 3) && ks.any (fun k => k.isOf NVS_ARCH_WORD)) (rRange (NVS_ARCH_SEL.id 7 0) 0)
  else s.laneLate t l ks

/-! ### Locks (check 14) -/

/-- The locks a set lies under. -/
def locksIn (ks : List PKey) : List (Nat × Nat) :=
  [(7, 0), (7, 1), (8, 0)].filter (fun u => ks.any (fun k => lockOfKey k == some u))

/-- The places a set changes under a lock. -/
def State.changedUnder (s t : State) (ws : List PWrite) (u : Nat × Nat) : List PKey :=
  ((ws.filter (fun w => lockOfKey w.k == some u)).filter (fun w => s.params.get (t.placeOf w.k) != w.v)).map (fun w => t.placeOf w.k)

/-- A write of a lock parameter at check 14 (R457, R460, R461). -/
def State.lockPars (s : State) (owner : Nat) (w : PWrite) : Option Rsp :=
  let r := w.k.region
  let u := w.k.inst
  let st := s.rd r FAB_LOCK_STATE u
  let held := rLocked (s.rd r FAB_LOCK_OWNER u)
  let mine := s.rd r FAB_LOCK_OWNER u == owner
  if w.k.isOf FAB_LOCK_HOLD then failIf (((st == 1 || st == 3) && !mine) || (st == 2 && w.v == 0)) held
  else if w.k.isOf FAB_LOCK_ROLLBACK then failIf (w.v == 1 && ((st != 1 && st != 3) || !mine)) held
  else none

/-- The locks of a set judged (R457 to R461): `writes` is false for SET_STAGED. -/
def State.lockCheck (s : State) (owner : Nat) (ws : List PWrite) (writes : Bool) : Option Rsp :=
  let t := s.putAll ws
  firstFail [firstOf (fun u => s.lockJudge u.1 u.2 owner writes) (locksIn (ws.map PWrite.k)),
    firstOf (fun w => s.lockPars owner w) ws,
    if writes then
      firstOf (fun u => failIf (!s.journalFits u.1 u.2 (s.changedUnder t ws u)) (rRange (FAB_LOCK_JOURNAL.id u.1 u.2) 0)) (locksIn (ws.map PWrite.k))
    else none]

/-- The locks of a set taken; the answer is LOCK_RECOVERED where one was BROKEN (R457, R460). -/
def State.locksTake (s : State) (owner : Nat) (us : List (Nat × Nat)) : State × Rsp :=
  us.foldl (fun p u =>
    let q := p.1.lockTake u.1 u.2 owner
    (q.1, if q.2.status = 0 then p.2 else q.2)) (s, rOk)

/-! ### Shared configuration (R110) -/

/-- A write of shared configuration: every RWS value of M but `SMC.SVC_*`, and M's lock parameters (R455, R559). -/
def sharedKey (k : PKey) : Bool :=
  k.region == 7 && !(k.block == 0x40 && k.index ≥ 0x010 && k.index ≤ 0x012) && (match lookup k with
    | some d => d.acc == .rws || k.isOf FAB_LOCK_HOLD || k.isOf FAB_LOCK_ROLLBACK
    | none => false)

/-- The staff check of a lane for shared configuration (R110, R111). -/
def State.sharedCheck (s : State) (l : LaneId) (ks : List PKey) : Option Rsp :=
  if ks.any sharedKey then s.chkHolder l else none

/-- The epoch fence of M for shared configuration (R110, R116). No rule gives M a view of the holder, whose region code the data of
NOT_STAFF_HOLDER carries (R44): the model answers 0 there (DESIGN CHOICE, log 73). -/
def State.fenceCheck (s : State) (epoch : Nat) (ks : List PKey) : Option Rsp :=
  failIf (ks.any sharedKey && !s.fenceOk 7 epoch) (rNotHolder 0)

/-! ### All checks of a set -/

/-- The count of IDs or items of a GET, SET or SET_STAGED: 1 to 64 (R63). -/
def countCheck (n : Nat) : Option Rsp := failIf (decide (n < 1 ∨ n > 64)) (rRange 0 16)

/-- Checks 14 to 16 of the writes of a set of a lane, in the order of R39, and for one that writes at once its consistency
(R57, R59). -/
def State.chkWrites (s : State) (l : LaneId) (region block : Nat) (ws : List PWrite) (writes : Bool) : Option Rsp :=
  let ks := ws.map PWrite.k
  let t := s.putAll ws
  firstFail [s.lockCheck l.reg ws writes, countCheck ws.length, firstOf (fun w => s.itemRange region block w) ws,
    firstOf (fun w => s.itemState l w) ws,
    if writes then firstFail [namedIn ws (s.lateCheck t l region ks), setRules s t l region ks] else none]

/-! ### The effect of a set -/

/-- A place that takes no plain value: bits cleared by ones, commands, the lock's hold, the archive's window. -/
def State.applySpecial (s : State) (l : LaneId) (w : PWrite) : State :=
  let r := w.k.region
  match lookup w.k with
  | none => s
  | some d =>
    let i := instOf d w.k
    if d.acc == .w1c then
      if w.k.isOf FCL_LATCHED then s.effLatchClear r w.v
      else if w.k.isOf FCL_ERR_STATUS then s.effErrClear r w.v
      else if w.k.isOf FCL_FIRST then (if bit w.v 6 then s.wr r FCL_FIRST 0 0 else s)
      else if r = l.pow && w.k.isOf GDR_LATCHED then s.latchWrite l i w.v
      else if r = l.reg && w.k.isOf FBI_FAULT then s.clearFaults l i w.v
      else if r = 8 && w.k.isOf SEC_FAULT then s.secClear i w.v
      else { s with params := s.params.put w.k (clrMask (s.params.get w.k) w.v) }
    else if w.k.isOf FAB_CNT_CLEAR && w.v == 1 then
      let s := (List.range 14).foldl (fun s q => [FAB_CNT_GRANT, FAB_CNT_WAIT, FAB_MAX_WAIT, FAB_CNT_DEAD].foldl (fun s d => s.wr r d q 0) s) s
      s.wr r FAB_CNT_BG_FORCED 0 0
    else if w.k.isOf FCL_TROUBLE_CLEAR then s.effTrouble r (w.v == 1)
    else if w.k.isOf FAB_LOCK_HOLD then (s.lockHold r i (w.v == 1) l.reg).1
    else if w.k.isOf FAB_LOCK_ROLLBACK && w.v == 1 then (s.lockRollback r i l.reg).1
    else if r = 7 && w.k.isOf NVS_ARCH_WORD then { s with params := s.params.put (s.placeOf w.k) w.v }
    else s

/-- An item applied, in the order of the waybill (R64). -/
def State.applyOne (s : State) (l : LaneId) (w : PWrite) : State :=
  if w.k.plain then s.putAll [w] else s.applySpecial l w

/-- What CEN does at a commit: loops opened and closed (R251, R252). -/
def State.cenCommitted (s0 s : State) (l : LaneId) (ks : List PKey) : State :=
  (List.range 48).foldl (fun s n =>
    let old := s0.rd l.reg CEN_MODE n
    let new := s.rd l.reg CEN_MODE n
    if old = 1 ∧ new = 0 then s.cenOpened l n (ks.contains (CEN_MAN_OUT.key l.reg n))
    else if old = 0 ∧ new = 1 then s.cenClosed l n else s) s

/-- What RPC does at a commit (R269, R270, R278, R284): `TBL_CRC` follows a table written and a change of its length (R287). -/
def State.rpcCommitted (s0 s : State) (l : LaneId) (ks : List PKey) : State :=
  if !ks.any (fun k => k.region == l.reg && k.block == 0x13) then s
  else
    let s := s.wr l.reg RPC_CFG_CRC 0 (s.rwsCrc l.reg 0x13)
    (List.range 8).foldl (fun s r =>
      let old := s0.rdB l.reg RPC_EN r
      let new := s.rdB l.reg RPC_EN r
      let s := if ks.any (fun k => k.region == l.reg && (k == RPC_BINS.key l.reg r || k == RPC_DIR_TABLES.key l.reg r ||
        (k.isOf RPC_TBL && instOf RPC_TBL k / 8192 == r))) then s.rpcStamp l r else s
      let s := if !old && new then s.rpcEnable l r else if old && !new then s.rpcDisable l r
        else if new then s.rpcFadeLen l r (s0.rd l.reg RPC_FADE r) else s
      if ks.contains (RPC_CMD.key l.reg r) then s.rpcCommand l r else s) s

/-- SPI disabled: its replies go with the port, and replies that are to come to waybills received before it (R66). A waybill in the
receive buffer stays there until the WBE takes it (R67). -/
def State.spiCommitted (s0 s : State) (l : LaneId) : State :=
  if bit (s0.rd l.reg HST_PORT_EN) 0 && !bit (s.rd l.reg HST_PORT_EN) 0 then
    (s.modHst l (fun x => { x with gen := x.gen + 1, spiReplies := [] })).modWbe l (fun x => { x with kept := [] })
  else s

/-- What Towline does at a commit (R396, R397, R415). -/
def State.twlCommitted (s0 s : State) (l : LaneId) : State :=
  let r := l.reg
  let s := if (TWL_COLDSTART_NODES.key r 0 :: timetable r).any (fun k => s0.params.get k != s.params.get k) then s.twlTables l else s
  if !s0.rdB r TWL_EN && s.rdB r TWL_EN then s.twlStart l
  else if s0.rdB r TWL_EN && !s.rdB r TWL_EN then s.twlOff l else s

/-- M takes the RWS set of a lane after each commit, where it hears the lane (R541). -/
def State.archiveSet (s : State) (l : LaneId) : State :=
  if !s.reaches l .m then s
  else
    s.modM (fun m => { m with sets := m.sets.filter (fun e => e.1 != l) ++ [(l, s.rwsValues l)] })

/-- The check of a block's RWS set sent to both peers where a commit touches VOT, CMT, CEN or RPC (R103, R179, R262, R282). -/
def State.announceCrcs (s : State) (l : LaneId) (ks : List PKey) : State :=
  [0x10, 0x12, 0x13, 0x1A].foldl (fun s b =>
    if ks.any (fun k => k.region == l.reg && k.block == b) then s.send (.cfgCrc l b (s.cfgCrcOf l.reg b)) else s) s

/-- Background calibration switched off or on by a commit: every core keeps the calibration it had, or is free to calibrate again (R229). -/
def State.calCommitted (s0 s : State) (l : LaneId) : State :=
  if s0.rdB l.pow ADC_CAL_EN = s.rdB l.pow ADC_CAL_EN then s
  else (List.range 42).foldl (fun s c => if s.rdB l.pow ADC_CAL_EN then s.wr l.pow ADC_HELD c 0 else s.holdCal l s0 c) s

/-- A parameter of CMT or OBS is of bridge `b`, or of every bridge of the lane. -/
def ofBridge (k : PKey) (b : Nat) : Bool :=
  match lookup k with
  | some d => d.hi == d.lo || (if d.hi == 11 then k.inst / 2 == b else k.inst == b)
  | none => false

/-- The tracking collection of a bridge restarts where its configuration changes (R199). -/
def State.trackCommitted (s0 s : State) (l : LaneId) (ks : List PKey) : State :=
  let ch := ks.filter (fun k => k.region == l.reg && (k.block == 0x10 || k.block == 0x11) && s0.params.get k != s.params.get k)
  (List.range 6).foldl (fun s b => if ch.any (fun k => ofBridge k b) then s.trackRestart l b else s) s

/-- The values of a running bridge that a commit replaces: they stay in force for its compute starts up to the first valley after the
commit instant, at which the new ones take effect (R181). -/
def State.cmtCommitted (s0 s : State) (l : LaneId) (ks : List PKey) : State :=
  let run := (List.range 6).filter (fun b => s0.rd l.reg CMT_STATE b == 2)
  if run.isEmpty then s
  else
    let ch := ks.filter (fun k => k.region == l.reg && k.block == 0x10 && run.any (fun b => ofBridge k b) && s0.params.get k != s.params.get k)
    s.modLane l (fun x => { x with cmtOld := ch.foldl (fun m k => if m.any (fun e => e.1 == k) then m else m.put k (s0.params.get k)) x.cmtOld })

/-- What the blocks of a region do at a commit: `s0` before it, `s` with the values written. -/
def State.committed (s0 s : State) (l : LaneId) (region : Nat) (ks : List PKey) : State :=
  let react (s : State) (r : Nat) : State := if ks.any (fun k => k.region == r && k.isOf FCL_REACT) then s.updPin r else s
  if region = 8 then react s.evalS 8
  else if region = 7 then (if ks.contains (CRT_POLICY.key 7 0) then s.sendReports else s)
  else
    let r := l.reg
    let s := (s0.rpcCommitted (s0.cenCommitted s l ks) l ks)
    let s := (List.range 8).foldl (fun s ch => if s0.rd r FBI_MODE ch != s.rd r FBI_MODE ch then s.chConfigured l ch else s) s
    let s := if ks.contains (SDC_SRC.key r 0) then s.srcCommitted l else s
    let s := if ks.contains (SDC_AUT_LEVEL.key r 0) then s.voteFall l else s
    let s := s0.spiCommitted (s0.twlCommitted s l) l
    let s := if (List.range 3).any (fun p => s0.rd r CLK_ISL_CFG p != s.rd r CLK_ISL_CFG p) then s.clkSet l else s
    let s := s0.cmtCommitted (s0.trackCommitted (s0.calCommitted s l) l ks) l ks
    (((react (react s r) l.pow).announceCrcs l ks).takeDigest l).archiveSet l

/-- A set taking effect: its locks taken and its pre-images journalled, its values written, its blocks informed, its locks
released where nothing else holds them (R57, R58, R457, R458). -/
def State.applyWrites (s : State) (l : LaneId) (epoch region : Nat) (ws : List PWrite) : State × Rsp :=
  let ks := ws.map PWrite.k
  let us := locksIn ks
  let p := s.locksTake l.reg us
  let s := if ks.any sharedKey then p.1.fence 7 epoch else p.1
  let t := s.putAll ws
  let s1 := us.foldl (fun x u => x.journalAdd u.1 u.2 (s.changedUnder t ws u)) s
  let hold := ws.find? (fun w => w.k.isOf FAB_LOCK_HOLD && w.v == 1)
  let a := match hold with
    | some w => (s.lockHold w.k.region w.k.inst true l.reg).2
    | none => p.2
  let s2 := ws.foldl (fun s w => s.applyOne l w) s1
  let s3 := s.committed s2 l region ks
  (us.foldl (fun s u => s.lockRelease u.1 u.2) s3, a)

/-! ### SET (R59, R64) -/

/-- The checks of a SET from 12 on, where it takes effect: the fence of M and those of its writes. -/
def State.chkSet (s : State) (l : LaneId) (epoch : Nat) (h : Hdr) (items : List Item) : Option Rsp :=
  let ws := writesOf 20 items
  firstFail [firstOf itemLength items, failIf h.inConsist (rRange 0 1), s.fenceCheck epoch (ws.map PWrite.k),
    s.chkWrites l h.region h.block ws true]

/-- A refusal for a lock is counted at the die that holds it (R470). -/
def State.noteLocked (s : State) (region : Nat) (c : Option Rsp) : State :=
  match c with
  | some r => if region ≥ 7 then s.countLocked region r else s
  | none => s

/-! ### GET (R63, R64) -/

/-- A place that reads: present and, in an archive slot, not marked invalid (R538). -/
def State.readable (s : State) (k : PKey) : Bool :=
  match lookup k with
  | none => false
  | some d => s.presentAt k d && !(k.region == 7 && k.isOf NVS_ARCH_WORD && s.rdB 7 NVS_BAD_SLOT (s.rd 7 NVS_ARCH_SEL))

/-- The value a GET answers: 0 for a WO parameter and in a gated block (R11, R468). -/
def State.getValue (s : State) (k : PKey) (d : PDesc) : Nat :=
  if d.acc == .wo || s.gatedKey k then 0 else s.readKey k

/-- An item of a reply to a GET: the ID, status OK, the length and the value padded to 4 bytes (R63). -/
def itemReply (k : PKey) (width v : Nat) : List Byte :=
  let n := cdiv width 8
  toLe 4 k.toId ++ toLe 2 0 ++ toLe 2 n ++ pad4 (toLe n v)

/-- The item of a GET for one place. -/
def State.getItem (s : State) (k : PKey) : List Byte :=
  match lookup k with
  | none => toLe 4 k.toId ++ toLe 2 0x104 ++ toLe 2 0
  | some d =>
    if !s.readable k then toLe 4 k.toId ++ toLe 2 0x104 ++ toLe 2 0
    else itemReply k d.width (s.getValue k d)

/-- A parameter that reading clears (R11). -/
def State.clearRead (s : State) (k : PKey) : State :=
  match lookup k with
  | some d => if d.acc == .rc && s.readable k && !s.gatedKey k then { s with params := s.params.put k 0 } else s
  | none => s

/-- The items of a GET in order. An item that would pass the 1,024 bytes of a reply is left out with those after it (DESIGN
CHOICE, log 43). -/
def State.getItems (s : State) : Nat → List PKey → State × List Byte
  | _, [] => (s, [])
  | used, k :: r =>
    let d := s.getItem k
    if used + d.length > 1024 then (s, [])
    else
      let p := (s.clearRead k).getItems (used + d.length) r
      (p.1, d ++ p.2)

/-- The checks of a GET: its count, and every ID in the target's region and block; the ID that is not is named with its offset (R44, R63). -/
def chkGet (h : Hdr) (ids : List Nat) : Option Rsp :=
  firstFail [countCheck ids.length, firstOf (fun p => failIf ((PKey.ofId p.1).region != h.region || (PKey.ofId p.1).block != h.block) (rRange p.1 (20 + 4 * p.2)))
    ids.zipIdx]

/-- What a lane shows of S's values in its own view of them, from the latest STATUS message (R333). -/
def State.viewOf (s : State) (l : LaneId) (k : PKey) : Option Nat :=
  if k.region ≠ 8 then none
  else if k.isOf SVT_ARMED then some (s.rd l.reg SVT_V_ARMED)
  else if k.isOf SVT_OUT then some (s.rd l.reg SVT_V_OUT)
  else if k.isOf SVT_VOID then some (s.rd l.reg SVT_V_VOID)
  else if k.isOf SEC_FAULTED then some (s.rd l.reg SVT_V_FAULTED)
  else if k.isOf ATH_LATCH_STATE then some (s.rd l.reg SVT_V_LATCH)
  else if k.isOf ATH_OUT then some (s.rd l.reg SVT_V_ATH)
  else if k.isOf S_STF_EXCLUDED then some (s.rd l.reg STF_EXCL_SEEN)
  else none

/-- A GET that names nothing but values of the lane's view of S: the lane answers it itself, no relay goes out (R333; DEDUCED, log 75). -/
def State.ownView (s : State) (l : LaneId) (ids : List Nat) : Bool := ids.all (fun id => (s.viewOf l (PKey.ofId id)).isSome)

/-- The items of that GET. -/
def State.viewItems (s : State) (l : LaneId) (ids : List Nat) : List Byte :=
  (ids.map PKey.ofId).flatMap (fun k => itemReply k (widthOf k) ((s.viewOf l k).getD 0))

/-- A GET: measured values are new ones at each. -/
def State.effGet (s : State) (ids : List Nat) : State × Rsp :=
  let p := (s.draw).2.getItems 0 (ids.map PKey.ofId)
  (p.1, rOk p.2)

end Sys2Proof.Machine
end

