-- ==== Sys2Proof/Machine/Consists.lean ====
section
/-! DEFINITION. Every opcode with its checks and its effect; consists with their members and their COMMIT; relays to M and S;
the commands of class 0x01 (R38, R39, R51 to R64). -/

namespace Sys2Proof.Machine

open Par Var

/-- Check 12 of shared configuration (R97, R110, R111). -/
def State.sharedFor (s : State) (l : LaneId) (h : Hdr) (ks : List PKey) : Option Rsp :=
  if ks.any sharedKey then s.chkStaffFn l h else none

/-! ### Open consists (R53 to R56) -/

/-- The writes of a member. -/
def Member.writes (m : Member) : List PWrite :=
  match m.op with
  | .setStaged is => writesOf 20 is
  | _ => []

/-- The writes of a consist, in order of arrival. -/
def Consist.writes (c : Consist) : List PWrite := c.members.flatMap Member.writes

/-- The region a consist targets: 0 while it has no member. -/
def Consist.region (c : Consist) : Nat := ((c.members.head?).map (fun m => m.hdr.region)).getD 0

/-- The bytes of the padded values of items, without their IDs, as the 16 KB of staged values count them; R55 does not say whether a
value counts padded or bare (DESIGN CHOICE, log 60). -/
def valueSize (items : List Item) : Nat := (items.map (fun i => (i.len + 3) / 4 * 4)).sum

/-- The parameters of a SET or SET_STAGED as bytes (R63). -/
def itemBytes (items : List Item) : List Byte :=
  toLe 2 items.length ++ toLe 2 0 ++ items.flatMap (fun i => toLe 4 i.id ++ toLe 2 i.len ++ toLe 2 0 ++ pad4 (toLe i.len i.val))

/-- An open consist of a lane (R53). -/
def State.consist (s : State) (l : LaneId) (p : Port) (id : Nat) : Option Consist :=
  (s.lane l).wbe.consists.find? (fun c => c.port == p && c.id == id)

/-- A consist changed. -/
def State.modConsist (s : State) (l : LaneId) (p : Port) (id : Nat) (f : Consist → Consist) : State :=
  s.modWbe l (fun x => { x with consists := x.consists.map (fun c => if c.port == p && c.id == id then f c else c) })

/-- A consist gone from the open ones. -/
def State.closeConsist (s : State) (l : LaneId) (c : Consist) : State :=
  s.modWbe l (fun x => { x with consists := x.consists.filter (fun d => !(d.port == c.port && d.id == c.id)) })

/-- The locks a consist lies under, released where nothing else holds them (R457). -/
def State.releaseLocks (s : State) (c : Consist) : State :=
  (locksIn (c.writes.map PWrite.k)).foldl (fun s u => s.lockRelease u.1 u.2) s

/-- A consist discarded and counted; nothing of it took effect (R55). -/
def State.dropConsist (s : State) (l : LaneId) (c : Consist) : State :=
  ((s.closeConsist l c).releaseLocks c).bump l.reg WBE_CNT_CONSIST_DISCARD

/-- The final replies to the members of a consist that had ACK_REQ set (R42, R55). -/
def State.answerMembers (s : State) (l : LaneId) (c : Consist) (r : Rsp) : State :=
  (c.members.filter (fun m => m.hdr.ackReq)).foldl (fun s m => s.answer l m.hdr 0x0103 r true false 0) s

/-- A consist discarded at its COMMIT or at its commit instant (R55 to R57, R60). -/
def State.failConsist (s : State) (l : LaneId) (c : Consist) (r : Rsp) : State := (s.dropConsist l c).answerMembers l c r

/-- A waybill that is a member of the consist it names: IN_CONSIST, and neither its COMMIT nor an ABORT_CONSIST (R36, R53). A
waybill from M is none, since a rejected one has no effect (R32). -/
def memberOf (h : Hdr) (opcode : Nat) : Bool := h.inConsist && opcode != 0x0104 && opcode != 0x0105 && h.port != .m

/-- A member that fails acceptance marks its consist failed with the first failure; a first member that fails opens it so
(R56). A waybill that fails check 1 or 2, whose fields R40 does not trust, does so too where its bytes name a consist: R56 names no
exception (DESIGN CHOICE, log 73). -/
def State.markFailed (s : State) (l : LaneId) (h : Hdr) (opcode : Nat) (r : Rsp) : State :=
  if !memberOf h opcode then s
  else match s.consist l h.port h.consist with
    | some c => if c.failed.isSome then s
      else s.modConsist l h.port h.consist (fun c => { c with failed := some (r.status, r.data) })
    | none =>
      if (s.lane l).openCount ≥ 4 then s
      else s.modWbe l (fun x => { x with consists := x.consists ++ [⟨h.port, h.consist, [], 0, some (r.status, r.data), false⟩] })

/-- Two regions one consist may target: the lane die and its power die mix (R54). -/
def sameGroup (l : LaneId) (a b : Nat) : Bool := a == b || ((a == l.reg || a == l.pow) && (b == l.reg || b == l.pow))

/-- What a lane checks of a member itself: its consist and the staff (R53 to R55, R110). A member of a consist whose COMMIT has been
accepted answers RANGE until that consist is gone (DESIGN CHOICE, log 60). -/
def State.chkStageHead (s : State) (l : LaneId) (h : Hdr) (items : List Item) : Option Rsp :=
  let full := rRange 0 6
  firstFail [firstOf itemLength items, failIf (!h.inConsist) (rRange 0 1), failIf (h.commit != 0) (rRange 0 12),
    match s.consist l h.port h.consist with
    | some c => firstFail [failIf c.closed full, failIf (c.region != 0 && !sameGroup l c.region h.region) (rRange 0 8),
        failIf (decide (c.members.length ≥ 256 ∨ c.bytes + valueSize items > 16384)) full]
    | none => failIf (decide ((s.lane l).openCount ≥ 4)) full,
    s.sharedCheck l ((writesOf 20 items).map PWrite.k)]

/-- What the target's region checks of a member that a lane stages under its staff epoch: the fence of M, the locks and the values (R64,
R110, R457). -/
def State.chkStageAt (s : State) (l : LaneId) (epoch : Nat) (h : Hdr) (items : List Item) : Option Rsp :=
  let ws := writesOf 20 items
  firstFail [s.fenceCheck epoch (ws.map PWrite.k), s.chkWrites l h.region h.block ws false]

/-- The checks of a member (R53 to R55, R64). -/
def State.chkStage (s : State) (l : LaneId) (h : Hdr) (items : List Item) : Option Rsp :=
  firstFail [s.chkStageHead l h items, s.chkStageAt l (s.rd l.reg STF_EPOCH) h items]

/-- What staging does in the target's region: its locks taken, the fence of M raised. PENDING_COMMIT with 0, or LOCK_RECOVERED where a
BROKEN lock was taken (R44, R116, R457, R460). -/
def State.stageAt (s : State) (l : LaneId) (epoch : Nat) (items : List Item) : State × Rsp :=
  let ks := (writesOf 20 items).map PWrite.k
  let p := s.locksTake l.reg (locksIn ks)
  (if ks.any sharedKey then p.1.fence 7 epoch else p.1, if p.2.status = 0 then rPending 0 else p.2)

/-- A member entered in its consist, which its first member opens (R53). -/
def State.addMember (s : State) (l : LaneId) (h : Hdr) (items : List Item) : State :=
  let m : Member := { hdr := h, op := .setStaged items, params := itemBytes items }
  match s.consist l h.port h.consist with
  | some _ => s.modConsist l h.port h.consist (fun c => { c with members := c.members ++ [m], bytes := c.bytes + valueSize items })
  | none => s.modWbe l (fun x => { x with consists := x.consists ++ [⟨h.port, h.consist, [m], valueSize items, none, false⟩] })

/-- A member out of its consist. -/
def State.dropMember (s : State) (l : LaneId) (h : Hdr) : State :=
  s.modConsist l h.port h.consist (fun c =>
    let ms := c.members.filter (fun m => !(m.hdr == h))
    { c with members := ms, bytes := (ms.map (fun m => match m.op with
      | .setStaged is => valueSize is
      | _ => 0)).sum })

/-- A member staged: PENDING_COMMIT with 0, or LOCK_RECOVERED where it took a BROKEN lock (R44, R53, R457, R460). -/
def State.stage (s : State) (l : LaneId) (h : Hdr) (items : List Item) : State × Rsp :=
  let p := s.stageAt l (s.rd l.reg STF_EPOCH) items
  (p.1.addMember l h items, p.2)

/-! ### COMMIT (R56 to R60) -/

/-- The set of a consist against the locks and the rules of the blocks it touches (R57, R458, R460, R461). -/
def State.chkSetOf (s : State) (l : LaneId) (c : Consist) : Option Rsp :=
  let ws := c.writes
  let ks := ws.map PWrite.k
  let t := s.putAll ws
  firstFail [s.lockCheck l.reg ws true, namedIn ws (s.lateCheck t l c.region ks), setRules s t l c.region ks]

/-- Checks 12 to 16 again for one member of a consist that the COMMIT `h` commits (R57, R97). -/
def State.chkMember (s : State) (l : LaneId) (h : Hdr) (m : Member) : Option Rsp :=
  let ks := m.writes.map PWrite.k
  firstFail [s.sharedFor l h ks, s.fenceCheck (s.rd l.reg STF_EPOCH) ks, s.busyCheck l m.hdr 0x0103,
    s.lockCheck l.reg m.writes true, firstOf (fun w => s.itemRange m.hdr.region m.hdr.block w) m.writes, firstOf (fun w => s.itemState l w) m.writes,
    s.modeCheck l 0x0103]

/-- A shared die that a consist targets is reached (R38). -/
def State.regionReached (s : State) (l : LaneId) (region : Nat) : Bool :=
  if region = 7 then s.reaches l .m else if region = 8 then s.reaches l .s else s.on region

/-- All checks at the commit instant (R57). -/
def State.chkConsist (s : State) (l : LaneId) (h : Hdr) (c : Consist) : Option Rsp :=
  firstFail [failIf (c.region != 0 && !s.regionReached l c.region) (rRange 0 8),
    firstOf (fun m => s.chkMember l h m) c.members, s.chkSetOf l c]

/-- A consist at its commit instant: it takes effect whole, or it is discarded with the first failure (R57, R58). -/
def State.commitNow (s : State) (l : LaneId) (h : Hdr) (c : Consist) : State × Rsp :=
  match s.chkConsist l h c with
  | some r => (s.failConsist l c r, r)
  | none =>
    let p := (s.closeConsist l c).applyWrites l (s.rd l.reg STF_EPOCH) c.region c.writes
    (p.1.answerMembers l c rOk, rOk)

/-- A commit instant that lies in the permitted future (R50). -/
def State.commitOk (s : State) (l : LaneId) (n : Nat) : Bool :=
  let ahead := (n + 2 ^ 32 - s.cycle l % 2 ^ 32) % 2 ^ 32
  s.synced l && ahead != 0 && decide (ahead < 2 ^ 31) && decide (ahead ≤ s.rd l.reg WBE_COMMIT_HORIZON)

/-- Check 11 (R50, R51): a non-zero instant in the future, with an entry of the commit queue free. -/
def State.chkInstant (s : State) (l : LaneId) (n : Nat) : Option Rsp :=
  failIf (n != 0 && (!s.commitOk l n || decide ((s.lane l).wbe.commitQ.length ≥ 64))) (rRange 0 12)

/-- A waybill held for its commit instant (R51). -/
def State.hold (s : State) (l : LaneId) (h : Hdr) (op : Op) (voted : Bool) : State :=
  let stamp := s.twlTime l s.now
  s.modWbe l (fun x => { x with commitQ := x.commitQ ++ [⟨h, op, h.commit, voted, stamp⟩] })

/-- The first judgement of a COMMIT: the consist named, no failed member, the set consistent (R56, R57). A failure discards
the consist; otherwise it is closed and the answer is none. A COMMIT, or an ABORT_CONSIST, that names no open consist has no status in
the manual: it answers RANGE at the consist ID (DESIGN CHOICE, log 60). -/
def State.commitAccept (s : State) (l : LaneId) (h : Hdr) : State × Option Rsp :=
  match s.consist l h.port h.consist with
  | none => (s, some (rRange 0 6))
  | some c =>
    if c.closed then (s, some (rRange 0 6))
    else match c.failed with
      | some f => (s.failConsist l c ⟨f.1, f.2⟩, some ⟨f.1, f.2⟩)
      | none =>
        match s.chkSetOf l c with
        | some r => (s.failConsist l c r, some r)
        | none => (s.modConsist l h.port h.consist (fun c => { c with closed := true }), none)

/-- A COMMIT accepted, and held where it names an instant; the answer is none where its consist, now closed, commits at once (R51,
R57). -/
def State.commitHead (s : State) (l : LaneId) (h : Hdr) : State × Option Rsp :=
  match s.chkInstant l h.commit with
  | some r => (s, some r)
  | none =>
    let p := s.commitAccept l h
    match p.2 with
    | some r => (p.1, some r)
    | none => if h.commit = 0 then (p.1, none) else (p.1.hold l h .commit false, some (rPending h.commit))

/-- A COMMIT: at once with commit instant 0, else held (R51, R57). -/
def State.commit (s : State) (l : LaneId) (h : Hdr) : State × Rsp :=
  let p := s.commitHead l h
  match p.2 with
  | some r => (p.1, r)
  | none => match p.1.consist l h.port h.consist with
    | some c => p.1.commitNow l h c
    | none => (p.1, rRange 0 6)

/-- The consist an ABORT_CONSIST discards: an open one with its COMMIT not yet accepted (R55). -/
def State.abortable (s : State) (l : LaneId) (h : Hdr) : Option Consist :=
  match s.consist l h.port h.consist with
  | some c => if c.closed then none else some c
  | none => none

/-- ABORT_CONSIST (R55). -/
def State.abortConsist (s : State) (l : LaneId) (h : Hdr) : State × Rsp :=
  match s.abortable l h with
  | some c => (s.dropConsist l c, rOk)
  | none => (s, rRange 0 6)

/-! ### The opcodes of M (R536 to R550) -/

/-- The checks of an opcode in M, for a lane or at the service port. -/
def State.mChk (s : State) (o : UpdSource) : Op → Option Rsp
  | .logRead start count _ => s.chkLogRead start count
  | .updateBegin total => s.chkBegin o total
  | .updateChunk off d => s.chkChunk o off d
  | .updateEnd => s.chkEnd o
  | .attest part n => s.chkAttest part n
  | .lifecycleChunk off d => firstFail [failIf (d.isEmpty || decide (d.length > 1016)) (rBadLength (d.length + 8) 0),
      failIf (decide (off + d.length > ticketMax)) (rRange 0 20)]
  | .lifecycleApply => s.chkApply
  | .otherKind _ _ => some (rRange 0 16)
  | _ => none

/-- The effect of an opcode in M, for a lane or at the service port. -/
def State.mEff (s : State) (o : UpdSource) : Op → State × Rsp
  | .archiveRead off n => (s, s.archiveRead off n)
  | .logRead start count mask => (s, rOk (s.logRows start count mask))
  | .updateBegin total => (s.effBegin o total, rOk)
  | .updateChunk _ d => (s.effChunk d, rOk)
  | .updateEnd => ((s.wr 7 UPD_STATE 0 2).wr 7 UPD_AT 0 s.now, rOk)
  | .attest part n => match n with
    | some x => (s.effAttestNew x, rOk)
    | none => (s, rOk ((s.mdie.report.drop (1024 * part)).take 1024))
  | .lifecycleNonce =>
    let n := toLe 32 (Config.free 550 s.fv)
    (((s.draw).2.modM (fun m => { m with nonce := n })).wr 7 SMC_NONCE_ON 0 1, rOk n)
  | .lifecycleChunk off d => (s.modM (fun m => { m with ticket := writeAt m.ticket off d }), rOk)
  | .lifecycleApply => (s.effApply, rOk)
  | _ => (s, rUnknown)

/-! ### Every opcode -/

/-- The lifecycle check of an opcode (check 9): START_DRIVE, INJECT outside SERVICE, RELEASE in HELD outside SERVICE (R379, R500,
R549). -/
def State.lifeCheck (s : State) (l : LaneId) (opcode : Nat) : Option Rsp :=
  let c := s.rd l.reg INT_LIFECYCLE
  failIf ((opcode == 0x0210 && (c == 0 || c == 5)) || (opcode == 0x0603 && c != 3) ||
    (opcode == 0x0204 && s.rd l.reg VOT_MODE == 4 && c != 3)) (rDenied c)

/-- Checks 12 to 16 of an opcode in a lane. -/
def State.opChk (s : State) (l : LaneId) (h : Hdr) : Op → Option Rsp
  | .get ids => chkGet h ids
  | .set items => firstFail [s.sharedFor l h ((writesOf 20 items).map PWrite.k), s.chkSet l (s.rd l.reg STF_EPOCH) h items]
  | .setStaged items => s.chkStage l h items
  | .commit => none
  | .abortConsist => none
  | .steerTarget a => s.chkSteer l a
  | .brakeDemand a b c d => s.chkBrake l a b c d
  | .hold m => s.chkHold l m
  | .release m => firstFail [s.lifeCheck l 0x0204, s.chkStaffFn l h, failIf (bit (s.rd l.reg SIO_TRIP) 8) (rRange (SIO_TRIP.id l.reg 0) 0), s.chkRelease l m]
  | .startDrive m k => firstFail [s.lifeCheck l 0x0210, s.chkStart l m k]
  | .stopDrive m k => s.chkStop l m k
  | .tableLoad b es => s.chkTable l b es true
  | .tableAppend b es => s.chkTable l b es false
  | .arm _ => s.chkStaffFn l h
  | .disarm _ => none
  | .forceOff _ => none
  | .staffRequest x => s.chkStaffRequest l x
  | .relinquish => s.chkHolder l
  | .rejoin x => s.chkRejoin l x
  | .excludeLane x => s.chkExcludeLane l x
  | .armReset _ => s.chkArmReset l
  | .confirmReset n => s.chkConfirm l n
  | .runRolling x => s.chkRolling l h x
  | .runConverter m => s.chkBlockTest l h m
  | .comparatorTest m => s.chkBlockTest l h m
  | .inject r src d => s.chkInject l r src d
  | .powerState st p => s.chkPower l h st p
  | .traceArm => s.chkTraceArm l
  | .traceTrigger => none
  | .traceStop => none
  | .traceRead start _ => s.chkTraceRead l start
  | .traceStream _ => none
  | .orderLoad o a d ws => s.chkOrderLoad l o a d ws
  | .orderStart o => s.chkOrderStart l o
  | .orderStop o => firstFail [failIf (decide (o > 63)) (rRange 0 16), failIf (s.rd l.reg DPT_ORD_STATE o == 0) (rRange (DPT_ORD_STATE.id l.reg o) 16)]
  | .otherKind _ _ => some (rRange 0 16)
  | op => s.mChk (.lane l) op

/-- The effect of an opcode in a lane. The results of a comparator test that no command shows are free values (log 6). -/
def State.opEff (s : State) (l : LaneId) (h : Hdr) : Op → State × Rsp
  | .get ids => if s.ownView l ids then (s, rOk (s.viewItems l ids)) else s.effGet ids
  | .set items => s.applyWrites l (s.rd l.reg STF_EPOCH) h.region (writesOf 20 items)
  | .setStaged items => s.stage l h items
  | .commit => s.commit l h
  | .abortConsist => s.abortConsist l h
  | .steerTarget a => (s.effSteer l h a, rOk)
  | .brakeDemand a b c d => (s.effBrake l h a b c d, rOk)
  | .hold m => (s.effHold l m, rOk)
  | .release m => (s.effRelease l m, rOk)
  | .startDrive m _ => (s.effStart l m, rOk)
  | .stopDrive m k => (s.effStop l m k, rOk)
  | .tableLoad _ es => (s.effTableLoad l es, rOk)
  | .tableAppend _ es => (s.effTableAppend l es, rOk)
  | .arm m => if h.voted ∧ s.rd l.reg STF_HOLDER ≠ l.reg then (s, rOk) else s.armS l (s.rd l.reg STF_EPOCH) m
  | .disarm m => s.disarmS l m
  | .forceOff m => (s.effForceOff l m, rOk)
  | .staffRequest x => (s.effStaffRequest l x, rOk)
  | .relinquish => (s.releaseStaff l 0, rOk)
  | .rejoin x => (s.effRejoin l x, rOk)
  | .excludeLane x => (s.effExcludeLane l x, rOk)
  | .armReset n => (((s.wr l.reg SIO_RESET_STATE 0 1).wr l.reg SIO_NONCE 0 n).wr l.reg SIO_ARM_AT 0 s.now, rOk)
  | .confirmReset _ => s.effConfirm l
  | .runRolling x => (s.effRolling l x, rOk)
  | .runConverter m => (s.effConverter l m, rOk)
  | .comparatorTest m =>
    (({ s with fv := s.fv + 6 } : State).effComparator l m ((bridgesOf m).map (fun b => (b, Config.free 225 (s.fv + b)))), rOk)
  | .inject r src _ => (s.effInject l r src, rOk)
  | .powerState st p => (s.effPower l st p, rOk)
  | .traceArm => (s.effTraceArm l, rOk)
  | .traceTrigger => (s.effTraceTrigger l, rOk)
  | .traceStop => (s.effTraceStop l, rOk)
  | .traceRead start n => (s, rOk (s.traceRows l start n))
  | .traceStream on => (s.effTraceStream l on, rOk)
  | .orderLoad o a d ws => (s.effOrderLoad l o a d ws, rOk)
  | .orderStart o => (s.effOrderStart l o, rOk)
  | .orderStop o => (s.effOrderStop l o, rOk)
  | op => s.mEff (.lane l) op

/-! ### A waybill taking effect -/

/-- The part of a waybill's checks every opcode shares: a rolling test, the flags, a block under test, the target reached,
the mode (R38, R379, R496, R499). -/
def State.shared (s : State) (l : LaneId) (h : Hdr) (opcode : Nat) (chk : Option Rsp) : Option Rsp :=
  firstFail [s.rollCheck l, flagCheck h opcode, s.busyCheck l h opcode, failIf (!s.regionReached l h.region) (rRange 0 8),
    chk, s.modeCheck l opcode]

/-- An opcode of a consist, which the lane keeps for the target until its COMMIT (R53). -/
def ofConsist (opcode : Nat) : Bool := opcode == 0x0103 || opcode == 0x0104 || opcode == 0x0105

/-- An interim answer: PENDING_COMMIT, or the answer to a member (R42). -/
def interim (opcode : Nat) (r : Rsp) : Bool := r.good && (r.status == 1 || opcode == 0x0103)

/-- The outcome of a waybill answered, and counted where it was accepted (R42, R79). -/
def State.outcome (s : State) (l : LaneId) (h : Hdr) (opcode : Nat) (r : Rsp) (mask : Nat) : State :=
  let s := if r.good then s.countRx l h else s.markFailed l h opcode r
  s.answer l h opcode r (!interim opcode r) (interim opcode r) mask

/-- A staff function that a lane starts in M or S: ARM, and a write of shared configuration (R110). -/
def staffFn : Op → Bool
  | .arm _ => true
  | .set items => ((writesOf 20 items).map PWrite.k).any sharedKey
  | _ => false

/-- An agreed staff function in a lane that does not hold the staff: the holder starts it alone (R97, R110). The lane's own copy is
answered OK: no rule gives it the answer the holder gets (DESIGN CHOICE, log 73). -/
def State.leavesToHolder (s : State) (l : LaneId) (h : Hdr) (fn : Bool) : Bool := fn && h.voted && s.rd l.reg STF_HOLDER != l.reg

/-- A waybill performed at once, M and S reached in the same step. -/
def State.direct (s : State) (l : LaneId) (h : Hdr) (op : Op) : State :=
  let oc := opcodeOf op
  match s.shared l h oc (s.opChk l h op) with
  | some r => (s.noteLocked h.region (some r)).outcome l h oc r 0
  | none =>
    let p := if s.leavesToHolder l h (staffFn op) then (s, rOk) else s.opEff l h op
    p.1.outcome l h oc p.2 0

/-! ### Relays (R38) -/

/-- What a lane checks of a waybill it relays: the staff (check 12), and the consist a member or an ABORT_CONSIST names, which the lane's
own engine holds (R53, R55). -/
def State.relayChk (s : State) (l : LaneId) (h : Hdr) : Op → Option Rsp
  | .setStaged items => s.chkStageHead l h items
  | .abortConsist => failIf (s.abortable l h).isNone (rRange 0 6)
  | .set items => s.sharedFor l h ((writesOf 20 items).map PWrite.k)
  | .arm _ => s.chkStaffFn l h
  | _ => none

/-- A waybill relayed with the lane's staff epoch, to be answered to `own` (R38, R110). -/
def State.relayOut (s : State) (l : LaneId) (h : Hdr) (op : Op) (mask : Nat) (key : Option VKey) (own : Option Hdr) : State :=
  let d : Shared := if h.region = 7 then .m else .s
  let tag := (s.lane l).wbe.tag
  (s.modWbe l (fun x => { x with tag := tag + 1, relays := x.relays ++ [⟨tag, d, own, opcodeOf op, mask, key, none, []⟩] })).send
    (.relay l d tag (s.rd l.reg STF_EPOCH) h op)

/-- What a lane does itself with a waybill it relays: a member enters its consist, which the answer of the die may still fail; an aborted
consist is discarded and counted, and the die frees its locks (R38, R53, R55, R457; log 73). -/
def State.relayOwn (s : State) (l : LaneId) (h : Hdr) (op : Op) : State :=
  match op with
  | .setStaged items => s.addMember l h items
  | .abortConsist => match s.abortable l h with
    | some c => (s.closeConsist l c).bump l.reg WBE_CNT_CONSIST_DISCARD
    | none => s
  | _ => s

/-- What a lane checks itself of a consist for M or S at its commit instant; the die checks the rest (R38, R57). -/
def State.chkConsistAway (s : State) (l : LaneId) (h : Hdr) (c : Consist) : Option Rsp :=
  firstFail [failIf (!s.regionReached l c.region) (rRange 0 8), c.failed.map (fun f => ⟨f.1, f.2⟩),
    firstOf (fun m => firstFail [s.sharedFor l h (m.writes.map PWrite.k), s.busyCheck l m.hdr 0x0103, s.modeCheck l 0x0103]) c.members]

/-- A consist for M or S committed over the link: the COMMIT goes out with the items of its members, in order of arrival, and the
lane waits for the answer (R38, R58; the bytes of that message are not stated, DESIGN CHOICE, log 62). -/
def State.relayCommit (s : State) (l : LaneId) (h : Hdr) (c : Consist) (mask : Nat) (key : Option VKey) (own : Option Hdr) : State :=
  let d : Shared := if c.region = 7 then .m else .s
  let tag := (s.lane l).wbe.tag
  let items := c.members.flatMap (fun m => match m.op with
    | .setStaged is => is
    | _ => [])
  ((s.closeConsist l c).modWbe l (fun x => { x with tag := tag + 1, relays := x.relays ++ [⟨tag, d, own, 0x0104, mask, key, some c, []⟩] })).send
    (.relay l d tag (s.rd l.reg STF_EPOCH) { h with region := c.region } (.setStaged items))

/-- A consist at its commit instant, in the lane and its power die at once, in M and S by a relay: the result, none while the die
is to answer (R38, R57, R58). -/
def State.commitSend (s : State) (l : LaneId) (h : Hdr) (c : Consist) (mask : Nat) (key : Option VKey) (own : Option Hdr) :
    State × Option Rsp :=
  if c.region < 7 then
    let p := s.commitNow l h c
    (p.1, some p.2)
  else match s.chkConsistAway l h c with
    | some r => (s.failConsist l c r, some r)
    | none => if s.leavesToHolder l h (c.writes.any (fun w => sharedKey w.k))
      then (((s.closeConsist l c).releaseLocks c).answerMembers l c rOk, some rOk) else (s.relayCommit l h c mask key own, none)

/-- A COMMIT taking effect in a lane. -/
def State.commitRun (s : State) (l : LaneId) (h : Hdr) (mask : Nat) (key : Option VKey) (own : Option Hdr) : State × Option Rsp :=
  let p := s.commitHead l h
  match p.2 with
  | some r => (p.1, some r)
  | none => match p.1.consist l h.port h.consist with
    | some c => p.1.commitSend l h c mask key own
    | none => (p.1, some (rRange 0 6))

/-- A GET that the lane answers from its own view of S (R333). -/
def State.showsView (s : State) (l : LaneId) : Op → Bool
  | .get ids => s.ownView l ids
  | _ => false

/-- A waybill taking effect in a lane: performed, with the answer, or relayed, with the answer to come to `own` (R38). -/
def State.runOp (s : State) (l : LaneId) (h : Hdr) (op : Op) (mask : Nat) (key : Option VKey) (own : Option Hdr) :
    State × Option Rsp :=
  let oc := opcodeOf op
  let away := decide (h.region ≥ 7) && oc != 0x0104 && !s.showsView l op
  match s.shared l h oc (if away then s.relayChk l h op else s.opChk l h op) with
  | some r => (s.noteLocked h.region (some r), some r)
  | none =>
    if s.leavesToHolder l h (staffFn op) then (s, some rOk)
    else if away then ((s.relayOwn l h op).relayOut l h op mask key own, none)
    else if oc = 0x0104 then s.commitRun l h mask key own
    else
      let p := s.opEff l h op
      (p.1, some p.2)

/-- M keeps the highest epoch it has seen: that of a relayed write of shared configuration, which a check may still refuse (R116). -/
def State.seeEpoch (s : State) (epoch : Nat) (ks : List PKey) : State := if ks.any sharedKey then s.fence 7 epoch else s

/-- A lane gives up what it holds in a shared die: each lock of its own that nothing else holds is freed (R55, R457). -/
def State.freeLocksOf (s : State) (r owner : Nat) : State :=
  (List.range 2).foldl (fun s u => if s.rd r FAB_LOCK_OWNER u = owner then s.lockRelease r u else s) s

/-- A relayed COMMIT in M or S: the checks of its set and its effect (R57, R58). -/
def State.dieCommit (s : State) (d : Shared) (l : LaneId) (epoch : Nat) (items : List Item) : State × Rsp :=
  let ws := writesOf 20 items
  let ks := ws.map PWrite.k
  let t := s.putAll ws
  let s := s.seeEpoch epoch ks
  match firstFail [s.fenceCheck epoch ks, s.lockCheck l.reg ws true, firstOf (fun w => s.itemRange d.reg w.k.block w) ws,
      firstOf (fun w => s.itemState l w) ws, namedIn ws (s.lateCheck t l d.reg ks), setRules s t l d.reg ks] with
  | some r => (s.noteLocked d.reg (some r), r)
  | none => ((s.applyWrites l epoch d.reg ws).1, rOk)

/-- A relayed waybill in M or S: its own checks and its effect, for the lane that relayed it under its staff epoch. -/
def State.dieRun (s : State) (d : Shared) (l : LaneId) (epoch : Nat) (h : Hdr) (op : Op) : State × Rsp :=
  let chk : Option Rsp := match op with
    | .get ids => chkGet h ids
    | .set items => s.chkSet l epoch h items
    | .setStaged items => s.chkStageAt l epoch h items
    | .arm _ => none
    | .disarm _ => none
    | op => s.mChk (.lane l) op
  let s := match op with
    | .set items => s.seeEpoch epoch ((writesOf 20 items).map PWrite.k)
    | .setStaged items => s.seeEpoch epoch ((writesOf 20 items).map PWrite.k)
    | _ => s
  match chk with
  | some r => (s.noteLocked d.reg (some r), r)
  | none => match op with
    | .get ids => s.effGet ids
    | .set items => s.applyWrites l epoch h.region (writesOf 20 items)
    | .setStaged items => s.stageAt l epoch items
    | .abortConsist => (s.freeLocksOf d.reg l.reg, rOk)
    | .arm m => s.armS l epoch m
    | .disarm m => s.disarmS l m
    | op => s.mEff (.lane l) op

/-- The answer of M or S to a relayed waybill. -/
def dieReply (l : LaneId) (w : Waybill) (r : Rsp) : Reply :=
  { flags := 1, opcode := w.opcode, seq := w.seq, status := r.status, region := l.reg, mask := 0, data := r.data }

/-- A relayed waybill judged and performed (R38, R39); a COMMIT carries the items of its consist (log 62). -/
def State.relayIn (s : State) (d : Shared) (l : LaneId) (epoch : Nat) (w : Waybill) : State × Rsp :=
  if w.region ≠ d.reg ∨ !blockIn w.region w.block then (s, rRange 0 8)
  else if !opcodeIn w.opcode w.region w.block l.reg l.pow then (s, rUnknown)
  else if w.opcode = 0x0104 then
    match readItems (fieldLe w.params 0 2) (w.params.drop 4) with
    | some items => s.dieCommit d l epoch items
    | none => (s, rBadLength w.params.length 0)
  else match parseOp w.opcode w.params with
    | .error r => (s, r)
    | .ok op => s.dieRun d l epoch (w.hdr .spi 0) op

/-- RELAY_RECEIVE (R38): a die that does not run sends no answer. -/
def execRelayReceive (d : Shared) (l : LaneId) (tag epoch : Nat) (w : Waybill) (s : State) : Host.Outcome State Fault Refusal :=
  .next (if s.sharedUp d then
      let p := s.relayIn d l epoch w
      p.1.send (.relayReply d l tag (dieReply l w p.2))
    else s)

/-- The relay awaited under a tag. -/
def State.relayOf (s : State) (l : LaneId) (tag : Nat) : Option RelayWait := (s.lane l).wbe.relays.find? (fun r => r.tag == tag)

/-- A relay no longer awaited. -/
def State.relayGone (s : State) (l : LaneId) (tag : Nat) : State :=
  s.modWbe l (fun x => { x with relays := x.relays.filter (fun r => r.tag != tag) })

/-- The record of an agreed key takes the final status (R100). -/
def State.settle (s : State) (l : LaneId) (k : VKey) (r : Rsp) : State :=
  s.modVot l (fun v => { v with agreed := v.agreed.map (fun a => if a.key == k then { a with status := some (r.status, r.data) } else a) })

/-- The lane's own late copies of an agreed key, answered with its final status (R100). -/
def State.answerLate (s : State) (l : LaneId) (k : VKey) (r : Rsp) (mask : Nat) : State :=
  let isLate : VCopy → Bool := fun c => c.lane == l && (Waybill.parse c.raw).key l == k
  let late := ((s.lane l).vot.copies.filter isLate).filterMap (fun c => c.own)
  let s := s.modVot l (fun v => { v with copies := v.copies.filter (fun c => !isLate c) })
  late.foldl (fun s h => s.answer l h k.opcode r true false (setBit mask l.idx) true) s

/-- What a relayed COMMIT's answer does to its consist: its members are answered; a failure discards it (R55, R57). -/
def State.consistDone (s : State) (l : LaneId) (c : Option Consist) (r : Rsp) : State :=
  match c with
  | none => s
  | some c => if r.good then s.answerMembers l c rOk else s.failConsist l c r

/-- What the answer to a relayed member does to its consist: a failure takes it out and marks the consist failed (R38, R56). -/
def State.memberDone (s : State) (l : LaneId) (x : RelayWait) (r : Rsp) : State :=
  match x.hdr with
  | some h => if x.opcode = 0x0103 ∧ !r.good then (s.dropMember l h).markFailed l h 0x0103 r else s
  | none => s

/-- The answer to a relayed waybill goes to its port (R38, R99, R100). -/
def State.relayDone (s : State) (l : LaneId) (x : RelayWait) (r : Rsp) : State :=
  let s := ((s.relayGone l x.tag).consistDone l x.consist r).memberDone l x r
  let s : State := match x.hdr with
    | some h => s.answer l h x.opcode r (!interim x.opcode r) (interim x.opcode r) x.mask
    | none => s
  let s := x.also.foldl (fun s h => s.answer l h x.opcode r true false x.mask) s
  match x.key with
  | some k => (s.settle l k r).answerLate l k r x.mask
  | none => s

/-- RELAY_REPLY_RECEIVE (R38): an answer no longer awaited is discarded. -/
def execRelayReplyReceive (l : LaneId) (tag : Nat) (r : Reply) (s : State) : Host.Outcome State Fault Refusal :=
  .next (s.whenHost l (fun s => match s.relayOf l tag with
    | some x => s.relayDone l x ⟨r.status, r.data⟩
    | none => s))

/-- RELAY_TIMEOUT (R38): 2 ms without an answer. -/
def execRelayTimeout (l : LaneId) (tag : Nat) (s : State) : Host.Outcome State Fault Refusal :=
  .next (s.whenHost l (fun s => match s.relayOf l tag with
    | some x => s.relayDone l x (rRange 0 8)
    | none => s))

/-! ### The commands of class 0x01 -/

/-- GET (R63). -/
def execGet (l : LaneId) (h : Hdr) (ids : List Nat) (s : State) : Host.Outcome State Fault Refusal :=
  .next (s.whenHost l (fun s => s.direct l h (.get ids)))

/-- SET (R59, R64). -/
def execSet (l : LaneId) (h : Hdr) (items : List Item) (s : State) : Host.Outcome State Fault Refusal :=
  .next (s.whenHost l (fun s => s.direct l h (.set items)))

/-- SET_STAGED (R53). -/
def execSetStaged (l : LaneId) (h : Hdr) (items : List Item) (s : State) : Host.Outcome State Fault Refusal :=
  .next (s.whenHost l (fun s => s.direct l h (.setStaged items)))

/-- COMMIT (R57). -/
def execCommit (l : LaneId) (h : Hdr) (s : State) : Host.Outcome State Fault Refusal :=
  .next (s.whenHost l (fun s => s.direct l h .commit))

/-- ABORT_CONSIST (R55). -/
def execAbortConsist (l : LaneId) (h : Hdr) (s : State) : Host.Outcome State Fault Refusal :=
  .next (s.whenHost l (fun s => s.direct l h .abortConsist))

/-- CONSIST_IDLE_TIMEOUT (R55): no final reply for any member; a consist with its COMMIT accepted is not idle. -/
def execConsistIdleTimeout (l : LaneId) (p : Port) (consist : Nat) (s : State) : Host.Outcome State Fault Refusal :=
  .next (s.whenHost l (fun s => match s.consist l p consist with
    | some c => if c.closed then s else s.dropConsist l c
    | none => s))

end Sys2Proof.Machine
end

