-- ==== Sys2Proof/Machine/Links.lean ====
section
/-! DEFINITION. The links between the dies: flits received, acknowledged, sent again and given up, training and failure of a
link (R82 to R87). -/

namespace Sys2Proof.Machine

open Par Var

/-- A die that runs at a link end. -/
def State.dieUp (s : State) (r : Region) : Bool := if r.code ≤ 3 then s.on r.code && s.rd r.code FAB_PHASE != 2 else s.on r.code

/-- What a link end does while its die runs and the link is up. -/
def State.onLink (s : State) (k : Link) (f : State → State) : State :=
  if (linkKind k).isSome && s.hasRegion k.near.code && s.hasRegion k.far.code && s.dieUp k.near && s.linkState k == 2 then f s else s

/-- A counter of a link raised at an end that is a lane's (R109). -/
def State.countAt (s : State) (k : Link) (d : PDesc) : State :=
  if k.near.code ≤ 3 then s.bump k.near.code d k.far.code else s

/-! ### Receiving (R82 to R85) -/

/-- A good flit taken into the message it belongs to; at the last one the message is whole and delivered, or no message at
all (R84, R85). -/
def LinkSt.take (x : LinkSt) (w : Nat) : LinkSt :=
  let t := bits w 3 0
  let p := flitPayload w
  let old := x.partials.find? (fun m => m.type == t)
  let cur : Option InMsg :=
    if bit w 12 then some ⟨t, fieldLe p 0 2, p.drop 2⟩ else old.map (fun m => { m with got := m.got ++ p })
  let others := x.partials.filter (fun m => m.type != t)
  match cur with
  | none => x
  | some m =>
    if bit w 13 then
      if 1 ≤ m.len ∧ m.len ≤ 4094 ∧ m.len ≤ m.got.length ∧ m.got.length < m.len + 12
      then { x with partials := others, delivered := x.delivered ++ [(t, m.got.take m.len)] }
      else { x with partials := others }
    else { x with partials := others ++ [m] }

/-- A flit received: acknowledged when its check, its type and its sequence are right, else answered with the expected
sequence (R82, R85). -/
def State.flitIn (s : State) (k : Link) (w : Nat) : State :=
  let x := s.link k
  let typeOk := match linkKind k with
    | some c => (linkTypes c).contains (bits w 3 0)
    | none => false
  if !flitOk w || !typeOk then (s.countAt k XLK_CNT_CRC).send (.flitAck k false x.rxSeq)
  else if bits w 11 8 ≠ x.rxSeq then s.send (.flitAck k false x.rxSeq)
  else (s.setLink k { x.take w with rxSeq := (x.rxSeq + 1) % 16 }).send (.flitAck k true x.rxSeq)

/-- FLIT_RECEIVE (R85). -/
def execFlitReceive (k : Link) (flit : Nat) (s : State) : Host.Outcome State Fault Refusal :=
  .next (s.onLink k (fun s => s.flitIn k flit))

/-! ### Acknowledgements at the sender (R85) -/

/-- FLIT_ACK_RECEIVE (R85): the flit, and those before it, leave the window; waiting ones follow. -/
def execFlitAckReceive (k : Link) (seq : Nat) (s : State) : Host.Outcome State Fault Refusal :=
  .next (s.onLink k (fun s =>
    let x := s.link k
    if x.unacked.any (fun f => f.seq == seq) then
      (s.setLink k { x with unacked := (x.unacked.dropWhile (fun f => f.seq != seq)).drop 1 }).pump 8 k
    else s))

/-- The flits sent again from a sequence on, each with one more attempt. -/
def renumber : Nat → List TxFlit → List TxFlit
  | _, [] => []
  | q, f :: r => ⟨q, flitReseq f.word q, f.type, f.tries + 1⟩ :: renumber ((q + 1) % 16) r

/-- The flits outstanding sent again: a message with a flit whose fourth attempt failed is given up whole and counted, SAMPLE
flits are never sent again, the others follow in order from the sequence the receiver expects. -/
def State.resendFlits (s : State) (k : Link) : State :=
  let x := s.link k
  match x.unacked with
  | [] => s
  | f :: _ =>
    let lost := flitOrder.filter (fun t => t != 9 && x.unacked.any (fun g => g.type == t && decide (g.tries ≥ 4)))
    let gone := 9 :: lost
    let again := renumber f.seq (x.unacked.filter (fun g => !gone.contains g.type))
    let q := x.outq.filter (fun m => !(m.started && gone.contains m.type))
    let s := s.setLink k { x with unacked := again, outq := q, txSeq := (f.seq + again.length) % 16 }
    let s := lost.foldl (fun s _ => s.countAt k XLK_CNT_MSG_LOST) s
    let s := again.foldl (fun s g => (s.countAt k XLK_CNT_RESEND).send (.flit k g.word)) s
    s.pump 8 k

/-- FLIT_NACK_RECEIVE (R85): what came before the expected sequence has arrived; what follows is sent again. -/
def execFlitNackReceive (k : Link) (expected : Nat) (s : State) : Host.Outcome State Fault Refusal :=
  .next (s.onLink k (fun s =>
    let x := s.link k
    if x.unacked.any (fun f => f.seq == expected) then
      (s.setLink k { x with unacked := x.unacked.dropWhile (fun f => f.seq != expected) }).resendFlits k
    else if x.txSeq = expected then (s.setLink k { x with unacked := [] }).pump 8 k
    else s))

/-- FLIT_ACK_TIMEOUT (R85). -/
def execFlitAckTimeout (k : Link) (s : State) : Host.Outcome State Fault Refusal :=
  .next (s.onLink k (fun s => s.resendFlits k))

/-! ### Training (R87) -/

/-- The other end of a link. -/
def otherEnd (k : Link) : Link := ⟨k.far, k.near⟩

/-- A change at each end of a link that is a lane's. -/
def State.atEnds (s : State) (k : Link) (f : Link → State → State) : State :=
  let s := if k.near.code ≤ 3 then f k s else s
  if k.far.code ≤ 3 then f (otherEnd k) s else s

/-- The state of a link written at its lane ends. -/
def State.setLinkState (s : State) (k : Link) (v : Nat) : State :=
  s.atEnds k (fun e s => s.wr e.near.code XLK_LINK_STATE e.far.code v)

/-- The messages in flight at an end discarded; sequences start anew. -/
def State.clearEnd (s : State) (k : Link) : State :=
  let q := (s.link k).outq.filter (fun m => !m.started)
  s.setLink k { outq := q, delivered := (s.link k).delivered }

/-- A link retrains: every message in flight is discarded (R87). -/
def State.retrain (s : State) (k : Link) : State :=
  let s := (s.setLinkState k 1).atEnds k (fun e s => s.countAt e XLK_CNT_RETRAIN)
  (s.clearEnd k).clearEnd (otherEnd k)

/-- LINK_CODE_ERRORS (R87, R109): the near end sees the errors; the run of four counts there as one flit that failed its code check
(DESIGN CHOICE, log 63), and the link retrains. -/
def execLinkCodeErrors (k : Link) (s : State) : Host.Outcome State Fault Refusal :=
  .next (s.onLink k (fun s => (s.countAt k XLK_CNT_CRC).retrain k))

/-- LINK_ACK_SILENCE (R87): with flits outstanding. -/
def execLinkAckSilence (k : Link) (s : State) : Host.Outcome State Fault Refusal :=
  .next (s.onLink k (fun s => if (s.link k).unacked.isEmpty then s else s.retrain k))

/-- A region's epoch sent as a STATUS message on an S or M link (R456). -/
def State.sendEpoch (s : State) (k : Link) : State :=
  if (k.near.code ≤ 3 ∧ k.far.code ≥ 7) ∨ (k.near = .m ∧ k.far.code ≤ 3)
  then s.linkSend k 5 (toLe 4 (s.rd k.near.code FAB_REGION_EPOCH)) else s

/-- A link that exists between two dies of the part. -/
def State.linkThere (s : State) (k : Link) : Bool :=
  (linkKind k).isSome && s.hasRegion k.near.code && s.hasRegion k.far.code

/-- A failed link of a lane remains. -/
def State.anyFailed (s : State) (r : Nat) : Bool := (List.range 9).any (fun f => s.rd r XLK_LINK_STATE f == 3)

/-- LINK_TRAIN_COMPLETE (R87, R456): the link is up, its epochs follow. -/
def execLinkTrainComplete (k : Link) (s : State) : Host.Outcome State Fault Refusal :=
  .next (if s.linkThere k ∧ s.dieUp k.near ∧ s.dieUp k.far ∧ s.linkState k ≤ 1 then
      let s := s.setLinkState k 2
      let s := s.atEnds k (fun e s => if s.anyFailed e.near.code then s else s.release e.near.code 13)
      let s := ((s.pump 8 k).pump 8 (otherEnd k)).sendEpoch k
      s.sendEpoch (otherEnd k)
    else s)

/-- LINK_FAIL_TIMEOUT (R87): the link is marked failed and its lane dies raise source 13. -/
def execLinkFailTimeout (k : Link) (s : State) : Host.Outcome State Fault Refusal :=
  .next (if s.linkThere k ∧ s.linkState k ≤ 1 then
      (s.setLinkState k 3).atEnds k (fun e s => if s.dieUp e.near then s.raise e.near.code 13 true else s)
    else s)

/-- LINK_TRAIN_RETRY (R87). -/
def execLinkTrainRetry (k : Link) (s : State) : Host.Outcome State Fault Refusal :=
  .next (if s.linkThere k ∧ s.linkState k = 3 then s.setLinkState k 1 else s)

end Sys2Proof.Machine
end

