-- ==== Sys2Proof/Machine/Vote.lean ====
section
/-! DEFINITION. VOTED waybills: copies and their announcement, the evaluation points with their windows, agreement, effect
and failure, the command digest, late copies, minority events and degraded networks (R51, R60, R91, R93 to R103). -/

namespace Sys2Proof.Machine

open Par Var

/-! ### Copies (R93, R94) -/

/-- A copy as it is compared. -/
def VCopy.wb (c : VCopy) : Waybill := (Waybill.parse c.raw).free c.lane

/-- The key of a copy (R94). -/
def VCopy.key (c : VCopy) : VKey := (Waybill.parse c.raw).key c.lane

/-- Two copies match: byte for byte, and for a COMMIT in the check of their consists (R60, R94). -/
def VCopy.like (c d : VCopy) : Bool := c.wb.matches d.wb && c.crc == d.crc

/-- The order of effect: by the time of the earliest copy, then by its arrival lane (R98). -/
def stampBefore (s : Nat) (l : LaneId) (s' : Nat) (l' : LaneId) : Bool := decide (s < s' ∨ (s = s' ∧ l.idx ≤ l'.idx))

/-- The earliest of copies. -/
def earliestCopy : List VCopy → Option VCopy
  | [] => none
  | c :: r => match earliestCopy r with
    | none => some c
    | some d => if stampBefore c.stamp c.lane d.stamp d.lane then some c else some d

/-- The lanes of copies as a mask (R41). -/
def copyMask (cs : List VCopy) : Nat := cs.foldl (fun m c => setBit m c.lane.idx) 0

/-- The bytes of `n` items with the region of each ID mapped, every other byte as it came. -/
def freeItems (f : Nat → Nat) : Nat → List Byte → List Byte
  | 0, raw => raw
  | n + 1, raw =>
    let len := 8 + (fieldLe raw 4 2 + 3) / 4 * 4
    toLe 4 (mapId f (fieldLe raw 0 4)) ++ (raw.take len).drop 4 ++ freeItems f n (raw.drop len)

/-- The check over the parameters of the members of the consist a COMMIT names, byte by byte in order of arrival, with the lanes' own
regions alike (R60, log 44). -/
def State.consistCrc (s : State) (l : LaneId) (h : Hdr) : Nat :=
  match s.consist l h.port h.consist with
  | some c => crc32c (c.members.flatMap (fun m => m.params.take 4 ++ freeItems (freeRegion l) (fieldLe m.params 0 2) (m.params.drop 4)))
  | none => 0

/-- The check that enters a copy of a waybill: that of the consist of a COMMIT (R60). -/
def State.copyCrc (s : State) (l : LaneId) (h : Hdr) (opcode : Nat) : Nat := if opcode = 0x0104 then s.consistCrc l h else 0

/-- The cycle of a Towline time. -/
def State.cycleAt (s : State) (l : LaneId) (stamp : Nat) : Nat := stamp / (s.rd l.reg TWL_CYCLE_LEN * 1000)

/-- The record of an agreed key. -/
def Vot.agreedOf (v : Vot) (k : VKey) : Option VAgreed := v.agreed.find? (fun a => a.key == k)

/-- An agreed key that waits for its instant. -/
def Vot.waitingOf (v : Vot) (k : VKey) : Option VWaiting := v.waiting.find? (fun a => a.key == k)

/-- The commit-queue entry of the lane's own copy freed (R51). -/
def State.unhold (s : State) (l : LaneId) (h : Hdr) : State :=
  s.modWbe l (fun x => { x with commitQ := x.commitQ.filter (fun e => !(e.voted && e.hdr == h)) })

/-- The lanes that hold a copy matching a waybill of lane `l`, as its reply names them: those in the record, or of an agreed key the lanes
agreed on (R41, R99). -/
def State.heldMask (s : State) (l : LaneId) (h : Hdr) (raw : List Byte) : Nat :=
  let oc := (Waybill.parse raw).opcode
  let c : VCopy := ⟨l, 0, 0, raw, s.copyCrc l h oc, none⟩
  let v := (s.lane l).vot
  match v.agreedOf c.key with
  | some a => if c.wb.matches (Waybill.parse a.raw) ∧ c.crc = a.crc then a.mask else 0
  | none => match v.waitingOf c.key with
    | some a => if c.wb.matches (Waybill.parse a.raw) ∧ c.crc = a.crc then a.mask else 0
    | none => copyMask (v.copies.filter (fun d => c.like d))

/-- A copy answered VOTE_FAILED; the consist of a COMMIT is discarded (R60, R99). -/
def State.refuseCopy (s : State) (l : LaneId) (h : Hdr) (opcode mask : Nat) : State :=
  let s := s.unhold l h
  let s := if opcode = 0x0104 then match s.consist l h.port h.consist with
      | some c => s.failConsist l c rVoteFailed
      | none => s
    else s
  s.answer l h opcode rVoteFailed true false mask

/-- A copy of an agreed key that comes late: counted for its network; matching, it is answered with the final status, or
waits for it; otherwise it failed (R100). A matching one is neither executed nor refused, and R79 does not say whether it counts as
accepted: the model counts it in neither `CNT_RX` nor `CNT_ERR` (DESIGN CHOICE, log 73). -/
def State.lateCopy (s : State) (l : LaneId) (c : VCopy) (h : Hdr) (raw : List Byte) (crc mask : Nat) (status : Option (Nat × List Byte)) :
    State :=
  let s := s.bump l.reg VOT_CNT_LATE l.reg
  let oc := c.key.opcode
  if c.wb.matches (Waybill.parse raw) ∧ c.crc = crc then
    match status with
    | some p => s.answer l h oc ⟨p.1, p.2⟩ true false (setBit mask l.idx) true
    | none => s.modVot l (fun v => { v with copies := v.copies ++ [c] })
  else s.refuseCopy l h oc (setBit 0 l.idx)

/-- A new copy of the lane's own: held, counted, announced to both peers, answered VOTE_PENDING with the lanes whose matching copies
stand in the record (R41, R42, R51, R79, R93). -/
def State.newCopy (s : State) (l : LaneId) (c : VCopy) (h : Hdr) (op : Op) : State :=
  let s := s.modVot l (fun v => { v with copies := v.copies ++ [c] })
  let s := if h.commit = 0 then s else s.hold l h op true
  ((s.send (.announce l c.stamp c.raw c.crc)).countRx l h).answer l h (opcodeOf op) rVotePending false true
    (copyMask ((s.lane l).vot.copies.filter (fun d => c.like d)))

/-- A late copy of a COMMIT whose consist the lane holds no longer carries the check of the agreed one, which committed it (R60, R97,
R100). -/
def State.lateCrc (s : State) (l : LaneId) (c : VCopy) (h : Hdr) (crc : Nat) : VCopy :=
  if c.key.opcode = 0x0104 ∧ (s.consist l h.port h.consist).isNone then { c with crc := crc } else c

/-- A VOTED waybill that has passed checks 1 to 11 at its own lane. One of an agreed key is late; a COMMIT of another key is judged at once
for its consist (R56, R57, R60, R93, R100). -/
def State.voteIn (s : State) (l : LaneId) (h : Hdr) (op : Op) (raw : List Byte) (t : Nat) : State :=
  let stamp := s.twlTime l t
  let c : VCopy := ⟨l, stamp, s.cycleAt l stamp, raw, s.copyCrc l h (opcodeOf op), some h⟩
  let v := (s.lane l).vot
  match v.agreedOf c.key with
  | some a => s.lateCopy l (s.lateCrc l c h a.crc) h a.raw a.crc a.mask a.status
  | none => match v.waitingOf c.key with
    | some a => s.lateCopy l (s.lateCrc l c h a.crc) h a.raw a.crc a.mask none
    | none =>
      let p : State × Option Rsp := match op with
        | .commit => s.commitAccept l h
        | _ => (s, none)
      match p.2 with
      | some r => p.1.answer l h (opcodeOf op) r true false (s.heldMask l h raw)
      | none => p.1.newCopy l c h op

/-- ANNOUNCE_RECEIVE (R93): a copy of a peer enters the record; of a key agreed already it is late and only counted
(R100). -/
def execAnnounceReceive (l : LaneId) (arrival : LaneId) (stamp : Nat) (raw : List Byte) (crc : Nat) (s : State) :
    Host.Outcome State Fault Refusal :=
  .next (s.whenUp l (fun s =>
    let c : VCopy := ⟨arrival, stamp, s.cycleAt l stamp, raw, crc, none⟩
    let v := (s.lane l).vot
    if arrival = l ∨ !s.hasRegion arrival.reg then s
    else if (v.agreedOf c.key).isSome ∨ (v.waitingOf c.key).isSome then s.bump l.reg VOT_CNT_LATE arrival.reg
    else s.modVot l (fun v => { v with copies := v.copies ++ [c] })))

/-! ### Counting (R95, R96, R101 to R103) -/

/-- One copy is enough: in SINGLE and STOPPING, in DUAL with `DUAL_ONE_COPY`, in the two-lane part in FULL with it, in the
one-lane part (R96, R101, R372). -/
def State.oneCopy (s : State) (l : LaneId) : Bool :=
  let m := s.rd l.reg VOT_MODE
  let n := s.lanesOf.length
  n == 1 || m == 2 || m == 3 || (s.rdB l.reg VOT_DUAL_ONE_COPY && (m == 1 || (n == 2 && m == 0)))

/-- A host network that is not degraded (R102). -/
def State.countable (s : State) (l x : LaneId) : Bool := !bit (s.rd l.reg VOT_NET_STATE) x.idx

/-- The voting lanes do not all hold the same VOT set (R103). The sets are compared directly (log 11). -/
def State.votDiffers (s : State) (l : LaneId) : Bool :=
  match s.votingLanes l with
  | [] => false
  | x :: r => r.any (fun y => s.rwsCrc y.reg 0x1A != s.rwsCrc x.reg 0x1A)

/-- The copies of voting lanes stamped before the cutoff of an evaluation point at Towline time `now` (R95, R101). -/
def State.counted (s : State) (l : LaneId) (now : Nat) (cs : List VCopy) : List VCopy :=
  cs.filter (fun c => s.voting l c.lane && decide (c.stamp + s.rd l.reg VOT_VOTE_CUTOFF * 1000 < now))

/-- A copy of the group that agrees: at least two voting lanes with countable networks hold matching copies, or one where
one is enough and no voting lane holds a conflicting copy. `ok` are the counted copies of countable networks, `all` those
of every voting lane (R96, R101). -/
def State.agreeing (s : State) (l : LaneId) (ok all : List VCopy) : Option VCopy :=
  match ok.find? (fun c => decide (lanesIn (copyMask (ok.filter (fun d => c.like d))) ≥ 2)) with
  | some c => some c
  | none => match ok with
    | c :: _ => if s.oneCopy l && all.all (fun d => c.like d) then some c else none
    | [] => none

/-- A commit instant at or before the present cycle (R50). -/
def State.cycleDue (s : State) (l : LaneId) (n : Nat) : Bool := decide ((s.cycle l + 2 ^ 32 - n % 2 ^ 32) % 2 ^ 32 < 2 ^ 31)

/-- The judgement of a key at an evaluation point. -/
inductive Verdict
  /-- Not yet decided; the cycle its window opened in where it has. -/
  | wait (open' : Option Nat)
  | fail
  /-- No window: the copies whose own cycles have ended fail. -/
  | stale
  /-- Agreed: a copy of the group. -/
  | agree (c : VCopy)
deriving DecidableEq, Repr

/-- A copy whose commit instant has come without agreement (R60, R97). -/
def State.overdue (s : State) (l : LaneId) (c : VCopy) : Bool := c.wb.commit != 0 && s.cycleDue l c.wb.commit

/-- A copy that fails by itself at an evaluation point of its lane: the cycles of its window have ended with none opened, or its instant
has come (R60, R96, R97). -/
def State.copyOver (s : State) (l : LaneId) (c : VCopy) : Bool :=
  decide (c.cycle + s.rd l.reg VOT_WINDOW ≤ s.cycle l + 1) || s.overdue l c

/-- The judgement of a key from its copies at an evaluation point at Towline time `now`; at the common sample instant only
URGENT copies count (R95, R96). -/
def State.judge (s : State) (l : LaneId) (now : Nat) (urgent : Bool) (k : VKey) : Verdict :=
  let cs := (s.lane l).vot.copies.filter (fun c => c.key == k)
  let all := s.counted l now cs
  let ok := all.filter (fun c => s.countable l c.lane && (!urgent || bit (Waybill.parse c.raw).flags 3))
  let cyc := s.cycle l
  let w := s.rd l.reg VOT_WINDOW
  let seen := ((s.lane l).vot.windows.find? (fun x => x.key == k)).map (fun x => x.cycle)
  let first : Option Nat := match seen with
    | some n => some n
    | none => match ok with
      | c :: r => some (r.foldl (fun n d => min n d.cycle) c.cycle)
      | [] => none
  match first with
  | none =>
    let live := cs.any (fun c => s.voting l c.lane && s.countable l c.lane)
    if urgent || (live && !cs.any (s.overdue l)) || !cs.any (s.copyOver l) then .wait none else if cs.all (s.copyOver l) then .fail else .stale
  | some n =>
    if s.votDiffers l ∨ cyc ≥ n + w ∨ cs.all (s.overdue l) then .fail
    else if cs.any (s.overdue l) then .stale
    else match s.agreeing l ok all with
      | some c =>
        if c.wb.commit ≠ 0 ∧ s.cycleDue l c.wb.commit then .fail else .agree c
      | none => if !urgent && decide (cyc + 1 ≥ n + w) then .fail else .wait (some n)

/-! ### Minority events (R102) -/

/-- A minority event of a network, counted and noted with its cycle (R102). -/
def State.minorityEvent (s : State) (l x : LaneId) : State :=
  let s := s.bump l.reg VOT_CNT_MINORITY x.reg
  let cyc := s.cycle l
  let recent := (s.lane l).vot.minority.filter (fun e => decide (cyc < e.2 + s.rd l.reg VOT_NET_WINDOW))
  s.modVot l (fun v => { v with minority := recent ++ [(x, cyc)] })

/-- A network with `NET_LIMIT` minority events within `NET_WINDOW` cycles is degraded until the next start. Every lane judges it once all
keys of the evaluation point are judged, so the order of its copies does not matter (R102). -/
def State.degrade (s : State) (l x : LaneId) : State :=
  let n := ((s.lane l).vot.minority.filter (fun e => e.1 == x && decide (s.cycle l < e.2 + s.rd l.reg VOT_NET_WINDOW))).length
  if n ≥ s.rd l.reg VOT_NET_LIMIT ∧ !bit (s.rd l.reg VOT_NET_STATE) x.idx then
    (s.wrBit l.reg VOT_NET_STATE 0 x.idx true).raise l.reg 17 true
  else s

/-- The minority events of an agreement: every voting lane without a counted copy in the group. The network of a lane that is not
voting has none: R102 speaks of any host network, and the copies of such a lane do not count (DESIGN CHOICE, log 63). -/
def State.minorities (s : State) (l : LaneId) (now : Nat) (grp : List VCopy) : State :=
  let have' := copyMask (s.counted l now grp)
  (s.votingLanes l).foldl (fun s x => if bit have' x.idx then s else s.minorityEvent l x) s

/-! ### Agreement and failure (R96 to R99) -/

/-- The copies of a key out of the record, with its window. -/
def State.dropKey (s : State) (l : LaneId) (k : VKey) : State :=
  s.modVot l (fun v => { v with copies := v.copies.filter (fun c => !(c.key == k)), windows := v.windows.filter (fun x => !(x.key == k)) })

/-- The lane's own copies among some, answered VOTE_FAILED with the lanes that hold the same (R99). -/
def State.refuseOwn (s : State) (l : LaneId) (all bad : List VCopy) : State :=
  bad.foldl (fun s c => match c.own with
    | some h => s.refuseCopy l h c.key.opcode (copyMask (all.filter (fun d => c.like d)))
    | none => s) s

/-- A key that fails (R96, R99). -/
def State.failKey (s : State) (l : LaneId) (k : VKey) : State :=
  let cs := (s.lane l).vot.copies.filter (fun c => c.key == k)
  ((s.dropKey l k).bump l.reg VOT_CNT_FAILED).refuseOwn l cs cs

/-- Copies of a key that are over fail; the key has failed once none is left (R60, R96, R99). -/
def State.failStale (s : State) (l : LaneId) (k : VKey) (gone : VCopy → Bool) : State :=
  let ended : VCopy → Bool := fun c => c.key == k && gone c
  let cs := (s.lane l).vot.copies.filter (fun c => c.key == k)
  (s.modVot l (fun v => { v with copies := v.copies.filter (fun c => !ended c) })).refuseOwn l cs (cs.filter ended)

/-- A key that is agreed: counted; minority events; conflicting copies of the lane fail; what takes effect, and the copy
that enters the digest (R91, R97 to R102). -/
def State.agreeKey (s : State) (l : LaneId) (now : Nat) (k : VKey) (c : VCopy) : State × VWaiting × VCopy :=
  let cs := (s.lane l).vot.copies.filter (fun x => x.key == k)
  let grp := cs.filter (fun d => c.like d)
  let first := (earliestCopy grp).getD c
  let own := (grp.filter (fun d => d.lane == l)).filterMap (fun d => d.own)
  let s := ((s.dropKey l k).bump l.reg VOT_CNT_AGREED).minorities l now grp
  let s := s.refuseOwn l cs (cs.filter (fun d => !c.like d))
  (s, ⟨k, first.wb.encode, first.crc, first.stamp, first.lane, copyMask grp, own.head?, first.wb.commit, own.tail⟩, first)

/-! ### Effect (R97 to R100) -/

/-- An effect a shadow lane does not apply: its bridges stay as they are, its relays, staff and vote functions rest (R97,
R117, R180). -/
def State.shadowSkips (s : State) (l : LaneId) (h : Hdr) (opcode : Nat) : Bool :=
  s.vstate l == 0 && (opcode == 0x0210 || opcode == 0x0211 || opcode / 256 == 4 || decide (h.region ≥ 7))

/-- The consist that an agreed COMMIT commits in a lane: that of its own copy, else an open one of the same ID and the same
check (R60, R97). -/
def State.commitTarget (s : State) (l : LaneId) (x : VWaiting) (h : Hdr) : Option Consist :=
  match x.own with
  | some h => s.consist l h.port h.consist
  | none => (s.lane l).wbe.consists.find? (fun c => c.id == h.consist && c.failed.isNone &&
      s.consistCrc l { h with port := c.port } == x.crc)

/-- An agreed waybill taking effect in a lane, by the lane's own copy where it has one: the result, none while M or S is to
answer. An own COMMIT whose consist has gone meanwhile answers RANGE at the consist ID, as a held one does (log 60). -/
def State.voteRun (s : State) (l : LaneId) (x : VWaiting) : State × Option Rsp :=
  let w := (Waybill.parse x.raw).mapRegion (ownRegion l)
  let h := x.own.getD (w.hdr .t1 0)
  if s.shadowSkips l h w.opcode then (s, some rOk)
  else if w.opcode = 0x0104 then
    match s.commitTarget l x h with
    | some c => s.commitSend l h c x.mask (some x.key) x.own
    | none => (s, some (if x.own.isSome then rRange 0 6 else rOk))
  else match parseOp w.opcode w.params with
    | .error r => (s, some r)
    | .ok op => s.runOp l h op x.mask (some x.key) x.own

/-- The lane's own copies in an agreed group. -/
def VWaiting.owns (x : VWaiting) : List Hdr := x.own.toList ++ x.also

/-- A further own copy of an agreed COMMIT: its consist, which holds the same, is closed with it and its members answered (R60,
R99). -/
def State.closeAlso (s : State) (l : LaneId) (opcode : Nat) (h : Hdr) (r : Rsp) : State :=
  if opcode = 0x0104 then match s.consist l h.port h.consist with
    | some c => (s.closeConsist l c).answerMembers l c r
    | none => s
  else s

/-- The final answer to every own copy in an agreed group (R99). -/
def State.answerOwns (s : State) (l : LaneId) (x : VWaiting) (r : Rsp) : State :=
  let s := x.also.foldl (fun s h => s.closeAlso l x.key.opcode h r) s
  x.owns.foldl (fun s h => s.answer l h x.key.opcode r true false x.mask) s

/-- An agreed waybill at its effect: the key recorded, the lane's own copies answered with the result, and its late ones; where M or
S is to answer, the relay keeps their headers. -/
def State.voteEffect (s : State) (l : LaneId) (x : VWaiting) : State :=
  let p := (x.owns.foldl (fun s h => s.unhold l h) s).voteRun l x
  let status := p.2.map (fun r => (r.status, r.data))
  let s := p.1.modVot l (fun v => { v with agreed := v.agreed ++ [⟨x.key, x.raw, x.crc, x.mask, p.1.cycle l, x.stamp, status⟩] })
  match p.2 with
  | none => s.modWbe l (fun w => { w with relays := w.relays.map (fun y => if y.key == some x.key then { y with also := x.also } else y) })
  | some r => (s.answerOwns l x r).answerLate l x.key r x.mask

/-- An item placed in a list ordered by `before`, after its equals. -/
def insertBy {α : Type} (before : α → α → Bool) (x : α) : List α → List α
  | [] => [x]
  | y :: r => if before y x then y :: insertBy before x r else x :: y :: r

/-- A list in the order of `before`, equals in the order they stand. -/
def sortBy {α : Type} (before : α → α → Bool) (xs : List α) : List α := xs.foldl (fun r x => insertBy before x r) []

/-- The order of effect of agreed waybills (R98). -/
def VWaiting.before (a b : VWaiting) : Bool := stampBefore a.stamp a.lane b.stamp b.lane

/-- The digest after the waybills agreed at an evaluation point, in their order: the check field of each (R91). -/
def digestStep (d : Nat) (crcs : List Nat) : Nat := if crcs.isEmpty then d else shakeNat (toLe 8 d ++ crcs.flatMap (toLe 4)) 8

/-! ### Evaluation points (R95) -/

/-- The keys with copies in the record, in order of their first copy, less those agreed. -/
def Vot.openKeys (v : Vot) : List VKey :=
  (v.copies.foldl (fun ks c => if ks.contains c.key then ks else ks ++ [c.key]) []).filter
    (fun k => (v.agreedOf k).isNone && (v.waitingOf k).isNone)

/-- The keys judged one by one: what is agreed, with the copy of each that enters the digest. -/
def State.judgeAll (s : State) (l : LaneId) (now : Nat) (urgent : Bool) : List VKey → State × List (VWaiting × VCopy)
  | [] => (s, [])
  | k :: ks =>
    match s.judge l now urgent k with
    | .fail => (s.failKey l k).judgeAll l now urgent ks
    | .stale => (s.failStale l k (fun c => s.overdue l c || (s.copyOver l c && !(s.lane l).vot.windows.any (fun x => x.key == k)))).judgeAll
        l now urgent ks
    | .wait none => s.judgeAll l now urgent ks
    | .wait (some n) =>
      (s.modVot l (fun v => { v with windows := if v.windows.any (fun x => x.key == k) then v.windows else v.windows ++ [⟨k, n⟩] })).judgeAll
        l now urgent ks
    | .agree c =>
      let p := s.agreeKey l now k c
      let q := p.1.judgeAll l now urgent ks
      (q.1, (p.2.1, p.2.2) :: q.2)

/-- Keys held longer than `AGREED_HOLD` cycles forgotten (R100). -/
def State.forgetAgreed (s : State) (l : LaneId) : State :=
  s.modVot l (fun v => { v with agreed := v.agreed.filter (fun a => decide (s.cycle l ≤ a.cycle + s.rd l.reg VOT_AGREED_HOLD)) })

/-- `VOT.STATE` (R103, R108). -/
def State.showVote (s : State) (l : LaneId) : State :=
  s.wr l.reg VOT_STATE 0 (if s.votDiffers l then 2 else b2n (s.voting l l))

/-- An evaluation point of a lane at package time `t` (R91, R95 to R103). -/
def State.evaluate (s : State) (l : LaneId) (t : Nat) (urgent : Bool) : State :=
  if !s.synced l ∨ s.vstate l > 2 ∨ s.rdB l.reg VOT_LOCAL then s
  else
    let s := (s.forgetAgreed l).showVote l
    let p := s.judgeAll l (s.twlTime l t) urgent (s.lane l).vot.openKeys
    let done := sortBy (fun a b => a.1.before b.1) p.2
    let u := LaneId.all.foldl (fun s x => s.degrade l x) p.1
    let s := u.wr l.reg VOT_DIGEST 0
      (digestStep (u.rd l.reg VOT_DIGEST) (done.map (fun x => (Waybill.parse x.2.raw).crc)))
    done.foldl (fun s x => if x.1.at' = 0 then s.voteEffect l x.1
      else s.modVot l (fun v => { v with waiting := v.waiting ++ [x.1] })) s

/-! ### Commit instants (R51, R58, R97) -/

/-- A held waybill taking effect in the lane, or a COMMIT its consist; a consist gone meanwhile answers RANGE at the consist ID
(R51, R58; the status is DESIGN CHOICE, log 60). -/
def State.heldRun (s : State) (l : LaneId) (e : HeldWb) : State × Option Rsp :=
  match e.op with
  | .commit => match s.consist l e.hdr.port e.hdr.consist with
    | some c => s.commitSend l e.hdr c 0 none (some e.hdr)
    | none => (s, some (rRange 0 6))
  | op => s.runOp l e.hdr op 0 none (some e.hdr)

/-- A held waybill at its instant, with its final answer unless M or S is to give it (R42, R51, R58). -/
def State.heldEffect (s : State) (l : LaneId) (e : HeldWb) : State :=
  let p := s.heldRun l e
  match p.2 with
  | some r => p.1.answer l e.hdr (opcodeOf e.op) r true false 0
  | none => p.1

/-- The lanes that hold a copy matching the own copy under a header: of those in the record, or of those agreed (R41). -/
def State.ownMask (s : State) (l : LaneId) (h : Hdr) : Nat :=
  let v := (s.lane l).vot
  match v.waiting.find? (fun w => w.owns.contains h) with
  | some w => w.mask
  | none => match v.copies.find? (fun c => c.own == some h) with
    | some c => copyMask (v.copies.filter (fun d => c.like d))
    | none => 0

/-- A held waybill discarded because its instant lies beyond the horizon after a resynchronisation (R51), with the lanes that hold a copy
matching a VOTED one (R41). An own VOTED copy not yet agreed has its final reply with this, and R51 does not say whether it still
counts: the model leaves it in the vote record, where it can be agreed and take effect as a copy of a peer does (DESIGN CHOICE, log
73). -/
def State.heldGone (s : State) (l : LaneId) (e : HeldWb) : State :=
  let mask := if e.voted then s.ownMask l e.hdr else 0
  let s := match e.op with
    | .commit => match s.consist l e.hdr.port e.hdr.consist with
      | some c => s.failConsist l c (rRange 0 12)
      | none => s
    | _ => s
  let s := if e.voted then s.modVot l (fun v => { v with
      copies := v.copies.map (fun c => if c.own == some e.hdr then { c with own := none } else c) }) else s
  s.answer l e.hdr (opcodeOf e.op) (rRange 0 12) true false mask

/-- An instant that lies beyond the horizon (R51). -/
def State.beyond (s : State) (l : LaneId) (n : Nat) : Bool :=
  !s.cycleDue l n && decide ((n + 2 ^ 32 - s.cycle l % 2 ^ 32) % 2 ^ 32 > s.rd l.reg WBE_COMMIT_HORIZON)

/-- The first cycle start after a resynchronisation: what waits for an instant beyond the horizon is discarded, in the commit queue
and in the vote record (R51). -/
def State.resyncQueue (s : State) (l : LaneId) : State :=
  if !s.rdB l.reg WBE_RESYNC then s
  else
    let gone := (s.lane l).wbe.commitQ.filter (fun e => s.beyond l e.at')
    let u := (s.wr l.reg WBE_RESYNC 0 0).modWbe l (fun x => { x with commitQ := x.commitQ.filter (fun e => !s.beyond l e.at') })
    (gone.foldl (fun s e => s.heldGone l e) u).modVot l (fun v => { v with waiting := v.waiting.filter (fun w => !s.beyond l w.at') })

/-- Cycle number `a` is not after `b` (R50). -/
def cycleLe (a b : Nat) : Bool := decide ((b + 2 ^ 32 - a % 2 ^ 32) % 2 ^ 32 < 2 ^ 31)

/-- A held waybill that comes before an agreed one: by N, then by its acceptance (R51, R58). Which acceptance orders an agreed waybill
against an unvoted one the manual does not say; the model takes the time of the earliest copy of the agreed group, by which R98 orders
the agreed ones (DESIGN CHOICE, log 73). -/
def heldFirst (e : HeldWb) (w : VWaiting) : Bool :=
  if e.at' % 2 ^ 32 = w.at' % 2 ^ 32 then decide (e.stamp ≤ w.stamp) else cycleLe e.at' w.at'

/-- Held and agreed waybills in one order; each kind keeps its own. -/
def mergeDue : List HeldWb → List VWaiting → List (HeldWb ⊕ VWaiting)
  | [], ws => ws.map .inr
  | e :: es, ws =>
    let p := ws.span (fun w => !heldFirst e w)
    p.1.map .inr ++ .inl e :: mergeDue es p.2

/-- What is due at a cycle start: unvoted held waybills by their instant and their acceptance, agreed ones by their instant and the
order of R98, in one order (R51, R58). -/
def State.dueNow (s : State) (l : LaneId) : List (HeldWb ⊕ VWaiting) :=
  mergeDue (sortBy (fun a b => cycleLe a.at' b.at') ((s.lane l).wbe.commitQ.filter (fun e => !e.voted && s.cycleDue l e.at')))
    (sortBy (fun a b => cycleLe a.at' b.at') (sortBy VWaiting.before ((s.lane l).vot.waiting.filter (fun w => s.cycleDue l w.at'))))

/-- One of them taking effect. -/
def State.dueEffect (s : State) (l : LaneId) : HeldWb ⊕ VWaiting → State
  | .inl e => s.heldEffect l e
  | .inr w => s.voteEffect l w

/-- The keys of which every copy's instant has come without agreement fail; of another key such copies fail alone (R60, R97). -/
def State.failOverdue (s : State) (l : LaneId) : State :=
  if s.rdB l.reg VOT_LOCAL then s
  else (s.lane l).vot.openKeys.foldl (fun s k =>
    let cs := (s.lane l).vot.copies.filter (fun c => c.key == k)
    if cs.isEmpty then s else if cs.all (s.overdue l) then s.failKey l k else if cs.any (s.overdue l) then s.failStale l k (s.overdue l) else s) s

/-- What is due at a cycle start takes effect in its order, and what has not been agreed by its instant fails (R51, R58, R60, R97). -/
def State.commitInstant (s : State) (l : LaneId) : State :=
  if !s.synced l then s
  else
    let s := s.resyncQueue l
    let u := s.modWbe l (fun x => { x with commitQ := x.commitQ.filter (fun e => !(!e.voted && s.cycleDue l e.at')) })
    let u := u.modVot l (fun v => { v with waiting := v.waiting.filter (fun w => !s.cycleDue l w.at') })
    ((s.dueNow l).foldl (fun u x => u.dueEffect l x) u).failOverdue l

/-- COMMIT_INSTANT_REACHED (R58): the start of a cycle. -/
def execCommitInstantReached (l : LaneId) (s : State) : Host.Outcome State Fault Refusal :=
  .next (s.whenHost l (fun s => s.commitInstant l))

/-! ### The local stop (R381) -/

/-- A VOTED waybill in a local stop: own copies of STEER_TARGET, BRAKE_DEMAND and HOLD wait for the next local cycle start,
the others fail. -/
def State.voteLocal (s : State) (l : LaneId) (h : Hdr) (op : Op) : State :=
  let oc := opcodeOf op
  if oc = 0x0201 ∨ oc = 0x0202 ∨ oc = 0x0203 then
    ((s.modVot l (fun v => { v with loc := v.loc ++ [⟨h, op, 0, true, 0⟩] })).countRx l h).answer l h oc rVotePending false true (setBit 0 l.idx)
  else s.answer l h oc rVoteFailed true false (setBit 0 l.idx)

/-- The own copies of a local stop taking effect at a local cycle start. -/
def State.applyLocal (s : State) (l : LaneId) : State :=
  let es := (s.lane l).vot.loc
  let s := s.modVot l (fun v => { v with loc := [] })
  es.foldl (fun s e =>
    let p := s.runOp l e.hdr e.op (setBit 0 l.idx) none (some e.hdr)
    p.1.answer l e.hdr (opcodeOf e.op) (p.2.getD rOk) true false (setBit 0 l.idx)) s

end Sys2Proof.Machine
end

