-- ==== Sys2Proof/Machine/Peers.lean ====
section
/-! DEFINITION. What a lane hears of its peers and of S in every period: exchange frames and S echoes, missing and lost peers
with their classification, the heard mask, the frame a lane sends, the comparison of the command digests (R88 to R92). -/

namespace Sys2Proof.Machine

open Par Var

/-! ### The comparison of digests (R92) -/

/-- The digest of a lane as it is compared: a peer's from its frame of this cycle, the lane's own as it stands when the last of those
frames arrives. R92 does not say which D of its own a lane takes (DESIGN CHOICE, log 63). -/
def State.digestOf (s : State) (l x : LaneId) : Nat := if x = l then s.rd l.reg VOT_DIGEST else s.rd l.reg VOT_DIG_VAL x.reg

/-- The digests compared once the frame of every other voting lane has come: the lane in the minority, and the
higher-lettered of two, leave as source 11 orders; three different ones are a stop cause (R92, R368). A lane in shadow only
notes a difference (R128). -/
def State.digestJudge (s : State) (l : LaneId) : State :=
  let ps := s.otherVoting l
  if ps.isEmpty ∨ !ps.all (fun p => s.rdB l.reg VOT_DIG_DONE p.reg) then s
  else
    let own := s.digestOf l l
    let diff := ps.filter (fun p => s.digestOf l p != own)
    if s.vstate l = 0 then (if diff.isEmpty then s else s.wr l.reg STF_SHADOW_BAD 0 1)
    else if !s.voting l l ∨ diff.isEmpty then s
    else match ps with
      | [p, q] =>
        if diff.length < 2 then s
        else if s.digestOf l p = s.digestOf l q then s.raise l.reg 11
        else s.addStopCause l 2
      | [p] => if p.idx < l.idx then s.raise l.reg 11 else s
      | _ => s

/-- A peer's frame for the comparison: the first one received whose valley lies after the common sample instant. A frame
arrives at most 1.61 µs after its valley and the sample instants lie within 200 ns of one another, so one received more
than 2 µs after the lane's own sample instant has its valley after the peer's (R27, R86, R104, DEDUCED, log 46). The
comparison rests while a lane is unsynchronised or in a local stop (R381). -/
def State.digestTake (s : State) (l x : LaneId) (f : ExchFrame) (t : Nat) : State :=
  if s.synced l ∧ !s.rdB l.reg VOT_LOCAL ∧ f.cycle ≠ 0 ∧ !s.rdB l.reg VOT_DIG_DONE x.reg ∧ s.rdB l.reg VOT_SAMPLE_AT ∧
      t > s.rd l.reg VOT_SAMPLE_AT + 2000 then
    ((s.wr l.reg VOT_DIG_DONE x.reg 1).wr l.reg VOT_DIG_VAL x.reg f.digest).digestJudge l
  else s

/-! ### Frames and echoes received -/

/-- A frame of a peer kept as its latest, the one before it too. -/
def Vot.putFrame (v : Vot) (x : LaneId) (f : ExchFrame) : Vot :=
  match x with
  | .a => { v with prevA := v.frameA, frameA := some f }
  | .b => { v with prevB := v.frameB, frameB := some f }
  | .c => { v with prevC := v.frameC, frameC := some f }

/-- A peer's frame in a lane: kept, its windings noted, a listening lane hears it, its digest taken (R88, R92, R366,
R545, R564). -/
def State.hearFrame (s : State) (l x : LaneId) (f : ExchFrame) (t : Nat) : State :=
  let old := (((s.lane l).vot.frame x).map ExchFrame.active).getD 0
  let s := (s.modVot l (fun v => v.putFrame x f)).wr l.reg VOT_GOT x.reg 1
  let s := s.noteWindings l x old f.active
  (((s.hearRejoin l).confirmTrial l).staffReturn l).digestTake l x f t

/-- EXCH_FRAME_RECEIVE (R88). -/
def execExchFrameReceive (l : LaneId) (f : ExchFrame) (t : Nat) (s : State) : Host.Outcome State Fault Refusal :=
  .next ((s.atTime t).whenUp l (fun s => match LaneId.ofReg f.region with
    | some x => if x ≠ l ∧ s.hasRegion x.reg then s.hearFrame l x f t else s
    | none => s))

/-- S_ECHO_RECEIVE (R90). -/
def execSEchoReceive (l : LaneId) (e : SEcho) (t : Nat) (s : State) : Host.Outcome State Fault Refusal :=
  .next ((s.atTime t).whenUp l (fun s =>
    let s := s.modVot l (fun v => { v with echo := some e })
    ((s.wr l.reg VOT_ECHO_GOT 0 1).wr l.reg VOT_ECHO_AT 0 t).hearExcluded l e.excluded))

/-! ### The check of the peers at a compute start (R89, R90) -/

/-- The age of a lane's latest frame in an echo. -/
def echoAge (e : SEcho) : LaneId → Nat
  | .a => e.ageA | .b => e.ageB | .c => e.ageC

/-- The base period in ns. -/
def State.baseNs (s : State) (l : LaneId) : Nat := s.basePeriod l * 625 / 1000

/-- S heard a lane, as lane `l` knows at its compute start (R90). -/
def State.sHeard (s : State) (l y : LaneId) : Bool :=
  match (s.lane l).vot.echo with
  | some e => decide (s.now - s.rd l.reg VOT_ECHO_AT ≤ s.baseNs l) && decide (echoAge e y * 1000 < s.baseNs l + 2000)
  | none => false

/-- A peer LOST in a lane's view. -/
def State.markLost (s : State) (l y : LaneId) : State := s.wr l.reg VOT_LOST y.reg 1

/-- The lane leaves service because links to peers have failed, which it notes for its rejoin (R90). -/
def State.leaveByLink (s : State) (l : LaneId) (ys : List LaneId) : State :=
  (ys.foldl (fun s y => s.wrBit l.reg STF_LINK_OUT 0 y.idx true) s).leave l

/-- The classification of a silent peer (R89). Where the link between the two has failed the higher-lettered leaves; the
other then has it LOST (DEDUCED, log 47). -/
def State.classify (s : State) (l y : LaneId) (voters : List LaneId) : State :=
  let leaving := match (s.lane l).vot.frame y with
    | some f => f.vstate == 3
    | none => false
  let zs := voters.filter (fun z => z != y)
  let zHeard := zs.any (fun z => match (s.lane l).vot.frame z with
    | some f => bit f.heard y.idx
    | none => false)
  if leaving then s.markLost l y
  else if (zHeard ∨ (zs.isEmpty ∧ s.sHeard l y)) ∧ l.idx > y.idx then s.leaveByLink l [y]
  else s.markLost l y

/-- A peer at the check: heard since the last one, or MISSING for one more period (R89). One that is LOST is heard again by a
frame. -/
def State.checkPeer (s : State) (l p : LaneId) : State :=
  if s.rdB l.reg VOT_GOT p.reg then
    ((s.wr l.reg VOT_GOT p.reg 0).wr l.reg VOT_MISSING p.reg 0).wr l.reg VOT_LOST p.reg 0
  else (s.wr l.reg VOT_MISSING p.reg (s.rd l.reg VOT_MISSING p.reg + 1)).bump l.reg XLK_CNT_MISSING p.reg

/-- The heard mask of a period, with the S echo in bit 3 and M in bit 4 (R88, R90). -/
def State.heardMask (s : State) (l : LaneId) : Nat :=
  (s.peersOf l).foldl (fun m p => putBit m p.idx (s.rdB l.reg VOT_GOT p.reg)) 0 + 8 * b2n (s.rdB l.reg VOT_ECHO_GOT) +
    16 * b2n (!s.rdB l.reg INT_M_LOST)

/-- The peers that have been silent for `DOWN_LIMIT` periods and showed themselves voting last, those classified LOST meanwhile among
them (R90). -/
def State.cutOff (s : State) (l : LaneId) : List LaneId :=
  (s.peersOf l).filter (fun p => s.rdB l.reg VOT_MISSING p.reg && decide (s.rd l.reg VOT_MISSING p.reg ≥ s.rd l.reg XLK_DOWN_LIMIT) &&
    !s.exclSeen l p && (match (s.lane l).vot.frame p with
      | some f => f.vstate == 1 || f.vstate == 2
      | none => false))

/-- The check of the peers at a compute start: the heard mask, MISSING periods, and the classification after `DOWN_LIMIT`
of them; a lane cut off from two voting peers that S heard leaves (R89, R90). The table of R89 asks for a peer's last frame: one that has
sent none since the lane's reset is MISSING and is not classified (DEDUCED, log 63). -/
def State.peerCheck (s : State) (l : LaneId) : State :=
  let s := s.wr l.reg XLK_HEARD 0 (s.heardMask l)
  let s := (s.wr l.reg VOT_ECHO_MISS 0 (if s.rdB l.reg VOT_ECHO_GOT then 0 else s.rd l.reg VOT_ECHO_MISS + 1)).wr l.reg VOT_ECHO_GOT 0 0
  let s := (s.peersOf l).foldl (fun s p => s.checkPeer l p) s
  let silent := (s.peersOf l).filter (fun p =>
    !s.rdB l.reg VOT_LOST p.reg && ((s.lane l).vot.frame p).isSome && s.rdB l.reg VOT_MISSING p.reg && decide (s.rd l.reg VOT_MISSING p.reg ≥ s.rd l.reg XLK_DOWN_LIMIT))
  let voters := s.otherVoting l
  let cut := s.cutOff l
  if s.vstate l ≥ 3 then s
  else if cut.length ≥ 2 ∧ cut.all (fun z => s.sHeard l z) then s.leaveByLink l cut
  else silent.foldl (fun s y => s.classify l y voters) s

/-! ### The frame a lane sends (R88) -/

/-- A bit per bridge. -/
def bridgeMask (f : Nat → Bool) : Nat := (List.range 6).foldl (fun m b => putBit m b (f b)) 0

/-- The exchange frame of a lane, with the cycle and the digest as they stood at its valley (R88, R91). -/
def State.exchFrame (s : State) (l : LaneId) : ExchFrame :=
  { region := l.reg, vstate := s.vstate l, latched := s.rd l.reg FCL_LATCHED != 0, period := s.rd l.reg INT_PERIOD % 65536,
    cycle := s.rd l.reg VOT_VALLEY_CYC, heard := s.rd l.reg XLK_HEARD, mode := s.rd l.reg VOT_MODE, holder := s.rd l.reg STF_HOLDER,
    active := bridgeMask (fun b => s.rd l.reg CMT_STATE b == 2),
    idq := (List.range 6).flatMap (fun b => [sgn 16 (s.rd l.reg CMT_I_DQ b), sgn 16 (s.rd l.reg CMT_I_DQ b / 65536)]),
    angles := (List.range 6).map (fun b => s.rd l.reg OBS_ANGLE b), digest := s.rd l.reg VOT_VALLEY_DIG,
    epoch := s.rd l.reg STF_EPOCH, angleValid := bridgeMask (fun b => s.rdB l.reg OBS_ANGLE_OK b),
    recon := bridgeMask (fun b => (s.bridge l b).recon) }

/-- The frame sent after a valley by a lane in shadow, standby, in service or leaving, with its own windings noted (R88, R117,
R125, R366). -/
def State.sendFrame (s : State) (l : LaneId) : State :=
  if s.vstate l > 3 then s
  else
    let f := s.exchFrame l
    let old := ((s.lane l).vot.own.map ExchFrame.active).getD 0
    let s := ((s.modVot l (fun v => { v with own := some f })).send (.exch f)).noteWindings l l old f.active
    if s.vstate l = 3 then s.wr l.reg INT_LEFT_FRAMES 0 (s.rd l.reg INT_LEFT_FRAMES + 1) else s

end Sys2Proof.Machine
end

