-- ==== Sys2Proof/Machine/Sampling.lean ====
section
/-! DEFINITION. Inputs sampled at the common instant: the INPUT message, the analog and discrete votes with their failures,
and the comparisons that travel with them (R103 to R107, R247, R283, R328, R360, R381). -/

namespace Sys2Proof.Machine

open Par Var

/-! ### The INPUT message (R104) -/

/-- The value of a source where it is valid; 0 names none. -/
def State.source (s : State) (l : LaneId) (id : Nat) : Option Int :=
  if id = 0 ∨ !s.srcValid l id then none else some (s.readInt id)

/-- The check of a controller's table goes with this cycle's INPUT message: it is due from the cycle after the commit on (R283). -/
def State.tblDue (s : State) (l : LaneId) (r : Nat) : Bool := s.rdB l.reg RPC_PEND r && s.rd l.reg RPC_PEND_CYC r != s.cycle l

/-- The lane's own INPUT message (R104, R247, R283, R328, R360, R522). -/
def State.inputMsg (s : State) (l : LaneId) : InputMsg :=
  { lane := l, cycle := s.cycle l,
    an := (List.range 8).map (fun i => s.source l (s.rd l.reg VOT_AN_SRC i)),
    ref := (List.range 8).map (fun i => s.source l (s.rd l.reg VOT_AN_REF i)),
    di := (List.range 32).map (fun d =>
      let id := s.rd l.reg VOT_DI_SRC d
      if id = 0 ∨ !s.srcValid l id then none else some (bit (s.readId id) (s.rd l.reg VOT_DI_BIT d))),
    outCrc := s.rd l.reg CEN_OUT_SNAP,
    tblCrc := (List.range 8).map (fun r => if s.tblDue l r then some (s.rd l.reg RPC_TBL_CRC r) else none),
    wrCount := s.rd l.reg SDC_SMP_COUNT, tblDigest := s.rd l.reg SDC_SMP_DIGEST,
    sioIn := s.rd l.reg SIO_IN, sioHave := s.rd l.reg SIO_HAVE, sioDisc := s.rd l.reg SIO_DISC, sioFault := s.sioFaults l, hs := s.rd l.reg PWR_HS_RESULT }

/-- An INPUT message in the place of an older one of its lane. -/
def Vot.putInput (v : Vot) (m : InputMsg) : Vot := { v with inputs := v.inputs.filter (fun x => x.lane != m.lane) ++ [m] }

/-- The INPUT message formed and sent to both peers by every synchronised lane; checks of tables due are sent with it. Messages of the
cycle before stay until newer ones replace them. -/
def State.sendInput (s : State) (l : LaneId) : State :=
  if !s.synced l then s
  else
    let m := s.inputMsg l
    let s := (List.range 8).foldl (fun s r => if s.tblDue l r then s.wr l.reg RPC_PEND_SENT r 1 else s) s
    (s.modVot l (fun v => { v with inputs := v.inputs.filter (fun x => (x.cycle == m.cycle || nextCycle x.cycle == m.cycle) && x.lane != l) ++ [m] })).send (.input m)

/-- INPUT_RECEIVE (R104). -/
def execInputReceive (l : LaneId) (m : InputMsg) (s : State) : Host.Outcome State Fault Refusal :=
  .next (s.whenUp l (fun s => if m.lane = l ∨ !s.hasRegion m.lane.reg then s else s.modVot l (fun v => v.putInput m)))

/-- The messages of the present cycle of the voting lanes. -/
def State.votedInputs (s : State) (l : LaneId) : List InputMsg :=
  (s.votingLanes l).filterMap (fun x => (s.lane l).vot.inputs.find? (fun m => m.lane == x && m.cycle == s.cycle l))

/-! ### Failures (R106, R107) -/

/-- A value failed in a set until the next start (R106, R476). -/
def State.anFail (s : State) (l : LaneId) (i : Nat) (x : LaneId) : State :=
  (s.wrBit l.reg VOT_AN_STATE i x.idx true).raise l.reg 15

/-- A lane's value has failed in an analog set. -/
def State.anFailed (s : State) (l : LaneId) (i : Nat) (x : LaneId) : Bool := bit (s.rd l.reg VOT_AN_STATE i) x.idx

/-- One cycle of a persistence count of an analog set: counted where it hits, back to 0 otherwise; the value fails at
`AN_PERSIST` (R106). -/
def State.anStep (s : State) (l : LaneId) (d : PDesc) (i : Nat) (x : LaneId) (hit : Bool) : State :=
  let k := 8 * x.idx + i
  let n := s.rd l.reg d k + 1
  if !hit then s.wr l.reg d k 0
  else if n ≥ s.rd l.reg VOT_AN_PERSIST i then (s.wr l.reg d k 0).anFail l i x
  else s.wr l.reg d k n

/-- The values of an analog set that are valid and have not failed. -/
def State.usable (s : State) (l : LaneId) (i : Nat) (vs : List (LaneId × Option Int)) : List (LaneId × Int) :=
  vs.filterMap (fun p => if s.anFailed l i p.1 then none else p.2.map (fun v => (p.1, v)))

/-- A distance larger than a limit. -/
def apart (a b : Int) (lim : Nat) : Bool := decide ((a - b).natAbs > lim)

/-- The failures of an analog set in a cycle: invalid values; outliers of three; of two that disagree the one outside the
tolerance of the reference (R106). Where both lie outside it the rule names no one value, and neither fails (DESIGN CHOICE, log 63). -/
def State.anFailures (s : State) (l : LaneId) (i : Nat) (vs : List (LaneId × Option Int)) (ref : Option Int) : State :=
  let diff := s.rd l.reg VOT_AN_DIFF i
  let tol := s.rd l.reg VOT_AN_OBS_TOL i
  let s := vs.foldl (fun s p => if s.anFailed l i p.1 then s else s.anStep l VOT_AN_INV i p.1 p.2.isNone) s
  let us := s.usable l i vs
  let med := (medianOf (us.map (fun p => p.2))).getD 0
  let s := vs.foldl (fun s p =>
    if s.anFailed l i p.1 then s
    else s.anStep l VOT_AN_OUT i p.1 (us.length == 3 && us.any (fun u => u.1 == p.1 && apart u.2 med diff))) s
  let us := s.usable l i vs
  let out := us.filter (fun u => match ref with
    | some r => apart u.2 r tol
    | none => false)
  let two := match us with
    | [a, b] => apart a.2 b.2 diff && out.length == 1
    | _ => false
  vs.foldl (fun s p => if s.anFailed l i p.1 then s
    else s.anStep l VOT_AN_REFO i p.1 (two && out.any (fun u => u.1 == p.1))) s

/-! ### The analog vote (R105) -/

/-- The result of an analog vote: value, method code, validity, REF_DISAGREE, and whether the last result was held. -/
structure AnResult where
  val : Int
  method : Nat
  valid : Bool
  disagree : Bool
  held : Bool
deriving DecidableEq, Repr

/-- The analog vote over usable values. `ref` is the reference where it is valid, `none'` that no reference is configured,
`last` the last result, `heldOk` that it may be held once more. -/
def anVote (vs : List Int) (diff tol : Nat) (ref : Option Int) (none' : Bool) (last : Int) (heldOk : Bool) : AnResult :=
  let near : Int → Bool := fun v => match ref with
    | some r => !apart v r tol
    | none => false
  match vs with
  | [] => ⟨last, 3, false, false, false⟩
  | [a] => if none' || near a then ⟨a, 2, true, false, false⟩ else ⟨last, 3, false, false, false⟩
  | [a, b] =>
    if !apart a b diff then
      let m := (a + b) / 2
      ⟨m, 1, true, ref.isSome && !near m, false⟩
    else if near a && !near b then ⟨a, 2, true, false, false⟩
    else if near b && !near a then ⟨b, 2, true, false, false⟩
    else ⟨last, 3, heldOk, false, true⟩
  | a :: b :: c :: _ => ⟨(medianOf [a, b, c]).getD 0, 0, true, false, false⟩

/-- An analog set formed from the values of lanes, its failures judged where `judge`; a set not in use keeps what has failed in it until
the next start (R105, R106). -/
def State.anSet (s : State) (l : LaneId) (i : Nat) (vs : List (LaneId × Option Int)) (refs : List Int) (judge : Bool) : State :=
  if s.rd l.reg VOT_AN_SRC i = 0 then s.wr l.reg VOT_AN_STATE i (s.rd l.reg VOT_AN_STATE i % 8)
  else
    let ref := if s.rd l.reg VOT_AN_REF i = 0 then none else medianOf refs
    let wasValid := bit (s.rd l.reg VOT_AN_STATE i) 8
    let s := if judge then s.anFailures l i vs ref else s
    let us := s.usable l i vs
    let held := s.rd l.reg VOT_AN_HOLD i + 1
    let r := anVote (us.map (fun p => p.2)) (s.rd l.reg VOT_AN_DIFF i) (s.rd l.reg VOT_AN_OBS_TOL i) ref
      (s.rd l.reg VOT_AN_REF i == 0) (s.rdI l.reg VOT_AN_VALUE i) (wasValid && decide (held ≤ s.rd l.reg VOT_AN_PERSIST i))
    let mask := us.foldl (fun m p => setBit m p.1.idx) 0
    let s := (s.wrI l.reg VOT_AN_VALUE i r.val).wr l.reg VOT_AN_HOLD i (if r.held then held else 0)
    s.wr l.reg VOT_AN_STATE i (s.rd l.reg VOT_AN_STATE i % 8 + mask * 8 + r.method * 64 + 256 * b2n r.valid + 512 * b2n r.disagree)

/-! ### The discrete vote (R107) -/

/-- A lane's bit has failed in a discrete set. -/
def State.diFailed (s : State) (l : LaneId) (d : Nat) (x : LaneId) : Bool := bit (s.rd l.reg VOT_DI_FAILED x.reg) d

/-- The discrete vote over valid bits; `one` that a single bit decides (R107). -/
def diVote (bs : List Bool) (safe one : Bool) : Bool :=
  match bs with
  | [] => safe
  | [a] => if one then a else safe
  | [a, b] => if a == b then a else safe
  | a :: b :: c :: _ => (a && b) || (a && c) || (b && c)

/-- A discrete set formed from the bits of lanes; one outvoted of three for `DI_PERSIST` cycles fails (R107). -/
def State.diSet (s : State) (l : LaneId) (d : Nat) (vs : List (LaneId × Option Bool)) (judge : Bool) : State :=
  if s.rd l.reg VOT_DI_SRC d = 0 then s
  else
    let m := s.rd l.reg VOT_MODE
    let us := vs.filterMap (fun p => if s.diFailed l d p.1 then none else p.2.map (fun v => (p.1, v)))
    let r := diVote (us.map (fun p => p.2)) (s.rdB l.reg VOT_DI_SAFE d) (m == 2 || m == 3)
    let s := if judge then
        vs.foldl (fun s p =>
          let k := 32 * p.1.idx + d
          let n := s.rd l.reg VOT_DI_OUT k + 1
          if !(us.length == 3 && us.any (fun u => u.1 == p.1 && u.2 != r)) then s.wr l.reg VOT_DI_OUT k 0
          else if n ≥ s.rd l.reg VOT_DI_PERSIST d then
            ((s.wr l.reg VOT_DI_OUT k 0).wrBit l.reg VOT_DI_FAILED p.1.reg d true).raise l.reg 15
          else s.wr l.reg VOT_DI_OUT k n) s
      else s
    s.wrBit l.reg VOT_DI_VALUE 0 d r

/-! ### All sets (R103 to R107, R381) -/

/-- Some set shows REF_DISAGREE: source 16 is held while one does (R105). -/
def State.refDisagree (s : State) (l : LaneId) : State :=
  if (List.range 8).any (fun i => bit (s.rd l.reg VOT_AN_STATE i) 9) then s.raise l.reg 16 true else s.release l.reg 16

/-- Every set formed from the INPUT messages of the voting lanes of the cycle; while their VOT sets differ every set is invalid
(R103, R104). -/
def State.voteSets (s : State) (l : LaneId) : State :=
  if s.votDiffers l then s.setsInvalid l
  else
    let ms := s.votedInputs l
    let lanes := s.votingLanes l
    let of' : LaneId → Option InputMsg := fun x => ms.find? (fun m => m.lane == x)
    let s := (List.range 8).foldl (fun s i =>
      s.anSet l i (lanes.map (fun x => (x, (of' x).bind (fun m => m.an.getD i none)))) (ms.filterMap (fun m => m.ref.getD i none)) true) s
    let s := (List.range 32).foldl (fun s d =>
      s.diSet l d (lanes.map (fun x => (x, (of' x).bind (fun m => m.di.getD d none)))) true) s
    s.refDisagree l

/-- Every set formed from the lane's own value in a local stop (R381). -/
def State.voteOwn (s : State) (l : LaneId) : State :=
  let m := s.inputMsg l
  let s := (List.range 8).foldl (fun s i => s.anSet l i [(l, m.an.getD i none)] ([m.ref.getD i none].filterMap id) false) s
  let s := (List.range 32).foldl (fun s d => s.diSet l d [(l, m.di.getD d none)] false) s
  s.refDisagree l

/-- The failed lanes of a discrete set as a mask. -/
def State.diMask (s : State) (l : LaneId) (d : Nat) : Nat :=
  LaneId.all.foldl (fun m x => putBit m x.idx (s.diFailed l d x)) 0

/-- The values of an analog set that its result was formed from (R105). -/
def State.anUsable (s : State) (l : LaneId) (i : Nat) : Nat :=
  let m := s.rd l.reg VOT_AN_STATE i / 8
  b2n (bit m 0) + b2n (bit m 1) + b2n (bit m 2)

/-- The bits of a discrete set that are valid in the present cycle and have not failed (R107). -/
def State.diValid (s : State) (l : LaneId) (d : Nat) : Nat :=
  ((s.votedInputs l).filter (fun m => (m.di.getD d none).isSome && !s.diFailed l d m.lane)).length

/-- A critical set left short: one of its values failed, and fewer than two usable values or valid bits are left (R368). -/
def State.criticalShort (s : State) (l : LaneId) : Bool :=
  (List.range 8).any (fun i => s.rdB l.reg VOT_AN_SRC i && bit (s.rd l.reg VOT_AN_CRIT) i &&
      s.rd l.reg VOT_AN_STATE i % 8 != 0 && decide (s.anUsable l i < 2)) ||
    (List.range 32).any (fun d => s.rdB l.reg VOT_DI_SRC d && bit (s.rd l.reg VOT_DI_CRIT) d &&
      s.diMask l d != 0 && decide (s.diValid l d < 2))

/-- Fewer than two host networks are countable after one has been degraded, and one copy is not enough (R102, R368). -/
def State.networksShort (s : State) (l : LaneId) : Bool :=
  s.rd l.reg VOT_NET_STATE != 0 && decide (((s.votingLanes l).filter (fun x => s.countable l x)).length < 2) && !s.oneCopy l

/-- The stop causes a voted result brings (R367, R368, R372). -/
def State.votedCauses (s : State) (l : LaneId) : State :=
  if !s.voting l l ∨ s.lanesOf.length < 2 then s
  else
    let s := if s.criticalShort l then s.addStopCause l 0 else s
    if s.networksShort l then s.addStopCause l 1 else s

/-! ### Comparisons that travel with the message -/

/-- The output checks of the voting lanes compared: the lane that two others outvote for two cycles leaves by source 10; of
two that differ the higher-lettered (R247). -/
def State.outCompare (s : State) (l : LaneId) : State :=
  let ms := s.votedInputs l
  let own := s.rd l.reg CEN_OUT_SNAP
  let others := ms.filter (fun m => m.lane != l)
  let bad : Bool := match others with
    | [p, q] => p.outCrc == q.outCrc && p.outCrc != own
    | [p] => (s.otherVoting l).length == 1 && p.outCrc != own && decide (p.lane.idx < l.idx)
    | _ => false
  if !s.voting l l ∨ !bad then s.wr l.reg CEN_OUT_DIFF l.reg 0
  else
    let n := s.rd l.reg CEN_OUT_DIFF l.reg + 1
    if n ≥ 2 then (s.wr l.reg CEN_OUT_DIFF l.reg 0).raise l.reg 10 else s.wr l.reg CEN_OUT_DIFF l.reg n

/-- The table checks of the controllers compared (R283). -/
def State.tablesCompare (s : State) (l : LaneId) : State :=
  let ms := s.votedInputs l
  (List.range 8).foldl (fun s r =>
    let vs := ms.filterMap (fun m => m.tblCrc.getD r none)
    s.rpcCompare l r (vs.all (fun v => v == s.rd l.reg RPC_TBL_CRC r))) s

/-- The compare tables compared (R328). -/
def State.sectionsCompare (s : State) (l : LaneId) : State :=
  s.sdcCompare l (((s.votedInputs l).filter (fun m => m.lane != l)).map (fun m => (m.lane, m.wrCount, m.tblDigest)))

/-- The 5 µs after a common sample instant have passed: every set is formed in every synchronised lane; in those that take part the
messages are compared and channels aligned (R104, R247, R283, R314, R328, R368). -/
def State.inputDeadline (s : State) (l : LaneId) : State :=
  if !s.synced l ∨ s.rdB l.reg VOT_LOCAL then s
  else if s.vstate l > 2 then (s.showVote l).voteSets l
  else
    let s := ((s.showVote l).voteSets l).votedCauses l
    let s := ((s.outCompare l).tablesCompare l).sectionsCompare l
    let s := s.alignToSet l
    if s.vstate l = 0 ∧ !s.setsValid l then s.wr l.reg STF_SHADOW_BAD 0 1 else s

/-- INPUT_VOTE_DEADLINE (R104). -/
def execInputVoteDeadline (l : LaneId) (s : State) : Host.Outcome State Fault Refusal :=
  .next (s.whenUp l (fun s => s.inputDeadline l))

end Sys2Proof.Machine
end

