-- ==== Sys2Proof/Machine/Instants.lean ====
section
/-! DEFINITION. The instants at which a lane acts: load points and compute starts of the PWM period, the three events of a
Towline cycle and of a local cycle, the application of a trip (R27, R28, R154, R156, R241, R357, R399, R601). -/

namespace Sys2Proof.Machine

open Par Var

/-! ### Load points (R27, R28, R208, R306) -/

/-- The number of the base period whose valley lies at package time `t`: the valley of base period 0 is targeted at the cycle
start plus `PWM_PHASE`, and a valley lies within 100 ns of its target (R154). -/
def State.basePeriodAt (s : State) (l : LaneId) (t : Nat) : Nat :=
  let p := s.basePeriod l * 625
  let x : Int := ((t : Int) - (s.rd l.reg INT_CYCLE_START : Int)) * 1000 - (s.rd l.reg CMT_PWM_PHASE * 625 : Nat)
  let n : Int := (2 * x + p) / (2 * p : Nat)
  (n % (s.basesPerCycle l : Int)).toNat

/-- What a base valley begins in the lane die: the period count, the number of the base period, the cycle and the digest the frame
of the period carries, an event of the trace (R88, R91, R154, R258). -/
def State.beginPeriod (s : State) (l : LaneId) (t : Nat) : State :=
  let s := (s.wr l.reg VOT_VALLEY_CYC 0 (s.cycle l)).wr l.reg VOT_VALLEY_DIG 0 (s.rd l.reg VOT_DIGEST)
  let s := ((s.wr l.reg INT_PERIOD 0 (s.rd l.reg INT_PERIOD + 1)).wr l.reg INT_VALLEY_AT 0 t).wr l.reg CEN_BP 0 (s.basePeriodAt l t)
  s.trcEvent l 1 0

/-- A value of CMT that a commit has replaced stays in force past this base valley: it is a value of bridges none of which has its own valley
here (R181). -/
def State.staysOld (s : State) (l : LaneId) (k : PKey) : Bool :=
  (List.range 6).all (fun b => !ofBridge k b || s.ownPoint l b false != some true)

/-- The values that commits have replaced since, dropped at a valley from which the new ones take effect (R181). -/
def State.dropOld (s : State) (l : LaneId) : State :=
  s.modLane l (fun x => { x with cmtOld := x.cmtOld.filter (fun e => s.staysOld l e.1) })

/-- A bridge with its switches off, which is tracked at every base valley (R199). -/
def State.trackedB (s : State) (l : LaneId) (b : Nat) : Bool :=
  let st := s.rd l.reg CMT_STATE b
  st == 0 || st == 1 || st == 3

/-- What the power die does at a base valley or peak: each bridge with a load point there, samples for the tracking of the others (R199, R204,
R208). -/
def State.powerPoints (s : State) (l : LaneId) (peak : Bool) (smp : List BridgeSample) (t : Nat) : State :=
  if !s.on l.pow then s
  else smp.foldl (fun s x =>
    match s.ownPoint l x.b peak with
    | some valley => s.loadPoint l x valley t
    | none => if !peak ∧ s.trackedB l x.b then s.trackSample l x else s) s

/-- A base valley or peak: in a lane die that runs the period begins at the valley; samples are taken and duty loaded in the power die, which
needs no lane die for it; FBI latches (R27, R28, R204, R208, R306). -/
def State.loadPoints (s : State) (l : LaneId) (peak : Bool) (smp : List BridgeSample) (sc : List SinCos) (t : Nat) : State :=
  let s := s.whenUp l (fun s =>
    let s := s.wrB l.reg CMT_PEAK 0 peak
    if peak then s else (s.beginPeriod l t).dropOld l)
  let s := s.powerPoints l peak smp t
  s.whenUp l (fun s => if peak then s else s.fbiValley l (if s.on l.pow then sc else []) t)

/-- PWM_VALLEY (R27, R28). -/
def execPwmValley (l : LaneId) (peak : Bool) (smp : List BridgeSample) (sc : List SinCos) (t : Nat) (s : State) :
    Host.Outcome State Fault Refusal :=
  .next ((s.atTime t).loadPoints l peak smp sc t)

/-! ### Compute starts (R89, R156, R241, R254, R367) -/

/-- The check of the outputs as they stand at the compute start of the period after the reference period (R247). -/
def State.snapOutputs (s : State) (l : LaneId) : State :=
  if s.afterRef l then s.wr l.reg CEN_OUT_SNAP 0 (s.outCrc l) else s

/-- Targets and the controlled stop at a base period (R254, R374). -/
def State.stepTargets (s : State) (l : LaneId) : State :=
  let s := if s.rd l.reg CEN_BP = 0 then (s.targetsCycle l (fun t => s.stopHolds l t)).stopCycle l else s
  s.targetsUrgent l (s.rd l.reg INT_VALLEY_AT) (fun t => s.stopHolds l t)

/-- The mode evaluated; a change of it aborts a package change (R367, R522). -/
def State.modeStep (s : State) (l : LaneId) : State :=
  let m := s.rd l.reg VOT_MODE
  let s := s.modeCompute l
  if s.rd l.reg VOT_MODE = m then s else s.abortPackage l

/-- What a lane does at a compute start after a base valley, in the order of R156 and R241: a second transfer loaded, peers, targets, the input stage,
the drives, the mode, sections, trips sent again, the frame and the vote message. -/
def State.computeBase (s : State) (l : LaneId) : State :=
  let s := (((s.loadPending l).peerCheck l).snapOutputs l).stepTargets l
  let s := (s.cenInputs l).driveCompute l false
  let s := (s.modeStep l).sdcCompute l
  let s := (s.tripResend l).shadowCompute l
  (s.sendFrame l).sendVote l

/-- COMPUTE_START (R156): after a peak only the bridges with double update compute. -/
def execComputeStart (l : LaneId) (t : Nat) (s : State) : Host.Outcome State Fault Refusal :=
  .next ((s.atTime t).whenUp l (fun s =>
    let s := s.wr l.reg INT_COMP_AT 0 t
    if s.rdB l.reg CMT_PEAK then s.driveCompute l true else s.computeBase l))

/-- TRIP_APPLY (R357, R358): a noted trip of a function applied at its compute start; it aborts a package change (R522). -/
def execTripApply (l : LaneId) (func : Nat) (t : Nat) (s : State) : Host.Outcome State Fault Refusal :=
  .next ((s.atTime t).whenUp l (fun s =>
    let old := s.rd l.reg SIO_TRIP
    let s := s.tripApply l func
    if s.rd l.reg SIO_TRIP = old then s else s.abortPackage l))

/-! ### The events of a Towline cycle (R399) -/

/-- The state in which TWL raises synchronised events: SYNC, or LOCAL of the FJ-3821 (R399, R418). -/
def State.twlEvents (s : State) (l : LaneId) : Bool := s.synced l && (s.twlState l == 4 || s.twlState l == 6)

/-- The number of a cycle that starts: TWL's own count; where no network idle time has moved it on, the next number (R416,
R418). -/
def State.startingCycle (s : State) (l : LaneId) : Nat :=
  if s.rd l.reg TWL_C = s.rd l.reg TWL_CYCLE then nextCycle (s.rd l.reg TWL_CYCLE) else s.rd l.reg TWL_C

/-- A synchronised cycle starts: number and time; local cycles end; configurations compared, cartridge reports and wear taken, the
region epoch sent to M and S (R179, R456, R553, R555, R601). -/
def State.cycleBegins (s : State) (l : LaneId) (t : Nat) : State :=
  let c := s.startingCycle l
  let s := ((s.wr l.reg TWL_C 0 c).wr l.reg TWL_CYCLE 0 c).wr l.reg INT_CYCLE_START 0 t
  let s := if s.rdB l.reg VOT_LOCAL then (s.wr l.reg VOT_LOCAL 0 0).applyLocal l else s
  let s := (((s.trcEvent l 2 0).cfgCompare l).cartCycle l).lifeCycle l
  (s.sendEpoch ⟨l.region, .m⟩).sendEpoch ⟨l.region, .s⟩

/-- TOWLINE_CYCLE_START (R399). -/
def execTowlineCycleStart (l : LaneId) (t : Nat) (s : State) : Host.Outcome State Fault Refusal :=
  .next ((s.atTime t).whenUp l (fun s => if s.twlEvents l then s.cycleBegins l t else s))

/-- A common sample instant: the comparison of digests begins anew, RENEW, FBI latches and aligns, sections noted, the INPUT
message, URGENT copies evaluated (R92, R95, R104, R112, R306, R314, R328). -/
def State.sampleInstant (s : State) (l : LaneId) (t : Nat) : State :=
  let s := s.wr l.reg VOT_SAMPLE_AT 0 t
  let s := (s.peersOf l).foldl (fun s p => s.wr l.reg VOT_DIG_DONE p.reg 0) s
  let s := ((s.staffSample l t).fbiSample l t).alignTogether l
  let s := (s.sdcSample l).sendInput l
  s.evaluate l t true

/-- COMMON_SAMPLE_INSTANT (R104). -/
def execCommonSampleInstant (l : LaneId) (t : Nat) (s : State) : Host.Outcome State Fault Refusal :=
  .next ((s.atTime t).whenUp l (fun s => if s.twlEvents l then s.sampleInstant l t else s))

/-- A common latch instant: copies evaluated, a formed lane enters service, a reset by ACK, standing orders, the power
handshake (R95, R362, R438, R522, R565). -/
def State.latchInstant (s : State) (l : LaneId) (t : Nat) : State :=
  let s := (s.evaluate l t false).enterLatch l t
  let s := s.ackLatch l (s.twlTime l t)
  (s.ordersLatch l (s.cycle l)).powerLatch l

/-- COMMON_LATCH_INSTANT (R96). -/
def execCommonLatchInstant (l : LaneId) (t : Nat) (s : State) : Host.Outcome State Fault Refusal :=
  .next ((s.atTime t).whenUp l (fun s => if s.twlEvents l then s.latchInstant l t else s))

/-! ### Local cycles (R381, R601) -/

/-- The start of a local cycle: time and count; own copies of a local stop take effect (R381, R601). -/
def State.localBegins (s : State) (l : LaneId) (t : Nat) : State :=
  let s := (s.wr l.reg INT_CYCLE_START 0 t).wr l.reg TWL_LAST 0 (nextCycle (s.rd l.reg TWL_LAST))
  let s := (s.rxAges l).trcEvent l 2 0
  if s.rdB l.reg VOT_LOCAL then s.applyLocal l else s

/-- A local sample instant: RENEW, FBI latches; in a local stop every set is formed from the lane's own values (R381,
R601). -/
def State.localSample (s : State) (l : LaneId) (t : Nat) : State :=
  let s := (s.staffSample l t).fbiSample l t
  if s.rdB l.reg VOT_LOCAL then s.voteOwn l else s

/-- LOCAL_CYCLE_START (R601): an event of a local cycle of a lane that has lost synchronisation. -/
def execLocalCycleStart (l : LaneId) (e : TwlEvent) (t : Nat) (s : State) : Host.Outcome State Fault Refusal :=
  .next ((s.atTime t).whenUp l (fun s =>
    if s.synced l ∨ s.rd l.reg TWL_LAST = 0 then s
    else match e with
      | .cycleStart => s.localBegins l t
      | .sample => s.localSample l t
      | .latch => s.ordersMissed l (s.rd l.reg TWL_LAST)))

end Sys2Proof.Machine
end

