-- ==== Sys2Proof/Machine/Waybills.lean ====
section
/-! DEFINITION. The waybill engine: the input queue, the ordered acceptance checks, duplicates, what happens to an accepted
waybill, the duplicate record's expiry, the replay of standing orders (R39 to R51, R73 to R76, R381, R441, R442, R566). -/

namespace Sys2Proof.Machine

open Par Var

/-! ### Checks 1 to 7 (R39) -/

/-- Check 1: the transport length (R39). -/
def chkLength (raw : List Byte) : Option Rsp :=
  let n := fieldLe raw 10 2
  if n > 1024 then some (rBadLength raw.length 0) else failIf (raw.length != 20 + n) (rBadLength raw.length (20 + n))

/-- A waybill that fails check 1 or 2 (R39, R67). -/
def badAtOnce (raw : List Byte) : Bool :=
  (chkLength raw).isSome || (Waybill.parse raw).crc != (Waybill.parse raw).crcOf

/-- Check 3: version, reserved bits, LAST, IN_CONSIST, COMMIT and ABORT_CONSIST (R35, R36, R39). -/
def chkHeader (w : Waybill) : Option Rsp :=
  let inC := bit w.flags 1
  let last := bit w.flags 2
  firstFail [failIf (w.version != 2) (rRange 0 0), failIf (bits w.flags 7 5 != 0) (rRange 0 1), failIf (bits w.target 15 12 != 0) (rRange 0 8),
    failIf (last && w.opcode != 0x0104) (rRange 0 1), failIf (inC != (w.consist != 0)) (rRange 0 6),
    failIf (w.opcode == 0x0104 && !(inC && last)) (rRange 0 1), failIf (w.opcode == 0x0105 && !inC) (rRange 0 1)]

/-- Check 4: the target region and block (R2, R38). -/
def State.chkTarget (s : State) (l : LaneId) (w : Waybill) : Option Rsp :=
  let r := w.region
  let own := (r == l.reg || r == l.pow || r == 7 || r == 8) && s.hasRegion r
  failIf (!own || !blockIn r w.block || (r == 7 && !s.reaches l .m) || (r == 8 && !s.reaches l .s)) (rRange 0 8)

/-- What a port carries: from M only classes 0x08 and 0x09 and GET (R32), from CAN1 only GET and classes 0x03 and 0x08 (R73). -/
def portCarries (p : Port) (opcode : Nat) : Bool :=
  let c := opcode / 256
  match p with
  | .m => opcode == 0x0101 || c == 8 || c == 9
  | .can1 => opcode == 0x0101 || c == 3 || c == 8
  | _ => true

/-- Check 7: the port, the flags, and what a consist may hold (R32, R36, R48, R53, R73); SELFTEST_RUN says of VOTED by its kind: required
for ROLLING, not permitted for CONVERTER (R501). -/
def chkPort (h : Hdr) (op : Op) : Option Rsp :=
  let opcode := opcodeOf op
  firstFail [failIf (!portCarries h.port opcode) (rRange 0 2), flagCheck h opcode,
    match op with
    | .runRolling _ => failIf (!h.voted) (rRange 0 1)
    | .runConverter _ => failIf h.voted (rRange 0 1)
    | _ => none,
    failIf (if opcode = 0x0103 then !h.inConsist else h.inConsist && !ofConsist opcode) (rRange 0 1)]

/-- The item lengths of a SET or SET_STAGED (check 6, R64). -/
def opLength : Op → Option Rsp
  | .set is => firstOf itemLength is
  | .setStaged is => firstOf itemLength is
  | _ => none

/-- Checks 1 to 7 in their order: the operation, or the failure. A standing order's waybill starts at check 3 (R76). -/
def State.frontChecks (s : State) (l : LaneId) (p : Port) (w : Waybill) (h : Hdr) (raw : List Byte) : Except Rsp Op :=
  match firstFail [if p = .so then none else firstFail [chkLength raw, failIf ((Waybill.parse raw).crc != (Waybill.parse raw).crcOf) rBadCrc], chkHeader w, s.chkTarget l w,
      failIf (!opcodeIn w.opcode w.region w.block l.reg l.pow) rUnknown] with
  | some r => .error r
  | none =>
    match parseOp w.opcode w.params with
    | .error r => .error r
    | .ok op => match firstFail [opLength op, chkPort h op] with
      | some r => .error r
      | none => .ok op

/-! ### The duplicate record (R45, R46) -/

/-- The held entry with a sequence. -/
def State.dupOf (s : State) (l : LaneId) (p : Port) (seq : Nat) : Option DupEntry :=
  (s.lane l).wbe.dup.find? (fun e => e.port == p && e.seq == seq)

/-- The most recent reply of a held entry sent again with DUPLICATE set, where the original had ACK_REQ set or failed. -/
def State.resend (s : State) (l : LaneId) (h : Hdr) (e : DupEntry) : State :=
  let s := s.bump l.reg WBE_CNT_DUP h.port.num
  if e.ackReq ∨ e.failed then
    match e.reply with
    | some r => s.deliver l h { r with flags := r.flags ||| 4 }
    | none => s
  else s

/-- A waybill entered in the record of its port, which holds the last 32. -/
def State.noteDup (s : State) (l : LaneId) (h : Hdr) (w : Waybill) : State :=
  s.modWbe l (fun x =>
    let mine := x.dup.filter (fun e => e.port == h.port)
    let oldest : Option DupEntry := if mine.length ≥ 32 then mine.head? else none
    { x with dup := x.dup.filter (fun e => some e != oldest) ++ [⟨h.port, h.src, w.seq, w.opcode, w.crc, h.ackReq, false, none⟩] })

/-- DUP_HOLD_EXPIRY (R45). -/
def execDupHoldExpiry (l : LaneId) (p : Port) (seq : Nat) (s : State) : Host.Outcome State Fault Refusal :=
  .next (s.whenHost l (fun s => s.modWbe l (fun x => { x with dup := x.dup.filter (fun e => !(e.port == p && e.seq == seq)) })))

/-! ### Acceptance (R39, R42) -/

/-- A waybill of a class and a target that a lane accepts until it has entered standby or service (R566). -/
def rejoinAccepts (l : LaneId) (h : Hdr) (opcode : Nat) : Bool :=
  opcode == 0x0101 || opcode / 256 == 8 || (opcode / 256 == 1 && (h.region == l.reg || h.region == l.pow))

/-- The checks that stand before the effect of an accepted waybill: lifecycle, rejoin, commit instant, rolling self-test
(R39 checks 9 and 11, R496, R566). -/
def State.midChecks (s : State) (l : LaneId) (h : Hdr) (opcode : Nat) : Option Rsp :=
  firstFail [s.lifeCheck l opcode,
    failIf (s.rdB l.reg INT_REJOINING && !h.voted && !rejoinAccepts l h opcode) (rRange (STF_STATE.id l.reg 0) 0),
    if opcode = 0x0103 then none else s.chkInstant l h.commit, s.rollCheck l]

/-- An unvoted waybill held for its commit instant, once its checks have passed (R39, R51). Those that M or S make of one for their region
are made in the same step: no message is stated for them (DESIGN CHOICE, log 73). -/
def State.defer (s : State) (l : LaneId) (h : Hdr) (op : Op) : State :=
  let oc := opcodeOf op
  match s.shared l h oc (s.opChk l h op) with
  | some r => (s.noteLocked h.region (some r)).outcome l h oc r 0
  | none => (s.hold l h op false).outcome l h oc (rPending h.commit) 0

/-- The agreement mask of the reply to a waybill that fails a check: of a VOTED one whose bytes can be trusted the lanes that hold a
matching copy (R40, R41). -/
def State.failMask (s : State) (l : LaneId) (h : Hdr) (raw : List Byte) : Nat :=
  if h.voted && !badAtOnce raw then s.heldMask l h raw else 0

/-- The member a SET_STAGED has become, with the bytes of its parameters as they came (R60). -/
def State.noteParams (s : State) (l : LaneId) (h : Hdr) (op : Op) (raw : List Byte) : State :=
  match op with
  | .setStaged _ => s.modConsist l h.port h.consist (fun c =>
      { c with members := c.members.map (fun m => if m.hdr == h then { m with params := (Waybill.parse raw).params } else m) })
  | _ => s

/-- An accepted waybill: voted, held, performed or relayed (R38, R42, R51, R93, R381, R566). -/
def State.accept (s : State) (l : LaneId) (h : Hdr) (op : Op) (raw : List Byte) (t : Nat) : State :=
  let oc := opcodeOf op
  match s.midChecks l h oc with
  | some r => s.outcome l h oc r (s.failMask l h raw)
  | none =>
    if h.voted then
      if s.rdB l.reg INT_REJOINING then s.answer l h oc rVoteFailed true false (s.heldMask l h raw)
      else if s.rdB l.reg VOT_LOCAL ∧ !s.synced l then s.voteLocal l h op
      else s.voteIn l h op raw t
    else if h.commit ≠ 0 ∧ oc ≠ 0x0104 ∧ oc ≠ 0x0103 then s.defer l h op
    else
      let p := s.runOp l h op 0 none (some h)
      match p.2 with
      | some r => (p.1.noteParams l h op raw).outcome l h oc r 0
      | none => (p.1.noteParams l h op raw).countRx l h

/-- A waybill as the engine takes it: a target on another lane of the part stands for the receiving lane from CAN1 (R74); one on a lane the
part does not have stays as it is and is absent (R2). -/
def State.asTaken (s : State) (l : LaneId) (x : RxWaybill) : Waybill :=
  if s.hasRegion (Waybill.parse x.raw).region then (Waybill.parse x.raw).atLane l x.port else Waybill.parse x.raw

/-- A waybill through the acceptance checks in their order (R39, R45, R76). -/
def State.process (s : State) (l : LaneId) (x : RxWaybill) (t : Nat) : State :=
  let w := s.asTaken l x
  let h := { w.hdr x.port x.src with ackReq := bit w.flags 0 && x.port != .so }
  match s.frontChecks l x.port w h x.raw with
  | .error r => (s.markFailed l h w.opcode r).reply l h w.opcode r true false (s.failMask l h x.raw)
  | .ok op =>
    if x.port = .so then s.accept l h op x.raw t
    else match s.dupOf l x.port w.seq with
      | some e => if e.crc = w.crc then s.resend l h e
        else (s.markFailed l h w.opcode (rRange 0 4)).reply l h w.opcode (rRange 0 4) true false (s.failMask l h x.raw)
      | none => (s.noteDup l h w).accept l h op x.raw t

/-! ### The input queue (R47 to R49) -/

/-- The place of a port among waybills completed in the same FAB cycle: SPI, 100BASE-T1, CAN0, CAN1, M, standing orders (R47). -/
def portTurn : Port → Nat
  | .spi => 0 | .t1 => 1 | .can0 => 2 | .can1 => 3 | .m => 4 | .so => 5

/-- A waiting waybill that is taken before another: an URGENT one first, then by the FAB cycle of 5 ns in which it was complete, then
by its port (R47, R48). -/
def QueuedWb.before (x y : QueuedWb) : Bool :=
  let u := bit (byteAt x.wb.raw 1) 3
  let v := bit (byteAt y.wb.raw 1) 3
  if u = v then decide (x.at' / 5 < y.at' / 5 ∨ (x.at' / 5 = y.at' / 5 ∧ portTurn x.wb.port < portTurn y.wb.port)) else u

/-- The waybill the engine takes next: of equals the first that arrived (R47, R48). -/
def nextIn : List QueuedWb → Option QueuedWb
  | [] => none
  | x :: q => match nextIn q with
    | none => some x
    | some y => if y.before x then some y else some x

/-- The time in ns for which the engine processes a waybill: the 5 µs that R48 gives as the most it takes (DESIGN CHOICE, log 16). -/
def wbTime : Nat := 5000

/-- A waybill taken at a time: the engine is busy with it for `wbTime`. -/
def State.startWb (s : State) (l : LaneId) (x : RxWaybill) (t : Nat) : State :=
  (s.modWbe l (fun y => { y with busy := t + wbTime })).process l x t

/-- The waiting waybill whose turn it is, taken as soon as the engine is free. -/
def State.takeNext (s : State) (l : LaneId) (x : QueuedWb) : State :=
  (s.modWbe l (fun y => { y with inq := y.inq.erase x })).startWb l x.wb (max (s.lane l).wbe.busy x.at')

/-- The waiting waybills taken that begin at time `t` or before, at most `n`. -/
def State.drainIn (s : State) (l : LaneId) (t : Nat) : Nat → State
  | 0 => s
  | n + 1 => match nextIn (s.lane l).wbe.inq with
    | none => s
    | some x => if max (s.lane l).wbe.busy x.at' ≤ t then (s.takeNext l x).drainIn l t n else s

/-- The input queue has room: 32 entries, four more for an URGENT waybill (R49). -/
def State.inRoom (s : State) (l : LaneId) (raw : List Byte) : Bool :=
  decide ((s.lane l).wbe.inq.length < 32 + (if bit (byteAt raw 1) 3 then 4 else 0))

/-- A host port that is enabled (R80); M and the standing orders always are. -/
def State.portOn (s : State) (l : LaneId) (p : Port) : Bool := decide (p.num ≥ 4) || bit (s.rd l.reg HST_PORT_EN) p.num

/-- A waybill completely received at time `t`: taken at once by an engine that is free, else waiting in the queue. A full queue drops it,
counted; on SPI it stays in the receive buffer, unless it fails check 1 or 2, which answers it at once (R47, R49, R67). -/
def State.enqueue (s : State) (l : LaneId) (p : Port) (src : Nat) (raw : List Byte) (t : Nat) : State :=
  let s := s.drainIn l t (s.lane l).wbe.inq.length
  if (s.lane l).wbe.inq.isEmpty && decide ((s.lane l).wbe.busy ≤ t) then s.startWb l ⟨p, src, raw⟩ t
  else if s.inRoom l raw then s.modWbe l (fun y => { y with inq := y.inq ++ [⟨t, ⟨p, src, raw⟩⟩] })
  else if p = .spi then if badAtOnce raw then s.process l ⟨p, src, raw⟩ t else s.modHst l (fun x => { x with spiBuf := some raw, bufGen := src })
  else s.bump l.reg WBE_CNT_DROP p.num

/-- The same of a port that is enabled (R80). -/
def State.receive (s : State) (l : LaneId) (p : Port) (src : Nat) (raw : List Byte) (t : Nat) : State :=
  if !s.portOn l p then s else s.enqueue l p src raw t

/-- The engine of a lane while no command comes: it takes the waybill whose turn it is (R47 to R49). -/
def State.engineTick (s : State) (l : LaneId) : State :=
  match nextIn (s.lane l).wbe.inq with
  | some x => if s.hostUp l then (s.atTime (max (s.lane l).wbe.busy x.at')).takeNext l x else s
  | none => s

/-- What passes while no command waits: each lane's engine takes its next waybill (log 16). -/
def State.tick (s : State) : State := LaneId.all.foldl (fun s l => s.engineTick l) s

/-- WAYBILL_RECEIVE (R39). -/
def execWaybillReceive (l : LaneId) (p : Port) (src : Nat) (raw : List Byte) (t : Nat) (s : State) : Host.Outcome State Fault Refusal :=
  .next ((s.atTime t).whenHost l (fun s => s.receive l p src raw t))

/-! ### Standing orders (R75, R76, R441, R442) -/

/-- The end of a run: a consist it left open is discarded with its locks, then the order (R442). -/
def State.finishRun (s : State) (l : LaneId) (o : Nat) : State :=
  (((s.lane l).wbe.consists.filter (fun c => c.port == .so)).foldl (fun s c => s.dropConsist l c) s).endRun l o

/-- A run ended by STOP_ON_FAIL: bit 21 of the order's status (R442, R446). -/
def State.stopRun (s : State) (l : LaneId) (o : Nat) : State := (s.wrBit l.reg DPT_ORD_STATUS o 21 true).finishRun l o

/-- The next stored waybill handed to the engine as port "standing orders"; its check field is checked again (R75, R441). -/
def State.replay (s : State) (l : LaneId) (raw : List Byte) (t : Nat) : State :=
  let w := Waybill.parse raw
  let h := w.hdr .so 0
  let s := (s.wr l.reg DPT_RUN_WAIT 0 1).wr l.reg DPT_RUN_IDX 0 (s.rd l.reg DPT_RUN_IDX + 1)
  if w.crc = w.crcOf then s.receive l .so 0 raw t else s.reply l h w.opcode rBadCrc true false 0

/-- ORDER_NEXT_WAYBILL (R441, R442): the next order of the queue starts; its next waybill is handed over, or its run ends. -/
def execOrderNextWaybill (l : LaneId) (t : Nat) (s : State) : Host.Outcome State Fault Refusal :=
  .next ((s.atTime t).whenPair l (fun s =>
    let s : State := match (s.lane l).ordQ with
      | o :: _ => if s.rd l.reg DPT_RUN = 0 then s.startRun l o else s
      | [] => s
    match s.nextWb l with
    | .idle => s
    | .ended o => s.finishRun l o
    | .stopped o => s.stopRun l o
    | .hand _ raw => s.replay l raw t))

end Sys2Proof.Machine
end

