-- ==== Sys2Proof/Machine/Ports.lean ====
section
/-! DEFINITION. The host ports of a lane and the service port of M: SPI, 100BASE-T1, CAN0, CAN1 with its ISO 11783 address
(R66 to R74, R122, R558). -/

namespace Sys2Proof.Machine

open Par Var

/-! ### SPI (R66, R67) -/

/-- The SPI slave responds (R66). -/
def State.spiOn (s : State) (l : LaneId) : Bool := s.portOn l .spi

/-- The receive buffer is free and the reply queue not full (R67). -/
def State.rxSpace (s : State) (l : LaneId) : Bool :=
  (s.lane l).hst.spiBuf.isNone && decide ((s.lane l).hst.spiReplies.length < 16)

/-- The status byte: RX_SPACE, REPLY_READY, OVERRUN (R66). -/
def State.spiByte (s : State) (l : LaneId) : Nat :=
  b2n (s.rxSpace l) + 2 * b2n (!(s.lane l).hst.spiReplies.isEmpty) + 4 * b2n (s.lane l).hst.overrun

/-- The attention output of a lane is low: its SPI port is on and it holds a reply (R66). -/
def State.satnLow (s : State) (l : LaneId) : Bool :=
  s.on l.reg && s.spiOn l && !((s.lane l).hst.spiReplies.isEmpty && (s.lane l).wbe.kept.isEmpty)

/-- A transaction: the status byte shifted out, then `out`. -/
def State.spiOut (s : State) (l : LaneId) (out : List Byte) : State := s.send (.spi l (byte (s.spiByte l) :: out))

/-- SPI_STATUS (R66). -/
def execSpiStatus (l : LaneId) (s : State) : Host.Outcome State Fault Refusal :=
  .next (s.whenHost l (fun s => if s.spiOn l then s.spiOut l [] else s))

/-- SPI_WRITE (R67): `raw` are the bytes after the command byte. A WRITE that starts while RX_SPACE is clear is discarded and
sets OVERRUN. -/
def execSpiWrite (l : LaneId) (raw : List Byte) (t : Nat) (s : State) : Host.Outcome State Fault Refusal :=
  .next ((s.atTime t).whenHost l (fun s =>
    if !s.spiOn l then s
    else
      let u := s.spiOut l []
      if s.rxSpace l then u.receive l .spi (s.lane l).hst.gen raw t
      else (u.modHst l (fun x => { x with overrun := true })).bump l.reg HST_CNT_SPI_OVR))

/-- SPI_READ (R67): `count` bytes are clocked out after the status byte; a reply is removed once all of its bytes have
been; bytes past its end read 0. -/
def execSpiRead (l : LaneId) (count : Nat) (s : State) : Host.Outcome State Fault Refusal :=
  .next (s.whenHost l (fun s =>
    if !s.spiOn l then s
    else match (s.lane l).hst.spiReplies with
      | [] => s.spiOut l (List.replicate count 0)
      | r :: rest =>
        let s := s.spiOut l (padTo count r.encode)
        if count ≥ r.encode.length then s.modHst l (fun x => { x with spiReplies := rest }) else s))

/-- SPI_CLEAR (R66). -/
def execSpiClear (l : LaneId) (s : State) : Host.Outcome State Fault Refusal :=
  .next (s.whenHost l (fun s => if s.spiOn l then (s.spiOut l []).modHst l (fun x => { x with overrun := false }) else s))

/-- SPI_BUFFER_DRAIN (R67): the waybill in the receive buffer is taken into the input queue where that has room, also after the port has
been disabled. -/
def execSpiBufferDrain (l : LaneId) (t : Nat) (s : State) : Host.Outcome State Fault Refusal :=
  .next ((s.atTime t).whenHost l (fun s => match (s.lane l).hst.spiBuf with
    | some raw => if s.inRoom l raw then (s.modHst l (fun x => { x with spiBuf := none })).enqueue l .spi (s.lane l).hst.bufGen raw t else s
    | none => s))

/-- SPI_REPLY_ENQUEUE (R67): the oldest reply kept enters the reply queue where an entry is free. -/
def execSpiReplyEnqueue (l : LaneId) (s : State) : Host.Outcome State Fault Refusal :=
  .next (s.whenHost l (fun s => match (s.lane l).wbe.kept with
    | r :: rest =>
      if (s.lane l).hst.spiReplies.length < 16 then
        (s.modWbe l (fun x => { x with kept := rest })).modHst l (fun x => { x with spiReplies := x.spiReplies ++ [r] })
      else s
    | [] => s))

/-! ### 100BASE-T1 and the service port (R69, R558) -/

/-- The waybills of a datagram, end to end; a length failure ends the parsing with what is left (R69). -/
def datagramParts : Nat → List Byte → List (List Byte)
  | 0, _ => []
  | n + 1, raw =>
    let len := 20 + fieldLe raw 10 2
    if raw.isEmpty then []
    else if raw.length < 20 ∨ fieldLe raw 10 2 > 1024 ∨ raw.length < len then [raw]
    else raw.take len :: datagramParts n (raw.drop len)

/-- The parts of a payload. -/
def partsOf (payload : List Byte) : List (List Byte) := datagramParts (payload.length / 20 + 1) payload

/-- What the service port accepts: GET, ARCHIVE_READ, class 0x09, and in SERVICE the SET of `SMC.SVC_*` (R558). -/
def State.servicePort (s : State) : Op → Bool
  | .get _ => true
  | .archiveRead .. => true
  | .logRead .. => true
  | .updateBegin _ => true
  | .updateChunk .. => true
  | .updateEnd => true
  | .attest .. => true
  | .lifecycleNonce => true
  | .lifecycleChunk .. => true
  | .lifecycleApply => true
  | .set is => s.rd 7 SMC_LIFECYCLE == 3 && is.all (fun i =>
      (PKey.ofId i.id).isOf SMC_SVC_IP || (PKey.ofId i.id).isOf SMC_SVC_MASK || (PKey.ofId i.id).isOf SMC_SVC_ROLE)
  | _ => false

/-- Checks 12 to 16 and the effect of a waybill at the service port. -/
def State.serviceRun (s : State) (h : Hdr) (op : Op) : State × Rsp :=
  let chk : Option Rsp := match op with
    | .get ids => chkGet h ids
    | .set is => firstOf (fun w => s.itemRange 7 h.block w) (writesOf 20 is)
    | op => s.mChk .service op
  match chk with
  | some r => (s, r)
  | none => match op with
    | .get ids => s.effGet ids
    | .set is => (s.putAll (writesOf 20 is), rOk)
    | op => s.mEff .service op

/-- A waybill at the service port through its checks (R39, R558). -/
def State.serviceIn (s : State) (src : Nat) (raw : List Byte) : State :=
  let w := Waybill.parse raw
  let h := w.hdr .t1 src
  let front := firstFail [chkLength raw, failIf (w.crc != w.crcOf) rBadCrc, chkHeader w,
    failIf (w.region != 7 || !blockIn 7 w.block) (rRange 0 8), failIf (!opcodeIn w.opcode w.region w.block 0 0) rUnknown]
  let p : State × Rsp := match front with
    | some r => (s, r)
    | none => match parseOp w.opcode w.params with
      | .error r => (s, r)
      | .ok op => match firstFail [opLength op, failIf (!s.servicePort op || h.voted || h.urgent || h.inConsist) (rRange 0 2),
            failIf (h.commit != 0) (rRange 0 12)] with
        | some r => (s, r)
        | none => s.serviceRun h op
  if p.2.good && !h.ackReq && w.opcode != 0x0101 then p.1
  else p.1.serviceReply src w.opcode w.seq p.2

/-- What a port does with a frame that carries an IPv4 packet. -/
inductive UdpVerdict
  /-- Not for this port: another protocol, address or UDP port. -/
  | ignore
  /-- Dropped and counted: a VLAN tag, a fragment, a wrong checksum, a payload above 1,472 bytes. -/
  | drop
  /-- Waybills from a source address and port, as address times 65,536 plus port. -/
  | take (src : Nat) (payload : List Byte)
deriving DecidableEq, Repr

/-- An untagged IPv4 packet judged at the address `ip` and UDP port `port`: header checksum, fragment fields, the UDP checksum where it
is not zero (R65, R69; the layout of IPv4 and UDP is PRESUMED, log 58). -/
def udpJudge (ip port : Nat) (tagged : Bool) (packet : List Byte) : UdpVerdict :=
  let ihl := byteAt packet 0 % 16 * 4
  let total := fieldBe packet 2 2
  if tagged then .drop
  else if byteAt packet 0 / 16 ≠ 4 ∨ ihl < 20 ∨ packet.length < total ∨ total < ihl + 8 then .ignore
  else
    let udp := (packet.take total).drop ihl
    let len := fieldBe udp 4 2
    if inetSum (packet.take ihl) ≠ 0xFFFF then .drop
    else if fieldBe packet 16 4 ≠ ip then .ignore
    else if fieldBe packet 6 2 % 0x4000 ≠ 0 then .drop
    else if byteAt packet 9 ≠ 17 ∨ fieldBe udp 2 2 ≠ port then .ignore
    else if len < 8 ∨ udp.length < len ∨ len > 1480 then .drop
    else if fieldBe udp 6 2 ≠ 0 ∧ inetSum (udpPseudo (fieldBe packet 12 4) ip len ++ udp.take len) ≠ 0xFFFF then .drop
    else .take (fieldBe packet 12 4 * 65536 + fieldBe udp 0 2) ((udp.take len).drop 8)

/-- The answer of a lane's 100BASE-T1 port, at the address `ip` and the MAC address `mac`, to an untagged packet that carries no UDP: an ARP
reply to an ARP request for its address, an ICMP echo reply to an echo request (R65; the layouts of ARP and ICMP are PRESUMED, log 58). -/
def ethAnswer (ip mac : Nat) (p : List Byte) : Option (List Byte) :=
  if fieldBe p 0 8 = 0x0001080006040001 then
    if p.length ≥ 28 ∧ fieldBe p 24 4 = ip then
      some (toBe 8 0x0001080006040002 ++ toBe 6 mac ++ toBe 4 ip ++ (p.drop 8).take 10)
    else none
  else
    let ihl := byteAt p 0 % 16 * 4
    let total := fieldBe p 2 2
    let icmp := (p.take total).drop ihl
    if byteAt p 0 / 16 = 4 ∧ ihl ≥ 20 ∧ total ≤ p.length ∧ ihl + 8 ≤ total ∧ inetSum (p.take ihl) = 0xFFFF ∧ fieldBe p 16 4 = ip ∧
        fieldBe p 6 2 % 0x4000 = 0 ∧ byteAt p 9 = 1 ∧ fieldBe icmp 0 2 = 0x0800 ∧ inetSum icmp = 0xFFFF then
      let head (c : Nat) : List Byte := [0x45, 0] ++ toBe 2 (20 + icmp.length) ++ [0, 0, 0x40, 0, 64, 1] ++ toBe 2 c ++ toBe 4 ip ++
        toBe 4 (fieldBe p 12 4)
      let echo (c : Nat) : List Byte := [0, 0] ++ toBe 2 c ++ icmp.drop 4
      some (head (65535 - inetSum (head 0)) ++ echo (65535 - inetSum (echo 0)))
    else none

/-- The MAC address of a lane's 100BASE-T1 port (R80). -/
def State.macOf (s : State) (l : LaneId) : Nat := s.readKey (HST_MAC_ADDR.key l.reg 0)

/-- The waybills of a payload received at a lane, in order (R69). -/
def State.datagram (s : State) (l : LaneId) (src : Nat) (payload : List Byte) (t : Nat) : State :=
  (partsOf payload).foldl (fun s raw => s.receive l .t1 src raw t) s

/-- UDP_DATAGRAM_RECEIVE (R65, R69, R558): an IPv4 or ARP packet, its header and what follows, at a lane's 100BASE-T1 port, or with none at M's service port, which is
silent while MXIN is lost (R535). -/
def execUdpDatagramReceive (at' : Option LaneId) (tagged : Bool) (header body : List Byte) (t : Nat) (s : State) :
    Host.Outcome State Fault Refusal :=
  match at' with
  | some l => .next ((s.atTime t).whenHost l (fun s =>
      if !s.portOn l .t1 then s
      else match udpJudge (s.rd l.reg HST_IP_ADDR) (s.rd l.reg HST_UDP_PORT) tagged (header ++ body) with
        | .ignore => match if tagged then none else ethAnswer (s.rd l.reg HST_IP_ADDR) (s.macOf l) (header ++ body) with
          | some p => s.send (.eth l p)
          | none => s
        | .drop => s.bump l.reg HST_CNT_UDP_DROP
        | .take src payload => s.datagram l src payload t))
  | none => .next ((s.atTime t).whenM (fun s =>
      if s.rdB 7 SMC_MX_LOST then s
      else match udpJudge (s.rd 7 SMC_SVC_IP) 48011 tagged (header ++ body) with
        | .take src payload => (partsOf payload).foldl (fun s raw => s.serviceIn src raw) s
        | _ => s))

/-! ### CAN0 (R70, R71) -/

/-- A partial waybill discarded and counted (R71). -/
def State.dropPart (s : State) (l : LaneId) : State :=
  if (s.lane l).hst.canPart.isSome then (s.modHst l (fun x => { x with canPart := none })).bump l.reg HST_CNT_SEG_ERR else s

/-- The waybill in the bytes of all segments: the padding after its end ignored (R70). -/
def cutPadding (raw : List Byte) : List Byte := if fieldLe raw 10 2 > 1024 then raw else raw.take (20 + fieldLe raw 10 2)

/-- A segment that continues or starts a waybill: kept, or with LAST received whole (R70). -/
def State.addSegment (s : State) (l : LaneId) (bytes : List Byte) (next : Nat) (last : Bool) (t : Nat) : State :=
  if last then (s.modHst l (fun x => { x with canPart := none })).receive l .can0 0 (cutPadding bytes) t
  else s.modHst l (fun x => { x with canPart := some (bytes, next) })

/-- CAN0_SEGMENT_RECEIVE (R70, R71): an FD frame with the request identifier. A segment that continues nothing is ignored; one that is
not the last and not 64 bytes long breaks the waybill off like an index out of order (DESIGN CHOICE, log 60). -/
def execCan0SegmentReceive (l : LaneId) (f : CanFrame) (t : Nat) (s : State) : Host.Outcome State Fault Refusal :=
  .next ((s.atTime t).whenHost l (fun s =>
    let head := byteAt f.data 0
    let i := head % 64
    let body := f.data.drop 1
    let short := !bit head 6 && f.data.length != 64
    if !s.portOn l .can0 ∨ f.id ≠ s.rd l.reg HST_CAN0_REQ_ID then s
    else if bit head 7 then
      let s := s.dropPart l
      if i = 0 ∧ !short then s.addSegment l body 1 (bit head 6) t else s.bump l.reg HST_CNT_SEG_ERR
    else match (s.lane l).hst.canPart with
      | some p => if i = p.2 ∧ !short then s.addSegment l (p.1 ++ body) (p.2 + 1) (bit head 6) t else s.dropPart l
      | none => s))

/-- CAN0_SEGMENT_TIMEOUT (R71). -/
def execCan0SegmentTimeout (l : LaneId) (s : State) : Host.Outcome State Fault Refusal :=
  .next (s.whenHost l (fun s => s.dropPart l))

/-- CAN_BUS_OFF (R71, R80): counted in the byte of its port, which saturates. -/
def execCanBusOff (l : LaneId) (can1 : Bool) (s : State) : Host.Outcome State Fault Refusal :=
  .next (s.whenHost l (fun s =>
    let v := s.rd l.reg HST_CNT_BUSOFF
    let a := v % 256
    let b := v / 256 % 256
    s.wr l.reg HST_CNT_BUSOFF 0 (if can1 then a + 256 * min 255 (b + 1) else min 255 (a + 1) + 256 * b)))

/-! ### CAN1 (R72 to R74, R122) -/

/-- ISO_PROPRIETARY_A_RECEIVE (R73, R74): every lane takes it as its own copy. -/
def execIsoProprietaryAReceive (l : LaneId) (src : Nat) (raw : List Byte) (t : Nat) (s : State) : Host.Outcome State Fault Refusal :=
  .next ((s.atTime t).whenHost l (fun s => s.receive l .can1 src raw t))

/-- ISO_ADDRESS_CLAIM_RECEIVE (R72): a claim of the lane's address by another node. A NAME of higher priority, which is the
smaller number (ISO 11783-5, PRESUMED, log 41), takes the address: cannot-claim is sent from the null address and the loss
reported; against another NAME the lane claims again. -/
def execIsoAddressClaimReceive (l : LaneId) (name sa : Nat) (s : State) : Host.Outcome State Fault Refusal :=
  .next (s.whenHost l (fun s =>
    let own := s.rd l.reg HST_ISO_NAME
    if !s.mayCan1 l ∨ s.rd l.reg HST_ISO_STATE ≠ 2 ∨ sa ≠ s.rd l.reg HST_ISO_SA then s
    else if name < own then (s.wr l.reg HST_ISO_STATE 0 3).send (.isoClaim l own 0xFE)
    else s.send (.isoClaim l own sa)))

/-- ISO_ADDRESS_CLAIM_SEND (R72, R122): the holder claims its address, not before its own lease + 1 ms count has ended. The
time ISO 11783-5 gives others to object is left out: the address counts as claimed at once (DESIGN CHOICE, log 48). -/
def execIsoAddressClaimSend (l : LaneId) (s : State) : Host.Outcome State Fault Refusal :=
  .next (s.whenHost l (fun s =>
    if s.portOn l .can1 ∧ s.mayCan1 l ∧ !s.rdB l.reg STF_ISO_WAIT ∧ s.rd l.reg HST_ISO_SA ≤ 0xFD ∧ s.rd l.reg HST_ISO_STATE ≠ 3 then
      (s.wr l.reg HST_ISO_STATE 0 2).send (.isoClaim l (s.rd l.reg HST_ISO_NAME) (s.rd l.reg HST_ISO_SA))
    else s))

end Sys2Proof.Machine
end

