-- ==== Sys2Proof/Machine/Dispatch.lean ====
section
/-! DEFINITION. One arm per command: a direct call of its meaning. -/

namespace Sys2Proof.Machine

/-- The effect of a command on everything but the queue. -/
def exec (i : Instr) (s : State) : Host.Outcome State Fault Refusal :=
  match i with
  | .waybillReceive l p src raw t => Sys2Proof.Machine.execWaybillReceive l p src raw t s
  | .dupHoldExpiry l p seq => Sys2Proof.Machine.execDupHoldExpiry l p seq s
  | .get l h ids => Sys2Proof.Machine.execGet l h ids s
  | .set l h items => Sys2Proof.Machine.execSet l h items s
  | .setStaged l h items => Sys2Proof.Machine.execSetStaged l h items s
  | .commit l h => Sys2Proof.Machine.execCommit l h s
  | .abortConsist l h => Sys2Proof.Machine.execAbortConsist l h s
  | .consistIdleTimeout l p consist => Sys2Proof.Machine.execConsistIdleTimeout l p consist s
  | .commitInstantReached l => Sys2Proof.Machine.execCommitInstantReached l s
  | .relayTimeout l tag => Sys2Proof.Machine.execRelayTimeout l tag s
  | .relayReceive d l tag epoch w => Sys2Proof.Machine.execRelayReceive d l tag epoch w s
  | .relayReplyReceive l tag r => Sys2Proof.Machine.execRelayReplyReceive l tag r s
  | .spiStatus l => Sys2Proof.Machine.execSpiStatus l s
  | .spiWrite l raw t => Sys2Proof.Machine.execSpiWrite l raw t s
  | .spiRead l count => Sys2Proof.Machine.execSpiRead l count s
  | .spiClear l => Sys2Proof.Machine.execSpiClear l s
  | .spiBufferDrain l t => Sys2Proof.Machine.execSpiBufferDrain l t s
  | .spiReplyEnqueue l => Sys2Proof.Machine.execSpiReplyEnqueue l s
  | .udpDatagramReceive at' tagged header body t => Sys2Proof.Machine.execUdpDatagramReceive at' tagged header body t s
  | .can0SegmentReceive l f t => Sys2Proof.Machine.execCan0SegmentReceive l f t s
  | .can0SegmentTimeout l => Sys2Proof.Machine.execCan0SegmentTimeout l s
  | .canBusOff l can1 => Sys2Proof.Machine.execCanBusOff l can1 s
  | .isoProprietaryAReceive l src raw t => Sys2Proof.Machine.execIsoProprietaryAReceive l src raw t s
  | .isoAddressClaimReceive l name sa => Sys2Proof.Machine.execIsoAddressClaimReceive l name sa s
  | .isoAddressClaimSend l => Sys2Proof.Machine.execIsoAddressClaimSend l s
  | .flitReceive k flit => Sys2Proof.Machine.execFlitReceive k flit s
  | .flitNackReceive k expected => Sys2Proof.Machine.execFlitNackReceive k expected s
  | .flitAckTimeout k => Sys2Proof.Machine.execFlitAckTimeout k s
  | .linkCodeErrors k => Sys2Proof.Machine.execLinkCodeErrors k s
  | .linkAckSilence k => Sys2Proof.Machine.execLinkAckSilence k s
  | .linkTrainComplete k => Sys2Proof.Machine.execLinkTrainComplete k s
  | .linkFailTimeout k => Sys2Proof.Machine.execLinkFailTimeout k s
  | .linkTrainRetry k => Sys2Proof.Machine.execLinkTrainRetry k s
  | .pwmValley l peak smp sc t => Sys2Proof.Machine.execPwmValley l peak smp sc t s
  | .computeStart l t => Sys2Proof.Machine.execComputeStart l t s
  | .dutyReceive l b edges => Sys2Proof.Machine.execDutyReceive l b edges s
  | .exchFrameReceive l f t => Sys2Proof.Machine.execExchFrameReceive l f t s
  | .sExchReceive f t => Sys2Proof.Machine.execSExchReceive f t s
  | .sEchoReceive l e t => Sys2Proof.Machine.execSEchoReceive l e t s
  | .sFrameSilence l => Sys2Proof.Machine.execSFrameSilence l s
  | .announceReceive l arrival stamp raw crc => Sys2Proof.Machine.execAnnounceReceive l arrival stamp raw crc s
  | .towlineCycleStart l t => Sys2Proof.Machine.execTowlineCycleStart l t s
  | .commonSampleInstant l t => Sys2Proof.Machine.execCommonSampleInstant l t s
  | .commonLatchInstant l t => Sys2Proof.Machine.execCommonLatchInstant l t s
  | .inputReceive l m => Sys2Proof.Machine.execInputReceive l m s
  | .inputVoteDeadline l => Sys2Proof.Machine.execInputVoteDeadline l s
  | .staffRenewReceive n m t => Sys2Proof.Machine.execStaffRenewReceive n m t s
  | .staffGrantReceive l m t => Sys2Proof.Machine.execStaffGrantReceive l m t s
  | .staffClaimReceive n m t => Sys2Proof.Machine.execStaffClaimReceive n m t s
  | .staffAgreeReceive n m t => Sys2Proof.Machine.execStaffAgreeReceive n m t s
  | .staffDenyReceive l m => Sys2Proof.Machine.execStaffDenyReceive l m s
  | .staffReleaseReceive n m t => Sys2Proof.Machine.execStaffReleaseReceive n m t s
  | .staffRelinquishReceive n m t => Sys2Proof.Machine.execStaffRelinquishReceive n m t s
  | .staffAdmitReceive n m => Sys2Proof.Machine.execStaffAdmitReceive n m s
  | .staffExpiredReceive l m => Sys2Proof.Machine.execStaffExpiredReceive l m s
  | .holderLeaseEnd l => Sys2Proof.Machine.execHolderLeaseEnd l s
  | .sLeaseExpiry => Sys2Proof.Machine.execSLeaseExpiry s
  | .claimWaitEnd l t => Sys2Proof.Machine.execClaimWaitEnd l t s
  | .grantMiss l => Sys2Proof.Machine.execGrantMiss l s
  | .claimTimeout l => Sys2Proof.Machine.execClaimTimeout l s
  | .successorReserveEnd n => Sys2Proof.Machine.execSuccessorReserveEnd n s
  | .sLostToStaff l => Sys2Proof.Machine.execSLostToStaff l s
  | .leaveReset l => Sys2Proof.Machine.execLeaveReset l s
  | .staffRequest l h lane => Sys2Proof.Machine.execStaffRequest l h lane s
  | .relinquish l h => Sys2Proof.Machine.execRelinquish l h s
  | .rejoin l h lane => Sys2Proof.Machine.execRejoin l h lane s
  | .excludeLane l h lane => Sys2Proof.Machine.execExcludeLane l h lane s
  | .stateTransferRequest l from' => Sys2Proof.Machine.execStateTransferRequest l from' s
  | .stateTransferComplete l x crcSecond durationUs => Sys2Proof.Machine.execStateTransferComplete l x crcSecond durationUs s
  | .stateTransferTimeout l => Sys2Proof.Machine.execStateTransferTimeout l s
  | .shadowEnd l shadow => Sys2Proof.Machine.execShadowEnd l shadow s
  | .loopStateTransferComplete l x ok => Sys2Proof.Machine.execLoopStateTransferComplete l x ok s
  | .lockstepMismatch l d tick => Sys2Proof.Machine.execLockstepMismatch l d tick s
  | .syncDiffDetect l input t => Sys2Proof.Machine.execSyncDiffDetect l input t s
  | .startDrive l h mask kind => Sys2Proof.Machine.execStartDrive l h mask kind s
  | .stopDrive l h mask kind => Sys2Proof.Machine.execStopDrive l h mask kind s
  | .stopRampEnd l b => Sys2Proof.Machine.execStopRampEnd l b s
  | .captureEnd l b t => Sys2Proof.Machine.execCaptureEnd l b t s
  | .prechargeEnd l b => Sys2Proof.Machine.execPrechargeEnd l b s
  | .extrapTimeout l b => Sys2Proof.Machine.execExtrapTimeout l b s
  | .hfiAlignEnd l b x => Sys2Proof.Machine.execHfiAlignEnd l b x s
  | .vgdLow l mv => Sys2Proof.Machine.execVgdLow l mv s
  | .vgdReady l mv => Sys2Proof.Machine.execVgdReady l mv s
  | .desatDetect l sw t => Sys2Proof.Machine.execDesatDetect l sw t s
  | .desatBlankEnd l sw asserted t => Sys2Proof.Machine.execDesatBlankEnd l sw asserted t s
  | .hardShortDetect l phase hsB t => Sys2Proof.Machine.execHardShortDetect l phase hsB t s
  | .softOffStep2 l sw => Sys2Proof.Machine.execSoftOffStep2 l sw s
  | .softOffClamp l sw => Sys2Proof.Machine.execSoftOffClamp l sw s
  | .gdrLatchClear l h b bits t comparators => Sys2Proof.Machine.execGdrLatchClear l h b bits t comparators s
  | .shortZeroCrossing l b t => Sys2Proof.Machine.execShortZeroCrossing l b t s
  | .shortReleaseTimeout l b => Sys2Proof.Machine.execShortReleaseTimeout l b s
  | .calSkipTimeout l c => Sys2Proof.Machine.execCalSkipTimeout l c s
  | .cenGroupTrigger l source bridge count t => Sys2Proof.Machine.execCenGroupTrigger l source bridge count t s
  | .steerTarget l h angle => Sys2Proof.Machine.execSteerTarget l h angle s
  | .brakeDemand l h f1 f2 f3 f4 => Sys2Proof.Machine.execBrakeDemand l h f1 f2 f3 f4 s
  | .hold l h mask => Sys2Proof.Machine.execHold l h mask s
  | .release l h mask => Sys2Proof.Machine.execRelease l h mask s
  | .trcSampleEvent l t => Sys2Proof.Machine.execTrcSampleEvent l t s
  | .traceArm l h => Sys2Proof.Machine.execTraceArm l h s
  | .traceTrigger l h => Sys2Proof.Machine.execTraceTrigger l h s
  | .traceStop l h => Sys2Proof.Machine.execTraceStop l h s
  | .traceRead l h start count => Sys2Proof.Machine.execTraceRead l h start count s
  | .traceStream l h on => Sys2Proof.Machine.execTraceStream l h on s
  | .archiveRead l h offset len => Sys2Proof.Machine.execArchiveRead l h offset len s
  | .traceArchiveWrite l rowBytes rows => Sys2Proof.Machine.execTraceArchiveWrite l rowBytes rows s
  | .fbiEdgeAccept l ch edges heldNs t => Sys2Proof.Machine.execFbiEdgeAccept l ch edges heldNs t s
  | .fbiLineFault l ch wire => Sys2Proof.Machine.execFbiLineFault l ch wire s
  | .sincosPairReceive l ch pair t => Sys2Proof.Machine.execSincosPairReceive l ch pair t s
  | .ssiFrameComplete l ch frame startHigh t => Sys2Proof.Machine.execSsiFrameComplete l ch frame startHigh t s
  | .fbiStandstillTimeout l ch => Sys2Proof.Machine.execFbiStandstillTimeout l ch s
  | .fbiFaultClear l h ch bits present => Sys2Proof.Machine.execFbiFaultClear l h ch bits present s
  | .fbiIndexArm l h ch => Sys2Proof.Machine.execFbiIndexArm l h ch s
  | .tableLoad l h base entries => Sys2Proof.Machine.execTableLoad l h base entries s
  | .tableAppend l h base entries => Sys2Proof.Machine.execTableAppend l h base entries s
  | .arm l h mask => Sys2Proof.Machine.execArm l h mask s
  | .disarm l h mask => Sys2Proof.Machine.execDisarm l h mask s
  | .forceOff l h mask => Sys2Proof.Machine.execForceOff l h mask s
  | .tableTransferComplete l x => Sys2Proof.Machine.execTableTransferComplete l x s
  | .sVoteReceive v t => Sys2Proof.Machine.execSVoteReceive v t s
  | .athPulseEnd a => Sys2Proof.Machine.execAthPulseEnd a s
  | .athOrphanTimeout => Sys2Proof.Machine.execAthOrphanTimeout s
  | .sStatusSend => Sys2Proof.Machine.execSStatusSend s
  | .sStatusReceive l m t => Sys2Proof.Machine.execSStatusReceive l m t s
  | .secOffPulseStart k => Sys2Proof.Machine.execSecOffPulseStart k s
  | .secOffPulseEnd k mv ma => Sys2Proof.Machine.execSecOffPulseEnd k mv ma s
  | .secReadbackFault k => Sys2Proof.Machine.execSecReadbackFault k s
  | .secOvercurrent k => Sys2Proof.Machine.execSecOvercurrent k s
  | .secOpenLoad k => Sys2Proof.Machine.execSecOpenLoad k s
  | .secLeakage k => Sys2Proof.Machine.execSecLeakage k s
  | .secFaultClear l h k bits present => Sys2Proof.Machine.execSecFaultClear l h k bits present s
  | .sioInputAccept l n level tick t => Sys2Proof.Machine.execSioInputAccept l n level tick t s
  | .testPulseStart l n t => Sys2Proof.Machine.execTestPulseStart l n t s
  | .testPulseEnd l n lowSeen => Sys2Proof.Machine.execTestPulseEnd l n lowSeen s
  | .tpReadbackFault l n => Sys2Proof.Machine.execTpReadbackFault l n s
  | .sioDiscrepancyTimeout l p => Sys2Proof.Machine.execSioDiscrepancyTimeout l p s
  | .tripReceive l m t => Sys2Proof.Machine.execTripReceive l m t s
  | .tripApply l func t => Sys2Proof.Machine.execTripApply l func t s
  | .estopHoldTimer l => Sys2Proof.Machine.execEstopHoldTimer l s
  | .ackRelease l t => Sys2Proof.Machine.execAckRelease l t s
  | .ackReleaseReceive l m => Sys2Proof.Machine.execAckReleaseReceive l m s
  | .armReset l h nonce => Sys2Proof.Machine.execArmReset l h nonce s
  | .confirmReset l h nonce => Sys2Proof.Machine.execConfirmReset l h nonce s
  | .stopStandstill l => Sys2Proof.Machine.execStopStandstill l s
  | .latchConfirmTimeout l target => Sys2Proof.Machine.execLatchConfirmTimeout l target s
  | .stopTimeout l => Sys2Proof.Machine.execStopTimeout l s
  | .twlLossTimeout l => Sys2Proof.Machine.execTwlLossTimeout l s
  | .twlFrameReceive l rail coding raw t => Sys2Proof.Machine.execTwlFrameReceive l rail coding raw t s
  | .twlPathStart l p readbackFail t => Sys2Proof.Machine.execTwlPathStart l p readbackFail t s
  | .twlNit l t => Sys2Proof.Machine.execTwlNit l t s
  | .localCycleStart l e t => Sys2Proof.Machine.execLocalCycleStart l e t s
  | .listenTimeout l t => Sys2Proof.Machine.execListenTimeout l t s
  | .lkgEnableOpen l p traffic => Sys2Proof.Machine.execLkgEnableOpen l p traffic s
  | .lkgEnableClose l p sending => Sys2Proof.Machine.execLkgEnableClose l p sending s
  | .lkgBlockTx l => Sys2Proof.Machine.execLkgBlockTx l s
  | .lkgCycleStart l own tapsOk => Sys2Proof.Machine.execLkgCycleStart l own tapsOk s
  | .taskEvent l n ev => Sys2Proof.Machine.execTaskEvent l n ev s
  | .waitTimeout l cmp => Sys2Proof.Machine.execWaitTimeout l cmp s
  | .delayListTick l us => Sys2Proof.Machine.execDelayListTick l us s
  | .bgShareCheck l bgTenthUs => Sys2Proof.Machine.execBgShareCheck l bgTenthUs s
  | .orderLoad l h o action d ws => Sys2Proof.Machine.execOrderLoad l h o action d ws s
  | .orderStart l h o => Sys2Proof.Machine.execOrderStart l h o s
  | .orderStop l h o => Sys2Proof.Machine.execOrderStop l h o s
  | .orderDelayExpiry l o => Sys2Proof.Machine.execOrderDelayExpiry l o s
  | .orderNextWaybill l t => Sys2Proof.Machine.execOrderNextWaybill l t s
  | .fabRequest r reqs withdrawn => Sys2Proof.Machine.execFabRequest r reqs withdrawn s
  | .lockHoldWrite d u value l tag epoch => Sys2Proof.Machine.execLockHoldWrite d u value l tag epoch s
  | .lockRollbackWrite d u l tag epoch => Sys2Proof.Machine.execLockRollbackWrite d u l tag epoch s
  | .lockIdleTimeout d u => Sys2Proof.Machine.execLockIdleTimeout d u s
  | .epochStatusReceive d l epoch => Sys2Proof.Machine.execEpochStatusReceive d l epoch s
  | .fabCntClear r value => Sys2Proof.Machine.execFabCntClear r value s
  | .lineReadError r line area persistent => Sys2Proof.Machine.execLineReadError r line area persistent s
  | .lineRepairReply l line data readBackOk => Sys2Proof.Machine.execLineRepairReply l line data readBackOk s
  | .scrubRead r line area err passMs => Sys2Proof.Machine.execScrubRead r line area err passMs s
  | .gateForceClose l block master => Sys2Proof.Machine.execGateForceClose l block master s
  | .gatedTouch r block master => Sys2Proof.Machine.execGatedTouch r block master s
  | .fclSourceAssert r src held t => Sys2Proof.Machine.execFclSourceAssert r src held t s
  | .fclQuietEnd r src t => Sys2Proof.Machine.execFclQuietEnd r src t s
  | .blockReady r block => Sys2Proof.Machine.execBlockReady r block s
  | .blockResetTimeout r block => Sys2Proof.Machine.execBlockResetTimeout r block s
  | .faultPinHoldEnd r => Sys2Proof.Machine.execFaultPinHoldEnd r s
  | .fclLatchClear l h bits => Sys2Proof.Machine.execFclLatchClear l h bits s
  | .fclErrStatusClear l h bits => Sys2Proof.Machine.execFclErrStatusClear l h bits s
  | .troubleClear l h value => Sys2Proof.Machine.execTroubleClear l h value s
  | .selftestRunRolling l h lane => Sys2Proof.Machine.execSelftestRunRolling l h lane s
  | .selftestRunConverter l h mask => Sys2Proof.Machine.execSelftestRunConverter l h mask s
  | .comparatorTest l h mask fails => Sys2Proof.Machine.execComparatorTest l h mask fails s
  | .inject l h region src durMs => Sys2Proof.Machine.execInject l h region src durMs s
  | .injectEnd r src => Sys2Proof.Machine.execInjectEnd r src s
  | .lbistComplete l pass dur => Sys2Proof.Machine.execLbistComplete l pass dur s
  | .mbistComplete l failing inj dur => Sys2Proof.Machine.execMbistComplete l failing inj dur s
  | .jtagBypass => Sys2Proof.Machine.execJtagBypass s
  | .jtagIdcode => Sys2Proof.Machine.execJtagIdcode s
  | .jtagSamplePreload => Sys2Proof.Machine.execJtagSamplePreload s
  | .jtagExtest => Sys2Proof.Machine.execJtagExtest s
  | .jtagInternalScan r keyStore => Sys2Proof.Machine.execJtagInternalScan r keyStore s
  | .vsupStart l => Sys2Proof.Machine.execVsupStart l s
  | .supplyLoss l => Sys2Proof.Machine.execSupplyLoss l s
  | .vsupOvervolt l => Sys2Proof.Machine.execVsupOvervolt l s
  | .railFault l rail => Sys2Proof.Machine.execRailFault l rail s
  | .clkinQualified l restarts => Sys2Proof.Machine.execClkinQualified l restarts s
  | .clkinLoss l => Sys2Proof.Machine.execClkinLoss l s
  | .dvfsChangeComplete l point => Sys2Proof.Machine.execDvfsChangeComplete l point s
  | .powerState l h state point => Sys2Proof.Machine.execPowerState l h state point s
  | .handshakeAnswer l party a => Sys2Proof.Machine.execHandshakeAnswer l party a s
  | .handshakeTimeout l party => Sys2Proof.Machine.execHandshakeTimeout l party s
  | .handshakeDelayEnd l party => Sys2Proof.Machine.execHandshakeDelayEnd l party s
  | .handshakeAbortTimeout l => Sys2Proof.Machine.execHandshakeAbortTimeout l s
  | .creepSample l smp => Sys2Proof.Machine.execCreepSample l smp s
  | .peerWake r from' => Sys2Proof.Machine.execPeerWake r from' s
  | .wakePin l => Sys2Proof.Machine.execWakePin l s
  | .wakeTimerExpiry l => Sys2Proof.Machine.execWakeTimerExpiry l s
  | .wakeActivity l hostPort => Sys2Proof.Machine.execWakeActivity l hostPort s
  | .retentionDroop l => Sys2Proof.Machine.execRetentionDroop l s
  | .laneStart l o => Sys2Proof.Machine.execLaneStart l o s
  | .laneReady l t => Sys2Proof.Machine.execLaneReady l t s
  | .slotAnnounceReceive l peer active pending => Sys2Proof.Machine.execSlotAnnounceReceive l peer active pending s
  | .slotAnnounceTimeout l moved => Sys2Proof.Machine.execSlotAnnounceTimeout l moved s
  | .formationListenEnd l => Sys2Proof.Machine.execFormationListenEnd l s
  | .formationTimeout => Sys2Proof.Machine.execFormationTimeout s
  | .mHeartbeatReceive l lifecycle => Sys2Proof.Machine.execMHeartbeatReceive l lifecycle s
  | .mLostTimeout l => Sys2Proof.Machine.execMLostTimeout l s
  | .logRecordAppend r => Sys2Proof.Machine.execLogRecordAppend r s
  | .logRead l h start count mask => Sys2Proof.Machine.execLogRead l h start count mask s
  | .updateBegin o h total => Sys2Proof.Machine.execUpdateBegin o h total s
  | .updateChunk o h offset data => Sys2Proof.Machine.execUpdateChunk o h offset data s
  | .updateEnd o h => Sys2Proof.Machine.execUpdateEnd o h s
  | .updateVerifyDone => Sys2Proof.Machine.execUpdateVerifyDone s
  | .updateSessionTimeout => Sys2Proof.Machine.execUpdateSessionTimeout s
  | .laneImageInstall l sect readBackOk => Sys2Proof.Machine.execLaneImageInstall l sect readBackOk s
  | .attest o h part nonce => Sys2Proof.Machine.execAttest o h part nonce s
  | .attestSignDone => Sys2Proof.Machine.execAttestSignDone s
  | .lifecycleNonce o h => Sys2Proof.Machine.execLifecycleNonce o h s
  | .lifecycleChunk o h offset data => Sys2Proof.Machine.execLifecycleChunk o h offset data s
  | .lifecycleApply o h => Sys2Proof.Machine.execLifecycleApply o h s
  | .lifecycleNonceExpiry => Sys2Proof.Machine.execLifecycleNonceExpiry s
  | .tagPortChange c present => Sys2Proof.Machine.execTagPortChange c present s
  | .tagResponse c frame => Sys2Proof.Machine.execTagResponse c frame s
  | .tagTimeout c => Sys2Proof.Machine.execTagTimeout c s
  | .cartReportReceive l r => Sys2Proof.Machine.execCartReportReceive l r s
  | .tagCounterWriteback failed => Sys2Proof.Machine.execTagCounterWriteback failed s
  | .flitAckReceive k seq => Sys2Proof.Machine.execFlitAckReceive k seq s
  | .powerDieReady l => Sys2Proof.Machine.execPowerDieReady l s
  | .sharedDieReady d recordOk creepWake => Sys2Proof.Machine.execSharedDieReady d recordOk creepWake s
  | .athCoilFault a short => Sys2Proof.Machine.execAthCoilFault a short s
  | .trxDriverOvercurrent l rail => Sys2Proof.Machine.execTrxDriverOvercurrent l rail s
  | .converterTestComplete l b results => Sys2Proof.Machine.execConverterTestComplete l b results s
  | .repairRequestReceive l from' line period crcOk => Sys2Proof.Machine.execRepairRequestReceive l from' line period crcOk s
  | .retentionRestoreRequest l from' bank => Sys2Proof.Machine.execRetentionRestoreRequest l from' bank s
  | .mxinLoss => Sys2Proof.Machine.execMxinLoss s

end Sys2Proof.Machine
end

