-- ==== Sys2Proof/Safety.lean ====
section
/-! DEFINITION. What counts as a safe run of the block, and the terms in which claims speak of what a command changes and of
when a waybill's opcode is performed. -/

namespace Sys2Proof.Machine

open Par Var

/-- The next `n` steps neither fault nor refuse. -/
def SafeRun : Nat → State → Prop
  | 0, _ => True
  | n + 1, s => ∃ t, step s = .next t ∧ SafeRun n t

/-- Every parameter and every numeric variable reads the same, but for those at the places `ks`. -/
def SamePlaces (s t : State) (ks : List PKey) : Prop := ∀ k, k ∉ ks → t.params.get k = s.params.get k

/-- Nothing changes but the parameters and variables at the places `ks`. -/
def SameBut (s t : State) (ks : List PKey) : Prop := t = { s with params := t.params } ∧ SamePlaces s t ks

/-- The same after the package time has moved on to `t0`. -/
def SameButAt (t0 : Nat) (s t : State) (ks : List PKey) : Prop := SameBut (s.atTime t0) t ks

/-- Every parameter and variable of a region outside `rs` reads the same. -/
def SameOutside (s t : State) (rs : List Nat) : Prop := ∀ k : PKey, k.region ∉ rs → t.params.get k = s.params.get k

/-- The records of every lane but `l` are the same. -/
def SameOtherLanes (s t : State) (l : LaneId) : Prop := ∀ x, x ≠ l → t.lane x = s.lane x

/-- A waybill's opcode is performed once its own check passes: the lane runs and its pair works, its flags suit the opcode, no
self-test holds its target, and the service mode accepts it (R39, R48, R139, R379, R499). -/
def Performs (s : State) (l : LaneId) (h : Hdr) (opcode : Nat) : Prop :=
  s.pairUp l = true ∧ flagCheck h opcode = none ∧ s.busyCheck l h opcode = none ∧ s.modeCheck l opcode = none

/-- The command completes in this state: it answers a next state, which has the property. -/
def Runs (c : Instr) (s : State) (P : State → Prop) : Prop := ∃ t, exec c s = .next t ∧ P t

/-- Every parameter and variable reads the same, but for those at the places `P` holds of. -/
def SameOff (P : PKey → Prop) (s t : State) : Prop := ∀ k, ¬ P k → t.params.get k = s.params.get k

/-- A counter raised by one; it saturates at its width (R79). -/
def Counted (s t : State) (r : Nat) (d : PDesc) (i : Nat := 0) : Prop := t.rd r d i = min (2 ^ d.width - 1) (s.rd r d i + 1)

/-- A place no answer of lane `l` writes: of another region, or of no block of the waybill engine, the host ports and the
dispatcher. -/
def NoReplyPlace (l : LaneId) (k : PKey) : Prop :=
  k.region ≠ l.reg ∨ (k.block ≠ 1 ∧ k.block ≠ 2 ∧ k.block ≠ 6 ∧ k.block ≠ 0x86)

/-- What answering in lane `l` may change: places of the engine, the ports and the dispatcher of the lane, the engine's and
the ports' records, the links and what is sent. -/
structure Replies (l : LaneId) (s t : State) : Prop where
  get : ∀ k, NoReplyPlace l k → t.params.get k = s.params.get k
  others : ∀ x, x ≠ l → t.lane x = s.lane x
  own : ∃ w h, t.lane l = { s.lane l with wbe := w, hst := h }
  rest : t = { s with params := t.params, la := t.la, lb := t.lb, lc := t.lc, links := t.links, sent := t.sent }

/-- A reply as it leaves the 100BASE-T1 port: a UDP datagram of its own, from the lane's address and port to the source of the request
(R61, R69). -/
def State.replyT1 (s : State) (l : LaneId) (src : Nat) (r : Reply) : Sent :=
  .reply l .t1 src { addr := s.rd l.reg HST_IP_ADDR,
                     frames := [udpPacket (s.rd l.reg HST_IP_ADDR * 65536 + s.rd l.reg HST_UDP_PORT) src r.encode] } r

/-- From `u`, the state with the opcode's effect, to `t`: the waybill is counted for its port and answered with `r` (R42, R79).
A failure and a GET are always answered, another success where ACK_REQ asks for it; seen at the 100BASE-T1 port, which holds
nothing back. -/
structure Performed (l : LaneId) (h : Hdr) (opcode : Nat) (r : Rsp) (u t : State) : Prop where
  only : Replies l u t
  counted : t.rd l.reg WBE_CNT_RX h.port.num = min (2 ^ 32 - 1) (u.rd l.reg WBE_CNT_RX h.port.num + 1)
  reply : h.port = .t1 → (!r.good || opcode == 0x0101 || h.ackReq) = true →
    t.sent = u.sent ++ [u.replyT1 l h.src (mkReply l h opcode r true false 0)]
  silent : h.port = .t1 → (!r.good || opcode == 0x0101 || h.ackReq) = false → t.sent = u.sent

/-- A waybill that a check of its opcode turns away with `r`: it has no effect, and its failure is answered (R39, R42). -/
def Denied (l : LaneId) (h : Hdr) (opcode : Nat) (r : Rsp) (s t : State) : Prop :=
  Replies l s t ∧ (h.port = .t1 → t.sent = s.sent ++ [s.replyT1 l h.src (mkReply l h opcode r true false 0)])

/-- The rows an asserted error wire may write: of the fault collectors, the standing orders it triggers, the trace's note of the
source, a shadow lane's note of a fault (R437, R478, R488). -/
def faultRows : List PDesc :=
  [FCL_ERR_STATUS, FCL_LATCHED, FCL_RAW, FCL_LAST, FCL_TROUBLE, FCL_FIRST, FCL_PIN, FCL_TEST_EVENTS, FCL_QUIET_AT, FCL_PIN_HELD,
   FCL_IRQ, FCL_NMI, DPT_ORD_STATE, DPT_CNT_ORD_OVERLAP, TRC_HIT, STF_SHADOW_BAD]

/-- A place of one of these rows. -/
def FaultPlace (k : PKey) : Prop := ∃ d ∈ faultRows, d.block = k.block ∧ d.index = k.index

/-- What an asserted error wire that orders no reset may change: fault places, the orders queued, what is sent. -/
structure OnlyFaults (s t : State) : Prop where
  get : SameOff FaultPlace s t
  lanes : ∀ l, ∃ q, t.lane l = { s.lane l with ordQ := q }
  rest : t = { s with params := t.params, la := t.la, lb := t.lb, lc := t.lc, sent := t.sent }
  tells : ∃ ms, t.sent = s.sent ++ ms

/-- A source whose entry orders no reset of a block or a region: its reactions hold none, or its lane is leaving or out and
starts none (R475, R484). -/
def NoReset (s : State) (r src : Nat) : Prop :=
  ((s.rd r FCL_REACT src).testBit 2 = false ∧ (s.rd r FCL_REACT src).testBit 3 = false) ∨ s.quietLane r = true

/-- An error wire that is judged: a source of the region's table, whose block is not held in reset, outside phase TEST
(R472, R479, R485). -/
def Judged (s : State) (r src : Nat) : Prop :=
  s.hasRegion r = true ∧ sourceListed r src = true ∧ s.rd r FCL_MASKED (ownerOf r src) = 0 ∧ s.rd r FAB_PHASE ≠ 2

/-- A source of a lane whose entry into the fault state takes the lane out: a region reset is among its reactions, and the lane
is neither leaving nor out (R475, R480). -/
def TakesOut (s : State) (l : LaneId) (src : Nat) : Prop :=
  Judged s l.reg src ∧ bit (s.rd l.reg FCL_ERR_STATUS) src = false ∧ (s.rd l.reg FCL_REACT src).testBit 3 = true ∧ s.vstate l < 3

/-- The places `ws` read these values, each within its width. -/
def Reads (t : State) (ws : List (PKey × Nat)) : Prop := ∀ w ∈ ws, t.params.get w.1 = w.2 % 2 ^ widthOf w.1

/-- The places `ws` read these values; every other place reads as before. -/
def Sets (s t : State) (ws : List (PKey × Nat)) : Prop := Reads t ws ∧ SamePlaces s t (ws.map Prod.fst)

/-- The messages `ms` sent in their order, with their flits on the links that are up. -/
def State.tells (s : State) (ms : List Sent) : State := ms.foldl State.send s

/-- Nothing changes but the places `ws`, which read these values; the messages `ms` are sent. -/
def Writes (s t : State) (ws : List (PKey × Nat)) (ms : List Sent := []) : Prop :=
  t = { s.tells ms with params := t.params } ∧ Sets s t ws

/-- What a saturating counter reads after one more event (R79). -/
def State.next (s : State) (r : Nat) (d : PDesc) (i : Nat := 0) : PKey × Nat :=
  (d.key r i, min (2 ^ d.width - 1) (s.rd r d i + 1))

/-- A STAFF message of a lane to both peers and S (R132). -/
def State.toAll (s : State) (l : LaneId) (m : StaffMsg) : List Sent :=
  (s.peersOf l).map (fun p => Sent.staff (.lane p) m) ++ [.staff .s m]

/-- A STAFF message of S to every lane (R132). -/
def State.fromS (s : State) (kind subject epoch lease reason : Nat) : List Sent :=
  s.lanesOf.map (fun x => Sent.staff (.lane x) ⟨kind, 8, subject, epoch, lease, reason, s.sCycle % 65536⟩)

/-- The holder a lane saw last (R133). -/
def State.lastHolder (s : State) (l : LaneId) : Nat :=
  if s.rd l.reg STF_HOLDER = 0 then s.rd l.reg STF_PREV else s.rd l.reg STF_HOLDER

/-- What the grant of a claim leaves in a lane's record: the holder, the epoch, the handover, every lane eligible again after a
RELEASE, no ADMIT still to be sent (R118, R122, R130, R133). -/
def State.granted (s : State) (l : LaneId) (holder epoch cause : Nat) : List (PKey × Nat) :=
  [(STF_LAST_HANDOVER.key l.reg 0, withCycle (s.lastHolder l + holder * 16 + cause * 256) (s.cycle l)),
   s.next l.reg STF_CNT_HANDOVER, (STF_PREV.key l.reg 0, s.lastHolder l), (STF_HOLDER.key l.reg 0, holder),
   (STF_EPOCH.key l.reg 0, epoch), (STF_RESERVED.key l.reg 0, 0), (STF_RELEASED.key l.reg 1, 0),
   (STF_RELEASED.key l.reg 2, 0), (STF_RELEASED.key l.reg 3, 0), (STF_ADMIT_WAIT.key l.reg 0, 0), (STF_MAY_CLAIM.key l.reg 0, 0),
   (STF_CAUSE.key l.reg 0, 0)]

/-- The places that the end of a bridge's commands writes: when each gate passes the hold-off level, the interlock's blocks, and since when
all six commands are low (R207, R210, R220). -/
def fallPlaces (l : LaneId) (b : Nat) : List PKey :=
  GDR_LOW_AT.key l.pow b :: (List.range 6).flatMap (fun k => [GDR_OFF_AT.key l.pow (6 * b + k), GDR_BLOCK.key l.pow (6 * b + k)])

/-- The places standing orders write when an event triggers them: their states and the counts of overlaps (R438, R443). -/
def OrderPlace (l : LaneId) (k : PKey) : Prop :=
  ∃ o, o < 64 ∧ (k = DPT_ORD_STATE.key l.reg o ∨ k = DPT_CNT_ORD_OVERLAP.key l.reg o)

/-- The rows that evaluating the outputs of S writes (R331, R338, R340, R343, R344, R346, R348). -/
def outputRows : List PDesc :=
  [SVT_OUT, SVT_VOID, SEC_TEST_K, SEC_GAP_AT, SEC_TEST_END, SEC_CNT_TEST_SKIP, ATH_ORPHANED, ATH_HOLD_PREV, ATH_USERS, ATH_DIR, ATH_BAD, ATH_CNT_ENGAGE,
   ATH_CNT_RELEASE, ATH_LATCH_STATE, ATH_REL_SERVED, ATH_OUT]

/-- A place of one of these rows, in S. -/
def OutputPlace (k : PKey) : Prop := k.region = 8 ∧ ∃ d ∈ outputRows, d.block = k.block ∧ d.index = k.index

/-- A latest vote counted at S: of a lane it has not excluded, whose vote is not dropped, and not void (R331). -/
def State.countedVote (s : State) (l : LaneId) (v : VoteMsg) : Prop :=
  s.sdie.vote l.reg = some v ∧ s.rd 8 SVT_DEAD l.reg = 0 ∧ s.excl l.reg = false ∧ v.void = false

/-- A channel held off: a channel with a fault of any kind names it as its master, or the master it names is faulted (R331,
R339, R340). -/
def State.heldFor (s : State) (k : Nat) : Prop :=
  (∃ c, c < 64 ∧ s.rd 8 SEC_MASTER c = k ∧ s.rd 8 SEC_FAULT c ≠ 0) ∨
  (s.rd 8 SEC_MASTER k < 64 ∧ bit (s.rd 8 SEC_FAULTED) (s.rd 8 SEC_MASTER k) = true)

/-- A section S drives on: a vote is counted, every counted vote requests it, it is armed and in use, not faulted and not held
off (R331). -/
def State.sectionOn (s : State) (k : Nat) : Prop :=
  (∃ l v, s.countedVote l v) ∧ (∀ l v, s.countedVote l v → bit v.req k = true) ∧ bit (s.rd 8 SVT_ARMED) k = true ∧
    bit (s.rd 8 SEC_EN) k = true ∧ bit (s.rd 8 SEC_FAULTED) k = false ∧ ¬ s.heldFor k

/-- Every section output is what the vote gives it. -/
def State.voted (s : State) : Prop := ∀ k, k < 64 → (bit (s.rd 8 SVT_OUT) k = true ↔ s.sectionOn k)

/-- A link of the part whose die at this end runs, and which is up (R81, R87). -/
def LinkRuns (s : State) (k : Link) : Prop :=
  s.linkThere k = true ∧ s.dieUp k.near = true ∧ s.linkState k = 2

/-- A waybill to M takes effect there: one a lane relays is performed and reaches M, one at the service port is taken while M runs
on MXIN (R38, R535, R558). -/
def State.takes (s : State) (o : UpdSource) (h : Hdr) (opcode : Nat) : Prop :=
  match o with
  | .lane l => Performs s l h opcode ∧ s.reaches l .m = true
  | .service => s.mUp = true ∧ s.rd 7 SMC_MX_LOST = 0

/-- The answer at the service port: a failure, or a success where ACK_REQ asks for it, in a datagram from `SMC.SVC_IP` to the
waybill's source (R42, R69, R558). -/
def State.serviceAnswer (u : State) (h : Hdr) (opcode : Nat) (r : Rsp) : State :=
  if r.good = true ∧ h.ackReq = false then u
  else
    let rep : Reply := { flags := 1, opcode := opcode, seq := h.seq, status := r.status, region := 7, mask := 0, data := r.data }
    u.send (.service h.src { addr := u.rd 7 SMC_SVC_IP, frames := [udpPacket (u.rd 7 SMC_SVC_IP * 65536 + 48011) h.src rep.encode] } rep)

/-- From `u`, the state with the effect in M, to `t`, where the source has its answer. -/
def Finished (o : UpdSource) (h : Hdr) (opcode : Nat) (r : Rsp) (u t : State) : Prop :=
  match o with
  | .lane l => Performed l h opcode r u t
  | .service => t = u.serviceAnswer h opcode r

/-- A waybill to M that a check turns away with `r`. -/
def TurnedAway (o : UpdSource) (h : Hdr) (opcode : Nat) (r : Rsp) (s t : State) : Prop :=
  match o with
  | .lane l => Denied l h opcode r s t
  | .service => t = s.serviceAnswer h opcode r

end Sys2Proof.Machine
end

