-- ==== Sys2Proof/WellFormed.lean ====
section
/-! DEFINITION. The commands and records whose operands lie in the ranges the manual gives them. A command with an operand
outside is still a command of the table (its meaning answers or ignores it as the rules say); the encoders are lossless on the
well-formed ones. -/

namespace Sys2Proof

/-- The fields of a waybill fit their places (R35): the length field is the number of parameter bytes, at most 1,024. -/
def Waybill.ok (w : Waybill) : Bool :=
  decide (w.version < 256) && decide (w.flags < 256) && decide (w.opcode < 65536) && decide (w.seq < 65536) &&
    decide (w.consist < 65536) && decide (w.target < 65536) && w.plen == w.params.length && decide (w.params.length ≤ 1024) &&
    decide (w.commit < 2 ^ 32) && decide (w.crc < 2 ^ 32)

/-- The fields of an item fit their places, the value its length (R63). -/
def Item.ok (i : Item) : Bool := decide (i.id < 2 ^ 32) && decide (i.len < 65536) && decide (i.val < 256 ^ i.len)

/-- The fields of a compare-table entry fit their places (R317). -/
def TableEntry.ok (e : TableEntry) : Bool :=
  decide (-2 ^ 47 ≤ e.pos) && decide (e.pos < 2 ^ 47) && decide (e.flags < 256) && decide (e.tag < 256) &&
    decide (e.setM < 2 ^ 64) && decide (e.clrM < 2 ^ 64)

/-- The fields of a trigger descriptor fit their places (R437). -/
def OrderTrigger.ok (t : OrderTrigger) : Bool :=
  decide (t.kind < 256) && decide (t.flags < 256) && decide (t.argA < 2 ^ 32) && decide (t.argB < 2 ^ 32)

/-- A write of a burst lies within its line of 32 bytes (R462). -/
def LineXfer.ok : LineXfer → Bool
  | .read _ => true
  | .write _ off d => decide (1 ≤ d.length) && decide (off + d.length ≤ 32)

/-- The operands of an operation fit their places and the counts their limits (R62, R63, R64, R444). -/
def Op.ok : Op → Bool
  | .get ids => decide (1 ≤ ids.length) && decide (ids.length ≤ 64) && ids.all (fun x => decide (x < 2 ^ 32))
  | .set is => decide (1 ≤ is.length) && decide (is.length ≤ 64) && is.all Item.ok
  | .setStaged is => decide (1 ≤ is.length) && decide (is.length ≤ 64) && is.all Item.ok
  | .commit => true
  | .abortConsist => true
  | .steerTarget a => decide (-2 ^ 31 ≤ a) && decide (a < 2 ^ 31)
  | .brakeDemand a b c d => decide (a < 2 ^ 32) && decide (b < 2 ^ 32) && decide (c < 2 ^ 32) && decide (d < 2 ^ 32)
  | .hold m => decide (m < 16)
  | .release m => decide (m < 16)
  | .startDrive m k => decide (m < 64) && decide (k < 256)
  | .stopDrive m k => decide (m < 64) && decide (k < 256)
  | .tableLoad b es => decide (b < 2 ^ 32) && decide (es.length ≤ 42) && es.all TableEntry.ok
  | .tableAppend b es => decide (b < 2 ^ 32) && decide (es.length ≤ 42) && es.all TableEntry.ok
  | .arm m => decide (m < 2 ^ 64)
  | .disarm m => decide (m < 2 ^ 64)
  | .forceOff m => decide (m < 2 ^ 64)
  | .staffRequest x => decide (x < 256)
  | .relinquish => true
  | .rejoin x => decide (x < 256)
  | .excludeLane x => decide (x < 256)
  | .armReset n => decide (n < 2 ^ 32)
  | .confirmReset n => decide (n < 2 ^ 32)
  | .runRolling x => decide (x < 256)
  | .runConverter m => decide (m < 64)
  | .comparatorTest m => decide (m < 64)
  | .inject r src d => decide (r < 256) && decide (src < 256) && decide (d < 65536)
  | .powerState st p => decide (st < 256) && decide (p < 256)
  | .traceArm => true
  | .traceTrigger => true
  | .traceStop => true
  | .traceRead start n => decide (start < 2 ^ 32) && decide (n < 65536)
  | .traceStream _ => true
  | .archiveRead off n => decide (off < 2 ^ 32) && decide (n < 65536)
  | .logRead start n m => decide (start < 2 ^ 32) && decide (n < 65536) && decide (m < 65536)
  | .updateBegin total => decide (total < 2 ^ 32)
  | .updateChunk off d => decide (off < 2 ^ 32) && decide (1 ≤ d.length) && decide (d.length ≤ 1016)
  | .updateEnd => true
  | .attest part n => decide (part < 256) && (match n with
      | none => true
      | some x => decide (x.length = 32))
  | .lifecycleNonce => true
  | .lifecycleChunk off d => decide (off < 2 ^ 32) && decide (1 ≤ d.length) && decide (d.length ≤ 1016)
  | .lifecycleApply => true
  | .orderLoad o a t ws => decide (o < 256) && decide (a ≤ 1) && t.ok && decide (ws.length ≤ 32) && ws.all Waybill.ok
  | .orderStart o => decide (o < 256)
  | .orderStop o => decide (o < 256)
  | .otherKind oc k => decide (k < 256) && ((oc == 0x0601 && k != 1 && k != 2) || (oc == 0x0906 && decide (k > 2)))

/-- The operation a command spells, where it is an opcode performed directly in a lane. -/
def Instr.op? : Instr → Option Op
  | .get _ _ ids => some (.get ids)
  | .set _ _ is => some (.set is)
  | .setStaged _ _ is => some (.setStaged is)
  | .commit .. => some .commit
  | .abortConsist .. => some .abortConsist
  | .steerTarget _ _ a => some (.steerTarget a)
  | .brakeDemand _ _ a b c d => some (.brakeDemand a b c d)
  | .hold _ _ m => some (.hold m)
  | .release _ _ m => some (.release m)
  | .startDrive _ _ m k => some (.startDrive m k)
  | .stopDrive _ _ m k => some (.stopDrive m k)
  | .tableLoad _ _ b es => some (.tableLoad b es)
  | .tableAppend _ _ b es => some (.tableAppend b es)
  | .arm _ _ m => some (.arm m)
  | .disarm _ _ m => some (.disarm m)
  | .forceOff _ _ m => some (.forceOff m)
  | .staffRequest _ _ x => some (.staffRequest x)
  | .relinquish .. => some .relinquish
  | .rejoin _ _ x => some (.rejoin x)
  | .excludeLane _ _ x => some (.excludeLane x)
  | .armReset _ _ n => some (.armReset n)
  | .confirmReset _ _ n => some (.confirmReset n)
  | .selftestRunRolling _ _ x => some (.runRolling x)
  | .selftestRunConverter _ _ m => some (.runConverter m)
  | .comparatorTest _ _ m _ => some (.comparatorTest m)
  | .inject _ _ r src d => some (.inject r src d)
  | .powerState _ _ st p => some (.powerState st p)
  | .traceArm .. => some .traceArm
  | .traceTrigger .. => some .traceTrigger
  | .traceStop .. => some .traceStop
  | .traceRead _ _ a n => some (.traceRead a n)
  | .traceStream _ _ on => some (.traceStream on)
  | .archiveRead _ _ off n => some (.archiveRead off n)
  | .logRead _ _ a n m => some (.logRead a n m)
  | .updateBegin _ _ n => some (.updateBegin n)
  | .updateChunk _ _ off d => some (.updateChunk off d)
  | .updateEnd .. => some .updateEnd
  | .attest _ _ p n => some (.attest p n)
  | .lifecycleNonce .. => some .lifecycleNonce
  | .lifecycleChunk _ _ off d => some (.lifecycleChunk off d)
  | .lifecycleApply .. => some .lifecycleApply
  | .orderLoad _ _ o a t ws => some (.orderLoad o a t ws)
  | .orderStart _ _ o => some (.orderStart o)
  | .orderStop _ _ o => some (.orderStop o)
  | _ => none

/-- A command whose operands lie in the ranges the manual gives them: an opcode's operands fit its parameters; a bridge is 0
to 5, a switch 0 to 35, a feedback channel or a pair 0 to 7, a task 0 to 255, an order or a path 0 to 63, a section output 0
to 63, an authority output 0 to 7, a target 1 to 4, a rail 0 or 1, a calibrated core 0 to 41, a lock 0 or 1,
a checker group 0 to 511, a CAN identifier of 29 bits. -/
def Instr.ok (c : Instr) : Bool :=
  match c.op? with
  | some op => op.ok
  | none => match c with
    | .flitReceive _ w => decide (w < 2 ^ 128)
    | .flitNackReceive _ q => decide (q < 16)
    | .flitAckReceive _ q => decide (q < 16)
    | .dutyReceive _ b es => decide (b < 6) && es.all (fun e => decide (e.sw < 6))
    | .udpDatagramReceive _ _ p q _ => decide (p.length + q.length ≤ 1500)
    | .can0SegmentReceive _ f _ => decide (f.id < 2 ^ 29) && decide (f.data.length ≤ 64)
    | .lockstepMismatch _ d _ => d.groups.all (fun g => decide (g < 512)) && d.later.all (fun g => decide (g < 512))
    | .fabRequest _ rs _ => rs.all (fun x => x.xfer.all LineXfer.ok)
    | .syncDiffDetect _ i _ => decide (i < 64)
    | .stopRampEnd _ b => decide (b < 6)
    | .captureEnd _ b _ => decide (b < 6)
    | .prechargeEnd _ b => decide (b < 6)
    | .extrapTimeout _ b => decide (b < 6)
    | .hfiAlignEnd _ b _ => decide (b < 6)
    | .desatDetect _ sw _ => decide (sw < 36)
    | .desatBlankEnd _ sw _ _ => decide (sw < 36)
    | .hardShortDetect _ p _ _ => decide (p < 18)
    | .softOffStep2 _ sw => decide (sw < 36)
    | .softOffClamp _ sw => decide (sw < 36)
    | .gdrLatchClear _ _ b _ _ _ => decide (b < 6)
    | .shortZeroCrossing _ b _ => decide (b < 6)
    | .shortReleaseTimeout _ b => decide (b < 6)
    | .calSkipTimeout _ c => decide (c < 42)
    | .fbiEdgeAccept _ ch es _ _ => decide (ch < 8) && es.all (fun e => decide (e.wire < 3))
    | .fbiLineFault _ ch w => decide (ch < 8) && decide (w < 3)
    | .sincosPairReceive _ ch _ _ => decide (ch < 8)
    | .ssiFrameComplete _ ch _ _ _ => decide (ch < 8)
    | .fbiStandstillTimeout _ ch => decide (ch < 8)
    | .fbiFaultClear _ _ ch _ _ => decide (ch < 8)
    | .fbiIndexArm _ _ ch => decide (ch < 8)
    | .athPulseEnd a => decide (a < 8)
    | .athCoilFault a _ => decide (a < 8)
    | .secOffPulseStart k => decide (k < 64)
    | .secOffPulseEnd k _ _ => decide (k < 64)
    | .secReadbackFault k => decide (k < 64)
    | .secOvercurrent k => decide (k < 16)
    | .secOpenLoad k => decide (k < 16)
    | .secLeakage k => decide (k < 64)
    | .secFaultClear _ _ k _ _ => decide (k < 64)
    | .sioInputAccept _ n _ _ _ => decide (n < 17)
    | .testPulseStart _ n _ => decide (n < 4)
    | .testPulseEnd _ n _ => decide (n < 4)
    | .tpReadbackFault _ n => decide (n < 4)
    | .sioDiscrepancyTimeout _ p => decide (p < 8)
    | .tripApply _ f _ => decide (1 ≤ f) && decide (f ≤ 2)
    | .latchConfirmTimeout _ t => decide (1 ≤ t) && decide (t ≤ 4)
    | .twlFrameReceive _ r _ _ _ => decide (r < 2)
    | .twlPathStart _ p _ _ => decide (p < 64)
    | .lkgEnableOpen _ p _ => decide (p < 64)
    | .lkgEnableClose _ p _ => decide (p < 64)
    | .trxDriverOvercurrent _ r => decide (r < 2)
    | .taskEvent _ n _ => decide (n < 256)
    | .waitTimeout _ c => decide (c < 64)
    | .orderDelayExpiry _ o => decide (o < 64)
    | .lockHoldWrite _ u .. => decide (u < 2)
    | .lockRollbackWrite _ u .. => decide (u < 2)
    | .lockIdleTimeout _ u => decide (u < 2)
    | .fclSourceAssert _ src _ _ => decide (src < 64)
    | .fclQuietEnd _ src _ => decide (src < 64)
    | .injectEnd _ src => decide (src < 64)
    | .blockReady _ b => decide (b < 256)
    | .blockResetTimeout _ b => decide (b < 256)
    | .railFault _ r => decide (r < 5) && decide (r ≠ 1)
    | .dvfsChangeComplete _ p => decide (p < 3)
    | .converterTestComplete _ b _ => decide (b < 6)
    | .retentionRestoreRequest _ _ b => decide (b < 16)
    | .tagPortChange c _ => decide (c < 8)
    | .tagResponse c _ => decide (c < 8)
    | .tagTimeout c => decide (c < 8)
    | _ => true

end Sys2Proof
end

