-- ==== Sys2Proof/Certificates/Slice0/Obligations.lean ====
section
/-! DEFINITION. The statements: what the commands do, family by family, in terms of the rules of the manual. -/

open Sys2Proof Sys2Proof.Machine Sys2Proof.Machine.Par Sys2Proof.Machine.Var

/-! ### The block and its queue -/

/-- A step takes the command at the front of the queue and runs it on the state with the queue's rest. On an empty queue each lane's
waybill engine takes the waiting waybill whose turn it is, as soon as it is free, and with nothing waiting the block idles (the model's
choice, logs 1 and 16). -/
def Obligations.StepRunsTheFrontCommand : Prop :=
  (∀ (c : Instr) (rest : List Instr) (s : State), s.pending = c :: rest → step s = exec c { s with pending := rest }) ∧
  (∀ s : State, s.pending = [] → step s = .next (((s.engineTick .a).engineTick .b).engineTick .c)) ∧
  (∀ s : State, s.pending = [] → (∀ l, (s.lane l).wbe.inq = []) → step s = .next s) ∧
  (∀ (l : LaneId) (x : QueuedWb) (s : State) (t0 : Nat), s.hostUp l = true → (s.lane l).wbe.inq = [x] →
    t0 = max (s.lane l).wbe.busy x.at' →
    s.engineTick l = ((s.atTime t0).modWbe l (fun w => { w with inq := [], busy := t0 + 5000 })).process l x.wb t0) ∧
  (∀ (l : LaneId) (x y : QueuedWb), bit (byteAt x.wb.raw 1) 3 = true → bit (byteAt y.wb.raw 1) 3 = false →
    nextIn [y, x] = some x ∧ nextIn [x, y] = some x) ∧
  (∀ (x y : QueuedWb), bit (byteAt x.wb.raw 1) 3 = bit (byteAt y.wb.raw 1) 3 → x.at' / 5 = y.at' / 5 →
    portTurn x.wb.port < portTurn y.wb.port → nextIn [y, x] = some x ∧ nextIn [x, y] = some x)

/-- No command stops the block: every command, in every state, answers a next state; it touches neither the queue nor the part, and the
package time never goes back (R18). -/
def Obligations.EveryCommandAnswersANextState : Prop :=
  (∀ (c : Instr) (s : State), ∃ t, exec c s = .next t) ∧
  (∀ (c : Instr) (s t : State), exec c s = .next t → t.pending = s.pending ∧ t.part = s.part ∧ s.now ≤ t.now)

/-- The store of parameters keeps its canonical form in every step: places strictly rising, each value within the width of
its place and different from its reset value. So no parameter ever shows more bits than its map gives it. -/
def Obligations.StepKeepsTheStoreCanonical : Prop :=
  ∀ s t : State, step s = .next t → s.params.wf = true → t.params.wf = true

/-- At reset the store is canonical and lists nothing: every place reads its reset value, the queue is empty. -/
def Obligations.ResetReadsResetValues : Prop :=
  State.reset.params.wf = true ∧ (∀ k, State.reset.params.get k = resetOf k) ∧ State.reset.pending = [] ∧
    State.reset.sent = [] ∧ State.reset.rd 1 WBE_FORMAT_VERSION = 2 ∧ State.reset.rd 1 WBE_DUP_HOLD = 500 ∧
    State.reset.rd 2 WBE_CONSIST_IDLE = 500 ∧ State.reset.rd 3 WBE_COMMIT_HORIZON = 60000 ∧
    (∀ r, (classOf r 63 = 0) ∧ State.reset.rd r FCL_LATCHED = 0)

/-- A region a place names keeps that place through a canonical store: a parameter reads back what was written, cut to the
width of its row, and no other place changes. -/
def Obligations.WritingAParameterChangesOnlyIt : Prop :=
  ∀ (s : State) (r : Nat) (d : PDesc) (i v : Nat),
    (s.wr r d i v).rd r d i = v % 2 ^ widthOf (d.key r i) ∧ SameBut s (s.wr r d i v) [d.key r i]

/-! ### Identifiers, checks and bytes -/

/-- A parameter ID is 32 bits: region in [31:28], block in [27:20], index in [19:8], instance in [7:0]; a parameter with one
instance has instance 0; the manual's example decodes as it says (R9). -/
def Obligations.ParameterIdLayout : Prop :=
  (∀ id, PKey.ofId id = ⟨bits id 31 28, bits id 27 20, bits id 19 8, bits id 7 0⟩) ∧
  (∀ id, id < 2 ^ 32 → (PKey.ofId id).toId = id) ∧
  (∀ k : PKey, k.region < 16 → k.block < 256 → k.index < 4096 → k.inst < 256 → PKey.ofId k.toId = k ∧ k.toId < 2 ^ 32) ∧
  (∀ (d : PDesc) (r : Nat), (d.key r 0).inst = 0) ∧ PKey.ofId 0x11000402 = ⟨1, 0x10, 4, 2⟩

/-- The flit check: polynomial 0x1021 from 0xFFFF, unreflected, no final exclusive or: the check of bytes followed by one
more byte steps the remainder by that byte's eight bits, most significant first; "123456789" gives 0x29B1; a sealed flit
holds it in bits [127:112], its least significant byte in [119:112] (R83). -/
def Obligations.FlitCheckIsTheCrc16OfTheManual : Prop :=
  crc16 [] = 0xFFFF ∧
  (∀ (raw : List Byte) (b : Byte), crc16 (raw ++ [b]) = (List.range 8).foldl (fun c i =>
    let c2 := (c * 2) % 65536
    if (c.testBit 15).xor (b.getLsbD (7 - i)) then c2 ^^^ 0x1021 else c2) (crc16 raw)) ∧
  crc16 ("123456789".toList.map (fun c => byte c.toNat)) = 0x29B1 ∧
  (∀ low, low < 2 ^ 112 → bits (flitSeal low) 127 112 = crc16 (toLe 14 low) ∧ flitSeal low % 2 ^ 112 = low ∧
    bits (flitSeal low) 119 112 = crc16 (toLe 14 low) % 256)

/-- A message travels whole: its payloads joined give back its length and its bytes, a flit made of a payload passes its
check, carries its fields where R82 places them, and gives the payload back. -/
def Obligations.FlitsCarryAMessageWhole : Prop :=
  (∀ msg : List Byte, msg.length < 65536 →
    (messagePayloads msg).flatten = toLe 2 msg.length ++ msg ∧ ∀ p ∈ messagePayloads msg, p.length ≤ 12) ∧
  (∀ (type src seq : Nat) (first last : Bool) (p : List Byte), type < 16 → src < 16 → seq < 16 → p.length = 12 →
    flitOk (flitWord type src seq first last p) = true ∧ flitPayload (flitWord type src seq first last p) = p ∧
    bits (flitWord type src seq first last p) 3 0 = type ∧ bits (flitWord type src seq first last p) 7 4 = src ∧
    bits (flitWord type src seq first last p) 11 8 = seq ∧ bit (flitWord type src seq first last p) 12 = first ∧
    bit (flitWord type src seq first last p) 13 = last)

/-- The bytes of a well-formed waybill parse back to it, whatever its fields, and its check is over its header and its
parameters (R35, R37). -/
def Obligations.WaybillBytesParseBack : Prop :=
  ∀ w : Waybill, w.ok = true → Waybill.parse w.encode = w ∧ w.encode.length = 20 + w.plen ∧
    (Waybill.parse w.encode).crcOf = crc32c (w.encode.take (16 + w.plen))

/-- Every operation of the opcode table, with every operand at every value its parameters admit, is read back whole from the
parameters that carry it (R62, R63, R64). -/
def Obligations.OperationsParseBack : Prop :=
  ∀ op : Op, op.ok = true → parseOp (opcodeOf op) (opBytes op) = .ok op

/-- The messages between dies have the lengths the manual gives them: an exchange frame 64 bytes, a vote message 24, an S
echo 16, a STAFF message 10, a TRIP message 10, these two in one
flit each (R88, R90, R132, R330, R356). A STAFF message lies as R132 lays it out: kind, sender below subject in one byte, epoch, lease, reason, cycle. -/
def Obligations.MessageBytes : Prop :=
  ((∀ f : ExchFrame, f.idq.length = 12 → f.angles.length = 6 → (exchBytes f).length = 64) ∧
  (∀ v, (voteBytes v).length = 24) ∧ (∀ e, (echoBytes e).length = 16) ∧ (∀ m, (staffBytes m).length = 10) ∧
  (∀ m, (tripBytes m).length = 10) ∧ (∀ m, (messagePayloads (staffBytes m)).length = 1) ∧
  (∀ m, (messagePayloads (tripBytes m)).length = 1)) ∧
  (∀ m : StaffMsg, m.kind < 256 → m.sender < 16 → m.subject < 16 → m.epoch < 2 ^ 32 → m.lease < 256 → m.reason < 256 →
    m.cycle < 65536 →
    byteAt (staffBytes m) 0 = m.kind ∧ byteAt (staffBytes m) 1 = m.sender + 16 * m.subject ∧ fieldLe (staffBytes m) 2 4 = m.epoch ∧
      byteAt (staffBytes m) 6 = m.lease ∧ byteAt (staffBytes m) 7 = m.reason ∧ fieldLe (staffBytes m) 8 2 = m.cycle)
/-! ### The waybill engine -/

/-- What is received and what runs out. A waybill that reaches an idle engine through an enabled port is taken through the
acceptance checks at once, which keeps the engine for 5 µs (R39, R47; log 16); one that reaches a busy engine waits in the queue (R49); at a
disabled port nothing happens; a full queue drops it and counts it, and the SPI slave keeps it in the receive buffer (R49, R67). The hold
of a duplicate entry ends (R45). An idle consist is discarded with no reply to a member and counted; one whose COMMIT is accepted is not
idle (R55). The first checks of a waybill that reaches an idle engine at the 100BASE-T1 port, in their order (R39, R40): a wrong
length is answered BAD_LENGTH with both lengths, then a wrong check BAD_CRC, then a wrong version RANGE; nothing of the
waybill takes effect; the reply to a VOTED one with a wrong version names the lanes that hold a matching copy (R41). One that passes its
checks, is no duplicate, unvoted and for now takes the effect of its opcode.
Each of these answers a next state with its own effect, on the conditions its clauses put on the state and the operands alone:
WAYBILL_RECEIVE, DUP_HOLD_EXPIRY, CONSIST_IDLE_TIMEOUT. -/
def Obligations.ReceivingAndExpiry : Prop :=
  ((∀ (l : LaneId) (p : Port) (src : Nat) (raw : List Byte) (t0 : Nat) (s : State), s.hostUp l = true →
    s.portOn l p = true → (s.lane l).wbe.inq = [] →
    ((s.lane l).wbe.busy ≤ t0 → Runs (.waybillReceive l p src raw t0) s (fun t =>
      t = ((s.atTime t0).modWbe l (fun w => { w with busy := t0 + 5000 })).process l ⟨p, src, raw⟩ t0)) ∧
    (t0 < (s.lane l).wbe.busy → Runs (.waybillReceive l p src raw t0) s (fun t =>
      t = (s.atTime t0).modWbe l (fun w => { w with inq := [⟨t0, ⟨p, src, raw⟩⟩] })))) ∧
  (∀ (l : LaneId) (p : Port) (src : Nat) (raw : List Byte) (t0 : Nat) (s : State), s.portOn l p = false →
    Runs (.waybillReceive l p src raw t0) s (fun t => t = s.atTime t0)) ∧
  (∀ (l : LaneId) (p : Port) (src : Nat) (raw : List Byte) (t0 : Nat) (s : State), s.hostUp l = true →
    s.portOn l p = true → s.inRoom l raw = false → t0 < (s.lane l).wbe.busy →
    (p ≠ .spi → Runs (.waybillReceive l p src raw t0) s (fun t => SameButAt t0 s t [WBE_CNT_DROP.key l.reg p.num] ∧
      Counted s t l.reg WBE_CNT_DROP p.num)) ∧
    (p = .spi → badAtOnce raw = false → Runs (.waybillReceive l p src raw t0) s (fun t =>
      t = (s.atTime t0).modHst l (fun x => { x with spiBuf := some raw, bufGen := src })))) ∧
  (∀ (l : LaneId) (p : Port) (seq : Nat) (s : State), s.hostUp l = true →
    Runs (.dupHoldExpiry l p seq) s (fun t => t = s.modWbe l (fun w => { w with dup := (t.lane l).wbe.dup }) ∧
      ∀ e, e ∈ (t.lane l).wbe.dup ↔ e ∈ (s.lane l).wbe.dup ∧ ¬ (e.port = p ∧ e.seq = seq))) ∧
  (∀ (l : LaneId) (p : Port) (id : Nat) (s : State) (c : Consist), s.hostUp l = true →
    s.consist l p id = some c → c.closed = false → locksIn (c.writes.map PWrite.k) = [] →
    Runs (.consistIdleTimeout l p id) s (fun t => t.sent = s.sent ∧ t.consist l p id = none ∧ SameOtherLanes s t l ∧
      Counted s t l.reg WBE_CNT_CONSIST_DISCARD ∧
      SamePlaces s t [WBE_CNT_CONSIST_DISCARD.key l.reg 0])) ∧
  (∀ (l : LaneId) (p : Port) (id : Nat) (s : State) (c : Consist), s.hostUp l = true →
    s.consist l p id = some c → c.closed = true → Runs (.consistIdleTimeout l p id) s (fun t => t = s))) ∧
  (∀ (l : LaneId) (src : Nat) (raw : List Byte) (t0 : Nat) (s : State), s.hostUp l = true → s.portOn l .t1 = true →
    (s.lane l).wbe.inq = [] → (s.lane l).wbe.busy ≤ t0 →
    Runs (.waybillReceive l .t1 src raw t0) s (fun t =>
      let h := (Waybill.parse raw).hdr .t1 src
      let refused (r : Rsp) (mask : Nat := 0) : Prop :=
        t.sent = s.sent ++ [s.replyT1 l src (mkReply l h (Waybill.parse raw).opcode r true false mask)] ∧ ∀ k, NoReplyPlace l k → t.params.get k = s.params.get k
      (fieldLe raw 10 2 ≤ 1024 → raw.length ≠ 20 + fieldLe raw 10 2 → refused (rBadLength raw.length (20 + fieldLe raw 10 2))) ∧
      (fieldLe raw 10 2 > 1024 → refused (rBadLength raw.length 0)) ∧
      (fieldLe raw 10 2 ≤ 1024 → raw.length = 20 + fieldLe raw 10 2 → (Waybill.parse raw).crc ≠ (Waybill.parse raw).crcOf →
        refused rBadCrc) ∧
      (fieldLe raw 10 2 ≤ 1024 → raw.length = 20 + fieldLe raw 10 2 → (Waybill.parse raw).crc = (Waybill.parse raw).crcOf →
        (Waybill.parse raw).version ≠ 2 → refused (rRange 0 0) (if h.voted then s.heldMask l h raw else 0)))) ∧
  (∀ (l : LaneId) (src : Nat) (raw : List Byte) (t0 : Nat) (op : Op) (s : State), s.hostUp l = true → s.portOn l .t1 = true →
    (s.lane l).wbe.inq = [] → (s.lane l).wbe.busy ≤ t0 →
    let w := Waybill.parse raw
    let h := w.hdr .t1 src
    let v := (s.atTime t0).modWbe l (fun w => { w with busy := t0 + 5000 })
    let u := v.noteDup l h w
    v.frontChecks l .t1 w h raw = .ok op → v.dupOf l .t1 w.seq = none → u.midChecks l h (opcodeOf op) = none → h.voted = false →
    h.commit = 0 → h.region < 7 → opcodeOf op ≠ 0x0104 →
    (∀ items, op = .setStaged items → u.shared l h 0x0103 (u.chkStage l h items) = none → Runs (.waybillReceive l .t1 src raw t0) s (fun t =>
      t = (((u.stage l h items).1).noteParams l h op raw).outcome l h 0x0103 (u.stage l h items).2 0)) ∧
    (opcodeOf op ≠ 0x0103 → Runs (.waybillReceive l .t1 src raw t0) s (fun t => t = u.direct l h op ∧ (∀ ids, op = .get ids → exec (.get l h ids) u = .next t) ∧
      ∀ items, op = .set items → exec (.set l h items) u = .next t)))

/-- GET and SET (R59, R63, R64). A GET of one ID that passes the common checks is answered with the item of that place: its
ID, OK, its length and its value, or RANGE where it does not read; a counter that reading clears is cleared. A GET of nothing but values
of S that STATUS carries is answered from the lane's own view of S (R333; the model's reading, log 75). A SET whose checks pass, and
which is no staff function left to the holder (log 73), writes its set whole, and each plain value it names in a block whose commit changes no other value reads as
written.
Each of these answers a next state with its own effect, on the conditions its clauses put on the state and the operands alone: GET, SET. -/
def Obligations.GetAndSet : Prop :=
  (∀ (l : LaneId) (h : Hdr) (id : Nat) (s : State), s.pairUp l = true → s.shared l h 0x0101 (chkGet h [id]) = none →
    s.ownView l [id] = false →
    Runs (.get l h [id]) s (fun t => ∃ u data, Performed l h 0x0101 (rOk data) u t ∧ data = (s.draw).2.getItem (PKey.ofId id) ∧
      SameBut (s.draw).2 u [PKey.ofId id] ∧
      (∀ d, lookup (PKey.ofId id) = some d → s.readable (PKey.ofId id) = true → s.gatedKey (PKey.ofId id) = false →
        data = toLe 4 (PKey.ofId id).toId ++ toLe 2 0 ++ toLe 2 (cdiv d.width 8) ++
          pad4 (toLe (cdiv d.width 8) (if d.acc = .wo then 0 else (s.draw).2.readKey (PKey.ofId id))) ∧
        u.params.get (PKey.ofId id) = if d.acc = .rc then 0 else s.params.get (PKey.ofId id)))) ∧
  (∀ (l : LaneId) (h : Hdr) (ids : List Nat) (s : State), s.pairUp l = true → s.shared l h 0x0101 (chkGet h ids) = none →
    s.ownView l ids = true → Runs (.get l h ids) s (fun t => Performed l h 0x0101 (rOk (s.viewItems l ids)) s t)) ∧
  (∀ (l : LaneId) (h : Hdr) (items : List Item) (s : State), s.pairUp l = true →
    s.shared l h 0x0102 (s.opChk l h (.set items)) = none → s.leavesToHolder l h (staffFn (.set items)) = false →
    (writesOf 20 items).all (fun w => !w.k.isOf FAB_LOCK_HOLD) = true →
    Runs (.set l h items) s (fun t => ∃ u r, Performed l h 0x0102 r u t ∧
      (u, r) = s.applyWrites l (s.rd l.reg STF_EPOCH) h.region (writesOf 20 items))) ∧
  (∀ (l : LaneId) (h : Hdr) (i : Item) (s : State) (d : PDesc), s.pairUp l = true →
    s.shared l h 0x0102 (s.opChk l h (.set [i])) = none → lookup (PKey.ofId i.id) = some d →
    (PKey.ofId i.id).plain = true → d.acc = .rws → h.region = l.pow → h.block = 0x20 →
    Runs (.set l h [i]) s (fun t => ∃ u, Performed l h 0x0102 rOk u t ∧ u.params.get (PKey.ofId i.id) = i.val ∧
      SamePlaces s u [PKey.ofId i.id] ∧ u.sent = s.sent))

/-- The opcodes of consists. A SET_STAGED that passes its checks adds its member to its consist, or opens it, and changes no
value (R53). A COMMIT with instant 0 of a consist without a failed member, whose set is consistent, writes the members' values
in order of arrival and answers them; a COMMIT or an ABORT_CONSIST of a consist that is not open is RANGE at the consist ID (the model's
choice, log 60); an ABORT_CONSIST discards its consist, counted (R55 to R57).
Each of these answers a next state with its own effect, on the conditions its clauses put on the state and the operands alone: SET_STAGED,
COMMIT, ABORT_CONSIST. -/
def Obligations.ConsistOpcodes : Prop :=
  (∀ (l : LaneId) (h : Hdr) (items : List Item) (s : State), s.pairUp l = true →
    s.shared l h 0x0103 (s.chkStage l h items) = none → locksIn ((writesOf 20 items).map PWrite.k) = [] →
    ((writesOf 20 items).map PWrite.k).any sharedKey = false →
    Runs (.setStaged l h items) s (fun t =>
      (∃ c, t.consist l h.port h.consist = some c ∧ c.members.getLast? = some { hdr := h, op := .setStaged items, params := itemBytes items } ∧
        c.members.length = ((s.consist l h.port h.consist).map (fun c => c.members.length)).getD 0 + 1) ∧
      ∀ k, NoReplyPlace l k → t.params.get k = s.params.get k)) ∧
  (∀ (l : LaneId) (h : Hdr) (s : State) (c : Consist), s.pairUp l = true → s.shared l h 0x0104 none = none → h.commit = 0 →
    s.consist l h.port h.consist = some c → c.closed = false → c.failed = none → s.chkSetOf l c = none →
    (s.modConsist l h.port h.consist (fun c => { c with closed := true })).chkConsist l h { c with closed := true } = none →
    Runs (.commit l h) s (fun t => ∃ u, Performed l h 0x0104 rOk u t ∧
      u = ((((s.modConsist l h.port h.consist (fun c => { c with closed := true })).closeConsist l { c with closed := true }).applyWrites
        l (s.rd l.reg STF_EPOCH) c.region c.writes).1).answerMembers l { c with closed := true } rOk)) ∧
  (∀ (l : LaneId) (h : Hdr) (s : State), s.pairUp l = true → s.shared l h 0x0104 none = none → h.commit = 0 →
    (s.consist l h.port h.consist = none ∨ ∃ c, s.consist l h.port h.consist = some c ∧ c.closed = true) →
    Runs (.commit l h) s (fun t => (∀ k, NoReplyPlace l k → t.params.get k = s.params.get k) ∧
      (h.port = .t1 → t.sent = s.sent ++ [s.replyT1 l h.src (mkReply l h 0x0104 (rRange 0 6) true false 0)]))) ∧
  (∀ (l : LaneId) (h : Hdr) (s : State), s.pairUp l = true → s.shared l h 0x0105 none = none →
    (s.consist l h.port h.consist = none ∨ ∃ c, s.consist l h.port h.consist = some c ∧ c.closed = true) →
    Runs (.abortConsist l h) s (fun t => (∀ k, NoReplyPlace l k → t.params.get k = s.params.get k) ∧
      (h.port = .t1 → t.sent = s.sent ++ [s.replyT1 l h.src (mkReply l h 0x0105 (rRange 0 6) true false 0)]))) ∧
  (∀ (l : LaneId) (h : Hdr) (s : State) (c : Consist), s.pairUp l = true → s.shared l h 0x0105 none = none →
    s.consist l h.port h.consist = some c → c.closed = false → locksIn (c.writes.map PWrite.k) = [] →
    Runs (.abortConsist l h) s (fun t => t.consist l h.port h.consist = none ∧ ∃ u, Performed l h 0x0105 rOk u t ∧
      SamePlaces s u [WBE_CNT_CONSIST_DISCARD.key l.reg 0] ∧
      Counted s u l.reg WBE_CNT_CONSIST_DISCARD))

/-- The commit instant and the relays. At a cycle start the one held unvoted waybill that is due takes effect and leaves the
queue; a lane that is not synchronised waits (R51, R58). A relay's answer, or RANGE after 2 ms without one, is the final
answer of the waybill relayed, or its interim answer where it is a member of a consist (R42), which is no longer awaited; an answer no longer awaited is discarded; M and S answer a relayed
waybill of another die or of an opcode they do not have with a failure and no effect (R38, R39).
Each of these answers a next state with its own effect, on the conditions its clauses put on the state and the operands alone:
COMMIT_INSTANT_REACHED, RELAY_TIMEOUT, RELAY_RECEIVE, RELAY_REPLY_RECEIVE, ANNOUNCE_RECEIVE (the copy a peer announces stands in the record,
from which its commit instant is found: R100). -/
def Obligations.CommitInstantsAndRelays : Prop :=
  (∀ (l a : LaneId) (stamp crc : Nat) (raw : List Byte) (s : State), s.up l = true → a ≠ l → s.hasRegion a.reg = true →
    (s.lane l).vot.agreed = [] → (s.lane l).vot.waiting = [] → Runs (.announceReceive l a stamp raw crc) s (fun t =>
      (∃ c ∈ (t.lane l).vot.copies, c.lane = a ∧ c.stamp = stamp ∧ c.raw = raw ∧ c.crc = crc ∧ c.own = none) ∧ (∀ c ∈ (s.lane l).vot.copies,
        c ∈ (t.lane l).vot.copies) ∧ t.params = s.params ∧ t.sent = s.sent ∧ SameOtherLanes s t l)) ∧
  (∀ (l : LaneId) (s u : State) (e : HeldWb), s.hostUp l = true → s.synced l = true → s.rdB l.reg WBE_RESYNC = false →
    (s.lane l).wbe.commitQ = [e] → e.voted = false → e.hdr.voted = false → s.cycleDue l e.at' = true → e.op ≠ .commit → e.hdr.region < 7 →
    ofConsist (opcodeOf e.op) = false → u = s.modWbe l (fun w => { w with commitQ := [] }) →
    u.shared l e.hdr (opcodeOf e.op) (u.opChk l e.hdr e.op) = none → (s.lane l).vot.waiting = [] → (s.lane l).vot.copies = [] →
    Runs (.commitInstantReached l) s (fun t => t = (u.opEff l e.hdr e.op).1.answer l e.hdr (opcodeOf e.op) (u.opEff l e.hdr e.op).2
      true false 0)) ∧
  (∀ (l : LaneId) (s : State), s.synced l = false → Runs (.commitInstantReached l) s (fun t => t = s)) ∧
  (∀ (l : LaneId) (tag : Nat) (s : State) (x : RelayWait) (h : Hdr), s.hostUp l = true → s.relayOf l tag = some x →
    x.hdr = some h → x.key = none → x.consist = none → x.also = [] → h.port = .t1 →
    Runs (.relayTimeout l tag) s (fun t => t.sent = s.sent ++ [s.replyT1 l h.src (mkReply l h x.opcode (rRange 0 8) true false x.mask)] ∧
      t.relayOf l tag = none ∧ (∀ k, NoReplyPlace l k → t.params.get k = s.params.get k) ∧ SameOtherLanes s t l)) ∧
  (∀ (l : LaneId) (tag : Nat) (r : Reply) (s : State) (x : RelayWait) (h : Hdr), s.hostUp l = true → s.relayOf l tag = some x →
    x.hdr = some h → x.key = none → x.consist = none → x.also = [] → h.port = .t1 → h.ackReq = true →
    Runs (.relayReplyReceive l tag r) s (fun t =>
      t.sent = s.sent ++ [s.replyT1 l h.src (mkReply l h x.opcode ⟨r.status, r.data⟩ (!interim x.opcode ⟨r.status, r.data⟩)
        (interim x.opcode ⟨r.status, r.data⟩) x.mask)] ∧
      t.relayOf l tag = none ∧ (∀ k, NoReplyPlace l k → t.params.get k = s.params.get k) ∧ SameOtherLanes s t l)) ∧
  (∀ (l : LaneId) (tag : Nat) (r : Reply) (s : State), s.relayOf l tag = none →
    Runs (.relayReplyReceive l tag r) s (fun t => t = s) ∧ Runs (.relayTimeout l tag) s (fun t => t = s)) ∧
  (∀ (d : Shared) (l : LaneId) (tag epoch : Nat) (w : Waybill) (s : State), s.sharedUp d = true →
    Runs (.relayReceive d l tag epoch w) s (fun t =>
      t = ((s.relayIn d l epoch w).1).send (.relayReply d l tag (dieReply l w (s.relayIn d l epoch w).2)) ∧
      (w.region ≠ d.reg → t = s.send (.relayReply d l tag (dieReply l w (rRange 0 8)))) ∧
      (w.region = d.reg → blockIn w.region w.block = true → opcodeIn w.opcode w.region w.block l.reg l.pow = false →
        t = s.send (.relayReply d l tag (dieReply l w rUnknown))) ∧
      (∀ ids, w.region = d.reg → blockIn w.region w.block = true → opcodeIn w.opcode w.region w.block l.reg l.pow = true →
        parseOp w.opcode w.params = .ok (.get ids) → chkGet (w.hdr .spi 0) ids = none →
        t = (s.effGet ids).1.send (.relayReply d l tag (dieReply l w (s.effGet ids).2)))))


/-! ### The host ports -/

/-- The SPI slave (R66, R67). Every transaction shifts out the status byte first. SPI_CLEAR clears OVERRUN; a WRITE begun
while RX_SPACE is clear is discarded, sets OVERRUN and is counted, another is taken to the engine; a READ shifts out the
oldest reply, padded with zeros, and removes it once all of its bytes are out; a kept reply enters the queue where an entry is
free, and the waybill in the receive buffer enters the input queue where that has room, also after the port has been disabled. The attention output is low while a reply is
held, and high again once it has been read. A disabled port is silent.
Each of these answers a next state with its own effect, on the conditions its clauses put on the state and the operands alone: SPI_STATUS,
SPI_WRITE, SPI_READ, SPI_CLEAR, SPI_BUFFER_DRAIN, SPI_REPLY_ENQUEUE. -/
def Obligations.SpiPort : Prop :=
  (∀ (l : LaneId) (s : State), s.hostUp l = true → s.spiOn l = true →
    Runs (.spiStatus l) s (fun t => t = { s with sent := s.sent ++ [.spi l [byte (s.spiByte l)]] }) ∧
    Runs (.spiClear l) s (fun t => t = ({ s with sent := s.sent ++ [.spi l [byte (s.spiByte l)]] } : State).modHst l
      (fun x => { x with overrun := false }))) ∧
  (∀ (l : LaneId) (raw : List Byte) (t0 : Nat) (s : State), s.hostUp l = true → s.spiOn l = true →
    (s.rxSpace l = false → Runs (.spiWrite l raw t0) s (fun t => (t.lane l).hst = { (s.lane l).hst with overrun := true } ∧
      t.sent = s.sent ++ [.spi l [byte (s.spiByte l)]] ∧ SamePlaces s t [HST_CNT_SPI_OVR.key l.reg 0] ∧ SameOtherLanes s t l ∧
      Counted s t l.reg HST_CNT_SPI_OVR)) ∧
    (s.rxSpace l = true → (s.lane l).wbe.inq = [] → ∀ u, u = ({ s.atTime t0 with sent := s.sent ++ [.spi l [byte (s.spiByte l)]] } : State) →
      ((s.lane l).wbe.busy ≤ t0 → Runs (.spiWrite l raw t0) s (fun t =>
        t = (u.modWbe l (fun w => { w with busy := t0 + 5000 })).process l ⟨.spi, (s.lane l).hst.gen, raw⟩ t0)) ∧
      (t0 < (s.lane l).wbe.busy → Runs (.spiWrite l raw t0) s (fun t =>
        t = u.modWbe l (fun w => { w with inq := [⟨t0, ⟨.spi, (s.lane l).hst.gen, raw⟩⟩] }))))) ∧
  (∀ (l : LaneId) (count : Nat) (s : State) (r : Reply) (rest : List Reply), s.hostUp l = true → s.spiOn l = true →
    (s.lane l).hst.spiReplies = r :: rest → Runs (.spiRead l count) s (fun t =>
      t.sent = s.sent ++ [.spi l (byte (s.spiByte l) :: padTo count r.encode)] ∧ t.params = s.params ∧ SameOtherLanes s t l ∧
      (t.lane l).hst.spiReplies = (if count ≥ r.encode.length then rest else r :: rest) ∧
      s.satnLow l = s.on l.reg ∧ (rest = [] → (s.lane l).wbe.kept = [] → r.encode.length ≤ count → t.satnLow l = false))) ∧
  (∀ (l : LaneId) (count : Nat) (s : State), s.hostUp l = true → s.spiOn l = true → (s.lane l).hst.spiReplies = [] →
    Runs (.spiRead l count) s (fun t =>
      t = { s with sent := s.sent ++ [.spi l (byte (s.spiByte l) :: List.replicate count 0)] })) ∧
  (∀ (l : LaneId) (s : State) (r : Reply) (rest : List Reply), s.hostUp l = true → (s.lane l).wbe.kept = r :: rest →
    (s.lane l).hst.spiReplies.length < 16 → Runs (.spiReplyEnqueue l) s (fun t => t.params = s.params ∧ t.sent = s.sent ∧
      (t.lane l).wbe = { (s.lane l).wbe with kept := rest } ∧ SameOtherLanes s t l ∧
      (t.lane l).hst = { (s.lane l).hst with spiReplies := (s.lane l).hst.spiReplies ++ [r] })) ∧
  (∀ (l : LaneId) (t0 : Nat) (s : State) (raw : List Byte), s.hostUp l = true →
    (s.lane l).hst.spiBuf = some raw → (s.lane l).wbe.inq = [] → (s.lane l).wbe.busy ≤ t0 → Runs (.spiBufferDrain l t0) s (fun t =>
      t = (((s.atTime t0).modHst l (fun x => { x with spiBuf := none })).modWbe l (fun w => { w with busy := t0 + 5000 })).process l
        ⟨.spi, (s.lane l).hst.bufGen, raw⟩ t0)) ∧
  (∀ (l : LaneId) (s : State), s.spiOn l = false →
    Runs (.spiStatus l) s (fun t => t = s) ∧ Runs (.spiClear l) s (fun t => t = s) ∧ ∀ n, Runs (.spiRead l n) s (fun t => t = s))

/-- The other ports. An Ethernet frame with a VLAN tag, a fragment or a packet whose checksums fail is dropped and counted; the waybills of
another are taken in order, at a lane or at M's service port, which is silent while MXIN is lost (R65, R69, R535, R558; the layout of IPv4
and UDP is log 58); a packet for another address is not for the port; an ARP request for its address and an ICMP echo request are
answered (R65; their layouts are log 58). A CAN0 segment with the request identifier, FIRST and index 0 starts
a waybill, one that continues it with LAST completes it, another index or the time limit of a segment discards it, counted; a frame with
another identifier is none (R70, R71). Bus-off is counted in its port's byte (R71). CAN1 and its address. A proprietary A message is a waybill of every lane at its own CAN1 port (R73, R74). The holder whose
wait has ended claims its address, counted as claimed at once (R72, R122; log 48). A claim of its address by a NAME of higher
priority, the smaller number (log 41), takes it; against another NAME the lane claims again; a lane that may not transmit on
CAN1 sends nothing (R110, R114).
Each of these answers a next state with its own effect, on the conditions its clauses put on the state and the operands alone:
UDP_DATAGRAM_RECEIVE, CAN0_SEGMENT_RECEIVE, CAN0_SEGMENT_TIMEOUT, CAN_BUS_OFF, ISO_PROPRIETARY_A_RECEIVE, ISO_ADDRESS_CLAIM_RECEIVE,
ISO_ADDRESS_CLAIM_SEND. -/
def Obligations.NetworkPorts : Prop :=
  ((∀ (l : LaneId) (tagged : Bool) (header body : List Byte) (t0 : Nat) (s : State), s.hostUp l = true → s.portOn l .t1 = true →
    ∀ v, v = udpJudge (s.rd l.reg HST_IP_ADDR) (s.rd l.reg HST_UDP_PORT) tagged (header ++ body) →
    (tagged = true → v = .drop) ∧
    (v = .drop → Runs (.udpDatagramReceive (some l) tagged header body t0) s (fun t => SameButAt t0 s t [HST_CNT_UDP_DROP.key l.reg 0] ∧
      Counted s t l.reg HST_CNT_UDP_DROP)) ∧
    (v = .ignore → Runs (.udpDatagramReceive (some l) tagged header body t0) s (fun t =>
      t = match ethAnswer (s.rd l.reg HST_IP_ADDR) (s.macOf l) (header ++ body) with
        | some p => (s.atTime t0).send (.eth l p)
        | none => s.atTime t0)) ∧
    (∀ src payload, v = .take src payload → (s.lane l).wbe.inq = [] → (s.lane l).wbe.busy ≤ t0 → payload ≠ [] →
      payload.length = 20 + fieldLe payload 10 2 → fieldLe payload 10 2 ≤ 1024 →
      Runs (.udpDatagramReceive (some l) tagged header body t0) s (fun t =>
        t = ((s.atTime t0).modWbe l (fun w => { w with busy := t0 + 5000 })).process l ⟨.t1, src, payload⟩ t0))) ∧
  (∀ (tagged : Bool) (header body : List Byte) (t0 : Nat) (s : State), s.mUp = true →
    (s.rdB 7 SMC_MX_LOST = true → Runs (.udpDatagramReceive none tagged header body t0) s (fun t => t = s.atTime t0)) ∧
    (∀ src payload, s.rdB 7 SMC_MX_LOST = false → udpJudge (s.rd 7 SMC_SVC_IP) 48011 tagged (header ++ body) = .take src payload →
      payload.length = 20 + fieldLe payload 10 2 → fieldLe payload 10 2 ≤ 1024 →
      Runs (.udpDatagramReceive none tagged header body t0) s (fun t => t = (s.atTime t0).serviceIn src payload)) ∧
    (udpJudge (s.rd 7 SMC_SVC_IP) 48011 tagged (header ++ body) = .drop → Runs (.udpDatagramReceive none tagged header body t0) s (fun t =>
      t = s.atTime t0))) ∧
  (∀ (l : LaneId) (id : Nat) (frame : List Byte) (t0 : Nat) (s : State), s.hostUp l = true → s.portOn l .can0 = true →
    (id ≠ s.rd l.reg HST_CAN0_REQ_ID → Runs (.can0SegmentReceive l ⟨id, frame⟩ t0) s (fun t => t = s.atTime t0)) ∧
    (id = s.rd l.reg HST_CAN0_REQ_ID → byteAt frame 0 = 128 → frame.length = 64 → (s.lane l).hst.canPart = none →
      Runs (.can0SegmentReceive l ⟨id, frame⟩ t0) s (fun t =>
        t = (s.atTime t0).modHst l (fun x => { x with canPart := some (frame.drop 1, 1) }))) ∧
    (∀ part n, id = s.rd l.reg HST_CAN0_REQ_ID → (s.lane l).hst.canPart = some (part, n) → byteAt frame 0 = n → n < 64 →
      frame.length = 64 → Runs (.can0SegmentReceive l ⟨id, frame⟩ t0) s (fun t =>
        t = (s.atTime t0).modHst l (fun x => { x with canPart := some (part ++ frame.drop 1, n + 1) }))) ∧
    (∀ part n, id = s.rd l.reg HST_CAN0_REQ_ID → (s.lane l).hst.canPart = some (part, n) → byteAt frame 0 = 64 + n → n < 64 →
      (s.lane l).wbe.inq = [] → (s.lane l).wbe.busy ≤ t0 →
      Runs (.can0SegmentReceive l ⟨id, frame⟩ t0) s (fun t =>
        t = (((s.atTime t0).modHst l (fun x => { x with canPart := none })).modWbe l (fun w => { w with busy := t0 + 5000 })).process l
          ⟨.can0, 0, cutPadding (part ++ frame.drop 1)⟩ t0)) ∧
    (∀ part n, id = s.rd l.reg HST_CAN0_REQ_ID → (s.lane l).hst.canPart = some (part, n) → byteAt frame 0 < 64 → byteAt frame 0 ≠ n →
      Runs (.can0SegmentReceive l ⟨id, frame⟩ t0) s (fun t => (t.lane l).hst = { (s.lane l).hst with canPart := none } ∧ t.sent = s.sent ∧
        SamePlaces s t [HST_CNT_SEG_ERR.key l.reg 0] ∧ SameOtherLanes s t l ∧
        Counted s t l.reg HST_CNT_SEG_ERR))) ∧
  (∀ (l : LaneId) (s : State), s.hostUp l = true → (s.lane l).hst.canPart.isSome = true →
    Runs (.can0SegmentTimeout l) s (fun t => (t.lane l).hst = { (s.lane l).hst with canPart := none } ∧ t.sent = s.sent ∧
      SamePlaces s t [HST_CNT_SEG_ERR.key l.reg 0] ∧ SameOtherLanes s t l ∧
      Counted s t l.reg HST_CNT_SEG_ERR)) ∧
  (∀ (l : LaneId) (can1 : Bool) (s : State), s.hostUp l = true → Runs (.canBusOff l can1) s (fun t =>
    SameBut s t [HST_CNT_BUSOFF.key l.reg 0] ∧
    bits (t.rd l.reg HST_CNT_BUSOFF) 7 0 = (if can1 then bits (s.rd l.reg HST_CNT_BUSOFF) 7 0 else min 255 (bits (s.rd l.reg HST_CNT_BUSOFF) 7 0 + 1)) ∧
    bits (t.rd l.reg HST_CNT_BUSOFF) 15 8 = (if can1 then min 255 (bits (s.rd l.reg HST_CNT_BUSOFF) 15 8 + 1) else bits (s.rd l.reg HST_CNT_BUSOFF) 15 8)))) ∧
  ((∀ (l : LaneId) (src : Nat) (raw : List Byte) (t0 : Nat) (s : State), s.hostUp l = true → s.portOn l .can1 = true →
    (s.lane l).wbe.inq = [] → (s.lane l).wbe.busy ≤ t0 →
    Runs (.isoProprietaryAReceive l src raw t0) s (fun t =>
      t = ((s.atTime t0).modWbe l (fun w => { w with busy := t0 + 5000 })).process l ⟨.can1, src, raw⟩ t0)) ∧
  (∀ (l : LaneId) (s : State), s.hostUp l = true → s.portOn l .can1 = true → s.mayCan1 l = true → s.rd l.reg STF_ISO_WAIT = 0 →
    s.rd l.reg HST_ISO_SA ≤ 0xFD → s.rd l.reg HST_ISO_STATE ≠ 3 →
    Runs (.isoAddressClaimSend l) s (fun t => t.rd l.reg HST_ISO_STATE = 2 ∧ SamePlaces s t [HST_ISO_STATE.key l.reg 0] ∧
      t.sent = s.sent ++ [.isoClaim l (s.rd l.reg HST_ISO_NAME) (s.rd l.reg HST_ISO_SA)] ∧ t = { s with params := t.params, sent := t.sent })) ∧
  (∀ (l : LaneId) (name : Nat) (s : State), s.hostUp l = true → s.mayCan1 l = true → s.rd l.reg HST_ISO_STATE = 2 →
    (name < s.rd l.reg HST_ISO_NAME → Runs (.isoAddressClaimReceive l name (s.rd l.reg HST_ISO_SA)) s (fun t =>
      t.rd l.reg HST_ISO_STATE = 3 ∧ SamePlaces s t [HST_ISO_STATE.key l.reg 0] ∧
      t.sent = s.sent ++ [.isoClaim l (s.rd l.reg HST_ISO_NAME) 0xFE] ∧ t = { s with params := t.params, sent := t.sent })) ∧
    (s.rd l.reg HST_ISO_NAME ≤ name → Runs (.isoAddressClaimReceive l name (s.rd l.reg HST_ISO_SA)) s (fun t =>
      t = { s with sent := s.sent ++ [.isoClaim l (s.rd l.reg HST_ISO_NAME) (s.rd l.reg HST_ISO_SA)] }))) ∧
  (∀ (l : LaneId) (name sa : Nat) (s : State), s.mayCan1 l = false →
    Runs (.isoAddressClaimReceive l name sa) s (fun t => t = s) ∧ Runs (.isoAddressClaimSend l) s (fun t => t = s)))
/-! ### Links -/

/-- The flits of a link that is up (R82, R84, R85). A good flit of a type the link carries, with the expected sequence, is
taken into its message and acknowledged; one with a wrong check or type is counted at a lane's end and answered with the
expected sequence, one out of sequence is answered so and changes nothing. An acknowledge takes its flit and those before it
out of the window. A negative acknowledge of the next sequence empties it; a flit that has not arrived is sent again with one
more attempt, counted at a lane's end; a message whose fourth attempt failed is given up, counted; SAMPLE flits are never sent
again.
Each of these answers a next state with its own effect, on the conditions its clauses put on the state and the operands alone:
FLIT_RECEIVE, FLIT_NACK_RECEIVE, FLIT_ACK_TIMEOUT, FLIT_ACK_RECEIVE. -/
def Obligations.FlitWindow : Prop :=
  (∀ (k : Link) (w : Nat) (s : State) (c : Nat), LinkRuns s k → linkKind k = some c →
    (flitOk w = true → (linkTypes c).contains (bits w 3 0) = true → bits w 11 8 = (s.link k).rxSeq →
      Runs (.flitReceive k w) s (fun t => t.link k = { (s.link k).take w with rxSeq := ((s.link k).rxSeq + 1) % 16 } ∧
        t.sent = s.sent ++ [.flitAck k true (s.link k).rxSeq] ∧ (∀ j, j ≠ k → t.link j = s.link j) ∧
        t = { s with links := t.links, sent := t.sent })) ∧
    (flitOk w = true → (linkTypes c).contains (bits w 3 0) = true → bits w 11 8 ≠ (s.link k).rxSeq →
      Runs (.flitReceive k w) s (fun t => t = { s with sent := s.sent ++ [.flitAck k false (s.link k).rxSeq] })) ∧
    ((flitOk w = false ∨ (linkTypes c).contains (bits w 3 0) = false) →
      Runs (.flitReceive k w) s (fun t => t.sent = s.sent ++ [.flitAck k false (s.link k).rxSeq] ∧
        t = { s with params := t.params, sent := t.sent } ∧
        (k.near.code ≤ 3 → Counted s t k.near.code XLK_CNT_CRC k.far.code ∧ SamePlaces s t [XLK_CNT_CRC.key k.near.code k.far.code]) ∧
        (3 < k.near.code → t.params = s.params)))) ∧
  (∀ (k : Link) (s : State), LinkRuns s k → (s.link k).outq = [] →
    (∀ seq xs f ys, (s.link k).unacked = xs ++ f :: ys → f.seq = seq → (∀ g ∈ xs, g.seq ≠ seq) →
      Runs (.flitAckReceive k seq) s (fun t => t = s.setLink k { s.link k with unacked := ys })) ∧
    (∀ seq, (∀ g ∈ (s.link k).unacked, g.seq ≠ seq) → Runs (.flitAckReceive k seq) s (fun t => t = s)) ∧
    ((∀ g ∈ (s.link k).unacked, g.seq ≠ (s.link k).txSeq) → Runs (.flitNackReceive k (s.link k).txSeq) s (fun t =>
      t = s.setLink k { s.link k with unacked := [] })) ∧
    (∀ f, (s.link k).unacked = [f] → f.type ∈ flitOrder →
      (f.type ≠ 9 → f.tries < 4 → ∀ c ∈ [Instr.flitAckTimeout k, Instr.flitNackReceive k f.seq], Runs c s (fun t =>
        t.sent = s.sent ++ [.flit k (flitReseq f.word f.seq)] ∧
        (t.link k).unacked = [⟨f.seq, flitReseq f.word f.seq, f.type, f.tries + 1⟩] ∧ (t.link k).txSeq = (f.seq + 1) % 16 ∧
        (k.near.code ≤ 3 → Counted s t k.near.code XLK_CNT_RESEND k.far.code ∧ SamePlaces s t [XLK_CNT_RESEND.key k.near.code k.far.code]) ∧
        (3 < k.near.code → t.params = s.params))) ∧
      (f.type ≠ 9 → 4 ≤ f.tries → Runs (.flitAckTimeout k) s (fun t => t.sent = s.sent ∧ (t.link k).unacked = [] ∧
        (t.link k).txSeq = f.seq % 16 ∧
        (k.near.code ≤ 3 → Counted s t k.near.code XLK_CNT_MSG_LOST k.far.code ∧ SamePlaces s t [XLK_CNT_MSG_LOST.key k.near.code k.far.code]))) ∧
      (f.type = 9 → Runs (.flitAckTimeout k) s (fun t => t.sent = s.sent ∧ t.params = s.params ∧ (t.link k).unacked = []))))

/-- The states of a link (R87, R109). Four code errors in a row, which the lane's end counts as one failed check (the model's choice,
log 63), or silence with flits outstanding, make it retrain: counted at a lane's end, everything in flight at both ends gone. Training that completes brings it up; training that does not marks it failed and
asserts source 13 at each lane end; a failed link tries again in training.
Each of these answers a next state with its own effect, on the conditions its clauses put on the state and the operands alone:
LINK_CODE_ERRORS, LINK_ACK_SILENCE, LINK_TRAIN_COMPLETE, LINK_FAIL_TIMEOUT, LINK_TRAIN_RETRY. -/
def Obligations.LinkStates : Prop :=
  (∀ (k : Link) (s : State), LinkRuns s k →
    ∀ c, c = Instr.linkCodeErrors k ∨ (c = Instr.linkAckSilence k ∧ (s.link k).unacked ≠ []) → Runs c s (fun t =>
      t.linkState k = 1 ∧ t.sent = s.sent ∧ (k.near.code ≤ 3 → Counted s t k.near.code XLK_CNT_RETRAIN k.far.code ∧
        (c = Instr.linkCodeErrors k → Counted s t k.near.code XLK_CNT_CRC k.far.code)) ∧
      (t.link k).unacked = [] ∧ (t.link k).partials = [] ∧ (t.link (otherEnd k)).unacked = [] ∧ (t.link (otherEnd k)).partials = [] ∧
      (t.link k).txSeq = 0 ∧ (t.link (otherEnd k)).rxSeq = 0 ∧ (∀ m ∈ (s.link k).outq, m.started = false → m ∈ (t.link k).outq) ∧
      SameOff (fun x => x.block = 4) s t)) ∧
  (∀ (k : Link) (s : State), LinkRuns s k → (s.link k).unacked = [] → Runs (.linkAckSilence k) s (fun t => t = s)) ∧
  (∀ (k : Link) (s : State), s.linkThere k = true → s.dieUp k.near = true → s.dieUp k.far = true → s.linkState k ≤ 1 →
    Runs (.linkTrainComplete k) s (fun t => t.linkState k = 2 ∧ SameOff (fun x => x.block = 4 ∨ FaultPlace x) s t ∧
      (k.near.code ≤ 3 → (List.range 9).any (fun f => f != k.far.code && s.rd k.near.code XLK_LINK_STATE f == 3) = false →
        bit (t.rd k.near.code FCL_RAW) 13 = false))) ∧
  (∀ (k : Link) (s : State), s.linkThere k = true → s.linkState k ≤ 1 →
    (k.near.code ≤ 3 → NoReset s k.near.code 13) → (k.far.code ≤ 3 → NoReset s k.far.code 13) →
    Runs (.linkFailTimeout k) s (fun t => t.linkState k = 3 ∧ OnlyFaults (s.setLinkState k 3) t ∧
      (k.near.code ≤ 3 → 3 < k.far.code → s.dieUp k.near = true → Judged s k.near.code 13 → bit (t.rd k.near.code FCL_ERR_STATUS) 13 = true))) ∧
  (∀ (k : Link) (s : State), s.linkThere k = true → s.linkState k = 3 →
    Runs (.linkTrainRetry k) s (fun t => t.linkState k = 1 ∧ t = s.setLinkState k 1))

/-! ### Load points, compute starts and Towline instants -/

/-- Load points (R27, R28, R88, R91, R154, R204, R208). After a peak without a power die nothing but the peak is noted. A valley begins a
base period: its count, its time, its number, the cycle and the digest its frame will carry, an event of a trace that samples; CMT values
that a commit has replaced are dropped (R181). While the lane die does not run, the power
die has its load points alone. A bridge in RUN whose DUTY message has come loads its edges and switches, and its samples are kept: where no
two switches of a phase overlap, no turn-on is below the bootstrap limit, none comes before the floor and no switch is tripped or blocked,
the edges act as received. A missing message repeats them once; missing a second time, every gate is off and DUTY_MISSING is reported. A
bridge of two base periods has no load point between its own. A DUTY message for a bridge is kept for its next load point. A compute
start runs the computations of a peak or of a valley (R156).
Each of these answers a next state with its own effect, on the conditions its clauses put on the state and the operands alone: PWM_VALLEY,
COMPUTE_START, DUTY_RECEIVE. -/
def Obligations.LoadPoints : Prop :=
  (∀ (l : LaneId) (smp : List BridgeSample) (sc : List SinCos) (t0 : Nat) (s : State), s.up l = true → s.on l.pow = false →
    Runs (.pwmValley l true smp sc t0) s (fun t => SameButAt t0 s t [CMT_PEAK.key l.reg 0] ∧ t.rd l.reg CMT_PEAK = 1)) ∧
  (∀ (l : LaneId) (t0 : Nat) (s : State), s.up l = true → (∀ ch, ch < 8 → s.fmode l ch = 0) →
    Runs (.pwmValley l false [] [] t0) s (fun t =>
      (∃ u, t = u.dropOld l ∧ SameButAt t0 s u [CMT_PEAK.key l.reg 0, INT_PERIOD.key l.reg 0, INT_VALLEY_AT.key l.reg 0, CEN_BP.key l.reg 0,
        VOT_VALLEY_CYC.key l.reg 0, VOT_VALLEY_DIG.key l.reg 0, TRC_N.key l.reg 0, TRC_DUE.key l.reg 0]) ∧
      ((s.rd l.reg TRC_STATE = 0 ∨ s.rd l.reg TRC_STATE = 4) → t.rd l.reg TRC_N = s.rd l.reg TRC_N ∧ t.rd l.reg TRC_DUE = s.rd l.reg TRC_DUE) ∧
      t.rd l.reg CMT_PEAK = 0 ∧ t.rd l.reg INT_PERIOD = (s.rd l.reg INT_PERIOD + 1) % 2 ^ 64 ∧
      t.rd l.reg VOT_VALLEY_CYC = s.cycle l % 2 ^ 64 ∧ t.rd l.reg VOT_VALLEY_DIG = s.rd l.reg VOT_DIGEST % 2 ^ 64 ∧
      t.rd l.reg INT_VALLEY_AT = t0 % 2 ^ 64 ∧ t.rd l.reg CEN_BP = s.basePeriodAt l t0 % 2 ^ 64)) ∧
  (∀ (l : LaneId) (peak : Bool) (smp : List BridgeSample) (sc : List SinCos) (t0 : Nat) (s : State), s.up l = false →
    Runs (.pwmValley l peak smp sc t0) s (fun t => t = (s.atTime t0).powerPoints l peak smp t0)) ∧
  (∀ (l : LaneId) (x : BridgeSample) (t0 : Nat) (s : State), s.up l = true → s.on l.pow = true → x.b < 6 →
    (s.lane l).bridges.length = 6 → (∀ ch, ch < 8 → s.fmode l ch ≠ 1) → s.rd l.reg CMT_STATE x.b = 2 →
    (s.rd l.pow GDR_FLOOR_SEEN x.b = 0 ∨ NoReset s l.pow 1) →
    (s.baseRatio l x.b = 1 → s.rd l.reg BST_STATE ≠ 2 → s.latchedB l x.b = false →
      (∀ k, k < 6 → s.rd l.pow GDR_SW (swNum x.b k) = 0 ∧ s.rd l.pow GDR_BLOCK (swNum x.b k) = 0) →
      ∀ p : Placing, p = ⟨s.oldEdges l x.b (s.loadSteps l x.b), s.loadSteps l x.b,
        (s.bridge l x.b).next.flatMap (intervals (s.loadSteps l x.b))⟩ →
      (∀ e ∈ p.es, e.sw < 6 ∧ (p.rises e = true → p.floor e.sw e.on ≤ (e.on : Int) ∧ (e.sw % 2 = 0 → x.bootLow.testBit (e.sw / 2) = false))) →
      (∀ ph, ph < 3 → p.clash ph = none) →
      (s.rd l.pow GDR_DUTY_GOT x.b = 1 → Runs (.pwmValley l false [x] [] t0) s (fun t => (t.bridge l x.b).cur = p.es ∧
        t.rd l.pow GDR_DUTY_GOT x.b = 0 ∧ t.rd l.pow GDR_GATES x.b = 1 ∧ (t.bridge l x.b).smp = some (s.brokenCores l x))) ∧
      (s.rd l.pow GDR_DUTY_GOT x.b = 0 → s.rd l.pow GDR_DUTY_MISS x.b = 0 → Runs (.pwmValley l false [x] [] t0) s (fun t =>
        (t.bridge l x.b).cur = p.es ∧ t.rd l.pow GDR_DUTY_MISS x.b = 1 ∧ t.rd l.pow GDR_GATES x.b = s.rd l.pow GDR_GATES x.b))) ∧
    (s.baseRatio l x.b = 1 → s.rd l.reg BST_STATE ≠ 2 → s.rd l.pow GDR_DUTY_GOT x.b = 0 → 1 ≤ s.rd l.pow GDR_DUTY_MISS x.b →
      Runs (.pwmValley l false [x] [] t0) s (fun t => t.rd l.pow GDR_GATES x.b = 0 ∧ t.rd l.pow GDR_MISSING x.b = 1 ∧
        bit (t.rd l.pow GDR_STATUS x.b) 12 = true)) ∧
    (s.baseRatio l x.b = 2 → s.rd l.reg CMT_UPDATE x.b = 0 → s.synced l = false → s.rd l.reg INT_PERIOD % 2 = 0 →
      Runs (.pwmValley l false [x] [] t0) s (fun t => t.bridge l x.b = s.bridge l x.b ∧
        ∀ k : PKey, k.region = l.pow → t.params.get k = s.params.get k))) ∧
  (∀ (l : LaneId) (b : Nat) (es : List SwitchEdge) (s : State), s.on l.pow = true → b < 6 →
    Runs (.dutyReceive l b es) s (fun t => t = (s.modBridge l b (fun x => { x with next := es })).wr l.pow GDR_DUTY_GOT b 1)) ∧
  (∀ (l : LaneId) (t0 : Nat) (s : State), s.up l = true → Runs (.computeStart l t0) s (fun t =>
    (s.rdB l.reg CMT_PEAK = true → t = ((s.atTime t0).wr l.reg INT_COMP_AT 0 t0).driveCompute l true) ∧
    (s.rdB l.reg CMT_PEAK = false → t = ((s.atTime t0).wr l.reg INT_COMP_AT 0 t0).computeBase l)))

/-- The events of a Towline cycle (R399) and of a local cycle (R601). A cycle start of a synchronised lane takes the cycle's
number and time; the common sample and latch instants do what R92, R95 and R104 list; without synchronised events nothing
happens. A local cycle start of an unsynchronised lane counts on, its sample instant renews and latches, its latch instant
only skips the orders due.
Each of these answers a next state with its own effect, on the conditions its clauses put on the state and the operands alone:
TOWLINE_CYCLE_START, COMMON_SAMPLE_INSTANT, COMMON_LATCH_INSTANT, LOCAL_CYCLE_START. -/
def Obligations.CycleEvents : Prop :=
  (∀ (l : LaneId) (t0 : Nat) (s : State), s.up l = true → s.twlEvents l = true →
    Runs (.towlineCycleStart l t0) s (fun t => t = (s.atTime t0).cycleBegins l t0 ∧
      (s.rdB l.reg VOT_LOCAL = false → NoReset s l.reg 23 → s.lowestLane (fun x => s.vstate x == 2) ≠ some l →
        t.cycle l = s.startingCycle l % 2 ^ 32 ∧ t.rd l.reg INT_CYCLE_START = t0 % 2 ^ 64)) ∧
    Runs (.commonSampleInstant l t0) s (fun t => t = (s.atTime t0).sampleInstant l t0) ∧
    Runs (.commonLatchInstant l t0) s (fun t => t = (s.atTime t0).latchInstant l t0)) ∧
  (∀ (l : LaneId) (t0 : Nat) (s : State), s.twlEvents l = false →
    ∀ c ∈ [Instr.towlineCycleStart l t0, .commonSampleInstant l t0, .commonLatchInstant l t0], Runs c s (fun t => t = s.atTime t0)) ∧
  (∀ (l : LaneId) (t0 : Nat) (s : State), s.up l = true → s.synced l = false → s.rd l.reg TWL_LAST ≠ 0 →
    Runs (.localCycleStart l .cycleStart t0) s (fun t => t = (s.atTime t0).localBegins l t0 ∧ (s.rdB l.reg VOT_LOCAL = false →
      t.rd l.reg TWL_LAST = nextCycle (s.rd l.reg TWL_LAST) % 2 ^ 64 ∧ t.rd l.reg INT_CYCLE_START = t0 % 2 ^ 64)) ∧
    Runs (.localCycleStart l .sample t0) s (fun t => t = (s.atTime t0).localSample l t0) ∧
    Runs (.localCycleStart l .latch t0) s (fun t => t = { s.atTime t0 with params := t.params } ∧
      (∀ o, o < 64 → s.twlDue l o (s.rd l.reg TWL_LAST) = true → Counted s t l.reg DPT_CNT_ORD_MISSED o) ∧
      SameOff (fun k => ∃ o, o < 64 ∧ s.twlDue l o (s.rd l.reg TWL_LAST) = true ∧ k = DPT_CNT_ORD_MISSED.key l.reg o) s t)) ∧
  (∀ (l : LaneId) (e : TwlEvent) (t0 : Nat) (s : State), s.synced l = true → Runs (.localCycleStart l e t0) s (fun t => t = s.atTime t0))

/-- Frames between the lanes and with S (R88, R90, R117). A peer's frame becomes the latest one a lane holds of it, the one
before is kept, and the peer is heard; a frame of the lane itself is none of a peer's. S keeps the frame of a lane in service,
notes its time and sends its echo; until it has granted a claim since its reset it takes the highest staff epoch the frames carry (R116). The echo a lane hears is kept with its time and the lanes excluded. A lane silent for 2 ms is
excluded by S; one already excluded stays so.
Each of these answers a next state with its own effect, on the conditions its clauses put on the state and the operands alone:
EXCH_FRAME_RECEIVE, S_EXCH_RECEIVE, S_ECHO_RECEIVE, S_FRAME_SILENCE. -/
def Obligations.ExchangeFrames : Prop :=
  (∀ (l x : LaneId) (f : ExchFrame) (t0 : Nat) (s : State), s.up l = true → f.region = x.reg → x ≠ l → s.hasRegion x.reg = true →
    s.vstate l ≠ 4 → s.rdB l.reg STF_S_SILENT = false → s.slotState l (s.actSlot l) ≠ 3 → s.rdB l.reg VOT_DIG_DONE x.reg = true →
    Runs (.exchFrameReceive l f t0) s (fun t => (t.lane l).vot.frame x = some f ∧ (t.lane l).vot.prev x = (s.lane l).vot.frame x ∧
      t.rd l.reg VOT_GOT x.reg = 1 ∧ t.sent = s.sent ∧ SameOtherLanes s t l ∧
      SameOff (fun k => k = VOT_GOT.key l.reg x.reg ∨ ∃ b, b < 6 ∧ k = VOT_LOST_W.key l.reg (8 * x.reg + b)) s t)) ∧
  (∀ (l : LaneId) (f : ExchFrame) (t0 : Nat) (s : State), f.region = l.reg → Runs (.exchFrameReceive l f t0) s (fun t => t = s.atTime t0)) ∧
  (∀ (l : LaneId) (f : ExchFrame) (t0 : Nat) (s : State), s.sUp = true → f.region = l.reg → s.hasRegion l.reg = true → f.vstate = 2 →
    s.mayForm = false →
    Runs (.sExchReceive f t0) s (fun t => t.sdie.frame l = some f ∧ t.rd 8 STF_SEEN_AT l.reg = t0 % 2 ^ 64 ∧ t.rd 8 STF_SEEN l.reg = 1 ∧
      (∃ e, Sent.echo l e ∈ t.sent ∧ e.period = f.period ∧ e.excluded = s.rd 8 S_STF_EXCLUDED) ∧
      (s.rd 8 S_STF_HOLDER = 0 → s.rd 8 STF_PREV = 0 → t.rd 8 S_STF_EPOCH = max f.epoch (s.rd 8 S_STF_EPOCH) % 2 ^ 32) ∧
      (s.rd 8 S_STF_HOLDER ≠ 0 → t.rd 8 S_STF_EPOCH = s.rd 8 S_STF_EPOCH) ∧
      SamePlaces s t [STF_SEEN.key 8 l.reg, STF_SEEN_AT.key 8 l.reg, S_STF_FORM_LAST.key 8 0, S_STF_EPOCH.key 8 0])) ∧
  (∀ (l : LaneId) (e : SEcho) (t0 : Nat) (s : State), s.up l = true → bit e.excluded l.idx = false →
    Runs (.sEchoReceive l e t0) s (fun t => (t.lane l).vot = { (s.lane l).vot with echo := some e } ∧ t.rd l.reg VOT_ECHO_AT = t0 % 2 ^ 64 ∧
      t.rd l.reg VOT_ECHO_GOT = 1 ∧ t.rd l.reg STF_EXCL_SEEN = e.excluded % 2 ^ 64 ∧ SameOtherLanes s t l ∧ t.sent = s.sent ∧
      SamePlaces s t [VOT_ECHO_GOT.key l.reg 0, VOT_ECHO_AT.key l.reg 0, STF_EXCL_SEEN.key l.reg 0])) ∧
  (∀ (l : LaneId) (s : State), s.sUp = true → Runs (.sFrameSilence l) s (fun t => t = s.excludeS l 2)) ∧
  (∀ (l : LaneId) (s : State), s.excl l.reg = true → Runs (.sFrameSilence l) s (fun t => t = s))

/-- Copies and inputs (R93, R100, R104). An announced copy of a peer enters the record with the cycle of its stamp; of a key
already agreed it is late and only counted; one that names the lane itself is none. The INPUT message of a peer replaces that
peer's older one. At the deadline of a synchronised lane every set is formed; an unsynchronised lane forms none.
Each of these answers a next state with its own effect, on the conditions its clauses put on the state and the operands alone:
ANNOUNCE_RECEIVE, INPUT_RECEIVE, INPUT_VOTE_DEADLINE. -/
def Obligations.CopiesAndInputs : Prop :=
  (∀ (l a : LaneId) (stamp : Nat) (raw : List Byte) (crc : Nat) (s : State) (c : VCopy), s.up l = true → a ≠ l → s.hasRegion a.reg = true →
    c = ⟨a, stamp, s.cycleAt l stamp, raw, crc, none⟩ →
    (((s.lane l).vot.agreedOf c.key).isSome = false → ((s.lane l).vot.waitingOf c.key).isSome = false →
      Runs (.announceReceive l a stamp raw crc) s (fun t => t = s.modVot l (fun v => { v with copies := v.copies ++ [c] }))) ∧
    (((s.lane l).vot.agreedOf c.key).isSome = true →
      Runs (.announceReceive l a stamp raw crc) s (fun t => SameBut s t [VOT_CNT_LATE.key l.reg a.reg] ∧ Counted s t l.reg VOT_CNT_LATE a.reg))) ∧
  (∀ (l : LaneId) (stamp : Nat) (raw : List Byte) (crc : Nat) (s : State), Runs (.announceReceive l l stamp raw crc) s (fun t => t = s)) ∧
  (∀ (l : LaneId) (m : InputMsg) (s : State), s.up l = true → m.lane ≠ l → s.hasRegion m.lane.reg = true →
    Runs (.inputReceive l m) s (fun t => t = s.modVot l (fun v => { v with inputs := (t.lane l).vot.inputs }) ∧
      ∀ x, x ∈ (t.lane l).vot.inputs ↔ x = m ∨ (x ∈ (s.lane l).vot.inputs ∧ x.lane ≠ m.lane))) ∧
  (∀ (l : LaneId) (s : State), s.up l = true → Runs (.inputVoteDeadline l) s (fun t => t = s.inputDeadline l)) ∧
  (∀ (l : LaneId) (s : State), s.synced l = false → Runs (.inputVoteDeadline l) s (fun t => t = s))

/-- The votes themselves. Three usable values give their median, two within `AN_DIFF` their floored mean, one that lies near
the reference itself; two that disagree give the one near the reference, or the last result held (R105). Three bits give
their majority, two that agree themselves, a single one only where one decides, otherwise the safe value (R107). What is
agreed takes effect in the order of the earliest copy's time, then of its lane (R98). -/
def Obligations.Votes : Prop :=
  (∀ (a b c : Int) (vs : List Int) (diff tol : Nat) (ref : Option Int) (n h : Bool) (last : Int),
    let r := anVote (a :: b :: c :: vs) diff tol ref n last h
    r.valid = true ∧ r.method = 0 ∧ (r.val = a ∨ r.val = b ∨ r.val = c) ∧
      (r.val ≤ a ∨ r.val ≤ b) ∧ (r.val ≤ b ∨ r.val ≤ c) ∧ (r.val ≤ a ∨ r.val ≤ c) ∧
      (a ≤ r.val ∨ b ≤ r.val) ∧ (b ≤ r.val ∨ c ≤ r.val) ∧ (a ≤ r.val ∨ c ≤ r.val)) ∧
  (∀ (a b : Int) (diff tol : Nat) (ref : Option Int) (n h : Bool) (last : Int), (a - b).natAbs ≤ diff →
    let r := anVote [a, b] diff tol ref n last h
    r.valid = true ∧ r.method = 1 ∧ 2 * r.val ≤ a + b ∧ a + b < 2 * r.val + 2) ∧
  (∀ (a b x : Int) (diff tol : Nat) (n h : Bool) (last : Int), (a - b).natAbs > diff → (a - x).natAbs ≤ tol → (b - x).natAbs > tol →
    (anVote [a, b] diff tol (some x) n last h).val = a ∧ (anVote [b, a] diff tol (some x) n last h).val = a ∧
    (anVote [a, b] diff tol (some x) n last h).valid = true) ∧
  (∀ (a b : Int) (diff tol : Nat) (n h : Bool) (last : Int), (a - b).natAbs > diff →
    (anVote [a, b] diff tol none n last h).val = last ∧ (anVote [a, b] diff tol none n last h).valid = h) ∧
  (∀ (a b c : Bool) (bs : List Bool) (safe one : Bool), diVote (a :: b :: c :: bs) safe one = ((a && b) || (a && c) || (b && c)) ∧
    diVote [a, a] safe one = a ∧ diVote [a, !a] safe one = safe ∧ diVote [a] safe true = a ∧ diVote [a] safe false = safe ∧
    diVote [] safe one = safe) ∧
  (∀ ws : List VWaiting, (sortBy VWaiting.before ws).Perm ws ∧
    (sortBy VWaiting.before ws).Pairwise (fun a b => a.stamp < b.stamp ∨ (a.stamp = b.stamp ∧ a.lane.idx ≤ b.lane.idx)))


/-! ### The staff -/

/-- STAFF messages at a lane that are answered without a claim of its own. A valid RENEW restarts the count with the lease it
carries, and is granted by a voting lane while S is lost; a higher epoch is a handover; any other RENEW has no effect (R112,
R114, R123, R124, R133). A voting lane answers a CLAIM: DENY with reason 3 for a wrong epoch, AGREE to the successor
reserved or to the lowest-lettered eligible lane, DENY with reason 4 or 1 to another (R120, R132; the order of the reasons is
log 21). An ADMIT makes its subject eligible again; of the holder it makes the lane in shadow standby (R118, R130). A DENY of
the claimed epoch fails the claim (R120). An EXPIRED ends the holder's authority (R127).
Each of these answers a next state with its own effect, on the conditions its clauses put on the state and the operands alone:
STAFF_RENEW_RECEIVE, STAFF_CLAIM_RECEIVE, STAFF_DENY_RECEIVE, STAFF_ADMIT_RECEIVE, STAFF_EXPIRED_RECEIVE. -/
def Obligations.StaffMessagesAtALane : Prop :=
  (∀ (l x : LaneId) (m : StaffMsg) (t0 : Nat) (s : State), s.up l = true → m.sender = x.reg →
    (s.renewValid l m = true → ∀ u, u = [(STF_LEASE_MS.key l.reg 0, m.lease), (STF_HEARD.key l.reg 0, 1), (STF_WAIT_ON.key l.reg 0, 1),
        (STF_WAIT_AT.key l.reg 0, t0), (STF_MAY_CLAIM.key l.reg 0, 0), (STF_RETRY.key l.reg 0, 0)] →
      (m.epoch = s.rd l.reg STF_EPOCH → Runs (.staffRenewReceive (.lane l) m t0) s (fun t => Writes (s.atTime t0) t u
        (if s.rdB l.reg STF_S_SILENT && s.voting l l then [.staff (.lane x) (s.staffMsg l 2 m.sender m.epoch 0)] else []))) ∧
      (s.rd l.reg STF_EPOCH < m.epoch → s.rdB l.reg STF_S_SILENT = false → Runs (.staffRenewReceive (.lane l) m t0) s (fun t =>
        Writes (s.atTime t0) t (u ++ s.granted l m.sender m.epoch (s.handoverCause l))))) ∧
    (s.renewValid l m = false → Runs (.staffRenewReceive (.lane l) m t0) s (fun t => t = s.atTime t0))) ∧
  (∀ (l x : LaneId) (m : StaffMsg) (t0 : Nat) (s : State), s.up l = true → m.sender = x.reg → x ≠ l → s.voting l l = true →
    let deny (why : Nat) := Runs (.staffClaimReceive (.lane l) m t0) s (fun t => Writes (s.atTime t0) t []
      [.staff (.lane x) (s.staffMsg l 5 m.sender m.epoch why)])
    let agree := Runs (.staffClaimReceive (.lane l) m t0) s (fun t => Writes (s.atTime t0) t []
      [.staff (.lane x) (s.staffMsg l 4 m.sender m.epoch 0), .staff .s (s.staffMsg l 4 m.sender m.epoch 0)])
    (m.epoch ≠ s.rd l.reg STF_EPOCH + 1 → deny 3) ∧
    (m.epoch = s.rd l.reg STF_EPOCH + 1 → s.rd l.reg STF_RESERVED = x.reg → agree) ∧
    (m.epoch = s.rd l.reg STF_EPOCH + 1 → s.rd l.reg STF_RESERVED ≠ x.reg → s.eligible l x = false → deny 4) ∧
    (m.epoch = s.rd l.reg STF_EPOCH + 1 → s.rd l.reg STF_RESERVED ≠ x.reg → s.eligible l x = true →
      (s.lowestEligible l = some x → agree) ∧ (s.lowestEligible l ≠ some x → deny 1))) ∧
  (∀ (l x : LaneId) (m : StaffMsg) (s : State), s.up l = true → m.subject = x.reg →
    (x ≠ l → Runs (.staffAdmitReceive (.lane l) m) s (fun t => Writes s t [(STF_RELINQ.key l.reg x.reg, 0),
      (STF_ADMIT_WAIT.key l.reg 0, putBit (s.rd l.reg STF_ADMIT_WAIT) x.idx false)])) ∧
    (x = l → s.vstate l = 0 → m.epoch ≠ 0 → m.epoch = s.rd l.reg STF_EPOCH → m.sender = s.rd l.reg STF_HOLDER →
      s.rdB l.reg INT_REJOINING = false → s.rdB l.reg PWR_CREEP_WOKE = false →
      Runs (.staffAdmitReceive (.lane l) m) s (fun t => Writes s t [(STF_RELINQ.key l.reg x.reg, 0),
        (STF_ADMIT_WAIT.key l.reg 0, putBit (s.rd l.reg STF_ADMIT_WAIT) x.idx false), (STF_STATE.key l.reg 0, 1)]))) ∧
  (∀ (l : LaneId) (m : StaffMsg) (s : State), s.up l = true → s.rdB l.reg STF_CLAIMING = true →
    (m.subject = l.reg → m.epoch = s.rd l.reg STF_EPOCH + 1 → Runs (.staffDenyReceive l m) s (fun t => Writes s t
      [(STF_CLAIMING.key l.reg 0, 0), (STF_RETRY.key l.reg 0, 1), s.next l.reg STF_CNT_DENIED])) ∧
    (m.epoch ≠ s.rd l.reg STF_EPOCH + 1 → Runs (.staffDenyReceive l m) s (fun t => t = s))) ∧
  (∀ (l : LaneId) (m : StaffMsg) (s : State), s.up l = true → m.epoch = s.rd l.reg STF_EPOCH → s.rd l.reg STF_HOLDER ≠ 0 →
    s.rdB l.reg STF_WAIT_ON = true → ∀ u, u = [(STF_PREV.key l.reg 0, s.rd l.reg STF_HOLDER), (STF_HOLDER.key l.reg 0, 0),
      (STF_CAUSE.key l.reg 0, if m.reason = 2 then 4 else if m.reason = 3 then 2 else if m.reason = 4 then 1 else 3)] →
    Runs (.staffExpiredReceive l m) s (fun t => Writes s t
      (u ++ if s.rd l.reg STF_HOLDER = l.reg then [(STF_COUNT_ON.key l.reg 0, 0), (STF_RENEW_OPEN.key l.reg 0, 0)] else [])))

/-- The staff changes hands at a lane. A GRANT of S for the holder's RENEW restarts its count from the sending of the RENEW, one
for the lane's own claim makes it the holder from the sending of the CLAIM, one for another's is recorded (R114, R122, R133);
under S lost the last AGREE does what S's GRANT does (R124). A RELEASE of the holder ends its authority and reserves the
successor it names, which claims at once with the lease of the latest RENEW (R112), also where S's EXPIRED has come before it; a RELINQUISH
ends it and its sender is not eligible until an ADMIT (R118, R119, R121, R125). The standing orders of event 6 are triggered in the new holder (R437).
Each of these answers a next state with its own effect, on the conditions its clauses put on the state and the operands alone:
STAFF_GRANT_RECEIVE, STAFF_AGREE_RECEIVE, STAFF_RELEASE_RECEIVE, STAFF_RELINQUISH_RECEIVE. -/
def Obligations.StaffChangesHands : Prop :=
  (∀ (l : LaneId) (m : StaffMsg) (t0 : Nat) (s : State), s.up l = true → m.sender = 8 →
    (m.subject = l.reg → s.rd l.reg STF_HOLDER = l.reg → m.epoch = s.rd l.reg STF_EPOCH →
      Runs (.staffGrantReceive l m t0) s (fun t => Writes (s.atTime t0) t [(STF_COUNT_ON.key l.reg 0, 1),
        (STF_COUNT_AT.key l.reg 0, s.rd l.reg STF_RENEW_AT), (STF_RUN_MS.key l.reg 0, s.rd l.reg STF_SENT_MS),
        (STF_RENEW_OPEN.key l.reg 0, 0)])) ∧
    (m.subject ≠ l.reg → s.rd l.reg STF_HOLDER ≠ l.reg → s.rd l.reg STF_EPOCH < m.epoch →
      Runs (.staffGrantReceive l m t0) s (fun t => Writes (s.atTime t0) t (s.granted l m.subject m.epoch (s.handoverCause l))))) ∧
  (∀ (l x : LaneId) (m : StaffMsg) (t0 : Nat) (s : State), s.up l = true → m.subject = l.reg →
    m.epoch = s.rd l.reg STF_EPOCH + 1 → s.rd l.reg STF_EPOCH + 1 < 2 ^ 32 →
    let holds (t : State) : Prop := t.rd l.reg STF_HOLDER = l.reg ∧ t.rd l.reg STF_EPOCH = m.epoch ∧ t.rd l.reg STF_COUNT_ON = 1 ∧
      t.rd l.reg STF_COUNT_AT = s.rd l.reg STF_CLAIM_AT % 2 ^ 64 ∧ t.rd l.reg STF_RUN_MS = s.rd l.reg STF_SENT_MS % 2 ^ 64 ∧
      t.rd l.reg STF_CLAIMING = 0 ∧ t.rd l.reg HST_ISO_STATE = 0 ∧
      (s.rdB l.reg STF_WAIT_ON = true → 2 ≤ s.handoverCause l → t.rd l.reg STF_ISO_WAIT = 1) ∧
      (s.handoverCause l ≤ 1 → t.rd l.reg STF_ISO_WAIT = s.rd l.reg STF_ISO_WAIT) ∧
      Counted s t l.reg STF_CNT_HANDOVER ∧ t.rd l.reg STF_PREV = s.lastHolder l % 2 ^ 64 ∧ SameOtherLanes s t l ∧
      SameOff (fun k => OrderPlace l k ∨ k ∈ (s.granted l 0 0 0).map Prod.fst ∨ k ∈ [STF_COUNT_ON.key l.reg 0, STF_COUNT_AT.key l.reg 0,
        STF_RUN_MS.key l.reg 0, STF_CLAIMING.key l.reg 0, STF_RETRY.key l.reg 0, HST_ISO_STATE.key l.reg 0, STF_ISO_WAIT.key l.reg 0,
        STF_S_AGREE.key l.reg 0, STF_RELINQ.key l.reg 1, STF_RELINQ.key l.reg 2, STF_RELINQ.key l.reg 3]) s t
    (m.sender = 8 → Runs (.staffGrantReceive l m t0) s holds) ∧
    (s.rdB l.reg STF_CLAIMING = true → m.sender = x.reg → s.rdB l.reg STF_S_SILENT = true →
      (∀ y ∈ s.otherVoting l, y.reg = s.lastHolder l ∨ y = x ∨ bit (s.rd l.reg STF_S_AGREE) y.idx = true) →
      Runs (.staffAgreeReceive (.lane l) m t0) s holds) ∧
    (s.rdB l.reg STF_CLAIMING = true → m.sender = x.reg → s.rdB l.reg STF_S_SILENT = false → Runs (.staffAgreeReceive (.lane l) m t0) s (fun t =>
      Writes (s.atTime t0) t [(STF_S_AGREE.key l.reg 0, setBit (s.rd l.reg STF_S_AGREE) x.idx)]))) ∧
  (∀ (l : LaneId) (m : StaffMsg) (t0 : Nat) (s : State), s.up l = true → m.sender = s.rd l.reg STF_HOLDER → m.sender ≠ 0 →
    m.sender ≠ l.reg → m.epoch = s.rd l.reg STF_EPOCH → s.rdB l.reg STF_CLAIMING = false → s.rdB l.reg STF_S_SILENT = false →
    ∀ gone, gone = [(STF_PREV.key l.reg 0, m.sender), (STF_HOLDER.key l.reg 0, 0), (STF_MAY_CLAIM.key l.reg 0, 1)] →
    ∀ claim, claim = [(STF_CLAIMING.key l.reg 0, 1), (STF_CLAIM_AT.key l.reg 0, t0), (STF_SENT_MS.key l.reg 0, s.leaseMs l),
      (STF_S_AGREE.key l.reg 0, 0), (STF_RETRY.key l.reg 0, 0)] →
    (m.subject ≠ 0 → m.subject ≤ 8 → m.subject ≠ l.reg → Runs (.staffReleaseReceive (.lane l) m t0) s (fun t => Writes (s.atTime t0) t
      (gone ++ [(STF_CAUSE.key l.reg 0, 1), (STF_RELEASED.key l.reg m.sender, 1), (STF_RESERVED.key l.reg 0, m.subject)]))) ∧
    (m.subject = l.reg → s.eligible l l = true → Runs (.staffReleaseReceive (.lane l) m t0) s (fun t => Writes (s.atTime t0) t
      (gone ++ claim ++ [(STF_CAUSE.key l.reg 0, 1), (STF_RELEASED.key l.reg m.sender, 1), (STF_RESERVED.key l.reg 0, m.subject)])
      (s.toAll l { s.staffMsg l 3 l.reg (s.rd l.reg STF_EPOCH + 1) 0 with lease := s.leaseMs l }))) ∧
    (s.rd l.reg STF_RESERVED ≠ 0 → s.rd l.reg STF_RESERVED ≠ l.reg → Runs (.staffRelinquishReceive (.lane l) m t0) s (fun t =>
      Writes (s.atTime t0) t (gone ++ [(STF_CAUSE.key l.reg 0, 2), (STF_RELINQ.key l.reg m.sender, 1)])))) ∧
  (∀ (l : LaneId) (m : StaffMsg) (t0 : Nat) (s : State), s.up l = true → s.rd l.reg STF_HOLDER = 0 → m.sender ≠ 0 →
    m.sender = s.rd l.reg STF_PREV → m.epoch = s.rd l.reg STF_EPOCH → s.rd l.reg STF_CAUSE = 1 → m.subject ≠ 0 → m.subject ≤ 8 →
    m.subject ≠ l.reg → Runs (.staffReleaseReceive (.lane l) m t0) s (fun t => Writes (s.atTime t0) t
      [(STF_MAY_CLAIM.key l.reg 0, 1), (STF_RELEASED.key l.reg m.sender, 1), (STF_RESERVED.key l.reg 0, m.subject)]))

/-- The staff at S (R112, R114, R116, R120, R122, R125, R126, R132). A RENEW of the running lease restarts the count and is
granted to every lane; another is answered EXPIRED under its own epoch (its reason is the model's choice, log 67). A CLAIM with a wrong epoch
is denied with reason 3, one while the lease runs is held and counted, one that lacks no AGREE is granted with the lease of the latest RENEW; an AGREE within 200 µs completes it, a later one
has no effect. A RELEASE or a RELINQUISH of the holder ends the lease with EXPIRED to every lane; at the expiry source 6 is
asserted. What an excluded lane sends has no effect.
Each of these answers a next state with its own effect, on the conditions its clauses put on the state and the operands alone:
STAFF_RENEW_RECEIVE, STAFF_CLAIM_RECEIVE, STAFF_AGREE_RECEIVE, STAFF_RELEASE_RECEIVE, STAFF_RELINQUISH_RECEIVE, S_LEASE_EXPIRY. -/
def Obligations.StaffAtS : Prop :=
  (∀ (m : StaffMsg) (t0 : Nat) (s : State), s.sUp = true → s.excl m.sender = false → s.sdie.staff = {} → m.lease < 256 →
    (s.rdB 8 STF_COUNT_ON = true → s.rd 8 S_STF_HOLDER = m.sender → s.rd 8 S_STF_EPOCH = m.epoch →
      Runs (.staffRenewReceive .s m t0) s (fun t => Writes (s.atTime t0) t [(STF_COUNT_AT.key 8 0, t0), (STF_LEASE_MS.key 8 0, m.lease)]
        (s.fromS 2 m.sender m.epoch m.lease 0))) ∧
    (s.rdB 8 STF_COUNT_ON = false ∨ s.rd 8 S_STF_HOLDER ≠ m.sender ∨ s.rd 8 S_STF_EPOCH ≠ m.epoch →
      Runs (.staffRenewReceive .s m t0) s (fun t => Writes (s.atTime t0) t [] (s.fromS 9 m.sender m.epoch (s.rd 8 STF_LEASE_MS)
        (if s.rd 8 STF_CAUSE = 0 then 1 else s.rd 8 STF_CAUSE)))) ∧
    (∀ x : LaneId, m.sender = x.reg →
      (m.epoch ≠ s.rd 8 S_STF_EPOCH + 1 → Runs (.staffClaimReceive .s m t0) s (fun t => Writes (s.atTime t0) t []
        [.staff (.lane x) ⟨5, 8, x.reg, m.epoch, s.rd 8 STF_LEASE_MS, 3, s.sCycle % 65536⟩])) ∧
      (m.epoch = s.rd 8 S_STF_EPOCH + 1 → s.rdB 8 STF_COUNT_ON = true → Runs (.staffClaimReceive .s m t0) s (fun t =>
        t.sdie = { s.sdie with staff := ⟨some m, true, []⟩ } ∧ t = { s.atTime t0 with params := t.params, sdie := t.sdie } ∧
        Sets s t [(STF_CLAIM_AT.key 8 0, t0), s.next 8 S_STF_CNT_CLAIM_HELD])) ∧
      (m.epoch = s.rd 8 S_STF_EPOCH + 1 → s.rdB 8 STF_COUNT_ON = false →
        (∀ y ∈ s.lanesOf, s.votingS y = true → y = x ∨ y.reg = s.rd 8 STF_PREV) →
        ∀ ms, ms = (if s.rd 8 STF_LEASE_MS = 0 then m.lease else s.rd 8 STF_LEASE_MS) → ms < 256 →
        Runs (.staffClaimReceive .s m t0) s (fun t => Writes (s.atTime t0) t [(STF_CLAIM_AT.key 8 0, t0), (S_STF_EPOCH.key 8 0, m.epoch),
          (S_STF_HOLDER.key 8 0, x.reg), (STF_COUNT_ON.key 8 0, 1), (STF_COUNT_AT.key 8 0, t0), (STF_LEASE_MS.key 8 0, ms),
          (STF_RESERVED.key 8 0, 0)] (s.fromS 2 x.reg m.epoch ms 0))))) ∧
  (∀ (m c : StaffMsg) (x : LaneId) (t0 : Nat) (s : State), s.sUp = true → s.excl m.sender = false → s.excl c.sender = false →
    s.sdie.staff.claim = some c → m.subject = c.sender → m.epoch = c.epoch → m.sender = x.reg →
    ∀ ms, ms = (if s.rd 8 STF_LEASE_MS = 0 then c.lease else s.rd 8 STF_LEASE_MS) → ms < 256 →
    (t0 ≤ s.rd 8 STF_CLAIM_AT + 200000 → s.rdB 8 STF_COUNT_ON = false →
      (∀ y ∈ s.lanesOf, s.votingS y = true → y = x ∨ y.reg = c.sender ∨ y.reg = s.rd 8 STF_PREV ∨ y.reg ∈ s.sdie.staff.agrees) →
      Runs (.staffAgreeReceive .s m t0) s (fun t =>
        t = { (s.atTime t0).tells (s.fromS 2 c.sender c.epoch ms 0) with params := t.params, sdie := t.sdie } ∧
        t.sdie = { s.sdie with staff := {} } ∧
        Sets s t [(S_STF_EPOCH.key 8 0, c.epoch), (S_STF_HOLDER.key 8 0, c.sender), (STF_COUNT_ON.key 8 0, 1),
          (STF_COUNT_AT.key 8 0, s.rd 8 STF_CLAIM_AT), (STF_LEASE_MS.key 8 0, ms), (STF_RESERVED.key 8 0, 0)])) ∧
    (t0 > s.rd 8 STF_CLAIM_AT + 200000 → Runs (.staffAgreeReceive .s m t0) s (fun t => t = s.atTime t0))) ∧
  (∀ (m : StaffMsg) (t0 : Nat) (s : State), s.sUp = true → s.excl m.sender = false → s.sdie.staff = {} → s.rd 8 S_STF_HOLDER = m.sender →
    m.sender ≠ 0 → ∀ u, u = [(STF_PREV.key 8 0, m.sender), (S_STF_HOLDER.key 8 0, 0), (STF_COUNT_ON.key 8 0, 0)] →
    (m.epoch = s.rd 8 S_STF_EPOCH → Runs (.staffReleaseReceive .s m t0) s (fun t => Writes (s.atTime t0) t
      (u ++ [(STF_CAUSE.key 8 0, 4), (STF_RESERVED.key 8 0, m.subject)])
      (s.fromS 9 m.sender (s.rd 8 S_STF_EPOCH) (s.rd 8 STF_LEASE_MS) 4))) ∧
    Runs (.staffRelinquishReceive .s m t0) s (fun t => Writes (s.atTime t0) t (u ++ [(STF_CAUSE.key 8 0, 3)])
      (s.fromS 9 m.sender (s.rd 8 S_STF_EPOCH) (s.rd 8 STF_LEASE_MS) 3))) ∧
  (∀ s : State, s.sUp = true → s.sdie.staff = {} → s.rdB 8 STF_COUNT_ON = true → NoReset s 8 6 →
    Runs .sLeaseExpiry s (fun t => t.rd 8 S_STF_HOLDER = 0 ∧ t.rd 8 STF_COUNT_ON = 0 ∧ t.rd 8 STF_CAUSE = 1 ∧
      Counted s t 8 S_STF_CNT_EXPIRY ∧ (∀ x ∈ s.fromS 9 (s.rd 8 S_STF_HOLDER) (s.rd 8 S_STF_EPOCH) (s.rd 8 STF_LEASE_MS) 1, x ∈ t.sent) ∧
      SameOff (fun k => FaultPlace k ∨ k ∈ [STF_PREV.key 8 0, S_STF_HOLDER.key 8 0, STF_COUNT_ON.key 8 0, STF_CAUSE.key 8 0,
        S_STF_CNT_EXPIRY.key 8 0]) s t)) ∧
  (∀ (m : StaffMsg) (t0 : Nat) (s : State), s.excl m.sender = true → (∃ x : LaneId, m.sender = x.reg) →
    ∀ c ∈ [Instr.staffRenewReceive .s m t0, .staffClaimReceive .s m t0, .staffAgreeReceive .s m t0, .staffReleaseReceive .s m t0,
      .staffRelinquishReceive .s m t0], Runs c s (fun t => t = s.atTime t0))

/-- The staff's times. The holder's count ended, it starts no staff function (R114). A lane's lease + 1 ms ended, it may claim:
the lowest-lettered eligible lane claims at once (R119, R122). A RENEW without a GRANT is counted (R127); a claim not granted
in 1 ms has failed, counted, and is repeated (R120); a reservation ends (R121); S lost for 2 ms with every echo clear, the lane
asserts source 19 and grants and claims without S (R124, R334). A leaving lane that has sent two frames with code 3 takes its
region reset, which raises its epoch; under a rolling self-test it enters phase TEST with its power die (R125, R456, R496).
Each of these answers a next state with its own effect, on the conditions its clauses put on the state and the operands alone:
HOLDER_LEASE_END, CLAIM_WAIT_END, GRANT_MISS, CLAIM_TIMEOUT, SUCCESSOR_RESERVE_END, S_LOST_TO_STAFF, LEAVE_RESET, and the messages that start
or end these times: STAFF_RENEW_RECEIVE, STAFF_GRANT_RECEIVE, STAFF_DENY_RECEIVE, STAFF_EXPIRED_RECEIVE, S_LEASE_EXPIRY. -/
def Obligations.StaffTimes : Prop :=
  (∀ (l : LaneId) (m : StaffMsg) (t0 : Nat) (s : State), s.up l = true → s.renewValid l m = true → m.epoch = s.rd l.reg STF_EPOCH →
    Runs (.staffRenewReceive (.lane l) m t0) s (fun t => Reads t [(STF_WAIT_ON.key l.reg 0, 1), (STF_WAIT_AT.key l.reg 0, t0),
      (STF_LEASE_MS.key l.reg 0, m.lease), (STF_MAY_CLAIM.key l.reg 0, 0)] ∧ SameOtherLanes s t l)) ∧
  (∀ (l : LaneId) (m : StaffMsg) (t0 : Nat) (s : State), s.up l = true → m.sender = 8 → m.subject = l.reg → s.rd l.reg STF_HOLDER = l.reg →
    m.epoch = s.rd l.reg STF_EPOCH → Runs (.staffGrantReceive l m t0) s (fun t => Reads t [(STF_COUNT_ON.key l.reg 0, 1),
      (STF_COUNT_AT.key l.reg 0, s.rd l.reg STF_RENEW_AT), (STF_RENEW_OPEN.key l.reg 0, 0)] ∧ t.sent = s.sent ∧ SameOtherLanes s t l)) ∧
  (∀ (l : LaneId) (m : StaffMsg) (s : State), s.up l = true → s.rdB l.reg STF_CLAIMING = true → m.subject = l.reg →
    m.epoch = s.rd l.reg STF_EPOCH + 1 → Runs (.staffDenyReceive l m) s (fun t => Reads t [(STF_CLAIMING.key l.reg 0, 0),
      (STF_RETRY.key l.reg 0, 1)] ∧ Counted s t l.reg STF_CNT_DENIED ∧ t.sent = s.sent ∧ SameOtherLanes s t l)) ∧
  (∀ (l : LaneId) (m : StaffMsg) (s : State), s.up l = true → m.epoch = s.rd l.reg STF_EPOCH → s.rd l.reg STF_HOLDER ≠ 0 →
    s.rdB l.reg STF_WAIT_ON = true → Runs (.staffExpiredReceive l m) s (fun t => Reads t [(STF_HOLDER.key l.reg 0, 0),
      (STF_PREV.key l.reg 0, s.rd l.reg STF_HOLDER)] ∧ t.sent = s.sent ∧ SameOtherLanes s t l)) ∧
  (∀ s : State, s.sUp = true → s.sdie.staff = {} → s.rdB 8 STF_COUNT_ON = true → NoReset s 8 6 → Runs .sLeaseExpiry s (fun t =>
    t.rd 8 STF_COUNT_ON = 0 ∧ t.rd 8 S_STF_HOLDER = 0 ∧ t.rd 8 STF_PREV = s.rd 8 S_STF_HOLDER % 2 ^ 64)) ∧
  (∀ (l : LaneId) (s : State), s.up l = true → s.rd l.reg STF_HOLDER = l.reg →
    Runs (.holderLeaseEnd l) s (fun t => Writes s t [(STF_COUNT_ON.key l.reg 0, 0)] ∧ t.staffOk l = false)) ∧
  (∀ (l : LaneId) (t0 : Nat) (s : State), s.up l = true → s.rdB l.reg STF_WAIT_ON = true →
    ∀ u, u = [(STF_WAIT_ON.key l.reg 0, 0), (STF_WAITED.key l.reg 0, 1), (STF_ISO_WAIT.key l.reg 0, 0)] →
    (s.rd l.reg STF_HOLDER = l.reg → Runs (.claimWaitEnd l t0) s (fun t => Writes (s.atTime t0) t u)) ∧
    (s.rd l.reg STF_HOLDER ≠ l.reg → s.lowestEligible l ≠ some l → s.rd l.reg STF_RESERVED ≠ l.reg →
      Runs (.claimWaitEnd l t0) s (fun t => Writes (s.atTime t0) t (u ++ [(STF_MAY_CLAIM.key l.reg 0, 1)]))) ∧
    (s.rd l.reg STF_HOLDER ≠ l.reg → s.lowestEligible l = some l → s.rd l.reg STF_RESERVED = 0 →
      s.rdB l.reg STF_CLAIMING = false → s.rdB l.reg STF_S_SILENT = false →
      Runs (.claimWaitEnd l t0) s (fun t => Writes (s.atTime t0) t (u ++ [(STF_MAY_CLAIM.key l.reg 0, 1), (STF_CLAIMING.key l.reg 0, 1),
        (STF_CLAIM_AT.key l.reg 0, t0), (STF_SENT_MS.key l.reg 0, s.leaseMs l), (STF_S_AGREE.key l.reg 0, 0), (STF_RETRY.key l.reg 0, 0)])
        (s.toAll l { s.staffMsg l 3 l.reg (s.rd l.reg STF_EPOCH + 1) 0 with lease := s.leaseMs l })))) ∧
  (∀ (l : LaneId) (s : State), s.up l = true → s.rdB l.reg STF_RENEW_OPEN = true →
    Runs (.grantMiss l) s (fun t => Writes s t [(STF_RENEW_OPEN.key l.reg 0, 0), s.next l.reg STF_CNT_GRANT_MISS])) ∧
  (∀ (l : LaneId) (s : State), s.up l = true → s.rdB l.reg STF_CLAIMING = true →
    Runs (.claimTimeout l) s (fun t => Writes s t [(STF_CLAIMING.key l.reg 0, 0), (STF_RETRY.key l.reg 0, 1), s.next l.reg STF_CNT_DENIED])) ∧
  (∀ (l : LaneId) (s : State), s.up l = true → s.rdB l.reg STF_MAY_CLAIM = false →
    Runs (.successorReserveEnd (.lane l)) s (fun t => Writes s t [(STF_RESERVED.key l.reg 0, 0)])) ∧
  (∀ s : State, s.sUp = true → Runs (.successorReserveEnd .s) s (fun t => Writes s t [(STF_RESERVED.key 8 0, 0)])) ∧
  (∀ (l : LaneId) (s : State), s.up l = true → s.echoClear l = true → s.rdB l.reg STF_S_SILENT = false → s.rdB l.reg STF_CLAIMING = false →
    NoReset s l.reg 19 → Runs (.sLostToStaff l) s (fun t =>
      OnlyFaults (((s.wr l.reg STF_S_SILENT 0 1).wr l.reg STF_S_BACK 0 0).wr l.reg INT_S_LOST 0 1) t ∧ t.rd l.reg STF_S_SILENT = 1 ∧
      (Judged s l.reg 19 → bit (t.rd l.reg FCL_RAW) 19 = true))) ∧
  (∀ (l : LaneId) (s : State), s.up l = true → s.vstate l = 3 → 2 ≤ s.rd l.reg INT_LEFT_FRAMES →
    (s.rd l.reg BST_STATE = 1 → Runs (.leaveReset l) s (fun t =>
      Writes s t [(STF_STATE.key l.reg 0, 4), (FAB_PHASE.key l.reg 0, 2), (FAB_PHASE.key l.pow 0, 2)])) ∧
    (s.rd l.reg BST_STATE ≠ 1 → Runs (.leaveReset l) s (fun t => t = s.resetLane l ∧ t.vstate l = 4 ∧
      t.rd l.reg FAB_REGION_EPOCH = (s.rd l.reg FAB_REGION_EPOCH + 1) % 2 ^ 32 ∧ (t.lane l).wbe = {} ∧ SameOtherLanes s t l ∧
      SameOff (fun k => k.region = l.reg ∨ k.region = l.pow ∨ k.block = 4) s t)))

/-- The opcodes of class 0x04 (R131). A STAFF_REQUEST for an eligible lane makes the holder release the staff to it (R126), and has
no effect in another lane; a RELINQUISH releases it with no successor; a REJOIN of a lane in standby counts it in N, and the
lane itself is in service; an EXCLUDE_LANE makes the lane it names leave, as R125 says.
Each of these answers a next state with its own effect, on the conditions its clauses put on the state and the operands alone:
STAFF_REQUEST, RELINQUISH, REJOIN, EXCLUDE_LANE, and the messages by which what they ask for reaches another lane: STAFF_CLAIM_RECEIVE,
STAFF_AGREE_RECEIVE, STAFF_RELEASE_RECEIVE, STAFF_RELINQUISH_RECEIVE, STAFF_ADMIT_RECEIVE. -/
def Obligations.StaffOpcodes : Prop :=
  (∀ (l x : LaneId) (m : StaffMsg) (t0 : Nat) (s : State), s.up l = true → m.sender = x.reg → x ≠ l → s.voting l l = true →
    m.epoch = s.rd l.reg STF_EPOCH + 1 → s.rd l.reg STF_RESERVED = x.reg → Runs (.staffClaimReceive (.lane l) m t0) s (fun t =>
      t.sent = ((s.atTime t0).tells [.staff (.lane x) (s.staffMsg l 4 x.reg m.epoch 0), .staff .s (s.staffMsg l 4 x.reg m.epoch 0)]).sent ∧
      t.params = s.params ∧ SameOtherLanes s t l)) ∧
  (∀ (l x : LaneId) (m : StaffMsg) (t0 : Nat) (s : State), s.up l = true → m.subject = l.reg → m.epoch = s.rd l.reg STF_EPOCH + 1 →
    s.rdB l.reg STF_CLAIMING = true → m.sender = x.reg → s.rdB l.reg STF_S_SILENT = false → Runs (.staffAgreeReceive (.lane l) m t0) s (fun t =>
      bit (t.rd l.reg STF_S_AGREE) x.idx = true ∧ SamePlaces s t [STF_S_AGREE.key l.reg 0] ∧ t.sent = s.sent ∧ SameOtherLanes s t l)) ∧
  (∀ (l : LaneId) (m : StaffMsg) (t0 : Nat) (s : State), s.up l = true → m.sender = s.rd l.reg STF_HOLDER → m.sender ≠ 0 → m.sender ≠ l.reg →
    m.epoch = s.rd l.reg STF_EPOCH → s.rdB l.reg STF_CLAIMING = false → s.rdB l.reg STF_S_SILENT = false →
    (m.subject ≠ 0 → m.subject ≤ 8 → m.subject ≠ l.reg → Runs (.staffReleaseReceive (.lane l) m t0) s (fun t => Reads t
      [(STF_HOLDER.key l.reg 0, 0), (STF_PREV.key l.reg 0, m.sender), (STF_RELEASED.key l.reg m.sender, 1), (STF_RESERVED.key l.reg 0, m.subject)] ∧
      t.sent = s.sent ∧ SameOtherLanes s t l)) ∧
    (s.rd l.reg STF_RESERVED ≠ 0 → s.rd l.reg STF_RESERVED ≠ l.reg → Runs (.staffRelinquishReceive (.lane l) m t0) s (fun t => Reads t
      [(STF_HOLDER.key l.reg 0, 0), (STF_PREV.key l.reg 0, m.sender), (STF_RELINQ.key l.reg m.sender, 1)] ∧ t.sent = s.sent ∧
      SameOtherLanes s t l))) ∧
  (∀ (l x : LaneId) (m : StaffMsg) (s : State), s.up l = true → m.subject = x.reg → x ≠ l → Runs (.staffAdmitReceive (.lane l) m) s (fun t =>
    t.rd l.reg STF_RELINQ x.reg = 0 ∧ bit (t.rd l.reg STF_ADMIT_WAIT) x.idx = false ∧ t.sent = s.sent ∧ SameOtherLanes s t l)) ∧
  (∀ (l : LaneId) (h : Hdr) (lane : Nat) (s : State),
    (Performs s l h 0x0401 → s.chkStaffRequest l lane = none → Runs (.staffRequest l h lane) s (fun t => ∃ u, Performed l h 0x0401 rOk u t ∧
      (s.rd l.reg STF_HOLDER = l.reg → lane ≠ l.reg → Writes s u [(STF_COUNT_ON.key l.reg 0, 0), (STF_PREV.key l.reg 0, l.reg),
        (STF_RENEW_OPEN.key l.reg 0, 0), (STF_HOLDER.key l.reg 0, 0), (STF_CAUSE.key l.reg 0, 1), (STF_RELEASED.key l.reg l.reg, 1),
        (STF_RESERVED.key l.reg 0, lane)] (s.toAll l (s.staffMsg l 6 lane (s.rd l.reg STF_EPOCH) 0))) ∧
      (s.rd l.reg STF_HOLDER ≠ l.reg → u = s))) ∧
    (Performs s l h 0x0402 → s.staffOk l = true → Runs (.relinquish l h) s (fun t => ∃ u, Performed l h 0x0402 rOk u t ∧
      Writes s u [(STF_COUNT_ON.key l.reg 0, 0), (STF_PREV.key l.reg 0, l.reg), (STF_RENEW_OPEN.key l.reg 0, 0), (STF_HOLDER.key l.reg 0, 0),
        (STF_CAUSE.key l.reg 0, 1), (STF_RELEASED.key l.reg l.reg, 1), (STF_RESERVED.key l.reg 0, 0)]
        (s.toAll l (s.staffMsg l 6 0 (s.rd l.reg STF_EPOCH) 0)))) ∧
    (Performs s l h 0x0403 → s.chkRejoin l lane = none → Runs (.rejoin l h lane) s (fun t => ∃ u, Performed l h 0x0403 rOk u t ∧
      (lane ≠ l.reg → Writes s u [(VOT_IN_N.key l.reg lane, 1)]) ∧
      (lane = l.reg → u.vstate l = 2 ∧ u.rd l.reg VOT_IN_N l.reg = 1 ∧
        ∀ x ∈ s.peersOf l, u.rd l.reg VOT_IN_N x.reg = b2n (s.seen l x == 2)))) ∧
    (Performs s l h 0x0404 → s.chkExcludeLane l lane = none → Runs (.excludeLane l h lane) s (fun t => ∃ u, Performed l h 0x0404 rOk u t ∧
      (lane ≠ l.reg → u = s) ∧
      (lane = l.reg → s.vstate l < 3 → u.vstate l = 3 ∧ u.rd l.reg STF_COUNT_ON = 0 ∧ u.rd l.reg STF_CLAIMING = 0 ∧
        u.rd l.reg STF_WAIT_ON = 0 ∧ (∀ b, b < 6 → u.rd l.reg CMT_STATE b ≠ 2 ∧ u.rd l.reg CMT_STATE b ≠ 1) ∧
        u.sent = (s.tells (s.toAll l (s.staffMsg l 7 (if s.rd l.reg STF_HOLDER = l.reg then l.reg else 0) (s.rd l.reg STF_EPOCH) 0))).sent))))

/-! ### Formation, rejoin, lockstep -/

/-- The rejoin of a lane (R90, R128 to R130, R248, R564). A lane that hears one in standby or in service, and whose links it left for are up
again, requests the state transfer from each; the source answers with its state, another with its check. A transfer complete within 15 ms and equal to the second
check is loaded, and the lane is in shadow; another fails the step, which counts and starts again, and after three failures the
lane stays out and asserts source 12. The shadow ended with its conditions met, the lane's step has succeeded, the source sends
the second transfer and the holder its ADMIT; the second transfer is held for the first compute start after the base period it names, where
it is loaded, or fails the shadow step.
Each of these answers a next state with its own effect, on the conditions its clauses put on the state and the operands alone:
STATE_TRANSFER_REQUEST, STATE_TRANSFER_COMPLETE, STATE_TRANSFER_TIMEOUT, SHADOW_END, LOOP_STATE_TRANSFER_COMPLETE, FORMATION_LISTEN_END. -/
def Obligations.Rejoin : Prop :=
  (∀ (l : LaneId) (s : State), s.up l = true → s.vstate l = 4 → s.synced l = true → s.rdB l.reg STF_STAY_OUT = false →
    s.rdB l.reg STF_XFER_ON = false → s.liveHeard l ≠ [] → s.rd l.reg LSC_STATE ≠ 3 →
    (s.linksBack l = true → Runs (.formationListenEnd l) s (fun t => Writes s t
      [(STF_LISTEN.key l.reg 0, 0), (STF_LINK_OUT.key l.reg 0, 0), (STF_XFER_ON.key l.reg 0, 1), (STF_XFER_AT.key l.reg 0, s.now)]
      ((s.liveHeard l).map (fun p => .xferRequest l p)))) ∧
    (s.linksBack l = false → Runs (.formationListenEnd l) s (fun t => t = s))) ∧
  (∀ (l x : LaneId) (s : State), s.up l = true → x ≠ l → s.vstate l = 1 ∨ s.vstate l = 2 →
    (s.rd l.reg STF_HOLDER = l.reg → Runs (.stateTransferRequest l x) s (fun t => Writes s t [] [.stateXfer x (s.stateXfer l)])) ∧
    (s.rd l.reg STF_HOLDER ≠ 0 → s.rd l.reg STF_HOLDER ≠ x.reg → s.rd l.reg STF_HOLDER ≠ l.reg →
      Runs (.stateTransferRequest l x) s (fun t => Writes s t [] [.xferCrc x (xferCheck (s.stateXfer l))]))) ∧
  (∀ (l : LaneId) (x : StateXfer) (crc : Option Nat) (us : Nat) (s : State), s.up l = true → s.rdB l.reg STF_XFER_ON = true →
    us ≤ 15000 → crc = none ∨ crc = some (xferCheck x) → x.anFailed.length = 8 → x.diFailed.length = 3 → x.targets.length = 5 →
    Runs (.stateTransferComplete l x crc us) s (fun t => t.vstate l = 0 ∧ t.sent = s.sent ∧ SameOtherLanes s t l ∧
      Reads t ([(STF_HOLDER.key l.reg 0, x.holder), (STF_EPOCH.key l.reg 0, x.epoch), (STF_LEASE_MS.key l.reg 0, x.lease),
        (VOT_DIGEST.key l.reg 0, x.digest), (VOT_NET_STATE.key l.reg 0, x.netState), (VOT_MODE.key l.reg 0, x.mode),
        (STF_XFER_ON.key l.reg 0, 0), (STF_XFER_LAST.key l.reg 0, us), (STF_SHADOW_AT.key l.reg 0, s.now)] ++
        x.targets.zipIdx.flatMap (fun p => [(CEN_TARGET.key l.reg p.2, p.1.1), (CEN_TGT_CMD.key l.reg p.2, p.1.2)]) ++
        x.anFailed.zipIdx.map (fun p => (VOT_AN_STATE.key l.reg p.2, p.1)) ++
        x.diFailed.zipIdx.map (fun p => (VOT_DI_FAILED.key l.reg (p.2 + 1), p.1))) ∧
      (t.lane l).vot = { (s.lane l).vot with agreed := x.agreed, minority := x.minority, copies := [], windows := [], waiting := [] } ∧
      (t.lane l).tblLoad = some x.table ∧
      ∀ i, i < 18 → t.rdB l.reg VOT_LOST_W (8 * (i / 6 + 1) + i % 6) = bit (x.lostW.getD (i / 6) 0) (i % 6) ∧
        t.rdB l.reg VOT_STOPPED_W (8 * (i / 6 + 1) + i % 6) = bit (x.stoppedW.getD (i / 6) 0) (i % 6))) ∧
  (∀ (l : LaneId) (x : StateXfer) (crc : Option Nat) (us : Nat) (s : State), s.up l = true → s.rdB l.reg STF_XFER_ON = true →
    us > 15000 ∨ (∃ c, crc = some c ∧ c ≠ xferCheck x) → ∀ c ∈ [Instr.stateTransferComplete l x crc us, .stateTransferTimeout l],
    (s.rd l.reg STF_STEP_FAIL 2 < 2 → Runs c s (fun t => Writes s t [(STF_STATE.key l.reg 0, 4), (STF_XFER_ON.key l.reg 0, 1),
      (STF_XFER_AT.key l.reg 0, s.now), (STF_STEP_FAIL.key l.reg 2, s.rd l.reg STF_STEP_FAIL 2 + 1), s.next l.reg STF_CNT_XFER_FAIL]
      ((s.liveHeard l).map (fun p => .xferRequest l p)))) ∧
    (s.rd l.reg STF_STEP_FAIL 2 = 2 → NoReset s l.reg 12 → Runs c s (fun t => t.vstate l = 4 ∧ t.rd l.reg STF_STAY_OUT = 1 ∧
      t.rd l.reg STF_XFER_ON = 0 ∧ Counted s t l.reg STF_CNT_XFER_FAIL ∧ (Judged s l.reg 12 → bit (t.rd l.reg FCL_ERR_STATUS) 12 = true)))) ∧
  (∀ (l : LaneId) (s : State), s.up l = true → s.vstate l = 0 → s.rdB l.reg STF_ENTER = false → s.rdB l.reg STF_SHADOW_BAD = false →
    s.digestSame l = true → s.setsValid l = true → s.rd l.reg STF_SHADOW_AT + 1000000 * s.rd l.reg STF_SHADOW_TIME ≤ s.now →
    Runs (.shadowEnd l l) s (fun t => Writes s t [(STF_STEP_FAIL.key l.reg 3, 0)])) ∧
  (∀ (l x : LaneId) (s : State), s.up l = true → x ≠ l → s.vstate l = 1 ∨ s.vstate l = 2 → s.seen l x = 0 → s.rpcOn l = [] →
    (s.rd l.reg STF_HOLDER = l.reg → Runs (.shadowEnd l x) s (fun t => Writes s t [(STF_RELINQ.key l.reg x.reg, 0)]
      (.loopXfer x (s.loopXfer l) :: s.toAll l (s.staffMsg l 8 x.reg (s.rd l.reg STF_EPOCH) 0)))) ∧
    (s.rd l.reg STF_HOLDER = 0 → s.vstate l = 1 → Runs (.shadowEnd l x) s (fun t => Writes s t
      [(STF_ADMIT_WAIT.key l.reg 0, setBit (s.rd l.reg STF_ADMIT_WAIT) x.idx)]))) ∧
  (∀ (l : LaneId) (x : LoopXfer) (s : State), s.up l = true → s.vstate l = 0 →
    Runs (.loopStateTransferComplete l x true) s (fun t => t = s.modLane l (fun y => { y with loopLoad := some x })) ∧
    (s.rd l.reg STF_STEP_FAIL 3 < 2 → Runs (.loopStateTransferComplete l x false) s (fun t => Writes s t [(STF_STATE.key l.reg 0, 4),
      (STF_XFER_ON.key l.reg 0, 1), (STF_XFER_AT.key l.reg 0, s.now), (STF_STEP_FAIL.key l.reg 3, s.rd l.reg STF_STEP_FAIL 3 + 1),
      s.next l.reg STF_CNT_SHADOW_FAIL] ((s.liveHeard l).map (fun p => .xferRequest l p))))) ∧
  (∀ (l : LaneId) (x : LoopXfer) (s : State), (s.lane l).loopLoad = some x →
    (s.baseNumber l = x.period → s.loadPending l = s) ∧
    (s.baseNumber l ≠ x.period → x.secs = [] → x.rpc = [] → x.sat.length = 48 → x.targets.length = 5 →
      Writes (s.modLane l (fun y => { y with loopLoad := none })) (s.loadPending l)
        (x.sat.zipIdx.map (fun p => (CEN_SAT_TIME.key l.reg p.2, p.1)) ++
          x.sat.zipIdx.map (fun p => (CEN_SAT_PS.key l.reg p.2, p.1 * 1000000000)) ++
          (x.sat.zipIdx.filter (fun p => decide (p.1 ≠ 0))).map (fun p => (CEN_X_PREV.key l.reg p.2, 1)) ++ [(STF_LOOP_GOT.key l.reg 0, 1)] ++
          x.targets.zipIdx.flatMap (fun p => [(CEN_TARGET.key l.reg p.2, p.1.1), (CEN_TGT_CMD.key l.reg p.2, p.1.2)]))))

/-- Formation (R564, R565, R572). A ready lane that hears none in standby or in service enters shadow with digest 0 and an empty
vote record. 500 ms after the first shadow frame S admits the lanes it sees in shadow; a lane to which S is lost, the lowest
in shadow, sends an ADMIT for each and enters itself. Only S forms a lane to which it is not lost.
Each of these answers a next state with its own effect, on the conditions its clauses put on the state and the operands alone:
FORMATION_LISTEN_END, FORMATION_TIMEOUT, and what S and the lanes learn of each other by: EXCH_FRAME_RECEIVE, S_EXCH_RECEIVE, S_ECHO_RECEIVE,
S_FRAME_SILENCE; COMMON_LATCH_INSTANT (a formed lane enters service at the first one more than `VOTE_CUTOFF` after its STATUS: R565). -/
def Obligations.Formation : Prop :=
  (∀ (l x : LaneId) (f : ExchFrame) (t0 : Nat) (s : State), s.up l = true → f.region = x.reg → x ≠ l → s.hasRegion x.reg = true →
    s.vstate l ≠ 4 → s.rdB l.reg STF_S_SILENT = false → s.slotState l (s.actSlot l) ≠ 3 → s.rdB l.reg VOT_DIG_DONE x.reg = true →
    Runs (.exchFrameReceive l f t0) s (fun t => (t.lane l).vot.frame x = some f ∧ t.rd l.reg VOT_GOT x.reg = 1 ∧ t.vstate l = s.vstate l ∧
      t.sent = s.sent ∧ SameOtherLanes s t l)) ∧
  (∀ (l : LaneId) (f : ExchFrame) (t0 : Nat) (s : State), s.sUp = true → f.region = l.reg → s.hasRegion l.reg = true → f.vstate = 0 →
    (∃ x ∈ s.lanesOf, x ≠ l ∧ s.shadowS x = false) → Runs (.sExchReceive f t0) s (fun t => t.sdie.frame l = some f ∧
      t.rd 8 STF_SEEN_AT l.reg = t0 % 2 ^ 64 ∧ t.rd 8 STF_FORM_ON = 1 ∧ (∃ e, Sent.echo l e ∈ t.sent ∧ e.period = f.period) ∧
      ∀ y : LaneId, t.lane y = s.lane y)) ∧
  (∀ (l : LaneId) (e : SEcho) (t0 : Nat) (s : State), s.up l = true → bit e.excluded l.idx = false → Runs (.sEchoReceive l e t0) s (fun t =>
    (t.lane l).vot.echo = some e ∧ Reads t [(VOT_ECHO_GOT.key l.reg 0, 1), (VOT_ECHO_AT.key l.reg 0, t0), (STF_EXCL_SEEN.key l.reg 0, e.excluded)] ∧
    t.sent = s.sent ∧ SameOtherLanes s t l)) ∧
  (∀ (l : LaneId) (s : State), s.sUp = true → s.excl l.reg = false → s.rd 8 S_STF_HOLDER ≠ l.reg → Runs (.sFrameSilence l) s (fun t =>
    t.excl l.reg = true ∧ Counted s t 8 S_STF_CNT_EXCLUDE l.reg ∧ t.rd 8 STF_ADMITTED l.reg = 0 ∧ t.rd 8 SVT_DEAD l.reg = 1)) ∧
  (∀ (l : LaneId) (t0 : Nat) (s : State), s.up l = true → s.twlEvents l = true → s.vstate l = 0 → s.rdB l.reg STF_ENTER = true →
    s.rd l.reg STF_ENTER_AT + 1000 * s.rd l.reg VOT_VOTE_CUTOFF < t0 → s.rdB l.reg INT_REJOINING = false → s.rdB l.reg PWR_CREEP_WOKE = false →
    (s.lane l).vot.copies = [] → (s.lane l).vot.minority = [] → s.rd l.reg VOT_NET_LIMIT ≠ 0 → bit (s.rd l.reg SIO_RESET_SRC) 0 = false →
    s.rd l.reg PWR_STATE ≠ 4 → Runs (.commonLatchInstant l t0) s (fun t => t.vstate l = 2 ∧ t.rd l.reg STF_ENTER = 0 ∧
      t.rd l.reg VOT_IN_N l.reg = 1 ∧ SameOtherLanes s t l)) ∧
  (∀ (l : LaneId) (s : State), s.up l = true → s.vstate l = 4 → s.synced l = true → s.rdB l.reg STF_STAY_OUT = false →
    s.rdB l.reg STF_XFER_ON = false → s.linksBack l = true → s.liveHeard l = [] → s.rd l.reg LSC_STATE ≠ 3 → Runs (.formationListenEnd l) s (fun t => Sets s t
      [(VOT_DIGEST.key l.reg 0, 0), (STF_STATE.key l.reg 0, 0), (STF_SHADOW_AT.key l.reg 0, s.now), (STF_SHADOW_BAD.key l.reg 0, 0),
       (STF_SHADOW_N.key l.reg 0, 0), (STF_LOOP_GOT.key l.reg 0, 0), (STF_LISTEN.key l.reg 0, 0)] ∧ SameOtherLanes s t l ∧ t.sent = s.sent ∧
      (t.lane l).vot = { (s.lane l).vot with copies := [], windows := [], agreed := [], waiting := [], minority := [] })) ∧
  (∀ s : State, s.sUp = true → s.mayForm = true → s.rdB 8 STF_FORM_ON = true → (∀ l : LaneId, s.rdB l.reg STF_S_SILENT = false) →
    (∃ l ∈ s.lanesOf, s.shadowS l = true) → Runs .formationTimeout s (fun t => Writes s t
      ((s.lanesOf.filter (fun l => s.shadowS l)).map (fun l => (STF_ADMITTED.key 8 l.reg, 1)) ++
        [(S_STF_FORM_LAST.key 8 0, (s.lanesOf.filter (fun l => s.shadowS l)).foldl (fun m l => setBit m l.idx) 0 + 8)]))) ∧
  (∀ (l : LaneId) (s : State), s.sUp = false → s.up l = true → s.vstate l = 0 → s.rdB l.reg STF_S_SILENT = true →
    (∀ x : LaneId, x ≠ l → s.rdB x.reg STF_S_SILENT = false) → s.rd l.reg STF_EPOCH = 0 → s.liveHeard l = [] →
    s.rdB l.reg STF_ENTER = false → s.shadowSeen l = [l] → Runs .formationTimeout s (fun t => Writes s t
      [(STF_EXCL_SEEN.key l.reg 0, clrBit (s.rd l.reg STF_EXCL_SEEN) l.idx), (STF_ENTER.key l.reg 0, 1), (STF_ENTER_AT.key l.reg 0, s.now)]
      (s.toAll l (s.staffMsg l 8 l.reg 0 0)))) ∧
  (∀ s : State, s.sUp = false → (∀ l : LaneId, s.rdB l.reg STF_S_SILENT = false) → Runs .formationTimeout s (fun t => t = s))

/-- The lockstep pair (R139, R140, R142, R147, R148). A mismatch of a running pair, in START too, halts both copies and is recorded with the
lowest group of the cycle of detection, with the map of it and of the cycles up to the halt, the cycle and the low half of the tick, and
counted; in a lane leaving or out no more happens; in another source 0 is asserted, whose region reset makes the lane leave (R125, R476). Synchroniser differences on an input are counted; when those within 1 s
reach the limit the input is recorded and source 1 asserted.
Each of these answers a next state with its own effect, on the conditions its clauses put on the state and the operands alone:
LOCKSTEP_MISMATCH, SYNC_DIFF_DETECT. -/
def Obligations.Lockstep : Prop :=
  (∀ (l : LaneId) (groups later : List Nat) (tick : Nat) (s : State), s.hasRegion l.reg = true → s.rdB l.reg INT_POWERED = true →
    s.rd l.reg FAB_PHASE ≠ 2 → s.rd l.reg LSC_STATE = 2 → groups ≠ [] → (∀ g ∈ groups, g < 512) → (∀ g ∈ later, g < 512) →
    let record (t : State) : Prop := t.rd l.reg LSC_STATE = 3 ∧ t.rd l.reg LSC_LAST_GROUP ∈ groups ∧
      (∀ g ∈ groups, t.rd l.reg LSC_LAST_GROUP ≤ g) ∧
      (∀ g, g < 512 → (bit (t.rd l.reg LSC_LAST_MAP (g / 32)) (g % 32) = true ↔ g ∈ groups ∨ g ∈ later)) ∧
      t.rd l.reg LSC_LAST_CYCLE = s.cycle l % 2 ^ 32 ∧ t.rd l.reg LSC_LAST_TICK = tick % 2 ^ 32 ∧ Counted s t l.reg LSC_CNT_MISMATCH
    (s.vstate l ≥ 3 → Runs (.lockstepMismatch l ⟨groups, later⟩ tick) s (fun t => record t ∧ t = { s with params := t.params } ∧
      SamePlaces s t ([LSC_STATE.key l.reg 0, LSC_LAST_GROUP.key l.reg 0, LSC_LAST_CYCLE.key l.reg 0, LSC_LAST_TICK.key l.reg 0,
        LSC_MRAM.key l.reg 0, LSC_CNT_MISMATCH.key l.reg 0] ++ (List.range 16).map (fun i => LSC_LAST_MAP.key l.reg i)))) ∧
    (s.up l = true → s.vstate l < 3 → Judged s l.reg 0 → (s.rd l.reg FCL_REACT 0).testBit 3 = true → s.quietLane l.reg = false →
      bit (s.rd l.reg FCL_ERR_STATUS) 0 = false → Runs (.lockstepMismatch l ⟨groups, later⟩ tick) s (fun t => record t ∧
        bit (t.rd l.reg FCL_ERR_STATUS) 0 = true ∧ t.vstate l = 3 ∧ (∀ b, b < 6 → t.rd l.reg CMT_STATE b ≠ 2)))) ∧
  (∀ (l : LaneId) (groups later : List Nat) (tick : Nat) (s : State), s.rd l.reg LSC_STATE ≠ 2 →
    Runs (.lockstepMismatch l ⟨groups, later⟩ tick) s (fun t => t = s)) ∧
  (∀ (l : LaneId) (i t0 : Nat) (s : State), s.pairRuns l = true → i < 64 →
    let n := ((s.lane l).syncTimes.filter (fun e => decide (e.2 + 1000000000 > t0) && e.1 == i)).length + 1
    (n < s.rd l.reg LSC_SYNC_DIFF_LIMIT → Runs (.syncDiffDetect l i t0) s (fun t =>
      Sets s t [s.next l.reg LSC_CNT_SYNC_DIFF] ∧ t.sent = s.sent ∧ SameOtherLanes s t l ∧
      (t.lane l).syncTimes = (s.lane l).syncTimes.filter (fun e => decide (e.2 + 1000000000 > t0)) ++ [(i, t0)])) ∧
    (s.rd l.reg LSC_SYNC_DIFF_LIMIT ≤ n → NoReset s l.reg 1 → Runs (.syncDiffDetect l i t0) s (fun t =>
      Counted s t l.reg LSC_CNT_SYNC_DIFF ∧ t.rd l.reg LSC_SYNC_DIFF_INPUT = i ∧ (∀ e ∈ (t.lane l).syncTimes, e.1 ≠ i) ∧
      SameOff (fun k => FaultPlace k ∨ k = LSC_CNT_SYNC_DIFF.key l.reg 0 ∨ k = LSC_SYNC_DIFF_INPUT.key l.reg 0) s t ∧
      (Judged s l.reg 1 → bit (t.rd l.reg FCL_ERR_STATUS) 1 = true))))

/-! ### The winding drive and the gate drive -/

/-- START_DRIVE and STOP_DRIVE (R97, R152, R178, R212, R366, R519). A start takes each named bridge that is OFF or FREE to CAPTURE,
after a precharge where a phase is not ready, one in SHORT to RUN with weight 0; in TRIM it waits for point 0; a lane in shadow
leaves its bridges as they are; without a ready gate supply it is RANGE, as the model also answers it while the power die is in START (R18,
R205; log 66). A stop of kind 0 lets the weight of a bridge in RUN fall over `STOP_RAMP`; one of kind 1
withdraws it; CAPTURE and FREE go to OFF, SHORT stays. Bridges not named stay as they are. The ramp's end withdraws the
bridge.
Each of these answers a next state with its own effect, on the conditions its clauses put on the state and the operands alone:
START_DRIVE, STOP_DRIVE, STOP_RAMP_END. -/
def Obligations.DriveOpcodes : Prop :=
  (∀ (l : LaneId) (h : Hdr) (mask kind : Nat) (s : State), Performs s l h 0x0210 → s.chkStart l mask kind = none →
    Runs (.startDrive l h mask kind) s (fun t => ∃ u, Performed l h 0x0210 rOk u t ∧ SameOtherLanes s u l ∧ u.sent = s.sent ∧
      (∀ b, b < 6 → mask.testBit b = false → u.rd l.reg CMT_STATE b = s.rd l.reg CMT_STATE b) ∧
      (s.vstate l = 0 → ∀ b, b < 6 → u.rd l.reg CMT_STATE b = s.rd l.reg CMT_STATE b) ∧
      (∀ b, b < 6 → mask.testBit b = true → u.rd l.reg VOT_STOPPED_W (8 * l.reg + b) = b2n (s.bridge l b).ramp.isSome) ∧
      (s.vstate l ≠ 0 → s.rd l.reg CLK_POINT = 0 → ∀ b, b < 6 → mask.testBit b = true →
        (s.rd l.reg CMT_STATE b = 0 ∨ s.rd l.reg CMT_STATE b = 3 → s.rdB l.pow GDR_PRE_ON b = false →
          (s.bootReady l b = true → u.rd l.reg CMT_STATE b = 1) ∧
          (s.bootReady l b = false → u.rd l.pow GDR_PRE_ON b = 1 ∧ u.rd l.reg CMT_STATE b = s.rd l.reg CMT_STATE b ∧
            u.rd l.pow GDR_GATES b = (if s.rdB l.reg INT_EXTEST ∨ s.latchedB l b = true then 0 else 2))) ∧
        (s.rd l.reg CMT_STATE b = 4 → u.rd l.reg CMT_STATE b = 2 ∧ u.rd l.reg VOT_LOST_W (8 * l.reg + b) = 0 ∧
          u.rd l.reg CEN_MODE (2 * b) = 1 ∧ u.rd l.reg CEN_MODE (2 * b + 1) = 1 ∧
          ((s.lane l).bridges.length = 6 → (u.bridge l b).wOwn = 0)) ∧
        (s.rd l.reg CMT_STATE b = 1 ∨ s.rd l.reg CMT_STATE b = 2 → u.rd l.reg CMT_STATE b = s.rd l.reg CMT_STATE b)) ∧
      (s.vstate l ≠ 0 → s.rd l.reg CLK_POINT ≠ 0 → ∀ b, b < 6 → mask.testBit b = true →
        bit (u.rd l.reg PWR_START_MASK) b = true ∧ u.rd l.reg CMT_STATE b = s.rd l.reg CMT_STATE b))) ∧
  (∀ (l : LaneId) (h : Hdr) (mask kind : Nat) (s : State), Performs s l h 0x0210 → kind ≠ 0 →
    Runs (.startDrive l h mask kind) s (Denied l h 0x0210 (rRange 0 17) s)) ∧
  (∀ (l : LaneId) (h : Hdr) (mask : Nat) (s : State), Performs s l h 0x0210 → s.gatesReady l = false →
    (∀ b, b < 6 → mask.testBit b = true → s.cannotStart l b = false) → s.tooMany l mask = false →
    Runs (.startDrive l h mask 0) s (Denied l h 0x0210 (rRange (GDR_VGD.id l.pow 0) 0) s)) ∧
  (∀ (l : LaneId) (h : Hdr) (mask kind : Nat) (s : State), Performs s l h 0x0211 → s.chkStop l mask kind = none →
    Runs (.stopDrive l h mask kind) s (fun t => ∃ u, Performed l h 0x0211 rOk u t ∧ SameOtherLanes s u l ∧ u.sent = s.sent ∧
      (∀ b, b < 6 → mask.testBit b = false ∨ s.vstate l = 0 → u.rd l.reg CMT_STATE b = s.rd l.reg CMT_STATE b) ∧
      (∀ b, b < 6 → mask.testBit b = true → u.rd l.reg VOT_STOPPED_W (8 * l.reg + b) = 1) ∧
      (s.vstate l ≠ 0 → ∀ b, b < 6 → mask.testBit b = true → s.rdB l.pow GDR_PRE_ON b = false →
        (s.rd l.reg CMT_STATE b = 1 ∨ s.rd l.reg CMT_STATE b = 3 → u.rd l.reg CMT_STATE b = 0) ∧
        (s.rd l.reg CMT_STATE b = 4 → u.rd l.reg CMT_STATE b = 4) ∧
        (s.rd l.reg CMT_STATE b = 2 → kind = 1 → u.rd l.reg CMT_STATE b = s.withdrawTo l b) ∧
        (s.rd l.reg CMT_STATE b = 2 → kind = 0 → u.rd l.reg CMT_STATE b = 2 ∧ ((s.lane l).bridges.length = 6 →
          (s.bridge l b).ramp = none → (u.bridge l b).ramp =
            some ((s.bridge l b).wOwn * (s.baseSec l * 1000 / ((max 1 (s.rd l.reg CMT_STOP_RAMP) : Nat) : Rat)))))))) ∧
  (∀ (l : LaneId) (b : Nat) (s : State), s.up l = true → b < 6 → s.rd l.reg CMT_STATE b = 2 → (s.bridge l b).ramp.isSome = true →
    Runs (.stopRampEnd l b) s (fun t => t.rd l.reg CMT_STATE b = s.withdrawTo l b ∧ t.rd l.reg CMT_SHARE b = 0 ∧
      t.rd l.reg CEN_MODE (2 * b) = 0 ∧ t.rd l.reg CEN_MODE (2 * b + 1) = 0 ∧ t.sent = s.sent ∧ SameOtherLanes s t l ∧
      (∀ c, c < 6 → c ≠ b → t.rd l.reg CMT_STATE c = s.rd l.reg CMT_STATE c)))

/-- The ends of capture, precharge, extrapolation and alignment (R194, R198, R200, R201, R212). A capture ends when the collection covers the
capture length, with the class of the tracking result: VALID enters RUN; STILL enters it on the encoder or with an alignment; a failed one
is repeated once, the second takes the bridge to FREE, counted, and asserts source 28. A precharge ends in CAPTURE. An extrapolation that
runs out withdraws the bridge and asserts source 27. An alignment with a converged axis and a polarity ends; one without takes the bridge to
FREE, counted, and asserts source 28.
Each of these answers a next state with its own effect, on the conditions its clauses put on the state and the operands alone:
CAPTURE_END, PRECHARGE_END, EXTRAP_TIMEOUT, HFI_ALIGN_END. -/
def Obligations.CaptureAndFallback : Prop :=
  (∀ (l : LaneId) (b t0 : Nat) (s : State), s.up l = true → b < 6 → s.rd l.reg CMT_STATE b = 1 →
    ∀ r, r = s.tracking l b → (r.covers = false → Runs (.captureEnd l b t0) s (fun t => t = s.atTime t0)) ∧ (r.covers = true →
    (r.cls = 1 → Runs (.captureEnd l b t0) s (fun t => t.rd l.reg CMT_STATE b = 2 ∧ t.rd l.reg OBS_SRC b = b2n (s.encUsable l b) ∧
      t.rd l.reg CEN_MODE (2 * b) = 1 ∧ t.rd l.reg CEN_MODE (2 * b + 1) = 1 ∧ t.rd l.reg OBS_CAP_RESULT b % 4 = 1 ∧
      t.rd l.reg OBS_ANGLE b = r.angle % 65536 ∧ t.sent = s.sent ∧ SameOtherLanes s t l)) ∧
    (r.cls = 2 → s.encUsable l b = true → Runs (.captureEnd l b t0) s (fun t => t.rd l.reg CMT_STATE b = 2 ∧ t.rd l.reg OBS_SRC b = 1 ∧
      t.rd l.reg OBS_CAP_RESULT b % 4 = 2 ∧ t.sent = s.sent ∧ SameOtherLanes s t l)) ∧
    (r.cls = 2 → s.encUsable l b = false → Runs (.captureEnd l b t0) s (fun t => t.rd l.reg CMT_STATE b = 2 ∧ t.rd l.reg OBS_SRC b = 2 ∧
      t.rd l.reg OBS_ALIGN b = 1 ∧ Counted s t l.reg OBS_CNT_HFI b ∧ SameOtherLanes s t l)) ∧
    (r.cls = 3 → s.rdB l.reg OBS_CAP_TRY b = false → Runs (.captureEnd l b t0) s (fun t => t.rd l.reg OBS_CAP_TRY b = 1 ∧
      t.rd l.reg OBS_CAP_RESULT b % 4 = 3 ∧ (t.bridge l b).track = [] ∧ t.sent = s.sent ∧ SameOtherLanes s t l ∧
      SamePlaces s t [OBS_CAP_TRY.key l.reg b, OBS_CAP_RESULT.key l.reg b, OBS_TRACK.key l.reg b])) ∧
    (r.cls = 3 → s.rdB l.reg OBS_CAP_TRY b = true → NoReset s l.reg 28 → Runs (.captureEnd l b t0) s (fun t =>
      t.rd l.reg CMT_STATE b = 3 ∧ Counted s t l.reg OBS_CNT_CAP_FAIL b ∧ t.rd l.pow GDR_GATES b = 0 ∧
      (Judged s l.reg 28 → bit (t.rd l.reg FCL_ERR_STATUS) 28 = true))))) ∧
  (∀ (w : List TrackPt) (f : Fit) (emin : Rat),
    (w.length < 2 * (w.filter TrackPt.clip).length → trackClass w f emin = 3) ∧
    (2 * (w.filter TrackPt.clip).length ≤ w.length → w ≠ [] →
      ((∀ p ∈ w, emin * emin ≤ p.ea * p.ea + p.eb * p.eb) → f.msq * 32400 ≤ 4294967296 → trackClass w f emin = 1) ∧
      ((∀ p ∈ w, emin * emin ≤ p.ea * p.ea + p.eb * p.eb) → 4294967296 < f.msq * 32400 → trackClass w f emin = 3) ∧
      ((∀ p ∈ w, p.ea * p.ea + p.eb * p.eb < emin * emin) → trackClass w f emin = 2))) ∧
  (∀ (l : LaneId) (b : Nat) (s : State), b < 6 → s.on l.pow = true → s.rdB l.pow GDR_PRE_ON b = true →
    (s.up l = true → Runs (.prechargeEnd l b) s (fun t => t.rd l.reg CMT_STATE b = 1 ∧ t.rd l.pow GDR_PRE_ON b = 0 ∧
      t.rd l.pow GDR_GATES b = 0 ∧ (t.bridge l b).track = [] ∧ t.sent = s.sent ∧ SameOtherLanes s t l ∧
      SamePlaces s t ([CMT_STATE.key l.reg b, OBS_STATE.key l.reg b, OBS_TRACK.key l.reg b, GDR_PRE_ON.key l.pow b, GDR_GATES.key l.pow b,
        GDR_ZC_ON.key l.pow b] ++ fallPlaces l b))) ∧
    (s.up l = false → Runs (.prechargeEnd l b) s (fun t => t.rd l.pow GDR_GATES b = 0 ∧ t.rd l.pow GDR_PRE_ON b = 0 ∧
      SameBut s t ([GDR_PRE_ON.key l.pow b, GDR_GATES.key l.pow b, GDR_ZC_ON.key l.pow b] ++ fallPlaces l b)))) ∧
  (∀ (l : LaneId) (b : Nat) (s : State), s.up l = true → b < 6 → s.rd l.reg CMT_STATE b = 2 → s.rd l.reg OBS_SRC b = 3 →
    NoReset s l.reg 27 → Runs (.extrapTimeout l b) s (fun t => t.rd l.reg CMT_STATE b = (s.wr l.reg OBS_SPEED_OK b 1).withdrawTo l b ∧
      t.rd l.reg OBS_GONE b = 1 ∧ t.rd l.reg OBS_LOST b = 0 ∧ t.rd l.reg CMT_SHARE b = 0 ∧
      (Judged s l.reg 27 → bit (t.rd l.reg FCL_ERR_STATUS) 27 = true))) ∧
  (∀ (l : LaneId) (b : Nat) (s : State), s.up l = true → b < 6 → s.rd l.reg CMT_STATE b = 2 → s.rdB l.reg OBS_ALIGN b = true →
    (∀ a peaks plus, a = s.obsAngle l b → polarity peaks = some plus → Runs (.hfiAlignEnd l b ⟨true, peaks⟩) s (fun t => t.rd l.reg OBS_ALIGN b = 0 ∧
      t.rd l.reg CMT_STATE b = 2 ∧ SameOtherLanes s t l ∧ t.sent = s.sent ∧ ((s.lane l).bridges.length = 6 →
        (t.bridge l b).obs.th = (((if plus then a else a + 32768) % 65536 : Nat) : Rat)) ∧
      SamePlaces s t [OBS_ALIGN.key l.reg b, OBS_RUN_N.key l.reg b, OBS_INNOV_N.key l.reg b, OBS_STATE.key l.reg b])) ∧
    (∀ conv peaks, conv = false ∨ polarity peaks = none → NoReset s l.reg 28 → Runs (.hfiAlignEnd l b ⟨conv, peaks⟩) s (fun t =>
      t.rd l.reg CMT_STATE b = 3 ∧ t.rd l.reg OBS_ALIGN b = 0 ∧
      Counted s t l.reg OBS_CNT_CAP_FAIL b ∧ t.rd l.reg OBS_CAP_RESULT b % 4 = 3 ∧
      (Judged s l.reg 28 → bit (t.rd l.reg FCL_ERR_STATUS) 28 = true)))) ∧
  (∀ (p q : Nat) (rest : List (Nat × Nat)), (200 * (p - q) ≥ 3 * (p + q) → 0 < p → q < p → polarity ((p, q) :: rest) = some true ∧
      polarity ((q, p) :: rest) = some false)) ∧
  (∀ (l : LaneId) (b t0 : Nat) (x : HfiAlign) (s : State), s.rd l.reg CMT_STATE b = 0 → s.rdB l.pow GDR_PRE_ON b = false →
    Runs (.captureEnd l b t0) s (fun t => t = s.atTime t0) ∧
    ∀ c ∈ [Instr.prechargeEnd l b, .extrapTimeout l b, .hfiAlignEnd l b x, .stopRampEnd l b], Runs c s (fun t => t = s))

/-- Detections in the gate drive (R215 to R220). A desaturation of a switch that is on turns it off softly, counted, recorded with
its switch and cause; a blanked one, or one of a switch that is off, has no effect; one found as blanking ends is the same; one whose command
has fallen is counted and recorded as a trip of its leg. A hard short does so for each switch of the phase that is on, or counts for the
switch whose command fell last (log 69); one during a soft turn-off of the phase is in the sequence already. A second phase within 1 µs, a short, or trips up to the repeat limit latch the bridge: its gates off, source 3 held; a
third phase within 1 µs is handled as the second. A soft turn-off goes on by its steps; the legs of one event enter step 2 together; a
turn-on of the partner that waits for the clamp is counted (R209).
Each of these answers a next state with its own effect, on the conditions its clauses put on the state and the operands alone:
DESAT_DETECT, DESAT_BLANK_END, HARD_SHORT_DETECT, SOFT_OFF_STEP2, SOFT_OFF_CLAMP, DUTY_RECEIVE (the edges a trip acts on are those of the latest DUTY message: R204, R208). -/
def Obligations.GateTrips : Prop :=
  (∀ (l : LaneId) (b : Nat) (es : List SwitchEdge) (s : State), s.on l.pow = true → b < 6 → (s.lane l).bridges.length = 6 →
    Runs (.dutyReceive l b es) s (fun t => (t.bridge l b).next = es ∧ (t.bridge l b).cur = (s.bridge l b).cur ∧ t.rd l.pow GDR_DUTY_GOT b = 1 ∧
      SamePlaces s t [GDR_DUTY_GOT.key l.pow b] ∧ t.sent = s.sent ∧ SameOtherLanes s t l)) ∧
  (∀ (l : LaneId) (sw t0 : Nat) (s : State), s.on l.pow = true → sw < 36 → (s.lane l).bridges.length = 6 → NoReset s l.pow 0 →
    NoReset s l.pow 3 →
    let b := sw / 6
    let two : Bool := s.rd l.pow GDR_LEG_PH b != 0 && s.rd l.pow GDR_LEG_PH b != sw % 6 / 2 + 1 && decide (t0 ≤ s.rd l.pow GDR_LEG_AT b + 1000)
    let many : Bool := decide (((s.bridge l b).trips.filter (fun e => e.1 == sw % 6 &&
      decide (e.2 + s.rd l.pow GDR_REPEAT_WIN * 1000000 > t0))).length + 1 ≥ s.rd l.pow GDR_REPEAT_LIMIT)
    let counted (t : State) : Prop := Counted s t l.pow GDR_CNT_TRIP sw ∧ bit (t.rd l.pow GDR_ACC b) (sw % 6) = true ∧
      t.rd l.pow GDR_LAST_TRIP b % 256 = sw + 64 ∧ t.rd l.pow GDR_LAST_TRIP b / 2 ^ 32 = s.cycle l % 2 ^ 32
    ∀ c, (c = Instr.desatDetect l sw t0 ∧ s.blanked l b (sw % 6) t0 = false) ∨ c = .desatBlankEnd l sw true t0 →
    (s.latchedB l b = false → s.swOn l b (sw % 6) t0 = true → Runs c s (fun t => t.rd l.pow GDR_SW sw = 1 ∧ counted t ∧
      (two = true ∨ s.rd l.pow GDR_GATES b = 2 ∨ many = true → t.rd l.pow GDR_LATCHED b = sw + 64 ∧ t.rd l.pow GDR_GATES b = 0 ∧
        Counted s t l.pow GDR_CNT_LATCH b ∧ t.rd l.reg CMT_STATE b = (if s.rd l.reg CMT_STATE b = 4 then 3 else s.rd l.reg CMT_STATE b) ∧
        (Judged s l.pow 3 → bit (t.rd l.pow FCL_ERR_STATUS) 3 = true ∧ bit (t.rd l.pow FCL_RAW) 3 = true)) ∧
      (two = true → bit (t.rd l.pow GDR_ACC b) 6 = true ∧ t.rd l.pow GDR_TWO b = sw % 6 / 2 + 1) ∧
      (two = false → s.rd l.pow GDR_GATES b ≠ 2 → many = false → t.latchedB l b = false ∧ t.rd l.pow GDR_GATES b = s.rd l.pow GDR_GATES b ∧
        t.rd l.pow GDR_LEG_PH b = sw % 6 / 2 + 1 ∧
        (s.rd l.pow GDR_LEG_PH b = 0 ∨ s.rd l.pow GDR_LEG_AT b + 1000 < t0 → t.rd l.pow GDR_LEG_AT b = t0 % 2 ^ 64) ∧
        (s.rd l.pow GDR_LEG_PH b ≠ 0 → t0 ≤ s.rd l.pow GDR_LEG_AT b + 1000 → t.rd l.pow GDR_LEG_AT b = s.rd l.pow GDR_LEG_AT b) ∧
        SameOff (fun k => FaultPlace k ∨ k ∈ [GDR_SW.key l.pow sw, GDR_TRIP_AT.key l.pow sw, GDR_CNT_TRIP.key l.pow sw, GDR_ACC.key l.pow b,
          GDR_LAST_TRIP.key l.pow b, GDR_LEG_PH.key l.pow b, GDR_LEG_AT.key l.pow b, GDR_TWO.key l.pow b]) s t))) ∧
    (s.latchedB l b = false → s.swOn l b (sw % 6) t0 = false → s.falling l b (sw % 6) t0 = true →
      (two = false → many = false → Runs c s (fun t =>
        counted t ∧ t.latchedB l b = false ∧ t.rd l.pow GDR_LEG_PH b = sw % 6 / 2 + 1 ∧ SameOff (fun k => FaultPlace k ∨
          k ∈ [GDR_CNT_TRIP.key l.pow sw, GDR_ACC.key l.pow b, GDR_LAST_TRIP.key l.pow b, GDR_LEG_PH.key l.pow b, GDR_LEG_AT.key l.pow b,
            GDR_TWO.key l.pow b]) s t)) ∧
      (two = true → Runs c s (fun t => counted t ∧ t.rd l.pow GDR_LATCHED b = sw + 64 ∧ t.rd l.pow GDR_GATES b = 0 ∧
        bit (t.rd l.pow GDR_ACC b) 6 = true ∧ t.rd l.pow GDR_TWO b = s.rd l.pow GDR_LEG_PH b ∧ t.rd l.pow GDR_SW sw = s.rd l.pow GDR_SW sw))) ∧
    (s.thirdLeg l b (sw % 6 / 2) t0 = true → s.softOff l b (sw % 6) = false → bit (s.rd l.pow GDR_LATCH_ON b) (sw % 6) = true →
      s.rd l.pow GDR_GATES b = 0 → Runs c s (fun t =>
      t.rd l.pow GDR_SW sw = 1 ∧ counted t ∧ bit (t.rd l.pow GDR_ACC b) 6 = true ∧ t.rd l.pow GDR_TWO b = sw % 6 / 2 + 1 ∧
      t.rd l.pow GDR_LATCHED b = s.rd l.pow GDR_LATCHED b ∧ t.rd l.pow GDR_GATES b = 0))) ∧
  (∀ (l : LaneId) (sw t0 : Nat) (s : State) (b : Nat), b = sw / 6 →
    (s.latchedB l b = false ∧ s.swOn l b (sw % 6) t0 = false ∧ s.falling l b (sw % 6) t0 = false) ∨
      (s.latchedB l b = true ∧ (s.thirdLeg l b (sw % 6 / 2) t0 = false ∨ s.softOff l b (sw % 6) = true ∨
        bit (s.rd l.pow GDR_LATCH_ON b) (sw % 6) = false)) →
    ∀ c ∈ [Instr.desatDetect l sw t0, .desatBlankEnd l sw true t0, .desatBlankEnd l sw false t0], Runs c s (fun t => t = s.atTime t0)) ∧
  (∀ (l : LaneId) (sw t0 : Nat) (s : State), s.blanked l (sw / 6) (sw % 6) t0 = true →
    Runs (.desatDetect l sw t0) s (fun t => t = s.atTime t0)) ∧
  (∀ (l : LaneId) (ph t0 : Nat) (hsB : Bool) (s : State), s.on l.pow = true → ph < 18 → s.latchedB l (ph / 3) = false →
    (s.lane l).bridges.length = 6 → s.rd l.pow GDR_GATES (ph / 3) ≠ 0 → NoReset s l.pow 0 → NoReset s l.pow 3 →
    (∀ k, k = 2 * (ph % 3) ∨ k = 2 * (ph % 3) + 1 → s.swOn l (ph / 3) k t0 = true → Runs (.hardShortDetect l ph hsB t0) s (fun t =>
      t.rd l.pow GDR_SW (6 * (ph / 3) + k) = 1 ∧ Counted s t l.pow GDR_CNT_TRIP (6 * (ph / 3) + k) ∧
      t.rd l.pow GDR_LAST_TRIP (ph / 3) / 64 % 4 = (if hsB then 3 else 2) ∧
      (s.rd l.pow GDR_GATES (ph / 3) = 2 → t.latchedB l (ph / 3) = true ∧ t.rd l.pow GDR_GATES (ph / 3) = 0))) ∧
    (s.swOn l (ph / 3) (2 * (ph % 3)) t0 = false → s.swOn l (ph / 3) (2 * (ph % 3) + 1) t0 = false →
      (s.softOff l (ph / 3) (2 * (ph % 3)) = true ∨ s.softOff l (ph / 3) (2 * (ph % 3) + 1) = true ∨ s.lastFallen l (ph / 3) (ph % 3) t0 = none →
        Runs (.hardShortDetect l ph hsB t0) s (fun t => t = s.atTime t0)) ∧
      ∀ k sw, s.softOff l (ph / 3) (2 * (ph % 3)) = false → s.softOff l (ph / 3) (2 * (ph % 3) + 1) = false →
      s.lastFallen l (ph / 3) (ph % 3) t0 = some k → sw = 6 * (ph / 3) + k → s.secondLeg l (ph / 3) (ph % 3) t0 = false →
      ((s.bridge l (ph / 3)).trips.filter (fun e => e.1 == k &&
        decide (e.2 + s.rd l.pow GDR_REPEAT_WIN * 1000000 > t0))).length + 1 < s.rd l.pow GDR_REPEAT_LIMIT →
      Runs (.hardShortDetect l ph hsB t0) s (fun t => Counted s t l.pow GDR_CNT_TRIP sw ∧ t.latchedB l (ph / 3) = false ∧
        t.rd l.pow GDR_LAST_TRIP (ph / 3) % 256 = sw + (if hsB then 192 else 128) ∧
        SameOff (fun k => FaultPlace k ∨ k ∈ [GDR_CNT_TRIP.key l.pow sw, GDR_ACC.key l.pow (ph / 3), GDR_LAST_TRIP.key l.pow (ph / 3),
          GDR_LEG_PH.key l.pow (ph / 3), GDR_LEG_AT.key l.pow (ph / 3), GDR_TWO.key l.pow (ph / 3)]) s t))) ∧
  (∀ (l : LaneId) (sw : Nat) (s : State), s.on l.pow = true → sw < 36 →
    (s.rd l.pow GDR_SW sw = 1 → s.rd l.pow GDR_TWO (sw / 6) = 0 → Runs (.softOffStep2 l sw) s (fun t =>
      Writes s t [(GDR_SW.key l.pow sw, 2)])) ∧
    (s.rd l.pow GDR_SW sw = 1 → s.rd l.pow GDR_TWO (sw / 6) = sw % 6 / 2 + 1 → Runs (.softOffStep2 l sw) s (fun t =>
      (∀ k, k < 6 → t.rd l.pow GDR_SW (swNum (sw / 6) k) =
        (if s.rd l.pow GDR_SW (swNum (sw / 6) k) = 1 then 2 else s.rd l.pow GDR_SW (swNum (sw / 6) k))) ∧
      SameBut s t ((List.range 6).map (fun k => GDR_SW.key l.pow (swNum (sw / 6) k))))) ∧
    (s.rd l.pow GDR_TWO (sw / 6) ≠ 0 → s.rd l.pow GDR_TWO (sw / 6) ≠ sw % 6 / 2 + 1 → Runs (.softOffStep2 l sw) s (fun t => t = s)) ∧
    (s.rd l.pow GDR_SW sw = 2 → ∀ q r, q = swNum (sw / 6) (partner (sw % 6)) → r = s.lastRise l (sw / 6) (partner (sw % 6)) (s.now + 50) →
      (s.rd l.pow GDR_GATES (sw / 6) ≠ 1 ∨ s.rd l.pow GDR_SW q ≠ 0 ∨ r = 0 ∨ r < s.rd l.pow GDR_TRIP_AT sw → Runs (.softOffClamp l sw) s (fun t =>
        Writes s t [(GDR_SW.key l.pow sw, 3), (GDR_CLAMP_AT.key l.pow sw, s.now)])) ∧
      (s.rd l.pow GDR_GATES (sw / 6) = 1 → s.rd l.pow GDR_SW q = 0 → r ≠ 0 → s.rd l.pow GDR_TRIP_AT sw ≤ r → NoReset s l.pow 1 →
        Runs (.softOffClamp l sw) s (fun t => t.rd l.pow GDR_SW sw = 3 ∧ t.rd l.pow GDR_CLAMP_AT sw = s.now % 2 ^ 64 ∧
          Counted s t l.pow GDR_CNT_FLOOR (sw / 6) ∧ (Judged s l.pow 1 → bit (t.rd l.pow FCL_ERR_STATUS) 1 = true)))) ∧
    (s.rd l.pow GDR_SW sw = 0 → Runs (.softOffStep2 l sw) s (fun t => t = s) ∧ Runs (.softOffClamp l sw) s (fun t => t = s)))

/-- The gate supply, the latch and the held short (R176, R204, R205, R220, R222, R223, R229, R230). VGD too low turns every gate off, every
configured bridge is FREE, source 5 is held; VGD ready again releases it. A SET of 1 to the latch bit, its
commands low for 1 ms and its comparators quiet, clears the latch, else it is refused with RANGE; a 1 in another bit clears that bit, a 0
leaves it. A held short is released to FREE, counted, once
an interval between its zero crossings exceeds the release period or 100 ms pass without one. A core without a calibration window
for 10 s keeps its last calibration, is counted and asserts source 6.
Each of these answers a next state with its own effect, on the conditions its clauses put on the state and the operands alone: VGD_LOW,
VGD_READY, GDR_LATCH_CLEAR, SHORT_ZERO_CROSSING, SHORT_RELEASE_TIMEOUT, CAL_SKIP_TIMEOUT. -/
def Obligations.GateSupplyAndShort : Prop :=
  (∀ (l : LaneId) (mv : Nat) (s : State), s.hasRegion l.pow = true → s.rdB l.pow INT_POWERED = true → NoReset s l.pow 5 →
    Runs (.vgdLow l mv) s (fun t => t.rd l.pow GDR_VGD = min mv 65535 ∧ t.rd l.pow GDR_VGD_BAD = 1 ∧
      (∀ b, b < 6 → t.rd l.pow GDR_GATES b = 0 ∧ t.rd l.pow GDR_PRE_ON b = 0 ∧
        (s.bridgeUsed l b = true → t.rd l.reg CMT_STATE b = 3) ∧
        (s.rd l.reg CMT_STATE b = 2 → t.rd l.reg CMT_STATE b = 3 ∧ t.rd l.reg CMT_SHARE b = 0) ∧
        (s.rd l.reg CMT_STATE b ≠ 2 → s.bridgeUsed l b = false → t.rd l.reg CMT_STATE b = s.rd l.reg CMT_STATE b)) ∧ SameOtherLanes s t l ∧
      (Judged s l.pow 5 → bit (t.rd l.pow FCL_ERR_STATUS) 5 = true ∧ bit (t.rd l.pow FCL_RAW) 5 = true))) ∧
  (∀ (l : LaneId) (mv : Nat) (s : State), s.hasRegion l.pow = true → s.rdB l.pow INT_POWERED = true → Runs (.vgdReady l mv) s (fun t => t.rd l.pow GDR_VGD = min mv 65535 ∧
    t.rd l.pow GDR_VGD_BAD = 0 ∧ bit (t.rd l.pow FCL_RAW) 5 = false ∧
    SameBut s t [GDR_VGD.key l.pow 0, GDR_VGD_AT.key l.pow 0, GDR_VGD_BAD.key l.pow 0, GDR_VGD_UNDER.key l.pow 0, FCL_RAW.key l.pow 0, FCL_QUIET_AT.key l.pow 5])) ∧
  (∀ (l : LaneId) (h : Hdr) (b v t0 : Nat) (cmp : Bool) (s : State), Performs s l h 0x0102 → v.testBit 6 = true →
    s.latchedB l b = true → b < 6 →
    (s.rd l.pow GDR_GATES b ≠ 2 → s.rd l.pow GDR_LOW_AT b + 1000000 ≤ (s.atTime t0).now → cmp = false →
      Runs (.gdrLatchClear l h b v t0 cmp) s (fun t => ∃ u, Performed l h 0x0102 rOk u t ∧
      u.rd l.pow GDR_LATCHED b = clrMask (s.rd l.pow GDR_LATCHED b) (v % 128) ∧ u.latchedB l b = false ∧ (∀ k, k < 6 → u.rd l.pow GDR_SW (6 * b + k) = 0) ∧ SameOtherLanes s u l ∧ u.sent = s.sent ∧
      ((∀ c, c < 6 → c ≠ b → s.latchedB l c = false) → bit (u.rd l.pow FCL_RAW) 3 = false) ∧
      SamePlaces s u ([GDR_LATCHED.key l.pow b, GDR_TWO.key l.pow b, FCL_RAW.key l.pow 0, FCL_QUIET_AT.key l.pow 3] ++
        (List.range 6).map (fun k => GDR_SW.key l.pow (6 * b + k))))) ∧
    (s.rd l.pow GDR_GATES b = 2 ∨ (s.atTime t0).now < s.rd l.pow GDR_LOW_AT b + 1000000 ∨ cmp = true →
      Runs (.gdrLatchClear l h b v t0 cmp) s (Denied l h 0x0102 (rRange (GDR_LATCHED.id l.pow b) 0) (s.atTime t0)))) ∧
  (∀ (l : LaneId) (h : Hdr) (b v t0 : Nat) (cmp : Bool) (s : State), Performs s l h 0x0102 → v.testBit 6 = false ∨ s.latchedB l b = false →
    Runs (.gdrLatchClear l h b v t0 cmp) s (fun t => ∃ u, Performed l h 0x0102 rOk u t ∧
      Writes (s.atTime t0) u [(GDR_LATCHED.key l.pow b, clrMask (s.rd l.pow GDR_LATCHED b) (v % 64))])) ∧
  (∀ (l : LaneId) (b t0 : Nat) (s : State), b < 6 → s.shortHeld l b = true → s.rdB l.pow INT_POWERED = true →
    let released (t : State) : Prop := t.rd l.pow GDR_GATES b = 0 ∧ Counted s t l.pow GDR_CNT_SHORT_REL b ∧ t.rd l.pow GDR_ZC_ON b = 0 ∧
      t.rd l.reg CMT_STATE b = (if s.rd l.reg CMT_STATE b = 4 then 3 else s.rd l.reg CMT_STATE b)
    let k := [GDR_GATES.key l.pow b, GDR_PRE_ON.key l.pow b, GDR_CNT_SHORT_REL.key l.pow b, GDR_ZC_ON.key l.pow b, CMT_STATE.key l.reg b] ++
      fallPlaces l b
    Runs (.shortReleaseTimeout l b) s (fun t => released t ∧ SameBut s t k) ∧
    (s.rdB l.pow GDR_ZC_ON b = true → t0 - s.rd l.pow GDR_ZC_AT b > s.rd l.pow GDR_RELEASE_PERIOD b * 1000 →
      Runs (.shortZeroCrossing l b t0) s (fun t => released t ∧ SameButAt t0 s t k)) ∧
    (s.rdB l.pow GDR_ZC_ON b = false ∨ t0 - s.rd l.pow GDR_ZC_AT b ≤ s.rd l.pow GDR_RELEASE_PERIOD b * 1000 →
      Runs (.shortZeroCrossing l b t0) s (fun t => Writes (s.atTime t0) t [(GDR_ZC_ON.key l.pow b, 1), (GDR_ZC_AT.key l.pow b, t0)]))) ∧
  (∀ (l : LaneId) (c : Nat) (s : State), s.on l.pow = true → c < 42 → s.rdB l.pow ADC_CAL_EN = true → NoReset s l.pow 6 →
    Runs (.calSkipTimeout l c) s (fun t => OnlyFaults (((s.holdCal l s c).wr l.pow ADC_SKIP_AT c s.now).bump l.pow ADC_CNT_CAL_SKIP) t ∧ Counted s t l.pow ADC_CNT_CAL_SKIP ∧
      (s.rd l.reg CMT_STATE (c / 7) ≠ 0 → ∀ d ∈ [ADC_OFFSET, ADC_GAIN_ERR],
        t.readPow l (d.key l.pow c) = s.readPow l (d.key l.pow c) % 2 ^ widthOf (d.key l.pow c)) ∧
      (Judged s l.pow 6 → bit (t.rd l.pow FCL_ERR_STATUS) 6 = true)))

/-! ### Control, sections, trace, feedback -/

/-- A group of loops (R234, R236, R240, R243, R251). Every loop whose trigger falls on the event reads its sources as they stood at
the start of the group: a closed loop without sections puts out its error times its gain, limited, an open one its `MAN_OUT`; one
whose previous run has not completed skips the trigger, counted, and source 30 is asserted. A loop with another trigger keeps its
output. A command whose count is not that of an event that stands triggers nothing (the model's choice, log 75).
Each of these answers a next state with its own effect, on the conditions its clauses put on the state and the operands alone:
CEN_GROUP_TRIGGER. -/
def Obligations.LoopGroups : Prop :=
  (∀ (l : LaneId) (src br cnt t0 : Nat) (s : State), s.pairUp l = true → s.eventCount l src br ≠ some cnt →
    Runs (.cenGroupTrigger l src br cnt t0) s (fun t => t = s.atTime t0)) ∧
  ∀ (l : LaneId) (src br cnt t0 : Nat) (s : State), s.pairUp l = true → s.eventCount l src br = some cnt →
    (∀ r, r < 8 → s.rdB l.reg RPC_EN r = false) → (∀ x ∈ [29, 30, 31, 32], NoReset s l.reg x) → Runs (.cenGroupTrigger l src br cnt t0) s (fun t =>
      ∀ n, 12 ≤ n → n < 48 →
        (s.trigMatches l n src br cnt = false → t.rd l.reg CEN_OUT n = s.rd l.reg CEN_OUT n ∧
          t.rd l.reg CEN_STATUS n = s.rd l.reg CEN_STATUS n) ∧
        (s.trigMatches l n src br cnt = true → t0 * 6 < s.rd l.reg CEN_BUSY_AT n → t.rd l.reg CEN_OUT n = s.rd l.reg CEN_OUT n ∧
          Counted s t l.reg CEN_CNT_OVERRUN n ∧ bit (t.rd l.reg CEN_STATUS n) 6 = true ∧
          (Judged s l.reg 30 → bit (t.rd l.reg FCL_ERR_STATUS) 30 = true)) ∧
        (s.trigMatches l n src br cnt = true → s.rd l.reg CEN_BUSY_AT n ≤ t0 * 6 →
          (s.rd l.reg CEN_MODE n = 0 → t.rd l.reg CEN_OUT n = s.rd l.reg CEN_MAN_OUT n % 2 ^ 32) ∧
          (s.rdB l.reg CEN_MODE n = true → s.rd l.reg CEN_SEC_NUM n = 0 → s.rdB l.reg CEN_CLOSING n = false →
            (s.atTime t0).condValid l (s.rd l.reg CEN_REF_SRC n) = true → (s.atTime t0).condValid l (s.rd l.reg CEN_FB_SRC n) = true →
            let s0 := s.atTime t0
            let e := sat32 (s0.cond (s.rd l.reg CEN_REF_SRC n) (s.rd l.reg CEN_REF_K n) (s.rd l.reg CEN_REF_E n) -
              s0.cond (s.rd l.reg CEN_FB_SRC n) (s.rd l.reg CEN_FB_K n) (s.rd l.reg CEN_FB_E n) + s0.sig (s.rd l.reg CEN_ADD_IN_SRC n))
            let u := e * s.rdI l.reg CEN_GAIN n * (2 ^ s.rd l.reg CEN_GAIN_SHIFT n : Nat) + s0.sig (s.rd l.reg CEN_ADD_OUT_SRC n) * (2 ^ 30 : Nat)
            t.rdI l.reg CEN_OUT n = clampInt (s.rdI l.reg CEN_LIM_LO n) (s.rdI l.reg CEN_LIM_HI n) (roundShift u 30) ∧
            t.rdI l.reg CEN_ERR n = e ∧ bit (t.rd l.reg CEN_STATUS n) 6 = false ∧
            (bit (t.rd l.reg CEN_STATUS n) 1 = true ↔
              u > s.rdI l.reg CEN_LIM_HI n * (2 ^ 30 : Nat) ∨ u < s.rdI l.reg CEN_LIM_LO n * (2 ^ 30 : Nat)))))

/-- The motion opcodes (R254, R255, R344, R358). STEER_TARGET and BRAKE_DEMAND leave their values for their entry: the next one
after the cycle start, or for an URGENT one agreed at a sample instant one 10 µs later; above their limits they are RANGE. A HOLD
adds HOLD bits. A RELEASE removes them, and the holder sets the RELEASE bits of the targets it names from now on; it is RANGE while an ESTOP is
applied.
Each of these answers a next state with its own effect, on the conditions its clauses put on the state and the operands alone:
STEER_TARGET, BRAKE_DEMAND, HOLD, RELEASE. -/
def Obligations.MotionOpcodes : Prop :=
  (∀ (l : LaneId) (h : Hdr) (a : Int) (s : State), Performs s l h 0x0201 →
    (a.natAbs ≤ s.rd l.reg CEN_TGT_MAX 0 → Runs (.steerTarget l h a) s (fun t => ∃ u, Performed l h 0x0201 rOk u t ∧
      ((h.urgent && s.beforeLatch l) = false → Writes s u [(CEN_TGT_PEND.key l.reg 0, 1), (CEN_TGT_PENDV.key l.reg 0, twos 32 a)]) ∧
      ((h.urgent && s.beforeLatch l) = true → Writes s u [(CEN_TGT_URG.key l.reg 0, 1), (CEN_TGT_URGV.key l.reg 0, twos 32 a),
        (CEN_TGT_URGAT.key l.reg 0, s.now + 10000)]))) ∧
    (a.natAbs > s.rd l.reg CEN_TGT_MAX 0 → Runs (.steerTarget l h a) s (Denied l h 0x0201 (rRange (CEN_TGT_MAX.id l.reg 0) 16) s))) ∧
  (∀ (l : LaneId) (h : Hdr) (f1 f2 f3 f4 : Nat) (s : State), Performs s l h 0x0202 →
    (f1 ≤ s.rd l.reg CEN_TGT_MAX 1 → f2 ≤ s.rd l.reg CEN_TGT_MAX 2 → f3 ≤ s.rd l.reg CEN_TGT_MAX 3 → f4 ≤ s.rd l.reg CEN_TGT_MAX 4 →
      Runs (.brakeDemand l h f1 f2 f3 f4) s (fun t => ∃ u, Performed l h 0x0202 rOk u t ∧
        ((h.urgent && s.beforeLatch l) = false → Writes s u ([(1, f1), (2, f2), (3, f3), (4, f4)].flatMap (fun p =>
          [(CEN_TGT_PEND.key l.reg p.1, 1), (CEN_TGT_PENDV.key l.reg p.1, p.2 % 2 ^ 32)]))) ∧
        ((h.urgent && s.beforeLatch l) = true → Writes s u ([(1, f1), (2, f2), (3, f3), (4, f4)].flatMap (fun p =>
          [(CEN_TGT_URG.key l.reg p.1, 1), (CEN_TGT_URGV.key l.reg p.1, p.2 % 2 ^ 32), (CEN_TGT_URGAT.key l.reg p.1, s.now + 10000)]))))) ∧
    (f1 > s.rd l.reg CEN_TGT_MAX 1 → Runs (.brakeDemand l h f1 f2 f3 f4) s
      (Denied l h 0x0202 (rRange (CEN_TGT_MAX.id l.reg 1) 16) s))) ∧
  (∀ (l : LaneId) (h : Hdr) (mask : Nat) (s : State), Performs s l h 0x0203 → s.chkHold l mask = none →
    Runs (.hold l h mask) s (fun t => ∃ u, Performed l h 0x0203 rOk u t ∧
      Writes s u [(SDC_HOLD.key l.reg 0, s.rd l.reg SDC_HOLD ||| mask % 16)])) ∧
  (∀ (l : LaneId) (h : Hdr) (mask : Nat) (s : State), Performs s l h 0x0204 → s.chkStaffFn l h = none →
    (bit (s.rd l.reg SIO_TRIP) 8 = false → s.chkRelease l mask = none → Runs (.release l h mask) s (fun t => ∃ u, Performed l h 0x0204 rOk u t ∧
      (s.rd l.reg STF_HOLDER ≠ l.reg → Writes s u [(SDC_HOLD.key l.reg 0, clrMask (s.rd l.reg SDC_HOLD) mask)]) ∧
      (s.rd l.reg STF_HOLDER = l.reg → Writes s u ([(SDC_HOLD.key l.reg 0, clrMask (s.rd l.reg SDC_HOLD) mask),
        (SDC_REL.key l.reg 0, s.rd l.reg SDC_REL ||| mask % 16)] ++
        ((List.range 4).filter (fun t => mask.testBit t)).map (fun t => (SDC_REL_AT.key l.reg (t + 1), s.now)))))) ∧
    (bit (s.rd l.reg SIO_TRIP) 8 = true → Runs (.release l h mask) s (Denied l h 0x0204 (rRange (SIO_TRIP.id l.reg 0) 0) s)))

/-- The compare table and its opcodes (R318, R319, R328 to R330). TABLE_LOAD replaces the table, TABLE_APPEND adds to it; the count
written and the digest follow. More than 42 entries are RANGE, an append at another base is RANGE. FORCE_OFF keeps its mask, and a
section so turned off is told to S at once. A transfer is kept, to be loaded at the next compute start, by a lane whose table
disagrees, and by no other.
Each of these answers a next state with its own effect, on the conditions its clauses put on the state and the operands alone: TABLE_LOAD,
TABLE_APPEND, FORCE_OFF, TABLE_TRANSFER_COMPLETE. -/
def Obligations.CompareTable : Prop :=
  (∀ (l : LaneId) (h : Hdr) (base : Nat) (es : List TableEntry) (s : State), Performs s l h 0x0301 →
    (s.chkTable l base es true = none → Runs (.tableLoad l h base es) s (fun t => ∃ u, Performed l h 0x0301 rOk u t ∧
      (u.lane l).table = es.map (fun e => ⟨e, true⟩) ∧ u.rd l.reg SDC_WR_COUNT = es.length ∧
      u.rd l.reg SDC_TBL_DIGEST = (crc32c (es.flatMap TableEntry.encode)) % 2 ^ SDC_TBL_DIGEST.width ∧ u.rd l.reg SDC_REQ = s.rd l.reg SDC_REQ ∧
      SameOtherLanes s u l ∧ (s.rdB l.reg SDC_RET_LOST = false → u.sent = s.sent ∧ SamePlaces s u
        [SDC_WR_COUNT.key l.reg 0, SDC_TBL_DIGEST.key l.reg 0, SDC_LAST_P.key l.reg 0, SDC_LAST_ON.key l.reg 0]))) ∧
    (es.length > 42 → Runs (.tableLoad l h base es) s (Denied l h 0x0301 (rRange 0 16) s)) ∧
    (es.length ≤ 42 → base ≠ 0 → Runs (.tableLoad l h base es) s (Denied l h 0x0301 (rRange 0 20) s))) ∧
  (∀ (l : LaneId) (h : Hdr) (base : Nat) (es : List TableEntry) (s : State), Performs s l h 0x0302 →
    (s.chkTable l base es false = none → Runs (.tableAppend l h base es) s (fun t => ∃ u, Performed l h 0x0302 rOk u t ∧
      (u.lane l).table = (s.lane l).table ++ es.map (fun e => ⟨e, true⟩) ∧
      u.rd l.reg SDC_WR_COUNT = (s.rd l.reg SDC_WR_COUNT + es.length) % 2 ^ SDC_WR_COUNT.width ∧
      u.rd l.reg SDC_TBL_DIGEST = (crc32c (toLe 4 (s.rd l.reg SDC_TBL_DIGEST) ++ es.flatMap TableEntry.encode)) % 2 ^ SDC_TBL_DIGEST.width ∧
      SameOtherLanes s u l ∧ u.sent = s.sent ∧ SamePlaces s u
        [SDC_WR_COUNT.key l.reg 0, SDC_TBL_DIGEST.key l.reg 0, SDC_LAST_P.key l.reg 0, SDC_LAST_ON.key l.reg 0])) ∧
    (es.length ≤ 42 → base ≠ s.rd l.reg SDC_WR_COUNT → Runs (.tableAppend l h base es) s (Denied l h 0x0302 (rRange 0 20) s))) ∧
  (∀ (l : LaneId) (h : Hdr) (mask : Nat) (s : State), Performs s l h 0x0305 →
    Runs (.forceOff l h mask) s (fun t => ∃ u, Performed l h 0x0305 rOk u t ∧ u.rd l.reg SDC_FORCED = mask % 2 ^ 64 ∧
      SamePlaces s u [SDC_FORCED.key l.reg 0, SDC_SENT_REQ.key l.reg 0, SDC_SENT_LEVEL.key l.reg 0] ∧
      (s.vstate l ≤ 2 → ∀ k, k < 64 → mask.testBit k = true → bit (s.rd l.reg SDC_SENT_REQ) k = true →
        ∃ v, u.sent = (s.send (.vote v)).sent ∧ v.region = l.reg ∧ bit v.req k = false))) ∧
  (∀ (l : LaneId) (x : TableXfer) (s : State), s.up l = true →
    (bit (s.rd l.reg SDC_VOID_CAUSE) 2 = true → Runs (.tableTransferComplete l x) s (fun t =>
      t = s.modLane l (fun y => { y with tblLoad := some x }))) ∧
    (bit (s.rd l.reg SDC_VOID_CAUSE) 2 = false → Runs (.tableTransferComplete l x) s (fun t => t = s)))

/-- The trace of a lane (R257 to R261). Without a sample event of its source no row is taken. In state IDLE or DONE a sample event adds no row; in PRE and while streaming it adds
one at the end, PRE turning to WAIT once the share ahead of a trigger is held; while streaming with the ring full and M not lost
the row is dropped and counted. TRACE_ARM empties the ring and samples, RANGE without a channel; TRACE_TRIGGER asks for
the trigger; TRACE_STOP ends in DONE where a trigger was taken; TRACE_READ answers with the whole rows that fit in 1,024 bytes; TRACE_STREAM streams. The trace archive in M (R260, R261, R264). Rows streamed to M are kept behind their tag of lane and row length while they
fit; a row beyond the rate M accepts is refused and counted (R260, R264; log 75); ARCHIVE_READ of at most 1,024 bytes returns them from the oldest on, through a lane that reaches M.
Each of these answers a next state with its own effect, on the conditions its clauses put on the state and the operands alone:
TRC_SAMPLE_EVENT, TRACE_ARM, TRACE_TRIGGER, TRACE_STOP, TRACE_READ, TRACE_STREAM, ARCHIVE_READ, TRACE_ARCHIVE_WRITE. -/
def Obligations.TraceUnit : Prop :=
  ((∀ (l : LaneId) (t0 : Nat) (s : State), s.up l = true → s.rdB l.reg TRC_DUE = false →
    Runs (.trcSampleEvent l t0) s (fun t => t = s.atTime t0)) ∧
  (∀ (l : LaneId) (t0 : Nat) (s : State), s.up l = true → s.rdB l.reg TRC_DUE = true →
    (s.rd l.reg TRC_STATE = 0 ∨ s.rd l.reg TRC_STATE = 4 → Runs (.trcSampleEvent l t0) s (fun t =>
      (t.lane l).trc = (s.lane l).trc ∧ t.rd l.reg TRC_STATE = s.rd l.reg TRC_STATE)) ∧
    (s.rd l.reg TRC_STATE = 1 → (s.lane l).trc.rows.length < s.ringRows l → Runs (.trcSampleEvent l t0) s (fun t =>
      (∃ row, (t.lane l).trc.rows = (s.lane l).trc.rows ++ [row] ∧ row.take 4 = toLe 4 (s.cycle l)) ∧
      t.rd l.reg TRC_STATE = (if s.preRows l ≤ (s.lane l).trc.rows.length + 1 then 2 else 1) ∧ t.sent = s.sent)) ∧
    (s.rd l.reg TRC_STATE = 5 → s.rd l.reg TRC_STREAM_STATE = 1 → s.ringRows l ≤ (s.lane l).trc.rows.length →
      Runs (.trcSampleEvent l t0) s (fun t => (t.lane l).trc.rows = (s.lane l).trc.rows ∧ (t.lane l).trc.lost = true ∧
        Counted s t l.reg TRC_CNT_DROP ∧ t.sent = s.sent))) ∧
  (∀ (l : LaneId) (h : Hdr) (s : State), Performs s l h 0x0801 →
    (s.rd l.reg TRC_CH_EN ≠ 0 → Runs (.traceArm l h) s (fun t => ∃ u, Performed l h 0x0801 rOk u t ∧ (u.lane l).trc = {} ∧
      u.rd l.reg TRC_ROWS = 0 ∧ u.rd l.reg TRC_STATE = (if s.preRows l = 0 then 2 else 1) ∧ u.rd l.reg TRC_STREAM_STATE = 0 ∧
      SameOtherLanes s u l ∧ u.sent = s.sent)) ∧
    (s.rd l.reg TRC_CH_EN = 0 → Runs (.traceArm l h) s (Denied l h 0x0801 (rRange (TRC_CH_EN.id l.reg 0) 0) s))) ∧
  (∀ (l : LaneId) (h : Hdr) (s : State), Performs s l h 0x0802 → Runs (.traceTrigger l h) s (fun t => ∃ u, Performed l h 0x0802 rOk u t ∧
    (s.rd l.reg TRC_STATE = 1 ∨ s.rd l.reg TRC_STATE = 2 → (u.lane l).trc = { (s.lane l).trc with ask := true } ∧ SameOtherLanes s u l) ∧
    (s.rd l.reg TRC_STATE ≠ 1 → s.rd l.reg TRC_STATE ≠ 2 → u = s))) ∧
  (∀ (l : LaneId) (h : Hdr) (s : State), Performs s l h 0x0803 → Runs (.traceStop l h) s (fun t => ∃ u, Performed l h 0x0803 rOk u t ∧
    Writes s u [(TRC_STREAM_STATE.key l.reg 0, 0), (TRC_STATE.key l.reg 0, if (s.lane l).trc.taken then 4 else 0)])) ∧
  (∀ (l : LaneId) (h : Hdr) (start count : Nat) (s : State), Performs s l h 0x0804 →
    (start < (s.lane l).trc.rows.length → Runs (.traceRead l h start count) s (fun t => ∃ k data, k ≤ count ∧
      data = (((s.lane l).trc.rows.drop start).take k).flatten ∧ data.length ≤ 1024 ∧
      (k < count → ∀ r, (s.lane l).trc.rows[start + k]? = some r → 1024 < data.length + r.length) ∧
      Performed l h 0x0804 (rOk data) s t)) ∧
    ((s.lane l).trc.rows.length ≤ start → Runs (.traceRead l h start count) s (Denied l h 0x0804 (rRange 0 16) s))) ∧
  (∀ (l : LaneId) (h : Hdr) (s : State), Performs s l h 0x0805 →
    Runs (.traceStream l h true) s (fun t => ∃ u, Performed l h 0x0805 rOk u t ∧ Writes s u [(TRC_STATE.key l.reg 0, 5),
      (TRC_STREAM_STATE.key l.reg 0, if s.rdB l.reg INT_M_LOST then 2 else 1), (TRC_N.key l.reg 0, 0), (TRC_DUE.key l.reg 0, 0),
      (TRC_TX_FREE.key l.reg 0, max (s.rd l.reg TRC_TX_FREE) (s.now * 16))]) ∧
    (s.rd l.reg TRC_STATE = 5 → Runs (.traceStream l h false) s (fun t => ∃ u, Performed l h 0x0805 rOk u t ∧
      Writes s u [(TRC_STREAM_STATE.key l.reg 0, 0), (TRC_STATE.key l.reg 0, if (s.lane l).trc.taken then 4 else 0)])))) ∧
  ((∀ (l : LaneId) (n : Nat) (rows : List (List Byte)) (s : State), s.mUp = true →
    ((s.archive ++ rows.map (fun r => toLe 4 (l.reg + n % 4096 * 16) ++ r)).map List.length).sum ≤ 8388608 →
    s.archUsed + (rows.map List.length).sum * 1000 ≤ 24000000 →
    Runs (.traceArchiveWrite l n rows) s (fun t => t.archive = s.archive ++ rows.map (fun r => toLe 4 (l.reg + n % 4096 * 16) ++ r) ∧
      t.rd 7 M_TRC_ARCH_LOST = min (2 ^ M_TRC_ARCH_LOST.width - 1) (s.rd 7 M_TRC_ARCH_LOST) ∧ t.sent = s.sent ∧
      SamePlaces s t [M_TRC_ARCH_LOST.key 7 0, M_TRC_ARCH_BYTES.key 7 0, TRC_RX_USED.key 7 0, TRC_RX_AT.key 7 0])) ∧
  (∀ (l : LaneId) (n : Nat) (rows : List (List Byte)) (s : State), s.mUp = true → Runs (.traceArchiveWrite l n rows) s (fun t =>
    (t.archive.map List.length).sum ≤ 8388608 ∧ ∃ (old took : List (List Byte)), List.Sublist took rows ∧
      s.archive ++ took.map (fun r => toLe 4 (l.reg + n % 4096 * 16) ++ r) = old ++ t.archive)) ∧
  (∀ (l : LaneId) (n : Nat) (r : List Byte) (s : State), s.mUp = true → (s.archive.map List.length).sum ≤ 8388608 →
    24000000 < s.archUsed + r.length * 1000 → Runs (.traceArchiveWrite l n [r]) s (fun t => t.archive = s.archive ∧
      Counted s t 7 M_TRC_ARCH_LOST)) ∧
  (∀ (l : LaneId) (h : Hdr) (off len : Nat) (s : State), Performs s l h 0x0806 → s.reaches l .m = true →
    (len ≤ 1024 → Runs (.archiveRead l h off len) s (Performed l h 0x0806 (rOk ((s.archive.flatten.drop off).take len)) s)) ∧
    (len > 1024 → Runs (.archiveRead l h off len) s (Performed l h 0x0806 (rRange 0 20) s))) ∧
  (∀ (l : LaneId) (h : Hdr) (off len : Nat) (s : State), Performs s l h 0x0806 → s.reaches l .m = false →
    Runs (.archiveRead l h off len) s (Denied l h 0x0806 (rRange 0 8) s)))

/-- Pulse inputs (R291 to R295, R303, R310, R313). In quadrature mode a step of the accepted levels counts one up or down, as the
channel's sense says; a step of both, or a pulse shorter than `EDGE_MIN`, is an edge fault, counted. A wire in use of a
differential channel without a signal sets the channel to fault and asserts source 34; an unused wire does not. Faults are
cleared where no cause is present, else RANGE; with none left the channel is valid again, its run cleared. An index is armed in
mode 2 only. At standstill the run is cleared.
Each of these answers a next state with its own effect, on the conditions its clauses put on the state and the operands alone:
FBI_EDGE_ACCEPT, FBI_LINE_FAULT, FBI_STANDSTILL_TIMEOUT, FBI_FAULT_CLEAR, FBI_INDEX_ARM. -/
def Obligations.PulseInputs : Prop :=
  (∀ (l : LaneId) (ch held t0 : Nat) (es : List WireEdge) (s : State), s.up l = true → ch < 8 → (s.lane l).fbi.length = 8 →
    s.fmode l ch = 3 → s.rd l.reg FBI_EDGE_MIN ch * 10 ≤ held →
    let lv := levelsAfter (s.fch l ch).levels es
    let q0 := quadrant (s.fch l ch).levels
    let q1 := quadrant lv
    let d : Int := if s.rdB l.reg FBI_INVERT ch then -1 else 1
    (q1 = (q0 + 1) % 4 → s.rd l.reg FBI_STATE ch = 1 → bit lv 2 = false → Runs (.fbiEdgeAccept l ch es held t0) s (fun t =>
      (t.fch l ch).count = (s.fch l ch).count + d ∧ (t.fch l ch).levels = lv ∧ t.rd l.reg FBI_RAW ch = lv % 2 ^ FBI_RAW.width ∧
      SamePlaces s t [FBI_RAW.key l.reg ch, FBI_CNT_REV.key l.reg ch] ∧ (∀ c, c ≠ ch → t.fch l c = s.fch l c))) ∧
    (q0 = (q1 + 1) % 4 → s.rd l.reg FBI_STATE ch = 1 → bit lv 2 = false → Runs (.fbiEdgeAccept l ch es held t0) s (fun t =>
      (t.fch l ch).count = (s.fch l ch).count - d ∧ (t.fch l ch).levels = lv)) ∧
    (q1 = q0 → Runs (.fbiEdgeAccept l ch es held t0) s (fun t => (t.fch l ch).count = (s.fch l ch).count ∧ (t.fch l ch).levels = lv ∧
      SamePlaces s t [FBI_RAW.key l.reg ch])) ∧
    (q1 = (q0 + 2) % 4 → NoReset s l.reg 34 → Runs (.fbiEdgeAccept l ch es held t0) s (fun t =>
      (t.fch l ch).count = (s.fch l ch).count ∧ Counted s t l.reg FBI_CNT_EDGE_FAULT ch))) ∧
  (∀ (l : LaneId) (ch held t0 : Nat) (es : List WireEdge) (s : State), s.up l = true → ch < 8 → s.fmode l ch ≠ 0 →
    held < s.rd l.reg FBI_EDGE_MIN ch * 10 → (s.lane l).fbi.length = 8 →
    let n := ((s.fch l ch).faultAt.filter (fun u => decide (u + s.rd l.reg FBI_EDGE_FAULT_WIN * 1000000 > t0))).length + 1
    (n < s.rd l.reg FBI_EDGE_FAULT_LIM ch → Runs (.fbiEdgeAccept l ch es held t0) s (fun t => Sets s t [s.next l.reg FBI_CNT_EDGE_FAULT ch] ∧
      (t.fch l ch).levels = (s.fch l ch).levels ∧ (t.fch l ch).count = (s.fch l ch).count)) ∧
    (s.rd l.reg FBI_EDGE_FAULT_LIM ch ≤ n → NoReset s l.reg 34 → Runs (.fbiEdgeAccept l ch es held t0) s (fun t =>
      t.rd l.reg FBI_STATE ch = 2 ∧ bit (t.rd l.reg FBI_FAULT ch) 0 = true ∧ Counted s t l.reg FBI_CNT_EDGE_FAULT ch))) ∧
  (∀ (l : LaneId) (ch w : Nat) (s : State), s.up l = true → ch < 8 → s.rdB l.reg FBI_IN_TYPE ch = false → NoReset s l.reg 34 →
    ((s.fmode l ch ≥ 3 ∧ (w ≤ 1 ∨ w = 2 ∧ s.rdB l.reg FBI_INDEX_MODE ch = true)) ∨ (s.fmode l ch = 2 ∧ w = 0) ∨
      (s.fmode l ch = 1 ∧ w = 2 ∧ s.rdB l.reg FBI_INDEX_MODE ch = true) → Runs (.fbiLineFault l ch w) s (fun t =>
      t.rd l.reg FBI_STATE ch = 2 ∧ bit (t.rd l.reg FBI_FAULT ch) 1 = true ∧ t.rd l.reg FBI_SPEED ch = 0 ∧
      SameOff (fun k => FaultPlace k ∨ k ∈ [FBI_STATE.key l.reg ch, FBI_FAULT.key l.reg ch, FBI_SPEED.key l.reg ch, FBI_FLAGS.key l.reg ch]) s t ∧
      (s.rd l.reg FBI_STATE ch ≠ 2 → Judged s l.reg 34 → bit (t.rd l.reg FCL_ERR_STATUS) 34 = true))) ∧
    (s.fmode l ch = 2 → w ≠ 0 → Runs (.fbiLineFault l ch w) s (fun t => t = s))) ∧
  (∀ (l : LaneId) (h : Hdr) (ch v present : Nat) (s : State), Performs s l h 0x0102 → ch ≤ 7 →
    (v &&& present &&& s.rd l.reg FBI_FAULT ch = 0 → clrMask (s.rd l.reg FBI_FAULT ch) v = 0 → s.rd l.reg FBI_STATE ch = 2 →
      (s.lane l).fbi.length = 8 → Runs (.fbiFaultClear l h ch v present) s (fun t => ∃ u, Performed l h 0x0102 rOk u t ∧
        u.rd l.reg FBI_FAULT ch = 0 ∧ u.rd l.reg FBI_STATE ch = 1 ∧ (u.fch l ch).run = [] ∧ (u.fch l ch).still = true ∧
        (u.fch l ch).count = (s.fch l ch).count ∧ u.sent = s.sent ∧
        ((∀ c, c < 8 → c ≠ ch → s.rd l.reg FBI_STATE c ≠ 2) → bit (u.rd l.reg FCL_RAW) 34 = false))) ∧
    (v &&& present &&& s.rd l.reg FBI_FAULT ch ≠ 0 → Runs (.fbiFaultClear l h ch v present) s
      (Denied l h 0x0102 (rRange (FBI_FAULT.id l.reg ch) 20) s))) ∧
  (∀ (l : LaneId) (h : Hdr) (ch : Nat) (s : State), Performs s l h 0x0102 → ch ≤ 7 →
    (s.rd l.reg FBI_INDEX_MODE ch = 2 → Runs (.fbiIndexArm l h ch) s (fun t => ∃ u, Performed l h 0x0102 rOk u t ∧
      Writes s u [(FBI_INDEX_ARM.key l.reg ch, 1)])) ∧
    (s.rd l.reg FBI_INDEX_MODE ch ≠ 2 → Runs (.fbiIndexArm l h ch) s (Denied l h 0x0102 (rRange (FBI_INDEX_ARM.id l.reg ch) 20) s))) ∧
  (∀ (l : LaneId) (ch : Nat) (s : State), s.up l = true → ch < 8 → (s.lane l).fbi.length = 8 → Runs (.fbiStandstillTimeout l ch) s (fun t =>
    t.fch l ch = { s.fch l ch with run := [], still := true } ∧ t.params = s.params ∧ t.sent = s.sent ∧ SameOtherLanes s t l))

/-- Sine and cosine pairs and SSI frames (R297 to R302). A missing pair, or one outside the amplitude window, is counted; enough of
them in a row set the channel to fault, as missing or by amplitude. A used pair moves the count by its change of phase, unless it
is a quarter period or more, which is a fault. A rejected SSI frame is counted and makes the channel stale; enough in a row are a
fault. The first accepted frame sets the count.
Each of these answers a next state with its own effect, on the conditions its clauses put on the state and the operands alone:
SINCOS_PAIR_RECEIVE, SSI_FRAME_COMPLETE. -/
def Obligations.SincosAndSsi : Prop :=
  (∀ (l : LaneId) (ch t0 : Nat) (pair : Option SinCos) (s : State), s.up l = true → ch < 4 → (s.lane l).fbi.length = 8 →
    s.fmode l ch = 1 → s.rd l.reg FBI_STATE ch = 1 → NoReset s l.reg 34 →
    (pair = none ∨ ∃ p, pair = some p ∧ (s.scAmp l { p with ch := ch } * 100 < (s.rd l.reg FBI_SC_WIN_LO : Rat) ∨
      s.scAmp l { p with ch := ch } * 100 > (s.rd l.reg FBI_SC_WIN_HI : Rat))) →
    Runs (.sincosPairReceive l ch pair t0) s (fun t => Counted s t l.reg FBI_CNT_SC_SKIP ch ∧ (t.fch l ch).count = (s.fch l ch).count ∧
      ((s.fch l ch).unused + 1 < s.rd l.reg FBI_SC_PERSIST → (t.fch l ch).unused = (s.fch l ch).unused + 1 ∧ t.rd l.reg FBI_STATE ch = 1) ∧
      (s.rd l.reg FBI_SC_PERSIST ≤ (s.fch l ch).unused + 1 → t.rd l.reg FBI_STATE ch = 2 ∧
        bit (t.rd l.reg FBI_FAULT ch) (if pair.isNone then 5 else 2) = true))) ∧
  (∀ (l : LaneId) (ch t0 phi0 : Nat) (p : SinCos) (s : State), s.up l = true → ch < 4 → (s.lane l).fbi.length = 8 → p.ch = ch →
    s.fmode l ch = 1 → s.rd l.reg FBI_STATE ch = 1 → NoReset s l.reg 34 → bit (s.fch l ch).levels 2 = false →
    (s.rd l.reg FBI_SC_WIN_LO : Rat) ≤ s.scAmp l p * 100 → s.scAmp l p * 100 ≤ (s.rd l.reg FBI_SC_WIN_HI : Rat) →
    (s.fch l ch).phi = some phi0 →
    let n := s.rd l.reg FBI_SC_BITS ch
    let d := sgn n (twos n ((s.scPhase l p : Int) - phi0))
    (4 * d.natAbs < 2 ^ n → Runs (.sincosPairReceive l ch (some p) t0) s (fun t => (t.fch l ch).phi = some (s.scPhase l p) ∧
      (t.fch l ch).count = (s.fch l ch).count + (if s.rdB l.reg FBI_INVERT ch then -d else d) ∧ (t.fch l ch).unused = 0 ∧
      t.rd l.reg FBI_STATE ch = 1 ∧ SamePlaces s t [FBI_RAW.key l.reg ch, FBI_AMP.key l.reg ch, FBI_CNT_REV.key l.reg ch])) ∧
    (2 ^ n ≤ 4 * d.natAbs → Runs (.sincosPairReceive l ch (some p) t0) s (fun t => t.rd l.reg FBI_STATE ch = 2 ∧
      bit (t.rd l.reg FBI_FAULT ch) 3 = true ∧ (t.fch l ch).count = (s.fch l ch).count))) ∧
  (∀ (l : LaneId) (ch frame t0 : Nat) (high : Bool) (s : State), s.up l = true → ch < 8 → (s.lane l).fbi.length = 8 →
    s.fmode l ch = 2 → s.rd l.reg FBI_STATE ch = 1 → NoReset s l.reg 34 →
    (s.ssiBad l ch frame high = false → (s.fch l ch).raw = none →
      Runs (.ssiFrameComplete l ch frame high t0) s (fun t => (t.fch l ch).count = s.ssiPos l ch frame ∧
        (t.fch l ch).raw = some (s.ssiPos l ch frame) ∧ (t.fch l ch).stale = false ∧ SamePlaces s t [FBI_RAW.key l.reg ch])) ∧
    (high = false → Runs (.ssiFrameComplete l ch frame high t0) s (fun t => Counted s t l.reg FBI_CNT_SSI_ERR ch ∧
      (t.fch l ch).stale = true ∧ (t.fch l ch).count = (s.fch l ch).count ∧
      (t.rd l.reg FBI_STATE ch = 2 ↔ s.rd l.reg FBI_SSI_FAULT_LIM ch ≤ (s.fch l ch).rejected + 1))))

/-! ### The outputs of S -/

/-- The section vote (R329 to R333, R344, R348, R565). A vote message becomes the latest of its lane, and every output is what
the vote gives it: on where a lane is counted, every counted lane requests it, it is armed, in use, not faulted and not held
off; the void mask shows the lanes whose latest vote is void. ARM of the holder arms its sections and is counted; ARM under
another holder or epoch is refused and counted; DISARM disarms, and is RANGE from an excluded lane; a lane that S does not reach is
answered RANGE. The STATUS goes to every lane of the part, and each admitted lane is no longer excluded; a lane that receives
it keeps its view, enters service from shadow, or discards what it holds where it is newly excluded.
Each of these answers a next state with its own effect, on the conditions its clauses put on the state and the operands alone: ARM,
DISARM, S_VOTE_RECEIVE, S_STATUS_SEND, S_STATUS_RECEIVE. -/
def Obligations.SectionVote : Prop :=
  (∀ (x : LaneId) (v : VoteMsg) (t0 : Nat) (s : State), s.sUp = true → v.region = x.reg → s.rdB 8 INT_EXTEST = false →
    Runs (.sVoteReceive v t0) s (fun t => t.voted ∧ t.sdie.vote x.reg = some v ∧
      (∀ y : LaneId, y ≠ x → t.sdie.vote y.reg = s.sdie.vote y.reg) ∧
      (∀ y : LaneId, bit (t.rd 8 SVT_VOID) y.idx = true ↔ ∃ w, t.sdie.vote y.reg = some w ∧ w.void = true) ∧
      t = { s.atTime t0 with params := t.params, sdie := t.sdie } ∧
      Reads t [(SVT_REQ.key 8 x.reg, v.req), (SVT_VOTE_AT.key 8 x.reg, t0), (SVT_DEAD.key 8 x.reg, 0)] ∧
      SameOff (fun k => OutputPlace k ∨ k ∈ [SVT_REQ.key 8 x.reg, SVT_VOTE_AT.key 8 x.reg, SVT_DEAD.key 8 x.reg, ATH_CNT_RELEASE_REJECT.key 8 0,
        ATH_REL_PREV.key 8 x.reg]) s t)) ∧
  (∀ (l : LaneId) (h : Hdr) (mask : Nat) (s : State), Performs s l h 0x0303 → s.chkStaffFn l h = none →
    (h.voted = true → s.rd l.reg STF_HOLDER ≠ l.reg → Runs (.arm l h mask) s (Performed l h 0x0303 rOk s)) ∧
    (h.voted = false ∨ s.rd l.reg STF_HOLDER = l.reg →
      (s.reaches l .s = false → Runs (.arm l h mask) s (Denied l h 0x0303 (rRange 0 8) s)) ∧
      (s.reaches l .s = true → s.rd 8 S_STF_HOLDER ≠ l.reg ∨ s.rd 8 S_STF_EPOCH ≠ s.rd l.reg STF_EPOCH ∨ s.excl l.reg = true →
        Runs (.arm l h mask) s (fun t => ∃ u, Performed l h 0x0303 (rNotHolder (s.rd 8 S_STF_HOLDER)) u t ∧
          Writes s u [s.next 8 SVT_CNT_ARM_REJECT])) ∧
      (s.reaches l .s = true → s.rd 8 S_STF_HOLDER = l.reg → s.rd 8 S_STF_EPOCH = s.rd l.reg STF_EPOCH → s.excl l.reg = false →
        Runs (.arm l h mask) s (fun t => ∃ u, Performed l h 0x0303 rOk u t ∧ (s.rdB 8 INT_EXTEST = false → u.voted) ∧
          (∀ k, k < 64 → bit (u.rd 8 SVT_ARMED) k = (bit (s.rd 8 SVT_ARMED) k || bit mask k)) ∧
          u.rd 8 SVT_ARM_EPOCH = s.rd l.reg STF_EPOCH % 2 ^ SVT_ARM_EPOCH.width ∧ Counted s u 8 SVT_CNT_ARM ∧ u = { s with params := u.params } ∧
          SameOff (fun k => OutputPlace k ∨ k ∈ [SVT_ARMED.key 8 0, SVT_ARM_EPOCH.key 8 0, SVT_CNT_ARM.key 8 0]) s u)))) ∧
  (∀ (l : LaneId) (h : Hdr) (mask : Nat) (s : State), Performs s l h 0x0304 →
    (s.reaches l .s = false → Runs (.disarm l h mask) s (Denied l h 0x0304 (rRange 0 8) s)) ∧
    (s.reaches l .s = true → s.excl l.reg = true → Runs (.disarm l h mask) s (Performed l h 0x0304 (rRange 0 8) s)) ∧
    (s.reaches l .s = true → s.excl l.reg = false → Runs (.disarm l h mask) s (fun t => ∃ u, Performed l h 0x0304 rOk u t ∧
      (s.rdB 8 INT_EXTEST = false → u.voted) ∧ (∀ k, k < 64 → bit (u.rd 8 SVT_ARMED) k = (bit (s.rd 8 SVT_ARMED) k && !bit mask k)) ∧
      Counted s u 8 SVT_CNT_DISARM ∧ u = { s with params := u.params } ∧
      SameOff (fun k => OutputPlace k ∨ k ∈ [SVT_ARMED.key 8 0, SVT_CNT_DISARM.key 8 0]) s u))) ∧
  (∀ s : State, s.sUp = true → Runs .sStatusSend s (fun t =>
    (∀ l : LaneId, t.excl l.reg = (s.excl l.reg && !s.rdB 8 STF_ADMITTED l.reg)) ∧
    t.sent = s.sent ++ s.lanesOf.map (fun l => .status l t.statusMsg) ∧ t = { s with params := t.params, sent := t.sent } ∧
    SameOff (fun k => OutputPlace k ∨ k = S_STF_EXCLUDED.key 8 0 ∨ k = STF_ANY_ADM.key 8 0) s t)) ∧
  (∀ (l : LaneId) (m : SStatus) (t0 : Nat) (s : State), s.up l = true → s.rdB l.reg STF_S_SILENT = false →
    ∀ view, view = [(SVT_V_ARMED.key l.reg 0, m.armed), (SVT_V_OUT.key l.reg 0, m.out), (SVT_V_FAULTED.key l.reg 0, m.faulted),
      (SVT_V_LATCH.key l.reg 0, m.latch), (SVT_V_ATH.key l.reg 0, m.athOut), (SVT_V_VOID.key l.reg 0, m.void),
      (STF_EXCL_SEEN.key l.reg 0, m.excluded)] →
    (bit m.excluded l.idx = false → s.vstate l ≠ 0 ∨ s.rdB l.reg STF_ENTER = true →
      Runs (.sStatusReceive l m t0) s (fun t => Writes (s.atTime t0) t view)) ∧
    (bit m.excluded l.idx = false → s.vstate l = 0 → s.rdB l.reg STF_ENTER = false → Runs (.sStatusReceive l m t0) s (fun t =>
      Writes (s.atTime t0) t (view ++ [(STF_ENTER.key l.reg 0, 1), (STF_ENTER_AT.key l.reg 0, t0)]))) ∧
    (bit m.excluded l.idx = true → s.exclSeen l l = false → 1 ≤ s.vstate l → s.vstate l ≤ 3 → Runs (.sStatusReceive l m t0) s (fun t =>
      Sets s t view ∧ SameOtherLanes s t l ∧ t.sent = s.sent ∧ (t.lane l).wbe.dup = [] ∧ (t.lane l).wbe.consists = [] ∧
      (t.lane l).wbe.commitQ = [])))

/-- The supervision of the section outputs (R337 to R341). The lowest output that is on and due is taken under test, one at a time and at least
1 ms after the last test; a pulse that reads low passes, a first one that does not is counted, the second faults the channel. A readback (judged again `ON_BLANK` after a pulse), overcurrent or open-load fault of
an output that is on, a leakage fault of an enabled one that is off, sets its bit, turns the output off, with every output
the vote holds off for it, and asserts its source, held. A write to the fault bits of an output that is off clears them and
releases a source that no channel holds; of one that is on it is RANGE; bits 0 and 2 ask for SERVICE.
Each of these answers a next state with its own effect, on the conditions its clauses put on the state and the operands alone:
SEC_OFF_PULSE_START, SEC_OFF_PULSE_END, SEC_READBACK_FAULT, SEC_OVERCURRENT, SEC_OPEN_LOAD, SEC_LEAKAGE, SEC_FAULT_CLEAR. -/
def Obligations.SectionSupervision : Prop :=
  (∀ (c : Nat) (s : State), s.sUp = true → s.rd 8 SEC_TEST_K = 0 →
    let due (k : Nat) : Prop := s.outOn k = true ∧
      (s.rd 8 SEC_TEST_AT k = 0 ∨ s.rd 8 SEC_TEST_AT k + s.rd 8 SEC_TEST_PERIOD * 1000000 ≤ s.now + 1)
    (c < 64 → due c → (∀ k, k < c → ¬ due k) → s.rd 8 SEC_GAP_AT = 0 ∨ s.rd 8 SEC_GAP_AT + 1000000 ≤ s.now + 1 →
      Runs (.secOffPulseStart c) s (fun t => Writes s t [(SEC_TEST_K.key 8 0, c + 1), (SEC_TEST_AT.key 8 c, s.now + 1)])) ∧
    (¬ due c ∨ (∃ k, k < c ∧ due k) ∨ (s.rd 8 SEC_GAP_AT ≠ 0 ∧ s.now + 1 < s.rd 8 SEC_GAP_AT + 1000000) →
      Runs (.secOffPulseStart c) s (fun t => t = s))) ∧
  (∀ (c ma : Nat) (mv : Int) (s : State), s.sUp = true → s.rd 8 SEC_TEST_K = c + 1 → c < 64 →
    ∀ seen, seen = [(SEC_TEST_K.key 8 0, 0), (SEC_GAP_AT.key 8 0, s.now + 1), (SEC_TEST_END.key 8 c, s.now + 1)] →
    (mv < (s.rd 8 SEC_V_OFF_TH : Int) → (c < 16 → ma < 50) → Runs (.secOffPulseEnd c mv ma) s (fun t => Writes s t (seen ++
      [(SEC_FAIL_N.key 8 c, 0), (SEC_PASS_ON.key 8 c, 1), (SEC_PASS_AT.key 8 c, s.now)]))) ∧
    ((s.rd 8 SEC_V_OFF_TH : Int) ≤ mv ∨ (c < 16 ∧ 50 ≤ ma) → s.rd 8 SEC_FAIL_N c = 0 → Runs (.secOffPulseEnd c mv ma) s (fun t =>
      Writes s t (seen ++ [s.next 8 SEC_CNT_TEST_FAIL c, (SEC_FAIL_N.key 8 c, 1)])))) ∧
  (∀ (c n : Nat) (i : Instr) (s : State), s.sUp = true → c < 64 → NoReset s 8 n →
    (i = .secReadbackFault c ∧ n = 1 ∧ s.outOn c = true ∧ s.rd 8 SEC_TEST_K ≠ c + 1 ∧
      (s.rd 8 SEC_TEST_END c = 0 ∨ s.rd 8 SEC_TEST_END c + s.rd 8 SEC_ON_BLANK * 1000000 ≤ s.now + 1)) ∨
    (i = .secLeakage c ∧ n = 2 ∧ bit (s.rd 8 SEC_EN) c = true ∧ bit (s.rd 8 SVT_OUT) c = false) ∨
    (i = .secOvercurrent c ∧ n = 3 ∧ c < 16 ∧ s.outOn c = true) ∨
    (i = .secOpenLoad c ∧ n = 4 ∧ c < 16 ∧ s.outOn c = true ∧ s.rd 8 SEC_I_MIN c ≠ 0) ∨
    (∃ (mv : Int) (ma : Nat), i = .secOffPulseEnd c mv ma ∧ n = 0 ∧ s.rd 8 SEC_TEST_K = c + 1 ∧ 1 ≤ s.rd 8 SEC_FAIL_N c ∧
      ((s.rd 8 SEC_V_OFF_TH : Int) ≤ mv ∨ (c < 16 ∧ 50 ≤ ma))) →
    Runs i s (fun t => bit (t.rd 8 SEC_FAULT c) n = true ∧ bit (t.rd 8 SEC_FAULTED) c = true ∧ bit (t.rd 8 SVT_OUT) c = false ∧
      (s.rdB 8 INT_EXTEST = false → t.voted) ∧ (n = 0 → Counted s t 8 SEC_CNT_TEST_FAIL c) ∧
      (Judged s 8 n → bit (t.rd 8 FCL_ERR_STATUS) n = true ∧ bit (t.rd 8 FCL_RAW) n = true) ∧
      SameOff (fun k => FaultPlace k ∨ OutputPlace k ∨ k ∈ [SEC_FAULT.key 8 c, SEC_FAULTED.key 8 0] ∨ (n = 0 ∧
        k ∈ [SEC_TEST_K.key 8 0, SEC_TEST_END.key 8 c, SEC_CNT_TEST_FAIL.key 8 c, SEC_FAIL_N.key 8 c])) s t)) ∧
  (∀ (c : Nat) (s : State), s.outOn c = false → ∀ i ∈ [Instr.secOffPulseStart c, .secReadbackFault c, .secOvercurrent c, .secOpenLoad c],
    Runs i s (fun t => t = s)) ∧
  (∀ (l : LaneId) (h : Hdr) (c bits present : Nat) (s : State), Performs s l h 0x0102 → s.reaches l .s = true → c < 64 →
    let hit := bits &&& s.rd 8 SEC_FAULT c
    (bit (s.rd 8 SVT_OUT) c = false → hit &&& present = 0 → hit &&& 5 = 0 ∨ s.rd l.reg INT_LIFECYCLE = 3 →
      Runs (.secFaultClear l h c bits present) s (fun t => ∃ u, Performed l h 0x0102 rOk u t ∧ (s.rdB 8 INT_EXTEST = false → u.voted) ∧
        u.rd 8 SEC_FAULT c = clrMask (s.rd 8 SEC_FAULT c) bits % 2 ^ SEC_FAULT.width ∧ bit (u.rd 8 SEC_FAULTED) c = (u.rd 8 SEC_FAULT c != 0) ∧
        (∀ n, n < 5 → (∀ j, j < 64 → bit (u.rd 8 SEC_FAULT j) n = false) → bit (u.rd 8 FCL_RAW) n = false) ∧
        (∀ n, n < 5 → (∃ j, j < 64 ∧ bit (u.rd 8 SEC_FAULT j) n = true) → bit (u.rd 8 FCL_RAW) n = bit (s.rd 8 FCL_RAW) n) ∧
        u = { s with params := u.params })) ∧
    (hit ≠ 0 → bit (s.rd 8 SVT_OUT) c = true ∨ hit &&& present ≠ 0 → Runs (.secFaultClear l h c bits present) s
      (Denied l h 0x0102 (rRange (SEC_FAULT.id 8 c) 20) s)) ∧
    (bit (s.rd 8 SVT_OUT) c = false → hit &&& present = 0 → hit &&& 5 ≠ 0 → s.rd l.reg INT_LIFECYCLE ≠ 3 →
      Runs (.secFaultClear l h c bits present) s (Denied l h 0x0102 (rDenied (s.rd l.reg INT_LIFECYCLE)) s)))

/-- The authority outputs (R342 to R346). A HOLD bit that rises in a vote starts the engage pulse of its target: its outputs
on, the state MOVING. A pulse that ends leaves the latch ENGAGED or RELEASED, UNKNOWN after a coil fault, and its output off.
A short or an open coil found in a pulse, or a short of an output that is on, is recorded, the latch of a pulse is UNKNOWN, and source 5 is asserted. With no lane counted for the
orphan time every latch engages, once, counted; with the rule off nothing happens.
Each of these answers a next state with its own effect, on the conditions its clauses put on the state and the operands alone:
S_VOTE_RECEIVE, ATH_PULSE_END, ATH_ORPHAN_TIMEOUT, ATH_COIL_FAULT. -/
def Obligations.AuthorityOutputs : Prop :=
  (∀ (x : LaneId) (v : VoteMsg) (t0 g : Nat) (s : State), s.sUp = true → v.region = x.reg → s.rdB 8 INT_EXTEST = false →
    s.excl x.reg = false → g ∈ [1, 2, 3, 4] → bit v.hold (g - 1) = true → bit (s.rd 8 ATH_HOLD_PREV x.reg) (g - 1) = false →
    s.latchState g ≠ 1 → s.rd 8 ATH_DIR g ≠ 1 → s.coilsOf 1 g ≠ [] →
    Runs (.sVoteReceive v t0) s (fun t => t.latchState g = 3 ∧ t.rd 8 ATH_DIR g = 1 ∧ ∀ a ∈ s.coilsOf 1 g, bit (t.rd 8 ATH_OUT) a = true)) ∧
  (∀ (a g : Nat) (s : State), s.sUp = true → a < 8 → g ∈ [1, 2, 3, 4] → bit (s.rd 8 ATH_USERS a) (g - 1) = true →
    (∀ b, b < 8 → b ≠ a → bit (s.rd 8 ATH_USERS b) (g - 1) = false) → s.rd 8 ATH_DIR g = 1 ∨ s.rd 8 ATH_DIR g = 2 →
    (∀ x : LaneId, s.holdOf x = s.rd 8 ATH_HOLD_PREV x.reg) → (∀ (x : LaneId) (v : VoteMsg), s.sdie.vote x.reg = some v → v.release = 0) →
    Runs (.athPulseEnd a) s (fun t => t.latchState g = (if s.rdB 8 ATH_BAD g then 0 else s.rd 8 ATH_DIR g) ∧ t.rd 8 ATH_DIR g = 0 ∧
      t.rd 8 ATH_USERS a = 0 ∧ (s.rd 8 ATH_KIND a ≠ 3 → bit (t.rd 8 ATH_OUT) a = false) ∧ t = { s with params := t.params } ∧
      SameOff OutputPlace s t)) ∧
  (∀ (a : Nat) (short : Bool) (s : State), s.sUp = true → a < 8 → s.rd 8 ATH_USERS a ≠ 0 ∨ (short = true ∧ bit (s.rd 8 ATH_OUT) a = true) →
    NoReset s 8 5 →
    Runs (.athCoilFault a short) s (fun t => bit (t.rd 8 ATH_FAULT a) (if short then 0 else 1) = true ∧
      (∀ g ∈ targetsOf (s.rd 8 ATH_USERS a), t.latchState g = 0 ∧ t.rd 8 ATH_BAD g = 1) ∧
      (Judged s 8 5 → bit (t.rd 8 FCL_ERR_STATUS) 5 = true) ∧
      SameOff (fun k => FaultPlace k ∨ OutputPlace k ∨ k = ATH_FAULT.key 8 a) s t)) ∧
  (∀ (a : Nat) (short : Bool) (s : State), s.rd 8 ATH_USERS a = 0 → short = false ∨ bit (s.rd 8 ATH_OUT) a = false → Runs (.athCoilFault a short) s (fun t => t = s)) ∧
  (∀ s : State, s.sUp = true → s.rd 8 ATH_ORPHAN_TIME ≠ 0 → s.rdB 8 STF_ANY_ADM = true → (∀ l v, ¬ s.countedVote l v) →
    s.rdB 8 ATH_ORPHANED = false → Runs .athOrphanTimeout s (fun t => t.rd 8 ATH_ORPHANED = 1 ∧ Counted s t 8 ATH_CNT_ORPHAN ∧
      t.rd 8 SVT_OUT = s.rd 8 SVT_OUT ∧ t = { s with params := t.params } ∧
      SameOff (fun k => OutputPlace k ∨ k = ATH_CNT_ORPHAN.key 8 0) s t ∧ ∀ g ∈ [1, 2, 3, 4], s.coilsOf 1 g ≠ [] → s.latchState g ≠ 1 →
        s.rd 8 ATH_DIR g ≠ 1 → t.latchState g = 3 ∧ t.rd 8 ATH_DIR g = 1)) ∧
  (∀ s : State, s.rd 8 ATH_ORPHAN_TIME = 0 → Runs .athOrphanTimeout s (fun t => t = s))

/-! ### The safety inputs and the service mode -/

/-- The safety inputs (R349 to R354, R361). An accepted level stands in its bit; while the samples of the input are masked the accepted level holds. A channel of an ESTOP or a SECTIONS_OFF pair
that opens trips its pair at once: its bit, its stamp, the requests cleared, and from a lane that counts trips a TRIP message. A
channel that changes before the other is awaited, also where it changes back; one that follows within the limit gives the lag, one later a
discrepancy, latched, counted, source 37, as at the timeout. An accepted high of ACK begins a press, unless it is the first level. An input seen
low in a test pulse passes; failures up to the limit set its bit and source 36 and count it as open, as a readback fault does for
every input pulsed from the output.
Each of these answers a next state with its own effect, on the conditions its clauses put on the state and the operands alone:
SIO_INPUT_ACCEPT, TEST_PULSE_START, TEST_PULSE_END, TP_READBACK_FAULT, SIO_DISCREPANCY_TIMEOUT. -/
def Obligations.SafetyInputs : Prop :=
  (∀ (l : LaneId) (i tick t0 : Nat) (level : Bool) (s : State), s.up l = true → i < 16 → s.masked l i t0 = true →
    Runs (.sioInputAccept l i level tick t0) s (fun t => t = s.atTime t0)) ∧
  (∀ (l : LaneId) (i tick t0 : Nat) (level : Bool) (s : State), s.up l = true → i < 16 → NoReset s l.reg 37 →
    (s.rd l.reg SIO_TP_SRC i < 4 → bit (s.rd l.reg SIO_TP_EN) (s.rd l.reg SIO_TP_SRC i) = true →
      s.rd l.reg SIO_TP_AT (s.rd l.reg SIO_TP_SRC i) = 0 ∨ s.rd l.reg SIO_TP_AT (s.rd l.reg SIO_TP_SRC i) +
        (s.rd l.reg SIO_TP_WIDTH + s.rd l.reg SIO_TP_SETTLE) * 1000 ≤ t0 + 1) →
    let p := i / 2
    let o := if i % 2 = 0 then i + 1 else i - 1
    let opens : Bool := level == (s.rdB l.reg SIO_PAIR_TYPE p && i % 2 == 1)
    let f := s.rd l.reg SIO_PAIR_FUNC p
    let lag := tick - s.rd l.reg SIO_PEND_TICK p
    Runs (.sioInputAccept l i level tick t0) s (fun t =>
      (∀ j, j < 17 → bit (t.rd l.reg SIO_IN) j = if j = i then level else bit (s.rd l.reg SIO_IN) j) ∧
      bit (t.rd l.reg SIO_HAVE) i = true ∧ SameOtherLanes s t l ∧
      (s.chanOpen l i = false → opens = true → f = 1 ∨ f = 2 → bit (s.rd l.reg SIO_TRIP) (7 + f) = false →
        bit (s.rd l.reg SIO_TRIP) p = false → bit (t.rd l.reg SIO_TRIP) p = true ∧ t.rd l.reg SDC_REQ = 0 ∧
        t.rd l.reg SDC_AUT_LEVEL = s.rd l.reg SDC_AUT_LEVEL ∧
        t.rd l.reg SIO_P_AT p = s.twlTime l t0 % 2 ^ 64 ∧ (s.countsTrips l = true → ∃ m, Sent.trip l m ∈ t.sent ∧ m.kind = 0x81 ∧
          m.sender = l.reg ∧ m.pair = p ∧ m.chan = i % 2 ∧ m.func = f)) ∧
      (s.chanOpen l i = true ∨ opens = false → t.rd l.reg SIO_TRIP = s.rd l.reg SIO_TRIP) ∧
      (s.accOpen l i ≠ opens → s.accOpen l o = s.accOpen l i → s.rd l.reg SIO_PEND p = 0 → t.rd l.reg SIO_PEND p = i % 2 + 1 ∧
        t.rd l.reg SIO_PEND_TICK p = tick % 2 ^ 64) ∧
      (s.accOpen l i ≠ opens → s.rd l.reg SIO_PEND p = i % 2 + 1 → t.rd l.reg SIO_PEND p = i % 2 + 1 ∧
        t.rd l.reg SIO_PEND_TICK p = s.rd l.reg SIO_PEND_TICK p ∧ t.rd l.reg SIO_PEND_LAST p = tick % 2 ^ 64) ∧
      (s.accOpen l i ≠ opens → s.accOpen l o ≠ opens → s.rd l.reg SIO_PEND p = o % 2 + 1 → lag ≤ s.rd l.reg SIO_DISC_TICKS p →
        t.rd l.reg SIO_PEND p = o % 2 + 1 ∧ t.rd l.reg SIO_PEND_TICK p = s.rd l.reg SIO_PEND_LAST p ∧
        t.rd l.reg SIO_LAST_LAG p = lag % 2 ^ 15) ∧
      (s.accOpen l i ≠ opens → s.accOpen l o = opens → s.rd l.reg SIO_PEND p = o % 2 + 1 → t.rd l.reg SIO_PEND p = 0 ∧
        (lag ≤ s.rd l.reg SIO_DISC_TICKS p → t.rd l.reg SIO_LAST_LAG p = lag % 2 ^ 15) ∧
        (lag > s.rd l.reg SIO_DISC_TICKS p → bit (t.rd l.reg SIO_DISC) p = true ∧ Counted s t l.reg SIO_CNT_DISC ∧
          (Judged s l.reg 37 → bit (t.rd l.reg FCL_ERR_STATUS) 37 = true))))) ∧
  (∀ (l : LaneId) (tick t0 : Nat) (s : State), s.up l = true →
    ∀ high, high = [(SIO_IN.key l.reg 0, setBit (s.rd l.reg SIO_IN) 16), (SIO_HAVE.key l.reg 0, setBit (s.rd l.reg SIO_HAVE) 16)] →
    (bit (s.rd l.reg SIO_HAVE) 16 = true → s.rdB l.reg SIO_ACK_ON = false → Runs (.sioInputAccept l 16 true tick t0) s (fun t =>
      Writes (s.atTime t0) t (high ++ [(SIO_ACK_ON.key l.reg 0, 1), (SIO_ACK_AT.key l.reg 0, t0), (SIO_ACK_BAD.key l.reg 0, 0)]))) ∧
    (bit (s.rd l.reg SIO_HAVE) 16 = false → Runs (.sioInputAccept l 16 true tick t0) s (fun t => Writes (s.atTime t0) t high))) ∧
  (∀ (l : LaneId) (p : Nat) (s : State), s.up l = true → p < 8 → NoReset s l.reg 37 →
    (s.rd l.reg SIO_PEND p ≠ 0 → Runs (.sioDiscrepancyTimeout l p) s (fun t => bit (t.rd l.reg SIO_DISC) p = true ∧
      Counted s t l.reg SIO_CNT_DISC ∧ t.rd l.reg SIO_PEND p = 0 ∧ (Judged s l.reg 37 → bit (t.rd l.reg FCL_ERR_STATUS) 37 = true) ∧
      SameOff (fun k => FaultPlace k ∨ k ∈ [SIO_DISC.key l.reg 0, SIO_CNT_DISC.key l.reg 0, SIO_PEND.key l.reg p,
        SIO_DISC_BOTH.key l.reg p]) s t)) ∧
    (s.rd l.reg SIO_PEND p = 0 → Runs (.sioDiscrepancyTimeout l p) s (fun t => t = s))) ∧
  (∀ (l : LaneId) (n t0 : Nat) (s : State), s.up l = true → n < 4 →
    (bit (s.rd l.reg SIO_TP_EN) n = true → Runs (.testPulseStart l n t0) s (fun t => t = { s.atTime t0 with params := t.params } ∧
      Reads t [(SIO_TP_BUSY.key l.reg 0, setBit (s.rd l.reg SIO_TP_BUSY) n), (SIO_TP_BAD.key l.reg n, 0), (SIO_TP_AT.key l.reg n, t0 + 1)] ∧
      SamePlaces s t [SIO_TP_BUSY.key l.reg 0, SIO_TP_BAD.key l.reg n, SIO_TP_AT.key l.reg n, SIO_CLOSED_AT.key l.reg 0])) ∧
    (bit (s.rd l.reg SIO_TP_EN) n = false → Runs (.testPulseStart l n t0) s (fun t => t = s.atTime t0))) ∧
  (∀ (l : LaneId) (n low : Nat) (s : State), s.up l = true → n < 4 → NoReset s l.reg 36 →
    (bit (s.rd l.reg SIO_TP_BUSY) n = true → Runs (.testPulseEnd l n low) s (fun t => bit (t.rd l.reg SIO_TP_BUSY) n = false ∧
      SameOtherLanes s t l ∧ ∀ i, i < 16 →
        (s.rd l.reg SIO_TP_SRC i ≠ n → t.rd l.reg SIO_TP_N i = s.rd l.reg SIO_TP_N i ∧ t.rd l.reg SIO_FAULT i = s.rd l.reg SIO_FAULT i) ∧
        (s.rd l.reg SIO_TP_SRC i = n → bit low i = true → t.rd l.reg SIO_TP_N i = 0 ∧ t.rd l.reg SIO_FAULT i = s.rd l.reg SIO_FAULT i ∧
          t.rd l.reg SIO_CNT_TP_ERR i = s.rd l.reg SIO_CNT_TP_ERR i) ∧
        (s.rd l.reg SIO_TP_SRC i = n → bit low i = false → t.rd l.reg SIO_TP_N i = (s.rd l.reg SIO_TP_N i + 1) % 2 ^ 64 ∧
          Counted s t l.reg SIO_CNT_TP_ERR i ∧
          (s.rd l.reg SIO_TP_N i + 1 < s.rd l.reg SIO_TP_ERR_LIM → t.rd l.reg SIO_FAULT i = s.rd l.reg SIO_FAULT i) ∧
          (s.rd l.reg SIO_TP_ERR_LIM ≤ s.rd l.reg SIO_TP_N i + 1 → bit (t.rd l.reg SIO_FAULT i) 0 = true ∧ t.chanOpen l i = true ∧
            (Judged s l.reg 36 → bit (t.rd l.reg FCL_ERR_STATUS) 36 = true))))) ∧
    (bit (s.rd l.reg SIO_TP_BUSY) n = false → Runs (.testPulseEnd l n low) s (fun t => t = s)) ∧
    (bit (s.rd l.reg SIO_TP_EN) n = true → Runs (.tpReadbackFault l n) s (fun t => bit (t.rd l.reg SIO_TP_FAULT) n = true ∧
      t.rd l.reg SIO_TP_BAD n = 1 ∧ (Judged s l.reg 36 → bit (t.rd l.reg FCL_ERR_STATUS) 36 = true) ∧ SameOtherLanes s t l ∧ ∀ i, i < 16 →
        (s.rd l.reg SIO_TP_SRC i = n → bit (t.rd l.reg SIO_FAULT i) 1 = true ∧ t.chanOpen l i = true) ∧
        (s.rd l.reg SIO_TP_SRC i ≠ n → t.rd l.reg SIO_FAULT i = s.rd l.reg SIO_FAULT i))) ∧
    (bit (s.rd l.reg SIO_TP_EN) n = false → Runs (.tpReadbackFault l n) s (fun t => t = s)))

/-- Trips and resets (R355 to R365, R437, R522). A TRIP message is noted with the earliest stamp of its function, and one whose
instant has passed is counted as late; a lane that does not count trips, and a function applied, take none. A noted trip is
applied at the compute start of a valley targeted 40 µs or more after its stamp, without synchronisation at once: its bit, counted, the requests cleared, an arm cancelled, for an ESTOP the forces of its targets with no slew and its
bridges, the standing orders of its event, a package change aborted. At standstill an ESTOP holds its targets. A valid press is
kept with its time and sent to both peers, an invalid one counted; releases too old for the newest are dropped. ARM_RESET keeps its
nonce; CONFIRM_RESET with it, within 2 s and not at once, clears the trips where the conditions are met, and cancels the arm where not.
Each of these answers a next state with its own effect, on the conditions its clauses put on the state and the operands alone:
TRIP_RECEIVE, TRIP_APPLY, ESTOP_HOLD_TIMER, ACK_RELEASE, ACK_RELEASE_RECEIVE, ARM_RESET, CONFIRM_RESET, INPUT_RECEIVE, INPUT_VOTE_DEADLINE, COMMON_SAMPLE_INSTANT
(the INPUT messages a reset is judged by: R104, R107, R360). -/
def Obligations.TripsAndResets : Prop :=
  (∀ (l : LaneId) (m : InputMsg) (s : State), s.up l = true → m.lane ≠ l → s.hasRegion m.lane.reg = true → Runs (.inputReceive l m) s (fun t =>
    (t.lane l).vot.inputs.find? (fun x => x.lane == m.lane) = some m ∧ t.params = s.params ∧ t.sent = s.sent ∧ SameOtherLanes s t l)) ∧
  (∀ (l : LaneId) (d : Nat) (s : State), s.up l = true → s.synced l = true → s.rdB l.reg VOT_LOCAL = false → 2 < s.vstate l →
    s.votDiffers l = false → d < 32 → s.rd l.reg VOT_DI_SRC d ≠ 0 → Runs (.inputVoteDeadline l) s (fun t => bit (t.rd l.reg VOT_DI_VALUE) d =
      diVote ((s.votingLanes l).filterMap (fun x => if s.diFailed l d x then none else
          ((s.lane l).vot.inputs.find? (fun m => m.lane == x && m.cycle == s.cycle l)).bind (fun m => m.di.getD d none)))
        (s.rdB l.reg VOT_DI_SAFE d) (s.rd l.reg VOT_MODE == 2 || s.rd l.reg VOT_MODE == 3))) ∧
  (∀ (l : LaneId) (t0 : Nat) (s : State), s.up l = true → s.twlEvents l = true → 2 < s.vstate l → Runs (.commonSampleInstant l t0) s (fun t =>
    t.rd l.reg VOT_SAMPLE_AT = t0 % 2 ^ 64 ∧ ∃ m, Sent.input m ∈ t.sent ∧ m.lane = l ∧ m.cycle = s.cycle l ∧ m.sioIn = s.rd l.reg SIO_IN ∧
      m.sioHave = s.rd l.reg SIO_HAVE)) ∧
  (∀ (l : LaneId) (m : TripMsg) (t0 : Nat) (s : State), s.up l = true → m.kind = 0x81 → m.func = 1 ∨ m.func = 2 →
    (s.countsTrips l = true → bit (s.rd l.reg SIO_TRIP) (7 + m.func) = false → Runs (.tripReceive l m t0) s (fun t =>
      let a := s.stampOf l m
      t = { s.atTime t0 with params := t.params } ∧ t.rd l.reg SIO_T_ON m.func = (if s.rdB l.reg SIO_T_ON m.func && decide
        (s.rd l.reg SIO_T_AT m.func ≤ a) then s.rd l.reg SIO_T_ON m.func else 1) ∧
      t.rd l.reg SIO_T_AT m.func = (if s.rdB l.reg SIO_T_ON m.func && decide (s.rd l.reg SIO_T_AT m.func ≤ a) then s.rd l.reg SIO_T_AT m.func
        else a % 2 ^ 64) ∧
      (s.rdB l.reg SIO_SRC_ON = false → Reads t [(SIO_TRIP_SRC.key l.reg 0,
        withCycle (m.sender + m.pair % 8 * 16 + m.chan * 128) (s.fullCycle l m.cycle))]) ∧
      (s.synced l = true → s.rdB l.reg SIO_T_ON m.func = false ∨ a < s.rd l.reg SIO_T_AT m.func → a + 40000 ≤ s.computedTarget l →
        Counted s t l.reg SIO_CNT_TRIP_LATE) ∧
      (s.computedTarget l < a + 40000 → t.rd l.reg SIO_CNT_TRIP_LATE = s.rd l.reg SIO_CNT_TRIP_LATE) ∧
      SamePlaces s t [SIO_SRC_ON.key l.reg 0, SIO_SRC_AT.key l.reg 0, SIO_TRIP_SRC.key l.reg 0, SIO_T_ON.key l.reg m.func,
        SIO_T_AT.key l.reg m.func, SIO_CNT_TRIP_LATE.key l.reg 0])) ∧
    (s.countsTrips l = false ∨ bit (s.rd l.reg SIO_TRIP) (7 + m.func) = true → Runs (.tripReceive l m t0) s (fun t => t = s.atTime t0))) ∧
  (∀ (l : LaneId) (f t0 : Nat) (s : State), s.up l = true → f = 1 ∨ f = 2 →
    (s.countsTrips l = true → s.rdB l.reg SIO_T_ON f = true → bit (s.rd l.reg SIO_TRIP) (7 + f) = false →
      s.synced l = false ∨ s.rd l.reg SIO_T_AT f + 40000 ≤ s.valleyTarget l (s.rd l.reg INT_VALLEY_AT) →
      Runs (.tripApply l f t0) s (fun t => bit (t.rd l.reg SIO_TRIP) (7 + f) = true ∧ t.rd l.reg SIO_T_ON f = 0 ∧
        Counted s t l.reg SIO_CNT_TRIP ∧ t.rd l.reg SDC_REQ = 0 ∧ t.rd l.reg SDC_AUT_LEVEL = 0 ∧ t.rd l.reg SIO_RESET_STATE = 0 ∧
        (∀ g ∈ [1, 2, 3, 4], f = 1 ∧ s.rd l.reg SIO_ESTOP_FORCE g ≠ 0 → Reads t
          [(CEN_TGT_CMD.key l.reg g, max (s.rd l.reg CEN_TGT_CMD g) (s.rd l.reg SIO_ESTOP_FORCE g)),
           (CEN_TARGET.key l.reg g, max (s.rd l.reg CEN_TGT_CMD g) (s.rd l.reg SIO_ESTOP_FORCE g))]) ∧
        (∀ g ∈ [1, 2, 3, 4], f = 2 ∨ s.rd l.reg SIO_ESTOP_FORCE g = 0 → t.rd l.reg CEN_TARGET g = s.rd l.reg CEN_TARGET g) ∧
        (f = 1 → ∀ b, b < 6 → bit (s.rd l.reg SIO_TRIP_BRIDGES) b = true → t.rd l.reg SIO_TRIP_B b = 1) ∧
        (∀ o, o < 64 → s.rd l.reg DPT_ORD_STATE o = 2 → (s.trig l o).kind = 2 → bits (s.trig l o).argA 7 0 = f + 2 →
          bits (s.trig l o).argA 15 8 = 0 → t.rd l.reg DPT_ORD_STATE o = 3) ∧
        (s.rd l.reg PWR_STATE = 4 → 2 ≤ s.rd l.reg PWR_REQ → t.rd l.reg PWR_STATE = s.rd l.reg PWR_PREV % 2 ^ PWR_STATE.width ∧
          Counted s t l.reg PWR_CNT_REFUSE) ∧ ∀ x : LaneId, x ≠ l → t.lane x = s.lane x)) ∧
    (s.synced l = true → s.valleyTarget l (s.rd l.reg INT_VALLEY_AT) < s.rd l.reg SIO_T_AT f + 40000 → Runs (.tripApply l f t0) s (fun t =>
      t = s.atTime t0)) ∧
    (s.rdB l.reg SIO_T_ON f = false ∨ s.countsTrips l = false → Runs (.tripApply l f t0) s (fun t => t = s.atTime t0))) ∧
  (∀ (l : LaneId) (s : State), s.up l = true →
    (bit (s.rd l.reg SIO_TRIP) 8 = true → s.rdB l.reg SIO_ESTOP_HOLD = true → (∀ g ∈ [1, 2, 3, 4], s.rd l.reg SIO_ESTOP_FORCE g ≠ 0 →
      s.targetDriven l g = false ∨ s.tooFast l (s.rd l.reg CEN_TGT_BRIDGE g) = false) → Runs (.estopHoldTimer l) s (fun t =>
      (∀ g ∈ [1, 2, 3, 4], bit (t.rd l.reg SDC_HOLD) (g - 1) = (bit (s.rd l.reg SDC_HOLD) (g - 1) || s.rd l.reg SIO_ESTOP_FORCE g != 0)) ∧
      SameBut s t [SDC_HOLD.key l.reg 0])) ∧
    (bit (s.rd l.reg SIO_TRIP) 8 = false → Runs (.estopHoldTimer l) s (fun t => t = s))) ∧
  (∀ (l x : LaneId) (c : Instr) (a t0 : Nat) (ms : List Sent) (s : State), s.up l = true →
    (c = .ackRelease l t0 ∧ x = l ∧ s.rdB l.reg SIO_ACK_ON = true ∧ s.pressValid l t0 = true ∧ a = s.twlTime l t0 ∧
      ms = [.trip l ⟨0x82, l.reg, 0, 0, 0, a / (s.rd l.reg TWL_CYCLE_LEN * 1000) % 65536, a % (s.rd l.reg TWL_CYCLE_LEN * 1000) / 25⟩]) ∨
    (∃ m : TripMsg, c = .ackReleaseReceive l m ∧ m.kind = 0x82 ∧ m.sender = x.reg ∧ a = s.stampOf l m ∧ ms = []) →
    let has (y : LaneId) : Prop := y = x ∨ s.rdB l.reg SIO_ACK_REL y.reg = true
    let at' (y : LaneId) : Nat := if y = x then a % 2 ^ 64 else s.rd l.reg SIO_ACK_REL_AT y.reg
    Runs c s (fun t => t.sent = (s.tells ms).sent ∧ t.rd l.reg SIO_ACK_REL_AT x.reg = a % 2 ^ 64 ∧
      (∀ y, t.rdB l.reg SIO_ACK_REL y.reg = true ↔ has y ∧ ∀ z, has z → at' z ≤ at' y + s.rd l.reg SIO_ACK_AGREE * 1000000) ∧
      SamePlaces s t ([SIO_ACK_REL.key l.reg 1, SIO_ACK_REL.key l.reg 2, SIO_ACK_REL.key l.reg 3, SIO_ACK_REL_AT.key l.reg x.reg] ++
        (if c = .ackRelease l t0 then [SIO_LAST_PRESS.key l.reg 0, SIO_ACK_ON.key l.reg 0] else [])))) ∧
  (∀ (l : LaneId) (t0 : Nat) (s : State), s.up l = true →
    (s.rdB l.reg SIO_ACK_ON = true → s.pressValid l t0 = false → Runs (.ackRelease l t0) s (fun t => Writes (s.atTime t0) t
      [(SIO_LAST_PRESS.key l.reg 0, min 8191 ((t0 - s.rd l.reg SIO_ACK_AT) / 1000000)), (SIO_ACK_ON.key l.reg 0, 0),
       s.next l.reg SIO_CNT_ACK_REJECT])) ∧
    (s.rdB l.reg SIO_ACK_ON = false → Runs (.ackRelease l t0) s (fun t => t = s.atTime t0))) ∧
  (∀ (l : LaneId) (h : Hdr) (nonce : Nat) (s : State), Performs s l h 0x0501 →
    (bit (s.rd l.reg SIO_RESET_SRC) 1 = true → s.rd l.reg SIO_TRIP ≠ 0 → Runs (.armReset l h nonce) s (fun t => ∃ u,
      Performed l h 0x0501 rOk u t ∧ Writes s u [(SIO_RESET_STATE.key l.reg 0, 1), (SIO_NONCE.key l.reg 0, nonce),
        (SIO_ARM_AT.key l.reg 0, s.now)])) ∧
    (bit (s.rd l.reg SIO_RESET_SRC) 1 = false → Runs (.armReset l h nonce) s (Denied l h 0x0501 (rRange (SIO_RESET_SRC.id l.reg 0) 0) s)) ∧
    (bit (s.rd l.reg SIO_RESET_SRC) 1 = true → s.rd l.reg SIO_TRIP = 0 →
      Runs (.armReset l h nonce) s (Denied l h 0x0501 (rRange (SIO_TRIP.id l.reg 0) 0) s))) ∧
  (∀ (l : LaneId) (h : Hdr) (nonce : Nat) (s : State), Performs s l h 0x0502 →
    let armed : Prop := s.rdB l.reg SIO_RESET_STATE = true ∧ s.rd l.reg SIO_NONCE = nonce ∧ s.now ≠ s.rd l.reg SIO_ARM_AT ∧
      s.now ≤ s.rd l.reg SIO_ARM_AT + 2000000000
    (armed → s.resetOk l = true → Runs (.confirmReset l h nonce) s (fun t => ∃ u, Performed l h 0x0502 rOk u t ∧
      u.rd l.reg SIO_TRIP = 0 ∧ u.rd l.reg SIO_RESET_STATE = 0 ∧ Counted s u l.reg SIO_CNT_RESET ∧ u.rd l.reg SIO_T_ON 1 = 0 ∧
      u.rd l.reg SIO_T_ON 2 = 0 ∧ (∀ i, i < 16 → u.rd l.reg SIO_FAULT i = s.causePresent l i % 4) ∧
      (∀ x : LaneId, u.rd l.reg SIO_ACK_REL x.reg = 0) ∧ u.sent = s.sent ∧ SameOtherLanes s u l)) ∧
    (armed → s.resetOk l = false → Runs (.confirmReset l h nonce) s (fun t => ∃ u,
      Performed l h 0x0502 (rRange (SIO_TRIP.id l.reg 0) 0) u t ∧ Writes s u [(SIO_RESET_STATE.key l.reg 0, 0)])) ∧
    (¬ armed → Runs (.confirmReset l h nonce) s (Denied l h 0x0502 (rRange (SIO_RESET_STATE.id l.reg 0) 0) s)))

/-- The service mode's times (R373, R376 to R378, R381). Standstill in the controlled stop sets the HOLD bits of its targets. A
latch not confirmed takes the lane to HELD by force, with its cause, count and warning. A stop too long asserts source 18. A
voting lane that has lost the Towline leaves where another voting lane has not, and stops locally where none has.
Each of these answers a next state with its own effect, on the conditions its clauses put on the state and the operands alone:
STOP_STANDSTILL, LATCH_CONFIRM_TIMEOUT, STOP_TIMEOUT, TWL_LOSS_TIMEOUT, COMPUTE_START (after a peak that brought no sample only its
time is noted: R153, R156). -/
def Obligations.ServiceModes : Prop :=
  (∀ (l : LaneId) (t0 : Nat) (s : State), s.up l = true → s.rdB l.reg CMT_PEAK = true → (s.lane l).cmtOld = [] → (s.lane l).rescale = [] →
    (∀ b, b < 6 → s.rdB l.reg CMT_LATCH_SEEN b = false ∧ (s.bridge l b).smp = none) → Runs (.computeStart l t0) s (fun t =>
      t.rd l.reg INT_COMP_AT = t0 % 2 ^ 64 ∧ SamePlaces s t [INT_COMP_AT.key l.reg 0] ∧ t.sent = s.sent ∧ SameOtherLanes s t l)) ∧
  (∀ (l : LaneId) (s : State), s.up l = true →
    (s.rdB l.reg VOT_STOP_ON = true → (∀ x : LaneId, s.rdB l.reg VOT_IN_N x.reg = true → ∀ g ∈ s.stopTargets l,
      s.tooFast x (s.rd l.reg CEN_TGT_BRIDGE g) = false) → Runs (.stopStandstill l) s (fun t => t.rd l.reg VOT_STANDSTILL = 1 ∧
      (∀ g ∈ [1, 2, 3, 4], bit (t.rd l.reg SDC_HOLD) (g - 1) = (bit (s.rd l.reg SDC_HOLD) (g - 1) || (s.stopTargets l).contains g)) ∧
      SameBut s t [VOT_STANDSTILL.key l.reg 0, SDC_HOLD.key l.reg 0])) ∧
    (s.rdB l.reg VOT_STOP_ON = false → Runs (.stopStandstill l) s (fun t => t = s))) ∧
  (∀ (l : LaneId) (g : Nat) (s : State), s.up l = true →
    (s.rdB l.reg VOT_STOP_ON = true → s.rdB l.reg VOT_STANDSTILL = true → g ∈ s.stopTargets l →
      s.rd l.reg SVT_V_LATCH / 4 ^ (g - 1) % 4 ≠ 1 → Runs (.latchConfirmTimeout l g) s (fun t => t.rd l.reg VOT_MODE = 4 ∧
        t.rd l.reg VOT_HELD_FORCE = 1 ∧ bit (t.rd l.reg VOT_WARN) 8 = true ∧ SameOtherLanes s t l ∧
        (s.rd l.reg VOT_MODE ≠ 4 → t.rd l.reg VOT_MODE_CAUSE = withCycle 9 (s.cycle l) ∧ Counted s t l.reg VOT_CNT_MODE ∧
          t.rd l.reg SDC_REQ = 0 ∧ (s.vstate l = 2 → t.rd l.reg VOT_STOP_ON = 0)))) ∧
    (g ∉ s.stopTargets l → Runs (.latchConfirmTimeout l g) s (fun t => t = s))) ∧
  (∀ (l : LaneId) (s : State), s.up l = true → NoReset s l.reg 18 →
    (s.rdB l.reg VOT_STOP_ON = true → s.rdB l.reg VOT_STANDSTILL = false → Runs (.stopTimeout l) s (fun t => OnlyFaults s t ∧
      (Judged s l.reg 18 → bit (t.rd l.reg FCL_ERR_STATUS) 18 = true))) ∧
    (s.rdB l.reg VOT_STANDSTILL = true → Runs (.stopTimeout l) s (fun t => t = s))) ∧
  (∀ (l : LaneId) (s : State), s.up l = true → s.voting l l = true → s.synced l = false →
    ((∃ x ∈ s.otherVoting l, s.syncSeen l x = true) → Runs (.twlLossTimeout l) s (fun t => t.vstate l = 3 ∧ t.rd l.reg STF_COUNT_ON = 0 ∧
      t.rd l.reg STF_CLAIMING = 0 ∧ (s.rd l.reg STF_HOLDER = l.reg → t.rd l.reg STF_HOLDER = 0) ∧
      (∀ b, b < 6 → t.rd l.reg CMT_STATE b ≠ 2 ∧ t.rd l.reg CMT_STATE b ≠ 1) ∧ t.sent = (s.tells (s.toAll l (s.staffMsg l 7
        (if s.rd l.reg STF_HOLDER = l.reg then l.reg else 0) (s.rd l.reg STF_EPOCH) 0))).sent)) ∧
    ((∀ x ∈ s.otherVoting l, s.syncSeen l x = false) → Runs (.twlLossTimeout l) s (fun t => t.rd l.reg VOT_LOCAL = 1 ∧
      bit (t.rd l.reg VOT_STOP_CAUSE) 3 = true ∧ SameBut s t [VOT_LOCAL.key l.reg 0, VOT_STOP_CAUSE.key l.reg 0]))) ∧
  (∀ (l : LaneId) (s : State), s.synced l = true → Runs (.twlLossTimeout l) s (fun t => t = s))

/-! ### Towline -/

/-- The Towline node (R390 to R408, R415 to R420, R601). The sync frame carries its node, path, cycle, digest, vector and data with
its check, and the vector names the paths received that end 2 µs before its action point. A copy that fails a check is counted
with its code, 7 with source 39; a valid one is counted, fills the buffers of its path, and takes a listening node to
INTEGRATE, ends the cold start of a higher node, or gives its deviation. A frame is sent in an open enable on the enabled rails, a
re-send in the spare path where a vector missed it; outside, it is not driven, counted, and the second cycle running blocks the
lock-keeper. In the NIT the median of the deviations, within its limit, corrects the next cycle start of an odd cycle, the rate moves by
at most 500 and stays within 2,000 parts per million, rails and buffers are judged, and the node changes its state.
Each of these answers a next state with its own effect, on the conditions its clauses put on the state and the operands alone:
TWL_FRAME_RECEIVE, TWL_PATH_START, TWL_NIT, LISTEN_TIMEOUT, TOWLINE_CYCLE_START, LOCAL_CYCLE_START (the cycle the node's
count begins: R399, R601). -/
def Obligations.TowlineNode : Prop :=
  (∀ (l : LaneId) (t0 : Nat) (s : State), s.up l = true → s.twlEvents l = true → s.rdB l.reg VOT_LOCAL = false → NoReset s l.reg 23 →
    s.lowestLane (fun x => s.vstate x == 2) ≠ some l → Runs (.towlineCycleStart l t0) s (fun t => t.cycle l = s.startingCycle l % 2 ^ 32 ∧
      t.rd l.reg TWL_C = s.startingCycle l % 2 ^ 64 ∧ t.rd l.reg INT_CYCLE_START = t0 % 2 ^ 64 ∧ t.now = max s.now t0)) ∧
  (∀ (l : LaneId) (t0 : Nat) (s : State), s.up l = true → s.synced l = false → s.rd l.reg TWL_LAST ≠ 0 → s.rdB l.reg VOT_LOCAL = false →
    Runs (.localCycleStart l .cycleStart t0) s (fun t => t.rd l.reg TWL_LAST = nextCycle (s.rd l.reg TWL_LAST) % 2 ^ 64 ∧
      t.rd l.reg INT_CYCLE_START = t0 % 2 ^ 64 ∧ t.rd l.reg TWL_CYCLE = s.rd l.reg TWL_CYCLE ∧ SameOtherLanes s t l)) ∧
  ((∀ a b : Rat, ftAverage [a, b] = (a + b) / 2) ∧ (∀ a b c : Rat, a ≤ b → b ≤ c → ∀ v ∈ [[a, b, c], [b, a, c], [c, b, a], [a, c, b]], ftAverage v = b) ∧
    (∀ a b c d : Rat, a ≤ b → b ≤ c → c ≤ d → ftAverage [d, b, a, c] = (b + c) / 2) ∧ ftAverage [] = 0) ∧
  (∀ (l : LaneId) (p : Nat) (s : State), let raw := s.syncFrame l p
    let f := twlParse raw
    f.node = s.rd l.reg TWL_NODE % 16 ∧ f.path = p % 64 ∧ f.len + 8 = raw.length ∧ f.cyc = s.rd l.reg TWL_C % 256 ∧ f.sync = true ∧
    f.startup = (s.twlState l == 2) ∧ f.repeat' = false ∧ f.ackv = true ∧ f.null = false ∧ f.cycle = s.rd l.reg TWL_C % 2 ^ 32 ∧
    f.digest = s.rd l.reg TWL_TT_DIGEST % 2 ^ 32 ∧ f.vec = s.ackVec l p % 2 ^ 64 ∧ f.data = s.txData l p ∧
    crc32 (raw.take (raw.length - 4)) % 2 ^ 32 = fieldLe raw (raw.length - 4) 4 ∧
    ∀ q, bit (s.ackVec l p) q = true ↔ q ∈ (s.lane l).twl.got ∧
      s.rd l.reg TWL_PATH_START q + s.rd l.reg TWL_PATH_LEN q + 2 ≤ s.rd l.reg TWL_PATH_START p + 1) ∧
  (∀ (l : LaneId) (raw : List Byte) (t0 : Nat) (s : State), s.twlCheck l false raw t0 = 1 ∧
    (raw.length < 8 ∨ raw.length ≠ (twlParse raw).len + 8 → s.twlCheck l true raw t0 = 2) ∧
    (raw.length = (twlParse raw).len + 8 → (twlParse raw).len ≤ s.rd l.reg TWL_PATH_PAYLOAD (twlParse raw).path →
      crc32 (raw.take (raw.length - 4)) ≠ fieldLe raw (raw.length - 4) 4 → s.twlCheck l true raw t0 = 3)) ∧
  (∀ (l : LaneId) (rail t0 : Nat) (coding : Bool) (raw : List Byte) (s : State), s.up l = true →
    (rail > 1 ∨ bit (s.rd l.pow TRX_RAIL_EN) rail = false ∨ s.twlState l = 0 ∨ 5 ≤ s.twlState l →
      Runs (.twlFrameReceive l rail coding raw t0) s (fun t => t = s.atTime t0)) ∧
    (rail ≤ 1 → bit (s.rd l.pow TRX_RAIL_EN) rail = true → 1 ≤ s.twlState l → s.twlState l ≤ 4 →
      let code := s.twlCheck l coding raw t0
      let f := twlParse raw
      (code ≠ 0 → code ≠ 7 → Runs (.twlFrameReceive l rail coding raw t0) s (fun t => Writes (s.atTime t0) t
        [(TWL_ACTIVE.key l.reg 0, setBit (s.rd l.reg TWL_ACTIVE) rail), s.next l.reg TWL_CNT_RX_ERR rail,
         (TWL_LAST_RX_ERR.key l.reg 0, code), (TWL_JUNK_NOW.key l.reg 0, 1)])) ∧
      (code = 7 → NoReset s l.reg 39 → Runs (.twlFrameReceive l rail coding raw t0) s (fun t => Counted s t l.reg TWL_CNT_TT_MISMATCH ∧
        Counted s t l.reg TWL_CNT_RX_ERR rail ∧ t.rd l.reg TWL_LAST_RX_ERR = 7 ∧
        (Judged s l.reg 39 → bit (t.rd l.reg FCL_ERR_STATUS) 39 = true))) ∧
      (code = 0 → Runs (.twlFrameReceive l rail coding raw t0) s (fun t => Counted s t l.reg TWL_CNT_RX_OK rail ∧ SameOtherLanes s t l ∧
        (f.path ∉ (s.lane l).twl.got → f.null = false → ∀ j, j < 8 → s.rd l.reg TWL_RX_PATH j = f.path → t.rd l.reg TWL_RX_AGE j = 0 ∧
          ∀ w, w < 16 → t.rd l.reg TWL_RX_WORD (16 * j + w) = fieldLe f.data (4 * w) 4) ∧
        (f.sync = true → f.repeat' = false → f.node ≠ s.rd l.reg TWL_NODE →
          (s.twlState l = 1 → t.twlState l = 3 ∧ t.rd l.reg TWL_C = f.cycle ∧ t.rd l.reg TWL_RATE_CORR = 0 ∧
            t.rd l.reg TWL_START = (t0 - 1360 - 1000 * s.rd l.reg TWL_PATH_START f.path) % 2 ^ 64 ∧
            (s.rd l.reg LKG_STATE ≠ 5 → t.rd l.reg LKG_STATE = 1)) ∧
          (s.twlState l = 2 → f.node < s.rd l.reg TWL_NODE → t.twlState l = 1 ∧ Counted s t l.reg TWL_CNT_COLDSTART ∧ t.rd l.reg LKG_OPEN = 0) ∧
          (s.twlState l = 3 ∨ s.twlState l = 4 ∨ (s.twlState l = 2 ∧ s.rd l.reg TWL_NODE < f.node) → t.twlState l = s.twlState l ∧
            t.rd l.reg TWL_SEEN_NOW = 1 ∧ (f.node, rail, s.deviation l f.path t0) ∈ (t.lane l).twl.devs ∧
            ∀ e ∈ (t.lane l).twl.devs, e.1 = f.node → e.2.1 = rail → e.2.2 = s.deviation l f.path t0)))))) ∧
  (∀ (l : LaneId) (p fail t0 : Nat) (s : State), s.up l = true → p < 64 → s.rd l.reg CLK_STATE ≠ 3 →
    (s.rd l.reg TWL_PATH_OWNER p ≠ s.rd l.reg TWL_NODE → Runs (.twlPathStart l p fail t0) s (fun t => t = s.atTime t0)) ∧
    (s.rd l.reg TWL_PATH_OWNER p = s.rd l.reg TWL_NODE →
      (s.rd l.reg TWL_PATH_KIND p = 2 → s.twlState l = 2 ∨ s.twlState l = 4 →
        (s.rd l.reg LKG_OPEN = p + 1 → Runs (.twlPathStart l p fail t0) s (fun t => t.sent = s.sent ++
          [.towline l (s.rd l.pow TRX_RAIL_EN) ((s.atTime t0).syncFrame l p)] ∧ (t.lane l).twl.sent = some ((s.atTime t0).syncFrame l p) ∧
          t.rd l.reg TWL_SENT = 1 ∧ SameOtherLanes s t l ∧ ∀ r, r < 2 → bit (s.rd l.pow TRX_RAIL_EN) r = true →
            (bit fail r = true → Counted s t l.reg TWL_CNT_TX_ERR r ∧ Counted s t l.pow TRX_CNT_READBACK r) ∧
            (bit fail r = false → bit (t.rd l.reg TWL_RB_OK) r = true ∧ t.rd l.reg TWL_CNT_TX_ERR r = s.rd l.reg TWL_CNT_TX_ERR r))) ∧
        (s.rd l.reg LKG_OPEN ≠ p + 1 → s.rd l.reg LKG_OUT_AT ≠ s.rd l.reg TWL_C → Runs (.twlPathStart l p fail t0) s (fun t =>
          Writes (s.atTime t0) t [s.next l.reg LKG_CNT_BLOCK, (LKG_OUT_AT.key l.reg 0, s.rd l.reg TWL_C + 1)]))) ∧
      (s.rd l.reg TWL_PATH_KIND p = 3 → s.twlState l = 4 →
        (∀ raw, (s.lane l).twl.sent = some raw → (∃ a ∈ (s.lane l).twl.missing, a + 2000 ≤ t0) → s.rd l.reg LKG_OPEN = p + 1 →
          Runs (.twlPathStart l p fail t0) s (fun t => t.sent = s.sent ++ [.towline l (s.rd l.pow TRX_RAIL_EN) (repeatFrame raw)] ∧
            Counted s t l.reg TWL_CNT_RESEND)) ∧
        ((s.lane l).twl.missing = [] → Runs (.twlPathStart l p fail t0) s (fun t => t = s.atTime t0))))) ∧
  (∀ (l : LaneId) (t0 : Nat) (s : State), s.up l = true → NoReset s l.reg 38 → NoReset s l.reg 40 → NoReset s l.reg 41 →
    let st := s.twlState l
    let c := s.rd l.reg TWL_C
    let lim : Int := s.rd l.reg TWL_OFFSET_LIM
    let avg := roundTz (ftAverage ((s.devsOf l).map Prod.snd ++ (if s.ownsSync l then [0] else [])))
    (st ≠ 2 → st ≠ 3 → st ≠ 4 → Runs (.twlNit l t0) s (fun t => t = s.atTime t0)) ∧
    (st = 2 ∨ st = 3 ∨ st = 4 → Runs (.twlNit l t0) s (fun t => SameOtherLanes s t l ∧
      (∀ p, p < 64 → (bit (t.rd l.reg TWL_ACK_VEC) p = true ↔ p ∈ (s.lane l).twl.got)) ∧
      (∀ j, j < 8 → t.rd l.reg TWL_RX_AGE j = if bit (s.rd l.reg TWL_RX_GOT) j then s.rd l.reg TWL_RX_AGE j else min 255 (s.rd l.reg TWL_RX_AGE j + 1)) ∧
      (∀ r, r < 2 → bit (s.rd l.pow TRX_RAIL_EN) r = false ∨ (s.rd l.reg TWL_RAILS ≠ 0 ∧ bit (s.rd l.reg TWL_RAILS) r = false ∧
        s.rd l.reg TWL_RAIL_LOSS ≤ min 15 (s.rd l.reg TWL_BAD_N r + 1)) → bit (t.rd l.reg TWL_RAIL_STATE) r = true ∧
        (s.rd l.reg TWL_RAIL_STATE = 0 → Judged s l.reg 40 → bit (t.rd l.reg FCL_ERR_STATUS) 40 = true)) ∧
      ((s.lane l).twl.missing ≠ [] → s.rdB l.reg TWL_RESENT = false → Counted s t l.reg TWL_CNT_RESEND_LOST) ∧
      (c % 4 = 3 → (s.rdI l.reg TWL_RATE_CORR).natAbs ≤ 2000000 → (t.rdI l.reg TWL_RATE_CORR).natAbs ≤ 2000000 ∧
        (t.rdI l.reg TWL_RATE_CORR - s.rdI l.reg TWL_RATE_CORR).natAbs ≤ 500000) ∧
      (c % 2 = 1 → lim < 128 → t.rdI l.reg TWL_OFFSET_CORR = clampInt (-lim) lim avg ∧
        (clampInt (-lim) lim avg ≠ avg → Counted s t l.reg TWL_CNT_OFFSET_CLAMP)) ∧
      (st = 4 → c % 2 = 0 → s.rd l.reg TWL_NOVAL_N < 2 → s.rd l.reg TWL_OFFC_N < 2 → s.rd l.reg TWL_RATEC_N < 2 → t.twlState l = 4 ∧
        t.rd l.reg TWL_C = nextCycle c ∧ t.rd l.reg TWL_START = (s.rd l.reg TWL_START + 1000 * s.rd l.reg TWL_CYCLE_LEN) % 2 ^ 64 ∧
        (t.lane l).twl.devs = [] ∧ t.rd l.reg TWL_SEEN_PREV = s.rd l.reg TWL_SEEN_NOW % 2 ^ 64) ∧
      (st = 4 → c % 4 = 1 → s.devsOf l ≠ [] → clampInt (-lim) lim avg = avg → s.rd l.reg TWL_RATEC_N < 2 → t.twlState l = 4 ∧
        t.rd l.reg TWL_C = nextCycle c ∧
        t.rd l.reg TWL_START = ((s.rd l.reg TWL_START : Int) + 1000 * s.rd l.reg TWL_CYCLE_LEN + 25 * avg).toNat % 2 ^ 64) ∧
      (st = 4 → c % 4 = 1 → s.devsOf l = [] → s.rd l.reg TWL_NOVAL_N = 1 → t.twlState l = 1 ∧ t.rd l.reg TWL_CYCLE = 0 ∧
        t.rd l.reg INT_SYNCED = 0 ∧ t.rd l.reg LKG_OPEN = 0 ∧ Counted s t l.reg TWL_CNT_SYNC_LOSS ∧
        t.rd l.reg TWL_LAST_SYNC_LOSS = withCycle 1 (s.rd l.reg TWL_CYCLE) ∧ (Judged s l.reg 41 → bit (t.rd l.reg FCL_ERR_STATUS) 41 = true)) ∧
      (st = 3 → c = nextCycle (nextCycle (s.rd l.reg TWL_C0)) →
        (s.rdB l.reg TWL_SEEN_NOW = true → s.rdB l.reg TWL_SEEN_PREV = true → t.twlState l = 4 ∧ t.rd l.reg TWL_CYCLE = c % 2 ^ 32 ∧
          t.rd l.reg INT_SYNCED = 1) ∧
        (s.rdB l.reg TWL_SEEN_NOW = false → t.twlState l = 1)) ∧
      (st = 2 → s.rdB l.reg TWL_JUNK_PREV = false →
        (4 ≤ c → s.rdB l.reg TWL_SEEN_NOW = true → s.rdB l.reg TWL_SEEN_PREV = true → t.twlState l = 4 ∧ t.rd l.reg INT_SYNCED = 1) ∧
        (64 ≤ c → s.rdB l.reg TWL_SEEN_NOW = false → t.twlState l = 1 ∧ Counted s t l.reg TWL_CNT_COLDSTART))))) ∧
  (∀ (l : LaneId) (t0 : Nat) (s : State), s.up l = true →
    (s.twlState l = 1 → bit (s.rd l.reg TWL_COLDSTART_NODES) (s.rd l.reg TWL_NODE) = true →
      s.rd l.reg TWL_TRIES < s.rd l.reg TWL_COLDSTART_TRIES → Runs (.listenTimeout l t0) s (fun t => t.twlState l = 2 ∧ t.rd l.reg TWL_C = 1 ∧
        t.rd l.reg TWL_START = t0 % 2 ^ 64 ∧ t.rd l.reg TWL_RATE_CORR = 0 ∧ (s.rd l.reg LKG_STATE ≠ 5 → t.rd l.reg LKG_STATE = 1) ∧
        SameOtherLanes s t l)) ∧
    (s.twlState l ≠ 1 ∨ s.rd l.reg TWL_COLDSTART_TRIES ≤ s.rd l.reg TWL_TRIES → Runs (.listenTimeout l t0) s (fun t => t = s.atTime t0)))

/-- The lock-keeper and the rail drivers (R410 to R413, R421, R424). The enable of a path the lane owns opens while the lock-keeper is
open, in COLDSTART that of the sync path where no traffic was seen, and never while it is blocked or halted; it closes, and a
frame still being sent is cut and counted. A transmission with every enable closed is counted, and in two cycles running blocks
the lock-keeper, counted, with source 42, and the node loses synchronisation. An aligning lock-keeper takes the lane's
cycle start; then it follows it, opens after two good cycles with good taps, and is blocked after three at the limit. A driver
in overcurrent is recorded, counted, source 7.
Each of these answers a next state with its own effect, on the conditions its clauses put on the state and the operands alone:
LKG_ENABLE_OPEN, LKG_ENABLE_CLOSE, LKG_BLOCK_TX, LKG_CYCLE_START, TRX_DRIVER_OVERCURRENT. -/
def Obligations.LockKeeper : Prop :=
  (∀ (l : LaneId) (p : Nat) (traffic : Bool) (s : State), s.up l = true → p < 64 → s.rd l.reg TWL_PATH_KIND p ≠ 0 →
    s.rd l.reg TWL_PATH_OWNER p = s.rd l.reg TWL_NODE →
    (s.rd l.reg LKG_STATE = 3 ∨ (s.twlState l = 2 ∧ s.rd l.reg TWL_PATH_KIND p = 2 ∧ traffic = false ∧ s.rd l.reg LKG_STATE < 4) →
      Runs (.lkgEnableOpen l p traffic) s (fun t => Writes s t [(LKG_OPEN.key l.reg 0, p + 1)])) ∧
    (4 ≤ s.rd l.reg LKG_STATE → s.rd l.reg LKG_STATE ≤ 5 → Runs (.lkgEnableOpen l p traffic) s (fun t => t = s)) ∧
    (s.rd l.reg LKG_STATE ≠ 3 → traffic = true → Runs (.lkgEnableOpen l p traffic) s (fun t => t = s))) ∧
  (∀ (l : LaneId) (p : Nat) (traffic : Bool) (s : State), s.rd l.reg TWL_PATH_OWNER p ≠ s.rd l.reg TWL_NODE →
    Runs (.lkgEnableOpen l p traffic) s (fun t => t = s)) ∧
  (∀ (l : LaneId) (p : Nat) (s : State), s.up l = true →
    (s.rd l.reg LKG_OPEN = p + 1 → Runs (.lkgEnableClose l p true) s (fun t => Writes s t [(LKG_OPEN.key l.reg 0, 0), s.next l.reg LKG_CNT_CUT]) ∧
      Runs (.lkgEnableClose l p false) s (fun t => Writes s t [(LKG_OPEN.key l.reg 0, 0)])) ∧
    (s.rd l.reg LKG_OPEN ≠ p + 1 → ∀ b, Runs (.lkgEnableClose l p b) s (fun t => t = s))) ∧
  (∀ (l : LaneId) (s : State), s.up l = true →
    (s.rd l.reg LKG_OPEN ≠ 0 → Runs (.lkgBlockTx l) s (fun t => t = s)) ∧
    (s.rd l.reg LKG_OPEN = 0 → s.rd l.reg LKG_OUT_AT ≠ s.rd l.reg TWL_C → Runs (.lkgBlockTx l) s (fun t => Writes s t
      [s.next l.reg LKG_CNT_BLOCK, (LKG_OUT_AT.key l.reg 0, s.rd l.reg TWL_C + 1)])) ∧
    (s.rd l.reg LKG_OPEN = 0 → s.rd l.reg LKG_OUT_AT = s.rd l.reg TWL_C → s.rd l.reg TWL_C ≠ 0 → NoReset s l.reg 41 → NoReset s l.reg 42 →
      Runs (.lkgBlockTx l) s (fun t => t.rd l.reg LKG_STATE = 4 ∧ Counted s t l.reg LKG_CNT_BLOCK ∧ Counted s t l.reg LKG_CNT_BLOCKED ∧
        (s.twlState l = 4 → t.twlState l = 1 ∧ t.rd l.reg INT_SYNCED = 0 ∧ Counted s t l.reg TWL_CNT_SYNC_LOSS) ∧
        (Judged s l.reg 42 → bit (t.rd l.reg FCL_ERR_STATUS) 42 = true ∧ bit (t.rd l.reg FCL_RAW) 42 = true)))) ∧
  (∀ (l : LaneId) (own : Int) (taps : Bool) (s : State), s.up l = true →
    (s.rd l.reg LKG_STATE = 1 → Runs (.lkgCycleStart l own taps) s (fun t => Writes s t [(LKG_STATE.key l.reg 0, 2), (LKG_PULL.key l.reg 0, 0)])) ∧
    (s.rd l.reg LKG_STATE = 0 ∨ 4 ≤ s.rd l.reg LKG_STATE → Runs (.lkgCycleStart l own taps) s (fun t => t = s)) ∧
    (s.rd l.reg LKG_STATE = 2 ∨ s.rd l.reg LKG_STATE = 3 →
      (own.natAbs < 80 → Runs (.lkgCycleStart l own taps) s (fun t => t.rdI l.reg LKG_PULL = own ∧ t.rd l.reg LKG_LIM_N = 0 ∧
        t.rdI l.reg LKG_RES = 0 ∧ (t.rdI l.reg LKG_TRIM).natAbs ≤ 30000000 ∧
        (s.rd l.reg LKG_STATE = 2 → 1 ≤ s.rd l.reg LKG_PULL_OK → 1 ≤ s.rd l.reg LKG_TAP_OK → taps = true → t.rd l.reg LKG_STATE = 3) ∧
        (s.rd l.reg LKG_STATE = 2 → taps = false → t.rd l.reg LKG_STATE = 2 ∧ t.rd l.reg LKG_TAP_OK = 0) ∧
        SameBut s t [LKG_PULL.key l.reg 0, LKG_TRIM.key l.reg 0, LKG_RES.key l.reg 0, LKG_TAP_OK.key l.reg 0, LKG_LIM_N.key l.reg 0,
          LKG_PULL_OK.key l.reg 0, LKG_STATE.key l.reg 0])) ∧
      (80 ≤ own.natAbs → s.rd l.reg LKG_LIM_N < 2 → Runs (.lkgCycleStart l own taps) s (fun t => Counted s t l.reg LKG_CNT_PULL_LIM ∧
        t.rd l.reg LKG_LIM_N = s.rd l.reg LKG_LIM_N + 1 ∧ t.rd l.reg LKG_PULL_OK = 0 ∧ t.rd l.reg LKG_STATE = s.rd l.reg LKG_STATE)) ∧
      (80 ≤ own.natAbs → 2 ≤ s.rd l.reg LKG_LIM_N → NoReset s l.reg 41 → NoReset s l.reg 42 → Runs (.lkgCycleStart l own taps) s (fun t =>
        t.rd l.reg LKG_STATE = 4 ∧ t.rd l.reg LKG_OPEN = 0 ∧ Counted s t l.reg LKG_CNT_BLOCKED ∧
        (Judged s l.reg 42 → bit (t.rd l.reg FCL_ERR_STATUS) 42 = true))))) ∧
  (∀ (l : LaneId) (rail : Nat) (s : State), s.on l.pow = true → rail < 2 → NoReset s l.pow 7 →
    Runs (.trxDriverOvercurrent l rail) s (fun t => bit (t.rd l.pow TRX_STATUS) (4 * rail) = true ∧ Counted s t l.pow TRX_CNT_OVC rail ∧
      (Judged s l.pow 7 → bit (t.rd l.pow FCL_ERR_STATUS) 7 = true) ∧
      SameOff (fun k => FaultPlace k ∨ k ∈ [TRX_STATUS.key l.pow 0, TRX_CNT_OVC.key l.pow rail]) s t))

/-! ### The dispatcher -/

/-- The tasks of the dispatcher (R139, R426 to R434, R445, R451). A named event ends the wait of its task with EVENT, another stays pending;
a comparator, or a tick of the delay list that is due, ends it with TIMEOUT, counted; the task is READY, and no READY
task is of a higher level than one that runs; a pair halted by the lockstep checker starts none (R139). A window short of background time raises its highest READY task to level 16.
Each of these answers a next state with its own effect, on the conditions its clauses put on the state and the operands alone: TASK_EVENT,
WAIT_TIMEOUT, DELAY_LIST_TICK, BG_SHARE_CHECK. -/
def Obligations.Tasks : Prop :=
  ∀ (l : LaneId) (s : State), s.up l = true → ((s.lane l).tasks.map FwTask.n).Nodup → (∀ k ∈ (s.lane l).tasks, k.n < 256) →
    let ended (n result : Nat) (t : State) : Prop := (t.lane l).tasks.map FwTask.n = (s.lane l).tasks.map FwTask.n ∧ t.sent = s.sent ∧
      SameOtherLanes s t l ∧ ∀ k ∈ (t.lane l).tasks, k.n = n → (k.state = 2 ∨ k.state = 3) ∧ k.result = result ∧ k.events = [] ∧ k.cmp = none ∧
        k.listed = false
    let served (t : State) : Prop := (s.rd l.reg LSC_STATE ≠ 3 → ∀ k ∈ (t.lane l).tasks, k.state = 2 →
        ∃ j ∈ (t.lane l).tasks, j.state = 3 ∧ j.lvl ≤ k.lvl) ∧
      (s.rd l.reg LSC_STATE = 3 → ∀ k ∈ (t.lane l).tasks, k.state = 3 → ∃ j ∈ (s.lane l).tasks, j.n = k.n ∧ j.state = 3) ∧
      ∀ k ∈ (t.lane l).tasks, t.rd l.reg DPT_TASK_STATE k.n = k.state % 8
    (∀ (k : FwTask) (n ev : Nat), s.task l n = some k →
      (k.state = 4 → ev ∈ k.events → Runs (.taskEvent l n ev) s (fun t => ended n 1 t ∧ served t)) ∧
      (k.state ≠ 5 → k.state ≠ 4 ∨ ev ∉ k.events → Runs (.taskEvent l n ev) s (fun t => t.params = s.params ∧ t.sent = s.sent ∧
        ∀ j ∈ (t.lane l).tasks, j.n = n → ev ∈ j.pend ∧ j.state = k.state)) ∧
      (k.state = 5 → Runs (.taskEvent l n ev) s (fun t => t = s))) ∧
    (∀ n ev, s.task l n = none → Runs (.taskEvent l n ev) s (fun t => t = s)) ∧
    (∀ (k : FwTask) (c : Nat), k ∈ (s.lane l).tasks → k.cmp = some c → k.state = 4 → (∀ j ∈ (s.lane l).tasks, j.cmp = some c → j = k) →
      Runs (.waitTimeout l c) s (fun t => ended k.n 2 t ∧ served t ∧ Counted s t l.reg DPT_CNT_TIMEOUT k.n)) ∧
    (∀ c, (∀ j ∈ (s.lane l).tasks, j.cmp ≠ some c) → Runs (.waitTimeout l c) s (fun t => t = s)) ∧
    (∀ us, Runs (.delayListTick l us) s (fun t => served t ∧ ∀ k ∈ (s.lane l).tasks, k.listed = true →
      (k.deadline ≤ us → ended k.n 2 t ∧ Counted s t l.reg DPT_CNT_TIMEOUT k.n) ∧
      (us < k.deadline → k.state = 4 → ∀ j ∈ (t.lane l).tasks, j.n = k.n → j.state = 4 ∧ j.listed = true ∧ j.deadline = k.deadline))) ∧
    (∀ bg, 625 ≤ bg → Runs (.bgShareCheck l bg) s (fun t => (∀ k ∈ (t.lane l).tasks, k.raised = false) ∧ t.rd l.reg DPT_BG_BASE = 0)) ∧
    (∀ bg, bg < 625 → ∀ k ∈ (s.lane l).tasks, k.state = 2 → 48 ≤ k.level → Runs (.bgShareCheck l bg) s (fun t => served t ∧
      t.rd l.reg DPT_BG_BASE = 1 ∧ ∃ j ∈ (t.lane l).tasks, j.raised = true ∧ j.lvl = 16 ∧ 48 ≤ j.level ∧ j.level ≤ k.level))

/-- Standing orders (R12, R35, R75, R435 to R444). ORDER_LOAD begins or goes on with an order's content and shows it, reserved bits as 0; a
waybill of another format version, or one that must be voted, is not stored; one that runs or is armed is not
written. ORDER_START queues a MANUAL order and arms another; ORDER_STOP takes it from the queue and disarms it; an order that is not
loaded is refused. A delay that ends queues its order, or counts an overlap. The next order of the queue starts and its first
waybill is replayed; while one is being processed nothing happens; after the last the run ends, and with a failure under STOP_ON_FAIL
it ends there, noted.
Each of these answers a next state with its own effect, on the conditions its clauses put on the state and the operands alone: ORDER_LOAD,
ORDER_START, ORDER_STOP, ORDER_DELAY_EXPIRY, ORDER_NEXT_WAYBILL. -/
def Obligations.StandingOrders : Prop :=
  (∀ (l : LaneId) (h : Hdr) (o action : Nat) (d : OrderTrigger) (ws : List Waybill) (s : State), Performs s l h 0x0A01 →
    (s.chkOrderLoad l o action d ws = none → Runs (.orderLoad l h o action d ws) s (fun t => ∃ u, Performed l h 0x0A01 rOk u t ∧
      let all := (if action = 0 then [] else s.stored l o) ++ ws.map Waybill.encode
      u.stored l o = all ∧ (∀ q, q ≠ o → u.stored l q = s.stored l q) ∧ u.sent = s.sent ∧ SameOtherLanes s u l ∧
      Reads u ([(DPT_ORD_COUNT.key l.reg o, all.length), (DPT_ORD_BYTES.key l.reg o, bytesOf all),
        (DPT_ORD_CRC.key l.reg o, if all = [] then 0 else crc32c (all.flatMap id)), (DPT_ORD_STATE.key l.reg o, if all = [] then 0 else 1),
        (DPT_ORD_STORE_FREE.key l.reg 0, 262144 - u.storeUsed l)] ++ if action = 0 then
          [(DPT_ORD_TRIG.key l.reg o, d.kind + d.flags % 8 * 2 ^ 8 + (if d.kind = 2 then d.argA % 65536 else d.argA) * 2 ^ 32 +
            d.argB * 2 ^ 64)] else []) ∧
      SamePlaces s u [DPT_ORD_COUNT.key l.reg o, DPT_ORD_BYTES.key l.reg o, DPT_ORD_CRC.key l.reg o, DPT_ORD_STATE.key l.reg o,
        DPT_ORD_STORE_FREE.key l.reg 0, DPT_ORD_TRIG.key l.reg o])) ∧
    (o > 63 → Runs (.orderLoad l h o action d ws) s (Denied l h 0x0A01 (rRange 0 16) s)) ∧
    (∀ w ∈ ws, w.version ≠ 2 ∨ (w.opcode = 0x0701 ∧ (byteAt w.params 0 = 2 ∨ byteAt w.params 0 = 3)) → s.chkOrderLoad l o action d ws ≠ none) ∧
    (o ≤ 63 → action ≤ 1 → 2 ≤ s.rd l.reg DPT_ORD_STATE o → Runs (.orderLoad l h o action d ws) s
      (Denied l h 0x0A01 (rRange (DPT_ORD_STATE.id l.reg o) 16) s))) ∧
  (∀ (l : LaneId) (h : Hdr) (o : Nat) (s : State), Performs s l h 0x0A02 → o ≤ 63 →
    (s.chkOrderStart l o = none →
      ((s.trig l o).kind = 0 → Runs (.orderStart l h o) s (fun t => ∃ u, Performed l h 0x0A02 rOk u t ∧ Sets s u [(DPT_ORD_STATE.key l.reg o, 3)] ∧
        (u.lane l).ordQ = (s.lane l).ordQ ++ [o] ∧ u.sent = s.sent ∧ SameOtherLanes s u l)) ∧
      ((s.trig l o).kind ≠ 0 → Runs (.orderStart l h o) s (fun t => ∃ u, Performed l h 0x0A02 rOk u t ∧ Writes s u [(DPT_ORD_STATE.key l.reg o, 2),
        (DPT_ORD_FIRST.key l.reg o, if (s.trig l o).argA = 0 then s.cycle l + 1 else (s.trig l o).argA)]))) ∧
    (s.rd l.reg DPT_ORD_STATE o ≠ 1 → Runs (.orderStart l h o) s (Denied l h 0x0A02 (rRange (DPT_ORD_STATE.id l.reg o) 16) s))) ∧
  (∀ (l : LaneId) (h : Hdr) (o : Nat) (s : State), Performs s l h 0x0A03 → o ≤ 63 →
    (s.rd l.reg DPT_ORD_STATE o ≠ 0 → Runs (.orderStop l h o) s (fun t => ∃ u, Performed l h 0x0A03 rOk u t ∧
      Sets s u [(DPT_ORD_STATE.key l.reg o, 1)] ∧ (∀ q, q ∈ (u.lane l).ordQ ↔ q ∈ (s.lane l).ordQ ∧ q ≠ o) ∧ u.sent = s.sent ∧
      SameOtherLanes s u l)) ∧
    (s.rd l.reg DPT_ORD_STATE o = 0 → Runs (.orderStop l h o) s (Denied l h 0x0A03 (rRange (DPT_ORD_STATE.id l.reg o) 16) s))) ∧
  (∀ (l : LaneId) (o : Nat) (s : State), s.up l = true → o < 64 → (s.trig l o).kind = 3 →
    (s.rd l.reg DPT_ORD_STATE o = 2 → Runs (.orderDelayExpiry l o) s (fun t => Sets s t [(DPT_ORD_STATE.key l.reg o, 3)] ∧
      (t.lane l).ordQ = (s.lane l).ordQ ++ [o] ∧ t.sent = s.sent ∧ SameOtherLanes s t l)) ∧
    (3 ≤ s.rd l.reg DPT_ORD_STATE o → Runs (.orderDelayExpiry l o) s (fun t => Writes s t [s.next l.reg DPT_CNT_ORD_OVERLAP o])) ∧
    (s.rd l.reg DPT_ORD_STATE o < 2 → Runs (.orderDelayExpiry l o) s (fun t => t = s))) ∧
  (∀ (l : LaneId) (t0 : Nat) (s : State), s.up l = true →
    (s.rd l.reg DPT_RUN = 0 → (s.lane l).ordQ = [] → Runs (.orderNextWaybill l t0) s (fun t => t = s.atTime t0)) ∧
    (s.rd l.reg DPT_RUN ≠ 0 → s.rdB l.reg DPT_RUN_WAIT = true → Runs (.orderNextWaybill l t0) s (fun t => t = s.atTime t0)) ∧
    (∀ o rest raw more, s.rd l.reg DPT_RUN = 0 → (s.lane l).ordQ = o :: rest → o < 64 → s.stored l o = raw :: more →
      (s.lane l).wbe.inq.length < 32 → s.rdB l.reg DPT_RUN_WAIT = false → ∃ u, Counted s u l.reg DPT_CNT_ORD_RUN o ∧
        (u.lane l).ordQ = rest ∧ Reads u [(DPT_ORD_STATE.key l.reg o, 4), (DPT_ORD_STATUS.key l.reg o, withCycle 0 (s.cycle l)),
          (DPT_RUN.key l.reg 0, o + 1), (DPT_RUN_IDX.key l.reg 0, 0), (DPT_RUN_FAIL.key l.reg 0, 0)] ∧ SamePlaces s u
          [DPT_ORD_STATE.key l.reg o, DPT_ORD_STATUS.key l.reg o, DPT_RUN.key l.reg 0, DPT_RUN_IDX.key l.reg 0, DPT_RUN_FAIL.key l.reg 0,
           DPT_CNT_ORD_RUN.key l.reg o] ∧ Runs (.orderNextWaybill l t0) s (fun t => t = u.replay l raw t0)) ∧
    (∀ o, s.rd l.reg DPT_RUN = o + 1 → o < 64 → s.rdB l.reg DPT_RUN_WAIT = false → (∀ c ∈ (s.lane l).wbe.consists, c.port ≠ .so) →
      s.rd l.reg DPT_ORD_STATE o = 4 →
      let ends (t : State) : Prop := t.rd l.reg DPT_ORD_STATE o = (if (s.trig l o).kind ≠ 0 ∧ bit (s.trig l o).flags 2 = true then 2 else 1) ∧
        t.rd l.reg DPT_RUN = 0 ∧ t.sent = s.sent ∧ (t.lane l).ordQ = (s.lane l).ordQ ∧ SameOtherLanes s t l
      (s.rdB l.reg DPT_RUN_FAIL = false → (s.lane l).wbe.inq.length < 32 → (s.stored l o).length ≤ s.rd l.reg DPT_RUN_IDX →
        Runs (.orderNextWaybill l t0) s ends) ∧
      (s.rdB l.reg DPT_RUN_FAIL = true → bit (s.trig l o).flags 0 = true →
        Runs (.orderNextWaybill l t0) s (fun t => ends t ∧ bit (t.rd l.reg DPT_ORD_STATUS o) 21 = true))))

/-! ### Fabric, locks, memory lines and gates -/

/-- The fabric of a region (R33, R447 to R471, R538). A grant goes to the lowest critical requester, else to a background requester
whose share is due, else by priority, round robin among equals; its owner, its waits and, outside RUN, its counters follow; a
withdrawn grant costs a dead cycle. The burst of a grant reads checked lines or writes them with their check: a poisoned line, or one whose
check fails, answers a data error, a partial write is a read and a write, a whole write clears poison. A free lock is taken, another's is LOCKED, a broken one recovered, with the previous owner and
epoch, and one's own is released; under a lower staff epoch than M has seen the write is refused; a rollback gives the
pre-images back. A lock that idles, or whose owner has a higher region epoch, breaks; M answers a lane's status with its heartbeat (log 65). A read error is counted, repaired from a
peer, poisoned or lost, with its source; a peer answers a request for a line of the RPC tables as of the end of the group named, once it has run
(R286; an older group is refused, log 75). A touch of a gated block is recorded, a forced close counted, source 7.
Each of these answers a next state with its own effect, on the conditions its clauses put on the state and the operands alone:
FAB_REQUEST, LOCK_HOLD_WRITE, LOCK_ROLLBACK_WRITE, LOCK_IDLE_TIMEOUT, EPOCH_STATUS_RECEIVE, FAB_CNT_CLEAR, LINE_READ_ERROR,
LINE_REPAIR_REPLY, SCRUB_READ, GATE_FORCE_CLOSE, GATED_TOUCH, REPAIR_REQUEST_RECEIVE. -/
def Obligations.Fabric : Prop :=
  (∀ (g : Region) (q : Nat) (x : FabReq) (reqs : List FabReq) (s : State), s.hasRegion g.code = true → x ∈ reqs → x.q = q →
    (reqs.map FabReq.q).Nodup → (∀ y ∈ reqs, y.q < requesters g.code ∧ s.rd g.code FAB_PRIO y.q < 16) →
    let r := g.code
    let cls (y : FabReq) := s.rd r FAB_CLASS y.q
    let due (y : FabReq) : Prop := cls y = 2 ∧ 15 ≤ s.rd r FAB_BG_WAIT y.q
    (cls x = 0 ∧ ∀ y ∈ reqs, cls y = 0 → q ≤ y.q) ∨ ((∀ y ∈ reqs, cls y ≠ 0) ∧
      ((due x ∧ ∀ y ∈ reqs, y.q ≠ q → due y → s.rd r FAB_PRIO q < s.rd r FAB_PRIO y.q) ∨
       ((∀ y ∈ reqs, ¬ due y) ∧ ∀ y ∈ reqs, y.q ≠ q → s.rd r FAB_PRIO q < s.rd r FAB_PRIO y.q))) →
    Runs (.fabRequest g reqs none) s (fun t => t.rd r FAB_OWNER = q + 1 ∧ (x.xfer = [] → t = { s with params := t.params }) ∧
      (s.rd r FAB_PHASE ≠ 1 → Counted s t r FAB_CNT_GRANT q ∧ t.rd r FAB_CNT_WAIT q = min (2 ^ FAB_CNT_WAIT.width - 1) (s.rd r FAB_CNT_WAIT q + x.waited)) ∧
      (s.rd r FAB_PHASE = 1 → t.rd r FAB_CNT_GRANT q = s.rd r FAB_CNT_GRANT q) ∧
      (cls x = 1 → ∀ y ∈ reqs, cls y = 2 → t.rd r FAB_BG_WAIT y.q = min 255 (s.rd r FAB_BG_WAIT y.q + 1)) ∧
      (cls x = 2 → ∀ y ∈ reqs, t.rd r FAB_BG_WAIT y.q = 0))) ∧
  (∀ (g : Region) (x y : FabReq) (s : State), s.hasRegion g.code = true → x.q < requesters g.code → y.q < requesters g.code → x.q ≠ y.q →
    s.rd g.code FAB_CLASS x.q = 1 → s.rd g.code FAB_PRIO x.q < 16 →
    (s.rd g.code FAB_CLASS y.q = 1 → s.rd g.code FAB_PRIO y.q = s.rd g.code FAB_PRIO x.q → s.rd g.code FAB_RR (s.rd g.code FAB_PRIO x.q) = x.q + 1 →
      Runs (.fabRequest g [x, y] none) s (fun t => t.rd g.code FAB_OWNER = y.q + 1)) ∧
    (s.rd g.code FAB_PHASE ≠ 1 → Runs (.fabRequest g [x] (some x.q)) s (fun t => Writes s t [s.next g.code FAB_CNT_DEAD x.q]))) ∧
  (∀ (l : LaneId) (x : FabReq) (line : Nat) (s : State), s.hasRegion l.reg = true → x.q < requesters l.reg → s.rd l.reg FAB_PRIO x.q < 16 →
    (x.xfer = [.read line] → Runs (.fabRequest l.region [x] none) s (fun t => t.lane l = s.lane l ∧
      t.sent = s.sent ++ [.lineData l x.q line (s.readLine l line)])) ∧
    (∀ data : List Byte, data.length = 32 → x.xfer = [.write line 0 data] → Runs (.fabRequest l.region [x] none) s (fun t => t.sent = s.sent ∧
      t.readLine l line = some data ∧ t.lineCheck l line = lineCrc line data ∧ line ∉ (t.lane l).poisoned ∧
      t.rd l.reg MEM_POISONED = min 65535 (t.lane l).poisoned.length ∧ ∀ k, k ≠ line → (k ∈ (t.lane l).poisoned ↔ k ∈ (s.lane l).poisoned))) ∧
    (∀ (off : Nat) (data : List Byte), x.xfer = [.write line off data] → data.length < 32 → off + data.length ≤ 32 →
      (∀ old, s.readLine l line = some old → old.length = 32 → Runs (.fabRequest l.region [x] none) s (fun t => t.sent = s.sent ∧
        t.readLine l line = some (old.take off ++ data ++ old.drop (off + data.length)))) ∧
      (s.readLine l line = none → Runs (.fabRequest l.region [x] none) s (fun t => t.lane l = s.lane l ∧
        t.sent = s.sent ++ [.lineData l x.q line none]))) ∧
    (line ∈ (s.lane l).poisoned ∨ s.lineCheck l line ≠ crc16 (toLe 4 line ++ s.lineBytes l line) → s.readLine l line = none)) ∧
  (∀ (g : Region) (s : State), s.hasRegion g.code = true →
    Runs (.fabCntClear g false) s (fun t => t = s) ∧ Runs (.fabCntClear g true) s (fun t => t.rd g.code FAB_CNT_BG_FORCED = 0 ∧
      (∀ q, q < 16 → ∀ d ∈ [FAB_CNT_GRANT, FAB_CNT_WAIT, FAB_MAX_WAIT, FAB_CNT_DEAD], t.rd g.code d q = 0) ∧
      SameBut s t (FAB_CNT_BG_FORCED.key g.code 0 :: (List.range 16).flatMap (fun q =>
        [FAB_CNT_GRANT, FAB_CNT_WAIT, FAB_MAX_WAIT, FAB_CNT_DEAD].map (fun d => d.key g.code q))))) ∧
  (∀ (d : Shared) (u tag epoch : Nat) (l : LaneId) (s : State), s.on d.reg = true → u < locksOf d →
    let r := d.reg
    let st := s.rd r FAB_LOCK_STATE u
    let owner := s.rd r FAB_LOCK_OWNER u
    let said (a : Rsp) : List Sent := [.relayReply d l tag { flags := 1, opcode := 0x0102, seq := 0, status := a.status, region := l.reg, mask := 0, data := a.data }]
    let fence := if d = .m then [(NVS_FENCE.key 7 0, max epoch (s.rd 7 NVS_FENCE))] else []
    let took (st : Nat) := [(FAB_LOCK_STATE.key r u, st), (FAB_LOCK_OWNER.key r u, l.reg), (FAB_LOCK_EPOCH.key r u, s.rd r FAB_PEER_EPOCH l.reg),
      (FAB_LOCK_HOLD.key r u, 1)]
    (d = .m → epoch < s.rd 7 NVS_FENCE → ∀ c ∈ [Instr.lockHoldWrite d u true l tag epoch, .lockHoldWrite d u false l tag epoch,
      .lockRollbackWrite d u l tag epoch], Runs c s (fun t => Writes s t [] (said (rNotHolder 0)))) ∧
    (d = .s ∨ s.rd 7 NVS_FENCE ≤ epoch →
      (st = 0 → Runs (.lockHoldWrite d u true l tag epoch) s (fun t => Writes s t (fence ++ took 1) (said rOk))) ∧
      (st = 2 → Runs (.lockHoldWrite d u true l tag epoch) s (fun t => Writes s t (fence ++ took 3 ++ [s.next r FAB_CNT_LOCK_RECOVER])
        (said (rRecovered owner (s.rd r FAB_LOCK_EPOCH u))))) ∧
      (st = 1 ∨ st = 3 → owner ≠ l.reg → ∀ c ∈ [Instr.lockHoldWrite d u true l tag epoch, .lockHoldWrite d u false l tag epoch,
        .lockRollbackWrite d u l tag epoch], Runs c s (fun t => Writes s t (fence ++ [s.next r FAB_CNT_LOCKED]) (said (rLocked owner)))) ∧
      (st = 1 → owner = l.reg → s.openOn r u l.reg = false → Runs (.lockHoldWrite d u false l tag epoch) s (fun t =>
        Sets s t (fence ++ [(FAB_LOCK_HOLD.key r u, 0), (FAB_LOCK_STATE.key r u, 0), (FAB_LOCK_OWNER.key r u, 0), (FAB_LOCK_EPOCH.key r u, 0),
          (FAB_LOCK_JOURNAL.key r u, 0)]) ∧ t.sent = s.sent ++ said rOk ∧
        t.journal = s.journal.filter (fun e => !(e.region == r && e.u == u)))) ∧
      (st = 3 → owner = l.reg → Runs (.lockRollbackWrite d u l tag epoch) s (fun t => t.sent = s.sent ++ said rOk ∧
        t.rd r FAB_LOCK_STATE u = 1 ∧ t.rd r FAB_LOCK_JOURNAL u = 0 ∧ t.journal = s.journal.filter (fun e => !(e.region == r && e.u == u)) ∧
        ∀ k, k ≠ FAB_LOCK_STATE.key r u → k ≠ FAB_LOCK_JOURNAL.key r u → k ≠ NVS_FENCE.key 7 0 →
          t.params.get k = match s.journal.find? (fun e => e.region == r && e.u == u && e.key == k) with
            | some e => e.val % 2 ^ widthOf k
            | none => s.params.get k)))) ∧
  (∀ (d : Shared) (u epoch : Nat) (l : LaneId) (s : State), s.on d.reg = true → u < locksOf d →
    (s.rd d.reg FAB_LOCK_STATE u = 1 → Runs (.lockIdleTimeout d u) s (fun t => Sets s t [(FAB_LOCK_STATE.key d.reg u, 2)] ∧ t.sent = s.sent ∧
      t.journal = s.journal ∧ ∀ x : LaneId, x.reg = s.rd d.reg FAB_LOCK_OWNER u → ∀ c ∈ (t.lane x).wbe.consists, c.on d.reg u = false)) ∧
    (s.rd d.reg FAB_LOCK_STATE u ≠ 1 → Runs (.lockIdleTimeout d u) s (fun t => t = s)) ∧
    Runs (.epochStatusReceive d l epoch) s (fun t => t.rd d.reg FAB_PEER_EPOCH l.reg = epoch % 2 ^ 32 ∧ t.rd d.reg FAB_LOCK_STATE u =
      if s.rd d.reg FAB_LOCK_STATE u = 1 ∧ s.rd d.reg FAB_LOCK_OWNER u = l.reg ∧ s.rd d.reg FAB_LOCK_EPOCH u < epoch then 2
      else s.rd d.reg FAB_LOCK_STATE u) ∧
    (d = .m → Runs (.epochStatusReceive d l epoch) s (fun t => t.sent = s.sent ++ [.heartbeat l (s.rd 7 SMC_LIFECYCLE)])) ∧
    (d = .s → Runs (.epochStatusReceive d l epoch) s (fun t => t.sent = s.sent))) ∧
  (∀ (l : LaneId) (line : Nat) (area : LineArea) (s : State), s.up l = true → line < 2 ^ 27 →
    let record (cls : Nat) (peer : Bool) (t : State) : Prop := t.rd l.reg MEM_LAST_ERR = withCycle (line + cls * 2 ^ 27 + b2n peer * 2 ^ 29) (s.cycle l)
    let reads (p : Bool) (c : Instr) : Prop := c = .lineReadError l.region line area p ∨
      c = .scrubRead l.region line area (if p then .persistent else .transient) none
    (NoReset s l.reg 4 → ∀ c, reads false c → Runs c s (fun t => Counted s t l.reg MEM_CNT_REREAD ∧ record 1 false t)) ∧
    (area = .mirrored → s.rd l.reg MEM_REP_LINE ≠ line + 1 → ∀ p rest, (s.wr l.reg MEM_REP_ASKED 0 0).repairPeers l = p :: rest → ∀ c, reads true c →
      Runs c s (fun t => Writes s t [(MEM_REP_ASKED.key l.reg 0, 2 ^ p.idx), (MEM_REP_LINE.key l.reg 0, line + 1)]
        [.repairRequest l p line (s.rd l.reg CEN_GRP)])) ∧
    (area = .owned → line ∉ (s.lane l).poisoned → NoReset s l.reg 5 → ∀ c, reads true c → Runs c s (fun t =>
      (t.lane l).poisoned = (s.lane l).poisoned ++ [line] ∧ Counted s t l.reg MEM_CNT_CONTAINED ∧ record 2 false t ∧
      (Judged s l.reg 5 → bit (t.rd l.reg FCL_ERR_STATUS) 5 = true))) ∧
    (area = .other → NoReset s l.reg 6 → ∀ c, reads true c → Runs c s (fun t => record 3 false t ∧
      (Judged s l.reg 6 → bit (t.rd l.reg FCL_ERR_STATUS) 6 = true))) ∧
    (area = .other → TakesOut s l 6 → ∀ c, reads true c → Runs c s (fun t => t.vstate l = 3 ∧ bit (t.rd l.reg FCL_ERR_STATUS) 6 = true)) ∧
    (s.rd l.reg MEM_REP_LINE = line + 1 → NoReset s l.reg 4 → NoReset s l.reg 6 → ∀ data : List Byte,
      (∀ ok, ok = true ∨ s.rd l.reg MEM_SPARE_USED < 128 → Runs (.lineRepairReply l line (some data) ok) s (fun t => Counted s t l.reg MEM_CNT_REPAIR ∧
        record 1 true t ∧ t.rd l.reg MEM_REP_LINE = 0 ∧ (data.length = 32 → t.readLine l line = some data) ∧ (ok = false → t.rd l.reg MEM_SPARE_USED = s.rd l.reg MEM_SPARE_USED + 1 ∧
          Counted s t l.reg MEM_CNT_REMAP))) ∧
      (128 ≤ s.rd l.reg MEM_SPARE_USED → Runs (.lineRepairReply l line (some data) false) s (fun t => Counted s t l.reg MEM_CNT_REPAIR_FAIL ∧
        record 3 false t)) ∧
      (s.repairPeers l = [] → Runs (.lineRepairReply l line none true) s (fun t => Counted s t l.reg MEM_CNT_REPAIR_FAIL ∧
        t.rd l.reg MEM_REP_LINE = 0 ∧ (Judged s l.reg 6 → bit (t.rd l.reg FCL_ERR_STATUS) 6 = true)))) ∧
    (s.rd l.reg MEM_REP_LINE ≠ line + 1 → ∀ data ok, Runs (.lineRepairReply l line data ok) s (fun t => t = s)) ∧
    (∀ ms, ∀ e ∈ [ScrubError.clean, .written], Runs (.scrubRead l.region line area e (some ms)) s (fun t =>
      Writes s t [(MEM_SCRUB_LAST.key l.reg 0, min 65535 ms)])) ∧
    (∀ (x : LaneId) (period : Nat) (ok : Bool), x ≠ l → s.voting l l = true →
      let answers (data : Option (List Byte)) : Prop := Runs (.repairRequestReceive l x line period ok) s (fun t =>
        Writes s t [] [.repairAnswer l x line data])
      (ok = false → answers none) ∧ (s.tblLine l line = none → answers (if ok then s.readLine l line else none)) ∧
      ∀ first, s.tblLine l line = some first → ok = true →
        (s.rd l.reg CEN_GRP < period → Runs (.repairRequestReceive l x line period ok) s (fun t => t = s.modLane l (fun y =>
          { y with repairs := y.repairs ++ [(x, line, period)] }))) ∧
        (period ≤ s.rd l.reg CEN_GRP → line ∈ (s.lane l).poisoned → answers none) ∧
        (period ≤ s.rd l.reg CEN_GRP → line ∉ (s.lane l).poisoned →
          (period = s.rd l.reg CEN_GRP → answers (some (s.tblBytes l first))) ∧
          (s.rd l.reg CEN_GRP_PREV ≤ period → period < s.rd l.reg CEN_GRP → answers (some (s.tblBefore l first))) ∧
          (period < s.rd l.reg CEN_GRP_PREV → period < s.rd l.reg CEN_GRP → answers none)))) ∧
  (∀ (line : Nat) (area : LineArea) (s : State), s.on 7 = true → NoReset s 7 2 → NoReset s 7 3 →
    Runs (.lineReadError .m line area false) s (fun t => Counted s t 7 NVS_CNT_CORRECTED) ∧
    Runs (.lineReadError .m line area true) s (fun t => Counted s t 7 NVS_CNT_PERSIST ∧
      (line * 32 < 0x3400000 ∨ 0x3800000 ≤ line * 32 → Judged s 7 3 → bit (t.rd 7 FCL_ERR_STATUS) 3 = true))) ∧
  (∀ (l : LaneId) (block master : Nat) (s : State), s.up l = true → NoReset s l.reg 7 →
    (s.gated l.reg block = true → Runs (.gateForceClose l block master) s (fun t => OnlyFaults (s.bump l.reg FAB_CNT_GATE_FORCE) t ∧
      Counted s t l.reg FAB_CNT_GATE_FORCE ∧ (Judged s l.reg 7 → bit (t.rd l.reg FCL_ERR_STATUS) 7 = true))) ∧
    (s.gated l.reg block = false → Runs (.gateForceClose l block master) s (fun t => t = s))) ∧
  (∀ (g : Region) (block master : Nat) (s : State), s.hasRegion g.code = true →
    (s.gated g.code block = true → Runs (.gatedTouch g block master) s (fun t => Writes s t [s.next g.code FAB_GATED_TOUCH,
      (FAB_LAST_TOUCH.key g.code 0, block % 256 + master % 16 * 256)])) ∧
    (s.gated g.code block = false → Runs (.gatedTouch g block master) s (fun t => t = s)))

/-! ### The fault collectors -/

/-- The fault collectors (R409, R472 to R487). An error wire puts its source into fault state: counted, timed, the first recorded,
sent to M, the fault task told, latched once its recoveries reach the limit; within the fault state it restarts the quiet period only;
a count-only source and a masked one are counted only, one in phase TEST is a test event. BLOCK_RESET masks the owner and puts RUN
into RECOVERY; REGION_RESET of a lane makes it leave. The quiet period's end is a recovery; ready ends RECOVERY with no
other block in reset; a reset not completed is recorded and asserts its source. The fault output follows its cause once its hold is
over. A 1 to a latch or a fault state ends it while the wire is inactive; trouble counters clear in SERVICE only.
Each of these answers a next state with its own effect, on the conditions its clauses put on the state and the operands alone:
FCL_SOURCE_ASSERT, FCL_QUIET_END, BLOCK_READY, BLOCK_RESET_TIMEOUT, FAULT_PIN_HOLD_END, FCL_LATCH_CLEAR, FCL_ERR_STATUS_CLEAR,
TROUBLE_CLEAR. -/
def Obligations.FaultCollectors : Prop :=
  (∀ (g : Region) (src t0 : Nat) (held : Bool) (s : State), s.rdB g.code INT_POWERED = true → src < 64 → (∀ l : LaneId, g.code = l.reg → src ≠ 43) →
    let r := g.code
    let fresh := bit (s.rd r FCL_ERR_STATUS) src = false
    let run (P : State → Prop) := Runs (.fclSourceAssert g src held t0) s P
    (Judged s r src → countOnly (classOf r src) = false →
      (NoReset s r src → run (fun t => OnlyFaults (s.atTime t0) t ∧ bit (t.rd r FCL_ERR_STATUS) src = true ∧ bit (t.rd r FCL_RAW) src = held ∧
        t.rd r FCL_QUIET_AT src = max s.now t0 % 2 ^ 64 ∧ t.rd r FCL_LAST src / 2 ^ 32 = s.cycleOf r % 2 ^ 32 ∧
        (fresh → Counted s t r FCL_TROUBLE src ∧ (bit (t.rd r FCL_LATCHED) src = (bit (s.rd r FCL_LATCHED) src ||
            decide (0 < s.rd r FCL_REC_LIMIT src ∧ s.rd r FCL_REC_LIMIT src ≤ s.rd r FCL_REC_COUNT src))) ∧
          (bit (s.rd r FCL_FIRST) 6 = false → t.rd r FCL_FIRST = withCycle (src + 64) (s.cycleOf r)) ∧
          (∀ l, laneOfReg r = some l → s.rdB l.reg INT_M_LOST = false → Sent.telemetry r src 1 ∈ t.sent) ∧
          (∀ l, laneOfReg r = some l → s.vstate l < 3 → (s.rd r FCL_REACT src).testBit 0 = true → t.rd l.reg FCL_IRQ = src + 1 ∧
            Sent.core l false r src ∈ t.sent)) ∧
        (¬ fresh → t.rd r FCL_TROUBLE src = s.rd r FCL_TROUBLE src ∧ t.rd r FCL_LATCHED = s.rd r FCL_LATCHED))) ∧
      (fresh → (s.rd r FCL_REACT src).testBit 2 = true → (s.rd r FCL_REACT src).testBit 3 = false → s.quietLane r = false →
        ownerOf r src ≠ 7 → run (fun t => t.rd r FCL_MASKED (ownerOf r src) = 1 ∧
          t.rd r FAB_PHASE = if s.rd r FAB_PHASE = 1 then 3 else s.rd r FAB_PHASE)) ∧
      (∀ l : LaneId, r = l.reg → fresh → (s.rd r FCL_REACT src).testBit 3 = true → s.vstate l < 3 → run (fun t => t.vstate l = 3 ∧
        t.rd r FCL_LAST_RESET = withCycle src (s.cycle l)))) ∧
    (Judged s r src → countOnly (classOf r src) = true → run (fun t => Counted s t r FCL_TROUBLE src ∧
      t.rd r FCL_ERR_STATUS = s.rd r FCL_ERR_STATUS ∧ t.rd r FCL_LATCHED = s.rd r FCL_LATCHED ∧ OnlyFaults (s.atTime t0) t)) ∧
    (s.hasRegion r = true → sourceListed r src = true → s.rd r FCL_MASKED (ownerOf r src) ≠ 0 → run (fun t => Counted s t r FCL_TROUBLE src ∧
      t.rd r FCL_ERR_STATUS = s.rd r FCL_ERR_STATUS)) ∧
    (s.hasRegion r = true → sourceListed r src = true → s.rd r FCL_MASKED (ownerOf r src) = 0 → s.rd r FAB_PHASE = 2 → run (fun t =>
      Counted s t r FCL_TEST_EVENTS ∧ t.rd r FCL_TROUBLE src = s.rd r FCL_TROUBLE src ∧ t.rd r FCL_ERR_STATUS = s.rd r FCL_ERR_STATUS)) ∧
    (sourceListed r src = false → Runs (.fclSourceAssert g src true t0) s (fun t => t = s.atTime t0))) ∧
  (∀ (l : LaneId) (t0 : Nat) (s : State), s.powered l.reg = true → NoReset s l.reg 43 → Runs (.fclSourceAssert l.region 43 true t0) s (fun t =>
    t.rd l.reg LKG_STATE = 5 ∧ t.twlState l = 5 ∧ t.rd l.reg LKG_OPEN = 0 ∧ (Judged s l.reg 43 → bit (t.rd l.reg FCL_ERR_STATUS) 43 = true))) ∧
  (∀ (g : Region) (src t0 : Nat) (s : State), s.powered g.code = true → src < 64 →
    let r := g.code
    let ends : Prop := bit (s.rd r FCL_ERR_STATUS) src = true ∧ bit (s.rd r FCL_LATCHED) src = false ∧ bit (s.rd r FCL_RAW) src = false
    (ends → Runs (.fclQuietEnd g src t0) s (fun t => bit (t.rd r FCL_ERR_STATUS) src = false ∧ t.rd r FCL_REC_COUNT src = min 255
      (((s.recTimes r src).filter (fun a => decide (a + s.rd r FCL_REC_WIN src * 10 ^ 9 > max s.now t0))).length + 1) ∧
      (∀ i, i < 64 → i ≠ src → bit (t.rd r FCL_ERR_STATUS) i = bit (s.rd r FCL_ERR_STATUS) i) ∧ t.sent = s.sent)) ∧
    (¬ ends → Runs (.fclQuietEnd g src t0) s (fun t => t = s.atTime t0))) ∧
  (∀ (g : Region) (block : Nat) (s : State), s.on g.code = true → block < 128 →
    let r := g.code
    (s.rd r FCL_MASKED block ≠ 0 → Runs (.blockReady g block) s (fun t => t.rd r FCL_MASKED block = 0 ∧
      SameBut s t [FCL_MASKED.key r block, FAB_PHASE.key r 0] ∧ (s.rd r FAB_PHASE ≠ 3 → t.rd r FAB_PHASE = s.rd r FAB_PHASE) ∧
      (s.rd r FAB_PHASE = 3 → (∀ b, b < 128 → b ≠ block → s.rd r FCL_MASKED b = 0) → (∀ l : LaneId, r = l.reg → s.vstate l = 2) →
        t.rd r FAB_PHASE = 1) ∧
      ((∃ b, b < 128 ∧ b ≠ block ∧ s.rd r FCL_MASKED b ≠ 0) → t.rd r FAB_PHASE = s.rd r FAB_PHASE))) ∧
    (s.rd r FCL_MASKED block = 0 → Runs (.blockReady g block) s (fun t => t = s) ∧ Runs (.blockResetTimeout g block) s (fun t => t = s)) ∧
    (∀ l : LaneId, r = l.reg → s.rd r FCL_MASKED block ≠ 0 → Runs (.blockResetTimeout g block) s (fun t => bit (t.rd r FCL_LAST_RESET) 6 = true ∧
      (Judged s r 9 → bit (s.rd r FCL_ERR_STATUS) 9 = false → (s.rd r FCL_REACT 9).testBit 3 = true → s.vstate l < 3 →
        bit (t.rd r FCL_ERR_STATUS) 9 = true ∧ t.vstate l = 3)))) ∧
  (∀ (g : Region) (s : State), s.hasRegion g.code = true → g ≠ .m →
    let p := pinReg g.code
    let cause := s.pinCause p || (decide (p ≤ 3) && s.pinCause (p + 3))
    Runs (.faultPinHoldEnd g) s (fun t => SameBut s t [FCL_PIN.key p 0, FCL_PIN_HELD.key p 0] ∧ (cause = true → t.rd p FCL_PIN = 1) ∧
      (cause = false → t.rd p FCL_PIN = 0 ∧ t.rd p FCL_PIN_HELD = 0))) ∧
  (∀ (l : LaneId) (h : Hdr) (ones : Nat) (s : State), Performs s l h 0x0102 →
    let r := h.region
    let reached : Prop := r = l.reg ∨ r = l.pow ∨ (r = 7 ∧ s.reaches l .m = true) ∨ (r = 8 ∧ s.reaches l .s = true)
    let quiet : Prop := ∀ i, i < 64 → bit ones i = true → bit (s.rd r FCL_RAW) i = false
    (reached → quiet → Runs (.fclLatchClear l h ones) s (fun t => ∃ u, Performed l h 0x0102 rOk u t ∧ u.sent = s.sent ∧ ∀ i, i < 64 →
      bit (u.rd r FCL_LATCHED) i = (bit (s.rd r FCL_LATCHED) i && !bit ones i) ∧
      bit (u.rd r FCL_ERR_STATUS) i = (bit (s.rd r FCL_ERR_STATUS) i && !(bit ones i && bit (s.rd r FCL_LATCHED) i)) ∧
      (bit ones i = true → bit (s.rd r FCL_LATCHED) i = true → u.rd r FCL_REC_COUNT i = 0))) ∧
    (reached → quiet → Runs (.fclErrStatusClear l h ones) s (fun t => ∃ u, Performed l h 0x0102 rOk u t ∧ u.sent = s.sent ∧
      u.rd r FCL_LATCHED = s.rd r FCL_LATCHED ∧ ∀ i, i < 64 →
        bit (u.rd r FCL_ERR_STATUS) i = (bit (s.rd r FCL_ERR_STATUS) i && !(bit ones i && !bit (s.rd r FCL_LATCHED) i)))) ∧
    (reached → ¬ quiet → Runs (.fclLatchClear l h ones) s (Denied l h 0x0102 (rRange (FCL_LATCHED.id r 0) 0) s) ∧
      Runs (.fclErrStatusClear l h ones) s (Denied l h 0x0102 (rRange (FCL_ERR_STATUS.id r 0) 0) s)) ∧
    (reached → s.rd l.reg INT_LIFECYCLE = 3 → Runs (.troubleClear l h true) s (fun t => ∃ u, Performed l h 0x0102 rOk u t ∧
      (∀ i, i < 64 → u.rd r FCL_TROUBLE i = 0) ∧ (r = l.reg → u.rd r LSC_CNT_MISMATCH = 0) ∧
      SameBut s u (LSC_CNT_MISMATCH.key r 0 :: (List.range 64).map (fun i => FCL_TROUBLE.key r i)))) ∧
    (reached → s.rd l.reg INT_LIFECYCLE ≠ 3 → Runs (.troubleClear l h true) s (Denied l h 0x0102 (rDenied (s.rd l.reg INT_LIFECYCLE)) s)) ∧
    (reached → Runs (.troubleClear l h false) s (Performed l h 0x0102 rOk s)) ∧
    (¬ reached → ∀ c ∈ [Instr.fclLatchClear l h ones, .fclErrStatusClear l h ones, .troubleClear l h true],
      Runs c s (Denied l h 0x0102 (rRange 0 8) s)))

/-! ### Self-test and the test port -/

/-- Self-test (R143 to R145, R224, R225, R490 to R504). A rolling self-test takes its lane out of service: the staff released, every bridge FREE, counted;
it is refused unless voted and every lane in service. A converter test begins, keeps the result of each bridge and ends with the
last; a comparator test runs bridge by bridge over their load points, high sides and HS-A in the odd periods, low sides and HS-B in the even
ones (log 70), keeps its results, latches a bridge that failed and after 8 periods, with double update after the peak of the last, leaves the rest NOT_TESTED. An injected wire is held with its full handling
and released at its end. LBIST is judged, then MBIST: spares taken, the record written, then the injection test and the restart or the start, power off, or a stopped start
with source 8; a failed injection test records its kind and first group and the pair stays off. The test port selects what the lifecycle permits, BYPASS else; EXTEST drives every output low; a scan clears keys first
and holds its region in reset, until another instruction is selected.
Each of these answers a next state with its own effect, on the conditions its clauses put on the state and the operands alone: PWM_VALLEY,
SELFTEST_RUN_ROLLING, SELFTEST_RUN_CONVERTER, COMPARATOR_TEST, INJECT, INJECT_END, LBIST_COMPLETE, MBIST_COMPLETE, JTAG_BYPASS,
JTAG_IDCODE, JTAG_SAMPLE_PRELOAD, JTAG_EXTEST, JTAG_INTERNAL_SCAN, CONVERTER_TEST_COMPLETE. -/
def Obligations.SelfTest : Prop :=
  (∀ (l : LaneId) (h : Hdr) (lane : Nat) (s : State), Performs s l h 0x0601 →
    (s.chkRolling l h lane = none → Runs (.selftestRunRolling l h lane) s (fun t => ∃ u, Performed l h 0x0601 rOk u t ∧ (lane ≠ l.reg → u = s) ∧
      (lane = l.reg → u.vstate l = 3 ∧ u.rd l.reg BST_STATE = 1 ∧ Counted s u l.reg BST_CNT_ROLLING ∧ u.rd l.reg STF_COUNT_ON = 0 ∧
        (s.rd l.reg STF_HOLDER = l.reg → u.rd l.reg STF_HOLDER = 0) ∧ SameOtherLanes s u l ∧ ∀ b, b < 6 → u.rd l.reg CMT_STATE b =
          if s.rd l.reg CMT_STATE b = 1 ∨ s.rd l.reg CMT_STATE b = 2 ∨ s.rd l.reg CMT_STATE b = 4 then 3 else s.rd l.reg CMT_STATE b))) ∧
    (h.voted = false → Runs (.selftestRunRolling l h lane) s (Denied l h 0x0601 (rRange 0 1) s)) ∧
    (h.voted = true → s.hasRegion lane = true → lane ≤ 3 → s.rollReady l = false →
      Runs (.selftestRunRolling l h lane) s (Denied l h 0x0601 (rRange (BST_STATE.id l.reg 0) 0) s)) ∧
    (∀ mask, h.voted = false → (∀ b ∈ bridgesOf mask, s.bridgeUsed l b = true) → Runs (.selftestRunConverter l h mask) s (fun t => ∃ u,
      Performed l h 0x0601 rOk u t ∧ (mask % 64 = 0 → u = s) ∧ (mask % 64 ≠ 0 → Writes s u ([(BST_STATE.key l.reg 0, 3),
        (BST_MASK.key l.reg 0, mask % 64)] ++ (bridgesOf mask).map (fun b => (BST_CONV_RESULT.key l.reg b, 0)))))) ∧
    (∀ mask, h.voted = false → (∃ b ∈ bridgesOf mask, s.bridgeUsed l b = false) →
      Runs (.selftestRunConverter l h mask) s (Denied l h 0x0601 (rRange 0 16) s))) ∧
  (∀ (l : LaneId) (b results : Nat) (s : State), s.up l = true → b < 6 →
    (s.rd l.reg BST_STATE = 3 → bit (s.rd l.reg BST_MASK) b = true → Runs (.converterTestComplete l b results) s (fun t =>
      t.rd l.reg BST_CONV_RESULT b = results % 2 ^ 14 ∧ bit (t.rd l.reg BST_MASK) b = false ∧
      (∀ k, k < 7 → results / 4 ^ k % 4 = 2 → t.rd l.pow BST_ADC_BAD (7 * b + k) = 1) ∧ (s.rd l.reg BST_MASK = 2 ^ b → t.rd l.reg BST_STATE = 0) ∧
      ((∃ c, c < 6 ∧ c ≠ b ∧ bit (s.rd l.reg BST_MASK) c = true) → t.rd l.reg BST_STATE = 3) ∧ t = { s with params := t.params } ∧
      SamePlaces s t ([BST_CONV_RESULT.key l.reg b, BST_MASK.key l.reg 0, BST_STATE.key l.reg 0] ++
        (List.range 7).map (fun k => BST_ADC_BAD.key l.pow (7 * b + k))))) ∧
    (s.rd l.reg BST_STATE ≠ 3 ∨ bit (s.rd l.reg BST_MASK) b = false → Runs (.converterTestComplete l b results) s (fun t => t = s))) ∧
  (∀ (l : LaneId) (h : Hdr) (mask : Nat) (fails : List (Nat × Nat)) (s : State), Performs s l h 0x0602 → h.voted = false →
    (∀ b ∈ bridgesOf mask, s.bridgeUsed l b = true) →
    Runs (.comparatorTest l h mask fails) s (fun t => ∃ u, Performed l h 0x0602 rOk u t ∧ (mask % 64 = 0 → u = s) ∧ (mask % 64 ≠ 0 →
      u = { s with params := u.params }.setLane l { s.lane l with cmpFails := fails } ∧
      Sets s u ([(BST_STATE.key l.reg 0, 2), (BST_MASK.key l.reg 0, mask % 64)] ++
        (bridgesOf mask).flatMap (fun b => [(GDR_CMP_RESULT.key l.pow b, 0), (GDR_CMP_N.key l.pow b, 0)]))))) ∧
  (∀ (l : LaneId) (x : BridgeSample) (t0 : Nat) (s : State), s.up l = true → s.on l.pow = true → x.b < 6 →
    (∀ ch, ch < 8 → s.fmode l ch = 0) → s.baseRatio l x.b = 1 → s.rd l.reg CMT_STATE x.b = 0 → s.rd l.pow GDR_GATES x.b = 0 →
    s.rd l.reg BST_STATE = 2 → bit (s.rd l.reg BST_MASK) x.b = true → (∀ c, c < x.b → bit (s.rd l.reg BST_MASK) c = false) →
    s.rd l.pow GDR_CMP_RESULT x.b = 0 → NoReset s l.pow 3 → NoReset s l.pow 4 →
    let fails (i : Nat) : Prop := ∃ f ∈ (s.lane l).cmpFails, f.1 = x.b ∧ f.2.testBit i = true
    (s.rd l.pow GDR_CMP_N x.b = 0 → Runs (.pwmValley l false [x] [] t0) s (fun t => t.rd l.pow GDR_CMP_N x.b = 1 ∧ t.rd l.reg BST_STATE = 2 ∧
      (∀ i, i < 12 → i ∉ [0, 2, 4, 6, 7, 8] → t.rd l.pow GDR_CMP_RESULT x.b / 4 ^ i % 4 = 0) ∧
      (∀ i ∈ [0, 2, 4, 6, 7, 8], (fails i → t.rd l.pow GDR_CMP_RESULT x.b / 4 ^ i % 4 = 2 ∧ t.latchedB l x.b = true ∧
          (Judged s l.pow 4 → bit (t.rd l.pow FCL_ERR_STATUS) 4 = true)) ∧
        (¬ fails i → t.rd l.pow GDR_CMP_RESULT x.b / 4 ^ i % 4 = 1)) ∧
      ((∀ i ∈ [0, 2, 4, 6, 7, 8], ¬ fails i) → t.rd l.pow GDR_LATCHED x.b = s.rd l.pow GDR_LATCHED x.b))) ∧
    (s.rd l.pow GDR_CMP_N x.b = 7 → s.rdB l.reg CMT_UPDATE x.b = true → Runs (.pwmValley l false [x] [] t0) s (fun t => t.rd l.pow GDR_CMP_N x.b = 8 ∧
      t.rd l.reg BST_STATE = 2 ∧ bit (t.rd l.reg BST_MASK) x.b = true)) ∧
    (s.rd l.pow GDR_CMP_N x.b = 7 → s.rdB l.reg CMT_UPDATE x.b = false → (∀ i, ¬ fails i) → Runs (.pwmValley l false [x] [] t0) s (fun t =>
      (∀ i, i < 12 → t.rd l.pow GDR_CMP_RESULT x.b / 4 ^ i % 4 = if i ∈ [1, 3, 5, 9, 10, 11] then 1 else 3) ∧
      bit (t.rd l.reg BST_MASK) x.b = false ∧ (s.rd l.reg BST_MASK = 2 ^ x.b → t.rd l.reg BST_STATE = 0)))) ∧
  (∀ (l : LaneId) (h : Hdr) (region src durMs : Nat) (s : State), Performs s l h 0x0603 →
    (s.chkInject l region src durMs = none → NoReset s region src → Runs (.inject l h region src durMs) s (fun t => ∃ u,
      Performed l h 0x0603 rOk u t ∧ Counted s u l.reg BST_CNT_INJECT ∧ u.rd region FCL_INJECTED src = 1 ∧
      (Judged s region src → countOnly (classOf region src) = false → bit (u.rd region FCL_ERR_STATUS) src = true ∧
        bit (u.rd region FCL_RAW) src = true))) ∧
    (s.rd l.reg INT_LIFECYCLE ≠ 3 → Runs (.inject l h region src durMs) s (Denied l h 0x0603 (rDenied (s.rd l.reg INT_LIFECYCLE)) s)) ∧
    (s.rd l.reg INT_LIFECYCLE = 3 → s.allEngaged l = false →
      Runs (.inject l h region src durMs) s (Denied l h 0x0603 (rRange (ATH_LATCH_STATE.id 8 0) 0) s))) ∧
  (∀ (g : Region) (src : Nat) (s : State), src < 64 →
    (s.rdB g.code FCL_INJECTED src = true → Runs (.injectEnd g src) s (fun t => t.rd g.code FCL_INJECTED src = 0 ∧
      bit (t.rd g.code FCL_RAW) src = false ∧ SameBut s t [FCL_INJECTED.key g.code src, FCL_RAW.key g.code 0, FCL_QUIET_AT.key g.code src])) ∧
    (s.rdB g.code FCL_INJECTED src = false → Runs (.injectEnd g src) s (fun t => t = s))) ∧
  (∀ (l : LaneId) (pass : Bool) (dur : Nat) (s : State),
    (s.inBist l = true → s.rdB l.reg BST_LB_DONE = false → Runs (.lbistComplete l pass dur) s (fun t => Writes s t ([(BST_LB_DONE.key l.reg 0, 1),
      (BST_LB_PASS.key l.reg 0, b2n pass), (BST_LB_DUR.key l.reg 0, min 65535 dur)] ++ if pass then [] else [s.next l.reg BST_CNT_FAIL]))) ∧
    (s.inBist l = false → Runs (.lbistComplete l pass dur) s (fun t => t = s))) ∧
  (∀ inj : InjRun, (∀ g, inj.clean = some g → injFailure inj = some (3, g)) ∧
    (inj.clean = none → (∀ g ∈ inj.missed ++ inj.wrong, 512 ≤ g) → injFailure inj = if inj.wire then none else some (3, 1023)) ∧
    (∀ g, inj.clean = none → g ∈ inj.missed ++ inj.wrong → g < 512 → (∀ x ∈ inj.missed ++ inj.wrong, g ≤ x) →
      injFailure inj = some (if g ∈ inj.missed then 2 else 3, g))) ∧
  (∀ (l : LaneId) (failing : List Nat) (inj : InjRun) (dur : Nat) (s : State), s.inBist l = true → s.rdB l.reg BST_LB_DONE = true →
    s.rd l.reg INT_BOOT ≠ 3 → s.rd l.reg MEM_SPARE_USED ≤ 128 →
    let free := 128 - s.rd l.reg MEM_SPARE_USED
    let pass : Prop := s.rdB l.reg BST_LB_PASS = true ∧ failing.length ≤ free
    let body := (s.takeSpares l failing.length).recordBody l (bistOrigin (s.rd l.reg BST_STATE)) (s.rdB l.reg BST_LB_PASS) failing[free]?.isNone dur
      failing[free]?
    Runs (.mbistComplete l failing inj dur) s (fun t => t.rd l.reg MEM_SPARE_USED = s.rd l.reg MEM_SPARE_USED + min failing.length free ∧
      t.rd l.reg BST_REC_ON = 1 ∧ body.length = 28 ∧ t.rd l.reg BST_REC = ofLe (body ++ toLe 4 (crc32c body)) ∧
      (s.rd l.reg BST_STATE = 4 → t.rd l.reg FAB_PHASE = 0 ∧ t.rd l.pow FAB_PHASE = 0 ∧ t.rd l.reg BST_STATE = 0 ∧ t.rd l.reg INT_BOOT = 0) ∧
      (s.rd l.reg BST_STATE ≠ 4 → pass → t.rd l.reg LSC_INJ_DURATION = 23040) ∧
      (s.rd l.reg BST_STATE ≠ 4 → pass → injFailure inj = none → t.rd l.reg INT_BOOT = 3 ∧ t.rd l.reg FAB_PHASE = 2 ∧
        t.rd l.reg LSC_INJ_RESULT = 1 ∧ t.rd l.reg LSC_STATE = 2 ∧ (s.rd l.reg BST_STATE = 1 → t.rd l.reg BST_STATE = 1 ∧ t.vstate l = 4)) ∧
      (∀ k g, s.rd l.reg BST_STATE ≠ 4 → pass → injFailure inj = some (k, g) → 3 ≤ s.vstate l → t.rd l.reg LSC_INJ_RESULT = k ∧
        t.rd l.reg LSC_INJ_FAIL_GROUP = g % 1024 ∧ t.rd l.reg LSC_STATE = 0 ∧ t.rd l.reg FAB_PHASE = 0 ∧
        (s.rd l.reg BST_STATE = 1 → t.rd l.reg INT_BOOT = 0) ∧
        (s.rd l.reg BST_STATE = 5 → t.rd l.reg INT_BOOT = if s.rdB l.reg INT_REJOINING ∧ s.rd l.reg STF_STEP_FAIL 1 < 2 then 0 else 4)) ∧
      (s.rd l.reg BST_STATE ≠ 4 → ¬ pass → 3 ≤ s.vstate l → s.rd l.reg FCL_MASKED (ownerOf l.reg 8) = 0 → t.rd l.reg FAB_PHASE = 0 ∧
        t.rd l.reg INT_BOOT = 4 ∧ bit (t.rd l.reg FCL_ERR_STATUS) 8 = true ∧ bit (t.rd l.reg FCL_RAW) 8 = true))) ∧
  (∀ s : State, s.hasRegion 7 = true → s.rdB 7 INT_POWERED = true →
    let c := s.rd 7 SMC_LIFECYCLE
    let open' : Prop := c = 0 ∨ c = 1 ∨ c = 4
    let freed (t : State) : Prop := (s.rd 7 BST_SCAN_REG ≠ 0 → t.rd (s.rd 7 BST_SCAN_REG) FAB_PHASE = 0) ∧ t.rd 7 BST_SCAN_REG = 0
    let bypassed (t : State) : Prop := t.sent = s.sent ++ [.jtag 0] ∧ t.rd 7 M_BST_SCAN_STATE = 0 ∧ (∀ l : LaneId, t.rd l.reg INT_EXTEST = 0) ∧
      t.rd 8 INT_EXTEST = 0 ∧ freed t
    Runs .jtagBypass s bypassed ∧ Runs .jtagIdcode s (fun t => t.sent = s.sent ++ [.jtag 1] ∧ t.rd 7 M_BST_SCAN_STATE = 0 ∧ freed t) ∧
    (¬ open' → Runs .jtagSamplePreload s bypassed ∧ Runs .jtagExtest s bypassed) ∧
    (open' → Runs .jtagSamplePreload s (fun t => t.sent = s.sent ++ [.jtag 2] ∧ t.rd 7 M_BST_SCAN_STATE = 1 ∧ freed t) ∧
      Runs .jtagExtest s (fun t => t.sent = s.sent ++ [.jtag 3] ∧ t.rd 7 M_BST_SCAN_STATE = 1 ∧ t.rd 8 SVT_OUT = 0 ∧ t.rd 8 ATH_OUT = 0 ∧
        t.rd 8 INT_EXTEST = 1 ∧ freed t ∧ ∀ l ∈ s.lanesOf, t.rd l.reg INT_EXTEST = 1 ∧ ∀ b, b < 6 → t.rd l.pow GDR_GATES b = 0)) ∧
    (∀ g : Region, g ≠ .m → s.rd 7 BST_SCAN_REG = 0 →
      (s.scanOk g.code false = true → Runs (.jtagInternalScan g false) s (fun t => Sent.jtag 4 ∈ t.sent ∧ t.rd 7 M_BST_SCAN_STATE = 2 ∧
        t.rd 7 BST_SCAN_REG = g.code ∧ t.rd g.code FAB_PHASE = 2 ∧ t.on g.code = false ∧ Counted s t 7 M_BST_CNT_SCAN_CLEAR ∧
        t.mdie.nonce = [] ∧ ∀ p ∈ t.mdie.ports, p.nonce = [])) ∧
      (s.scanOk g.code false = false → Runs (.jtagInternalScan g false) s bypassed))) ∧
  (∀ s : State, s.rdB 7 INT_POWERED = false → ∀ c ∈ [Instr.jtagBypass, .jtagIdcode, .jtagSamplePreload, .jtagExtest,
    .jtagInternalScan .s false], Runs c s (fun t => t = s))

/-! ### Clocks, supplies and power states -/

/-- Clocks, supplies and power states (R22, R24, R157, R205, R222, R508 to R534, R563). A supply starts the lane die and its power die, M and S with the
first, with the region epoch raised; in LOCK WATCH it wakes with code 8. A lost supply leaves every gate low, a held short FREE, and a cold
lane; M and S go with the last. Rail faults, overvoltage and the loss of CLKIN are recorded, counted and assert their sources; a
qualified CLKIN locks the PLLs. POWER_STATE offers the change to every party; one that must refuse, refuses, or does not answer
in time aborts it; a fourth delay refuses; with the last acceptance a change of one lane moves its DVFS point, one of the package shows its
result. DVFS completion sets clock and VCORE and starts the bridges that waited, under the conditions of a start. A wake records cause and time, is counted, raises the
region epoch and is signalled; creep wakes the lane that finds it, a peer's wake every lane, M and S. A peer's retention bank
is sent as it stood.
Each of these answers a next state with its own effect, on the conditions its clauses put on the state and the operands alone: VSUP_START,
SUPPLY_LOSS, VSUP_OVERVOLT, RAIL_FAULT, CLKIN_QUALIFIED, CLKIN_LOSS, DVFS_CHANGE_COMPLETE, POWER_STATE, HANDSHAKE_ANSWER,
HANDSHAKE_TIMEOUT, HANDSHAKE_DELAY_END, HANDSHAKE_ABORT_TIMEOUT, CREEP_SAMPLE, PEER_WAKE, WAKE_PIN, WAKE_TIMER_EXPIRY, WAKE_ACTIVITY,
RETENTION_DROOP, RETENTION_RESTORE_REQUEST. -/
def Obligations.Power : Prop :=
  (∀ (l : LaneId) (s : State), s.hasRegion l.reg = true →
    let newly (r : Nat) : Bool := s.hasRegion r && !s.rdB r INT_POWERED
    (s.rdB l.reg INT_POWERED = false → Runs (.vsupStart l) s (fun t => Writes s t ([(INT_POWERED.key l.reg 0, 1), (INT_POWERED.key l.pow 0, 1),
        (SUP_STATE.key l.pow 0, 2), (GDR_VGD_BAD.key l.pow 0, 1), (FAB_REGION_EPOCH.key l.reg 0, s.rd l.reg FAB_REGION_EPOCH + 1), (INT_ON_AT.key l.reg 0, s.now)] ++
        (if newly 7 then [(INT_POWERED.key 7 0, 1), (FAB_REGION_EPOCH.key 7 0, s.rd 7 FAB_REGION_EPOCH + 1)] else []) ++
        (if newly 8 then [(INT_POWERED.key 8 0, 1)] else []) ++
        (if s.watching then [(PWR_LAST_WAKE.key l.reg 0, 8), s.next l.reg PWR_CNT_WAKE 8] else []))
        (if s.watching then [.wake l] else [])) ∧ Runs (.supplyLoss l) s (fun t => t = s)) ∧
    (s.rdB l.reg INT_POWERED = true → Runs (.vsupStart l) s (fun t => t = s) ∧ Runs (.supplyLoss l) s (fun t =>
      t.rd l.reg INT_POWERED = 0 ∧ t.rd l.pow INT_POWERED = 0 ∧ t.rd l.reg FAB_REGION_EPOCH = s.rd l.reg FAB_REGION_EPOCH ∧
      (∀ b, b < 6 → t.rd l.pow GDR_GATES b = 0 ∧ t.rd l.reg CMT_STATE b = if s.shortHeld l b then 3 else 0) ∧ t.rd l.pow GDR_VGD_BAD = 1 ∧
      t.rd l.reg INT_REJOINING = 0 ∧ SameOtherLanes s t l ∧
      ((∀ x ∈ s.lanesOf, x ≠ l → s.rdB x.reg INT_POWERED = false) → t.rd 7 INT_POWERED = 0 ∧ t.rd 8 INT_POWERED = 0 ∧ t.rd 8 SVT_OUT = 0 ∧
        t.rd 7 FAB_REGION_EPOCH = s.rd 7 FAB_REGION_EPOCH) ∧
      ((∃ x ∈ s.lanesOf, x ≠ l ∧ s.rdB x.reg INT_POWERED = true) → t.rd 7 INT_POWERED = s.rd 7 INT_POWERED ∧
        t.rd 8 INT_POWERED = s.rd 8 INT_POWERED ∧ t.rd 8 SVT_OUT = s.rd 8 SVT_OUT)))) ∧
  (∀ (l : LaneId) (rail : Nat) (s : State),
    (s.on l.pow = true → Runs (.vsupOvervolt l) s (fun t => Writes s t [(SUP_FAULT.key l.pow 0, setBit (s.rd l.pow SUP_FAULT) 1),
      s.next l.pow SUP_CNT_OVERVOLT])) ∧
    (s.on l.reg = true → NoReset s l.reg 3 → NoReset s l.pow 8 → rail = 0 ∨ (2 ≤ rail ∧ rail ≤ 4) → Runs (.railFault l rail) s (fun t =>
      bit (t.rd l.pow SUP_FAULT) rail = true ∧ Counted s t l.pow SUP_CNT_RAIL_ERR ∧ (rail = 0 → Counted s t l.pow SUP_CNT_BROWNOUT) ∧
      (rail ≠ 0 → t.rd l.pow SUP_STATE = 3 ∧ (Judged s l.pow 8 → bit (t.rd l.pow FCL_ERR_STATUS) 8 = true)) ∧
      (Judged s l.reg 3 → bit (t.rd l.reg FCL_ERR_STATUS) 3 = true) ∧ SameOff (fun k => FaultPlace k ∨
        k ∈ [SUP_FAULT.key l.pow 0, SUP_CNT_RAIL_ERR.key l.pow 0, SUP_CNT_BROWNOUT.key l.pow 0, SUP_STATE.key l.pow 0]) s t)) ∧
    (s.on l.reg = true → TakesOut s l 3 → rail = 0 ∨ (2 ≤ rail ∧ rail ≤ 4) → Runs (.railFault l rail) s (fun t => t.vstate l = 3 ∧
      bit (t.rd l.pow SUP_FAULT) rail = true ∧ Counted s t l.pow SUP_CNT_RAIL_ERR ∧ bit (t.rd l.reg FCL_ERR_STATUS) 3 = true ∧
      t.rd l.reg FCL_LAST_RESET = withCycle 3 (s.cycle l))) ∧
    (rail = 1 ∨ 4 < rail → Runs (.railFault l rail) s (fun t => t = s))) ∧
  (∀ (l : LaneId) (restarts : Nat) (s : State),
    let clocks := (List.range 8).map (fun i => CLK_FREQ.key l.reg i)
    let starting : Prop := s.hasRegion l.reg = true ∧ s.rdB l.reg INT_POWERED = true ∧ s.rd l.reg FAB_PHASE = 0 ∧ s.rd l.reg PWR_STATE < 2
    (starting → Runs (.clkinQualified l restarts) s (fun t => t.rd l.reg CLK_STATE = 2 ∧ bit (t.rd l.reg FCL_RAW) 2 = false ∧
      t.rd l.reg CLK_CNT_QUAL_RESTART = min (2 ^ CLK_CNT_QUAL_RESTART.width - 1) (s.rd l.reg CLK_CNT_QUAL_RESTART + restarts) ∧
      SameBut s t ([CLK_STATE.key l.reg 0, CLK_CNT_QUAL_RESTART.key l.reg 0, FCL_RAW.key l.reg 0, FCL_QUIET_AT.key l.reg 2] ++ clocks))) ∧
    (¬ starting → Runs (.clkinQualified l restarts) s (fun t => t = s)) ∧
    (s.on l.reg = true → s.rd l.reg CLK_STATE = 2 → NoReset s l.reg 2 → Runs (.clkinLoss l) s (fun t => t.rd l.reg CLK_STATE = 3 ∧
      (s.vstate l ≠ 4 → Counted s t l.reg CLK_CNT_LOSS ∧ t.rd l.reg CLK_CNT_SWITCH_FORCED = min (2 ^ CLK_CNT_SWITCH_FORCED.width - 1)
        (s.rd l.reg CLK_CNT_SWITCH_FORCED + 7) ∧ (∀ i, i < 8 → t.rd l.reg CLK_FREQ i = if i = 7 then 33 else 50000) ∧
        (Judged s l.reg 2 → bit (t.rd l.reg FCL_ERR_STATUS) 2 = true ∧ bit (t.rd l.reg FCL_RAW) 2 = true) ∧ SameOff (fun k => FaultPlace k ∨
        k ∈ CLK_STATE.key l.reg 0 :: CLK_CNT_LOSS.key l.reg 0 :: CLK_CNT_SWITCH_FORCED.key l.reg 0 :: CLK_LAST_SWITCH.key l.reg 0 :: clocks) s t) ∧
      (s.vstate l = 4 → t.rd l.reg FAB_PHASE = 0 ∧ t.vstate l = 4 ∧
        t.rd l.reg FAB_REGION_EPOCH = (s.rd l.reg FAB_REGION_EPOCH + 1) % 2 ^ 32))) ∧
    (s.on l.reg = true → s.rd l.reg CLK_STATE = 2 → TakesOut s l 2 → Runs (.clkinLoss l) s (fun t => t.vstate l = 3 ∧ t.rd l.reg CLK_STATE = 3 ∧
      Counted s t l.reg CLK_CNT_LOSS ∧ bit (t.rd l.reg FCL_ERR_STATUS) 2 = true ∧ t.rd l.reg FCL_LAST_RESET = withCycle 2 (s.cycle l))) ∧
    (s.rd l.reg CLK_STATE ≠ 2 → Runs (.clkinLoss l) s (fun t => t = s))) ∧
  (∀ (l : LaneId) (h : Hdr) (state point : Nat) (s : State), Performs s l h 0x0701 →
    (s.chkPower l h state point = none →
      (2 ≤ state → s.vstate l = 0 → Runs (.powerState l h state point) s (Performed l h 0x0701 rOk s)) ∧
      (state < 2 ∨ s.vstate l ≠ 0 → Runs (.powerState l h state point) s (fun t => ∃ u, Performed l h 0x0701 rOk u t ∧
        u.rd l.reg PWR_STATE = 4 ∧ u.rd l.reg PWR_PREV = s.rd l.reg PWR_STATE ∧ u.rd l.reg PWR_REQ = state ∧ u.rd l.reg PWR_REQ_POINT = point ∧
        u.rd l.reg CLK_POINT = s.rd l.reg CLK_POINT ∧ (∀ p ∈ s.parties l state, u.rd l.reg PWR_HS_STATE p = 1 ∧ u.rd l.reg PWR_HS_DELAYS p = 0) ∧
        u.sent = s.sent ++ (if state ≥ 2 then [.offer l .s state, .offer l .m state] else []) ∧
        (2 ≤ state → u.rd l.reg PWR_HS_RESULT = 0 ∧ u.rd l.reg PWR_HS_CYCLE = s.cycle l)))) ∧
    (3 < state → Runs (.powerState l h state point) s (Denied l h 0x0701 (rRange 0 16) s)) ∧
    (state ≤ 3 → h.voted = decide (state < 2) → Runs (.powerState l h state point) s (Denied l h 0x0701 (rRange 0 1) s)) ∧
    (state ≤ 3 → h.voted = decide (2 ≤ state) → h.port ≠ .can1 → s.rd l.reg PWR_STATE = 4 → (if state = 1 then point = 1 ∨ point = 2 else point = 0) →
      Runs (.powerState l h state point) s (Denied l h 0x0701 (rRange (PWR_STATE.id l.reg 0) 0) s))) ∧
  (∀ (l : LaneId) (party : Nat) (s : State), s.up l = true → party < 256 →
    let req := s.rd l.reg PWR_REQ
    let cfg := fun b => s.rd l.reg CMT_STATE b
    let must (n r : Nat) : Prop := s.mustRefuse l n = some r
    let hs (r : Nat) : List (PKey × Nat) := (List.range 256).map (fun p => (PWR_HS_STATE.key l.reg p, r))
    let aborted (p r : Nat) : List (PKey × Nat) := [(PWR_LAST_CHANGE.key l.reg 0, withCycle (req % 8 + p % 256 * 16 + r % 16 * 4096) (s.cycle l)),
      s.next l.reg PWR_CNT_REFUSE, (PWR_STATE.key l.reg 0, s.rd l.reg PWR_PREV)] ++ (if req ≥ 2 then [(PWR_HS_RESULT.key l.reg 0, 2)] else []) ++ hs 0
    let asked : Prop := s.rd l.reg PWR_STATE = 4 ∧ s.rd l.reg PWR_HS_STATE party = 1
    let last : Prop := ∀ p ∈ s.parties l req, p = party ∨ s.rd l.reg PWR_HS_STATE p = 2
    (1 ≤ req → (∃ b, b < 6 ∧ (cfg b = 1 ∨ cfg b = 2 ∨ (2 ≤ req ∧ cfg b = 4))) → must 0x10 1) ∧
    (s.allEngaged l = false → must 0x30 2) ∧ (1 ≤ req → s.brakesSlow l = false → must 0x11 3) ∧ (s.rd l.reg BST_STATE ≠ 0 → must 0x0A 4) ∧
    ((s.lane l).wbe.consists ≠ [] ∨ (s.lane l).wbe.commitQ ≠ [] → must 0x01 5) ∧ (s.allEngaged l = true → s.rd 8 FAB_LOCK_STATE 0 = 1 → must 0x30 6) ∧
    (s.rd 7 FAB_LOCK_STATE 0 = 1 ∨ s.rd 7 FAB_LOCK_STATE 1 = 1 → must 0x40 6) ∧ (s.rd l.reg VOT_MODE = 2 ∨ s.rd l.reg VOT_MODE = 3 → must 0x1A 10) ∧
    (∀ p, p ∉ [0x10, 0x30, 0x11, 0x0A, 0x01, 0x40, 0x1A] → s.mustRefuse l p = none) ∧
    (asked → (∀ a r, s.mustRefuse l party = some r → Runs (.handshakeAnswer l party a) s (fun t => Writes s t (aborted party r))) ∧
      (s.mustRefuse l party = none →
        (∀ r, Runs (.handshakeAnswer l party (.refuse r)) s (fun t => Writes s t (aborted party r))) ∧
        (∀ ms, s.rd l.reg PWR_HS_DELAYS party < 3 → Runs (.handshakeAnswer l party (.delay ms)) s (fun t => Writes s t
          [s.next l.reg PWR_CNT_DELAY, (PWR_HS_DELAYS.key l.reg party, s.rd l.reg PWR_HS_DELAYS party + 1), (PWR_HS_STATE.key l.reg party, 3)])) ∧
        (∀ ms, 3 ≤ s.rd l.reg PWR_HS_DELAYS party → Runs (.handshakeAnswer l party (.delay ms)) s (fun t => Writes s t
          (s.next l.reg PWR_CNT_DELAY :: s.next l.reg PWR_HS_DELAYS party :: aborted party 9))) ∧
        (¬ last → Runs (.handshakeAnswer l party .accept) s (fun t => Writes s t [(PWR_HS_STATE.key l.reg party, 2)])) ∧
        (last → 2 ≤ req → Runs (.handshakeAnswer l party .accept) s (fun t => Writes s t ((PWR_HS_RESULT.key l.reg 0, 1) :: hs 0))) ∧
        (last → req < 2 → s.rd l.reg PWR_REQ_POINT = s.rd l.reg CLK_POINT → Runs (.handshakeAnswer l party .accept) s (fun t =>
          t.rd l.reg PWR_STATE = req ∧ t.rd l.reg PWR_LAST_CHANGE = withCycle (req + 8) (s.cycle l) ∧ ∀ p, p < 256 → t.rd l.reg PWR_HS_STATE p = 0)) ∧
        (last → req < 2 → s.rd l.reg PWR_REQ_POINT ≠ s.rd l.reg CLK_POINT → s.rd l.reg PWR_REQ_POINT < 3 → Runs (.handshakeAnswer l party .accept) s
          (fun t => t.rd l.reg PWR_STATE = 4 ∧ t.rd l.reg PWR_DVFS_TO = s.rd l.reg PWR_REQ_POINT + 1 ∧ t.rd l.reg CLK_POINT = s.rd l.reg CLK_POINT ∧
            (s.rd l.reg CLK_STATE ≠ 3 → t.rd l.reg CLK_FREQ 0 = 100000))))) ∧
    (asked → Runs (.handshakeTimeout l party) s (fun t => Writes s t (aborted party 8))) ∧
    (¬ asked → ∀ a, Runs (.handshakeAnswer l party a) s (fun t => t = s) ∧ Runs (.handshakeTimeout l party) s (fun t => t = s)) ∧
    (s.rd l.reg PWR_STATE = 4 → s.rd l.reg PWR_HS_STATE party = 3 → Runs (.handshakeDelayEnd l party) s (fun t =>
      Writes s t [(PWR_HS_STATE.key l.reg party, 1)])) ∧
    (s.rd l.reg PWR_STATE ≠ 4 ∨ s.rd l.reg PWR_HS_STATE party ≠ 3 → Runs (.handshakeDelayEnd l party) s (fun t => t = s)) ∧
    (s.rd l.reg PWR_STATE = 4 → 2 ≤ req → Runs (.handshakeAbortTimeout l) s (fun t => Writes s t (aborted 0x0C 11))) ∧
    (s.rd l.reg PWR_STATE ≠ 4 ∨ req < 2 → Runs (.handshakeAbortTimeout l) s (fun t => t = s))) ∧
  (∀ (l : LaneId) (point : Nat) (s : State), s.up l = true →
    let m := s.rd l.reg PWR_START_MASK
    (s.rd l.reg PWR_DVFS_TO = point + 1 → point ≤ 2 →
      (m = 0 ∨ point ≠ 0 → Runs (.dvfsChangeComplete l point) s (fun t => t.rd l.reg PWR_DVFS_TO = 0 ∧ t.rd l.reg CLK_POINT = point ∧
        t.rd l.pow SUP_VCORE_SET = (if point = 0 then 900 else if point = 1 then 800 else 720) ∧
        t.rd l.reg PWR_STATE = (if s.rd l.reg PWR_STATE = 4 ∧ s.rd l.reg PWR_REQ ≤ 1 then s.rd l.reg PWR_REQ
          else if s.rd l.reg PWR_STATE = 1 ∧ point = 0 then 0 else s.rd l.reg PWR_STATE) ∧
        (s.rd l.reg CLK_STATE ≠ 3 → t.rd l.reg CLK_FREQ 0 = if point = 0 then 400000 else if point = 1 then 300000 else 150000) ∧
        SameBut s t ([PWR_DVFS_TO.key l.reg 0, CLK_POINT.key l.reg 0, SUP_VCORE_SET.key l.pow 0, PWR_STATE.key l.reg 0,
          PWR_LAST_CHANGE.key l.reg 0] ++ (List.range 8).map (fun i => CLK_FREQ.key l.reg i)))) ∧
      (m ≠ 0 → point = 0 → Runs (.dvfsChangeComplete l point) s (fun t => t.rd l.reg PWR_DVFS_TO = 0 ∧ t.rd l.reg CLK_POINT = 0 ∧
        t.rd l.reg PWR_START_MASK = 0 ∧ (∀ b, b < 6 → m.testBit b = true → s.rd l.reg CMT_STATE b = 0 ∨ s.rd l.reg CMT_STATE b = 3 →
          s.bridgeUsed l b = true → s.gatesReady l = true → bit (s.rd l.reg CLK_ISL_CFG) 0 = false →
          s.rd l.pow GDR_PRE_ON b = 0 → s.bootReady l b = true → t.rd l.reg CMT_STATE b = 1) ∧
        (∀ b, b < 6 → m = 2 ^ b → s.gatesReady l = false ∨ (bit (s.rd l.reg CLK_ISL_CFG) 0 = true ∧ 3 < ((List.range 6).filter (fun c =>
          c == b || s.rd l.reg CMT_STATE c == 1 || s.rd l.reg CMT_STATE c == 2 || s.rdB l.pow GDR_PRE_ON c)).length) →
          t.rd l.reg CMT_STATE b = s.rd l.reg CMT_STATE b) ∧
        ∀ b, b < 6 → m.testBit b = false → t.rd l.reg CMT_STATE b = s.rd l.reg CMT_STATE b))) ∧
    (s.rd l.reg PWR_DVFS_TO ≠ point + 1 → Runs (.dvfsChangeComplete l point) s (fun t => t = s))) ∧
  (∀ (l : LaneId) (s : State),
    let woken (code info : Nat) : List (PKey × Nat) := [(PWR_LAST_WAKE.key l.reg 0, code + info % 16 * 16 +
        satNat 32 ((s.now - s.rd l.reg PWR_SLEEP_AT) / 1000000) * 2 ^ 32), s.next l.reg PWR_CNT_WAKE code, (PWR_STATE.key l.reg 0, 0),
        (FAB_REGION_EPOCH.key l.reg 0, s.rd l.reg FAB_REGION_EPOCH + 1), (SUP_STATE.key l.pow 0, 2)]
    (s.asleep l = true →
      Runs (.wakePin l) s (fun t => Writes s t (woken 1 0) [.wake l]) ∧ Runs (.retentionDroop l) s (fun t => Writes s t (woken 7 0) [.wake l]) ∧
      (bit (s.rd l.reg PWR_WAKE_EN) 1 = true → s.rd l.reg PWR_WAKE_TIMER ≠ 0 → Runs (.wakeTimerExpiry l) s (fun t =>
        Writes s t (woken 2 0) [.wake l])) ∧
      (bit (s.rd l.reg PWR_WAKE_EN) 1 = false ∨ s.rd l.reg PWR_WAKE_TIMER = 0 → Runs (.wakeTimerExpiry l) s (fun t => t = s)) ∧
      (∀ host : Bool, let n := if host then 4 else 3
        (bit (s.rd l.reg PWR_WAKE_EN) n = true → Runs (.wakeActivity l host) s (fun t => Writes s t (woken (if host then 6 else 5) 0) [.wake l])) ∧
        (bit (s.rd l.reg PWR_WAKE_EN) n = false → Runs (.wakeActivity l host) s (fun t => t = s))) ∧
      (∀ from' : LaneId, from' ≠ l → Runs (.peerWake l.region from') s (fun t => Writes s t (woken 4 from'.reg ++
        [(PWR_CREEP_WOKE.key l.reg 0, s.rd from'.reg PWR_CREEP_WOKE)]))) ∧
      (∀ x rest, s.findsCreep l x = true → Runs (.creepSample l (x :: rest)) s (fun t => Writes s t (woken 3 x.ch ++
        [(PWR_CREEP_WOKE.key l.reg 0, 1)]) [.wake l])) ∧
      (∀ xs, (∀ x ∈ xs, s.findsCreep l x = false) → Runs (.creepSample l xs) s (fun t => t = s))) ∧
    (∀ x : CreepSample, (bit (s.rd l.reg PWR_CREEP_CH) x.ch = false → s.findsCreep l x = false) ∧ (bit (s.rd l.reg PWR_CREEP_CH) x.ch = true →
      (s.fmode l x.ch ≠ 1 → x.frame = none → s.findsCreep l x = true) ∧
      (s.fmode l x.ch = 1 → (∃ p ∈ x.pairs, s.scAmp l { p with ch := x.ch } * 100 < (s.rd l.reg FBI_SC_WIN_LO : Rat) ∨
        s.scAmp l { p with ch := x.ch } * 100 > (s.rd l.reg FBI_SC_WIN_HI : Rat)) → s.findsCreep l x = true) ∧
      (s.creepBad l x = false → (s.findsCreep l x = true ↔ s.rd l.reg PWR_CREEP_TH < s.creepDiff l x)))) ∧
    (s.hasRegion l.reg = true → s.rdB l.reg INT_POWERED = true → s.rd l.reg PWR_STATE = 3 →
      (s.rd l.reg FAB_PHASE = 2 → Runs (.wakePin l) s (fun t => Writes s t [(PWR_WAKE_PEND.key l.reg 0, 1)])) ∧
      (s.rd l.reg FAB_PHASE ≠ 2 → Runs (.wakePin l) s (fun t => t.rd l.reg PWR_STATE = 0 ∧ Counted s t l.reg PWR_CNT_WAKE 1 ∧
        t.rd l.reg PWR_LAST_WAKE % 256 = 1 ∧ t.rd l.reg INT_ON_AT = s.now % 2 ^ 64 ∧ t.sent = s.sent ∧
        ∀ r, r = 7 ∨ r = 8 → s.hasRegion r = true → t.rdB r INT_POWERED = true))) ∧
    (s.asleep l = false → ∀ c ∈ [Instr.wakeTimerExpiry l, .wakeActivity l true, .retentionDroop l, .creepSample l [], .peerWake l.region .a],
      Runs c s (fun t => t = s)) ∧
    (∀ from' : LaneId, (∃ x ∈ s.lanesOf, s.rdB x.reg INT_POWERED = true) →
      (s.hasRegion 7 = true → s.rdB 7 INT_POWERED = false → Runs (.peerWake .m from') s (fun t => Writes s t [(INT_POWERED.key 7 0, 1),
        (FAB_REGION_EPOCH.key 7 0, s.rd 7 FAB_REGION_EPOCH + 1)])) ∧
      (s.hasRegion 8 = true → s.rdB 8 INT_POWERED = false → Runs (.peerWake .s from') s (fun t => Writes s t [(INT_POWERED.key 8 0, 1)]))) ∧
    (∀ (from' : LaneId) (bank : Nat), (s.on l.reg = true → (s.lane l).ret.isSome = true → bank < 16 →
        Runs (.retentionRestoreRequest l from' bank) s (fun t => Writes s t [] [.bank l from' bank])) ∧
      (16 ≤ bank ∨ (s.lane l).ret = none → Runs (.retentionRestoreRequest l from' bank) s (fun t => t = s))))

/-! ### Start -/

/-- From supply to READY (R18, R33, R128, R143 to R145, R345, R415, R453, R524, R539, R544, R545, R547, R549, R561 to R564). A lane start ends at a failed injection test or where no
image passes; else the active image, or the previous one where a trial did not reach READY, runs with its configuration, from
M's slot where its own area failed, and announces its slots. The pending slot is tried where every die announced the same digest and
nothing moved; a lane in trial that hears another digest restarts on its previous slot. Without a valid record LBIST runs first. At
READY the lane and its power die are in RECOVERY, its Towline listens; a halted pair does not become ready (R139). A power die, S and M come back in RUN; S takes up the saved
latch states unless a creep woke it. Heartbeats in ten consecutive cycles end "M lost", which asserts source 14: a second one of a cycle adds
nothing, a cycle missed begins the count anew. A start that fails as step 1 of a rejoin is begun again; after three failures the lane
stays out with source 12 (log 68).
Each of these answers a next state with its own effect, on the conditions its clauses put on the state and the operands alone: LANE_START,
LANE_READY, SLOT_ANNOUNCE_RECEIVE, SLOT_ANNOUNCE_TIMEOUT, M_HEARTBEAT_RECEIVE, M_LOST_TIMEOUT, POWER_DIE_READY, SHARED_DIE_READY. -/
def Obligations.Start : Prop :=
  (∀ (l : LaneId) (o : StartOutcome) (s : State),
    let may : Prop := s.hasRegion l.reg = true ∧ s.rdB l.reg INT_POWERED = true ∧ s.rd l.reg FAB_PHASE = 0 ∧ s.rd l.reg CLK_STATE = 2 ∧
      s.rd l.reg PWR_STATE < 2 ∧ s.rd l.reg INT_BOOT = 0
    let image (i : Nat) : Option Nat := o.images.getD i none
    let runs (t : State) (i d : Nat) : Prop := t.rd l.reg UPD_ACT = i + 1 ∧ t.rd l.reg UPD_ACTIVE_DIGEST = d % 2 ^ 128 ∧ t.rd l.reg INT_BOOT = 1 ∧
      (t.lane l).boot.ann = [] ∧ t.sent.getLast? = some (.slots l (d % 2 ^ 128) (t.pendingDigest l)) ∧ SameOtherLanes s t l ∧ t.rd l.reg LSC_INJ_RESULT = 1 ∧
      t.rd l.reg LSC_STATE = 2 ∧ t.rd l.reg LSC_INJ_DURATION = 23040
    let trial (i : Nat) : Prop := s.slotState l i = 3 ∧ s.rdB l.reg UPD_TRIAL_OK = false
    let own (k : PKey) : Prop := (k.region = l.reg ∨ k.region = l.pow) ∧ ∃ d, lookup k = some d ∧ d.acc = .rws ∧ d.name ≠ RPC_TBL.name
    (¬ may → Runs (.laneStart l o) s (fun t => t = s)) ∧
    (may →
      (∀ kind group, injFailure o.injection = some (kind, group) →
        (s.rdB l.reg INT_REJOINING = false ∨ s.rd l.reg STF_STEP_FAIL 1 < 2 → Runs (.laneStart l o) s (fun t => Writes s t
          ([(LSC_INJ_DURATION.key l.reg 0, 23040), (LSC_INJ_RESULT.key l.reg 0, kind), (LSC_INJ_FAIL_GROUP.key l.reg 0, group),
            (LSC_STATE.key l.reg 0, 0), (STF_STEP_FAIL.key l.reg 1, s.rd l.reg STF_STEP_FAIL 1 + 1),
            (INT_BOOT.key l.reg 0, if s.rdB l.reg INT_REJOINING then 0 else 4)] ++
            if o.injection.wire then [s.next l.reg FCL_TEST_EVENTS] else []))) ∧
        (s.rdB l.reg INT_REJOINING = true → 2 ≤ s.rd l.reg STF_STEP_FAIL 1 → 3 ≤ s.vstate l → Runs (.laneStart l o) s (fun t =>
          t.rd l.reg INT_BOOT = 4 ∧ t.rd l.reg STF_STAY_OUT = 1 ∧ t.rd l.reg LSC_STATE = 0 ∧ t.rd l.reg LSC_INJ_RESULT = kind % 4 ∧
          (Judged s l.reg 12 → bit (t.rd l.reg FCL_ERR_STATUS) 12 = true)))) ∧
      (injFailure o.injection = none → 3 ≤ s.vstate l →
        (∀ i d, i < 2 → s.rd l.reg UPD_ACT = i + 1 → image i = some d → ¬ trial i → Runs (.laneStart l o) s (fun t => runs t i d ∧
          s.slotState l i = t.slotState l i ∧ (o.cfgOk = true → (s.lane l).ret = none → ∀ k, own k → t.params.get k = s.params.get k) ∧
          (o.cfgOk = false → (s.lane l).ret = none → s.mdie.sets.find? (fun e => e.1 == l) = none → ∀ k, own k → t.params.get k = resetOf k) ∧
          (o.cfgOk = false → (s.lane l).ret = none → s.mUp = true → ∀ vs, s.mdie.sets.find? (fun e => e.1 == l) = some (l, vs) →
            (vs.map Prod.fst).Nodup → ∀ v ∈ vs, own v.1 → t.params.get v.1 = v.2 % 2 ^ widthOf v.1))) ∧
        (∀ i d, i < 2 → s.rd l.reg UPD_ACT = i + 1 → trial i → image (1 - i) = some d → Runs (.laneStart l o) s (fun t => runs t (1 - i) d ∧
          t.slotState l i = 5)) ∧
        (∀ i d, i < 2 → s.rd l.reg UPD_ACT = 0 → image i = some d → (∀ j, j < i → image j = none) →
          Runs (.laneStart l o) s (fun t => runs t i d ∧ t.slotState l i = 1)) ∧
        (image 0 = none → image 1 = none → s.rd l.reg UPD_ACT ≤ 2 → s.rdB l.reg INT_REJOINING = false ∨ s.rd l.reg STF_STEP_FAIL 1 < 2 →
          Runs (.laneStart l o) s (fun t => t.rd l.reg INT_BOOT = (if s.rdB l.reg INT_REJOINING then 0 else 4) ∧ t.sent = s.sent ∧
          t.rd l.reg LSC_INJ_RESULT = 1 ∧ t.rd l.reg LSC_STATE = 0 ∧ t.rd l.reg FAB_PHASE = 0)))) ∧
    (∀ t0, (s.rd l.reg INT_BOOT = 3 → s.rdB l.reg INT_POWERED = true → s.rd l.reg LSC_STATE ≠ 3 → Runs (.laneReady l t0) s (fun t =>
        t.rd l.reg FAB_PHASE = 3 ∧ t.rd l.pow FAB_PHASE = 3 ∧ t.rd l.reg INT_BOOT = 0 ∧ t.rd l.reg BST_STATE = 0 ∧ t.rd l.reg LSC_STATE = s.rd l.reg LSC_STATE ∧
        t.rd l.reg STF_STEP_FAIL 1 = 0 ∧
        t.rd l.pow SUP_STATE = 2 ∧ t.rd l.reg INT_REJOINING = 1 ∧ t.vstate l = s.vstate l ∧ SameOtherLanes s t l ∧
        t.rd l.reg TWL_TT_DIGEST = s.ttDigest l % 2 ^ 32 ∧ (s.slotState l (s.actSlot l) = 3 → t.rdB l.reg UPD_TRIAL_OK = true) ∧
        (s.rdB l.reg TWL_EN = true → s.rd l.reg LKG_STATE ≠ 5 → s.part ≠ .fj3821 → t.twlState l = 1 ∧ t.rd l.reg INT_SYNCED = 0) ∧
        (s.rdB l.reg TWL_EN = false → t.twlState l = s.twlState l))) ∧
      (s.rd l.reg INT_BOOT ≠ 3 ∨ s.rd l.reg LSC_STATE = 3 → Runs (.laneReady l t0) s (fun t => t = s.atTime t0)))) ∧
  (∀ (l peer : LaneId) (active pending : Nat) (s : State), s.hasRegion l.reg = true → s.rdB l.reg INT_POWERED = true →
    let i := s.actSlot l
    let tried : Prop := s.on l.reg = true ∧ s.slotState l i = 3 ∧ active ≠ s.rd l.reg UPD_ACTIVE_DIGEST
    (peer ≠ l → ¬ tried → Runs (.slotAnnounceReceive l peer active pending) s (fun t => t.params = s.params ∧ t.sent = s.sent ∧
      SameOtherLanes s t l ∧ ∀ e, e ∈ (t.lane l).boot.ann ↔ e = (peer, active, pending) ∨ (e ∈ (s.lane l).boot.ann ∧ e.1 ≠ peer))) ∧
    (peer ≠ l → tried → i < 2 → s.rd l.reg UPD_ACT = i + 1 → Runs (.slotAnnounceReceive l peer active pending) s (fun t =>
      t.slotState l i = 5 ∧ t.rd l.reg UPD_ACT = 2 - i ∧ t.rd l.reg FAB_PHASE = 0 ∧
      t.rd l.reg FAB_REGION_EPOCH = (s.rd l.reg FAB_REGION_EPOCH + 1) % 2 ^ 32)) ∧
    (peer = l → Runs (.slotAnnounceReceive l peer active pending) s (fun t => t = s))) ∧
  (∀ (l : LaneId) (moved : Bool) (s : State),
    let d := s.pendingDigest l
    let agreed : Prop := ∀ p ∈ s.peersOf l, ∃ e ∈ (s.lane l).boot.ann, e.1 = p ∧ e.2.2 = d
    let judged (t : State) : Prop := (t.recValid l = true → t.rd l.reg INT_BOOT = 3 ∧ t.rd l.reg FAB_PHASE = s.rd l.reg FAB_PHASE) ∧
      (t.recValid l = false → t.rd l.reg INT_BOOT = 2 ∧ t.rd l.reg BST_STATE = 5 ∧ t.rd l.reg FAB_PHASE = 2 ∧ t.rd l.pow FAB_PHASE = 2)
    let kept : List PKey := [INT_BOOT.key l.reg 0, BST_STATE.key l.reg 0, BST_LB_DONE.key l.reg 0, FAB_PHASE.key l.reg 0, FAB_PHASE.key l.pow 0]
    (s.rd l.reg INT_BOOT ≠ 1 → Runs (.slotAnnounceTimeout l moved) s (fun t => t = s)) ∧
    (s.rd l.reg INT_BOOT = 1 → moved = true ∨ d = 0 ∨ ¬ agreed → Runs (.slotAnnounceTimeout l moved) s (fun t => judged t ∧ SameBut s t kept)) ∧
    (∀ i, i < 2 → s.rd l.reg INT_BOOT = 1 → moved = false → d ≠ 0 → agreed → s.slotState l i = 2 → (∀ j, j < i → s.slotState l j ≠ 2) →
      Runs (.slotAnnounceTimeout l moved) s (fun t => judged t ∧ t.slotState l i = 3 ∧ t.slotState l (1 - i) = s.slotState l (1 - i) ∧
        t.rd l.reg UPD_ACT = i + 1 ∧ t.rd l.reg UPD_ACTIVE_DIGEST = d % 2 ^ 128 ∧ t.rdB l.reg UPD_TRIAL_OK = false ∧ SameBut s t (kept ++
          [UPD_SLOT_STATE.key l.reg 0, UPD_ACT.key l.reg 0, UPD_ACTIVE_DIGEST.key l.reg 0, UPD_TRIAL_OK.key l.reg 0])))) ∧
  (∀ (l : LaneId) (s : State), s.up l = true → s.hasRegion l.pow = true → s.rdB l.pow INT_POWERED = true →
    (s.rd l.pow FAB_PHASE = 0 → Runs (.powerDieReady l) s (fun t => t.rd l.pow FAB_PHASE = (if s.vstate l = 2 then 1 else 3) ∧
      t.rd l.pow SUP_STATE = 2 ∧ SameBut s t [FAB_PHASE.key l.pow 0, SUP_STATE.key l.pow 0, FCL_PIN.key l.reg 0, FCL_PIN_HELD.key l.reg 0])) ∧
    (s.rd l.pow FAB_PHASE ≠ 0 → Runs (.powerDieReady l) s (fun t => t = s))) ∧
  (∀ (d : Shared) (recordOk creepWake : Bool) (s : State), s.hasRegion d.reg = true → s.rdB d.reg INT_POWERED = true →
    (s.rd d.reg FAB_PHASE = 0 → d = .s → Runs (.sharedDieReady d recordOk creepWake) s (fun t => t.rd 8 FAB_PHASE = 1 ∧ t.rd 8 ATH_SAVED = 0 ∧
      t.rd 8 ATH_LATCH_STATE = (if s.rd 8 ATH_SAVED ≠ 0 ∧ recordOk = true ∧ creepWake = false then s.rd 8 ATH_SAVED % 65536 else 0)
        % 2 ^ ATH_LATCH_STATE.width ∧
      SameBut s t [FAB_PHASE.key 8 0, ATH_SAVED.key 8 0, ATH_LATCH_STATE.key 8 0, FCL_PIN.key 8 0, FCL_PIN_HELD.key 8 0])) ∧
    (s.rd d.reg FAB_PHASE = 0 → d = .m → Runs (.sharedDieReady d recordOk creepWake) s (fun t => Writes s t [(FAB_PHASE.key 7 0, 1),
      s.next 7 SMC_STARTS, (SMC_START_AT.key 7 0, s.now),
      (ATT_LEAF_SKIPPED.key 7 0, satNat 21 (s.rd 7 ATT_LEAF_SKIPPED + (s.rd 7 ATT_LIMIT - s.rd 7 ATT_NEXT))),
      (ATT_NEXT.key 7 0, s.rd 7 ATT_LEAF_NEXT), (ATT_LIMIT.key 7 0, s.rd 7 ATT_LEAF_NEXT),
      (ATT_LEAF_LEFT.key 7 0, if s.rd 7 SMC_LIFECYCLE = 0 then s.rd 7 ATT_LEAF_LEFT else 1048576 - s.rd 7 ATT_LEAF_NEXT)])) ∧
    (s.rd d.reg FAB_PHASE ≠ 0 → Runs (.sharedDieReady d recordOk creepWake) s (fun t => t = s))) ∧
  (∀ (l : LaneId) (lifecycle : Nat) (s : State), s.up l = true →
    let beats := s.rd l.reg INT_M_BEATS
    (s.rd l.reg INT_M_LOST = 0 → Runs (.mHeartbeatReceive l lifecycle) s (fun t => Writes s t [(INT_LIFECYCLE.key l.reg 0, lifecycle)])) ∧
    let last := s.rd l.reg INT_M_BEAT_CYC
    let counts : Prop := s.synced l = false ∨ beats = 0 ∨ s.cycle l = nextCycle last
    let seen := [(INT_LIFECYCLE.key l.reg 0, lifecycle), (INT_M_BEAT_CYC.key l.reg 0, s.cycle l)]
    (s.rd l.reg INT_M_LOST ≠ 0 → counts → beats < 9 → Runs (.mHeartbeatReceive l lifecycle) s (fun t => Writes s t
      (seen ++ [(INT_M_BEATS.key l.reg 0, beats + 1)]))) ∧
    (s.rd l.reg INT_M_LOST ≠ 0 → counts → 9 ≤ beats → Runs (.mHeartbeatReceive l lifecycle) s (fun t => t.rd l.reg INT_M_LOST = 0 ∧
      t.rd l.reg INT_M_BEATS = 0 ∧ bit (t.rd l.reg FCL_RAW) 14 = false ∧ SameBut s t [INT_LIFECYCLE.key l.reg 0, INT_M_LOST.key l.reg 0,
        INT_M_BEATS.key l.reg 0, INT_M_BEAT_CYC.key l.reg 0, FCL_RAW.key l.reg 0, FCL_QUIET_AT.key l.reg 14])) ∧
    (s.rd l.reg INT_M_LOST ≠ 0 → ¬ counts → s.cycle l = last → beats < 10 → Runs (.mHeartbeatReceive l lifecycle) s (fun t => Writes s t
      (seen ++ [(INT_M_BEATS.key l.reg 0, beats)]))) ∧
    (s.rd l.reg INT_M_LOST ≠ 0 → ¬ counts → s.cycle l ≠ last → Runs (.mHeartbeatReceive l lifecycle) s (fun t => Writes s t
      (seen ++ [(INT_M_BEATS.key l.reg 0, 1)]))) ∧
    (s.rd l.reg INT_M_LOST ≠ 0 → bit (s.rd l.reg FCL_RAW) 14 = true → Runs (.mLostTimeout l) s (fun t => Writes s t [(INT_M_BEATS.key l.reg 0, 0)])) ∧
    (s.rd l.reg INT_M_LOST ≠ 0 → bit (s.rd l.reg FCL_RAW) 14 = false → NoReset s l.reg 14 → Runs (.mLostTimeout l) s (fun t =>
      t.rd l.reg INT_M_LOST = s.rd l.reg INT_M_LOST ∧ t.rd l.reg INT_M_BEATS = 0 ∧ (Judged s l.reg 14 → bit (t.rd l.reg FCL_ERR_STATUS) 14 = true ∧
        bit (t.rd l.reg FCL_RAW) 14 = true) ∧ SameOff (fun k => FaultPlace k ∨ k = INT_M_BEATS.key l.reg 0) s t)) ∧
    (s.rd l.reg INT_M_LOST = 0 → NoReset s l.reg 14 → Runs (.mLostTimeout l) s (fun t => t.rd l.reg INT_M_LOST = 1 ∧ t.rd l.reg INT_M_BEATS = 0 ∧
      (s.rd l.reg TRC_STATE = 5 → t.rd l.reg TRC_STREAM_STATE = 2) ∧
      (Judged s l.reg 14 → bit (t.rd l.reg FCL_ERR_STATUS) 14 = true ∧ bit (t.rd l.reg FCL_RAW) 14 = true) ∧ SameOff (fun k => FaultPlace k ∨
        k ∈ [INT_M_LOST.key l.reg 0, INT_M_BEATS.key l.reg 0, TRC_STREAM_STATE.key l.reg 0]) s t)))

/-! ### The Stationmaster -/

/-- The event log and signed updates (R535, R539 to R545). Telemetry becomes a record of 64 bytes with its check in a ring, read in ascending
order. An update session belongs to one source; a chunk continues at what was received; the end starts verification, which
fails by its cause with source 7 or puts M's section in its inactive slot and sends the lane section to every lane in service or standby. A
lane that verifies and reads back its section marks it PENDING; M is done once no lane is installing, FAILED where one failed.
Each of these answers a next state with its own effect, on the conditions its clauses put on the state and the operands alone:
LOG_RECORD_APPEND, LOG_READ, UPDATE_BEGIN, UPDATE_CHUNK, UPDATE_END, UPDATE_VERIFY_DONE, UPDATE_SESSION_TIMEOUT, LANE_IMAGE_INSTALL. -/
def Obligations.LogAndUpdates : Prop :=
  (∀ (x : LogRecord) (s : State),
    let seq := (s.rd 7 LOG_NEWEST + 1) % 2 ^ 32
    (s.mUp = true → Runs (.logRecordAppend x) s (fun t => ∃ raw : List Byte, raw.length = 64 ∧ fieldLe raw 0 4 = seq ∧ fieldLe raw 4 4 = x.cycle % 2 ^ 32 ∧
      fieldLe raw 8 8 = (s.now - s.rd 7 SMC_START_AT) / 1000 % 2 ^ 64 ∧ fieldLe raw 16 4 = s.rd 7 SMC_STARTS % 2 ^ 32 ∧
      byteAt raw 20 = x.region % 256 ∧ byteAt raw 21 = x.kind % 256 ∧ fieldLe raw 22 2 = x.code % 65536 ∧ (raw.drop 24).take 32 = padTo 32 x.data ∧
      fieldLe raw 60 4 = crc32c (raw.take 60) % 2 ^ 32 ∧ t.rd 7 LOG_NEWEST = seq ∧
      t.mdie = { s.mdie with log := (s.mdie.log ++ [raw]).drop (s.mdie.log.length + 1 - 524288) } ∧
      (∀ old rest, t.mdie.log = old :: rest → t.rd 7 LOG_OLDEST = fieldLe old 0 4) ∧
      t = { s with params := t.params, mdie := t.mdie } ∧ SamePlaces s t [LOG_NEWEST.key 7 0, LOG_OLDEST.key 7 0])) ∧
    (s.mUp = false → Runs (.logRecordAppend x) s (fun t => t = s))) ∧
  (∀ (l : LaneId) (h : Hdr) (start count mask : Nat) (s : State), Performs s l h 0x0901 →
    let fits (r : List Byte) : Bool := decide (start ≤ fieldLe r 0 4) && (mask == 0 || bit mask (byteAt r 21))
    (s.reaches l .m = true → 1 ≤ count → count ≤ 16 → start ≤ s.rd 7 LOG_NEWEST → Runs (.logRead l h start count mask) s
      (Performed l h 0x0901 (rOk ((s.mdie.log.filter fits).take count).flatten) s)) ∧
    (s.reaches l .m = true → count = 0 ∨ 16 < count → Runs (.logRead l h start count mask) s (Denied l h 0x0901 (rRange 0 20) s)) ∧
    (s.reaches l .m = true → 1 ≤ count → count ≤ 16 → s.rd 7 LOG_NEWEST < start → Runs (.logRead l h start count mask) s
      (Denied l h 0x0901 (rRange 0 16) s)) ∧
    (s.reaches l .m = false → Runs (.logRead l h start count mask) s (Denied l h 0x0901 (rRange 0 8) s))) ∧
  (∀ (o : UpdSource) (h : Hdr) (s : State),
    let mine : Prop := s.mdie.updSrc = some o ∧ s.rd 7 UPD_STATE = 1
    let got := s.rd 7 UPD_RECEIVED
    (∀ total, s.takes o h 0x0902 →
      (s.mdie.updSrc = none ∨ s.mdie.updSrc = some o → total ≤ 16777216 → Runs (.updateBegin o h total) s (fun t => ∃ u, Finished o h 0x0902 rOk u t ∧
        u = { s with params := u.params, mdie := { s.mdie with updSrc := some o, updTotal := total, staged := [] } } ∧
        Sets s u [(UPD_RECEIVED.key 7 0, 0), (UPD_STATE.key 7 0, 1), (UPD_LANE_STATE.key 7 0, 0), (UPD_AT.key 7 0, s.now)])) ∧
      (∀ x, s.mdie.updSrc = some x → x ≠ o → Runs (.updateBegin o h total) s (TurnedAway o h 0x0902 (rLocked (sourceCode x)) s)) ∧
      (s.mdie.updSrc = none ∨ s.mdie.updSrc = some o → 16777216 < total → Runs (.updateBegin o h total) s (TurnedAway o h 0x0902 (rRange 0 16) s))) ∧
    (∀ offset (data : List Byte), s.takes o h 0x0903 →
      (1 ≤ data.length → data.length ≤ 1016 →
        let inOrder : Prop := mine ∧ offset = got ∧ offset + data.length ≤ s.mdie.updTotal
        (inOrder → Runs (.updateChunk o h offset data) s (fun t => ∃ u, Finished o h 0x0903 rOk u t ∧
          u = { s with params := u.params, mdie := { s.mdie with staged := s.mdie.staged ++ data } } ∧
          Sets s u [(UPD_RECEIVED.key 7 0, got + data.length), (UPD_AT.key 7 0, s.now)])) ∧
        (¬ inOrder → Runs (.updateChunk o h offset data) s (TurnedAway o h 0x0903 (rRange (UPD_RECEIVED.id 7 0) 16) s))) ∧
      (data = [] ∨ 1016 < data.length → Runs (.updateChunk o h offset data) s (TurnedAway o h 0x0903 (rBadLength (data.length + 8) 0) s))) ∧
    (s.takes o h 0x0904 →
      (mine → got = s.mdie.updTotal → Runs (.updateEnd o h) s (fun t => ∃ u, Finished o h 0x0904 rOk u t ∧
        u = { s with params := u.params } ∧ Sets s u [(UPD_STATE.key 7 0, 2), (UPD_AT.key 7 0, s.now)])) ∧
      (¬ mine ∨ got ≠ s.mdie.updTotal → Runs (.updateEnd o h) s (TurnedAway o h 0x0904 (rRange (UPD_RECEIVED.id 7 0) 0) s)))) ∧
  (∀ s : State, s.mUp = true →
    (s.rd 7 UPD_STATE = 1 → Runs .updateSessionTimeout s (fun t =>
      t = { s with params := t.params, mdie := { s.mdie with updSrc := none, updTotal := 0, staged := [] } } ∧ Sets s t [(UPD_RECEIVED.key 7 0, 0), (UPD_STATE.key 7 0, 0)])) ∧
    (s.rd 7 UPD_STATE ≠ 1 → Runs .updateSessionTimeout s (fun t => t = s)) ∧
    (s.rd 7 UPD_STATE ≠ 2 → Runs .updateVerifyDone s (fun t => t = s)) ∧
    (s.rd 7 UPD_STATE = 2 →
      let c := s.mdie.staged
      let logged (t : State) (code : Nat) : Prop := ∃ x, t.mdie.log.getLast? = some x ∧ byteAt x 20 = 7 ∧ byteAt x 21 = 6 ∧ fieldLe x 22 2 = code
      let takers := s.lanesOf.filter (fun l => s.up l && (s.vstate l == 1 || s.vstate l == 2) && !s.rdB l.reg INT_M_LOST)
      (containerOk c = false → s.updCause c = some 1) ∧
      (containerOk c = true → (∃ x, ((container c).1 = some x ∨ (container c).2 = some x) ∧ sectSigned x = false) → s.updCause c = some 2) ∧
      (∀ n, s.updCause c = some n → NoReset s 7 7 → Runs .updateVerifyDone s (fun t => t.rd 7 UPD_STATE = 5 + 8 * n ∧ logged t n ∧
        t.mdie.slotM = s.mdie.slotM ∧ (Judged s 7 7 → bit (t.rd 7 FCL_ERR_STATUS) 7 = true))) ∧
      (s.updCause c = none → Runs .updateVerifyDone s (fun t => logged t 0 ∧ SameOutside s t [7] ∧
        (∀ x, (container c).2 = some x → t.mdie.slotM = some (fieldLe x 16 16, fieldLe x 8 4)) ∧
        ((container c).2 = none → t.mdie.slotM = s.mdie.slotM) ∧
        ((container c).1 = none ∨ takers = [] → t.rd 7 UPD_STATE = 4 ∧ t.sent = s.sent) ∧
        (∀ x, (container c).1 = some x → takers ≠ [] → t.rd 7 UPD_STATE = 3 ∧ t.sent = s.sent ++ takers.map (fun l => Sent.image l x) ∧
          ∀ l ∈ takers, t.rd 7 UPD_LANE_STATE / 16 ^ l.idx % 16 = 1))))) ∧
  (∀ (l : LaneId) (x : List Byte) (readBackOk : Bool) (s : State), s.up l = true → s.rd l.reg UPD_ACT ≤ 2 →
    let i := if s.rd l.reg UPD_ACT = 1 then 1 else 0
    let ok := sectLayout x 1 && sectSigned x && decide (fieldLe x 8 4 ≥ s.rd l.reg UPD_FLOOR_LANE) && readBackOk
    let laneAt (t : State) (j : Nat) : Nat := t.rd 7 UPD_LANE_STATE / 16 ^ j % 16
    Runs (.laneImageInstall l x readBackOk) s (fun t => t.sent = s.sent ++ [.imageDone l ok] ∧ SameOtherLanes s t l ∧
      (ok = true → t.slotState l i = 2 ∧ t.slotState l (1 - i) = s.slotState l (1 - i) ∧ (t.lane l).boot.dig i = fieldLe x 16 16 ∧
        (t.lane l).boot.roll i = fieldLe x 8 4) ∧
      (ok = false → t.rd l.reg UPD_SLOT_STATE = s.rd l.reg UPD_SLOT_STATE ∧ t.lane l = s.lane l) ∧
      (s.reaches l .m = false ∨ s.rd 7 UPD_STATE ≠ 3 → t.rd 7 UPD_STATE = s.rd 7 UPD_STATE ∧ t.rd 7 UPD_LANE_STATE = s.rd 7 UPD_LANE_STATE) ∧
      (s.reaches l .m = true → s.rd 7 UPD_STATE = 3 → laneAt t l.idx = (if ok then 2 else 3) ∧
        ((∃ j, j < 3 ∧ j ≠ l.idx ∧ laneAt s j = 1) → t.rd 7 UPD_STATE = 3) ∧
        ((∀ j, j < 3 → j ≠ l.idx → laneAt s j ≠ 1) →
          (ok = true → (∀ j, j < 3 → j ≠ l.idx → laneAt s j ≠ 3) → t.rd 7 UPD_STATE = 4) ∧
          (ok = false ∨ (∃ j, j < 3 ∧ j ≠ l.idx ∧ laneAt s j = 3) → t.rd 7 UPD_STATE = 45)))))

/-- Attestation, lifecycle and MXIN (R535, R546 to R550). A report takes the next reserved leaf index, reserving sixteen before the
first is used, holds nonce and index where R548 places them, and is signed; the pool's end warns with source 8 and refuses. A nonce
is fresh; chunks assemble the ticket; APPLY makes a transition of the table that is signed, fresh and for this part, with latches
held, logs it and does what the state asks; anything else leaves the state. Without MXIN the service port stops, source 6.
Each of these answers a next state with its own effect, on the conditions its clauses put on the state and the operands alone: ATTEST,
ATTEST_SIGN_DONE, LIFECYCLE_NONCE, LIFECYCLE_CHUNK, LIFECYCLE_APPLY, LIFECYCLE_NONCE_EXPIRY, MXIN_LOSS. -/
def Obligations.AttestAndLifecycle : Prop :=
  (∀ (o : UpdSource) (h : Hdr) (part : Nat) (s : State), s.takes o h 0x0905 →
    let left := s.rd 7 ATT_LEAF_LEFT
    let state := s.rd 7 ATT_STATE
    let fresh := s.rd 7 ATT_NEXT < s.rd 7 ATT_LIMIT
    let leaf := if fresh then s.rd 7 ATT_NEXT else s.rd 7 ATT_LEAF_NEXT
    (∀ n : List Byte, n.length = 32 → part ≤ 2 → state ≠ 3 → left ≠ 0 → leaf < 1048576 → NoReset s 7 8 → Runs (.attest o h part (some n)) s (fun t => ∃ u,
      Finished o h 0x0905 rOk u t ∧ u.rd 7 ATT_STATE = 1 ∧ u.rd 7 ATT_NEXT = leaf + 1 ∧ u.rd 7 ATT_LEAF_LEFT = 1048576 - (leaf + 1) ∧
      (fresh → u.rd 7 ATT_LEAF_NEXT = s.rd 7 ATT_LEAF_NEXT ∧ u.rd 7 ATT_LIMIT = s.rd 7 ATT_LIMIT) ∧
      (¬ fresh → u.rd 7 ATT_LEAF_NEXT = leaf + 16 ∧ u.rd 7 ATT_LIMIT = leaf + 16) ∧ u.mdie.report.length = 252 ∧
      byteAt u.mdie.report 0 = 1 ∧ byteAt u.mdie.report 1 = s.rd 7 SMC_LIFECYCLE % 256 ∧ (u.mdie.report.drop 20).take 32 = n ∧
      fieldLe u.mdie.report 56 4 = leaf ∧ (1048576 - (leaf + 1) ≤ s.rd 7 ATT_LEAF_WARN → Judged s 7 8 → bit (u.rd 7 FCL_ERR_STATUS) 8 = true) ∧
      SameOutside s u [7])) ∧
    (part ≤ 2 → state = 2 → Runs (.attest o h part none) s (Finished o h 0x0905 (rOk ((s.mdie.report.drop (1024 * part)).take 1024)) s)) ∧
    (2 < part → ∀ n, Runs (.attest o h part n) s (TurnedAway o h 0x0905 (rRange 0 16) s)) ∧
    (part ≤ 2 → state ≠ 2 → Runs (.attest o h part none) s (TurnedAway o h 0x0905 (rRange (ATT_STATE.id 7 0) 0) s)) ∧
    (part ≤ 2 → ∀ n, (state = 3 → Runs (.attest o h part (some n)) s (TurnedAway o h 0x0905 (rRange (ATT_STATE.id 7 0) 0) s)) ∧
      (state ≠ 3 → left = 0 → Runs (.attest o h part (some n)) s (TurnedAway o h 0x0905 (rRange (ATT_LEAF_LEFT.id 7 0) 0) s)))) ∧
  (∀ s : State, s.mUp = true →
    (s.rd 7 ATT_STATE = 1 → s.mdie.report.length = 252 → Runs .attestSignDone s (fun t => t.rd 7 ATT_STATE = 2 ∧ t.mdie.report.length = 3072 ∧
      t.mdie.report.take 252 = s.mdie.report ∧ SameBut { s with fv := s.fv + 1, mdie := t.mdie } t [ATT_STATE.key 7 0])) ∧
    (s.rd 7 ATT_STATE ≠ 1 → Runs .attestSignDone s (fun t => t = s)) ∧
    Runs .lifecycleNonceExpiry s (fun t => t = { s with params := t.params, mdie := { s.mdie with nonce := [] } } ∧
      Sets s t [(SMC_NONCE_ON.key 7 0, 0)]) ∧
    (s.rd 7 SMC_MX_LOST = 0 → NoReset s 7 6 → Runs .mxinLoss s (fun t => t.rd 7 SMC_MX_LOST = 1 ∧
      (Judged s 7 6 → bit (t.rd 7 FCL_ERR_STATUS) 6 = true ∧ bit (t.rd 7 FCL_RAW) 6 = true) ∧
      SameOff (fun k => FaultPlace k ∨ k = SMC_MX_LOST.key 7 0) s t)) ∧
    (s.rd 7 SMC_MX_LOST ≠ 0 → Runs .mxinLoss s (fun t => t = s) ∧ ∀ h total, Runs (.updateBegin .service h total) s (fun t => t = s))) ∧
  (∀ a b, (transition a b).isSome = true ↔ (a, b) ∈ [(0, 1), (1, 2), (4, 2), (3, 2), (2, 3), (2, 4), (3, 4), (1, 5), (2, 5), (3, 5), (4, 5)]) ∧
  (∀ (o : UpdSource) (h : Hdr) (s : State), s.takes o h 0x0906 →
    let k := s.mdie.ticket
    let cur := s.rd 7 SMC_LIFECYCLE
    let target := byteAt k 1
    Runs (.lifecycleNonce o h) s (fun t => ∃ u n, Finished o h 0x0906 (rOk n) u t ∧ n.length = 32 ∧
      u = { s with params := u.params, fv := s.fv + 1, mdie := { s.mdie with nonce := n } } ∧ Sets s u [(SMC_NONCE_ON.key 7 0, 1)]) ∧
    (∀ offset (data : List Byte), let len := data.length
      (1 ≤ len → len ≤ 1016 → offset + len ≤ 2952 → Runs (.lifecycleChunk o h offset data) s (fun t => ∃ u, Finished o h 0x0906 rOk u t ∧
        u = { s with mdie := { s.mdie with ticket := u.mdie.ticket } } ∧ (u.mdie.ticket.drop offset).take len = data ∧
        ∀ i, i < offset ∨ offset + len ≤ i → byteAt u.mdie.ticket i = byteAt k i)) ∧
      (len = 0 ∨ 1016 < len → Runs (.lifecycleChunk o h offset data) s (TurnedAway o h 0x0906 (rBadLength (len + 8) 0) s)) ∧
      (1 ≤ len → len ≤ 1016 → 2952 < offset + len → Runs (.lifecycleChunk o h offset data) s (TurnedAway o h 0x0906 (rRange 0 20) s))) ∧
    (transition cur target = none → Runs (.lifecycleApply o h) s (TurnedAway o h 0x0906 (rDenied cur) s)) ∧
    (∀ who, transition cur target = some who →
      let sound : Prop := byteAt k 0 = 1 ∧ s.ticketSigned k who = true ∧ s.rdB 7 SMC_NONCE_ON = true ∧ (k.drop 20).take 32 = s.mdie.nonce ∧
        (cur = 0 ∨ fieldLe k 4 16 = s.rd 7 SMC_SERIAL)
      (¬ sound → Runs (.lifecycleApply o h) s (TurnedAway o h 0x0906 rBadSig s)) ∧
      (sound → 2 ≤ cur → s.latchesHeld = false →
        Runs (.lifecycleApply o h) s (TurnedAway o h 0x0906 (rRange (ATH_LATCH_STATE.id 8 0) 0) s)) ∧
      (sound → cur < 2 ∨ s.latchesHeld = true → Runs (.lifecycleApply o h) s (fun t => ∃ u, Finished o h 0x0906 rOk u t ∧
        u.rd 7 SMC_LIFECYCLE = target ∧ u.rd 7 SMC_NONCE_ON = 0 ∧ u.mdie.nonce = [] ∧ u.mdie.ticket = [] ∧ u.sent = s.sent ∧ SameOutside s u [7] ∧
        (∃ x, u.mdie.log.getLast? = some x ∧ byteAt x 20 = 7 ∧ byteAt x 21 = 7 ∧ fieldLe x 22 2 = target) ∧
        (target = 2 → cur = 1 ∨ cur = 4 → u.mdie.intKey = (k.drop 64).take 68) ∧ (target = 2 → cur = 3 → u.mdie.intKey = s.mdie.intKey) ∧
        (target = 1 → u.rd 7 SMC_SERIAL = fieldLe k 4 16 ∧ u.rd 7 ATT_LEAF_NEXT = 0 ∧ u.rd 7 ATT_LEAF_LEFT = 1048576) ∧
        (target = 5 → u.mdie.intKey = [] ∧ u.mdie.report = [] ∧ u.rd 7 ATT_LEAF_LEFT = 0 ∧ u.rd 7 ATT_STATE = 3)))))

/-- Cartridges (R551 to R557). A tag that appears is asked for its manifest; one that goes is ABSENT, and every lane is told. An answer with a
bad frame is asked for again as one that did not come: up to three times, then the port is absent, or a write has failed with source 12. A manifest
whose certificate verifies is challenged with a fresh nonce, another is UNVERIFIED with source 10; an answer that verifies makes the port VERIFIED and the
mirror take the larger counters. The mirror is written back to every verified tag. A report is held by a lane that has M.
Each of these answers a next state with its own effect, on the conditions its clauses put on the state and the operands alone:
TAG_PORT_CHANGE, TAG_RESPONSE, TAG_TIMEOUT, CART_REPORT_RECEIVE, TAG_COUNTER_WRITEBACK. -/
def Obligations.Cartridges : Prop :=
  (∀ (c : Nat) (s : State), s.mUp = true → c < 8 → s.mdie.ports.length = 8 →
    let step := s.rd 7 CRT_STEP c
    let tries := s.rd 7 CRT_TRIES c
    let port := s.mdie.ports.getD c {}
    let told (t : State) : Prop := ∀ x ∈ s.lanesOf, ∃ r, Sent.cart x r ∈ t.sent
    let read : Sent := .tag c (tagFrame 1 [0, 0, 0, 16])
    let write : Sent := .tag c (tagFrame 3 (port.counters.flatMap (toLe 8)))
    Runs (.tagPortChange c true) s (fun t =>
      t = { s with params := t.params, sent := s.sent ++ [read], mdie := { s.mdie with ports := s.mdie.ports.set c { present := true } } } ∧ Sets s t [(CRT_STEP.key 7 c, 1), (CRT_TRIES.key 7 c, 0)]) ∧
    Runs (.tagPortChange c false) s (fun t => t.rd 7 CRT_PORT_STATE c = 1 ∧ t.rd 7 CRT_STEP c = 0 ∧ t.mdie.ports.getD c {} = {} ∧ told t ∧
      SameOff (fun k => FaultPlace k ∨ k ∈ [CRT_PORT_STATE.key 7 c, CRT_STEP.key 7 c, CRT_TRIES.key 7 c]) s t) ∧
    (step = 0 → Runs (.tagTimeout c) s (fun t => t = s) ∧ ∀ raw, Runs (.tagResponse c raw) s (fun t => t = s)) ∧
    (tries < 3 → (step = 1 → Runs (.tagTimeout c) s (fun t => Writes s t [(CRT_TRIES.key 7 c, tries + 1)] [read])) ∧
      (step = 2 → Runs (.tagTimeout c) s (fun t => Writes s t [(CRT_TRIES.key 7 c, tries + 1)] [.tag c (tagFrame 2 port.nonce)])) ∧
      (step = 3 → Runs (.tagTimeout c) s (fun t => Writes s t [(CRT_TRIES.key 7 c, tries + 1)] [write]))) ∧
    (3 ≤ tries → (step = 1 ∨ step = 2 → Runs (.tagTimeout c) s (fun t => t.rd 7 CRT_PORT_STATE c = 1 ∧ t.rd 7 CRT_STEP c = 0 ∧ told t)) ∧
      (step = 3 → NoReset s 7 12 → Runs (.tagTimeout c) s (fun t => t.rd 7 CRT_STEP c = 0 ∧ t.rd 7 CRT_TRIES c = 0 ∧
        (Judged s 7 12 → bit (t.rd 7 FCL_ERR_STATUS) 12 = true)))) ∧
    (∀ raw : List Byte, step ≠ 0 →
      let data := (raw.drop 3).take (raw.length - 5)
      let sound : Prop := 5 ≤ raw.length ∧ fieldLe raw (raw.length - 2) 2 = crc16 (raw.take (raw.length - 2)) ∧ byteAt raw 0 = step ∧
        fieldLe raw 1 2 + 5 = raw.length
      (¬ sound → exec (.tagResponse c raw) s = exec (.tagTimeout c) s) ∧
      (sound → step = 3 → Runs (.tagResponse c raw) s (fun t => Writes s t [(CRT_STEP.key 7 c, 0), (CRT_TRIES.key 7 c, 0)])) ∧
      (sound → step = 1 →
        let anchor := Config.manifest 2 data
        let signed : Bool := decide (anchor < 4) && Config.sigOk (toLe 68 (s.rd 7 CRT_ANCHOR anchor)) (Config.manifestPart 3 data) (Config.manifestPart 2 data)
        (signed = true → Runs (.tagResponse c raw) s (fun t => t.rd 7 CRT_SERIAL c = Config.manifest 0 data % 2 ^ 128 ∧ t.rd 7 CRT_STEP c = 2 ∧
          t.rd 7 CRT_TRIES c = 0 ∧ (t.mdie.ports.getD c {}).manifest = data ∧ (t.mdie.ports.getD c {}).nonce.length = 32 ∧
          t.sent = s.sent ++ [.tag c (tagFrame 2 (t.mdie.ports.getD c {}).nonce)])) ∧
        (signed = false → NoReset s 7 10 → Runs (.tagResponse c raw) s (fun t => t.rd 7 CRT_PORT_STATE c = 2 ∧ t.rd 7 CRT_STEP c = 0 ∧ told t ∧
          (Judged s 7 10 → bit (t.rd 7 FCL_ERR_STATUS) 10 = true)))) ∧
      (sound → step = 2 →
        let man := port.manifest
        let tag := (List.range 4).map (fun k => Config.tagCounter data k)
        let signed : Bool := Config.sigOk (Config.manifestPart 4 man) (Config.tagAnswer 0 (port.nonce ++ data)) (Config.tagAnswer 1 data) &&
          tag == (List.range 4).map (fun k => Config.manifest (7 + k) man)
        let old := ((s.mirrorOf (Config.manifest 0 man)).map CartRec.counters).getD [0, 0, 0, 0]
        let new := (List.range 4).map (fun k => max (old.getD k 0) (tag.getD k 0))
        (signed = true → NoReset s 7 11 → Runs (.tagResponse c raw) s (fun t => t.rd 7 CRT_PORT_STATE c = 3 ∧ told t ∧
          (t.mdie.ports.getD c {}).counters = new ∧ (∀ k, k < 4 → t.rd 7 CRT_COUNTER (4 * c + k) = new.getD k 0 % 2 ^ 64) ∧
          (∃ r, t.mirrorOf (Config.manifest 0 man) = some r ∧ r.counters = new) ∧ (new = tag → t.rd 7 CRT_STEP c = 0) ∧
          (new ≠ tag → t.rd 7 CRT_STEP c = 3 ∧ Sent.tag c (tagFrame 3 (new.flatMap (toLe 8))) ∈ t.sent))) ∧
        (signed = false → NoReset s 7 10 → Runs (.tagResponse c raw) s (fun t => t.rd 7 CRT_PORT_STATE c = 2 ∧ t.rd 7 CRT_STEP c = 0 ∧
          t.mdie.mirror = s.mdie.mirror ∧ (Judged s 7 10 → bit (t.rd 7 FCL_ERR_STATUS) 10 = true)))))) ∧
  (∀ (failed : List Nat) (s : State), s.mUp = true → s.mdie.ports.length = 8 → NoReset s 7 11 → NoReset s 7 12 →
    Runs (.tagCounterWriteback failed) s (fun t => t.rd 7 CRT_LAST_WB = s.now % 2 ^ 64 ∧ t.mdie.mirror = s.mdie.mirror ∧ ∀ c, c < 8 →
      (s.rd 7 CRT_PORT_STATE c = 3 → ∀ r, s.mirrorOf (s.rd 7 CRT_SERIAL c) = some r →
        Sent.tag c (tagFrame 3 (r.counters.flatMap (toLe 8))) ∈ t.sent ∧ (∀ k, k < 4 → t.rd 7 CRT_COUNTER (4 * c + k) = r.counters.getD k 0 % 2 ^ 64) ∧
        (c ∉ failed → (t.mdie.ports.getD c {}).counters = r.counters) ∧
        (c ∈ failed → Judged s 7 12 → bit (t.rd 7 FCL_ERR_STATUS) 12 = true)) ∧
      (s.rd 7 CRT_PORT_STATE c ≠ 3 → t.mdie.ports.getD c {} = s.mdie.ports.getD c {}))) ∧
  (∀ (l : LaneId) (r : CartReport) (s : State), s.up l = true →
    (s.rd l.reg INT_M_LOST = 0 → Runs (.cartReportReceive l r) s (fun t => t = s.setLane l { s.lane l with cart := some r })) ∧
    (s.rd l.reg INT_M_LOST ≠ 0 → Runs (.cartReportReceive l r) s (fun t => t = s))) ∧
  (∀ s : State, s.mUp = false → ∀ c ∈ [Instr.updateSessionTimeout, .updateVerifyDone, .attestSignDone, .lifecycleNonceExpiry, .mxinLoss,
    .tagPortChange 0 true, .tagTimeout 0, .tagResponse 0 [], .tagCounterWriteback []], Runs c s (fun t => t = s))
end

