-- ==== Sys2Proof/Laws/Store.lean ====
section
/-! SUPPORT. The laws of the parameter store: what a place reads after a write, and that every operation keeps the canonical
form. -/

namespace Sys2Proof.Machine

/-! ### The order of places -/

theorem PKey.lt_irrefl (a : PKey) : a.lt a = false := by simp [PKey.lt]

theorem PKey.lt_trans {a b c : PKey} (h : a.lt b = true) (g : b.lt c = true) : a.lt c = true := by
  simp only [PKey.lt, decide_eq_true_eq] at *
  omega

theorem PKey.ne_of_lt {a b : PKey} (h : a.lt b = true) : a ≠ b := by
  rintro rfl; simp [PKey.lt_irrefl] at h

theorem PKey.lt_of_not {a b : PKey} (h : a ≠ b) (g : a.lt b = false) : b.lt a = true := by
  rcases a with ⟨a1, a2, a3, a4⟩
  rcases b with ⟨b1, b2, b3, b4⟩
  simp only [PKey.lt, decide_eq_true_eq, decide_eq_false_iff_not, ne_eq, PKey.mk.injEq] at *
  omega

/-! ### Reading after a change -/

theorem Store.find_insert (m : Store) (k k' : PKey) (v : Nat) :
    Store.find k' (Store.insert k v m) = if k' = k then some v else Store.find k' m := by
  induction m with
  | nil => simp [Store.insert, Store.find]
  | cons e r ih =>
    obtain ⟨a, w⟩ := e
    simp only [Store.insert]
    split
    · next h => subst h; by_cases g : k' = k <;> simp [Store.find, g]
    · split
      · by_cases g : k' = k <;> simp [Store.find, g]
      · by_cases g : k' = a
        · subst g
          have : ¬ k' = k := fun e => by simp_all
          simp [Store.find, this]
        · simp [Store.find, g, ih]

theorem Store.find_filter (m : Store) (p : PKey → Bool) (k : PKey) :
    Store.find k (m.filter (fun e => p e.1)) = if p k then Store.find k m else none := by
  induction m with
  | nil => simp [Store.find]
  | cons e r ih =>
    obtain ⟨a, w⟩ := e
    by_cases g : k = a
    · subst g
      by_cases h : p k <;> simp_all [Store.find, List.filter_cons]
    · by_cases h : p a <;> simp_all [Store.find, List.filter_cons]

theorem Store.find_erase (m : Store) (k k' : PKey) :
    Store.find k' (Store.erase m k) = if k' = k then none else Store.find k' m := by
  have h := Store.find_filter m (fun x => x != k) k'
  simp only [Store.erase]
  rw [h]
  by_cases g : k' = k <;> simp [g]

/-- A place reads what was written, cut to its width; every other place reads as before. -/
theorem Store.get_put (m : Store) (k k' : PKey) (v : Nat) :
    (m.put k v).get k' = if k' = k then v % 2 ^ widthOf k else m.get k' := by
  unfold Store.put Store.get
  split
  · next h =>
    rw [Store.find_erase]
    by_cases g : k' = k
    · subst g; simp [h]
    · simp [g]
  · rw [Store.find_insert]
    by_cases g : k' = k <;> simp [g]

@[simp] theorem Store.get_put_same (m : Store) (k : PKey) (v : Nat) : (m.put k v).get k = v % 2 ^ widthOf k := by
  simp [Store.get_put]

theorem Store.get_put_ne (m : Store) {k k' : PKey} (v : Nat) (h : k' ≠ k) : (m.put k v).get k' = m.get k' := by
  simp [Store.get_put, h]

/-- A place not listed any more reads its reset value; every other place reads as before. -/
theorem Store.get_erase (m : Store) (k k' : PKey) :
    (m.erase k).get k' = if k' = k then resetOf k else m.get k' := by
  unfold Store.get
  rw [Store.find_erase]
  by_cases g : k' = k
  · subst g; simp
  · simp [g]

/-- A store cut to some places: those read as before, the others their reset values. -/
theorem Store.get_filter (m : Store) (p : PKey → Bool) (k : PKey) :
    Store.get (m.filter (fun e => p e.1)) k = if p k then m.get k else resetOf k := by
  unfold Store.get
  rw [Store.find_filter]
  by_cases h : p k <;> simp [h]

/-! ### The canonical form -/

theorem Store.wf_nil : Store.wf [] = true := rfl

theorem Store.wf_cons {k : PKey} {v : Nat} {r : Store} :
    Store.wf ((k, v) :: r) = true ↔
      (∀ e ∈ r, k.lt e.1 = true) ∧ v < 2 ^ widthOf k ∧ v ≠ resetOf k ∧ Store.wf r = true := by
  simp only [Store.wf, Bool.and_eq_true, List.all_eq_true, decide_eq_true_eq]
  tauto

theorem Store.mem_insert {k : PKey} {v : Nat} {m : Store} {e : PKey × Nat} (h : e ∈ Store.insert k v m) :
    e = (k, v) ∨ e ∈ m := by
  induction m with
  | nil => simp [Store.insert] at h; exact Or.inl h
  | cons x r ih =>
    obtain ⟨a, w⟩ := x
    simp only [Store.insert] at h
    split at h
    · simp only [List.mem_cons] at h ⊢; tauto
    · split at h
      · simp only [List.mem_cons] at h ⊢; tauto
      · simp only [List.mem_cons] at h ⊢
        rcases h with h | h
        · tauto
        · have := ih h; tauto

theorem Store.wf_insert {m : Store} {k : PKey} {v : Nat} (h : m.wf = true) (hv : v < 2 ^ widthOf k) (hr : v ≠ resetOf k) :
    (Store.insert k v m).wf = true := by
  induction m with
  | nil => simp [Store.insert, Store.wf, hv, hr]
  | cons x r ih =>
    obtain ⟨a, w⟩ := x
    obtain ⟨h1, h2, h3, h4⟩ := Store.wf_cons.mp h
    simp only [Store.insert]
    split
    · next g => subst g; exact Store.wf_cons.mpr ⟨h1, hv, hr, h4⟩
    · next g =>
      split
      · next g' =>
        refine Store.wf_cons.mpr ⟨?_, hv, hr, h⟩
        intro e he
        rcases List.mem_cons.mp he with he | he
        · subst he; exact g'
        · exact PKey.lt_trans g' (h1 e he)
      · next g' =>
        refine Store.wf_cons.mpr ⟨?_, h2, h3, ih h4⟩
        intro e he
        rcases Store.mem_insert he with he | he
        · subst he; exact PKey.lt_of_not g (by simpa using g')
        · exact h1 e he

theorem Store.wf_filter {m : Store} (p : PKey × Nat → Bool) (h : m.wf = true) : Store.wf (m.filter p) = true := by
  induction m with
  | nil => simp [Store.wf]
  | cons x r ih =>
    obtain ⟨a, w⟩ := x
    obtain ⟨h1, h2, h3, h4⟩ := Store.wf_cons.mp h
    by_cases g : p (a, w) = true
    · rw [List.filter_cons_of_pos g]
      exact Store.wf_cons.mpr ⟨fun e he => h1 e (List.mem_of_mem_filter he), h2, h3, ih h4⟩
    · rw [List.filter_cons_of_neg g]
      exact ih h4

theorem Store.wf_erase {m : Store} (k : PKey) (h : m.wf = true) : (m.erase k).wf = true := Store.wf_filter _ h

/-- A write keeps the canonical form. -/
theorem Store.wf_put {m : Store} (k : PKey) (v : Nat) (h : m.wf = true) : (m.put k v).wf = true := by
  unfold Store.put
  split
  · exact Store.wf_erase k h
  · next g => exact Store.wf_insert h (Nat.mod_lt _ (Nat.two_pow_pos _)) g

/-- Several writes keep the canonical form. -/
theorem Store.wf_foldl {α : Type} (f : Store → α → Store) (hf : ∀ m a, m.wf = true → (f m a).wf = true) :
    ∀ (xs : List α) (m : Store), m.wf = true → (xs.foldl f m).wf = true
  | [], _, h => h
  | a :: xs, m, h => Store.wf_foldl f hf xs (f m a) (hf m a h)

end Sys2Proof.Machine
end

