-- ==== Sys2Proof/Laws/State.lean ====
section
/-! SUPPORT. What each update of the state does to each field: one lemma per field per update, and what a parameter reads
after each. -/

namespace Sys2Proof.Machine

/-! ### One parameter written -/

@[simp] theorem State.wr_part (s : State) (r : Nat) (d : PDesc) (i v : Nat) : (s.wr r d i v).part = s.part := rfl
@[simp] theorem State.wr_la (s : State) (r : Nat) (d : PDesc) (i v : Nat) : (s.wr r d i v).la = s.la := rfl
@[simp] theorem State.wr_lb (s : State) (r : Nat) (d : PDesc) (i v : Nat) : (s.wr r d i v).lb = s.lb := rfl
@[simp] theorem State.wr_lc (s : State) (r : Nat) (d : PDesc) (i v : Nat) : (s.wr r d i v).lc = s.lc := rfl
@[simp] theorem State.wr_links (s : State) (r : Nat) (d : PDesc) (i v : Nat) : (s.wr r d i v).links = s.links := rfl
@[simp] theorem State.wr_sdie (s : State) (r : Nat) (d : PDesc) (i v : Nat) : (s.wr r d i v).sdie = s.sdie := rfl
@[simp] theorem State.wr_mdie (s : State) (r : Nat) (d : PDesc) (i v : Nat) : (s.wr r d i v).mdie = s.mdie := rfl
@[simp] theorem State.wr_recoveries (s : State) (r : Nat) (d : PDesc) (i v : Nat) : (s.wr r d i v).recoveries = s.recoveries := rfl
@[simp] theorem State.wr_archive (s : State) (r : Nat) (d : PDesc) (i v : Nat) : (s.wr r d i v).archive = s.archive := rfl
@[simp] theorem State.wr_journal (s : State) (r : Nat) (d : PDesc) (i v : Nat) : (s.wr r d i v).journal = s.journal := rfl
@[simp] theorem State.wr_sent (s : State) (r : Nat) (d : PDesc) (i v : Nat) : (s.wr r d i v).sent = s.sent := rfl
@[simp] theorem State.wr_now (s : State) (r : Nat) (d : PDesc) (i v : Nat) : (s.wr r d i v).now = s.now := rfl
@[simp] theorem State.wr_fv (s : State) (r : Nat) (d : PDesc) (i v : Nat) : (s.wr r d i v).fv = s.fv := rfl
@[simp] theorem State.wr_pending (s : State) (r : Nat) (d : PDesc) (i v : Nat) : (s.wr r d i v).pending = s.pending := rfl

@[simp] theorem State.wr_lane (s : State) (r : Nat) (d : PDesc) (i v : Nat) (l : LaneId) : (s.wr r d i v).lane l = s.lane l := by
  cases l <;> rfl

/-- A parameter after a write: the value cut to its width at the place written, as before at every other. -/
theorem State.rd_wr (s : State) (r : Nat) (d : PDesc) (i v r' : Nat) (d' : PDesc) (i' : Nat) :
    (s.wr r d i v).rd r' d' i' = if d'.key r' i' = d.key r i then v % 2 ^ widthOf (d.key r i) else s.rd r' d' i' :=
  Store.get_put _ _ _ _

theorem State.rd_wr_same (s : State) (r : Nat) (d : PDesc) (i v : Nat) :
    (s.wr r d i v).rd r d i = v % 2 ^ widthOf (d.key r i) := by simp [State.rd_wr]

@[simp] theorem State.rd_wr_zero (s : State) (r : Nat) (d : PDesc) (i : Nat) : (s.wr r d i 0).rd r d i = 0 := by
  simp [State.rd_wr_same]

/-- Another region's parameters do not change. -/
theorem State.rd_wr_region (s : State) {r r' : Nat} (d d' : PDesc) (i v i' : Nat) (h : r' ≠ r) :
    (s.wr r d i v).rd r' d' i' = s.rd r' d' i' := by simp [State.rd_wr, PDesc.key, h]

/-- Another block's parameters do not change. -/
theorem State.rd_wr_block (s : State) (r r' : Nat) {d d' : PDesc} (i v i' : Nat) (h : d'.block ≠ d.block) :
    (s.wr r d i v).rd r' d' i' = s.rd r' d' i' := by simp [State.rd_wr, PDesc.key, h]

/-- A parameter at another index does not change, instances below 256. -/
theorem State.rd_wr_index (s : State) (r r' : Nat) {d d' : PDesc} {i i' : Nat} (v : Nat) (h : d'.index ≠ d.index)
    (hi : i < 256) (hi' : i' < 256) : (s.wr r d i v).rd r' d' i' = s.rd r' d' i' := by
  have a : i / 256 = 0 := by omega
  have b : i' / 256 = 0 := by omega
  simp [State.rd_wr, PDesc.key, a, b, h]

/-- Another instance does not change. -/
theorem State.rd_wr_inst (s : State) (r r' : Nat) (d : PDesc) {i i' : Nat} (v : Nat) (h : i' ≠ i) (hi : i < 256)
    (hi' : i' < 256) : (s.wr r d i v).rd r' d i' = s.rd r' d i' := by
  have a : i % 256 = i := by omega
  have b : i' % 256 = i' := by omega
  simp [State.rd_wr, PDesc.key, a, b, h]

/-! ### One parameter at its reset value -/

@[simp] theorem State.clr_part (s : State) (r : Nat) (d : PDesc) (i : Nat) : (s.clr r d i).part = s.part := rfl
@[simp] theorem State.clr_la (s : State) (r : Nat) (d : PDesc) (i : Nat) : (s.clr r d i).la = s.la := rfl
@[simp] theorem State.clr_lb (s : State) (r : Nat) (d : PDesc) (i : Nat) : (s.clr r d i).lb = s.lb := rfl
@[simp] theorem State.clr_lc (s : State) (r : Nat) (d : PDesc) (i : Nat) : (s.clr r d i).lc = s.lc := rfl
@[simp] theorem State.clr_links (s : State) (r : Nat) (d : PDesc) (i : Nat) : (s.clr r d i).links = s.links := rfl
@[simp] theorem State.clr_sdie (s : State) (r : Nat) (d : PDesc) (i : Nat) : (s.clr r d i).sdie = s.sdie := rfl
@[simp] theorem State.clr_mdie (s : State) (r : Nat) (d : PDesc) (i : Nat) : (s.clr r d i).mdie = s.mdie := rfl
@[simp] theorem State.clr_recoveries (s : State) (r : Nat) (d : PDesc) (i : Nat) : (s.clr r d i).recoveries = s.recoveries := rfl
@[simp] theorem State.clr_archive (s : State) (r : Nat) (d : PDesc) (i : Nat) : (s.clr r d i).archive = s.archive := rfl
@[simp] theorem State.clr_journal (s : State) (r : Nat) (d : PDesc) (i : Nat) : (s.clr r d i).journal = s.journal := rfl
@[simp] theorem State.clr_sent (s : State) (r : Nat) (d : PDesc) (i : Nat) : (s.clr r d i).sent = s.sent := rfl
@[simp] theorem State.clr_now (s : State) (r : Nat) (d : PDesc) (i : Nat) : (s.clr r d i).now = s.now := rfl
@[simp] theorem State.clr_fv (s : State) (r : Nat) (d : PDesc) (i : Nat) : (s.clr r d i).fv = s.fv := rfl
@[simp] theorem State.clr_pending (s : State) (r : Nat) (d : PDesc) (i : Nat) : (s.clr r d i).pending = s.pending := rfl

theorem State.rd_clr (s : State) (r : Nat) (d : PDesc) (i r' : Nat) (d' : PDesc) (i' : Nat) :
    (s.clr r d i).rd r' d' i' = if d'.key r' i' = d.key r i then resetOf (d.key r i) else s.rd r' d' i' :=
  Store.get_erase _ _ _

/-! ### A lane's records -/

@[simp] theorem State.setLane_part (s : State) (l : LaneId) (x : Lane) : (s.setLane l x).part = s.part := by cases l <;> rfl
@[simp] theorem State.setLane_params (s : State) (l : LaneId) (x : Lane) : (s.setLane l x).params = s.params := by cases l <;> rfl
@[simp] theorem State.setLane_links (s : State) (l : LaneId) (x : Lane) : (s.setLane l x).links = s.links := by cases l <;> rfl
@[simp] theorem State.setLane_sdie (s : State) (l : LaneId) (x : Lane) : (s.setLane l x).sdie = s.sdie := by cases l <;> rfl
@[simp] theorem State.setLane_mdie (s : State) (l : LaneId) (x : Lane) : (s.setLane l x).mdie = s.mdie := by cases l <;> rfl
@[simp] theorem State.setLane_recoveries (s : State) (l : LaneId) (x : Lane) : (s.setLane l x).recoveries = s.recoveries := by cases l <;> rfl
@[simp] theorem State.setLane_archive (s : State) (l : LaneId) (x : Lane) : (s.setLane l x).archive = s.archive := by cases l <;> rfl
@[simp] theorem State.setLane_journal (s : State) (l : LaneId) (x : Lane) : (s.setLane l x).journal = s.journal := by cases l <;> rfl
@[simp] theorem State.setLane_sent (s : State) (l : LaneId) (x : Lane) : (s.setLane l x).sent = s.sent := by cases l <;> rfl
@[simp] theorem State.setLane_now (s : State) (l : LaneId) (x : Lane) : (s.setLane l x).now = s.now := by cases l <;> rfl
@[simp] theorem State.setLane_fv (s : State) (l : LaneId) (x : Lane) : (s.setLane l x).fv = s.fv := by cases l <;> rfl
@[simp] theorem State.setLane_pending (s : State) (l : LaneId) (x : Lane) : (s.setLane l x).pending = s.pending := by cases l <;> rfl

@[simp] theorem State.setLane_rd (s : State) (l : LaneId) (x : Lane) (r : Nat) (d : PDesc) (i : Nat) :
    (s.setLane l x).rd r d i = s.rd r d i := by cases l <;> rfl

@[simp] theorem State.lane_setLane (s : State) (l : LaneId) (x : Lane) : (s.setLane l x).lane l = x := by cases l <;> rfl

theorem State.lane_setLane_ne (s : State) {l l' : LaneId} (x : Lane) (h : l' ≠ l) : (s.setLane l x).lane l' = s.lane l' := by
  cases l <;> cases l' <;> first | rfl | exact absurd rfl h

@[simp] theorem State.modLane_part (s : State) (l : LaneId) (f : Lane → Lane) : (s.modLane l f).part = s.part := by cases l <;> rfl
@[simp] theorem State.modLane_params (s : State) (l : LaneId) (f : Lane → Lane) : (s.modLane l f).params = s.params := by cases l <;> rfl
@[simp] theorem State.modLane_links (s : State) (l : LaneId) (f : Lane → Lane) : (s.modLane l f).links = s.links := by cases l <;> rfl
@[simp] theorem State.modLane_sdie (s : State) (l : LaneId) (f : Lane → Lane) : (s.modLane l f).sdie = s.sdie := by cases l <;> rfl
@[simp] theorem State.modLane_mdie (s : State) (l : LaneId) (f : Lane → Lane) : (s.modLane l f).mdie = s.mdie := by cases l <;> rfl
@[simp] theorem State.modLane_recoveries (s : State) (l : LaneId) (f : Lane → Lane) : (s.modLane l f).recoveries = s.recoveries := by cases l <;> rfl
@[simp] theorem State.modLane_archive (s : State) (l : LaneId) (f : Lane → Lane) : (s.modLane l f).archive = s.archive := by cases l <;> rfl
@[simp] theorem State.modLane_journal (s : State) (l : LaneId) (f : Lane → Lane) : (s.modLane l f).journal = s.journal := by cases l <;> rfl
@[simp] theorem State.modLane_sent (s : State) (l : LaneId) (f : Lane → Lane) : (s.modLane l f).sent = s.sent := by cases l <;> rfl
@[simp] theorem State.modLane_now (s : State) (l : LaneId) (f : Lane → Lane) : (s.modLane l f).now = s.now := by cases l <;> rfl
@[simp] theorem State.modLane_fv (s : State) (l : LaneId) (f : Lane → Lane) : (s.modLane l f).fv = s.fv := by cases l <;> rfl
@[simp] theorem State.modLane_pending (s : State) (l : LaneId) (f : Lane → Lane) : (s.modLane l f).pending = s.pending := by cases l <;> rfl

@[simp] theorem State.modLane_rd (s : State) (l : LaneId) (f : Lane → Lane) (r : Nat) (d : PDesc) (i : Nat) :
    (s.modLane l f).rd r d i = s.rd r d i := by cases l <;> rfl

@[simp] theorem State.lane_modLane (s : State) (l : LaneId) (f : Lane → Lane) : (s.modLane l f).lane l = f (s.lane l) := by
  cases l <;> rfl

theorem State.lane_modLane_ne (s : State) {l l' : LaneId} (f : Lane → Lane) (h : l' ≠ l) :
    (s.modLane l f).lane l' = s.lane l' := State.lane_setLane_ne s _ h


@[simp] theorem State.modBridge_part (s : State) (l : LaneId) (b : Nat) (f : Bridge → Bridge) : (s.modBridge l b f).part = s.part := by cases l <;> rfl
@[simp] theorem State.modBridge_params (s : State) (l : LaneId) (b : Nat) (f : Bridge → Bridge) : (s.modBridge l b f).params = s.params := by cases l <;> rfl
@[simp] theorem State.modBridge_links (s : State) (l : LaneId) (b : Nat) (f : Bridge → Bridge) : (s.modBridge l b f).links = s.links := by cases l <;> rfl
@[simp] theorem State.modBridge_sdie (s : State) (l : LaneId) (b : Nat) (f : Bridge → Bridge) : (s.modBridge l b f).sdie = s.sdie := by cases l <;> rfl
@[simp] theorem State.modBridge_mdie (s : State) (l : LaneId) (b : Nat) (f : Bridge → Bridge) : (s.modBridge l b f).mdie = s.mdie := by cases l <;> rfl
@[simp] theorem State.modBridge_recoveries (s : State) (l : LaneId) (b : Nat) (f : Bridge → Bridge) : (s.modBridge l b f).recoveries = s.recoveries := by cases l <;> rfl
@[simp] theorem State.modBridge_archive (s : State) (l : LaneId) (b : Nat) (f : Bridge → Bridge) : (s.modBridge l b f).archive = s.archive := by cases l <;> rfl
@[simp] theorem State.modBridge_journal (s : State) (l : LaneId) (b : Nat) (f : Bridge → Bridge) : (s.modBridge l b f).journal = s.journal := by cases l <;> rfl
@[simp] theorem State.modBridge_sent (s : State) (l : LaneId) (b : Nat) (f : Bridge → Bridge) : (s.modBridge l b f).sent = s.sent := by cases l <;> rfl
@[simp] theorem State.modBridge_now (s : State) (l : LaneId) (b : Nat) (f : Bridge → Bridge) : (s.modBridge l b f).now = s.now := by cases l <;> rfl
@[simp] theorem State.modBridge_fv (s : State) (l : LaneId) (b : Nat) (f : Bridge → Bridge) : (s.modBridge l b f).fv = s.fv := by cases l <;> rfl
@[simp] theorem State.modBridge_pending (s : State) (l : LaneId) (b : Nat) (f : Bridge → Bridge) : (s.modBridge l b f).pending = s.pending := by cases l <;> rfl
@[simp] theorem State.modBridge_rd (s : State) (l : LaneId) (b : Nat) (f : Bridge → Bridge) (r : Nat) (d : PDesc) (i : Nat) :
    (s.modBridge l b f).rd r d i = s.rd r d i := by cases l <;> rfl

@[simp] theorem State.modWbe_part (s : State) (l : LaneId) (f : Wbe → Wbe) : (s.modWbe l f).part = s.part := by cases l <;> rfl
@[simp] theorem State.modWbe_params (s : State) (l : LaneId) (f : Wbe → Wbe) : (s.modWbe l f).params = s.params := by cases l <;> rfl
@[simp] theorem State.modWbe_links (s : State) (l : LaneId) (f : Wbe → Wbe) : (s.modWbe l f).links = s.links := by cases l <;> rfl
@[simp] theorem State.modWbe_sdie (s : State) (l : LaneId) (f : Wbe → Wbe) : (s.modWbe l f).sdie = s.sdie := by cases l <;> rfl
@[simp] theorem State.modWbe_mdie (s : State) (l : LaneId) (f : Wbe → Wbe) : (s.modWbe l f).mdie = s.mdie := by cases l <;> rfl
@[simp] theorem State.modWbe_recoveries (s : State) (l : LaneId) (f : Wbe → Wbe) : (s.modWbe l f).recoveries = s.recoveries := by cases l <;> rfl
@[simp] theorem State.modWbe_archive (s : State) (l : LaneId) (f : Wbe → Wbe) : (s.modWbe l f).archive = s.archive := by cases l <;> rfl
@[simp] theorem State.modWbe_journal (s : State) (l : LaneId) (f : Wbe → Wbe) : (s.modWbe l f).journal = s.journal := by cases l <;> rfl
@[simp] theorem State.modWbe_sent (s : State) (l : LaneId) (f : Wbe → Wbe) : (s.modWbe l f).sent = s.sent := by cases l <;> rfl
@[simp] theorem State.modWbe_now (s : State) (l : LaneId) (f : Wbe → Wbe) : (s.modWbe l f).now = s.now := by cases l <;> rfl
@[simp] theorem State.modWbe_fv (s : State) (l : LaneId) (f : Wbe → Wbe) : (s.modWbe l f).fv = s.fv := by cases l <;> rfl
@[simp] theorem State.modWbe_pending (s : State) (l : LaneId) (f : Wbe → Wbe) : (s.modWbe l f).pending = s.pending := by cases l <;> rfl
@[simp] theorem State.modWbe_rd (s : State) (l : LaneId) (f : Wbe → Wbe) (r : Nat) (d : PDesc) (i : Nat) :
    (s.modWbe l f).rd r d i = s.rd r d i := by cases l <;> rfl

@[simp] theorem State.modHst_part (s : State) (l : LaneId) (f : Hst → Hst) : (s.modHst l f).part = s.part := by cases l <;> rfl
@[simp] theorem State.modHst_params (s : State) (l : LaneId) (f : Hst → Hst) : (s.modHst l f).params = s.params := by cases l <;> rfl
@[simp] theorem State.modHst_links (s : State) (l : LaneId) (f : Hst → Hst) : (s.modHst l f).links = s.links := by cases l <;> rfl
@[simp] theorem State.modHst_sdie (s : State) (l : LaneId) (f : Hst → Hst) : (s.modHst l f).sdie = s.sdie := by cases l <;> rfl
@[simp] theorem State.modHst_mdie (s : State) (l : LaneId) (f : Hst → Hst) : (s.modHst l f).mdie = s.mdie := by cases l <;> rfl
@[simp] theorem State.modHst_recoveries (s : State) (l : LaneId) (f : Hst → Hst) : (s.modHst l f).recoveries = s.recoveries := by cases l <;> rfl
@[simp] theorem State.modHst_archive (s : State) (l : LaneId) (f : Hst → Hst) : (s.modHst l f).archive = s.archive := by cases l <;> rfl
@[simp] theorem State.modHst_journal (s : State) (l : LaneId) (f : Hst → Hst) : (s.modHst l f).journal = s.journal := by cases l <;> rfl
@[simp] theorem State.modHst_sent (s : State) (l : LaneId) (f : Hst → Hst) : (s.modHst l f).sent = s.sent := by cases l <;> rfl
@[simp] theorem State.modHst_now (s : State) (l : LaneId) (f : Hst → Hst) : (s.modHst l f).now = s.now := by cases l <;> rfl
@[simp] theorem State.modHst_fv (s : State) (l : LaneId) (f : Hst → Hst) : (s.modHst l f).fv = s.fv := by cases l <;> rfl
@[simp] theorem State.modHst_pending (s : State) (l : LaneId) (f : Hst → Hst) : (s.modHst l f).pending = s.pending := by cases l <;> rfl
@[simp] theorem State.modHst_rd (s : State) (l : LaneId) (f : Hst → Hst) (r : Nat) (d : PDesc) (i : Nat) :
    (s.modHst l f).rd r d i = s.rd r d i := by cases l <;> rfl

@[simp] theorem State.modVot_part (s : State) (l : LaneId) (f : Vot → Vot) : (s.modVot l f).part = s.part := by cases l <;> rfl
@[simp] theorem State.modVot_params (s : State) (l : LaneId) (f : Vot → Vot) : (s.modVot l f).params = s.params := by cases l <;> rfl
@[simp] theorem State.modVot_links (s : State) (l : LaneId) (f : Vot → Vot) : (s.modVot l f).links = s.links := by cases l <;> rfl
@[simp] theorem State.modVot_sdie (s : State) (l : LaneId) (f : Vot → Vot) : (s.modVot l f).sdie = s.sdie := by cases l <;> rfl
@[simp] theorem State.modVot_mdie (s : State) (l : LaneId) (f : Vot → Vot) : (s.modVot l f).mdie = s.mdie := by cases l <;> rfl
@[simp] theorem State.modVot_recoveries (s : State) (l : LaneId) (f : Vot → Vot) : (s.modVot l f).recoveries = s.recoveries := by cases l <;> rfl
@[simp] theorem State.modVot_archive (s : State) (l : LaneId) (f : Vot → Vot) : (s.modVot l f).archive = s.archive := by cases l <;> rfl
@[simp] theorem State.modVot_journal (s : State) (l : LaneId) (f : Vot → Vot) : (s.modVot l f).journal = s.journal := by cases l <;> rfl
@[simp] theorem State.modVot_sent (s : State) (l : LaneId) (f : Vot → Vot) : (s.modVot l f).sent = s.sent := by cases l <;> rfl
@[simp] theorem State.modVot_now (s : State) (l : LaneId) (f : Vot → Vot) : (s.modVot l f).now = s.now := by cases l <;> rfl
@[simp] theorem State.modVot_fv (s : State) (l : LaneId) (f : Vot → Vot) : (s.modVot l f).fv = s.fv := by cases l <;> rfl
@[simp] theorem State.modVot_pending (s : State) (l : LaneId) (f : Vot → Vot) : (s.modVot l f).pending = s.pending := by cases l <;> rfl
@[simp] theorem State.modVot_rd (s : State) (l : LaneId) (f : Vot → Vot) (r : Nat) (d : PDesc) (i : Nat) :
    (s.modVot l f).rd r d i = s.rd r d i := by cases l <;> rfl

@[simp] theorem State.modWbe_wbe (s : State) (l : LaneId) (f : Wbe → Wbe) : ((s.modWbe l f).lane l).wbe = f (s.lane l).wbe := by
  simp [State.modWbe]

@[simp] theorem State.modHst_hst (s : State) (l : LaneId) (f : Hst → Hst) : ((s.modHst l f).lane l).hst = f (s.lane l).hst := by
  simp [State.modHst]

@[simp] theorem State.modVot_vot (s : State) (l : LaneId) (f : Vot → Vot) : ((s.modVot l f).lane l).vot = f (s.lane l).vot := by
  simp [State.modVot]

/-! ### Time and free values -/

@[simp] theorem State.atTime_part (s : State) (t : Nat) : (s.atTime t).part = s.part := rfl
@[simp] theorem State.atTime_params (s : State) (t : Nat) : (s.atTime t).params = s.params := rfl
@[simp] theorem State.atTime_la (s : State) (t : Nat) : (s.atTime t).la = s.la := rfl
@[simp] theorem State.atTime_lb (s : State) (t : Nat) : (s.atTime t).lb = s.lb := rfl
@[simp] theorem State.atTime_lc (s : State) (t : Nat) : (s.atTime t).lc = s.lc := rfl
@[simp] theorem State.atTime_links (s : State) (t : Nat) : (s.atTime t).links = s.links := rfl
@[simp] theorem State.atTime_sdie (s : State) (t : Nat) : (s.atTime t).sdie = s.sdie := rfl
@[simp] theorem State.atTime_mdie (s : State) (t : Nat) : (s.atTime t).mdie = s.mdie := rfl
@[simp] theorem State.atTime_recoveries (s : State) (t : Nat) : (s.atTime t).recoveries = s.recoveries := rfl
@[simp] theorem State.atTime_archive (s : State) (t : Nat) : (s.atTime t).archive = s.archive := rfl
@[simp] theorem State.atTime_journal (s : State) (t : Nat) : (s.atTime t).journal = s.journal := rfl
@[simp] theorem State.atTime_sent (s : State) (t : Nat) : (s.atTime t).sent = s.sent := rfl
@[simp] theorem State.atTime_pending (s : State) (t : Nat) : (s.atTime t).pending = s.pending := rfl
@[simp] theorem State.atTime_now (s : State) (t : Nat) : (s.atTime t).now = max s.now t := rfl
@[simp] theorem State.atTime_rd (s : State) (t r : Nat) (d : PDesc) (i : Nat) : (s.atTime t).rd r d i = s.rd r d i := rfl
@[simp] theorem State.atTime_lane (s : State) (t : Nat) (l : LaneId) : (s.atTime t).lane l = s.lane l := by cases l <;> rfl
@[simp] theorem State.draw_part (s : State) : (s.draw).2.part = s.part := rfl
@[simp] theorem State.draw_params (s : State) : (s.draw).2.params = s.params := rfl
@[simp] theorem State.draw_la (s : State) : (s.draw).2.la = s.la := rfl
@[simp] theorem State.draw_lb (s : State) : (s.draw).2.lb = s.lb := rfl
@[simp] theorem State.draw_lc (s : State) : (s.draw).2.lc = s.lc := rfl
@[simp] theorem State.draw_links (s : State) : (s.draw).2.links = s.links := rfl
@[simp] theorem State.draw_sdie (s : State) : (s.draw).2.sdie = s.sdie := rfl
@[simp] theorem State.draw_mdie (s : State) : (s.draw).2.mdie = s.mdie := rfl
@[simp] theorem State.draw_recoveries (s : State) : (s.draw).2.recoveries = s.recoveries := rfl
@[simp] theorem State.draw_archive (s : State) : (s.draw).2.archive = s.archive := rfl
@[simp] theorem State.draw_journal (s : State) : (s.draw).2.journal = s.journal := rfl
@[simp] theorem State.draw_sent (s : State) : (s.draw).2.sent = s.sent := rfl
@[simp] theorem State.draw_now (s : State) : (s.draw).2.now = s.now := rfl
@[simp] theorem State.draw_pending (s : State) : (s.draw).2.pending = s.pending := rfl

/-! ### Links and what is sent -/

@[simp] theorem State.setLink_part (s : State) (k : Link) (x : LinkSt) : (s.setLink k x).part = s.part := by
  unfold State.setLink; split <;> rfl
@[simp] theorem State.setLink_params (s : State) (k : Link) (x : LinkSt) : (s.setLink k x).params = s.params := by
  unfold State.setLink; split <;> rfl
@[simp] theorem State.setLink_la (s : State) (k : Link) (x : LinkSt) : (s.setLink k x).la = s.la := by
  unfold State.setLink; split <;> rfl
@[simp] theorem State.setLink_lb (s : State) (k : Link) (x : LinkSt) : (s.setLink k x).lb = s.lb := by
  unfold State.setLink; split <;> rfl
@[simp] theorem State.setLink_lc (s : State) (k : Link) (x : LinkSt) : (s.setLink k x).lc = s.lc := by
  unfold State.setLink; split <;> rfl
@[simp] theorem State.setLink_sdie (s : State) (k : Link) (x : LinkSt) : (s.setLink k x).sdie = s.sdie := by
  unfold State.setLink; split <;> rfl
@[simp] theorem State.setLink_mdie (s : State) (k : Link) (x : LinkSt) : (s.setLink k x).mdie = s.mdie := by
  unfold State.setLink; split <;> rfl
@[simp] theorem State.setLink_recoveries (s : State) (k : Link) (x : LinkSt) : (s.setLink k x).recoveries = s.recoveries := by
  unfold State.setLink; split <;> rfl
@[simp] theorem State.setLink_archive (s : State) (k : Link) (x : LinkSt) : (s.setLink k x).archive = s.archive := by
  unfold State.setLink; split <;> rfl
@[simp] theorem State.setLink_journal (s : State) (k : Link) (x : LinkSt) : (s.setLink k x).journal = s.journal := by
  unfold State.setLink; split <;> rfl
@[simp] theorem State.setLink_sent (s : State) (k : Link) (x : LinkSt) : (s.setLink k x).sent = s.sent := by
  unfold State.setLink; split <;> rfl
@[simp] theorem State.setLink_now (s : State) (k : Link) (x : LinkSt) : (s.setLink k x).now = s.now := by
  unfold State.setLink; split <;> rfl
@[simp] theorem State.setLink_fv (s : State) (k : Link) (x : LinkSt) : (s.setLink k x).fv = s.fv := by
  unfold State.setLink; split <;> rfl
@[simp] theorem State.setLink_pending (s : State) (k : Link) (x : LinkSt) : (s.setLink k x).pending = s.pending := by
  unfold State.setLink; split <;> rfl

@[simp] theorem State.pump_part (n : Nat) (k : Link) (s : State) : (State.pump n k s).part = s.part := by
  induction n generalizing s with
  | zero => rfl
  | succ n ih =>
    unfold State.pump
    split
    · rfl
    · split
      · rfl
      · rw [ih]; exact State.setLink_part s k _

@[simp] theorem State.linkSend_part (s : State) (k : Link) (type : Nat) (msg : List Byte) : (s.linkSend k type msg).part = s.part := by
  unfold State.linkSend
  split <;> simp

@[simp] theorem State.laneSend_part (s : State) (r : Nat) (dst : List Region) (type : Nat) (msg : List Byte) :
    (s.laneSend r dst type msg).part = s.part := by
  unfold State.laneSend
  split
  · rfl
  · next n _ =>
    induction dst generalizing s with
    | nil => rfl
    | cons a ds ih =>
      rw [List.foldl_cons, ih]
      split <;> simp

@[simp] theorem State.send_part (s : State) (x : Sent) : (s.send x).part = s.part := by
  unfold State.send State.onLinks
  split <;> simp

@[simp] theorem State.pump_params (n : Nat) (k : Link) (s : State) : (State.pump n k s).params = s.params := by
  induction n generalizing s with
  | zero => rfl
  | succ n ih =>
    unfold State.pump
    split
    · rfl
    · split
      · rfl
      · rw [ih]; exact State.setLink_params s k _

@[simp] theorem State.linkSend_params (s : State) (k : Link) (type : Nat) (msg : List Byte) : (s.linkSend k type msg).params = s.params := by
  unfold State.linkSend
  split <;> simp

@[simp] theorem State.laneSend_params (s : State) (r : Nat) (dst : List Region) (type : Nat) (msg : List Byte) :
    (s.laneSend r dst type msg).params = s.params := by
  unfold State.laneSend
  split
  · rfl
  · next n _ =>
    induction dst generalizing s with
    | nil => rfl
    | cons a ds ih =>
      rw [List.foldl_cons, ih]
      split <;> simp

@[simp] theorem State.send_params (s : State) (x : Sent) : (s.send x).params = s.params := by
  unfold State.send State.onLinks
  split <;> simp

@[simp] theorem State.pump_la (n : Nat) (k : Link) (s : State) : (State.pump n k s).la = s.la := by
  induction n generalizing s with
  | zero => rfl
  | succ n ih =>
    unfold State.pump
    split
    · rfl
    · split
      · rfl
      · rw [ih]; exact State.setLink_la s k _

@[simp] theorem State.linkSend_la (s : State) (k : Link) (type : Nat) (msg : List Byte) : (s.linkSend k type msg).la = s.la := by
  unfold State.linkSend
  split <;> simp

@[simp] theorem State.laneSend_la (s : State) (r : Nat) (dst : List Region) (type : Nat) (msg : List Byte) :
    (s.laneSend r dst type msg).la = s.la := by
  unfold State.laneSend
  split
  · rfl
  · next n _ =>
    induction dst generalizing s with
    | nil => rfl
    | cons a ds ih =>
      rw [List.foldl_cons, ih]
      split <;> simp

@[simp] theorem State.send_la (s : State) (x : Sent) : (s.send x).la = s.la := by
  unfold State.send State.onLinks
  split <;> simp

@[simp] theorem State.pump_lb (n : Nat) (k : Link) (s : State) : (State.pump n k s).lb = s.lb := by
  induction n generalizing s with
  | zero => rfl
  | succ n ih =>
    unfold State.pump
    split
    · rfl
    · split
      · rfl
      · rw [ih]; exact State.setLink_lb s k _

@[simp] theorem State.linkSend_lb (s : State) (k : Link) (type : Nat) (msg : List Byte) : (s.linkSend k type msg).lb = s.lb := by
  unfold State.linkSend
  split <;> simp

@[simp] theorem State.laneSend_lb (s : State) (r : Nat) (dst : List Region) (type : Nat) (msg : List Byte) :
    (s.laneSend r dst type msg).lb = s.lb := by
  unfold State.laneSend
  split
  · rfl
  · next n _ =>
    induction dst generalizing s with
    | nil => rfl
    | cons a ds ih =>
      rw [List.foldl_cons, ih]
      split <;> simp

@[simp] theorem State.send_lb (s : State) (x : Sent) : (s.send x).lb = s.lb := by
  unfold State.send State.onLinks
  split <;> simp

@[simp] theorem State.pump_lc (n : Nat) (k : Link) (s : State) : (State.pump n k s).lc = s.lc := by
  induction n generalizing s with
  | zero => rfl
  | succ n ih =>
    unfold State.pump
    split
    · rfl
    · split
      · rfl
      · rw [ih]; exact State.setLink_lc s k _

@[simp] theorem State.linkSend_lc (s : State) (k : Link) (type : Nat) (msg : List Byte) : (s.linkSend k type msg).lc = s.lc := by
  unfold State.linkSend
  split <;> simp

@[simp] theorem State.laneSend_lc (s : State) (r : Nat) (dst : List Region) (type : Nat) (msg : List Byte) :
    (s.laneSend r dst type msg).lc = s.lc := by
  unfold State.laneSend
  split
  · rfl
  · next n _ =>
    induction dst generalizing s with
    | nil => rfl
    | cons a ds ih =>
      rw [List.foldl_cons, ih]
      split <;> simp

@[simp] theorem State.send_lc (s : State) (x : Sent) : (s.send x).lc = s.lc := by
  unfold State.send State.onLinks
  split <;> simp

@[simp] theorem State.pump_sdie (n : Nat) (k : Link) (s : State) : (State.pump n k s).sdie = s.sdie := by
  induction n generalizing s with
  | zero => rfl
  | succ n ih =>
    unfold State.pump
    split
    · rfl
    · split
      · rfl
      · rw [ih]; exact State.setLink_sdie s k _

@[simp] theorem State.linkSend_sdie (s : State) (k : Link) (type : Nat) (msg : List Byte) : (s.linkSend k type msg).sdie = s.sdie := by
  unfold State.linkSend
  split <;> simp

@[simp] theorem State.laneSend_sdie (s : State) (r : Nat) (dst : List Region) (type : Nat) (msg : List Byte) :
    (s.laneSend r dst type msg).sdie = s.sdie := by
  unfold State.laneSend
  split
  · rfl
  · next n _ =>
    induction dst generalizing s with
    | nil => rfl
    | cons a ds ih =>
      rw [List.foldl_cons, ih]
      split <;> simp

@[simp] theorem State.send_sdie (s : State) (x : Sent) : (s.send x).sdie = s.sdie := by
  unfold State.send State.onLinks
  split <;> simp

@[simp] theorem State.pump_mdie (n : Nat) (k : Link) (s : State) : (State.pump n k s).mdie = s.mdie := by
  induction n generalizing s with
  | zero => rfl
  | succ n ih =>
    unfold State.pump
    split
    · rfl
    · split
      · rfl
      · rw [ih]; exact State.setLink_mdie s k _

@[simp] theorem State.linkSend_mdie (s : State) (k : Link) (type : Nat) (msg : List Byte) : (s.linkSend k type msg).mdie = s.mdie := by
  unfold State.linkSend
  split <;> simp

@[simp] theorem State.laneSend_mdie (s : State) (r : Nat) (dst : List Region) (type : Nat) (msg : List Byte) :
    (s.laneSend r dst type msg).mdie = s.mdie := by
  unfold State.laneSend
  split
  · rfl
  · next n _ =>
    induction dst generalizing s with
    | nil => rfl
    | cons a ds ih =>
      rw [List.foldl_cons, ih]
      split <;> simp

@[simp] theorem State.send_mdie (s : State) (x : Sent) : (s.send x).mdie = s.mdie := by
  unfold State.send State.onLinks
  split <;> simp

@[simp] theorem State.pump_recoveries (n : Nat) (k : Link) (s : State) : (State.pump n k s).recoveries = s.recoveries := by
  induction n generalizing s with
  | zero => rfl
  | succ n ih =>
    unfold State.pump
    split
    · rfl
    · split
      · rfl
      · rw [ih]; exact State.setLink_recoveries s k _

@[simp] theorem State.linkSend_recoveries (s : State) (k : Link) (type : Nat) (msg : List Byte) : (s.linkSend k type msg).recoveries = s.recoveries := by
  unfold State.linkSend
  split <;> simp

@[simp] theorem State.laneSend_recoveries (s : State) (r : Nat) (dst : List Region) (type : Nat) (msg : List Byte) :
    (s.laneSend r dst type msg).recoveries = s.recoveries := by
  unfold State.laneSend
  split
  · rfl
  · next n _ =>
    induction dst generalizing s with
    | nil => rfl
    | cons a ds ih =>
      rw [List.foldl_cons, ih]
      split <;> simp

@[simp] theorem State.send_recoveries (s : State) (x : Sent) : (s.send x).recoveries = s.recoveries := by
  unfold State.send State.onLinks
  split <;> simp

@[simp] theorem State.pump_archive (n : Nat) (k : Link) (s : State) : (State.pump n k s).archive = s.archive := by
  induction n generalizing s with
  | zero => rfl
  | succ n ih =>
    unfold State.pump
    split
    · rfl
    · split
      · rfl
      · rw [ih]; exact State.setLink_archive s k _

@[simp] theorem State.linkSend_archive (s : State) (k : Link) (type : Nat) (msg : List Byte) : (s.linkSend k type msg).archive = s.archive := by
  unfold State.linkSend
  split <;> simp

@[simp] theorem State.laneSend_archive (s : State) (r : Nat) (dst : List Region) (type : Nat) (msg : List Byte) :
    (s.laneSend r dst type msg).archive = s.archive := by
  unfold State.laneSend
  split
  · rfl
  · next n _ =>
    induction dst generalizing s with
    | nil => rfl
    | cons a ds ih =>
      rw [List.foldl_cons, ih]
      split <;> simp

@[simp] theorem State.send_archive (s : State) (x : Sent) : (s.send x).archive = s.archive := by
  unfold State.send State.onLinks
  split <;> simp

@[simp] theorem State.pump_journal (n : Nat) (k : Link) (s : State) : (State.pump n k s).journal = s.journal := by
  induction n generalizing s with
  | zero => rfl
  | succ n ih =>
    unfold State.pump
    split
    · rfl
    · split
      · rfl
      · rw [ih]; exact State.setLink_journal s k _

@[simp] theorem State.linkSend_journal (s : State) (k : Link) (type : Nat) (msg : List Byte) : (s.linkSend k type msg).journal = s.journal := by
  unfold State.linkSend
  split <;> simp

@[simp] theorem State.laneSend_journal (s : State) (r : Nat) (dst : List Region) (type : Nat) (msg : List Byte) :
    (s.laneSend r dst type msg).journal = s.journal := by
  unfold State.laneSend
  split
  · rfl
  · next n _ =>
    induction dst generalizing s with
    | nil => rfl
    | cons a ds ih =>
      rw [List.foldl_cons, ih]
      split <;> simp

@[simp] theorem State.send_journal (s : State) (x : Sent) : (s.send x).journal = s.journal := by
  unfold State.send State.onLinks
  split <;> simp

@[simp] theorem State.pump_now (n : Nat) (k : Link) (s : State) : (State.pump n k s).now = s.now := by
  induction n generalizing s with
  | zero => rfl
  | succ n ih =>
    unfold State.pump
    split
    · rfl
    · split
      · rfl
      · rw [ih]; exact State.setLink_now s k _

@[simp] theorem State.linkSend_now (s : State) (k : Link) (type : Nat) (msg : List Byte) : (s.linkSend k type msg).now = s.now := by
  unfold State.linkSend
  split <;> simp

@[simp] theorem State.laneSend_now (s : State) (r : Nat) (dst : List Region) (type : Nat) (msg : List Byte) :
    (s.laneSend r dst type msg).now = s.now := by
  unfold State.laneSend
  split
  · rfl
  · next n _ =>
    induction dst generalizing s with
    | nil => rfl
    | cons a ds ih =>
      rw [List.foldl_cons, ih]
      split <;> simp

@[simp] theorem State.send_now (s : State) (x : Sent) : (s.send x).now = s.now := by
  unfold State.send State.onLinks
  split <;> simp

@[simp] theorem State.pump_fv (n : Nat) (k : Link) (s : State) : (State.pump n k s).fv = s.fv := by
  induction n generalizing s with
  | zero => rfl
  | succ n ih =>
    unfold State.pump
    split
    · rfl
    · split
      · rfl
      · rw [ih]; exact State.setLink_fv s k _

@[simp] theorem State.linkSend_fv (s : State) (k : Link) (type : Nat) (msg : List Byte) : (s.linkSend k type msg).fv = s.fv := by
  unfold State.linkSend
  split <;> simp

@[simp] theorem State.laneSend_fv (s : State) (r : Nat) (dst : List Region) (type : Nat) (msg : List Byte) :
    (s.laneSend r dst type msg).fv = s.fv := by
  unfold State.laneSend
  split
  · rfl
  · next n _ =>
    induction dst generalizing s with
    | nil => rfl
    | cons a ds ih =>
      rw [List.foldl_cons, ih]
      split <;> simp

@[simp] theorem State.send_fv (s : State) (x : Sent) : (s.send x).fv = s.fv := by
  unfold State.send State.onLinks
  split <;> simp

@[simp] theorem State.pump_pending (n : Nat) (k : Link) (s : State) : (State.pump n k s).pending = s.pending := by
  induction n generalizing s with
  | zero => rfl
  | succ n ih =>
    unfold State.pump
    split
    · rfl
    · split
      · rfl
      · rw [ih]; exact State.setLink_pending s k _

@[simp] theorem State.linkSend_pending (s : State) (k : Link) (type : Nat) (msg : List Byte) : (s.linkSend k type msg).pending = s.pending := by
  unfold State.linkSend
  split <;> simp

@[simp] theorem State.laneSend_pending (s : State) (r : Nat) (dst : List Region) (type : Nat) (msg : List Byte) :
    (s.laneSend r dst type msg).pending = s.pending := by
  unfold State.laneSend
  split
  · rfl
  · next n _ =>
    induction dst generalizing s with
    | nil => rfl
    | cons a ds ih =>
      rw [List.foldl_cons, ih]
      split <;> simp

@[simp] theorem State.send_pending (s : State) (x : Sent) : (s.send x).pending = s.pending := by
  unfold State.send State.onLinks
  split <;> simp

@[simp] theorem State.send_rd (s : State) (x : Sent) (r : Nat) (d : PDesc) (i : Nat) : (s.send x).rd r d i = s.rd r d i := by
  simp [State.rd]

@[simp] theorem State.send_lane (s : State) (x : Sent) (l : LaneId) : (s.send x).lane l = s.lane l := by
  cases l <;> simp [State.lane]

end Sys2Proof.Machine
end

