-- ==== Sys2Proof/Laws/Params.lean ====
section
/-! SUPPORT. The parameter maps: no two rows of a block share a place, so a place named by a row is found under it, with the
row's width. -/

namespace Sys2Proof.Machine

open Par

/-- Two rows that share no place. -/
def PDesc.apart (a b : PDesc) : Bool := decide (a.index + a.span ≤ b.index ∨ b.index + b.span ≤ a.index)

/-- A block's rows, each with at least one place, no two sharing one. -/
def mapOk (m : List PDesc) : Bool :=
  m.all (fun d => decide (0 < d.span)) && decide (m.Pairwise (fun a b => a.apart b = true))

theorem mapOk_lane : ∀ b ∈ [1, 2, 0x1a, 4, 3, 5, 0x10, 0x11, 0x12, 0x14, 0x13, 0x15, 0x16, 0x17, 0x18, 0x19, 6, 8, 0xa, 0xb, 0xc, 0x43, 0x46, 7, 9],
    mapOk (blockMap .lane b) = true := by decide

theorem mapOk_power : ∀ b ∈ [0x20, 0x21, 0x22, 0x23, 7, 9], mapOk (blockMap .power b) = true := by decide

theorem mapOk_m : ∀ b ∈ [0x40, 0x45, 0x41, 0x42, 0x43, 0x44, 0x46, 0x14, 0xa, 7, 9], mapOk (blockMap .m b) = true := by decide

theorem mapOk_s : ∀ b ∈ [3, 0x30, 0x31, 0x32, 7, 9], mapOk (blockMap .s b) = true := by decide

/-- A place of a row is found under that row. -/
theorem find_row {m : List PDesc} (h : mapOk m = true) {d : PDesc} (hd : d ∈ m) {x : Nat} (lo : d.index ≤ x)
    (hi : x < d.index + d.span) :
    m.find? (fun d => decide (d.index ≤ x) && decide (x < d.index + d.span)) = some d := by
  simp only [mapOk, Bool.and_eq_true, decide_eq_true_eq] at h
  obtain ⟨-, hp⟩ := h
  induction m with
  | nil => simp at hd
  | cons a r ih =>
    rcases List.mem_cons.mp hd with rfl | hr
    · simp [lo, hi]
    · have ha := (List.pairwise_cons.mp hp).1 d hr
      simp only [PDesc.apart, decide_eq_true_eq] at ha
      rw [List.find?_cons_of_neg (by simp; omega)]
      exact ih hr (List.pairwise_cons.mp hp).2

theorem lookup_key {r : Nat} {d : PDesc} (h : mapOk (blockMap (kindOf r) d.block) = true)
    (hd : d ∈ blockMap (kindOf r) d.block) {i : Nat} (hi : i < 256 * d.span) : lookup (d.key r i) = some d := by
  unfold lookup
  exact find_row h hd (by simp [PDesc.key]) (by simp only [PDesc.key]; omega)

theorem widthOf_key {r : Nat} {d : PDesc} (h : mapOk (blockMap (kindOf r) d.block) = true)
    (hd : d ∈ blockMap (kindOf r) d.block) {i : Nat} (hi : i < 256 * d.span) : widthOf (d.key r i) = d.width := by
  simp [widthOf, lookup_key h hd hi]

@[simp] theorem kindOf_reg (l : LaneId) : kindOf l.reg = .lane := by cases l <;> rfl

@[simp] theorem kindOf_pow (l : LaneId) : kindOf l.pow = .power := by cases l <;> rfl

theorem reg_le (l : LaneId) : l.reg ≤ 3 := by cases l <;> decide

theorem reg_pos (l : LaneId) : 0 < l.reg := by cases l <;> decide

theorem pow_ge (l : LaneId) : 4 ≤ l.pow ∧ l.pow ≤ 6 := by cases l <;> decide

@[simp] theorem pow_ne_reg (l l' : LaneId) : l.pow ≠ l'.reg := by cases l <;> cases l' <;> decide

@[simp] theorem reg_ne_pow (l l' : LaneId) : l.reg ≠ l'.pow := by cases l <;> cases l' <;> decide

theorem LaneId.reg_inj {l l' : LaneId} : l.reg = l'.reg ↔ l = l' := by cases l <;> cases l' <;> decide

@[simp] theorem LaneId.ofReg_reg (l : LaneId) : LaneId.ofReg l.reg = some l := by cases l <;> rfl

end Sys2Proof.Machine
end

