-- ==== Sys2Proof/Laws/Reply.lean ====
section
/-! SUPPORT. What answering a waybill can change: the counters and records of the waybill engine, the ports and the running
standing order of its lane, the duplicate record and the reply queues, and what is sent. -/

namespace Sys2Proof.Machine

open Par Var

/-- The blocks an answer writes. -/
def replyBlock (b : Nat) : Bool := b == 1 || b == 2 || b == 6 || b == 0x86

theorem State.wr_get_ne (s : State) {r : Nat} {d : PDesc} {i v : Nat} {k : PKey} (h : k ≠ d.key r i) :
    (s.wr r d i v).params.get k = s.params.get k := Store.get_put_ne _ _ h

theorem NoReplyPlace.ne {l : LaneId} {k : PKey} (h : NoReplyPlace l k) {d : PDesc} (i : Nat)
    (hd : replyBlock d.block = true) : k ≠ d.key l.reg i := by
  rintro rfl
  simp only [NoReplyPlace, PDesc.key, replyBlock, Bool.or_eq_true, beq_iff_eq] at h hd
  omega

namespace Replies

variable {l : LaneId} {s t u : State}

theorem refl (l : LaneId) (s : State) : Replies l s s := ⟨fun _ _ => rfl, fun _ _ => rfl, ⟨_, _, rfl⟩, rfl⟩

theorem trans (h : Replies l s t) (g : Replies l t u) : Replies l s u := by
  refine ⟨fun k hk => (g.get k hk).trans (h.get k hk), fun x hx => (g.others x hx).trans (h.others x hx), ?_, ?_⟩
  · obtain ⟨w, x, e⟩ := h.own
    obtain ⟨w', x', e'⟩ := g.own
    exact ⟨w', x', by rw [e', e]⟩
  · rw [g.rest, h.rest]

theorem ite {c : Prop} [Decidable c] (h : Replies l s t) (g : Replies l s u) : Replies l s (if c then t else u) := by
  split <;> assumption

theorem wr (h : Replies l s t) (d : PDesc) (i v : Nat) (hd : replyBlock d.block = true) : Replies l s (t.wr l.reg d i v) :=
  h.trans ⟨fun _ hk => State.wr_get_ne _ (hk.ne i hd), fun x _ => State.wr_lane _ _ _ _ _ x, ⟨_, _, State.wr_lane _ _ _ _ _ l⟩, rfl⟩

theorem bump (h : Replies l s t) (d : PDesc) (i : Nat) (hd : replyBlock d.block = true) : Replies l s (t.bump l.reg d i) :=
  h.wr d i _ hd

theorem modWbe (h : Replies l s t) (f : Wbe → Wbe) : Replies l s (t.modWbe l f) := by
  refine h.trans ⟨fun _ _ => by simp, fun x hx => State.lane_modLane_ne _ _ hx, ⟨_, _, State.lane_modLane _ _ _⟩, ?_⟩
  cases l <;> rfl

theorem modHst (h : Replies l s t) (f : Hst → Hst) : Replies l s (t.modHst l f) := by
  refine h.trans ⟨fun _ _ => by simp, fun x hx => State.lane_modLane_ne _ _ hx, ⟨_, _, State.lane_modLane _ _ _⟩, ?_⟩
  cases l <;> rfl

theorem state_ext (s : State) (a : Part) (p : Store) (la lb lc : Lane) (k : List (Link × LinkSt)) (sd : SDie) (md : MDie)
    (re : List FclEv) (ar : List (List Byte)) (jo : List JEntry) (se : List Sent) (n f : Nat) (pe : List Instr)
    (h1 : s.part = a) (h2 : s.sdie = sd) (h3 : s.mdie = md) (h4 : s.recoveries = re) (h5 : s.archive = ar) (h6 : s.journal = jo)
    (h7 : s.now = n) (h8 : s.fv = f) (h9 : s.pending = pe) (g1 : s.params = p) (g2 : s.la = la) (g3 : s.lb = lb) (g4 : s.lc = lc)
    (g5 : s.links = k) (g6 : s.sent = se) : s = ⟨a, p, la, lb, lc, k, sd, md, re, ar, jo, se, n, f, pe⟩ := by
  subst h1 h2 h3 h4 h5 h6 h7 h8 h9 g1 g2 g3 g4 g5 g6
  rfl

theorem send (h : Replies l s t) (x : Sent) : Replies l s (t.send x) := by
  refine h.trans ⟨fun _ _ => by simp, fun y _ => by simp, ⟨_, _, State.send_lane t x l⟩, ?_⟩
  apply state_ext <;> simp

end Replies

theorem State.orderNote_replies {s t : State} {l : LaneId} (h : Replies l s t) (r : Rsp) : Replies l s (t.orderNote l r) := by
  unfold State.orderNote
  exact h.ite (h.ite (h.ite (((h.wr _ _ _ (by decide)).wr _ _ _ (by decide)).bump _ _ (by decide))))

theorem State.deliver_replies {s t : State} {l : LaneId} (h : Replies l s t) (x : Hdr) (r : Reply) :
    Replies l s (t.deliver l x r) := by
  unfold State.deliver
  split
  · exact h.ite ((h.modHst _).ite (h.modWbe _))
  · exact (h.bump _ _ (by decide)).ite (h.ite (h.send _))
  · exact h
  · exact h.send _

theorem State.reply_replies {s t : State} {l : LaneId} (h : Replies l s t) (x : Hdr) (op : Nat) (r : Rsp) (f d : Bool) (m : Nat)
    (u : Bool) : Replies l s (t.reply l x op r f d m u) := by
  unfold State.reply
  have b : Replies l s (if r.good then t else (t.bump l.reg WBE_CNT_ERR x.port.num).wr l.reg WBE_LAST_ERR 0
      (r.status + x.port.num * 2 ^ 16)) := h.ite ((h.bump _ _ (by decide)).wr _ _ _ (by decide))
  exact Replies.ite ((State.orderNote_replies b r).wr _ _ _ (by decide)) ((State.deliver_replies b x _).ite b)

theorem State.answer_replies {s t : State} {l : LaneId} (h : Replies l s t) (x : Hdr) (op : Nat) (r : Rsp) (f d : Bool) (m : Nat)
    (u : Bool) : Replies l s (t.answer l x op r f d m u) :=
  State.reply_replies (h.modWbe _) x op r f d m u

theorem State.final_replies {s t : State} {l : LaneId} (h : Replies l s t) (x : Hdr) (op : Nat) (r : Rsp) :
    Replies l s (t.final l x op r) := State.answer_replies h x op r true false 0 false

/-- A counted and answered effect changes what the effect changes, and what answering may. -/
theorem State.counted_replies (s : State) (l : LaneId) (x : Hdr) (op : Nat) (r : Rsp) :
    Replies l s ((s.countRx l x).final l x op r) :=
  State.final_replies ((Replies.refl l s).bump _ _ (by decide)) x op r

/-- A parameter of no block that answers write. -/
theorem Replies.rd {l : LaneId} {s t : State} (h : Replies l s t) (r : Nat) (d : PDesc) (i : Nat)
    (hd : r ≠ l.reg ∨ (d.block ≠ 1 ∧ d.block ≠ 2 ∧ d.block ≠ 6 ∧ d.block ≠ 0x86)) : t.rd r d i = s.rd r d i := h.get _ hd

/-- A field of a lane's records that answers do not touch. -/
theorem Replies.lane {α : Type} {l : LaneId} {s t : State} (h : Replies l s t) (f : Lane → α)
    (hf : ∀ x w g, f { x with wbe := w, hst := g } = f x) : f (t.lane l) = f (s.lane l) := by
  obtain ⟨w, g, e⟩ := h.own
  rw [e, hf]

/-! ### Performing an opcode -/

/-- An opcode whose common conditions hold and whose own check passes: its effect, counted and answered. -/
theorem State.perform_ok {s : State} {l : LaneId} {h : Hdr} {op : Nat} {chk : Option Rsp} {eff : State × Rsp}
    (hp : Performs s l h op) (hc : chk = none) :
    s.perform l h op chk eff = (eff.1.countRx l h).final l h op eff.2 := by
  obtain ⟨h1, h2, h3, h4⟩ := hp
  simp [State.perform, firstFail, State.rollCheck, failIf, (by simp [State.pairUp] at h1; exact h1.1 : s.up l = true), h2, h3, h4, hc]

theorem widthOf_cnt_rx (l : LaneId) (p : Port) : widthOf (WBE_CNT_RX.key l.reg p.num) = 32 := by
  cases l <;> cases p <;> decide

/-- A reply's way does not depend on what answering writes. -/
theorem Replies.via_t1 {l : LaneId} {s t : State} (h1 : t.rd l.reg HST_IP_ADDR = s.rd l.reg HST_IP_ADDR)
    (h2 : t.rd l.reg HST_UDP_PORT = s.rd l.reg HST_UDP_PORT) (src : Nat) (r : Reply) :
    Sent.reply l .t1 src (t.via l .t1 src r) r = s.replyT1 l src r := by simp [State.via, State.replyT1, h1, h2]

theorem State.final_sent {s : State} {l : LaneId} {h : Hdr} {op : Nat} {r : Rsp} (hp : h.port = .t1) :
    (s.final l h op r).sent = if (!r.good || op == 0x0101 || h.ackReq) = true then
      s.sent ++ [s.replyT1 l h.src (mkReply l h op r true false 0)] else s.sent := by
  unfold State.final State.answer State.reply State.noteReply
  simp only [hp]
  have e : ∀ (u : State) (i v : Nat) (d : PDesc), d.block = 1 → ∀ d' : PDesc, d'.block = 2 →
      (u.wr l.reg d i v).rd l.reg d' 0 = u.rd l.reg d' 0 :=
    fun u i v d h1 d' h2 => State.rd_wr_block _ _ _ _ _ _ (by omega)
  have f : ∀ (u : State) (g : Wbe → Wbe) (d' : PDesc), (u.modWbe l g).rd l.reg d' 0 = u.rd l.reg d' 0 := by
    intro u g d'; simp [State.rd]
  have key : ∀ (u : State) (x : Reply), u.rd l.reg HST_IP_ADDR = s.rd l.reg HST_IP_ADDR → u.rd l.reg HST_UDP_PORT = s.rd l.reg HST_UDP_PORT →
      u.sent = s.sent → (u.send (.reply l .t1 h.src (u.via l .t1 h.src x) x)).sent = s.sent ++ [s.replyT1 l h.src x] := by
    intro u x a b c
    rw [Replies.via_t1 a b, ← c]
    simp [State.send, State.onLinks, State.replyT1]
  by_cases g : r.good
  · simp only [g, State.deliver, hp]
    by_cases a : (op == 0x0101 || h.ackReq) = true
    · simp [a]
      exact key _ _ (f _ _ _) (f _ _ _) (by simp)
    · simp [a]
  · simp only [g, State.deliver, hp]
    simp
    refine key _ _ ?_ ?_ (by simp [State.bump, State.bumpBy])
    · rw [e _ _ _ _ rfl _ rfl, State.bump, State.bumpBy, e _ _ _ _ rfl _ rfl, f]
    · rw [e _ _ _ _ rfl _ rfl, State.bump, State.bumpBy, e _ _ _ _ rfl _ rfl, f]

theorem State.final_rx {s : State} {l : LaneId} {h : Hdr} {op : Nat} {r : Rsp} :
    (s.final l h op r).rd l.reg WBE_CNT_RX h.port.num = s.rd l.reg WBE_CNT_RX h.port.num := by
  unfold State.final State.answer State.reply State.noteReply State.orderNote State.deliver
  have e : ∀ (s : State) (d : PDesc) (i v : Nat), d.block ≠ 1 ∨ (d.index ≠ WBE_CNT_RX.index ∧ i < 256) →
      (s.wr l.reg d i v).rd l.reg WBE_CNT_RX h.port.num = s.rd l.reg WBE_CNT_RX h.port.num := by
    intro s d i v hd
    refine State.wr_get_ne _ ?_
    have : h.port.num < 256 := by cases h.port <;> decide
    simp only [PDesc.key, ne_eq, PKey.mk.injEq, WBE_CNT_RX] at hd ⊢
    omega
  have n : ∀ p : Port, p.num < 256 := by intro p; cases p <;> decide
  have e1 : ∀ (s : State) (x : Sent), (s.send x).rd l.reg WBE_CNT_RX h.port.num = s.rd l.reg WBE_CNT_RX h.port.num := by
    intro s x; simp [State.rd]
  have e2 : ∀ (s : State) (f : Wbe → Wbe), (s.modWbe l f).rd l.reg WBE_CNT_RX h.port.num = s.rd l.reg WBE_CNT_RX h.port.num := by
    intro s x; simp [State.rd]
  have e3 : ∀ (s : State) (f : Hst → Hst), (s.modHst l f).rd l.reg WBE_CNT_RX h.port.num = s.rd l.reg WBE_CNT_RX h.port.num := by
    intro s x; simp [State.rd]
  dsimp only
  repeat' split
  all_goals try simp only [State.bump, State.bumpBy, e1, e2, e3]
  all_goals (repeat rw [e _ _ _ _ (by first | exact Or.inl (by decide) | exact Or.inr ⟨by decide, by first | decide | exact n _⟩)])
  all_goals try simp only [State.bump, State.bumpBy, e1, e2, e3]
  all_goals (repeat rw [e _ _ _ _ (by first | exact Or.inl (by decide) | exact Or.inr ⟨by decide, by first | decide | exact n _⟩)])
  all_goals try simp only [State.bump, State.bumpBy, e1, e2, e3]

/-- The same, as what a reader sees of it. -/
theorem State.perform_performed {s : State} {l : LaneId} {h : Hdr} {op : Nat} {chk : Option Rsp} {eff : State × Rsp}
    (hp : Performs s l h op) (hc : chk = none) : Performed l h op eff.2 eff.1 (s.perform l h op chk eff) := by
  rw [State.perform_ok hp hc]
  refine ⟨State.counted_replies .., ?_, ?_, ?_⟩
  · rw [State.final_rx, State.countRx, State.bump, State.bumpBy, State.rd_wr_same]
    rw [widthOf_cnt_rx]
    simp only [satNat, show WBE_CNT_RX.width = 32 from rfl]
    split <;> omega
  · intro h1 h2
    have e : ∀ d' : PDesc, d'.block = 2 → (eff.1.countRx l h).rd l.reg d' 0 = eff.1.rd l.reg d' 0 :=
      fun d' hd => State.rd_wr_block _ _ _ _ _ _ (by rw [hd]; decide)
    rw [State.final_sent h1, if_pos h2, State.replyT1, State.replyT1, e _ rfl, e _ rfl]
    rfl
  · intro h1 h2; rw [State.final_sent h1, if_neg (by simp [h2])]; rfl

theorem State.up_of_pairUp {s : State} {l : LaneId} (h : s.pairUp l = true) : s.up l = true := by
  simp [State.pairUp] at h; exact h.1

theorem State.hostUp_of_pairUp {s : State} {l : LaneId} (h : s.pairUp l = true) : s.hostUp l = true := by simp [State.hostUp, h]

theorem State.whenHost_up {s : State} {l : LaneId} {f : State → State} (h : s.pairUp l = true) : s.whenHost l f = f s := by
  simp [State.whenHost, State.hostUp_of_pairUp h]

theorem State.whenPair_up {s : State} {l : LaneId} {f : State → State} (h : s.pairUp l = true) : s.whenPair l f = f s := by
  simp [State.whenPair, h]

theorem State.whenUp_up {s : State} {l : LaneId} {f : State → State} (h : s.up l = true) : s.whenUp l f = f s := by
  simp [State.whenUp, h]

theorem State.whenUp_down {s : State} {l : LaneId} {f : State → State} (h : s.up l = false) : s.whenUp l f = s := by
  simp [State.whenUp, h]

@[simp] theorem State.up_atTime (s : State) (t : Nat) (l : LaneId) : (s.atTime t).up l = s.up l := rfl

@[simp] theorem State.pairUp_atTime (s : State) (t : Nat) (l : LaneId) : (s.atTime t).pairUp l = s.pairUp l := rfl

@[simp] theorem State.on_atTime (s : State) (t r : Nat) : (s.atTime t).on r = s.on r := rfl

end Sys2Proof.Machine
end

