-- ==== Sys2Proof/Laws/Faults.lean ====
section
/-! SUPPORT. What an asserted error wire that orders no reset can change, and that its source then stands in the fault state. -/

namespace Sys2Proof.Machine

open Par Var

theorem FaultPlace.key {d : PDesc} (h : d ∈ faultRows) (r : Nat) {i : Nat} (hi : i < 256) : FaultPlace (d.key r i) :=
  ⟨d, h, by simp [PDesc.key], by simp only [PDesc.key]; omega⟩

/-- A row that asserted error wires do not write. -/
theorem not_faultPlace {d : PDesc} (h : (faultRows.all fun x => x.block != d.block || x.index != d.index) = true) (r : Nat)
    {i : Nat} (hi : i < 256) : ¬ FaultPlace (d.key r i) := by
  rintro ⟨x, hx, h1, h2⟩
  have := List.all_eq_true.mp h x hx
  simp only [PDesc.key] at h1 h2
  have e : d.index + i / 256 = d.index := by omega
  simp [h1, h2, e] at this

namespace OnlyFaults

variable {s t u : State}

theorem refl (s : State) : OnlyFaults s s := ⟨fun _ _ => rfl, fun _ => ⟨_, rfl⟩, rfl, [], by simp⟩

theorem trans (h : OnlyFaults s t) (g : OnlyFaults t u) : OnlyFaults s u := by
  refine ⟨fun k hk => (g.get k hk).trans (h.get k hk), fun l => ?_, ?_, ?_⟩
  · obtain ⟨q, e⟩ := h.lanes l
    obtain ⟨q', e'⟩ := g.lanes l
    exact ⟨q', by rw [e', e]⟩
  · rw [g.rest, h.rest]
  · obtain ⟨ms, e⟩ := h.tells
    obtain ⟨ms', e'⟩ := g.tells
    exact ⟨ms ++ ms', by rw [e', e, List.append_assoc]⟩

theorem ite {c : Prop} [Decidable c] (h : OnlyFaults s t) (g : OnlyFaults s u) : OnlyFaults s (if c then t else u) := by
  split <;> assumption

theorem wr (h : OnlyFaults s t) (r : Nat) (d : PDesc) (i v : Nat) (hd : d ∈ faultRows) (hi : i < 256) :
    OnlyFaults s (t.wr r d i v) :=
  h.trans ⟨fun k hk => State.wr_get_ne _ (by rintro rfl; exact hk (FaultPlace.key hd r hi)), fun l => ⟨(t.lane l).ordQ, by simp⟩, rfl, [], by simp⟩

theorem bump (h : OnlyFaults s t) (r : Nat) (d : PDesc) (i : Nat) (hd : d ∈ faultRows) (hi : i < 256) :
    OnlyFaults s (t.bump r d i) := h.wr r d i _ hd hi

theorem wrBit (h : OnlyFaults s t) (r : Nat) (d : PDesc) (i n : Nat) (b : Bool) (hd : d ∈ faultRows) (hi : i < 256) :
    OnlyFaults s (t.wrBit r d i n b) := h.wr r d i _ hd hi

theorem sent (h : OnlyFaults s t) (x : Sent) (hx : ∀ u : State, u.onLinks x = u) : OnlyFaults s (t.send x) :=
  h.trans ⟨fun _ _ => by simp, fun l => ⟨(t.lane l).ordQ, by simp⟩, by rw [State.send, hx], [x], by rw [State.send, hx]⟩

theorem ordQ (h : OnlyFaults s t) (l : LaneId) (f : List Nat → List Nat) :
    OnlyFaults s (t.modLane l (fun x => { x with ordQ := f x.ordQ })) := by
  refine h.trans ⟨fun _ _ => by simp, fun x => ?_, ?_, [], by cases l <;> simp [State.modLane, State.setLane]⟩
  · by_cases e : x = l
    · subst e; exact ⟨_, State.lane_modLane _ _ _⟩
    · exact ⟨_, State.lane_modLane_ne _ _ e⟩
  · cases l <;> rfl

theorem foldl {α : Type} (f : State → α → State) (hf : ∀ s t a, OnlyFaults s t → OnlyFaults s (f t a)) (xs : List α) :
    OnlyFaults s t → OnlyFaults s (xs.foldl f t) := by
  induction xs generalizing t with
  | nil => exact id
  | cons a r ih => exact fun h => ih (hf _ _ a h)

/-- A row that asserted error wires do not write reads the same. -/
theorem rd (h : OnlyFaults s t) {d : PDesc} (hd : (faultRows.all fun x => x.block != d.block || x.index != d.index) = true)
    (r : Nat) {i : Nat} (hi : i < 256) : t.rd r d i = s.rd r d i := h.get _ (not_faultPlace hd r hi)

end OnlyFaults

theorem State.triggerOrder_faults {s t : State} {l : LaneId} {o : Nat} (h : OnlyFaults s t) (ho : o < 256) :
    OnlyFaults s (t.triggerOrder l o) := by
  unfold State.triggerOrder
  exact (h.bump _ _ _ (by decide) ho).ite (((h.wr _ _ _ _ (by decide) ho).ordQ l (fun q => q ++ [o])).ite h)

theorem State.event_faults {s t : State} {l : LaneId} (h : OnlyFaults s t) (code arg : Nat) :
    OnlyFaults s (t.event l code arg) := by
  unfold State.event
  have : ∀ n ≤ 256, OnlyFaults s ((List.range n).foldl (fun s o =>
    if s.rd l.reg DPT_ORD_STATE o ≥ 2 ∧ (s.trig l o).kind = 2 ∧ bits (s.trig l o).argA 7 0 = code ∧
        bits (s.trig l o).argA 15 8 = arg then s.triggerOrder l o else s) t) := by
    intro n hn
    induction n with
    | zero => exact h
    | succ n ih =>
      rw [List.range_succ, List.foldl_append]
      exact OnlyFaults.ite (State.triggerOrder_faults (ih (by omega)) (by omega)) (ih (by omega))
  exact this 64 (by decide)

theorem State.tell_faults {s t : State} (h : OnlyFaults s t) (r src kind : Nat) : OnlyFaults s (t.tell r src kind) := by
  unfold State.tell
  split
  · exact h.ite (h.sent _ (fun _ => rfl))
  · exact h.sent _ (fun _ => rfl)

theorem State.updPin_faults {s t : State} (h : OnlyFaults s t) (r : Nat) : OnlyFaults s (t.updPin r) := by
  unfold State.updPin
  exact h.ite ((((h.wr _ _ _ _ (by decide) (by decide)).ite
    ((h.wr _ _ _ _ (by decide) (by decide)).wr _ _ _ _ (by decide) (by decide)))).ite
    (h.ite (h.wr _ _ _ _ (by decide) (by decide))))

theorem State.coreReact_faults {s t : State} (h : OnlyFaults s t) (r src bits : Nat) : OnlyFaults s (t.coreReact r src bits) := by
  unfold State.coreReact
  split
  · exact h
  · next l _ =>
    have a : OnlyFaults s (if bits.testBit 0 = true then (t.wr l.reg FCL_IRQ 0 (src + 1)).send (.core l false r src) else t) :=
      ((h.wr _ _ _ _ (by decide) (by decide)).sent _ (fun _ => rfl)).ite h
    exact ((a.wr _ _ _ _ (by decide) (by decide)).sent _ (fun _ => rfl)).ite a

/-- Nothing an asserted wire may change makes a lane quiet or not. -/
theorem OnlyFaults.quietLane {s u : State} (a : OnlyFaults s u) (r : Nat) : u.quietLane r = s.quietLane r := by
  unfold State.quietLane
  cases laneOfReg r with
  | none => rfl
  | some l => exact congrArg (fun v => decide (v ≥ 3)) (a.rd (d := STF_STATE) (by decide) l.reg (i := 0) (by omega))

/-- A source that orders no reset orders none after the fault places have changed. -/
theorem OnlyFaults.noReset {s u : State} (a : OnlyFaults s u) {r src : Nat} (n : NoReset s r src) (h : src < 256) : NoReset u r src := by
  unfold NoReset at n ⊢
  rw [a.rd (d := FCL_REACT) (by decide) r (i := src) h, a.quietLane]
  exact n

theorem State.react_faults {s t : State} (h : OnlyFaults s t) {r src : Nat} (n : NoReset s r src) (hs : src < 256) :
    OnlyFaults s (t.react r src) := by
  have m := h.noReset n hs
  unfold State.react
  rcases m with ⟨m2, m3⟩ | m
  · simp only [m2, m3, Bool.false_eq_true, if_false]
    exact h.ite (State.coreReact_faults h _ _ _)
  · rw [if_pos m]; exact h

theorem sourceListed_lt {r src : Nat} (h : sourceListed r src = true) : src < 64 := by
  have : (classesOf r).length ≤ 44 := by unfold classesOf; cases kindOf r <;> decide
  simp only [sourceListed, decide_eq_true_eq] at h
  omega

theorem State.stampFirst_faults {s t : State} (h : OnlyFaults s t) (r src : Nat) : OnlyFaults s (t.stampFirst r src) := by
  unfold State.stampFirst
  exact OnlyFaults.ite h (h.wr r FCL_FIRST 0 _ (by decide) (by decide))

theorem State.shadowNote_faults {s t : State} (h : OnlyFaults s t) (r : Nat) : OnlyFaults s (t.shadowNote r) := by
  unfold State.shadowNote
  split
  · exact OnlyFaults.ite (h.wr _ STF_SHADOW_BAD 0 _ (by decide) (by decide)) h
  · exact h

theorem State.noteHit_faults {s t : State} (h : OnlyFaults s t) (r : Nat) {src : Nat} (hs : src < 256) :
    OnlyFaults s (t.noteHit r src) := by
  unfold State.noteHit
  split
  · exact State.event_faults (h.wr _ TRC_HIT src 1 (by decide) hs) _ _
  · exact h

theorem State.enterFault_faults {s t : State} (h : OnlyFaults s t) {r src : Nat} (n : NoReset s r src) (hs : src < 256) :
    OnlyFaults s (t.enterFault r src) := by
  have a : ∀ c : Bool, OnlyFaults s (if c = true then (t.wrBit r FCL_LATCHED 0 src true).tell r src 2 else t) := fun c =>
    OnlyFaults.ite (State.tell_faults (h.wrBit r FCL_LATCHED 0 _ _ (by decide) (by decide)) _ _ _) h
  have b := fun c => ((a c).wrBit r FCL_ERR_STATUS 0 src true (by decide) (by decide)).bump r FCL_TROUBLE src (by decide) hs
  exact State.updPin_faults (State.react_faults (State.shadowNote_faults
    (State.tell_faults (State.stampFirst_faults (b _) r src) r src 1) r) n hs) r

/-- An asserted error wire that orders no reset changes fault places, the orders queued and what is sent, and nothing else. -/
theorem State.raise_faults (s : State) (r src : Nat) (held : Bool) (n : NoReset s r src) : OnlyFaults s (s.raise r src held) := by
  unfold State.raise
  split
  · exact .refl s
  · next g =>
    have hs : src < 256 := by
      simp only [Bool.or_eq_true, Bool.not_eq_true', not_or, Bool.not_eq_false] at g
      have := sourceListed_lt g.1
      omega
    have a : OnlyFaults s (if held = true then s.wrBit r FCL_RAW 0 src true else s) :=
      OnlyFaults.ite ((OnlyFaults.refl s).wrBit r FCL_RAW 0 _ _ (by decide) (by decide)) (.refl s)
    dsimp only
    generalize (if held = true then s.wrBit r FCL_RAW 0 src true else s) = u at a ⊢
    have c : OnlyFaults s ((u.stampLast r src).noteHit r src) := State.noteHit_faults (a.wr r FCL_LAST src _ (by decide) hs) r hs
    have d := c.wr r FCL_QUIET_AT src ((u.stampLast r src).noteHit r src).now (by decide) hs
    exact OnlyFaults.ite (a.bump r FCL_TROUBLE src (by decide) hs) (OnlyFaults.ite (a.bump r FCL_TEST_EVENTS 0 (by decide) (by decide))
      (OnlyFaults.ite (c.bump r FCL_TROUBLE src (by decide) hs) (OnlyFaults.ite d (State.enterFault_faults d n hs))))

/-! ### The fault state -/

theorem widthOf_err {s : State} {r : Nat} (h : s.hasRegion r = true) : widthOf (FCL_ERR_STATUS.key r 0) = 64 := by
  have : ∀ x ∈ [1, 2, 3, 4, 5, 6, 7, 8], widthOf (FCL_ERR_STATUS.key x 0) = 64 := by decide
  refine this r ?_
  simp only [State.hasRegion] at h
  cases g : s.part <;> simp [g, partRegions] at h ⊢ <;> omega

theorem State.err_wr (s : State) (r r' : Nat) (d : PDesc) (i v : Nat) (hd : d.block ≠ 9 ∨ d.index > 1) :
    (s.wr r' d i v).rd r FCL_ERR_STATUS = s.rd r FCL_ERR_STATUS := by
  refine State.wr_get_ne _ ?_
  simp only [PDesc.key, ne_eq, PKey.mk.injEq, FCL_ERR_STATUS] at hd ⊢
  omega

theorem State.tell_err (s : State) (r r' src kind : Nat) : (s.tell r' src kind).rd r FCL_ERR_STATUS = s.rd r FCL_ERR_STATUS := by
  unfold State.tell
  split
  · split <;> simp
  · simp

theorem State.updPin_err (s : State) (r r' : Nat) : (s.updPin r').rd r FCL_ERR_STATUS = s.rd r FCL_ERR_STATUS := by
  unfold State.updPin
  dsimp only
  repeat' split
  all_goals (try rfl)
  all_goals repeat rw [State.err_wr _ _ _ _ _ _ (by decide)]

theorem State.coreReact_err (s : State) (r r' src b : Nat) :
    (s.coreReact r' src b).rd r FCL_ERR_STATUS = s.rd r FCL_ERR_STATUS := by
  unfold State.coreReact
  dsimp only
  repeat' split
  all_goals try simp only [State.send_rd]
  all_goals repeat rw [State.err_wr _ _ _ _ _ _ (by decide)]
  all_goals try simp only [State.send_rd]
  all_goals repeat rw [State.err_wr _ _ _ _ _ _ (by decide)]

theorem State.stampFirst_err (s : State) (r r' src : Nat) : (s.stampFirst r' src).rd r FCL_ERR_STATUS = s.rd r FCL_ERR_STATUS := by
  unfold State.stampFirst
  split
  · rfl
  · rw [State.err_wr _ _ _ _ _ _ (by decide)]

theorem State.shadowNote_err (s : State) (r r' : Nat) : (s.shadowNote r').rd r FCL_ERR_STATUS = s.rd r FCL_ERR_STATUS := by
  unfold State.shadowNote
  split
  · split
    · rw [State.err_wr _ _ _ _ _ _ (by decide)]
    · rfl
  · rfl

theorem bit_setBit (v n : Nat) : bit (setBit v n) n = true := by
  simp [bit, setBit, Nat.testBit_or, Nat.testBit_two_pow_self]

theorem bit_mod {v n w : Nat} (h : n < w) : bit (v % 2 ^ w) n = bit v n := by
  simp [bit, Nat.testBit_mod_two_pow, h]

theorem State.react_err {s : State} {r src : Nat} (n : NoReset s r src) : (s.react r src).rd r FCL_ERR_STATUS = s.rd r FCL_ERR_STATUS := by
  unfold State.react
  rcases n with n | n
  · simp only [n.1, n.2, Bool.false_eq_true, if_false]
    split
    · rfl
    · exact State.coreReact_err ..
  · simp [n]

/-- A source that enters the fault state stands in it. -/
theorem State.enterFault_err {s : State} {r src : Nat} (g : s.hasRegion r = true) (n : NoReset s r src) (hs : src < 64) :
    bit ((s.enterFault r src).rd r FCL_ERR_STATUS) src = true := by
  unfold State.enterFault
  dsimp only
  rw [State.updPin_err]
  generalize hu : (if decide (s.rd r FCL_REC_LIMIT src > 0 ∧ s.rd r FCL_REC_COUNT src ≥ s.rd r FCL_REC_LIMIT src) = true
    then (s.wrBit r FCL_LATCHED 0 src true).tell r src 2 else s) = u
  have a : OnlyFaults s u := by
    rw [← hu]
    exact OnlyFaults.ite (State.tell_faults ((OnlyFaults.refl s).wrBit r FCL_LATCHED 0 _ _ (by decide) (by decide)) _ _ _) (.refl s)
  have b := (a.wrBit r FCL_ERR_STATUS 0 src true (by decide) (by decide)).bump r FCL_TROUBLE src (by decide) (by omega)
  have c := State.shadowNote_faults (State.tell_faults (State.stampFirst_faults b r src) r src 1) r
  rw [State.react_err]
  · rw [State.shadowNote_err, State.tell_err, State.stampFirst_err, State.trouble, State.bump, State.bumpBy,
        State.err_wr _ _ _ _ _ _ (by decide), State.wrBit, State.rd_wr_same, widthOf_err g, bit_mod hs]
    exact bit_setBit _ _
  · exact c.noReset n (by omega)

/-- A judged source whose class is more than a count stands in the fault state once its wire is asserted. -/
theorem State.raise_err {s : State} {r src : Nat} {held : Bool} (j : Judged s r src) (n : NoReset s r src)
    (c : countOnly (classOf r src) = false) : bit ((s.raise r src held).rd r FCL_ERR_STATUS) src = true := by
  obtain ⟨j1, j2, j3, j4⟩ := j
  have hs := sourceListed_lt j2
  unfold State.raise
  rw [if_neg (by simp [j1, j2])]
  have a : OnlyFaults s (if held = true then s.wrBit r FCL_RAW 0 src true else s) :=
    OnlyFaults.ite ((OnlyFaults.refl s).wrBit r FCL_RAW 0 _ _ (by decide) (by decide)) (.refl s)
  dsimp only
  generalize (if held = true then s.wrBit r FCL_RAW 0 src true else s) = u at a ⊢
  have hm : u.rdB r FCL_MASKED (ownerOf r src) = false := by
    have : ownerOf r src < 256 := by
      unfold ownerOf ownersOf
      have : ∀ l : List Nat, (∀ x ∈ l, x < 256) → l.getD src 0 < 256 := by
        intro l hl
        rw [List.getD_eq_getElem?_getD]
        cases g : l[src]? with
        | none => simp
        | some x => simpa using hl x (List.mem_of_getElem? g)
      cases kindOf r <;> exact this _ (by decide)
    rw [State.rdB, a.rd (by decide) r this, j3]; rfl
  have hp : u.rd r FAB_PHASE ≠ 2 := by rw [a.rd (by decide) r (by decide)]; exact j4
  rw [if_neg (by simp [hm]), if_neg hp, if_neg (by simp [c])]
  have c : OnlyFaults s ((u.stampLast r src).noteHit r src) :=
    State.noteHit_faults (a.wr r FCL_LAST src _ (by decide) (by omega)) r (by omega)
  have d := c.wr r FCL_QUIET_AT src ((u.stampLast r src).noteHit r src).now (by decide) (by omega)
  split
  · next h => exact h
  · refine State.enterFault_err ?_ ?_ hs
    · rw [State.hasRegion, d.rest]; exact j1
    · exact d.noReset n (by omega)

end Sys2Proof.Machine
end

