-- ==== Sys2Proof/Laws/Keeps.lean ====
section
/-! SUPPORT. What every operation keeps: the part, the queue, the time order and the canonical form of the store. -/

namespace Sys2Proof.Machine

/-- What a state reached from another keeps of it: the part, the commands waiting, a package time not before, and a store in
canonical form where that was in it. -/
structure Keeps (s t : State) : Prop where
  part : t.part = s.part
  pending : t.pending = s.pending
  now : s.now ≤ t.now
  wf : s.params.wf = true → t.params.wf = true

theorem Keeps.refl (s : State) : Keeps s s := ⟨rfl, rfl, Nat.le_refl _, id⟩

theorem Keeps.trans {a b c : State} (h : Keeps a b) (g : Keeps b c) : Keeps a c :=
  ⟨g.part.trans h.part, g.pending.trans h.pending, Nat.le_trans h.now g.now, fun w => g.wf (h.wf w)⟩

theorem Keeps.ite {u0 a b : State} {c : Prop} [Decidable c] (h : Keeps u0 a) (g : Keeps u0 b) :
    Keeps u0 (if c then a else b) := by split <;> assumption

theorem Keeps.iteFst {α : Type} {u0 : State} {a b : State × α} {c : Prop} [Decidable c] (h : Keeps u0 a.1) (g : Keeps u0 b.1) :
    Keeps u0 (if c then a else b).1 := by split <;> assumption

theorem Keeps.foldl {α : Type} {u0 : State} {f : State → α → State} {s : State} {xs : List α}
    (hf : ∀ s a, Keeps u0 s → Keeps u0 (f s a)) (h : Keeps u0 s) : Keeps u0 (xs.foldl f s) := by
  induction xs generalizing s with
  | nil => exact h
  | cons a xs ih => exact ih (hf s a h)

theorem Keeps.foldlFst {α β : Type} {u0 : State} {f : State × β → α → State × β} {p : State × β} {xs : List α}
    (hf : ∀ p a, Keeps u0 p.1 → Keeps u0 (f p a).1) (h : Keeps u0 p.1) : Keeps u0 (xs.foldl f p).1 := by
  induction xs generalizing p with
  | nil => exact h
  | cons a xs ih => exact ih (hf p a h)

/-- An update of the fields that are kept by nothing: all but the part, the queue, the time and the store. -/
theorem Keeps.upd {u0 s : State} {p : Store} {la lb lc : Lane} {links : List (Link × LinkSt)} {sdie : SDie} {mdie : MDie}
    {recoveries : List FclEv} {archive : List (List Byte)} {journal : List JEntry} {sent : List Sent} {fv : Nat}
    (h : Keeps u0 s) (hp : s.params.wf = true → p.wf = true) :
    Keeps u0 ⟨s.part, p, la, lb, lc, links, sdie, mdie, recoveries, archive, journal, sent, s.now, fv, s.pending⟩ :=
  ⟨h.part, h.pending, h.now, fun w => hp (h.wf w)⟩

theorem Keeps.draw {u0 s : State} (h : Keeps u0 s) : Keeps u0 (s.draw).2 := Keeps.upd h id

theorem State.wr_keeps {u0 : State} (s : State) (r : Nat) (d : PDesc) (i v : Nat) (h : Keeps u0 s) : Keeps u0 (s.wr r d i v) :=
  Keeps.upd h (Store.wf_put _ _)

theorem State.clr_keeps {u0 : State} (s : State) (r : Nat) (d : PDesc) (i : Nat := 0) (h : Keeps u0 s) :
    Keeps u0 (s.clr r d i) := Keeps.upd h (Store.wf_erase _)

theorem State.setLane_keeps {u0 : State} (s : State) (l : LaneId) (x : Lane) (h : Keeps u0 s) : Keeps u0 (s.setLane l x) := by
  cases l <;> exact Keeps.upd h id

theorem State.modLane_keeps {u0 : State} (s : State) (l : LaneId) (f : Lane → Lane) (h : Keeps u0 s) :
    Keeps u0 (s.modLane l f) := State.setLane_keeps s l _ h

theorem State.atTime_keeps {u0 : State} (s : State) (t : Nat) (h : Keeps u0 s) : Keeps u0 (s.atTime t) :=
  ⟨h.part, h.pending, Nat.le_trans h.now (Nat.le_max_left _ _), h.wf⟩

end Sys2Proof.Machine
end

