-- ==== Sys2Proof/Laws/KeepsParams.lean ====
section
/-! SUPPORT. What every operation of Params keeps. -/

namespace Sys2Proof.Machine

open Par

theorem State.wrI_keeps {u0 : State} (s : State) (r : Nat) (d : PDesc) (i : Nat) (v : Int) (h_s : Keeps u0 s) : Keeps u0 (State.wrI s r d i v) := by
  unfold State.wrI
  try dsimp only
  repeat' (first
    | with_reducible assumption
    | intro _
    | with_reducible apply State.wr_keeps)

theorem State.wrB_keeps {u0 : State} (s : State) (r : Nat) (d : PDesc) (i : Nat) (v : Bool) (h_s : Keeps u0 s) : Keeps u0 (State.wrB s r d i v) := by
  unfold State.wrB
  try dsimp only
  repeat' (first
    | with_reducible assumption
    | intro _
    | with_reducible apply State.wr_keeps)

theorem State.bumpBy_keeps {u0 : State} (s : State) (r : Nat) (d : PDesc) (i n : Nat) (h_s : Keeps u0 s) : Keeps u0 (State.bumpBy s r d i n) := by
  unfold State.bumpBy
  try dsimp only
  repeat' (first
    | with_reducible assumption
    | intro _
    | with_reducible apply State.wr_keeps)

theorem State.bump_keeps {u0 : State} (s : State) (r : Nat) (d : PDesc) (i : Nat) (h_s : Keeps u0 s) : Keeps u0 (State.bump s r d i) := by
  unfold State.bump
  try dsimp only
  repeat' (first
    | with_reducible assumption
    | intro _
    | with_reducible apply State.bumpBy_keeps)

theorem State.wrBit_keeps {u0 : State} (s : State) (r : Nat) (d : PDesc) (i n : Nat) (b : Bool) (h_s : Keeps u0 s) : Keeps u0 (State.wrBit s r d i n b) := by
  unfold State.wrBit
  try dsimp only
  repeat' (first
    | with_reducible assumption
    | intro _
    | with_reducible apply State.wr_keeps)

end Sys2Proof.Machine
end

