-- ==== Sys2Proof/Laws/KeepsFlits.lean ====
section
/-! SUPPORT. What every operation of Flits keeps. -/

namespace Sys2Proof.Machine

open Par

theorem State.setLink_keeps {u0 : State} (s : State) (k : Link) (x : LinkSt) (h_s : Keeps u0 s) : Keeps u0 (State.setLink s k x) := by
  unfold State.setLink
  try dsimp only
  repeat' (first
    | with_reducible assumption
    | intro _
    | with_reducible apply Keeps.ite
    | with_reducible apply Keeps.iteFst
    | split
    | with_reducible apply Keeps.upd)

theorem State.pump_keeps {u0 : State} (n : Nat) (k : Link) (s : State) (h : Keeps u0 s) : Keeps u0 (State.pump n k s) := by
  induction n generalizing s with
  | zero => exact h
  | succ n ih =>
    unfold State.pump
    try dsimp only
    repeat' (first
      | with_reducible assumption
      | intro _
      | with_reducible apply ih
      | with_reducible apply Keeps.ite
      | with_reducible apply Keeps.iteFst
      | with_reducible apply State.setLink_keeps
      | split
      | with_reducible apply Keeps.upd)

theorem State.linkSend_keeps {u0 : State} (s : State) (k : Link) (type : Nat) (msg : List Byte) (h_s : Keeps u0 s) : Keeps u0 (State.linkSend s k type msg) := by
  unfold State.linkSend
  try dsimp only
  repeat' (first
    | with_reducible assumption
    | intro _
    | with_reducible apply Keeps.ite
    | with_reducible apply State.setLink_keeps
    | with_reducible apply State.pump_keeps)

theorem State.laneSend_keeps {u0 : State} (s : State) (r : Nat) (dst : List Region) (type : Nat) (msg : List Byte) (h_s : Keeps u0 s) : Keeps u0 (State.laneSend s r dst type msg) := by
  unfold State.laneSend
  try dsimp only
  repeat' (first
    | with_reducible assumption
    | intro _
    | with_reducible apply Keeps.ite
    | with_reducible apply State.linkSend_keeps
    | with_reducible apply Keeps.foldl
    | with_reducible apply Keeps.foldlFst
    | dsimp only
    | split)

theorem State.onLinks_keeps {u0 : State} (s : State) (x : Sent) (h_s : Keeps u0 s) : Keeps u0 (State.onLinks s x) := by
  unfold State.onLinks
  try dsimp only
  repeat' (first
    | with_reducible assumption
    | intro _
    | with_reducible apply State.laneSend_keeps
    | with_reducible apply State.linkSend_keeps
    | split)

theorem State.send_keeps {u0 : State} (s : State) (x : Sent) (h_s : Keeps u0 s) : Keeps u0 (State.send s x) := by
  unfold State.send
  try dsimp only
  repeat' (first
    | with_reducible assumption
    | intro _
    | with_reducible apply State.onLinks_keeps
    | split
    | with_reducible apply Keeps.upd)

end Sys2Proof.Machine
end

