-- ==== Sys2Proof/Laws/KeepsOps.lean ====
section
/-! SUPPORT. What every operation of Ops keeps. -/

namespace Sys2Proof.Machine

open Par Var

theorem State.modBridge_keeps {u0 : State} (s : State) (l : LaneId) (b : Nat) (f : Bridge → Bridge) (h_s : Keeps u0 s) : Keeps u0 (State.modBridge s l b f) := by
  unfold State.modBridge
  try dsimp only
  repeat' (first
    | with_reducible assumption
    | intro _
    | with_reducible apply State.modLane_keeps)

theorem State.modWbe_keeps {u0 : State} (s : State) (l : LaneId) (f : Wbe → Wbe) (h_s : Keeps u0 s) : Keeps u0 (State.modWbe s l f) := by
  unfold State.modWbe
  try dsimp only
  repeat' (first
    | with_reducible assumption
    | intro _
    | with_reducible apply State.modLane_keeps)

theorem State.modHst_keeps {u0 : State} (s : State) (l : LaneId) (f : Hst → Hst) (h_s : Keeps u0 s) : Keeps u0 (State.modHst s l f) := by
  unfold State.modHst
  try dsimp only
  repeat' (first
    | with_reducible assumption
    | intro _
    | with_reducible apply State.modLane_keeps)

theorem State.modVot_keeps {u0 : State} (s : State) (l : LaneId) (f : Vot → Vot) (h_s : Keeps u0 s) : Keeps u0 (State.modVot s l f) := by
  unfold State.modVot
  try dsimp only
  repeat' (first
    | with_reducible assumption
    | intro _
    | with_reducible apply State.modLane_keeps)

theorem State.whenUp_keeps {u0 : State} (s : State) (l : LaneId) (f : State → State) (h_s : Keeps u0 s) (h_f : ∀ x, Keeps u0 x → Keeps u0 (f x)) : Keeps u0 (State.whenUp s l f) := by
  unfold State.whenUp
  try dsimp only
  repeat' (first
    | with_reducible assumption
    | intro _
    | with_reducible apply Keeps.ite
    | apply_assumption)

theorem State.whenHost_keeps {u0 : State} (s : State) (l : LaneId) (f : State → State) (h_s : Keeps u0 s) (h_f : ∀ x, Keeps u0 x → Keeps u0 (f x)) : Keeps u0 (State.whenHost s l f) := by
  unfold State.whenHost
  try dsimp only
  repeat' (first
    | with_reducible assumption
    | intro _
    | with_reducible apply Keeps.ite
    | apply_assumption)

theorem State.whenS_keeps {u0 : State} (s : State) (f : State → State) (h_s : Keeps u0 s) (h_f : ∀ x, Keeps u0 x → Keeps u0 (f x)) : Keeps u0 (State.whenS s f) := by
  unfold State.whenS
  try dsimp only
  repeat' (first
    | with_reducible assumption
    | intro _
    | with_reducible apply Keeps.ite
    | apply_assumption)

theorem State.whenM_keeps {u0 : State} (s : State) (f : State → State) (h_s : Keeps u0 s) (h_f : ∀ x, Keeps u0 x → Keeps u0 (f x)) : Keeps u0 (State.whenM s f) := by
  unfold State.whenM
  try dsimp only
  repeat' (first
    | with_reducible assumption
    | intro _
    | with_reducible apply Keeps.ite
    | apply_assumption)

theorem State.sendStaffAll_keeps {u0 : State} (s : State) (l : LaneId) (m : StaffMsg) (h_s : Keeps u0 s) : Keeps u0 (State.sendStaffAll s l m) := by
  unfold State.sendStaffAll
  try dsimp only
  repeat' (first
    | with_reducible assumption
    | intro _
    | with_reducible apply State.send_keeps
    | with_reducible apply Keeps.foldl)

theorem State.triggerOrder_keeps {u0 : State} (s : State) (l : LaneId) (o : Nat) (h_s : Keeps u0 s) : Keeps u0 (State.triggerOrder s l o) := by
  unfold State.triggerOrder
  try dsimp only
  repeat' (first
    | with_reducible assumption
    | intro _
    | with_reducible apply Keeps.ite
    | with_reducible apply State.bump_keeps
    | with_reducible apply State.wr_keeps
    | with_reducible apply State.modLane_keeps)

theorem State.event_keeps {u0 : State} (s : State) (l : LaneId) (code arg : Nat) (h_s : Keeps u0 s) : Keeps u0 (State.event s l code arg) := by
  unfold State.event
  try dsimp only
  repeat' (first
    | with_reducible assumption
    | intro _
    | with_reducible apply Keeps.ite
    | with_reducible apply State.triggerOrder_keeps
    | with_reducible apply Keeps.foldl)

theorem State.noteFall_keeps {u0 : State} (s : State) (l : LaneId) (b k : Nat) (h_s : Keeps u0 s) : Keeps u0 (State.noteFall s l b k) := by
  unfold State.noteFall
  try dsimp only
  repeat' (first
    | with_reducible assumption
    | intro _
    | with_reducible apply Keeps.ite
    | with_reducible apply State.wr_keeps
    | split)

theorem State.riseLow_keeps {u0 : State} (s : State) (l : LaneId) (b k : Nat) (h_s : Keeps u0 s) : Keeps u0 (State.riseLow s l b k) := by
  unfold State.riseLow
  try dsimp only
  repeat' (first
    | with_reducible assumption
    | intro _
    | with_reducible apply Keeps.ite
    | with_reducible apply State.wr_keeps
    | with_reducible apply State.bump_keeps
    | split)

theorem State.unblock_keeps {u0 : State} (s : State) (l : LaneId) (b : Nat) (h_s : Keeps u0 s) : Keeps u0 (State.unblock s l b) := by
  unfold State.unblock
  try dsimp only
  repeat' (first
    | with_reducible assumption
    | intro _
    | with_reducible apply State.wr_keeps
    | with_reducible apply Keeps.foldl)

theorem State.shortGates_keeps {u0 : State} (s : State) (l : LaneId) (b : Nat) (h_s : Keeps u0 s) : Keeps u0 (State.shortGates s l b) := by
  unfold State.shortGates
  try dsimp only
  repeat' (first
    | with_reducible assumption
    | intro _
    | with_reducible apply Keeps.ite
    | with_reducible apply State.wr_keeps
    | with_reducible apply State.noteFall_keeps
    | with_reducible apply State.riseLow_keeps
    | with_reducible apply State.unblock_keeps
    | with_reducible apply Keeps.foldl
    | split)

theorem State.commandsEnd_keeps {u0 : State} (s : State) (l : LaneId) (b : Nat) (h_s : Keeps u0 s) : Keeps u0 (State.commandsEnd s l b) := by
  unfold State.commandsEnd
  try dsimp only
  repeat' (first
    | with_reducible assumption
    | intro _
    | with_reducible apply State.noteFall_keeps
    | with_reducible apply State.unblock_keeps
    | with_reducible apply State.wr_keeps
    | with_reducible apply Keeps.foldl)

theorem State.setBridge_keeps {u0 : State} (s : State) (l : LaneId) (b st : Nat) (h_s : Keeps u0 s) : Keeps u0 (State.setBridge s l b st) := by
  unfold State.setBridge
  try dsimp only
  repeat' (first
    | with_reducible assumption
    | intro _
    | with_reducible apply Keeps.ite
    | with_reducible apply State.wr_keeps
    | with_reducible apply State.shortGates_keeps
    | with_reducible apply State.commandsEnd_keeps
    | split)

theorem State.openExpress_keeps {u0 : State} (s : State) (l : LaneId) (n : Nat) (h_s : Keeps u0 s) : Keeps u0 (State.openExpress s l n) := by
  unfold State.openExpress
  try dsimp only
  repeat' (first
    | with_reducible assumption
    | intro _
    | with_reducible apply State.wr_keeps)

theorem State.trackRestart_keeps {u0 : State} (s : State) (l : LaneId) (b : Nat) (h_s : Keeps u0 s) : Keeps u0 (State.trackRestart s l b) := by
  unfold State.trackRestart
  try dsimp only
  repeat' (first
    | with_reducible assumption
    | intro _
    | with_reducible apply State.modBridge_keeps
    | with_reducible apply State.wr_keeps)

theorem State.dropOwn_keeps {u0 : State} (s : State) (l : LaneId) (b : Nat) (h_s : Keeps u0 s) : Keeps u0 (State.dropOwn s l b) := by
  unfold State.dropOwn
  try dsimp only
  repeat' (first
    | with_reducible assumption
    | intro _
    | with_reducible apply State.modBridge_keeps
    | with_reducible apply State.trackRestart_keeps
    | with_reducible apply State.wr_keeps
    | with_reducible apply State.openExpress_keeps)

theorem State.loseWinding_keeps {u0 : State} (s : State) (l : LaneId) (b : Nat) (h_s : Keeps u0 s) : Keeps u0 (State.loseWinding s l b) := by
  unfold State.loseWinding
  try dsimp only
  repeat' (first
    | with_reducible assumption
    | intro _
    | with_reducible apply Keeps.ite
    | with_reducible apply State.wr_keeps)

theorem State.withdraw_keeps {u0 : State} (s : State) (l : LaneId) (b : Nat) (h_s : Keeps u0 s) : Keeps u0 (State.withdraw s l b) := by
  unfold State.withdraw
  try dsimp only
  repeat' (first
    | with_reducible assumption
    | intro _
    | with_reducible apply Keeps.ite
    | with_reducible apply State.setBridge_keeps
    | with_reducible apply State.dropOwn_keeps
    | with_reducible apply State.loseWinding_keeps)

theorem State.withdrawAll_keeps {u0 : State} (s : State) (l : LaneId) (h_s : Keeps u0 s) : Keeps u0 (State.withdrawAll s l) := by
  unfold State.withdrawAll
  try dsimp only
  repeat' (first
    | with_reducible assumption
    | intro _
    | with_reducible apply State.withdraw_keeps
    | with_reducible apply Keeps.foldl)

theorem State.leave_keeps {u0 : State} (s : State) (l : LaneId) (h_s : Keeps u0 s) : Keeps u0 (State.leave s l) := by
  unfold State.leave
  try dsimp only
  repeat' (first
    | with_reducible assumption
    | intro _
    | with_reducible apply Keeps.ite
    | with_reducible apply State.sendStaffAll_keeps
    | with_reducible apply State.wr_keeps
    | with_reducible apply State.withdrawAll_keeps)

theorem State.dropHeld_keeps {u0 : State} (s : State) (l : LaneId) (h_s : Keeps u0 s) : Keeps u0 (State.dropHeld s l) := by
  unfold State.dropHeld
  try dsimp only
  repeat' (first
    | with_reducible assumption
    | intro _
    | with_reducible apply State.modWbe_keeps
    | with_reducible apply State.modVot_keeps)

theorem State.hearExcluded_keeps {u0 : State} (s : State) (l : LaneId) (m : Nat) (h_s : Keeps u0 s) : Keeps u0 (State.hearExcluded s l m) := by
  unfold State.hearExcluded
  try dsimp only
  repeat' (first
    | with_reducible assumption
    | intro _
    | with_reducible apply Keeps.ite
    | with_reducible apply State.wr_keeps
    | with_reducible apply State.dropHeld_keeps)

theorem State.fclAfterReset_keeps {u0 : State} (s : State) (r : Nat) (h_s : Keeps u0 s) : Keeps u0 (State.fclAfterReset s r) := by
  unfold State.fclAfterReset
  try dsimp only
  repeat' (first
    | with_reducible assumption
    | intro _
    | with_reducible apply Keeps.ite
    | with_reducible apply State.wr_keeps
    | with_reducible apply State.clr_keeps
    | with_reducible apply Keeps.foldl
    | with_reducible apply Keeps.foldlFst
    | dsimp only
    | split
    | with_reducible apply Keeps.upd)

theorem State.stampReset_keeps {u0 : State} (s : State) (r src : Nat) (timeout : Bool) (h_s : Keeps u0 s) : Keeps u0 (State.stampReset s r src timeout) := by
  unfold State.stampReset
  try dsimp only
  repeat' (first
    | with_reducible assumption
    | intro _
    | with_reducible apply State.wr_keeps)

theorem State.raiseEpoch_keeps {u0 : State} (s : State) (r : Nat) (h_s : Keeps u0 s) : Keeps u0 (State.raiseEpoch s r) := by
  unfold State.raiseEpoch
  try dsimp only
  repeat' (first
    | with_reducible assumption
    | intro _
    | with_reducible apply State.wr_keeps)

theorem State.dropLinks_keeps {u0 : State} (s : State) (reg : Region) (h_s : Keeps u0 s) : Keeps u0 (State.dropLinks s reg) := by
  unfold State.dropLinks
  try dsimp only
  repeat' (first
    | with_reducible assumption
    | intro _
    | with_reducible apply Keeps.iteFst
    | with_reducible apply State.wr_keeps
    | with_reducible apply Keeps.foldl
    | with_reducible apply Keeps.foldlFst
    | dsimp only
    | split
    | with_reducible apply Keeps.upd)

theorem Store.wf_resetRegion {m : Store} (r : Nat) (h : m.wf = true) : (m.resetRegion r).wf = true := Store.wf_filter _ h

theorem State.resetPower_keeps {u0 : State} (s : State) (l : LaneId) (h_s : Keeps u0 s) : Keeps u0 (State.resetPower s l) := by
  unfold State.resetPower
  extract_lets held a b c e d
  have ha : Keeps u0 a := by
    apply Keeps.foldl _ h_s
    intro s b h
    apply Keeps.ite _ h
    exact State.loseWinding_keeps _ _ _ (State.dropOwn_keeps _ _ _ (State.wr_keeps _ _ _ _ _ h))
  have hb : Keeps u0 b := Keeps.upd ha (Store.wf_resetRegion _)
  have hc : Keeps u0 c := Keeps.foldl (fun s h g => Keeps.foldl (fun s v h => State.wr_keeps _ _ _ _ _ h) g) hb
  have he : Keeps u0 e := Keeps.foldl (fun s b h => State.modBridge_keeps _ _ _ _ h) hc
  have hd : Keeps u0 d := Keeps.ite (State.wr_keeps _ _ _ _ _ (State.wr_keeps _ _ _ _ _ he)) he
  exact State.dropLinks_keeps _ _ (State.fclAfterReset_keeps _ _ hd)

theorem State.resetLane_keeps {u0 : State} (s : State) (l : LaneId) (h_s : Keeps u0 s) : Keeps u0 (State.resetLane s l) := by
  unfold State.resetLane
  try dsimp only
  repeat' (first
    | with_reducible assumption
    | intro _
    | with_reducible apply State.resetPower_keeps
    | with_reducible apply State.wr_keeps
    | with_reducible apply State.fclAfterReset_keeps
    | with_reducible apply State.dropLinks_keeps
    | with_reducible apply State.raiseEpoch_keeps
    | with_reducible apply State.setLane_keeps
    | with_reducible apply Store.wf_resetRegion
    | with_reducible apply Store.wf_filter
    | with_reducible apply Keeps.foldl
    | with_reducible apply Keeps.foldlFst
    | dsimp only
    | split
    | with_reducible apply Keeps.upd)

theorem State.breakLock_keeps {u0 : State} (s : State) (r u : Nat) (h_s : Keeps u0 s) : Keeps u0 (State.breakLock s r u) := by
  unfold State.breakLock
  try dsimp only
  repeat' (first
    | with_reducible assumption
    | intro _
    | with_reducible apply Keeps.ite
    | with_reducible apply State.modWbe_keeps
    | with_reducible apply State.wr_keeps
    | split)

theorem State.breakLocks_keeps {u0 : State} (s : State) (r : Nat) (h_s : Keeps u0 s) : Keeps u0 (State.breakLocks s r) := by
  unfold State.breakLocks
  try dsimp only
  repeat' (first
    | with_reducible assumption
    | intro _
    | with_reducible apply State.breakLock_keeps
    | with_reducible apply Keeps.foldl)

theorem State.resetS_keeps {u0 : State} (s : State) (h_s : Keeps u0 s) : Keeps u0 (State.resetS s) := by
  unfold State.resetS
  try dsimp only
  repeat' (first
    | with_reducible assumption
    | intro _
    | with_reducible apply State.breakLocks_keeps
    | with_reducible apply State.fclAfterReset_keeps
    | with_reducible apply State.dropLinks_keeps
    | with_reducible apply Store.wf_resetRegion
    | with_reducible apply Store.wf_filter
    | split
    | with_reducible apply Keeps.upd)

theorem State.resetM_keeps {u0 : State} (s : State) (h_s : Keeps u0 s) : Keeps u0 (State.resetM s) := by
  unfold State.resetM
  try dsimp only
  repeat' (first
    | with_reducible assumption
    | intro _
    | with_reducible apply State.raiseEpoch_keeps
    | with_reducible apply State.breakLocks_keeps
    | with_reducible apply State.fclAfterReset_keeps
    | with_reducible apply State.dropLinks_keeps
    | with_reducible apply Store.wf_resetRegion
    | with_reducible apply Store.wf_filter
    | split
    | with_reducible apply Keeps.upd)

end Sys2Proof.Machine
end

