-- ==== Sys2Proof/Laws/KeepsCollector.lean ====
section
/-! SUPPORT. What every operation of Collector keeps. -/

namespace Sys2Proof.Machine

open Par Var

theorem State.updPin_keeps {u0 : State} (s : State) (r : Nat) (h_s : Keeps u0 s) : Keeps u0 (State.updPin s r) := by
  unfold State.updPin
  try dsimp only
  repeat' (first
    | with_reducible assumption
    | intro _
    | with_reducible apply Keeps.ite
    | with_reducible apply State.wr_keeps)

theorem State.pinHoldEnd_keeps {u0 : State} (s : State) (r : Nat) (h_s : Keeps u0 s) : Keeps u0 (State.pinHoldEnd s r) := by
  unfold State.pinHoldEnd
  try dsimp only
  repeat' (first
    | with_reducible assumption
    | intro _
    | with_reducible apply State.wr_keeps
    | with_reducible apply State.updPin_keeps)

theorem State.tell_keeps {u0 : State} (s : State) (r src kind : Nat) (h_s : Keeps u0 s) : Keeps u0 (State.tell s r src kind) := by
  unfold State.tell
  try dsimp only
  repeat' (first
    | with_reducible assumption
    | intro _
    | with_reducible apply Keeps.ite
    | with_reducible apply State.send_keeps
    | split)

theorem State.ordersLoaded_keeps {u0 : State} (s : State) (l : LaneId) (h_s : Keeps u0 s) : Keeps u0 (State.ordersLoaded s l) := by
  unfold State.ordersLoaded
  try dsimp only
  repeat' (first
    | with_reducible assumption
    | intro _
    | with_reducible apply State.wr_keeps
    | with_reducible apply Keeps.foldl)

theorem State.blockReset_keeps {u0 : State} (s : State) (r blk : Nat) (h_s : Keeps u0 s) : Keeps u0 (State.blockReset s r blk) := by
  unfold State.blockReset
  try dsimp only
  repeat' (first
    | with_reducible assumption
    | intro _
    | with_reducible apply Keeps.ite
    | with_reducible apply Keeps.iteFst
    | with_reducible apply State.ordersLoaded_keeps
    | with_reducible apply State.modLane_keeps
    | with_reducible apply State.wr_keeps
    | with_reducible apply State.bump_keeps
    | with_reducible apply Store.wf_filter
    | split
    | with_reducible apply Keeps.upd)

theorem State.regionReset_keeps {u0 : State} (s : State) (r src : Nat) (timeout : Bool) (h_s : Keeps u0 s) : Keeps u0 (State.regionReset s r src timeout) := by
  unfold State.regionReset
  try dsimp only
  repeat' (first
    | with_reducible assumption
    | intro _
    | with_reducible apply State.stampReset_keeps
    | with_reducible apply State.wr_keeps
    | with_reducible apply State.leave_keeps
    | with_reducible apply State.resetPower_keeps
    | with_reducible apply State.resetM_keeps
    | with_reducible apply State.resetS_keeps
    | split)

theorem State.coreReact_keeps {u0 : State} (s : State) (r src bits : Nat) (h_s : Keeps u0 s) : Keeps u0 (State.coreReact s r src bits) := by
  unfold State.coreReact
  try dsimp only
  repeat' (first
    | with_reducible assumption
    | intro _
    | with_reducible apply Keeps.ite
    | with_reducible apply State.wr_keeps
    | with_reducible apply State.send_keeps
    | split)

theorem State.react_keeps {u0 : State} (s : State) (r src : Nat) (h_s : Keeps u0 s) : Keeps u0 (State.react s r src) := by
  unfold State.react
  try dsimp only
  repeat' (first
    | with_reducible assumption
    | intro _
    | with_reducible apply Keeps.ite
    | with_reducible apply State.coreReact_keeps
    | with_reducible apply State.regionReset_keeps
    | with_reducible apply State.blockReset_keeps)

theorem State.trouble_keeps {u0 : State} (s : State) (r src : Nat) (h_s : Keeps u0 s) : Keeps u0 (State.trouble s r src) := by
  unfold State.trouble
  try dsimp only
  repeat' (first
    | with_reducible assumption
    | intro _
    | with_reducible apply State.bump_keeps)

theorem State.stampLast_keeps {u0 : State} (s : State) (r src : Nat) (h_s : Keeps u0 s) : Keeps u0 (State.stampLast s r src) := by
  unfold State.stampLast
  try dsimp only
  repeat' (first
    | with_reducible assumption
    | intro _
    | with_reducible apply State.wr_keeps)

theorem State.stampFirst_keeps {u0 : State} (s : State) (r src : Nat) (h_s : Keeps u0 s) : Keeps u0 (State.stampFirst s r src) := by
  unfold State.stampFirst
  try dsimp only
  repeat' (first
    | with_reducible assumption
    | intro _
    | with_reducible apply Keeps.ite
    | with_reducible apply State.wr_keeps)

theorem State.shadowNote_keeps {u0 : State} (s : State) (r : Nat) (h_s : Keeps u0 s) : Keeps u0 (State.shadowNote s r) := by
  unfold State.shadowNote
  repeat' (first
    | with_reducible assumption
    | with_reducible apply Keeps.ite
    | with_reducible apply State.wr_keeps
    | split)

theorem State.noteHit_keeps {u0 : State} (s : State) (r src : Nat) (h_s : Keeps u0 s) : Keeps u0 (State.noteHit s r src) := by
  unfold State.noteHit
  repeat' (first
    | with_reducible assumption
    | with_reducible apply State.wr_keeps
    | with_reducible apply State.event_keeps
    | split)

theorem State.enterFault_keeps {u0 : State} (s : State) (r src : Nat) (h_s : Keeps u0 s) : Keeps u0 (State.enterFault s r src) := by
  unfold State.enterFault
  try dsimp only
  repeat' (first
    | with_reducible assumption
    | intro _
    | with_reducible apply Keeps.ite
    | with_reducible apply State.wrBit_keeps
    | with_reducible apply State.tell_keeps
    | with_reducible apply State.trouble_keeps
    | with_reducible apply State.stampFirst_keeps
    | with_reducible apply State.shadowNote_keeps
    | with_reducible apply State.react_keeps
    | with_reducible apply State.updPin_keeps
    | split)

theorem State.raise_keeps {u0 : State} (s : State) (r src : Nat) (held : Bool) (h_s : Keeps u0 s) : Keeps u0 (State.raise s r src held) := by
  unfold State.raise
  try dsimp only
  repeat' (first
    | with_reducible assumption
    | intro _
    | with_reducible apply Keeps.ite
    | with_reducible apply State.wrBit_keeps
    | with_reducible apply State.trouble_keeps
    | with_reducible apply State.bump_keeps
    | with_reducible apply State.stampLast_keeps
    | with_reducible apply State.noteHit_keeps
    | with_reducible apply State.wr_keeps
    | with_reducible apply State.enterFault_keeps
    | split)

theorem State.release_keeps {u0 : State} (s : State) (r src : Nat) (h_s : Keeps u0 s) : Keeps u0 (State.release s r src) := by
  unfold State.release
  try dsimp only
  repeat' (first
    | with_reducible assumption
    | intro _
    | with_reducible apply Keeps.ite
    | with_reducible apply State.wrBit_keeps
    | with_reducible apply State.wr_keeps)

theorem State.setRecTimes_keeps {u0 : State} (s : State) (r src : Nat) (ts : List Nat) (h_s : Keeps u0 s) : Keeps u0 (State.setRecTimes s r src ts) := by
  unfold State.setRecTimes
  try dsimp only
  repeat' (first
    | with_reducible assumption
    | intro _
    | with_reducible apply Keeps.ite
    | split
    | with_reducible apply Keeps.upd)

theorem State.recover_keeps {u0 : State} (s : State) (r src : Nat) (h_s : Keeps u0 s) : Keeps u0 (State.recover s r src) := by
  unfold State.recover
  try dsimp only
  repeat' (first
    | with_reducible assumption
    | intro _
    | with_reducible apply State.wrBit_keeps
    | with_reducible apply State.setRecTimes_keeps
    | with_reducible apply State.wr_keeps
    | with_reducible apply State.updPin_keeps)

theorem State.quietEnd_keeps {u0 : State} (s : State) (r src : Nat) (h_s : Keeps u0 s) : Keeps u0 (State.quietEnd s r src) := by
  unfold State.quietEnd
  try dsimp only
  repeat' (first
    | with_reducible assumption
    | intro _
    | with_reducible apply Keeps.ite
    | with_reducible apply State.recover_keeps)

theorem State.unlatch_keeps {u0 : State} (s : State) (r src : Nat) (h_s : Keeps u0 s) : Keeps u0 (State.unlatch s r src) := by
  unfold State.unlatch
  try dsimp only
  repeat' (first
    | with_reducible assumption
    | intro _
    | with_reducible apply Keeps.ite
    | with_reducible apply State.wrBit_keeps
    | with_reducible apply State.setRecTimes_keeps
    | with_reducible apply State.wr_keeps
    | with_reducible apply State.updPin_keeps)

theorem State.blockReady_keeps {u0 : State} (s : State) (r blk : Nat) (h_s : Keeps u0 s) : Keeps u0 (State.blockReady s r blk) := by
  unfold State.blockReady
  try dsimp only
  repeat' (first
    | with_reducible assumption
    | intro _
    | with_reducible apply Keeps.ite
    | with_reducible apply State.wr_keeps)

theorem State.blockResetTimeout_keeps {u0 : State} (s : State) (r blk : Nat) (h_s : Keeps u0 s) : Keeps u0 (State.blockResetTimeout s r blk) := by
  unfold State.blockResetTimeout
  try dsimp only
  repeat' (first
    | with_reducible assumption
    | intro _
    | with_reducible apply Keeps.ite
    | with_reducible apply State.raise_keeps
    | with_reducible apply State.wrBit_keeps
    | split)

end Sys2Proof.Machine
end

