-- ==== Sys2Proof/Laws/KeepsReply.lean ====
section
/-! SUPPORT. What every operation of Reply keeps. -/

namespace Sys2Proof.Machine

open Par Var

theorem State.orderNote_keeps {u0 : State} (s : State) (l : LaneId) (r : Rsp) (h_s : Keeps u0 s) : Keeps u0 (State.orderNote s l r) := by
  unfold State.orderNote
  try dsimp only
  repeat' (first
    | with_reducible assumption
    | intro _
    | with_reducible apply Keeps.ite
    | with_reducible apply State.wr_keeps
    | with_reducible apply State.bump_keeps)

theorem State.deliver_keeps {u0 : State} (s : State) (l : LaneId) (h : Hdr) (r : Reply) (h_s : Keeps u0 s) : Keeps u0 (State.deliver s l h r) := by
  unfold State.deliver
  try dsimp only
  repeat' (first
    | with_reducible assumption
    | intro _
    | with_reducible apply Keeps.ite
    | with_reducible apply State.modHst_keeps
    | with_reducible apply State.modWbe_keeps
    | with_reducible apply State.bump_keeps
    | with_reducible apply State.send_keeps
    | with_reducible apply State.reply_keeps
    | split)

theorem State.noteReply_keeps {u0 : State} (s : State) (l : LaneId) (h : Hdr) (opcode : Nat) (r : Reply) (good : Bool) (h_s : Keeps u0 s) : Keeps u0 (State.noteReply s l h opcode r good) := by
  unfold State.noteReply
  try dsimp only
  repeat' (first
    | with_reducible assumption
    | intro _
    | with_reducible apply Keeps.ite
    | with_reducible apply State.modWbe_keeps)

theorem State.reply_keeps {u0 : State} (s : State) (l : LaneId) (h : Hdr) (opcode : Nat) (r : Rsp) (final deferred : Bool) (mask : Nat) (dup : Bool) (h_s : Keeps u0 s) : Keeps u0 (State.reply s l h opcode r final deferred mask dup) := by
  unfold State.reply
  try dsimp only
  repeat' (first
    | with_reducible assumption
    | intro _
    | with_reducible apply Keeps.ite
    | with_reducible apply State.final_keeps
    | with_reducible apply State.bump_keeps
    | with_reducible apply State.wr_keeps
    | with_reducible apply State.orderNote_keeps
    | with_reducible apply State.deliver_keeps)

theorem State.answer_keeps {u0 : State} (s : State) (l : LaneId) (h : Hdr) (opcode : Nat) (r : Rsp) (final deferred : Bool) (mask : Nat) (dup : Bool) (h_s : Keeps u0 s) : Keeps u0 (State.answer s l h opcode r final deferred mask dup) := by
  unfold State.answer
  try dsimp only
  repeat' (first
    | with_reducible assumption
    | intro _
    | with_reducible apply State.noteReply_keeps
    | with_reducible apply State.final_keeps
    | with_reducible apply State.reply_keeps)

theorem State.final_keeps {u0 : State} (s : State) (l : LaneId) (h : Hdr) (opcode : Nat) (r : Rsp) (h_s : Keeps u0 s) : Keeps u0 (State.final s l h opcode r) := by
  unfold State.final
  try dsimp only
  repeat' (first
    | with_reducible assumption
    | intro _
    | with_reducible apply State.answer_keeps)

theorem State.countRx_keeps {u0 : State} (s : State) (l : LaneId) (h : Hdr) (h_s : Keeps u0 s) : Keeps u0 (State.countRx s l h) := by
  unfold State.countRx
  try dsimp only
  repeat' (first
    | with_reducible assumption
    | intro _
    | with_reducible apply State.bump_keeps)

theorem State.perform_keeps {u0 : State} (s : State) (l : LaneId) (h : Hdr) (opcode : Nat) (chk : Option Rsp) (eff : State × Rsp) (h_s : Keeps u0 s) (h_eff : Keeps u0 eff.1) : Keeps u0 (State.perform s l h opcode chk eff) := by
  unfold State.perform
  try dsimp only
  repeat' (first
    | with_reducible assumption
    | intro _
    | with_reducible apply Keeps.iteFst
    | with_reducible apply State.final_keeps
    | with_reducible apply State.countRx_keeps
    | split)

end Sys2Proof.Machine
end

