-- ==== Sys2Proof/Laws/KeepsOperands.lean ====
section
/-! SUPPORT. What every operation of Operands keeps. -/

namespace Sys2Proof.Machine

open Par Var

theorem State.takeDigest_keeps {u0 : State} (s : State) (l : LaneId) (h_s : Keeps u0 s) : Keeps u0 (State.takeDigest s l) := by
  unfold State.takeDigest
  try dsimp only
  repeat' (first
    | with_reducible assumption
    | intro _
    | with_reducible apply State.modLane_keeps)

theorem State.trcEvent_keeps {u0 : State} (s : State) (l : LaneId) (source n : Nat) (h_s : Keeps u0 s) : Keeps u0 (State.trcEvent s l source n) := by
  unfold State.trcEvent
  try dsimp only
  repeat' (first
    | with_reducible assumption
    | intro _
    | with_reducible apply Keeps.ite
    | with_reducible apply State.wr_keeps
    | split)

end Sys2Proof.Machine
end

