-- ==== Sys2Proof/Laws/KeepsTrace.lean ====
section
/-! SUPPORT. What every operation of Trace keeps. -/

namespace Sys2Proof.Machine

open Par Var

theorem State.modTrc_keeps {u0 : State} (s : State) (l : LaneId) (f : Trc → Trc) (h_s : Keeps u0 s) : Keeps u0 (State.modTrc s l f) := by
  unfold State.modTrc
  try dsimp only
  repeat' (first
    | with_reducible assumption
    | intro _
    | with_reducible apply State.modLane_keeps
    | with_reducible apply State.wr_keeps)

theorem State.ringPush_keeps {u0 : State} (s : State) (l : LaneId) (row : List Byte) (h_s : Keeps u0 s) : Keeps u0 (State.ringPush s l row) := by
  unfold State.ringPush
  try dsimp only
  repeat' (first
    | with_reducible assumption
    | intro _
    | with_reducible apply Keeps.ite
    | with_reducible apply State.modTrc_keeps
    | with_reducible apply State.wr_keeps)

theorem State.trcFilled_keeps {u0 : State} (s : State) (l : LaneId) (h_s : Keeps u0 s) : Keeps u0 (State.trcFilled s l) := by
  unfold State.trcFilled
  try dsimp only
  repeat' (first
    | with_reducible assumption
    | intro _
    | with_reducible apply Keeps.ite
    | with_reducible apply State.wr_keeps)

theorem State.trcTrigger_keeps {u0 : State} (s : State) (l : LaneId) (h_s : Keeps u0 s) : Keeps u0 (State.trcTrigger s l) := by
  unfold State.trcTrigger
  try dsimp only
  repeat' (first
    | with_reducible assumption
    | intro _
    | with_reducible apply Keeps.ite
    | with_reducible apply State.ringPush_keeps
    | with_reducible apply State.modTrc_keeps
    | with_reducible apply State.wr_keeps)

theorem State.trcPost_keeps {u0 : State} (s : State) (l : LaneId) (h_s : Keeps u0 s) : Keeps u0 (State.trcPost s l) := by
  unfold State.trcPost
  try dsimp only
  repeat' (first
    | with_reducible assumption
    | intro _
    | with_reducible apply Keeps.ite
    | with_reducible apply State.ringPush_keeps
    | with_reducible apply State.wr_keeps)

theorem State.trcSend_keeps {u0 : State} (s : State) (l : LaneId) (h_s : Keeps u0 s) : Keeps u0 (State.trcSend s l) := by
  unfold State.trcSend
  try dsimp only
  repeat' (first
    | with_reducible assumption
    | intro _
    | with_reducible apply Keeps.ite
    | with_reducible apply Keeps.iteFst
    | with_reducible apply State.wr_keeps
    | with_reducible apply State.send_keeps
    | with_reducible apply State.modTrc_keeps
    | split)

theorem State.trcStreamRow_keeps {u0 : State} (s : State) (l : LaneId) (h_s : Keeps u0 s) : Keeps u0 (State.trcStreamRow s l) := by
  unfold State.trcStreamRow
  try dsimp only
  repeat' (first
    | with_reducible assumption
    | intro _
    | with_reducible apply Keeps.ite
    | with_reducible apply State.ringPush_keeps
    | with_reducible apply State.bump_keeps
    | with_reducible apply State.modTrc_keeps
    | with_reducible apply State.trcSend_keeps
    | split)

theorem State.trcMLost_keeps {u0 : State} (s : State) (l : LaneId) (h_s : Keeps u0 s) : Keeps u0 (State.trcMLost s l) := by
  unfold State.trcMLost
  try dsimp only
  repeat' (first
    | with_reducible assumption
    | intro _
    | with_reducible apply Keeps.ite
    | with_reducible apply State.wr_keeps)

theorem State.trcSample_keeps {u0 : State} (s : State) (l : LaneId) (h_s : Keeps u0 s) : Keeps u0 (State.trcSample s l) := by
  unfold State.trcSample
  try dsimp only
  repeat' (first
    | with_reducible assumption
    | intro _
    | with_reducible apply Keeps.ite
    | with_reducible apply State.ringPush_keeps
    | with_reducible apply State.trcFilled_keeps
    | with_reducible apply State.trcTrigger_keeps
    | with_reducible apply State.trcPost_keeps
    | with_reducible apply State.trcStreamRow_keeps
    | with_reducible apply State.wr_keeps
    | with_reducible apply State.modTrc_keeps
    | split)

theorem State.trcStart_keeps {u0 : State} (s : State) (l : LaneId) (st : Nat) (h_s : Keeps u0 s) : Keeps u0 (State.trcStart s l st) := by
  unfold State.trcStart
  try dsimp only
  repeat' (first
    | with_reducible assumption
    | intro _
    | with_reducible apply State.wr_keeps)

theorem State.effTraceArm_keeps {u0 : State} (s : State) (l : LaneId) (h_s : Keeps u0 s) : Keeps u0 (State.effTraceArm s l) := by
  unfold State.effTraceArm
  try dsimp only
  repeat' (first
    | with_reducible assumption
    | intro _
    | with_reducible apply State.modTrc_keeps
    | with_reducible apply State.wr_keeps
    | with_reducible apply State.trcStart_keeps
    | with_reducible apply State.trcFilled_keeps
    | with_reducible apply Keeps.foldl)

theorem State.effTraceTrigger_keeps {u0 : State} (s : State) (l : LaneId) (h_s : Keeps u0 s) : Keeps u0 (State.effTraceTrigger s l) := by
  unfold State.effTraceTrigger
  try dsimp only
  repeat' (first
    | with_reducible assumption
    | intro _
    | with_reducible apply Keeps.ite
    | with_reducible apply State.modTrc_keeps)

theorem State.effTraceStop_keeps {u0 : State} (s : State) (l : LaneId) (h_s : Keeps u0 s) : Keeps u0 (State.effTraceStop s l) := by
  unfold State.effTraceStop
  try dsimp only
  repeat' (first
    | with_reducible assumption
    | intro _
    | with_reducible apply Keeps.ite
    | with_reducible apply State.wr_keeps)

theorem State.effTraceStream_keeps {u0 : State} (s : State) (l : LaneId) (on : Bool) (h_s : Keeps u0 s) : Keeps u0 (State.effTraceStream s l on) := by
  unfold State.effTraceStream
  try dsimp only
  repeat' (first
    | with_reducible assumption
    | intro _
    | with_reducible apply Keeps.ite
    | with_reducible apply State.trcStart_keeps
    | with_reducible apply State.wr_keeps
    | with_reducible apply State.effTraceStop_keeps
    | split)

theorem State.archiveRows_keeps {u0 : State} (s : State) (l : LaneId) (rowBytes : Nat) (rows : List (List Byte)) (h_s : Keeps u0 s) : Keeps u0 (State.archiveRows s l rowBytes rows) := by
  unfold State.archiveRows
  try dsimp only
  repeat' (first
    | with_reducible assumption
    | intro _
    | with_reducible apply Keeps.iteFst
    | with_reducible apply State.wr_keeps
    | with_reducible apply State.bumpBy_keeps
    | (refine Keeps.upd ?_ id))

theorem State.performAt_keeps {u0 : State} (s : State) (l : LaneId) (d : Shared) (h : Hdr) (opcode : Nat) (chk : Option Rsp) (eff : State × Rsp) (h_s : Keeps u0 s) (h_eff : Keeps u0 eff.1) : Keeps u0 (State.performAt s l d h opcode chk eff) := by
  unfold State.performAt
  try dsimp only
  repeat' (first
    | with_reducible assumption
    | intro _
    | with_reducible apply State.perform_keeps)

end Sys2Proof.Machine
end

