-- ==== Sys2Proof/Laws/KeepsLearn.lean ====
section
/-! SUPPORT. What every operation of Learn keeps. -/

namespace Sys2Proof.Machine

open Par Var

theorem State.rpcSetW_keeps {u0 : State} (s : State) (l : LaneId) (r dt : Nat) (j v : Int) (h_s : Keeps u0 s) : Keeps u0 (State.rpcSetW s l r dt j v) := by
  unfold State.rpcSetW
  try dsimp only
  repeat' (first
    | with_reducible assumption
    | intro _
    | with_reducible apply State.modLane_keeps
    | with_reducible apply State.wrI_keeps)

theorem State.rpcClear_keeps {u0 : State} (s : State) (l : LaneId) (r : Nat) (h_s : Keeps u0 s) : Keeps u0 (State.rpcClear s l r) := by
  unfold State.rpcClear
  try dsimp only
  repeat' (first
    | with_reducible assumption
    | intro _
    | with_reducible apply Keeps.iteFst
    | with_reducible apply Store.wf_filter
    | split
    | with_reducible apply Keeps.upd)

theorem State.rpcStamp_keeps {u0 : State} (s : State) (l : LaneId) (r : Nat) (h_s : Keeps u0 s) : Keeps u0 (State.rpcStamp s l r) := by
  unfold State.rpcStamp
  try dsimp only
  repeat' (first
    | with_reducible assumption
    | intro _
    | with_reducible apply State.wr_keeps)

theorem State.rpcSave_keeps {u0 : State} (s : State) (l : LaneId) (r : Nat) (h_s : Keeps u0 s) : Keeps u0 (State.rpcSave s l r) := by
  unfold State.rpcSave
  try dsimp only
  repeat' (first
    | with_reducible assumption
    | intro _
    | with_reducible apply Keeps.ite
    | with_reducible apply State.rpcStamp_keeps
    | with_reducible apply State.modLane_keeps
    | split)

theorem State.rpcRestore_keeps {u0 : State} (s : State) (l : LaneId) (r : Nat) (h_s : Keeps u0 s) : Keeps u0 (State.rpcRestore s l r) := by
  unfold State.rpcRestore
  try dsimp only
  repeat' (first
    | with_reducible assumption
    | intro _
    | with_reducible apply Keeps.iteFst
    | with_reducible apply State.rpcClear_keeps
    | with_reducible apply State.wr_keeps
    | with_reducible apply Keeps.foldl
    | with_reducible apply Keeps.foldlFst
    | dsimp only
    | split)

theorem State.rpcFresh_keeps {u0 : State} (s : State) (l : LaneId) (r : Nat) (h_s : Keeps u0 s) : Keeps u0 (State.rpcFresh s l r) := by
  unfold State.rpcFresh
  try dsimp only
  repeat' (first
    | with_reducible assumption
    | intro _
    | with_reducible apply State.wr_keeps
    | with_reducible apply Keeps.foldl)

theorem State.rpcEnable_keeps {u0 : State} (s : State) (l : LaneId) (r : Nat) (h_s : Keeps u0 s) : Keeps u0 (State.rpcEnable s l r) := by
  unfold State.rpcEnable
  try dsimp only
  repeat' (first
    | with_reducible assumption
    | intro _
    | with_reducible apply Keeps.ite
    | with_reducible apply State.rpcRestore_keeps
    | with_reducible apply State.rpcFresh_keeps
    | with_reducible apply State.rpcStamp_keeps
    | with_reducible apply State.wr_keeps
    | split)

theorem State.rpcDisable_keeps {u0 : State} (s : State) (l : LaneId) (r : Nat) (h_s : Keeps u0 s) : Keeps u0 (State.rpcDisable s l r) := by
  unfold State.rpcDisable
  try dsimp only
  repeat' (first
    | with_reducible assumption
    | intro _
    | with_reducible apply State.wr_keeps)

theorem State.rpcCommand_keeps {u0 : State} (s : State) (l : LaneId) (r : Nat) (h_s : Keeps u0 s) : Keeps u0 (State.rpcCommand s l r) := by
  unfold State.rpcCommand
  try dsimp only
  repeat' (first
    | with_reducible assumption
    | intro _
    | with_reducible apply State.rpcClear_keeps
    | with_reducible apply State.rpcStamp_keeps
    | with_reducible apply State.rpcSave_keeps
    | with_reducible apply State.wr_keeps
    | split)

theorem State.rpcCompare_keeps {u0 : State} (s : State) (l : LaneId) (r : Nat) (equal : Bool) (h_s : Keeps u0 s) : Keeps u0 (State.rpcCompare s l r equal) := by
  unfold State.rpcCompare
  try dsimp only
  repeat' (first
    | with_reducible assumption
    | intro _
    | with_reducible apply Keeps.ite
    | with_reducible apply State.wr_keeps
    | with_reducible apply State.rpcClear_keeps
    | with_reducible apply State.rpcStamp_keeps
    | with_reducible apply State.bump_keeps
    | with_reducible apply State.raise_keeps)

theorem State.rpcPush_keeps {u0 : State} (s : State) (l : LaneId) (r : Nat) (v : Int) (ok : Bool) (h_s : Keeps u0 s) : Keeps u0 (State.rpcPush s l r v ok) := by
  unfold State.rpcPush
  try dsimp only
  repeat' (first
    | with_reducible assumption
    | intro _
    | with_reducible apply State.wr_keeps
    | with_reducible apply State.wrI_keeps
    | with_reducible apply State.wrB_keeps
    | with_reducible apply Keeps.foldl)

theorem State.rpcTake_keeps {u0 : State} (s : State) (l : LaneId) (h_s : Keeps u0 s) : Keeps u0 (State.rpcTake s l) := by
  unfold State.rpcTake
  try dsimp only
  repeat' (first
    | with_reducible assumption
    | intro _
    | with_reducible apply Keeps.ite
    | with_reducible apply State.rpcPush_keeps
    | with_reducible apply State.wr_keeps
    | with_reducible apply State.wrI_keeps
    | with_reducible apply Keeps.foldl
    | split)

theorem State.rpcBin_keeps {u0 : State} (s : State) (l : LaneId) (r dt : Nat) (d j : Int) (e : Rat) (h_s : Keeps u0 s) : Keeps u0 (State.rpcBin s l r dt d j e) := by
  unfold State.rpcBin
  try dsimp only
  repeat' (first
    | with_reducible assumption
    | intro _
    | with_reducible apply Keeps.ite
    | with_reducible apply Keeps.iteFst
    | with_reducible apply State.settle_keeps
    | with_reducible apply State.rpcSetW_keeps
    | with_reducible apply State.bump_keeps
    | with_reducible apply State.wrI_keeps
    | with_reducible apply State.wr_keeps
    | with_reducible apply Keeps.draw)

theorem State.rpcZero_keeps {u0 : State} (s : State) (l : LaneId) (r : Nat) (h_s : Keeps u0 s) : Keeps u0 (State.rpcZero s l r) := by
  unfold State.rpcZero
  try dsimp only
  repeat' (first
    | with_reducible assumption
    | intro _
    | with_reducible apply State.wr_keeps)

theorem State.rpcCross_keeps {u0 : State} (s : State) (l : LaneId) (r dt : Nat) (d : Int) (i : Nat) (learn : Bool) (h_s : Keeps u0 s) : Keeps u0 (State.rpcCross s l r dt d i learn) := by
  unfold State.rpcCross
  try dsimp only
  repeat' (first
    | with_reducible assumption
    | intro _
    | with_reducible apply Keeps.ite
    | with_reducible apply State.wr_keeps
    | with_reducible apply State.rpcBin_keeps
    | with_reducible apply State.bump_keeps
    | with_reducible apply State.rpcZero_keeps
    | with_reducible apply Keeps.foldl)

theorem State.rpcDir_keeps {u0 : State} (s : State) (l : LaneId) (r p : Nat) (h_s : Keeps u0 s) : Keeps u0 (State.rpcDir s l r p) := by
  unfold State.rpcDir
  try dsimp only
  repeat' (first
    | with_reducible assumption
    | intro _
    | with_reducible apply Keeps.ite
    | with_reducible apply State.wr_keeps
    | with_reducible apply State.bump_keeps
    | with_reducible apply State.rpcZero_keeps)

theorem State.rpcHold_keeps {u0 : State} (s : State) (l : LaneId) (r p : Nat) (h_s : Keeps u0 s) : Keeps u0 (State.rpcHold s l r p) := by
  unfold State.rpcHold
  try dsimp only
  repeat' (first
    | with_reducible assumption
    | intro _
    | with_reducible apply Keeps.ite
    | with_reducible apply State.wr_keeps)

theorem State.rpcRun_keeps {u0 : State} (s : State) (l : LaneId) (r : Nat) (err : Int) (held : Bool) (tau : Rat) (h_s : Keeps u0 s) : Keeps u0 (State.rpcRun s l r err held tau) := by
  unfold State.rpcRun
  try dsimp only
  repeat' (first
    | with_reducible assumption
    | intro _
    | with_reducible apply Keeps.ite
    | with_reducible apply State.rpcHold_keeps
    | with_reducible apply State.rpcDir_keeps
    | with_reducible apply State.wr_keeps
    | with_reducible apply State.rpcZero_keeps
    | with_reducible apply State.rpcCross_keeps
    | with_reducible apply State.wrI_keeps
    | with_reducible apply State.rpcStamp_keeps)

theorem State.rpcHostOpen_keeps {u0 : State} (s : State) (l : LaneId) (r : Nat) (h_s : Keeps u0 s) : Keeps u0 (State.rpcHostOpen s l r) := by
  unfold State.rpcHostOpen
  try dsimp only
  repeat' (first
    | with_reducible assumption
    | intro _
    | with_reducible apply State.wr_keeps
    | with_reducible apply State.rpcZero_keeps)

theorem State.rpcHostHeld_keeps {u0 : State} (s : State) (l : LaneId) (r : Nat) (held : Bool) (h_s : Keeps u0 s) : Keeps u0 (State.rpcHostHeld s l r held) := by
  unfold State.rpcHostHeld
  try dsimp only
  repeat' (first
    | with_reducible assumption
    | intro _
    | with_reducible apply State.wr_keeps
    | with_reducible apply State.rpcZero_keeps)

theorem State.rpcFadeLen_keeps {u0 : State} (s : State) (l : LaneId) (r old : Nat) (h_s : Keeps u0 s) : Keeps u0 (State.rpcFadeLen s l r old) := by
  unfold State.rpcFadeLen
  try dsimp only
  repeat' (first
    | with_reducible assumption
    | intro _
    | with_reducible apply Keeps.ite
    | with_reducible apply State.wr_keeps
    | split)

theorem State.tblStore_keeps {u0 : State} (s : State) (l : LaneId) (first : Nat) (d : List Byte) (h_s : Keeps u0 s) : Keeps u0 (State.tblStore s l first d) := by
  unfold State.tblStore
  try dsimp only
  repeat' (first
    | with_reducible assumption
    | intro _
    | with_reducible apply State.wr_keeps
    | with_reducible apply Keeps.foldl)

theorem State.markGroup_keeps {u0 : State} (s : State) (l : LaneId) (h_s : Keeps u0 s) : Keeps u0 (State.markGroup s l) := by
  unfold State.markGroup
  try dsimp only
  repeat' (first
    | with_reducible assumption
    | intro _
    | with_reducible apply Keeps.ite
    | with_reducible apply State.wr_keeps
    | with_reducible apply State.modLane_keeps
    | split)

theorem State.answerRepairs_keeps {u0 : State} (s : State) (l : LaneId) (h_s : Keeps u0 s) : Keeps u0 (State.answerRepairs s l) := by
  unfold State.answerRepairs
  try dsimp only
  repeat' (first
    | with_reducible assumption
    | intro _
    | with_reducible apply Keeps.ite
    | with_reducible apply Keeps.iteFst
    | with_reducible apply State.send_keeps
    | with_reducible apply State.modLane_keeps
    | with_reducible apply Keeps.foldl
    | with_reducible apply Keeps.foldlFst
    | split)

end Sys2Proof.Machine
end

