-- ==== Sys2Proof/Laws/KeepsFabric.lean ====
section
/-! SUPPORT. What every operation of Fabric keeps. -/

namespace Sys2Proof.Machine

open Par Var

theorem State.fabCount_keeps {u0 : State} (s : State) (r : Nat) (d : PDesc) (q n : Nat) (h_s : Keeps u0 s) : Keeps u0 (State.fabCount s r d q n) := by
  unfold State.fabCount
  try dsimp only
  repeat' (first
    | with_reducible assumption
    | intro _
    | with_reducible apply Keeps.ite
    | with_reducible apply State.bumpBy_keeps)

theorem State.grant_keeps {u0 : State} (s : State) (r q : Nat) (share : Bool) (reqs : List FabReq) (h_s : Keeps u0 s) : Keeps u0 (State.grant s r q share reqs) := by
  unfold State.grant
  try dsimp only
  repeat' (first
    | with_reducible assumption
    | intro _
    | with_reducible apply Keeps.ite
    | with_reducible apply State.wr_keeps
    | with_reducible apply State.fabCount_keeps
    | with_reducible apply Keeps.foldl
    | with_reducible apply Keeps.foldlFst
    | dsimp only
    | split)

theorem State.storeLine_keeps {u0 : State} (s : State) (l : LaneId) (line : Nat) (data : List Byte) (h_s : Keeps u0 s) : Keeps u0 (State.storeLine s l line data) := by
  unfold State.storeLine
  try dsimp only
  repeat' (first
    | with_reducible assumption
    | intro _
    | with_reducible apply State.modLane_keeps
    | with_reducible apply State.tblStore_keeps
    | with_reducible apply State.wr_keeps
    | split)

theorem State.lineXfer_keeps {u0 : State} (s : State) (l : LaneId) (q : Nat) (a : LineXfer) (h_s : Keeps u0 s) :
    Keeps u0 (s.lineXfer l q a) := by
  cases a <;> unfold State.lineXfer
  · exact State.send_keeps _ _ h_s
  · repeat' (first
      | with_reducible assumption
      | with_reducible apply Keeps.ite
      | with_reducible apply State.storeLine_keeps
      | with_reducible apply State.send_keeps
      | split)

theorem State.burst_keeps {u0 : State} (s : State) (r q : Nat) (reqs : List FabReq) (h_s : Keeps u0 s) : Keeps u0 (State.burst s r q reqs) := by
  unfold State.burst
  try dsimp only
  repeat' (first
    | with_reducible assumption
    | intro _
    | with_reducible apply State.lineXfer_keeps
    | with_reducible apply Keeps.foldl
    | split)

theorem State.serve_keeps {u0 : State} (s : State) (r q : Nat) (share : Bool) (reqs : List FabReq) (h_s : Keeps u0 s) : Keeps u0 (State.serve s r q share reqs) := by
  unfold State.serve
  try dsimp only
  repeat' (first
    | with_reducible assumption
    | intro _
    | with_reducible apply State.grant_keeps
    | with_reducible apply State.burst_keeps)

theorem State.emptyJournal_keeps {u0 : State} (s : State) (r u : Nat) (h_s : Keeps u0 s) : Keeps u0 (State.emptyJournal s r u) := by
  unfold State.emptyJournal
  try dsimp only
  repeat' (first
    | with_reducible assumption
    | intro _
    | with_reducible apply State.wr_keeps
    | split
    | with_reducible apply Keeps.upd)

theorem State.journalAdd_keeps {u0 : State} (s : State) (r u : Nat) (ks : List PKey) (h_s : Keeps u0 s) : Keeps u0 (State.journalAdd s r u ks) := by
  unfold State.journalAdd
  try dsimp only
  repeat' (first
    | with_reducible assumption
    | intro _
    | with_reducible apply State.wr_keeps
    | with_reducible apply Store.wf_filter
    | split
    | with_reducible apply Keeps.upd)

theorem State.lockTo_keeps {u0 : State} (s : State) (r u owner st : Nat) (h_s : Keeps u0 s) : Keeps u0 (State.lockTo s r u owner st) := by
  unfold State.lockTo
  try dsimp only
  repeat' (first
    | with_reducible assumption
    | intro _
    | with_reducible apply State.wr_keeps)

theorem State.lockFree_keeps {u0 : State} (s : State) (r u : Nat) (h_s : Keeps u0 s) : Keeps u0 (State.lockFree s r u) := by
  unfold State.lockFree
  try dsimp only
  repeat' (first
    | with_reducible assumption
    | intro _
    | with_reducible apply State.wr_keeps
    | with_reducible apply State.emptyJournal_keeps)

theorem State.lockRelease_keeps {u0 : State} (s : State) (r u : Nat) (h_s : Keeps u0 s) : Keeps u0 (State.lockRelease s r u) := by
  unfold State.lockRelease
  try dsimp only
  repeat' (first
    | with_reducible assumption
    | intro _
    | with_reducible apply Keeps.ite
    | with_reducible apply State.lockFree_keeps)

theorem State.lockTake_keeps {u0 : State} (s : State) (r u owner : Nat) (h_s : Keeps u0 s) : Keeps u0 (State.lockTake s r u owner).1 := by
  unfold State.lockTake
  try dsimp only
  repeat' (first
    | with_reducible assumption
    | intro _
    | with_reducible apply Keeps.iteFst
    | with_reducible apply State.lockTo_keeps
    | with_reducible apply State.bump_keeps
    | split)

theorem State.countLocked_keeps {u0 : State} (s : State) (r : Nat) (a : Rsp) (h_s : Keeps u0 s) : Keeps u0 (State.countLocked s r a) := by
  unfold State.countLocked
  try dsimp only
  repeat' (first
    | with_reducible assumption
    | intro _
    | with_reducible apply Keeps.ite
    | with_reducible apply State.bump_keeps)

theorem State.lockHold_keeps {u0 : State} (s : State) (r u : Nat) (value : Bool) (owner : Nat) (h_s : Keeps u0 s) : Keeps u0 (State.lockHold s r u value owner).1 := by
  unfold State.lockHold
  try dsimp only
  repeat' (first
    | with_reducible assumption
    | intro _
    | with_reducible apply Keeps.ite
    | with_reducible apply Keeps.iteFst
    | with_reducible apply State.countLocked_keeps
    | with_reducible apply State.lockTake_keeps
    | with_reducible apply State.wr_keeps
    | with_reducible apply State.lockRelease_keeps)

theorem State.lockRollback_keeps {u0 : State} (s : State) (r u owner : Nat) (h_s : Keeps u0 s) : Keeps u0 (State.lockRollback s r u owner).1 := by
  unfold State.lockRollback
  try dsimp only
  repeat' (first
    | with_reducible assumption
    | intro _
    | with_reducible apply Keeps.ite
    | with_reducible apply Keeps.iteFst
    | with_reducible apply State.countLocked_keeps
    | with_reducible apply State.emptyJournal_keeps
    | with_reducible apply State.wr_keeps
    | with_reducible apply Store.wf_put
    | with_reducible apply Store.wf_foldl
    | with_reducible apply Store.wf_filter
    | with_reducible apply Keeps.foldl
    | with_reducible apply Keeps.foldlFst
    | dsimp only
    | split
    | with_reducible apply Keeps.upd)

theorem State.fence_keeps {u0 : State} (s : State) (r epoch : Nat) (h_s : Keeps u0 s) : Keeps u0 (State.fence s r epoch) := by
  unfold State.fence
  try dsimp only
  repeat' (first
    | with_reducible assumption
    | intro _
    | with_reducible apply Keeps.ite
    | with_reducible apply State.wr_keeps)

theorem State.lockRelay_keeps {u0 : State} (s : State) (d : Shared) (u : Nat) (l : LaneId) (tag epoch : Nat) (f : State → State × Rsp) (h_s : Keeps u0 s) (h_f : ∀ x, Keeps u0 x → Keeps u0 (f x).1) : Keeps u0 (State.lockRelay s d u l tag epoch f) := by
  unfold State.lockRelay
  try dsimp only
  repeat' (first
    | with_reducible assumption
    | intro _
    | with_reducible apply Keeps.ite
    | with_reducible apply Keeps.iteFst
    | with_reducible apply State.send_keeps
    | with_reducible apply State.fence_keeps
    | apply_assumption)

theorem State.heartbeat_keeps {u0 : State} (s : State) (d : Shared) (l : LaneId) (h_s : Keeps u0 s) : Keeps u0 (State.heartbeat s d l) := by
  unfold State.heartbeat
  try dsimp only
  repeat' (first
    | with_reducible assumption
    | intro _
    | with_reducible apply State.send_keeps
    | split)

theorem State.lineRecord_keeps {u0 : State} (s : State) (l : LaneId) (line cls : Nat) (peer : Bool) (h_s : Keeps u0 s) : Keeps u0 (State.lineRecord s l line cls peer) := by
  unfold State.lineRecord
  try dsimp only
  repeat' (first
    | with_reducible assumption
    | intro _
    | with_reducible apply State.wr_keeps)

theorem State.lineCorrected_keeps {u0 : State} (s : State) (l : LaneId) (line : Nat) (peer : Bool) (h_s : Keeps u0 s) : Keeps u0 (State.lineCorrected s l line peer) := by
  unfold State.lineCorrected
  try dsimp only
  repeat' (first
    | with_reducible assumption
    | intro _
    | with_reducible apply State.lineRecord_keeps
    | with_reducible apply State.raise_keeps)

theorem State.lineLost_keeps {u0 : State} (s : State) (l : LaneId) (line : Nat) (area : LineArea) (h_s : Keeps u0 s) : Keeps u0 (State.lineLost s l line area) := by
  unfold State.lineLost
  try dsimp only
  repeat' (first
    | with_reducible assumption
    | intro _
    | with_reducible apply Keeps.ite
    | with_reducible apply State.modLane_keeps
    | with_reducible apply State.wr_keeps
    | with_reducible apply State.bump_keeps
    | with_reducible apply State.lineRecord_keeps
    | with_reducible apply State.raise_keeps
    | split)

theorem State.askRepair_keeps {u0 : State} (s : State) (l : LaneId) (line : Nat) (h_s : Keeps u0 s) : Keeps u0 (State.askRepair s l line) := by
  unfold State.askRepair
  try dsimp only
  repeat' (first
    | with_reducible assumption
    | intro _
    | with_reducible apply State.wr_keeps
    | with_reducible apply State.wrBit_keeps
    | with_reducible apply State.send_keeps
    | with_reducible apply State.bump_keeps
    | with_reducible apply State.lineLost_keeps
    | split)

theorem State.linePersistent_keeps {u0 : State} (s : State) (l : LaneId) (line : Nat) (area : LineArea) (h_s : Keeps u0 s) : Keeps u0 (State.linePersistent s l line area) := by
  unfold State.linePersistent
  try dsimp only
  repeat' (first
    | with_reducible assumption
    | intro _
    | with_reducible apply Keeps.ite
    | with_reducible apply State.wr_keeps
    | with_reducible apply State.lineLost_keeps
    | with_reducible apply State.askRepair_keeps
    | split)

theorem State.nvsPersistent_keeps {u0 : State} (s : State) (line : Nat) (h_s : Keeps u0 s) : Keeps u0 (State.nvsPersistent s line) := by
  unfold State.nvsPersistent
  try dsimp only
  repeat' (first
    | with_reducible assumption
    | intro _
    | with_reducible apply Keeps.ite
    | with_reducible apply State.wr_keeps
    | with_reducible apply State.raise_keeps
    | split
    | with_reducible apply Keeps.upd)

theorem State.nvsError_keeps {u0 : State} (s : State) (line : Nat) (persistent : Bool) (h_s : Keeps u0 s) : Keeps u0 (State.nvsError s line persistent) := by
  unfold State.nvsError
  try dsimp only
  repeat' (first
    | with_reducible assumption
    | intro _
    | with_reducible apply Keeps.ite
    | with_reducible apply State.bump_keeps
    | with_reducible apply State.nvsPersistent_keeps
    | with_reducible apply State.raise_keeps)

theorem State.readError_keeps {u0 : State} (s : State) (r : Region) (line : Nat) (area : LineArea) (persistent : Bool) (h_s : Keeps u0 s) : Keeps u0 (State.readError s r line area persistent) := by
  unfold State.readError
  try dsimp only
  repeat' (first
    | with_reducible assumption
    | intro _
    | with_reducible apply Keeps.ite
    | with_reducible apply State.linePersistent_keeps
    | with_reducible apply State.bump_keeps
    | with_reducible apply State.lineCorrected_keeps
    | with_reducible apply State.whenM_keeps
    | with_reducible apply State.nvsError_keeps
    | split)

end Sys2Proof.Machine
end

