-- ==== Sys2Proof/Laws/KeepsControl.lean ====
section
/-! SUPPORT. What every operation of Control keeps. -/

namespace Sys2Proof.Machine

open Par Var

theorem State.secUpdate_keeps {u0 : State} (s : State) (l : LaneId) (p : Nat × Int × Int) (h_s : Keeps u0 s) : Keeps u0 (State.secUpdate s l p).1 := by
  unfold State.secUpdate
  try dsimp only
  repeat' (first
    | with_reducible assumption
    | intro _
    | with_reducible apply Keeps.iteFst
    | with_reducible apply State.wrI_keeps)

theorem State.secsUpdate_keeps {u0 : State} (s : State) (l : LaneId) (freeze : Bool) (xs : List (Nat × Int × Int)) (h : Keeps u0 s) : Keeps u0 (State.secsUpdate s l freeze xs).1 := by
  induction xs generalizing s with
  | nil => exact h
  | cons k ks ih =>
    unfold State.secsUpdate
    try dsimp only
    repeat' (first
      | with_reducible assumption
      | intro _
      | with_reducible apply ih
      | with_reducible apply Keeps.ite
      | with_reducible apply Keeps.iteFst
      | with_reducible apply State.wrI_keeps
      | with_reducible apply State.secUpdate_keeps)

theorem State.satRestart_keeps {u0 : State} (s : State) (l : LaneId) (n : Nat) (h_s : Keeps u0 s) : Keeps u0 (State.satRestart s l n) := by
  unfold State.satRestart
  try dsimp only
  repeat' (first
    | with_reducible assumption
    | intro _
    | with_reducible apply State.wr_keeps)

theorem State.satTime_keeps {u0 : State} (s : State) (l : LaneId) (n : Nat) (limited : Bool) (h_s : Keeps u0 s) : Keeps u0 (State.satTime s l n limited) := by
  unfold State.satTime
  try dsimp only
  repeat' (first
    | with_reducible assumption
    | intro _
    | with_reducible apply Keeps.ite
    | with_reducible apply State.satRestart_keeps
    | with_reducible apply State.wr_keeps
    | with_reducible apply State.wrBit_keeps
    | with_reducible apply State.raise_keeps
    | with_reducible apply State.bump_keeps)

theorem State.cenCommit_keeps {u0 : State} (s : State) (l : LaneId) (n : Nat) (q : LoopRun) (ext : Bool) (h_s : Keeps u0 s) : Keeps u0 (State.cenCommit s l n q ext) := by
  unfold State.cenCommit
  try dsimp only
  repeat' (first
    | with_reducible assumption
    | intro _
    | with_reducible apply Keeps.ite
    | with_reducible apply Keeps.iteFst
    | with_reducible apply State.secsUpdate_keeps
    | with_reducible apply State.wrI_keeps
    | with_reducible apply State.wr_keeps
    | with_reducible apply State.bump_keeps
    | with_reducible apply State.raise_keeps
    | with_reducible apply State.satTime_keeps)

theorem State.settleSecs_keeps {u0 : State} (s : State) (l : LaneId) (n : Nat) (present add : Int) (xs : List Nat) (x : Int) (h : Keeps u0 s) : Keeps u0 (State.settleSecs s l n present add xs x) := by
  induction xs generalizing s x with
  | nil => exact h
  | cons k ks ih =>
    unfold State.settleSecs
    try dsimp only
    repeat' (first
      | with_reducible assumption
      | intro _
      | with_reducible apply ih
      | with_reducible apply Keeps.ite
      | with_reducible apply Keeps.iteFst
      | with_reducible apply State.settle_keeps
      | with_reducible apply State.wrI_keeps)

theorem State.cenOpened_keeps {u0 : State} (s : State) (l : LaneId) (n : Nat) (manWritten : Bool) (h_s : Keeps u0 s) : Keeps u0 (State.cenOpened s l n manWritten) := by
  unfold State.cenOpened
  try dsimp only
  repeat' (first
    | with_reducible assumption
    | intro _
    | with_reducible apply Keeps.ite
    | with_reducible apply State.wr_keeps
    | with_reducible apply State.satRestart_keeps
    | with_reducible apply State.wrBit_keeps)

theorem State.cenClosed_keeps {u0 : State} (s : State) (l : LaneId) (n : Nat) (h_s : Keeps u0 s) : Keeps u0 (State.cenClosed s l n) := by
  unfold State.cenClosed
  try dsimp only
  repeat' (first
    | with_reducible assumption
    | intro _
    | with_reducible apply State.wr_keeps
    | with_reducible apply State.wrBit_keeps)

theorem State.closeStep_keeps {u0 : State} (s : State) (l : LaneId) (n : Nat) (v present : Int) (h_s : Keeps u0 s) : Keeps u0 (State.closeStep s l n v present) := by
  unfold State.closeStep
  try dsimp only
  repeat' (first
    | with_reducible assumption
    | intro _
    | with_reducible apply State.wrI_keeps
    | with_reducible apply State.wr_keeps)

theorem State.rpcRuns_keeps {u0 : State} (s : State) (l : LaneId) (n : Nat) (err : Int) (tau : Rat) (h_s : Keeps u0 s) : Keeps u0 (State.rpcRuns s l n err tau) := by
  unfold State.rpcRuns
  try dsimp only
  repeat' (first
    | with_reducible assumption
    | intro _
    | with_reducible apply State.rpcRun_keeps
    | with_reducible apply Keeps.foldl)

theorem State.tripRunDone_keeps {u0 : State} (s : State) (l : LaneId) (n : Nat) (h_s : Keeps u0 s) : Keeps u0 (State.tripRunDone s l n) := by
  unfold State.tripRunDone
  try dsimp only
  repeat' (first
    | with_reducible assumption
    | intro _
    | with_reducible apply Keeps.ite
    | with_reducible apply State.wr_keeps
    | with_reducible apply Keeps.foldl)

theorem State.cenRun_keeps {u0 : State} (s s0 : State) (l : LaneId) (n : Nat) (tau : Rat) (h_s : Keeps u0 s) (h_s0 : Keeps u0 s0) : Keeps u0 (State.cenRun s s0 l n tau) := by
  unfold State.cenRun
  try dsimp only
  repeat' (first
    | with_reducible assumption
    | intro _
    | with_reducible apply Keeps.ite
    | with_reducible apply State.tripRunDone_keeps
    | with_reducible apply State.rpcHostOpen_keeps
    | with_reducible apply State.wr_keeps
    | with_reducible apply State.bump_keeps
    | with_reducible apply State.wrBit_keeps
    | with_reducible apply State.rpcHostHeld_keeps
    | with_reducible apply State.settleSecs_keeps
    | with_reducible apply State.cenCommit_keeps
    | with_reducible apply State.closeStep_keeps
    | with_reducible apply State.rpcRuns_keeps
    | with_reducible apply Keeps.foldl
    | split)

theorem State.overrun_keeps {u0 : State} (s : State) (l : LaneId) (n : Nat) (h_s : Keeps u0 s) : Keeps u0 (State.overrun s l n) := by
  unfold State.overrun
  try dsimp only
  repeat' (first
    | with_reducible assumption
    | intro _
    | with_reducible apply State.bump_keeps
    | with_reducible apply State.wrBit_keeps
    | with_reducible apply State.raise_keeps)

theorem State.groupLoop_keeps {u0 : State} (s s0 : State) (l : LaneId) (n t : Nat) (tau : Rat) (h_s : Keeps u0 s) (h_s0 : Keeps u0 s0) : Keeps u0 (State.groupLoop s s0 l n t tau) := by
  unfold State.groupLoop
  try dsimp only
  repeat' (first
    | with_reducible assumption
    | intro _
    | with_reducible apply Keeps.ite
    | with_reducible apply State.overrun_keeps
    | with_reducible apply State.cenRun_keeps
    | with_reducible apply State.wr_keeps
    | with_reducible apply State.trcEvent_keeps
    | split)

theorem State.cenGroup_keeps {u0 : State} (s : State) (l : LaneId) (source bridge count t : Nat) (h_s : Keeps u0 s) : Keeps u0 (State.cenGroup s l source bridge count t) := by
  unfold State.cenGroup
  try dsimp only
  repeat' (first
    | with_reducible assumption
    | intro _
    | with_reducible apply Keeps.ite
    | with_reducible apply State.groupLoop_keeps
    | with_reducible apply State.markGroup_keeps
    | with_reducible apply State.answerRepairs_keeps
    | with_reducible apply Keeps.foldl
    | split)

theorem State.angleStep_keeps {u0 : State} (s : State) (l x : LaneId) (f : ExchFrame) (h_s : Keeps u0 s) : Keeps u0 (State.angleStep s l x f) := by
  unfold State.angleStep
  try dsimp only
  repeat' (first
    | with_reducible assumption
    | intro _
    | with_reducible apply State.wr_keeps
    | with_reducible apply State.wrI_keeps
    | with_reducible apply State.wrB_keeps
    | with_reducible apply Keeps.foldl)

theorem State.formDpos_keeps {u0 : State} (s : State) (l : LaneId) (h_s : Keeps u0 s) : Keeps u0 (State.formDpos s l) := by
  unfold State.formDpos
  try dsimp only
  repeat' (first
    | with_reducible assumption
    | intro _
    | with_reducible apply State.angleStep_keeps
    | with_reducible apply State.wrI_keeps
    | with_reducible apply Keeps.foldl
    | split)

theorem State.dposRestart_keeps {u0 : State} (s : State) (l : LaneId) (h_s : Keeps u0 s) : Keeps u0 (State.dposRestart s l) := by
  unfold State.dposRestart
  try dsimp only
  repeat' (first
    | with_reducible assumption
    | intro _
    | with_reducible apply State.wr_keeps
    | with_reducible apply State.wrB_keeps
    | with_reducible apply Keeps.foldl)

theorem State.formAgreed_keeps {u0 : State} (s : State) (l : LaneId) (take : Bool) (h_s : Keeps u0 s) : Keeps u0 (State.formAgreed s l take) := by
  unfold State.formAgreed
  try dsimp only
  repeat' (first
    | with_reducible assumption
    | intro _
    | with_reducible apply Keeps.ite
    | with_reducible apply State.wrBit_keeps
    | with_reducible apply State.wr_keeps
    | with_reducible apply State.wrI_keeps
    | with_reducible apply Keeps.foldl)

theorem State.formLocal_keeps {u0 : State} (s : State) (l : LaneId) (h_s : Keeps u0 s) : Keeps u0 (State.formLocal s l) := by
  unfold State.formLocal
  try dsimp only
  repeat' (first
    | with_reducible assumption
    | intro _
    | with_reducible apply Keeps.ite
    | with_reducible apply State.wrI_keeps
    | with_reducible apply Keeps.foldl)

theorem State.cenInputs_keeps {u0 : State} (s : State) (l : LaneId) (h_s : Keeps u0 s) : Keeps u0 (State.cenInputs s l) := by
  unfold State.cenInputs
  try dsimp only
  repeat' (first
    | with_reducible assumption
    | intro _
    | with_reducible apply Keeps.ite
    | with_reducible apply State.formDpos_keeps
    | with_reducible apply State.rpcTake_keeps
    | with_reducible apply State.dposRestart_keeps
    | with_reducible apply State.formAgreed_keeps
    | with_reducible apply State.formLocal_keeps
    | split)

theorem State.targetStep_keeps {u0 : State} (s : State) (l : LaneId) (t : Nat) (h_s : Keeps u0 s) : Keeps u0 (State.targetStep s l t) := by
  unfold State.targetStep
  try dsimp only
  repeat' (first
    | with_reducible assumption
    | intro _
    | with_reducible apply Keeps.ite
    | with_reducible apply State.wrI_keeps
    | split)

theorem State.enterCmd_keeps {u0 : State} (s : State) (l : LaneId) (t v : Nat) (h_s : Keeps u0 s) : Keeps u0 (State.enterCmd s l t v) := by
  unfold State.enterCmd
  try dsimp only
  repeat' (first
    | with_reducible assumption
    | intro _
    | with_reducible apply Keeps.ite
    | with_reducible apply State.wr_keeps)

theorem State.targetsCycle_keeps {u0 : State} (s : State) (l : LaneId) (hold : Nat → Bool) (h_s : Keeps u0 s) : Keeps u0 (State.targetsCycle s l hold) := by
  unfold State.targetsCycle
  try dsimp only
  repeat' (first
    | with_reducible assumption
    | intro _
    | with_reducible apply Keeps.ite
    | with_reducible apply State.enterCmd_keeps
    | with_reducible apply State.wr_keeps
    | with_reducible apply State.hold_keeps
    | with_reducible apply State.targetStep_keeps
    | with_reducible apply Keeps.foldl)

theorem State.targetsUrgent_keeps {u0 : State} (s : State) (l : LaneId) (v : Nat) (hold : Nat → Bool) (h_s : Keeps u0 s) : Keeps u0 (State.targetsUrgent s l v hold) := by
  unfold State.targetsUrgent
  try dsimp only
  repeat' (first
    | with_reducible assumption
    | intro _
    | with_reducible apply Keeps.ite
    | with_reducible apply State.enterCmd_keeps
    | with_reducible apply State.wr_keeps
    | with_reducible apply State.hold_keeps
    | with_reducible apply State.targetStep_keeps
    | with_reducible apply Keeps.foldl)

theorem State.targetCmd_keeps {u0 : State} (s : State) (l : LaneId) (t : Nat) (v : Int) (urgent : Bool) (h_s : Keeps u0 s) : Keeps u0 (State.targetCmd s l t v urgent) := by
  unfold State.targetCmd
  try dsimp only
  repeat' (first
    | with_reducible assumption
    | intro _
    | with_reducible apply Keeps.ite
    | with_reducible apply State.wr_keeps)

theorem State.effSteer_keeps {u0 : State} (s : State) (l : LaneId) (h : Hdr) (angle : Int) (h_s : Keeps u0 s) : Keeps u0 (State.effSteer s l h angle) := by
  unfold State.effSteer
  try dsimp only
  repeat' (first
    | with_reducible assumption
    | intro _
    | with_reducible apply State.targetCmd_keeps)

theorem State.effBrake_keeps {u0 : State} (s : State) (l : LaneId) (h : Hdr) (f1 f2 f3 f4 : Nat) (h_s : Keeps u0 s) : Keeps u0 (State.effBrake s l h f1 f2 f3 f4) := by
  unfold State.effBrake
  try dsimp only
  repeat' (first
    | with_reducible assumption
    | intro _
    | with_reducible apply State.targetCmd_keeps)

end Sys2Proof.Machine
end

