-- ==== Sys2Proof/Laws/KeepsRotor.lean ====
section
/-! SUPPORT. What every operation of Rotor keeps. -/

namespace Sys2Proof.Machine

open Par Var

theorem State.failEncoder_keeps {u0 : State} (s : State) (l : LaneId) (b : Nat) (h_s : Keeps u0 s) : Keeps u0 (State.failEncoder s l b) := by
  unfold State.failEncoder
  try dsimp only
  repeat' (first
    | with_reducible assumption
    | intro _
    | with_reducible apply Keeps.ite
    | with_reducible apply State.wrBit_keeps
    | with_reducible apply State.raise_keeps)

theorem State.band_keeps {u0 : State} (s : State) (l : LaneId) (b : Nat) (w : Rat) (h_s : Keeps u0 s) : Keeps u0 (State.band s l b w) := by
  unfold State.band
  try dsimp only
  repeat' (first
    | with_reducible assumption
    | intro _
    | with_reducible apply Keeps.ite
    | with_reducible apply State.wr_keeps)

theorem State.obsStart_keeps {u0 : State} (s : State) (l : LaneId) (b : Nat) (i : Vec) (th w : Rat) (h_s : Keeps u0 s) : Keeps u0 (State.obsStart s l b i th w) := by
  unfold State.obsStart
  try dsimp only
  repeat' (first
    | with_reducible assumption
    | intro _
    | with_reducible apply Keeps.iteFst
    | with_reducible apply State.modBridge_keeps
    | with_reducible apply State.wr_keeps)

theorem State.extrapolate_keeps {u0 : State} (s : State) (l : LaneId) (b : Nat) (h_s : Keeps u0 s) : Keeps u0 (State.extrapolate s l b) := by
  unfold State.extrapolate
  try dsimp only
  repeat' (first
    | with_reducible assumption
    | intro _
    | with_reducible apply State.wr_keeps
    | with_reducible apply State.wrI_keeps
    | with_reducible apply State.modBridge_keeps
    | with_reducible apply State.obsStart_keeps
    | with_reducible apply State.bump_keeps)

theorem State.fallEncoder_keeps {u0 : State} (s : State) (l : LaneId) (b : Nat) (h_s : Keeps u0 s) : Keeps u0 (State.fallEncoder s l b) := by
  unfold State.fallEncoder
  try dsimp only
  repeat' (first
    | with_reducible assumption
    | intro _
    | with_reducible apply State.obsStart_keeps
    | with_reducible apply State.wr_keeps)

theorem State.stampLoss_keeps {u0 : State} (s : State) (l : LaneId) (b cause outcome : Nat) (h_s : Keeps u0 s) : Keeps u0 (State.stampLoss s l b cause outcome) := by
  unfold State.stampLoss
  try dsimp only
  repeat' (first
    | with_reducible assumption
    | intro _
    | with_reducible apply State.wr_keeps)

theorem State.declareLost_keeps {u0 : State} (s : State) (l : LaneId) (b cause : Nat) (h_s : Keeps u0 s) : Keeps u0 (State.declareLost s l b cause) := by
  unfold State.declareLost
  try dsimp only
  repeat' (first
    | with_reducible assumption
    | intro _
    | with_reducible apply Keeps.ite
    | with_reducible apply State.wr_keeps
    | with_reducible apply State.bump_keeps
    | with_reducible apply State.raise_keeps
    | with_reducible apply State.stampLoss_keeps
    | with_reducible apply State.fallEncoder_keeps
    | with_reducible apply State.extrapolate_keeps)

theorem State.watchInnov_keeps {u0 : State} (s : State) (l : LaneId) (b : Nat) (h_s : Keeps u0 s) : Keeps u0 (State.watchInnov s l b) := by
  unfold State.watchInnov
  try dsimp only
  repeat' (first
    | with_reducible assumption
    | intro _
    | with_reducible apply Keeps.ite
    | with_reducible apply State.wr_keeps
    | with_reducible apply State.declareLost_keeps)

theorem State.reacquire_keeps {u0 : State} (s : State) (l : LaneId) (b : Nat) (h_s : Keeps u0 s) : Keeps u0 (State.reacquire s l b) := by
  unfold State.reacquire
  try dsimp only
  repeat' (first
    | with_reducible assumption
    | intro _
    | with_reducible apply Keeps.ite
    | with_reducible apply State.wr_keeps
    | with_reducible apply State.stampLoss_keeps)

theorem State.arbitrate_keeps {u0 : State} (s : State) (l : LaneId) (b : Nat) (h_s : Keeps u0 s) : Keeps u0 (State.arbitrate s l b) := by
  unfold State.arbitrate
  try dsimp only
  repeat' (first
    | with_reducible assumption
    | intro _
    | with_reducible apply Keeps.ite
    | with_reducible apply State.declareLost_keeps
    | with_reducible apply State.failEncoder_keeps
    | with_reducible apply State.wr_keeps
    | with_reducible apply State.bump_keeps
    | split)

theorem State.compareSources_keeps {u0 : State} (s : State) (l : LaneId) (b : Nat) (h_s : Keeps u0 s) : Keeps u0 (State.compareSources s l b) := by
  unfold State.compareSources
  try dsimp only
  repeat' (first
    | with_reducible assumption
    | intro _
    | with_reducible apply Keeps.ite
    | with_reducible apply State.wr_keeps
    | with_reducible apply State.wrI_keeps
    | with_reducible apply State.arbitrate_keeps
    | with_reducible apply State.bump_keeps
    | with_reducible apply State.raise_keeps
    | split)

theorem State.checkEncoder_keeps {u0 : State} (s : State) (l : LaneId) (b : Nat) (h_s : Keeps u0 s) : Keeps u0 (State.checkEncoder s l b) := by
  unfold State.checkEncoder
  try dsimp only
  repeat' (first
    | with_reducible assumption
    | intro _
    | with_reducible apply Keeps.ite
    | with_reducible apply State.failEncoder_keeps
    | with_reducible apply State.wr_keeps)

theorem State.beginAlign_keeps {u0 : State} (s : State) (l : LaneId) (b : Nat) (h_s : Keeps u0 s) : Keeps u0 (State.beginAlign s l b) := by
  unfold State.beginAlign
  try dsimp only
  repeat' (first
    | with_reducible assumption
    | intro _
    | with_reducible apply State.wr_keeps)

theorem State.enterHfi_keeps {u0 : State} (s : State) (l : LaneId) (b : Nat) (h_s : Keeps u0 s) : Keeps u0 (State.enterHfi s l b) := by
  unfold State.enterHfi
  try dsimp only
  repeat' (first
    | with_reducible assumption
    | intro _
    | with_reducible apply Keeps.ite
    | with_reducible apply State.bump_keeps
    | with_reducible apply State.modBridge_keeps
    | with_reducible apply State.obsStart_keeps
    | with_reducible apply State.beginAlign_keeps
    | split)

theorem State.setSource_keeps {u0 : State} (s : State) (l : LaneId) (b new : Nat) (h_s : Keeps u0 s) : Keeps u0 (State.setSource s l b new) := by
  unfold State.setSource
  try dsimp only
  repeat' (first
    | with_reducible assumption
    | intro _
    | with_reducible apply Keeps.ite
    | with_reducible apply State.wr_keeps
    | with_reducible apply State.enterHfi_keeps
    | with_reducible apply State.extrapolate_keeps
    | split)

theorem State.deliverAngle_keeps {u0 : State} (s : State) (l : LaneId) (b : Nat) (h_s : Keeps u0 s) : Keeps u0 (State.deliverAngle s l b) := by
  unfold State.deliverAngle
  try dsimp only
  repeat' (first
    | with_reducible assumption
    | intro _
    | with_reducible apply State.wr_keeps
    | with_reducible apply State.wrI_keeps
    | with_reducible apply State.wrB_keeps)

theorem State.deliverShort_keeps {u0 : State} (s : State) (l : LaneId) (b : Nat) (h_s : Keeps u0 s) : Keeps u0 (State.deliverShort s l b) := by
  unfold State.deliverShort
  try dsimp only
  repeat' (first
    | with_reducible assumption
    | intro _
    | with_reducible apply Keeps.ite
    | with_reducible apply State.wr_keeps
    | with_reducible apply State.wrI_keeps
    | with_reducible apply State.wrB_keeps)

theorem State.obsReport_keeps {u0 : State} (s : State) (l : LaneId) (b : Nat) (h_s : Keeps u0 s) : Keeps u0 (State.obsReport s l b) := by
  unfold State.obsReport
  try dsimp only
  repeat' (first
    | with_reducible assumption
    | intro _
    | with_reducible apply State.wr_keeps)

theorem State.deliverUnsure_keeps {u0 : State} (s : State) (l : LaneId) (b : Nat) (r : Option (Nat × Rat)) (h_s : Keeps u0 s) : Keeps u0 (State.deliverUnsure s l b r) := by
  unfold State.deliverUnsure
  try dsimp only
  repeat' (first
    | with_reducible assumption
    | intro _
    | with_reducible apply Keeps.iteFst
    | with_reducible apply State.wr_keeps
    | with_reducible apply State.wrI_keeps
    | split)

theorem State.hfiStep_keeps {u0 : State} (s : State) (l : LaneId) (b : Nat) (i : Vec) (h_s : Keeps u0 s) : Keeps u0 (State.hfiStep s l b i) := by
  unfold State.hfiStep
  try dsimp only
  repeat' (first
    | with_reducible assumption
    | intro _
    | with_reducible apply State.modBridge_keeps)

theorem State.obsRun_keeps {u0 : State} (s : State) (l : LaneId) (b : Nat) (i : Vec) (h_s : Keeps u0 s) : Keeps u0 (State.obsRun s l b i) := by
  unfold State.obsRun
  try dsimp only
  repeat' (first
    | with_reducible assumption
    | intro _
    | with_reducible apply Keeps.ite
    | with_reducible apply Keeps.iteFst
    | with_reducible apply State.hfiStep_keeps
    | with_reducible apply State.modBridge_keeps
    | with_reducible apply State.wr_keeps
    | with_reducible apply State.watchInnov_keeps
    | split)

theorem State.obsCoast_keeps {u0 : State} (s : State) (l : LaneId) (b : Nat) (h_s : Keeps u0 s) : Keeps u0 (State.obsCoast s l b) := by
  unfold State.obsCoast
  try dsimp only
  repeat' (first
    | with_reducible assumption
    | intro _
    | with_reducible apply State.modBridge_keeps)

theorem State.extStep_keeps {u0 : State} (s : State) (l : LaneId) (b : Nat) (h_s : Keeps u0 s) : Keeps u0 (State.extStep s l b) := by
  unfold State.extStep
  try dsimp only
  repeat' (first
    | with_reducible assumption
    | intro _
    | with_reducible apply Keeps.ite
    | with_reducible apply State.modBridge_keeps
    | split)

theorem State.rotorRun_keeps {u0 : State} (s : State) (l : LaneId) (b : Nat) (i : Option Vec) (h_s : Keeps u0 s) : Keeps u0 (State.rotorRun s l b i).1 := by
  unfold State.rotorRun
  try dsimp only
  repeat' (first
    | with_reducible assumption
    | intro _
    | with_reducible apply Keeps.ite
    | with_reducible apply Keeps.iteFst
    | with_reducible apply State.extStep_keeps
    | with_reducible apply State.wr_keeps
    | with_reducible apply State.obsRun_keeps
    | with_reducible apply State.obsCoast_keeps
    | with_reducible apply State.compareSources_keeps
    | with_reducible apply State.checkEncoder_keeps
    | with_reducible apply State.reacquire_keeps
    | with_reducible apply State.band_keeps
    | with_reducible apply State.deliverAngle_keeps
    | with_reducible apply State.setSource_keeps
    | with_reducible apply State.obsReport_keeps
    | split)

theorem State.rotorIdle_keeps {u0 : State} (s : State) (l : LaneId) (b : Nat) (found : Option (Nat × Rat)) (h_s : Keeps u0 s) : Keeps u0 (State.rotorIdle s l b found) := by
  unfold State.rotorIdle
  try dsimp only
  repeat' (first
    | with_reducible assumption
    | intro _
    | with_reducible apply Keeps.ite
    | with_reducible apply State.wr_keeps
    | with_reducible apply State.checkEncoder_keeps
    | with_reducible apply State.deliverShort_keeps
    | with_reducible apply State.deliverUnsure_keeps
    | with_reducible apply State.obsReport_keeps
    | split)

theorem State.obsEnter_keeps {u0 : State} (s : State) (l : LaneId) (b src : Nat) (th w : Rat) (h_s : Keeps u0 s) : Keeps u0 (State.obsEnter s l b src th w) := by
  unfold State.obsEnter
  try dsimp only
  repeat' (first
    | with_reducible assumption
    | intro _
    | with_reducible apply State.obsStart_keeps
    | with_reducible apply State.wr_keeps
    | with_reducible apply State.band_keeps
    | with_reducible apply State.wrI_keeps
    | with_reducible apply State.obsReport_keeps)

end Sys2Proof.Machine
end

