-- ==== Sys2Proof/Laws/KeepsGate.lean ====
section
/-! SUPPORT. What every operation of Gate keeps. -/

namespace Sys2Proof.Machine

open Par Var

theorem State.gatesOff_keeps {u0 : State} (s : State) (l : LaneId) (b : Nat) (h_s : Keeps u0 s) : Keeps u0 (State.gatesOff s l b) := by
  unfold State.gatesOff
  try dsimp only
  repeat' (first
    | with_reducible assumption
    | intro _
    | with_reducible apply State.commandsEnd_keeps
    | with_reducible apply State.wr_keeps)

theorem State.latchBridge_keeps {u0 : State} (s : State) (l : LaneId) (b k : Nat) (h_s : Keeps u0 s) : Keeps u0 (State.latchBridge s l b k) := by
  unfold State.latchBridge
  try dsimp only
  repeat' (first
    | with_reducible assumption
    | intro _
    | with_reducible apply Keeps.ite
    | with_reducible apply State.wr_keeps
    | with_reducible apply State.gatesOff_keeps
    | with_reducible apply State.bump_keeps
    | with_reducible apply State.raise_keeps
    | split)

theorem State.countTrip_keeps {u0 : State} (s : State) (l : LaneId) (b k t : Nat) (h_s : Keeps u0 s) : Keeps u0 (State.countTrip s l b k t) := by
  unfold State.countTrip
  try dsimp only
  repeat' (first
    | with_reducible assumption
    | intro _
    | with_reducible apply State.bump_keeps
    | with_reducible apply State.wrBit_keeps
    | with_reducible apply State.modBridge_keeps)

theorem State.tripSwitch_keeps {u0 : State} (s : State) (l : LaneId) (b k t : Nat) (h_s : Keeps u0 s) : Keeps u0 (State.tripSwitch s l b k t) := by
  unfold State.tripSwitch
  try dsimp only
  repeat' (first
    | with_reducible assumption
    | intro _
    | with_reducible apply State.wr_keeps
    | with_reducible apply State.countTrip_keeps)

theorem State.stampTrip_keeps {u0 : State} (s : State) (l : LaneId) (b k cause : Nat) (blankEnd two : Bool) (h_s : Keeps u0 s) : Keeps u0 (State.stampTrip s l b k cause blankEnd two) := by
  unfold State.stampTrip
  try dsimp only
  repeat' (first
    | with_reducible assumption
    | intro _
    | with_reducible apply State.wr_keeps)

theorem State.markLeg_keeps {u0 : State} (s : State) (l : LaneId) (b p t : Nat) (h_s : Keeps u0 s) : Keeps u0 (State.markLeg s l b p t) := by
  unfold State.markLeg
  try dsimp only
  repeat' (first
    | with_reducible assumption
    | intro _
    | with_reducible apply Keeps.ite
    | with_reducible apply State.wr_keeps
    | split)

theorem State.afterTrip_keeps {u0 : State} (s : State) (l : LaneId) (b k : Nat) (due : Bool) (h_s : Keeps u0 s) : Keeps u0 (State.afterTrip s l b k due) := by
  unfold State.afterTrip
  try dsimp only
  repeat' (first
    | with_reducible assumption
    | intro _
    | with_reducible apply Keeps.ite
    | with_reducible apply State.latchBridge_keeps
    | with_reducible apply State.raise_keeps
    | split)

theorem State.legTrip_keeps {u0 : State} (s : State) (l : LaneId) (b p : Nat) (ks : List Nat) (cause : Nat) (blankEnd : Bool) (t : Nat) (h_s : Keeps u0 s) : Keeps u0 (State.legTrip s l b p ks cause blankEnd t) := by
  unfold State.legTrip
  try dsimp only
  repeat' (first
    | with_reducible assumption
    | intro _
    | with_reducible apply Keeps.ite
    | with_reducible apply State.tripSwitch_keeps
    | with_reducible apply State.stampTrip_keeps
    | with_reducible apply State.wrBit_keeps
    | with_reducible apply State.wr_keeps
    | with_reducible apply State.markLeg_keeps
    | with_reducible apply State.afterTrip_keeps
    | with_reducible apply Keeps.foldl
    | split)

theorem State.fallenTrip_keeps {u0 : State} (s : State) (l : LaneId) (b k cause t : Nat) (h_s : Keeps u0 s) : Keeps u0 (State.fallenTrip s l b k cause t) := by
  unfold State.fallenTrip
  try dsimp only
  repeat' (first
    | with_reducible assumption
    | intro _
    | with_reducible apply Keeps.ite
    | with_reducible apply State.countTrip_keeps
    | with_reducible apply State.stampTrip_keeps
    | with_reducible apply State.wrBit_keeps
    | with_reducible apply State.wr_keeps
    | with_reducible apply State.markLeg_keeps
    | with_reducible apply State.afterTrip_keeps
    | split)

theorem State.desat_keeps {u0 : State} (s : State) (l : LaneId) (sw t : Nat) (blankEnd : Bool) (h_s : Keeps u0 s) : Keeps u0 (State.desat s l sw t blankEnd) := by
  unfold State.desat
  try dsimp only
  repeat' (first
    | with_reducible assumption
    | intro _
    | with_reducible apply Keeps.ite
    | with_reducible apply State.legTrip_keeps
    | with_reducible apply State.fallenTrip_keeps
    | split)

theorem State.hardShort_keeps {u0 : State} (s : State) (l : LaneId) (phase : Nat) (hsB : Bool) (t : Nat) (h_s : Keeps u0 s) : Keeps u0 (State.hardShort s l phase hsB t) := by
  unfold State.hardShort
  try dsimp only
  repeat' (first
    | with_reducible assumption
    | intro _
    | with_reducible apply Keeps.ite
    | with_reducible apply State.legTrip_keeps
    | with_reducible apply State.fallenTrip_keeps
    | split)

theorem State.softStep2_keeps {u0 : State} (s : State) (l : LaneId) (sw : Nat) (h_s : Keeps u0 s) : Keeps u0 (State.softStep2 s l sw) := by
  unfold State.softStep2
  try dsimp only
  repeat' (first
    | with_reducible assumption
    | intro _
    | with_reducible apply Keeps.ite
    | with_reducible apply State.wr_keeps
    | with_reducible apply Keeps.foldl
    | split)

theorem State.softClamp_keeps {u0 : State} (s : State) (l : LaneId) (sw : Nat) (h_s : Keeps u0 s) : Keeps u0 (State.softClamp s l sw) := by
  unfold State.softClamp
  try dsimp only
  repeat' (first
    | with_reducible assumption
    | intro _
    | with_reducible apply Keeps.ite
    | with_reducible apply State.wr_keeps
    | with_reducible apply State.bump_keeps
    | with_reducible apply State.raise_keeps
    | split)

theorem State.clearLatch_keeps {u0 : State} (s : State) (l : LaneId) (b v : Nat) (h_s : Keeps u0 s) : Keeps u0 (State.clearLatch s l b v) := by
  unfold State.clearLatch
  try dsimp only
  repeat' (first
    | with_reducible assumption
    | intro _
    | with_reducible apply Keeps.ite
    | with_reducible apply State.wr_keeps
    | with_reducible apply State.modBridge_keeps
    | with_reducible apply State.release_keeps
    | with_reducible apply Keeps.foldl
    | split)

theorem State.latchWrite_keeps {u0 : State} (s : State) (l : LaneId) (b v : Nat) (h_s : Keeps u0 s) : Keeps u0 (State.latchWrite s l b v) := by
  unfold State.latchWrite
  try dsimp only
  repeat' (first
    | with_reducible assumption
    | intro _
    | with_reducible apply Keeps.ite
    | with_reducible apply State.clearLatch_keeps
    | with_reducible apply State.wr_keeps
    | split)

theorem State.setVgd_keeps {u0 : State} (s : State) (l : LaneId) (mv : Nat) (h_s : Keeps u0 s) : Keeps u0 (State.setVgd s l mv) := by
  unfold State.setVgd
  try dsimp only
  repeat' (first
    | with_reducible assumption
    | intro _
    | with_reducible apply State.wr_keeps)

theorem State.vgdLow_keeps {u0 : State} (s : State) (l : LaneId) (mv : Nat) (h_s : Keeps u0 s) : Keeps u0 (State.vgdLow s l mv) := by
  unfold State.vgdLow
  try dsimp only
  repeat' (first
    | with_reducible assumption
    | intro _
    | with_reducible apply Keeps.ite
    | with_reducible apply State.setVgd_keeps
    | with_reducible apply State.wr_keeps
    | with_reducible apply State.gatesOff_keeps
    | with_reducible apply State.dropOwn_keeps
    | with_reducible apply State.loseWinding_keeps
    | with_reducible apply State.raise_keeps
    | with_reducible apply Keeps.foldl
    | split)

theorem State.releaseShort_keeps {u0 : State} (s : State) (l : LaneId) (b : Nat) (h_s : Keeps u0 s) : Keeps u0 (State.releaseShort s l b) := by
  unfold State.releaseShort
  try dsimp only
  repeat' (first
    | with_reducible assumption
    | intro _
    | with_reducible apply Keeps.ite
    | with_reducible apply State.gatesOff_keeps
    | with_reducible apply State.bump_keeps
    | with_reducible apply State.wr_keeps
    | split)

theorem State.interlockOne_keeps {u0 : State} (s : State) (l : LaneId) (b ph n : Nat) (p : Placing) (h_s : Keeps u0 s) : Keeps u0 (State.interlockOne s l b ph n p).1 := by
  unfold State.interlockOne
  try dsimp only
  repeat' (first
    | with_reducible assumption
    | intro _
    | with_reducible apply Keeps.ite
    | with_reducible apply Keeps.iteFst
    | with_reducible apply State.wr_keeps
    | with_reducible apply State.bump_keeps
    | with_reducible apply State.wrBit_keeps
    | with_reducible apply State.raise_keeps
    | split)

theorem State.interlock_keeps {u0 : State} (s : State) (l : LaneId) (b n : Nat) (p : Placing) (h_s : Keeps u0 s) : Keeps u0 (State.interlock s l b n p).1 := by
  unfold State.interlock
  try dsimp only
  repeat' (first
    | with_reducible assumption
    | intro _
    | with_reducible apply Keeps.iteFst
    | with_reducible apply State.wrB_keeps
    | with_reducible apply State.interlockOne_keeps
    | with_reducible apply Keeps.foldl
    | with_reducible apply Keeps.foldlFst)

theorem State.floorOne_keeps {u0 : State} (s : State) (l : LaneId) (b : Nat) (p : Placing) (e : SwitchEdge) (h_s : Keeps u0 s) : Keeps u0 (State.floorOne s l b p e).1 := by
  unfold State.floorOne
  try dsimp only
  repeat' (first
    | with_reducible assumption
    | intro _
    | with_reducible apply Keeps.ite
    | with_reducible apply Keeps.iteFst
    | with_reducible apply State.bump_keeps
    | with_reducible apply State.raise_keeps
    | split)

theorem State.bootBlock_keeps {u0 : State} (s : State) (l : LaneId) (b : Nat) (p : Placing) (h_s : Keeps u0 s) : Keeps u0 (State.bootBlock s l b p).1 := by
  unfold State.bootBlock
  try dsimp only
  repeat' (first
    | with_reducible assumption
    | intro _
    | with_reducible apply Keeps.iteFst
    | with_reducible apply State.bump_keeps
    | with_reducible apply State.wrBit_keeps
    | with_reducible apply Keeps.foldl
    | with_reducible apply Keeps.foldlFst)

theorem State.floors_keeps {u0 : State} (s : State) (l : LaneId) (b : Nat) (p : Placing) (h_s : Keeps u0 s) : Keeps u0 (State.floors s l b p).1 := by
  unfold State.floors
  try dsimp only
  repeat' (first
    | with_reducible assumption
    | intro _
    | with_reducible apply Keeps.iteFst
    | with_reducible apply State.floorOne_keeps
    | with_reducible apply Keeps.foldl
    | with_reducible apply Keeps.foldlFst)

theorem State.keepRises_keeps {u0 : State} (s : State) (l : LaneId) (b t : Nat) (p : Placing) (es : List SwitchEdge) (h_s : Keeps u0 s) : Keeps u0 (State.keepRises s l b t p es) := by
  unfold State.keepRises
  try dsimp only
  repeat' (first
    | with_reducible assumption
    | intro _
    | with_reducible apply Keeps.ite
    | with_reducible apply State.wr_keeps
    | with_reducible apply Keeps.foldl
    | split)

theorem State.keepFalls_keeps {u0 : State} (s : State) (l : LaneId) (b t n : Nat) (old es : List SwitchEdge) (h_s : Keeps u0 s) : Keeps u0 (State.keepFalls s l b t n old es) := by
  unfold State.keepFalls
  try dsimp only
  repeat' (first
    | with_reducible assumption
    | intro _
    | with_reducible apply Keeps.ite
    | with_reducible apply State.wr_keeps
    | with_reducible apply Keeps.foldl
    | split)

theorem State.placeDuty_keeps {u0 : State} (s : State) (l : LaneId) (b t : Nat) (h_s : Keeps u0 s) : Keeps u0 (State.placeDuty s l b t) := by
  unfold State.placeDuty
  try dsimp only
  repeat' (first
    | with_reducible assumption
    | intro _
    | with_reducible apply Keeps.iteFst
    | with_reducible apply State.interlock_keeps
    | with_reducible apply State.bootBlock_keeps
    | with_reducible apply State.floors_keeps
    | with_reducible apply State.keepRises_keeps
    | with_reducible apply State.keepFalls_keeps
    | with_reducible apply State.modBridge_keeps
    | with_reducible apply State.wr_keeps)

theorem State.dutyIn_keeps {u0 : State} (s : State) (l : LaneId) (b : Nat) (es : List SwitchEdge) (h_s : Keeps u0 s) : Keeps u0 (State.dutyIn s l b es) := by
  unfold State.dutyIn
  try dsimp only
  repeat' (first
    | with_reducible assumption
    | intro _
    | with_reducible apply State.modBridge_keeps
    | with_reducible apply State.wr_keeps)

theorem State.loadDuty_keeps {u0 : State} (s : State) (l : LaneId) (b t : Nat) (h_s : Keeps u0 s) : Keeps u0 (State.loadDuty s l b t) := by
  unfold State.loadDuty
  try dsimp only
  repeat' (first
    | with_reducible assumption
    | intro _
    | with_reducible apply Keeps.ite
    | with_reducible apply State.wr_keeps
    | with_reducible apply State.placeDuty_keeps
    | with_reducible apply State.gatesOff_keeps
    | with_reducible apply State.wrBit_keeps
    | split)

theorem State.retryHigh_keeps {u0 : State} (s : State) (l : LaneId) (b k t : Nat) (h_s : Keeps u0 s) : Keeps u0 (State.retryHigh s l b k t) := by
  unfold State.retryHigh
  try dsimp only
  repeat' (first
    | with_reducible assumption
    | intro _
    | with_reducible apply Keeps.ite
    | with_reducible apply State.bump_keeps
    | with_reducible apply State.wrBit_keeps
    | with_reducible apply State.wr_keeps
    | split)

theorem State.retry_keeps {u0 : State} (s : State) (l : LaneId) (b t : Nat) (h_s : Keeps u0 s) : Keeps u0 (State.retry s l b t) := by
  unfold State.retry
  try dsimp only
  repeat' (first
    | with_reducible assumption
    | intro _
    | with_reducible apply Keeps.ite
    | with_reducible apply State.retryHigh_keeps
    | with_reducible apply State.wr_keeps
    | with_reducible apply Keeps.foldl
    | split)

theorem State.statusSources_keeps {u0 : State} (s : State) (l : LaneId) (b : Nat) (h_s : Keeps u0 s) : Keeps u0 (State.statusSources s l b) := by
  unfold State.statusSources
  try dsimp only
  repeat' (first
    | with_reducible assumption
    | intro _
    | with_reducible apply Keeps.ite
    | with_reducible apply State.wr_keeps
    | with_reducible apply State.release_keeps
    | with_reducible apply State.raise_keeps
    | split)

theorem State.sendStatus_keeps {u0 : State} (s : State) (l : LaneId) (b : Nat) (h_s : Keeps u0 s) : Keeps u0 (State.sendStatus s l b) := by
  unfold State.sendStatus
  try dsimp only
  repeat' (first
    | with_reducible assumption
    | intro _
    | with_reducible apply Keeps.ite
    | with_reducible apply State.statusSources_keeps
    | with_reducible apply State.wr_keeps
    | split)

theorem State.adcResults_keeps {u0 : State} (s : State) (l : LaneId) (x : BridgeSample) (h_s : Keeps u0 s) : Keeps u0 (State.adcResults s l x) := by
  unfold State.adcResults
  try dsimp only
  repeat' (first
    | with_reducible assumption
    | intro _
    | with_reducible apply Keeps.ite
    | with_reducible apply Keeps.iteFst
    | with_reducible apply State.wr_keeps
    | with_reducible apply State.bump_keeps
    | with_reducible apply Keeps.foldl)

theorem State.bootState_keeps {u0 : State} (s : State) (l : LaneId) (x : BridgeSample) (h_s : Keeps u0 s) : Keeps u0 (State.bootState s l x) := by
  unfold State.bootState
  try dsimp only
  repeat' (first
    | with_reducible assumption
    | intro _
    | with_reducible apply State.wrBit_keeps
    | with_reducible apply Keeps.foldl)

theorem State.cmpPut_keeps {u0 : State} (s : State) (l : LaneId) (b i v : Nat) (h_s : Keeps u0 s) : Keeps u0 (State.cmpPut s l b i v) := by
  unfold State.cmpPut
  try dsimp only
  repeat' (first
    | with_reducible assumption
    | intro _
    | with_reducible apply State.wr_keeps)

theorem State.cmpOne_keeps {u0 : State} (s : State) (l : LaneId) (b i : Nat) (h_s : Keeps u0 s) : Keeps u0 (State.cmpOne s l b i) := by
  unfold State.cmpOne
  try dsimp only
  repeat' (first
    | with_reducible assumption
    | intro _
    | with_reducible apply Keeps.ite
    | with_reducible apply Keeps.iteFst
    | with_reducible apply State.cmpPut_keeps
    | with_reducible apply State.latchBridge_keeps
    | with_reducible apply State.raise_keeps
    | split)

theorem State.cmpEnd_keeps {u0 : State} (s : State) (l : LaneId) (b n : Nat) (h_s : Keeps u0 s) : Keeps u0 (State.cmpEnd s l b n) := by
  unfold State.cmpEnd
  try dsimp only
  repeat' (first
    | with_reducible assumption
    | intro _
    | with_reducible apply Keeps.ite
    | with_reducible apply State.cmpPut_keeps
    | with_reducible apply State.wr_keeps
    | with_reducible apply Keeps.foldl
    | split)

theorem State.cmpPeriod_keeps {u0 : State} (s : State) (l : LaneId) (b : Nat) (valley : Bool) (h_s : Keeps u0 s) : Keeps u0 (State.cmpPeriod s l b valley) := by
  unfold State.cmpPeriod
  try dsimp only
  repeat' (first
    | with_reducible assumption
    | intro _
    | with_reducible apply Keeps.ite
    | with_reducible apply State.wr_keeps
    | with_reducible apply State.cmpOne_keeps
    | with_reducible apply State.cmpEnd_keeps
    | with_reducible apply Keeps.foldl
    | split)

theorem State.calOne_keeps {u0 : State} (s : State) (l : LaneId) (b t c : Nat) (h_s : Keeps u0 s) : Keeps u0 (State.calOne s l b t c) := by
  unfold State.calOne
  try dsimp only
  repeat' (first
    | with_reducible assumption
    | intro _
    | with_reducible apply Keeps.ite
    | with_reducible apply State.wr_keeps
    | split)

theorem State.calWindows_keeps {u0 : State} (s : State) (l : LaneId) (b t : Nat) (h_s : Keeps u0 s) : Keeps u0 (State.calWindows s l b t) := by
  unfold State.calWindows
  try dsimp only
  repeat' (first
    | with_reducible assumption
    | intro _
    | with_reducible apply State.calOne_keeps
    | with_reducible apply Keeps.foldl)

theorem State.trackSample_keeps {u0 : State} (s : State) (l : LaneId) (x : BridgeSample) (h_s : Keeps u0 s) : Keeps u0 (State.trackSample s l x) := by
  unfold State.trackSample
  try dsimp only
  repeat' (first
    | with_reducible assumption
    | intro _
    | with_reducible apply Keeps.ite
    | with_reducible apply State.adcResults_keeps
    | with_reducible apply State.modBridge_keeps
    | split)

theorem State.loadPoint_keeps {u0 : State} (s : State) (l : LaneId) (x : BridgeSample) (valley : Bool) (t : Nat) (h_s : Keeps u0 s) : Keeps u0 (State.loadPoint s l x valley t) := by
  unfold State.loadPoint
  try dsimp only
  repeat' (first
    | with_reducible assumption
    | intro _
    | with_reducible apply Keeps.ite
    | with_reducible apply State.adcResults_keeps
    | with_reducible apply State.bootState_keeps
    | with_reducible apply State.calWindows_keeps
    | with_reducible apply State.loadDuty_keeps
    | with_reducible apply State.wr_keeps
    | with_reducible apply State.retry_keeps
    | with_reducible apply State.sendStatus_keeps
    | with_reducible apply State.cmpPeriod_keeps
    | with_reducible apply State.modBridge_keeps
    | split)

theorem State.precharge_keeps {u0 : State} (s : State) (l : LaneId) (b : Nat) (h_s : Keeps u0 s) : Keeps u0 (State.precharge s l b) := by
  unfold State.precharge
  try dsimp only
  repeat' (first
    | with_reducible assumption
    | intro _
    | with_reducible apply State.shortGates_keeps
    | with_reducible apply State.wr_keeps)

theorem State.holdCal_keeps {u0 : State} (s : State) (l : LaneId) (s0 : State) (c : Nat) (h_s : Keeps u0 s) (h_s0 : Keeps u0 s0) : Keeps u0 (State.holdCal s l s0 c) := by
  unfold State.holdCal
  try dsimp only
  repeat' (first
    | with_reducible assumption
    | intro _
    | with_reducible apply State.wr_keeps)

end Sys2Proof.Machine
end

