-- ==== Sys2Proof/Laws/KeepsTracking.lean ====
section
/-! SUPPORT. What every operation of Tracking keeps. -/

namespace Sys2Proof.Machine

open Par Var

theorem State.trackStep_keeps {u0 : State} (s : State) (l : LaneId) (x : BridgeSample) (t : Nat) (h_s : Keeps u0 s) : Keeps u0 (State.trackStep s l x t) := by
  unfold State.trackStep
  try dsimp only
  repeat' (first
    | with_reducible assumption
    | intro _
    | with_reducible apply Keeps.ite
    | with_reducible apply State.modBridge_keeps
    | with_reducible apply State.wr_keeps
    | with_reducible apply State.trackRestart_keeps
    | split)

end Sys2Proof.Machine
end

