-- ==== Sys2Proof/Laws/KeepsDrive.lean ====
section
/-! SUPPORT. What every operation of Drive keeps. -/

namespace Sys2Proof.Machine

open Par Var

theorem State.peerStep_keeps {u0 : State} (s : State) (l p : LaneId) (h_s : Keeps u0 s) : Keeps u0 (State.peerStep s l p).1 := by
  unfold State.peerStep
  try dsimp only
  repeat' (first
    | with_reducible assumption
    | intro _
    | with_reducible apply Keeps.ite
    | with_reducible apply Keeps.iteFst
    | with_reducible apply State.modBridge_keeps
    | with_reducible apply Keeps.foldl)

theorem State.ownStep_keeps {u0 : State} (s : State) (l : LaneId) (b : Nat) (h_s : Keeps u0 s) : Keeps u0 (State.ownStep s l b) := by
  unfold State.ownStep
  try dsimp only
  repeat' (first
    | with_reducible assumption
    | intro _
    | with_reducible apply Keeps.ite
    | with_reducible apply State.modBridge_keeps)

theorem State.weights_keeps {u0 : State} (s : State) (l : LaneId) (h_s : Keeps u0 s) : Keeps u0 (State.weights s l).1 := by
  unfold State.weights
  try dsimp only
  repeat' (first
    | with_reducible assumption
    | intro _
    | with_reducible apply Keeps.iteFst
    | with_reducible apply State.ownStep_keeps
    | with_reducible apply State.peerStep_keeps
    | with_reducible apply State.bump_keeps
    | with_reducible apply Keeps.foldl
    | with_reducible apply Keeps.foldlFst)

theorem State.awaitRescale_keeps {u0 : State} (s : State) (l : LaneId) (rs : List Rescale) (h_s : Keeps u0 s) : Keeps u0 (State.awaitRescale s l rs) := by
  unfold State.awaitRescale
  try dsimp only
  repeat' (first
    | with_reducible assumption
    | intro _
    | with_reducible apply State.modLane_keeps)

theorem State.stampRescale_keeps {u0 : State} (s : State) (l : LaneId) (r : RescaleWait) (h_s : Keeps u0 s) : Keeps u0 (State.stampRescale s l r) := by
  unfold State.stampRescale
  try dsimp only
  repeat' (first
    | with_reducible assumption
    | intro _
    | with_reducible apply State.wr_keeps)

theorem State.rescales_keeps {u0 : State} (s : State) (l : LaneId) (h_s : Keeps u0 s) : Keeps u0 (State.rescales s l) := by
  unfold State.rescales
  try dsimp only
  repeat' (first
    | with_reducible assumption
    | intro _
    | with_reducible apply State.modLane_keeps
    | with_reducible apply State.stampRescale_keeps
    | with_reducible apply Keeps.foldl)

theorem State.boostStep_keeps {u0 : State} (s : State) (l : LaneId) (b ns : Nat) (h_s : Keeps u0 s) : Keeps u0 (State.boostStep s l b ns) := by
  unfold State.boostStep
  try dsimp only
  repeat' (first
    | with_reducible assumption
    | intro _
    | with_reducible apply Keeps.ite
    | with_reducible apply State.wr_keeps)

theorem State.coupling_keeps {u0 : State} (s : State) (l : LaneId) (b : Nat) (h_s : Keeps u0 s) : Keeps u0 (State.coupling s l b).1 := by
  unfold State.coupling
  try dsimp only
  repeat' (first
    | with_reducible assumption
    | intro _
    | with_reducible apply Keeps.ite
    | with_reducible apply Keeps.iteFst
    | with_reducible apply State.modBridge_keeps
    | with_reducible apply State.bump_keeps
    | with_reducible apply Keeps.foldl
    | with_reducible apply Keeps.foldlFst)

theorem State.placeEdges_keeps {u0 : State} (s : State) (l : LaneId) (b : Nat) (d : List Rat) (h_s : Keeps u0 s) : Keeps u0 (State.placeEdges s l b d) := by
  unfold State.placeEdges
  try dsimp only
  repeat' (first
    | with_reducible assumption
    | intro _
    | with_reducible apply Keeps.ite
    | with_reducible apply Keeps.iteFst
    | with_reducible apply State.wr_keeps
    | with_reducible apply State.bump_keeps
    | with_reducible apply State.modBridge_keeps
    | with_reducible apply State.send_keeps
    | with_reducible apply Keeps.foldl
    | with_reducible apply Keeps.foldlFst
    | split)

theorem State.expressSettle_keeps {u0 : State} (s : State) (l : LaneId) (n : Nat) (e : Int) (present : Rat) (h_s : Keeps u0 s) : Keeps u0 (State.expressSettle s l n e present) := by
  unfold State.expressSettle
  try dsimp only
  repeat' (first
    | with_reducible assumption
    | intro _
    | with_reducible apply Keeps.ite
    | with_reducible apply State.settleSecs_keeps)

theorem State.expressCommit_keeps {u0 : State} (s : State) (l : LaneId) (n : Nat) (q : LoopRun) (ext : Bool) (present : Rat) (h_s : Keeps u0 s) : Keeps u0 (State.expressCommit s l n q ext present) := by
  unfold State.expressCommit
  try dsimp only
  repeat' (first
    | with_reducible assumption
    | intro _
    | with_reducible apply Keeps.ite
    | with_reducible apply State.cenCommit_keeps
    | with_reducible apply State.closeStep_keeps
    | with_reducible apply State.trcEvent_keeps
    | split)

theorem State.applyVoltage_keeps {u0 : State} (s : State) (l : LaneId) (b : Nat) (v : Vec) (thOut : Rat) (d : List Rat) (h_s : Keeps u0 s) : Keeps u0 (State.applyVoltage s l b v thOut d) := by
  unfold State.applyVoltage
  try dsimp only
  repeat' (first
    | with_reducible assumption
    | intro _
    | with_reducible apply Keeps.iteFst
    | with_reducible apply State.modBridge_keeps
    | with_reducible apply State.wr_keeps
    | with_reducible apply State.placeEdges_keeps)

theorem State.applyVector_keeps {u0 : State} (s : State) (l : LaneId) (b : Nat) (v : Vec) (iph : List Rat) (th : Rat) (x : ExpressPair) (held : Bool) (h_s : Keeps u0 s) : Keeps u0 (State.applyVector s l b v iph th x held) := by
  unfold State.applyVector
  try dsimp only
  repeat' (first
    | with_reducible assumption
    | intro _
    | with_reducible apply Keeps.ite
    | with_reducible apply Keeps.iteFst
    | with_reducible apply State.expressCommit_keeps
    | with_reducible apply State.wr_keeps
    | with_reducible apply State.wrB_keeps
    | with_reducible apply State.bump_keeps
    | with_reducible apply State.applyVoltage_keeps
    | split)

theorem State.regulate_keeps {u0 : State} (s : State) (l : LaneId) (b : Nat) (i : Vec) (iph : List Rat) (th : Rat) (h_s : Keeps u0 s) : Keeps u0 (State.regulate s l b i iph th) := by
  unfold State.regulate
  try dsimp only
  repeat' (first
    | with_reducible assumption
    | intro _
    | with_reducible apply Keeps.ite
    | with_reducible apply Keeps.iteFst
    | with_reducible apply State.expressSettle_keeps
    | with_reducible apply State.coupling_keeps
    | with_reducible apply State.modBridge_keeps
    | with_reducible apply State.wr_keeps
    | with_reducible apply State.applyVector_keeps
    | split)

theorem State.reportDq_keeps {u0 : State} (s : State) (l : LaneId) (b : Nat) (i : Vec) (recon : Bool) (h_s : Keeps u0 s) : Keeps u0 (State.reportDq s l b i recon) := by
  unfold State.reportDq
  try dsimp only
  repeat' (first
    | with_reducible assumption
    | intro _
    | with_reducible apply Keeps.ite
    | with_reducible apply Keeps.iteFst
    | with_reducible apply State.modBridge_keeps
    | with_reducible apply State.wr_keeps
    | with_reducible apply State.bump_keeps)

theorem State.validPeriod_keeps {u0 : State} (s : State) (l : LaneId) (b : Nat) (x : BridgeSample) (closed : Nat) (mid : Bool) (h_s : Keeps u0 s) : Keeps u0 (State.validPeriod s l b x closed mid) := by
  unfold State.validPeriod
  try dsimp only
  repeat' (first
    | with_reducible assumption
    | intro _
    | with_reducible apply Keeps.ite
    | with_reducible apply Keeps.iteFst
    | with_reducible apply State.rotorRun_keeps
    | with_reducible apply State.withdraw_keeps
    | with_reducible apply State.wr_keeps
    | with_reducible apply State.reportDq_keeps
    | with_reducible apply State.regulate_keeps)

theorem State.holdVector_keeps {u0 : State} (s : State) (l : LaneId) (b : Nat) (h_s : Keeps u0 s) : Keeps u0 (State.holdVector s l b) := by
  unfold State.holdVector
  try dsimp only
  repeat' (first
    | with_reducible assumption
    | intro _
    | with_reducible apply Keeps.ite
    | with_reducible apply Keeps.iteFst
    | with_reducible apply State.wr_keeps
    | with_reducible apply State.bump_keeps
    | with_reducible apply State.applyVoltage_keeps
    | split)

theorem State.invalidPeriod_keeps {u0 : State} (s : State) (l : LaneId) (b : Nat) (mid : Bool) (h_s : Keeps u0 s) : Keeps u0 (State.invalidPeriod s l b mid) := by
  unfold State.invalidPeriod
  try dsimp only
  repeat' (first
    | with_reducible assumption
    | intro _
    | with_reducible apply Keeps.ite
    | with_reducible apply Keeps.iteFst
    | with_reducible apply State.wr_keeps
    | with_reducible apply State.bump_keeps
    | with_reducible apply State.rotorRun_keeps
    | with_reducible apply State.modBridge_keeps
    | with_reducible apply State.withdraw_keeps
    | with_reducible apply State.raise_keeps
    | with_reducible apply State.holdVector_keeps
    | with_reducible apply Keeps.draw
    | split)

theorem State.linkCheck_keeps {u0 : State} (s : State) (l : LaneId) (x : BridgeSample) (h_s : Keeps u0 s) : Keeps u0 (State.linkCheck s l x) := by
  unfold State.linkCheck
  try dsimp only
  repeat' (first
    | with_reducible assumption
    | intro _
    | with_reducible apply Keeps.ite
    | with_reducible apply State.wr_keeps)

theorem State.runPeriod_keeps {u0 : State} (s : State) (l : LaneId) (x : BridgeSample) (mid : Bool) (h_s : Keeps u0 s) : Keeps u0 (State.runPeriod s l x mid) := by
  unfold State.runPeriod
  try dsimp only
  repeat' (first
    | with_reducible assumption
    | intro _
    | with_reducible apply Keeps.ite
    | with_reducible apply State.linkCheck_keeps
    | with_reducible apply State.withdraw_keeps
    | with_reducible apply State.wr_keeps
    | with_reducible apply State.raise_keeps
    | with_reducible apply State.invalidPeriod_keeps
    | with_reducible apply State.validPeriod_keeps)

theorem State.writeRelease_keeps {u0 : State} (s : State) (l : LaneId) (b : Nat) (h_s : Keeps u0 s) : Keeps u0 (State.writeRelease s l b) := by
  unfold State.writeRelease
  try dsimp only
  repeat' (first
    | with_reducible assumption
    | intro _
    | with_reducible apply Keeps.ite
    | with_reducible apply State.wr_keeps)

theorem State.shortPeriod_keeps {u0 : State} (s : State) (l : LaneId) (b : Nat) (h_s : Keeps u0 s) : Keeps u0 (State.shortPeriod s l b) := by
  unfold State.shortPeriod
  try dsimp only
  repeat' (first
    | with_reducible assumption
    | intro _
    | with_reducible apply Keeps.ite
    | with_reducible apply State.setBridge_keeps)

theorem State.latchBridgeSeen_keeps {u0 : State} (s : State) (l : LaneId) (b : Nat) (h_s : Keeps u0 s) : Keeps u0 (State.latchBridgeSeen s l b) := by
  unfold State.latchBridgeSeen
  try dsimp only
  repeat' (first
    | with_reducible assumption
    | intro _
    | with_reducible apply Keeps.ite
    | with_reducible apply State.wr_keeps
    | with_reducible apply State.dropOwn_keeps
    | with_reducible apply State.loseWinding_keeps
    | with_reducible apply State.setBridge_keeps)

theorem State.bridgePeriod_keeps {u0 : State} (s : State) (l : LaneId) (b : Nat) (peak : Bool) (h_s : Keeps u0 s) : Keeps u0 (State.bridgePeriod s l b peak) := by
  unfold State.bridgePeriod
  try dsimp only
  repeat' (first
    | with_reducible assumption
    | intro _
    | with_reducible apply Keeps.ite
    | with_reducible apply State.modBridge_keeps
    | with_reducible apply State.runPeriod_keeps
    | with_reducible apply State.obsReport_keeps
    | with_reducible apply State.linkCheck_keeps
    | with_reducible apply State.wr_keeps
    | with_reducible apply State.trackStep_keeps
    | with_reducible apply State.trackRestart_keeps
    | with_reducible apply State.rotorIdle_keeps
    | with_reducible apply State.shortPeriod_keeps
    | split)

theorem State.driveBridges_keeps {u0 : State} (s : State) (l : LaneId) (peak : Bool) (h_s : Keeps u0 s) : Keeps u0 (State.driveBridges s l peak) := by
  unfold State.driveBridges
  try dsimp only
  repeat' (first
    | with_reducible assumption
    | intro _
    | with_reducible apply Keeps.ite
    | with_reducible apply State.modBridge_keeps
    | with_reducible apply State.bridgePeriod_keeps
    | with_reducible apply State.boostStep_keeps
    | with_reducible apply State.writeRelease_keeps
    | with_reducible apply Keeps.foldl
    | split)

theorem State.withOld_keeps {u0 : State} (s : State) (l : LaneId) (f : State → State) (h_s : Keeps u0 s)
    (h_f : ∀ x, Keeps u0 x → Keeps u0 (f x)) : Keeps u0 (s.withOld l f) := by
  unfold State.withOld
  extract_lets old new t
  have ht : Keeps u0 t := h_f _ (Keeps.upd h_s (Store.wf_foldl _ (fun m e h => Store.wf_put _ _ h) _ _))
  exact Keeps.ite (h_f _ h_s) (Keeps.upd ht (Store.wf_foldl _ (fun m e h => Store.wf_put _ _ h) _ _))

theorem State.driveStep_keeps {u0 : State} (s : State) (l : LaneId) (peak : Bool) (h_s : Keeps u0 s) :
    Keeps u0 (State.driveStep s l peak) := by
  unfold State.driveStep
  split
  · exact State.rescales_keeps _ _ (State.driveBridges_keeps _ _ _ h_s)
  · exact State.rescales_keeps _ _ (State.driveBridges_keeps _ _ _ (State.awaitRescale_keeps _ _ _ (State.weights_keeps _ _ h_s)))

theorem State.driveCompute_keeps {u0 : State} (s : State) (l : LaneId) (peak : Bool) (h_s : Keeps u0 s) :
    Keeps u0 (State.driveCompute s l peak) :=
  Keeps.upd (State.withOld_keeps _ _ _ h_s (fun _ hx => State.driveStep_keeps _ _ _
    (Keeps.foldl (fun s b h => State.latchBridgeSeen_keeps _ _ _ h) hx))) id

theorem State.enterRun_keeps {u0 : State} (s : State) (l : LaneId) (b : Nat) (hand ab : Vec) (h_s : Keeps u0 s) : Keeps u0 (State.enterRun s l b hand ab) := by
  unfold State.enterRun
  try dsimp only
  repeat' (first
    | with_reducible assumption
    | intro _
    | with_reducible apply Keeps.iteFst
    | with_reducible apply State.wr_keeps
    | with_reducible apply State.modBridge_keeps
    | with_reducible apply State.trackRestart_keeps
    | with_reducible apply Keeps.foldl
    | with_reducible apply Keeps.foldlFst)

theorem State.beginCapture_keeps {u0 : State} (s : State) (l : LaneId) (b : Nat) (h_s : Keeps u0 s) : Keeps u0 (State.beginCapture s l b) := by
  unfold State.beginCapture
  try dsimp only
  repeat' (first
    | with_reducible assumption
    | intro _
    | with_reducible apply Keeps.ite
    | with_reducible apply State.wr_keeps
    | with_reducible apply State.setBridge_keeps
    | with_reducible apply State.obsReport_keeps
    | with_reducible apply State.precharge_keeps)

theorem State.startBridge_keeps {u0 : State} (s : State) (l : LaneId) (b : Nat) (h_s : Keeps u0 s) : Keeps u0 (State.startBridge s l b) := by
  unfold State.startBridge
  try dsimp only
  repeat' (first
    | with_reducible assumption
    | intro _
    | with_reducible apply Keeps.ite
    | with_reducible apply State.beginCapture_keeps
    | with_reducible apply State.enterRun_keeps
    | with_reducible apply State.obsEnter_keeps
    | split)

theorem State.markStopped_keeps {u0 : State} (s : State) (l : LaneId) (b : Nat) (on : Bool) (h_s : Keeps u0 s) : Keeps u0 (State.markStopped s l b on) := by
  unfold State.markStopped
  try dsimp only
  repeat' (first
    | with_reducible assumption
    | intro _
    | with_reducible apply State.wrB_keeps
    | with_reducible apply Keeps.foldl)

theorem State.abortTest_keeps {u0 : State} (s : State) (l : LaneId) (mask : Nat) (h_s : Keeps u0 s) : Keeps u0 (State.abortTest s l mask) := by
  unfold State.abortTest
  try dsimp only
  repeat' (first
    | with_reducible assumption
    | intro _
    | with_reducible apply Keeps.ite
    | with_reducible apply State.wr_keeps
    | with_reducible apply State.bumpBy_keeps)

theorem State.effStart_keeps {u0 : State} (s : State) (l : LaneId) (mask : Nat) (h_s : Keeps u0 s) : Keeps u0 (State.effStart s l mask) := by
  unfold State.effStart
  try dsimp only
  repeat' (first
    | with_reducible assumption
    | intro _
    | with_reducible apply Keeps.ite
    | with_reducible apply State.abortTest_keeps
    | with_reducible apply State.markStopped_keeps
    | with_reducible apply State.wr_keeps
    | with_reducible apply State.wrBit_keeps
    | with_reducible apply State.startBridge_keeps
    | with_reducible apply Keeps.foldl)

theorem State.startAlso_keeps {u0 : State} (s : State) (l : LaneId) (b : Nat) (h_s : Keeps u0 s) : Keeps u0 (State.startAlso s l b) := by
  unfold State.startAlso
  try dsimp only
  repeat' (first
    | with_reducible assumption
    | intro _
    | with_reducible apply Keeps.ite
    | with_reducible apply State.startBridge_keeps
    | split)

theorem State.stopBridge_keeps {u0 : State} (s : State) (l : LaneId) (b kind : Nat) (h_s : Keeps u0 s) : Keeps u0 (State.stopBridge s l b kind) := by
  unfold State.stopBridge
  try dsimp only
  repeat' (first
    | with_reducible assumption
    | intro _
    | with_reducible apply Keeps.ite
    | with_reducible apply State.gatesOff_keeps
    | with_reducible apply State.wr_keeps
    | with_reducible apply State.obsReport_keeps
    | with_reducible apply State.setBridge_keeps
    | with_reducible apply State.modBridge_keeps
    | with_reducible apply State.withdraw_keeps
    | split)

theorem State.effStop_keeps {u0 : State} (s : State) (l : LaneId) (mask kind : Nat) (h_s : Keeps u0 s) : Keeps u0 (State.effStop s l mask kind) := by
  unfold State.effStop
  try dsimp only
  repeat' (first
    | with_reducible assumption
    | intro _
    | with_reducible apply Keeps.ite
    | with_reducible apply State.abortTest_keeps
    | with_reducible apply State.markStopped_keeps
    | with_reducible apply State.stopBridge_keeps
    | with_reducible apply Keeps.foldl)

theorem State.stampCapture_keeps {u0 : State} (s : State) (l : LaneId) (b cls angle : Nat) (speed : Int) (h_s : Keeps u0 s) : Keeps u0 (State.stampCapture s l b cls angle speed) := by
  unfold State.stampCapture
  try dsimp only
  repeat' (first
    | with_reducible assumption
    | intro _
    | with_reducible apply State.wr_keeps)

theorem State.captureFailed_keeps {u0 : State} (s : State) (l : LaneId) (b : Nat) (h_s : Keeps u0 s) : Keeps u0 (State.captureFailed s l b) := by
  unfold State.captureFailed
  try dsimp only
  repeat' (first
    | with_reducible assumption
    | intro _
    | with_reducible apply Keeps.ite
    | with_reducible apply State.setBridge_keeps
    | with_reducible apply State.bump_keeps
    | with_reducible apply State.obsReport_keeps
    | with_reducible apply State.raise_keeps
    | with_reducible apply State.wr_keeps
    | with_reducible apply State.trackRestart_keeps
    | split)

theorem State.captureEnd_keeps {u0 : State} (s : State) (l : LaneId) (b : Nat) (h_s : Keeps u0 s) : Keeps u0 (State.captureEnd s l b) := by
  unfold State.captureEnd
  try dsimp only
  repeat' (first
    | with_reducible assumption
    | intro _
    | with_reducible apply Keeps.ite
    | with_reducible apply State.stampCapture_keeps
    | with_reducible apply State.enterRun_keeps
    | with_reducible apply State.obsEnter_keeps
    | with_reducible apply State.beginAlign_keeps
    | with_reducible apply State.bump_keeps
    | with_reducible apply State.obsReport_keeps
    | with_reducible apply State.captureFailed_keeps
    | split)

theorem State.rejoinDrives_keeps {u0 : State} (s : State) (l : LaneId) (h_s : Keeps u0 s) : Keeps u0 (State.rejoinDrives s l) := by
  unfold State.rejoinDrives
  try dsimp only
  repeat' (first
    | with_reducible assumption
    | intro _
    | with_reducible apply Keeps.ite
    | with_reducible apply State.startAlso_keeps
    | with_reducible apply Keeps.foldl
    | split)

theorem State.cfgCompare_keeps {u0 : State} (s : State) (l : LaneId) (h_s : Keeps u0 s) : Keeps u0 (State.cfgCompare s l) := by
  unfold State.cfgCompare
  try dsimp only
  repeat' (first
    | with_reducible assumption
    | intro _
    | with_reducible apply Keeps.ite
    | with_reducible apply Keeps.iteFst
    | with_reducible apply State.wr_keeps
    | with_reducible apply State.release_keeps
    | with_reducible apply State.raise_keeps
    | with_reducible apply Keeps.foldl
    | with_reducible apply Keeps.foldlFst
    | split)

end Sys2Proof.Machine
end

