-- ==== Sys2Proof/Laws/KeepsFeedback.lean ====
section
/-! SUPPORT. What every operation of Feedback keeps. -/

namespace Sys2Proof.Machine

open Par Var

theorem State.modCh_keeps {u0 : State} (s : State) (l : LaneId) (ch : Nat) (f : FbiCh → FbiCh) (h_s : Keeps u0 s) : Keeps u0 (State.modCh s l ch f) := by
  unfold State.modCh
  try dsimp only
  repeat' (first
    | with_reducible assumption
    | intro _
    | with_reducible apply State.modLane_keeps)

theorem State.runStart_keeps {u0 : State} (s : State) (l : LaneId) (ch t : Nat) (back : Bool) (h_s : Keeps u0 s) : Keeps u0 (State.runStart s l ch t back) := by
  unfold State.runStart
  try dsimp only
  repeat' (first
    | with_reducible assumption
    | intro _
    | with_reducible apply Keeps.ite
    | with_reducible apply State.bump_keeps
    | with_reducible apply State.modCh_keeps)

theorem State.countEvent_keeps {u0 : State} (s : State) (l : LaneId) (ch : Nat) (d : Int) (t : Nat) (h_s : Keeps u0 s) : Keeps u0 (State.countEvent s l ch d t) := by
  unfold State.countEvent
  try dsimp only
  repeat' (first
    | with_reducible assumption
    | intro _
    | with_reducible apply Keeps.ite
    | with_reducible apply State.modCh_keeps
    | with_reducible apply State.runStart_keeps)

theorem State.chFault_keeps {u0 : State} (s : State) (l : LaneId) (ch n : Nat) (h_s : Keeps u0 s) : Keeps u0 (State.chFault s l ch n) := by
  unfold State.chFault
  try dsimp only
  repeat' (first
    | with_reducible assumption
    | intro _
    | with_reducible apply Keeps.ite
    | with_reducible apply State.wr_keeps
    | with_reducible apply State.wrBit_keeps
    | with_reducible apply State.modCh_keeps
    | with_reducible apply State.raise_keeps
    | split)

theorem State.edgeFault_keeps {u0 : State} (s : State) (l : LaneId) (ch t : Nat) (h_s : Keeps u0 s) : Keeps u0 (State.edgeFault s l ch t) := by
  unfold State.edgeFault
  try dsimp only
  repeat' (first
    | with_reducible assumption
    | intro _
    | with_reducible apply Keeps.ite
    | with_reducible apply State.bump_keeps
    | with_reducible apply State.modCh_keeps
    | with_reducible apply State.chFault_keeps)

theorem State.clearFaults_keeps {u0 : State} (s : State) (l : LaneId) (ch bits : Nat) (h_s : Keeps u0 s) : Keeps u0 (State.clearFaults s l ch bits) := by
  unfold State.clearFaults
  try dsimp only
  repeat' (first
    | with_reducible assumption
    | intro _
    | with_reducible apply Keeps.ite
    | with_reducible apply State.wr_keeps
    | with_reducible apply State.modCh_keeps
    | with_reducible apply State.release_keeps)

theorem State.chConfigured_keeps {u0 : State} (s : State) (l : LaneId) (ch : Nat) (h_s : Keeps u0 s) : Keeps u0 (State.chConfigured s l ch) := by
  unfold State.chConfigured
  try dsimp only
  repeat' (first
    | with_reducible assumption
    | intro _
    | with_reducible apply Keeps.ite
    | with_reducible apply State.modCh_keeps
    | with_reducible apply State.wr_keeps
    | with_reducible apply State.release_keeps)

theorem State.indexEvent_keeps {u0 : State} (s : State) (l : LaneId) (ch : Nat) (v : Int) (h_s : Keeps u0 s) : Keeps u0 (State.indexEvent s l ch v) := by
  unfold State.indexEvent
  try dsimp only
  repeat' (first
    | with_reducible assumption
    | intro _
    | with_reducible apply Keeps.ite
    | with_reducible apply State.bump_keeps
    | with_reducible apply State.wr_keeps
    | with_reducible apply State.raise_keeps
    | with_reducible apply State.modCh_keeps
    | split)

theorem State.abzIndex_keeps {u0 : State} (s : State) (l : LaneId) (ch q0 q1 : Nat) (z : Bool) (h_s : Keeps u0 s) : Keeps u0 (State.abzIndex s l ch q0 q1 z) := by
  unfold State.abzIndex
  try dsimp only
  repeat' (first
    | with_reducible assumption
    | intro _
    | with_reducible apply Keeps.ite
    | with_reducible apply State.indexEvent_keeps)

theorem State.decodeEdges_keeps {u0 : State} (s : State) (l : LaneId) (ch : Nat) (es : List WireEdge) (t : Nat) (h_s : Keeps u0 s) : Keeps u0 (State.decodeEdges s l ch es t) := by
  unfold State.decodeEdges
  try dsimp only
  repeat' (first
    | with_reducible assumption
    | intro _
    | with_reducible apply Keeps.ite
    | with_reducible apply State.modCh_keeps
    | with_reducible apply State.wr_keeps
    | with_reducible apply State.countEvent_keeps
    | with_reducible apply State.abzIndex_keeps
    | with_reducible apply State.edgeFault_keeps
    | with_reducible apply State.indexEvent_keeps
    | split)

theorem State.noteEdge_keeps {u0 : State} (s : State) (l : LaneId) (ch t : Nat) (h_s : Keeps u0 s) : Keeps u0 (State.noteEdge s l ch t) := by
  unfold State.noteEdge
  try dsimp only
  repeat' (first
    | with_reducible assumption
    | intro _
    | with_reducible apply Keeps.ite
    | with_reducible apply Keeps.iteFst
    | with_reducible apply State.modCh_keeps
    | split)

theorem State.scUnused_keeps {u0 : State} (s : State) (l : LaneId) (ch : Nat) (missing : Bool) (h_s : Keeps u0 s) : Keeps u0 (State.scUnused s l ch missing) := by
  unfold State.scUnused
  try dsimp only
  repeat' (first
    | with_reducible assumption
    | intro _
    | with_reducible apply Keeps.ite
    | with_reducible apply State.bump_keeps
    | with_reducible apply State.modCh_keeps
    | with_reducible apply State.chFault_keeps)

theorem State.scIndex_keeps {u0 : State} (s : State) (l : LaneId) (ch : Nat) (d : Int) (phi0 phi : Nat) (h_s : Keeps u0 s) : Keeps u0 (State.scIndex s l ch d phi0 phi) := by
  unfold State.scIndex
  try dsimp only
  repeat' (first
    | with_reducible assumption
    | intro _
    | with_reducible apply Keeps.ite
    | with_reducible apply State.indexEvent_keeps
    | split)

theorem State.scUsed_keeps {u0 : State} (s : State) (l : LaneId) (p : SinCos) (t : Nat) (h_s : Keeps u0 s) : Keeps u0 (State.scUsed s l p t) := by
  unfold State.scUsed
  try dsimp only
  repeat' (first
    | with_reducible assumption
    | intro _
    | with_reducible apply Keeps.ite
    | with_reducible apply State.modCh_keeps
    | with_reducible apply State.chFault_keeps
    | with_reducible apply State.countEvent_keeps
    | with_reducible apply State.scIndex_keeps
    | split)

theorem State.scPair_keeps {u0 : State} (s : State) (l : LaneId) (p : SinCos) (t : Nat) (h_s : Keeps u0 s) : Keeps u0 (State.scPair s l p t) := by
  unfold State.scPair
  try dsimp only
  repeat' (first
    | with_reducible assumption
    | intro _
    | with_reducible apply Keeps.ite
    | with_reducible apply State.wr_keeps
    | with_reducible apply State.scUnused_keeps
    | with_reducible apply State.scUsed_keeps)

theorem State.scMissing_keeps {u0 : State} (s : State) (l : LaneId) (ch : Nat) (h_s : Keeps u0 s) : Keeps u0 (State.scMissing s l ch) := by
  unfold State.scMissing
  try dsimp only
  repeat' (first
    | with_reducible assumption
    | intro _
    | with_reducible apply Keeps.ite
    | with_reducible apply State.scUnused_keeps)

theorem State.ssiReject_keeps {u0 : State} (s : State) (l : LaneId) (ch : Nat) (h_s : Keeps u0 s) : Keeps u0 (State.ssiReject s l ch) := by
  unfold State.ssiReject
  try dsimp only
  repeat' (first
    | with_reducible assumption
    | intro _
    | with_reducible apply Keeps.ite
    | with_reducible apply State.bump_keeps
    | with_reducible apply State.modCh_keeps
    | with_reducible apply State.chFault_keeps)

theorem State.ssiAccept_keeps {u0 : State} (s : State) (l : LaneId) (ch frame : Nat) (h_s : Keeps u0 s) : Keeps u0 (State.ssiAccept s l ch frame) := by
  unfold State.ssiAccept
  try dsimp only
  repeat' (first
    | with_reducible assumption
    | intro _
    | with_reducible apply State.modCh_keeps
    | with_reducible apply State.countEvent_keeps
    | split)

theorem State.ssiValley_keeps {u0 : State} (s : State) (l : LaneId) (ch t : Nat) (h_s : Keeps u0 s) : Keeps u0 (State.ssiValley s l ch t) := by
  unfold State.ssiValley
  try dsimp only
  repeat' (first
    | with_reducible assumption
    | intro _
    | with_reducible apply Keeps.ite
    | with_reducible apply State.modCh_keeps)

theorem State.latchCh_keeps {u0 : State} (s : State) (l : LaneId) (ch t : Nat) (h_s : Keeps u0 s) : Keeps u0 (State.latchCh s l ch t) := by
  unfold State.latchCh
  try dsimp only
  repeat' (first
    | with_reducible assumption
    | intro _
    | with_reducible apply Keeps.ite
    | with_reducible apply State.wr_keeps
    | with_reducible apply State.wrI_keeps)

theorem State.fbiValley_keeps {u0 : State} (s : State) (l : LaneId) (sc : List SinCos) (t : Nat) (h_s : Keeps u0 s) : Keeps u0 (State.fbiValley s l sc t) := by
  unfold State.fbiValley
  try dsimp only
  repeat' (first
    | with_reducible assumption
    | intro _
    | with_reducible apply Keeps.ite
    | with_reducible apply State.scPair_keeps
    | with_reducible apply State.scMissing_keeps
    | with_reducible apply State.latchCh_keeps
    | with_reducible apply State.ssiValley_keeps
    | with_reducible apply Keeps.foldl)

theorem State.fbiSample_keeps {u0 : State} (s : State) (l : LaneId) (t : Nat) (h_s : Keeps u0 s) : Keeps u0 (State.fbiSample s l t) := by
  unfold State.fbiSample
  try dsimp only
  repeat' (first
    | with_reducible assumption
    | intro _
    | with_reducible apply Keeps.ite
    | with_reducible apply State.wr_keeps
    | with_reducible apply Keeps.foldl)

theorem State.alignCh_keeps {u0 : State} (s : State) (l : LaneId) (ch : Nat) (d : Int) (h_s : Keeps u0 s) : Keeps u0 (State.alignCh s l ch d) := by
  unfold State.alignCh
  try dsimp only
  repeat' (first
    | with_reducible assumption
    | intro _
    | with_reducible apply State.modCh_keeps
    | with_reducible apply State.wr_keeps)

theorem State.alignTogether_keeps {u0 : State} (s : State) (l : LaneId) (h_s : Keeps u0 s) : Keeps u0 (State.alignTogether s l) := by
  unfold State.alignTogether
  try dsimp only
  repeat' (first
    | with_reducible assumption
    | intro _
    | with_reducible apply Keeps.ite
    | with_reducible apply State.alignCh_keeps
    | with_reducible apply Keeps.foldl
    | split)

theorem State.alignToSet_keeps {u0 : State} (s : State) (l : LaneId) (h_s : Keeps u0 s) : Keeps u0 (State.alignToSet s l) := by
  unfold State.alignToSet
  try dsimp only
  repeat' (first
    | with_reducible assumption
    | intro _
    | with_reducible apply Keeps.ite
    | with_reducible apply State.alignCh_keeps
    | with_reducible apply Keeps.foldl)

theorem State.fbiWake_keeps {u0 : State} (s : State) (l : LaneId) (h_s : Keeps u0 s) : Keeps u0 (State.fbiWake s l) := by
  unfold State.fbiWake
  try dsimp only
  repeat' (first
    | with_reducible assumption
    | intro _
    | with_reducible apply State.modCh_keeps
    | with_reducible apply Keeps.foldl)

end Sys2Proof.Machine
end

