-- ==== Sys2Proof/Laws/KeepsStaff.lean ====
section
/-! SUPPORT. What every operation of Staff keeps. -/

namespace Sys2Proof.Machine

open Par Var

theorem State.noteHandover_keeps {u0 : State} (s : State) (l : LaneId) (holder epoch cause : Nat) (h_s : Keeps u0 s) : Keeps u0 (State.noteHandover s l holder epoch cause) := by
  unfold State.noteHandover
  try dsimp only
  repeat' (first
    | with_reducible assumption
    | intro _
    | with_reducible apply Keeps.ite
    | with_reducible apply State.wr_keeps
    | with_reducible apply State.bump_keeps
    | with_reducible apply Keeps.foldl
    | split)

theorem State.sendAdmit_keeps {u0 : State} (s : State) (l x : LaneId) (h_s : Keeps u0 s) : Keeps u0 (State.sendAdmit s l x) := by
  unfold State.sendAdmit
  try dsimp only
  repeat' (first
    | with_reducible assumption
    | intro _
    | with_reducible apply State.wr_keeps
    | with_reducible apply State.sendStaffAll_keeps)

theorem State.sendWaitingAdmits_keeps {u0 : State} (s : State) (l : LaneId) (h_s : Keeps u0 s) : Keeps u0 (State.sendWaitingAdmits s l) := by
  unfold State.sendWaitingAdmits
  try dsimp only
  repeat' (first
    | with_reducible assumption
    | intro _
    | with_reducible apply Keeps.ite
    | with_reducible apply State.sendAdmit_keeps
    | with_reducible apply State.wr_keeps
    | with_reducible apply Keeps.foldl)

theorem State.becomeHolder_keeps {u0 : State} (s : State) (l : LaneId) (epoch cause : Nat) (h_s : Keeps u0 s) : Keeps u0 (State.becomeHolder s l epoch cause) := by
  unfold State.becomeHolder
  try dsimp only
  repeat' (first
    | with_reducible assumption
    | intro _
    | with_reducible apply Keeps.ite
    | with_reducible apply State.noteHandover_keeps
    | with_reducible apply State.wr_keeps
    | with_reducible apply State.event_keeps
    | with_reducible apply State.sendWaitingAdmits_keeps
    | split)

theorem State.selfGrant_keeps {u0 : State} (s : State) (l : LaneId) (h_s : Keeps u0 s) : Keeps u0 (State.selfGrant s l) := by
  unfold State.selfGrant
  try dsimp only
  repeat' (first
    | with_reducible assumption
    | intro _
    | with_reducible apply Keeps.ite
    | with_reducible apply State.becomeHolder_keeps)

theorem State.sendClaim_keeps {u0 : State} (s : State) (l : LaneId) (t : Nat) (h_s : Keeps u0 s) : Keeps u0 (State.sendClaim s l t) := by
  unfold State.sendClaim
  try dsimp only
  repeat' (first
    | with_reducible assumption
    | intro _
    | with_reducible apply State.sendStaffAll_keeps
    | with_reducible apply State.wr_keeps
    | with_reducible apply State.selfGrant_keeps)

theorem State.tryClaim_keeps {u0 : State} (s : State) (l : LaneId) (t : Nat) (h_s : Keeps u0 s) : Keeps u0 (State.tryClaim s l t) := by
  unfold State.tryClaim
  try dsimp only
  repeat' (first
    | with_reducible assumption
    | intro _
    | with_reducible apply Keeps.ite
    | with_reducible apply State.sendClaim_keeps)

theorem State.claimFailed_keeps {u0 : State} (s : State) (l : LaneId) (h_s : Keeps u0 s) : Keeps u0 (State.claimFailed s l) := by
  unfold State.claimFailed
  try dsimp only
  repeat' (first
    | with_reducible assumption
    | intro _
    | with_reducible apply Keeps.ite
    | with_reducible apply State.wr_keeps
    | with_reducible apply State.bump_keeps)

theorem State.holderGone_keeps {u0 : State} (s : State) (l : LaneId) (cause : Nat) (h_s : Keeps u0 s) : Keeps u0 (State.holderGone s l cause) := by
  unfold State.holderGone
  try dsimp only
  repeat' (first
    | with_reducible assumption
    | intro _
    | with_reducible apply Keeps.ite
    | with_reducible apply State.wr_keeps)

theorem State.staffSample_keeps {u0 : State} (s : State) (l : LaneId) (t : Nat) (h_s : Keeps u0 s) : Keeps u0 (State.staffSample s l t) := by
  unfold State.staffSample
  try dsimp only
  repeat' (first
    | with_reducible assumption
    | intro _
    | with_reducible apply Keeps.ite
    | with_reducible apply State.sendStaffAll_keeps
    | with_reducible apply State.wr_keeps
    | with_reducible apply State.tryClaim_keeps
    | split)

theorem State.releaseStaff_keeps {u0 : State} (s : State) (l : LaneId) (succ : Nat) (h_s : Keeps u0 s) : Keeps u0 (State.releaseStaff s l succ) := by
  unfold State.releaseStaff
  try dsimp only
  repeat' (first
    | with_reducible assumption
    | intro _
    | with_reducible apply State.wr_keeps
    | with_reducible apply State.sendStaffAll_keeps
    | with_reducible apply State.holderGone_keeps)

theorem State.laneRenew_keeps {u0 : State} (s : State) (l : LaneId) (m : StaffMsg) (t : Nat) (h_s : Keeps u0 s) : Keeps u0 (State.laneRenew s l m t) := by
  unfold State.laneRenew
  try dsimp only
  repeat' (first
    | with_reducible assumption
    | intro _
    | with_reducible apply Keeps.ite
    | with_reducible apply State.noteHandover_keeps
    | with_reducible apply State.wr_keeps
    | with_reducible apply State.send_keeps
    | split)

theorem State.renewGranted_keeps {u0 : State} (s : State) (l : LaneId) (h_s : Keeps u0 s) : Keeps u0 (State.renewGranted s l) := by
  unfold State.renewGranted
  try dsimp only
  repeat' (first
    | with_reducible assumption
    | intro _
    | with_reducible apply State.wr_keeps)

theorem State.laneGrantS_keeps {u0 : State} (s : State) (l : LaneId) (m : StaffMsg) (h_s : Keeps u0 s) : Keeps u0 (State.laneGrantS s l m) := by
  unfold State.laneGrantS
  try dsimp only
  repeat' (first
    | with_reducible assumption
    | intro _
    | with_reducible apply Keeps.ite
    | with_reducible apply State.becomeHolder_keeps
    | with_reducible apply State.renewGranted_keeps
    | with_reducible apply State.holderGone_keeps
    | with_reducible apply State.noteHandover_keeps
    | split)

theorem State.laneGrantPeer_keeps {u0 : State} (s : State) (l : LaneId) (m : StaffMsg) (h_s : Keeps u0 s) : Keeps u0 (State.laneGrantPeer s l m) := by
  unfold State.laneGrantPeer
  try dsimp only
  repeat' (first
    | with_reducible assumption
    | intro _
    | with_reducible apply Keeps.ite
    | with_reducible apply State.wrBit_keeps
    | with_reducible apply State.renewGranted_keeps
    | split)

theorem State.laneClaim_keeps {u0 : State} (s : State) (l : LaneId) (m : StaffMsg) (h_s : Keeps u0 s) : Keeps u0 (State.laneClaim s l m) := by
  unfold State.laneClaim
  try dsimp only
  repeat' (first
    | with_reducible assumption
    | intro _
    | with_reducible apply Keeps.ite
    | with_reducible apply State.send_keeps
    | split)

theorem State.laneAgree_keeps {u0 : State} (s : State) (l : LaneId) (m : StaffMsg) (h_s : Keeps u0 s) : Keeps u0 (State.laneAgree s l m) := by
  unfold State.laneAgree
  try dsimp only
  repeat' (first
    | with_reducible assumption
    | intro _
    | with_reducible apply Keeps.ite
    | with_reducible apply State.wrBit_keeps
    | with_reducible apply State.selfGrant_keeps
    | split)

theorem State.laneRelease_keeps {u0 : State} (s : State) (l : LaneId) (m : StaffMsg) (t : Nat) (h_s : Keeps u0 s) : Keeps u0 (State.laneRelease s l m t) := by
  unfold State.laneRelease
  try dsimp only
  repeat' (first
    | with_reducible assumption
    | intro _
    | with_reducible apply Keeps.ite
    | with_reducible apply State.wr_keeps
    | with_reducible apply State.holderGone_keeps
    | with_reducible apply State.tryClaim_keeps
    | split)

theorem State.laneRelinquish_keeps {u0 : State} (s : State) (l : LaneId) (m : StaffMsg) (t : Nat) (h_s : Keeps u0 s) : Keeps u0 (State.laneRelinquish s l m t) := by
  unfold State.laneRelinquish
  try dsimp only
  repeat' (first
    | with_reducible assumption
    | intro _
    | with_reducible apply Keeps.ite
    | with_reducible apply State.wr_keeps
    | with_reducible apply State.holderGone_keeps
    | with_reducible apply State.tryClaim_keeps
    | split)

theorem State.laneExpired_keeps {u0 : State} (s : State) (l : LaneId) (m : StaffMsg) (h_s : Keeps u0 s) : Keeps u0 (State.laneExpired s l m) := by
  unfold State.laneExpired
  try dsimp only
  repeat' (first
    | with_reducible assumption
    | intro _
    | with_reducible apply Keeps.ite
    | with_reducible apply State.holderGone_keeps)

theorem State.sendStaffS_keeps {u0 : State} (s : State) (kind subject epoch reason : Nat) (h_s : Keeps u0 s) : Keeps u0 (State.sendStaffS s kind subject epoch reason) := by
  unfold State.sendStaffS
  try dsimp only
  repeat' (first
    | with_reducible assumption
    | intro _
    | with_reducible apply State.send_keeps
    | with_reducible apply Keeps.foldl)

theorem State.denyS_keeps {u0 : State} (s : State) (x : LaneId) (epoch reason : Nat) (h_s : Keeps u0 s) : Keeps u0 (State.denyS s x epoch reason) := by
  unfold State.denyS
  try dsimp only
  repeat' (first
    | with_reducible assumption
    | intro _
    | with_reducible apply State.send_keeps)

theorem State.tryGrantS_keeps {u0 : State} (s : State) (h_s : Keeps u0 s) : Keeps u0 (State.tryGrantS s) := by
  unfold State.tryGrantS
  try dsimp only
  repeat' (first
    | with_reducible assumption
    | intro _
    | with_reducible apply Keeps.ite
    | with_reducible apply State.wr_keeps
    | with_reducible apply State.sendStaffS_keeps
    | split
    | (refine Keeps.upd ?_ id))

theorem State.endLeaseS_keeps {u0 : State} (s : State) (reason : Nat) (h_s : Keeps u0 s) : Keeps u0 (State.endLeaseS s reason) := by
  unfold State.endLeaseS
  try dsimp only
  repeat' (first
    | with_reducible assumption
    | intro _
    | with_reducible apply State.wr_keeps
    | with_reducible apply State.sendStaffS_keeps
    | with_reducible apply State.tryGrantS_keeps
    | split
    | with_reducible apply Keeps.upd)

theorem State.sRenew_keeps {u0 : State} (s : State) (m : StaffMsg) (t : Nat) (h_s : Keeps u0 s) : Keeps u0 (State.sRenew s m t) := by
  unfold State.sRenew
  try dsimp only
  repeat' (first
    | with_reducible assumption
    | intro _
    | with_reducible apply Keeps.ite
    | with_reducible apply State.wr_keeps
    | with_reducible apply State.sendStaffS_keeps
    | with_reducible apply State.denyS_keeps
    | split
    | with_reducible apply Keeps.upd)

theorem State.sClaim_keeps {u0 : State} (s : State) (m : StaffMsg) (t : Nat) (h_s : Keeps u0 s) : Keeps u0 (State.sClaim s m t) := by
  unfold State.sClaim
  try dsimp only
  repeat' (first
    | with_reducible assumption
    | intro _
    | with_reducible apply Keeps.ite
    | with_reducible apply State.denyS_keeps
    | with_reducible apply State.wr_keeps
    | with_reducible apply State.bump_keeps
    | with_reducible apply State.tryGrantS_keeps
    | split
    | with_reducible apply Keeps.upd)

theorem State.sAgree_keeps {u0 : State} (s : State) (m : StaffMsg) (t : Nat) (h_s : Keeps u0 s) : Keeps u0 (State.sAgree s m t) := by
  unfold State.sAgree
  try dsimp only
  repeat' (first
    | with_reducible assumption
    | intro _
    | with_reducible apply Keeps.ite
    | with_reducible apply State.tryGrantS_keeps
    | split
    | with_reducible apply Keeps.upd)

theorem State.sRelease_keeps {u0 : State} (s : State) (m : StaffMsg) (h_s : Keeps u0 s) : Keeps u0 (State.sRelease s m) := by
  unfold State.sRelease
  try dsimp only
  repeat' (first
    | with_reducible assumption
    | intro _
    | with_reducible apply Keeps.ite
    | with_reducible apply State.wr_keeps
    | with_reducible apply State.endLeaseS_keeps)

theorem State.sRelinquish_keeps {u0 : State} (s : State) (m : StaffMsg) (h_s : Keeps u0 s) : Keeps u0 (State.sRelinquish s m) := by
  unfold State.sRelinquish
  try dsimp only
  repeat' (first
    | with_reducible assumption
    | intro _
    | with_reducible apply Keeps.ite
    | with_reducible apply State.endLeaseS_keeps)

theorem State.sAdmit_keeps {u0 : State} (s : State) (m : StaffMsg) (h_s : Keeps u0 s) : Keeps u0 (State.sAdmit s m) := by
  unfold State.sAdmit
  try dsimp only
  repeat' (first
    | with_reducible assumption
    | intro _
    | with_reducible apply Keeps.ite
    | with_reducible apply State.wrBit_keeps
    | with_reducible apply State.wr_keeps
    | split)

theorem State.leaseExpiryS_keeps {u0 : State} (s : State) (h_s : Keeps u0 s) : Keeps u0 (State.leaseExpiryS s) := by
  unfold State.leaseExpiryS
  try dsimp only
  repeat' (first
    | with_reducible assumption
    | intro _
    | with_reducible apply Keeps.ite
    | with_reducible apply State.endLeaseS_keeps
    | with_reducible apply State.bump_keeps
    | with_reducible apply State.raise_keeps)

theorem State.staffReturn_keeps {u0 : State} (s : State) (l : LaneId) (h_s : Keeps u0 s) : Keeps u0 (State.staffReturn s l) := by
  unfold State.staffReturn
  try dsimp only
  repeat' (first
    | with_reducible assumption
    | intro _
    | with_reducible apply Keeps.ite
    | with_reducible apply State.wr_keeps
    | with_reducible apply State.release_keeps)

theorem State.effStaffRequest_keeps {u0 : State} (s : State) (l : LaneId) (lane : Nat) (h_s : Keeps u0 s) : Keeps u0 (State.effStaffRequest s l lane) := by
  unfold State.effStaffRequest
  try dsimp only
  repeat' (first
    | with_reducible assumption
    | intro _
    | with_reducible apply Keeps.ite
    | with_reducible apply State.releaseStaff_keeps)

theorem State.effExcludeLane_keeps {u0 : State} (s : State) (l : LaneId) (lane : Nat) (h_s : Keeps u0 s) : Keeps u0 (State.effExcludeLane s l lane) := by
  unfold State.effExcludeLane
  try dsimp only
  repeat' (first
    | with_reducible assumption
    | intro _
    | with_reducible apply Keeps.ite
    | with_reducible apply State.leave_keeps)

end Sys2Proof.Machine
end

