-- ==== Sys2Proof/Laws/KeepsSections.lean ====
section
/-! SUPPORT. What every operation of Sections keeps. -/

namespace Sys2Proof.Machine

open Par Var

theorem State.sendVote_keeps {u0 : State} (s : State) (l : LaneId) (h_s : Keeps u0 s) : Keeps u0 (State.sendVote s l) := by
  unfold State.sendVote
  try dsimp only
  repeat' (first
    | with_reducible assumption
    | intro _
    | with_reducible apply Keeps.ite
    | with_reducible apply State.send_keeps
    | with_reducible apply State.wr_keeps)

theorem State.voteFall_keeps {u0 : State} (s : State) (l : LaneId) (h_s : Keeps u0 s) : Keeps u0 (State.voteFall s l) := by
  unfold State.voteFall
  try dsimp only
  repeat' (first
    | with_reducible assumption
    | intro _
    | with_reducible apply Keeps.ite
    | with_reducible apply State.sendVote_keeps)

theorem State.clearRequests_keeps {u0 : State} (s : State) (l : LaneId) (h_s : Keeps u0 s) : Keeps u0 (State.clearRequests s l) := by
  unfold State.clearRequests
  try dsimp only
  repeat' (first
    | with_reducible assumption
    | intro _
    | with_reducible apply State.wr_keeps
    | with_reducible apply State.voteFall_keeps)

theorem State.clearSections_keeps {u0 : State} (s : State) (l : LaneId) (h_s : Keeps u0 s) : Keeps u0 (State.clearSections s l) := by
  unfold State.clearSections
  try dsimp only
  repeat' (first
    | with_reducible assumption
    | intro _
    | with_reducible apply State.wr_keeps
    | with_reducible apply State.clearRequests_keeps)

theorem State.srcCommitted_keeps {u0 : State} (s : State) (l : LaneId) (h_s : Keeps u0 s) : Keeps u0 (State.srcCommitted s l) := by
  unfold State.srcCommitted
  try dsimp only
  repeat' (first
    | with_reducible assumption
    | intro _
    | with_reducible apply Keeps.ite
    | with_reducible apply State.wrI_keeps
    | with_reducible apply State.wr_keeps)

theorem State.sdcTrack_keeps {u0 : State} (s : State) (l : LaneId) (src : Nat) (h_s : Keeps u0 s) : Keeps u0 (State.sdcTrack s l src) := by
  unfold State.sdcTrack
  try dsimp only
  repeat' (first
    | with_reducible assumption
    | intro _
    | with_reducible apply State.wrI_keeps
    | with_reducible apply State.wr_keeps)

theorem State.sdcApply_keeps {u0 : State} (s : State) (l : LaneId) (x v : Int) (all : Bool) (h_s : Keeps u0 s) : Keeps u0 (State.sdcApply s l x v all) := by
  unfold State.sdcApply
  try dsimp only
  repeat' (first
    | with_reducible assumption
    | intro _
    | with_reducible apply Keeps.ite
    | with_reducible apply Keeps.iteFst
    | with_reducible apply State.modLane_keeps
    | with_reducible apply State.wr_keeps
    | with_reducible apply State.bumpBy_keeps)

theorem State.sdcHigh_keeps {u0 : State} (s : State) (l : LaneId) (x : Int) (h_s : Keeps u0 s) : Keeps u0 (State.sdcHigh s l x) := by
  unfold State.sdcHigh
  try dsimp only
  repeat' (first
    | with_reducible assumption
    | intro _
    | with_reducible apply State.wrI_keeps)

theorem State.sdcEval_keeps {u0 : State} (s : State) (l : LaneId) (src : Nat) (h_s : Keeps u0 s) : Keeps u0 (State.sdcEval s l src) := by
  unfold State.sdcEval
  try dsimp only
  repeat' (first
    | with_reducible assumption
    | intro _
    | with_reducible apply Keeps.ite
    | with_reducible apply State.sdcTrack_keeps
    | with_reducible apply State.wrI_keeps
    | with_reducible apply State.wr_keeps
    | with_reducible apply State.sdcHigh_keeps
    | with_reducible apply State.sdcApply_keeps
    | with_reducible apply State.bump_keeps)

theorem State.setVoid_keeps {u0 : State} (s : State) (l : LaneId) (c : Nat) (h_s : Keeps u0 s) : Keeps u0 (State.setVoid s l c) := by
  unfold State.setVoid
  try dsimp only
  repeat' (first
    | with_reducible assumption
    | intro _
    | with_reducible apply Keeps.ite
    | with_reducible apply State.wr_keeps
    | with_reducible apply State.bump_keeps
    | with_reducible apply State.raise_keeps)

theorem State.sdcReport_keeps {u0 : State} (s : State) (l : LaneId) (h_s : Keeps u0 s) : Keeps u0 (State.sdcReport s l) := by
  unfold State.sdcReport
  try dsimp only
  repeat' (first
    | with_reducible assumption
    | intro _
    | with_reducible apply Keeps.ite
    | with_reducible apply State.wr_keeps)

theorem State.askTable_keeps {u0 : State} (s : State) (l source : LaneId) (h_s : Keeps u0 s) : Keeps u0 (State.askTable s l source) := by
  unfold State.askTable
  try dsimp only
  repeat' (first
    | with_reducible assumption
    | intro _
    | with_reducible apply Keeps.ite
    | with_reducible apply State.send_keeps
    | split)

theorem State.loadTable_keeps {u0 : State} (s : State) (l : LaneId) (x : TableXfer) (h_s : Keeps u0 s) : Keeps u0 (State.loadTable s l x) := by
  unfold State.loadTable
  try dsimp only
  repeat' (first
    | with_reducible assumption
    | intro _
    | with_reducible apply State.modLane_keeps
    | with_reducible apply State.wr_keeps
    | with_reducible apply State.wrI_keeps
    | with_reducible apply State.wrB_keeps
    | with_reducible apply State.bump_keeps
    | split)

theorem State.sdcCompute_keeps {u0 : State} (s : State) (l : LaneId) (h_s : Keeps u0 s) : Keeps u0 (State.sdcCompute s l) := by
  unfold State.sdcCompute
  try dsimp only
  repeat' (first
    | with_reducible assumption
    | intro _
    | with_reducible apply Keeps.ite
    | with_reducible apply State.loadTable_keeps
    | with_reducible apply State.sdcEval_keeps
    | with_reducible apply State.wr_keeps
    | with_reducible apply State.setVoid_keeps
    | with_reducible apply State.sdcReport_keeps
    | split)

theorem State.sdcSample_keeps {u0 : State} (s : State) (l : LaneId) (h_s : Keeps u0 s) : Keeps u0 (State.sdcSample s l) := by
  unfold State.sdcSample
  try dsimp only
  repeat' (first
    | with_reducible assumption
    | intro _
    | with_reducible apply State.wr_keeps)

theorem State.sdcCompare_keeps {u0 : State} (s : State) (l : LaneId) (ps : List (LaneId × Nat × Nat)) (h_s : Keeps u0 s) : Keeps u0 (State.sdcCompare s l ps) := by
  unfold State.sdcCompare
  try dsimp only
  repeat' (first
    | with_reducible assumption
    | intro _
    | with_reducible apply Keeps.ite
    | with_reducible apply Keeps.iteFst
    | with_reducible apply State.wr_keeps
    | with_reducible apply State.setVoid_keeps
    | with_reducible apply State.sdcReport_keeps
    | with_reducible apply State.askTable_keeps
    | split)

theorem State.writeEntries_keeps {u0 : State} (s : State) (l : LaneId) (es : List TableEntry) (h_s : Keeps u0 s) : Keeps u0 (State.writeEntries s l es) := by
  unfold State.writeEntries
  try dsimp only
  repeat' (first
    | with_reducible assumption
    | intro _
    | with_reducible apply State.modLane_keeps
    | with_reducible apply State.wrI_keeps
    | with_reducible apply State.wr_keeps
    | split)

theorem State.effTableLoad_keeps {u0 : State} (s : State) (l : LaneId) (es : List TableEntry) (h_s : Keeps u0 s) : Keeps u0 (State.effTableLoad s l es) := by
  unfold State.effTableLoad
  try dsimp only
  repeat' (first
    | with_reducible assumption
    | intro _
    | with_reducible apply Keeps.ite
    | with_reducible apply State.modLane_keeps
    | with_reducible apply State.wr_keeps
    | with_reducible apply State.setVoid_keeps
    | with_reducible apply State.sdcReport_keeps
    | with_reducible apply State.writeEntries_keeps)

theorem State.effTableAppend_keeps {u0 : State} (s : State) (l : LaneId) (es : List TableEntry) (h_s : Keeps u0 s) : Keeps u0 (State.effTableAppend s l es) := by
  unfold State.effTableAppend
  try dsimp only
  repeat' (first
    | with_reducible assumption
    | intro _
    | with_reducible apply State.writeEntries_keeps
    | with_reducible apply State.wr_keeps)

theorem State.effForceOff_keeps {u0 : State} (s : State) (l : LaneId) (mask : Nat) (h_s : Keeps u0 s) : Keeps u0 (State.effForceOff s l mask) := by
  unfold State.effForceOff
  try dsimp only
  repeat' (first
    | with_reducible assumption
    | intro _
    | with_reducible apply State.wr_keeps
    | with_reducible apply State.voteFall_keeps)

theorem State.effHold_keeps {u0 : State} (s : State) (l : LaneId) (mask : Nat) (h_s : Keeps u0 s) : Keeps u0 (State.effHold s l mask) := by
  unfold State.effHold
  try dsimp only
  repeat' (first
    | with_reducible assumption
    | intro _
    | with_reducible apply State.wr_keeps)

theorem State.effRelease_keeps {u0 : State} (s : State) (l : LaneId) (mask : Nat) (h_s : Keeps u0 s) : Keeps u0 (State.effRelease s l mask) := by
  unfold State.effRelease
  try dsimp only
  repeat' (first
    | with_reducible assumption
    | intro _
    | with_reducible apply Keeps.ite
    | with_reducible apply State.wr_keeps
    | with_reducible apply Keeps.foldl
    | split)

end Sys2Proof.Machine
end

