-- ==== Sys2Proof/Laws/KeepsOutputs.lean ====
section
/-! SUPPORT. What every operation of Outputs keeps. -/

namespace Sys2Proof.Machine

open Par Var

theorem State.athOut_keeps {u0 : State} (s : State) (h_s : Keeps u0 s) : Keeps u0 (State.athOut s) := by
  unfold State.athOut
  try dsimp only
  repeat' (first
    | with_reducible assumption
    | intro _
    | with_reducible apply Keeps.ite
    | with_reducible apply State.wr_keeps)

theorem State.voidS_keeps {u0 : State} (s : State) (h_s : Keeps u0 s) : Keeps u0 (State.voidS s) := by
  unfold State.voidS
  try dsimp only
  repeat' (first
    | with_reducible assumption
    | intro _
    | with_reducible apply Keeps.ite
    | with_reducible apply State.wr_keeps)

theorem State.setLatch_keeps {u0 : State} (s : State) (t v : Nat) (h_s : Keeps u0 s) : Keeps u0 (State.setLatch s t v) := by
  unfold State.setLatch
  try dsimp only
  repeat' (first
    | with_reducible assumption
    | intro _
    | with_reducible apply State.wr_keeps)

theorem State.stopPulse_keeps {u0 : State} (s : State) (t : Nat) (h_s : Keeps u0 s) : Keeps u0 (State.stopPulse s t) := by
  unfold State.stopPulse
  try dsimp only
  repeat' (first
    | with_reducible assumption
    | intro _
    | with_reducible apply State.wr_keeps
    | with_reducible apply Keeps.foldl)

theorem State.pulse_keeps {u0 : State} (s : State) (dir t : Nat) (h_s : Keeps u0 s) : Keeps u0 (State.pulse s dir t) := by
  unfold State.pulse
  try dsimp only
  repeat' (first
    | with_reducible assumption
    | intro _
    | with_reducible apply Keeps.ite
    | with_reducible apply State.stopPulse_keeps
    | with_reducible apply State.wr_keeps
    | with_reducible apply State.bump_keeps
    | with_reducible apply State.setLatch_keeps
    | with_reducible apply Keeps.foldl)

theorem State.engage_keeps {u0 : State} (s : State) (t : Nat) (h_s : Keeps u0 s) : Keeps u0 (State.engage s t) := by
  unfold State.engage
  try dsimp only
  repeat' (first
    | with_reducible assumption
    | intro _
    | with_reducible apply Keeps.ite
    | with_reducible apply State.pulse_keeps)

theorem State.latchHolds_keeps {u0 : State} (s : State) (h_s : Keeps u0 s) : Keeps u0 (State.latchHolds s) := by
  unfold State.latchHolds
  try dsimp only
  repeat' (first
    | with_reducible assumption
    | intro _
    | with_reducible apply State.wr_keeps
    | with_reducible apply State.engage_keeps
    | with_reducible apply Keeps.foldl)

theorem State.latchReleases_keeps {u0 : State} (s : State) (h_s : Keeps u0 s) : Keeps u0 (State.latchReleases s) := by
  unfold State.latchReleases
  try dsimp only
  repeat' (first
    | with_reducible assumption
    | intro _
    | with_reducible apply Keeps.ite
    | with_reducible apply State.release_keeps
    | with_reducible apply State.wr_keeps
    | with_reducible apply State.pulse_keeps
    | with_reducible apply Keeps.foldl
    | split)

theorem State.testOver_keeps {u0 : State} (s : State) (k : Nat) (h_s : Keeps u0 s) : Keeps u0 (State.testOver s k) := by
  unfold State.testOver
  try dsimp only
  repeat' (first
    | with_reducible assumption
    | intro _
    | with_reducible apply State.wr_keeps)

theorem State.evalS_keeps {u0 : State} (s : State) (h_s : Keeps u0 s) : Keeps u0 (State.evalS s) := by
  unfold State.evalS
  try dsimp only
  repeat' (first
    | with_reducible assumption
    | intro _
    | with_reducible apply Keeps.ite
    | with_reducible apply State.testOver_keeps
    | with_reducible apply State.bump_keeps
    | with_reducible apply State.wr_keeps
    | with_reducible apply State.voidS_keeps
    | with_reducible apply State.latchHolds_keeps
    | with_reducible apply State.latchReleases_keeps
    | with_reducible apply State.athOut_keeps
    | split)

theorem State.releaseEnd_keeps {u0 : State} (s : State) (l : Nat) (new : Nat) (h_s : Keeps u0 s) : Keeps u0 (State.releaseEnd s l new) := by
  unfold State.releaseEnd
  try dsimp only
  repeat' (first
    | with_reducible assumption
    | intro _
    | with_reducible apply State.bumpBy_keeps
    | with_reducible apply State.wr_keeps)

theorem State.takeVote_keeps {u0 : State} (s : State) (l : LaneId) (v : VoteMsg) (t : Nat) (h_s : Keeps u0 s) : Keeps u0 (State.takeVote s l v t) := by
  unfold State.takeVote
  try dsimp only
  repeat' (first
    | with_reducible assumption
    | intro _
    | with_reducible apply State.wr_keeps
    | with_reducible apply State.releaseEnd_keeps
    | with_reducible apply State.release_keeps
    | with_reducible apply State.evalS_keeps
    | split
    | (refine Keeps.upd ?_ id))

theorem State.pulseDone_keeps {u0 : State} (s : State) (t : Nat) (h_s : Keeps u0 s) : Keeps u0 (State.pulseDone s t) := by
  unfold State.pulseDone
  try dsimp only
  repeat' (first
    | with_reducible assumption
    | intro _
    | with_reducible apply Keeps.ite
    | with_reducible apply State.setLatch_keeps
    | with_reducible apply State.wr_keeps)

theorem State.armS_keeps {u0 : State} (s : State) (l : LaneId) (epoch mask : Nat) (h_s : Keeps u0 s) : Keeps u0 (State.armS s l epoch mask).1 := by
  unfold State.armS
  try dsimp only
  repeat' (first
    | with_reducible assumption
    | intro _
    | with_reducible apply Keeps.ite
    | with_reducible apply Keeps.iteFst
    | with_reducible apply State.bump_keeps
    | with_reducible apply State.wr_keeps
    | with_reducible apply State.evalS_keeps)

theorem State.disarmS_keeps {u0 : State} (s : State) (l : LaneId) (mask : Nat) (h_s : Keeps u0 s) : Keeps u0 (State.disarmS s l mask).1 := by
  unfold State.disarmS
  try dsimp only
  repeat' (first
    | with_reducible assumption
    | intro _
    | with_reducible apply Keeps.ite
    | with_reducible apply Keeps.iteFst
    | with_reducible apply State.wr_keeps
    | with_reducible apply State.bump_keeps
    | with_reducible apply State.evalS_keeps)

theorem State.liftS_keeps {u0 : State} (s : State) (l : LaneId) (h_s : Keeps u0 s) : Keeps u0 (State.liftS s l) := by
  unfold State.liftS
  try dsimp only
  repeat' (first
    | with_reducible assumption
    | intro _
    | with_reducible apply State.wrBit_keeps
    | with_reducible apply State.wr_keeps
    | with_reducible apply State.evalS_keeps)

theorem State.secFault_keeps {u0 : State} (s : State) (k n : Nat) (h_s : Keeps u0 s) : Keeps u0 (State.secFault s k n) := by
  unfold State.secFault
  try dsimp only
  repeat' (first
    | with_reducible assumption
    | intro _
    | with_reducible apply State.wrBit_keeps
    | with_reducible apply State.raise_keeps
    | with_reducible apply State.evalS_keeps)

theorem State.offPulseJudge_keeps {u0 : State} (s : State) (k : Nat) (mv : Int) (ma : Nat) (h_s : Keeps u0 s) : Keeps u0 (State.offPulseJudge s k mv ma) := by
  unfold State.offPulseJudge
  try dsimp only
  repeat' (first
    | with_reducible assumption
    | intro _
    | with_reducible apply Keeps.ite
    | with_reducible apply State.testOver_keeps
    | with_reducible apply State.wr_keeps
    | with_reducible apply State.bump_keeps
    | with_reducible apply State.secFault_keeps
    | split)

theorem State.secClear_keeps {u0 : State} (s : State) (k bits : Nat) (h_s : Keeps u0 s) : Keeps u0 (State.secClear s k bits) := by
  unfold State.secClear
  try dsimp only
  repeat' (first
    | with_reducible assumption
    | intro _
    | with_reducible apply Keeps.ite
    | with_reducible apply State.wr_keeps
    | with_reducible apply State.wrBit_keeps
    | with_reducible apply State.release_keeps
    | with_reducible apply State.evalS_keeps
    | with_reducible apply Keeps.foldl)

theorem State.excludeS_keeps {u0 : State} (s : State) (l : LaneId) (reason : Nat) (h_s : Keeps u0 s) : Keeps u0 (State.excludeS s l reason) := by
  unfold State.excludeS
  try dsimp only
  repeat' (first
    | with_reducible assumption
    | intro _
    | with_reducible apply Keeps.ite
    | with_reducible apply State.wrBit_keeps
    | with_reducible apply State.wr_keeps
    | with_reducible apply State.bump_keeps
    | with_reducible apply State.endLeaseS_keeps
    | with_reducible apply State.evalS_keeps
    | split)

end Sys2Proof.Machine
end

