-- ==== Sys2Proof/Laws/KeepsInputs.lean ====
section
/-! SUPPORT. What every operation of Inputs keeps. -/

namespace Sys2Proof.Machine

open Par Var

theorem State.latchDisc_keeps {u0 : State} (s : State) (l : LaneId) (p : Nat) (h_s : Keeps u0 s) : Keeps u0 (State.latchDisc s l p) := by
  unfold State.latchDisc
  try dsimp only
  repeat' (first
    | with_reducible assumption
    | intro _
    | with_reducible apply State.wr_keeps
    | with_reducible apply State.wrB_keeps
    | with_reducible apply State.wrBit_keeps
    | with_reducible apply State.bump_keeps
    | with_reducible apply State.raise_keeps)

theorem State.awaitOther_keeps {u0 : State} (s : State) (l : LaneId) (p chan first last : Nat) (h_s : Keeps u0 s) : Keeps u0 (State.awaitOther s l p chan first last) := by
  unfold State.awaitOther
  try dsimp only
  repeat' (first
    | with_reducible assumption
    | intro _
    | with_reducible apply State.wr_keeps)

theorem State.discClear_keeps {u0 : State} (s : State) (l : LaneId) (p : Nat) (followed : Bool) (h_s : Keeps u0 s) : Keeps u0 (State.discClear s l p followed) := by
  unfold State.discClear
  try dsimp only
  repeat' (first
    | with_reducible assumption
    | intro _
    | with_reducible apply Keeps.ite
    | with_reducible apply State.wr_keeps
    | with_reducible apply State.wrBit_keeps
    | split)

theorem State.discFollowed_keeps {u0 : State} (s : State) (l : LaneId) (p chan lag : Nat) (h_s : Keeps u0 s) : Keeps u0 (State.discFollowed s l p chan lag) := by
  unfold State.discFollowed
  try dsimp only
  repeat' (first
    | with_reducible assumption
    | intro _
    | with_reducible apply Keeps.ite
    | with_reducible apply State.wr_keeps
    | with_reducible apply State.awaitOther_keeps
    | with_reducible apply State.discClear_keeps
    | split)

theorem State.discChange_keeps {u0 : State} (s : State) (l : LaneId) (i tick : Nat) (h_s : Keeps u0 s) : Keeps u0 (State.discChange s l i tick) := by
  unfold State.discChange
  try dsimp only
  repeat' (first
    | with_reducible assumption
    | intro _
    | with_reducible apply Keeps.ite
    | with_reducible apply State.awaitOther_keeps
    | with_reducible apply State.discClear_keeps
    | with_reducible apply State.wr_keeps
    | with_reducible apply State.latchDisc_keeps
    | with_reducible apply State.discFollowed_keeps
    | split)

theorem State.noteStamp_keeps {u0 : State} (s : State) (l : LaneId) (f at' region pair chan cyc : Nat) (h_s : Keeps u0 s) : Keeps u0 (State.noteStamp s l f at' region pair chan cyc) := by
  unfold State.noteStamp
  try dsimp only
  repeat' (first
    | with_reducible assumption
    | intro _
    | with_reducible apply Keeps.ite
    | with_reducible apply State.wr_keeps)

theorem State.tripPair_keeps {u0 : State} (s : State) (l : LaneId) (p chan t : Nat) (h_s : Keeps u0 s) : Keeps u0 (State.tripPair s l p chan t) := by
  unfold State.tripPair
  try dsimp only
  repeat' (first
    | with_reducible assumption
    | intro _
    | with_reducible apply Keeps.ite
    | with_reducible apply State.wrBit_keeps
    | with_reducible apply State.wr_keeps
    | with_reducible apply State.clearRequests_keeps
    | with_reducible apply State.noteStamp_keeps
    | with_reducible apply State.send_keeps
    | split)

theorem State.tripResend_keeps {u0 : State} (s : State) (l : LaneId) (h_s : Keeps u0 s) : Keeps u0 (State.tripResend s l) := by
  unfold State.tripResend
  try dsimp only
  repeat' (first
    | with_reducible assumption
    | intro _
    | with_reducible apply Keeps.ite
    | with_reducible apply State.send_keeps
    | with_reducible apply Keeps.foldl)

theorem State.noteClosed_keeps {u0 : State} (s0 s : State) (l : LaneId) (t : Nat) (h_s0 : Keeps u0 s0) (h_s : Keeps u0 s) : Keeps u0 (State.noteClosed s0 s l t) := by
  unfold State.noteClosed
  try dsimp only
  repeat' (first
    | with_reducible assumption
    | intro _
    | with_reducible apply Keeps.ite
    | with_reducible apply State.wr_keeps
    | split)

theorem State.chanChanged_keeps {u0 : State} (s0 s : State) (l : LaneId) (i t : Nat) (h_s0 : Keeps u0 s0) (h_s : Keeps u0 s) : Keeps u0 (State.chanChanged s0 s l i t) := by
  unfold State.chanChanged
  try dsimp only
  repeat' (first
    | with_reducible assumption
    | intro _
    | with_reducible apply Keeps.ite
    | with_reducible apply State.noteClosed_keeps
    | with_reducible apply State.tripPair_keeps
    | split)

theorem State.inputAccept_keeps {u0 : State} (s : State) (l : LaneId) (i : Nat) (level : Bool) (tick t : Nat) (h_s : Keeps u0 s) : Keeps u0 (State.inputAccept s l i level tick t) := by
  unfold State.inputAccept
  try dsimp only
  repeat' (first
    | with_reducible assumption
    | intro _
    | with_reducible apply Keeps.ite
    | with_reducible apply State.wrBit_keeps
    | with_reducible apply State.chanChanged_keeps
    | with_reducible apply State.discChange_keeps
    | split)

theorem State.ackAccept_keeps {u0 : State} (s : State) (l : LaneId) (level : Bool) (t : Nat) (h_s : Keeps u0 s) : Keeps u0 (State.ackAccept s l level t) := by
  unfold State.ackAccept
  try dsimp only
  repeat' (first
    | with_reducible assumption
    | intro _
    | with_reducible apply Keeps.ite
    | with_reducible apply State.wrBit_keeps
    | with_reducible apply State.wr_keeps
    | split)

theorem State.inputFault_keeps {u0 : State} (s : State) (l : LaneId) (i n : Nat) (h_s : Keeps u0 s) : Keeps u0 (State.inputFault s l i n) := by
  unfold State.inputFault
  try dsimp only
  repeat' (first
    | with_reducible assumption
    | intro _
    | with_reducible apply State.chanChanged_keeps
    | with_reducible apply State.wrBit_keeps
    | with_reducible apply State.raise_keeps)

theorem State.pulseSeen_keeps {u0 : State} (s : State) (l : LaneId) (i : Nat) (low : Bool) (h_s : Keeps u0 s) : Keeps u0 (State.pulseSeen s l i low) := by
  unfold State.pulseSeen
  try dsimp only
  repeat' (first
    | with_reducible assumption
    | intro _
    | with_reducible apply Keeps.ite
    | with_reducible apply State.noteClosed_keeps
    | with_reducible apply State.wr_keeps
    | with_reducible apply State.bump_keeps
    | with_reducible apply State.inputFault_keeps
    | split)

theorem State.tripTarget_keeps {u0 : State} (s : State) (l : LaneId) (t : Nat) (h_s : Keeps u0 s) : Keeps u0 (State.tripTarget s l t) := by
  unfold State.tripTarget
  try dsimp only
  repeat' (first
    | with_reducible assumption
    | intro _
    | with_reducible apply Keeps.ite
    | with_reducible apply State.wr_keeps)

theorem State.tripApply_keeps {u0 : State} (s : State) (l : LaneId) (f : Nat) (h_s : Keeps u0 s) : Keeps u0 (State.tripApply s l f) := by
  unfold State.tripApply
  try dsimp only
  repeat' (first
    | with_reducible assumption
    | intro _
    | with_reducible apply Keeps.ite
    | with_reducible apply State.wrBit_keeps
    | with_reducible apply State.wr_keeps
    | with_reducible apply State.bump_keeps
    | with_reducible apply State.clearSections_keeps
    | with_reducible apply State.tripTarget_keeps
    | with_reducible apply State.event_keeps
    | with_reducible apply Keeps.foldl
    | split)

theorem State.tripReset_keeps {u0 : State} (s : State) (l : LaneId) (h_s : Keeps u0 s) : Keeps u0 (State.tripReset s l) := by
  unfold State.tripReset
  try dsimp only
  repeat' (first
    | with_reducible assumption
    | intro _
    | with_reducible apply Keeps.ite
    | with_reducible apply State.wr_keeps
    | with_reducible apply State.bump_keeps
    | with_reducible apply State.wrBit_keeps
    | with_reducible apply State.release_keeps
    | with_reducible apply State.event_keeps
    | with_reducible apply Keeps.foldl
    | split)

theorem State.holdRelease_keeps {u0 : State} (s : State) (l : LaneId) (r at' : Nat) (h_s : Keeps u0 s) : Keeps u0 (State.holdRelease s l r at') := by
  unfold State.holdRelease
  try dsimp only
  repeat' (first
    | with_reducible assumption
    | intro _
    | with_reducible apply Keeps.ite
    | with_reducible apply State.wr_keeps
    | with_reducible apply Keeps.foldl)

theorem State.ackLatch_keeps {u0 : State} (s : State) (l : LaneId) (at' : Nat) (h_s : Keeps u0 s) : Keeps u0 (State.ackLatch s l at') := by
  unfold State.ackLatch
  try dsimp only
  repeat' (first
    | with_reducible assumption
    | intro _
    | with_reducible apply Keeps.ite
    | with_reducible apply State.tripReset_keeps)

theorem State.effConfirm_keeps {u0 : State} (s : State) (l : LaneId) (h_s : Keeps u0 s) : Keeps u0 (State.effConfirm s l).1 := by
  unfold State.effConfirm
  try dsimp only
  repeat' (first
    | with_reducible assumption
    | intro _
    | with_reducible apply Keeps.ite
    | with_reducible apply Keeps.iteFst
    | with_reducible apply State.tripReset_keeps
    | with_reducible apply State.wr_keeps)

end Sys2Proof.Machine
end

