-- ==== Sys2Proof/Laws/KeepsModes.lean ====
section
/-! SUPPORT. What every operation of Modes keeps. -/

namespace Sys2Proof.Machine

open Par Var

theorem State.dropGone_keeps {u0 : State} (s : State) (l : LaneId) (h_s : Keeps u0 s) : Keeps u0 (State.dropGone s l) := by
  unfold State.dropGone
  try dsimp only
  repeat' (first
    | with_reducible assumption
    | intro _
    | with_reducible apply Keeps.ite
    | with_reducible apply State.wr_keeps
    | with_reducible apply Keeps.foldl)

theorem State.noteWindings_keeps {u0 : State} (s : State) (l x : LaneId) (old new : Nat) (h_s : Keeps u0 s) : Keeps u0 (State.noteWindings s l x old new) := by
  unfold State.noteWindings
  try dsimp only
  repeat' (first
    | with_reducible assumption
    | intro _
    | with_reducible apply Keeps.ite
    | with_reducible apply State.wr_keeps
    | with_reducible apply Keeps.foldl)

theorem State.keepCounts_keeps {u0 : State} (s : State) (l : LaneId) (h_s : Keeps u0 s) : Keeps u0 (State.keepCounts s l) := by
  unfold State.keepCounts
  try dsimp only
  repeat' (first
    | with_reducible assumption
    | intro _
    | with_reducible apply Keeps.ite
    | with_reducible apply State.wr_keeps
    | with_reducible apply Keeps.foldl)

theorem State.addStopCause_keeps {u0 : State} (s : State) (l : LaneId) (n : Nat) (h_s : Keeps u0 s) : Keeps u0 (State.addStopCause s l n) := by
  unfold State.addStopCause
  try dsimp only
  repeat' (first
    | with_reducible assumption
    | intro _
    | with_reducible apply State.wrBit_keeps)

theorem State.enterStop_keeps {u0 : State} (s : State) (l : LaneId) (h_s : Keeps u0 s) : Keeps u0 (State.enterStop s l) := by
  unfold State.enterStop
  try dsimp only
  repeat' (first
    | with_reducible assumption
    | intro _
    | with_reducible apply Keeps.ite
    | with_reducible apply State.wr_keeps
    | with_reducible apply Keeps.foldl)

theorem State.setMode_keeps {u0 : State} (s : State) (l : LaneId) (m : Nat) (why : Nat × Nat × Nat) (h_s : Keeps u0 s) : Keeps u0 (State.setMode s l m why) := by
  unfold State.setMode
  try dsimp only
  repeat' (first
    | with_reducible assumption
    | intro _
    | with_reducible apply Keeps.ite
    | with_reducible apply Keeps.iteFst
    | with_reducible apply State.wr_keeps
    | with_reducible apply State.bump_keeps
    | with_reducible apply State.clearSections_keeps
    | with_reducible apply State.enterStop_keeps
    | with_reducible apply State.event_keeps)

theorem State.heldByForce_keeps {u0 : State} (s : State) (l : LaneId) (h_s : Keeps u0 s) : Keeps u0 (State.heldByForce s l) := by
  unfold State.heldByForce
  try dsimp only
  repeat' (first
    | with_reducible assumption
    | intro _
    | with_reducible apply State.wr_keeps
    | with_reducible apply State.setMode_keeps)

theorem State.modeWarn_keeps {u0 : State} (s : State) (l : LaneId) (h_s : Keeps u0 s) : Keeps u0 (State.modeWarn s l) := by
  unfold State.modeWarn
  try dsimp only
  repeat' (first
    | with_reducible assumption
    | intro _
    | with_reducible apply State.wr_keeps)

theorem State.parkStep_keeps {u0 : State} (s : State) (l : LaneId) (h_s : Keeps u0 s) : Keeps u0 (State.parkStep s l) := by
  unfold State.parkStep
  try dsimp only
  repeat' (first
    | with_reducible assumption
    | intro _
    | with_reducible apply Keeps.ite
    | with_reducible apply State.heldByForce_keeps
    | with_reducible apply State.setMode_keeps)

theorem State.heldStep_keeps {u0 : State} (s : State) (l : LaneId) (e : Nat) (h_s : Keeps u0 s) : Keeps u0 (State.heldStep s l e) := by
  unfold State.heldStep
  try dsimp only
  repeat' (first
    | with_reducible assumption
    | intro _
    | with_reducible apply Keeps.ite
    | with_reducible apply State.wr_keeps
    | with_reducible apply State.setMode_keeps)

theorem State.fullStep_keeps {u0 : State} (s : State) (l : LaneId) (e : Nat) (why : Nat × Nat × Nat) (h_s : Keeps u0 s) : Keeps u0 (State.fullStep s l e why) := by
  unfold State.fullStep
  try dsimp only
  repeat' (first
    | with_reducible assumption
    | intro _
    | with_reducible apply Keeps.ite
    | with_reducible apply Keeps.iteFst
    | with_reducible apply State.setMode_keeps
    | split)

theorem State.followMode_keeps {u0 : State} (s : State) (l : LaneId) (h_s : Keeps u0 s) : Keeps u0 (State.followMode s l) := by
  unfold State.followMode
  try dsimp only
  repeat' (first
    | with_reducible assumption
    | intro _
    | with_reducible apply Keeps.ite
    | with_reducible apply State.setMode_keeps
    | split)

theorem State.modeCompute_keeps {u0 : State} (s : State) (l : LaneId) (h_s : Keeps u0 s) : Keeps u0 (State.modeCompute s l) := by
  unfold State.modeCompute
  try dsimp only
  repeat' (first
    | with_reducible assumption
    | intro _
    | with_reducible apply Keeps.ite
    | with_reducible apply State.followMode_keeps
    | with_reducible apply State.modeWarn_keeps
    | with_reducible apply State.dropGone_keeps
    | with_reducible apply State.keepCounts_keeps
    | with_reducible apply State.parkStep_keeps
    | with_reducible apply State.setMode_keeps
    | with_reducible apply State.heldStep_keeps
    | with_reducible apply State.fullStep_keeps
    | split)

theorem State.stopCycle_keeps {u0 : State} (s : State) (l : LaneId) (h_s : Keeps u0 s) : Keeps u0 (State.stopCycle s l) := by
  unfold State.stopCycle
  try dsimp only
  repeat' (first
    | with_reducible assumption
    | intro _
    | with_reducible apply Keeps.ite
    | with_reducible apply State.wr_keeps
    | with_reducible apply Keeps.foldl)

end Sys2Proof.Machine
end

