-- ==== Sys2Proof/Laws/KeepsRejoin.lean ====
section
/-! SUPPORT. What every operation of Rejoin keeps. -/

namespace Sys2Proof.Machine

open Par Var

theorem State.armOrder_keeps {u0 : State} (s : State) (l : LaneId) (o : Nat) (h_s : Keeps u0 s) : Keeps u0 (State.armOrder s l o) := by
  unfold State.armOrder
  try dsimp only
  repeat' (first
    | with_reducible assumption
    | intro _
    | with_reducible apply Keeps.ite
    | with_reducible apply State.wr_keeps)

theorem State.autostart_keeps {u0 : State} (s : State) (l : LaneId) (h_s : Keeps u0 s) : Keeps u0 (State.autostart s l) := by
  unfold State.autostart
  try dsimp only
  repeat' (first
    | with_reducible assumption
    | intro _
    | with_reducible apply Keeps.ite
    | with_reducible apply State.armOrder_keeps
    | with_reducible apply Keeps.foldl)

theorem State.parkClamp_keeps {u0 : State} (s : State) (l : LaneId) (h_s : Keeps u0 s) : Keeps u0 (State.parkClamp s l) := by
  unfold State.parkClamp
  try dsimp only
  repeat' (first
    | with_reducible assumption
    | intro _
    | with_reducible apply Keeps.ite
    | with_reducible apply State.effStart_keeps
    | with_reducible apply State.enterCmd_keeps
    | with_reducible apply State.effHold_keeps
    | with_reducible apply State.wr_keeps
    | with_reducible apply Keeps.foldl
    | split)

theorem State.entered_keeps {u0 : State} (s : State) (l : LaneId) (h_s : Keeps u0 s) : Keeps u0 (State.entered s l) := by
  unfold State.entered
  try dsimp only
  repeat' (first
    | with_reducible assumption
    | intro _
    | with_reducible apply Keeps.ite
    | with_reducible apply State.wr_keeps
    | with_reducible apply State.autostart_keeps
    | with_reducible apply State.parkClamp_keeps)

theorem State.servePhase_keeps {u0 : State} (s : State) (l : LaneId) (h_s : Keeps u0 s) : Keeps u0 (State.servePhase s l) := by
  unfold State.servePhase
  try dsimp only
  repeat' (first
    | with_reducible assumption
    | intro _
    | with_reducible apply Keeps.ite
    | with_reducible apply State.wr_keeps
    | with_reducible apply Keeps.foldl)

theorem State.enterLatch_keeps {u0 : State} (s : State) (l : LaneId) (t : Nat) (h_s : Keeps u0 s) : Keeps u0 (State.enterLatch s l t) := by
  unfold State.enterLatch
  try dsimp only
  repeat' (first
    | with_reducible assumption
    | intro _
    | with_reducible apply Keeps.ite
    | with_reducible apply State.wr_keeps
    | with_reducible apply State.servePhase_keeps
    | with_reducible apply State.entered_keeps
    | with_reducible apply Keeps.foldl)

theorem State.requestXfer_keeps {u0 : State} (s : State) (l : LaneId) (h_s : Keeps u0 s) : Keeps u0 (State.requestXfer s l) := by
  unfold State.requestXfer
  try dsimp only
  repeat' (first
    | with_reducible assumption
    | intro _
    | with_reducible apply State.wr_keeps
    | with_reducible apply State.send_keeps
    | with_reducible apply Keeps.foldl)

theorem State.stepFail_keeps {u0 : State} (s : State) (l : LaneId) (step : Nat) (h_s : Keeps u0 s) : Keeps u0 (State.stepFail s l step) := by
  unfold State.stepFail
  try dsimp only
  repeat' (first
    | with_reducible assumption
    | intro _
    | with_reducible apply Keeps.ite
    | with_reducible apply State.wr_keeps
    | with_reducible apply State.bump_keeps
    | with_reducible apply State.raise_keeps
    | with_reducible apply State.requestXfer_keeps)

theorem State.enterShadow_keeps {u0 : State} (s : State) (l : LaneId) (h_s : Keeps u0 s) : Keeps u0 (State.enterShadow s l) := by
  unfold State.enterShadow
  try dsimp only
  repeat' (first
    | with_reducible assumption
    | intro _
    | with_reducible apply State.wr_keeps)

theorem State.beginRejoin_keeps {u0 : State} (s : State) (l : LaneId) (h_s : Keeps u0 s) : Keeps u0 (State.beginRejoin s l) := by
  unfold State.beginRejoin
  try dsimp only
  repeat' (first
    | with_reducible assumption
    | intro _
    | with_reducible apply Keeps.ite
    | with_reducible apply State.wr_keeps
    | with_reducible apply State.requestXfer_keeps
    | split)

theorem State.hearRejoin_keeps {u0 : State} (s : State) (l : LaneId) (h_s : Keeps u0 s) : Keeps u0 (State.hearRejoin s l) := by
  unfold State.hearRejoin
  try dsimp only
  repeat' (first
    | with_reducible assumption
    | intro _
    | with_reducible apply Keeps.ite
    | with_reducible apply State.beginRejoin_keeps
    | split)

theorem State.loadWindings_keeps {u0 : State} (s : State) (l : LaneId) (d : PDesc) (ms : List Nat) (h_s : Keeps u0 s) : Keeps u0 (State.loadWindings s l d ms) := by
  unfold State.loadWindings
  try dsimp only
  repeat' (first
    | with_reducible assumption
    | intro _
    | with_reducible apply State.wrB_keeps
    | with_reducible apply Keeps.foldl)

theorem State.loadXfer_keeps {u0 : State} (s : State) (l : LaneId) (x : StateXfer) (h_s : Keeps u0 s) : Keeps u0 (State.loadXfer s l x) := by
  unfold State.loadXfer
  try dsimp only
  repeat' (first
    | with_reducible assumption
    | intro _
    | with_reducible apply Keeps.iteFst
    | with_reducible apply State.wr_keeps
    | with_reducible apply State.modVot_keeps
    | with_reducible apply State.modLane_keeps
    | with_reducible apply State.wrI_keeps
    | with_reducible apply State.loadWindings_keeps
    | with_reducible apply Keeps.foldl
    | with_reducible apply Keeps.foldlFst)

theorem State.shadowCompute_keeps {u0 : State} (s : State) (l : LaneId) (h_s : Keeps u0 s) : Keeps u0 (State.shadowCompute s l) := by
  unfold State.shadowCompute
  try dsimp only
  repeat' (first
    | with_reducible assumption
    | intro _
    | with_reducible apply Keeps.ite
    | with_reducible apply State.wr_keeps)

theorem State.discardBins_keeps {u0 : State} (s : State) (l : LaneId) (h_s : Keeps u0 s) : Keeps u0 (State.discardBins s l) := by
  unfold State.discardBins
  try dsimp only
  repeat' (first
    | with_reducible assumption
    | intro _
    | with_reducible apply State.wr_keeps
    | with_reducible apply Keeps.foldl)

theorem State.shadowJudge_keeps {u0 : State} (s : State) (l : LaneId) (h_s : Keeps u0 s) : Keeps u0 (State.shadowJudge s l) := by
  unfold State.shadowJudge
  try dsimp only
  repeat' (first
    | with_reducible assumption
    | intro _
    | with_reducible apply Keeps.ite
    | with_reducible apply State.stepFail_keeps
    | with_reducible apply State.wr_keeps)

theorem State.loadRpc_keeps {u0 : State} (s : State) (l : LaneId) (x : RpcXfer) (h_s : Keeps u0 s) : Keeps u0 (State.loadRpc s l x) := by
  unfold State.loadRpc
  try dsimp only
  repeat' (first
    | with_reducible assumption
    | intro _
    | with_reducible apply Keeps.iteFst
    | with_reducible apply State.wr_keeps
    | with_reducible apply State.rpcClear_keeps
    | with_reducible apply State.wrI_keeps
    | with_reducible apply State.wrB_keeps
    | with_reducible apply State.rpcStamp_keeps
    | with_reducible apply Keeps.foldl
    | with_reducible apply Keeps.foldlFst)

theorem State.loadSat_keeps {u0 : State} (s : State) (l : LaneId) (n ms : Nat) (h_s : Keeps u0 s) : Keeps u0 (State.loadSat s l n ms) := by
  unfold State.loadSat
  try dsimp only
  repeat' (first
    | with_reducible assumption
    | intro _
    | with_reducible apply Keeps.ite
    | with_reducible apply State.wr_keeps
    | split)

theorem State.loadLoops_keeps {u0 : State} (s : State) (l : LaneId) (x : LoopXfer) (h_s : Keeps u0 s) : Keeps u0 (State.loadLoops s l x) := by
  unfold State.loadLoops
  try dsimp only
  repeat' (first
    | with_reducible assumption
    | intro _
    | with_reducible apply Keeps.iteFst
    | with_reducible apply State.wr_keeps
    | with_reducible apply State.wrI_keeps
    | with_reducible apply State.loadSat_keeps
    | with_reducible apply State.loadRpc_keeps
    | with_reducible apply Keeps.foldl
    | with_reducible apply Keeps.foldlFst)

theorem State.loadPending_keeps {u0 : State} (s : State) (l : LaneId) (h_s : Keeps u0 s) : Keeps u0 (State.loadPending s l) := by
  unfold State.loadPending
  try dsimp only
  repeat' (first
    | with_reducible assumption
    | intro _
    | with_reducible apply Keeps.ite
    | with_reducible apply State.modLane_keeps
    | with_reducible apply State.loadLoops_keeps
    | split)

theorem State.laneAdmit_keeps {u0 : State} (s : State) (l : LaneId) (m : StaffMsg) (h_s : Keeps u0 s) : Keeps u0 (State.laneAdmit s l m) := by
  unfold State.laneAdmit
  try dsimp only
  repeat' (first
    | with_reducible assumption
    | intro _
    | with_reducible apply Keeps.ite
    | with_reducible apply State.wr_keeps
    | with_reducible apply State.wrBit_keeps
    | with_reducible apply State.entered_keeps
    | split)

theorem State.admitS_keeps {u0 : State} (s : State) (m : StaffMsg) (h_s : Keeps u0 s) : Keeps u0 (State.admitS s m) := by
  unfold State.admitS
  try dsimp only
  repeat' (first
    | with_reducible assumption
    | intro _
    | with_reducible apply Keeps.ite
    | with_reducible apply State.wr_keeps
    | with_reducible apply State.liftS_keeps
    | with_reducible apply State.sAdmit_keeps
    | with_reducible apply State.evalS_keeps
    | split)

theorem State.effRejoin_keeps {u0 : State} (s : State) (l : LaneId) (lane : Nat) (h_s : Keeps u0 s) : Keeps u0 (State.effRejoin s l lane) := by
  unfold State.effRejoin
  try dsimp only
  repeat' (first
    | with_reducible assumption
    | intro _
    | with_reducible apply Keeps.ite
    | with_reducible apply State.wr_keeps
    | with_reducible apply State.servePhase_keeps
    | with_reducible apply State.rejoinDrives_keeps
    | with_reducible apply Keeps.foldl)

theorem State.formS_keeps {u0 : State} (s : State) (ls : List LaneId) (timed : Bool) (h_s : Keeps u0 s) : Keeps u0 (State.formS s ls timed) := by
  unfold State.formS
  try dsimp only
  repeat' (first
    | with_reducible assumption
    | intro _
    | with_reducible apply State.wr_keeps
    | with_reducible apply Keeps.foldl)

theorem State.formCycle_keeps {u0 : State} (s : State) (l : LaneId) (f : ExchFrame) (h_s : Keeps u0 s) : Keeps u0 (State.formCycle s l f) := by
  unfold State.formCycle
  try dsimp only
  repeat' (first
    | with_reducible assumption
    | intro _
    | with_reducible apply Keeps.ite
    | with_reducible apply State.wr_keeps)

theorem State.learnEpoch_keeps {u0 : State} (s : State) (e : Nat) (h_s : Keeps u0 s) : Keeps u0 (State.learnEpoch s e) := by
  unfold State.learnEpoch
  try dsimp only
  repeat' (first
    | with_reducible assumption
    | intro _
    | with_reducible apply Keeps.ite
    | with_reducible apply State.wr_keeps
    | split)

theorem State.keepFrame_keeps {u0 : State} (s : State) (l : LaneId) (f : ExchFrame) (t : Nat) (h_s : Keeps u0 s) : Keeps u0 (State.keepFrame s l f t) := by
  unfold State.keepFrame
  try dsimp only
  repeat' (first
    | with_reducible assumption
    | intro _
    | with_reducible apply State.wr_keeps
    | split
    | with_reducible apply Keeps.upd)

theorem State.frameS_keeps {u0 : State} (s : State) (l : LaneId) (f : ExchFrame) (t : Nat) (h_s : Keeps u0 s) : Keeps u0 (State.frameS s l f t) := by
  unfold State.frameS
  try dsimp only
  repeat' (first
    | with_reducible assumption
    | intro _
    | with_reducible apply Keeps.ite
    | with_reducible apply State.keepFrame_keeps
    | with_reducible apply State.learnEpoch_keeps
    | with_reducible apply State.excludeS_keeps
    | with_reducible apply State.wr_keeps
    | with_reducible apply State.formS_keeps
    | with_reducible apply State.formCycle_keeps
    | with_reducible apply State.send_keeps
    | split)

theorem State.formLane_keeps {u0 : State} (s : State) (l : LaneId) (h_s : Keeps u0 s) : Keeps u0 (State.formLane s l) := by
  unfold State.formLane
  try dsimp only
  repeat' (first
    | with_reducible assumption
    | intro _
    | with_reducible apply Keeps.ite
    | with_reducible apply State.sendStaffAll_keeps
    | with_reducible apply State.wrBit_keeps
    | with_reducible apply State.wr_keeps
    | with_reducible apply Keeps.foldl)

end Sys2Proof.Machine
end

