-- ==== Sys2Proof/Laws/KeepsTowline.lean ====
section
/-! SUPPORT. What every operation of Towline keeps. -/

namespace Sys2Proof.Machine

open Par Var

theorem State.twlClear_keeps {u0 : State} (s : State) (l : LaneId) (h_s : Keeps u0 s) : Keeps u0 (State.twlClear s l) := by
  unfold State.twlClear
  try dsimp only
  repeat' (first
    | with_reducible assumption
    | intro _
    | with_reducible apply State.modLane_keeps
    | with_reducible apply State.wr_keeps
    | with_reducible apply Keeps.foldl)

theorem State.lkgStart_keeps {u0 : State} (s : State) (l : LaneId) (h_s : Keeps u0 s) : Keeps u0 (State.lkgStart s l) := by
  unfold State.lkgStart
  try dsimp only
  repeat' (first
    | with_reducible assumption
    | intro _
    | with_reducible apply Keeps.ite
    | with_reducible apply State.wr_keeps
    | with_reducible apply State.release_keeps
    | with_reducible apply Keeps.foldl)

theorem State.setsInvalid_keeps {u0 : State} (s : State) (l : LaneId) (h_s : Keeps u0 s) : Keeps u0 (State.setsInvalid s l) := by
  unfold State.setsInvalid
  try dsimp only
  repeat' (first
    | with_reducible assumption
    | intro _
    | with_reducible apply Keeps.ite
    | with_reducible apply State.wr_keeps
    | with_reducible apply State.release_keeps
    | with_reducible apply Keeps.foldl)

theorem State.twlListen_keeps {u0 : State} (s : State) (l : LaneId) (h_s : Keeps u0 s) : Keeps u0 (State.twlListen s l) := by
  unfold State.twlListen
  try dsimp only
  repeat' (first
    | with_reducible assumption
    | intro _
    | with_reducible apply Keeps.ite
    | with_reducible apply State.wr_keeps
    | with_reducible apply State.setsInvalid_keeps
    | with_reducible apply State.modLane_keeps
    | with_reducible apply State.twlClear_keeps
    | with_reducible apply Keeps.foldl)

theorem State.nowSynced_keeps {u0 : State} (s : State) (l : LaneId) (h_s : Keeps u0 s) : Keeps u0 (State.nowSynced s l) := by
  unfold State.nowSynced
  try dsimp only
  repeat' (first
    | with_reducible assumption
    | intro _
    | with_reducible apply Keeps.ite
    | with_reducible apply State.wr_keeps
    | with_reducible apply State.hearRejoin_keeps)

theorem State.twlSync_keeps {u0 : State} (s : State) (l : LaneId) (c : Nat) (h_s : Keeps u0 s) : Keeps u0 (State.twlSync s l c) := by
  unfold State.twlSync
  try dsimp only
  repeat' (first
    | with_reducible assumption
    | intro _
    | with_reducible apply State.wr_keeps
    | with_reducible apply State.nowSynced_keeps)

theorem State.twlStart_keeps {u0 : State} (s : State) (l : LaneId) (h_s : Keeps u0 s) : Keeps u0 (State.twlStart s l) := by
  unfold State.twlStart
  try dsimp only
  repeat' (first
    | with_reducible assumption
    | intro _
    | with_reducible apply Keeps.ite
    | with_reducible apply State.wr_keeps
    | with_reducible apply State.nowSynced_keeps
    | with_reducible apply State.twlListen_keeps)

theorem State.twlOff_keeps {u0 : State} (s : State) (l : LaneId) (h_s : Keeps u0 s) : Keeps u0 (State.twlOff s l) := by
  unfold State.twlOff
  try dsimp only
  repeat' (first
    | with_reducible assumption
    | intro _
    | with_reducible apply State.twlListen_keeps
    | with_reducible apply State.wr_keeps)

theorem State.twlTables_keeps {u0 : State} (s : State) (l : LaneId) (h_s : Keeps u0 s) : Keeps u0 (State.twlTables s l) := by
  unfold State.twlTables
  try dsimp only
  repeat' (first
    | with_reducible assumption
    | intro _
    | with_reducible apply Keeps.ite
    | with_reducible apply State.wr_keeps
    | with_reducible apply State.release_keeps
    | with_reducible apply State.twlStart_keeps)

theorem State.lkgHalt_keeps {u0 : State} (s : State) (l : LaneId) (h_s : Keeps u0 s) : Keeps u0 (State.lkgHalt s l) := by
  unfold State.lkgHalt
  try dsimp only
  repeat' (first
    | with_reducible assumption
    | intro _
    | with_reducible apply State.twlOff_keeps
    | with_reducible apply State.wr_keeps)

theorem State.twlLose_keeps {u0 : State} (s : State) (l : LaneId) (cause : Nat) (h_s : Keeps u0 s) : Keeps u0 (State.twlLose s l cause) := by
  unfold State.twlLose
  try dsimp only
  repeat' (first
    | with_reducible assumption
    | intro _
    | with_reducible apply Keeps.ite
    | with_reducible apply State.wr_keeps
    | with_reducible apply State.bump_keeps
    | with_reducible apply State.twlListen_keeps
    | with_reducible apply State.raise_keeps)

theorem State.coldFail_keeps {u0 : State} (s : State) (l : LaneId) (h_s : Keeps u0 s) : Keeps u0 (State.coldFail s l) := by
  unfold State.coldFail
  try dsimp only
  repeat' (first
    | with_reducible assumption
    | intro _
    | with_reducible apply State.bump_keeps
    | with_reducible apply State.wr_keeps
    | with_reducible apply State.twlListen_keeps)

theorem State.twlData_keeps {u0 : State} (s : State) (l : LaneId) (f : TwlFrame) (h_s : Keeps u0 s) : Keeps u0 (State.twlData s l f) := by
  unfold State.twlData
  try dsimp only
  repeat' (first
    | with_reducible assumption
    | intro _
    | with_reducible apply Keeps.ite
    | with_reducible apply State.wr_keeps
    | with_reducible apply State.wrBit_keeps
    | with_reducible apply Keeps.foldl)

theorem State.twlVector_keeps {u0 : State} (s : State) (l : LaneId) (f : TwlFrame) (t : Nat) (h_s : Keeps u0 s) : Keeps u0 (State.twlVector s l f t) := by
  unfold State.twlVector
  try dsimp only
  repeat' (first
    | with_reducible assumption
    | intro _
    | with_reducible apply Keeps.ite
    | with_reducible apply State.modLane_keeps
    | split)

theorem State.integrate_keeps {u0 : State} (s : State) (l : LaneId) (f : TwlFrame) (t : Nat) (h_s : Keeps u0 s) : Keeps u0 (State.integrate s l f t) := by
  unfold State.integrate
  try dsimp only
  repeat' (first
    | with_reducible assumption
    | intro _
    | with_reducible apply State.wr_keeps
    | with_reducible apply State.lkgStart_keeps)

theorem State.twlUse_keeps {u0 : State} (s : State) (l : LaneId) (rail : Nat) (f : TwlFrame) (t : Nat) (h_s : Keeps u0 s) : Keeps u0 (State.twlUse s l rail f t) := by
  unfold State.twlUse
  try dsimp only
  repeat' (first
    | with_reducible assumption
    | intro _
    | with_reducible apply Keeps.ite
    | with_reducible apply Keeps.iteFst
    | with_reducible apply State.twlData_keeps
    | with_reducible apply State.twlVector_keeps
    | with_reducible apply State.modLane_keeps
    | with_reducible apply State.integrate_keeps
    | with_reducible apply State.coldFail_keeps
    | with_reducible apply State.wr_keeps)

theorem State.blockTx_keeps {u0 : State} (s : State) (l : LaneId) (h_s : Keeps u0 s) : Keeps u0 (State.blockTx s l) := by
  unfold State.blockTx
  try dsimp only
  repeat' (first
    | with_reducible assumption
    | intro _
    | with_reducible apply Keeps.ite
    | with_reducible apply State.bump_keeps
    | with_reducible apply State.wr_keeps
    | with_reducible apply State.raise_keeps
    | with_reducible apply State.twlLose_keeps)

theorem State.drive_keeps {u0 : State} (s : State) (l : LaneId) (raw : List Byte) (fail : Nat) (h_s : Keeps u0 s) : Keeps u0 (State.drive s l raw fail) := by
  unfold State.drive
  try dsimp only
  repeat' (first
    | with_reducible assumption
    | intro _
    | with_reducible apply Keeps.ite
    | with_reducible apply State.wrBit_keeps
    | with_reducible apply State.bump_keeps
    | with_reducible apply State.wr_keeps
    | with_reducible apply State.send_keeps
    | with_reducible apply Keeps.foldl)

theorem State.judgeRail_keeps {u0 : State} (s : State) (l : LaneId) (r : Nat) (h_s : Keeps u0 s) : Keeps u0 (State.judgeRail s l r) := by
  unfold State.judgeRail
  try dsimp only
  repeat' (first
    | with_reducible assumption
    | intro _
    | with_reducible apply Keeps.ite
    | with_reducible apply Keeps.iteFst
    | with_reducible apply State.wr_keeps
    | with_reducible apply State.wrBit_keeps)

theorem State.judgeRails_keeps {u0 : State} (s : State) (l : LaneId) (h_s : Keeps u0 s) : Keeps u0 (State.judgeRails s l) := by
  unfold State.judgeRails
  try dsimp only
  repeat' (first
    | with_reducible assumption
    | intro _
    | with_reducible apply Keeps.ite
    | with_reducible apply State.judgeRail_keeps
    | with_reducible apply State.wrBit_keeps
    | with_reducible apply State.raise_keeps
    | with_reducible apply State.release_keeps
    | with_reducible apply Keeps.foldl)

theorem State.offsetCorr_keeps {u0 : State} (s : State) (l : LaneId) (h_s : Keeps u0 s) : Keeps u0 (State.offsetCorr s l).1 := by
  unfold State.offsetCorr
  try dsimp only
  repeat' (first
    | with_reducible assumption
    | intro _
    | with_reducible apply Keeps.ite
    | with_reducible apply Keeps.iteFst
    | with_reducible apply State.wrI_keeps
    | with_reducible apply State.wr_keeps
    | with_reducible apply State.bump_keeps
    | with_reducible apply State.raise_keeps)

theorem State.rateCorr_keeps {u0 : State} (s : State) (l : LaneId) (h_s : Keeps u0 s) : Keeps u0 (State.rateCorr s l) := by
  unfold State.rateCorr
  try dsimp only
  repeat' (first
    | with_reducible assumption
    | intro _
    | with_reducible apply Keeps.ite
    | with_reducible apply Keeps.iteFst
    | with_reducible apply State.wrI_keeps
    | with_reducible apply State.wr_keeps
    | with_reducible apply State.bump_keeps
    | with_reducible apply State.raise_keeps)

theorem State.twlTransit_keeps {u0 : State} (s : State) (l : LaneId) (c : Nat) (h_s : Keeps u0 s) : Keeps u0 (State.twlTransit s l c) := by
  unfold State.twlTransit
  try dsimp only
  repeat' (first
    | with_reducible assumption
    | intro _
    | with_reducible apply Keeps.ite
    | with_reducible apply State.coldFail_keeps
    | with_reducible apply State.twlSync_keeps
    | with_reducible apply State.wrB_keeps
    | with_reducible apply State.twlListen_keeps
    | with_reducible apply State.twlLose_keeps
    | split)

theorem State.rxAges_keeps {u0 : State} (s : State) (l : LaneId) (h_s : Keeps u0 s) : Keeps u0 (State.rxAges s l) := by
  unfold State.rxAges
  try dsimp only
  repeat' (first
    | with_reducible assumption
    | intro _
    | with_reducible apply Keeps.ite
    | with_reducible apply State.wr_keeps
    | with_reducible apply Keeps.foldl)

theorem State.lkgCycle_keeps {u0 : State} (s : State) (l : LaneId) (own : Int) (tapsOk : Bool) (h_s : Keeps u0 s) : Keeps u0 (State.lkgCycle s l own tapsOk) := by
  unfold State.lkgCycle
  try dsimp only
  repeat' (first
    | with_reducible assumption
    | intro _
    | with_reducible apply Keeps.ite
    | with_reducible apply State.wrI_keeps
    | with_reducible apply State.wr_keeps
    | with_reducible apply State.bump_keeps
    | with_reducible apply State.raise_keeps
    | with_reducible apply State.twlLose_keeps)

end Sys2Proof.Machine
end

