-- ==== Sys2Proof/Laws/KeepsFaults.lean ====
section
/-! SUPPORT. What every operation of Faults keeps. -/

namespace Sys2Proof.Machine

open Par Var

theorem State.performTo_keeps {u0 : State} (s : State) (l : LaneId) (h : Hdr) (opcode : Nat) (chk : Option Rsp) (eff : State × Rsp) (h_s : Keeps u0 s) (h_eff : Keeps u0 eff.1) : Keeps u0 (State.performTo s l h opcode chk eff) := by
  unfold State.performTo
  try dsimp only
  repeat' (first
    | with_reducible assumption
    | intro _
    | with_reducible apply Keeps.ite
    | with_reducible apply State.performAt_keeps
    | with_reducible apply State.perform_keeps)

theorem State.sourceAssert_keeps {u0 : State} (s : State) (r src : Nat) (held : Bool) (h_s : Keeps u0 s) : Keeps u0 (State.sourceAssert s r src held) := by
  unfold State.sourceAssert
  try dsimp only
  repeat' (first
    | with_reducible assumption
    | intro _
    | with_reducible apply Keeps.ite
    | with_reducible apply State.lkgHalt_keeps
    | with_reducible apply State.raise_keeps
    | with_reducible apply State.release_keeps
    | split)

theorem State.effLatchClear_keeps {u0 : State} (s : State) (r bits : Nat) (h_s : Keeps u0 s) : Keeps u0 (State.effLatchClear s r bits) := by
  unfold State.effLatchClear
  try dsimp only
  repeat' (first
    | with_reducible assumption
    | intro _
    | with_reducible apply State.unlatch_keeps
    | with_reducible apply Keeps.foldl)

theorem State.effErrClear_keeps {u0 : State} (s : State) (r bits : Nat) (h_s : Keeps u0 s) : Keeps u0 (State.effErrClear s r bits) := by
  unfold State.effErrClear
  try dsimp only
  repeat' (first
    | with_reducible assumption
    | intro _
    | with_reducible apply Keeps.ite
    | with_reducible apply State.recover_keeps
    | with_reducible apply Keeps.foldl)

theorem State.effTrouble_keeps {u0 : State} (s : State) (r : Nat) (value : Bool) (h_s : Keeps u0 s) : Keeps u0 (State.effTrouble s r value) := by
  unfold State.effTrouble
  try dsimp only
  repeat' (first
    | with_reducible assumption
    | intro _
    | with_reducible apply Keeps.ite
    | with_reducible apply State.wr_keeps
    | with_reducible apply Keeps.foldl
    | with_reducible apply Keeps.foldlFst
    | dsimp only
    | split)

end Sys2Proof.Machine
end

