-- ==== Sys2Proof/Laws/KeepsLockstep.lean ====
section
/-! SUPPORT. What every operation of Lockstep keeps. -/

namespace Sys2Proof.Machine

open Par Var

theorem State.mismatchRecord_keeps {u0 : State} (s : State) (l : LaneId) (groups later : List Nat) (tick : Nat) (h_s : Keeps u0 s) : Keeps u0 (State.mismatchRecord s l groups later tick) := by
  unfold State.mismatchRecord
  try dsimp only
  repeat' (first
    | with_reducible assumption
    | intro _
    | with_reducible apply State.wr_keeps
    | with_reducible apply State.bump_keeps
    | with_reducible apply Keeps.foldl)

theorem State.mismatch_keeps {u0 : State} (s : State) (l : LaneId) (groups later : List Nat) (tick : Nat) (h_s : Keeps u0 s) : Keeps u0 (State.mismatch s l groups later tick) := by
  unfold State.mismatch
  try dsimp only
  repeat' (first
    | with_reducible assumption
    | intro _
    | with_reducible apply Keeps.ite
    | with_reducible apply State.wr_keeps
    | with_reducible apply State.mismatchRecord_keeps
    | with_reducible apply State.raise_keeps
    | split)

theorem State.injTest_keeps {u0 : State} (s : State) (l : LaneId) (i : InjRun) (h_s : Keeps u0 s) : Keeps u0 (State.injTest s l i) := by
  unfold State.injTest
  try dsimp only
  repeat' (first
    | with_reducible assumption
    | intro _
    | with_reducible apply Keeps.ite
    | with_reducible apply State.wr_keeps
    | with_reducible apply State.bump_keeps
    | split)

theorem State.startFail_keeps {u0 : State} (s : State) (l : LaneId) (h_s : Keeps u0 s) : Keeps u0 (State.startFail s l) := by
  unfold State.startFail
  try dsimp only
  repeat' (first
    | with_reducible assumption
    | intro _
    | with_reducible apply Keeps.ite
    | with_reducible apply State.wr_keeps
    | with_reducible apply State.raise_keeps
    | split)

theorem State.syncDiff_keeps {u0 : State} (s : State) (l : LaneId) (input t : Nat) (h_s : Keeps u0 s) : Keeps u0 (State.syncDiff s l input t) := by
  unfold State.syncDiff
  try dsimp only
  repeat' (first
    | with_reducible assumption
    | intro _
    | with_reducible apply Keeps.ite
    | with_reducible apply Keeps.iteFst
    | with_reducible apply State.bump_keeps
    | with_reducible apply State.modLane_keeps
    | with_reducible apply State.wr_keeps
    | with_reducible apply State.raise_keeps)

end Sys2Proof.Machine
end

