-- ==== Sys2Proof/Laws/KeepsSelfTest.lean ====
section
/-! SUPPORT. What every operation of SelfTest keeps. -/

namespace Sys2Proof.Machine

open Par Var

theorem State.startRolling_keeps {u0 : State} (s : State) (l : LaneId) (h_s : Keeps u0 s) : Keeps u0 (State.startRolling s l) := by
  unfold State.startRolling
  try dsimp only
  repeat' (first
    | with_reducible assumption
    | intro _
    | with_reducible apply Keeps.ite
    | with_reducible apply State.releaseStaff_keeps
    | with_reducible apply State.setBridge_keeps
    | with_reducible apply State.dropOwn_keeps
    | with_reducible apply State.loseWinding_keeps
    | with_reducible apply State.wr_keeps
    | with_reducible apply State.bump_keeps
    | with_reducible apply Keeps.foldl)

theorem State.effRolling_keeps {u0 : State} (s : State) (l : LaneId) (lane : Nat) (h_s : Keeps u0 s) : Keeps u0 (State.effRolling s l lane) := by
  unfold State.effRolling
  try dsimp only
  repeat' (first
    | with_reducible assumption
    | intro _
    | with_reducible apply Keeps.ite
    | with_reducible apply State.startRolling_keeps)

theorem State.effConverter_keeps {u0 : State} (s : State) (l : LaneId) (mask : Nat) (h_s : Keeps u0 s) : Keeps u0 (State.effConverter s l mask) := by
  unfold State.effConverter
  try dsimp only
  repeat' (first
    | with_reducible assumption
    | intro _
    | with_reducible apply Keeps.ite
    | with_reducible apply State.wr_keeps
    | with_reducible apply Keeps.foldl)

theorem State.failCores_keeps {u0 : State} (s : State) (l : LaneId) (b results : Nat) (h_s : Keeps u0 s) : Keeps u0 (State.failCores s l b results) := by
  unfold State.failCores
  try dsimp only
  repeat' (first
    | with_reducible assumption
    | intro _
    | with_reducible apply Keeps.ite
    | with_reducible apply State.wr_keeps
    | with_reducible apply Keeps.foldl)

theorem State.effComparator_keeps {u0 : State} (s : State) (l : LaneId) (mask : Nat) (fails : List (Nat × Nat)) (h_s : Keeps u0 s) : Keeps u0 (State.effComparator s l mask fails) := by
  unfold State.effComparator
  try dsimp only
  repeat' (first
    | with_reducible assumption
    | intro _
    | with_reducible apply Keeps.ite
    | with_reducible apply State.wr_keeps
    | with_reducible apply State.modLane_keeps
    | with_reducible apply Keeps.foldl
    | split)

theorem State.effInject_keeps {u0 : State} (s : State) (l : LaneId) (region src : Nat) (h_s : Keeps u0 s) : Keeps u0 (State.effInject s l region src) := by
  unfold State.effInject
  try dsimp only
  repeat' (first
    | with_reducible assumption
    | intro _
    | with_reducible apply State.bump_keeps
    | with_reducible apply State.wr_keeps
    | with_reducible apply State.sourceAssert_keeps)

theorem State.writeRecord_keeps {u0 : State} (s : State) (l : LaneId) (body : List Byte) (h_s : Keeps u0 s) : Keeps u0 (State.writeRecord s l body) := by
  unfold State.writeRecord
  try dsimp only
  repeat' (first
    | with_reducible assumption
    | intro _
    | with_reducible apply State.wr_keeps)

theorem State.takeSpares_keeps {u0 : State} (s : State) (l : LaneId) (n : Nat) (h_s : Keeps u0 s) : Keeps u0 (State.takeSpares s l n) := by
  unfold State.takeSpares
  try dsimp only
  repeat' (first
    | with_reducible assumption
    | intro _
    | with_reducible apply State.bumpBy_keeps
    | with_reducible apply State.wr_keeps)

theorem State.endTest_keeps {u0 : State} (s : State) (l : LaneId) (h_s : Keeps u0 s) : Keeps u0 (State.endTest s l) := by
  unfold State.endTest
  try dsimp only
  repeat' (first
    | with_reducible assumption
    | intro _
    | with_reducible apply State.wr_keeps)

theorem State.stopStart_keeps {u0 : State} (s : State) (l : LaneId) (h_s : Keeps u0 s) : Keeps u0 (State.stopStart s l) := by
  unfold State.stopStart
  try dsimp only
  repeat' (first
    | with_reducible assumption
    | intro _
    | with_reducible apply State.endTest_keeps
    | with_reducible apply State.wr_keeps
    | with_reducible apply State.raise_keeps)

theorem State.shutOff_keeps {u0 : State} (s : State) (l : LaneId) (h_s : Keeps u0 s) : Keeps u0 (State.shutOff s l) := by
  unfold State.shutOff
  try dsimp only
  repeat' (first
    | with_reducible assumption
    | intro _
    | with_reducible apply Keeps.ite
    | with_reducible apply State.endTest_keeps
    | with_reducible apply State.wr_keeps
    | with_reducible apply State.bump_keeps
    | with_reducible apply State.raiseEpoch_keeps)

theorem State.bistPassed_keeps {u0 : State} (s : State) (l : LaneId) (kind : Nat) (inj : InjRun) (h_s : Keeps u0 s) : Keeps u0 (State.bistPassed s l kind inj) := by
  unfold State.bistPassed
  try dsimp only
  repeat' (first
    | with_reducible assumption
    | intro _
    | with_reducible apply Keeps.ite
    | with_reducible apply State.resetLane_keeps
    | with_reducible apply State.wr_keeps
    | with_reducible apply State.injTest_keeps
    | with_reducible apply State.endTest_keeps
    | with_reducible apply State.startFail_keeps
    | split)

theorem State.mbistEnd_keeps {u0 : State} (s : State) (l : LaneId) (failing : List Nat) (inj : InjRun) (dur : Nat) (h_s : Keeps u0 s) : Keeps u0 (State.mbistEnd s l failing inj dur) := by
  unfold State.mbistEnd
  try dsimp only
  repeat' (first
    | with_reducible assumption
    | intro _
    | with_reducible apply Keeps.ite
    | with_reducible apply State.takeSpares_keeps
    | with_reducible apply State.writeRecord_keeps
    | with_reducible apply State.bump_keeps
    | with_reducible apply State.shutOff_keeps
    | with_reducible apply State.stopStart_keeps
    | with_reducible apply State.bistPassed_keeps
    | split)

theorem State.endScan_keeps {u0 : State} (s : State) (h_s : Keeps u0 s) : Keeps u0 (State.endScan s) := by
  unfold State.endScan
  try dsimp only
  repeat' (first
    | with_reducible assumption
    | intro _
    | with_reducible apply Keeps.ite
    | with_reducible apply State.wr_keeps
    | with_reducible apply Keeps.foldl)

theorem State.jtag_keeps {u0 : State} (s : State) (sel : Nat) (permitted : Bool) (f : State → State) (h_s : Keeps u0 s) (h_f : ∀ x, Keeps u0 x → Keeps u0 (f x)) : Keeps u0 (State.jtag s sel permitted f) := by
  unfold State.jtag
  try dsimp only
  repeat' (first
    | with_reducible assumption
    | intro _
    | with_reducible apply Keeps.ite
    | with_reducible apply State.endScan_keeps
    | with_reducible apply State.send_keeps
    | apply_assumption)

theorem State.gatesLow_keeps {u0 : State} (s : State) (l : LaneId) (h_s : Keeps u0 s) : Keeps u0 (State.gatesLow s l) := by
  unfold State.gatesLow
  try dsimp only
  repeat' (first
    | with_reducible assumption
    | intro _
    | with_reducible apply State.wr_keeps
    | with_reducible apply Keeps.foldl)

theorem State.resetRegionOf_keeps {u0 : State} (s : State) (r : Nat) (h_s : Keeps u0 s) : Keeps u0 (State.resetRegionOf s r) := by
  unfold State.resetRegionOf
  try dsimp only
  repeat' (first
    | with_reducible assumption
    | intro _
    | with_reducible apply State.resetLane_keeps
    | with_reducible apply State.resetPower_keeps
    | with_reducible apply State.resetM_keeps
    | with_reducible apply State.resetS_keeps
    | split)

theorem State.scanClear_keeps {u0 : State} (s : State) (h_s : Keeps u0 s) : Keeps u0 (State.scanClear s) := by
  unfold State.scanClear
  try dsimp only
  repeat' (first
    | with_reducible assumption
    | intro _
    | with_reducible apply State.wr_keeps
    | with_reducible apply State.bump_keeps
    | split
    | with_reducible apply Keeps.upd)

end Sys2Proof.Machine
end

