-- ==== Sys2Proof/Laws/KeepsPower.lean ====
section
/-! SUPPORT. What every operation of Power keeps. -/

namespace Sys2Proof.Machine

open Par Var

theorem State.clkSet_keeps {u0 : State} (s : State) (l : LaneId) (h_s : Keeps u0 s) : Keeps u0 (State.clkSet s l) := by
  unfold State.clkSet
  try dsimp only
  repeat' (first
    | with_reducible assumption
    | intro _
    | with_reducible apply Keeps.ite
    | with_reducible apply State.wr_keeps
    | with_reducible apply Keeps.foldl)

theorem State.forcedSwitches_keeps {u0 : State} (s : State) (l : LaneId) (h_s : Keeps u0 s) : Keeps u0 (State.forcedSwitches s l) := by
  unfold State.forcedSwitches
  try dsimp only
  repeat' (first
    | with_reducible assumption
    | intro _
    | with_reducible apply State.bumpBy_keeps
    | with_reducible apply State.wr_keeps)

theorem State.powerShared_keeps {u0 : State} (s : State) (h_s : Keeps u0 s) : Keeps u0 (State.powerShared s) := by
  unfold State.powerShared
  try dsimp only
  repeat' (first
    | with_reducible assumption
    | intro _
    | with_reducible apply Keeps.ite
    | with_reducible apply State.wr_keeps
    | with_reducible apply State.raiseEpoch_keeps
    | with_reducible apply Keeps.foldl)

theorem State.supplyUp_keeps {u0 : State} (s : State) (l : LaneId) (h_s : Keeps u0 s) : Keeps u0 (State.supplyUp s l) := by
  unfold State.supplyUp
  try dsimp only
  repeat' (first
    | with_reducible assumption
    | intro _
    | with_reducible apply State.wr_keeps
    | with_reducible apply State.raiseEpoch_keeps
    | with_reducible apply State.powerShared_keeps)

theorem State.coldLane_keeps {u0 : State} (s : State) (l : LaneId) (h_s : Keeps u0 s) : Keeps u0 (State.coldLane s l) := by
  unfold State.coldLane
  try dsimp only
  repeat' (first
    | with_reducible assumption
    | intro _
    | with_reducible apply Keeps.ite
    | with_reducible apply State.resetLane_keeps
    | with_reducible apply State.wr_keeps
    | with_reducible apply Keeps.foldl
    | split)

theorem State.sharedDown_keeps {u0 : State} (s : State) (h_s : Keeps u0 s) : Keeps u0 (State.sharedDown s) := by
  unfold State.sharedDown
  try dsimp only
  repeat' (first
    | with_reducible assumption
    | intro _
    | with_reducible apply Keeps.ite
    | with_reducible apply State.resetM_keeps
    | with_reducible apply State.wr_keeps
    | with_reducible apply State.resetS_keeps)

theorem State.stampChange_keeps {u0 : State} (s : State) (l : LaneId) (done : Bool) (party reason : Nat) (h_s : Keeps u0 s) : Keeps u0 (State.stampChange s l done party reason) := by
  unfold State.stampChange
  try dsimp only
  repeat' (first
    | with_reducible assumption
    | intro _
    | with_reducible apply State.wr_keeps)

theorem State.abortChange_keeps {u0 : State} (s : State) (l : LaneId) (party reason : Nat) (h_s : Keeps u0 s) : Keeps u0 (State.abortChange s l party reason) := by
  unfold State.abortChange
  try dsimp only
  repeat' (first
    | with_reducible assumption
    | intro _
    | with_reducible apply Keeps.ite
    | with_reducible apply State.stampChange_keeps
    | with_reducible apply State.bump_keeps
    | with_reducible apply State.wr_keeps
    | with_reducible apply Keeps.foldl)

theorem State.abortPackage_keeps {u0 : State} (s : State) (l : LaneId) (h_s : Keeps u0 s) : Keeps u0 (State.abortPackage s l) := by
  unfold State.abortPackage
  try dsimp only
  repeat' (first
    | with_reducible assumption
    | intro _
    | with_reducible apply Keeps.ite
    | with_reducible apply State.abortChange_keeps)

theorem State.completeChange_keeps {u0 : State} (s : State) (l : LaneId) (h_s : Keeps u0 s) : Keeps u0 (State.completeChange s l) := by
  unfold State.completeChange
  try dsimp only
  repeat' (first
    | with_reducible assumption
    | intro _
    | with_reducible apply State.stampChange_keeps
    | with_reducible apply State.wr_keeps
    | with_reducible apply State.clkSet_keeps)

theorem State.hsAccepted_keeps {u0 : State} (s : State) (l : LaneId) (h_s : Keeps u0 s) : Keeps u0 (State.hsAccepted s l) := by
  unfold State.hsAccepted
  try dsimp only
  repeat' (first
    | with_reducible assumption
    | intro _
    | with_reducible apply Keeps.ite
    | with_reducible apply State.wr_keeps
    | with_reducible apply State.completeChange_keeps
    | with_reducible apply State.clkSet_keeps
    | with_reducible apply Keeps.foldl)

theorem State.hsAnswer_keeps {u0 : State} (s : State) (l : LaneId) (party : Nat) (a : HsAnswer) (h_s : Keeps u0 s) : Keeps u0 (State.hsAnswer s l party a) := by
  unfold State.hsAnswer
  try dsimp only
  repeat' (first
    | with_reducible assumption
    | intro _
    | with_reducible apply Keeps.ite
    | with_reducible apply State.abortChange_keeps
    | with_reducible apply State.bump_keeps
    | with_reducible apply State.wr_keeps
    | with_reducible apply State.accept_keeps
    | with_reducible apply State.hsAccepted_keeps
    | split)

theorem State.effPower_keeps {u0 : State} (s : State) (l : LaneId) (state point : Nat) (h_s : Keeps u0 s) : Keeps u0 (State.effPower s l state point) := by
  unfold State.effPower
  try dsimp only
  repeat' (first
    | with_reducible assumption
    | intro _
    | with_reducible apply Keeps.ite
    | with_reducible apply State.wr_keeps
    | with_reducible apply State.send_keeps
    | with_reducible apply State.rpcSave_keeps
    | with_reducible apply Keeps.foldl)

theorem State.storeCreep_keeps {u0 : State} (s : State) (l : LaneId) (x : List FbiCh) (h_s : Keeps u0 s) : Keeps u0 (State.storeCreep s l x) := by
  unfold State.storeCreep
  try dsimp only
  repeat' (first
    | with_reducible assumption
    | intro _
    | with_reducible apply Keeps.ite
    | with_reducible apply State.wr_keeps
    | with_reducible apply Keeps.foldl)

theorem State.sharedSleep_keeps {u0 : State} (s : State) (h_s : Keeps u0 s) : Keeps u0 (State.sharedSleep s) := by
  unfold State.sharedSleep
  try dsimp only
  repeat' (first
    | with_reducible assumption
    | intro _
    | with_reducible apply Keeps.ite
    | with_reducible apply State.wr_keeps
    | with_reducible apply State.resetM_keeps
    | with_reducible apply State.resetS_keeps)

theorem State.sleepLane_keeps {u0 : State} (s : State) (l : LaneId) (st : Nat) (h_s : Keeps u0 s) : Keeps u0 (State.sleepLane s l st) := by
  unfold State.sleepLane
  try dsimp only
  repeat' (first
    | with_reducible assumption
    | intro _
    | with_reducible apply Keeps.ite
    | with_reducible apply State.releaseStaff_keeps
    | with_reducible apply State.stampChange_keeps
    | with_reducible apply State.coldLane_keeps
    | with_reducible apply State.wr_keeps
    | with_reducible apply State.modLane_keeps
    | with_reducible apply State.storeCreep_keeps
    | with_reducible apply State.sharedSleep_keeps)

theorem State.powerLatch_keeps {u0 : State} (s : State) (l : LaneId) (h_s : Keeps u0 s) : Keeps u0 (State.powerLatch s l) := by
  unfold State.powerLatch
  try dsimp only
  repeat' (first
    | with_reducible assumption
    | intro _
    | with_reducible apply Keeps.ite
    | with_reducible apply State.abortPackage_keeps
    | with_reducible apply State.sleepLane_keeps)

theorem State.wakeLane_keeps {u0 : State} (s : State) (l : LaneId) (code info : Nat) (h_s : Keeps u0 s) : Keeps u0 (State.wakeLane s l code info) := by
  unfold State.wakeLane
  try dsimp only
  repeat' (first
    | with_reducible assumption
    | intro _
    | with_reducible apply Keeps.ite
    | with_reducible apply State.wr_keeps
    | with_reducible apply State.bump_keeps
    | with_reducible apply State.raiseEpoch_keeps
    | with_reducible apply State.powerShared_keeps
    | with_reducible apply State.send_keeps)

theorem State.putBank_keeps {u0 : State} (s : State) (l : LaneId) (ret : Retained) (bank from' : Nat) (h_s : Keeps u0 s) : Keeps u0 (State.putBank s l ret bank from') := by
  unfold State.putBank
  try dsimp only
  repeat' (first
    | with_reducible assumption
    | intro _
    | with_reducible apply Keeps.ite
    | with_reducible apply Keeps.iteFst
    | with_reducible apply State.modLane_keeps
    | with_reducible apply State.modVot_keeps
    | with_reducible apply Store.wf_put
    | with_reducible apply Store.wf_foldl
    | with_reducible apply Store.wf_filter
    | with_reducible apply Keeps.foldl
    | with_reducible apply Keeps.foldlFst
    | dsimp only
    | split
    | with_reducible apply Keeps.upd)

theorem State.tripAll_keeps {u0 : State} (s : State) (l : LaneId) (h_s : Keeps u0 s) : Keeps u0 (State.tripAll s l) := by
  unfold State.tripAll
  try dsimp only
  repeat' (first
    | with_reducible assumption
    | intro _
    | with_reducible apply Keeps.ite
    | with_reducible apply State.wrBit_keeps
    | with_reducible apply Keeps.foldl)

theorem State.coldGroup_keeps {u0 : State} (s : State) (l : LaneId) (g : Nat) (h_s : Keeps u0 s) : Keeps u0 (State.coldGroup s l g) := by
  unfold State.coldGroup
  try dsimp only
  repeat' (first
    | with_reducible assumption
    | intro _
    | with_reducible apply Keeps.ite
    | with_reducible apply State.srcCommitted_keeps
    | with_reducible apply State.rpcEnable_keeps
    | with_reducible apply State.cenClosed_keeps
    | with_reducible apply State.chConfigured_keeps
    | with_reducible apply Keeps.foldl
    | with_reducible apply Keeps.foldlFst
    | dsimp only
    | split)

theorem State.bankLost_keeps {u0 : State} (s : State) (l : LaneId) (g : Nat) (h_s : Keeps u0 s) : Keeps u0 (State.bankLost s l g) := by
  unfold State.bankLost
  try dsimp only
  repeat' (first
    | with_reducible assumption
    | intro _
    | with_reducible apply State.coldGroup_keeps
    | with_reducible apply State.wr_keeps
    | with_reducible apply State.setVoid_keeps
    | with_reducible apply State.sdcReport_keeps
    | with_reducible apply State.tripAll_keeps
    | split)

theorem State.wakeGroup_keeps {u0 : State} (s : State) (l : LaneId) (keep : Retained) (bad g : Nat) (h_s : Keeps u0 s) : Keeps u0 (State.wakeGroup s l keep bad g) := by
  unfold State.wakeGroup
  try dsimp only
  repeat' (first
    | with_reducible assumption
    | intro _
    | with_reducible apply Keeps.ite
    | with_reducible apply State.putBank_keeps
    | with_reducible apply State.coldGroup_keeps
    | with_reducible apply State.bankLost_keeps
    | split)

theorem State.useRetention_keeps {u0 : State} (s : State) (l : LaneId) (bad : Nat) (h_s : Keeps u0 s) : Keeps u0 (State.useRetention s l bad) := by
  unfold State.useRetention
  try dsimp only
  repeat' (first
    | with_reducible assumption
    | intro _
    | with_reducible apply State.wakeGroup_keeps
    | with_reducible apply State.fbiWake_keeps
    | with_reducible apply State.wr_keeps
    | with_reducible apply State.bumpBy_keeps
    | with_reducible apply State.tell_keeps
    | with_reducible apply Keeps.foldl
    | with_reducible apply Keeps.foldlFst
    | dsimp only
    | split)

end Sys2Proof.Machine
end

