-- ==== Sys2Proof/Laws/KeepsDispatcher.lean ====
section
/-! SUPPORT. What every operation of Dispatcher keeps. -/

namespace Sys2Proof.Machine

open Par Var

theorem State.modTask_keeps {u0 : State} (s : State) (l : LaneId) (n : Nat) (f : FwTask → FwTask) (h_s : Keeps u0 s) : Keeps u0 (State.modTask s l n f) := by
  unfold State.modTask
  try dsimp only
  repeat' (first
    | with_reducible assumption
    | intro _
    | with_reducible apply Keeps.ite
    | with_reducible apply State.modLane_keeps)

theorem State.dptShow_keeps {u0 : State} (s : State) (l : LaneId) (h_s : Keeps u0 s) : Keeps u0 (State.dptShow s l) := by
  unfold State.dptShow
  try dsimp only
  repeat' (first
    | with_reducible assumption
    | intro _
    | with_reducible apply State.wr_keeps
    | with_reducible apply Keeps.foldl)

theorem State.takeCtx_keeps {u0 : State} (s : State) (l : LaneId) (k : FwTask) (h_s : Keeps u0 s) : Keeps u0 (State.takeCtx s l k) := by
  unfold State.takeCtx
  try dsimp only
  repeat' (first
    | with_reducible assumption
    | intro _
    | with_reducible apply Keeps.ite
    | with_reducible apply State.modTask_keeps
    | with_reducible apply State.bump_keeps
    | split)

theorem State.runTask_keeps {u0 : State} (s : State) (l : LaneId) (k : FwTask) (h_s : Keeps u0 s) : Keeps u0 (State.runTask s l k) := by
  unfold State.runTask
  try dsimp only
  repeat' (first
    | with_reducible assumption
    | intro _
    | with_reducible apply State.takeCtx_keeps
    | with_reducible apply State.wr_keeps
    | with_reducible apply State.modTask_keeps)

theorem State.schedule_keeps {u0 : State} (s : State) (l : LaneId) (h_s : Keeps u0 s) : Keeps u0 (State.schedule s l) := by
  unfold State.schedule
  try dsimp only
  repeat' (first
    | with_reducible assumption
    | intro _
    | with_reducible apply Keeps.ite
    | with_reducible apply State.runTask_keeps
    | with_reducible apply State.modTask_keeps
    | with_reducible apply State.dptShow_keeps
    | split)

theorem State.readyTask_keeps {u0 : State} (s : State) (l : LaneId) (n result : Nat) (h_s : Keeps u0 s) : Keeps u0 (State.readyTask s l n result) := by
  unfold State.readyTask
  try dsimp only
  repeat' (first
    | with_reducible assumption
    | intro _
    | with_reducible apply State.modTask_keeps
    | with_reducible apply State.modLane_keeps)

theorem State.cmpMove_keeps {u0 : State} (s : State) (l : LaneId) (h_s : Keeps u0 s) : Keeps u0 (State.cmpMove s l) := by
  unfold State.cmpMove
  try dsimp only
  repeat' (first
    | with_reducible assumption
    | intro _
    | with_reducible apply Keeps.ite
    | with_reducible apply State.modTask_keeps
    | split)

theorem State.waitTask_keeps {u0 : State} (s : State) (l : LaneId) (n : Nat) (events : List Nat) (timeout : Nat) (h_s : Keeps u0 s) : Keeps u0 (State.waitTask s l n events timeout) := by
  unfold State.waitTask
  try dsimp only
  repeat' (first
    | with_reducible assumption
    | intro _
    | with_reducible apply Keeps.ite
    | with_reducible apply State.modTask_keeps
    | with_reducible apply State.readyTask_keeps
    | with_reducible apply State.bump_keeps
    | split)

theorem State.startTasks_keeps {u0 : State} (s : State) (l : LaneId) (ts : List TaskInit) (h_s : Keeps u0 s) : Keeps u0 (State.startTasks s l ts) := by
  unfold State.startTasks
  try dsimp only
  repeat' (first
    | with_reducible assumption
    | intro _
    | with_reducible apply State.modLane_keeps
    | with_reducible apply State.waitTask_keeps
    | with_reducible apply State.schedule_keeps
    | with_reducible apply Keeps.foldl)

theorem State.storeOrder_keeps {u0 : State} (s : State) (l : LaneId) (o : Nat) (ws : List (List Byte)) (h_s : Keeps u0 s) : Keeps u0 (State.storeOrder s l o ws) := by
  unfold State.storeOrder
  try dsimp only
  repeat' (first
    | with_reducible assumption
    | intro _
    | with_reducible apply Keeps.ite
    | with_reducible apply State.modLane_keeps
    | with_reducible apply State.wr_keeps)

theorem State.effOrderLoad_keeps {u0 : State} (s : State) (l : LaneId) (o action : Nat) (d : OrderTrigger) (ws : List Waybill) (h_s : Keeps u0 s) : Keeps u0 (State.effOrderLoad s l o action d ws) := by
  unfold State.effOrderLoad
  try dsimp only
  repeat' (first
    | with_reducible assumption
    | intro _
    | with_reducible apply Keeps.ite
    | with_reducible apply State.storeOrder_keeps
    | with_reducible apply State.wr_keeps
    | split)

theorem State.effOrderStart_keeps {u0 : State} (s : State) (l : LaneId) (o : Nat) (h_s : Keeps u0 s) : Keeps u0 (State.effOrderStart s l o) := by
  unfold State.effOrderStart
  try dsimp only
  repeat' (first
    | with_reducible assumption
    | intro _
    | with_reducible apply Keeps.ite
    | with_reducible apply State.triggerOrder_keeps
    | with_reducible apply State.armOrder_keeps)

theorem State.effOrderStop_keeps {u0 : State} (s : State) (l : LaneId) (o : Nat) (h_s : Keeps u0 s) : Keeps u0 (State.effOrderStop s l o) := by
  unfold State.effOrderStop
  try dsimp only
  repeat' (first
    | with_reducible assumption
    | intro _
    | with_reducible apply State.modLane_keeps
    | with_reducible apply State.wr_keeps)

theorem State.ordersLatch_keeps {u0 : State} (s : State) (l : LaneId) (c : Nat) (h_s : Keeps u0 s) : Keeps u0 (State.ordersLatch s l c) := by
  unfold State.ordersLatch
  try dsimp only
  repeat' (first
    | with_reducible assumption
    | intro _
    | with_reducible apply Keeps.ite
    | with_reducible apply State.triggerOrder_keeps
    | with_reducible apply Keeps.foldl)

theorem State.ordersMissed_keeps {u0 : State} (s : State) (l : LaneId) (c : Nat) (h_s : Keeps u0 s) : Keeps u0 (State.ordersMissed s l c) := by
  unfold State.ordersMissed
  try dsimp only
  repeat' (first
    | with_reducible assumption
    | intro _
    | with_reducible apply Keeps.ite
    | with_reducible apply State.bump_keeps
    | with_reducible apply Keeps.foldl)

theorem State.startRun_keeps {u0 : State} (s : State) (l : LaneId) (o : Nat) (h_s : Keeps u0 s) : Keeps u0 (State.startRun s l o) := by
  unfold State.startRun
  try dsimp only
  repeat' (first
    | with_reducible assumption
    | intro _
    | with_reducible apply State.modLane_keeps
    | with_reducible apply State.wr_keeps
    | with_reducible apply State.bump_keeps)

theorem State.endRun_keeps {u0 : State} (s : State) (l : LaneId) (o : Nat) (h_s : Keeps u0 s) : Keeps u0 (State.endRun s l o) := by
  unfold State.endRun
  try dsimp only
  repeat' (first
    | with_reducible assumption
    | intro _
    | with_reducible apply Keeps.ite
    | with_reducible apply State.modWbe_keeps
    | with_reducible apply State.bumpBy_keeps
    | with_reducible apply State.wr_keeps)

end Sys2Proof.Machine
end

