-- ==== Sys2Proof/Laws/KeepsStart.lean ====
section
/-! SUPPORT. What every operation of Start keeps. -/

namespace Sys2Proof.Machine

open Par Var

theorem State.setSlot_keeps {u0 : State} (s : State) (l : LaneId) (i st : Nat) (h_s : Keeps u0 s) : Keeps u0 (State.setSlot s l i st) := by
  unfold State.setSlot
  try dsimp only
  repeat' (first
    | with_reducible assumption
    | intro _
    | with_reducible apply State.wr_keeps)

theorem State.activate_keeps {u0 : State} (s : State) (l : LaneId) (i : Nat) (h_s : Keeps u0 s) : Keeps u0 (State.activate s l i) := by
  unfold State.activate
  try dsimp only
  repeat' (first
    | with_reducible assumption
    | intro _
    | with_reducible apply State.wr_keeps)

theorem State.bootCheck_keeps {u0 : State} (s : State) (l : LaneId) (images : List (Option Nat)) (h_s : Keeps u0 s) : Keeps u0 (State.bootCheck s l images) := by
  unfold State.bootCheck
  try dsimp only
  repeat' (first
    | with_reducible assumption
    | intro _
    | with_reducible apply Keeps.ite
    | with_reducible apply State.modLane_keeps
    | with_reducible apply State.setSlot_keeps
    | with_reducible apply State.activate_keeps
    | split)

theorem State.rejectTrial_keeps {u0 : State} (s : State) (l : LaneId) (h_s : Keeps u0 s) : Keeps u0 (State.rejectTrial s l) := by
  unfold State.rejectTrial
  try dsimp only
  repeat' (first
    | with_reducible assumption
    | intro _
    | with_reducible apply Keeps.ite
    | with_reducible apply State.setSlot_keeps
    | with_reducible apply State.activate_keeps)

theorem State.confirmTrial_keeps {u0 : State} (s : State) (l : LaneId) (h_s : Keeps u0 s) : Keeps u0 (State.confirmTrial s l) := by
  unfold State.confirmTrial
  try dsimp only
  repeat' (first
    | with_reducible assumption
    | intro _
    | with_reducible apply Keeps.ite
    | with_reducible apply State.setSlot_keeps
    | with_reducible apply State.wr_keeps)

theorem State.restoreCfg_keeps {u0 : State} (s : State) (l : LaneId) (cfgOk : Bool) (h_s : Keeps u0 s) : Keeps u0 (State.restoreCfg s l cfgOk) := by
  unfold State.restoreCfg
  try dsimp only
  repeat' (first
    | with_reducible assumption
    | intro _
    | with_reducible apply Keeps.ite
    | with_reducible apply Keeps.iteFst
    | with_reducible apply Store.wf_put
    | with_reducible apply Store.wf_foldl
    | with_reducible apply Store.wf_filter
    | with_reducible apply Keeps.foldl
    | with_reducible apply Keeps.foldlFst
    | dsimp only
    | split
    | with_reducible apply Keeps.upd)

theorem State.laneStart_keeps {u0 : State} (s : State) (l : LaneId) (o : StartOutcome) (h_s : Keeps u0 s) : Keeps u0 (State.laneStart s l o) := by
  unfold State.laneStart
  try dsimp only
  repeat' (first
    | with_reducible assumption
    | intro _
    | with_reducible apply Keeps.ite
    | with_reducible apply State.injTest_keeps
    | with_reducible apply State.startFail_keeps
    | with_reducible apply State.bootCheck_keeps
    | with_reducible apply State.rejectTrial_keeps
    | with_reducible apply State.wr_keeps
    | with_reducible apply State.restoreCfg_keeps
    | with_reducible apply State.takeDigest_keeps
    | with_reducible apply State.useRetention_keeps
    | with_reducible apply State.coldGroup_keeps
    | with_reducible apply State.startTasks_keeps
    | with_reducible apply State.modLane_keeps
    | with_reducible apply State.send_keeps
    | with_reducible apply Keeps.foldl
    | split)

theorem State.chooseSlot_keeps {u0 : State} (s : State) (l : LaneId) (moved : Bool) (h_s : Keeps u0 s) : Keeps u0 (State.chooseSlot s l moved) := by
  unfold State.chooseSlot
  try dsimp only
  repeat' (first
    | with_reducible assumption
    | intro _
    | with_reducible apply Keeps.ite
    | with_reducible apply Keeps.iteFst
    | with_reducible apply State.setSlot_keeps
    | with_reducible apply State.activate_keeps
    | with_reducible apply State.wr_keeps
    | split)

theorem State.readyDies_keeps {u0 : State} (s : State) (l : LaneId) (h_s : Keeps u0 s) : Keeps u0 (State.readyDies s l) := by
  unfold State.readyDies
  try dsimp only
  repeat' (first
    | with_reducible assumption
    | intro _
    | with_reducible apply State.wr_keeps
    | with_reducible apply State.clkSet_keeps
    | with_reducible apply State.release_keeps)

theorem State.laneReady_keeps {u0 : State} (s : State) (l : LaneId) (h_s : Keeps u0 s) : Keeps u0 (State.laneReady s l) := by
  unfold State.laneReady
  try dsimp only
  repeat' (first
    | with_reducible assumption
    | intro _
    | with_reducible apply Keeps.ite
    | with_reducible apply State.readyDies_keeps
    | with_reducible apply State.wr_keeps
    | with_reducible apply State.twlTables_keeps
    | with_reducible apply State.twlStart_keeps
    | with_reducible apply State.updPin_keeps)

theorem State.sReady_keeps {u0 : State} (s : State) (recordOk creepWake : Bool) (h_s : Keeps u0 s) : Keeps u0 (State.sReady s recordOk creepWake) := by
  unfold State.sReady
  try dsimp only
  repeat' (first
    | with_reducible assumption
    | intro _
    | with_reducible apply Keeps.ite
    | with_reducible apply State.wr_keeps
    | with_reducible apply State.updPin_keeps)

theorem State.mReady_keeps {u0 : State} (s : State) (h_s : Keeps u0 s) : Keeps u0 (State.mReady s) := by
  unfold State.mReady
  try dsimp only
  repeat' (first
    | with_reducible assumption
    | intro _
    | with_reducible apply Keeps.ite
    | with_reducible apply State.wr_keeps
    | with_reducible apply State.bump_keeps)

end Sys2Proof.Machine
end

