-- ==== Sys2Proof/Laws/KeepsStation.lean ====
section
/-! SUPPORT. What every operation of Station keeps. -/

namespace Sys2Proof.Machine

open Par Var

theorem State.modM_keeps {u0 : State} (s : State) (f : MDie → MDie) (h_s : Keeps u0 s) : Keeps u0 (State.modM s f) := by
  unfold State.modM
  try dsimp only
  repeat' (first
    | with_reducible assumption
    | intro _
    | split
    | with_reducible apply Keeps.upd)

theorem State.logAppend_keeps {u0 : State} (s : State) (region kind code cycle : Nat) (data : List Byte) (h_s : Keeps u0 s) : Keeps u0 (State.logAppend s region kind code cycle data) := by
  unfold State.logAppend
  try dsimp only
  repeat' (first
    | with_reducible assumption
    | intro _
    | with_reducible apply State.modM_keeps
    | with_reducible apply State.wr_keeps)

theorem State.serviceReply_keeps {u0 : State} (s : State) (src opcode seq : Nat) (r : Rsp) (h_s : Keeps u0 s) : Keeps u0 (State.serviceReply s src opcode seq r) := by
  unfold State.serviceReply
  try dsimp only
  repeat' (first
    | with_reducible assumption
    | intro _
    | with_reducible apply State.send_keeps)

theorem State.performM_keeps {u0 : State} (s : State) (o : UpdSource) (h : Hdr) (opcode : Nat) (chk : Option Rsp) (eff : State × Rsp) (h_s : Keeps u0 s) (h_eff : Keeps u0 eff.1) : Keeps u0 (State.performM s o h opcode chk eff) := by
  unfold State.performM
  try dsimp only
  repeat' (first
    | with_reducible assumption
    | intro _
    | with_reducible apply Keeps.ite
    | with_reducible apply Keeps.iteFst
    | with_reducible apply State.whenHost_keeps
    | with_reducible apply State.performAt_keeps
    | with_reducible apply State.whenM_keeps
    | with_reducible apply State.serviceReply_keeps
    | split)

theorem State.dropSession_keeps {u0 : State} (s : State) (h_s : Keeps u0 s) : Keeps u0 (State.dropSession s) := by
  unfold State.dropSession
  try dsimp only
  repeat' (first
    | with_reducible assumption
    | intro _
    | with_reducible apply State.modM_keeps
    | with_reducible apply State.wr_keeps)

theorem State.effBegin_keeps {u0 : State} (s : State) (o : UpdSource) (total : Nat) (h_s : Keeps u0 s) : Keeps u0 (State.effBegin s o total) := by
  unfold State.effBegin
  try dsimp only
  repeat' (first
    | with_reducible assumption
    | intro _
    | with_reducible apply State.modM_keeps
    | with_reducible apply State.wr_keeps)

theorem State.effChunk_keeps {u0 : State} (s : State) (data : List Byte) (h_s : Keeps u0 s) : Keeps u0 (State.effChunk s data) := by
  unfold State.effChunk
  try dsimp only
  repeat' (first
    | with_reducible assumption
    | intro _
    | with_reducible apply State.modM_keeps
    | with_reducible apply State.wr_keeps)

theorem State.setLaneUpd_keeps {u0 : State} (s : State) (l : LaneId) (v : Nat) (h_s : Keeps u0 s) : Keeps u0 (State.setLaneUpd s l v) := by
  unfold State.setLaneUpd
  try dsimp only
  repeat' (first
    | with_reducible assumption
    | intro _
    | with_reducible apply State.wr_keeps)

theorem State.sendImages_keeps {u0 : State} (s : State) (x : List Byte) (h_s : Keeps u0 s) : Keeps u0 (State.sendImages s x) := by
  unfold State.sendImages
  try dsimp only
  repeat' (first
    | with_reducible assumption
    | intro _
    | with_reducible apply Keeps.ite
    | with_reducible apply State.setLaneUpd_keeps
    | with_reducible apply State.send_keeps
    | with_reducible apply State.wr_keeps
    | with_reducible apply Keeps.foldl)

theorem State.verifyDone_keeps {u0 : State} (s : State) (h_s : Keeps u0 s) : Keeps u0 (State.verifyDone s) := by
  unfold State.verifyDone
  try dsimp only
  repeat' (first
    | with_reducible assumption
    | intro _
    | with_reducible apply Keeps.iteFst
    | with_reducible apply State.wr_keeps
    | with_reducible apply State.raise_keeps
    | with_reducible apply State.logAppend_keeps
    | with_reducible apply State.modM_keeps
    | with_reducible apply State.sendImages_keeps
    | split)

theorem State.laneVerdict_keeps {u0 : State} (s : State) (l : LaneId) (ok : Bool) (h_s : Keeps u0 s) : Keeps u0 (State.laneVerdict s l ok) := by
  unfold State.laneVerdict
  try dsimp only
  repeat' (first
    | with_reducible assumption
    | intro _
    | with_reducible apply Keeps.ite
    | with_reducible apply State.setLaneUpd_keeps
    | with_reducible apply State.wr_keeps)

theorem State.installImage_keeps {u0 : State} (s : State) (l : LaneId) (x : List Byte) (readBackOk : Bool) (h_s : Keeps u0 s) : Keeps u0 (State.installImage s l x readBackOk) := by
  unfold State.installImage
  try dsimp only
  repeat' (first
    | with_reducible assumption
    | intro _
    | with_reducible apply Keeps.ite
    | with_reducible apply State.setSlot_keeps
    | with_reducible apply State.modLane_keeps
    | with_reducible apply State.send_keeps
    | with_reducible apply State.laneVerdict_keeps)

theorem State.reserveLeaf_keeps {u0 : State} (s : State) (h_s : Keeps u0 s) : Keeps u0 (State.reserveLeaf s) := by
  unfold State.reserveLeaf
  try dsimp only
  repeat' (first
    | with_reducible assumption
    | intro _
    | with_reducible apply Keeps.ite
    | with_reducible apply State.wr_keeps)

theorem State.effAttestNew_keeps {u0 : State} (s : State) (nonce : List Byte) (h_s : Keeps u0 s) : Keeps u0 (State.effAttestNew s nonce) := by
  unfold State.effAttestNew
  try dsimp only
  repeat' (first
    | with_reducible assumption
    | intro _
    | with_reducible apply Keeps.ite
    | with_reducible apply State.reserveLeaf_keeps
    | with_reducible apply State.wr_keeps
    | with_reducible apply State.modM_keeps
    | with_reducible apply State.raise_keeps)

theorem State.effApply_keeps {u0 : State} (s : State) (h_s : Keeps u0 s) : Keeps u0 (State.effApply s) := by
  unfold State.effApply
  try dsimp only
  repeat' (first
    | with_reducible assumption
    | intro _
    | with_reducible apply Keeps.ite
    | with_reducible apply State.modM_keeps
    | with_reducible apply State.wr_keeps
    | with_reducible apply State.logAppend_keeps)

theorem State.modPort_keeps {u0 : State} (s : State) (c : Nat) (f : TagPort → TagPort) (h_s : Keeps u0 s) : Keeps u0 (State.modPort s c f) := by
  unfold State.modPort
  try dsimp only
  repeat' (first
    | with_reducible assumption
    | intro _
    | with_reducible apply State.modM_keeps)

theorem State.tagStep_keeps {u0 : State} (s : State) (c : Nat) (h_s : Keeps u0 s) : Keeps u0 (State.tagStep s c) := by
  unfold State.tagStep
  try dsimp only
  repeat' (first
    | with_reducible assumption
    | intro _
    | with_reducible apply State.send_keeps
    | split)

theorem State.sendReports_keeps {u0 : State} (s : State) (h_s : Keeps u0 s) : Keeps u0 (State.sendReports s) := by
  unfold State.sendReports
  try dsimp only
  repeat' (first
    | with_reducible assumption
    | intro _
    | with_reducible apply State.send_keeps
    | with_reducible apply Keeps.foldl)

theorem State.portState_keeps {u0 : State} (s : State) (c st : Nat) (h_s : Keeps u0 s) : Keeps u0 (State.portState s c st) := by
  unfold State.portState
  try dsimp only
  repeat' (first
    | with_reducible assumption
    | intro _
    | with_reducible apply Keeps.ite
    | with_reducible apply State.wr_keeps
    | with_reducible apply State.raise_keeps
    | with_reducible apply State.release_keeps
    | with_reducible apply State.sendReports_keeps)

theorem State.tagRetry_keeps {u0 : State} (s : State) (c : Nat) (h_s : Keeps u0 s) : Keeps u0 (State.tagRetry s c) := by
  unfold State.tagRetry
  try dsimp only
  repeat' (first
    | with_reducible assumption
    | intro _
    | with_reducible apply Keeps.ite
    | with_reducible apply State.wr_keeps
    | with_reducible apply State.raise_keeps
    | with_reducible apply State.portState_keeps
    | with_reducible apply State.tagStep_keeps)

theorem State.putMirror_keeps {u0 : State} (s : State) (r : CartRec) (h_s : Keeps u0 s) : Keeps u0 (State.putMirror s r) := by
  unfold State.putMirror
  try dsimp only
  repeat' (first
    | with_reducible assumption
    | intro _
    | with_reducible apply State.modM_keeps)

theorem State.showLife_keeps {u0 : State} (s : State) (c : Nat) (r : CartRec) (h_s : Keeps u0 s) : Keeps u0 (State.showLife s c r) := by
  unfold State.showLife
  try dsimp only
  repeat' (first
    | with_reducible assumption
    | intro _
    | with_reducible apply Keeps.ite
    | with_reducible apply State.wr_keeps
    | with_reducible apply State.raise_keeps
    | with_reducible apply Keeps.foldl)

theorem State.mergeLife_keeps {u0 : State} (s : State) (c serial : Nat) (tag budgets : List Nat) (h_s : Keeps u0 s) : Keeps u0 (State.mergeLife s c serial tag budgets) := by
  unfold State.mergeLife
  try dsimp only
  repeat' (first
    | with_reducible assumption
    | intro _
    | with_reducible apply Keeps.ite
    | with_reducible apply State.putMirror_keeps
    | with_reducible apply State.showLife_keeps
    | with_reducible apply State.modPort_keeps
    | with_reducible apply State.wr_keeps
    | with_reducible apply State.tagStep_keeps)

theorem State.tagManifest_keeps {u0 : State} (s : State) (c : Nat) (man : List Byte) (h_s : Keeps u0 s) : Keeps u0 (State.tagManifest s c man) := by
  unfold State.tagManifest
  try dsimp only
  repeat' (first
    | with_reducible assumption
    | intro _
    | with_reducible apply Keeps.ite
    | with_reducible apply State.modPort_keeps
    | with_reducible apply State.wr_keeps
    | with_reducible apply State.tagStep_keeps
    | with_reducible apply State.portState_keeps
    | with_reducible apply Keeps.draw)

theorem State.tagChallenge_keeps {u0 : State} (s : State) (c : Nat) (ans : List Byte) (h_s : Keeps u0 s) : Keeps u0 (State.tagChallenge s c ans) := by
  unfold State.tagChallenge
  try dsimp only
  repeat' (first
    | with_reducible assumption
    | intro _
    | with_reducible apply Keeps.ite
    | with_reducible apply State.portState_keeps
    | with_reducible apply State.mergeLife_keeps)

theorem State.lifeCycle_keeps {u0 : State} (s : State) (l : LaneId) (h_s : Keeps u0 s) : Keeps u0 (State.lifeCycle s l) := by
  unfold State.lifeCycle
  try dsimp only
  repeat' (first
    | with_reducible assumption
    | intro _
    | with_reducible apply Keeps.ite
    | with_reducible apply State.putMirror_keeps
    | with_reducible apply State.showLife_keeps
    | with_reducible apply State.wr_keeps
    | with_reducible apply Keeps.foldl
    | with_reducible apply Keeps.foldlFst
    | dsimp only
    | with_reducible apply Keeps.draw
    | split)

theorem State.cartCycle_keeps {u0 : State} (s : State) (l : LaneId) (h_s : Keeps u0 s) : Keeps u0 (State.cartCycle s l) := by
  unfold State.cartCycle
  try dsimp only
  repeat' (first
    | with_reducible assumption
    | intro _
    | with_reducible apply Keeps.ite
    | with_reducible apply Keeps.iteFst
    | with_reducible apply State.wr_keeps
    | with_reducible apply State.modLane_keeps
    | with_reducible apply Keeps.foldl
    | with_reducible apply Keeps.foldlFst
    | dsimp only
    | split)

end Sys2Proof.Machine
end

