-- ==== Sys2Proof/Laws/KeepsWrite.lean ====
section
/-! SUPPORT. What every operation of Write keeps. -/

namespace Sys2Proof.Machine

open Par Var

theorem State.putAll_keeps {u0 : State} (s : State) (ws : List PWrite) (h_s : Keeps u0 s) : Keeps u0 (State.putAll s ws) := by
  unfold State.putAll
  try dsimp only
  repeat' (first
    | with_reducible assumption
    | intro _
    | with_reducible apply Keeps.ite
    | with_reducible apply Store.wf_put
    | with_reducible apply Store.wf_foldl
    | with_reducible apply Store.wf_filter
    | with_reducible apply Keeps.foldl
    | with_reducible apply Keeps.foldlFst
    | dsimp only
    | split
    | with_reducible apply Keeps.upd)

theorem State.locksTake_keeps {u0 : State} (s : State) (owner : Nat) (us : List (Nat × Nat)) (h_s : Keeps u0 s) : Keeps u0 (State.locksTake s owner us).1 := by
  unfold State.locksTake
  try dsimp only
  repeat' (first
    | with_reducible assumption
    | intro _
    | with_reducible apply Keeps.ite
    | with_reducible apply Keeps.iteFst
    | with_reducible apply State.lockTake_keeps
    | with_reducible apply Keeps.foldl
    | with_reducible apply Keeps.foldlFst)

theorem State.applySpecial_keeps {u0 : State} (s : State) (l : LaneId) (w : PWrite) (h_s : Keeps u0 s) : Keeps u0 (State.applySpecial s l w) := by
  unfold State.applySpecial
  try dsimp only
  repeat' (first
    | with_reducible assumption
    | intro _
    | with_reducible apply Keeps.ite
    | with_reducible apply Keeps.iteFst
    | with_reducible apply State.effLatchClear_keeps
    | with_reducible apply State.effErrClear_keeps
    | with_reducible apply State.wr_keeps
    | with_reducible apply State.latchWrite_keeps
    | with_reducible apply State.clearFaults_keeps
    | with_reducible apply State.secClear_keeps
    | with_reducible apply State.effTrouble_keeps
    | with_reducible apply State.lockHold_keeps
    | with_reducible apply State.lockRollback_keeps
    | with_reducible apply Keeps.foldl
    | with_reducible apply Keeps.foldlFst
    | split
    | (refine Keeps.upd ?_ (Store.wf_put _ _))
    | (refine Keeps.upd ?_ (Store.wf_foldl _ (fun _ _ h => Store.wf_put _ _ h) _ _))
    | (refine Keeps.upd ?_ id))

theorem State.applyOne_keeps {u0 : State} (s : State) (l : LaneId) (w : PWrite) (h_s : Keeps u0 s) : Keeps u0 (State.applyOne s l w) := by
  unfold State.applyOne
  try dsimp only
  repeat' (first
    | with_reducible assumption
    | intro _
    | with_reducible apply Keeps.ite
    | with_reducible apply State.putAll_keeps
    | with_reducible apply State.applySpecial_keeps
    | split)

theorem State.cenCommitted_keeps {u0 : State} (s0 s : State) (l : LaneId) (ks : List PKey) (h_s : Keeps u0 s) : Keeps u0 (State.cenCommitted s0 s l ks) := by
  unfold State.cenCommitted
  try dsimp only
  repeat' (first
    | with_reducible assumption
    | intro _
    | with_reducible apply Keeps.ite
    | with_reducible apply State.cenOpened_keeps
    | with_reducible apply State.cenClosed_keeps
    | with_reducible apply Keeps.foldl)

theorem State.rpcCommitted_keeps {u0 : State} (s0 s : State) (l : LaneId) (ks : List PKey) (h_s0 : Keeps u0 s0) (h_s : Keeps u0 s) : Keeps u0 (State.rpcCommitted s0 s l ks) := by
  unfold State.rpcCommitted
  try dsimp only
  repeat' (first
    | with_reducible assumption
    | intro _
    | with_reducible apply Keeps.ite
    | with_reducible apply State.wr_keeps
    | with_reducible apply State.rpcStamp_keeps
    | with_reducible apply State.rpcEnable_keeps
    | with_reducible apply State.rpcDisable_keeps
    | with_reducible apply State.rpcFadeLen_keeps
    | with_reducible apply State.rpcCommand_keeps
    | with_reducible apply Keeps.foldl
    | split)

theorem State.spiCommitted_keeps {u0 : State} (s0 s : State) (l : LaneId) (h_s0 : Keeps u0 s0) (h_s : Keeps u0 s) : Keeps u0 (State.spiCommitted s0 s l) := by
  unfold State.spiCommitted
  try dsimp only
  repeat' (first
    | with_reducible assumption
    | intro _
    | with_reducible apply Keeps.ite
    | with_reducible apply State.modHst_keeps
    | with_reducible apply State.modWbe_keeps
    | split)

theorem State.twlCommitted_keeps {u0 : State} (s0 s : State) (l : LaneId) (h_s : Keeps u0 s) : Keeps u0 (State.twlCommitted s0 s l) := by
  unfold State.twlCommitted
  try dsimp only
  repeat' (first
    | with_reducible assumption
    | intro _
    | with_reducible apply Keeps.ite
    | with_reducible apply State.twlTables_keeps
    | with_reducible apply State.twlStart_keeps
    | with_reducible apply State.twlOff_keeps)

theorem State.archiveSet_keeps {u0 : State} (s : State) (l : LaneId) (h_s : Keeps u0 s) : Keeps u0 (State.archiveSet s l) := by
  unfold State.archiveSet
  try dsimp only
  repeat' (first
    | with_reducible assumption
    | intro _
    | with_reducible apply Keeps.ite
    | with_reducible apply Keeps.iteFst
    | with_reducible apply State.modM_keeps
    | split)

theorem State.announceCrcs_keeps {u0 : State} (s : State) (l : LaneId) (ks : List PKey) (h_s : Keeps u0 s) : Keeps u0 (State.announceCrcs s l ks) := by
  unfold State.announceCrcs
  try dsimp only
  repeat' (first
    | with_reducible assumption
    | intro _
    | with_reducible apply Keeps.ite
    | with_reducible apply State.send_keeps
    | with_reducible apply Keeps.foldl
    | split)

theorem State.calCommitted_keeps {u0 : State} (s0 s : State) (l : LaneId) (h_s0 : Keeps u0 s0) (h_s : Keeps u0 s) : Keeps u0 (State.calCommitted s0 s l) := by
  unfold State.calCommitted
  try dsimp only
  repeat' (first
    | with_reducible assumption
    | intro _
    | with_reducible apply Keeps.ite
    | with_reducible apply State.wr_keeps
    | with_reducible apply State.holdCal_keeps
    | with_reducible apply Keeps.foldl
    | split)

theorem State.trackCommitted_keeps {u0 : State} (s0 s : State) (l : LaneId) (ks : List PKey) (h_s0 : Keeps u0 s0) (h_s : Keeps u0 s) : Keeps u0 (State.trackCommitted s0 s l ks) := by
  unfold State.trackCommitted
  try dsimp only
  repeat' (first
    | with_reducible assumption
    | intro _
    | with_reducible apply Keeps.ite
    | with_reducible apply State.trackRestart_keeps
    | with_reducible apply Keeps.foldl
    | split)

theorem State.cmtCommitted_keeps {u0 : State} (s0 s : State) (l : LaneId) (ks : List PKey) (h_s0 : Keeps u0 s0) (h_s : Keeps u0 s) : Keeps u0 (State.cmtCommitted s0 s l ks) := by
  unfold State.cmtCommitted
  try dsimp only
  repeat' (first
    | with_reducible assumption
    | intro _
    | with_reducible apply Keeps.ite
    | with_reducible apply Keeps.iteFst
    | with_reducible apply State.modLane_keeps
    | with_reducible apply Keeps.foldl
    | with_reducible apply Keeps.foldlFst
    | split)

theorem State.committed_keeps {u0 : State} (s0 s : State) (l : LaneId) (region : Nat) (ks : List PKey) (h_s0 : Keeps u0 s0) (h_s : Keeps u0 s) : Keeps u0 (State.committed s0 s l region ks) := by
  unfold State.committed
  try dsimp only
  repeat' (first
    | with_reducible assumption
    | intro _
    | with_reducible apply Keeps.ite
    | with_reducible apply State.updPin_keeps
    | with_reducible apply State.evalS_keeps
    | with_reducible apply State.sendReports_keeps
    | with_reducible apply State.rpcCommitted_keeps
    | with_reducible apply State.cenCommitted_keeps
    | with_reducible apply State.chConfigured_keeps
    | with_reducible apply State.srcCommitted_keeps
    | with_reducible apply State.voteFall_keeps
    | with_reducible apply State.spiCommitted_keeps
    | with_reducible apply State.twlCommitted_keeps
    | with_reducible apply State.clkSet_keeps
    | with_reducible apply State.cmtCommitted_keeps
    | with_reducible apply State.trackCommitted_keeps
    | with_reducible apply State.calCommitted_keeps
    | with_reducible apply State.announceCrcs_keeps
    | with_reducible apply State.takeDigest_keeps
    | with_reducible apply State.archiveSet_keeps
    | with_reducible apply Keeps.foldl
    | split)

theorem State.applyWrites_keeps {u0 : State} (s : State) (l : LaneId) (epoch region : Nat) (ws : List PWrite) (h_s : Keeps u0 s) : Keeps u0 (State.applyWrites s l epoch region ws).1 := by
  unfold State.applyWrites
  try dsimp only
  repeat' (first
    | with_reducible assumption
    | intro _
    | with_reducible apply Keeps.ite
    | with_reducible apply Keeps.iteFst
    | with_reducible apply State.locksTake_keeps
    | with_reducible apply State.fence_keeps
    | with_reducible apply State.putAll_keeps
    | with_reducible apply State.journalAdd_keeps
    | with_reducible apply State.lockHold_keeps
    | with_reducible apply State.applyOne_keeps
    | with_reducible apply State.committed_keeps
    | with_reducible apply State.lockRelease_keeps
    | with_reducible apply Keeps.foldl
    | with_reducible apply Keeps.foldlFst
    | split)

theorem State.noteLocked_keeps {u0 : State} (s : State) (region : Nat) (c : Option Rsp) (h_s : Keeps u0 s) : Keeps u0 (State.noteLocked s region c) := by
  unfold State.noteLocked
  try dsimp only
  repeat' (first
    | with_reducible assumption
    | intro _
    | with_reducible apply Keeps.ite
    | with_reducible apply State.countLocked_keeps
    | split)

theorem State.clearRead_keeps {u0 : State} (s : State) (k : PKey) (h_s : Keeps u0 s) : Keeps u0 (State.clearRead s k) := by
  unfold State.clearRead
  try dsimp only
  repeat' (first
    | with_reducible assumption
    | intro _
    | with_reducible apply Keeps.ite
    | with_reducible apply Store.wf_put
    | with_reducible apply Store.wf_foldl
    | with_reducible apply Store.wf_filter
    | split
    | with_reducible apply Keeps.upd)

theorem State.getItems_keeps {u0 : State} (s : State) (n : Nat) (xs : List PKey) (h : Keeps u0 s) : Keeps u0 (State.getItems s n xs).1 := by
  induction xs generalizing s n with
  | nil => exact h
  | cons k ks ih =>
    unfold State.getItems
    try dsimp only
    repeat' (first
      | with_reducible assumption
      | intro _
      | with_reducible apply ih
      | with_reducible apply Keeps.ite
      | with_reducible apply Keeps.iteFst
      | with_reducible apply State.clearRead_keeps)

theorem State.effGet_keeps {u0 : State} (s : State) (ids : List Nat) (h_s : Keeps u0 s) : Keeps u0 (State.effGet s ids).1 := by
  unfold State.effGet
  try dsimp only
  repeat' (first
    | with_reducible assumption
    | intro _
    | with_reducible apply Keeps.iteFst
    | with_reducible apply State.getItems_keeps
    | with_reducible apply Keeps.draw)

end Sys2Proof.Machine
end

