-- ==== Sys2Proof/Laws/KeepsConsists.lean ====
section
/-! SUPPORT. What every operation of Consists keeps. -/

namespace Sys2Proof.Machine

open Par Var

theorem State.modConsist_keeps {u0 : State} (s : State) (l : LaneId) (p : Port) (id : Nat) (f : Consist → Consist) (h_s : Keeps u0 s) : Keeps u0 (State.modConsist s l p id f) := by
  unfold State.modConsist
  try dsimp only
  repeat' (first
    | with_reducible assumption
    | intro _
    | with_reducible apply Keeps.ite
    | with_reducible apply State.modWbe_keeps)

theorem State.closeConsist_keeps {u0 : State} (s : State) (l : LaneId) (c : Consist) (h_s : Keeps u0 s) : Keeps u0 (State.closeConsist s l c) := by
  unfold State.closeConsist
  try dsimp only
  repeat' (first
    | with_reducible assumption
    | intro _
    | with_reducible apply State.modWbe_keeps)

theorem State.releaseLocks_keeps {u0 : State} (s : State) (c : Consist) (h_s : Keeps u0 s) : Keeps u0 (State.releaseLocks s c) := by
  unfold State.releaseLocks
  try dsimp only
  repeat' (first
    | with_reducible assumption
    | intro _
    | with_reducible apply Keeps.iteFst
    | with_reducible apply State.lockRelease_keeps
    | with_reducible apply Keeps.foldl)

theorem State.dropConsist_keeps {u0 : State} (s : State) (l : LaneId) (c : Consist) (h_s : Keeps u0 s) : Keeps u0 (State.dropConsist s l c) := by
  unfold State.dropConsist
  try dsimp only
  repeat' (first
    | with_reducible assumption
    | intro _
    | with_reducible apply State.closeConsist_keeps
    | with_reducible apply State.releaseLocks_keeps
    | with_reducible apply State.bump_keeps)

theorem State.answerMembers_keeps {u0 : State} (s : State) (l : LaneId) (c : Consist) (r : Rsp) (h_s : Keeps u0 s) : Keeps u0 (State.answerMembers s l c r) := by
  unfold State.answerMembers
  try dsimp only
  repeat' (first
    | with_reducible assumption
    | intro _
    | with_reducible apply State.answer_keeps
    | with_reducible apply Keeps.foldl)

theorem State.failConsist_keeps {u0 : State} (s : State) (l : LaneId) (c : Consist) (r : Rsp) (h_s : Keeps u0 s) : Keeps u0 (State.failConsist s l c r) := by
  unfold State.failConsist
  try dsimp only
  repeat' (first
    | with_reducible assumption
    | intro _
    | with_reducible apply State.dropConsist_keeps
    | with_reducible apply State.answerMembers_keeps)

theorem State.markFailed_keeps {u0 : State} (s : State) (l : LaneId) (h : Hdr) (opcode : Nat) (r : Rsp) (h_s : Keeps u0 s) : Keeps u0 (State.markFailed s l h opcode r) := by
  unfold State.markFailed
  try dsimp only
  repeat' (first
    | with_reducible assumption
    | intro _
    | with_reducible apply Keeps.ite
    | with_reducible apply State.modConsist_keeps
    | with_reducible apply State.modWbe_keeps
    | split)

theorem State.stageAt_keeps {u0 : State} (s : State) (l : LaneId) (epoch : Nat) (items : List Item) (h_s : Keeps u0 s) : Keeps u0 (State.stageAt s l epoch items).1 := by
  unfold State.stageAt
  try dsimp only
  repeat' (first
    | with_reducible assumption
    | intro _
    | with_reducible apply Keeps.ite
    | with_reducible apply Keeps.iteFst
    | with_reducible apply State.locksTake_keeps
    | with_reducible apply State.fence_keeps
    | split)

theorem State.addMember_keeps {u0 : State} (s : State) (l : LaneId) (h : Hdr) (items : List Item) (h_s : Keeps u0 s) : Keeps u0 (State.addMember s l h items) := by
  unfold State.addMember
  try dsimp only
  repeat' (first
    | with_reducible assumption
    | intro _
    | with_reducible apply Keeps.ite
    | with_reducible apply State.modConsist_keeps
    | with_reducible apply State.modWbe_keeps
    | split)

theorem State.dropMember_keeps {u0 : State} (s : State) (l : LaneId) (h : Hdr) (h_s : Keeps u0 s) : Keeps u0 (State.dropMember s l h) := by
  unfold State.dropMember
  try dsimp only
  repeat' (first
    | with_reducible assumption
    | intro _
    | with_reducible apply State.modConsist_keeps
    | split)

theorem State.stage_keeps {u0 : State} (s : State) (l : LaneId) (h : Hdr) (items : List Item) (h_s : Keeps u0 s) : Keeps u0 (State.stage s l h items).1 := by
  unfold State.stage
  try dsimp only
  repeat' (first
    | with_reducible assumption
    | intro _
    | with_reducible apply Keeps.ite
    | with_reducible apply Keeps.iteFst
    | with_reducible apply State.stageAt_keeps
    | with_reducible apply State.addMember_keeps)

theorem State.commitNow_keeps {u0 : State} (s : State) (l : LaneId) (h : Hdr) (c : Consist) (h_s : Keeps u0 s) : Keeps u0 (State.commitNow s l h c).1 := by
  unfold State.commitNow
  try dsimp only
  repeat' (first
    | with_reducible assumption
    | intro _
    | with_reducible apply Keeps.iteFst
    | with_reducible apply State.failConsist_keeps
    | with_reducible apply State.closeConsist_keeps
    | with_reducible apply State.applyWrites_keeps
    | with_reducible apply State.answerMembers_keeps
    | split)

theorem State.hold_keeps {u0 : State} (s : State) (l : LaneId) (h : Hdr) (op : Op) (voted : Bool) (h_s : Keeps u0 s) : Keeps u0 (State.hold s l h op voted) := by
  unfold State.hold
  try dsimp only
  repeat' (first
    | with_reducible assumption
    | intro _
    | with_reducible apply State.modWbe_keeps
    | with_reducible apply State.commit_keeps)

theorem State.commitAccept_keeps {u0 : State} (s : State) (l : LaneId) (h : Hdr) (h_s : Keeps u0 s) : Keeps u0 (State.commitAccept s l h).1 := by
  unfold State.commitAccept
  try dsimp only
  repeat' (first
    | with_reducible assumption
    | intro _
    | with_reducible apply Keeps.ite
    | with_reducible apply Keeps.iteFst
    | with_reducible apply State.failConsist_keeps
    | with_reducible apply State.modConsist_keeps
    | split)

theorem State.commitHead_keeps {u0 : State} (s : State) (l : LaneId) (h : Hdr) (h_s : Keeps u0 s) : Keeps u0 (State.commitHead s l h).1 := by
  unfold State.commitHead
  try dsimp only
  repeat' (first
    | with_reducible assumption
    | intro _
    | with_reducible apply Keeps.ite
    | with_reducible apply Keeps.iteFst
    | with_reducible apply State.commit_keeps
    | with_reducible apply State.commitAccept_keeps
    | with_reducible apply State.hold_keeps
    | split)

theorem State.commit_keeps {u0 : State} (s : State) (l : LaneId) (h : Hdr) (h_s : Keeps u0 s) : Keeps u0 (State.commit s l h).1 := by
  unfold State.commit
  try dsimp only
  repeat' (first
    | with_reducible assumption
    | intro _
    | with_reducible apply Keeps.iteFst
    | with_reducible apply State.commitHead_keeps
    | with_reducible apply State.commitNow_keeps
    | split)

theorem State.abortConsist_keeps {u0 : State} (s : State) (l : LaneId) (h : Hdr) (h_s : Keeps u0 s) : Keeps u0 (State.abortConsist s l h).1 := by
  unfold State.abortConsist
  try dsimp only
  repeat' (first
    | with_reducible assumption
    | intro _
    | with_reducible apply Keeps.iteFst
    | with_reducible apply State.dropConsist_keeps
    | split)

theorem State.mEff_keeps {u0 : State} (s : State) (o : UpdSource) (x : Op) (h_s : Keeps u0 s) : Keeps u0 (State.mEff s o x).1 := by
  unfold State.mEff
  try dsimp only
  repeat' (first
    | with_reducible assumption
    | intro _
    | with_reducible apply Keeps.iteFst
    | with_reducible apply State.effBegin_keeps
    | with_reducible apply State.effChunk_keeps
    | with_reducible apply State.wr_keeps
    | with_reducible apply State.effAttestNew_keeps
    | with_reducible apply State.modM_keeps
    | with_reducible apply State.effApply_keeps
    | with_reducible apply Keeps.draw
    | split)

theorem State.opEff_keeps {u0 : State} (s : State) (l : LaneId) (h : Hdr) (x : Op) (h_s : Keeps u0 s) : Keeps u0 (State.opEff s l h x).1 := by
  unfold State.opEff
  try dsimp only
  repeat' (first
    | with_reducible assumption
    | intro _
    | with_reducible apply Keeps.ite
    | with_reducible apply Keeps.iteFst
    | with_reducible apply State.effGet_keeps
    | with_reducible apply State.applyWrites_keeps
    | with_reducible apply State.stage_keeps
    | with_reducible apply State.commit_keeps
    | with_reducible apply State.abortConsist_keeps
    | with_reducible apply State.effSteer_keeps
    | with_reducible apply State.effBrake_keeps
    | with_reducible apply State.hold_keeps
    | with_reducible apply State.effHold_keeps
    | with_reducible apply State.release_keeps
    | with_reducible apply State.effRelease_keeps
    | with_reducible apply State.effStart_keeps
    | with_reducible apply State.effStop_keeps
    | with_reducible apply State.effTableLoad_keeps
    | with_reducible apply State.effTableAppend_keeps
    | with_reducible apply State.armS_keeps
    | with_reducible apply State.disarmS_keeps
    | with_reducible apply State.effForceOff_keeps
    | with_reducible apply State.effStaffRequest_keeps
    | with_reducible apply State.releaseStaff_keeps
    | with_reducible apply State.effRejoin_keeps
    | with_reducible apply State.effExcludeLane_keeps
    | with_reducible apply State.wr_keeps
    | with_reducible apply State.effConfirm_keeps
    | with_reducible apply State.effRolling_keeps
    | with_reducible apply State.effConverter_keeps
    | with_reducible apply State.effComparator_keeps
    | with_reducible apply State.effInject_keeps
    | with_reducible apply State.effPower_keeps
    | with_reducible apply State.effTraceArm_keeps
    | with_reducible apply State.effTraceTrigger_keeps
    | with_reducible apply State.effTraceStop_keeps
    | with_reducible apply State.effTraceStream_keeps
    | with_reducible apply State.effOrderLoad_keeps
    | with_reducible apply State.effOrderStart_keeps
    | with_reducible apply State.effOrderStop_keeps
    | with_reducible apply State.mEff_keeps
    | split
    | with_reducible apply Keeps.upd)

theorem State.outcome_keeps {u0 : State} (s : State) (l : LaneId) (h : Hdr) (opcode : Nat) (r : Rsp) (mask : Nat) (h_s : Keeps u0 s) : Keeps u0 (State.outcome s l h opcode r mask) := by
  unfold State.outcome
  try dsimp only
  repeat' (first
    | with_reducible assumption
    | intro _
    | with_reducible apply Keeps.ite
    | with_reducible apply State.countRx_keeps
    | with_reducible apply State.markFailed_keeps
    | with_reducible apply State.answer_keeps
    | split)

theorem State.direct_keeps {u0 : State} (s : State) (l : LaneId) (h : Hdr) (op : Op) (h_s : Keeps u0 s) : Keeps u0 (State.direct s l h op) := by
  unfold State.direct
  try dsimp only
  repeat' (first
    | with_reducible assumption
    | intro _
    | with_reducible apply Keeps.ite
    | with_reducible apply Keeps.iteFst
    | with_reducible apply State.noteLocked_keeps
    | with_reducible apply State.outcome_keeps
    | with_reducible apply State.opEff_keeps
    | split)

theorem State.relayOut_keeps {u0 : State} (s : State) (l : LaneId) (h : Hdr) (op : Op) (mask : Nat) (key : Option VKey) (own : Option Hdr) (h_s : Keeps u0 s) : Keeps u0 (State.relayOut s l h op mask key own) := by
  unfold State.relayOut
  try dsimp only
  repeat' (first
    | with_reducible assumption
    | intro _
    | with_reducible apply Keeps.ite
    | with_reducible apply State.modWbe_keeps
    | with_reducible apply State.send_keeps
    | split)

theorem State.relayOwn_keeps {u0 : State} (s : State) (l : LaneId) (h : Hdr) (op : Op) (h_s : Keeps u0 s) : Keeps u0 (State.relayOwn s l h op) := by
  unfold State.relayOwn
  try dsimp only
  repeat' (first
    | with_reducible assumption
    | intro _
    | with_reducible apply Keeps.ite
    | with_reducible apply State.addMember_keeps
    | with_reducible apply State.abortConsist_keeps
    | with_reducible apply State.closeConsist_keeps
    | with_reducible apply State.bump_keeps
    | split)

theorem State.relayCommit_keeps {u0 : State} (s : State) (l : LaneId) (h : Hdr) (c : Consist) (mask : Nat) (key : Option VKey) (own : Option Hdr) (h_s : Keeps u0 s) : Keeps u0 (State.relayCommit s l h c mask key own) := by
  unfold State.relayCommit
  try dsimp only
  repeat' (first
    | with_reducible assumption
    | intro _
    | with_reducible apply Keeps.ite
    | with_reducible apply State.closeConsist_keeps
    | with_reducible apply State.modWbe_keeps
    | with_reducible apply State.send_keeps
    | split)

theorem State.commitSend_keeps {u0 : State} (s : State) (l : LaneId) (h : Hdr) (c : Consist) (mask : Nat) (key : Option VKey) (own : Option Hdr) (h_s : Keeps u0 s) : Keeps u0 (State.commitSend s l h c mask key own).1 := by
  unfold State.commitSend
  try dsimp only
  repeat' (first
    | with_reducible assumption
    | intro _
    | with_reducible apply Keeps.ite
    | with_reducible apply Keeps.iteFst
    | with_reducible apply State.commitNow_keeps
    | with_reducible apply State.failConsist_keeps
    | with_reducible apply State.closeConsist_keeps
    | with_reducible apply State.releaseLocks_keeps
    | with_reducible apply State.answerMembers_keeps
    | with_reducible apply State.relayCommit_keeps
    | split)

theorem State.commitRun_keeps {u0 : State} (s : State) (l : LaneId) (h : Hdr) (mask : Nat) (key : Option VKey) (own : Option Hdr) (h_s : Keeps u0 s) : Keeps u0 (State.commitRun s l h mask key own).1 := by
  unfold State.commitRun
  try dsimp only
  repeat' (first
    | with_reducible assumption
    | intro _
    | with_reducible apply Keeps.iteFst
    | with_reducible apply State.commitHead_keeps
    | with_reducible apply State.commitSend_keeps
    | split)

theorem State.runOp_keeps {u0 : State} (s : State) (l : LaneId) (h : Hdr) (op : Op) (mask : Nat) (key : Option VKey) (own : Option Hdr) (h_s : Keeps u0 s) : Keeps u0 (State.runOp s l h op mask key own).1 := by
  unfold State.runOp
  try dsimp only
  repeat' (first
    | with_reducible assumption
    | intro _
    | with_reducible apply Keeps.ite
    | with_reducible apply Keeps.iteFst
    | with_reducible apply State.noteLocked_keeps
    | with_reducible apply State.relayOwn_keeps
    | with_reducible apply State.relayOut_keeps
    | with_reducible apply State.commitRun_keeps
    | with_reducible apply State.opEff_keeps
    | split)

theorem State.seeEpoch_keeps {u0 : State} (s : State) (epoch : Nat) (ks : List PKey) (h_s : Keeps u0 s) : Keeps u0 (State.seeEpoch s epoch ks) := by
  unfold State.seeEpoch
  try dsimp only
  repeat' (first
    | with_reducible assumption
    | intro _
    | with_reducible apply Keeps.ite
    | with_reducible apply State.fence_keeps
    | split)

theorem State.freeLocksOf_keeps {u0 : State} (s : State) (r owner : Nat) (h_s : Keeps u0 s) : Keeps u0 (State.freeLocksOf s r owner) := by
  unfold State.freeLocksOf
  try dsimp only
  repeat' (first
    | with_reducible assumption
    | intro _
    | with_reducible apply Keeps.ite
    | with_reducible apply State.lockRelease_keeps
    | with_reducible apply Keeps.foldl
    | split)

theorem State.dieCommit_keeps {u0 : State} (s : State) (d : Shared) (l : LaneId) (epoch : Nat) (items : List Item) (h_s : Keeps u0 s) : Keeps u0 (State.dieCommit s d l epoch items).1 := by
  unfold State.dieCommit
  try dsimp only
  repeat' (first
    | with_reducible assumption
    | intro _
    | with_reducible apply Keeps.ite
    | with_reducible apply Keeps.iteFst
    | with_reducible apply State.putAll_keeps
    | with_reducible apply State.seeEpoch_keeps
    | with_reducible apply State.noteLocked_keeps
    | with_reducible apply State.applyWrites_keeps
    | split)

theorem State.dieRun_keeps {u0 : State} (s : State) (d : Shared) (l : LaneId) (epoch : Nat) (h : Hdr) (op : Op) (h_s : Keeps u0 s) : Keeps u0 (State.dieRun s d l epoch h op).1 := by
  unfold State.dieRun
  try dsimp only
  repeat' (first
    | with_reducible assumption
    | intro _
    | with_reducible apply Keeps.ite
    | with_reducible apply Keeps.iteFst
    | with_reducible apply State.seeEpoch_keeps
    | with_reducible apply State.noteLocked_keeps
    | with_reducible apply State.effGet_keeps
    | with_reducible apply State.applyWrites_keeps
    | with_reducible apply State.stageAt_keeps
    | with_reducible apply State.abortConsist_keeps
    | with_reducible apply State.freeLocksOf_keeps
    | with_reducible apply State.armS_keeps
    | with_reducible apply State.disarmS_keeps
    | with_reducible apply State.mEff_keeps
    | split)

theorem State.relayIn_keeps {u0 : State} (s : State) (d : Shared) (l : LaneId) (epoch : Nat) (w : Waybill) (h_s : Keeps u0 s) : Keeps u0 (State.relayIn s d l epoch w).1 := by
  unfold State.relayIn
  try dsimp only
  repeat' (first
    | with_reducible assumption
    | intro _
    | with_reducible apply Keeps.ite
    | with_reducible apply Keeps.iteFst
    | with_reducible apply State.dieCommit_keeps
    | with_reducible apply State.dieRun_keeps
    | split)

theorem State.relayGone_keeps {u0 : State} (s : State) (l : LaneId) (tag : Nat) (h_s : Keeps u0 s) : Keeps u0 (State.relayGone s l tag) := by
  unfold State.relayGone
  try dsimp only
  repeat' (first
    | with_reducible assumption
    | intro _
    | with_reducible apply State.modWbe_keeps)

theorem State.settle_keeps {u0 : State} (s : State) (l : LaneId) (k : VKey) (r : Rsp) (h_s : Keeps u0 s) : Keeps u0 (State.settle s l k r) := by
  unfold State.settle
  try dsimp only
  repeat' (first
    | with_reducible assumption
    | intro _
    | with_reducible apply Keeps.ite
    | with_reducible apply State.modVot_keeps)

theorem State.answerLate_keeps {u0 : State} (s : State) (l : LaneId) (k : VKey) (r : Rsp) (mask : Nat) (h_s : Keeps u0 s) : Keeps u0 (State.answerLate s l k r mask) := by
  unfold State.answerLate
  try dsimp only
  repeat' (first
    | with_reducible assumption
    | intro _
    | with_reducible apply State.modVot_keeps
    | with_reducible apply State.answer_keeps
    | with_reducible apply Keeps.foldl)

theorem State.consistDone_keeps {u0 : State} (s : State) (l : LaneId) (c : Option Consist) (r : Rsp) (h_s : Keeps u0 s) : Keeps u0 (State.consistDone s l c r) := by
  unfold State.consistDone
  try dsimp only
  repeat' (first
    | with_reducible assumption
    | intro _
    | with_reducible apply Keeps.ite
    | with_reducible apply State.answerMembers_keeps
    | with_reducible apply State.failConsist_keeps
    | split)

theorem State.memberDone_keeps {u0 : State} (s : State) (l : LaneId) (x : RelayWait) (r : Rsp) (h_s : Keeps u0 s) : Keeps u0 (State.memberDone s l x r) := by
  unfold State.memberDone
  try dsimp only
  repeat' (first
    | with_reducible assumption
    | intro _
    | with_reducible apply Keeps.ite
    | with_reducible apply State.dropMember_keeps
    | with_reducible apply State.markFailed_keeps
    | split)

theorem State.relayDone_keeps {u0 : State} (s : State) (l : LaneId) (x : RelayWait) (r : Rsp) (h_s : Keeps u0 s) : Keeps u0 (State.relayDone s l x r) := by
  unfold State.relayDone
  try dsimp only
  repeat' (first
    | with_reducible assumption
    | intro _
    | with_reducible apply State.relayGone_keeps
    | with_reducible apply State.consistDone_keeps
    | with_reducible apply State.memberDone_keeps
    | with_reducible apply State.answer_keeps
    | with_reducible apply State.settle_keeps
    | with_reducible apply State.answerLate_keeps
    | with_reducible apply Keeps.foldl
    | split)

end Sys2Proof.Machine
end

