-- ==== Sys2Proof/Laws/KeepsVote.lean ====
section
/-! SUPPORT. What every operation of Vote keeps. -/

namespace Sys2Proof.Machine

open Par Var

theorem State.unhold_keeps {u0 : State} (s : State) (l : LaneId) (h : Hdr) (h_s : Keeps u0 s) : Keeps u0 (State.unhold s l h) := by
  unfold State.unhold
  try dsimp only
  repeat' (first
    | with_reducible assumption
    | intro _
    | with_reducible apply State.modWbe_keeps)

theorem State.refuseCopy_keeps {u0 : State} (s : State) (l : LaneId) (h : Hdr) (opcode mask : Nat) (h_s : Keeps u0 s) : Keeps u0 (State.refuseCopy s l h opcode mask) := by
  unfold State.refuseCopy
  try dsimp only
  repeat' (first
    | with_reducible assumption
    | intro _
    | with_reducible apply Keeps.ite
    | with_reducible apply State.unhold_keeps
    | with_reducible apply State.failConsist_keeps
    | with_reducible apply State.answer_keeps
    | split)

theorem State.lateCopy_keeps {u0 : State} (s : State) (l : LaneId) (c : VCopy) (h : Hdr) (raw : List Byte) (crc mask : Nat) (status : Option (Nat × List Byte)) (h_s : Keeps u0 s) : Keeps u0 (State.lateCopy s l c h raw crc mask status) := by
  unfold State.lateCopy
  try dsimp only
  repeat' (first
    | with_reducible assumption
    | intro _
    | with_reducible apply Keeps.ite
    | with_reducible apply Keeps.iteFst
    | with_reducible apply State.bump_keeps
    | with_reducible apply State.answer_keeps
    | with_reducible apply State.modVot_keeps
    | with_reducible apply State.refuseCopy_keeps
    | split)

theorem State.newCopy_keeps {u0 : State} (s : State) (l : LaneId) (c : VCopy) (h : Hdr) (op : Op) (h_s : Keeps u0 s) : Keeps u0 (State.newCopy s l c h op) := by
  unfold State.newCopy
  try dsimp only
  repeat' (first
    | with_reducible assumption
    | intro _
    | with_reducible apply Keeps.ite
    | with_reducible apply State.modVot_keeps
    | with_reducible apply State.commit_keeps
    | with_reducible apply State.hold_keeps
    | with_reducible apply State.send_keeps
    | with_reducible apply State.countRx_keeps
    | with_reducible apply State.answer_keeps
    | split)

theorem State.voteIn_keeps {u0 : State} (s : State) (l : LaneId) (h : Hdr) (op : Op) (raw : List Byte) (t : Nat) (h_s : Keeps u0 s) : Keeps u0 (State.voteIn s l h op raw t) := by
  unfold State.voteIn
  try dsimp only
  repeat' (first
    | with_reducible assumption
    | intro _
    | with_reducible apply Keeps.iteFst
    | with_reducible apply State.lateCopy_keeps
    | with_reducible apply State.commit_keeps
    | with_reducible apply State.commitAccept_keeps
    | with_reducible apply State.answer_keeps
    | with_reducible apply State.newCopy_keeps
    | split)

theorem State.minorityEvent_keeps {u0 : State} (s : State) (l x : LaneId) (h_s : Keeps u0 s) : Keeps u0 (State.minorityEvent s l x) := by
  unfold State.minorityEvent
  try dsimp only
  repeat' (first
    | with_reducible assumption
    | intro _
    | with_reducible apply State.bump_keeps
    | with_reducible apply State.modVot_keeps)

theorem State.degrade_keeps {u0 : State} (s : State) (l x : LaneId) (h_s : Keeps u0 s) : Keeps u0 (State.degrade s l x) := by
  unfold State.degrade
  try dsimp only
  repeat' (first
    | with_reducible assumption
    | intro _
    | with_reducible apply Keeps.ite
    | with_reducible apply Keeps.iteFst
    | with_reducible apply State.wrBit_keeps
    | with_reducible apply State.raise_keeps
    | split)

theorem State.minorities_keeps {u0 : State} (s : State) (l : LaneId) (now : Nat) (grp : List VCopy) (h_s : Keeps u0 s) : Keeps u0 (State.minorities s l now grp) := by
  unfold State.minorities
  try dsimp only
  repeat' (first
    | with_reducible assumption
    | intro _
    | with_reducible apply Keeps.ite
    | with_reducible apply State.minorityEvent_keeps
    | with_reducible apply Keeps.foldl)

theorem State.dropKey_keeps {u0 : State} (s : State) (l : LaneId) (k : VKey) (h_s : Keeps u0 s) : Keeps u0 (State.dropKey s l k) := by
  unfold State.dropKey
  try dsimp only
  repeat' (first
    | with_reducible assumption
    | intro _
    | with_reducible apply State.modVot_keeps)

theorem State.refuseOwn_keeps {u0 : State} (s : State) (l : LaneId) (all bad : List VCopy) (h_s : Keeps u0 s) : Keeps u0 (State.refuseOwn s l all bad) := by
  unfold State.refuseOwn
  try dsimp only
  repeat' (first
    | with_reducible assumption
    | intro _
    | with_reducible apply State.refuseCopy_keeps
    | with_reducible apply Keeps.foldl
    | with_reducible apply Keeps.foldlFst
    | dsimp only
    | split)

theorem State.failKey_keeps {u0 : State} (s : State) (l : LaneId) (k : VKey) (h_s : Keeps u0 s) : Keeps u0 (State.failKey s l k) := by
  unfold State.failKey
  try dsimp only
  repeat' (first
    | with_reducible assumption
    | intro _
    | with_reducible apply State.dropKey_keeps
    | with_reducible apply State.bump_keeps
    | with_reducible apply State.refuseOwn_keeps)

theorem State.failStale_keeps {u0 : State} (s : State) (l : LaneId) (k : VKey) (gone : VCopy → Bool) (h_s : Keeps u0 s) : Keeps u0 (State.failStale s l k gone) := by
  unfold State.failStale
  try dsimp only
  repeat' (first
    | with_reducible assumption
    | intro _
    | with_reducible apply State.modVot_keeps
    | with_reducible apply State.refuseOwn_keeps)

theorem State.agreeKey_keeps {u0 : State} (s : State) (l : LaneId) (now : Nat) (k : VKey) (c : VCopy) (h_s : Keeps u0 s) : Keeps u0 (State.agreeKey s l now k c).1 := by
  unfold State.agreeKey
  try dsimp only
  repeat' (first
    | with_reducible assumption
    | intro _
    | with_reducible apply Keeps.iteFst
    | with_reducible apply State.dropKey_keeps
    | with_reducible apply State.bump_keeps
    | with_reducible apply State.minorities_keeps
    | with_reducible apply State.refuseOwn_keeps
    | with_reducible apply State.commit_keeps)

theorem State.voteRun_keeps {u0 : State} (s : State) (l : LaneId) (x : VWaiting) (h_s : Keeps u0 s) : Keeps u0 (State.voteRun s l x).1 := by
  unfold State.voteRun
  try dsimp only
  repeat' (first
    | with_reducible assumption
    | intro _
    | with_reducible apply Keeps.ite
    | with_reducible apply Keeps.iteFst
    | with_reducible apply State.commitSend_keeps
    | with_reducible apply State.runOp_keeps
    | split)

theorem State.closeAlso_keeps {u0 : State} (s : State) (l : LaneId) (opcode : Nat) (h : Hdr) (r : Rsp) (h_s : Keeps u0 s) : Keeps u0 (State.closeAlso s l opcode h r) := by
  unfold State.closeAlso
  try dsimp only
  repeat' (first
    | with_reducible assumption
    | intro _
    | with_reducible apply Keeps.ite
    | with_reducible apply State.closeConsist_keeps
    | with_reducible apply State.answerMembers_keeps
    | split)

theorem State.answerOwns_keeps {u0 : State} (s : State) (l : LaneId) (x : VWaiting) (r : Rsp) (h_s : Keeps u0 s) : Keeps u0 (State.answerOwns s l x r) := by
  unfold State.answerOwns
  try dsimp only
  repeat' (first
    | with_reducible assumption
    | intro _
    | with_reducible apply State.closeAlso_keeps
    | with_reducible apply State.answer_keeps
    | with_reducible apply Keeps.foldl)

theorem State.voteEffect_keeps {u0 : State} (s : State) (l : LaneId) (x : VWaiting) (h_s : Keeps u0 s) : Keeps u0 (State.voteEffect s l x) := by
  unfold State.voteEffect
  try dsimp only
  repeat' (first
    | with_reducible assumption
    | intro _
    | with_reducible apply Keeps.ite
    | with_reducible apply Keeps.iteFst
    | with_reducible apply State.unhold_keeps
    | with_reducible apply State.voteRun_keeps
    | with_reducible apply State.modVot_keeps
    | with_reducible apply State.modWbe_keeps
    | with_reducible apply State.answerOwns_keeps
    | with_reducible apply State.answerLate_keeps
    | with_reducible apply Keeps.foldl
    | with_reducible apply Keeps.foldlFst
    | split)

theorem State.judgeAll_keeps {u0 : State} (s : State) (l : LaneId) (now : Nat) (urgent : Bool) (xs : List VKey) (h : Keeps u0 s) : Keeps u0 (State.judgeAll s l now urgent xs).1 := by
  induction xs generalizing s with
  | nil => exact h
  | cons k ks ih =>
    unfold State.judgeAll
    try dsimp only
    repeat' (first
      | with_reducible assumption
      | intro _
      | with_reducible apply ih
      | with_reducible apply Keeps.ite
      | with_reducible apply Keeps.iteFst
      | with_reducible apply State.failKey_keeps
      | with_reducible apply State.failStale_keeps
      | with_reducible apply State.modVot_keeps
      | with_reducible apply State.agreeKey_keeps
      | split)

theorem State.forgetAgreed_keeps {u0 : State} (s : State) (l : LaneId) (h_s : Keeps u0 s) : Keeps u0 (State.forgetAgreed s l) := by
  unfold State.forgetAgreed
  try dsimp only
  repeat' (first
    | with_reducible assumption
    | intro _
    | with_reducible apply State.modVot_keeps)

theorem State.showVote_keeps {u0 : State} (s : State) (l : LaneId) (h_s : Keeps u0 s) : Keeps u0 (State.showVote s l) := by
  unfold State.showVote
  try dsimp only
  repeat' (first
    | with_reducible assumption
    | intro _
    | with_reducible apply Keeps.ite
    | with_reducible apply State.wr_keeps)

theorem State.evaluate_keeps {u0 : State} (s : State) (l : LaneId) (t : Nat) (urgent : Bool) (h_s : Keeps u0 s) : Keeps u0 (State.evaluate s l t urgent) := by
  unfold State.evaluate
  try dsimp only
  repeat' (first
    | with_reducible assumption
    | intro _
    | with_reducible apply Keeps.ite
    | with_reducible apply Keeps.iteFst
    | with_reducible apply State.forgetAgreed_keeps
    | with_reducible apply State.showVote_keeps
    | with_reducible apply State.judgeAll_keeps
    | with_reducible apply State.degrade_keeps
    | with_reducible apply State.wr_keeps
    | with_reducible apply State.voteEffect_keeps
    | with_reducible apply State.modVot_keeps
    | with_reducible apply Keeps.foldl
    | with_reducible apply Keeps.foldlFst
    | split)

theorem State.heldRun_keeps {u0 : State} (s : State) (l : LaneId) (e : HeldWb) (h_s : Keeps u0 s) : Keeps u0 (State.heldRun s l e).1 := by
  unfold State.heldRun
  try dsimp only
  repeat' (first
    | with_reducible assumption
    | intro _
    | with_reducible apply Keeps.iteFst
    | with_reducible apply State.commit_keeps
    | with_reducible apply State.commitSend_keeps
    | with_reducible apply State.runOp_keeps
    | split)

theorem State.heldEffect_keeps {u0 : State} (s : State) (l : LaneId) (e : HeldWb) (h_s : Keeps u0 s) : Keeps u0 (State.heldEffect s l e) := by
  unfold State.heldEffect
  try dsimp only
  repeat' (first
    | with_reducible assumption
    | intro _
    | with_reducible apply Keeps.iteFst
    | with_reducible apply State.heldRun_keeps
    | with_reducible apply State.answer_keeps
    | split)

theorem State.heldGone_keeps {u0 : State} (s : State) (l : LaneId) (e : HeldWb) (h_s : Keeps u0 s) : Keeps u0 (State.heldGone s l e) := by
  unfold State.heldGone
  try dsimp only
  repeat' (first
    | with_reducible assumption
    | intro _
    | with_reducible apply Keeps.ite
    | with_reducible apply State.commit_keeps
    | with_reducible apply State.failConsist_keeps
    | with_reducible apply State.modVot_keeps
    | with_reducible apply State.answer_keeps
    | split)

theorem State.resyncQueue_keeps {u0 : State} (s : State) (l : LaneId) (h_s : Keeps u0 s) : Keeps u0 (State.resyncQueue s l) := by
  unfold State.resyncQueue
  try dsimp only
  repeat' (first
    | with_reducible assumption
    | intro _
    | with_reducible apply Keeps.ite
    | with_reducible apply State.wr_keeps
    | with_reducible apply State.modWbe_keeps
    | with_reducible apply State.heldGone_keeps
    | with_reducible apply State.modVot_keeps
    | with_reducible apply Keeps.foldl
    | split)

theorem State.dueEffect_keeps {u0 : State} (s : State) (l : LaneId) (x : HeldWb ⊕ VWaiting) (h_s : Keeps u0 s) :
    Keeps u0 (s.dueEffect l x) := by
  cases x
  · exact State.heldEffect_keeps _ _ _ h_s
  · exact State.voteEffect_keeps _ _ _ h_s

theorem State.failOverdue_keeps {u0 : State} (s : State) (l : LaneId) (h_s : Keeps u0 s) : Keeps u0 (State.failOverdue s l) := by
  unfold State.failOverdue
  try dsimp only
  repeat' (first
    | with_reducible assumption
    | intro _
    | with_reducible apply Keeps.ite
    | with_reducible apply State.failKey_keeps
    | with_reducible apply State.failStale_keeps
    | with_reducible apply Keeps.foldl
    | split)

theorem State.commitInstant_keeps {u0 : State} (s : State) (l : LaneId) (h_s : Keeps u0 s) : Keeps u0 (State.commitInstant s l) := by
  unfold State.commitInstant
  try dsimp only
  repeat' (first
    | with_reducible assumption
    | intro _
    | with_reducible apply Keeps.ite
    | with_reducible apply State.resyncQueue_keeps
    | with_reducible apply State.modWbe_keeps
    | with_reducible apply State.modVot_keeps
    | with_reducible apply State.dueEffect_keeps
    | with_reducible apply State.failOverdue_keeps
    | with_reducible apply Keeps.foldl
    | split)

theorem State.voteLocal_keeps {u0 : State} (s : State) (l : LaneId) (h : Hdr) (op : Op) (h_s : Keeps u0 s) : Keeps u0 (State.voteLocal s l h op) := by
  unfold State.voteLocal
  try dsimp only
  repeat' (first
    | with_reducible assumption
    | intro _
    | with_reducible apply Keeps.ite
    | with_reducible apply State.modVot_keeps
    | with_reducible apply State.countRx_keeps
    | with_reducible apply State.answer_keeps
    | split)

theorem State.applyLocal_keeps {u0 : State} (s : State) (l : LaneId) (h_s : Keeps u0 s) : Keeps u0 (State.applyLocal s l) := by
  unfold State.applyLocal
  try dsimp only
  repeat' (first
    | with_reducible assumption
    | intro _
    | with_reducible apply Keeps.iteFst
    | with_reducible apply State.modVot_keeps
    | with_reducible apply State.runOp_keeps
    | with_reducible apply State.answer_keeps
    | with_reducible apply Keeps.foldl)

end Sys2Proof.Machine
end

