-- ==== Sys2Proof/Laws/KeepsPeers.lean ====
section
/-! SUPPORT. What every operation of Peers keeps. -/

namespace Sys2Proof.Machine

open Par Var

theorem State.digestJudge_keeps {u0 : State} (s : State) (l : LaneId) (h_s : Keeps u0 s) : Keeps u0 (State.digestJudge s l) := by
  unfold State.digestJudge
  try dsimp only
  repeat' (first
    | with_reducible assumption
    | intro _
    | with_reducible apply Keeps.ite
    | with_reducible apply State.wr_keeps
    | with_reducible apply State.raise_keeps
    | with_reducible apply State.addStopCause_keeps
    | split)

theorem State.digestTake_keeps {u0 : State} (s : State) (l x : LaneId) (f : ExchFrame) (t : Nat) (h_s : Keeps u0 s) : Keeps u0 (State.digestTake s l x f t) := by
  unfold State.digestTake
  try dsimp only
  repeat' (first
    | with_reducible assumption
    | intro _
    | with_reducible apply Keeps.ite
    | with_reducible apply State.wr_keeps
    | with_reducible apply State.digestJudge_keeps)

theorem State.hearFrame_keeps {u0 : State} (s : State) (l x : LaneId) (f : ExchFrame) (t : Nat) (h_s : Keeps u0 s) : Keeps u0 (State.hearFrame s l x f t) := by
  unfold State.hearFrame
  try dsimp only
  repeat' (first
    | with_reducible assumption
    | intro _
    | with_reducible apply State.modVot_keeps
    | with_reducible apply State.wr_keeps
    | with_reducible apply State.noteWindings_keeps
    | with_reducible apply State.hearRejoin_keeps
    | with_reducible apply State.confirmTrial_keeps
    | with_reducible apply State.staffReturn_keeps
    | with_reducible apply State.digestTake_keeps)

theorem State.markLost_keeps {u0 : State} (s : State) (l y : LaneId) (h_s : Keeps u0 s) : Keeps u0 (State.markLost s l y) := by
  unfold State.markLost
  try dsimp only
  repeat' (first
    | with_reducible assumption
    | intro _
    | with_reducible apply State.wr_keeps)

theorem State.leaveByLink_keeps {u0 : State} (s : State) (l : LaneId) (ys : List LaneId) (h_s : Keeps u0 s) : Keeps u0 (State.leaveByLink s l ys) := by
  unfold State.leaveByLink
  try dsimp only
  repeat' (first
    | with_reducible assumption
    | intro _
    | with_reducible apply State.wrBit_keeps
    | with_reducible apply State.leave_keeps
    | with_reducible apply Keeps.foldl)

theorem State.classify_keeps {u0 : State} (s : State) (l y : LaneId) (voters : List LaneId) (h_s : Keeps u0 s) : Keeps u0 (State.classify s l y voters) := by
  unfold State.classify
  try dsimp only
  repeat' (first
    | with_reducible assumption
    | intro _
    | with_reducible apply Keeps.ite
    | with_reducible apply State.markLost_keeps
    | with_reducible apply State.leaveByLink_keeps
    | split)

theorem State.checkPeer_keeps {u0 : State} (s : State) (l p : LaneId) (h_s : Keeps u0 s) : Keeps u0 (State.checkPeer s l p) := by
  unfold State.checkPeer
  try dsimp only
  repeat' (first
    | with_reducible assumption
    | intro _
    | with_reducible apply Keeps.ite
    | with_reducible apply State.wr_keeps
    | with_reducible apply State.bump_keeps
    | split)

theorem State.peerCheck_keeps {u0 : State} (s : State) (l : LaneId) (h_s : Keeps u0 s) : Keeps u0 (State.peerCheck s l) := by
  unfold State.peerCheck
  try dsimp only
  repeat' (first
    | with_reducible assumption
    | intro _
    | with_reducible apply Keeps.ite
    | with_reducible apply State.wr_keeps
    | with_reducible apply State.checkPeer_keeps
    | with_reducible apply State.leaveByLink_keeps
    | with_reducible apply State.classify_keeps
    | with_reducible apply Keeps.foldl
    | split)

theorem State.sendFrame_keeps {u0 : State} (s : State) (l : LaneId) (h_s : Keeps u0 s) : Keeps u0 (State.sendFrame s l) := by
  unfold State.sendFrame
  try dsimp only
  repeat' (first
    | with_reducible assumption
    | intro _
    | with_reducible apply Keeps.ite
    | with_reducible apply State.modVot_keeps
    | with_reducible apply State.send_keeps
    | with_reducible apply State.noteWindings_keeps
    | with_reducible apply State.wr_keeps)

end Sys2Proof.Machine
end

