-- ==== Sys2Proof/Laws/KeepsLinks.lean ====
section
/-! SUPPORT. What every operation of Links keeps. -/

namespace Sys2Proof.Machine

open Par Var

theorem State.onLink_keeps {u0 : State} (s : State) (k : Link) (f : State → State) (h_s : Keeps u0 s) (h_f : ∀ x, Keeps u0 x → Keeps u0 (f x)) : Keeps u0 (State.onLink s k f) := by
  unfold State.onLink
  try dsimp only
  repeat' (first
    | with_reducible assumption
    | intro _
    | with_reducible apply Keeps.ite
    | apply_assumption)

theorem State.countAt_keeps {u0 : State} (s : State) (k : Link) (d : PDesc) (h_s : Keeps u0 s) : Keeps u0 (State.countAt s k d) := by
  unfold State.countAt
  try dsimp only
  repeat' (first
    | with_reducible assumption
    | intro _
    | with_reducible apply Keeps.ite
    | with_reducible apply State.bump_keeps)

theorem State.flitIn_keeps {u0 : State} (s : State) (k : Link) (w : Nat) (h_s : Keeps u0 s) : Keeps u0 (State.flitIn s k w) := by
  unfold State.flitIn
  try dsimp only
  repeat' (first
    | with_reducible assumption
    | intro _
    | with_reducible apply Keeps.ite
    | with_reducible apply State.countAt_keeps
    | with_reducible apply State.send_keeps
    | with_reducible apply State.setLink_keeps)

theorem State.resendFlits_keeps {u0 : State} (s : State) (k : Link) (h_s : Keeps u0 s) : Keeps u0 (State.resendFlits s k) := by
  unfold State.resendFlits
  try dsimp only
  repeat' (first
    | with_reducible assumption
    | intro _
    | with_reducible apply State.setLink_keeps
    | with_reducible apply State.countAt_keeps
    | with_reducible apply State.send_keeps
    | with_reducible apply State.pump_keeps
    | with_reducible apply Keeps.foldl
    | with_reducible apply Keeps.foldlFst
    | dsimp only
    | split)

theorem State.atEnds_keeps {u0 : State} (s : State) (k : Link) (f : Link → State → State) (h_s : Keeps u0 s) (h_f : ∀ k y, Keeps u0 y → Keeps u0 (f k y)) : Keeps u0 (State.atEnds s k f) := by
  unfold State.atEnds
  try dsimp only
  repeat' (first
    | with_reducible assumption
    | intro _
    | with_reducible apply Keeps.ite
    | apply_assumption)

theorem State.setLinkState_keeps {u0 : State} (s : State) (k : Link) (v : Nat) (h_s : Keeps u0 s) : Keeps u0 (State.setLinkState s k v) := by
  unfold State.setLinkState
  try dsimp only
  repeat' (first
    | with_reducible assumption
    | intro _
    | with_reducible apply State.atEnds_keeps
    | with_reducible apply State.wr_keeps)

theorem State.clearEnd_keeps {u0 : State} (s : State) (k : Link) (h_s : Keeps u0 s) : Keeps u0 (State.clearEnd s k) := by
  unfold State.clearEnd
  try dsimp only
  repeat' (first
    | with_reducible assumption
    | intro _
    | with_reducible apply State.setLink_keeps)

theorem State.retrain_keeps {u0 : State} (s : State) (k : Link) (h_s : Keeps u0 s) : Keeps u0 (State.retrain s k) := by
  unfold State.retrain
  try dsimp only
  repeat' (first
    | with_reducible assumption
    | intro _
    | with_reducible apply State.setLinkState_keeps
    | with_reducible apply State.atEnds_keeps
    | with_reducible apply State.countAt_keeps
    | with_reducible apply State.clearEnd_keeps)

theorem State.sendEpoch_keeps {u0 : State} (s : State) (k : Link) (h_s : Keeps u0 s) : Keeps u0 (State.sendEpoch s k) := by
  unfold State.sendEpoch
  try dsimp only
  repeat' (first
    | with_reducible assumption
    | intro _
    | with_reducible apply Keeps.ite
    | with_reducible apply State.linkSend_keeps)

end Sys2Proof.Machine
end

