-- ==== Sys2Proof/Laws/KeepsSampling.lean ====
section
/-! SUPPORT. What every operation of Sampling keeps. -/

namespace Sys2Proof.Machine

open Par Var

theorem State.sendInput_keeps {u0 : State} (s : State) (l : LaneId) (h_s : Keeps u0 s) : Keeps u0 (State.sendInput s l) := by
  unfold State.sendInput
  try dsimp only
  repeat' (first
    | with_reducible assumption
    | intro _
    | with_reducible apply Keeps.ite
    | with_reducible apply State.wr_keeps
    | with_reducible apply State.modVot_keeps
    | with_reducible apply State.send_keeps
    | with_reducible apply Keeps.foldl
    | split)

theorem State.anFail_keeps {u0 : State} (s : State) (l : LaneId) (i : Nat) (x : LaneId) (h_s : Keeps u0 s) : Keeps u0 (State.anFail s l i x) := by
  unfold State.anFail
  try dsimp only
  repeat' (first
    | with_reducible assumption
    | intro _
    | with_reducible apply State.wrBit_keeps
    | with_reducible apply State.raise_keeps)

theorem State.anStep_keeps {u0 : State} (s : State) (l : LaneId) (d : PDesc) (i : Nat) (x : LaneId) (hit : Bool) (h_s : Keeps u0 s) : Keeps u0 (State.anStep s l d i x hit) := by
  unfold State.anStep
  try dsimp only
  repeat' (first
    | with_reducible assumption
    | intro _
    | with_reducible apply Keeps.ite
    | with_reducible apply State.wr_keeps
    | with_reducible apply State.anFail_keeps)

theorem State.anFailures_keeps {u0 : State} (s : State) (l : LaneId) (i : Nat) (vs : List (LaneId × Option Int)) (ref : Option Int) (h_s : Keeps u0 s) : Keeps u0 (State.anFailures s l i vs ref) := by
  unfold State.anFailures
  try dsimp only
  repeat' (first
    | with_reducible assumption
    | intro _
    | with_reducible apply Keeps.ite
    | with_reducible apply Keeps.iteFst
    | with_reducible apply State.anStep_keeps
    | with_reducible apply Keeps.foldl)

theorem State.anSet_keeps {u0 : State} (s : State) (l : LaneId) (i : Nat) (vs : List (LaneId × Option Int)) (refs : List Int) (judge : Bool) (h_s : Keeps u0 s) : Keeps u0 (State.anSet s l i vs refs judge) := by
  unfold State.anSet
  try dsimp only
  repeat' (first
    | with_reducible assumption
    | intro _
    | with_reducible apply Keeps.ite
    | with_reducible apply Keeps.iteFst
    | with_reducible apply State.wr_keeps
    | with_reducible apply State.anFailures_keeps
    | with_reducible apply State.wrI_keeps
    | with_reducible apply Keeps.foldl
    | with_reducible apply Keeps.foldlFst
    | split)

theorem State.diSet_keeps {u0 : State} (s : State) (l : LaneId) (d : Nat) (vs : List (LaneId × Option Bool)) (judge : Bool) (h_s : Keeps u0 s) : Keeps u0 (State.diSet s l d vs judge) := by
  unfold State.diSet
  try dsimp only
  repeat' (first
    | with_reducible assumption
    | intro _
    | with_reducible apply Keeps.ite
    | with_reducible apply Keeps.iteFst
    | with_reducible apply State.wr_keeps
    | with_reducible apply State.wrBit_keeps
    | with_reducible apply State.raise_keeps
    | with_reducible apply Keeps.foldl)

theorem State.refDisagree_keeps {u0 : State} (s : State) (l : LaneId) (h_s : Keeps u0 s) : Keeps u0 (State.refDisagree s l) := by
  unfold State.refDisagree
  try dsimp only
  repeat' (first
    | with_reducible assumption
    | intro _
    | with_reducible apply Keeps.ite
    | with_reducible apply State.raise_keeps
    | with_reducible apply State.release_keeps)

theorem State.voteSets_keeps {u0 : State} (s : State) (l : LaneId) (h_s : Keeps u0 s) : Keeps u0 (State.voteSets s l) := by
  unfold State.voteSets
  try dsimp only
  repeat' (first
    | with_reducible assumption
    | intro _
    | with_reducible apply Keeps.ite
    | with_reducible apply State.setsInvalid_keeps
    | with_reducible apply State.anSet_keeps
    | with_reducible apply State.diSet_keeps
    | with_reducible apply State.refDisagree_keeps
    | with_reducible apply Keeps.foldl)

theorem State.voteOwn_keeps {u0 : State} (s : State) (l : LaneId) (h_s : Keeps u0 s) : Keeps u0 (State.voteOwn s l) := by
  unfold State.voteOwn
  try dsimp only
  repeat' (first
    | with_reducible assumption
    | intro _
    | with_reducible apply State.anSet_keeps
    | with_reducible apply State.diSet_keeps
    | with_reducible apply State.refDisagree_keeps
    | with_reducible apply Keeps.foldl)

theorem State.votedCauses_keeps {u0 : State} (s : State) (l : LaneId) (h_s : Keeps u0 s) : Keeps u0 (State.votedCauses s l) := by
  unfold State.votedCauses
  try dsimp only
  repeat' (first
    | with_reducible assumption
    | intro _
    | with_reducible apply Keeps.ite
    | with_reducible apply State.addStopCause_keeps)

theorem State.outCompare_keeps {u0 : State} (s : State) (l : LaneId) (h_s : Keeps u0 s) : Keeps u0 (State.outCompare s l) := by
  unfold State.outCompare
  try dsimp only
  repeat' (first
    | with_reducible assumption
    | intro _
    | with_reducible apply Keeps.ite
    | with_reducible apply State.wr_keeps
    | with_reducible apply State.raise_keeps)

theorem State.tablesCompare_keeps {u0 : State} (s : State) (l : LaneId) (h_s : Keeps u0 s) : Keeps u0 (State.tablesCompare s l) := by
  unfold State.tablesCompare
  try dsimp only
  repeat' (first
    | with_reducible assumption
    | intro _
    | with_reducible apply State.rpcCompare_keeps
    | with_reducible apply Keeps.foldl)

theorem State.sectionsCompare_keeps {u0 : State} (s : State) (l : LaneId) (h_s : Keeps u0 s) : Keeps u0 (State.sectionsCompare s l) := by
  unfold State.sectionsCompare
  try dsimp only
  repeat' (first
    | with_reducible assumption
    | intro _
    | with_reducible apply State.sdcCompare_keeps)

theorem State.inputDeadline_keeps {u0 : State} (s : State) (l : LaneId) (h_s : Keeps u0 s) : Keeps u0 (State.inputDeadline s l) := by
  unfold State.inputDeadline
  try dsimp only
  repeat' (first
    | with_reducible assumption
    | intro _
    | with_reducible apply Keeps.ite
    | with_reducible apply State.showVote_keeps
    | with_reducible apply State.voteSets_keeps
    | with_reducible apply State.votedCauses_keeps
    | with_reducible apply State.outCompare_keeps
    | with_reducible apply State.tablesCompare_keeps
    | with_reducible apply State.sectionsCompare_keeps
    | with_reducible apply State.alignToSet_keeps
    | with_reducible apply State.wr_keeps
    | split)

end Sys2Proof.Machine
end

