-- ==== Sys2Proof/Laws/KeepsInstants.lean ====
section
/-! SUPPORT. What every operation of Instants keeps. -/

namespace Sys2Proof.Machine

open Par Var

theorem State.beginPeriod_keeps {u0 : State} (s : State) (l : LaneId) (t : Nat) (h_s : Keeps u0 s) : Keeps u0 (State.beginPeriod s l t) := by
  unfold State.beginPeriod
  try dsimp only
  repeat' (first
    | with_reducible assumption
    | intro _
    | with_reducible apply State.wr_keeps
    | with_reducible apply State.trcEvent_keeps)

theorem State.dropOld_keeps {u0 : State} (s : State) (l : LaneId) (h_s : Keeps u0 s) : Keeps u0 (State.dropOld s l) := by
  unfold State.dropOld
  try dsimp only
  repeat' (first
    | with_reducible assumption
    | intro _
    | with_reducible apply Keeps.iteFst
    | with_reducible apply State.modLane_keeps)

theorem State.powerPoints_keeps {u0 : State} (s : State) (l : LaneId) (peak : Bool) (smp : List BridgeSample) (t : Nat) (h_s : Keeps u0 s) : Keeps u0 (State.powerPoints s l peak smp t) := by
  unfold State.powerPoints
  try dsimp only
  repeat' (first
    | with_reducible assumption
    | intro _
    | with_reducible apply Keeps.ite
    | with_reducible apply State.loadPoint_keeps
    | with_reducible apply State.trackSample_keeps
    | with_reducible apply Keeps.foldl
    | split)

theorem State.loadPoints_keeps {u0 : State} (s : State) (l : LaneId) (peak : Bool) (smp : List BridgeSample) (sc : List SinCos) (t : Nat) (h_s : Keeps u0 s) : Keeps u0 (State.loadPoints s l peak smp sc t) := by
  unfold State.loadPoints
  try dsimp only
  repeat' (first
    | with_reducible assumption
    | intro _
    | with_reducible apply Keeps.ite
    | with_reducible apply State.whenUp_keeps
    | with_reducible apply State.wrB_keeps
    | with_reducible apply State.beginPeriod_keeps
    | with_reducible apply State.dropOld_keeps
    | with_reducible apply State.powerPoints_keeps
    | with_reducible apply State.fbiValley_keeps
    | split)

theorem State.snapOutputs_keeps {u0 : State} (s : State) (l : LaneId) (h_s : Keeps u0 s) : Keeps u0 (State.snapOutputs s l) := by
  unfold State.snapOutputs
  try dsimp only
  repeat' (first
    | with_reducible assumption
    | intro _
    | with_reducible apply Keeps.ite
    | with_reducible apply State.wr_keeps
    | split)

theorem State.stepTargets_keeps {u0 : State} (s : State) (l : LaneId) (h_s : Keeps u0 s) : Keeps u0 (State.stepTargets s l) := by
  unfold State.stepTargets
  try dsimp only
  repeat' (first
    | with_reducible assumption
    | intro _
    | with_reducible apply Keeps.ite
    | with_reducible apply State.targetsCycle_keeps
    | with_reducible apply State.stopCycle_keeps
    | with_reducible apply State.targetsUrgent_keeps)

theorem State.modeStep_keeps {u0 : State} (s : State) (l : LaneId) (h_s : Keeps u0 s) : Keeps u0 (State.modeStep s l) := by
  unfold State.modeStep
  try dsimp only
  repeat' (first
    | with_reducible assumption
    | intro _
    | with_reducible apply Keeps.ite
    | with_reducible apply State.modeCompute_keeps
    | with_reducible apply State.abortPackage_keeps)

theorem State.computeBase_keeps {u0 : State} (s : State) (l : LaneId) (h_s : Keeps u0 s) : Keeps u0 (State.computeBase s l) := by
  unfold State.computeBase
  try dsimp only
  repeat' (first
    | with_reducible assumption
    | intro _
    | with_reducible apply State.loadPending_keeps
    | with_reducible apply State.peerCheck_keeps
    | with_reducible apply State.snapOutputs_keeps
    | with_reducible apply State.stepTargets_keeps
    | with_reducible apply State.cenInputs_keeps
    | with_reducible apply State.driveCompute_keeps
    | with_reducible apply State.modeStep_keeps
    | with_reducible apply State.sdcCompute_keeps
    | with_reducible apply State.tripResend_keeps
    | with_reducible apply State.shadowCompute_keeps
    | with_reducible apply State.sendFrame_keeps
    | with_reducible apply State.sendVote_keeps)

theorem State.cycleBegins_keeps {u0 : State} (s : State) (l : LaneId) (t : Nat) (h_s : Keeps u0 s) : Keeps u0 (State.cycleBegins s l t) := by
  unfold State.cycleBegins
  try dsimp only
  repeat' (first
    | with_reducible assumption
    | intro _
    | with_reducible apply Keeps.ite
    | with_reducible apply State.wr_keeps
    | with_reducible apply State.applyLocal_keeps
    | with_reducible apply State.trcEvent_keeps
    | with_reducible apply State.cfgCompare_keeps
    | with_reducible apply State.cartCycle_keeps
    | with_reducible apply State.lifeCycle_keeps
    | with_reducible apply State.sendEpoch_keeps
    | split)

theorem State.sampleInstant_keeps {u0 : State} (s : State) (l : LaneId) (t : Nat) (h_s : Keeps u0 s) : Keeps u0 (State.sampleInstant s l t) := by
  unfold State.sampleInstant
  try dsimp only
  repeat' (first
    | with_reducible assumption
    | intro _
    | with_reducible apply State.wr_keeps
    | with_reducible apply State.staffSample_keeps
    | with_reducible apply State.fbiSample_keeps
    | with_reducible apply State.alignTogether_keeps
    | with_reducible apply State.sdcSample_keeps
    | with_reducible apply State.sendInput_keeps
    | with_reducible apply State.evaluate_keeps
    | with_reducible apply Keeps.foldl)

theorem State.latchInstant_keeps {u0 : State} (s : State) (l : LaneId) (t : Nat) (h_s : Keeps u0 s) : Keeps u0 (State.latchInstant s l t) := by
  unfold State.latchInstant
  try dsimp only
  repeat' (first
    | with_reducible assumption
    | intro _
    | with_reducible apply State.evaluate_keeps
    | with_reducible apply State.enterLatch_keeps
    | with_reducible apply State.ackLatch_keeps
    | with_reducible apply State.ordersLatch_keeps
    | with_reducible apply State.powerLatch_keeps)

theorem State.localBegins_keeps {u0 : State} (s : State) (l : LaneId) (t : Nat) (h_s : Keeps u0 s) : Keeps u0 (State.localBegins s l t) := by
  unfold State.localBegins
  try dsimp only
  repeat' (first
    | with_reducible assumption
    | intro _
    | with_reducible apply Keeps.ite
    | with_reducible apply State.wr_keeps
    | with_reducible apply State.rxAges_keeps
    | with_reducible apply State.trcEvent_keeps
    | with_reducible apply State.applyLocal_keeps
    | split)

theorem State.localSample_keeps {u0 : State} (s : State) (l : LaneId) (t : Nat) (h_s : Keeps u0 s) : Keeps u0 (State.localSample s l t) := by
  unfold State.localSample
  try dsimp only
  repeat' (first
    | with_reducible assumption
    | intro _
    | with_reducible apply Keeps.ite
    | with_reducible apply State.staffSample_keeps
    | with_reducible apply State.fbiSample_keeps
    | with_reducible apply State.voteOwn_keeps)

end Sys2Proof.Machine
end

