-- ==== Sys2Proof/Laws/KeepsWaybills.lean ====
section
/-! SUPPORT. What every operation of Waybills keeps. -/

namespace Sys2Proof.Machine

open Par Var

theorem State.resend_keeps {u0 : State} (s : State) (l : LaneId) (h : Hdr) (e : DupEntry) (h_s : Keeps u0 s) : Keeps u0 (State.resend s l h e) := by
  unfold State.resend
  try dsimp only
  repeat' (first
    | with_reducible assumption
    | intro _
    | with_reducible apply Keeps.ite
    | with_reducible apply State.bump_keeps
    | with_reducible apply State.reply_keeps
    | with_reducible apply State.deliver_keeps
    | split)

theorem State.noteDup_keeps {u0 : State} (s : State) (l : LaneId) (h : Hdr) (w : Waybill) (h_s : Keeps u0 s) : Keeps u0 (State.noteDup s l h w) := by
  unfold State.noteDup
  try dsimp only
  repeat' (first
    | with_reducible assumption
    | intro _
    | with_reducible apply Keeps.ite
    | with_reducible apply State.modWbe_keeps)

theorem State.defer_keeps {u0 : State} (s : State) (l : LaneId) (h : Hdr) (op : Op) (h_s : Keeps u0 s) : Keeps u0 (State.defer s l h op) := by
  unfold State.defer
  try dsimp only
  repeat' (first
    | with_reducible assumption
    | intro _
    | with_reducible apply Keeps.ite
    | with_reducible apply State.noteLocked_keeps
    | with_reducible apply State.outcome_keeps
    | with_reducible apply State.hold_keeps
    | with_reducible apply State.commit_keeps
    | split)

theorem State.noteParams_keeps {u0 : State} (s : State) (l : LaneId) (h : Hdr) (op : Op) (raw : List Byte) (h_s : Keeps u0 s) : Keeps u0 (State.noteParams s l h op raw) := by
  unfold State.noteParams
  try dsimp only
  repeat' (first
    | with_reducible assumption
    | intro _
    | with_reducible apply Keeps.ite
    | with_reducible apply State.modConsist_keeps
    | split
    | (refine Keeps.upd ?_ (Store.wf_put _ _))
    | (refine Keeps.upd ?_ (Store.wf_foldl _ (fun _ _ h => Store.wf_put _ _ h) _ _))
    | (refine Keeps.upd ?_ id))

theorem State.accept_keeps {u0 : State} (s : State) (l : LaneId) (h : Hdr) (op : Op) (raw : List Byte) (t : Nat) (h_s : Keeps u0 s) : Keeps u0 (State.accept s l h op raw t) := by
  unfold State.accept
  try dsimp only
  repeat' (first
    | with_reducible assumption
    | intro _
    | with_reducible apply Keeps.ite
    | with_reducible apply Keeps.iteFst
    | with_reducible apply State.outcome_keeps
    | with_reducible apply State.answer_keeps
    | with_reducible apply State.voteLocal_keeps
    | with_reducible apply State.voteIn_keeps
    | with_reducible apply State.commit_keeps
    | with_reducible apply State.defer_keeps
    | with_reducible apply State.runOp_keeps
    | with_reducible apply State.noteParams_keeps
    | with_reducible apply State.countRx_keeps
    | split)

theorem State.process_keeps {u0 : State} (s : State) (l : LaneId) (x : RxWaybill) (t : Nat) (h_s : Keeps u0 s) : Keeps u0 (State.process s l x t) := by
  unfold State.process
  try dsimp only
  repeat' (first
    | with_reducible assumption
    | intro _
    | with_reducible apply Keeps.ite
    | with_reducible apply State.markFailed_keeps
    | with_reducible apply State.reply_keeps
    | with_reducible apply State.accept_keeps
    | with_reducible apply State.resend_keeps
    | with_reducible apply State.noteDup_keeps
    | split)

theorem State.startWb_keeps {u0 : State} (s : State) (l : LaneId) (x : RxWaybill) (t : Nat) (h_s : Keeps u0 s) : Keeps u0 (State.startWb s l x t) := by
  unfold State.startWb
  try dsimp only
  repeat' (first
    | with_reducible assumption
    | intro _
    | with_reducible apply State.modWbe_keeps
    | with_reducible apply State.process_keeps)

theorem State.takeNext_keeps {u0 : State} (s : State) (l : LaneId) (x : QueuedWb) (h_s : Keeps u0 s) : Keeps u0 (State.takeNext s l x) := by
  unfold State.takeNext
  try dsimp only
  repeat' (first
    | with_reducible assumption
    | intro _
    | with_reducible apply State.modWbe_keeps
    | with_reducible apply State.startWb_keeps)

theorem State.drainIn_keeps {u0 : State} (s : State) (l : LaneId) (t : Nat) (n : Nat) (h : Keeps u0 s) : Keeps u0 (State.drainIn s l t n) := by
  induction n generalizing s with
  | zero => exact h
  | succ n ih =>
    unfold State.drainIn
    try dsimp only
    repeat' (first
      | with_reducible assumption
      | intro _
      | with_reducible apply ih
      | with_reducible apply State.takeNext_keeps
      | with_reducible apply State.modWbe_keeps
      | with_reducible apply State.process_keeps
      | split)

theorem State.enqueue_keeps {u0 : State} (s : State) (l : LaneId) (p : Port) (src : Nat) (raw : List Byte) (t : Nat) (h_s : Keeps u0 s) : Keeps u0 (State.enqueue s l p src raw t) := by
  unfold State.enqueue
  try dsimp only
  repeat' (first
    | with_reducible assumption
    | intro _
    | with_reducible apply Keeps.ite
    | with_reducible apply State.drainIn_keeps
    | with_reducible apply State.startWb_keeps
    | with_reducible apply State.modWbe_keeps
    | with_reducible apply State.process_keeps
    | with_reducible apply State.modHst_keeps
    | with_reducible apply State.bump_keeps
    | split)

theorem State.receive_keeps {u0 : State} (s : State) (l : LaneId) (p : Port) (src : Nat) (raw : List Byte) (t : Nat) (h_s : Keeps u0 s) : Keeps u0 (State.receive s l p src raw t) := by
  unfold State.receive
  try dsimp only
  repeat' (first
    | with_reducible assumption
    | intro _
    | with_reducible apply Keeps.ite
    | with_reducible apply State.enqueue_keeps
    | split)

theorem State.engineTick_keeps {u0 : State} (s : State) (l : LaneId) (h_s : Keeps u0 s) : Keeps u0 (State.engineTick s l) := by
  unfold State.engineTick
  try dsimp only
  repeat' (first
    | with_reducible assumption
    | intro _
    | with_reducible apply Keeps.ite
    | with_reducible apply State.atTime_keeps
    | with_reducible apply State.takeNext_keeps
    | split)

theorem State.tick_keeps {u0 : State} (s : State) (h_s : Keeps u0 s) : Keeps u0 (State.tick s) := by
  unfold State.tick
  try dsimp only
  repeat' (first
    | with_reducible assumption
    | intro _
    | with_reducible apply State.engineTick_keeps
    | with_reducible apply Keeps.foldl)

theorem State.finishRun_keeps {u0 : State} (s : State) (l : LaneId) (o : Nat) (h_s : Keeps u0 s) : Keeps u0 (State.finishRun s l o) := by
  unfold State.finishRun
  try dsimp only
  repeat' (first
    | with_reducible assumption
    | intro _
    | with_reducible apply State.dropConsist_keeps
    | with_reducible apply State.endRun_keeps
    | with_reducible apply Keeps.foldl)

theorem State.stopRun_keeps {u0 : State} (s : State) (l : LaneId) (o : Nat) (h_s : Keeps u0 s) : Keeps u0 (State.stopRun s l o) := by
  unfold State.stopRun
  try dsimp only
  repeat' (first
    | with_reducible assumption
    | intro _
    | with_reducible apply State.wrBit_keeps
    | with_reducible apply State.finishRun_keeps)

theorem State.replay_keeps {u0 : State} (s : State) (l : LaneId) (raw : List Byte) (t : Nat) (h_s : Keeps u0 s) : Keeps u0 (State.replay s l raw t) := by
  unfold State.replay
  try dsimp only
  repeat' (first
    | with_reducible assumption
    | intro _
    | with_reducible apply Keeps.ite
    | with_reducible apply State.wr_keeps
    | with_reducible apply State.receive_keeps
    | with_reducible apply State.reply_keeps)

end Sys2Proof.Machine
end

