-- ==== Sys2Proof/Laws/KeepsPorts.lean ====
section
/-! SUPPORT. What every operation of Ports keeps. -/

namespace Sys2Proof.Machine

open Par Var

theorem State.spiOut_keeps {u0 : State} (s : State) (l : LaneId) (out : List Byte) (h_s : Keeps u0 s) : Keeps u0 (State.spiOut s l out) := by
  unfold State.spiOut
  try dsimp only
  repeat' (first
    | with_reducible assumption
    | intro _
    | with_reducible apply State.send_keeps)

theorem State.serviceRun_keeps {u0 : State} (s : State) (h : Hdr) (op : Op) (h_s : Keeps u0 s) : Keeps u0 (State.serviceRun s h op).1 := by
  unfold State.serviceRun
  try dsimp only
  repeat' (first
    | with_reducible assumption
    | intro _
    | with_reducible apply Keeps.iteFst
    | with_reducible apply State.effGet_keeps
    | with_reducible apply State.putAll_keeps
    | with_reducible apply State.mEff_keeps
    | split)

theorem State.serviceIn_keeps {u0 : State} (s : State) (src : Nat) (raw : List Byte) (h_s : Keeps u0 s) : Keeps u0 (State.serviceIn s src raw) := by
  unfold State.serviceIn
  try dsimp only
  repeat' (first
    | with_reducible assumption
    | intro _
    | with_reducible apply Keeps.ite
    | with_reducible apply Keeps.iteFst
    | with_reducible apply State.commit_keeps
    | with_reducible apply State.serviceRun_keeps
    | with_reducible apply State.serviceReply_keeps
    | split)

theorem State.datagram_keeps {u0 : State} (s : State) (l : LaneId) (src : Nat) (payload : List Byte) (t : Nat) (h_s : Keeps u0 s) : Keeps u0 (State.datagram s l src payload t) := by
  unfold State.datagram
  try dsimp only
  repeat' (first
    | with_reducible assumption
    | intro _
    | with_reducible apply State.receive_keeps
    | with_reducible apply Keeps.foldl)

theorem State.dropPart_keeps {u0 : State} (s : State) (l : LaneId) (h_s : Keeps u0 s) : Keeps u0 (State.dropPart s l) := by
  unfold State.dropPart
  try dsimp only
  repeat' (first
    | with_reducible assumption
    | intro _
    | with_reducible apply Keeps.ite
    | with_reducible apply State.modHst_keeps
    | with_reducible apply State.bump_keeps)

theorem State.addSegment_keeps {u0 : State} (s : State) (l : LaneId) (bytes : List Byte) (next : Nat) (last : Bool) (t : Nat) (h_s : Keeps u0 s) : Keeps u0 (State.addSegment s l bytes next last t) := by
  unfold State.addSegment
  try dsimp only
  repeat' (first
    | with_reducible assumption
    | intro _
    | with_reducible apply Keeps.ite
    | with_reducible apply State.modHst_keeps
    | with_reducible apply State.receive_keeps)

end Sys2Proof.Machine
end

