-- ==== Sys2Proof/Laws/Run.lean ====
section
/-! SUPPORT. Small laws that the statements about commands use: what runs under which condition, a lane's records changed in
steps, counters, an idle engine. -/

namespace Sys2Proof.Machine

open Par Var

theorem State.whenHost_on {s : State} {l : LaneId} {f : State → State} (h : s.hostUp l = true) : s.whenHost l f = f s := by
  simp [State.whenHost, h]

theorem State.whenS_on {s : State} {f : State → State} (h : s.sUp = true) : s.whenS f = f s := by simp [State.whenS, h]

theorem State.whenM_on {s : State} {f : State → State} (h : s.mUp = true) : s.whenM f = f s := by simp [State.whenM, h]

@[simp] theorem State.hostUp_atTime (s : State) (t : Nat) (l : LaneId) : (s.atTime t).hostUp l = s.hostUp l := rfl
@[simp] theorem State.sUp_atTime (s : State) (t : Nat) : (s.atTime t).sUp = s.sUp := rfl
@[simp] theorem State.mUp_atTime (s : State) (t : Nat) : (s.atTime t).mUp = s.mUp := rfl
@[simp] theorem State.portOn_atTime (s : State) (t : Nat) (l : LaneId) (p : Port) : (s.atTime t).portOn l p = s.portOn l p := rfl
@[simp] theorem State.atTime_rdB (s : State) (t r : Nat) (d : PDesc) (i : Nat) : (s.atTime t).rdB r d i = s.rdB r d i := rfl
@[simp] theorem State.atTime_hasRegion (s : State) (t r : Nat) : (s.atTime t).hasRegion r = s.hasRegion r := rfl
@[simp] theorem State.inRoom_atTime (s : State) (t : Nat) (l : LaneId) (p : List Byte) : (s.atTime t).inRoom l p = s.inRoom l p := by
  cases l <;> rfl

@[simp] theorem State.setLane_lane (s : State) (l : LaneId) : s.setLane l (s.lane l) = s := by cases l <;> rfl

@[simp] theorem State.setLane_setLane (s : State) (l : LaneId) (x y : Lane) : (s.setLane l x).setLane l y = s.setLane l y := by
  cases l <;> rfl

theorem State.modLane_modLane (s : State) (l : LaneId) (f g : Lane → Lane) :
    (s.modLane l f).modLane l g = s.modLane l (fun x => g (f x)) := by cases l <;> rfl

/-- A change that leaves a lane's records as they are is none. -/
theorem State.modLane_id {s : State} {l : LaneId} {f : Lane → Lane} (h : f (s.lane l) = s.lane l) : s.modLane l f = s := by
  unfold State.modLane; rw [h, State.setLane_lane]

/-- Two changes with the same result are the same. -/
theorem State.modLane_congr {s : State} {l : LaneId} {f g : Lane → Lane} (h : f (s.lane l) = g (s.lane l)) :
    s.modLane l f = s.modLane l g := by unfold State.modLane; rw [h]

/-- A 32-bit counter raised by one saturates. -/
theorem State.bump_rd {s : State} {r : Nat} {d : PDesc} {i w : Nat} (hw : widthOf (d.key r i) = w) (h2 : d.width = w) :
    (s.bump r d i).rd r d i = min (2 ^ w - 1) (s.rd r d i + 1) := by
  rw [State.bump, State.bumpBy, State.rd_wr_same, hw, h2]
  unfold satNat
  have : 0 < 2 ^ w := Nat.two_pow_pos w
  split
  · rw [Nat.mod_eq_of_lt (by assumption)]; omega
  · rw [Nat.mod_eq_of_lt (by omega)]; omega

theorem State.samePlaces_wr (s : State) (r : Nat) (d : PDesc) (i v : Nat) : SamePlaces s (s.wr r d i v) [d.key r i] :=
  fun _ hk => State.wr_get_ne _ (by simpa using hk)

theorem State.sameBut_wr (s : State) (r : Nat) (d : PDesc) (i v : Nat) : SameBut s (s.wr r d i v) [d.key r i] :=
  ⟨rfl, State.samePlaces_wr s r d i v⟩

theorem SamePlaces.wr {s t : State} {ks : List PKey} (h : SamePlaces s t ks) {r : Nat} {d : PDesc} {i v : Nat}
    (hm : d.key r i ∈ ks) : SamePlaces s (t.wr r d i v) ks :=
  fun k hk => (State.wr_get_ne _ (by rintro rfl; exact hk hm)).trans (h k hk)

theorem SameBut.wr {s t : State} {ks : List PKey} (h : SameBut s t ks) {r : Nat} {d : PDesc} {i v : Nat}
    (hm : d.key r i ∈ ks) : SameBut s (t.wr r d i v) ks :=
  ⟨by rw [State.wr, h.1], h.2.wr hm⟩

theorem SamePlaces.refl (s : State) (ks : List PKey) : SamePlaces s s ks := fun _ _ => rfl

theorem SameBut.refl (s : State) (ks : List PKey) : SameBut s s ks := ⟨rfl, fun _ _ => rfl⟩

/-- A waybill handed to an idle engine is processed at once (R47). -/
theorem State.enqueue_idle {s : State} {l : LaneId} {p : Port} {src : Nat} {raw : List Byte} {t0 : Nat}
    (hq : (s.lane l).wbe.inq = []) (hb : (s.lane l).wbe.busy ≤ t0) :
    s.enqueue l p src raw t0 = s.startWb l ⟨p, src, raw⟩ t0 := by
  simp [State.enqueue, hq, hb, State.drainIn]

/-- A waybill handed to a busy engine with room in its queue waits there (R47, R49). -/
theorem State.enqueue_busy {s : State} {l : LaneId} {p : Port} {src : Nat} {raw : List Byte} {t0 : Nat}
    (hq : (s.lane l).wbe.inq = []) (hb : t0 < (s.lane l).wbe.busy) :
    s.enqueue l p src raw t0 = s.modWbe l (fun y => { y with inq := [⟨t0, ⟨p, src, raw⟩⟩] }) := by
  have hb' : ¬ (s.lane l).wbe.busy ≤ t0 := by omega
  have hr : s.inRoom l raw = true := by simp [State.inRoom, hq]
  simp [State.enqueue, hq, hb', State.drainIn, hr, State.modWbe]
  exact State.modLane_congr (by simp [hq])

/-- An enabled port hands what it receives to the engine (R47, R80). -/
theorem State.receive_on {s : State} {l : LaneId} {p : Port} (src : Nat) (raw : List Byte) (t0 : Nat) (hp : s.portOn l p = true) :
    s.receive l p src raw t0 = s.enqueue l p src raw t0 := by simp [State.receive, hp]

/-- A waybill that reaches an idle engine through an enabled port is processed at once (R47). -/
theorem State.receive_idle {s : State} {l : LaneId} {p : Port} {src : Nat} {raw : List Byte} {t0 : Nat}
    (hp : s.portOn l p = true) (hq : (s.lane l).wbe.inq = []) (hb : (s.lane l).wbe.busy ≤ t0) :
    s.receive l p src raw t0 = s.startWb l ⟨p, src, raw⟩ t0 := by
  rw [State.receive_on src raw t0 hp, State.enqueue_idle hq hb]

/-- A waybill that reaches a busy engine with room in its queue waits there (R47, R49). -/
theorem State.receive_busy {s : State} {l : LaneId} {p : Port} {src : Nat} {raw : List Byte} {t0 : Nat}
    (hp : s.portOn l p = true) (hq : (s.lane l).wbe.inq = []) (hb : t0 < (s.lane l).wbe.busy) :
    s.receive l p src raw t0 = s.modWbe l (fun y => { y with inq := [⟨t0, ⟨p, src, raw⟩⟩] }) := by
  rw [State.receive_on src raw t0 hp, State.enqueue_busy hq hb]

/-- With nothing waiting in an engine's queue its tick does nothing. -/
theorem State.engineTick_empty {s : State} {l : LaneId} (hq : (s.lane l).wbe.inq = []) : s.engineTick l = s := by
  simp [State.engineTick, hq, nextIn]

/-- With nothing waiting in any engine the block idles. -/
theorem State.tick_empty {s : State} (hq : ∀ l, (s.lane l).wbe.inq = []) : s.tick = s := by
  simp [State.tick, LaneId.all, State.engineTick_empty, hq]

end Sys2Proof.Machine
end

