-- ==== Sys2Proof/Tests/Slice0.lean ====
section
/-! SUPPORT. Tests: ill-formed commands refused, the checks and bytes of the manual's examples, and for every statement that has
hypotheses states and operands that meet them, clause by clause. A condition on a free function of Config (a signature, a field of a
manifest) has no value in Lean; there a witness says what holds whichever value it takes. -/

namespace Sys2Proof.Tests

set_option Elab.async false

open Sys2Proof Sys2Proof.Machine Sys2Proof.Machine.Par Sys2Proof.Machine.Var

/-- A state with the listed parameters and variables written: region, row, instance, value. -/
def put (s : State) (ws : List (Nat × PDesc × Nat × Nat)) : State := ws.foldl (fun s w => s.wr w.1 w.2.1 w.2.2.1 w.2.2.2) s

/-- Every die of the part powered and in RUN, the links of the lanes to M and S up, the three lanes in service. -/
def running : State :=
  put State.reset ((List.range 8).flatMap (fun r => [(r + 1, INT_POWERED, 0, 1), (r + 1, FAB_PHASE, 0, 1)]) ++
    [1, 2, 3].flatMap (fun r => [(r, STF_STATE, 0, 2), (r, XLK_LINK_STATE, 7, 2), (r, XLK_LINK_STATE, 8, 2)]))

/-- The header of an unvoted waybill at the 100BASE-T1 port for a block of a region. -/
def hdr (region block : Nat) : Hdr :=
  { port := .t1, src := 0, seq := 1, ackReq := true, inConsist := false, last := false, urgent := false, voted := false,
    consist := 0, region := region, block := block, commit := 0 }

/-- A waybill with its check, as bytes. -/
def raw (flags opcode target : Nat) (params : List Byte) : List Byte :=
  let w : Waybill := ⟨2, flags, opcode, 1, 0, target, params.length, 0, params, 0⟩
  Waybill.encode { w with crc := w.crcOf }

/-! ### Commands with operands out of range are told apart -/

theorem test_ill_formed_waybill_length : Waybill.ok ⟨2, 0, 0x0101, 1, 0, 0, 3, 0, [], 0⟩ = false ∧
    Waybill.ok ⟨2, 0, 0x0101, 1, 0, 0, 0, 0, [], 0⟩ = true := by decide

theorem test_ill_formed_waybill_fields : [Waybill.ok ⟨256, 0, 0, 0, 0, 0, 0, 0, [], 0⟩, Waybill.ok ⟨2, 256, 0, 0, 0, 0, 0, 0, [], 0⟩,
    Waybill.ok ⟨2, 0, 65536, 0, 0, 0, 0, 0, [], 0⟩, Waybill.ok ⟨2, 0, 0, 65536, 0, 0, 0, 0, [], 0⟩,
    Waybill.ok ⟨2, 0, 0, 0, 65536, 0, 0, 0, [], 0⟩, Waybill.ok ⟨2, 0, 0, 0, 0, 65536, 0, 0, [], 0⟩,
    Waybill.ok ⟨2, 0, 0, 0, 0, 0, 0, 2 ^ 32, [], 0⟩, Waybill.ok ⟨2, 0, 0, 0, 0, 0, 0, 0, [], 2 ^ 32⟩].all (· == false) = true := by decide

theorem test_ill_formed_item : [Item.ok ⟨2 ^ 32, 1, 0⟩, Item.ok ⟨0, 65536, 0⟩, Item.ok ⟨0, 1, 256⟩].all (· == false) = true ∧
    Item.ok ⟨2 ^ 32 - 1, 1, 255⟩ = true := by decide +kernel

theorem test_ill_formed_entry : [TableEntry.ok ⟨2 ^ 47, 0, 0, 0, 0⟩, TableEntry.ok ⟨-2 ^ 47 - 1, 0, 0, 0, 0⟩, TableEntry.ok ⟨0, 256, 0, 0, 0⟩,
    TableEntry.ok ⟨0, 0, 256, 0, 0⟩, TableEntry.ok ⟨0, 0, 0, 2 ^ 64, 0⟩, TableEntry.ok ⟨0, 0, 0, 0, 2 ^ 64⟩].all (· == false) = true ∧
    TableEntry.ok ⟨-2 ^ 47, 255, 255, 2 ^ 64 - 1, 0⟩ = true := by decide +kernel

theorem test_ill_formed_trigger : [OrderTrigger.ok ⟨256, 0, 0, 0⟩, OrderTrigger.ok ⟨0, 256, 0, 0⟩, OrderTrigger.ok ⟨0, 0, 2 ^ 32, 0⟩,
    OrderTrigger.ok ⟨0, 0, 0, 2 ^ 32⟩].all (· == false) = true := by decide +kernel

theorem test_ill_formed_ops : [Op.ok (.get []), Op.ok (.set []), Op.ok (.setStaged []), Op.ok (.get [2 ^ 32]), Op.ok (.steerTarget (2 ^ 31)),
    Op.ok (.brakeDemand 0 0 0 (2 ^ 32)), Op.ok (.hold 16), Op.ok (.release 16), Op.ok (.startDrive 64 0), Op.ok (.stopDrive 0 256),
    Op.ok (.tableLoad (2 ^ 32) []), Op.ok (.tableAppend 0 (List.replicate 43 ⟨0, 0, 0, 0, 0⟩)), Op.ok (.arm (2 ^ 64)), Op.ok (.disarm (2 ^ 64)),
    Op.ok (.forceOff (2 ^ 64)), Op.ok (.staffRequest 256), Op.ok (.rejoin 256), Op.ok (.excludeLane 256), Op.ok (.armReset (2 ^ 32)),
    Op.ok (.confirmReset (2 ^ 32)), Op.ok (.runRolling 256), Op.ok (.runConverter 64), Op.ok (.comparatorTest 64), Op.ok (.inject 256 0 0),
    Op.ok (.powerState 256 0), Op.ok (.traceRead (2 ^ 32) 0), Op.ok (.archiveRead 0 65536), Op.ok (.logRead 0 0 65536),
    Op.ok (.updateBegin (2 ^ 32)), Op.ok (.updateChunk 0 []), Op.ok (.attest 256 none), Op.ok (.attest 0 (some [])),
    Op.ok (.lifecycleChunk (2 ^ 32) [0]), Op.ok (.orderLoad 256 0 ⟨0, 0, 0, 0⟩ []), Op.ok (.orderLoad 0 2 ⟨0, 0, 0, 0⟩ []),
    Op.ok (.orderStart 256), Op.ok (.orderStop 256)].all (· == false) = true := by decide +kernel

theorem test_ill_formed_commands : [Instr.ok (.flitReceive ⟨.la, .lb⟩ (2 ^ 128)), Instr.ok (.dutyReceive .a 6 []), Instr.ok (.desatDetect .a 36 0),
    Instr.ok (.hardShortDetect .a 18 false 0), Instr.ok (.fbiEdgeAccept .a 8 [] 0 0), Instr.ok (.fbiEdgeAccept .a 0 [⟨3, true⟩] 0 0),
    Instr.ok (.athPulseEnd 8), Instr.ok (.secOffPulseStart 64), Instr.ok (.secOvercurrent 16), Instr.ok (.sioInputAccept .a 17 false 0 0),
    Instr.ok (.tripApply .a 0 0), Instr.ok (.tripApply .a 3 0), Instr.ok (.railFault .a 1), Instr.ok (.railFault .a 5),
    Instr.ok (.captureEnd .a 6 0), Instr.ok (.hfiAlignEnd .a 6 {}), Instr.ok (.can0SegmentReceive .a ⟨2 ^ 29, []⟩ 0), Instr.ok (.can0SegmentReceive .a ⟨0, List.replicate 65 0⟩ 0),
    Instr.ok (.udpDatagramReceive none false (List.replicate 20 0) (List.replicate 1481 0) 0), Instr.ok (.lockstepMismatch .a ⟨[512], []⟩ 0),
    Instr.ok (.lockstepMismatch .a ⟨[0], [512]⟩ 0), Instr.ok (.fabRequest .la [⟨0, 0, [.write 0 32 [1]]⟩] none), Instr.ok (.orderDelayExpiry .a 64), Instr.ok (.fclSourceAssert .la 64 false 0), Instr.ok (.tagTimeout 8)].all (· == false) = true := by
  decide +kernel

theorem test_ill_formed_waybill_command : Instr.ok (.get .a (hdr 1 1) []) = false ∧ Instr.ok (.get .a (hdr 1 1) [0x10100200]) = true := by
  decide +kernel

/-! ### Bytes and checks, from the examples of the manual -/

/-- R37: the check of "123456789". -/
theorem test_crc32c_example : crc32c ("123456789".toList.map (fun c => byte c.toNat)) = 0xE3069283 := by decide +kernel

/-- R83: the same for the flits. -/
theorem test_crc16_example : crc16 ("123456789".toList.map (fun c => byte c.toNat)) = 0x29B1 := by decide +kernel

/-- R9: ID 0x1100_0402. -/
theorem test_id_example : PKey.ofId 0x11000402 = ⟨1, 0x10, 4, 2⟩ ∧ lookup (PKey.ofId 0x11000402) = some CMT_UPDATE := by decide +kernel

theorem test_no_word_is_a_command : decodeTableWord 32 0x11000402 = none ∧ (State.reset.withFetchWord 32 7).pending = [] := by decide

theorem test_step_idles : step State.reset = .next State.reset := by rfl

theorem test_step_runs_the_front : step { State.reset with pending := [.jtagIdcode, .mxinLoss] } =
    exec .jtagIdcode { State.reset with pending := [.mxinLoss] } := by rfl

/-! ### A reset package and a running one -/

theorem test_reset_values : State.reset.params.wf = true ∧ State.reset.rd 1 WBE_DUP_HOLD = 500 ∧ State.reset.rd 2 HST_IP_ADDR = 0xC0A80A0C ∧
    State.reset.rd 3 TWL_NODE = 3 := by decide +kernel

theorem test_running : running.params.wf = true ∧ running.up .a = true ∧ running.hostUp .b = true ∧ running.sUp = true ∧ running.mUp = true := by
  decide +kernel

/-! ### Concrete states and operands that meet the hypotheses of the statements, clause by clause -/

theorem witness_StepKeepsTheStoreCanonical : State.reset.params.wf = true ∧ step State.reset = .next State.reset := ⟨by decide +kernel, rfl⟩

/-- A waybill that waits in the queue since 3 µs, in an engine busy until 8 µs, and an URGENT one. -/
def queued : QueuedWb := ⟨3000, ⟨.t1, 0, []⟩⟩
def urgentOne : QueuedWb := ⟨7000, ⟨.can1, 0, [2, 8]⟩⟩

theorem witness_StepRunsTheFrontCommand :
    (let s := running.modWbe .a (fun w => { w with inq := [queued], busy := 8000 })
     s.hostUp .a = true ∧ (s.lane .a).wbe.inq = [queued] ∧ max (s.lane .a).wbe.busy queued.at' = 8000) ∧
    (bit (byteAt urgentOne.wb.raw 1) 3 = true ∧ bit (byteAt queued.wb.raw 1) 3 = false) ∧
    (let y : QueuedWb := ⟨3004, ⟨.can0, 0, []⟩⟩
     queued.at' / 5 = y.at' / 5 ∧ portTurn queued.wb.port < portTurn y.wb.port) ∧
    ([LaneId.a, .b, .c].all (fun l => (running.lane l).wbe.inq.isEmpty) = true) ∧ running.pending = [] := by
  decide +kernel

theorem witness_FlitsCarryAMessageWhole : (2 ^ 112 - 1 < 2 ^ 112 ∧ (List.replicate 65535 (0 : Byte)).length < 65536) ∧
    ((15 < 16 ∧ 0 < 16 ∧ 15 < 16) ∧ (List.replicate 12 (255 : Byte)).length = 12) :=
  ⟨⟨by norm_num, by rw [List.length_replicate]; norm_num⟩, by decide⟩

theorem witness_WaybillBytesParseBack : Waybill.ok ⟨255, 255, 65535, 65535, 65535, 65535, 1024, 2 ^ 32 - 1, List.replicate 1024 0, 2 ^ 32 - 1⟩ = true := by
  decide +kernel

theorem witness_OperationsParseBack : Op.ok (.set [⟨2 ^ 32 - 1, 2, 65535⟩]) = true ∧ Op.ok (.logRead 0 65535 65535) = true ∧
    Op.ok (.orderLoad 255 1 ⟨255, 255, 0, 0⟩ [⟨2, 0, 0x0101, 1, 0, 0, 0, 0, [], 0⟩]) = true ∧ Op.ok (.attest 0 (some (List.replicate 32 7))) = true := by
  decide +kernel

/-- A frame of a lane in service. -/
def frame (r : Nat) : ExchFrame :=
  ⟨r, 2, false, 1, 1, 0, 0, 0, 0, List.replicate 12 0, List.replicate 6 0, 0, 0, 0, 0⟩

theorem witness_MessageBytes : ((frame 1).idq.length = 12 ∧ (frame 1).angles.length = 6) ∧ 255 < 256 ∧ 8 < 16 ∧ 2 ^ 32 - 1 < 2 ^ 32 := by decide

/-- A consist of lane A's 100BASE-T1 port that is open and holds nothing. -/
def emptyConsist : Consist := ⟨.t1, 5, [], 0, none, false⟩

theorem witness_ReceivingAndExpiry :
    (running.hostUp .a = true ∧ running.portOn .a .t1 = true ∧ (running.lane .a).wbe.inq = [] ∧ (running.lane .a).wbe.busy = 0) ∧
    (put running [(1, HST_PORT_EN, 0, 0)]).portOn .a .can0 = false ∧
    (let s := running.modWbe .a (fun w => { w with inq := List.replicate 32 ⟨0, ⟨.t1, 0, []⟩⟩, busy := 5000 })
     s.hostUp .a = true ∧ s.portOn .a .t1 = true ∧ s.inRoom .a [] = false ∧ 4999 < (s.lane .a).wbe.busy ∧ badAtOnce (raw 0 0x0101 0x101 []) = false) ∧
    (let s := running.modWbe .a (fun w => { w with consists := [emptyConsist] })
     s.hostUp .a = true ∧ s.consist .a .t1 5 = some emptyConsist ∧ emptyConsist.closed = false ∧ locksIn (emptyConsist.writes.map PWrite.k) = []) ∧
    (running.modWbe .a (fun w => { w with consists := [{ emptyConsist with closed := true }] })).consist .a .t1 5 =
      some { emptyConsist with closed := true } := by
  decide +kernel

/-- One waybill for each of the first checks: a wrong length, a length field above 1,024, a wrong check, a wrong version. -/
theorem witness_ReceivingAndExpiry_checks :
    (let r := List.replicate 21 (0 : Byte); bit (byteAt r 1) 1 = false ∧ fieldLe r 10 2 ≤ 1024 ∧ r.length ≠ 20 + fieldLe r 10 2) ∧
    (let r := List.replicate 10 (0 : Byte) ++ [1, 4]; bit (byteAt r 1) 1 = false ∧ fieldLe r 10 2 > 1024) ∧
    (let r := List.replicate 20 (0 : Byte); bit (byteAt r 1) 1 = false ∧ r.length = 20 + fieldLe r 10 2 ∧ (Waybill.parse r).crc ≠ (Waybill.parse r).crcOf) ∧
    (let w : Waybill := ⟨3, 0, 0x0101, 1, 0, 0x101, 0, 0, [], 0⟩
     let r := Waybill.encode { w with crc := w.crcOf }
     r.length = 20 + fieldLe r 10 2 ∧ (Waybill.parse r).crc = (Waybill.parse r).crcOf ∧ (Waybill.parse r).version ≠ 2) := by
  decide +kernel

/-- A GET of `WBE.DUP_HOLD` that passes its checks. -/
def getRaw : List Byte := raw 1 0x0101 0x101 (opBytes (.get [0x10100200]))

theorem witness_ReceivingAndExpiry_effect :
    let w := Waybill.parse getRaw
    let h := w.hdr .t1 0
    let v := (running.atTime 0).modWbe .a (fun w => { w with busy := 5000 })
    let u := v.noteDup .a h w
    v.frontChecks .a .t1 w h getRaw = .ok (.get [0x10100200]) ∧ v.dupOf .a .t1 w.seq = none ∧ u.midChecks .a h 0x0101 = none ∧
      h.voted = false ∧ h.commit = 0 ∧ h.region < 7 := by
  decide +kernel

/-- The header of a member of consist 5 for GDR of lane A's power die, its one item, and the waybill that stages it. -/
def memHdr : Hdr := { hdr 4 0x20 with inConsist := true, consist := 5 }
def memItems : List Item := [⟨GDR_DEAD_TIME.id 4 0, 2, 500⟩]
def stageRaw : List Byte :=
  let w : Waybill := ⟨2, 3, 0x0103, 1, 5, 0x420, (itemBytes memItems).length, 0, itemBytes memItems, 0⟩
  Waybill.encode { w with crc := w.crcOf }

theorem witness_ReceivingAndExpiry_staged :
    let w := Waybill.parse stageRaw
    let h := w.hdr .t1 0
    let v := (running.atTime 0).modWbe .a (fun w => { w with busy := 5000 })
    let u := v.noteDup .a h w
    v.frontChecks .a .t1 w h stageRaw = .ok (.setStaged memItems) ∧ v.dupOf .a .t1 w.seq = none ∧ u.midChecks .a h 0x0103 = none ∧
      h.voted = false ∧ h.commit = 0 ∧ h.region < 7 ∧ u.shared .a h 0x0103 (u.chkStage .a h memItems) = none := by
  decide +kernel

theorem witness_GetAndSet :
    (running.pairUp .a = true ∧ running.ownView .a [0x10101003] = false ∧ running.shared .a (hdr 1 1) 0x0101 (chkGet (hdr 1 1) [0x10101003]) = none ∧
      lookup (PKey.ofId 0x10101003) = some WBE_CNT_RX ∧ running.readable (PKey.ofId 0x10101003) = true ∧ running.gatedKey (PKey.ofId 0x10101003) = false) ∧
    (running.shared .a (hdr 8 0x31) 0x0101 (chkGet (hdr 8 0x31) [SVT_OUT.id 8 0]) = none ∧ running.ownView .a [SVT_OUT.id 8 0] = true ∧
      running.leavesToHolder .a (hdr 1 1) (staffFn (.set [⟨0x10100200, 2, 600⟩])) = false) ∧
    (running.shared .a (hdr 1 1) 0x0102 (running.opChk .a (hdr 1 1) (.set [⟨0x10100200, 2, 600⟩])) = none ∧
      (writesOf 20 [⟨0x10100200, 2, 600⟩]).all (fun w => !w.k.isOf FAB_LOCK_HOLD) = true) ∧
    (let i : Item := ⟨GDR_DEAD_TIME.id 4 0, 2, 500⟩
     running.shared .a (hdr 4 0x20) 0x0102 (running.opChk .a (hdr 4 0x20) (.set [i])) = none ∧ lookup (PKey.ofId i.id) = some GDR_DEAD_TIME ∧
      (PKey.ofId i.id).plain = true ∧ GDR_DEAD_TIME.acc = .rws ∧ (hdr 4 0x20).region = LaneId.a.pow) := by
  decide +kernel

/-- The consist with that member. -/
def oneMember : Consist := ⟨.t1, 5, [⟨memHdr, .setStaged memItems, itemBytes memItems⟩], 12, none, false⟩

def withConsist (c : Consist) : State := running.modWbe .a (fun w => { w with consists := [c] })

theorem witness_ConsistOpcodes :
    (running.pairUp .a = true ∧ running.shared .a memHdr 0x0103 (running.chkStage .a memHdr memItems) = none ∧
      locksIn ((writesOf 20 memItems).map PWrite.k) = [] ∧ ((writesOf 20 memItems).map PWrite.k).any sharedKey = false) ∧
    (let s := withConsist oneMember
     let h : Hdr := { memHdr with last := true }
     s.shared .a h 0x0104 none = none ∧ h.commit = 0 ∧ s.consist .a .t1 5 = some oneMember ∧ oneMember.closed = false ∧ oneMember.failed = none ∧
      s.chkSetOf .a oneMember = none ∧
      (s.modConsist .a .t1 5 (fun c => { c with closed := true })).chkConsist .a h { oneMember with closed := true } = none) ∧
    (running.shared .a (hdr 1 1) 0x0104 none = none ∧ running.consist .a .t1 0 = none) ∧
    (let s := withConsist emptyConsist
     s.shared .a memHdr 0x0105 none = none ∧ s.consist .a .t1 5 = some emptyConsist ∧ emptyConsist.closed = false ∧
      locksIn (emptyConsist.writes.map PWrite.k) = []) ∧
    (let s := withConsist { emptyConsist with closed := true }
     s.consist .a .t1 5 = some { emptyConsist with closed := true }) := by
  decide +kernel

/-- A synchronised lane A. -/
def synced : State := put running [(1, INT_SYNCED, 0, 1)]

/-- A SET of `WBE.DUP_HOLD` held for a cycle, and a waybill relayed to M. -/
def held : HeldWb := ⟨hdr 1 1, .set [⟨0x10100200, 2, 600⟩], 0, false, 0⟩
def relay : RelayWait := ⟨3, .m, some (hdr 7 0x40), 0x0101, 0, none, none, []⟩

theorem witness_CommitInstantsAndRelays :
    (running.up .a = true ∧ running.hasRegion LaneId.b.reg = true ∧ (running.lane .a).vot.agreed = [] ∧ (running.lane .a).vot.waiting = []) ∧
    (let s := synced.modWbe .a (fun w => { w with commitQ := [held] })
     let u := s.modWbe .a (fun w => { w with commitQ := [] })
     s.hostUp .a = true ∧ s.synced .a = true ∧ s.rdB 1 WBE_RESYNC = false ∧ (s.lane .a).wbe.commitQ = [held] ∧ s.cycleDue .a held.at' = true ∧
      held.voted = false ∧ held.hdr.voted = false ∧ (s.lane .a).vot.copies = [] ∧ held.op ≠ .commit ∧ held.hdr.region < 7 ∧ ofConsist (opcodeOf held.op) = false ∧
      u.shared .a held.hdr (opcodeOf held.op) (u.opChk .a held.hdr held.op) = none ∧ (s.lane .a).vot.waiting = []) ∧
    running.synced .a = false ∧
    (let s := running.modWbe .a (fun w => { w with relays := [relay] })
     s.relayOf .a 3 = some relay ∧ relay.hdr = some (hdr 7 0x40) ∧ relay.key = none ∧ relay.consist = none ∧ relay.also = [] ∧ (hdr 7 0x40).port = .t1 ∧ (hdr 7 0x40).ackReq = true) ∧
    running.relayOf .a 3 = none ∧ running.sharedUp .m = true ∧ running.sharedUp .s = true ∧
    (let w : Waybill := ⟨2, 0, 0x0BFF, 1, 0, 0x740, 0, 0, [], 0⟩
     w.region = Shared.m.reg ∧ w.region ≠ Shared.s.reg ∧ blockIn w.region w.block = true ∧ opcodeIn w.opcode w.region w.block 1 4 = false) ∧
    (let w : Waybill := ⟨2, 0, 0x0101, 1, 0, 0x740, 8, 0, opBytes (.get [0x74000100]), 0⟩
     blockIn w.region w.block = true ∧ opcodeIn w.opcode w.region w.block 1 4 = true ∧ parseOp w.opcode w.params = .ok (.get [0x74000100]) ∧
      chkGet (w.hdr .spi 0) [0x74000100] = none) := by
  decide +kernel

/-- A reply without data. -/
def okReply : Reply := ⟨1, 0x0101, 1, 0, 1, 0, []⟩

theorem witness_SpiPort :
    (running.hostUp .a = true ∧ running.spiOn .a = true ∧ running.rxSpace .a = true ∧ (running.lane .a).wbe.inq = [] ∧
      (running.lane .a).hst.spiReplies = []) ∧
    (running.modHst .a (fun x => { x with spiReplies := List.replicate 16 okReply })).rxSpace .a = false ∧
    ((running.modHst .a (fun x => { x with spiReplies := [okReply] })).lane .a).hst.spiReplies = [okReply] ∧
    (let s := running.modWbe .a (fun w => { w with kept := [okReply] })
     (s.lane .a).wbe.kept = [okReply] ∧ (s.lane .a).hst.spiReplies.length < 16) ∧
    (let s := running.modWbe .a (fun w => { w with busy := 5000 })
     s.rxSpace .a = true ∧ (s.lane .a).wbe.inq = [] ∧ 4999 < (s.lane .a).wbe.busy) ∧
    ((running.modHst .a (fun x => { x with spiBuf := some [] })).lane .a).hst.spiBuf = some [] ∧
    (put running [(1, HST_PORT_EN, 0, 0)]).spiOn .a = false := by
  decide +kernel

/-- Lane A holds the staff and drives CAN1 from its address. -/
def holder : State := put running [(1, STF_HOLDER, 0, 1), (1, STF_COUNT_ON, 0, 1), (1, HST_PORT_EN, 0, 15), (1, HST_ISO_SA, 0, 0x80)]

/-- A packet from 192.168.10.1, port 5000, for lane A's address and for M's, with one GET. -/
def packet (ip : Nat) : List Byte := udpPacket (0xC0A80A01 * 65536 + 5000) (ip * 65536 + 48011) getRaw

/-- R13, R69: the packet is taken whole with its source; one for another port or address is not for the port; a tag, a fragment or a wrong
checksum drops it. -/
theorem test_udp_packets :
    let p := packet 0xC0A80A0C
    udpJudge 0xC0A80A0C 48011 false p = .take (0xC0A80A01 * 65536 + 5000) getRaw ∧ udpJudge 0xC0A80A0D 48011 false p = .ignore ∧
    udpJudge 0xC0A80A0C 48012 false p = .ignore ∧ udpJudge 0xC0A80A0C 48011 true p = .drop ∧
    udpJudge 0xC0A80A0C 48011 false (p.set 10 0) = .drop ∧ udpJudge 0xC0A80A0C 48011 false (p.set 40 0xFF) = .drop := by
  decide +kernel

/-- An ARP request for lane A's address from 192.168.10.1, and an ICMP echo request to it with 4 bytes of data. -/
def arpRequest : List Byte := toBe 8 0x0001080006040001 ++ toBe 6 0x0200C0A80A01 ++ toBe 4 0xC0A80A01 ++ toBe 6 0 ++ toBe 4 0xC0A80A0B
def echoRequest : List Byte :=
  let head (c : Nat) : List Byte := [0x45, 0] ++ toBe 2 32 ++ [0, 0, 0, 0, 64, 1] ++ toBe 2 c ++ toBe 4 0xC0A80A01 ++ toBe 4 0xC0A80A0B
  let icmp (c : Nat) : List Byte := [8, 0] ++ toBe 2 c ++ toBe 2 7 ++ toBe 2 1 ++ [1, 2, 3, 4]
  head (65535 - inetSum (head 0)) ++ icmp (65535 - inetSum (icmp 0))

/-- R65: an ARP request for the port's address is answered with its MAC address, one for another is not; an ICMP echo request is answered with
its identifier, number and data, from the port's address, under a right checksum. -/
theorem test_eth_answers :
    ethAnswer 0xC0A80A0B 0x0203 arpRequest = some (toBe 8 0x0001080006040002 ++ toBe 6 0x0203 ++ toBe 4 0xC0A80A0B ++ toBe 6 0x0200C0A80A01 ++
      toBe 4 0xC0A80A01) ∧
    ethAnswer 0xC0A80A0C 0x0203 arpRequest = none ∧
    ((ethAnswer 0xC0A80A0B 0x0203 echoRequest).map (fun p => (fieldBe p 12 4, fieldBe p 16 4, byteAt p 20, p.drop 24, inetSum (p.take 20),
      inetSum (p.drop 20))) = some (0xC0A80A0B, 0xC0A80A01, 0, [0, 7, 0, 1, 1, 2, 3, 4], 0xFFFF, 0xFFFF)) ∧
    ethAnswer 0xC0A80A0B 0x0203 (echoRequest.set 29 0xFF) = none := by
  decide +kernel

theorem witness_NetworkPorts :
    (running.portOn .a .t1 = true ∧ getRaw ≠ [] ∧ getRaw.length = 20 + fieldLe getRaw 10 2 ∧ fieldLe getRaw 10 2 ≤ 1024 ∧
      udpJudge (running.rd 1 HST_IP_ADDR) (running.rd 1 HST_UDP_PORT) false ((packet (running.rd 1 HST_IP_ADDR)).take 20 ++ (packet (running.rd 1 HST_IP_ADDR)).drop 20) = .take (0xC0A80A01 * 65536 + 5000) getRaw ∧
      udpJudge (running.rd 1 HST_IP_ADDR) (running.rd 1 HST_UDP_PORT) true [] = .drop ∧
      (ethAnswer (running.rd 1 HST_IP_ADDR) (running.macOf .a) arpRequest).isSome = true ∧ udpJudge (running.rd 1 HST_IP_ADDR) (running.rd 1 HST_UDP_PORT) false arpRequest = .ignore ∧
      udpJudge (running.rd 1 HST_IP_ADDR) (running.rd 1 HST_UDP_PORT) false (packet 0xC0A80A63) = .ignore) ∧
    (running.mUp = true ∧ running.rdB 7 SMC_MX_LOST = false ∧ (put running [(7, SMC_MX_LOST, 0, 1)]).rdB 7 SMC_MX_LOST = true ∧
      (put running [(7, SMC_MX_LOST, 0, 1)]).mUp = true ∧
      udpJudge (running.rd 7 SMC_SVC_IP) 48011 false ((packet (running.rd 7 SMC_SVC_IP)).take 20 ++ (packet (running.rd 7 SMC_SVC_IP)).drop 20) = .take (0xC0A80A01 * 65536 + 5000) getRaw) ∧
    (running.portOn .a .can0 = true ∧ byteAt (128 :: List.replicate 63 2) 0 = 128 ∧ (128 :: List.replicate 63 (2 : Byte)).length = 64 ∧
      running.rd 1 HST_CAN0_REQ_ID < 2 ^ 29 ∧ (running.lane .a).hst.canPart = none) ∧
    (let s := running.modHst .a (fun x => { x with canPart := some ([2], 63) })
     (s.lane .a).hst.canPart = some ([2], 63) ∧ byteAt [63] 0 = 63 ∧ byteAt [127] 0 = 64 + 63 ∧ byteAt [62] 0 < 64 ∧ byteAt [62] 0 ≠ 63 ∧
      (s.lane .a).wbe.inq = [] ∧ (s.lane .a).hst.canPart.isSome = true) ∧
    (holder.hostUp .a = true ∧ holder.portOn .a .can1 = true ∧ holder.mayCan1 .a = true ∧ holder.rd 1 STF_ISO_WAIT = 0 ∧ holder.rd 1 HST_ISO_SA ≤ 0xFD ∧
      holder.rd 1 HST_ISO_STATE ≠ 3) ∧
    (let s := put holder [(1, HST_ISO_STATE, 0, 2), (1, HST_ISO_NAME, 0, 7)]
     s.mayCan1 .a = true ∧ s.rd 1 HST_ISO_STATE = 2 ∧ 6 < s.rd 1 HST_ISO_NAME ∧ s.rd 1 HST_ISO_NAME ≤ 7) ∧
    running.mayCan1 .a = false := by
  decide +kernel

/-- The link of lane A to M. -/
def lm : Link := ⟨.la, .m⟩

def goodFlit (seq : Nat) : Nat := flitWord 8 7 seq true true (List.replicate 12 0)

def sentFlit (type tries : Nat) : TxFlit := ⟨3, flitWord type 1 3 true true (List.replicate 12 0), type, tries⟩

theorem witness_FlitWindow :
    (running.linkThere lm = true ∧ running.dieUp lm.near = true ∧ running.linkState lm = 2 ∧ linkKind lm = some 2 ∧ (running.link lm).outq = [] ∧
      (running.link lm).unacked = []) ∧
    (flitOk (goodFlit 0) = true ∧ (linkTypes 2).contains (bits (goodFlit 0) 3 0) = true ∧ bits (goodFlit 0) 11 8 = (running.link lm).rxSeq ∧
      bits (goodFlit 15) 11 8 ≠ (running.link lm).rxSeq ∧ flitOk (goodFlit 15) = true) ∧
    (flitOk (goodFlit 0 ^^^ 2 ^ 100) = false ∧ (linkTypes 2).contains (bits (flitWord 9 7 0 true true []) 3 0) = false) ∧
    (let s := running.setLink lm { running.link lm with unacked := [sentFlit 5 1, { sentFlit 7 1 with seq := 4 }], txSeq := 5 }
     (s.link lm).unacked = [sentFlit 5 1] ++ { sentFlit 7 1 with seq := 4 } :: [] ∧ (∀ g ∈ (s.link lm).unacked, g.seq ≠ (s.link lm).txSeq)) ∧
    (let s (f : TxFlit) := running.setLink lm { running.link lm with unacked := [f] }
     ((s (sentFlit 5 3)).link lm).unacked = [sentFlit 5 3] ∧ (sentFlit 5 3).type ∈ flitOrder ∧ (sentFlit 5 3).type ≠ 9 ∧ (sentFlit 5 3).tries < 4 ∧
      4 ≤ (sentFlit 5 4).tries ∧ (sentFlit 9 1).type = 9 ∧ (sentFlit 9 1).type ∈ flitOrder ∧
      (s (sentFlit 5 3)).linkThere lm = true ∧ (s (sentFlit 5 3)).linkState lm = 2) := by
  decide +kernel

theorem witness_LinkStates :
    (lm.near.code ≤ 3 ∧ (let s := running.setLink lm { running.link lm with unacked := [sentFlit 5 1] }
      s.linkThere lm = true ∧ s.dieUp lm.near = true ∧ s.linkState lm = 2 ∧ (s.link lm).unacked ≠ [])) ∧
    (running.link lm).unacked = [] ∧
    (running.linkThere ⟨.la, .lb⟩ = true ∧ running.dieUp .la = true ∧ running.dieUp .lb = true ∧ running.linkState ⟨.la, .lb⟩ ≤ 1 ∧
      (List.range 9).any (fun f => f != 2 && running.rd 1 XLK_LINK_STATE f == 3) = false) ∧
    ((running.rd 1 FCL_REACT 13).testBit 2 = false ∧ (running.rd 1 FCL_REACT 13).testBit 3 = false ∧
      (running.rd 2 FCL_REACT 13).testBit 2 = false ∧ (running.rd 2 FCL_REACT 13).testBit 3 = false) ∧
    (let s := put running [(1, XLK_LINK_STATE, 7, 1)]
     s.linkThere lm = true ∧ s.linkState lm ≤ 1 ∧ s.hasRegion 1 = true ∧ sourceListed 1 13 = true ∧ s.rd 1 FCL_MASKED (ownerOf 1 13) = 0 ∧
      s.rd 1 FAB_PHASE ≠ 2 ∧ 3 < lm.far.code) ∧
    (put running [(1, XLK_LINK_STATE, 7, 3)]).linkState lm = 3 := by
  decide +kernel

/-- A sample of bridge 5 at rest. -/
def rest5 : BridgeSample := ⟨5, true, 0, 0, 0, 0, 0, 0, 0, 0, 0⟩

/-- Bridge 5 in RUN, with an edge of its high and of its low side of phase U received. -/
def loaded : State :=
  (put running [(1, CMT_STATE, 5, 2), (4, GDR_DUTY_GOT, 5, 1)]).modBridge .a 5 (fun x => { x with next := [⟨0, 20, 400, 5⟩, ⟨1, 500, 900, 5⟩] })

/-- Bridges 4 and 5 configured, bridge 5 with a period of two base periods. -/
def twoBases : State := put running [(1, CMT_CART, 4, 4), (1, CMT_CART, 5, 5), (1, CMT_PWM_PERIOD, 5, 2 * running.rd 1 CMT_PWM_PERIOD 4),
  (1, CMT_STATE, 5, 2)]

theorem witness_LoadPoints :
    (let s := put running [(4, INT_POWERED, 0, 0)]
     s.up .a = true ∧ s.on 4 = false) ∧
    (running.up .a = true ∧ ((List.range 8).all (fun ch => running.fmode .a ch == 0) = true)) ∧
    State.reset.up .a = false ∧
    (let s := loaded
     let p : Placing := ⟨s.oldEdges .a 5 (s.loadSteps .a 5), s.loadSteps .a 5, (s.bridge .a 5).next.flatMap (intervals (s.loadSteps .a 5))⟩
     s.up .a = true ∧ s.on 4 = true ∧ rest5.b < 6 ∧ (s.lane .a).bridges.length = 6 ∧ ((List.range 8).all (fun ch => s.fmode .a ch != 1) = true) ∧
      s.rd 1 CMT_STATE rest5.b = 2 ∧ s.baseRatio .a rest5.b = 1 ∧ s.rd 1 BST_STATE ≠ 2 ∧ s.latchedB .a rest5.b = false ∧ s.rd 4 GDR_FLOOR_SEEN 5 = 0 ∧
      ((List.range 6).all (fun k => s.rd 4 GDR_SW (swNum 5 k) == 0 && s.rd 4 GDR_BLOCK (swNum 5 k) == 0) = true) ∧
      s.rd 4 GDR_GATES 5 ≠ 1 ∧ p.es ≠ [] ∧
      (p.es.all (fun e => decide (e.sw < 6) && decide (p.floor e.sw e.on ≤ (e.on : Int)) && (e.sw % 2 != 0 || !rest5.bootLow.testBit (e.sw / 2))) = true) ∧
      ((List.range 3).all (fun ph => (p.clash ph).isNone) = true) ∧ s.rd 4 GDR_DUTY_GOT rest5.b = 1) ∧
    (let s := put loaded [(4, GDR_DUTY_GOT, 5, 0), (4, GDR_GATES, 5, 1)]
     s.rd 4 GDR_DUTY_GOT rest5.b = 0 ∧ s.rd 4 GDR_DUTY_MISS rest5.b = 0 ∧ (put s [(4, GDR_DUTY_MISS, 5, 1)]).rd 4 GDR_DUTY_MISS rest5.b = 1 ∧
      s.baseRatio .a rest5.b = 1 ∧ s.rd 4 GDR_GATES 5 = 1) ∧
    (twoBases.baseRatio .a rest5.b = 2 ∧ twoBases.rd 1 CMT_UPDATE rest5.b = 0 ∧ twoBases.synced .a = false ∧ twoBases.rd 1 INT_PERIOD % 2 = 0 ∧
      twoBases.up .a = true ∧ twoBases.rd 1 CMT_STATE 5 = 2) ∧
    (running.rdB 1 CMT_PEAK = false ∧ (put running [(1, CMT_PEAK, 0, 1)]).rdB 1 CMT_PEAK = true) := by
  decide +kernel

theorem witness_CycleEvents :
    (let synced := put synced [(1, TWL_STATE, 0, 4)]
     synced.up .a = true ∧ synced.twlEvents .a = true ∧ synced.rdB 1 VOT_LOCAL = false ∧ (synced.rd 1 FCL_REACT 23).testBit 2 = false ∧
      (synced.rd 1 FCL_REACT 23).testBit 3 = false ∧ synced.lowestLane (fun x => synced.vstate x == 2) ≠ some .b) ∧
    running.twlEvents .a = false ∧
    (let s := put running [(1, TWL_LAST, 0, 9), (1, DPT_ORD_STATE, 63, 0)]
     s.up .a = true ∧ s.synced .a = false ∧ s.rd 1 TWL_LAST ≠ 0 ∧ s.rdB 1 VOT_LOCAL = false) := by
  decide +kernel

theorem witness_ExchangeFrames :
    ((frame 2).region = LaneId.b.reg ∧ LaneId.b ≠ .a ∧ running.hasRegion 2 = true ∧ running.vstate .a ≠ 4 ∧ running.rdB 1 STF_S_SILENT = false ∧
      running.slotState .a (running.actSlot .a) ≠ 3 ∧ (put running [(1, VOT_DIG_DONE, 2, 1)]).rdB 1 VOT_DIG_DONE 2 = true) ∧
    (frame 1).region = LaneId.a.reg ∧ (running.sUp = true ∧ (frame 1).vstate = 2 ∧ (put running [(8, S_STF_EPOCH, 0, 1)]).mayForm = false) ∧
    bit (SEcho.excluded ⟨1, 0, 0, 0, 2⟩) LaneId.a.idx = false ∧
    (put running [(8, S_STF_EXCLUDED, 0, 1)]).excl 1 = true := by
  decide +kernel

/-- An announced copy of lane B, and the record of its key once it is agreed. -/
def copyB : VCopy := ⟨.b, 0, running.cycleAt .a 0, raw 16 0x0203 0x212 [0, 0, 0, 0], 0, none⟩
def agreedB : VAgreed := ⟨copyB.key, copyB.raw, 0, 7, 0, 0, none⟩

theorem witness_CopiesAndInputs :
    (running.up .a = true ∧ running.hasRegion 2 = true ∧ ((running.lane .a).vot.agreedOf copyB.key).isSome = false ∧
      ((running.lane .a).vot.waitingOf copyB.key).isSome = false) ∧
    (((running.modVot .a (fun v => { v with agreed := [agreedB] })).lane .a).vot.agreedOf copyB.key).isSome = true ∧
    (InputMsg.lane ⟨.b, 0, [], [], [], 0, [], 0, 0, 0, 0, 0, 0, 0⟩ ≠ .a) ∧ running.synced .a = false := by
  decide +kernel

theorem witness_Votes : ((3 : Int) - 5).natAbs ≤ 2 ∧ ((3 : Int) - 6).natAbs > 2 ∧ ((3 : Int) - 4).natAbs ≤ 1 ∧ ((6 : Int) - 4).natAbs > 1 ∧
    (anVote [3, 9, 5] 0 0 none false 0 false).val = 5 := by decide

/-! ### The staff -/

/-- A STAFF message. -/
def staffMsg (kind sender subject epoch : Nat) : StaffMsg := ⟨kind, sender, subject, epoch, 5, 0, 0⟩

/-- Lane A has a frame of lanes B and C in service, and B has seen it as holder of epoch 4. -/
def peers : State := running.modVot .a (fun v => { v with frameB := some (frame 2), frameC := some (frame 3) })

def underB : State := put peers [(1, STF_HOLDER, 0, 2), (1, STF_EPOCH, 0, 4), (1, INT_SYNCED, 0, 1)]

theorem witness_StaffMessagesAtALane :
    (underB.up .a = true ∧ (staffMsg 1 2 0 4).sender = LaneId.b.reg ∧ underB.renewValid .a (staffMsg 1 2 0 4) = true ∧
      (staffMsg 1 2 0 4).epoch = underB.rd 1 STF_EPOCH ∧ underB.renewValid .a (staffMsg 1 3 0 5) = true ∧ underB.rd 1 STF_EPOCH < 5 ∧
      underB.rdB 1 STF_S_SILENT = false ∧ underB.renewValid .a (staffMsg 1 3 0 4) = false) ∧
    (underB.voting .a .a = true ∧ (staffMsg 3 2 2 4).epoch ≠ underB.rd 1 STF_EPOCH + 1 ∧ (staffMsg 3 2 2 5).epoch = underB.rd 1 STF_EPOCH + 1 ∧
      (put underB [(1, STF_RESERVED, 0, 2)]).rd 1 STF_RESERVED = LaneId.b.reg ∧ underB.rd 1 STF_RESERVED ≠ LaneId.b.reg) ∧
    ((put underB [(1, STF_RELINQ, 2, 1)]).eligible .a .b = false ∧ underB.eligible .a .b = true ∧ underB.lowestEligible .a ≠ some .b ∧
      (put underB [(1, STF_RELINQ, 1, 1)]).lowestEligible .a = some .b ∧ (put underB [(1, STF_RELINQ, 1, 1)]).eligible .a .b = true) ∧
    (let s := put underB [(1, STF_STATE, 0, 0)]
     s.up .a = true ∧ s.vstate .a = 0 ∧ s.rd 1 STF_EPOCH = 4 ∧ s.rd 1 STF_HOLDER = 2 ∧ s.rdB 1 INT_REJOINING = false ∧ s.rdB 1 PWR_CREEP_WOKE = false) ∧
    (put underB [(1, STF_CLAIMING, 0, 1)]).rdB 1 STF_CLAIMING = true ∧
    (let s := put underB [(1, STF_WAIT_ON, 0, 1)]
     s.rd 1 STF_EPOCH = 4 ∧ s.rd 1 STF_HOLDER ≠ 0 ∧ s.rdB 1 STF_WAIT_ON = true) := by
  decide +kernel

theorem witness_StaffChangesHands :
    (let s := put peers [(1, STF_HOLDER, 0, 1), (1, STF_EPOCH, 0, 4)]
     s.up .a = true ∧ (staffMsg 2 8 1 4).sender = 8 ∧ s.rdB 1 STF_CLAIMING = false ∧ s.rd 1 STF_HOLDER = LaneId.a.reg ∧ s.rd 1 STF_EPOCH = 4) ∧
    (underB.rdB 1 STF_CLAIMING = false ∧ underB.rd 1 STF_HOLDER ≠ 1 ∧ underB.rd 1 STF_EPOCH < 5 ∧ (staffMsg 2 8 3 5).subject ≠ 1) ∧
    (let s := put peers [(1, STF_CLAIMING, 0, 1), (1, STF_EPOCH, 0, 2 ^ 32 - 2), (1, STF_S_SILENT, 0, 1), (1, STF_S_AGREE, 0, 4)]
     s.up .a = true ∧ s.rdB 1 STF_CLAIMING = true ∧ (staffMsg 4 2 1 (2 ^ 32 - 1)).epoch = s.rd 1 STF_EPOCH + 1 ∧ s.rd 1 STF_EPOCH + 1 < 2 ^ 32 ∧
      s.rdB 1 STF_S_SILENT = true ∧ (∀ y ∈ s.otherVoting .a, y.reg = s.lastHolder .a ∨ y = .b ∨ bit (s.rd 1 STF_S_AGREE) y.idx = true) ∧
      2 ≤ s.handoverCause .a ∧ (put s [(1, STF_WAIT_ON, 0, 1)]).rdB 1 STF_WAIT_ON = true ∧ (put s [(1, STF_CAUSE, 0, 1)]).handoverCause .a ≤ 1) ∧
    peers.rdB 1 STF_S_SILENT = false ∧
    (underB.rd 1 STF_HOLDER = 2 ∧ underB.eligible .a .a = true ∧ (staffMsg 6 2 3 4).subject ≤ 8 ∧ (staffMsg 6 2 3 4).subject ≠ 1 ∧
      (put underB [(1, STF_RESERVED, 0, 3)]).rd 1 STF_RESERVED = 3) ∧
    ((staffMsg 6 2 1 4).sender = underB.rd 1 STF_HOLDER ∧ (staffMsg 6 2 1 4).subject = LaneId.a.reg ∧ (staffMsg 6 2 1 4).epoch = underB.rd 1 STF_EPOCH ∧
      underB.rdB 1 STF_CLAIMING = false ∧ underB.rdB 1 STF_S_SILENT = false) ∧
    (let s := put underB [(1, STF_HOLDER, 0, 0), (1, STF_PREV, 0, 2), (1, STF_CAUSE, 0, 1)]
     s.up .a = true ∧ s.rd 1 STF_HOLDER = 0 ∧ (staffMsg 6 2 3 4).sender = s.rd 1 STF_PREV ∧ (staffMsg 6 2 3 4).epoch = s.rd 1 STF_EPOCH ∧
      s.rd 1 STF_CAUSE = 1) := by
  decide +kernel

/-- S with the lease of lane A's epoch 4 running. -/
def leaseA : State := put running [(8, S_STF_EXCLUDED, 0, 0), (8, STF_COUNT_ON, 0, 1), (8, S_STF_HOLDER, 0, 1), (8, S_STF_EPOCH, 0, 4)]

theorem witness_StaffAtS :
    (leaseA.sUp = true ∧ leaseA.excl 1 = false ∧ leaseA.sdie.staff = {} ∧ (staffMsg 1 1 0 4).lease < 256 ∧ leaseA.rdB 8 STF_COUNT_ON = true ∧
      leaseA.rd 8 S_STF_HOLDER = 1 ∧ leaseA.rd 8 S_STF_EPOCH = 4) ∧
    (leaseA.rd 8 S_STF_HOLDER ≠ 2 ∧ (staffMsg 3 2 2 4).epoch ≠ leaseA.rd 8 S_STF_EPOCH + 1 ∧ (staffMsg 3 2 2 5).epoch = leaseA.rd 8 S_STF_EPOCH + 1) ∧
    (let s := put leaseA [(8, STF_COUNT_ON, 0, 0)]
     s.rdB 8 STF_COUNT_ON = false ∧ (∀ y ∈ s.lanesOf, s.votingS y = true → y = .b ∨ y.reg = s.rd 8 STF_PREV) ∧
      s.rd 8 STF_LEASE_MS = 0 ∧ (put s [(8, STF_LEASE_MS, 0, 50)]).rd 8 STF_LEASE_MS < 256) ∧
    (let c := staffMsg 3 2 2 5
     let s : State := { put leaseA [(8, STF_COUNT_ON, 0, 0), (8, STF_CLAIM_AT, 0, 100)] with
      sdie := { frameA := some (frame 1), frameC := some (frame 3), staff := ⟨some c, false, [3]⟩ } }
     s.sdie.staff.claim = some c ∧ s.excl 1 = false ∧ s.excl c.sender = false ∧ 200100 ≤ s.rd 8 STF_CLAIM_AT + 200000 ∧
      200101 > s.rd 8 STF_CLAIM_AT + 200000 ∧ s.rdB 8 STF_COUNT_ON = false ∧
      (∀ y ∈ s.lanesOf, s.votingS y = true → y = .a ∨ y.reg = c.sender ∨ y.reg = s.rd 8 STF_PREV ∨ y.reg ∈ s.sdie.staff.agrees)) ∧
    ((leaseA.rd 8 FCL_REACT 6).testBit 2 = false ∧ (leaseA.rd 8 FCL_REACT 6).testBit 3 = false) ∧
    (put running [(8, S_STF_EXCLUDED, 0, 2)]).excl LaneId.b.reg = true := by
  decide +kernel

theorem witness_StaffTimes :
    (underB.up .a = true ∧ underB.renewValid .a (staffMsg 1 2 0 4) = true ∧ (staffMsg 1 2 0 4).epoch = underB.rd 1 STF_EPOCH) ∧
    (let s := put peers [(1, STF_HOLDER, 0, 1), (1, STF_EPOCH, 0, 4)]
     s.up .a = true ∧ (staffMsg 2 8 1 4).sender = 8 ∧ (staffMsg 2 8 1 4).subject = LaneId.a.reg ∧ s.rd 1 STF_HOLDER = LaneId.a.reg ∧ s.rd 1 STF_EPOCH = 4) ∧
    (let s := put underB [(1, STF_CLAIMING, 0, 1), (1, STF_WAIT_ON, 0, 1)]
     s.rdB 1 STF_CLAIMING = true ∧ (staffMsg 5 8 1 5).subject = LaneId.a.reg ∧ (staffMsg 5 8 1 5).epoch = s.rd 1 STF_EPOCH + 1 ∧
      (staffMsg 9 8 2 4).epoch = s.rd 1 STF_EPOCH ∧ s.rd 1 STF_HOLDER ≠ 0 ∧ s.rdB 1 STF_WAIT_ON = true) ∧
    (leaseA.sUp = true ∧ leaseA.sdie.staff = {} ∧ leaseA.rdB 8 STF_COUNT_ON = true ∧ (leaseA.rd 8 FCL_REACT 6).testBit 2 = false ∧
      (leaseA.rd 8 FCL_REACT 6).testBit 3 = false) ∧
    (let s := put peers [(1, STF_HOLDER, 0, 1), (1, STF_WAIT_ON, 0, 1)]
     s.up .a = true ∧ s.rd 1 STF_HOLDER = 1 ∧ s.rdB 1 STF_WAIT_ON = true) ∧
    (let s := put underB [(1, STF_WAIT_ON, 0, 1), (1, STF_RELINQ, 1, 1)]
     s.rdB 1 STF_WAIT_ON = true ∧ s.rd 1 STF_HOLDER ≠ 1 ∧ s.lowestEligible .a ≠ some .a ∧ s.rd 1 STF_RESERVED ≠ 1) ∧
    (underB.lowestEligible .a = some .a ∧ underB.rd 1 STF_RESERVED = 0 ∧ underB.rdB 1 STF_CLAIMING = false ∧ underB.rdB 1 STF_S_SILENT = false) ∧
    (put running [(1, STF_RENEW_OPEN, 0, 1)]).rdB 1 STF_RENEW_OPEN = true ∧ running.rdB 1 STF_MAY_CLAIM = false ∧
    (running.echoClear .a = true ∧ (running.rd 1 FCL_REACT 19).testBit 2 = false ∧ (running.rd 1 FCL_REACT 19).testBit 3 = false ∧
      sourceListed 1 19 = true ∧ running.rd 1 FCL_MASKED (ownerOf 1 19) = 0 ∧ running.rd 1 FAB_PHASE ≠ 2) ∧
    (let s := put running [(1, STF_STATE, 0, 3), (1, INT_LEFT_FRAMES, 0, 2)]
     s.up .a = true ∧ s.vstate .a = 3 ∧ 2 ≤ s.rd 1 INT_LEFT_FRAMES ∧ s.rd 1 BST_STATE ≠ 1 ∧ (put s [(1, BST_STATE, 0, 1)]).rd 1 BST_STATE = 1 ∧
      (put s [(1, BST_STATE, 0, 1)]).up .a = true) := by
  decide +kernel

/-- A waybill's opcode is performed: the four parts of `Performs`. -/
def performs (s : State) (l : LaneId) (h : Hdr) (opcode : Nat) : Bool :=
  s.pairUp l && (flagCheck h opcode).isNone && (s.busyCheck l h opcode).isNone && (s.modeCheck l opcode).isNone

theorem performs_iff (s : State) (l : LaneId) (h : Hdr) (opcode : Nat) : performs s l h opcode = true ↔ Performs s l h opcode := by
  simp [performs, Performs, and_assoc]

/-- The same header with VOTED. -/
def vhdr (region block : Nat) : Hdr := { hdr region block with voted := true }

theorem witness_StaffOpcodes :
    (let s := put underB [(1, STF_RESERVED, 0, 2)]
     s.up .a = true ∧ (staffMsg 3 2 2 5).sender = LaneId.b.reg ∧ s.voting .a .a = true ∧ (staffMsg 3 2 2 5).epoch = s.rd 1 STF_EPOCH + 1 ∧
      s.rd 1 STF_RESERVED = LaneId.b.reg) ∧
    (let s := put underB [(1, STF_CLAIMING, 0, 1)]
     (staffMsg 4 2 1 5).subject = LaneId.a.reg ∧ (staffMsg 4 2 1 5).epoch = s.rd 1 STF_EPOCH + 1 ∧ s.rdB 1 STF_CLAIMING = true ∧
      s.rdB 1 STF_S_SILENT = false) ∧
    ((staffMsg 6 2 3 4).sender = underB.rd 1 STF_HOLDER ∧ (staffMsg 6 2 3 4).epoch = underB.rd 1 STF_EPOCH ∧ underB.rdB 1 STF_CLAIMING = false ∧
      underB.rdB 1 STF_S_SILENT = false ∧ (staffMsg 6 2 3 4).subject ≤ 8 ∧ (put underB [(1, STF_RESERVED, 0, 3)]).rd 1 STF_RESERVED = 3 ∧
      (staffMsg 8 2 2 4).subject = LaneId.b.reg) ∧
    (let s := put underB [(1, STF_HOLDER, 0, 1), (1, STF_COUNT_ON, 0, 1)]
     performs s .a (vhdr 1 4) 0x0401 = true ∧ s.chkStaffRequest .a 2 = none ∧ s.rd 1 STF_HOLDER = 1 ∧ performs s .a (hdr 1 4) 0x0402 = true ∧
      s.staffOk .a = true ∧ performs s .a (vhdr 1 4) 0x0404 = true ∧ s.chkExcludeLane .a 2 = none ∧ s.chkExcludeLane .a 1 = none ∧ s.vstate .a < 3) ∧
    (underB.chkStaffRequest .a 2 = none ∧ underB.rd 1 STF_HOLDER ≠ 1) ∧
    (let s := put underB [(1, STF_STATE, 0, 1)]
     performs s .a (vhdr 1 4) 0x0403 = true ∧ s.chkRejoin .a 1 = none) ∧
    (underB.modVot .a (fun v => { v with frameB := some { frame 2 with vstate := 1 } })).chkRejoin .a 2 = none := by
  decide +kernel

/-- No reset of a block or a region is among the reactions of a source: the first part of `NoReset`. -/
def mild (s : State) (r src : Nat) : Bool := !(s.rd r FCL_REACT src).testBit 2 && !(s.rd r FCL_REACT src).testBit 3

theorem mild_noReset (s : State) (r src : Nat) (h : mild s r src = true) : NoReset s r src := by
  simp [mild] at h
  exact .inl h

/-- An error wire that is judged, as a test. -/
def judged (s : State) (r src : Nat) : Bool :=
  s.hasRegion r && sourceListed r src && s.rd r FCL_MASKED (ownerOf r src) == 0 && s.rd r FAB_PHASE != 2

theorem judged_judged (s : State) (r src : Nat) (h : judged s r src = true) : Judged s r src := by
  simp [judged] at h
  exact ⟨h.1.1.1, h.1.1.2, h.1.2, h.2⟩

theorem witness_NoReset_leaving : NoReset (put running [(1, STF_STATE, 0, 3)]) 1 0 := .inr (by decide +kernel)

/-- A state transfer with lists of the lengths that are loaded. -/
def xfer : StateXfer :=
  ⟨2, 4, 5, 0, [], List.replicate 8 0, List.replicate 3 0, 0, [], ⟨[], 0, 0, 0, false, 0, 0⟩, [5], [2], 0, 0, List.replicate 5 (0, 0), 9⟩

/-- Lane A is out and hears its peers. -/
def outA : State := put peers [(1, STF_STATE, 0, 4), (1, INT_SYNCED, 0, 1)]

/-- A second transfer of a source without sections and controllers, for the base period a reset lane is in. -/
def secondXfer : LoopXfer := ⟨(put running [(1, STF_STATE, 0, 0)]).baseNumber .a, [], 7 :: List.replicate 47 0, List.replicate 5 (0, 0), []⟩

theorem witness_Rejoin :
    (outA.up .a = true ∧ outA.vstate .a = 4 ∧ outA.synced .a = true ∧ outA.rdB 1 STF_STAY_OUT = false ∧ outA.rdB 1 STF_XFER_ON = false ∧
      outA.liveHeard .a ≠ [] ∧ outA.rd 1 LSC_STATE ≠ 3 ∧ outA.linksBack .a = true ∧ (put outA [(1, STF_LINK_OUT, 0, 2)]).linksBack .a = false) ∧
    (peers.vstate .a = 2 ∧ (put peers [(1, STF_HOLDER, 0, 1)]).rd 1 STF_HOLDER = 1 ∧ underB.rd 1 STF_HOLDER ≠ 0 ∧ underB.rd 1 STF_HOLDER ≠ 3 ∧
      underB.rd 1 STF_HOLDER ≠ 1) ∧
    (let s := put outA [(1, STF_XFER_ON, 0, 1)]
     s.up .a = true ∧ s.rdB 1 STF_XFER_ON = true ∧ xfer.anFailed.length = 8 ∧ xfer.diFailed.length = 3 ∧ xfer.targets.length = 5 ∧ 15001 > 15000 ∧
      s.rd 1 STF_STEP_FAIL 2 < 2 ∧ xferCheck xfer + 1 ≠ xferCheck xfer ∧
      (put s [(1, STF_STEP_FAIL, 2, 2)]).rd 1 STF_STEP_FAIL 2 = 2 ∧ (put s [(1, STF_STEP_FAIL, 2, 2)]).quietLane 1 = true ∧
      judged s 1 12 = true) ∧
    (let s := put peers [(1, STF_STATE, 0, 0)]
     s.up .a = true ∧ s.vstate .a = 0 ∧ s.rdB 1 STF_ENTER = false ∧ s.rdB 1 STF_SHADOW_BAD = false ∧ s.digestSame .a = true ∧ s.setsValid .a = true ∧
      ({ s with now := 10 ^ 10 } : State).rd 1 STF_SHADOW_AT + 1000000 * s.rd 1 STF_SHADOW_TIME ≤ 10 ^ 10 ∧ s.rd 1 STF_STEP_FAIL 3 < 2) ∧
    (let s := put (running.modVot .a (fun v => { v with frameB := some { frame 2 with vstate := 0 } })) [(1, STF_HOLDER, 0, 1)]
     s.seen .a .b = 0 ∧ s.rpcOn .a = [] ∧ s.rd 1 STF_HOLDER = 1 ∧ s.vstate .a = 2 ∧
      (put s [(1, STF_HOLDER, 0, 0), (1, STF_STATE, 0, 1)]).vstate .a = 1) ∧
    (let s := put (running.modLane .a (fun y => { y with loopLoad := some secondXfer })) [(1, STF_STATE, 0, 0)]
     s.up .a = true ∧ s.vstate .a = 0 ∧ (s.lane .a).loopLoad = some secondXfer ∧ s.baseNumber .a = secondXfer.period ∧
      (put s [(1, INT_PERIOD, 0, 1)]).baseNumber .a ≠ secondXfer.period ∧ secondXfer.secs = [] ∧ secondXfer.rpc = [] ∧ secondXfer.sat.length = 48 ∧
      secondXfer.targets.length = 5) := by
  decide +kernel

theorem witness_Formation :
    ((frame 2).region = LaneId.b.reg ∧ LaneId.b ≠ .a ∧ running.hasRegion 2 = true ∧ running.vstate .a ≠ 4 ∧ running.rdB 1 STF_S_SILENT = false ∧
      running.slotState .a (running.actSlot .a) ≠ 3 ∧ (put running [(1, VOT_DIG_DONE, 2, 1)]).rdB 1 VOT_DIG_DONE 2 = true) ∧
    (running.sUp = true ∧ (frame 1).region = LaneId.a.reg ∧ running.hasRegion LaneId.a.reg = true ∧ ({ frame 1 with vstate := 0 } : ExchFrame).vstate = 0 ∧
      (∃ x ∈ running.lanesOf, x ≠ .a ∧ running.shadowS x = false)) ∧
    bit (SEcho.excluded ⟨1, 0, 0, 0, 2⟩) LaneId.a.idx = false ∧
    (let s := put running [(8, S_STF_EXCLUDED, 0, 0)]
     s.sUp = true ∧ s.excl LaneId.a.reg = false ∧ s.rd 8 S_STF_HOLDER ≠ LaneId.a.reg) ∧
    (let s := put running [(1, INT_SYNCED, 0, 1), (1, TWL_STATE, 0, 4), (1, STF_STATE, 0, 0), (1, STF_ENTER, 0, 1), (1, VOT_NET_LIMIT, 0, 3), (1, SIO_RESET_SRC, 0, 0)]
     s.up .a = true ∧ s.twlEvents .a = true ∧ s.vstate .a = 0 ∧ s.rdB 1 STF_ENTER = true ∧
      s.rd 1 STF_ENTER_AT + 1000 * s.rd 1 VOT_VOTE_CUTOFF < 10 ^ 9 ∧ s.rdB 1 INT_REJOINING = false ∧ s.rdB 1 PWR_CREEP_WOKE = false ∧
      (s.lane .a).vot.copies = [] ∧ (s.lane .a).vot.minority = [] ∧ s.rd 1 VOT_NET_LIMIT ≠ 0 ∧ bit (s.rd 1 SIO_RESET_SRC) 0 = false ∧
      s.rd 1 PWR_STATE ≠ 4) ∧
    (let s := put running [(1, STF_STATE, 0, 4), (1, INT_SYNCED, 0, 1)]
     s.up .a = true ∧ s.vstate .a = 4 ∧ s.synced .a = true ∧ s.rdB 1 STF_STAY_OUT = false ∧ s.rdB 1 STF_XFER_ON = false ∧ s.linksBack .a = true ∧ s.liveHeard .a = [] ∧
      s.rd 1 LSC_STATE ≠ 3) ∧
    (let s : State := { put running [(8, STF_FORM_ON, 0, 1)] with sdie := { frameA := some { frame 1 with vstate := 0 } } }
     s.sUp = true ∧ s.mayForm = true ∧ s.rdB 8 STF_FORM_ON = true ∧ (∀ l ∈ LaneId.all, s.rdB l.reg STF_S_SILENT = false) ∧
      ∃ l ∈ s.lanesOf, s.shadowS l = true) ∧
    (let s := put running [(8, INT_POWERED, 0, 0), (1, STF_STATE, 0, 0), (1, STF_S_SILENT, 0, 1)]
     s.sUp = false ∧ s.up .a = true ∧ s.vstate .a = 0 ∧ s.rdB 1 STF_S_SILENT = true ∧
      (∀ x ∈ LaneId.all, x ≠ .a → s.rdB x.reg STF_S_SILENT = false) ∧ s.rd 1 STF_EPOCH = 0 ∧ s.liveHeard .a = [] ∧ s.rdB 1 STF_ENTER = false ∧
      s.shadowSeen .a = [.a]) ∧
    (put running [(8, INT_POWERED, 0, 0)]).sUp = false := by
  decide +kernel

theorem witness_Lockstep :
    (let s := put running [(1, LSC_STATE, 0, 2)]
     s.up .a = true ∧ s.hasRegion 1 = true ∧ s.rdB 1 INT_POWERED = true ∧ s.rd 1 FAB_PHASE ≠ 2 ∧ s.rd 1 LSC_STATE = 2 ∧
      (∀ g ∈ [511, 0], g < 512) ∧ s.vstate .a < 3 ∧ judged s 1 0 = true ∧
      (s.rd 1 FCL_REACT 0).testBit 3 = true ∧ s.quietLane 1 = false ∧ bit (s.rd 1 FCL_ERR_STATUS) 0 = false ∧
      (put s [(1, STF_STATE, 0, 3)]).vstate .a ≥ 3 ∧ (put s [(1, STF_STATE, 0, 3)]).up .a = true ∧
      (put s [(1, STF_STATE, 0, 4), (1, FAB_PHASE, 0, 0)]).up .a = false ∧ (put s [(1, STF_STATE, 0, 4), (1, FAB_PHASE, 0, 0)]).vstate .a ≥ 3) ∧
    running.rd 1 LSC_STATE ≠ 2 ∧
    ((put running [(1, LSC_STATE, 0, 2)]).pairRuns .a = true ∧ 63 < 64 ∧ ((running.lane .a).syncTimes.filter (fun e => decide (e.2 + 1000000000 > 0) && e.1 == 63)).length + 1 < running.rd 1 LSC_SYNC_DIFF_LIMIT ∧
      (put running [(1, LSC_SYNC_DIFF_LIMIT, 0, 1)]).rd 1 LSC_SYNC_DIFF_LIMIT ≤ 1 ∧ mild running 1 1 = true ∧ judged running 1 1 = true) := by
  decide +kernel

/-- Lane A's first bridge in a state of CMT. -/
def bridge0 (st : Nat) : State := put running [(1, CMT_STATE, 0, st), (1, CMT_CART, 0, 0)]

theorem witness_DriveOpcodes :
    (let s := bridge0 0
     performs s .a (vhdr 1 0x10) 0x0210 = true ∧ s.chkStart .a 1 0 = none ∧ s.vstate .a ≠ 0 ∧ s.rd 1 CLK_POINT = 0 ∧
      s.rd 1 CMT_STATE 0 = 0 ∧ s.rdB 4 GDR_PRE_ON 0 = false ∧ s.bootReady .a 0 = false ∧
      (put s [(4, GDR_BOOT_READY, 0, 7)]).bootReady .a 0 = true ∧ (put s [(4, GDR_BOOT_READY, 0, 7)]).chkStart .a 1 0 = none ∧
      performs (put s [(1, STF_STATE, 0, 0)]) .a (vhdr 1 0x10) 0x0210 = true ∧ (put s [(1, CLK_POINT, 0, 1)]).chkStart .a 1 0 = none ∧
      performs (put s [(1, CLK_POINT, 0, 1)]) .a (vhdr 1 0x10) 0x0210 = true) ∧
    (let s := put (bridge0 0) [(4, GDR_VGD_BAD, 0, 1)]
     performs s .a (vhdr 1 0x10) 0x0210 = true ∧ s.gatesReady .a = false ∧ s.cannotStart .a 0 = false ∧ s.tooMany .a 1 = false ∧
      (put (bridge0 0) [(4, FAB_PHASE, 0, 0)]).gatesReady .a = false) ∧
    ((bridge0 1).chkStart .a 1 0 = none ∧ (bridge0 2).chkStart .a 1 0 = none ∧ (bridge0 3).chkStart .a 1 0 = none) ∧
    (let s := put (bridge0 4) [(1, OBS_ENC_SRC, 0, 0), (1, FBI_FLAGS, 0, 1)]
     s.chkStart .a 1 0 = none ∧ s.rd 1 CMT_STATE 0 = 4 ∧ (s.lane .a).bridges.length = 6 ∧ performs s .a (vhdr 1 0x10) 0x0210 = true) ∧
    (performs (bridge0 2) .a (vhdr 1 0x10) 0x0211 = true ∧ (bridge0 2).chkStop .a 1 0 = none ∧ (bridge0 2).chkStop .a 1 1 = none ∧
      ((bridge0 2).bridge .a 0).ramp = none) ∧
    (((bridge0 2).modBridge .a 0 (fun x => { x with ramp := some 0 })).bridge .a 0).ramp.isSome = true := by
  decide +kernel

/-- Bridge 0 of lane A in CAPTURE, a capture of one sample long, with one sample of a back-EMF. -/
def tracked (e : Rat) (clip : Bool) : State :=
  (put (bridge0 1) [(1, OBS_CAP_MAX, 0, 1), (1, OBS_CAP_EMF_MIN, 0, 1000)]).modBridge .a 0 (fun x => { x with track := [⟨100, e, 0, clip⟩] })

theorem witness_CaptureAndFallback :
    ((bridge0 1).up .a = true ∧ (bridge0 1).rd 1 CMT_STATE 0 = 1 ∧ ((bridge0 1).tracking .a 0).covers = false ∧ (bridge0 1).encUsable .a 0 = false ∧
      (bridge0 1).rdB 1 OBS_CAP_TRY 0 = false ∧ (put (bridge0 1) [(1, OBS_CAP_TRY, 0, 1)]).rdB 1 OBS_CAP_TRY 0 = true ∧
      mild (bridge0 1) 1 28 = true ∧ judged (bridge0 1) 1 28 = true ∧
      (put (bridge0 1) [(1, OBS_ENC_SRC, 0, 0), (1, FBI_FLAGS, 0, 1)]).encUsable .a 0 = true) ∧
    (let r := (tracked 100 false).tracking .a 0; r.covers = true ∧ r.cls = 1) ∧ (let r := (tracked 0 false).tracking .a 0; r.covers = true ∧ r.cls = 2) ∧
    (let r := (tracked 100 true).tracking .a 0; r.covers = true ∧ r.cls = 3) ∧
    (let w : List TrackPt := [⟨0, 3, 4, false⟩]
     2 * (w.filter TrackPt.clip).length ≤ w.length ∧ w ≠ [] ∧ (w.all (fun p => decide ((5 : Rat) * 5 ≤ p.ea * p.ea + p.eb * p.eb)) = true) ∧
      (w.all (fun p => decide (p.ea * p.ea + p.eb * p.eb < (6 : Rat) * 6)) = true) ∧ ((132560 : Rat) * 32400 ≤ 4294967296) ∧
      ((4294967296 : Rat) < 132562 * 32400) ∧ ([(⟨0, 3, 4, true⟩ : TrackPt)].length < 2 * ([(⟨0, 3, 4, true⟩ : TrackPt)].filter TrackPt.clip).length)) ∧
    (let s := put (bridge0 0) [(4, GDR_PRE_ON, 0, 1)]
     s.on 4 = true ∧ s.rdB 4 GDR_PRE_ON 0 = true ∧ s.up .a = true ∧ (put s [(1, FAB_PHASE, 0, 0)]).up .a = false ∧ (put s [(1, FAB_PHASE, 0, 0)]).on 4 = true) ∧
    (let s := put (bridge0 2) [(1, OBS_SRC, 0, 3), (1, OBS_ALIGN, 0, 1)]
     s.rd 1 CMT_STATE 0 = 2 ∧ s.rd 1 OBS_SRC 0 = 3 ∧ mild s 1 27 = true ∧ judged s 1 27 = true ∧ s.rdB 1 OBS_ALIGN 0 = true) ∧
    (polarity [(1000, 999), (203, 197)] = some true ∧ polarity [(1000, 999)] = none ∧ polarity [] = none ∧
      200 * (203 - 197) ≥ 3 * (203 + 197) ∧ 197 < 203) ∧
    ((bridge0 0).rd 1 CMT_STATE 0 = 0 ∧ (bridge0 0).rdB 4 GDR_PRE_ON 0 = false) := by
  decide +kernel

/-- Bridge 5 of lane A switched since 1 µs, its last switch on from 16 to 1,000 steps. -/
def switched : State :=
  (put running [(4, GDR_GATES, 5, 1), (4, GDR_DESAT_BLANK, 5, 10), (4, GDR_LOAD_AT, 5, 1000)]).modBridge .a 5 (fun x => { x with cur := [⟨5, 16, 1000, 160⟩] })

theorem witness_GateTrips :
    ((switched.lane .a).bridges.length = 6 ∧ switched.on 4 = true ∧ 35 < 36 ∧ switched.latchedB .a 5 = false ∧ switched.swOn .a 5 5 1400 = true ∧ (switched.lane .a).bridges.length = 6 ∧
      mild switched 4 0 = true ∧ mild switched 4 3 = true ∧ judged switched 4 3 = true ∧ switched.blanked .a 5 5 1400 = false ∧
      switched.blanked .a 5 5 1259 = true ∧ switched.rd 4 GDR_GATES 5 ≠ 2 ∧ switched.rd 4 GDR_LEG_PH 5 = 0) ∧
    (let s := put switched [(4, GDR_LEG_PH, 5, 1), (4, GDR_LEG_AT, 5, 400)]
     s.swOn .a 5 5 1400 = true ∧ s.rd 4 GDR_LEG_PH 5 ≠ 0 ∧ s.rd 4 GDR_LEG_PH 5 ≠ 5 / 2 + 1 ∧ 1400 ≤ s.rd 4 GDR_LEG_AT 5 + 1000) ∧
    ((put switched [(4, GDR_REPEAT_LIMIT, 0, 1)]).rd 4 GDR_REPEAT_LIMIT = 1 ∧ (put switched [(4, GDR_GATES, 5, 2)]).swOn .a 5 5 1400 = true ∧
      1 < switched.rd 4 GDR_REPEAT_LIMIT) ∧
    (switched.swOn .a 5 5 1700 = false ∧ switched.falling .a 5 5 1700 = true ∧ switched.blanked .a 5 5 1700 = false ∧
      (put switched [(4, GDR_LEG_PH, 5, 1), (4, GDR_LEG_AT, 5, 700)]).falling .a 5 5 1700 = true ∧
      (put switched [(4, GDR_LEG_PH, 5, 1), (4, GDR_LEG_AT, 5, 700)]).swOn .a 5 5 1700 = false ∧
      switched.falling .a 5 5 1800 = false ∧ switched.swOn .a 5 5 1800 = false) ∧
    (let s := put switched [(4, GDR_GATES, 5, 0), (4, GDR_LATCHED, 5, 64), (4, GDR_TWO, 5, 2), (4, GDR_LEG_PH, 5, 1), (4, GDR_LEG_AT, 5, 400), (4, GDR_LATCH_ON, 5, 32)]
     bit (s.rd 4 GDR_LATCH_ON 5) 5 = true ∧ bit (s.rd 4 GDR_LATCH_ON 5) 4 = false ∧ s.thirdLeg .a 5 2 1400 = true ∧ s.softOff .a 5 5 = false ∧ s.rd 4 GDR_GATES 5 = 0 ∧ s.blanked .a 5 5 1400 = false ∧
      s.latchedB .a 5 = true ∧ s.thirdLeg .a 5 2 1401 = false) := by
  decide +kernel

theorem witness_GateTrips_shorts :
    (17 < 18 ∧ switched.rd 4 GDR_GATES (17 / 3) ≠ 0 ∧ switched.latchedB .a (17 / 3) = false ∧ switched.swOn .a (17 / 3) (2 * (17 % 3) + 1) 1400 = true ∧
      switched.swOn .a (17 / 3) (2 * (17 % 3)) 1700 = false ∧ switched.swOn .a (17 / 3) (2 * (17 % 3) + 1) 1700 = false ∧
      switched.lastFallen .a 5 2 1700 = some 5 ∧ switched.softOff .a 5 4 = false ∧ switched.softOff .a 5 5 = false ∧
      switched.secondLeg .a 5 2 1700 = false ∧ (put switched [(4, GDR_SW, 35, 1)]).softOff .a (17 / 3) (2 * (17 % 3) + 1) = true ∧
      (put running [(4, GDR_GATES, 5, 1)]).lastFallen .a 5 2 1700 = none ∧
      ((switched.bridge .a 5).trips.filter (fun e => e.1 == 5)).length + 1 < switched.rd 4 GDR_REPEAT_LIMIT) ∧
    (let s := put running [(4, GDR_SW, 35, 1)]
     s.rd 4 GDR_SW 35 = 1 ∧ s.rd 4 GDR_TWO 5 = 0 ∧ (put s [(4, GDR_TWO, 5, 3)]).rd 4 GDR_TWO 5 = 35 % 6 / 2 + 1 ∧
      (put s [(4, GDR_TWO, 5, 1)]).rd 4 GDR_TWO 5 ≠ 35 % 6 / 2 + 1) ∧
    ((put running [(4, GDR_SW, 35, 2)]).rd 4 GDR_SW 35 = 2 ∧ running.rd 4 GDR_SW 35 = 0) ∧
    (let s : State := { put switched [(4, GDR_SW, 34, 2), (4, GDR_TRIP_AT, 34, 500)] with now := 1400 }
     let r := s.lastRise .a 5 (partner 4) (s.now + 50)
     s.rd 4 GDR_SW 34 = 2 ∧ s.rd 4 GDR_GATES 5 = 1 ∧ s.rd 4 GDR_SW (swNum 5 (partner 4)) = 0 ∧ r ≠ 0 ∧ s.rd 4 GDR_TRIP_AT 34 ≤ r ∧ mild s 4 1 = true ∧
      judged s 4 1 = true ∧ (put s [(4, GDR_GATES, 5, 2)]).rd 4 GDR_GATES 5 ≠ 1) := by
  decide +kernel

theorem witness_GateSupplyAndShort :
    (running.hasRegion 4 = true ∧ running.rdB 4 INT_POWERED = true ∧ mild running 4 5 = true ∧ judged running 4 5 = true ∧
      (bridge0 2).bridgeUsed .a 0 = true ∧ running.bridgeUsed .a 5 = false) ∧
    (let s := put running [(4, GDR_LATCHED, 5, 64)]
     performs s .a (hdr 4 0x20) 0x0102 = true ∧ (64).testBit 6 = true ∧ s.latchedB .a 5 = true ∧ s.rd 4 GDR_GATES 5 ≠ 2 ∧ s.rd 4 GDR_LOW_AT 5 + 1000000 ≤ (s.atTime 1000000).now ∧
      (s.atTime 999999).now < s.rd 4 GDR_LOW_AT 5 + 1000000 ∧ (put s [(4, GDR_GATES, 5, 2)]).rd 4 GDR_GATES 5 = 2 ∧
      ([0, 1, 2, 3, 4].all (fun c => !s.latchedB .a c) = true) ∧
      (63).testBit 6 = false) ∧
    (let s := put running [(4, GDR_GATES, 5, 2), (1, CMT_STATE, 5, 4)]
     s.shortHeld .a 5 = true ∧ s.rdB 4 INT_POWERED = true ∧ s.rdB 4 GDR_ZC_ON 5 = false ∧
      (let u := put s [(4, GDR_ZC_ON, 5, 1)]
       u.rdB 4 GDR_ZC_ON 5 = true ∧ 10 ^ 9 - u.rd 4 GDR_ZC_AT 5 > u.rd 4 GDR_RELEASE_PERIOD 5 * 1000 ∧ 0 - u.rd 4 GDR_ZC_AT 5 ≤ u.rd 4 GDR_RELEASE_PERIOD 5 * 1000 ∧
        u.shortHeld .a 5 = true)) ∧
    (let s := put running [(4, ADC_CAL_EN, 0, 1)]
     41 < 42 ∧ s.rdB 4 ADC_CAL_EN = true ∧ mild s 4 6 = true ∧ judged s 4 6 = true ∧
      (put s [(1, CMT_STATE, 5, 2)]).rd 1 CMT_STATE (41 / 7) ≠ 0) := by
  decide +kernel

/-- General loop 47 of lane A closed, triggered by every Towline cycle start. -/
def loop47 : State := put running [(1, CEN_MODE, 47, 1), (1, CEN_TRIG, 47, 2)]

theorem witness_LoopGroups :
    (running.pairUp .a = true ∧ loop47.eventCount .a 2 0 = some (loop47.cycle .a) ∧ loop47.eventCount .a 2 0 ≠ some (loop47.cycle .a + 1) ∧
      loop47.eventCount .a 3 0 = some (loop47.cycle .a) ∧ (∀ r, r < 8 → running.rdB 1 RPC_EN r = false) ∧ (∀ x ∈ [29, 30, 31, 32], mild running 1 x = true) ∧ judged running 1 30 = true) ∧
    (loop47.trigMatches .a 47 3 0 (loop47.cycle .a) = false ∧ loop47.trigMatches .a 47 2 0 (loop47.cycle .a) = true) ∧
    (loop47.rd 1 CEN_BUSY_AT 47 ≤ 0 * 6 ∧ 0 * 6 < (put loop47 [(1, CEN_BUSY_AT, 47, 9)]).rd 1 CEN_BUSY_AT 47 ∧ running.rd 1 CEN_MODE 47 = 0 ∧
      loop47.rdB 1 CEN_MODE 47 = true ∧ loop47.rd 1 CEN_SEC_NUM 47 = 0 ∧ loop47.rdB 1 CEN_CLOSING 47 = false ∧
      (loop47.atTime 0).condValid .a (loop47.rd 1 CEN_REF_SRC 47) = true ∧ (loop47.atTime 0).condValid .a (loop47.rd 1 CEN_FB_SRC 47) = true) := by
  decide +kernel

/-- Lane A in service as holder of the staff, with its peers in service. -/
def serving : State := put underB [(1, STF_HOLDER, 0, 1), (1, STF_COUNT_ON, 0, 1)]

/-- The same with a bridge for target 1. -/
def driven (s : State) : State := put s [(1, CEN_TGT_BRIDGE, 1, 0), (1, CMT_CART, 0, 0)]

theorem witness_MotionOpcodes :
    (performs running .a (vhdr 1 0x12) 0x0201 = true ∧ (-(running.rd 1 CEN_TGT_MAX 0 : Int)).natAbs ≤ running.rd 1 CEN_TGT_MAX 0 ∧
      ((running.rd 1 CEN_TGT_MAX 0 : Int) + 1).natAbs > running.rd 1 CEN_TGT_MAX 0) ∧
    (let h : Hdr := { vhdr 1 0x12 with urgent := true }
     performs running .a h 0x0202 = true ∧ (h.urgent && running.beforeLatch .a) = true ∧ running.rd 1 CEN_TGT_MAX 1 + 1 > running.rd 1 CEN_TGT_MAX 1) ∧
    (performs running .a (vhdr 1 0x12) 0x0203 = true ∧ running.chkHold .a 15 = none) ∧
    (performs (driven serving) .a (vhdr 1 0x12) 0x0204 = true ∧ (driven serving).chkStaffFn .a (vhdr 1 0x12) = none ∧ bit ((driven serving).rd 1 SIO_TRIP) 8 = false ∧
      (driven serving).chkRelease .a 1 = none ∧ (driven serving).rd 1 STF_HOLDER = 1) ∧
    (performs (driven underB) .a (vhdr 1 0x12) 0x0204 = true ∧ (driven underB).chkStaffFn .a (vhdr 1 0x12) = none ∧
      (driven underB).chkRelease .a 1 = none ∧ (driven underB).rd 1 STF_HOLDER ≠ 1) ∧
    (let s := put serving [(1, SIO_TRIP, 0, 256)]
     performs s .a (vhdr 1 0x12) 0x0204 = true ∧ s.chkStaffFn .a (vhdr 1 0x12) = none ∧ bit (s.rd 1 SIO_TRIP) 8 = true) := by
  decide +kernel

def entry (pos : Int) : TableEntry := ⟨pos, 0, 0, 1, 0⟩

theorem witness_CompareTable :
    (performs running .a (hdr 1 0x16) 0x0301 = true ∧ running.chkTable .a 0 [entry 256] true = none ∧ running.rdB 1 SDC_RET_LOST = false ∧
      (List.replicate 43 (entry 0)).length > 42 ∧ (List.replicate 42 (entry 0)).length ≤ 42) ∧
    (performs running .a (hdr 1 0x16) 0x0302 = true ∧ running.chkTable .a (running.rd 1 SDC_WR_COUNT) [entry 256] false = none) ∧
    (let s := put running [(1, SDC_SENT_REQ, 0, 2 ^ 63)]
     performs s .a (hdr 1 0x16) 0x0305 = true ∧ s.vstate .a ≤ 2 ∧ (2 ^ 63).testBit 63 = true ∧ bit (s.rd 1 SDC_SENT_REQ) 63 = true) ∧
    (bit ((put running [(1, SDC_VOID_CAUSE, 0, 4)]).rd 1 SDC_VOID_CAUSE) 2 = true ∧ bit (running.rd 1 SDC_VOID_CAUSE) 2 = false) := by
  decide +kernel

/-- The trace unit of lane A in a state, with one channel. -/
def trace (st : Nat) : State := put running [(1, TRC_STATE, 0, st), (1, TRC_CH_EN, 0, 1)]

theorem witness_TraceUnit_full_ring (s : State) :
    s.ringRows .a ≤ ((s.modTrc .a (fun x => { x with rows := List.replicate (s.ringRows .a) [] })).lane .a).trc.rows.length := by
  have e : ((s.modTrc .a (fun x => { x with rows := List.replicate (s.ringRows .a) [] })).lane .a).trc.rows = List.replicate (s.ringRows .a) [] := rfl
  simp [e]

theorem witness_TraceUnit :
    (running.up .a = true ∧ running.rdB 1 TRC_DUE = false ∧ (put (trace 1) [(1, TRC_DUE, 0, 1)]).rdB 1 TRC_DUE = true ∧ running.rd 1 TRC_STATE = 0 ∧ (trace 4).rd 1 TRC_STATE = 4 ∧ (trace 1).rd 1 TRC_STATE = 1 ∧ ((trace 1).lane .a).trc.rows.length < (trace 1).ringRows .a) ∧
    (let s := put (trace 5) [(1, TRC_STREAM_STATE, 0, 1)]
     s.rd 1 TRC_STATE = 5 ∧ s.rd 1 TRC_STREAM_STATE = 1) ∧
    (performs (trace 0) .a (hdr 1 0x14) 0x0801 = true ∧ (trace 0).rd 1 TRC_CH_EN ≠ 0 ∧ running.rd 1 TRC_CH_EN = 0 ∧
      performs running .a (hdr 1 0x14) 0x0801 = true) ∧
    (performs (trace 2) .a (hdr 1 0x14) 0x0802 = true ∧ (trace 2).rd 1 TRC_STATE = 2 ∧ running.rd 1 TRC_STATE ≠ 1 ∧ running.rd 1 TRC_STATE ≠ 2) ∧
    (performs running .a (hdr 1 0x14) 0x0803 = true ∧ performs running .a (hdr 1 0x14) 0x0804 = true ∧ (running.lane .a).trc.rows.length ≤ 0 ∧
      0 < ((running.modTrc .a (fun x => { x with rows := [[]] })).lane .a).trc.rows.length ∧ performs running .a (hdr 1 0x14) 0x0805 = true) ∧
    (running.mUp = true ∧ ((running.archive ++ [[1]].map (fun r => toLe 4 (1 + 0) ++ r)).map List.length).sum ≤ 8388608 ∧ running.archUsed + ([[1]].map List.length).sum * 1000 ≤ 24000000 ∧
      (running.archive.map List.length).sum ≤ 8388608 ∧ 24000000 < (put running [(7, TRC_RX_USED, 0, 24000000)]).archUsed + [1].length * 1000) ∧
    (performs running .a (hdr 7 0x14) 0x0806 = true ∧ running.reaches .a .m = true ∧
      (let s := put running [(1, XLK_LINK_STATE, 7, 3)]
       performs s .a (hdr 7 0x14) 0x0806 = true ∧ s.reaches .a .m = false)) := by
  decide +kernel

/-- Channel 7 of lane A in a mode, valid. -/
def channel (ch mode : Nat) : State := put running [(1, FBI_MODE, ch, mode), (1, FBI_STATE, ch, 1)]

theorem witness_PulseInputs :
    (let s := channel 7 3
     s.up .a = true ∧ 7 < 8 ∧ (s.lane .a).fbi.length = 8 ∧ s.fmode .a 7 = 3 ∧ s.rd 1 FBI_EDGE_MIN 7 * 10 ≤ 100 ∧ s.rd 1 FBI_STATE 7 = 1 ∧
      (let q (es : List WireEdge) := quadrant (levelsAfter (s.fch .a 7).levels es)
       q [⟨0, true⟩] = (quadrant (s.fch .a 7).levels + 1) % 4 ∧ quadrant (s.fch .a 7).levels = (q [⟨1, true⟩] + 1) % 4 ∧ q [] = quadrant (s.fch .a 7).levels ∧
        q [⟨0, true⟩, ⟨1, true⟩] = (quadrant (s.fch .a 7).levels + 2) % 4 ∧ bit (levelsAfter (s.fch .a 7).levels [⟨0, true⟩]) 2 = false ∧
        bit (levelsAfter (s.fch .a 7).levels [⟨1, true⟩]) 2 = false) ∧
      mild s 1 34 = true ∧ judged s 1 34 = true) ∧
    (let s := channel 7 3
     99 < s.rd 1 FBI_EDGE_MIN 7 * 10 ∧ 1 < s.rd 1 FBI_EDGE_FAULT_LIM 7 ∧ (put s [(1, FBI_EDGE_FAULT_LIM, 7, 1)]).rd 1 FBI_EDGE_FAULT_LIM 7 ≤ 1) ∧
    ((channel 7 3).rdB 1 FBI_IN_TYPE 7 = false ∧ (channel 7 3).fmode .a 7 ≥ 3 ∧ (channel 7 2).fmode .a 7 = 2 ∧ (channel 0 1).fmode .a 0 = 1 ∧
      (put (channel 0 1) [(1, FBI_INDEX_MODE, 0, 1)]).rdB 1 FBI_INDEX_MODE 0 = true) ∧
    (let s := put (channel 7 3) [(1, FBI_STATE, 7, 2), (1, FBI_FAULT, 7, 2)]
     performs s .a (hdr 1 0x15) 0x0102 = true ∧ 2 &&& 0 &&& s.rd 1 FBI_FAULT 7 = 0 ∧ clrMask (s.rd 1 FBI_FAULT 7) 2 = 0 ∧ s.rd 1 FBI_STATE 7 = 2 ∧
      2 &&& 2 &&& s.rd 1 FBI_FAULT 7 ≠ 0 ∧ (∀ c, c < 8 → c ≠ 7 → s.rd 1 FBI_STATE c ≠ 2)) ∧
    ((put running [(1, FBI_INDEX_MODE, 7, 2)]).rd 1 FBI_INDEX_MODE 7 = 2 ∧ running.rd 1 FBI_INDEX_MODE 7 ≠ 2) := by
  decide +kernel

theorem witness_SincosAndSsi :
    (let s := channel 3 1
     s.up .a = true ∧ 3 < 4 ∧ (s.lane .a).fbi.length = 8 ∧ s.fmode .a 3 = 1 ∧ s.rd 1 FBI_STATE 3 = 1 ∧ mild s 1 34 = true ∧
      (s.fch .a 3).unused + 1 < s.rd 1 FBI_SC_PERSIST ∧ (put s [(1, FBI_SC_PERSIST, 0, 1)]).rd 1 FBI_SC_PERSIST ≤ 1 ∧
      bit (s.fch .a 3).levels 2 = false ∧ ((s.modCh .a 3 (fun x => { x with phi := some 0 })).fch .a 3).phi = some 0) ∧
    (let s := channel 7 2
     s.fmode .a 7 = 2 ∧ s.rd 1 FBI_STATE 7 = 1 ∧ mild s 1 34 = true ∧ (s.fch .a 7).raw = none ∧ s.ssiBad .a 7 0 true = false ∧ s.rd 1 FBI_SSI_FAULT_LIM 7 ≤ s.rd 1 FBI_SSI_FAULT_LIM 7) := by
  decide +kernel

/-- A vote of lane A. -/
def vote (req hold : Nat) : VoteMsg := ⟨1, false, 1, req, 0, hold, 0, 4⟩

/-- Lane A holds the staff, at S too. -/
def armed : State := put serving [(8, S_STF_HOLDER, 0, 1), (8, S_STF_EPOCH, 0, 4), (8, S_STF_EXCLUDED, 0, 0)]

theorem witness_SectionVote :
    (running.sUp = true ∧ (vote 1 0).region = LaneId.a.reg ∧ running.rdB 8 INT_EXTEST = false) ∧
    (performs underB .a (vhdr 8 0x31) 0x0303 = true ∧ underB.chkStaffFn .a (vhdr 8 0x31) = none ∧ underB.rd 1 STF_HOLDER ≠ 1) ∧
    (performs armed .a (hdr 8 0x31) 0x0303 = true ∧ armed.chkStaffFn .a (hdr 8 0x31) = none ∧ armed.rd 1 STF_HOLDER = 1 ∧ armed.reaches .a .s = true ∧
      armed.rd 8 S_STF_HOLDER = 1 ∧ armed.rd 8 S_STF_EPOCH = armed.rd 1 STF_EPOCH ∧ armed.excl 1 = false) ∧
    (let s := put armed [(8, S_STF_EPOCH, 0, 5)]
     performs s .a (hdr 8 0x31) 0x0303 = true ∧ s.chkStaffFn .a (hdr 8 0x31) = none ∧ s.reaches .a .s = true ∧ s.rd 8 S_STF_EPOCH ≠ s.rd 1 STF_EPOCH) ∧
    (let s := put armed [(1, XLK_LINK_STATE, 8, 3)]
     performs s .a (hdr 8 0x31) 0x0303 = true ∧ s.chkStaffFn .a (hdr 8 0x31) = none ∧ performs s .a (hdr 8 0x31) 0x0304 = true ∧ s.reaches .a .s = false) ∧
    (performs armed .a (hdr 8 0x31) 0x0304 = true ∧ performs running .a (hdr 8 0x31) 0x0304 = true ∧ running.reaches .a .s = true ∧ running.excl 1 = true) ∧
    (running.rdB 1 STF_S_SILENT = false ∧ bit (SStatus.excluded ⟨0, 0, 0, 0, 0, 6, 0⟩) 0 = false ∧ running.vstate .a ≠ 0 ∧
      (put running [(1, STF_STATE, 0, 0)]).vstate .a = 0 ∧ (put running [(1, STF_STATE, 0, 0)]).rdB 1 STF_ENTER = false ∧
      bit (SStatus.excluded ⟨0, 0, 0, 0, 0, 1, 0⟩) 0 = true ∧ running.exclSeen .a .a = false ∧ 1 ≤ running.vstate .a ∧ running.vstate .a ≤ 3) := by
  decide +kernel

/-- Section 15 is on, or enabled and off. -/
def sectionOn15 : State := put running [(8, SVT_OUT, 0, 2 ^ 15), (8, SEC_EN, 0, 2 ^ 15), (8, SEC_I_MIN, 15, 5)]
def sectionOff15 : State := put running [(8, SEC_EN, 0, 2 ^ 15)]

theorem witness_SectionSupervision :
    (sectionOn15.sUp = true ∧ sectionOn15.rd 8 SEC_TEST_K = 0 ∧ sectionOn15.outOn 15 = true ∧ sectionOn15.rd 8 SEC_TEST_AT 15 = 0 ∧
      sectionOn15.rd 8 SEC_GAP_AT = 0 ∧ sectionOn15.rd 8 SEC_TEST_END 15 = 0 ∧ ((List.range 15).all (fun k => !sectionOn15.outOn k) = true) ∧
      sectionOn15.outOn 16 = false ∧ (put sectionOn15 [(8, SEC_GAP_AT, 0, 1)]).rd 8 SEC_GAP_AT ≠ 0 ∧
      sectionOn15.now + 1 < (put sectionOn15 [(8, SEC_GAP_AT, 0, 1)]).rd 8 SEC_GAP_AT + 1000000) ∧
    (let s := put sectionOn15 [(8, SEC_TEST_K, 0, 16)]
     s.rd 8 SEC_TEST_K = 15 + 1 ∧ 0 < s.rd 8 SEC_V_OFF_TH ∧ s.rd 8 SEC_V_OFF_TH ≤ s.rd 8 SEC_V_OFF_TH ∧ s.rd 8 SEC_FAIL_N 15 = 0 ∧
      1 ≤ (put s [(8, SEC_FAIL_N, 15, 1)]).rd 8 SEC_FAIL_N 15) ∧
    (∀ n < 5, mild sectionOn15 8 n = true ∧ judged sectionOn15 8 n = true) ∧
    (sectionOn15.rd 8 SEC_TEST_K ≠ 15 + 1 ∧ sectionOn15.rd 8 SEC_I_MIN 15 ≠ 0 ∧ bit (sectionOff15.rd 8 SEC_EN) 15 = true ∧
      bit (sectionOff15.rd 8 SVT_OUT) 15 = false ∧ sectionOff15.outOn 15 = false) ∧
    (let s (bits : Nat) := put sectionOff15 [(8, SEC_FAULT, 15, bits)]
     performs (s 2) .a (hdr 8 0x32) 0x0102 = true ∧ (s 2).reaches .a .s = true ∧ 2 &&& (s 2).rd 8 SEC_FAULT 15 = 2 ∧ 2 &&& 0 = 0 ∧ 2 &&& 5 = 0 ∧
      2 &&& 2 ≠ 0 ∧ 1 &&& (s 1).rd 8 SEC_FAULT 15 &&& 5 ≠ 0 ∧ (s 1).rd 1 INT_LIFECYCLE ≠ 3 ∧ performs (s 1) .a (hdr 8 0x32) 0x0102 = true ∧
      (put (s 1) [(1, INT_LIFECYCLE, 0, 3)]).rd 1 INT_LIFECYCLE = 3 ∧ bit ((put (s 2) [(8, SVT_OUT, 0, 2 ^ 15)]).rd 8 SVT_OUT) 15 = true) := by
  decide +kernel

/-- Outputs 0 and 1 engage and release the latch of target 4. -/
def latch4 : State := put running [(8, ATH_KIND, 0, 1), (8, ATH_TGT_MASK, 0, 8), (8, ATH_KIND, 1, 2), (8, ATH_TGT_MASK, 1, 8), (8, S_STF_EXCLUDED, 0, 0),
  (8, ATH_ORPHAN_TIME, 0, 100), (8, STF_ANY_ADM, 0, 1)]

theorem witness_AuthorityOutputs :
    (latch4.sUp = true ∧ latch4.excl 1 = false ∧ bit (vote 0 8).hold 3 = true ∧ bit (latch4.rd 8 ATH_HOLD_PREV 1) 3 = false ∧ latch4.latchState 4 ≠ 1 ∧
      latch4.rd 8 ATH_DIR 4 ≠ 1 ∧ latch4.coilsOf 1 4 ≠ [] ∧ latch4.rdB 8 INT_EXTEST = false) ∧
    (let s := put latch4 [(8, ATH_USERS, 0, 8), (8, ATH_DIR, 4, 1)]
     bit (s.rd 8 ATH_USERS 0) 3 = true ∧ (∀ b, b < 8 → b ≠ 0 → bit (s.rd 8 ATH_USERS b) 3 = false) ∧ s.rd 8 ATH_DIR 4 = 1 ∧
      (∀ x ∈ LaneId.all, s.holdOf x = s.rd 8 ATH_HOLD_PREV x.reg ∧ s.sdie.vote x.reg = none) ∧ s.rd 8 ATH_USERS 0 ≠ 0 ∧ mild s 8 5 = true ∧
      judged s 8 5 = true) ∧
    (latch4.rd 8 ATH_USERS 0 = 0 ∧ bit (latch4.rd 8 ATH_OUT) 0 = false ∧ bit ((put latch4 [(8, ATH_OUT, 0, 1)]).rd 8 ATH_OUT) 0 = true) ∧
    (latch4.rd 8 ATH_ORPHAN_TIME ≠ 0 ∧ latch4.rdB 8 STF_ANY_ADM = true ∧ latch4.rdB 8 ATH_ORPHANED = false) ∧
    running.rd 8 ATH_ORPHAN_TIME = 0 := by
  decide +kernel

theorem witness_AuthorityOutputs_uncounted : ∀ l v, ¬ latch4.countedVote l v := by
  intro l v h
  have e : ∀ x : LaneId, latch4.sdie.vote x.reg = none := by intro x; cases x <;> decide +kernel
  have h1 := h.1
  rw [e l] at h1
  cases h1

/-- Pair 7 of lane A is an ESTOP pair whose channels are closed. -/
def estop7 : State := put running [(1, SIO_PAIR_FUNC, 7, 1), (1, SIO_HAVE, 0, 2 ^ 17 - 1), (1, SIO_IN, 0, 2 ^ 17 - 1), (1, SIO_TP_EN, 0, 8)]

theorem witness_SafetyInputs :
    (estop7.up .a = true ∧ 15 < 16 ∧ mild estop7 1 37 = true ∧ judged estop7 1 37 = true ∧ estop7.chanOpen .a 15 = false ∧
      (false == (estop7.rdB 1 SIO_PAIR_TYPE 7 && true)) = true ∧ estop7.rd 1 SIO_PAIR_FUNC 7 = 1 ∧ bit (estop7.rd 1 SIO_TRIP) 8 = false ∧
      bit (estop7.rd 1 SIO_TRIP) 7 = false ∧ estop7.countsTrips .a = true ∧ estop7.masked .a 15 0 = false ∧
      (let s := put estop7 [(1, SIO_TP_SRC, 15, 3), (1, SIO_TP_AT, 3, 101)]
       let m := (s.rd 1 SIO_TP_WIDTH + s.rd 1 SIO_TP_SETTLE) * 1000
       s.rd 1 SIO_TP_SRC 15 < 4 ∧ bit (s.rd 1 SIO_TP_EN) 3 = true ∧ s.masked .a 15 (m + 99) = true ∧ s.rd 1 SIO_TP_AT 3 + m ≤ m + 100 + 1)) ∧
    (estop7.accOpen .a 15 = false ∧ estop7.accOpen .a 14 = estop7.accOpen .a 15 ∧ estop7.rd 1 SIO_PEND 7 = 0) ∧
    (let s := put estop7 [(1, SIO_IN, 0, 2 ^ 17 - 1 - 2 ^ 14), (1, SIO_PEND, 7, 1), (1, SIO_PEND_TICK, 7, 10)]
     s.accOpen .a 15 = false ∧ s.accOpen .a 14 = true ∧ s.rd 1 SIO_PEND 7 = 14 % 2 + 1 ∧ s.up .a = true ∧
      10 + s.rd 1 SIO_DISC_TICKS 7 - s.rd 1 SIO_PEND_TICK 7 ≤ s.rd 1 SIO_DISC_TICKS 7 ∧
      11 + s.rd 1 SIO_DISC_TICKS 7 - s.rd 1 SIO_PEND_TICK 7 > s.rd 1 SIO_DISC_TICKS 7) ∧
    (let s (n : Nat) := put estop7 [(1, SIO_PEND, 7, n), (1, SIO_PEND_TICK, 7, 10), (1, SIO_PEND_LAST, 7, 12)]
     (s 2).accOpen .a 15 = false ∧ (s 2).rd 1 SIO_PEND 7 = 15 % 2 + 1 ∧ (s 1).accOpen .a 15 = false ∧ (s 1).accOpen .a 14 = false ∧
      (s 1).rd 1 SIO_PEND 7 = 14 % 2 + 1) ∧
    (bit (estop7.rd 1 SIO_HAVE) 16 = true ∧ estop7.rdB 1 SIO_ACK_ON = false ∧ bit (running.rd 1 SIO_HAVE) 16 = false ∧ running.up .a = true) ∧
    (bit (estop7.rd 1 SIO_TP_EN) 3 = true ∧ bit (running.rd 1 SIO_TP_EN) 3 = false) ∧
    (let s := put estop7 [(1, SIO_TP_BUSY, 0, 8), (1, SIO_TP_SRC, 15, 3)]
     s.up .a = true ∧ mild s 1 36 = true ∧ judged s 1 36 = true ∧ bit (s.rd 1 SIO_TP_BUSY) 3 = true ∧ s.rd 1 SIO_TP_SRC 15 = 3 ∧ s.rd 1 SIO_TP_SRC 14 ≠ 3 ∧
      bit (2 ^ 15) 15 = true ∧ bit 0 15 = false ∧ s.rd 1 SIO_TP_N 15 + 1 < s.rd 1 SIO_TP_ERR_LIM ∧ bit (s.rd 1 SIO_TP_BUSY) 2 = false ∧
      (let u := put s [(1, SIO_TP_N, 15, 1)]
       u.rd 1 SIO_TP_ERR_LIM ≤ u.rd 1 SIO_TP_N 15 + 1 ∧ mild u 1 36 = true)) := by
  decide +kernel

/-- A TRIP message of lane B for the ESTOP function. -/
def tripB : TripMsg := ⟨0x81, 2, 7, 1, 1, 0, 0⟩

/-- Lane A has an ESTOP noted. -/
def noted : State := put serving [(1, SIO_T_ON, 1, 1), (1, CEN_TGT_BRIDGE, 1, 0), (1, CMT_CART, 0, 0), (1, SIO_ESTOP_FORCE, 1, 5), (1, SIO_TRIP_BRIDGES, 0, 32),
  (1, DPT_ORD_STATE, 63, 2), (1, DPT_ORD_TRIG, 63, 2 + 3 * 2 ^ 32), (1, PWR_STATE, 0, 4), (1, PWR_REQ, 0, 2), (1, INT_VALLEY_AT, 0, 200000)]

/-- Lane A's reset is armed at 5 with nonce 9, no pair tripped. -/
def resetArmed : State := { put underB [(1, SIO_RESET_SRC, 0, 2), (1, SIO_TRIP, 0, 256), (1, SIO_RESET_STATE, 0, 1), (1, SIO_NONCE, 0, 9), (1, SIO_ARM_AT, 0, 5)] with
  now := 2000000005 }

theorem witness_TripsAndResets :
    (underB.up .a = true ∧ tripB.kind = 0x81 ∧ tripB.func = 1 ∧ underB.countsTrips .a = true ∧ bit (underB.rd 1 SIO_TRIP) 8 = false ∧
      underB.rdB 1 SIO_SRC_ON = false ∧ underB.synced .a = true ∧ underB.rdB 1 SIO_T_ON 1 = false ∧
      (let s := put underB [(1, INT_VALLEY_AT, 0, 200000), (1, INT_COMP_AT, 0, 200000)]
       s.stampOf .a tripB + 40000 ≤ s.computedTarget .a) ∧
      underB.computedTarget .a < underB.stampOf .a tripB + 40000 ∧
      (put underB [(1, SIO_TRIP, 0, 512)]).rd 1 SIO_TRIP = 512 ∧ (put underB [(1, STF_STATE, 0, 4)]).countsTrips .a = false) := by
  decide +kernel

theorem witness_TripsAndResets_apply :
    (noted.up .a = true ∧ noted.countsTrips .a = true ∧ noted.rdB 1 SIO_T_ON 1 = true ∧ bit (noted.rd 1 SIO_TRIP) 8 = false ∧
      noted.rd 1 SIO_ESTOP_FORCE 1 ≠ 0 ∧ noted.rd 1 SIO_ESTOP_FORCE 4 = 0 ∧ bit (noted.rd 1 SIO_TRIP_BRIDGES) 5 = true ∧
      noted.rd 1 DPT_ORD_STATE 63 = 2 ∧ (noted.trig .a 63).kind = 2 ∧ bits (noted.trig .a 63).argA 7 0 = 1 + 2 ∧
      bits (noted.trig .a 63).argA 15 8 = 0 ∧ noted.rd 1 PWR_STATE = 4 ∧ 2 ≤ noted.rd 1 PWR_REQ ∧ noted.rdB 1 SIO_T_ON 2 = false ∧
      noted.synced .a = true ∧ noted.rd 1 SIO_T_AT 1 + 40000 ≤ noted.valleyTarget .a (noted.rd 1 INT_VALLEY_AT) ∧
      (put noted [(1, INT_VALLEY_AT, 0, 0)]).valleyTarget .a 0 < noted.rd 1 SIO_T_AT 1 + 40000) := by
  decide +kernel

theorem witness_TripsAndResets_presses :
    (let s := put noted [(1, SIO_TRIP, 0, 256), (1, SIO_ESTOP_HOLD, 0, 1)]
     bit (s.rd 1 SIO_TRIP) 8 = true ∧ s.rdB 1 SIO_ESTOP_HOLD = true ∧ s.targetDriven .a 1 = true ∧
      (∀ g ∈ [1, 2, 3, 4], s.rd 1 SIO_ESTOP_FORCE g ≠ 0 → s.targetDriven .a g = false ∨ s.tooFast .a (s.rd 1 CEN_TGT_BRIDGE g) = false)) ∧
    (let s := put estop7 [(1, SIO_ACK_ON, 0, 1)]
     let t0 := s.rd 1 SIO_ACK_MIN * 1000000
     s.up .a = true ∧ s.rdB 1 SIO_ACK_ON = true ∧ s.pressValid .a t0 = true ∧ s.pressValid .a (t0 - 1) = false ∧
      s.pressValid .a (s.rd 1 SIO_ACK_MAX * 1000000) = true ∧ s.pressValid .a (s.rd 1 SIO_ACK_MAX * 1000000 + 1) = false ∧
      (⟨0x82, 3, 0, 0, 0, 0, 0⟩ : TripMsg).sender = LaneId.c.reg) ∧
    (performs resetArmed .a (vhdr 1 5) 0x0501 = true ∧ bit (resetArmed.rd 1 SIO_RESET_SRC) 1 = true ∧ resetArmed.rd 1 SIO_TRIP ≠ 0 ∧
      performs running .a (vhdr 1 5) 0x0501 = true ∧ (put running [(1, SIO_RESET_SRC, 0, 2)]).rd 1 SIO_TRIP = 0 ∧
      bit ((put running [(1, SIO_RESET_SRC, 0, 1)]).rd 1 SIO_RESET_SRC) 1 = false) ∧
    (performs resetArmed .a (vhdr 1 5) 0x0502 = true ∧ resetArmed.rdB 1 SIO_RESET_STATE = true ∧ resetArmed.rd 1 SIO_NONCE = 9 ∧
      resetArmed.now ≠ resetArmed.rd 1 SIO_ARM_AT ∧ resetArmed.now ≤ resetArmed.rd 1 SIO_ARM_AT + 2000000000 ∧ resetArmed.resetOk .a = false ∧
      (put resetArmed [(1, SIO_RESET_STATE, 0, 0)]).rdB 1 SIO_RESET_STATE = false) := by
  decide +kernel

theorem witness_TripsAndResets_inputs :
    let s := put synced [(1, STF_STATE, 0, 3), (1, TWL_STATE, 0, 4), (1, VOT_DI_SRC, 31, 1)]
    s.up .a = true ∧ s.synced .a = true ∧ s.rdB 1 VOT_LOCAL = false ∧ 2 < s.vstate .a ∧ s.votDiffers .a = false ∧ s.rd 1 VOT_DI_SRC 31 ≠ 0 ∧
      s.twlEvents .a = true ∧ LaneId.b ≠ .a ∧ s.hasRegion LaneId.b.reg = true := by
  decide +kernel

/-- An INPUT message of a lane with every channel of the safety inputs closed. -/
def closedInputs (x : LaneId) : InputMsg := ⟨x, underB.cycle .a, [], [], [], 0, [], 0, 0, 2 ^ 17 - 1, 2 ^ 17 - 1, 0, 0, 0⟩

theorem witness_TripsAndResets_reset :
    let s := (put resetArmed [(1, SIO_PAIR_FUNC, 7, 1), (1, SIO_TRIP, 0, 256 + 128)]).modVot .a (fun v => { v with
      inputs := [closedInputs .a, closedInputs .b, closedInputs .c] })
    s.resetOk .a = true ∧ performs s .a (vhdr 1 5) 0x0502 = true ∧ s.rdB 1 SIO_RESET_STATE = true ∧ s.rd 1 SIO_NONCE = 9 ∧
      s.now ≤ s.rd 1 SIO_ARM_AT + 2000000000 := by
  decide +kernel

/-- Lane A in the controlled stop with a bridge for targets 1 and 4. -/
def stopping : State := put running [(1, VOT_STOP_ON, 0, 1), (1, CEN_TGT_BRIDGE, 1, 0), (1, CEN_TGT_BRIDGE, 4, 5), (1, CMT_CART, 0, 0), (1, CMT_CART, 5, 0)]

/-- A voting lane A that is out of synchronisation; B's frame says whether B is synchronised. -/
def lost (cycleB : Nat) : State := put (running.modVot .a (fun v => { v with
  frameB := some { frame 2 with cycle := cycleB }, frameC := some { frame 3 with cycle := 0 } })) [(1, STF_HOLDER, 0, 1)]

theorem witness_ServiceModes_compute :
    let s := put running [(1, CMT_PEAK, 0, 1)]
    s.up .a = true ∧ s.rdB 1 CMT_PEAK = true ∧ (s.lane .a).cmtOld = [] ∧ (s.lane .a).rescale = [] ∧
      ((List.range 6).all (fun b => !s.rdB 1 CMT_LATCH_SEEN b && (s.bridge .a b).smp.isNone) = true) := by
  decide +kernel

theorem witness_ServiceModes :
    (stopping.up .a = true ∧ stopping.rdB 1 VOT_STOP_ON = true ∧ stopping.stopTargets .a = [1, 4] ∧
      (∀ x ∈ LaneId.all, stopping.rdB 1 VOT_IN_N x.reg = true → ∀ g ∈ stopping.stopTargets .a, stopping.tooFast x (stopping.rd 1 CEN_TGT_BRIDGE g) = false) ∧
      running.rdB 1 VOT_STOP_ON = false) ∧
    (let s := put stopping [(1, VOT_STANDSTILL, 0, 1)]
     s.rdB 1 VOT_STOP_ON = true ∧ s.rdB 1 VOT_STANDSTILL = true ∧ 4 ∈ s.stopTargets .a ∧ s.rd 1 SVT_V_LATCH / 4 ^ (4 - 1) % 4 ≠ 1 ∧ 2 ∉ s.stopTargets .a ∧
      s.rd 1 VOT_MODE ≠ 4 ∧ s.vstate .a = 2 ∧ s.up .a = true) ∧
    (stopping.rdB 1 VOT_STANDSTILL = false ∧ mild stopping 1 18 = true ∧ judged stopping 1 18 = true) ∧
    ((lost 9).up .a = true ∧ (lost 9).voting .a .a = true ∧ (lost 9).synced .a = false ∧ (∃ x ∈ (lost 9).otherVoting .a, (lost 9).syncSeen .a x = true) ∧
      (lost 9).rd 1 STF_HOLDER = 1 ∧ (∀ x ∈ (lost 0).otherVoting .a, (lost 0).syncSeen .a x = false) ∧ (lost 0).voting .a .a = true ∧
      (lost 0).otherVoting .a ≠ [] ∧ underB.synced .a = true) := by
  decide +kernel

/-- The timetable of path `p` in a lane: node 2 owns it as a sync path of 16 payload bytes. -/
def path (r p owner kind : Nat) : List (Nat × PDesc × Nat × Nat) :=
  [(r, TWL_PATH_OWNER, p, owner), (r, TWL_PATH_KIND, p, kind), (r, TWL_PATH_START, p, 100), (r, TWL_PATH_LEN, p, 30), (r, TWL_PATH_PAYLOAD, p, 16)]

/-- Lane A as node 3 in a state and a cycle, lane B as node 2 in the same cycle. -/
def node (st c : Nat) : State := put running (path 1 5 2 2 ++ path 2 5 2 2 ++ path 1 63 3 2 ++ path 1 62 3 3 ++
  [(1, TWL_NODE, 0, 3), (2, TWL_NODE, 0, 2), (2, TWL_C, 0, c), (1, TWL_C, 0, c), (4, TRX_RAIL_EN, 0, 3), (1, TWL_STATE, 0, st), (1, TWL_RX_PATH, 7, 5)])

/-- The sync frame of node 2. -/
def fromB (c : Nat) : List Byte := (node 4 c).syncFrame .b 5

theorem witness_TowlineNode_starts :
    (let s := put synced [(1, TWL_STATE, 0, 4)]
     s.up .a = true ∧ s.twlEvents .a = true ∧ s.rdB 1 VOT_LOCAL = false ∧ mild s 1 23 = true ∧ s.lowestLane (fun x => s.vstate x == 2) ≠ some .b) ∧
    (let s := put running [(1, TWL_LAST, 0, 9)]
     s.up .a = true ∧ s.synced .a = false ∧ s.rd 1 TWL_LAST ≠ 0 ∧ s.rdB 1 VOT_LOCAL = false) := by
  decide +kernel

theorem witness_TowlineNode_checks :
    (fromB 7).length = 24 ∧ ([] : List Byte).length < 8 ∧ (fromB 7).length = (twlParse (fromB 7)).len + 8 ∧
      (let r := List.replicate 8 (0 : Byte); r.length = (twlParse r).len + 8 ∧ (twlParse r).len ≤ running.rd 1 TWL_PATH_PAYLOAD (twlParse r).path ∧
        crc32 (r.take (r.length - 4)) ≠ fieldLe r (r.length - 4) 4) := by
  decide +kernel

theorem witness_TowlineNode_receive :
    ((node 1 7).up .a = true ∧ bit ((node 1 7).rd 4 TRX_RAIL_EN) 1 = true ∧ bit ((put (node 1 7) [(4, TRX_RAIL_EN, 0, 1)]).rd 4 TRX_RAIL_EN) 1 = false ∧
      running.twlState .a = 0 ∧ 5 ≤ (node 5 7).twlState .a) ∧
    ((node 1 7).twlCheck .a false (fromB 7) 101360 = 1 ∧ mild (node 1 7) 1 39 = true ∧ judged (node 1 7) 1 39 = true ∧
      (put (node 1 7) [(1, TWL_TT_DIGEST, 0, 9)]).twlCheck .a true (fromB 7) 101360 = 7) ∧
    (let f := twlParse (fromB 7)
     f.path = 5 ∧ f.null = false ∧ f.sync = true ∧ f.repeat' = false ∧ f.node = 2 ∧ ((node 1 7).lane .a).twl.got = [] ∧ (node 1 7).rd 1 TWL_RX_PATH 7 = 5 ∧
      (node 1 7).rd 1 TWL_NODE = 3) ∧
    ((node 1 7).twlCheck .a true (fromB 7) 101360 = 0 ∧ (node 1 7).rd 1 LKG_STATE ≠ 5 ∧ (node 2 7).twlCheck .a true (fromB 7) 101360 = 0 ∧
      (node 3 7).twlCheck .a true (fromB 7) 101360 = 0 ∧ (node 4 7).twlCheck .a true (fromB 7) 101360 = 0 ∧
      (let s := put (node 2 7) [(1, TWL_NODE, 0, 1)]
       s.twlCheck .a true (fromB 7) 101360 = 0 ∧ s.rd 1 TWL_NODE < (twlParse (fromB 7)).node)) := by
  decide +kernel

theorem witness_TowlineNode_send :
    ((node 4 7).rd 1 CLK_STATE ≠ 3 ∧ (node 4 7).rd 1 TWL_PATH_OWNER 5 ≠ (node 4 7).rd 1 TWL_NODE ∧ (node 4 7).rd 1 TWL_PATH_OWNER 63 = (node 4 7).rd 1 TWL_NODE ∧
      (node 4 7).rd 1 TWL_PATH_KIND 63 = 2 ∧ (node 2 7).twlState .a = 2 ∧ (put (node 4 7) [(1, LKG_OPEN, 0, 64)]).rd 1 LKG_OPEN = 63 + 1 ∧
      bit ((node 4 7).rd 4 TRX_RAIL_EN) 1 = true ∧ bit 2 1 = true ∧ bit 2 0 = false ∧ (node 4 7).rd 1 LKG_OPEN ≠ 63 + 1 ∧
      (node 4 7).rd 1 LKG_OUT_AT ≠ (node 4 7).rd 1 TWL_C) ∧
    (let s := (put (node 4 7) [(1, LKG_OPEN, 0, 63)]).modLane .a (fun x => { x with twl := { sent := some [1], missing := [98] } })
     (s.lane .a).twl.sent = some [1] ∧ (∃ a ∈ (s.lane .a).twl.missing, a + 2000 ≤ 2098) ∧ s.rd 1 LKG_OPEN = 62 + 1 ∧ s.rd 1 TWL_PATH_KIND 62 = 3 ∧
      s.twlState .a = 4 ∧ s.rd 1 TWL_PATH_OWNER 62 = s.rd 1 TWL_NODE ∧ ((node 4 7).lane .a).twl.missing = []) ∧
    ((node 1 7).twlState .a = 1 ∧ (let s := put (node 1 7) [(1, TWL_COLDSTART_NODES, 0, 8)]
      bit (s.rd 1 TWL_COLDSTART_NODES) (s.rd 1 TWL_NODE) = true ∧ s.rd 1 TWL_TRIES < s.rd 1 TWL_COLDSTART_TRIES ∧ s.twlState .a = 1) ∧
      (put (node 1 7) [(1, TWL_COLDSTART_TRIES, 0, 0)]).rd 1 TWL_COLDSTART_TRIES ≤ (node 1 7).rd 1 TWL_TRIES) := by
  decide +kernel

theorem witness_TowlineNode_nit :
    (∀ n ∈ [38, 40, 41], mild (node 4 7) 1 n = true) ∧ judged (node 4 7) 1 40 = true ∧ judged (node 4 7) 1 41 = true ∧ (node 4 7).up .a = true ∧
    ((node 4 7).rd 1 TWL_RAILS = 0 ∧ (node 4 7).rd 1 TWL_RAIL_STATE = 0 ∧
      (let s := put (node 4 7) [(1, TWL_RAILS, 0, 1), (1, TWL_BAD_N, 1, 15)]
       s.rd 1 TWL_RAILS ≠ 0 ∧ bit (s.rd 1 TWL_RAILS) 1 = false ∧ s.rd 1 TWL_RAIL_LOSS ≤ min 15 (s.rd 1 TWL_BAD_N 1 + 1)) ∧
      bit ((put (node 4 7) [(4, TRX_RAIL_EN, 0, 1)]).rd 4 TRX_RAIL_EN) 1 = false) ∧
    (((node 4 7).modLane .a (fun x => { x with twl := { missing := [1] } })).rdB 1 TWL_RESENT = false ∧ (node 4 7).rd 1 TWL_C % 4 = 3 ∧
      ((node 4 7).rdI 1 TWL_RATE_CORR).natAbs ≤ 2000000 ∧ (node 4 7).rd 1 TWL_OFFSET_LIM < 128) ∧
    ((node 4 6).rd 1 TWL_C % 2 = 0 ∧ (node 4 6).rd 1 TWL_NOVAL_N < 2 ∧ (node 4 6).rd 1 TWL_OFFC_N < 2 ∧ (node 4 6).rd 1 TWL_RATEC_N < 2) ∧
    (let s := (node 4 5).modLane .a (fun x => { x with twl := { devs := [(2, 0, 0)] } })
     let lim : Int := s.rd 1 TWL_OFFSET_LIM
     let avg := roundTz (ftAverage ((s.devsOf .a).map Prod.snd ++ (if s.ownsSync .a then [0] else [])))
     s.rd 1 TWL_C % 4 = 1 ∧ s.devsOf .a ≠ [] ∧ clampInt (-lim) lim avg = avg ∧ s.rd 1 TWL_RATEC_N < 2) ∧
    (let s := put (node 4 5) [(1, TWL_NOVAL_N, 0, 1)]
     s.rd 1 TWL_C % 4 = 1 ∧ s.devsOf .a = [] ∧ s.rd 1 TWL_NOVAL_N = 1) ∧
    (let s := put (node 3 9) [(1, TWL_C0, 0, 7), (1, TWL_SEEN_NOW, 0, 1), (1, TWL_SEEN_PREV, 0, 1)]
     s.twlState .a = 3 ∧ s.rd 1 TWL_C = nextCycle (nextCycle (s.rd 1 TWL_C0)) ∧ s.rdB 1 TWL_SEEN_NOW = true ∧ s.rdB 1 TWL_SEEN_PREV = true ∧
      (put s [(1, TWL_SEEN_NOW, 0, 0)]).rdB 1 TWL_SEEN_NOW = false) ∧
    (let s := put (node 2 64) [(1, TWL_SEEN_NOW, 0, 1), (1, TWL_SEEN_PREV, 0, 1)]
     s.rdB 1 TWL_JUNK_PREV = false ∧ 64 ≤ s.rd 1 TWL_C ∧ s.rdB 1 TWL_SEEN_NOW = true ∧ s.rdB 1 TWL_SEEN_PREV = true ∧ s.twlState .a = 2 ∧
      (node 2 64).rdB 1 TWL_SEEN_NOW = false ∧ 4 ≤ (node 2 4).rd 1 TWL_C) := by
  decide +kernel

/-- The lock-keeper of lane A in a state. -/
def lkg (st : Nat) : State := put (node 4 7) [(1, LKG_STATE, 0, st)]

theorem witness_LockKeeper :
    ((lkg 3).up .a = true ∧ 63 < 64 ∧ (lkg 3).rd 1 TWL_PATH_KIND 63 ≠ 0 ∧ (lkg 3).rd 1 TWL_PATH_OWNER 63 = (lkg 3).rd 1 TWL_NODE ∧ (lkg 3).rd 1 LKG_STATE = 3 ∧
      (node 2 7).twlState .a = 2 ∧ (node 2 7).rd 1 TWL_PATH_KIND 63 = 2 ∧ (node 2 7).rd 1 LKG_STATE < 4 ∧ (lkg 4).rd 1 LKG_STATE = 4 ∧ (lkg 5).rd 1 LKG_STATE ≤ 5 ∧
      (lkg 2).rd 1 LKG_STATE ≠ 3 ∧ (lkg 3).rd 1 TWL_PATH_OWNER 5 ≠ (lkg 3).rd 1 TWL_NODE) ∧
    ((put (lkg 3) [(1, LKG_OPEN, 0, 64)]).rd 1 LKG_OPEN = 63 + 1 ∧ (lkg 3).rd 1 LKG_OPEN ≠ 63 + 1) ∧
    ((put (lkg 3) [(1, LKG_OPEN, 0, 64)]).rd 1 LKG_OPEN ≠ 0 ∧ (lkg 3).rd 1 LKG_OPEN = 0 ∧ (lkg 3).rd 1 LKG_OUT_AT ≠ (lkg 3).rd 1 TWL_C ∧
      (put (lkg 3) [(1, LKG_OUT_AT, 0, 7)]).rd 1 LKG_OUT_AT = (lkg 3).rd 1 TWL_C ∧ (lkg 3).rd 1 TWL_C ≠ 0 ∧ mild (lkg 3) 1 41 = true ∧ mild (lkg 3) 1 42 = true ∧
      judged (lkg 3) 1 42 = true ∧ (lkg 3).twlState .a = 4) ∧
    ((lkg 1).rd 1 LKG_STATE = 1 ∧ (lkg 0).rd 1 LKG_STATE = 0 ∧ (-79 : Int).natAbs < 80 ∧ 80 ≤ (-80 : Int).natAbs ∧
      (let s := put (lkg 2) [(1, LKG_PULL_OK, 0, 1), (1, LKG_TAP_OK, 0, 1)]
       s.rd 1 LKG_STATE = 2 ∧ 1 ≤ s.rd 1 LKG_PULL_OK ∧ 1 ≤ s.rd 1 LKG_TAP_OK) ∧
      (put (lkg 3) [(1, LKG_LIM_N, 0, 1)]).rd 1 LKG_LIM_N < 2 ∧ 2 ≤ (put (lkg 3) [(1, LKG_LIM_N, 0, 2)]).rd 1 LKG_LIM_N) ∧
    (running.on LaneId.a.pow = true ∧ mild running 4 7 = true ∧ judged running 4 7 = true) := by
  decide +kernel

/-- A task of the dispatcher in a state, waiting for event 7 with comparator 3 and a place on the delay list. -/
def fwTask (n st : Nat) : FwTask :=
  { n := n, level := 48, owner := 1, state := st, events := [7], deadline := 100, cmp := some n, listed := true }

def tasked : State := running.modLane .a (fun x => { x with tasks := [fwTask 3 4, fwTask 4 2, fwTask 255 5] })

theorem witness_Tasks :
    (tasked.up .a = true ∧ ((tasked.lane .a).tasks.map FwTask.n).Nodup ∧ (∀ k ∈ (tasked.lane .a).tasks, k.n < 256)) ∧
    (tasked.task .a 3 = some (fwTask 3 4) ∧ (fwTask 3 4).state = 4 ∧ 7 ∈ (fwTask 3 4).events ∧ 8 ∉ (fwTask 3 4).events ∧
      tasked.task .a 4 = some (fwTask 4 2) ∧ (fwTask 4 2).state ≠ 5 ∧ (fwTask 4 2).state ≠ 4 ∧ tasked.task .a 255 = some (fwTask 255 5) ∧
      tasked.task .a 5 = none) ∧
    (fwTask 3 4 ∈ (tasked.lane .a).tasks ∧ (fwTask 3 4).cmp = some 3 ∧ (∀ j ∈ (tasked.lane .a).tasks, j.cmp = some 3 → j = fwTask 3 4) ∧
      (∀ j ∈ (tasked.lane .a).tasks, j.cmp ≠ some 5)) ∧
    ((fwTask 3 4).listed = true ∧ (fwTask 3 4).deadline ≤ 100 ∧ 99 < (fwTask 3 4).deadline) ∧
    (624 < 625 ∧ fwTask 4 2 ∈ (tasked.lane .a).tasks ∧ 48 ≤ (fwTask 4 2).level) ∧
    (tasked.rd 1 LSC_STATE ≠ 3 ∧ (put tasked [(1, LSC_STATE, 0, 3)]).rd 1 LSC_STATE = 3 ∧ (put tasked [(1, LSC_STATE, 0, 3)]).up .a = true) := by
  decide +kernel

/-- A GET as a waybill that an order may hold. -/
def getW : Waybill :=
  let w : Waybill := ⟨2, 0, 0x0101, 1, 0, 0x101, 8, 0, opBytes (.get [0x10100200]), 0⟩
  { w with crc := w.crcOf }

/-- Order 63 of lane A in a state, with a trigger kind and the GET stored. -/
def order (st kind : Nat) : State :=
  (put running [(1, DPT_ORD_STATE, 63, st), (1, DPT_ORD_TRIG, 63, kind)]).modLane .a (fun x => { x with orders := [⟨63, [getW.encode]⟩] })

theorem witness_StandingOrders_opcodes :
    (performs (order 1 0) .a (hdr 1 10) 0x0A01 = true ∧ (order 1 0).chkOrderLoad .a 63 0 ⟨2, 0, 3, 0⟩ [getW] = none ∧
      (order 1 0).chkOrderLoad .a 63 1 ⟨0, 0, 0, 0⟩ [getW] = none ∧ (order 1 0).chkOrderLoad .a 0 0 ⟨0, 0, 0, 0⟩ [] = none ∧ 64 > 63 ∧
      2 ≤ (order 2 0).rd 1 DPT_ORD_STATE 63) ∧
    (({ getW with version := 3 } : Waybill).version ≠ 2 ∧
      (let w : Waybill := ⟨2, 0, 0x0701, 1, 0, 0x106, 2, 0, [2, 0], 0⟩; w.opcode = 0x0701 ∧ byteAt w.params 0 = 2)) ∧
    (performs (order 1 0) .a (hdr 1 10) 0x0A02 = true ∧ (order 1 0).chkOrderStart .a 63 = none ∧ ((order 1 0).trig .a 63).kind = 0 ∧
      (order 1 3).chkOrderStart .a 63 = none ∧ ((order 1 3).trig .a 63).kind ≠ 0 ∧ (order 2 3).rd 1 DPT_ORD_STATE 63 ≠ 1 ∧
      performs (order 2 3) .a (hdr 1 10) 0x0A03 = true ∧ (order 0 0).rd 1 DPT_ORD_STATE 63 = 0 ∧ (order 2 3).rd 1 DPT_ORD_STATE 63 ≠ 0) ∧
    ((order 2 3).up .a = true ∧ ((order 2 3).trig .a 63).kind = 3 ∧ (order 2 3).rd 1 DPT_ORD_STATE 63 = 2 ∧ 3 ≤ (order 3 3).rd 1 DPT_ORD_STATE 63 ∧
      ((order 3 3).trig .a 63).kind = 3 ∧ (order 1 3).rd 1 DPT_ORD_STATE 63 < 2) := by
  decide +kernel

/-- Order 63 runs, with its waybill at an index. -/
def runningOrder (idx fail flags : Nat) : State :=
  put (order 4 0) [(1, DPT_RUN, 0, 64), (1, DPT_RUN_IDX, 0, idx), (1, DPT_RUN_FAIL, 0, fail), (1, DPT_ORD_TRIG, 63, flags * 256)]

theorem witness_StandingOrders_runs :
    ((order 1 0).rd 1 DPT_RUN = 0 ∧ ((order 1 0).lane .a).ordQ = [] ∧ (runningOrder 0 0 0).rd 1 DPT_RUN ≠ 0 ∧
      (put (runningOrder 0 0 0) [(1, DPT_RUN_WAIT, 0, 1)]).rdB 1 DPT_RUN_WAIT = true) ∧
    (let s := (order 3 0).modLane .a (fun x => { x with ordQ := [63] })
     s.rd 1 DPT_RUN = 0 ∧ (s.lane .a).ordQ = [63] ∧ s.stored .a 63 = [getW.encode] ∧ (s.lane .a).wbe.inq.length < 32 ∧ s.rdB 1 DPT_RUN_WAIT = false) ∧
    (let s := runningOrder 1 0 0
     s.rd 1 DPT_RUN = 63 + 1 ∧ s.rdB 1 DPT_RUN_WAIT = false ∧ (∀ c ∈ (s.lane .a).wbe.consists, c.port ≠ .so) ∧ s.rd 1 DPT_ORD_STATE 63 = 4 ∧
      s.rdB 1 DPT_RUN_FAIL = false ∧ (s.lane .a).wbe.inq.length < 32 ∧ (s.stored .a 63).length ≤ s.rd 1 DPT_RUN_IDX) ∧
    (let s := runningOrder 0 1 1
     s.rdB 1 DPT_RUN_FAIL = true ∧ bit (s.trig .a 63).flags 0 = true ∧ s.rd 1 DPT_ORD_STATE 63 = 4) := by
  decide +kernel

theorem witness_Fabric_grants :
    (running.hasRegion Region.la.code = true ∧ (let reqs : List FabReq := [⟨13, 0, []⟩, ⟨12, 3, []⟩]
      (reqs.map FabReq.q).Nodup ∧ ∀ y ∈ reqs, y.q < requesters 1 ∧ running.rd 1 FAB_PRIO y.q < 16)) ∧
    (let s := put running [(1, FAB_CLASS, 13, 0), (1, FAB_CLASS, 12, 1)]
     s.rd 1 FAB_CLASS 13 = 0 ∧ ∀ y ∈ [(⟨13, 0, []⟩ : FabReq), ⟨12, 3, []⟩], s.rd 1 FAB_CLASS y.q = 0 → 13 ≤ y.q) ∧
    (let s := put running [(1, FAB_CLASS, 13, 2), (1, FAB_BG_WAIT, 13, 15), (1, FAB_CLASS, 12, 1)]
     (∀ y ∈ [(⟨13, 0, []⟩ : FabReq), ⟨12, 3, []⟩], s.rd 1 FAB_CLASS y.q ≠ 0) ∧ s.rd 1 FAB_CLASS 13 = 2 ∧ 15 ≤ s.rd 1 FAB_BG_WAIT 13 ∧ s.rd 1 FAB_CLASS 12 ≠ 2) ∧
    (let s := put running [(1, FAB_CLASS, 13, 1), (1, FAB_PRIO, 13, 2), (1, FAB_CLASS, 12, 1), (1, FAB_PRIO, 12, 3)]
     (∀ y ∈ [(⟨13, 0, []⟩ : FabReq), ⟨12, 3, []⟩], s.rd 1 FAB_CLASS y.q ≠ 0 ∧ s.rd 1 FAB_CLASS y.q ≠ 2) ∧ s.rd 1 FAB_PRIO 13 < s.rd 1 FAB_PRIO 12 ∧
      s.rd 1 FAB_PHASE = 1 ∧ (put s [(1, FAB_PHASE, 0, 3)]).rd 1 FAB_PHASE ≠ 1) ∧
    (let s := put running [(1, FAB_CLASS, 13, 1), (1, FAB_PRIO, 13, 2), (1, FAB_CLASS, 12, 1), (1, FAB_PRIO, 12, 2), (1, FAB_RR, 2, 14)]
     s.rd 1 FAB_CLASS 13 = 1 ∧ s.rd 1 FAB_PRIO 12 = s.rd 1 FAB_PRIO 13 ∧ s.rd 1 FAB_RR (s.rd 1 FAB_PRIO 13) = 13 + 1) := by
  decide +kernel

/-- Lock 1 of M in a state, owned by lane A. -/
def locked (st : Nat) : State := put running [(7, FAB_LOCK_STATE, 1, st), (7, FAB_LOCK_OWNER, 1, 1), (7, NVS_FENCE, 0, 5)]

theorem witness_Fabric_locks :
    (running.on Shared.m.reg = true ∧ running.on Shared.s.reg = true ∧ 1 < locksOf .m ∧ 0 < locksOf .s) ∧
    (4 < (locked 0).rd 7 NVS_FENCE ∧ (locked 0).rd 7 NVS_FENCE ≤ 5) ∧
    ((locked 0).rd 7 FAB_LOCK_STATE 1 = 0 ∧ (locked 2).rd 7 FAB_LOCK_STATE 1 = 2 ∧ (locked 1).rd 7 FAB_LOCK_STATE 1 = 1 ∧ (locked 3).rd 7 FAB_LOCK_STATE 1 = 3 ∧
      (locked 1).rd 7 FAB_LOCK_OWNER 1 = LaneId.a.reg ∧ (locked 1).rd 7 FAB_LOCK_OWNER 1 ≠ LaneId.b.reg ∧ (locked 1).openOn 7 1 1 = false ∧
      (locked 0).rd 7 FAB_LOCK_STATE 1 ≠ 1 ∧ (locked 1).rd 7 FAB_LOCK_EPOCH 1 < 1) := by
  decide +kernel

theorem witness_Fabric_memory :
    (running.up .a = true ∧ 2 ^ 27 - 1 < 2 ^ 27 ∧ (∀ n ∈ [4, 5, 7], mild running 1 n = true) ∧ mild (put running [(1, FCL_REACT, 6, 0)]) 1 6 = true ∧ judged running 1 5 = true ∧ judged running 1 6 = true ∧
      judged running 1 7 = true) ∧
    (underB.rd 1 MEM_REP_LINE ≠ 9 + 1 ∧ ((put underB [(1, XLK_LINK_STATE, 2, 2)]).wr 1 MEM_REP_ASKED 0 0).repairPeers .a = [.b]) ∧
    (9 ∉ (running.lane .a).poisoned) ∧
    (let s := put running [(1, FCL_REACT, 6, 8)]
     judged s 1 6 = true ∧ bit (s.rd 1 FCL_ERR_STATUS) 6 = false ∧ (s.rd 1 FCL_REACT 6).testBit 3 = true ∧ s.vstate .a < 3 ∧ s.up .a = true) ∧
    (let s := put running [(1, MEM_REP_LINE, 0, 10)]
     s.rd 1 MEM_REP_LINE = 9 + 1 ∧ s.rd 1 MEM_SPARE_USED < 128 ∧ 128 ≤ (put s [(1, MEM_SPARE_USED, 0, 128)]).rd 1 MEM_SPARE_USED ∧ s.repairPeers .a = []) ∧
    (let line := (underB.lane .a).tblAt + 8191
     let at' (g p : Nat) := put underB [(1, CEN_GRP, 0, g), (1, CEN_GRP_PREV, 0, p)]
     underB.voting .a .a = true ∧ underB.tblLine .a line = some (8 * 8191) ∧ underB.tblLine .a (line + 1) = none ∧ line ∉ (underB.lane .a).poisoned ∧
      line ∈ ((underB.modLane .a (fun x => { x with poisoned := [line] })).lane .a).poisoned ∧ (at' 6 4).rd 1 CEN_GRP < 7 ∧
      6 = (at' 6 4).rd 1 CEN_GRP ∧ (at' 6 4).rd 1 CEN_GRP_PREV ≤ 5 ∧ 5 < (at' 6 4).rd 1 CEN_GRP ∧ 3 < (at' 6 4).rd 1 CEN_GRP_PREV) ∧
    (running.on 7 = true ∧ mild running 7 2 = true ∧ mild running 7 3 = true ∧ judged running 7 3 = true) ∧
    (let s := put running [(1, CLK_GATE_EN, 0, 0)]
     s.gated 1 0x15 = true ∧ mild s 1 7 = true ∧ running.gated 1 0x15 = false ∧ running.gated 4 0x20 = false) := by
  decide +kernel

/-- R462, R466: a line that nothing has written reads zeros; one written reads what was written; a poisoned one, and one whose check does not
hold, answers a data error. -/
theorem witness_Fabric_lines :
    (running.hasRegion LaneId.a.reg = true ∧ 13 < requesters LaneId.a.reg ∧ running.rd 1 FAB_PRIO 13 < 16) ∧
    ((List.replicate 32 (7 : Byte)).length = 32 ∧ ([1, 2] : List Byte).length < 32 ∧ 30 + ([1, 2] : List Byte).length ≤ 32) ∧
    (running.readLine .a 9 = some (List.replicate 32 0) ∧ (List.replicate 32 (0 : Byte)).length = 32) ∧
    (let s := running.storeLine .a 9 (List.replicate 32 7)
     s.readLine .a 9 = some (List.replicate 32 7)) ∧
    (let s := running.modLane .a (fun x => { x with poisoned := [9] })
     9 ∈ (s.lane .a).poisoned ∧ s.readLine .a 9 = none) ∧
    (let s := running.modLane .a (fun x => { x with mem := [⟨9, List.replicate 32 7, 0⟩] })
     s.lineCheck .a 9 ≠ crc16 (toLe 4 9 ++ s.lineBytes .a 9) ∧ s.readLine .a 9 = none) := by
  decide +kernel

theorem witness_FaultCollectors_sources :
    (∀ src ∈ [0, 3, 63], src < 64) ∧ (running.rdB Region.la.code INT_POWERED = true) ∧
    (judged running 1 42 = true ∧ countOnly (classOf 1 42) = false ∧ mild running 1 42 = true ∧ bit (running.rd 1 FCL_ERR_STATUS) 42 = false ∧
      bit ((put running [(1, FCL_ERR_STATUS, 0, 2 ^ 42)]).rd 1 FCL_ERR_STATUS) 42 = true ∧ bit (running.rd 1 FCL_FIRST) 6 = false ∧
      running.rdB 1 INT_M_LOST = false ∧ running.vstate .a < 3 ∧ (running.rd 1 FCL_REACT 42).testBit 0 = true) ∧
    (let s := put running [(1, FCL_REC_LIMIT, 42, 1), (1, FCL_REC_COUNT, 42, 1)]
     0 < s.rd 1 FCL_REC_LIMIT 42 ∧ s.rd 1 FCL_REC_LIMIT 42 ≤ s.rd 1 FCL_REC_COUNT 42) ∧
    (let s := put running [(1, FCL_REACT, 42, 4)]
     judged s 1 42 = true ∧ (s.rd 1 FCL_REACT 42).testBit 2 = true ∧ (s.rd 1 FCL_REACT 42).testBit 3 = false ∧ s.quietLane 1 = false ∧ ownerOf 1 42 ≠ 7) ∧
    (let s := put running [(1, FCL_REACT, 42, 8)]
     judged s 1 42 = true ∧ (s.rd 1 FCL_REACT 42).testBit 3 = true ∧ s.vstate .a < 3) ∧
    (∃ src ∈ List.range 64, judged running 1 src = true ∧ countOnly (classOf 1 src) = true) ∧
    ((put running [(1, FCL_MASKED, ownerOf 1 42, 1)]).rd 1 FCL_MASKED (ownerOf 1 42) ≠ 0 ∧
      (put running [(1, FAB_PHASE, 0, 2)]).rd 1 FAB_PHASE = 2 ∧ sourceListed 1 42 = true ∧ sourceListed 1 63 = false) ∧
    (running.powered 1 = true ∧ mild running 1 43 = true ∧ judged running 1 43 = true) := by
  decide +kernel

theorem witness_FaultCollectors_ends :
    (let s := put running [(1, FCL_ERR_STATUS, 0, 2 ^ 43)]
     s.powered Region.la.code = true ∧ bit (s.rd 1 FCL_ERR_STATUS) 43 = true ∧ bit (s.rd 1 FCL_LATCHED) 43 = false ∧ bit (s.rd 1 FCL_RAW) 43 = false) ∧
    (let s := put running [(1, FCL_MASKED, 127, 1), (1, FAB_PHASE, 0, 3)]
     s.on 1 = true ∧ 127 < 128 ∧ s.rd 1 FCL_MASKED 127 ≠ 0 ∧ s.rd 1 FAB_PHASE = 3 ∧ (∀ b, b < 128 → b ≠ 127 → s.rd 1 FCL_MASKED b = 0) ∧ s.vstate .a = 2 ∧
      (put s [(1, FCL_MASKED, 0, 1)]).rd 1 FCL_MASKED 0 ≠ 0 ∧ running.rd 1 FCL_MASKED 127 = 0 ∧ running.rd 1 FAB_PHASE ≠ 3) ∧
    (let s := put running [(1, FCL_MASKED, 127, 1)]
     judged s 1 9 = true ∧ bit (s.rd 1 FCL_ERR_STATUS) 9 = false ∧ (s.rd 1 FCL_REACT 9).testBit 3 = true ∧ s.vstate .a < 3) ∧
    (running.hasRegion Region.s.code = true ∧ Region.s ≠ .m ∧ running.pinCause 8 = false ∧ (put running [(8, FAB_PHASE, 0, 0)]).pinCause 8 = true) ∧
    (let s := put running [(1, FCL_LATCHED, 0, 2 ^ 63), (1, FCL_ERR_STATUS, 0, 2 ^ 63)]
     performs s .a (hdr 1 8) 0x0102 = true ∧ bit (2 ^ 63) 63 = true ∧ (∀ i, i < 64 → bit (2 ^ 63) i = true → bit (s.rd 1 FCL_RAW) i = false) ∧
      s.reaches .a .m = true ∧ s.reaches .a .s = true ∧ s.rd 1 INT_LIFECYCLE ≠ 3 ∧ (put s [(1, INT_LIFECYCLE, 0, 3)]).rd 1 INT_LIFECYCLE = 3) ∧
    (let s := put running [(1, FCL_RAW, 0, 1)]
     bit 1 0 = true ∧ bit (s.rd 1 FCL_RAW) 0 = true ∧ performs s .a (hdr 2 8) 0x0102 = true) := by
  decide +kernel

/-- Every lane in service in the view of every lane, as the rolling self-test asks. -/
def allIn : State := put (([LaneId.a, .b, .c].foldl (fun s x => s.modVot x (fun v => { v with
  frameA := some (frame 1), frameB := some (frame 2), frameC := some (frame 3) })) running)) [(1, STF_HOLDER, 0, 1), (1, CMT_STATE, 5, 4)]

/-- Lane A under a self-test of an origin, LBIST done. -/
def inTest (st pass : Nat) : State := put running [(1, FAB_PHASE, 0, 2), (1, BST_STATE, 0, st), (1, BST_LB_DONE, 0, 1), (1, BST_LB_PASS, 0, pass), (1, STF_STATE, 0, 3)]

theorem witness_SelfTest_runs :
    (performs allIn .a (vhdr 1 10) 0x0601 = true ∧ allIn.chkRolling .a (vhdr 1 10) 1 = none ∧ allIn.chkRolling .a (vhdr 1 10) 2 = none ∧
      allIn.rd 1 STF_HOLDER = LaneId.a.reg ∧ allIn.rd 1 CMT_STATE 5 = 4 ∧ performs allIn .a (hdr 1 10) 0x0601 = true ∧ (hdr 1 10).voted = false ∧
      running.rollReady .a = false ∧ running.hasRegion 3 = true ∧ performs running .a (vhdr 1 10) 0x0601 = true) ∧
    ((∀ b ∈ bridgesOf 1, (bridge0 0).bridgeUsed .a b = true) ∧ performs (bridge0 0) .a (hdr 1 10) 0x0601 = true ∧ bridgesOf 0 = [] ∧
      (∃ b ∈ bridgesOf 32, running.bridgeUsed .a b = false)) ∧
    (let s := put running [(1, BST_STATE, 0, 3), (1, BST_MASK, 0, 32)]
     s.up .a = true ∧ s.rd 1 BST_STATE = 3 ∧ bit (s.rd 1 BST_MASK) 5 = true ∧ 8192 / 4 ^ 6 % 4 = 2 ∧ s.rd 1 BST_MASK = 2 ^ 5 ∧
      (let u := put s [(1, BST_MASK, 0, 33)]; u.rd 1 BST_STATE = 3 ∧ bit (u.rd 1 BST_MASK) 0 = true ∧ bit (u.rd 1 BST_MASK) 5 = true) ∧ running.rd 1 BST_STATE ≠ 3) ∧
    (performs (bridge0 0) .a (hdr 1 10) 0x0602 = true ∧ mild (bridge0 0) 4 3 = true ∧ mild (bridge0 0) 4 4 = true ∧ judged (bridge0 0) 4 4 = true ∧
      (hdr 1 10).voted = false ∧ bridgesOf 64 = []) ∧
    (let s := put running [(1, INT_LIFECYCLE, 0, 3)]
     performs s .a (hdr 1 10) 0x0603 = true ∧ s.chkInject .a 1 42 10000 = none ∧ mild s 1 42 = true ∧ judged s 1 42 = true ∧
      countOnly (classOf 1 42) = false ∧ performs running .a (hdr 1 10) 0x0603 = true ∧ running.rd 1 INT_LIFECYCLE ≠ 3 ∧
      (put stopping [(1, INT_LIFECYCLE, 0, 3)]).rd 1 INT_LIFECYCLE = 3 ∧ (put stopping [(1, INT_LIFECYCLE, 0, 3)]).allEngaged .a = false) ∧
    ((put running [(1, FCL_INJECTED, 63, 1)]).rdB 1 FCL_INJECTED 63 = true ∧ running.rdB 1 FCL_INJECTED 63 = false) := by
  decide +kernel

/-- A comparator test on bridge 5 of lane A, the wires of a mask in it failing. -/
def comparing (n fails : Nat) : State :=
  (put running [(1, BST_STATE, 0, 2), (1, BST_MASK, 0, 32), (4, GDR_CMP_N, 5, n)]).setLane .a
    { running.lane .a with cmpFails := if fails = 0 then [] else [(5, fails)] }

theorem witness_SelfTest_comparator :
    (let s := comparing 0 1
     s.up .a = true ∧ s.on 4 = true ∧ rest5.b < 6 ∧ ((List.range 8).all (fun ch => s.fmode .a ch == 0) = true) ∧ s.baseRatio .a 5 = 1 ∧
      s.rd 1 CMT_STATE 5 = 0 ∧ s.rd 4 GDR_GATES 5 = 0 ∧ s.rd 1 BST_STATE = 2 ∧ bit (s.rd 1 BST_MASK) 5 = true ∧
      ((List.range 5).all (fun c => !bit (s.rd 1 BST_MASK) c) = true) ∧ s.rd 4 GDR_CMP_RESULT 5 = 0 ∧ mild s 4 3 = true ∧ mild s 4 4 = true ∧
      judged s 4 4 = true ∧ s.rd 4 GDR_CMP_N 5 = 0 ∧ (s.lane .a).cmpFails = [(5, 1)] ∧ (1).testBit 0 = true ∧ (1).testBit 2 = false) ∧
    (let s := comparing 7 0
     s.rd 4 GDR_CMP_N 5 = 7 ∧ (s.lane .a).cmpFails = [] ∧ s.rd 1 BST_STATE = 2 ∧ s.rd 1 BST_MASK = 2 ^ 5 ∧ s.rd 4 GDR_CMP_RESULT 5 = 0 ∧
      s.rdB 1 CMT_UPDATE 5 = false ∧ (put s [(1, CMT_UPDATE, 5, 1)]).rdB 1 CMT_UPDATE 5 = true) := by
  decide +kernel

/-- R144: a clean run with every injection detected passes; a group missed, or one in the wrong place, fails with its kind. -/
theorem witness_SelfTest_injection : injFailure {} = none ∧ injFailure { clean := some 4 } = some (3, 4) ∧ injFailure { wire := false } = some (3, 1023) ∧
    injFailure { missed := [511, 9], wrong := [600] } = some (2, 9) ∧ injFailure { missed := [511], wrong := [9] } = some (3, 9) := by
  decide +kernel

theorem witness_SelfTest_memories :
    ((put (inTest 1 1) [(1, BST_LB_DONE, 0, 0)]).inBist .a = true ∧ (put (inTest 1 1) [(1, BST_LB_DONE, 0, 0)]).rdB 1 BST_LB_DONE = false ∧ running.inBist .a = false) ∧
    (∀ st ∈ [1, 4, 5], (inTest st 1).inBist .a = true ∧ (inTest st 1).rdB 1 BST_LB_DONE = true ∧ (inTest st 1).rd 1 INT_BOOT ≠ 3 ∧
      (inTest st 1).rd 1 MEM_SPARE_USED ≤ 128 ∧ (inTest st 1).rd 1 BST_STATE = st ∧ (inTest st 1).rdB 1 BST_LB_PASS = true) ∧
    (3 ≤ (inTest 1 1).vstate .a ∧ 3 ≤ (inTest 5 1).vstate .a ∧ (inTest 5 1).rdB 1 INT_REJOINING = false ∧
      (let s := put (inTest 5 1) [(1, INT_REJOINING, 0, 1), (1, STF_STEP_FAIL, 1, 1)]; s.rdB 1 INT_REJOINING = true ∧ s.rd 1 STF_STEP_FAIL 1 < 2)) ∧
    ((inTest 5 0).rdB 1 BST_LB_PASS = false ∧ 3 ≤ (inTest 5 0).vstate .a ∧ (inTest 5 0).rd 1 FCL_MASKED (ownerOf 1 8) = 0 ∧
      (let s := put (inTest 5 1) [(1, MEM_SPARE_USED, 0, 128)]; ¬ ([9] : List Nat).length ≤ 128 - s.rd 1 MEM_SPARE_USED ∧ s.inBist .a = true)) := by
  decide +kernel

theorem witness_SelfTest_port :
    (running.hasRegion 7 = true ∧ running.rdB 7 INT_POWERED = true ∧ (∀ c ∈ [0, 1, 4], (put running [(7, SMC_LIFECYCLE, 0, c)]).rd 7 SMC_LIFECYCLE = c) ∧
      (put running [(7, SMC_LIFECYCLE, 0, 2)]).rd 7 SMC_LIFECYCLE = 2 ∧ (put running [(7, BST_SCAN_REG, 0, 8)]).rd 7 BST_SCAN_REG ≠ 0 ∧ .a ∈ running.lanesOf) ∧
    (let s := put running [(7, SMC_LIFECYCLE, 0, 4)]
     Region.s ≠ .m ∧ s.rd 7 BST_SCAN_REG = 0 ∧ s.scanOk Region.s.code false = true ∧
      (put running [(7, SMC_LIFECYCLE, 0, 2)]).scanOk Region.s.code false = false) ∧
    State.reset.rdB 7 INT_POWERED = false := by
  decide +kernel

theorem witness_Power_supplies :
    (State.reset.hasRegion LaneId.a.reg = true ∧ State.reset.rdB 1 INT_POWERED = false ∧ running.rdB 1 INT_POWERED = true ∧
      (put State.reset [(2, PWR_STATE, 0, 2)]).watching = true ∧
      (let s := put running [(2, INT_POWERED, 0, 0), (3, INT_POWERED, 0, 0)]
       s.rdB 1 INT_POWERED = true ∧ ∀ x ∈ s.lanesOf, x ≠ .a → s.rdB x.reg INT_POWERED = false) ∧
      (put running [(4, GDR_GATES, 5, 2)]).shortHeld .a 5 = true ∧
      (∃ x ∈ running.lanesOf, x ≠ .a ∧ running.rdB x.reg INT_POWERED = true)) ∧
    (running.on 4 = true ∧ running.on 1 = true ∧ mild (put running [(1, FCL_REACT, 3, 0)]) 1 3 = true ∧ mild (put running [(4, FCL_REACT, 8, 0)]) 4 8 = true ∧
      judged running 4 8 = true ∧ judged running 1 3 = true ∧ bit (running.rd 1 FCL_ERR_STATUS) 3 = false ∧ (running.rd 1 FCL_REACT 3).testBit 3 = true ∧
      running.vstate .a < 3) ∧
    (let s := put running [(1, FAB_PHASE, 0, 0)]
     s.hasRegion 1 = true ∧ s.rdB 1 INT_POWERED = true ∧ s.rd 1 FAB_PHASE = 0 ∧ s.rd 1 PWR_STATE < 2 ∧ running.rd 1 FAB_PHASE ≠ 0) ∧
    (let s := put running [(1, CLK_STATE, 0, 2), (1, FCL_REACT, 2, 0)]
     s.on 1 = true ∧ s.rd 1 CLK_STATE = 2 ∧ mild s 1 2 = true ∧ judged s 1 2 = true ∧ s.vstate .a ≠ 4 ∧
      (put s [(1, STF_STATE, 0, 4)]).vstate .a = 4 ∧ running.rd 1 CLK_STATE ≠ 2) ∧
    (let s := put running [(1, CLK_STATE, 0, 2)]
     judged s 1 2 = true ∧ bit (s.rd 1 FCL_ERR_STATUS) 2 = false ∧ (s.rd 1 FCL_REACT 2).testBit 3 = true ∧ s.vstate .a < 3) := by
  decide +kernel

/-- Lane A asks for a power state. -/
def changing (req : Nat) : State := put running [(1, PWR_STATE, 0, 4), (1, PWR_REQ, 0, req), (1, PWR_HS_STATE, 1, 1)]

theorem witness_Power_handshake :
    (performs running .a (vhdr 1 12) 0x0701 = true ∧ running.chkPower .a (vhdr 1 12) 2 0 = none ∧ running.chkPower .a (hdr 1 12) 1 2 = none ∧
      running.chkPower .a (hdr 1 12) 0 0 = none ∧ performs running .a (hdr 1 12) 0x0701 = true ∧
      (let s := put running [(1, STF_STATE, 0, 0)]; s.vstate .a = 0 ∧ performs s .a (vhdr 1 12) 0x0701 = true ∧ s.chkPower .a (vhdr 1 12) 3 0 = none) ∧
      (vhdr 1 12).voted = decide (2 ≤ 2) ∧ (hdr 1 12).voted = decide (2 ≤ 1) ∧ (vhdr 1 12).voted = decide (1 < 2) ∧ (hdr 1 12).voted = decide (2 < 2) ∧
      (hdr 1 12).port ≠ .can1 ∧ (changing 1).rd 1 PWR_STATE = 4 ∧ performs (changing 1) .a (hdr 1 12) 0x0701 = true) ∧
    (((put (changing 2) [(1, CMT_STATE, 5, 4)]).rd 1 CMT_STATE 5 = 4 ∧ (put (changing 1) [(1, CMT_STATE, 5, 2)]).rd 1 CMT_STATE 5 = 2) ∧
      stopping.allEngaged .a = false ∧ running.allEngaged .a = true ∧
      (let s := put stopping [(1, OBS_SPEED, 0, 2 ^ 31 - 1), (1, PWR_REQ, 0, 1), (1, CEN_HOLD_SPEED, 0, 0)]; s.brakesSlow .a = false ∧ 1 ≤ s.rd 1 PWR_REQ) ∧
      (put running [(1, BST_STATE, 0, 3)]).rd 1 BST_STATE ≠ 0 ∧ ((withConsist emptyConsist).lane .a).wbe.consists ≠ [] ∧
      (put running [(8, FAB_LOCK_STATE, 0, 1)]).rd 8 FAB_LOCK_STATE 0 = 1 ∧ (put running [(8, FAB_LOCK_STATE, 0, 1)]).allEngaged .a = true ∧
      (locked 1).rd 7 FAB_LOCK_STATE 1 = 1 ∧ (put running [(1, VOT_MODE, 0, 3)]).rd 1 VOT_MODE = 3 ∧ 0x02 ∉ [0x10, 0x30, 0x11, 0x0A, 0x01, 0x40, 0x1A]) := by
  decide +kernel

theorem witness_Power_changes :
    ((changing 2).up .a = true ∧ (changing 2).rd 1 PWR_STATE = 4 ∧ (changing 2).rd 1 PWR_HS_STATE 1 = 1 ∧ (changing 2).mustRefuse .a 1 = none ∧
      ((changing 2).modWbe .a (fun w => { w with consists := [emptyConsist] })).mustRefuse .a 1 = some 5 ∧ (changing 2).rd 1 PWR_HS_DELAYS 1 < 3 ∧
      3 ≤ (put (changing 2) [(1, PWR_HS_DELAYS, 1, 3)]).rd 1 PWR_HS_DELAYS 1 ∧ (∃ p ∈ (changing 2).parties .a 2, ¬ (p = 1 ∨ (changing 2).rd 1 PWR_HS_STATE p = 2))) ∧
    ((changing 1).rd 1 PWR_REQ_POINT = (changing 1).rd 1 CLK_POINT ∧
      (let s := put (changing 1) [(1, PWR_REQ_POINT, 0, 2)]; s.rd 1 PWR_REQ_POINT ≠ s.rd 1 CLK_POINT ∧ s.rd 1 PWR_REQ_POINT < 3 ∧ s.rd 1 CLK_STATE ≠ 3)) ∧
    ((changing 2).rd 1 PWR_HS_STATE 255 ≠ 1 ∧ (put (changing 2) [(1, PWR_HS_STATE, 255, 3)]).rd 1 PWR_HS_STATE 255 = 3 ∧ 2 ≤ (changing 2).rd 1 PWR_REQ) ∧
    (let s := put running [(1, CMT_CART, 5, 5), (1, PWR_DVFS_TO, 0, 1), (1, PWR_START_MASK, 0, 32), (4, GDR_BOOT_READY, 0, 2 ^ 18 - 1)]
     s.up .a = true ∧ s.rd 1 PWR_DVFS_TO = 0 + 1 ∧ s.rd 1 PWR_START_MASK ≠ 0 ∧ (s.rd 1 PWR_START_MASK).testBit 5 = true ∧ s.rd 1 CMT_STATE 5 = 0 ∧
      s.rd 4 GDR_PRE_ON 5 = 0 ∧ s.bootReady .a 5 = true ∧ s.bridgeUsed .a 5 = true ∧ s.gatesReady .a = true ∧
      bit (s.rd 1 CLK_ISL_CFG) 0 = false ∧ s.rd 1 PWR_START_MASK = 2 ^ 5 ∧ (put s [(4, GDR_VGD_BAD, 0, 1)]).gatesReady .a = false ∧
      (let u := put s [(1, CLK_ISL_CFG, 0, 1), (1, CMT_STATE, 0, 2), (1, CMT_STATE, 1, 2), (1, CMT_STATE, 2, 1)]
       bit (u.rd 1 CLK_ISL_CFG) 0 = true ∧ 3 < ((List.range 6).filter (fun c => c == 5 || u.rd 1 CMT_STATE c == 1 || u.rd 1 CMT_STATE c == 2 ||
         u.rdB 4 GDR_PRE_ON c)).length) ∧ (put running [(1, PWR_DVFS_TO, 0, 3)]).rd 1 PWR_DVFS_TO = 2 + 1 ∧ running.rd 1 PWR_START_MASK = 0 ∧
      running.rd 1 PWR_DVFS_TO ≠ 2 + 1) := by
  decide +kernel

/-- Every party but the first has accepted. -/
def accepted (req : Nat) : State := put (changing req) ((running.parties .a req).filterMap (fun p => if p = 1 then none else some (1, PWR_HS_STATE, p, 2)))

theorem witness_Power_last_party : (accepted 1).rd 1 PWR_HS_STATE 1 = 1 ∧ (accepted 3).rd 1 PWR_HS_STATE 1 = 1 ∧
    (∀ p ∈ (accepted 1).parties .a 1, p = 1 ∨ (accepted 1).rd 1 PWR_HS_STATE p = 2) ∧
    ∀ p ∈ (accepted 3).parties .a 3, p = 1 ∨ (accepted 3).rd 1 PWR_HS_STATE p = 2 := by
  decide +kernel

/-- Lane A in LOCK WATCH. -/
def watch : State := put running [(1, PWR_STATE, 0, 2), (1, PWR_WAKE_EN, 0, 31), (1, PWR_WAKE_TIMER, 0, 9), (1, PWR_CREEP_CH, 0, 128), (1, FBI_MODE, 7, 2)]

theorem witness_Power_wakes :
    (watch.asleep .a = true ∧ bit (watch.rd 1 PWR_WAKE_EN) 1 = true ∧ watch.rd 1 PWR_WAKE_TIMER ≠ 0 ∧ bit (watch.rd 1 PWR_WAKE_EN) 3 = true ∧
      bit (watch.rd 1 PWR_WAKE_EN) 4 = true ∧ bit ((put watch [(1, PWR_WAKE_EN, 0, 0)]).rd 1 PWR_WAKE_EN) 1 = false ∧ LaneId.b ≠ .a) ∧
    (watch.findsCreep .a ⟨7, [], none⟩ = true ∧ (∀ x ∈ [(⟨6, [], none⟩ : CreepSample)], watch.findsCreep .a x = false) ∧ bit (watch.rd 1 PWR_CREEP_CH) 7 = true ∧
      watch.fmode .a 7 ≠ 1 ∧
      watch.creepBad .a ⟨7, [], some (0, true)⟩ = false ∧ watch.creepBad .a ⟨7, [], none⟩ = true) ∧
    (let s := put watch [(1, FBI_MODE, 7, 1)]
     s.fmode .a 7 = 1) ∧
    (let s := put running [(1, PWR_STATE, 0, 3), (1, FAB_PHASE, 0, 2)]
     s.rdB 1 INT_POWERED = true ∧ s.rd 1 PWR_STATE = 3 ∧ s.rd 1 FAB_PHASE = 2 ∧ (put s [(1, FAB_PHASE, 0, 0)]).rd 1 FAB_PHASE ≠ 2 ∧ running.asleep .a = false) ∧
    (let s := put running [(7, INT_POWERED, 0, 0), (8, INT_POWERED, 0, 0)]
     (∃ x ∈ s.lanesOf, s.rdB x.reg INT_POWERED = true) ∧ s.hasRegion 7 = true ∧ s.rdB 7 INT_POWERED = false ∧ s.hasRegion 8 = true ∧ s.rdB 8 INT_POWERED = false) ∧
    (running.on 1 = true ∧ ((running.modLane .a (fun x => { x with ret := some ⟨[], [], [], [], []⟩ })).lane .a).ret.isSome = true ∧ 15 < 16 ∧
      (running.lane .a).ret = none) := by
  decide +kernel

/-- Lane A that may start. -/
def starting : State := put running [(1, FAB_PHASE, 0, 0), (1, CLK_STATE, 0, 2), (1, STF_STATE, 0, 4)]

def outcome (images : List (Option Nat)) (cfgOk : Bool) : StartOutcome := ⟨{}, images, cfgOk, 0, []⟩

theorem witness_Start_lane :
    (starting.hasRegion 1 = true ∧ starting.rdB 1 INT_POWERED = true ∧ starting.rd 1 FAB_PHASE = 0 ∧ starting.rd 1 CLK_STATE = 2 ∧ starting.rd 1 PWR_STATE < 2 ∧
      starting.rd 1 INT_BOOT = 0 ∧ running.rd 1 FAB_PHASE ≠ 0 ∧ 3 ≤ starting.vstate .a) ∧
    (injFailure (outcome [some 9, none] true).injection = none ∧ (outcome [some 9, none] true).images.getD 0 none = some 9 ∧
      (put starting [(1, UPD_ACT, 0, 1)]).rd 1 UPD_ACT = 0 + 1 ∧ (put starting [(1, UPD_ACT, 0, 1)]).slotState .a 0 ≠ 3 ∧ (starting.lane .a).ret = none) ∧
    (starting.mdie.sets.find? (fun e => e.1 == LaneId.a) = none ∧
      (let s : State := { starting with mdie := { starting.mdie with sets := [(.a, [(GDR_DEAD_TIME.key 4 0, 500)])] } }
       s.mUp = true ∧ s.mdie.sets.find? (fun e => e.1 == LaneId.a) = some (.a, [(GDR_DEAD_TIME.key 4 0, 500)]) ∧
        (([(GDR_DEAD_TIME.key 4 0, 500)] : Store).map Prod.fst).Nodup ∧ lookup (GDR_DEAD_TIME.key 4 0) = some GDR_DEAD_TIME ∧ GDR_DEAD_TIME.acc = .rws ∧
        GDR_DEAD_TIME.name ≠ RPC_TBL.name)) ∧
    (let s := put starting [(1, UPD_ACT, 0, 2), (1, UPD_SLOT_STATE, 0, 3 * 16)]
     s.rd 1 UPD_ACT = 1 + 1 ∧ s.slotState .a 1 = 3 ∧ s.rdB 1 UPD_TRIAL_OK = false ∧ [some 9, some 8].getD (1 - 1) none = some 9) ∧
    (starting.rd 1 UPD_ACT = 0 ∧ [none, some 8].getD 1 none = some 8 ∧ (∀ j, j < 1 → [none, some 8].getD j none = none) ∧
      [none, none].getD 0 (none : Option Nat) = none) ∧
    (injFailure { missed := [9] } = some (2, 9) ∧ starting.rdB 1 INT_REJOINING = false ∧ judged starting 1 12 = true ∧
      (let s := put starting [(1, INT_REJOINING, 0, 1), (1, STF_STEP_FAIL, 1, 1)]; s.rdB 1 INT_REJOINING = true ∧ s.rd 1 STF_STEP_FAIL 1 < 2) ∧
      (let s := put starting [(1, INT_REJOINING, 0, 1), (1, STF_STEP_FAIL, 1, 2)]; s.rdB 1 INT_REJOINING = true ∧ 2 ≤ s.rd 1 STF_STEP_FAIL 1)) := by
  decide +kernel

theorem witness_Start_ready :
    (let s := put running [(1, INT_BOOT, 0, 3), (1, UPD_ACT, 0, 1), (1, UPD_SLOT_STATE, 0, 3), (1, TWL_EN, 0, 1)]
     s.rd 1 INT_BOOT = 3 ∧ s.rd 1 LSC_STATE ≠ 3 ∧ (put s [(1, LSC_STATE, 0, 3)]).rd 1 LSC_STATE = 3 ∧ s.rdB 1 INT_POWERED = true ∧ s.slotState .a (s.actSlot .a) = 3 ∧ s.rdB 1 TWL_EN = true ∧ s.rd 1 LKG_STATE ≠ 5 ∧ s.part ≠ .fj3821) ∧
    ((put running [(1, INT_BOOT, 0, 3), (1, TWL_EN, 0, 0)]).rdB 1 TWL_EN = false ∧ running.rd 1 INT_BOOT ≠ 3) ∧
    (let s := put running [(1, UPD_ACT, 0, 2), (1, UPD_SLOT_STATE, 0, 3 * 16)]
     s.on 1 = true ∧ s.slotState .a (s.actSlot .a) = 3 ∧ 9 ≠ s.rd 1 UPD_ACTIVE_DIGEST ∧ s.actSlot .a < 2 ∧ s.rd 1 UPD_ACT = s.actSlot .a + 1 ∧
      LaneId.b ≠ .a ∧ (put s [(1, UPD_SLOT_STATE, 0, 0)]).slotState .a 1 ≠ 3) ∧
    (let s := put (running.modLane .a (fun x => { x with boot := ⟨0, 8, 0, 0, [(.b, 7, 8), (.c, 7, 8)]⟩ })) [(1, INT_BOOT, 0, 1), (1, UPD_SLOT_STATE, 0, 2 * 16)]
     s.rd 1 INT_BOOT = 1 ∧ s.pendingDigest .a = 8 ∧ (∀ p ∈ s.peersOf .a, ∃ e ∈ (s.lane .a).boot.ann, e.1 = p ∧ e.2.2 = 8) ∧ s.slotState .a 1 = 2 ∧
      (∀ j, j < 1 → s.slotState .a j ≠ 2) ∧ s.recValid .a = false ∧ (put running [(1, INT_BOOT, 0, 1)]).pendingDigest .a = 0) ∧
    (let s := put running [(4, FAB_PHASE, 0, 0)]
     s.up .a = true ∧ s.hasRegion 4 = true ∧ s.rdB 4 INT_POWERED = true ∧ s.rd 4 FAB_PHASE = 0 ∧ running.rd 4 FAB_PHASE ≠ 0) ∧
    (let s := put running [(7, FAB_PHASE, 0, 0), (8, FAB_PHASE, 0, 0), (8, ATH_SAVED, 0, 5)]
     s.hasRegion 8 = true ∧ s.rdB 8 INT_POWERED = true ∧ s.rd 8 FAB_PHASE = 0 ∧ s.rd 8 ATH_SAVED ≠ 0 ∧ s.rdB 7 INT_POWERED = true ∧ s.rd 7 FAB_PHASE = 0) := by
  decide +kernel

theorem witness_Start_heartbeats :
    (running.rd 1 INT_M_LOST = 0 ∧ mild running 1 14 = true ∧ judged running 1 14 = true ∧
      (let s := put running [(1, INT_M_LOST, 0, 1), (1, INT_M_BEATS, 0, 9), (1, TRC_STATE, 0, 5)]
       s.rd 1 INT_M_LOST ≠ 0 ∧ bit (s.rd 1 FCL_RAW) 14 = false ∧ bit ((put s [(1, FCL_RAW, 0, 2 ^ 14)]).rd 1 FCL_RAW) 14 = true ∧ 9 ≤ s.rd 1 INT_M_BEATS ∧ s.rd 1 TRC_STATE = 5 ∧ (put s [(1, INT_M_BEATS, 0, 8)]).rd 1 INT_M_BEATS < 9 ∧ s.synced .a = false)) ∧
    (let s := put synced [(1, INT_M_LOST, 0, 1), (1, INT_M_BEATS, 0, 5), (1, INT_M_BEAT_CYC, 0, synced.cycle .a)]
     s.synced .a = true ∧ s.rd 1 INT_M_BEATS ≠ 0 ∧ s.cycle .a = s.rd 1 INT_M_BEAT_CYC ∧ s.cycle .a ≠ nextCycle (s.rd 1 INT_M_BEAT_CYC) ∧
      s.rd 1 INT_M_BEATS < 10 ∧
      (let u := put s [(1, INT_M_BEAT_CYC, 0, synced.cycle .a + 5)]
       u.cycle .a ≠ u.rd 1 INT_M_BEAT_CYC ∧ u.cycle .a ≠ nextCycle (u.rd 1 INT_M_BEAT_CYC) ∧ u.rd 1 INT_M_BEATS ≠ 0)) := by
  decide +kernel

/-- A record whose result bits are set, of an age of 0, of lifecycle state 2. -/
theorem witness_Start_record : (put running [(1, BST_REC_ON, 0, 1), (1, BST_REC, 0, 7 * 256 + 2 * 2 ^ 128)]).recValid .a = true := by
  decide +kernel

theorem witness_LogAndUpdates_log :
    (running.mUp = true ∧ State.reset.mUp = false ∧ performs running .a (hdr 7 0x42) 0x0901 = true ∧ running.reaches .a .m = true ∧ 16 ≤ 16 ∧
      0 ≤ running.rd 7 LOG_NEWEST ∧ running.rd 7 LOG_NEWEST < 1) ∧
    (let s := put running [(1, XLK_LINK_STATE, 7, 3)]
     performs s .a (hdr 7 0x42) 0x0901 = true ∧ s.reaches .a .m = false) := by
  decide +kernel

/-- The service port sends an update of 8 bytes. -/
def updating (st received : Nat) : State :=
  { put running [(7, UPD_STATE, 0, st), (7, UPD_RECEIVED, 0, received)] with mdie := { updSrc := some .service, updTotal := 8 } }

theorem witness_LogAndUpdates_session :
    ((∀ o ∈ [(0x0902 : Nat), 0x0903, 0x0904], performs running .a (hdr 7 0x41) o = true) ∧ running.reaches .a .m = true ∧ running.rd 7 SMC_MX_LOST = 0) ∧
    (running.mdie.updSrc = none ∧ 16777216 ≤ 16777216 ∧ 16777216 < 16777217 ∧ (updating 1 4).mdie.updSrc = some .service ∧ UpdSource.service ≠ .lane .a) ∧
    ((updating 1 4).rd 7 UPD_STATE = 1 ∧ (updating 1 4).rd 7 UPD_RECEIVED = 4 ∧ 4 + [(1 : Byte), 2, 3, 4].length ≤ (updating 1 4).mdie.updTotal ∧
      (updating 1 8).rd 7 UPD_RECEIVED = (updating 1 8).mdie.updTotal ∧ (updating 1 4).rd 7 UPD_RECEIVED ≠ (updating 1 4).mdie.updTotal) ∧
    ((updating 1 4).mUp = true ∧ (updating 2 8).rd 7 UPD_STATE = 2 ∧ (updating 2 8).mUp = true ∧ (updating 2 8).updCause [] = some 1 ∧ containerOk [] = false ∧
      mild running 7 7 = true ∧ judged running 7 7 = true ∧ (updating 0 0).rd 7 UPD_STATE ≠ 1) := by
  decide +kernel

/-- A section of M with an image of one byte, and a container of it. -/
def sectM : List Byte := [2, 0, 0, 0, 0, 0, 0, 0] ++ toLe 4 0 ++ toLe 4 1 ++ List.replicate 2837 0
def contM : List Byte := [1, 2, 0, 0] ++ toLe 4 2917 ++ List.replicate 8 0 ++ toLe 4 64 ++ toLe 4 2853 ++ List.replicate 40 0 ++ sectM

theorem container_contM : container contM = (none, some sectM) := by decide +kernel

/-- The signature of a section is a free function of Config: whichever it answers, one of the two clauses is met. -/
theorem witness_LogAndUpdates_verify :
    (sectSigned sectM = true → (updating 2 8).updCause contM = none) ∧
    (sectSigned sectM = false → containerOk contM = true ∧ ∃ x, ((container contM).1 = some x ∨ (container contM).2 = some x) ∧ sectSigned x = false) := by
  have h2 : containerOk contM = true := by decide +kernel
  have h3 : decide (fieldLe sectM 8 4 ≥ (updating 2 8).rd 7 UPD_FLOOR_M) = true := by decide +kernel
  refine ⟨fun h => ?_, fun h => ⟨h2, sectM, .inr ?_, h⟩⟩
  · unfold State.updCause
    simp [h2, container_contM, h]
    simpa using h3
  · rw [container_contM]

theorem witness_LogAndUpdates_install :
    (running.up .a = true ∧ running.rd 1 UPD_ACT ≤ 2 ∧ (put running [(1, UPD_ACT, 0, 1)]).rd 1 UPD_ACT = 1) ∧
    (let s := put running [(7, UPD_STATE, 0, 3), (7, UPD_LANE_STATE, 0, 0x111)]
     s.reaches .a .m = true ∧ s.rd 7 UPD_STATE = 3 ∧ (∃ j, j < 3 ∧ j ≠ LaneId.a.idx ∧ s.rd 7 UPD_LANE_STATE / 16 ^ j % 16 = 1)) ∧
    (let s := put running [(7, UPD_STATE, 0, 3), (7, UPD_LANE_STATE, 0, 0x321)]
     (∀ j, j < 3 → j ≠ LaneId.a.idx → s.rd 7 UPD_LANE_STATE / 16 ^ j % 16 ≠ 1) ∧
      (∃ j, j < 3 ∧ j ≠ LaneId.a.idx ∧ s.rd 7 UPD_LANE_STATE / 16 ^ j % 16 = 3)) := by
  decide +kernel

/-- M with a number of leaves reserved and left. -/
def leaves (next left state : Nat) : State :=
  put running [(7, ATT_NEXT, 0, next), (7, ATT_LIMIT, 0, 16), (7, ATT_LEAF_NEXT, 0, 16), (7, ATT_LEAF_LEFT, 0, left), (7, ATT_STATE, 0, state)]

theorem witness_AttestAndLifecycle_attest :
    (performs running .a (hdr 7 0x46) 0x0905 = true ∧ running.reaches .a .m = true ∧ (List.replicate 32 (7 : Byte)).length = 32 ∧ 2 ≤ 2 ∧ 2 < 3 ∧
      mild running 7 8 = true ∧ judged running 7 8 = true) ∧
    ((leaves 15 9 0).rd 7 ATT_STATE ≠ 3 ∧ (leaves 15 9 0).rd 7 ATT_LEAF_LEFT ≠ 0 ∧ (leaves 15 9 0).rd 7 ATT_NEXT < (leaves 15 9 0).rd 7 ATT_LIMIT ∧
      ¬ (leaves 16 9 0).rd 7 ATT_NEXT < (leaves 16 9 0).rd 7 ATT_LIMIT ∧ (leaves 16 9 0).rd 7 ATT_LEAF_NEXT < 1048576 ∧
      (leaves 0 9 2).rd 7 ATT_STATE = 2 ∧ (leaves 0 9 3).rd 7 ATT_STATE = 3 ∧ (leaves 0 0 0).rd 7 ATT_LEAF_LEFT = 0) ∧
    (let s : State := { leaves 0 9 1 with mdie := { report := List.replicate 252 0 } }
     s.mUp = true ∧ s.rd 7 ATT_STATE = 1 ∧ s.mdie.report.length = 252) ∧
    (running.rd 7 SMC_MX_LOST = 0 ∧ mild running 7 6 = true ∧ judged running 7 6 = true ∧ (put running [(7, SMC_MX_LOST, 0, 1)]).rd 7 SMC_MX_LOST ≠ 0) := by
  decide +kernel

/-- A ticket from lifecycle state 2 to 4, with a nonce of zeros. -/
def ticket : List Byte := [1, 4, 0, 0] ++ List.replicate 2880 0

def applying : State := { put running [(7, SMC_LIFECYCLE, 0, 2), (7, SMC_NONCE_ON, 0, 1)] with mdie := { nonce := List.replicate 32 0, ticket := ticket } }

theorem witness_AttestAndLifecycle_apply :
    performs applying .a (hdr 7 0x40) 0x0906 = true ∧ applying.reaches .a .m = true ∧ transition (applying.rd 7 SMC_LIFECYCLE) (byteAt ticket 1) = some (true, false, false) ∧
      byteAt ticket 0 = 1 ∧ applying.rdB 7 SMC_NONCE_ON = true ∧ (ticket.drop 20).take 32 = applying.mdie.nonce ∧ fieldLe ticket 4 16 = applying.rd 7 SMC_SERIAL ∧
      applying.latchesHeld = true ∧ 2 ≤ applying.rd 7 SMC_LIFECYCLE ∧ transition 0 5 = none ∧
      (put applying [(1, CEN_TGT_BRIDGE, 1, 0), (1, CMT_CART, 0, 0)]).latchesHeld = false ∧ 1016 + 1936 ≤ 2952 ∧ 2952 < 1016 + 1937 := by
  decide +kernel

/-- The signature of a ticket is a free function of Config; where it verifies, the ticket is sound. -/
theorem witness_AttestAndLifecycle_signed
    (h : Config.sigOk (Config.vendorKey 0) (ticket.take 64) ((ticket.drop 64).take 2820) = true) : applying.ticketSigned ticket (true, false, false) = true := by
  have e : (ticket.length == 2884) = true := by decide +kernel
  have e2 : byteAt ticket 2 = 0 := by decide +kernel
  simp only [State.ticketSigned, e2, Nat.add_zero, if_false, Bool.false_eq_true]
  simp [h, e]

/-- Tag port 7 in a step with a number of tries. -/
def tagPort (step tries : Nat) : State := put running [(7, CRT_STEP, 7, step), (7, CRT_TRIES, 7, tries), (7, CRT_PORT_STATE, 7, 3)]

theorem witness_Cartridges :
    (running.mUp = true ∧ 7 < 8 ∧ running.mdie.ports.length = 8 ∧ (tagPort 0 0).rd 7 CRT_STEP 7 = 0) ∧
    ((∀ k ∈ [1, 2, 3], (tagPort k 2).rd 7 CRT_STEP 7 = k ∧ (tagPort k 2).rd 7 CRT_TRIES 7 < 3 ∧ 3 ≤ (tagPort k 3).rd 7 CRT_TRIES 7) ∧
      ∀ n ∈ [10, 11, 12], mild (tagPort 3 3) 7 n = true ∧ judged (tagPort 3 3) 7 n = true) ∧
    (∀ k ∈ [1, 2, 3], let raw := tagFrame k [9]
      5 ≤ raw.length ∧ fieldLe raw (raw.length - 2) 2 = crc16 (raw.take (raw.length - 2)) ∧ byteAt raw 0 = k ∧ fieldLe raw 1 2 + 5 = raw.length) ∧
    ¬ 5 ≤ ([] : List Byte).length ∧
    (let s : State := { tagPort 0 0 with mdie := { mirror := [⟨0, [1, 2, 3, 4], [0, 0, 0, 0], [0, 0, 0, 0]⟩] } }
     s.mdie.ports.length = 8 ∧ s.rd 7 CRT_PORT_STATE 7 = 3 ∧ (s.mirrorOf (s.rd 7 CRT_SERIAL 7)).isSome = true ∧ s.rd 7 CRT_PORT_STATE 0 ≠ 3) ∧
    (running.up .a = true ∧ running.rd 1 INT_M_LOST = 0 ∧ (put running [(1, INT_M_LOST, 0, 1)]).rd 1 INT_M_LOST ≠ 0) ∧ State.reset.mUp = false := by
  decide +kernel

/-! ### The hypotheses of the statements about the queue, identifiers and flits -/

theorem witness_StepRunsTheFrontCommand_front : ({ State.reset with pending := [.mxinLoss, .jtagIdcode] } : State).pending = .mxinLoss :: [.jtagIdcode] ∧
    State.reset.pending = [] := ⟨rfl, rfl⟩

theorem witness_EveryCommandAnswersANextState : exec .mxinLoss State.reset = .next State.reset := by rfl

theorem witness_ParameterIdLayout : 2 ^ 32 - 1 < 2 ^ 32 ∧ (PKey.ofId (2 ^ 32 - 1)).region < 16 ∧ (PKey.ofId (2 ^ 32 - 1)).block < 256 ∧
    (PKey.ofId (2 ^ 32 - 1)).index < 4096 ∧ (PKey.ofId (2 ^ 32 - 1)).inst < 256 := by decide

theorem witness_FlitCheckIsTheCrc16OfTheManual : 2 ^ 112 - 1 < 2 ^ 112 := by decide

end Sys2Proof.Tests
end

section
/-! PROOFS. The parameter store: what it holds at reset, what a write changes, and the layout of a parameter ID. -/

namespace Sys2Proof.Machine

open Par

/-- Every region has the rows of the fault collector (R472). -/
theorem blockMap_collector (k : RegionKind) : blockMap k FCL_LATCHED.block = everyFCLMap := by cases k <;> rfl

theorem lookup_latched (r : Nat) : lookup (FCL_LATCHED.key r 0) = some FCL_LATCHED := by
  refine lookup_key ?_ ?_ (by decide)
  all_goals rw [blockMap_collector]; decide

/-- The latched faults of a region read 0 at reset. -/
theorem resetOf_latched (r : Nat) : resetOf (FCL_LATCHED.key r 0) = 0 := by
  unfold resetOf
  rw [lookup_latched]
  rfl

/-- Source 63 is reserved in every region, so it has no class (R472). -/
theorem classOf_last (r : Nat) : classOf r 63 = 0 := by
  unfold classOf classesOf
  cases kindOf r <;> rfl

/-- Settles O4: the store of the reset state is empty, so every place reads its reset value. -/
theorem resetReadsResetValues : Obligations.ResetReadsResetValues :=
  ⟨rfl, fun _ => rfl, rfl, rfl, by decide, by decide, by decide, by decide,
    fun r => ⟨classOf_last r, resetOf_latched r⟩⟩

/-- Settles O5: a write is one put in the store. -/
theorem writingAParameterChangesOnlyIt : Obligations.WritingAParameterChangesOnlyIt :=
  fun s r d i v => ⟨State.rd_wr_same s r d i v, State.sameBut_wr s r d i v⟩

/-- The fields of an identifier are its bit ranges (R9). -/
theorem PKey.ofId_eq_bits (id : Nat) : PKey.ofId id = ⟨bits id 31 28, bits id 27 20, bits id 19 8, bits id 7 0⟩ := by
  simp [PKey.ofId, bits]

theorem PKey.toId_ofId {id : Nat} (h : id < 2 ^ 32) : (PKey.ofId id).toId = id := by
  simp only [PKey.ofId, PKey.toId]
  omega

theorem PKey.toId_lt {k : PKey} (hr : k.region < 16) : k.toId < 2 ^ 32 := by
  simp only [PKey.toId]
  omega

theorem PKey.ofId_toId {k : PKey} (hr : k.region < 16) (hb : k.block < 256) (hx : k.index < 4096) (hi : k.inst < 256) :
    PKey.ofId k.toId = k := by
  obtain ⟨r, b, x, i⟩ := k
  simp only [PKey.ofId, PKey.toId, PKey.mk.injEq] at *
  omega

/-- Settles O6: an identifier is its four fields at their places, so cutting and joining them undo one another. -/
theorem parameterIdLayout : Obligations.ParameterIdLayout :=
  ⟨PKey.ofId_eq_bits, fun _ h => PKey.toId_ofId h, fun _ hr hb hx hi => ⟨PKey.ofId_toId hr hb hx hi, PKey.toId_lt hr⟩,
    fun _ _ => rfl, rfl⟩

end Sys2Proof.Machine
end

section
/-! PROOFS. A command answers a next state, which keeps what every operation keeps; the laws of the shared operations in a form
that chains. -/

namespace Sys2Proof.Machine

/-- A next state is answered, and it keeps what every operation keeps. -/
def Answers (s : State) (o : Host.Outcome State Fault Refusal) : Prop := ∃ t, o = .next t ∧ Keeps s t

theorem Answers.next {s t : State} (h : Keeps s t) : Answers s (.next t) := ⟨t, rfl, h⟩

theorem Answers.keeps {s t : State} (h : Answers s (.next t)) : Keeps s t := by
  obtain ⟨_, e, k⟩ := h
  cases e
  exact k

namespace Keeps

variable {u s : State} {l : LaneId} {k : Link} {hd : Hdr} {r i : Nat} {d : PDesc}

theorem atTime {t : Nat} (h : Keeps u s) : Keeps u (s.atTime t) := State.atTime_keeps s t h

theorem wr {v : Nat} (h : Keeps u s) : Keeps u (s.wr r d i v) := State.wr_keeps s r d i v h

theorem wrBit {n : Nat} {b : Bool} (h : Keeps u s) : Keeps u (s.wrBit r d i n b) := State.wrBit_keeps s r d i n b h

theorem bump (h : Keeps u s) : Keeps u (s.bump r d i) := State.bump_keeps s r d i h

theorem raise {src : Nat} {held : Bool} (h : Keeps u s) : Keeps u (s.raise r src held) := State.raise_keeps s r src held h

theorem release {src : Nat} (h : Keeps u s) : Keeps u (s.release r src) := State.release_keeps s r src h

theorem send {x : Sent} (h : Keeps u s) : Keeps u (s.send x) := State.send_keeps s x h

theorem modLane {f : Lane → Lane} (h : Keeps u s) : Keeps u (s.modLane l f) := State.modLane_keeps s l f h

theorem modWbe {f : Wbe → Wbe} (h : Keeps u s) : Keeps u (s.modWbe l f) := State.modWbe_keeps s l f h

theorem modHst {f : Hst → Hst} (h : Keeps u s) : Keeps u (s.modHst l f) := State.modHst_keeps s l f h

theorem modVot {f : Vot → Vot} (h : Keeps u s) : Keeps u (s.modVot l f) := State.modVot_keeps s l f h

theorem modM {f : MDie → MDie} (h : Keeps u s) : Keeps u (s.modM f) := State.modM_keeps s f h

theorem setLink {x : LinkSt} (h : Keeps u s) : Keeps u (s.setLink k x) := State.setLink_keeps s k x h

theorem pump {n : Nat} (h : Keeps u s) : Keeps u (s.pump n k) := State.pump_keeps n k s h

theorem direct {op : Op} (h : Keeps u s) : Keeps u (s.direct l hd op) := State.direct_keeps s l hd op h

section Conditions

variable {f : State → State} (h : Keeps u s) (hf : ∀ x, Keeps u x → Keeps u (f x))
include h hf

theorem whenUp : Keeps u (s.whenUp l f) := State.whenUp_keeps s l f h hf

theorem whenHost : Keeps u (s.whenHost l f) := State.whenHost_keeps s l f h hf

theorem whenPair : Keeps u (s.whenPair l f) := .ite (hf s h) h

theorem whenS : Keeps u (s.whenS f) := State.whenS_keeps s f h hf

theorem whenM : Keeps u (s.whenM f) := State.whenM_keeps s f h hf

theorem onLink : Keeps u (s.onLink k f) := State.onLink_keeps s k f h hf

theorem jtag {sel : Nat} {permitted : Bool} : Keeps u (s.jtag sel permitted f) := State.jtag_keeps s sel permitted f h hf

end Conditions

/-- An effect, given with its response. -/
theorem fst {x : Rsp} (h : Keeps u s) : Keeps u (s, x).1 := h

section Performing

variable {op : Nat} {chk : Option Rsp} {eff : State × Rsp} (h : Keeps u s) (he : Keeps u eff.1)
include h he

theorem perform : Keeps u (s.perform l hd op chk eff) := State.perform_keeps s l hd op chk eff h he

theorem performAt {c : Shared} : Keeps u (s.performAt l c hd op chk eff) := State.performAt_keeps s l c hd op chk eff h he

theorem performTo : Keeps u (s.performTo l hd op chk eff) := State.performTo_keeps s l hd op chk eff h he

theorem performM {o : UpdSource} : Keeps u (s.performM o hd op chk eff) := State.performM_keeps s o hd op chk eff h he

end Performing

end Keeps

/-- A waybill's opcode performed in a lane: what matters is its effect. -/
theorem Answers.perform {s : State} {l : LaneId} {hd : Hdr} {op : Nat} {chk : State → Option Rsp} {eff : State → State × Rsp}
    (h : Keeps s (eff s).1) : Answers s (.next (s.whenHost l fun s => s.perform l hd op (chk s) (eff s))) :=
  .next (.ite (.perform (.refl s) h) (.refl s))

end Sys2Proof.Machine
end

section
/-! PROOFS. The commands of waybills, consists, relays and host ports keep what every operation keeps. -/

namespace Sys2Proof.Machine

open Par Var

variable {s : State}

theorem execWaybillReceive_answers {l p src raw t} : Answers s (execWaybillReceive l p src raw t s) :=
  .next (.whenHost (.atTime (.refl s)) fun _ h => State.receive_keeps _ _ _ _ _ _ h)

theorem execDupHoldExpiry_answers {l p seq} : Answers s (execDupHoldExpiry l p seq s) :=
  .next (.whenHost (.refl s) fun _ h => h.modWbe)

theorem execGet_answers {l hd ids} : Answers s (execGet l hd ids s) :=
  .next (.whenHost (.refl s) fun _ h => h.direct)

theorem execSet_answers {l hd items} : Answers s (execSet l hd items s) :=
  .next (.whenHost (.refl s) fun _ h => h.direct)

theorem execSetStaged_answers {l hd items} : Answers s (execSetStaged l hd items s) :=
  .next (.whenHost (.refl s) fun _ h => h.direct)

theorem execCommit_answers {l hd} : Answers s (execCommit l hd s) :=
  .next (.whenHost (.refl s) fun _ h => h.direct)

theorem execAbortConsist_answers {l hd} : Answers s (execAbortConsist l hd s) :=
  .next (.whenHost (.refl s) fun _ h => h.direct)

theorem execConsistIdleTimeout_answers {l p consist} : Answers s (execConsistIdleTimeout l p consist s) :=
  .next (.whenHost (.refl s) fun _ h => by
    split
    · exact .ite h (State.dropConsist_keeps _ _ _ h)
    · exact h)

theorem execCommitInstantReached_answers {l} : Answers s (execCommitInstantReached l s) :=
  .next (.whenHost (.refl s) fun _ h => State.commitInstant_keeps _ _ h)

theorem execRelayTimeout_answers {l tag} : Answers s (execRelayTimeout l tag s) :=
  .next (.whenHost (.refl s) fun _ h => by
    split
    · exact State.relayDone_keeps _ _ _ _ h
    · exact h)

theorem execRelayReceive_answers {d l tag epoch w} : Answers s (execRelayReceive d l tag epoch w s) :=
  .next (.ite (State.relayIn_keeps _ _ _ _ _ (.refl s)).send (.refl s))

theorem execRelayReplyReceive_answers {l tag r} : Answers s (execRelayReplyReceive l tag r s) :=
  .next (.whenHost (.refl s) fun _ h => by
    split
    · exact State.relayDone_keeps _ _ _ _ h
    · exact h)

theorem execSpiStatus_answers {l} : Answers s (execSpiStatus l s) :=
  .next (.whenHost (.refl s) fun _ h => .ite (State.spiOut_keeps _ _ _ h) h)

theorem execSpiWrite_answers {l raw t} : Answers s (execSpiWrite l raw t s) :=
  .next (.whenHost (.atTime (.refl s)) fun _ h =>
    have out := State.spiOut_keeps _ _ _ h
    .ite h (.ite (State.receive_keeps _ _ _ _ _ _ out) out.modHst.bump))

theorem execSpiRead_answers {l count} : Answers s (execSpiRead l count s) :=
  .next (.whenHost (.refl s) fun _ h => .ite h (by
    split
    · exact State.spiOut_keeps _ _ _ h
    · exact .ite (State.spiOut_keeps _ _ _ h).modHst (State.spiOut_keeps _ _ _ h)))

theorem execSpiClear_answers {l} : Answers s (execSpiClear l s) :=
  .next (.whenHost (.refl s) fun _ h => .ite (State.spiOut_keeps _ _ _ h).modHst h)

theorem execSpiBufferDrain_answers {l t} : Answers s (execSpiBufferDrain l t s) :=
  .next (.whenHost (.atTime (.refl s)) fun _ h => by
    split
    · exact .ite (State.enqueue_keeps _ _ _ _ _ _ h.modHst) h
    · exact h)

theorem execSpiReplyEnqueue_answers {l} : Answers s (execSpiReplyEnqueue l s) :=
  .next (.whenHost (.refl s) fun _ h => by
    split
    · exact .ite h.modWbe.modHst h
    · exact h)

theorem execUdpDatagramReceive_answers {at' tagged header body t} :
    Answers s (execUdpDatagramReceive at' tagged header body t s) :=
  match at' with
  | some _ => .next (.whenHost (.atTime (.refl s)) fun _ h => .ite h (by
      split
      · split
        · exact h.send
        · exact h
      · exact h.bump
      · exact State.datagram_keeps _ _ _ _ _ h))
  | none => .next (.whenM (.atTime (.refl s)) fun _ h => .ite h (by
      split
      · exact .foldl (fun _ _ k => State.serviceIn_keeps _ _ _ k) h
      · exact h))

theorem execCan0SegmentReceive_answers {l f t} : Answers s (execCan0SegmentReceive l f t s) :=
  .next (.whenHost (.atTime (.refl s)) fun _ h =>
    have dropped := State.dropPart_keeps _ _ h
    .ite h (.ite (.ite (State.addSegment_keeps _ _ _ _ _ _ dropped) dropped.bump) (by
      split
      · exact .ite (State.addSegment_keeps _ _ _ _ _ _ h) dropped
      · exact h)))

theorem execCan0SegmentTimeout_answers {l} : Answers s (execCan0SegmentTimeout l s) :=
  .next (.whenHost (.refl s) fun _ h => State.dropPart_keeps _ _ h)

theorem execCanBusOff_answers {l can1} : Answers s (execCanBusOff l can1 s) :=
  .next (.whenHost (.refl s) fun _ h => h.wr)

theorem execIsoProprietaryAReceive_answers {l src raw t} : Answers s (execIsoProprietaryAReceive l src raw t s) :=
  .next (.whenHost (.atTime (.refl s)) fun _ h => State.receive_keeps _ _ _ _ _ _ h)

theorem execIsoAddressClaimReceive_answers {l name sa} : Answers s (execIsoAddressClaimReceive l name sa s) :=
  .next (.whenHost (.refl s) fun _ h => .ite h (.ite h.wr.send h.send))

theorem execIsoAddressClaimSend_answers {l} : Answers s (execIsoAddressClaimSend l s) :=
  .next (.whenHost (.refl s) fun _ h => .ite h.wr.send h)

end Sys2Proof.Machine
end

section
/-! PROOFS. The commands of the links, the instants of a period and the agreement of the lanes keep what every operation keeps. -/

namespace Sys2Proof.Machine

open Par Var

variable {s : State}

theorem execFlitReceive_answers {k flit} : Answers s (execFlitReceive k flit s) :=
  .next (.onLink (.refl s) fun _ h => State.flitIn_keeps _ _ _ h)

theorem execFlitNackReceive_answers {k expected} : Answers s (execFlitNackReceive k expected s) :=
  .next (.onLink (.refl s) fun _ h => .ite (State.resendFlits_keeps _ _ h.setLink) (.ite h.setLink.pump h))

theorem execFlitAckReceive_answers {k seq} : Answers s (execFlitAckReceive k seq s) :=
  .next (.onLink (.refl s) fun _ h => .ite h.setLink.pump h)

theorem execFlitAckTimeout_answers {k} : Answers s (execFlitAckTimeout k s) :=
  .next (.onLink (.refl s) fun _ h => State.resendFlits_keeps _ _ h)

theorem execLinkCodeErrors_answers {k} : Answers s (execLinkCodeErrors k s) :=
  .next (.onLink (.refl s) fun _ h => State.retrain_keeps _ _ (State.countAt_keeps _ _ _ h))

theorem execLinkAckSilence_answers {k} : Answers s (execLinkAckSilence k s) :=
  .next (.onLink (.refl s) fun _ h => .ite h (State.retrain_keeps _ _ h))

theorem execLinkTrainComplete_answers {k} : Answers s (execLinkTrainComplete k s) :=
  have up := State.atEnds_keeps _ _ _ (State.setLinkState_keeps _ _ _ (.refl s)) fun _ _ h => .ite h h.release
  .next (.ite (State.sendEpoch_keeps _ _ (State.sendEpoch_keeps _ _ up.pump.pump)) (.refl s))

theorem execLinkFailTimeout_answers {k} : Answers s (execLinkFailTimeout k s) :=
  .next (.ite (State.atEnds_keeps _ _ _ (State.setLinkState_keeps _ _ _ (.refl s)) (fun _ _ h => .ite h.raise h)) (.refl s))

theorem execLinkTrainRetry_answers {k} : Answers s (execLinkTrainRetry k s) :=
  .next (.ite (State.setLinkState_keeps _ _ _ (.refl s)) (.refl s))

theorem execPwmValley_answers {l peak smp sc t} : Answers s (execPwmValley l peak smp sc t s) :=
  .next (State.loadPoints_keeps _ _ _ _ _ _ (.atTime (.refl s)))

theorem execComputeStart_answers {l t} : Answers s (execComputeStart l t s) :=
  .next (.whenUp (.atTime (.refl s)) fun _ h => .ite (State.driveCompute_keeps _ _ _ h.wr) (State.computeBase_keeps _ _ h.wr))

theorem execDutyReceive_answers {l b edges} : Answers s (execDutyReceive l b edges s) :=
  .next (.ite (State.dutyIn_keeps _ _ _ _ (.refl s)) (.refl s))

theorem execExchFrameReceive_answers {l f t} : Answers s (execExchFrameReceive l f t s) :=
  .next (.whenUp (.atTime (.refl s)) fun _ h => by
    split
    · exact .ite (State.hearFrame_keeps _ _ _ _ _ h) h
    · exact h)

theorem execSExchReceive_answers {f t} : Answers s (execSExchReceive f t s) :=
  .next (.whenS (.atTime (.refl s)) fun _ h => by
    split
    · exact .ite (State.frameS_keeps _ _ _ _ h) h
    · exact h)

theorem execSEchoReceive_answers {l e t} : Answers s (execSEchoReceive l e t s) :=
  .next (.whenUp (.atTime (.refl s)) fun _ h => State.hearExcluded_keeps _ _ _ h.modVot.wr.wr)

theorem execSFrameSilence_answers {l} : Answers s (execSFrameSilence l s) :=
  .next (.whenS (.refl s) fun _ h => State.excludeS_keeps _ _ _ h)

theorem execAnnounceReceive_answers {l arrival stamp raw crc} : Answers s (execAnnounceReceive l arrival stamp raw crc s) :=
  .next (.whenUp (.refl s) fun _ h => .ite h (.ite h.bump h.modVot))

theorem execTowlineCycleStart_answers {l t} : Answers s (execTowlineCycleStart l t s) :=
  .next (.whenUp (.atTime (.refl s)) fun _ h => .ite (State.cycleBegins_keeps _ _ _ h) h)

theorem execCommonSampleInstant_answers {l t} : Answers s (execCommonSampleInstant l t s) :=
  .next (.whenUp (.atTime (.refl s)) fun _ h => .ite (State.sampleInstant_keeps _ _ _ h) h)

theorem execCommonLatchInstant_answers {l t} : Answers s (execCommonLatchInstant l t s) :=
  .next (.whenUp (.atTime (.refl s)) fun _ h => .ite (State.latchInstant_keeps _ _ _ h) h)

theorem execInputReceive_answers {l m} : Answers s (execInputReceive l m s) :=
  .next (.whenUp (.refl s) fun _ h => .ite h h.modVot)

theorem execInputVoteDeadline_answers {l} : Answers s (execInputVoteDeadline l s) :=
  .next (.whenUp (.refl s) fun _ h => State.inputDeadline_keeps _ _ h)

end Sys2Proof.Machine
end

section
/-! PROOFS. The commands of the staff and of a lane's rejoin keep what every operation keeps. -/

namespace Sys2Proof.Machine

open Par Var

variable {s : State}

theorem execStaffRenewReceive_answers {n m t} : Answers s (execStaffRenewReceive n m t s) :=
  match n with
  | .lane _ => .next (.whenUp (.atTime (.refl s)) fun _ h => State.laneRenew_keeps _ _ _ _ h)
  | .s => .next (.whenS (.atTime (.refl s)) fun _ h => State.sRenew_keeps _ _ _ h)

theorem execStaffGrantReceive_answers {l m t} : Answers s (execStaffGrantReceive l m t s) :=
  .next (.whenUp (.atTime (.refl s)) fun _ h => .ite (State.laneGrantS_keeps _ _ _ h) (State.laneGrantPeer_keeps _ _ _ h))

theorem execStaffClaimReceive_answers {n m t} : Answers s (execStaffClaimReceive n m t s) :=
  match n with
  | .lane _ => .next (.whenUp (.atTime (.refl s)) fun _ h => State.laneClaim_keeps _ _ _ h)
  | .s => .next (.whenS (.atTime (.refl s)) fun _ h => State.sClaim_keeps _ _ _ h)

theorem execStaffAgreeReceive_answers {n m t} : Answers s (execStaffAgreeReceive n m t s) :=
  match n with
  | .lane _ => .next (.whenUp (.atTime (.refl s)) fun _ h => State.laneAgree_keeps _ _ _ h)
  | .s => .next (.whenS (.atTime (.refl s)) fun _ h => State.sAgree_keeps _ _ _ h)

theorem execStaffDenyReceive_answers {l m} : Answers s (execStaffDenyReceive l m s) :=
  .next (.whenUp (.refl s) fun _ h => .ite (State.claimFailed_keeps _ _ h) h)

theorem execStaffReleaseReceive_answers {n m t} : Answers s (execStaffReleaseReceive n m t s) :=
  match n with
  | .lane _ => .next (.whenUp (.atTime (.refl s)) fun _ h => State.laneRelease_keeps _ _ _ _ h)
  | .s => .next (.whenS (.atTime (.refl s)) fun _ h => State.sRelease_keeps _ _ h)

theorem execStaffRelinquishReceive_answers {n m t} : Answers s (execStaffRelinquishReceive n m t s) :=
  match n with
  | .lane _ => .next (.whenUp (.atTime (.refl s)) fun _ h => State.laneRelinquish_keeps _ _ _ _ h)
  | .s => .next (.whenS (.atTime (.refl s)) fun _ h => State.sRelinquish_keeps _ _ h)

theorem execStaffAdmitReceive_answers {n m} : Answers s (execStaffAdmitReceive n m s) :=
  match n with
  | .lane _ => .next (.whenUp (.refl s) fun _ h => State.laneAdmit_keeps _ _ _ h)
  | .s => .next (.whenS (.refl s) fun _ h => State.admitS_keeps _ _ h)

theorem execStaffExpiredReceive_answers {l m} : Answers s (execStaffExpiredReceive l m s) :=
  .next (.whenUp (.refl s) fun _ h =>
    have expired := State.laneExpired_keeps _ _ _ h
    .ite (State.tryClaim_keeps _ _ _ expired.wr) expired)

theorem execHolderLeaseEnd_answers {l} : Answers s (execHolderLeaseEnd l s) :=
  .next (.whenUp (.refl s) fun _ h => .ite h.wr h)

theorem execSLeaseExpiry_answers : Answers s (execSLeaseExpiry s) :=
  .next (.whenS (.refl s) fun _ h => State.leaseExpiryS_keeps _ h)

theorem execClaimWaitEnd_answers {l t} : Answers s (execClaimWaitEnd l t s) :=
  .next (.whenUp (.atTime (.refl s)) fun _ h => .ite (.ite h.wr.wr.wr (State.tryClaim_keeps _ _ _ h.wr.wr.wr.wr)) h)

theorem execGrantMiss_answers {l} : Answers s (execGrantMiss l s) :=
  .next (.whenUp (.refl s) fun _ h => .ite h.wr.bump h)

theorem execClaimTimeout_answers {l} : Answers s (execClaimTimeout l s) :=
  .next (.whenUp (.refl s) fun _ h => State.claimFailed_keeps _ _ h)

theorem execSuccessorReserveEnd_answers {n} : Answers s (execSuccessorReserveEnd n s) :=
  match n with
  | .lane _ => .next (.whenUp (.refl s) fun _ h => State.tryClaim_keeps _ _ _ h.wr)
  | .s => .next (.whenS (.refl s) fun _ h => h.wr)

theorem execSLostToStaff_answers {l} : Answers s (execSLostToStaff l s) :=
  .next (.whenUp (.refl s) fun _ h => .ite (State.selfGrant_keeps _ _ (State.event_keeps _ _ _ _ h.wr.wr.wr.raise)) h)

theorem execLeaveReset_answers {l} : Answers s (execLeaveReset l s) :=
  .next (.whenUp (.refl s) fun _ h => .ite (.ite h.wr.wr.wr (State.resetLane_keeps _ _ h)) h)

theorem execStaffRequest_answers {l hd lane} : Answers s (execStaffRequest l hd lane s) :=
  .perform (State.effStaffRequest_keeps _ _ _ (.refl s))

theorem execRelinquish_answers {l hd} : Answers s (execRelinquish l hd s) :=
  .perform (State.releaseStaff_keeps _ _ _ (.refl s))

theorem execRejoin_answers {l hd lane} : Answers s (execRejoin l hd lane s) :=
  .perform (State.effRejoin_keeps _ _ _ (.refl s))

theorem execExcludeLane_answers {l hd lane} : Answers s (execExcludeLane l hd lane s) :=
  .perform (State.effExcludeLane_keeps _ _ _ (.refl s))

theorem execStateTransferRequest_answers {l from'} : Answers s (execStateTransferRequest l from' s) :=
  .next (.whenUp (.refl s) fun _ h => .ite h (.ite h.send h.send))

theorem execStateTransferComplete_answers {l x crcSecond durationUs} :
    Answers s (execStateTransferComplete l x crcSecond durationUs s) :=
  .next (.whenUp (.refl s) fun _ h => .ite h (.ite
    (State.enterShadow_keeps _ _ (State.loadXfer_keeps _ _ _ h).wr.wr.wr) (State.stepFail_keeps _ _ _ h)))

theorem execStateTransferTimeout_answers {l} : Answers s (execStateTransferTimeout l s) :=
  .next (.whenUp (.refl s) fun _ h => .ite (State.stepFail_keeps _ _ _ h) h)

theorem execShadowEnd_answers {l shadow} : Answers s (execShadowEnd l shadow s) :=
  .next (.whenUp (.refl s) fun _ h =>
    have cleared := State.discardBins_keeps _ _ (.ite h.send h)
    .ite (State.shadowJudge_keeps _ _ h) (.ite h (.ite (State.sendAdmit_keeps _ _ _ cleared) (.ite cleared.wrBit cleared))))

theorem execLoopStateTransferComplete_answers {l x ok} : Answers s (execLoopStateTransferComplete l x ok s) :=
  .next (.whenUp (.refl s) fun _ h => .ite h (.ite h.modLane (State.stepFail_keeps _ _ _ h)))

end Sys2Proof.Machine
end

section
/-! PROOFS. The commands of the lockstep pair, the drives and the gate drive keep what every operation keeps. -/

namespace Sys2Proof.Machine

open Par Var

variable {s : State}

theorem execLockstepMismatch_answers {l d tick} : Answers s (execLockstepMismatch l d tick s) :=
  .next (.ite (State.mismatch_keeps _ _ _ _ _ (.refl s)) (.refl s))

theorem execSyncDiffDetect_answers {l input t} : Answers s (execSyncDiffDetect l input t s) :=
  .next (.ite (State.syncDiff_keeps _ _ _ _ (.atTime (.refl s))) (.atTime (.refl s)))

theorem execStartDrive_answers {l hd mask kind} : Answers s (execStartDrive l hd mask kind s) :=
  .perform (State.effStart_keeps _ _ _ (.refl s))

theorem execStopDrive_answers {l hd mask kind} : Answers s (execStopDrive l hd mask kind s) :=
  .perform (State.effStop_keeps _ _ _ _ (.refl s))

theorem execStopRampEnd_answers {l b} : Answers s (execStopRampEnd l b s) :=
  .next (.whenUp (.refl s) fun _ h => .ite (State.obsReport_keeps _ _ _ (State.withdraw_keeps _ _ _ h)) h)

theorem execCaptureEnd_answers {l b t} : Answers s (execCaptureEnd l b t s) :=
  .next (.whenUp (.atTime (.refl s)) fun _ h => .ite (State.captureEnd_keeps _ _ _ h) h)

theorem execPrechargeEnd_answers {l b} : Answers s (execPrechargeEnd l b s) :=
  have off := State.gatesOff_keeps _ _ _ (.refl s)
  .next (.ite (.ite (State.obsReport_keeps _ _ _ (State.trackRestart_keeps _ _ _ (State.setBridge_keeps _ _ _ _ off))) off)
    (.refl s))

theorem execExtrapTimeout_answers {l b} : Answers s (execExtrapTimeout l b s) :=
  .next (.whenUp (.refl s) fun _ h =>
    have gone := State.withdraw_keeps _ _ _ (State.stampLoss_keeps _ _ _ _ _ h).wr
    .ite (State.obsReport_keeps _ _ _ gone.wr.wr).raise h)

theorem execHfiAlignEnd_answers {l b x} : Answers s (execHfiAlignEnd l b x s) :=
  .next (.whenUp (.refl s) fun _ h => .ite (by
    split
    · exact State.obsReport_keeps _ _ _ (State.obsStart_keeps _ _ _ _ _ _ h).wr
    · exact
        have off := State.dropOwn_keeps _ _ _ (State.setBridge_keeps _ _ _ _ h)
        have lost := State.stampCapture_keeps _ _ _ _ _ _ (State.loseWinding_keeps _ _ _ off)
        (State.obsReport_keeps _ _ _ lost.bump).raise) h)

theorem execVgdLow_answers {l mv} : Answers s (execVgdLow l mv s) :=
  .next (.ite (State.vgdLow_keeps _ _ _ (.refl s)) (.refl s))

theorem execVgdReady_answers {l mv} : Answers s (execVgdReady l mv s) :=
  .next (.ite (State.setVgd_keeps _ _ _ (.refl s)).wr.wr.release (.refl s))

theorem execDesatDetect_answers {l sw t} : Answers s (execDesatDetect l sw t s) :=
  .next (.ite (.atTime (.refl s)) (State.desat_keeps _ _ _ _ _ (.atTime (.refl s))))

theorem execDesatBlankEnd_answers {l sw asserted t} : Answers s (execDesatBlankEnd l sw asserted t s) :=
  .next (.ite (State.desat_keeps _ _ _ _ _ (.atTime (.refl s))) (.atTime (.refl s)))

theorem execHardShortDetect_answers {l phase hsB t} : Answers s (execHardShortDetect l phase hsB t s) :=
  .next (.ite (State.hardShort_keeps _ _ _ _ _ (.atTime (.refl s))) (.atTime (.refl s)))

theorem execSoftOffStep2_answers {l sw} : Answers s (execSoftOffStep2 l sw s) :=
  .next (.ite (State.softStep2_keeps _ _ _ (.refl s)) (.refl s))

theorem execSoftOffClamp_answers {l sw} : Answers s (execSoftOffClamp l sw s) :=
  .next (.ite (State.softClamp_keeps _ _ _ (.refl s)) (.refl s))

theorem execGdrLatchClear_answers {l hd b bits t comparators} : Answers s (execGdrLatchClear l hd b bits t comparators s) :=
  .next (.whenHost (.atTime (.refl s)) fun _ h => h.perform (State.latchWrite_keeps _ _ _ _ h))

theorem execShortZeroCrossing_answers {l b t} : Answers s (execShortZeroCrossing l b t s) :=
  .next (.ite (.ite (State.releaseShort_keeps _ _ _ (.atTime (.refl s))) ((Keeps.refl s).atTime).wr.wr) (.atTime (.refl s)))

theorem execShortReleaseTimeout_answers {l b} : Answers s (execShortReleaseTimeout l b s) :=
  .next (.ite (State.releaseShort_keeps _ _ _ (.refl s)) (.refl s))

theorem execCalSkipTimeout_answers {l c} : Answers s (execCalSkipTimeout l c s) :=
  .next (.ite (State.holdCal_keeps _ _ _ _ (.refl s) (.refl s)).wr.bump.raise (.refl s))

end Sys2Proof.Machine
end

section
/-! PROOFS. The commands of control, motion, the trace and the feedback inputs keep what every operation keeps. -/

namespace Sys2Proof.Machine

open Par Var

variable {s : State}

theorem execCenGroupTrigger_answers {l source bridge count t} : Answers s (execCenGroupTrigger l source bridge count t s) :=
  .next (.whenPair (.atTime (.refl s)) fun _ h => .ite (State.cenGroup_keeps _ _ _ _ _ _ h) h)

theorem execSteerTarget_answers {l hd angle} : Answers s (execSteerTarget l hd angle s) :=
  .perform (State.effSteer_keeps _ _ _ _ (.refl s))

theorem execBrakeDemand_answers {l hd f1 f2 f3 f4} : Answers s (execBrakeDemand l hd f1 f2 f3 f4 s) :=
  .perform (State.effBrake_keeps _ _ _ _ _ _ _ (.refl s))

theorem execHold_answers {l hd mask} : Answers s (execHold l hd mask s) :=
  .perform (State.effHold_keeps _ _ _ (.refl s))

theorem execRelease_answers {l hd mask} : Answers s (execRelease l hd mask s) :=
  .perform (State.effRelease_keeps _ _ _ (.refl s))

theorem execTrcSampleEvent_answers {l t} : Answers s (execTrcSampleEvent l t s) :=
  .next (.whenUp (.atTime (.refl s)) fun _ h => .ite (State.trcSample_keeps _ _ h.wr) h)

theorem execTraceArm_answers {l hd} : Answers s (execTraceArm l hd s) :=
  .perform (State.effTraceArm_keeps _ _ (.refl s))

theorem execTraceTrigger_answers {l hd} : Answers s (execTraceTrigger l hd s) :=
  .perform (State.effTraceTrigger_keeps _ _ (.refl s))

theorem execTraceStop_answers {l hd} : Answers s (execTraceStop l hd s) :=
  .perform (State.effTraceStop_keeps _ _ (.refl s))

theorem execTraceRead_answers {l hd start count} : Answers s (execTraceRead l hd start count s) :=
  .perform (.refl s)

theorem execTraceStream_answers {l hd on} : Answers s (execTraceStream l hd on s) :=
  .perform (State.effTraceStream_keeps _ _ _ (.refl s))

theorem execArchiveRead_answers {l hd offset len} : Answers s (execArchiveRead l hd offset len s) :=
  .next (.whenHost (.refl s) fun _ h => h.performAt h)

theorem execTraceArchiveWrite_answers {l rowBytes rows} : Answers s (execTraceArchiveWrite l rowBytes rows s) :=
  .next (.whenM (.refl s) fun _ h => State.archiveRows_keeps _ _ _ _ h)

theorem execFbiEdgeAccept_answers {l ch edges heldNs t} : Answers s (execFbiEdgeAccept l ch edges heldNs t s) :=
  .next (.whenUp (.atTime (.refl s)) fun _ h => .ite h (.ite (State.edgeFault_keeps _ _ _ _ h)
    (State.decodeEdges_keeps _ _ _ _ _ (State.noteEdge_keeps _ _ _ _ h))))

theorem execFbiLineFault_answers {l ch wire} : Answers s (execFbiLineFault l ch wire s) :=
  .next (.whenUp (.refl s) fun _ h => .ite (State.chFault_keeps _ _ _ _ h) h)

theorem execSincosPairReceive_answers {l ch pair t} : Answers s (execSincosPairReceive l ch pair t s) :=
  .next (.whenUp (.atTime (.refl s)) fun _ h => by
    split
    · exact State.scPair_keeps _ _ _ _ h
    · exact State.scMissing_keeps _ _ _ h)

theorem execSsiFrameComplete_answers {l ch frame startHigh t} : Answers s (execSsiFrameComplete l ch frame startHigh t s) :=
  .next (.whenUp (.atTime (.refl s)) fun _ h => .ite h (.ite h.wr
    (.ite (State.ssiReject_keeps _ _ _ h.wr) (State.ssiAccept_keeps _ _ _ _ h.wr))))

theorem execFbiStandstillTimeout_answers {l ch} : Answers s (execFbiStandstillTimeout l ch s) :=
  .next (.whenUp (.refl s) fun _ h => .ite (State.modCh_keeps _ _ _ _ h) h)

theorem execFbiFaultClear_answers {l hd ch bits present} : Answers s (execFbiFaultClear l hd ch bits present s) :=
  .perform (State.clearFaults_keeps _ _ _ _ (.refl s))

theorem execFbiIndexArm_answers {l hd ch} : Answers s (execFbiIndexArm l hd ch s) :=
  .perform (Keeps.refl s).wr

end Sys2Proof.Machine
end

section
/-! PROOFS. The commands of section control and the outputs of S keep what every operation keeps. -/

namespace Sys2Proof.Machine

open Par Var

variable {s : State}

theorem execTableLoad_answers {l hd base entries} : Answers s (execTableLoad l hd base entries s) :=
  .perform (State.effTableLoad_keeps _ _ _ (.refl s))

theorem execTableAppend_answers {l hd base entries} : Answers s (execTableAppend l hd base entries s) :=
  .perform (State.effTableAppend_keeps _ _ _ (.refl s))

theorem execArm_answers {l hd mask} : Answers s (execArm l hd mask s) :=
  .next (.whenHost (.refl s) fun _ h => .ite (h.perform h) (h.performAt (State.armS_keeps _ _ _ _ h)))

theorem execDisarm_answers {l hd mask} : Answers s (execDisarm l hd mask s) :=
  .next (.whenHost (.refl s) fun _ h => h.performAt (State.disarmS_keeps _ _ _ h))

theorem execForceOff_answers {l hd mask} : Answers s (execForceOff l hd mask s) :=
  .perform (State.effForceOff_keeps _ _ _ (.refl s))

theorem execTableTransferComplete_answers {l x} : Answers s (execTableTransferComplete l x s) :=
  .next (.whenUp (.refl s) fun _ h => .ite h.modLane h)

theorem execSVoteReceive_answers {v t} : Answers s (execSVoteReceive v t s) :=
  .next (.whenS (.atTime (.refl s)) fun _ h => by
    split
    · exact State.takeVote_keeps _ _ _ _ h
    · exact h)

theorem execAthPulseEnd_answers {a} : Answers s (execAthPulseEnd a s) :=
  .next (.whenS (.refl s) fun _ h => State.evalS_keeps _ (.foldl (fun _ _ k => State.pulseDone_keeps _ _ k) h.wr))

theorem execAthCoilFault_answers {a short} : Answers s (execAthCoilFault a short s) :=
  .next (.whenS (.refl s) fun _ h => .ite h (.raise (.foldl (fun _ _ k => State.setLatch_keeps _ _ _ k.wr) h.wrBit)))

theorem execAthOrphanTimeout_answers : Answers s (execAthOrphanTimeout s) :=
  .next (.whenS (.refl s) fun _ h =>
    .ite h (State.athOut_keeps _ (.bump (.foldl (fun _ _ k => State.engage_keeps _ _ k) h.wr))))

theorem execSStatusSend_answers : Answers s (execSStatusSend s) :=
  .next (.whenS (.refl s) fun _ h =>
    .foldl (fun _ _ k => k.send) (.foldl (fun _ _ k => .ite (State.liftS_keeps _ _ k) k) h))

theorem execSStatusReceive_answers {l m t} : Answers s (execSStatusReceive l m t s) :=
  .next (.whenUp (.atTime (.refl s)) fun _ h =>
    have heard := State.hearExcluded_keeps _ _ _ h.wr.wr.wr.wr.wr.wr
    have entering := Keeps.ite heard.wr.wr heard
    State.staffReturn_keeps _ _ (.ite entering.wr entering))

theorem execSecOffPulseStart_answers {k} : Answers s (execSecOffPulseStart k s) :=
  .next (.whenS (.refl s) fun _ h => .ite h.wr.wr h)

theorem execSecOffPulseEnd_answers {k mv ma} : Answers s (execSecOffPulseEnd k mv ma s) :=
  .next (.whenS (.refl s) fun _ h => .ite (State.offPulseJudge_keeps _ _ _ _ h) h)

theorem execSecReadbackFault_answers {k} : Answers s (execSecReadbackFault k s) :=
  .next (.whenS (.refl s) fun _ h => .ite (State.secFault_keeps _ _ _ h) h)

theorem execSecOvercurrent_answers {k} : Answers s (execSecOvercurrent k s) :=
  .next (.whenS (.refl s) fun _ h => .ite (State.secFault_keeps _ _ _ h) h)

theorem execSecOpenLoad_answers {k} : Answers s (execSecOpenLoad k s) :=
  .next (.whenS (.refl s) fun _ h => .ite (State.secFault_keeps _ _ _ h) h)

theorem execSecLeakage_answers {k} : Answers s (execSecLeakage k s) :=
  .next (.whenS (.refl s) fun _ h => .ite (State.secFault_keeps _ _ _ h) h)

theorem execSecFaultClear_answers {l hd k bits present} : Answers s (execSecFaultClear l hd k bits present s) :=
  .next (.whenHost (.refl s) fun _ h => h.performAt (State.secClear_keeps _ _ _ h))

end Sys2Proof.Machine
end

section
/-! PROOFS. The commands of the safety inputs and the service mode keep what every operation keeps. -/

namespace Sys2Proof.Machine

open Par Var

variable {s : State}

theorem execSioInputAccept_answers {l i level tick t} : Answers s (execSioInputAccept l i level tick t s) :=
  .next (.whenUp (.atTime (.refl s)) fun _ h =>
    .ite (.ite h (State.inputAccept_keeps _ _ _ _ _ _ h)) (.ite (State.ackAccept_keeps _ _ _ _ h) h))

theorem execTestPulseStart_answers {l n t} : Answers s (execTestPulseStart l n t s) :=
  .next (.whenUp (.atTime (.refl s)) fun _ h => .ite (State.noteClosed_keeps _ _ _ _ h h.wrBit.wr.wr) h)

theorem execTestPulseEnd_answers {l n lowSeen} : Answers s (execTestPulseEnd l n lowSeen s) :=
  .next (.whenUp (.refl s) fun _ h => .ite (.foldl (fun _ _ k => .ite (State.pulseSeen_keeps _ _ _ _ k) k) h.wrBit) h)

theorem execTpReadbackFault_answers {l n} : Answers s (execTpReadbackFault l n s) :=
  .next (.whenUp (.refl s) fun _ h =>
    .ite (.foldl (fun _ _ k => .ite (State.inputFault_keeps _ _ _ _ k) k) h.wrBit.wr.raise) h)

theorem execSioDiscrepancyTimeout_answers {l p} : Answers s (execSioDiscrepancyTimeout l p s) :=
  .next (.whenUp (.refl s) fun _ h => .ite (State.latchDisc_keeps _ _ _ h) h)

theorem execTripReceive_answers {l m t} : Answers s (execTripReceive l m t s) :=
  .next (.whenUp (.atTime (.refl s)) fun _ h => .ite h (State.noteStamp_keeps _ _ _ _ _ _ _ _ (.ite h.bump h)))

theorem execTripApply_answers {l func t} : Answers s (execTripApply l func t s) :=
  .next (.whenUp (.atTime (.refl s)) fun _ h =>
    have applied := State.tripApply_keeps _ _ _ h
    .ite applied (State.abortPackage_keeps _ _ applied))

theorem execEstopHoldTimer_answers {l} : Answers s (execEstopHoldTimer l s) :=
  .next (.whenUp (.refl s) fun _ h => .ite (State.effHold_keeps _ _ _ h) h)

theorem execAckRelease_answers {l t} : Answers s (execAckRelease l t s) :=
  .next (.whenUp (.atTime (.refl s)) fun _ h => .ite h (.ite (State.holdRelease_keeps _ _ _ _ h.wr.wr).send h.wr.wr.bump))

theorem execAckReleaseReceive_answers {l m} : Answers s (execAckReleaseReceive l m s) :=
  .next (.whenUp (.refl s) fun _ h => .ite (State.holdRelease_keeps _ _ _ _ h) h)

theorem execArmReset_answers {l hd nonce} : Answers s (execArmReset l hd nonce s) :=
  .perform (Keeps.refl s).wr.wr.wr

theorem execConfirmReset_answers {l hd nonce} : Answers s (execConfirmReset l hd nonce s) :=
  .perform (State.effConfirm_keeps _ _ (.refl s))

theorem execStopStandstill_answers {l} : Answers s (execStopStandstill l s) :=
  .next (.whenUp (.refl s) fun _ h => .ite (State.effHold_keeps _ _ _ h.wr) h)

theorem execLatchConfirmTimeout_answers {l target} : Answers s (execLatchConfirmTimeout l target s) :=
  .next (.whenUp (.refl s) fun _ h => .ite (State.modeWarn_keeps _ _ (State.heldByForce_keeps _ _ h)) h)

theorem execStopTimeout_answers {l} : Answers s (execStopTimeout l s) :=
  .next (.whenUp (.refl s) fun _ h => .ite h.raise h)

theorem execTwlLossTimeout_answers {l} : Answers s (execTwlLossTimeout l s) :=
  .next (.whenUp (.refl s) fun _ h => .ite h (.ite (State.leave_keeps _ _ h) (State.addStopCause_keeps _ _ _ h.wr)))

end Sys2Proof.Machine
end

section
/-! PROOFS. The commands of Towline keep what every operation keeps. -/

namespace Sys2Proof.Machine

open Par Var

variable {s : State}

theorem execTwlFrameReceive_answers {l rail coding raw t} : Answers s (execTwlFrameReceive l rail coding raw t s) :=
  .next (.whenUp (.atTime (.refl s)) fun _ h =>
    have bad := h.wrBit.bump.wr.wr
    have good := h.wrBit.bump
    .ite h (.ite (.ite bad.bump.raise bad) (State.twlUse_keeps _ _ _ _ _ (.ite good good.wrBit))))

theorem execTwlPathStart_answers {l p readbackFail t} : Answers s (execTwlPathStart l p readbackFail t s) :=
  .next (.whenUp (.atTime (.refl s)) fun _ h =>
    have blocked := State.blockTx_keeps _ _ h
    .ite h (.ite (.ite (State.drive_keeps _ _ _ _ h).modLane blocked) (.ite (by
      split
      · exact .ite (.ite (State.drive_keeps _ _ _ _ h).bump.wr blocked) h
      · exact h) h)))

theorem execTwlNit_answers {l t} : Answers s (execTwlNit l t s) := by
  refine .next (.whenUp (.atTime (.refl s)) fun u h => .ite h ?_)
  extract_lets c act judged aged counted first corr summed rated seen moved st
  have hjudged : Keeps s judged := (State.judgeRails_keeps _ _ h).wrBit.wrBit
  have haged : Keeps s aged := State.rxAges_keeps _ _ hjudged.wr
  have hcounted : Keeps s counted := .ite haged haged.bump
  have hfirst : Keeps s first := .ite hcounted.modLane hcounted
  have hcorr : Keeps s corr.1 := .iteFst (State.offsetCorr_keeps _ _ hfirst) hfirst
  have hsummed : Keeps s summed := .ite (State.wrI_keeps _ _ _ _ _ hcorr) hcorr
  have hrated : Keeps s rated := .ite (State.rateCorr_keeps _ _ hsummed).modLane hsummed
  have hmoved : Keeps s moved := State.twlTransit_keeps _ _ _ hrated
  exact .ite hmoved (State.twlClear_keeps _ _ hmoved.wr.wr).wr

theorem execLocalCycleStart_answers {l e t} : Answers s (execLocalCycleStart l e t s) :=
  .next (.whenUp (.atTime (.refl s)) fun _ h => .ite h (by
    split
    · exact State.localBegins_keeps _ _ _ h
    · exact State.localSample_keeps _ _ _ h
    · exact State.ordersMissed_keeps _ _ _ h))

theorem execListenTimeout_answers {l t} : Answers s (execListenTimeout l t s) :=
  .next (.whenUp (.atTime (.refl s)) fun _ h => .ite (State.lkgStart_keeps _ _ (State.twlClear_keeps _ _ h.wr.wr.wr).wr) h)

theorem execLkgEnableOpen_answers {l p traffic} : Answers s (execLkgEnableOpen l p traffic s) :=
  .next (.whenUp (.refl s) fun _ h => .ite h.wr h)

theorem execLkgEnableClose_answers {l p sending} : Answers s (execLkgEnableClose l p sending s) :=
  .next (.whenUp (.refl s) fun _ h => .ite (.ite h.wr.bump h.wr) h)

theorem execLkgBlockTx_answers {l} : Answers s (execLkgBlockTx l s) :=
  .next (.whenUp (.refl s) fun _ h => .ite (State.blockTx_keeps _ _ h) h)

theorem execLkgCycleStart_answers {l own tapsOk} : Answers s (execLkgCycleStart l own tapsOk s) :=
  .next (.whenUp (.refl s) fun _ h => by
    split
    · exact State.wrI_keeps _ _ _ _ _ h.wr
    · exact State.lkgCycle_keeps _ _ _ _ h
    · exact State.lkgCycle_keeps _ _ _ _ h
    · exact h)

theorem execTrxDriverOvercurrent_answers {l rail} : Answers s (execTrxDriverOvercurrent l rail s) :=
  .next (.ite (Keeps.refl s).wrBit.bump.raise (.refl s))

end Sys2Proof.Machine
end

section
/-! PROOFS. The commands of the dispatcher and of standing orders keep what every operation keeps. -/

namespace Sys2Proof.Machine

open Par Var

variable {s : State}

theorem execTaskEvent_answers {l n ev} : Answers s (execTaskEvent l n ev s) :=
  .next (.whenUp (.refl s) fun _ h => by
    split
    · exact h
    · have ready := State.readyTask_keeps _ l n 1 h
      exact .ite h (.ite (State.schedule_keeps _ _ (.ite (State.cmpMove_keeps _ _ ready) ready)) (State.modTask_keeps _ _ _ _ h)))

theorem execWaitTimeout_answers {l cmp} : Answers s (execWaitTimeout l cmp s) :=
  .next (.whenUp (.refl s) fun _ h => by
    split
    · exact h
    · exact State.schedule_keeps _ _ (State.cmpMove_keeps _ _ (State.readyTask_keeps _ _ _ _ h.bump)))

theorem execDelayListTick_answers {l us} : Answers s (execDelayListTick l us s) :=
  .next (.whenUp (.refl s) fun _ h =>
    State.schedule_keeps _ _ (.foldl (fun _ _ k => State.readyTask_keeps _ _ _ _ k.bump) h))

theorem execBgShareCheck_answers {l bgTenthUs} : Answers s (execBgShareCheck l bgTenthUs s) :=
  .next (.whenUp (.refl s) fun _ h => .ite (State.schedule_keeps _ _ h.modLane.wr) (by
    split
    · exact State.schedule_keeps _ _ (State.modTask_keeps _ _ _ _ h.modLane.wr).wr
    · exact State.schedule_keeps _ _ h.modLane.wr))

theorem execOrderLoad_answers {l hd o action d ws} : Answers s (execOrderLoad l hd o action d ws s) :=
  .perform (State.effOrderLoad_keeps _ _ _ _ _ _ (.refl s))

theorem execOrderStart_answers {l hd o} : Answers s (execOrderStart l hd o s) :=
  .perform (State.effOrderStart_keeps _ _ _ (.refl s))

theorem execOrderStop_answers {l hd o} : Answers s (execOrderStop l hd o s) :=
  .perform (State.effOrderStop_keeps _ _ _ (.refl s))

theorem execOrderDelayExpiry_answers {l o} : Answers s (execOrderDelayExpiry l o s) :=
  .next (.whenUp (.refl s) fun _ h => .ite (State.triggerOrder_keeps _ _ _ h) h)

theorem execOrderNextWaybill_answers {l t} : Answers s (execOrderNextWaybill l t s) := by
  refine .next (.whenPair (.atTime (.refl s)) fun u h => ?_)
  extract_lets started
  have k : Keeps s started := by
    unfold started
    split
    · exact .ite (State.startRun_keeps _ _ _ h) h
    · exact h
  split
  · exact k
  · exact State.finishRun_keeps _ _ _ k
  · exact State.stopRun_keeps _ _ _ k
  · exact State.replay_keeps _ _ _ _ k

end Sys2Proof.Machine
end

section
/-! PROOFS. The commands of the fabric, the locks, the memory lines and the fault collectors keep what every operation keeps. -/

namespace Sys2Proof.Machine

open Par Var

variable {s : State}

theorem execFabRequest_answers {r reqs withdrawn} : Answers s (execFabRequest r reqs withdrawn s) :=
  .next (.ite (.refl s) (.ite (by
    have dead := State.fabCount_keeps s r.code FAB_CNT_DEAD (withdrawn.getD 0) 1 (.refl s)
    extract_lets
    split
    · exact State.serve_keeps _ _ _ _ _ dead
    · exact dead) (by
    split
    · exact State.serve_keeps _ _ _ _ _ (.refl s)
    · exact .refl s)))

theorem execLockHoldWrite_answers {d u value l tag epoch} : Answers s (execLockHoldWrite d u value l tag epoch s) :=
  .next (.ite (State.lockRelay_keeps _ _ _ _ _ _ _ (.refl s) fun _ h => State.lockHold_keeps _ _ _ _ _ h) (.refl s))

theorem execLockRollbackWrite_answers {d u l tag epoch} : Answers s (execLockRollbackWrite d u l tag epoch s) :=
  .next (.ite (State.lockRelay_keeps _ _ _ _ _ _ _ (.refl s) fun _ h => State.lockRollback_keeps _ _ _ _ h) (.refl s))

theorem execLockIdleTimeout_answers {d u} : Answers s (execLockIdleTimeout d u s) :=
  .next (.ite (State.breakLock_keeps _ _ _ (.refl s)) (.refl s))

theorem execEpochStatusReceive_answers {d l epoch} : Answers s (execEpochStatusReceive d l epoch s) :=
  .next (.ite (.foldl (fun _ _ h => .ite (State.breakLock_keeps _ _ _ h) h) (State.heartbeat_keeps _ _ _ (.refl s)).wr) (.refl s))

theorem execFabCntClear_answers {r value} : Answers s (execFabCntClear r value s) :=
  .next (.ite (.wr (.foldl (fun _ _ h => .foldl (fun _ _ k => k.wr) h) (.refl s))) (.refl s))

theorem execLineReadError_answers {r line area persistent} : Answers s (execLineReadError r line area persistent s) :=
  .next (State.readError_keeps _ _ _ _ _ (.refl s))

theorem execLineRepairReply_answers {l line data readBackOk} : Answers s (execLineRepairReply l line data readBackOk s) :=
  .next (.whenUp (.refl s) fun _ h => .ite h (by
    have repaired {u d} (k : Keeps s u) :
        Keeps s (((u.storeLine l line d).bump l.reg MEM_CNT_REPAIR).lineCorrected l line true) :=
      State.lineCorrected_keeps _ _ _ _ (State.storeLine_keeps _ _ _ _ k).bump
    split
    · exact State.askRepair_keeps _ _ _ h
    · exact .ite (repaired h.wr.wr) (.ite (repaired h.wr.wr.wr.bump) (State.lineLost_keeps _ _ _ _ h.wr.wr.bump))))

theorem execScrubRead_answers {r line area err passMs} : Answers s (execScrubRead r line area err passMs s) := by
  refine .next ?_
  extract_lets read
  have k : Keeps s read := by
    cases err with
    | clean => exact .refl s
    | written => exact .refl s
    | transient => exact State.readError_keeps _ _ _ _ _ (.refl s)
    | persistent => exact State.readError_keeps _ _ _ _ _ (.refl s)
  split
  · exact .ite (.whenUp k fun _ h => h.wr) k
  · exact k

theorem execRepairRequestReceive_answers {l from' line period crcOk} :
    Answers s (execRepairRequestReceive l from' line period crcOk s) :=
  .next (.whenUp (.refl s) fun _ h => .ite (.ite h.modLane h.send) h)

theorem execGateForceClose_answers {l block master} : Answers s (execGateForceClose l block master s) :=
  .next (.whenUp (.refl s) fun _ h => .ite h.bump.raise h)

theorem execGatedTouch_answers {r block master} : Answers s (execGatedTouch r block master s) :=
  .next (.ite (Keeps.refl s).bump.wr (.refl s))

theorem execFclSourceAssert_answers {r src held t} : Answers s (execFclSourceAssert r src held t s) :=
  .next (.ite (State.sourceAssert_keeps _ _ _ _ (.atTime (.refl s))) (.atTime (.refl s)))

theorem execFclQuietEnd_answers {r src t} : Answers s (execFclQuietEnd r src t s) :=
  .next (.ite (State.quietEnd_keeps _ _ _ (.atTime (.refl s))) (.atTime (.refl s)))

theorem execBlockReady_answers {r block} : Answers s (execBlockReady r block s) :=
  .next (.ite (State.blockReady_keeps _ _ _ (.refl s)) (.refl s))

theorem execBlockResetTimeout_answers {r block} : Answers s (execBlockResetTimeout r block s) :=
  .next (.ite (State.blockResetTimeout_keeps _ _ _ (.refl s)) (.refl s))

theorem execFaultPinHoldEnd_answers {r} : Answers s (execFaultPinHoldEnd r s) :=
  .next (.ite (State.pinHoldEnd_keeps _ _ (.refl s)) (.refl s))

theorem execFclLatchClear_answers {l hd bits} : Answers s (execFclLatchClear l hd bits s) :=
  .next (.whenHost (.refl s) fun _ h => h.performTo (State.effLatchClear_keeps _ _ _ h))

theorem execFclErrStatusClear_answers {l hd bits} : Answers s (execFclErrStatusClear l hd bits s) :=
  .next (.whenHost (.refl s) fun _ h => h.performTo (State.effErrClear_keeps _ _ _ h))

theorem execTroubleClear_answers {l hd value} : Answers s (execTroubleClear l hd value s) :=
  .next (.whenHost (.refl s) fun _ h => h.performTo (State.effTrouble_keeps _ _ _ h))

end Sys2Proof.Machine
end

section
/-! PROOFS. The commands of self-test and the test port keep what every operation keeps. -/

namespace Sys2Proof.Machine

open Par Var

variable {s : State}

theorem execSelftestRunRolling_answers {l hd lane} : Answers s (execSelftestRunRolling l hd lane s) :=
  .perform (State.effRolling_keeps _ _ _ (.refl s))

theorem execSelftestRunConverter_answers {l hd mask} : Answers s (execSelftestRunConverter l hd mask s) :=
  .perform (State.effConverter_keeps _ _ _ (.refl s))

theorem execConverterTestComplete_answers {l b results} : Answers s (execConverterTestComplete l b results s) :=
  .next (.whenUp (.refl s) fun _ h =>
    have noted := (State.failCores_keeps _ _ _ _ h.wr).wr
    .ite (.ite noted.wr noted) h)

theorem execComparatorTest_answers {l hd mask fails} : Answers s (execComparatorTest l hd mask fails s) :=
  .perform (State.effComparator_keeps _ _ _ _ (.refl s))

theorem execInject_answers {l hd region src durMs} : Answers s (execInject l hd region src durMs s) :=
  .perform (State.effInject_keeps _ _ _ _ (.refl s))

theorem execInjectEnd_answers {r src} : Answers s (execInjectEnd r src s) :=
  .next (.ite (Keeps.refl s).wr.release (.refl s))

theorem execLbistComplete_answers {l pass dur} : Answers s (execLbistComplete l pass dur s) :=
  have done := (State.wrB_keeps _ _ _ _ _ (Keeps.refl s).wr).wr
  .next (.ite (.ite done done.bump) (.refl s))

theorem execMbistComplete_answers {l failing inj dur} : Answers s (execMbistComplete l failing inj dur s) :=
  .next (.ite (State.mbistEnd_keeps _ _ _ _ _ (.refl s)) (.refl s))

theorem execJtagBypass_answers : Answers s (execJtagBypass s) :=
  .next (.jtag (.refl s) fun _ h => h)

theorem execJtagIdcode_answers : Answers s (execJtagIdcode s) :=
  .next (.jtag (.refl s) fun _ h => h)

theorem execJtagSamplePreload_answers : Answers s (execJtagSamplePreload s) :=
  .next (.jtag (.refl s) fun _ h => h.wr)

theorem execJtagExtest_answers : Answers s (execJtagExtest s) :=
  .next (.jtag (.refl s) fun _ h => (Keeps.foldl (fun _ _ k => (State.gatesLow_keeps _ _ k).wr) h).wr.wr.wr.wr)

theorem execJtagInternalScan_answers {r keyStore} : Answers s (execJtagInternalScan r keyStore s) :=
  .next (.jtag (.refl s) fun _ h =>
    have cleared := State.scanClear_keeps _ h
    .ite cleared.wr (State.resetRegionOf_keeps _ _ cleared).wr.wr.wr)

end Sys2Proof.Machine
end

section
/-! PROOFS. The commands of clocks, supplies and power states keep what every operation keeps. -/

namespace Sys2Proof.Machine

open Par Var

variable {s : State}

theorem execVsupStart_answers {l} : Answers s (execVsupStart l s) :=
  .next (.ite (.ite (State.supplyUp_keeps _ _ (.refl s)).wr.bump.send (State.supplyUp_keeps _ _ (.refl s))) (.refl s))

theorem execSupplyLoss_answers {l} : Answers s (execSupplyLoss l s) :=
  .next (.ite (State.sharedDown_keeps _ (State.coldLane_keeps _ _ (.refl s)).wr.wr) (.refl s))

theorem execVsupOvervolt_answers {l} : Answers s (execVsupOvervolt l s) :=
  .next (.ite (Keeps.refl s).wrBit.bump (.refl s))

theorem execRailFault_answers {l rail} : Answers s (execRailFault l rail s) :=
  have noted := Keeps.ite (Keeps.refl s).wrBit.bump.bump (Keeps.refl s).wrBit.bump.wr
  .next (.ite (.ite noted.raise noted.raise.raise) (.refl s))

theorem execClkinQualified_answers {l restarts} : Answers s (execClkinQualified l restarts s) :=
  .next (.ite (State.clkSet_keeps _ _ (State.bumpBy_keeps _ _ _ _ _ (.refl s)).wr).release (.refl s))

theorem execClkinLoss_answers {l} : Answers s (execClkinLoss l s) :=
  have lost := (State.clkSet_keeps _ _ (State.forcedSwitches_keeps _ _ (Keeps.refl s).wr.bump)).raise
  .next (.ite (.ite (State.resetLane_keeps _ _ (State.stampReset_keeps _ _ _ _ lost)).wr lost) (.refl s))

theorem execDvfsChangeComplete_answers {l point} : Answers s (execDvfsChangeComplete l point s) :=
  .next (.whenUp (.refl s) fun _ h =>
    have set := h.wr.wr.wr
    have changed := Keeps.ite (State.completeChange_keeps _ _ set)
      (.ite (State.clkSet_keeps _ _ set.wr) (State.clkSet_keeps _ _ set))
    .ite h (.ite changed (.foldl (fun _ _ k => State.startAlso_keeps _ _ _ k) changed.wr)))

theorem execPowerState_answers {l hd state point} : Answers s (execPowerState l hd state point s) :=
  .perform (State.effPower_keeps _ _ _ _ (.refl s))

theorem execHandshakeAnswer_answers {l party a} : Answers s (execHandshakeAnswer l party a s) :=
  .next (.whenUp (.refl s) fun _ h => State.hsAnswer_keeps _ _ _ _ h)

theorem execHandshakeTimeout_answers {l party} : Answers s (execHandshakeTimeout l party s) :=
  .next (.whenUp (.refl s) fun _ h => .ite (State.abortChange_keeps _ _ _ _ h) h)

theorem execHandshakeDelayEnd_answers {l party} : Answers s (execHandshakeDelayEnd l party s) :=
  .next (.whenUp (.refl s) fun _ h => .ite h.wr h)

theorem execHandshakeAbortTimeout_answers {l} : Answers s (execHandshakeAbortTimeout l s) :=
  .next (.whenUp (.refl s) fun _ h => State.abortPackage_keeps _ _ h)

theorem execCreepSample_answers {l smp} : Answers s (execCreepSample l smp s) :=
  .next (.ite (.refl s) (by
    split
    · exact (State.wakeLane_keeps _ _ _ _ (.refl s)).wr
    · exact .refl s))

theorem execPeerWake_answers {r from'} : Answers s (execPeerWake r from' s) :=
  .next (by
    split
    · exact .ite (State.wakeLane_keeps _ _ _ _ (.refl s)).wr (.refl s)
    · exact .ite (.ite (State.raiseEpoch_keeps _ _ (Keeps.refl s).wr) (Keeps.refl s).wr) (.refl s))

theorem execWakePin_answers {l} : Answers s (execWakePin l s) :=
  have woken := State.wakeLane_keeps s l 1 0 (.refl s)
  .next (.ite woken (.ite (.ite (Keeps.refl s).wr woken) (.whenUp (.refl s) fun _ h => State.abortPackage_keeps _ _ h)))

theorem execWakeTimerExpiry_answers {l} : Answers s (execWakeTimerExpiry l s) :=
  .next (.ite (State.wakeLane_keeps _ _ _ _ (.refl s)) (.refl s))

theorem execWakeActivity_answers {l hostPort} : Answers s (execWakeActivity l hostPort s) :=
  .next (.ite (State.wakeLane_keeps _ _ _ _ (.refl s)) (.refl s))

theorem execRetentionDroop_answers {l} : Answers s (execRetentionDroop l s) :=
  .next (.ite (State.wakeLane_keeps _ _ _ _ (.refl s)) (.refl s))

theorem execRetentionRestoreRequest_answers {l from' bank} : Answers s (execRetentionRestoreRequest l from' bank s) :=
  .next (.ite (Keeps.refl s).send (.refl s))

end Sys2Proof.Machine
end

section
/-! PROOFS. The commands of the start of a die and of the Stationmaster keep what every operation keeps. -/

namespace Sys2Proof.Machine

open Par Var

variable {s : State}

theorem execLaneStart_answers {l o} : Answers s (execLaneStart l o s) :=
  .next (.ite (State.laneStart_keeps _ _ _ (.refl s)) (.refl s))

theorem execLaneReady_answers {l t} : Answers s (execLaneReady l t s) :=
  .next (.ite (State.laneReady_keeps _ _ (.atTime (.refl s))) (.atTime (.refl s)))

theorem execPowerDieReady_answers {l} : Answers s (execPowerDieReady l s) :=
  .next (.whenUp (.refl s) fun _ h => .ite (State.updPin_keeps _ _ h.wr.wr) h)

theorem execSharedDieReady_answers {d recordOk creepWake} : Answers s (execSharedDieReady d recordOk creepWake s) :=
  .next (.ite (match d with
    | .s => State.sReady_keeps _ _ _ (.refl s)
    | .m => State.mReady_keeps _ (.refl s)) (.refl s))

theorem execSlotAnnounceReceive_answers {l peer active pending} : Answers s (execSlotAnnounceReceive l peer active pending s) :=
  have noted := (Keeps.refl s).modLane
  .next (.ite (.refl s) (.ite (State.resetLane_keeps _ _ (State.rejectTrial_keeps _ _ noted)) noted))

theorem execSlotAnnounceTimeout_answers {l moved} : Answers s (execSlotAnnounceTimeout l moved s) :=
  .next (.ite (.refl s) (.ite (State.chooseSlot_keeps _ _ _ (.refl s)).wr (State.chooseSlot_keeps _ _ _ (.refl s)).wr.wr.wr.wr.wr))

theorem execFormationListenEnd_answers {l} : Answers s (execFormationListenEnd l s) :=
  .next (.whenUp (.refl s) fun _ h => .ite (.ite (State.enterShadow_keeps _ _ h.wr.modVot) (State.beginRejoin_keeps _ _ h)) h)

theorem execFormationTimeout_answers : Answers s (execFormationTimeout s) :=
  .next (.foldl (fun _ _ h => .whenUp h fun _ k => State.formLane_keeps _ _ k)
    (.whenS (.refl s) fun _ h => .ite (State.formS_keeps _ _ _ h) h))

theorem execMHeartbeatReceive_answers {l lifecycle} : Answers s (execMHeartbeatReceive l lifecycle s) :=
  .next (.whenUp (.refl s) fun _ h => .ite h.wr (.ite h.wr.wr.wr.wr.release h.wr.wr.wr))

theorem execMLostTimeout_answers {l} : Answers s (execMLostTimeout l s) :=
  .next (.whenUp (.refl s) fun _ h =>
    .ite (.ite h.wr h.wr.raise) (State.event_keeps _ _ _ _ (State.trcMLost_keeps _ _ h.wr.wr.raise)))

theorem execLogRecordAppend_answers {r} : Answers s (execLogRecordAppend r s) :=
  .next (.whenM (.refl s) fun _ h => State.logAppend_keeps _ _ _ _ _ _ h)

theorem execLogRead_answers {l hd start count mask} : Answers s (execLogRead l hd start count mask s) :=
  .next (.whenHost (.refl s) fun _ h => h.performAt h)

theorem execUpdateBegin_answers {o hd total} : Answers s (execUpdateBegin o hd total s) :=
  .next ((Keeps.refl s).performM (State.effBegin_keeps _ _ _ (.refl s)))

theorem execUpdateChunk_answers {o hd offset data} : Answers s (execUpdateChunk o hd offset data s) :=
  .next ((Keeps.refl s).performM (State.effChunk_keeps _ _ (.refl s)))

theorem execUpdateEnd_answers {o hd} : Answers s (execUpdateEnd o hd s) :=
  .next ((Keeps.refl s).performM (Keeps.refl s).wr.wr)

theorem execUpdateVerifyDone_answers : Answers s (execUpdateVerifyDone s) :=
  .next (.whenM (.refl s) fun _ h => .ite (State.verifyDone_keeps _ h) h)

theorem execUpdateSessionTimeout_answers : Answers s (execUpdateSessionTimeout s) :=
  .next (.whenM (.refl s) fun _ h => .ite (State.dropSession_keeps _ h) h)

theorem execLaneImageInstall_answers {l sect readBackOk} : Answers s (execLaneImageInstall l sect readBackOk s) :=
  .next (.whenUp (.refl s) fun _ h => State.installImage_keeps _ _ _ _ h)

theorem execAttest_answers {o hd part nonce} : Answers s (execAttest o hd part nonce s) :=
  .next (.performM (.refl s) (by
    split
    · exact State.effAttestNew_keeps _ _ (.refl s)
    · exact .refl s))

theorem execAttestSignDone_answers : Answers s (execAttestSignDone s) :=
  .next (.whenM (.refl s) fun _ h => .ite h h.draw.modM.wr)

theorem execLifecycleNonce_answers {o hd} : Answers s (execLifecycleNonce o hd s) :=
  .next ((Keeps.refl s).performM (Keeps.refl s).draw.modM.wr)

theorem execLifecycleChunk_answers {o hd offset data} : Answers s (execLifecycleChunk o hd offset data s) :=
  .next (.performM (.refl s) (.fst (.modM (.refl s))))

theorem execLifecycleApply_answers {o hd} : Answers s (execLifecycleApply o hd s) :=
  .next ((Keeps.refl s).performM (State.effApply_keeps _ (.refl s)))

theorem execLifecycleNonceExpiry_answers : Answers s (execLifecycleNonceExpiry s) :=
  .next (.whenM (.refl s) fun _ h => h.modM.wr)

theorem execTagPortChange_answers {c present} : Answers s (execTagPortChange c present s) :=
  .next (.whenM (.refl s) fun _ h =>
    have changed := State.modPort_keeps _ _ _ h
    .ite h (.ite (State.tagStep_keeps _ _ changed.wr.wr) (State.portState_keeps _ _ _ changed)))

theorem execTagResponse_answers {c frame} : Answers s (execTagResponse c frame s) :=
  .next (.whenM (.refl s) fun _ h => .ite h (.ite (State.tagRetry_keeps _ _ h) (by
    split
    · exact State.tagManifest_keeps _ _ _ h
    · exact State.tagChallenge_keeps _ _ _ h
    · exact h.wr.wr)))

theorem execTagTimeout_answers {c} : Answers s (execTagTimeout c s) :=
  .next (.whenM (.refl s) fun _ h => .ite (State.tagRetry_keeps _ _ h) h)

theorem execCartReportReceive_answers {l r} : Answers s (execCartReportReceive l r s) :=
  .next (.whenUp (.refl s) fun _ h => .ite h h.modLane)

theorem execTagCounterWriteback_answers {failed} : Answers s (execTagCounterWriteback failed s) :=
  .next (.whenM (.refl s) fun _ h => .foldl (fun _ _ k => .ite k (by
    split
    · exact k
    · exact
        have shown := State.showLife_keeps _ _ _ k.send
        .ite shown.raise (State.modPort_keeps _ _ _ shown))) h.wr)

theorem execMxinLoss_answers : Answers s (execMxinLoss s) :=
  .next (.whenM (.refl s) fun _ h => .ite h h.wr.raise)

end Sys2Proof.Machine
end

section
/-! PROOFS. What every command and every step keeps. -/

namespace Sys2Proof.Machine

/-- Every command, in every state, answers a next state, which keeps the part, the queue, the order of time and the canonical form of
the store. -/
theorem exec_answers (c : Instr) (s : State) : Answers s (exec c s) :=
  match c with
  | .waybillReceive .. => execWaybillReceive_answers
  | .dupHoldExpiry .. => execDupHoldExpiry_answers
  | .get .. => execGet_answers
  | .set .. => execSet_answers
  | .setStaged .. => execSetStaged_answers
  | .commit .. => execCommit_answers
  | .abortConsist .. => execAbortConsist_answers
  | .consistIdleTimeout .. => execConsistIdleTimeout_answers
  | .commitInstantReached .. => execCommitInstantReached_answers
  | .relayTimeout .. => execRelayTimeout_answers
  | .relayReceive .. => execRelayReceive_answers
  | .relayReplyReceive .. => execRelayReplyReceive_answers
  | .spiStatus .. => execSpiStatus_answers
  | .spiWrite .. => execSpiWrite_answers
  | .spiRead .. => execSpiRead_answers
  | .spiClear .. => execSpiClear_answers
  | .spiBufferDrain .. => execSpiBufferDrain_answers
  | .spiReplyEnqueue .. => execSpiReplyEnqueue_answers
  | .udpDatagramReceive .. => execUdpDatagramReceive_answers
  | .can0SegmentReceive .. => execCan0SegmentReceive_answers
  | .can0SegmentTimeout .. => execCan0SegmentTimeout_answers
  | .canBusOff .. => execCanBusOff_answers
  | .isoProprietaryAReceive .. => execIsoProprietaryAReceive_answers
  | .isoAddressClaimReceive .. => execIsoAddressClaimReceive_answers
  | .isoAddressClaimSend .. => execIsoAddressClaimSend_answers
  | .flitReceive .. => execFlitReceive_answers
  | .flitNackReceive .. => execFlitNackReceive_answers
  | .flitAckTimeout .. => execFlitAckTimeout_answers
  | .linkCodeErrors .. => execLinkCodeErrors_answers
  | .linkAckSilence .. => execLinkAckSilence_answers
  | .linkTrainComplete .. => execLinkTrainComplete_answers
  | .linkFailTimeout .. => execLinkFailTimeout_answers
  | .linkTrainRetry .. => execLinkTrainRetry_answers
  | .pwmValley .. => execPwmValley_answers
  | .computeStart .. => execComputeStart_answers
  | .dutyReceive .. => execDutyReceive_answers
  | .exchFrameReceive .. => execExchFrameReceive_answers
  | .sExchReceive .. => execSExchReceive_answers
  | .sEchoReceive .. => execSEchoReceive_answers
  | .sFrameSilence .. => execSFrameSilence_answers
  | .announceReceive .. => execAnnounceReceive_answers
  | .towlineCycleStart .. => execTowlineCycleStart_answers
  | .commonSampleInstant .. => execCommonSampleInstant_answers
  | .commonLatchInstant .. => execCommonLatchInstant_answers
  | .inputReceive .. => execInputReceive_answers
  | .inputVoteDeadline .. => execInputVoteDeadline_answers
  | .staffRenewReceive .. => execStaffRenewReceive_answers
  | .staffGrantReceive .. => execStaffGrantReceive_answers
  | .staffClaimReceive .. => execStaffClaimReceive_answers
  | .staffAgreeReceive .. => execStaffAgreeReceive_answers
  | .staffDenyReceive .. => execStaffDenyReceive_answers
  | .staffReleaseReceive .. => execStaffReleaseReceive_answers
  | .staffRelinquishReceive .. => execStaffRelinquishReceive_answers
  | .staffAdmitReceive .. => execStaffAdmitReceive_answers
  | .staffExpiredReceive .. => execStaffExpiredReceive_answers
  | .holderLeaseEnd .. => execHolderLeaseEnd_answers
  | .sLeaseExpiry .. => execSLeaseExpiry_answers
  | .claimWaitEnd .. => execClaimWaitEnd_answers
  | .grantMiss .. => execGrantMiss_answers
  | .claimTimeout .. => execClaimTimeout_answers
  | .successorReserveEnd .. => execSuccessorReserveEnd_answers
  | .sLostToStaff .. => execSLostToStaff_answers
  | .leaveReset .. => execLeaveReset_answers
  | .staffRequest .. => execStaffRequest_answers
  | .relinquish .. => execRelinquish_answers
  | .rejoin .. => execRejoin_answers
  | .excludeLane .. => execExcludeLane_answers
  | .stateTransferRequest .. => execStateTransferRequest_answers
  | .stateTransferComplete .. => execStateTransferComplete_answers
  | .stateTransferTimeout .. => execStateTransferTimeout_answers
  | .shadowEnd .. => execShadowEnd_answers
  | .loopStateTransferComplete .. => execLoopStateTransferComplete_answers
  | .lockstepMismatch .. => execLockstepMismatch_answers
  | .syncDiffDetect .. => execSyncDiffDetect_answers
  | .startDrive .. => execStartDrive_answers
  | .stopDrive .. => execStopDrive_answers
  | .stopRampEnd .. => execStopRampEnd_answers
  | .captureEnd .. => execCaptureEnd_answers
  | .prechargeEnd .. => execPrechargeEnd_answers
  | .extrapTimeout .. => execExtrapTimeout_answers
  | .hfiAlignEnd .. => execHfiAlignEnd_answers
  | .vgdLow .. => execVgdLow_answers
  | .vgdReady .. => execVgdReady_answers
  | .desatDetect .. => execDesatDetect_answers
  | .desatBlankEnd .. => execDesatBlankEnd_answers
  | .hardShortDetect .. => execHardShortDetect_answers
  | .softOffStep2 .. => execSoftOffStep2_answers
  | .softOffClamp .. => execSoftOffClamp_answers
  | .gdrLatchClear .. => execGdrLatchClear_answers
  | .shortZeroCrossing .. => execShortZeroCrossing_answers
  | .shortReleaseTimeout .. => execShortReleaseTimeout_answers
  | .calSkipTimeout .. => execCalSkipTimeout_answers
  | .cenGroupTrigger .. => execCenGroupTrigger_answers
  | .steerTarget .. => execSteerTarget_answers
  | .brakeDemand .. => execBrakeDemand_answers
  | .hold .. => execHold_answers
  | .release .. => execRelease_answers
  | .trcSampleEvent .. => execTrcSampleEvent_answers
  | .traceArm .. => execTraceArm_answers
  | .traceTrigger .. => execTraceTrigger_answers
  | .traceStop .. => execTraceStop_answers
  | .traceRead .. => execTraceRead_answers
  | .traceStream .. => execTraceStream_answers
  | .archiveRead .. => execArchiveRead_answers
  | .traceArchiveWrite .. => execTraceArchiveWrite_answers
  | .fbiEdgeAccept .. => execFbiEdgeAccept_answers
  | .fbiLineFault .. => execFbiLineFault_answers
  | .sincosPairReceive .. => execSincosPairReceive_answers
  | .ssiFrameComplete .. => execSsiFrameComplete_answers
  | .fbiStandstillTimeout .. => execFbiStandstillTimeout_answers
  | .fbiFaultClear .. => execFbiFaultClear_answers
  | .fbiIndexArm .. => execFbiIndexArm_answers
  | .tableLoad .. => execTableLoad_answers
  | .tableAppend .. => execTableAppend_answers
  | .arm .. => execArm_answers
  | .disarm .. => execDisarm_answers
  | .forceOff .. => execForceOff_answers
  | .tableTransferComplete .. => execTableTransferComplete_answers
  | .sVoteReceive .. => execSVoteReceive_answers
  | .athPulseEnd .. => execAthPulseEnd_answers
  | .athOrphanTimeout .. => execAthOrphanTimeout_answers
  | .sStatusSend .. => execSStatusSend_answers
  | .sStatusReceive .. => execSStatusReceive_answers
  | .secOffPulseStart .. => execSecOffPulseStart_answers
  | .secOffPulseEnd .. => execSecOffPulseEnd_answers
  | .secReadbackFault .. => execSecReadbackFault_answers
  | .secOvercurrent .. => execSecOvercurrent_answers
  | .secOpenLoad .. => execSecOpenLoad_answers
  | .secLeakage .. => execSecLeakage_answers
  | .secFaultClear .. => execSecFaultClear_answers
  | .sioInputAccept .. => execSioInputAccept_answers
  | .testPulseStart .. => execTestPulseStart_answers
  | .testPulseEnd .. => execTestPulseEnd_answers
  | .tpReadbackFault .. => execTpReadbackFault_answers
  | .sioDiscrepancyTimeout .. => execSioDiscrepancyTimeout_answers
  | .tripReceive .. => execTripReceive_answers
  | .tripApply .. => execTripApply_answers
  | .estopHoldTimer .. => execEstopHoldTimer_answers
  | .ackRelease .. => execAckRelease_answers
  | .ackReleaseReceive .. => execAckReleaseReceive_answers
  | .armReset .. => execArmReset_answers
  | .confirmReset .. => execConfirmReset_answers
  | .stopStandstill .. => execStopStandstill_answers
  | .latchConfirmTimeout .. => execLatchConfirmTimeout_answers
  | .stopTimeout .. => execStopTimeout_answers
  | .twlLossTimeout .. => execTwlLossTimeout_answers
  | .twlFrameReceive .. => execTwlFrameReceive_answers
  | .twlPathStart .. => execTwlPathStart_answers
  | .twlNit .. => execTwlNit_answers
  | .localCycleStart .. => execLocalCycleStart_answers
  | .listenTimeout .. => execListenTimeout_answers
  | .lkgEnableOpen .. => execLkgEnableOpen_answers
  | .lkgEnableClose .. => execLkgEnableClose_answers
  | .lkgBlockTx .. => execLkgBlockTx_answers
  | .lkgCycleStart .. => execLkgCycleStart_answers
  | .taskEvent .. => execTaskEvent_answers
  | .waitTimeout .. => execWaitTimeout_answers
  | .delayListTick .. => execDelayListTick_answers
  | .bgShareCheck .. => execBgShareCheck_answers
  | .orderLoad .. => execOrderLoad_answers
  | .orderStart .. => execOrderStart_answers
  | .orderStop .. => execOrderStop_answers
  | .orderDelayExpiry .. => execOrderDelayExpiry_answers
  | .orderNextWaybill .. => execOrderNextWaybill_answers
  | .fabRequest .. => execFabRequest_answers
  | .lockHoldWrite .. => execLockHoldWrite_answers
  | .lockRollbackWrite .. => execLockRollbackWrite_answers
  | .lockIdleTimeout .. => execLockIdleTimeout_answers
  | .epochStatusReceive .. => execEpochStatusReceive_answers
  | .fabCntClear .. => execFabCntClear_answers
  | .lineReadError .. => execLineReadError_answers
  | .lineRepairReply .. => execLineRepairReply_answers
  | .scrubRead .. => execScrubRead_answers
  | .gateForceClose _ _ master => execGateForceClose_answers (master := master)
  | .gatedTouch .. => execGatedTouch_answers
  | .fclSourceAssert .. => execFclSourceAssert_answers
  | .fclQuietEnd .. => execFclQuietEnd_answers
  | .blockReady .. => execBlockReady_answers
  | .blockResetTimeout .. => execBlockResetTimeout_answers
  | .faultPinHoldEnd .. => execFaultPinHoldEnd_answers
  | .fclLatchClear .. => execFclLatchClear_answers
  | .fclErrStatusClear .. => execFclErrStatusClear_answers
  | .troubleClear .. => execTroubleClear_answers
  | .selftestRunRolling .. => execSelftestRunRolling_answers
  | .selftestRunConverter .. => execSelftestRunConverter_answers
  | .comparatorTest .. => execComparatorTest_answers
  | .inject .. => execInject_answers
  | .injectEnd .. => execInjectEnd_answers
  | .lbistComplete .. => execLbistComplete_answers
  | .mbistComplete .. => execMbistComplete_answers
  | .jtagBypass .. => execJtagBypass_answers
  | .jtagIdcode .. => execJtagIdcode_answers
  | .jtagSamplePreload .. => execJtagSamplePreload_answers
  | .jtagExtest .. => execJtagExtest_answers
  | .jtagInternalScan .. => execJtagInternalScan_answers
  | .vsupStart .. => execVsupStart_answers
  | .supplyLoss .. => execSupplyLoss_answers
  | .vsupOvervolt .. => execVsupOvervolt_answers
  | .railFault .. => execRailFault_answers
  | .clkinQualified .. => execClkinQualified_answers
  | .clkinLoss .. => execClkinLoss_answers
  | .dvfsChangeComplete .. => execDvfsChangeComplete_answers
  | .powerState .. => execPowerState_answers
  | .handshakeAnswer .. => execHandshakeAnswer_answers
  | .handshakeTimeout .. => execHandshakeTimeout_answers
  | .handshakeDelayEnd .. => execHandshakeDelayEnd_answers
  | .handshakeAbortTimeout .. => execHandshakeAbortTimeout_answers
  | .creepSample .. => execCreepSample_answers
  | .peerWake .. => execPeerWake_answers
  | .wakePin .. => execWakePin_answers
  | .wakeTimerExpiry .. => execWakeTimerExpiry_answers
  | .wakeActivity .. => execWakeActivity_answers
  | .retentionDroop .. => execRetentionDroop_answers
  | .laneStart .. => execLaneStart_answers
  | .laneReady .. => execLaneReady_answers
  | .slotAnnounceReceive .. => execSlotAnnounceReceive_answers
  | .slotAnnounceTimeout .. => execSlotAnnounceTimeout_answers
  | .formationListenEnd .. => execFormationListenEnd_answers
  | .formationTimeout .. => execFormationTimeout_answers
  | .mHeartbeatReceive .. => execMHeartbeatReceive_answers
  | .mLostTimeout .. => execMLostTimeout_answers
  | .logRecordAppend .. => execLogRecordAppend_answers
  | .logRead .. => execLogRead_answers
  | .updateBegin .. => execUpdateBegin_answers
  | .updateChunk .. => execUpdateChunk_answers
  | .updateEnd .. => execUpdateEnd_answers
  | .updateVerifyDone .. => execUpdateVerifyDone_answers
  | .updateSessionTimeout .. => execUpdateSessionTimeout_answers
  | .laneImageInstall .. => execLaneImageInstall_answers
  | .attest .. => execAttest_answers
  | .attestSignDone .. => execAttestSignDone_answers
  | .lifecycleNonce .. => execLifecycleNonce_answers
  | .lifecycleChunk .. => execLifecycleChunk_answers
  | .lifecycleApply .. => execLifecycleApply_answers
  | .lifecycleNonceExpiry .. => execLifecycleNonceExpiry_answers
  | .tagPortChange .. => execTagPortChange_answers
  | .tagResponse .. => execTagResponse_answers
  | .tagTimeout .. => execTagTimeout_answers
  | .cartReportReceive .. => execCartReportReceive_answers
  | .tagCounterWriteback .. => execTagCounterWriteback_answers
  | .flitAckReceive .. => execFlitAckReceive_answers
  | .powerDieReady .. => execPowerDieReady_answers
  | .sharedDieReady .. => execSharedDieReady_answers
  | .athCoilFault .. => execAthCoilFault_answers
  | .trxDriverOvercurrent .. => execTrxDriverOvercurrent_answers
  | .converterTestComplete .. => execConverterTestComplete_answers
  | .repairRequestReceive .. => execRepairRequestReceive_answers
  | .retentionRestoreRequest .. => execRetentionRestoreRequest_answers
  | .mxinLoss .. => execMxinLoss_answers

/-- A step keeps the canonical form: on an empty queue the engines tick, else the front command runs, and the queue is no part of the
store. -/
theorem step_keeps_wf {s t : State} (h : step s = .next t) (w : s.params.wf = true) : t.params.wf = true := by
  unfold step at h
  split at h
  · cases h
    exact (State.tick_keeps s (.refl s)).wf w
  · next c rest _ => exact (h ▸ exec_answers c { s with pending := rest }).keeps.wf w

/-- Settles O3: every command is made of operations that keep the canonical form. -/
theorem stepKeepsTheStoreCanonical : Obligations.StepKeepsTheStoreCanonical :=
  fun _ _ h w => step_keeps_wf h w

end Sys2Proof.Machine
end

section
/-! PROOFS. Standing orders on a lane whose core pair has halted. -/

namespace Sys2Proof.Machine

open Par Var

/-- The dispatcher is work of the core pair: while it is halted no order starts, goes on or ends (R139). -/
theorem exec_orderNextWaybill_of_halted {s : State} {l : LaneId} (h : s.pairUp l = false) (t : Nat) :
    exec (.orderNextWaybill l t) s = .next (s.atTime t) := by
  simp [exec, execOrderNextWaybill, State.whenPair, h]

/-- Lane A runs, its standing order 0 is under way with no waybill left to replay, and its core pair has halted on a mismatch. -/
def haltedRun : State :=
  ((((State.reset.wr 1 INT_POWERED 0 1).wr 1 FAB_PHASE 0 1).wr 1 LSC_STATE 0 3).wr 1 DPT_RUN 0 1).wr 1 DPT_ORD_STATE 0 4

theorem haltedRun_up : haltedRun.up .a = true ∧ haltedRun.pairUp .a = false := by decide

theorem haltedRun_rd : haltedRun.rd 1 DPT_RUN = 1 ∧ haltedRun.rdB 1 DPT_RUN_WAIT = false ∧ haltedRun.rd 1 DPT_ORD_STATE = 4 ∧
    haltedRun.rdB 1 DPT_RUN_FAIL = false := by decide

/-- Refutes O52: its last clause asks of a lane only that it runs, but the dispatcher works only while the core pair does. In `haltedRun`
the pair has halted, so ORDER_NEXT_WAYBILL leaves the order, which has no waybill left, running, and `DPT.RUN` does not go back to 0. -/
theorem not_standingOrders : ¬ Obligations.StandingOrders := by
  unfold Obligations.StandingOrders
  rintro ⟨-, -, -, -, next⟩
  obtain ⟨up, halted⟩ := haltedRun_up
  obtain ⟨run, wait, state, fail⟩ := haltedRun_rd
  obtain ⟨-, -, -, last⟩ := next .a 0 haltedRun up
  obtain ⟨ends, -⟩ := last 0 run (by decide) wait (by decide) state
  obtain ⟨t, runs, -, idle, -⟩ := ends fail (by decide) (by decide)
  rw [exec_orderNextWaybill_of_halted halted] at runs
  cases runs
  exact absurd (run.symm.trans idle) (by decide)

end Sys2Proof.Machine
end

section
/-! PROOFS. The queue of commands and the order in which a waybill engine takes what waits. -/

namespace Sys2Proof.Machine

theorem step_of_front {s : State} {c : Instr} {rest : List Instr} (h : s.pending = c :: rest) :
    step s = exec c { s with pending := rest } := by simp [step, h]

theorem step_of_empty {s : State} (h : s.pending = []) : step s = .next s.tick := by simp [step, h]

/-- An engine with one waybill waiting takes it as soon as it is free (R47, R48). -/
theorem State.engineTick_single {s : State} {l : LaneId} {x : QueuedWb} (up : s.hostUp l = true) (q : (s.lane l).wbe.inq = [x]) :
    s.engineTick l = ((s.atTime (max (s.lane l).wbe.busy x.at')).modWbe l
      (fun w => { w with inq := [], busy := max (s.lane l).wbe.busy x.at' + 5000 })).process l x.wb (max (s.lane l).wbe.busy x.at') := by
  have taken : ((s.atTime (max (s.lane l).wbe.busy x.at')).modWbe l (fun y => { y with inq := y.inq.erase x })).modWbe l
      (fun y => { y with busy := max (s.lane l).wbe.busy x.at' + wbTime }) = (s.atTime (max (s.lane l).wbe.busy x.at')).modWbe l
      (fun w => { w with inq := [], busy := max (s.lane l).wbe.busy x.at' + 5000 }) := by
    rw [State.modWbe, State.modWbe, State.modLane_modLane]
    exact State.modLane_congr (by simp [q, wbTime])
  simp only [State.engineTick, q, nextIn, up, if_true, State.takeNext, State.startWb, State.atTime_lane, taken]

/-- Of two waiting waybills, one that is before the other while the other is not before it is taken next, in either order of arrival. -/
theorem nextIn_pair {x y : QueuedWb} (first : x.before y = true) (second : y.before x = false) :
    nextIn [y, x] = some x ∧ nextIn [x, y] = some x := by simp [nextIn, first, second]

theorem QueuedWb.before_of_urgent {x y : QueuedWb} (hx : bit (byteAt x.wb.raw 1) 3 = true) (hy : bit (byteAt y.wb.raw 1) 3 = false) :
    x.before y = true ∧ y.before x = false := by simp [QueuedWb.before, hx, hy]

/-- Of two waybills equally urgent and complete in one FAB cycle, that of the earlier port is before the other (R47). -/
theorem QueuedWb.before_of_port {x y : QueuedWb} (urgency : bit (byteAt x.wb.raw 1) 3 = bit (byteAt y.wb.raw 1) 3)
    (cycle : x.at' / 5 = y.at' / 5) (port : portTurn x.wb.port < portTurn y.wb.port) : x.before y = true ∧ y.before x = false := by
  simp [QueuedWb.before, urgency, cycle, port, Nat.le_of_lt port]

/-- Settles O1: the front command runs; on an empty queue each engine ticks, taking URGENT waybills first and of the rest in the order of
completion and of ports. -/
theorem stepRunsTheFrontCommand : Obligations.StepRunsTheFrontCommand := by
  refine ⟨fun _ _ _ h => step_of_front h, fun _ h => step_of_empty h, fun s h idle => ?_, fun l x s t0 up q ht => ?_,
    fun _ x y hx hy => ?_, fun x y u c p => ?_⟩
  · rw [step_of_empty h, State.tick_empty idle]
  · rw [ht]
    exact State.engineTick_single up q
  · obtain ⟨first, second⟩ := QueuedWb.before_of_urgent hx hy
    exact nextIn_pair first second
  · obtain ⟨first, second⟩ := QueuedWb.before_of_port u c p
    exact nextIn_pair first second

/-- Settles O2: every command answers a next state, and what every operation keeps includes the queue, the part and the order of time. -/
theorem everyCommandAnswersANextState : Obligations.EveryCommandAnswersANextState := by
  refine ⟨fun c s => ?_, fun c s t h => ?_⟩
  · obtain ⟨t, answer, -⟩ := exec_answers c s
    exact ⟨t, answer⟩
  · have kept : Keeps s t := (h ▸ exec_answers c s).keeps
    exact ⟨kept.pending, kept.part, kept.now⟩

end Sys2Proof.Machine
end

section
/-! PROOFS. The last supply of the package lost while another lane's lock at S is held. -/

namespace Sys2Proof.Machine

open Par Var

/-- An open consist with one SET of `SEC.EN`, a parameter under the lock of S (R53, R455). -/
def sectionConsist : Consist :=
  let h : Hdr := ⟨.t1, 0, 1, true, true, false, false, false, 1, 8, 0x30, 0⟩
  ⟨.t1, 1, [{ hdr := h, op := .set [⟨SEC_EN.id 8 0, 8, 1⟩] }], 0, none, false⟩

/-- Only lane A and S have their supply; the lock of S is HELD by lane B, which has an open consist on it. -/
def lastSupply : State :=
  { ((((State.reset.wr 1 INT_POWERED 0 1).wr 8 INT_POWERED 0 1).wr 8 FAB_LOCK_STATE 0 1).wr 8 FAB_LOCK_OWNER 0 2) with
    lb := { wbe := { consists := [sectionConsist] } } }

theorem lastSupply_supplied : lastSupply.hasRegion 1 = true ∧ lastSupply.rdB 1 INT_POWERED = true ∧ lastSupply.params.wf = true := by decide

/-- What SUPPLY_LOSS of lane A leaves of `lastSupply`. -/
def supplyLost : State := (((lastSupply.coldLane .a).wr 1 INT_POWERED 0 0).wr 4 INT_POWERED 0 0).sharedDown

theorem exec_supplyLoss_lastSupply : exec (.supplyLoss .a) lastSupply = .next supplyLost := by
  obtain ⟨region, powered, -⟩ := lastSupply_supplied
  simp [exec, execSupplyLoss, LaneId.reg, LaneId.pow, region, powered, supplyLost]

/-- S goes with the last supply: its lock breaks, which discards the consist of the owner, lane B (R24, R459). -/
theorem supplyLost_consists : (supplyLost.lane .b).wbe.consists = [] := by decide +kernel

/-- Refutes O56: it has SUPPLY_LOSS of a lane leave the records of the other lanes as they are. In `lastSupply` the loss takes S with it,
whose HELD lock breaks, and lane B, its owner, loses its open consist. -/
theorem not_power : ¬ Obligations.Power := by
  unfold Obligations.Power
  rintro ⟨supply, -⟩
  obtain ⟨region, powered, -⟩ := lastSupply_supplied
  obtain ⟨-, ofSupplied⟩ := supply .a lastSupply region
  obtain ⟨-, t, runs, -, -, -, -, -, -, others, -⟩ := ofSupplied powered
  have after : supplyLost = t := Host.Outcome.next.inj (exec_supplyLoss_lastSupply.symm.trans runs)
  have kept : (supplyLost.lane .b).wbe.consists = [sectionConsist] := by rw [after, others .b (by decide)]; rfl
  exact absurd (supplyLost_consists.symm.trans kept) (by decide)

end Sys2Proof.Machine
end

section
/-! PROOFS. Frames: what reads the same where a command writes only some places of the store, and the writes of a command gathered one
after the other. -/

namespace Sys2Proof.Machine

open Par Var

/-! ### Places by region and row -/

/-- A place of one of some rows in a region. -/
def RowPlace (rows : List PDesc) (r : Nat) (k : PKey) : Prop := k.region = r ∧ ∃ d ∈ rows, d.block = k.block ∧ d.index = k.index

/-- A row that is none of some rows. -/
def offRows (rows : List PDesc) (d : PDesc) : Bool := rows.all fun x => x.block != d.block || x.index != d.index

theorem RowPlace.key {rows : List PDesc} {d : PDesc} (h : d ∈ rows) (r : Nat) {i : Nat} (hi : i < 256) : RowPlace rows r (d.key r i) :=
  ⟨rfl, d, h, rfl, by simp only [PDesc.key]; omega⟩

theorem not_rowPlace {rows : List PDesc} {d : PDesc} (h : offRows rows d = true) (r r' : Nat) {i : Nat} (hi : i < 256) :
    ¬ RowPlace rows r (d.key r' i) := by
  rintro ⟨-, x, hx, block, index⟩
  have off := List.all_eq_true.mp h x hx
  simp only [PDesc.key] at block index
  have e : d.index + i / 256 = d.index := by omega
  simp [block, index, e] at off

theorem not_rowPlace_region {rows : List PDesc} {r : Nat} {k : PKey} (h : k.region ≠ r) : ¬ RowPlace rows r k := fun p => h p.1

theorem not_rowPlace_reg (rows : List PDesc) (l l' : LaneId) (d : PDesc) (i : Nat) : ¬ RowPlace rows l.pow (d.key l'.reg i) :=
  not_rowPlace_region (reg_ne_pow l' l)

theorem PDesc.key_ne_of_region {d d' : PDesc} {r r' i i' : Nat} (h : r ≠ r') : d.key r i ≠ d'.key r' i' := by
  simp [PDesc.key, h]

theorem PDesc.key_ne_of_row {d d' : PDesc} (h : offRows [d'] d = true) {r r' i i' : Nat} (hi : i < 256) (hi' : i' < 256) :
    d.key r i ≠ d'.key r' i' := by
  intro e
  refine not_rowPlace h r' r hi ?_
  rw [e]
  exact RowPlace.key (by simp) r' hi'

theorem PDesc.key_inj {d : PDesc} {r i i' : Nat} : d.key r i = d.key r i' ↔ i = i' := by
  simp only [PDesc.key, PKey.mk.injEq, true_and]
  omega

/-! ### Reading through a frame -/

theorem SameOff.rd {P : PKey → Prop} {s t : State} (h : SameOff P s t) {r : Nat} {d : PDesc} {i : Nat} (hk : ¬ P (d.key r i)) :
    t.rd r d i = s.rd r d i := h _ hk

theorem SameOff.rdB {P : PKey → Prop} {s t : State} (h : SameOff P s t) {r : Nat} {d : PDesc} {i : Nat} (hk : ¬ P (d.key r i)) :
    t.rdB r d i = s.rdB r d i := by rw [State.rdB, h.rd hk, State.rdB]

namespace SameOff

variable {P Q : PKey → Prop} {s t u : State}

theorem refl (P : PKey → Prop) (s : State) : SameOff P s s := fun _ _ => rfl

theorem trans (h : SameOff P s t) (g : SameOff P t u) : SameOff P s u := fun k hk => (g k hk).trans (h k hk)

theorem mono (h : SameOff P s t) (hp : ∀ k, P k → Q k) : SameOff Q s t := fun k hk => h k (fun p => hk (hp k p))

theorem wr (h : SameOff P s t) {r : Nat} {d : PDesc} {i v : Nat} (hp : P (d.key r i)) : SameOff P s (t.wr r d i v) :=
  h.trans fun _ hk => State.wr_get_ne _ (by rintro rfl; exact hk hp)

end SameOff

/-- Nothing changes but parameters at places `P`. -/
structure Touches (P : PKey → Prop) (s t : State) : Prop where
  get : SameOff P s t
  rest : t = { s with params := t.params }

namespace Touches

variable {P Q : PKey → Prop} {s t u : State}

theorem refl (P : PKey → Prop) (s : State) : Touches P s s := ⟨.refl P s, rfl⟩

theorem trans (h : Touches P s t) (g : Touches P t u) : Touches P s u := ⟨h.get.trans g.get, by rw [g.rest, h.rest]⟩

theorem mono (h : Touches P s t) (hp : ∀ k, P k → Q k) : Touches Q s t := ⟨h.get.mono hp, h.rest⟩

theorem wr (h : Touches P s t) {r : Nat} {d : PDesc} {i v : Nat} (hp : P (d.key r i)) : Touches P s (t.wr r d i v) :=
  ⟨h.get.wr hp, by rw [State.wr, h.rest]⟩

theorem ite {c : Prop} [Decidable c] (h : Touches P s t) (g : Touches P s u) : Touches P s (if c then t else u) := by
  split <;> assumption

theorem foldl {α : Type} {f : State → α → State} (hf : ∀ u a, Touches P s u → Touches P s (f u a)) (xs : List α) (h : Touches P s t) :
    Touches P s (xs.foldl f t) := by
  induction xs generalizing t with
  | nil => exact h
  | cons a xs ih => exact ih (hf t a h)

/-- A fold over a list, where each step may use that its element is of the list. -/
theorem foldl_mem {α : Type} {f : State → α → State} (xs : List α) (hf : ∀ u, ∀ a ∈ xs, Touches P s u → Touches P s (f u a))
    (h : Touches P s t) : Touches P s (xs.foldl f t) := by
  induction xs generalizing t with
  | nil => exact h
  | cons a xs ih => exact ih (fun u b hb => hf u b (List.mem_cons_of_mem _ hb)) (hf t a List.mem_cons_self h)

theorem rd (h : Touches P s t) {r : Nat} {d : PDesc} {i : Nat} (hk : ¬ P (d.key r i)) : t.rd r d i = s.rd r d i := h.get _ hk

theorem rdB (h : Touches P s t) {r : Nat} {d : PDesc} {i : Nat} (hk : ¬ P (d.key r i)) : t.rdB r d i = s.rdB r d i := h.get.rdB hk

theorem lane (h : Touches P s t) (l : LaneId) : t.lane l = s.lane l := by rw [h.rest]; cases l <;> rfl

theorem part (h : Touches P s t) : t.part = s.part := by rw [h.rest]

theorem now (h : Touches P s t) : t.now = s.now := by rw [h.rest]

theorem sent (h : Touches P s t) : t.sent = s.sent := by rw [h.rest]

end Touches

/-- Nothing changes but parameters of some rows in one region. -/
abbrev TouchesRows (rows : List PDesc) (r : Nat) (s t : State) : Prop := Touches (RowPlace rows r) s t

namespace TouchesRows

variable {rows : List PDesc} {r : Nat} {s t : State}

theorem wr (h : TouchesRows rows r s t) {d : PDesc} {i v : Nat} (hd : d ∈ rows) (hi : i < 256) : TouchesRows rows r s (t.wr r d i v) :=
  Touches.wr h (RowPlace.key hd r hi)

theorem mono {rows' : List PDesc} (h : TouchesRows rows r s t) (sub : rows ⊆ rows') : TouchesRows rows' r s t :=
  Touches.mono h fun _ ⟨region, d, hd, e⟩ => ⟨region, d, sub hd, e⟩

theorem rd (h : TouchesRows rows r s t) {d : PDesc} (hd : offRows rows d = true) (r' : Nat) {i : Nat} (hi : i < 256) :
    t.rd r' d i = s.rd r' d i := h.get _ (not_rowPlace hd r r' hi)

theorem rdB (h : TouchesRows rows r s t) {d : PDesc} (hd : offRows rows d = true) (r' : Nat) {i : Nat} (hi : i < 256) :
    t.rdB r' d i = s.rdB r' d i := h.get.rdB (not_rowPlace hd r r' hi)

end TouchesRows

/-! ### Writes gathered -/

theorem Reads.congr {t : State} {ws ws' : List (PKey × Nat)} (h : Reads t ws) (e : ∀ w, w ∈ ws' → w ∈ ws) : Reads t ws' :=
  fun w hw => h w (e w hw)

/-- The same writes listed in another order. -/
theorem Sets.congr {s t : State} {ws ws' : List (PKey × Nat)} (h : Sets s t ws) (e : ∀ w, w ∈ ws' ↔ w ∈ ws) : Sets s t ws' :=
  ⟨h.1.congr fun w => (e w).mp, fun k hk => h.2 k (fun m => hk (by
    obtain ⟨w, hw, rfl⟩ := List.mem_map.mp m
    exact List.mem_map.mpr ⟨w, (e w).mpr hw, rfl⟩))⟩

theorem Sets.nil (s : State) : Sets s s [] := ⟨by simp [Reads], fun _ _ => rfl⟩

/-- One more write, at a place not written yet. -/
theorem Sets.wr {s t : State} {ws : List (PKey × Nat)} (h : Sets s t ws) {r : Nat} {d : PDesc} {i : Nat} (v : Nat)
    (fresh : d.key r i ∉ ws.map Prod.fst) : Sets s (t.wr r d i v) ((d.key r i, v) :: ws) := by
  obtain ⟨reads, same⟩ := h
  refine ⟨fun w hw => ?_, fun k hk => ?_⟩
  · rcases List.mem_cons.mp hw with rfl | hw
    · exact State.rd_wr_same t r d i v
    · rw [State.wr_get_ne t (fun e => fresh (List.mem_map.mpr ⟨w, hw, e⟩))]
      exact reads w hw
  · simp only [List.map_cons, List.mem_cons, not_or] at hk
    rw [State.wr_get_ne t hk.1]
    exact same k hk.2

/-- A write at a place written before replaces it. -/
theorem Sets.rewr {s t : State} {ws : List (PKey × Nat)} {r : Nat} {d : PDesc} {i v w : Nat} (h : Sets s t ((d.key r i, v) :: ws))
    (fresh : d.key r i ∉ ws.map Prod.fst) : Sets s (t.wr r d i w) ((d.key r i, w) :: ws) := by
  obtain ⟨reads, same⟩ := h
  refine ⟨fun x hx => ?_, fun k hk => ?_⟩
  · rcases List.mem_cons.mp hx with rfl | hx
    · exact State.rd_wr_same t r d i w
    · rw [State.wr_get_ne t (fun e => fresh (List.mem_map.mpr ⟨x, hx, e⟩))]
      exact reads x (List.mem_cons_of_mem _ hx)
  · rw [State.wr_get_ne t (by simp only [List.map_cons, List.mem_cons, not_or] at hk; exact hk.1)]
    exact same k hk

namespace Writes

variable {s t : State} {ws ws' : List (PKey × Nat)} {ms : List Sent}

theorem nil (s : State) : Writes s s [] := ⟨rfl, .nil s⟩

theorem congr (h : Writes s t ws ms) (e : ∀ w, w ∈ ws' ↔ w ∈ ws) : Writes s t ws' ms := ⟨h.1, h.2.congr e⟩

theorem wr (h : Writes s t ws ms) {r : Nat} {d : PDesc} {i : Nat} (v : Nat) (fresh : d.key r i ∉ ws.map Prod.fst) :
    Writes s (t.wr r d i v) ((d.key r i, v) :: ws) ms := ⟨by rw [State.wr, h.1], h.2.wr v fresh⟩

theorem rewr {r : Nat} {d : PDesc} {i v w : Nat} (h : Writes s t ((d.key r i, v) :: ws) ms) (fresh : d.key r i ∉ ws.map Prod.fst) :
    Writes s (t.wr r d i w) ((d.key r i, w) :: ws) ms := ⟨by rw [State.wr, h.1], h.2.rewr fresh⟩

end Writes

theorem satNat_eq (w n : Nat) : satNat w n = min (2 ^ w - 1) n := by
  unfold satNat
  have := Nat.two_pow_pos w
  split <;> omega

/-- A counter raised is the write that `State.next` names. -/
theorem State.bump_eq (s : State) (r : Nat) (d : PDesc) (i : Nat) : s.bump r d i = s.wr r d i (s.next r d i).2 := by
  rw [State.bump, State.bumpBy, satNat_eq, State.next]

/-- A counter of a row whose places have the row's width counts one more. -/
theorem State.counted_bump {s : State} {r : Nat} {d : PDesc} {i : Nat} (h : widthOf (d.key r i) = d.width) : Counted s (s.bump r d i) r d i :=
  State.bump_rd h rfl

theorem State.rd_bumpBy {s : State} {r : Nat} {d : PDesc} {i n : Nat} (h : widthOf (d.key r i) = d.width) :
    (s.bumpBy r d i n).rd r d i = min (2 ^ d.width - 1) (s.rd r d i + n) := by
  rw [State.bumpBy, State.rd_wr_same, h, satNat_eq]
  exact Nat.mod_eq_of_lt (by have := Nat.two_pow_pos d.width; omega)

/-- A value within its width reads back as written. -/
theorem State.rd_wr_of_lt {s : State} {r : Nat} {d : PDesc} {i v : Nat} (h : v < 2 ^ widthOf (d.key r i)) : (s.wr r d i v).rd r d i = v := by
  rw [State.rd_wr_same, Nat.mod_eq_of_lt h]

/-- No map has rows of the blocks that R8 reserves. -/
theorem blockMap_var {b : Nat} (h : 0x80 ≤ b) (k : RegionKind) : blockMap k b = [] := by
  unfold blockMap
  split <;> simp at h ⊢

theorem lookup_var {k : PKey} (h : 0x80 ≤ k.block) : lookup k = none := by simp [lookup, blockMap_var h]

/-- The variables that no parameter shows have 64 bits, in every region and at every index. -/
theorem widthOf_var {d : PDesc} (h : 0x80 ≤ d.block) (r i : Nat) : widthOf (d.key r i) = 64 := by simp [widthOf, lookup_var (k := d.key r i) h]

end Sys2Proof.Machine
end

section
/-! PROOFS. What the power die writes at a load point: the places of each of its operations, and that none of them is one by which its lane
die runs. -/

namespace Sys2Proof.Machine

open Par Var

namespace SameOff

variable {P : PKey → Prop} {s t u : State}

theorem of_params (h : SameOff P s t) (e : u.params = t.params) : SameOff P s u := fun k hk => by rw [e]; exact h k hk

/-- Entries taken out of the store at places `P` alone. -/
theorem filter (h : SameOff P s t) {f : PKey → Bool} (hf : ∀ k, f k = false → P k) (e : u.params = t.params.filter (fun x => f x.1)) :
    SameOff P s u := by
  intro k hk
  have kept : f k = true := by
    by_contra ne
    exact hk (hf k (by simpa using ne))
  rw [e, Store.get_filter, if_pos kept, h k hk]

/-- A place no more listed. -/
theorem clr (h : SameOff P s t) {r : Nat} {d : PDesc} {i : Nat} (hp : P (d.key r i)) : SameOff P s (t.clr r d i) :=
  h.trans fun k hk => by
    rw [State.clr, Store.get_erase, if_neg (by rintro rfl; exact hk hp)]

end SameOff

/-! ### What a power die leaves of its lane die -/

/-- The blocks of a lane die that its power die never writes: the supply and the start, the fabric with the phase, the image slots. -/
def upBlocks : List Nat := [0x80, 0x07, 0x43, 0xc3]

/-- A place of these blocks, or of the scan that M runs: among them are those by which a lane die runs. -/
def UpPlace (l : LaneId) (k : PKey) : Prop := (k.region = l.reg ∧ k.block ∈ upBlocks) ∨ (k.region = 7 ∧ k.block = 0x8a)

/-- Every such place reads as before. -/
structure UpKept (l : LaneId) (s t : State) : Prop where
  get : SameOff (fun k => ¬ UpPlace l k) s t

namespace UpKept

variable {l : LaneId} {s t u : State}

theorem not_upPlace_pow (l : LaneId) (d : PDesc) (i : Nat) : ¬ UpPlace l (d.key l.pow i) := by
  cases l <;> simp [UpPlace, PDesc.key, LaneId.pow, LaneId.reg]

theorem not_upPlace_block {k : PKey} (hd : k.block ∉ upBlocks ∧ k.block ≠ 0x8a) : ¬ UpPlace l k := by
  simp [UpPlace, hd]

theorem of_params (h : UpKept l s t) (e : u.params = t.params) : UpKept l s u := ⟨h.get.of_params e⟩

theorem modLane (h : UpKept l s t) (x : LaneId) (f : Lane → Lane) : UpKept l s (t.modLane x f) := h.of_params (by simp)

theorem modBridge (h : UpKept l s t) (x : LaneId) (b : Nat) (f : Bridge → Bridge) : UpKept l s (t.modBridge x b f) := h.of_params (by simp)

theorem send (h : UpKept l s t) (x : Sent) : UpKept l s (t.send x) := h.of_params (by simp)

theorem wr (h : UpKept l s t) {r : Nat} {d : PDesc} {i v : Nat} (hk : ¬ UpPlace l (d.key r i)) : UpKept l s (t.wr r d i v) := ⟨h.get.wr hk⟩

/-- A write to the power die. -/
theorem pow (h : UpKept l s t) (d : PDesc) (i v : Nat) : UpKept l s (t.wr l.pow d i v) := h.wr (not_upPlace_pow l d i)

/-- A write to a row of another block than those of `UpPlace`. -/
theorem row (h : UpKept l s t) {r : Nat} {d : PDesc} {i v : Nat} (hd : d.block ∉ upBlocks ∧ d.block ≠ 0x8a) :
    UpKept l s (t.wr r d i v) := h.wr (not_upPlace_block hd)

theorem clr (h : UpKept l s t) {r : Nat} {d : PDesc} {i : Nat} (hd : d.block ∉ upBlocks ∧ d.block ≠ 0x8a) : UpKept l s (t.clr r d i) :=
  ⟨h.get.clr (not_upPlace_block hd)⟩

/-- A write to a row of the lane die. -/
theorem own (h : UpKept l s t) {d : PDesc} {i v : Nat} (hd : d.block ∉ upBlocks) : UpKept l s (t.wr l.reg d i v) :=
  h.wr (by have : l.reg ≠ 7 := by cases l <;> decide
           simp [UpPlace, PDesc.key, hd, this])

theorem ite {c : Prop} [Decidable c] (h : UpKept l s t) (g : UpKept l s u) : UpKept l s (if c then t else u) := by split <;> assumption

theorem foldl {α : Type} {f : State → α → State} (hf : ∀ u a, UpKept l s u → UpKept l s (f u a)) (xs : List α) (h : UpKept l s t) :
    UpKept l s (xs.foldl f t) := by
  induction xs generalizing t with
  | nil => exact h
  | cons a xs ih => exact ih (hf t a h)

theorem foldlFst {α β : Type} {f : State × β → α → State × β} (hf : ∀ p a, UpKept l s p.1 → UpKept l s (f p a).1) (xs : List α)
    {p : State × β} (h : UpKept l s p.1) : UpKept l s (xs.foldl f p).1 := by
  induction xs generalizing p with
  | nil => exact h
  | cons a xs ih => exact ih (hf p a h)

theorem rd (h : UpKept l s t) {r : Nat} {d : PDesc} {i : Nat} (k : UpPlace l (d.key r i)) : t.rd r d i = s.rd r d i :=
  h.get.rd (not_not_intro k)

/-- A row of the protected blocks reads the same in the lane die. -/
theorem own_rd (h : UpKept l s t) {d : PDesc} (hd : d.block ∈ upBlocks) (i : Nat) : t.rd l.reg d i = s.rd l.reg d i := h.rd (.inl ⟨rfl, hd⟩)

theorem up (h : UpKept l s t) (part : t.part = s.part) : t.up l = s.up l := by
  simp only [State.up, State.on, State.hasRegion, State.rdB, part, h.own_rd (d := INT_POWERED) (by decide),
    h.own_rd (d := FAB_PHASE) (by decide), h.rd (.inr ⟨rfl, rfl⟩ : UpPlace l (BST_SCAN_REG.key 7 0))]

end UpKept

end Sys2Proof.Machine
end

section
/-! PROOFS. The fault collector of a power die and its region reset leave its lane die running. -/

namespace Sys2Proof.Machine

open Par Var

section
variable {l : LaneId} {s u : State}

/-! ### Faults of a power die -/

theorem State.openExpress_up (h : UpKept l u s) (n : Nat) : UpKept l u (s.openExpress l n) :=
  (((((h.row (by decide)).row (by decide)).row (by decide)).row (by decide)).row (by decide)).row (by decide)

theorem State.dropOwn_up (h : UpKept l u s) (b : Nat) : UpKept l u (s.dropOwn l b) := by
  have track : UpKept l u _ := ((h.modBridge l b fun x => { x with wOwn := 0, ramp := none, share := 0, iqRef := 0, hand := none, recon := false
    }).modBridge l b fun x => { x with obs := {}, closing := 0, placed := 0, hfi := [] }).modBridge l b fun x => { x with track := [] }
  have shown : UpKept l u _ := UpKept.row (r := l.reg) (d := OBS_TRACK) (i := b) (v := 0) track (by decide)
  exact State.openExpress_up (State.openExpress_up ((shown.row (by decide)).row (by decide)) _) _

theorem State.loseWinding_up (h : UpKept l u s) (b : Nat) : UpKept l u (s.loseWinding l b) := h.ite (h.row (by decide))

theorem State.fclAfterReset_up (h : UpKept l u s) (r : Nat) : UpKept l u (s.fclAfterReset r) := by
  have latched : UpKept l u (s.wr r FCL_ERR_STATUS 0 (s.rd r FCL_LATCHED)) := h.row (by decide)
  exact UpKept.of_params (UpKept.foldl (fun v i g => UpKept.ite g (g.clr (by decide))) _ latched) rfl

theorem State.dropLinks_up (h : UpKept l u s) (reg : Region) : UpKept l u (s.dropLinks reg) :=
  UpKept.foldl (fun _ _ g => g.row (by decide)) _ (h.of_params rfl)

theorem State.resetPower_up (h : UpKept l u s) : UpKept l u (s.resetPower l) := by
  unfold State.resetPower
  extract_lets held left gone held' emptied tested
  have left_up : UpKept l u left :=
    UpKept.foldl (fun _ b g => UpKept.ite (State.loseWinding_up (State.dropOwn_up (g.row (by decide)) b) b) g) _ h
  clear_value left
  have gone_up : UpKept l u gone := ⟨SameOff.filter (f := fun k => k.region != l.pow || keptAtReset k) left_up.get (fun k off => by
    have region : k.region = l.pow := by simp_all
    have := pow_ne_reg l l
    intro up
    cases l <;> simp_all [UpPlace, LaneId.pow, LaneId.reg]) rfl⟩
  have held_up : UpKept l u held' := UpKept.foldl (fun _ x g => UpKept.foldl (fun _ v g => g.pow _ _ _) _ g) _ gone_up
  have emptied_up : UpKept l u emptied := UpKept.foldl (fun _ b g => g.modBridge l b _) _ held_up
  have tested_up : UpKept l u tested := UpKept.ite
    ((emptied_up.row (by decide)).own (by decide)) emptied_up
  exact State.dropLinks_up (State.fclAfterReset_up tested_up _) _

theorem State.tell_up (h : UpKept l u s) (r src kind : Nat) : UpKept l u (s.tell r src kind) := by
  unfold State.tell
  split
  · exact UpKept.ite h (h.send _)
  · exact h.send _

theorem State.coreReact_up (h : UpKept l u s) (r src bits : Nat) : UpKept l u (s.coreReact r src bits) := by
  unfold State.coreReact
  split
  · exact h
  · exact UpKept.ite ((UpKept.ite ((h.row (by decide)).send _) h).row (by decide) |>.send _) (UpKept.ite ((h.row (by decide)).send _) h)

theorem State.regionReset_up (h : UpKept l u s) (src : Nat) (timeout : Bool) : UpKept l u (s.regionReset l.pow src timeout) := by
  have stamped : UpKept l u (s.stampReset l.pow src timeout) := h.pow _ _ _
  have own : laneOfReg l.pow = some l := by cases l <;> rfl
  simpa only [State.regionReset, kindOf_pow, own] using State.resetPower_up stamped

theorem State.blockReset_up (h : UpKept l u s) (blk : Nat) : UpKept l u (s.blockReset l.pow blk) := by
  have none : LaneId.ofReg l.pow = none := by cases l <;> rfl
  unfold State.blockReset
  extract_lets gone same masked
  have gone_up : UpKept l u gone := ⟨SameOff.filter
    (f := fun k => !(k.region == l.pow && (k.block == blk || k.block == 0x80 + blk)) || keptAtReset k) h.get (fun k off => by
      have region : k.region = l.pow := by simp_all
      cases l <;> simp_all [UpPlace, LaneId.pow, LaneId.reg]) rfl⟩
  have masked_up : UpKept l u masked := UpKept.pow (UpKept.pow (by simpa only [same, none] using gone_up) _ _ _) _ _ _
  exact UpKept.ite (masked_up.pow _ _ _) masked_up

theorem State.react_up (h : UpKept l u s) (src : Nat) : UpKept l u (s.react l.pow src) :=
  UpKept.ite h (UpKept.ite (State.regionReset_up (State.coreReact_up h _ _ _) _ _)
    (UpKept.ite (State.blockReset_up (State.coreReact_up h _ _ _) _) (State.coreReact_up h _ _ _)))

theorem State.updPin_up (h : UpKept l u s) (r : Nat) : UpKept l u (s.updPin r) :=
  UpKept.ite h (UpKept.ite (UpKept.ite (h.row (by decide)) ((h.row (by decide)).row (by decide))) (UpKept.ite h (h.row (by decide))))

theorem State.shadowNote_up (h : UpKept l u s) (r : Nat) : UpKept l u (s.shadowNote r) := by
  unfold State.shadowNote
  split
  · exact UpKept.ite (h.row (by decide)) h
  · exact h

theorem State.enterFault_up (h : UpKept l u s) (src : Nat) : UpKept l u (s.enterFault l.pow src) := by
  unfold State.enterFault
  extract_lets lim latch latched entered told
  have latched_up : UpKept l u latched := UpKept.ite (State.tell_up (h.pow _ _ _) _ _ _) h
  have entered_up : UpKept l u entered := (latched_up.pow _ _ _).pow _ _ _
  have first_up : UpKept l u (entered.stampFirst l.pow src) := UpKept.ite entered_up (entered_up.pow _ _ _)
  have told_up : UpKept l u told := State.shadowNote_up (State.tell_up first_up _ _ _) _
  exact State.updPin_up (State.react_up told_up _) _

theorem State.noteHit_pow (l : LaneId) (s : State) (src : Nat) : s.noteHit l.pow src = s := by cases l <;> rfl

theorem State.raise_up (h : UpKept l u s) (src : Nat) (held : Bool := false) : UpKept l u (s.raise l.pow src held) := by
  unfold State.raise
  split
  · exact h
  · extract_lets raw noted quiet
    have raw_up : UpKept l u raw := UpKept.ite (h.pow _ _ _) h
    have noted_up : UpKept l u noted := by
      simp only [noted, State.noteHit_pow]
      exact raw_up.pow _ _ _
    have quiet_up : UpKept l u quiet := noted_up.pow _ _ _
    exact UpKept.ite (raw_up.pow _ _ _) (UpKept.ite (raw_up.pow _ _ _) (UpKept.ite (noted_up.pow _ _ _)
      (UpKept.ite quiet_up (State.enterFault_up quiet_up _))))

theorem State.release_up (h : UpKept l u s) (src : Nat) : UpKept l u (s.release l.pow src) :=
  UpKept.ite ((h.pow _ _ _).pow _ _ _) h

end
end Sys2Proof.Machine
end

section
/-! PROOFS. The operations of a load point: what each writes. -/

namespace Sys2Proof.Machine

open Par Var

/-! ### Places of the gate drive and the converters -/

theorem swNum_lt {b k : Nat} (hb : b < 6) (hk : k < 6) : swNum b k < 256 := by unfold swNum; omega

theorem Touches.foldl_range {P : PKey → Prop} {s t : State} {f : State → Nat → State} (n : Nat)
    (hf : ∀ u k, k < n → Touches P s u → Touches P s (f u k)) (h : Touches P s t) : Touches P s ((List.range n).foldl f t) :=
  Touches.foldl_mem _ (fun u k hk => hf u k (List.mem_range.mp hk)) h

section
variable {l : LaneId} {b : Nat} {s u : State} {rows : List PDesc}

theorem State.noteFall_touches (h : TouchesRows rows l.pow u s) (hd : GDR_OFF_AT ∈ rows) (hb : b < 6) {k : Nat} (hk : k < 6) :
    TouchesRows rows l.pow u (s.noteFall l b k) :=
  Touches.ite (h.wr hd (swNum_lt hb hk)) (Touches.ite (h.wr hd (swNum_lt hb hk)) h)

theorem State.unblock_touches (h : TouchesRows rows l.pow u s) (hd : GDR_BLOCK ∈ rows) (hb : b < 6) :
    TouchesRows rows l.pow u (s.unblock l b) :=
  Touches.foldl_range 6 (fun _ _ hk g => TouchesRows.wr g hd (swNum_lt hb hk)) h

/-- The rows that the end of a bridge's commands writes. -/
def gatesOffRows : List PDesc := [GDR_OFF_AT, GDR_BLOCK, GDR_LOW_AT, GDR_GATES, GDR_PRE_ON, GDR_ZC_ON]

theorem State.commandsEnd_touches (h : TouchesRows rows l.pow u s) (sub : gatesOffRows ⊆ rows) (hb : b < 6) :
    TouchesRows rows l.pow u (s.commandsEnd l b) := by
  have fallen : TouchesRows rows l.pow u ((List.range 6).foldl (fun s k => s.noteFall l b k) s) :=
    Touches.foldl_range 6 (fun _ _ hk g => State.noteFall_touches g (sub (by simp [gatesOffRows])) hb hk) h
  exact (State.unblock_touches fallen (sub (by simp [gatesOffRows])) hb).wr (sub (by simp [gatesOffRows])) (by omega)

theorem State.gatesOff_touches (h : TouchesRows rows l.pow u s) (sub : gatesOffRows ⊆ rows) (hb : b < 6) :
    TouchesRows rows l.pow u (s.gatesOff l b) := by
  have ended := State.commandsEnd_touches h sub hb
  exact (((ended.wr (sub (by simp [gatesOffRows])) (by omega)).wr (sub (by simp [gatesOffRows])) (by omega)).wr (sub (by simp [gatesOffRows]))
    (by omega)).wr (sub (by simp [gatesOffRows])) (by omega)

/-- The rows that the samples and the calibration windows of a load point write. -/
def sampleRows : List PDesc := [ADC_RESULT, ADC_CNT_OVR, GDR_BOOT_READY, GDR_BOOT_LOW, ADC_HELD, ADC_CAL_AT]

theorem State.adcResults_touches (h : TouchesRows rows l.pow u s) (sub : sampleRows ⊆ rows) (x : BridgeSample) (hb : x.b < 6) :
    TouchesRows rows l.pow u (s.adcResults l x) := by
  refine Touches.foldl_mem _ (fun v p hp g => ?_) h
  have seven : p.2 < 7 := by have := List.snd_lt_of_mem_zipIdx hp; simpa [sampleCodes] using this
  have result := TouchesRows.wr (v := p.1) g (sub (by simp [sampleRows] : ADC_RESULT ∈ sampleRows)) (by omega : 7 * x.b + p.2 < 256)
  exact Touches.ite (result.wr (sub (by simp [sampleRows] : ADC_CNT_OVR ∈ sampleRows)) (by omega)) result

theorem State.bootState_touches (h : TouchesRows rows l.pow u s) (sub : sampleRows ⊆ rows) (x : BridgeSample) :
    TouchesRows rows l.pow u (s.bootState l x) :=
  Touches.foldl (fun _ _ g => TouchesRows.wr (TouchesRows.wr g (sub (by simp [sampleRows])) (by omega)) (sub (by simp [sampleRows])) (by omega)) _ h

theorem State.calWindows_touches (h : TouchesRows rows l.pow u s) (held : ADC_HELD ∈ rows) (cal : ADC_CAL_AT ∈ rows) (hb : b < 6) (t : Nat) :
    TouchesRows rows l.pow u (s.calWindows l b t) :=
  Touches.foldl_range 7 (fun _ _ hk g => Touches.ite g (Touches.ite g (TouchesRows.wr (TouchesRows.wr g held (by omega)) cal (by omega)))) h

theorem State.keepRises_touches (h : TouchesRows rows l.pow u s) (hd : GDR_RISE_AT ∈ rows) (hb : b < 6) (t : Nat) (p : Placing)
    (es : List SwitchEdge) : TouchesRows rows l.pow u (s.keepRises l b t p es) :=
  Touches.foldl_range 6 (fun _ _ hk g => Touches.ite (TouchesRows.wr (TouchesRows.wr g hd (swNum_lt hb hk)) hd (swNum_lt hb hk))
    (TouchesRows.wr g hd (swNum_lt hb hk))) h

theorem State.keepFalls_touches (h : TouchesRows rows l.pow u s) (hd : GDR_OFF_AT ∈ rows) (hb : b < 6) (t n : Nat) (old es : List SwitchEdge) :
    TouchesRows rows l.pow u (s.keepFalls l b t n old es) :=
  Touches.foldl_range 6 (fun _ _ hk g => Touches.ite g (TouchesRows.wr g hd (swNum_lt hb hk))) h

/-- The rows that a retry of tripped switches writes. -/
def retryRows : List PDesc := [GDR_SW, GDR_RISE_AT, GDR_CNT_BOOT_BLOCK, GDR_ACC]

theorem State.retryHigh_touches (h : TouchesRows rows l.pow u s) (sub : retryRows ⊆ rows) (hb : b < 6) {k : Nat} (hk : k < 6) (t : Nat) :
    TouchesRows rows l.pow u (s.retryHigh l b k t) :=
  Touches.ite (TouchesRows.wr (TouchesRows.wr h (sub (by simp [retryRows])) (by omega)) (sub (by simp [retryRows])) (by omega))
    (TouchesRows.wr (TouchesRows.wr h (sub (by simp [retryRows])) (swNum_lt hb hk)) (sub (by simp [retryRows])) (swNum_lt hb hk))

theorem State.retry_touches (h : TouchesRows rows l.pow u s) (sub : retryRows ⊆ rows) (hb : b < 6) (t : Nat) :
    TouchesRows rows l.pow u (s.retry l b t) :=
  Touches.ite h (Touches.foldl_range 6 (fun _ _ hk g => Touches.ite g (Touches.ite (State.retryHigh_touches g sub hb hk t)
    (Touches.ite (TouchesRows.wr g (sub (by simp [retryRows])) (swNum_lt hb hk)) g))) h)

end

/-! ### The lane die runs on -/

section
variable {l : LaneId} {s u : State}

theorem UpKept.of_touches {rows : List PDesc} {t : State} (h : TouchesRows rows l.pow s t) : UpKept l s t :=
  ⟨h.get.mono fun k place => by
    obtain ⟨region, -⟩ := place
    cases l <;> simp_all [UpPlace, LaneId.pow, LaneId.reg]⟩

theorem UpKept.trans {t : State} (h : UpKept l u s) (g : UpKept l s t) : UpKept l u t := ⟨h.get.trans g.get⟩

theorem State.interlockOne_up (h : UpKept l u s) (b ph n : Nat) (p : Placing) : UpKept l u (s.interlockOne l b ph n p).1 := by
  unfold State.interlockOne
  split
  · exact h
  · exact State.raise_up (((UpKept.ite (h.pow _ _ _) h).pow _ _ _).pow _ _ _) _

theorem State.interlock_up (h : UpKept l u s) (b n : Nat) (p : Placing) : UpKept l u (s.interlock l b n p).1 :=
  UpKept.foldlFst (fun _ ph g => State.interlockOne_up g b ph n _) _ (UpKept.foldl (fun _ _ g => g.pow _ _ _) _ h)

theorem State.bootBlock_up (h : UpKept l u s) (b : Nat) (p : Placing) : UpKept l u (s.bootBlock l b p).1 :=
  UpKept.foldl (fun _ _ g => UpKept.pow (UpKept.pow g _ _ _) _ _ _) _ h

theorem State.floorOne_up (h : UpKept l u s) (b : Nat) (p : Placing) (e : SwitchEdge) : UpKept l u (s.floorOne l b p e).1 := by
  unfold State.floorOne
  extract_lets f
  split
  · exact h
  · split
    · exact State.raise_up (h.pow _ _ _) _
    · exact h

theorem State.floors_up (h : UpKept l u s) (b : Nat) (p : Placing) : UpKept l u (s.floors l b p).1 :=
  UpKept.foldlFst (f := fun a e => ((a.1.floorOne l b p e).1, a.2 ++ (a.1.floorOne l b p e).2)) (fun _ e g => State.floorOne_up g b p e) _ h

theorem State.placeDuty_up (h : UpKept l u s) {b : Nat} (hb : b < 6) (t : Nat) : UpKept l u (s.placeDuty l b t) := by
  unfold State.placeDuty
  extract_lets n old p i q r placed kept
  have r_up : UpKept l u r.1 := State.floors_up (State.bootBlock_up (State.interlock_up h b n p) b i.2) b q.2
  have rises : TouchesRows [GDR_RISE_AT, GDR_OFF_AT] l.pow r.1 (r.1.keepRises l b t p r.2) :=
    State.keepRises_touches (.refl _ _) (by simp) hb t p r.2
  have placed_up : UpKept l u placed := r_up.trans (.of_touches (State.keepFalls_touches rises (by simp) hb t n old r.2))
  exact ((placed_up.modBridge l b _).pow _ _ _).pow _ _ _

theorem State.gatesOff_up (h : UpKept l u s) {b : Nat} (hb : b < 6) : UpKept l u (s.gatesOff l b) :=
  h.trans (.of_touches (State.gatesOff_touches (rows := gatesOffRows) (.refl _ _) (List.Subset.refl _) hb))

theorem State.loadDuty_up (h : UpKept l u s) {b : Nat} (hb : b < 6) (t : Nat) : UpKept l u (s.loadDuty l b t) := by
  have placed := State.placeDuty_up (((h.pow GDR_DUTY_GOT b 0).pow GDR_DUTY_MISS b 0).pow GDR_MISSING b 0) hb t
  have missed := h.pow GDR_DUTY_MISS b (s.rd l.pow GDR_DUTY_MISS b + 1)
  exact UpKept.ite (UpKept.ite placed (placed.pow _ _ _))
    (UpKept.ite (((State.gatesOff_up missed hb).pow _ _ _).pow _ _ _) (State.placeDuty_up missed hb t))

theorem State.sendStatus_up (h : UpKept l u s) (b : Nat) : UpKept l u (s.sendStatus l b) := by
  have released := UpKept.ite (c := (s.rdB l.pow GDR_VGD_UNDER && !s.vgdUnder l) = true) (State.release_up (h.pow GDR_VGD_UNDER 0 0) 5) h
  have sources : UpKept l u (s.statusSources l b) := UpKept.ite (State.raise_up (released.pow _ _ _) _) released
  have sent : UpKept l u (((s.statusSources l b).wr l.pow GDR_STATUS b ((s.statusSources l b).statusWord l b)).wr l.pow GDR_ACC b 0) :=
    (sources.pow _ _ _).pow _ _ _
  exact UpKept.ite (sent.row (by decide)) sent

theorem State.latchBridge_up (h : UpKept l u s) {b : Nat} (hb : b < 6) (k : Nat) : UpKept l u (s.latchBridge l b k) := by
  have off := State.gatesOff_up (h.pow GDR_LATCH_ON b (s.onMask l b s.now)) hb
  exact State.raise_up (((UpKept.ite (off.row (by decide)) off).pow _ _ _).pow _ _ _) _ _

theorem State.cmpOne_up (h : UpKept l u s) {b : Nat} (hb : b < 6) (i : Nat) : UpKept l u (s.cmpOne l b i) := by
  have failed : UpKept l u (s.cmpPut l b i 2) := h.pow _ _ _
  exact UpKept.ite h (UpKept.ite (State.raise_up (UpKept.ite failed (State.latchBridge_up failed hb _)) _) (h.pow _ _ _))

theorem State.cmpEnd_up (h : UpKept l u s) (b n : Nat) : UpKept l u (s.cmpEnd l b n) := by
  unfold State.cmpEnd
  extract_lets left judged m ended
  have judged_up : UpKept l u judged := (UpKept.foldl (fun _ _ g => UpKept.pow g _ _ _) left h).pow _ _ _
  have ended_up : UpKept l u ended := judged_up.own (by decide)
  exact UpKept.ite h (UpKept.ite (ended_up.row (by decide)) ended_up)

theorem State.cmpPeriod_up (h : UpKept l u s) {b : Nat} (hb : b < 6) (valley : Bool) : UpKept l u (s.cmpPeriod l b valley) := by
  have tested := UpKept.foldl (f := fun s i => s.cmpOne l b i) (fun _ i g => State.cmpOne_up g hb i)
    (cmpSet (s.rd l.pow GDR_CMP_N b + b2n valley)) (h.pow GDR_CMP_N b (s.rd l.pow GDR_CMP_N b + b2n valley))
  exact UpKept.ite h (UpKept.ite tested (State.cmpEnd_up tested _ _))

theorem State.loadPoint_up (h : UpKept l u s) (x : BridgeSample) (valley : Bool) (t : Nat) : UpKept l u (s.loadPoint l x valley t) := by
  unfold State.loadPoint
  extract_lets y sampled loaded retried shown
  split
  · exact h
  · next off =>
    have hb : y.b < 6 := by omega
    have taken := State.adcResults_touches (l := l) (rows := sampleRows) (.refl _ s) (List.Subset.refl _) y hb
    have sampled_up : UpKept l u sampled := h.trans (.of_touches (State.calWindows_touches (State.bootState_touches taken
      (List.Subset.refl _) y) (by simp [sampleRows]) (by simp [sampleRows]) hb t))
    have loaded_up : UpKept l u loaded := UpKept.ite (State.loadDuty_up sampled_up hb t) (sampled_up.pow _ _ _)
    have retried_up : UpKept l u retried := loaded_up.trans (.of_touches (State.retry_touches (rows := retryRows) (.refl _ _) (List.Subset.refl _) hb t))
    have shown_up : UpKept l u shown := State.cmpPeriod_up (UpKept.ite (State.sendStatus_up retried_up _) retried_up) hb valley
    exact shown_up.modBridge l _ _

theorem State.trackSample_up (h : UpKept l u s) (x : BridgeSample) : UpKept l u (s.trackSample l x) := by
  unfold State.trackSample
  extract_lets y
  split
  · exact h
  · next off =>
    have taken := State.adcResults_touches (l := l) (rows := sampleRows) (.refl _ s) (List.Subset.refl _) y (by omega)
    exact (h.trans (.of_touches taken)).modBridge l _ _

/-- What the power die does at a load point leaves it as it was whether the lane die runs. -/
theorem State.powerPoints_up (h : UpKept l u s) (peak : Bool) (smp : List BridgeSample) (t : Nat) : UpKept l u (s.powerPoints l peak smp t) := by
  refine UpKept.ite h (UpKept.foldl (fun v x g => ?_) smp h)
  split
  · exact State.loadPoint_up g x _ t
  · exact UpKept.ite (State.trackSample_up g x) g

end
end Sys2Proof.Machine
end

section
/-! PROOFS. Load points, compute starts and duty messages. -/

namespace Sys2Proof.Machine

open Par Var

/-- Another row's places do not change. -/
theorem State.rd_wr_row (s : State) (r r' : Nat) {d d' : PDesc} {i i' : Nat} (v : Nat) (h : offRows [d] d' = true) (hi : i < 256)
    (hi' : i' < 256) : (s.wr r d i v).rd r' d' i' = s.rd r' d' i' := by
  rw [State.rd_wr, if_neg (PDesc.key_ne_of_row h hi' hi)]

/-- Rows written in a lane die but those by which it runs leave it running. -/
theorem TouchesRows.on {rows : List PDesc} {r : Nat} {s t : State} (h : TouchesRows rows r s t)
    (off : offRows rows INT_POWERED = true ∧ offRows rows FAB_PHASE = true ∧ offRows rows BST_SCAN_REG = true) (r' : Nat) : t.on r' = s.on r' := by
  obtain ⟨powered, phase, scan⟩ := off
  simp only [State.on, State.hasRegion, h.part, h.rdB powered r' (i := 0) (by decide), h.rd phase r' (i := 0) (by decide), h.rd scan 7 (i := 0) (by decide)]

theorem TouchesRows.up {rows : List PDesc} {r : Nat} {s t : State} (h : TouchesRows rows r s t)
    (off : offRows rows INT_POWERED = true ∧ offRows rows FAB_PHASE = true ∧ offRows rows BST_SCAN_REG = true) (l : LaneId) : t.up l = s.up l := by
  simp only [State.up, h.on off, h.rd off.2.1 l.reg (i := 0) (by decide)]

/-! ### The base period of a lane -/

/-- Every parameter of the maps reads the same in a region. -/
def MapsKept (r : Nat) (s u : State) : Prop := ∀ k : PKey, k.region = r → k.block < 0x80 → u.params.get k = s.params.get k

namespace MapsKept

variable {r : Nat} {l : LaneId} {s t u : State}

theorem refl (r : Nat) (s : State) : MapsKept r s s := fun _ _ _ => rfl

theorem wr (h : MapsKept r s t) (r' : Nat) {d : PDesc} (i v : Nat) (hd : 0x80 ≤ d.block) : MapsKept r s (t.wr r' d i v) := fun k hr hk => by
  rw [State.wr_get_ne _ (by rintro rfl; simp only [PDesc.key] at hk; omega), h k hr hk]

theorem of_params (h : MapsKept r s t) (e : u.params = t.params) : MapsKept r s u := fun k hr hk => by rw [e]; exact h k hr hk

theorem rd (h : MapsKept r s u) {d : PDesc} (hd : d.block < 0x80) (i : Nat) : u.rd r d i = s.rd r d i := h _ rfl hd

theorem rdB (h : MapsKept r s u) {d : PDesc} (hd : d.block < 0x80) (i : Nat) : u.rdB r d i = s.rdB r d i := by rw [State.rdB, h.rd hd, State.rdB]

theorem basePeriod (h : MapsKept l.reg s u) : u.basePeriod l = s.basePeriod l := by
  have cart (b : Nat) := h.rd (d := CMT_CART) (by decide) b
  have period (b : Nat) := h.rd (d := CMT_PWM_PERIOD) (by decide) b
  simp only [State.basePeriod, State.bridgeUsed, cart, period]
  rfl

theorem basesPerCycle (h : MapsKept l.reg s u) : u.basesPerCycle l = s.basesPerCycle l := by
  simp only [State.basesPerCycle, h.basePeriod, h.rd (d := TWL_CYCLE_LEN) (by decide)]

theorem baseRatio (h : MapsKept l.reg s u) (b : Nat) : u.baseRatio l b = s.baseRatio l b := by
  simp only [State.baseRatio, h.basePeriod, h.rd (d := CMT_PWM_PERIOD) (by decide)]

theorem basePeriodAt (h : MapsKept l.reg s u) (start : u.rd l.reg INT_CYCLE_START = s.rd l.reg INT_CYCLE_START) (t : Nat) :
    u.basePeriodAt l t = s.basePeriodAt l t := by
  simp only [State.basePeriodAt, h.basePeriod, h.basesPerCycle, start, h.rd (d := CMT_PWM_PHASE) (by decide)]

end MapsKept

/-! ### A base period begun -/

/-- The places that the begin of a base period writes. -/
def periodPlaces (l : LaneId) : List PKey :=
  [CMT_PEAK.key l.reg 0, INT_PERIOD.key l.reg 0, INT_VALLEY_AT.key l.reg 0, CEN_BP.key l.reg 0, VOT_VALLEY_CYC.key l.reg 0,
   VOT_VALLEY_DIG.key l.reg 0, TRC_N.key l.reg 0, TRC_DUE.key l.reg 0]

/-- The rows of these places. -/
def periodRows : List PDesc := [CMT_PEAK, INT_PERIOD, INT_VALLEY_AT, CEN_BP, VOT_VALLEY_CYC, VOT_VALLEY_DIG, TRC_N, TRC_DUE]

/-- What a valley notes of the base period it begins: values of the state before it. -/
def periodNotes (s : State) (l : LaneId) (t : Nat) : List (PKey × Nat) :=
  [(CEN_BP.key l.reg 0, s.basePeriodAt l t), (INT_VALLEY_AT.key l.reg 0, t), (INT_PERIOD.key l.reg 0, s.rd l.reg INT_PERIOD + 1),
   (VOT_VALLEY_DIG.key l.reg 0, s.rd l.reg VOT_DIGEST), (VOT_VALLEY_CYC.key l.reg 0, s.cycle l), (CMT_PEAK.key l.reg 0, 0)]

/-- A valley with these notes, its trace event still to come. -/
def State.notePeriod (s : State) (l : LaneId) (t : Nat) : State :=
  (((((s.wrB l.reg CMT_PEAK 0 false).wr l.reg VOT_VALLEY_CYC 0 (s.cycle l)).wr l.reg VOT_VALLEY_DIG 0 (s.rd l.reg VOT_DIGEST)).wr l.reg INT_PERIOD 0
    (s.rd l.reg INT_PERIOD + 1)).wr l.reg INT_VALLEY_AT 0 t).wr l.reg CEN_BP 0 (s.basePeriodAt l t)

theorem State.notePeriod_writes (s : State) (l : LaneId) (t : Nat) : Writes s (s.notePeriod l t) (periodNotes s l t) := by
  have peak : Writes s (s.wrB l.reg CMT_PEAK 0 false) [(CMT_PEAK.key l.reg 0, 0)] := (Writes.nil s).wr 0 (by simp)
  exact ((((peak.wr _ (by simp [PDesc.key, CMT_PEAK, VOT_VALLEY_CYC])).wr _ (by simp [PDesc.key, CMT_PEAK, VOT_VALLEY_CYC, VOT_VALLEY_DIG])).wr _
    (by simp [PDesc.key, CMT_PEAK, VOT_VALLEY_CYC, VOT_VALLEY_DIG, INT_PERIOD])).wr _
    (by simp [PDesc.key, CMT_PEAK, VOT_VALLEY_CYC, VOT_VALLEY_DIG, INT_PERIOD, INT_VALLEY_AT])).wr _
    (by simp [PDesc.key, CMT_PEAK, VOT_VALLEY_CYC, VOT_VALLEY_DIG, INT_PERIOD, INT_VALLEY_AT, CEN_BP])

theorem State.beginPeriod_eq (s : State) (l : LaneId) (t : Nat) :
    (s.wrB l.reg CMT_PEAK 0 false).beginPeriod l t = (s.notePeriod l t).trcEvent l 1 0 := by
  have maps (v w x : Nat) : MapsKept l.reg s (((s.wr l.reg CMT_PEAK 0 v).wr l.reg VOT_VALLEY_CYC 0 w).wr l.reg VOT_VALLEY_DIG 0 x) :=
    (((MapsKept.refl _ s).wr _ _ _ (by decide)).wr _ _ _ (by decide)).wr _ _ _ (by decide)
  unfold State.beginPeriod State.notePeriod State.wrB State.cycle b2n
  simp (disch := decide) only [State.rd_wr_row]
  rw [(maps _ _ _).basePeriodAt (by simp (disch := decide) only [State.rd_wr_row])]

theorem State.trcEvent_touches {P : PKey → Prop} {s u : State} {l : LaneId} (h : Touches P u s) (hn : P (TRC_N.key l.reg 0))
    (hd : P (TRC_DUE.key l.reg 0)) (source n : Nat) : Touches P u (s.trcEvent l source n) :=
  Touches.ite h (Touches.ite (h.wr hn) ((h.wr hn).wr hd))

theorem State.trcEvent_idle {s : State} {l : LaneId} (h : s.rd l.reg TRC_STATE = 0 ∨ s.rd l.reg TRC_STATE = 4) (source n : Nat) :
    s.trcEvent l source n = s := by
  unfold State.trcEvent
  rw [if_pos (by tauto)]

theorem State.trcEvent_maps {s u : State} {r : Nat} (h : MapsKept r s u) (l : LaneId) (source n : Nat) : MapsKept r s (u.trcEvent l source n) := by
  unfold State.trcEvent
  extract_lets p st k
  split
  · exact h
  · split
    · exact h.wr _ _ _ (by decide)
    · exact (h.wr _ _ _ (by decide)).wr _ _ _ (by decide)

/-- The state that a valley's begin leaves. -/
def State.begun (s : State) (l : LaneId) (t : Nat) : State := (s.notePeriod l t).trcEvent l 1 0

theorem State.begun_touches (s : State) (l : LaneId) (t : Nat) : Touches (· ∈ periodPlaces l) s (s.begun l t) := by
  obtain ⟨rest, -, same⟩ := s.notePeriod_writes l t
  have noted : Touches (· ∈ periodPlaces l) s (s.notePeriod l t) := ⟨fun k hk => same k fun m => hk (by
    simp only [periodNotes, List.map_cons, List.map_nil, List.mem_cons, List.not_mem_nil, or_false] at m
    simp only [periodPlaces, List.mem_cons, List.not_mem_nil, or_false]
    tauto), rest⟩
  exact State.trcEvent_touches noted (by simp [periodPlaces]) (by simp [periodPlaces]) 1 0

theorem State.begun_maps (s : State) (l : LaneId) (t r : Nat) : MapsKept r s (s.begun l t) :=
  State.trcEvent_maps ((((((MapsKept.refl r s).wr _ _ _ (by decide)).wr _ _ _ (by decide)).wr _ _ _ (by decide)).wr _ _ _ (by decide)).wr _ _ _
    (by decide) |>.wr _ _ _ (by decide)) l 1 0

theorem periodPlaces_row {l : LaneId} {k : PKey} (h : k ∈ periodPlaces l) :
    RowPlace periodRows l.reg k := by
  simp only [periodPlaces, List.mem_cons, List.not_mem_nil, or_false] at h
  rcases h with rfl | rfl | rfl | rfl | rfl | rfl | rfl | rfl <;> exact RowPlace.key (by simp [periodRows]) _ (by decide)

/-- The notes of a valley stand after its trace event. -/
theorem State.begun_reads (s : State) (l : LaneId) (t : Nat) : Reads (s.begun l t) (periodNotes s l t) := by
  obtain ⟨-, reads, -⟩ := s.notePeriod_writes l t
  have traced : TouchesRows [TRC_N, TRC_DUE] l.reg (s.notePeriod l t) (s.begun l t) :=
    State.trcEvent_touches (.refl _ _) (RowPlace.key (by simp) _ (by decide)) (RowPlace.key (by simp) _ (by decide)) 1 0
  intro w hw
  rw [← reads w hw]
  simp only [periodNotes, List.mem_cons, List.not_mem_nil, or_false] at hw
  rcases hw with rfl | rfl | rfl | rfl | rfl | rfl <;> exact traced.get _ (not_rowPlace (by decide) _ _ (by decide))

/-! ### A valley for FBI -/

theorem foldl_fixed_mem {α : Type} {f : State → α → State} {s : State} (xs : List α) (h : ∀ a ∈ xs, f s a = s) : xs.foldl f s = s := by
  induction xs with
  | nil => rfl
  | cons a xs ih => rw [List.foldl_cons, h a (by simp), ih fun b hb => h b (by simp [hb])]

theorem State.fbiValley_off {s : State} {l : LaneId} (h : ∀ ch, ch < 8 → s.fmode l ch = 0) (t : Nat) : s.fbiValley l [] t = s := by
  have missing : [0, 1, 2, 3].foldl (fun s ch => if ([] : List SinCos).any (fun p => p.ch == ch) then s else s.scMissing l ch) s = s :=
    foldl_fixed_mem _ fun ch hch => by
      have off := h ch (by simp at hch; omega)
      simp [State.scMissing, off]
  have latched : (List.range 8).foldl (fun s ch => (s.latchCh l ch t).ssiValley l ch t) s = s := foldl_fixed_mem _ fun ch hch => by
    have off := h ch (List.mem_range.mp hch)
    simp [State.latchCh, State.ssiValley, off]
  simp only [State.fbiValley, List.foldl_nil, missing, latched]

/-! ### The parts of a base valley or peak -/

theorem State.powerPoints_off {s : State} {l : LaneId} (h : s.on l.pow = false) (peak : Bool) (smp : List BridgeSample) (t : Nat) :
    s.powerPoints l peak smp t = s := by simp [State.powerPoints, h]

theorem State.powerPoints_nil (s : State) (l : LaneId) (peak : Bool) (t : Nat) : s.powerPoints l peak [] t = s := by
  unfold State.powerPoints
  split <;> rfl

/-- A valley of a lane die that runs: its base period begun, the power die's load points, FBI. -/
theorem State.loadPoints_valley {s : State} {l : LaneId} (up : s.up l = true) (smp : List BridgeSample) (sc : List SinCos) (t : Nat) :
    s.loadPoints l false smp sc t =
      (((s.begun l t).dropOld l).powerPoints l false smp t).whenUp l (fun s => s.fbiValley l (if s.on l.pow then sc else []) t) := by
  simp only [State.loadPoints, State.whenUp_up up, State.beginPeriod_eq, State.begun, Bool.false_eq_true, if_false]

theorem State.loadPoints_peak {s : State} {l : LaneId} (up : s.up l = true) (smp : List BridgeSample) (sc : List SinCos) (t : Nat) :
    s.loadPoints l true smp sc t = (s.wrB l.reg CMT_PEAK 0 true).powerPoints l true smp t := by
  simp only [State.loadPoints, State.whenUp_up up, if_true]
  exact ite_self _

theorem State.loadPoints_down {s : State} {l : LaneId} (down : s.up l = false) (peak : Bool) (smp : List BridgeSample) (sc : List SinCos) (t : Nat) :
    s.loadPoints l peak smp sc t = s.powerPoints l peak smp t := by
  have down' : (s.powerPoints l peak smp t).up l = false := by
    rw [← down]
    exact (State.powerPoints_up ⟨fun _ _ => rfl⟩ peak smp t).up (State.powerPoints_keeps _ _ _ _ _ (.refl s)).part
  simp only [State.loadPoints, State.whenUp_down down, State.whenUp_down down']

@[simp] theorem State.dropOld_params (s : State) (l : LaneId) : (s.dropOld l).params = s.params := by simp [State.dropOld]

/-- The begin of a base period leaves running what runs. -/
theorem State.begun_on (s : State) (l : LaneId) (t r : Nat) : (s.begun l t).on r = s.on r :=
  TouchesRows.on ((s.begun_touches l t).mono fun _ => periodPlaces_row) (by decide) r

theorem State.begun_up (s : State) (l : LaneId) (t : Nat) (x : LaneId) : (s.begun l t).up x = s.up x :=
  TouchesRows.up ((s.begun_touches l t).mono fun _ => periodPlaces_row) (by decide) x

/-! ### What PWM_VALLEY, DUTY_RECEIVE and COMPUTE_START do -/

theorem peak_runs {l : LaneId} {s : State} (up : s.up l = true) (off : s.on l.pow = false) (smp : List BridgeSample) (sc : List SinCos) (t0 : Nat) :
    Runs (.pwmValley l true smp sc t0) s (fun t => SameButAt t0 s t [CMT_PEAK.key l.reg 0] ∧ t.rd l.reg CMT_PEAK = 1) := by
  refine ⟨(s.atTime t0).wrB l.reg CMT_PEAK 0 true, ?_, State.sameBut_wr _ _ _ _ _, ?_⟩
  · have off' : ((s.atTime t0).wrB l.reg CMT_PEAK 0 true).on l.pow = false := by
      rw [← off]
      exact TouchesRows.on (rows := [CMT_PEAK]) ((Touches.refl _ _).wr (RowPlace.key (by simp) l.reg (by decide))) (by decide) _
    exact congrArg Host.Outcome.next ((State.loadPoints_peak (s := s.atTime t0) up smp sc t0).trans (State.powerPoints_off off' true smp t0))
  · exact State.rd_wr_of_lt (by rw [widthOf_var (by decide)]; decide)

theorem valley_runs {l : LaneId} {s : State} (up : s.up l = true) (modes : ∀ ch, ch < 8 → s.fmode l ch = 0) (t0 : Nat) :
    Runs (.pwmValley l false [] [] t0) s (fun t => t = ((s.atTime t0).begun l t0).dropOld l) := by
  refine ⟨_, congrArg Host.Outcome.next ?_, rfl⟩
  have up' : (((s.atTime t0).begun l t0).dropOld l).up l = true := by
    rw [← up, ← State.up_atTime s t0, ← State.begun_up (s.atTime t0) l t0]
    simp [State.up, State.on, State.hasRegion, State.rdB, State.rd, State.dropOld]
  have modes' : ∀ ch, ch < 8 → (((s.atTime t0).begun l t0).dropOld l).fmode l ch = 0 := fun ch hch => by
    rw [← modes ch hch]
    exact (((s.atTime t0).begun_maps l t0 l.reg).of_params (State.dropOld_params _ l)).rd (by decide) ch
  rw [State.loadPoints_valley (s := s.atTime t0) up, State.powerPoints_nil, State.whenUp_up up', ite_self, State.fbiValley_off modes']

/-- What the begin of a base period leaves. -/
theorem begun_notes (s : State) (l : LaneId) (t0 : Nat) {t : State} (h : t = (s.begun l t0).dropOld l) :
    t.rd l.reg CMT_PEAK = 0 ∧ t.rd l.reg INT_PERIOD = (s.rd l.reg INT_PERIOD + 1) % 2 ^ 64 ∧
      t.rd l.reg VOT_VALLEY_CYC = s.cycle l % 2 ^ 64 ∧ t.rd l.reg VOT_VALLEY_DIG = s.rd l.reg VOT_DIGEST % 2 ^ 64 ∧
      t.rd l.reg INT_VALLEY_AT = t0 % 2 ^ 64 ∧ t.rd l.reg CEN_BP = s.basePeriodAt l t0 % 2 ^ 64 := by
  have noted {d : PDesc} {v : Nat} (var : 0x80 ≤ d.block) (m : (d.key l.reg 0, v) ∈ periodNotes s l t0) : t.rd l.reg d = v % 2 ^ 64 := by
    have read := s.begun_reads l t0 _ m
    rw [widthOf_var var] at read
    rw [h, State.rd, State.dropOld_params, read]
  exact ⟨noted (v := 0) (by decide) (by simp [periodNotes]), noted (by decide) (by simp [periodNotes]), noted (by decide) (by simp [periodNotes]),
    noted (by decide) (by simp [periodNotes]), noted (by decide) (by simp [periodNotes]), noted (by decide) (by simp [periodNotes])⟩

/-- A trace that does not sample notes nothing of a valley. -/
theorem begun_trace_idle {s : State} {l : LaneId} (idle : s.rd l.reg TRC_STATE = 0 ∨ s.rd l.reg TRC_STATE = 4) (t0 : Nat) {t : State}
    (h : t = (s.begun l t0).dropOld l) : t.rd l.reg TRC_N = s.rd l.reg TRC_N ∧ t.rd l.reg TRC_DUE = s.rd l.reg TRC_DUE := by
  have maps : MapsKept l.reg s (s.notePeriod l t0) :=
    ((((((MapsKept.refl _ s).wr _ _ _ (by decide)).wr _ _ _ (by decide)).wr _ _ _ (by decide)).wr _ _ _ (by decide)).wr _ _ _
      (by decide)).wr _ _ _ (by decide)
  have idle' : s.begun l t0 = s.notePeriod l t0 := State.trcEvent_idle (by rwa [maps.rd (by decide)]) 1 0
  obtain ⟨-, -, same⟩ := s.notePeriod_writes l t0
  have kept {d : PDesc} (off : offRows [CEN_BP, INT_VALLEY_AT, INT_PERIOD, VOT_VALLEY_DIG, VOT_VALLEY_CYC, CMT_PEAK] d = true) :
      t.rd l.reg d = s.rd l.reg d := by
    rw [h, State.rd, State.dropOld_params, idle']
    refine same _ fun m => not_rowPlace off l.reg l.reg (i := 0) (by decide) ?_
    simp only [periodNotes, List.map_cons, List.map_nil, List.mem_cons, List.not_mem_nil, or_false] at m
    rcases m with m | m | m | m | m | m <;> rw [m] <;> exact RowPlace.key (by simp) _ (by decide)
  exact ⟨kept (by decide), kept (by decide)⟩

theorem powerOnly_runs {l : LaneId} {s : State} (down : s.up l = false) (peak : Bool) (smp : List BridgeSample) (sc : List SinCos) (t0 : Nat) :
    Runs (.pwmValley l peak smp sc t0) s (fun t => t = (s.atTime t0).powerPoints l peak smp t0) :=
  ⟨_, congrArg Host.Outcome.next (State.loadPoints_down (s := s.atTime t0) down peak smp sc t0), rfl⟩

theorem dutyReceive_runs {l : LaneId} {b : Nat} {s : State} (on : s.on l.pow = true) (hb : b < 6) (es : List SwitchEdge) :
    Runs (.dutyReceive l b es) s (fun t => t = (s.modBridge l b (fun x => { x with next := es })).wr l.pow GDR_DUTY_GOT b 1) :=
  ⟨_, congrArg Host.Outcome.next (if_pos ⟨on, hb⟩), rfl⟩

theorem computeStart_runs {l : LaneId} {s : State} (up : s.up l = true) (t0 : Nat) : Runs (.computeStart l t0) s (fun t =>
    (s.rdB l.reg CMT_PEAK = true → t = ((s.atTime t0).wr l.reg INT_COMP_AT 0 t0).driveCompute l true) ∧
    (s.rdB l.reg CMT_PEAK = false → t = ((s.atTime t0).wr l.reg INT_COMP_AT 0 t0).computeBase l)) := by
  refine ⟨_, congrArg Host.Outcome.next (State.whenUp_up (s := s.atTime t0) up), ?_⟩
  have peak : ((s.atTime t0).wr l.reg INT_COMP_AT 0 t0).rdB l.reg CMT_PEAK = s.rdB l.reg CMT_PEAK :=
    congrArg (· != 0) (State.rd_wr_row (s.atTime t0) _ _ _ (by decide) (by decide) (by decide))
  simp only [peak]
  exact ⟨fun h => if_pos h, fun h => by simp [h]⟩

end Sys2Proof.Machine
end

section
/-! PROOFS. A load point of a bridge: the places and the bridges' records it leaves, its edges, its status word. -/

namespace Sys2Proof.Machine

open Par Var

/-- Whether a source orders a reset is of its reactions and the voting states. -/
theorem NoReset.congr {s t : State} {r src : Nat} (n : NoReset s r src) (react : t.rd r FCL_REACT src = s.rd r FCL_REACT src)
    (state : ∀ l, t.vstate l = s.vstate l) : NoReset t r src := by
  have quiet : t.quietLane r = s.quietLane r := by
    unfold State.quietLane
    cases laneOfReg r with
    | none => rfl
    | some l => exact congrArg (fun v => decide (v ≥ 3)) (state l)
  rwa [NoReset, react, quiet]

/-! ### Frames that keep the bridges' records -/

/-- A place of some rows, in any region. -/
def AnyRow (rows : List PDesc) (k : PKey) : Prop := ∃ d ∈ rows, d.block = k.block ∧ d.index = k.index

theorem not_anyRow {rows : List PDesc} {d : PDesc} (h : offRows rows d = true) (r : Nat) {i : Nat} (hi : i < 256) : ¬ AnyRow rows (d.key r i) :=
  fun any => not_rowPlace h r r hi ⟨rfl, any⟩

/-- Every place but those of `P`, and every bridge's record, reads the same. -/
structure GateFrame (P : PKey → Prop) (s t : State) : Prop where
  get : SameOff P s t
  bridges : ∀ l, (t.lane l).bridges = (s.lane l).bridges

namespace GateFrame

variable {P Q : PKey → Prop} {s t u : State}

theorem refl (P : PKey → Prop) (s : State) : GateFrame P s s := ⟨.refl P s, fun _ => rfl⟩

theorem trans (h : GateFrame P s t) (g : GateFrame P t u) : GateFrame P s u :=
  ⟨h.get.trans g.get, fun l => (g.bridges l).trans (h.bridges l)⟩

theorem mono (h : GateFrame P s t) (hp : ∀ k, P k → Q k) : GateFrame Q s t := ⟨h.get.mono hp, h.bridges⟩

theorem wr (h : GateFrame P s t) {r : Nat} {d : PDesc} {i v : Nat} (hp : P (d.key r i)) : GateFrame P s (t.wr r d i v) :=
  ⟨h.get.wr hp, fun l => by rw [State.wr_lane, h.bridges]⟩

theorem ite {c : Prop} [Decidable c] (h : GateFrame P s t) (g : GateFrame P s u) : GateFrame P s (if c then t else u) := by
  split <;> assumption

theorem foldl_mem {α : Type} {f : State → α → State} (xs : List α) (hf : ∀ u, ∀ a ∈ xs, GateFrame P s u → GateFrame P s (f u a))
    (h : GateFrame P s t) : GateFrame P s (xs.foldl f t) := by
  induction xs generalizing t with
  | nil => exact h
  | cons a xs ih => exact ih (fun u b hb => hf u b (List.mem_cons_of_mem _ hb)) (hf t a List.mem_cons_self h)

/-- A change of a lane's record that leaves its bridges. -/
theorem modLane (h : GateFrame P s t) (l : LaneId) {f : Lane → Lane} (hf : ∀ x, (f x).bridges = x.bridges) : GateFrame P s (t.modLane l f) := by
  refine ⟨h.get.of_params (by simp), fun x => ?_⟩
  by_cases e : x = l
  · rw [e, State.lane_modLane, hf, h.bridges]
  · rw [State.lane_modLane_ne _ _ e, h.bridges]

theorem of_touches (h : Touches P s t) : GateFrame P s t := ⟨h.get, fun l => by rw [h.lane]⟩

theorem of_faults (h : OnlyFaults s t) : GateFrame FaultPlace s t := ⟨h.get, fun l => by
  obtain ⟨q, e⟩ := h.lanes l
  rw [e]⟩

theorem bridge (h : GateFrame P s t) (l : LaneId) (b : Nat) : t.bridge l b = s.bridge l b := by rw [State.bridge, h.bridges, State.bridge]

theorem rd (h : GateFrame P s t) {r : Nat} {d : PDesc} {i : Nat} (hk : ¬ P (d.key r i)) : t.rd r d i = s.rd r d i := h.get _ hk

end GateFrame

/-! ### FBI leaves the power die alone -/

/-- A place of the lane die. -/
def OfLane (l : LaneId) (k : PKey) : Prop := k.region = l.reg

theorem State.latchCh_gate {s u : State} {l : LaneId} (h : GateFrame (OfLane l) u s) (ch t : Nat) : GateFrame (OfLane l) u (s.latchCh l ch t) :=
  GateFrame.ite h (((h.wr rfl).wr rfl).wr rfl)

theorem State.ssiValley_gate {s u : State} {l : LaneId} (h : GateFrame (OfLane l) u s) (ch t : Nat) :
    GateFrame (OfLane l) u (s.ssiValley l ch t) :=
  GateFrame.ite h (GateFrame.ite (h.modLane l fun _ => rfl) (h.modLane l fun _ => rfl))

theorem State.fbiValley_gate {s : State} {l : LaneId} (modes : ∀ ch, ch < 8 → s.fmode l ch ≠ 1) (t : Nat) :
    GateFrame (OfLane l) s (s.fbiValley l [] t) := by
  have missing : [0, 1, 2, 3].foldl (fun s ch => if ([] : List SinCos).any (fun p => p.ch == ch) then s else s.scMissing l ch) s = s :=
    foldl_fixed_mem _ fun ch hch => by
      have off := modes ch (by simp at hch; omega)
      simp [State.scMissing, off]
  simp only [State.fbiValley, List.foldl_nil, missing]
  exact GateFrame.foldl_mem _ (fun _ ch _ g => State.ssiValley_gate (State.latchCh_gate g ch t) ch t) (.refl _ s)

/-! ### The status word -/

/-- The rows that the status word of a bridge writes. -/
def statusRows : List PDesc := faultRows ++ [GDR_STATUS, GDR_ACC, GDR_VGD_UNDER, GDR_FLOOR_SEEN, CMT_LATCH_SEEN]

theorem AnyRow.key {rows : List PDesc} {d : PDesc} (h : d ∈ rows) (r : Nat) {i : Nat} (hi : i < 256) : AnyRow rows (d.key r i) :=
  (RowPlace.key h r hi).2

theorem FaultPlace.status {k : PKey} (h : FaultPlace k) : AnyRow statusRows k := by
  obtain ⟨d, hd, e⟩ := h
  exact ⟨d, List.mem_append_left _ hd, e⟩

theorem State.release_gate {rows : List PDesc} {s u : State} (h : GateFrame (AnyRow rows) u s) (sub : faultRows ⊆ rows) (r : Nat) {src : Nat}
    (hs : src < 256) : GateFrame (AnyRow rows) u (s.release r src) :=
  GateFrame.ite ((h.wr (AnyRow.key (sub (by simp [faultRows])) r (by decide))).wr (AnyRow.key (sub (by simp [faultRows])) r hs)) h

section
variable {l : LaneId} {b : Nat} {s : State}

theorem State.statusSources_gate (hb : b < 6) (floor : s.rd l.pow GDR_FLOOR_SEEN b = 0 ∨ NoReset s l.pow 1) :
    GateFrame (AnyRow statusRows) s (s.statusSources l b) := by
  unfold State.statusSources
  extract_lets released
  have released_gate : GateFrame (AnyRow (GDR_VGD_UNDER :: faultRows)) s released :=
    GateFrame.ite (State.release_gate ((GateFrame.refl _ s).wr (AnyRow.key (by simp) _ (by decide))) (by simp) _ (by decide)) (.refl _ s)
  have sub : ∀ k, AnyRow (GDR_VGD_UNDER :: faultRows) k → AnyRow statusRows k := fun k ⟨d, hd, e⟩ => ⟨d, by
    rcases List.mem_cons.mp hd with rfl | hd
    · simp [statusRows]
    · exact List.mem_append_left _ hd, e⟩
  split
  · next seen =>
    have noted := (released_gate.mono sub).wr (v := 0) (AnyRow.key (by simp [statusRows] : GDR_FLOOR_SEEN ∈ statusRows) l.pow (by omega : b < 256))
    have n : NoReset s l.pow 1 := floor.resolve_left fun unseen => by
      rw [← released_gate.rd (not_anyRow (by decide) l.pow (by omega : b < 256))] at unseen
      simp [State.rdB, unseen] at seen
    exact noted.trans ((GateFrame.of_faults (State.raise_faults _ _ _ _ (n.congr (noted.rd (not_anyRow (by decide) _ (by decide)))
      fun _ => noted.rd (not_anyRow (by decide) _ (by decide))))).mono fun _ => FaultPlace.status)
  · exact released_gate.mono sub

theorem State.sendStatus_gate (hb : b < 6) (floor : s.rd l.pow GDR_FLOOR_SEEN b = 0 ∨ NoReset s l.pow 1) :
    GateFrame (AnyRow statusRows) s (s.sendStatus l b) := by
  have sent := ((State.statusSources_gate hb floor).wr (v := (s.statusSources l b).statusWord l b) (AnyRow.key (by simp [statusRows] : GDR_STATUS ∈ statusRows) l.pow (by omega : b < 256))).wr (v := 0)
    (AnyRow.key (by simp [statusRows] : GDR_ACC ∈ statusRows) l.pow (by omega : b < 256))
  exact GateFrame.ite (sent.wr (AnyRow.key (by simp [statusRows]) _ (by omega))) sent

/-- The bit of the missing message in the status word (R221). -/
theorem State.statusWord_missing (missing : s.rdB l.pow GDR_MISSING b = true) : bit (s.statusWord l b % 2 ^ 16) 12 = true := by
  have flags (x y z : Bool) : (128 * b2n x + 1024 * b2n y + 2048 * b2n z + 4096 * b2n true).testBit 12 = true := by
    cases x <;> cases y <;> cases z <;> decide
  rw [bit, State.statusWord, missing, Nat.testBit_mod_two_pow, Nat.testBit_or, flags, Bool.or_true]
  rfl

/-- A missing message that stands shows in the status word that is sent. -/
theorem State.sendStatus_missing (hb : b < 6) (floor : s.rd l.pow GDR_FLOOR_SEEN b = 0 ∨ NoReset s l.pow 1)
    (missing : s.rd l.pow GDR_MISSING b = 1) : bit ((s.sendStatus l b).rd l.pow GDR_STATUS b) 12 = true := by
  have missing' : (s.statusSources l b).rdB l.pow GDR_MISSING b = true := by
    rw [State.rdB, (State.statusSources_gate hb floor).rd (not_anyRow (by decide) _ (by omega)), missing]
    rfl
  have width : widthOf (GDR_STATUS.key l.pow b) = 16 :=
    widthOf_key (by rw [kindOf_pow]; exact mapOk_power _ (by decide)) (by rw [kindOf_pow]; decide +kernel) (by
      have : GDR_STATUS.span = 1 := by decide
      omega)
  have shown : (s.sendStatus l b).rd l.pow GDR_STATUS b = (s.statusSources l b).statusWord l b % 2 ^ 16 := by
    unfold State.sendStatus
    extract_lets sources sent
    have word : sent.rd l.pow GDR_STATUS b = sources.statusWord l b % 2 ^ 16 := by
      rw [State.rd_wr_row _ _ _ _ (by decide) (by omega) (by omega), State.rd_wr_same, width]
    split
    · rw [State.rd_wr_region _ _ _ _ _ _ (pow_ne_reg l l), word]
    · exact word
  rw [shown, State.statusWord_missing missing']

end
end Sys2Proof.Machine
end

section
/-! PROOFS. The edges of a bridge at a load point. -/

namespace Sys2Proof.Machine

open Par Var

/-! ### Single bits -/

theorem bit_clrBit (v i j : Nat) : bit (clrBit v i) j = (bit v j && decide (j ≠ i)) := by
  unfold clrBit bit
  split
  · next set =>
    obtain ⟨q, r, hr, hv⟩ : ∃ q r, r < 2 ^ i ∧ v = 2 ^ i * (2 * q + 1) + r := by
      refine ⟨v / 2 ^ i / 2, v % 2 ^ i, Nat.mod_lt _ (Nat.two_pow_pos i), ?_⟩
      have odd : v / 2 ^ i % 2 = 1 := by simpa [Nat.testBit_eq_decide_div_mod_eq] using set
      rw [show 2 * (v / 2 ^ i / 2) + 1 = v / 2 ^ i by omega, Nat.div_add_mod]
    have less : v - 2 ^ i = 2 ^ i * (2 * q) + r := by rw [hv, Nat.mul_add]; omega
    rw [less, hv, Nat.testBit_two_pow_mul_add _ hr, Nat.testBit_two_pow_mul_add _ hr]
    rcases Nat.lt_trichotomy j i with lt | rfl | gt
    · simp [lt, Nat.ne_of_lt lt]
    · simp
    · obtain ⟨m, hm⟩ : ∃ m, j - i = m + 1 := ⟨j - i - 1, by omega⟩
      have ne : j ≠ i := by omega
      simp [Nat.not_lt.mpr (Nat.le_of_lt gt), hm, Nat.testBit_succ, ne]
      congr 1
      omega
  · next clear =>
    by_cases e : j = i
    · simp [e, clear]
    · simp [e]

theorem bit_putBit (v i j : Nat) (b : Bool) : bit (putBit v i b) j = if j = i then b else bit v j := by
  cases b
  · simp [putBit, bit_clrBit]
    by_cases e : j = i <;> simp [e]
  · by_cases e : j = i
    · simp [putBit, e, bit_setBit]
    · simp [putBit, setBit, bit, Nat.testBit_or, e, Ne.symm e]
/-! ### A bridge's record -/

theorem State.bridge_modBridge_same {s : State} {l : LaneId} {b : Nat} (hb : b < (s.lane l).bridges.length) (f : Bridge → Bridge) :
    (s.modBridge l b f).bridge l b = f (s.bridge l b) := by
  rw [State.bridge, State.modBridge, State.lane_modLane]
  simp [State.bridge, List.getD, hb]

theorem State.bridges_length_modBridge (s : State) (l : LaneId) (b : Nat) (f : Bridge → Bridge) :
    ((s.modBridge l b f).lane l).bridges.length = (s.lane l).bridges.length := by
  rw [State.modBridge, State.lane_modLane, List.length_set]

/-- Edges that act as received: no overlap in a phase, no turn-on before the floor or of a phase whose bootstrap voltage is low (R208 to
R211). -/
structure ActAsReceived (s : State) (l : LaneId) (b : Nat) (p : Placing) : Prop where
  floor : ∀ e ∈ p.es, p.rises e = true → p.floor e.sw e.on ≤ (e.on : Int)
  boot : ∀ e ∈ p.es, p.rises e = true → e.sw % 2 = 0 → bit (s.rd l.pow GDR_BOOT_LOW) (3 * b + e.sw / 2) = false
  clear : ∀ ph, ph < 3 → p.clash ph = none

section
variable {s : State} {l : LaneId} {b : Nat} {p : Placing}

theorem ActAsReceived.congr {u : State} (h : ActAsReceived s l b p) (low : u.rd l.pow GDR_BOOT_LOW = s.rd l.pow GDR_BOOT_LOW) :
    ActAsReceived u l b p := ⟨h.floor, by rw [low]; exact h.boot, h.clear⟩

/-- With no switch blocked and no overlap the interlock leaves the edges; it notes that no switch is blocked. -/
theorem ActAsReceived.interlock (h : ActAsReceived s l b p) (unblocked : ∀ e ∈ p.es, s.rd l.pow GDR_BLOCK (swNum b e.sw) = 0) (hb : b < 6)
    (n : Nat) : (s.interlock l b n p).2 = p ∧ TouchesRows [GDR_BLOCK] l.pow s (s.interlock l b n p).1 := by
  unfold State.interlock
  extract_lets held still on noted q
  have free (e : SwitchEdge) (he : e ∈ p.es) : held e = false := by simp [held, State.rdB, unblocked e he]
  have same : q = p := by
    have kept : p.es.filter (fun e => !held e) = p.es := List.filter_eq_self.mpr fun e he => by simp [free e he]
    simp only [q, kept]
  have pass (u : State) (ph : Nat) (hph : ph < 3) : u.interlockOne l b ph n p = (u, p) := by rw [State.interlockOne, h.clear ph hph]
  have noted_touches : TouchesRows [GDR_BLOCK] l.pow s noted :=
    Touches.foldl_range 6 (fun _ _ hk g => TouchesRows.wr g (by simp) (swNum_lt hb hk)) (.refl _ s)
  rw [same]
  simp only [List.foldl_cons, List.foldl_nil, pass _ 0 (by decide), pass _ 1 (by decide), pass _ 2 (by decide)]
  exact ⟨trivial, noted_touches⟩

theorem ActAsReceived.bootBlock (h : ActAsReceived s l b p) : s.bootBlock l b p = (s, p) := by
  have none (e : SwitchEdge) (he : e ∈ p.es) : (e.sw % 2 == 0 && p.rises e && bit (s.rd l.pow GDR_BOOT_LOW) (3 * b + e.sw / 2)) = false := by
    cases even : e.sw % 2 == 0
    · rfl
    · cases rises : p.rises e
      · rfl
      · simp [h.boot e he rises (eq_of_beq even)]
  have hit : p.es.filter (fun e => e.sw % 2 == 0 && p.rises e && bit (s.rd l.pow GDR_BOOT_LOW) (3 * b + e.sw / 2)) = [] :=
    List.filter_eq_nil_iff.mpr fun e he => by simp [none e he]
  have kept : p.es.filter (fun e => !(e.sw % 2 == 0 && p.rises e && bit (s.rd l.pow GDR_BOOT_LOW) (3 * b + e.sw / 2))) = p.es :=
    List.filter_eq_self.mpr fun e he => by simp [none e he]
  simp only [State.bootBlock, hit, kept, List.foldl_nil]

theorem ActAsReceived.floors (h : ActAsReceived s l b p) : s.floors l b p = (s, p.es) := by
  have one (e : SwitchEdge) (he : e ∈ p.es) : s.floorOne l b p e = (s, [e]) := by
    unfold State.floorOne
    extract_lets f
    cases rises : p.rises e
    · rfl
    · have := h.floor e he rises
      rw [if_neg (by simp), if_neg (by omega)]
  have all (es done : List SwitchEdge) (sub : ∀ e ∈ es, e ∈ p.es) : es.foldl (fun (a : State × List SwitchEdge) e =>
      ((a.1.floorOne l b p e).1, a.2 ++ (a.1.floorOne l b p e).2)) (s, done) = (s, done ++ es) := by
    induction es generalizing done with
    | nil => simp
    | cons e es ih =>
      rw [List.foldl_cons, one e (sub e (by simp)), ih _ fun x hx => sub x (by simp [hx])]
      simp
  exact (all p.es [] fun _ => id).trans (by simp)

/-- The rows that edges loaded as received write. -/
def loadRows : List PDesc := [GDR_BLOCK, GDR_RISE_AT, GDR_OFF_AT, GDR_LOAD_AT, GDR_LOW_AT]

/-- Edges that act as received are loaded as they are. -/
theorem State.placeDuty_received (hb : b < 6) (known : b < (s.lane l).bridges.length) (t : Nat)
    (hp : p = ⟨s.oldEdges l b (s.loadSteps l b), s.loadSteps l b, (s.bridge l b).next.flatMap (intervals (s.loadSteps l b))⟩)
    (act : ActAsReceived s l b p) (unblocked : ∀ e ∈ p.es, s.rd l.pow GDR_BLOCK (swNum b e.sw) = 0) :
    ((s.placeDuty l b t).bridge l b).cur = p.es ∧ SameOff (RowPlace loadRows l.pow) s (s.placeDuty l b t) ∧
      ((s.placeDuty l b t).lane l).bridges.length = (s.lane l).bridges.length := by
  unfold State.placeDuty
  extract_lets n old q i boot fl placed kept
  have hq : q = p := hp.symm
  obtain ⟨same, interlocked⟩ := act.interlock unblocked hb n
  have act' : ActAsReceived i.1 l b p := act.congr (by
    simp only [i, hq]
    exact interlocked.rd (by decide) _ (by decide))
  have boot_eq : boot = (i.1, p) := by
    have same' : i.2 = p := by simp only [i, hq, same]
    simp only [boot, same']
    exact act'.bootBlock
  have fl_eq : fl = (i.1, p.es) := by simp only [fl, boot_eq, act'.floors]
  have placed_touches : TouchesRows loadRows l.pow s placed := by
    have load : TouchesRows loadRows l.pow s fl.1 := by
      rw [fl_eq]
      simpa only [i, hq] using interlocked.mono (by simp [loadRows])
    exact State.keepFalls_touches (State.keepRises_touches load (by simp [loadRows]) hb t q fl.2) (by simp [loadRows]) hb t n old fl.2
  have known' : b < (placed.lane l).bridges.length := by rwa [placed_touches.lane]
  have off {k : PKey} (hk : ¬ RowPlace loadRows l.pow k) : kept.params.get k = s.params.get k := by
    simp only [kept, State.modBridge_params]
    exact placed_touches.get k hk
  refine ⟨?_, ?_, ?_⟩
  · rw [State.bridge, State.wr_lane, State.wr_lane, ← State.bridge, State.bridge_modBridge_same known']
    simp only [fl_eq]
  · exact SameOff.wr (SameOff.wr (fun k hk => off hk) (RowPlace.key (by simp [loadRows]) _ (by omega))) (RowPlace.key (by simp [loadRows]) _ (by omega))
  · rw [State.wr_lane, State.wr_lane, State.bridges_length_modBridge, placed_touches.lane]

/-- With no switch tripped nothing is retried. -/
theorem State.retry_untripped (off : ∀ k, k < 6 → s.rd l.pow GDR_SW (swNum b k) = 0) (t : Nat) : s.retry l b t = s := by
  have none : (List.range 6).foldl (fun s k =>
      if s.rd l.pow GDR_SW (swNum b k) ≠ 3 then s
      else if s.cmdHigh l b k t ∧ s.lastRise l b k t ≤ s.rd l.pow GDR_TRIP_AT (swNum b k) then s.retryHigh l b k t
      else if s.freed l b k t then s.wr l.pow GDR_SW (swNum b k) 0 else s) s = s :=
    foldl_fixed_mem _ fun k hk => by rw [off k (List.mem_range.mp hk), if_pos (by decide)]
  simp only [State.retry, none, ite_self]

/-- The bootstrap voltage of a phase as its samples give it (R211). -/
theorem State.bootState_low (x : BridgeSample) (hb : x.b < 6) {ph : Nat} (hph : ph < 3) :
    bit ((s.bootState l x).rd l.pow GDR_BOOT_LOW) (3 * x.b + ph) = x.bootLow.testBit ph := by
  have one (u : State) (r : Bool) (k : Nat) (hk : k < 3) : bit (((u.wrBit l.pow GDR_BOOT_READY 0 (3 * x.b + k) r).wrBit l.pow GDR_BOOT_LOW 0 (3 * x.b + k)
      (x.bootLow.testBit k)).rd l.pow GDR_BOOT_LOW) (3 * x.b + ph) = if ph = k then x.bootLow.testBit k else bit (u.rd l.pow GDR_BOOT_LOW) (3 * x.b + ph) := by
    rw [State.wrBit, State.rd_wr_same, widthOf_var (by decide), bit_mod (by omega), bit_putBit, State.wrBit,
      State.rd_wr_row _ _ _ _ (by decide) (by decide) (by decide)]
    simp only [Nat.add_left_cancel_iff]
  simp only [State.bootState, List.foldl_cons, List.foldl_nil, one _ _ 0 (by decide), one _ _ 1 (by decide), one _ _ 2 (by decide)]
  interval_cases ph <;> rfl

end

end Sys2Proof.Machine
end

section
/-! PROOFS. A load point of a bridge in RUN at its own valley. -/

namespace Sys2Proof.Machine

open Par Var

/-- The rows of the power die that a load point of a bridge in RUN writes before its status word. -/
def pointRows : List PDesc := sampleRows ++ loadRows ++ gatesOffRows ++ retryRows ++ [GDR_DUTY_GOT, GDR_DUTY_MISS, GDR_MISSING]

/-- The samples of a bridge taken at a load point. -/
def State.sampled (v : State) (l : LaneId) (x : BridgeSample) (t : Nat) : State :=
  ((v.adcResults l (v.brokenCores l x)).bootState l (v.brokenCores l x)).calWindows l x.b t

section
variable {v u : State} {l : LaneId} {x : BridgeSample} {t : Nat}

theorem State.sampled_touches (hb : x.b < 6) : TouchesRows sampleRows l.pow v (v.sampled l x t) :=
  State.calWindows_touches (State.bootState_touches (State.adcResults_touches (.refl _ v) (List.Subset.refl _) (v.brokenCores l x) hb)
    (List.Subset.refl _) _) (by simp [sampleRows]) (by simp [sampleRows]) hb t

theorem State.sampled_low (hb : x.b < 6) {ph : Nat} (hph : ph < 3) :
    bit ((v.sampled l x t).rd l.pow GDR_BOOT_LOW) (3 * x.b + ph) = x.bootLow.testBit ph := by
  have kept : TouchesRows [ADC_HELD, ADC_CAL_AT] l.pow _ (v.sampled l x t) :=
    State.calWindows_touches (.refl _ _) (by simp) (by simp) hb t
  rw [kept.rd (by decide) _ (by decide)]
  exact State.bootState_low (v.brokenCores l x) hb hph

theorem State.loadPoint_eq (valley : Bool) : v.loadPoint l x valley t =
    if x.b ≥ 6 then v
    else ((if valley then ((if (v.sampled l x t).rd l.reg CMT_STATE x.b = 2 then (v.sampled l x t).loadDuty l x.b t
        else (v.sampled l x t).wr l.pow GDR_LOAD_AT x.b t).retry l x.b t).sendStatus l x.b
      else (if (v.sampled l x t).rd l.reg CMT_STATE x.b = 2 then (v.sampled l x t).loadDuty l x.b t
        else (v.sampled l x t).wr l.pow GDR_LOAD_AT x.b t).retry l x.b t).cmpPeriod l x.b valley).modBridge l x.b
          (fun y => { y with smp := some (v.brokenCores l x), mid := !valley }) := rfl

/-- A load point of a bridge in RUN, outside the comparator test, at its valley: samples, edges, retries, then the status word and the
samples sent. -/
theorem State.loadPoint_run (hb : x.b < 6) (run : v.rd l.reg CMT_STATE x.b = 2) (untested : v.rd l.reg BST_STATE ≠ 2)
    (floor : v.rd l.pow GDR_FLOOR_SEEN x.b = 0 ∨ NoReset v l.pow 1) (known : x.b < (u.lane l).bridges.length)
    (hu : ((v.sampled l x t).loadDuty l x.b t).retry l x.b t = u) (frame : SameOff (RowPlace pointRows l.pow) v u) :
    SameOff (AnyRow statusRows) u (v.loadPoint l x true t) ∧
      (v.loadPoint l x true t).bridge l x.b = { u.bridge l x.b with smp := some (v.brokenCores l x), mid := false } ∧
      (u.rd l.pow GDR_MISSING x.b = 1 → bit ((v.loadPoint l x true t).rd l.pow GDR_STATUS x.b) 12 = true) := by
  have floor' : u.rd l.pow GDR_FLOOR_SEEN x.b = 0 ∨ NoReset u l.pow 1 := by
    rw [frame.rd (not_rowPlace (by decide) _ _ (by omega))]
    exact floor.imp_right fun n => n.congr (frame.rd (not_rowPlace (by decide) _ _ (by decide)))
      fun l' => frame.rd (not_rowPlace_reg _ l l' _ _)
  have run' : (v.sampled l x t).rd l.reg CMT_STATE x.b = 2 := by
    rw [← run]
    exact Touches.rd (State.sampled_touches hb) (not_rowPlace_reg _ l l _ _)
  have sent := State.sendStatus_gate hb floor'
  have untested' : (u.sendStatus l x.b).rd l.reg BST_STATE ≠ 2 := by
    rwa [sent.rd (not_anyRow (by decide) _ (by decide)), frame.rd (not_rowPlace_reg _ l l _ _)]
  have point : v.loadPoint l x true t = (u.sendStatus l x.b).modBridge l x.b (fun y => { y with smp := some (v.brokenCores l x), mid := false }) := by
    have low : ¬ 6 ≤ x.b := by omega
    have idle : (u.sendStatus l x.b).cmpPeriod l x.b true = u.sendStatus l x.b := by
      unfold State.cmpPeriod
      rw [if_pos (.inl untested')]
    rw [State.loadPoint_eq, if_neg low, if_pos run', hu, if_pos rfl, idle]
    rfl
  have known' : x.b < ((u.sendStatus l x.b).lane l).bridges.length := by rwa [sent.bridges]
  refine ⟨?_, ?_, fun missing => ?_⟩
  · rw [point]
    exact sent.get.of_params (by simp)
  · rw [point, State.bridge_modBridge_same known', sent.bridge]
  · rw [point, State.modBridge_rd]
    exact State.sendStatus_missing hb floor' missing

end
end Sys2Proof.Machine
end

section
/-! PROOFS. The load points of a bridge in RUN: edges that act as received, a missing message. -/

namespace Sys2Proof.Machine

open Par Var

/-- The rows written before the edges of a load point are placed. -/
def dutyRows : List PDesc := sampleRows ++ [GDR_DUTY_GOT, GDR_DUTY_MISS, GDR_MISSING]

/-- A bridge not latched, none of whose switches is tripped or blocked, with edges that act as received. -/
structure CleanEdges (v : State) (l : LaneId) (x : BridgeSample) (p : Placing) : Prop where
  unlatched : v.latchedB l x.b = false
  free : ∀ k, k < 6 → v.rd l.pow GDR_SW (swNum x.b k) = 0 ∧ v.rd l.pow GDR_BLOCK (swNum x.b k) = 0
  placing : p = ⟨v.oldEdges l x.b (v.loadSteps l x.b), v.loadSteps l x.b, (v.bridge l x.b).next.flatMap (intervals (v.loadSteps l x.b))⟩
  edges : ∀ e ∈ p.es, e.sw < 6 ∧ (p.rises e = true → p.floor e.sw e.on ≤ (e.on : Int) ∧ (e.sw % 2 = 0 → x.bootLow.testBit (e.sw / 2) = false))
  clear : ∀ ph, ph < 3 → p.clash ph = none

section
variable {v w : State} {l : LaneId} {x : BridgeSample} {p : Placing} {t : Nat}

theorem loadSteps_congr (frame : TouchesRows dutyRows l.pow v w) : w.loadSteps l x.b = v.loadSteps l x.b := by
  simp only [State.loadSteps, frame.get.rd (not_rowPlace_reg _ l l CMT_PWM_PERIOD _), frame.get.rdB (not_rowPlace_reg _ l l CMT_UPDATE _)]

theorem oldEdges_congr (frame : TouchesRows dutyRows l.pow v w) (hb : x.b < 6) (n : Nat) : w.oldEdges l x.b n = v.oldEdges l x.b n := by
  simp only [State.oldEdges, frame.rd (d := GDR_GATES) (by decide) l.pow (by omega : x.b < 256), State.bridge, frame.lane]

/-- Clean edges are placed as received. -/
theorem CleanEdges.place (c : CleanEdges v l x p) (hb : x.b < 6) (known : x.b < (v.lane l).bridges.length) (frame : TouchesRows dutyRows l.pow v w)
    (low : ∀ ph, ph < 3 → bit (w.rd l.pow GDR_BOOT_LOW) (3 * x.b + ph) = x.bootLow.testBit ph) :
    ((w.placeDuty l x.b t).bridge l x.b).cur = p.es ∧ SameOff (RowPlace loadRows l.pow) w (w.placeDuty l x.b t) ∧
      ((w.placeDuty l x.b t).lane l).bridges.length = (w.lane l).bridges.length := by
  refine State.placeDuty_received hb (by rwa [frame.lane]) t ?_ ⟨fun e he r => ((c.edges e he).2 r).1, fun e he r even => ?_, c.clear⟩ fun e he => ?_
  · rw [c.placing, loadSteps_congr frame, oldEdges_congr frame hb, State.bridge, State.bridge, frame.lane]
  · obtain ⟨six, ok⟩ := c.edges e he
    rw [low _ (by omega)]
    exact (ok r).2 even
  · obtain ⟨six, -⟩ := c.edges e he
    rw [frame.rd (by decide) _ (swNum_lt hb six)]
    exact (c.free _ six).2

/-- Nothing is retried where no switch is tripped. -/
theorem CleanEdges.retry (c : CleanEdges v l x p) (hb : x.b < 6) {rows : List PDesc} (off : offRows rows GDR_SW = true)
    (frame : SameOff (RowPlace rows l.pow) v w) : w.retry l x.b t = w :=
  State.retry_untripped (fun k hk => by rw [frame.rd (not_rowPlace off _ _ (swNum_lt hb hk))]; exact (c.free k hk).1) t

theorem RowPlace.mono {rows rows' : List PDesc} (sub : rows ⊆ rows') {r : Nat} {k : PKey} (h : RowPlace rows r k) : RowPlace rows' r k := by
  obtain ⟨region, d, hd, e⟩ := h
  exact ⟨region, d, sub hd, e⟩

/-- The edges of a message that has come act from this load point (R208). -/
theorem CleanEdges.received (c : CleanEdges v l x p) (hb : x.b < 6) (known : x.b < (v.lane l).bridges.length) (got : v.rd l.pow GDR_DUTY_GOT x.b = 1) :
    ∃ u, ((v.sampled l x t).loadDuty l x.b t).retry l x.b t = u ∧ SameOff (RowPlace pointRows l.pow) v u ∧
      x.b < (u.lane l).bridges.length ∧ (u.bridge l x.b).cur = p.es ∧ u.rd l.pow GDR_DUTY_GOT x.b = 0 ∧ u.rd l.pow GDR_GATES x.b = 1 := by
  have b256 : x.b < 256 := by omega
  have sampled : TouchesRows dutyRows l.pow v (v.sampled l x t) := (State.sampled_touches hb).mono (by simp [dutyRows])
  let w := (((v.sampled l x t).wr l.pow GDR_DUTY_GOT x.b 0).wr l.pow GDR_DUTY_MISS x.b 0).wr l.pow GDR_MISSING x.b 0
  have taken : TouchesRows [GDR_DUTY_GOT, GDR_DUTY_MISS, GDR_MISSING] l.pow (v.sampled l x t) w :=
    (TouchesRows.wr (TouchesRows.wr (TouchesRows.wr (.refl _ _) (by simp) b256) (by simp) b256) (by simp) b256)
  have cleared : TouchesRows dutyRows l.pow v w := sampled.trans (taken.mono (by simp [dutyRows]))
  obtain ⟨cur, placed, len⟩ := c.place (t := t) hb known cleared fun ph hph => by
    rw [taken.rd (by decide) _ (by decide), State.sampled_low hb hph]
  have whole : SameOff (RowPlace (dutyRows ++ loadRows) l.pow) v (w.placeDuty l x.b t) :=
    (cleared.get.mono fun _ => RowPlace.mono (by simp)).trans (placed.mono fun _ => RowPlace.mono (by simp))
  have unlatched : (w.placeDuty l x.b t).latchedB l x.b = false := by
    rw [State.latchedB, whole.rd (not_rowPlace (by decide) _ _ b256)]
    exact c.unlatched
  have loaded : (v.sampled l x t).loadDuty l x.b t = (w.placeDuty l x.b t).wr l.pow GDR_GATES x.b 1 := by
    have come : (v.sampled l x t).rdB l.pow GDR_DUTY_GOT x.b = true := by
      rw [(State.sampled_touches hb).rdB (by decide) _ b256, State.rdB, got]
      rfl
    unfold State.loadDuty
    simp only [if_pos come]
    exact if_neg (by rw [unlatched]; decide)
  have switched : SameOff (RowPlace (dutyRows ++ loadRows ++ [GDR_GATES]) l.pow) v ((w.placeDuty l x.b t).wr l.pow GDR_GATES x.b 1) :=
    (whole.mono fun _ => RowPlace.mono (by simp)).wr (RowPlace.key (by simp) _ b256)
  refine ⟨_, rfl, ?_⟩
  rw [loaded, c.retry hb (by decide) switched]
  refine ⟨switched.mono fun _ => RowPlace.mono (by decide), ?_, ?_, ?_, ?_⟩
  · rwa [State.wr_lane, len, cleared.lane]
  · rw [← cur, State.bridge, State.wr_lane, ← State.bridge]
  · rw [State.rd_wr_row _ _ _ _ (by decide) b256 b256, placed.rd (not_rowPlace (by decide) _ _ b256)]
    rw [State.rd_wr_row _ _ _ _ (by decide) b256 b256, State.rd_wr_row _ _ _ _ (by decide) b256 b256, State.rd_wr_zero]
  · exact State.rd_wr_of_lt (by rw [widthOf_var (by decide)]; decide)

/-- A missing message: the previous edges act once more (R208). -/
theorem CleanEdges.repeated (c : CleanEdges v l x p) (hb : x.b < 6) (known : x.b < (v.lane l).bridges.length)
    (none : v.rd l.pow GDR_DUTY_GOT x.b = 0) (first : v.rd l.pow GDR_DUTY_MISS x.b = 0) :
    ∃ u, ((v.sampled l x t).loadDuty l x.b t).retry l x.b t = u ∧ SameOff (RowPlace pointRows l.pow) v u ∧
      x.b < (u.lane l).bridges.length ∧ (u.bridge l x.b).cur = p.es ∧ u.rd l.pow GDR_DUTY_MISS x.b = 1 ∧
      u.rd l.pow GDR_GATES x.b = v.rd l.pow GDR_GATES x.b := by
  have b256 : x.b < 256 := by omega
  have sampled : TouchesRows dutyRows l.pow v (v.sampled l x t) := (State.sampled_touches hb).mono (by simp [dutyRows])
  let w := (v.sampled l x t).wr l.pow GDR_DUTY_MISS x.b 1
  have missed : TouchesRows [GDR_DUTY_MISS] l.pow (v.sampled l x t) w := TouchesRows.wr (.refl _ _) (by simp) b256
  have noted : TouchesRows dutyRows l.pow v w := sampled.trans (missed.mono (by simp [dutyRows]))
  obtain ⟨cur, placed, len⟩ := c.place (t := t) hb known noted fun ph hph => by
    rw [missed.rd (by decide) _ (by decide), State.sampled_low hb hph]
  have whole : SameOff (RowPlace (dutyRows ++ loadRows) l.pow) v (w.placeDuty l x.b t) :=
    (noted.get.mono fun _ => RowPlace.mono (by simp)).trans (placed.mono fun _ => RowPlace.mono (by simp))
  have loaded : (v.sampled l x t).loadDuty l x.b t = w.placeDuty l x.b t := by
    have got : (v.sampled l x t).rdB l.pow GDR_DUTY_GOT x.b = false := by
      rw [(State.sampled_touches hb).rdB (by decide) _ b256, State.rdB, none]
      rfl
    have miss : (v.sampled l x t).rd l.pow GDR_DUTY_MISS x.b = 0 := by rw [(State.sampled_touches hb).rd (by decide) _ b256, first]
    unfold State.loadDuty
    rw [if_neg (by simp [got])]
    simp only [miss]
    exact if_neg (by decide)
  refine ⟨_, rfl, ?_⟩
  rw [loaded, c.retry hb (by decide) whole]
  refine ⟨whole.mono fun _ => RowPlace.mono (by decide), ?_, cur, ?_, ?_⟩
  · rwa [len, noted.lane]
  · rw [placed.rd (not_rowPlace (by decide) _ _ b256)]
    exact State.rd_wr_of_lt (by rw [widthOf_var (by decide)]; decide)
  · exact whole.rd (not_rowPlace (by decide) _ _ b256)

/-- A message missing a second time: every gate off, DUTY_MISSING noted (R208). -/
theorem missing_again (hb : x.b < 6) (known : x.b < (v.lane l).bridges.length) (none : v.rd l.pow GDR_DUTY_GOT x.b = 0)
    (again : 1 ≤ v.rd l.pow GDR_DUTY_MISS x.b) :
    ∃ u, ((v.sampled l x t).loadDuty l x.b t).retry l x.b t = u ∧ SameOff (RowPlace pointRows l.pow) v u ∧
      x.b < (u.lane l).bridges.length ∧ u.rd l.pow GDR_GATES x.b = 0 ∧ u.rd l.pow GDR_MISSING x.b = 1 := by
  have b256 : x.b < 256 := by omega
  have sampled := State.sampled_touches (v := v) (l := l) (t := t) hb
  let w := (v.sampled l x t).wr l.pow GDR_DUTY_MISS x.b ((v.sampled l x t).rd l.pow GDR_DUTY_MISS x.b + 1)
  let off := ((w.gatesOff l x.b).wr l.pow GDR_MISSING x.b 1).wrBit l.pow GDR_ACC x.b 12 true
  have loaded : (v.sampled l x t).loadDuty l x.b t = off := by
    have got : (v.sampled l x t).rdB l.pow GDR_DUTY_GOT x.b = false := by
      rw [sampled.rdB (by decide) _ b256, State.rdB, none]
      rfl
    unfold State.loadDuty
    rw [if_neg (by simp [got])]
    exact if_pos (by rw [sampled.rd (by decide) _ b256]; omega)
  have gone : TouchesRows gatesOffRows l.pow w (w.gatesOff l x.b) := State.gatesOff_touches (.refl _ _) (List.Subset.refl _) hb
  have off_touches : TouchesRows pointRows l.pow v off := by
    have noted : TouchesRows pointRows l.pow v w := (sampled.mono (by decide)).wr (by decide) b256
    have low : TouchesRows pointRows l.pow v (w.gatesOff l x.b) := noted.trans (gone.mono (by decide))
    exact (low.wr (by decide) b256).wr (by decide) b256
  have flagged : TouchesRows [GDR_ACC] l.pow ((w.gatesOff l x.b).wr l.pow GDR_MISSING x.b 1) off := TouchesRows.wr (.refl _ _) (by simp) b256
  have retried : TouchesRows retryRows l.pow off (off.retry l x.b t) := State.retry_touches (.refl _ _) (List.Subset.refl _) hb t
  have all : TouchesRows pointRows l.pow v (off.retry l x.b t) := off_touches.trans (retried.mono (by decide))
  refine ⟨_, rfl, ?_⟩
  rw [loaded]
  refine ⟨all.get, by rwa [all.lane], ?_, ?_⟩
  · rw [retried.rd (by decide) _ b256, flagged.rd (by decide) _ b256, State.rd_wr_row _ _ _ _ (by decide) b256 b256]
    unfold State.gatesOff
    rw [State.rd_wr_row _ _ _ _ (by decide) b256 b256, State.rd_wr_row _ _ _ _ (by decide) b256 b256, State.rd_wr_zero]
  · rw [retried.rd (by decide) _ b256, flagged.rd (by decide) _ b256]
    exact State.rd_wr_of_lt (by rw [widthOf_var (by decide)]; decide)

end

/-! ### From the lane's valley to the power die and back -/

section
variable {s : State} {l : LaneId} {x : BridgeSample} {t0 : Nat}

/-- The state in which the power die acts at a valley of a lane die that runs. -/
def State.atValley (s : State) (l : LaneId) (t0 : Nat) : State := ((s.atTime t0).begun l t0).dropOld l

theorem State.atValley_gate (s : State) (l : LaneId) (t0 : Nat) : GateFrame (RowPlace periodRows l.reg) s (s.atValley l t0) := by
  have now : GateFrame (RowPlace periodRows l.reg) s (s.atTime t0) := ⟨fun _ _ => rfl, fun l => by rw [State.atTime_lane]⟩
  have begun := now.trans (.of_touches (((s.atTime t0).begun_touches l t0).mono fun _ => periodPlaces_row))
  exact begun.modLane l (f := fun x => { x with cmtOld := x.cmtOld.filter (fun e => ((s.atTime t0).begun l t0).staysOld l e.1) }) fun _ => rfl

theorem State.atValley_maps (s : State) (l : LaneId) (t0 r : Nat) : MapsKept r s (s.atValley l t0) :=
  MapsKept.of_params (t := (s.atTime t0).begun l t0) ((s.atTime t0).begun_maps l t0 r) (State.dropOld_params _ l)

theorem State.atValley_on (s : State) (l : LaneId) (t0 r : Nat) : (s.atValley l t0).on r = s.on r := by
  rw [← State.on_atTime s t0, ← State.begun_on (s.atTime t0) l t0]
  simp [State.on, State.hasRegion, State.rdB, State.rd, State.atValley, State.dropOld]

theorem State.atValley_pow (s : State) (l : LaneId) (t0 : Nat) (d : PDesc) (i : Nat) : (s.atValley l t0).rd l.pow d i = s.rd l.pow d i :=
  (s.atValley_gate l t0).rd fun h => pow_ne_reg l l h.1

/-- A valley with the samples of one bridge: what the power die leaves of itself is what the command leaves. -/
theorem valley_leaves (up : s.up l = true) {w : State} (hw : (s.atValley l t0).powerPoints l false [x] t0 = w)
    (modes : ∀ ch, ch < 8 → w.fmode l ch ≠ 1) :
    Runs (.pwmValley l false [x] [] t0) s (fun t => (∀ k : PKey, k.region = l.pow → t.params.get k = w.params.get k) ∧
      ∀ b, t.bridge l b = w.bridge l b) := by
  have answer : (s.atTime t0).loadPoints l false [x] [] t0 = w.whenUp l (fun s => s.fbiValley l [] t0) := by
    rw [State.loadPoints_valley (s := s.atTime t0) up, ← hw]
    simp only [ite_self, State.atValley]
  have left : GateFrame (OfLane l) w (w.whenUp l (fun s => s.fbiValley l [] t0)) := GateFrame.ite (State.fbiValley_gate modes t0) (.refl _ w)
  refine ⟨_, congrArg Host.Outcome.next answer, fun k hk => left.get k fun own => ?_, left.bridge l⟩
  exact pow_ne_reg l l (hk.symm.trans own)

/-- With one bridge whose own valley it is the power die has that bridge's load point alone. -/
theorem powerPoints_own {v : State} (on : v.on l.pow = true) (own : v.ownPoint l x.b false = some true) :
    v.powerPoints l false [x] t0 = v.loadPoint l x true t0 := by
  simp [State.powerPoints, on, own]

theorem ownPoint_of_ratio_one {v : State} {b : Nat} (h : v.baseRatio l b = 1) : v.ownPoint l b false = some true := by
  simp [State.ownPoint, h, Nat.mod_one]

/-- A load point of a bridge in RUN whose own valley it is, by the state the edges and retries leave. -/
theorem valley_run (up : s.up l = true) (on : s.on l.pow = true) (hb : x.b < 6) (modes : ∀ ch, ch < 8 → s.fmode l ch ≠ 1)
    (run : s.rd l.reg CMT_STATE x.b = 2) (floor : s.rd l.pow GDR_FLOOR_SEEN x.b = 0 ∨ NoReset s l.pow 1) (ratio : s.baseRatio l x.b = 1)
    (untested : s.rd l.reg BST_STATE ≠ 2) {u : State} (known : x.b < (u.lane l).bridges.length)
    (hu : (((s.atValley l t0).sampled l x t0).loadDuty l x.b t0).retry l x.b t0 = u) (frame : SameOff (RowPlace pointRows l.pow) (s.atValley l t0) u) :
    Runs (.pwmValley l false [x] [] t0) s (fun t =>
      (∀ d, offRows statusRows d = true → t.rd l.pow d x.b = u.rd l.pow d x.b) ∧
      t.bridge l x.b = { u.bridge l x.b with smp := some (s.brokenCores l x), mid := false } ∧
      (u.rd l.pow GDR_MISSING x.b = 1 → bit (t.rd l.pow GDR_STATUS x.b) 12 = true)) := by
  have b256 : x.b < 256 := by omega
  have maps := s.atValley_maps l t0 l.reg
  have own := ownPoint_of_ratio_one (b := x.b) ((maps.baseRatio x.b).trans ratio)
  have floor' : (s.atValley l t0).rd l.pow GDR_FLOOR_SEEN x.b = 0 ∨ NoReset (s.atValley l t0) l.pow 1 := by
    rw [State.atValley_pow]
    exact floor.imp_right fun n => n.congr (State.atValley_pow _ _ _ _ _) fun l' => (s.atValley_maps l t0 l'.reg).rd (by decide) 0
  obtain ⟨shown, bridge, word⟩ := State.loadPoint_run hb ((maps.rd (by decide) x.b).trans run) (by rwa [maps.rd (by decide)]) floor' known hu frame
  have cores : (s.atValley l t0).brokenCores l x = s.brokenCores l x := by
    simp only [State.brokenCores, State.rdB, State.atValley_pow]
    rfl
  have modes' : ∀ ch, ch < 8 → ((s.atValley l t0).loadPoint l x true t0).fmode l ch ≠ 1 := fun ch hch => by
    rw [State.fmode, shown.rd (not_anyRow (by decide) _ (by omega)), frame.rd (not_rowPlace_reg _ _ _ _ _), maps.rd (by decide)]
    exact modes ch hch
  obtain ⟨t, next, places, bridges⟩ := valley_leaves up (powerPoints_own (t0 := t0) ((s.atValley_on l t0 _).trans on) own) modes'
  refine ⟨t, next, fun d off => ?_, ?_, fun missing => ?_⟩
  · exact (places _ rfl).trans (shown.rd (not_anyRow off _ b256))
  · rw [bridges, bridge, cores]
  · rw [State.rd, places _ rfl]
    exact word missing

/-- A bridge of two base periods has no load point where the count of base periods is odd, and in RUN it is not tracked. -/
theorem valley_between (up : s.up l = true) (modes : ∀ ch, ch < 8 → s.fmode l ch ≠ 1) (run : s.rd l.reg CMT_STATE x.b = 2)
    (ratio : s.baseRatio l x.b = 2) (single : s.rd l.reg CMT_UPDATE x.b = 0) (alone : s.synced l = false) (even : s.rd l.reg INT_PERIOD % 2 = 0) :
    Runs (.pwmValley l false [x] [] t0) s (fun t => t.bridge l x.b = s.bridge l x.b ∧
      ∀ k : PKey, k.region = l.pow → t.params.get k = s.params.get k) := by
  have maps := s.atValley_maps l t0 l.reg
  have gate := s.atValley_gate l t0
  have count : (s.atValley l t0).rd l.reg INT_PERIOD = (s.rd l.reg INT_PERIOD + 1) % 2 ^ 64 := (begun_notes (s.atTime t0) l t0 rfl).2.1
  have alone' : (s.atValley l t0).synced l = false := (gate.get.rdB (not_rowPlace (by decide) _ _ (by decide))).trans alone
  have between : (s.atValley l t0).ownPoint l x.b false = none := by
    have odd : (s.rd l.reg INT_PERIOD + 1) % 2 = 1 := by omega
    simp [State.ownPoint, maps.baseRatio, ratio, State.baseNumber, alone', count, odd, State.rdB, maps.rd (d := CMT_UPDATE) (by decide), single]
  have none : (s.atValley l t0).powerPoints l false [x] t0 = s.atValley l t0 := by
    simp [State.powerPoints, between, State.trackedB, maps.rd (d := CMT_STATE) (by decide), run]
  obtain ⟨t, next, places, bridges⟩ := valley_leaves up none fun ch hch => by
    rw [State.fmode, maps.rd (by decide)]
    exact modes ch hch
  exact ⟨t, next, by rw [bridges, gate.bridge], fun k hk => (places k hk).trans (gate.get k fun h => pow_ne_reg l l (hk.symm.trans h.1))⟩

/-- The edges of a bridge at a valley are those at the command's begin. -/
theorem CleanEdges.atValley {p : Placing} (c : CleanEdges s l x p) : CleanEdges (s.atValley l t0) l x p := by
  have maps := s.atValley_maps l t0 l.reg
  refine ⟨?_, ?_, ?_, c.edges, c.clear⟩
  · rw [State.latchedB, State.atValley_pow]
    exact c.unlatched
  · intro k hk
    rw [State.atValley_pow, State.atValley_pow]
    exact c.free k hk
  · have steps : (s.atValley l t0).loadSteps l x.b = s.loadSteps l x.b := by
      simp only [State.loadSteps, maps.rd (d := CMT_PWM_PERIOD) (by decide), maps.rdB (d := CMT_UPDATE) (by decide)]
    rw [steps, State.oldEdges, State.atValley_pow, (s.atValley_gate l t0).bridge]
    exact c.placing

end

/-- Settles O20, by the begin of a base period, the power die's load point of one bridge, and what FBI leaves of it. -/
theorem loadPoints : Obligations.LoadPoints := by
  unfold Obligations.LoadPoints
  refine ⟨fun l smp sc t0 s up off => peak_runs up off smp sc t0, fun l t0 s up modes => ?_,
    fun l peak smp sc t0 s down => powerOnly_runs down peak smp sc t0, fun l x t0 s up on hb six modes run floor => ⟨?_, ?_, ?_⟩,
    fun l b es s on hb => dutyReceive_runs on hb es, fun l t0 s up => computeStart_runs up t0⟩
  · obtain ⟨t, next, ht⟩ := valley_runs up modes t0
    refine ⟨t, next, ⟨_, ht, ?_⟩, fun idle => begun_trace_idle (s := s.atTime t0) idle t0 ht, begun_notes (s.atTime t0) l t0 ht⟩
    exact ⟨((s.atTime t0).begun_touches l t0).rest, ((s.atTime t0).begun_touches l t0).get⟩
  · intro ratio untested unlatched free p placing edges clear
    have clean : CleanEdges (s.atValley l t0) l x p := CleanEdges.atValley ⟨unlatched, free, placing, edges, clear⟩
    have known : x.b < ((s.atValley l t0).lane l).bridges.length := by
      rw [(s.atValley_gate l t0).bridges, six]
      exact hb
    constructor
    · intro got
      obtain ⟨u, hu, frame, known', cur, taken, gates⟩ := clean.received (t := t0) hb known ((State.atValley_pow _ _ _ _ _).trans got)
      obtain ⟨t, next, places, bridge, -⟩ := valley_run up on hb modes run floor ratio untested known' hu frame
      exact ⟨t, next, by rw [bridge]; exact cur, (places _ (by decide)).trans taken, (places _ (by decide)).trans gates, by rw [bridge]⟩
    · intro none first
      obtain ⟨u, hu, frame, known', cur, miss, gates⟩ := clean.repeated (t := t0) hb known ((State.atValley_pow _ _ _ _ _).trans none)
        ((State.atValley_pow _ _ _ _ _).trans first)
      obtain ⟨t, next, places, bridge, -⟩ := valley_run up on hb modes run floor ratio untested known' hu frame
      exact ⟨t, next, by rw [bridge]; exact cur, (places _ (by decide)).trans miss,
        ((places _ (by decide)).trans gates).trans (State.atValley_pow _ _ _ _ _)⟩
  · intro ratio untested none again
    have known : x.b < ((s.atValley l t0).lane l).bridges.length := by
      rw [(s.atValley_gate l t0).bridges, six]
      exact hb
    obtain ⟨u, hu, frame, known', gates, missing⟩ := missing_again (t := t0) hb known ((State.atValley_pow _ _ _ _ _).trans none)
      (by rwa [State.atValley_pow])
    obtain ⟨t, next, places, -, word⟩ := valley_run up on hb modes run floor ratio untested known' hu frame
    exact ⟨t, next, (places _ (by decide)).trans gates, (places _ (by decide)).trans missing, word missing⟩
  · exact fun ratio single alone even => valley_between up modes run ratio single alone even

end Sys2Proof.Machine
end

section
/-! PROOFS. The power die and the shared dies ready, the heartbeats of M. -/

namespace Sys2Proof.Machine

open Par Var

/-! ### Widths -/

/-- A row of the map of a kind of region, of a block whose rows lie apart. -/
def mapRow (k : RegionKind) (d : PDesc) : Bool := mapOk (blockMap k d.block) && decide (d ∈ blockMap k d.block)

theorem widthOf_mapRow {k : RegionKind} {d : PDesc} (h : mapRow k d = true) {r : Nat} (hr : kindOf r = k) {i : Nat} (hi : i < 256 * d.span) :
    widthOf (d.key r i) = d.width := by
  simp only [mapRow, Bool.and_eq_true, decide_eq_true_eq] at h
  exact widthOf_key (by rw [hr]; exact h.1) (by rw [hr]; exact h.2) hi

/-- A value that fits reads back from a place of the maps. -/
theorem State.rd_wr_mapRow {s : State} {k : RegionKind} {d : PDesc} (h : mapRow k d = true) {r : Nat} (hr : kindOf r = k) {i v : Nat}
    (hi : i < 256 * d.span) (hv : v < 2 ^ d.width) : (s.wr r d i v).rd r d i = v :=
  State.rd_wr_of_lt (by rwa [widthOf_mapRow h hr hi])

/-! ### A list of writes -/

/-- The values `ws` written in their order. -/
def State.puts (s : State) (ws : List (PKey × Nat)) : State := { s with params := ws.foldl (fun m w => m.put w.1 w.2) s.params }

theorem Store.get_puts {ws : List (PKey × Nat)} {k : PKey} (h : k ∉ ws.map Prod.fst) (m : Store) :
    Store.get (ws.foldl (fun m w => m.put w.1 w.2) m) k = m.get k := by
  induction ws generalizing m with
  | nil => rfl
  | cons w ws ih =>
    simp only [List.map_cons, List.mem_cons, not_or] at h
    rw [List.foldl_cons, ih h.2, Store.get_put_ne _ _ h.1]

/-- Values written at places apart stand there, and nothing else changes. -/
theorem State.puts_writes (s : State) {ws : List (PKey × Nat)} (apart : (ws.map Prod.fst).Nodup) : Writes s (s.puts ws) ws := by
  refine ⟨rfl, fun w hw => ?_, fun k hk => Store.get_puts hk s.params⟩
  show Store.get (ws.foldl (fun m w => m.put w.1 w.2) s.params) w.1 = _
  generalize s.params = m
  induction ws generalizing m with
  | nil => simp at hw
  | cons x ws ih =>
    simp only [List.map_cons, List.nodup_cons] at apart
    rw [List.foldl_cons]
    rcases List.mem_cons.mp hw with rfl | hw
    · rw [Store.get_puts apart.1, Store.get_put_same]
    · exact ih apart.2 hw _

theorem Writes.of_puts {s t : State} {ws : List (PKey × Nat)} (apart : (ws.map Prod.fst).Nodup) (h : t = s.puts ws) : Writes s t ws :=
  h ▸ State.puts_writes s apart

/-! ### The power die -/

/-- The fault output of a region or of the lane of a power die. -/
theorem State.updPin_touches {P : PKey → Prop} {s u : State} (h : Touches P u s) (r : Nat) (pin : P (FCL_PIN.key (pinReg r) 0))
    (held : P (FCL_PIN_HELD.key (pinReg r) 0)) : Touches P u (s.updPin r) :=
  Touches.ite h (Touches.ite (Touches.ite (h.wr pin) ((h.wr pin).wr held)) (Touches.ite h (h.wr pin)))

/-- The places of a fault output. -/
theorem State.updPin_rows (s : State) (r : Nat) : TouchesRows [FCL_PIN, FCL_PIN_HELD] (pinReg r) s (s.updPin r) :=
  State.updPin_touches (.refl _ s) r (RowPlace.key (by simp) _ (by decide)) (RowPlace.key (by simp) _ (by decide))

theorem pinReg_pow (l : LaneId) : pinReg l.pow = l.reg := by cases l <;> rfl

theorem powerDieReady_runs {l : LaneId} {s : State} (up : s.up l = true) (there : s.hasRegion l.pow = true)
    (powered : s.rdB l.pow INT_POWERED = true) :
    (s.rd l.pow FAB_PHASE = 0 → Runs (.powerDieReady l) s (fun t => t.rd l.pow FAB_PHASE = (if s.vstate l = 2 then 1 else 3) ∧
      t.rd l.pow SUP_STATE = 2 ∧ SameBut s t [FAB_PHASE.key l.pow 0, SUP_STATE.key l.pow 0, FCL_PIN.key l.reg 0, FCL_PIN_HELD.key l.reg 0])) ∧
    (s.rd l.pow FAB_PHASE ≠ 0 → Runs (.powerDieReady l) s (fun t => t = s)) := by
  let v := (s.wr l.pow FAB_PHASE 0 (if s.vstate l = 2 then 1 else 3)).wr l.pow SUP_STATE 0 2
  refine ⟨fun phase => ⟨v.updPin l.pow, ?_, ?_, ?_, ?_⟩, fun phase => ⟨s, ?_, rfl⟩⟩
  · exact congrArg Host.Outcome.next ((State.whenUp_up up).trans (if_pos ⟨there, phase, powered⟩))
  · rw [(v.updPin_rows l.pow).rd (by decide) _ (by decide), State.rd_wr_row _ _ _ _ (by decide) (by decide) (by decide)]
    exact State.rd_wr_mapRow (by decide +kernel) (kindOf_pow l) (by decide) (by split <;> decide)
  · rw [(v.updPin_rows l.pow).rd (by decide) _ (by decide)]
    exact State.rd_wr_mapRow (by decide +kernel) (kindOf_pow l) (by decide) (by decide)
  · have wrote : Touches (· ∈ [FAB_PHASE.key l.pow 0, SUP_STATE.key l.pow 0, FCL_PIN.key l.reg 0, FCL_PIN_HELD.key l.reg 0]) s v :=
      ((Touches.refl _ s).wr (by simp)).wr (by simp)
    have all := State.updPin_touches wrote l.pow (by simp [pinReg_pow]) (by simp [pinReg_pow])
    exact ⟨all.rest, all.get⟩
  · exact congrArg Host.Outcome.next ((State.whenUp_up up).trans (if_neg (by simp [phase])))

/-! ### The shared dies -/

theorem sharedDieReady_s {s : State} (there : s.hasRegion 8 = true) (powered : s.rdB 8 INT_POWERED = true)
    (phase : s.rd 8 FAB_PHASE = 0) (recordOk creepWake : Bool) : exec (.sharedDieReady .s recordOk creepWake) s = .next (s.sReady recordOk creepWake) :=
  congrArg Host.Outcome.next (if_pos (by
    show (s.hasRegion 8 && s.rdB 8 INT_POWERED && s.rd 8 FAB_PHASE == 0) = true
    rw [there, powered, phase]
    rfl))

theorem sharedDieReady_m {s : State} (there : s.hasRegion 7 = true) (powered : s.rdB 7 INT_POWERED = true)
    (phase : s.rd 7 FAB_PHASE = 0) (recordOk creepWake : Bool) : exec (.sharedDieReady .m recordOk creepWake) s = .next s.mReady :=
  congrArg Host.Outcome.next (if_pos (by
    show (s.hasRegion 7 && s.rdB 7 INT_POWERED && s.rd 7 FAB_PHASE == 0) = true
    rw [there, powered, phase]
    rfl))

theorem sReady_leaves (s : State) (recordOk creepWake : Bool) : (s.sReady recordOk creepWake).rd 8 FAB_PHASE = 1 ∧
    (s.sReady recordOk creepWake).rd 8 ATH_SAVED = 0 ∧
    (s.sReady recordOk creepWake).rd 8 ATH_LATCH_STATE = (if s.rd 8 ATH_SAVED ≠ 0 ∧ recordOk = true ∧ creepWake = false then s.rd 8 ATH_SAVED % 65536 else 0)
      % 2 ^ ATH_LATCH_STATE.width ∧
    SameBut s (s.sReady recordOk creepWake) [FAB_PHASE.key 8 0, ATH_SAVED.key 8 0, ATH_LATCH_STATE.key 8 0, FCL_PIN.key 8 0, FCL_PIN_HELD.key 8 0] := by
  let latched := if s.rd 8 ATH_SAVED ≠ 0 ∧ recordOk = true ∧ creepWake = false then s.rd 8 ATH_SAVED % 65536 else 0
  let v := ((s.wr 8 FAB_PHASE 0 1).wr 8 ATH_SAVED 0 0).wr 8 ATH_LATCH_STATE 0 latched
  have ready : s.sReady recordOk creepWake = v.updPin 8 := by
    simp only [State.sReady, v, latched, Bool.not_eq_true']
  have pin := v.updPin_rows 8
  rw [ready]
  refine ⟨?_, ?_, ?_, ?_⟩
  · rw [pin.rd (by decide) _ (by decide), State.rd_wr_row _ _ _ _ (by decide) (by decide) (by decide),
      State.rd_wr_row _ _ _ _ (by decide) (by decide) (by decide)]
    exact State.rd_wr_mapRow (k := .s) (by decide +kernel) rfl (by decide) (by decide)
  · rw [pin.rd (by decide) _ (by decide), State.rd_wr_row _ _ _ _ (by decide) (by decide) (by decide), State.rd_wr_zero]
  · rw [pin.rd (by decide) _ (by decide), State.rd_wr_same, widthOf_mapRow (k := .s) (by decide +kernel) rfl (by decide)]
  · have wrote : Touches (· ∈ [FAB_PHASE.key 8 0, ATH_SAVED.key 8 0, ATH_LATCH_STATE.key 8 0, FCL_PIN.key 8 0, FCL_PIN_HELD.key 8 0]) s v :=
      (((Touches.refl _ s).wr (by simp)).wr (by simp)).wr (by simp)
    have all := State.updPin_touches wrote 8 (by simp [pinReg]) (by simp [pinReg])
    exact ⟨all.rest, all.get⟩

theorem mReady_writes (s : State) : Writes s s.mReady [(FAB_PHASE.key 7 0, 1), s.next 7 SMC_STARTS, (SMC_START_AT.key 7 0, s.now),
    (ATT_LEAF_SKIPPED.key 7 0, satNat 21 (s.rd 7 ATT_LEAF_SKIPPED + (s.rd 7 ATT_LIMIT - s.rd 7 ATT_NEXT))),
    (ATT_NEXT.key 7 0, s.rd 7 ATT_LEAF_NEXT), (ATT_LIMIT.key 7 0, s.rd 7 ATT_LEAF_NEXT),
    (ATT_LEAF_LEFT.key 7 0, if s.rd 7 SMC_LIFECYCLE = 0 then s.rd 7 ATT_LEAF_LEFT else 1048576 - s.rd 7 ATT_LEAF_NEXT)] := by
  unfold State.mReady
  simp (disch := decide) only [State.bump_eq, State.next, State.rd_wr_row]
  exact .of_puts (by simp only [List.map_cons, List.map_nil]; decide) rfl

/-! ### An asserted wire: its raw bit, the records of other lanes -/

/-- The rows an asserted error wire may write but the raw wires. -/
def noteRows : List PDesc :=
  [FCL_ERR_STATUS, FCL_LATCHED, FCL_LAST, FCL_TROUBLE, FCL_FIRST, FCL_PIN, FCL_TEST_EVENTS, FCL_QUIET_AT, FCL_PIN_HELD, FCL_IRQ, FCL_NMI,
   DPT_ORD_STATE, DPT_CNT_ORD_OVERLAP, TRC_HIT, STF_SHADOW_BAD]

/-- Every place but those of `P`, and every lane's record but that of the lane die `r`, reads the same. -/
structure LaneFrame (P : PKey → Prop) (r : Nat) (s t : State) : Prop where
  get : SameOff P s t
  others : ∀ x : LaneId, x.reg ≠ r → t.lane x = s.lane x

namespace LaneFrame

variable {P Q : PKey → Prop} {r : Nat} {s t u : State}

theorem refl (P : PKey → Prop) (r : Nat) (s : State) : LaneFrame P r s s := ⟨.refl _ s, fun _ _ => rfl⟩

theorem trans (h : LaneFrame P r s t) (g : LaneFrame P r t u) : LaneFrame P r s u :=
  ⟨h.get.trans g.get, fun x hx => (g.others x hx).trans (h.others x hx)⟩

theorem mono (h : LaneFrame P r s t) (hp : ∀ k, P k → Q k) : LaneFrame Q r s t := ⟨h.get.mono hp, h.others⟩

theorem of_touches (h : Touches P s t) : LaneFrame P r s t := ⟨h.get, fun x _ => h.lane x⟩

theorem wr (h : LaneFrame P r s t) {r' : Nat} {d : PDesc} {i v : Nat} (hp : P (d.key r' i)) : LaneFrame P r s (t.wr r' d i v) :=
  ⟨h.get.wr hp, fun x hx => by rw [State.wr_lane, h.others x hx]⟩

theorem send (h : LaneFrame P r s t) (x : Sent) : LaneFrame P r s (t.send x) :=
  ⟨h.get.of_params (by simp), fun y hy => by rw [State.send_lane, h.others y hy]⟩

theorem modLane {l : LaneId} (h : LaneFrame P l.reg s t) (f : Lane → Lane) : LaneFrame P l.reg s (t.modLane l f) :=
  ⟨h.get.of_params (by simp), fun x hx => by rw [State.lane_modLane_ne _ _ (fun e => hx (by rw [e])), h.others x hx]⟩

theorem ite {c : Prop} [Decidable c] (h : LaneFrame P r s t) (g : LaneFrame P r s u) : LaneFrame P r s (if c then t else u) := by
  split <;> assumption

theorem foldl_mem {α : Type} {f : State → α → State} (xs : List α) (hf : ∀ u, ∀ a ∈ xs, LaneFrame P r s u → LaneFrame P r s (f u a))
    (h : LaneFrame P r s t) : LaneFrame P r s (xs.foldl f t) := by
  induction xs generalizing t with
  | nil => exact h
  | cons a xs ih => exact ih (fun u b hb => hf u b (List.mem_cons_of_mem _ hb)) (hf t a List.mem_cons_self h)

theorem tell (h : LaneFrame P r s t) (r' src kind : Nat) : LaneFrame P r s (t.tell r' src kind) := by
  unfold State.tell
  split
  · exact ite h (h.send _)
  · exact h.send _

/-- An event in a lane queues standing orders of that lane. -/
theorem event {l : LaneId} (h : LaneFrame P l.reg s t) (state : ∀ o, o < 64 → P (DPT_ORD_STATE.key l.reg o))
    (overlap : ∀ o, o < 64 → P (DPT_CNT_ORD_OVERLAP.key l.reg o)) (code arg : Nat) : LaneFrame P l.reg s (t.event l code arg) :=
  foldl_mem _ (fun u o ho g => by
    have lt := List.mem_range.mp ho
    exact ite (ite (g.wr (overlap o lt)) (ite ((g.wr (state o lt)).modLane _) g)) g) h

end LaneFrame

/-- What the entry of a source of region `r` changes: places of `noteRows`, and of the lanes' records only that of its own lane die. -/
abbrev NoteFrame (r : Nat) (s t : State) : Prop := LaneFrame (AnyRow noteRows) r s t

namespace NoteFrame

variable {r : Nat} {s t u : State}

theorem row {d : PDesc} (hd : d ∈ noteRows) {r' i : Nat} (hi : i < 256) : AnyRow noteRows (d.key r' i) := AnyRow.key hd r' hi

theorem noteHit (h : NoteFrame r s t) {src : Nat} (hs : src < 256) : NoteFrame r s (t.noteHit r src) := by
  unfold State.noteHit
  split
  · next l own =>
    have hr : r = l.reg := by
      unfold LaneId.ofReg at own
      split at own <;> simp_all [LaneId.reg] <;> subst own <;> rfl
    subst hr
    exact LaneFrame.event (h.wr (row (by simp [noteRows]) hs)) (fun o ho => row (by simp [noteRows]) (by omega)) (fun o ho => row (by simp [noteRows]) (by omega)) 9 src
  · exact h

theorem shadowNote (h : NoteFrame r s t) (r' : Nat) : NoteFrame r s (t.shadowNote r') := by
  unfold State.shadowNote
  split
  · exact LaneFrame.ite (h.wr (row (by simp [noteRows]) (by decide))) h
  · exact h

theorem coreReact (h : NoteFrame r s t) (r' src bits : Nat) : NoteFrame r s (t.coreReact r' src bits) := by
  unfold State.coreReact
  split
  · exact h
  · extract_lets irq
    have irq_frame : NoteFrame r s irq := LaneFrame.ite ((h.wr (row (by simp [noteRows]) (by decide))).send _) h
    exact LaneFrame.ite ((irq_frame.wr (row (by simp [noteRows]) (by decide))).send _) irq_frame

theorem react (h : NoteFrame r s t) {r' src : Nat} (n : NoReset t r' src) : NoteFrame r s (t.react r' src) := by
  unfold State.react
  rcases n with ⟨block, region⟩ | quiet
  · simp only [block, region, Bool.false_eq_true, if_false]
    exact LaneFrame.ite h (h.coreReact _ _ _)
  · rw [if_pos quiet]
    exact h

theorem updPin (h : NoteFrame r s t) (r' : Nat) : NoteFrame r s (t.updPin r') :=
  LaneFrame.ite h (LaneFrame.ite (LaneFrame.ite (h.wr (row (by simp [noteRows]) (by decide)))
    ((h.wr (row (by simp [noteRows]) (by decide))).wr (row (by simp [noteRows]) (by decide))))
    (LaneFrame.ite h (h.wr (row (by simp [noteRows]) (by decide)))))

theorem enterFault (h : NoteFrame r s t) {src : Nat} (hs : src < 256) (n : NoReset s r src) : NoteFrame r s (t.enterFault r src) := by
  unfold State.enterFault
  extract_lets lim latch latched entered told
  have latched_frame : NoteFrame r s latched := LaneFrame.ite ((h.wr (row (by simp [noteRows]) (by decide))).tell _ _ _) h
  have entered_frame : NoteFrame r s entered := (latched_frame.wr (row (by simp [noteRows]) (by decide))).wr (row (by simp [noteRows]) hs)
  have first : NoteFrame r s (entered.stampFirst r src) := LaneFrame.ite entered_frame (entered_frame.wr (row (by simp [noteRows]) (by decide)))
  have told_frame : NoteFrame r s told := NoteFrame.shadowNote (first.tell r src 1) r
  have n' : NoReset told r src := n.congr (told_frame.get.rd (not_anyRow (by decide) _ hs)) fun _ => told_frame.get.rd (not_anyRow (by decide) _ (by decide))
  exact (told_frame.react n').updPin r

end NoteFrame

/-- Whether a wire is judged is of the part, its mask and the phase. -/
theorem Judged.congr {s t : State} {r src : Nat} (j : Judged s r src) (part : t.part = s.part)
    (mask : t.rd r FCL_MASKED (ownerOf r src) = s.rd r FCL_MASKED (ownerOf r src)) (phase : t.rd r FAB_PHASE = s.rd r FAB_PHASE) : Judged t r src := by
  obtain ⟨there, listed, free, running⟩ := j
  exact ⟨by rw [State.hasRegion, part]; exact there, listed, mask.trans free, by rwa [phase]⟩

theorem ownerOf_lt (r src : Nat) : ownerOf r src < 256 := by
  have below (l : List Nat) (hl : ∀ x ∈ l, x < 256) : l.getD src 0 < 256 := by
    rw [List.getD_eq_getElem?_getD]
    cases g : l[src]? with
    | none => simp
    | some x => simpa using hl x (List.mem_of_getElem? g)
  unfold ownerOf ownersOf
  cases kindOf r <;> exact below _ (by decide)

/-- An asserted wire that orders no reset, beside its raw bit. -/
theorem State.raise_notes {s : State} {r src : Nat} (n : NoReset s r src) (held : Bool) :
    NoteFrame r (if sourceListed r src && s.hasRegion r && held then s.wrBit r FCL_RAW 0 src true else s) (s.raise r src held) := by
  unfold State.raise
  cases listed : sourceListed r src
  · exact .refl _ _ _
  cases there : s.hasRegion r
  · exact .refl _ _ _
  have hs : src < 256 := by have := sourceListed_lt listed; omega
  simp only [Bool.not_true, Bool.or_self, Bool.false_eq_true, if_false, Bool.and_self, Bool.true_and]
  have react : (if held = true then s.wrBit r FCL_RAW 0 src true else s).rd r FCL_REACT src = s.rd r FCL_REACT src := by
    split
    · exact State.rd_wr_row _ _ _ _ (by decide) (by decide) hs
    · rfl
  have state : ∀ l, (if held = true then s.wrBit r FCL_RAW 0 src true else s).vstate l = s.vstate l := fun l => by
    split
    · exact State.rd_wr_row _ _ _ _ (by decide) (by decide) (by decide)
    · rfl
  generalize (if held = true then s.wrBit r FCL_RAW 0 src true else s) = u at react state ⊢
  have same : NoteFrame r u u := .refl _ r u
  have stamped : NoteFrame r u (u.stampLast r src) := same.wr (NoteFrame.row (by simp [noteRows]) hs)
  have hit : NoteFrame r u ((u.stampLast r src).noteHit r src) := stamped.noteHit hs
  have quiet : NoteFrame r u (((u.stampLast r src).noteHit r src).wr r FCL_QUIET_AT src ((u.stampLast r src).noteHit r src).now) :=
    hit.wr (NoteFrame.row (by simp [noteRows]) hs)
  exact LaneFrame.ite (same.wr (NoteFrame.row (by simp [noteRows]) hs)) (LaneFrame.ite (same.wr (NoteFrame.row (by simp [noteRows]) (by decide)))
    (LaneFrame.ite (hit.wr (NoteFrame.row (by simp [noteRows]) hs)) (LaneFrame.ite quiet (quiet.enterFault hs (n.congr react state)))))

theorem widthOf_raw {s : State} {r : Nat} (h : s.hasRegion r = true) : widthOf (FCL_RAW.key r 0) = 64 := by
  have all : ∀ x ∈ [1, 2, 3, 4, 5, 6, 7, 8], widthOf (FCL_RAW.key x 0) = 64 := by decide
  refine all r ?_
  simp only [State.hasRegion] at h
  cases g : s.part <;> simp [g, partRegions] at h ⊢ <;> omega

/-- A wire asserted to stay reads active. -/
theorem State.raise_raw {s : State} {r src : Nat} (j : Judged s r src) (n : NoReset s r src) : bit ((s.raise r src true).rd r FCL_RAW) src = true := by
  obtain ⟨there, listed, -, -⟩ := j
  have noted := State.raise_notes n true
  rw [if_pos (by simp [listed, there])] at noted
  rw [noted.get.rd (not_anyRow (by decide) _ (by decide)), State.wrBit, State.rd_wr_same, widthOf_raw there, bit_mod (sourceListed_lt listed), bit_putBit,
    if_pos rfl]

/-! ### Heartbeats of M -/

theorem mHeartbeatReceive_eq {l : LaneId} {s : State} (up : s.up l = true) (lifecycle : Nat) : exec (.mHeartbeatReceive l lifecycle) s =
    .next (if s.rd l.reg INT_M_LOST = 0 then s.wr l.reg INT_LIFECYCLE 0 lifecycle
      else if s.beatCount l ≥ 10 then ((((s.wr l.reg INT_LIFECYCLE 0 lifecycle).wr l.reg INT_M_BEAT_CYC 0 (s.cycle l)).wr l.reg INT_M_LOST 0 0).wr l.reg
        INT_M_BEATS 0 0).release l.reg 14
      else ((s.wr l.reg INT_LIFECYCLE 0 lifecycle).wr l.reg INT_M_BEAT_CYC 0 (s.cycle l)).wr l.reg INT_M_BEATS 0 (s.beatCount l)) := by
  have count : (s.wr l.reg INT_LIFECYCLE 0 lifecycle).beatCount l = s.beatCount l := by
    simp (disch := decide) only [State.beatCount, State.synced, State.rdB, State.cycle, State.rd_wr_row]
    rfl
  refine congrArg Host.Outcome.next ((State.whenUp_up up).trans ?_)
  simp (disch := decide) only [count, State.rdB, State.cycle, State.rd_wr_row, Bool.not_eq_true', bne_eq_false_iff_eq]

/-- An error wire released: its raw bit reads inactive. -/
theorem State.release_raw {s : State} {r src : Nat} (hs : src < 256) : bit ((s.release r src).rd r FCL_RAW) src = false := by
  unfold State.release
  split
  · rw [State.rd_wr_row _ _ _ _ (by decide) hs (by decide), State.wrBit, State.rd_wr_same, bit, Nat.testBit_mod_two_pow]
    exact Bool.and_eq_false_imp.mpr fun _ => by
      have := bit_putBit (s.rd r FCL_RAW) src src false
      rwa [if_pos rfl] at this
  · next idle => simpa using idle

theorem State.release_touches {P : PKey → Prop} {s u : State} (h : Touches P u s) (r src : Nat) (raw : P (FCL_RAW.key r 0))
    (quiet : P (FCL_QUIET_AT.key r src)) : Touches P u (s.release r src) :=
  Touches.ite ((h.wr raw).wr quiet) h

section
variable {l : LaneId} {s : State}

/-- A heartbeat counts: of an unsynchronised lane, the first one, or of the next cycle (R33). -/
def State.beatCounts (s : State) (l : LaneId) : Prop :=
  s.synced l = false ∨ s.rd l.reg INT_M_BEATS = 0 ∨ s.cycle l = nextCycle (s.rd l.reg INT_M_BEAT_CYC)

theorem beatCount_counts (h : s.beatCounts l) : s.beatCount l = s.rd l.reg INT_M_BEATS + 1 := if_pos (by simpa [State.beatCounts] using h)

theorem beatCount_same (h : ¬ s.beatCounts l) (same : s.cycle l = s.rd l.reg INT_M_BEAT_CYC) : s.beatCount l = s.rd l.reg INT_M_BEATS :=
  (if_neg (by simpa [State.beatCounts] using h)).trans (if_pos same)

theorem beatCount_missed (h : ¬ s.beatCounts l) (missed : s.cycle l ≠ s.rd l.reg INT_M_BEAT_CYC) : s.beatCount l = 1 :=
  (if_neg (by simpa [State.beatCounts] using h)).trans (if_neg missed)

/-- Below ten heartbeats the count goes on. -/
theorem mHeartbeat_counts (up : s.up l = true) (lost : s.rd l.reg INT_M_LOST ≠ 0) (lifecycle : Nat) {n : Nat} (hn : s.beatCount l = n) (below : n < 10) :
    Runs (.mHeartbeatReceive l lifecycle) s (fun t => Writes s t ([(INT_LIFECYCLE.key l.reg 0, lifecycle), (INT_M_BEAT_CYC.key l.reg 0, s.cycle l)] ++
      [(INT_M_BEATS.key l.reg 0, n)])) := by
  refine ⟨_, mHeartbeatReceive_eq up lifecycle, ?_⟩
  rw [if_neg lost, if_neg (by omega), hn]
  exact .of_puts (by simp only [List.map_cons, List.map_nil, List.cons_append, List.nil_append]; cases l <;> decide) rfl

/-- The tenth heartbeat in a row ends "M lost". -/
theorem mHeartbeat_ends (up : s.up l = true) (lost : s.rd l.reg INT_M_LOST ≠ 0) (lifecycle : Nat) (tenth : 10 ≤ s.beatCount l) :
    Runs (.mHeartbeatReceive l lifecycle) s (fun t => t.rd l.reg INT_M_LOST = 0 ∧ t.rd l.reg INT_M_BEATS = 0 ∧ bit (t.rd l.reg FCL_RAW) 14 = false ∧
      SameBut s t [INT_LIFECYCLE.key l.reg 0, INT_M_LOST.key l.reg 0, INT_M_BEATS.key l.reg 0, INT_M_BEAT_CYC.key l.reg 0, FCL_RAW.key l.reg 0,
        FCL_QUIET_AT.key l.reg 14]) := by
  refine ⟨_, mHeartbeatReceive_eq up lifecycle, ?_⟩
  rw [if_neg lost, if_pos tenth]
  have released {u : State} : TouchesRows [FCL_RAW, FCL_QUIET_AT] l.reg u (u.release l.reg 14) :=
    State.release_touches (.refl _ _) _ _ (RowPlace.key (by simp) _ (by decide)) (RowPlace.key (by simp) _ (by decide))
  refine ⟨?_, ?_, State.release_raw (by decide), ?_⟩
  · rw [released.rd (by decide) _ (by decide), State.rd_wr_row _ _ _ _ (by decide) (by decide) (by decide), State.rd_wr_zero]
  · rw [released.rd (by decide) _ (by decide), State.rd_wr_zero]
  · have wrote : Touches (· ∈ [INT_LIFECYCLE.key l.reg 0, INT_M_LOST.key l.reg 0, INT_M_BEATS.key l.reg 0, INT_M_BEAT_CYC.key l.reg 0, FCL_RAW.key l.reg 0,
        FCL_QUIET_AT.key l.reg 14]) s _ := ((((Touches.refl _ s).wr (v := lifecycle) (by simp : INT_LIFECYCLE.key l.reg 0 ∈ _)).wr (v := s.cycle l)
          (by simp : INT_M_BEAT_CYC.key l.reg 0 ∈ _)).wr (v := 0) (by simp : INT_M_LOST.key l.reg 0 ∈ _)).wr (v := 0) (by simp : INT_M_BEATS.key l.reg 0 ∈ _)
    have all := State.release_touches wrote l.reg 14 (by simp) (by simp)
    exact ⟨all.rest, all.get⟩

/-- M lost: the count of heartbeats begins anew; a wire that is active already is not asserted again. -/
theorem mLostTimeout_eq (up : s.up l = true) : exec (.mLostTimeout l) s = .next (
    if s.rd l.reg INT_M_LOST ≠ 0 then (if bit (s.rd l.reg FCL_RAW) 14 then s.wr l.reg INT_M_BEATS 0 0 else (s.wr l.reg INT_M_BEATS 0 0).raise l.reg 14 true)
    else ((((s.wr l.reg INT_M_BEATS 0 0).wr l.reg INT_M_LOST 0 1).raise l.reg 14 true).trcMLost l).event l 8 0) := by
  refine congrArg Host.Outcome.next ((State.whenUp_up up).trans ?_)
  simp (disch := decide) only [State.rdB, State.rd_wr_row, bne_iff_ne]

theorem mLost_again (up : s.up l = true) (lost : s.rd l.reg INT_M_LOST ≠ 0) (idle : bit (s.rd l.reg FCL_RAW) 14 = false) (n : NoReset s l.reg 14) :
    Runs (.mLostTimeout l) s (fun t =>
      t.rd l.reg INT_M_LOST = s.rd l.reg INT_M_LOST ∧ t.rd l.reg INT_M_BEATS = 0 ∧ (Judged s l.reg 14 → bit (t.rd l.reg FCL_ERR_STATUS) 14 = true ∧
        bit (t.rd l.reg FCL_RAW) 14 = true) ∧ SameOff (fun k => FaultPlace k ∨ k = INT_M_BEATS.key l.reg 0) s t) := by
  let u := s.wr l.reg INT_M_BEATS 0 0
  have noted : TouchesRows [INT_M_BEATS] l.reg s u := TouchesRows.wr (.refl _ _) (by simp) (by decide)
  have n' : NoReset u l.reg 14 := n.congr (noted.rd (by decide) _ (by decide)) fun _ => noted.rd (by decide) _ (by decide)
  have raised := State.raise_faults u l.reg 14 true n'
  refine ⟨u.raise l.reg 14 true, ?_, ?_, ?_, fun j => ?_, ?_⟩
  · rw [mLostTimeout_eq up, if_pos lost, if_neg (by simp [idle])]
  · rw [raised.rd (by decide) _ (by decide), noted.rd (by decide) _ (by decide)]
  · rw [raised.rd (by decide) _ (by decide), State.rd_wr_zero]
  · have j' := j.congr noted.part (noted.rd (by decide) _ (ownerOf_lt _ _)) (noted.rd (by decide) _ (by decide))
    exact ⟨State.raise_err j' n' (by cases l <;> decide), State.raise_raw j' n'⟩
  · exact ((SameOff.refl _ s).wr (Or.inr rfl)).trans (raised.get.mono fun _ => Or.inl)

theorem mLost_first (up : s.up l = true) (here : s.rd l.reg INT_M_LOST = 0) (n : NoReset s l.reg 14) :
    Runs (.mLostTimeout l) s (fun t => t.rd l.reg INT_M_LOST = 1 ∧ t.rd l.reg INT_M_BEATS = 0 ∧
      (s.rd l.reg TRC_STATE = 5 → t.rd l.reg TRC_STREAM_STATE = 2) ∧
      (Judged s l.reg 14 → bit (t.rd l.reg FCL_ERR_STATUS) 14 = true ∧ bit (t.rd l.reg FCL_RAW) 14 = true) ∧ SameOff (fun k => FaultPlace k ∨
        k ∈ [INT_M_LOST.key l.reg 0, INT_M_BEATS.key l.reg 0, TRC_STREAM_STATE.key l.reg 0]) s t) := by
  let u := (s.wr l.reg INT_M_BEATS 0 0).wr l.reg INT_M_LOST 0 1
  let v := u.raise l.reg 14 true
  have noted : TouchesRows [INT_M_BEATS, INT_M_LOST] l.reg s u :=
    TouchesRows.wr (TouchesRows.wr (.refl _ _) (by simp) (by decide)) (by simp) (by decide)
  have n' : NoReset u l.reg 14 := n.congr (noted.rd (by decide) _ (by decide)) fun _ => noted.rd (by decide) _ (by decide)
  have raised := State.raise_faults u l.reg 14 true n'
  have traced : TouchesRows [TRC_STREAM_STATE] l.reg v (v.trcMLost l) :=
    Touches.ite (TouchesRows.wr (.refl _ _) (by simp) (by decide)) (.refl _ _)
  have queued : LaneFrame (AnyRow [DPT_ORD_STATE, DPT_CNT_ORD_OVERLAP]) l.reg (v.trcMLost l) ((v.trcMLost l).event l 8 0) :=
    (LaneFrame.refl _ _ _).event (fun o ho => AnyRow.key (by simp) _ (by omega)) (fun o ho => AnyRow.key (by simp) _ (by omega)) 8 0
  have last {d : PDesc} (off : offRows [DPT_ORD_STATE, DPT_CNT_ORD_OVERLAP] d = true) (off' : offRows [TRC_STREAM_STATE] d = true) :
      ((v.trcMLost l).event l 8 0).rd l.reg d = v.rd l.reg d := by
    rw [queued.get.rd (not_anyRow off _ (by decide)), traced.rd off' _ (by decide)]
  refine ⟨(v.trcMLost l).event l 8 0, ?_, ?_, ?_, fun streams => ?_, fun j => ?_, ?_⟩
  · rw [mLostTimeout_eq up, if_neg (by simp [here])]
  · rw [last (by decide) (by decide), raised.rd (by decide) _ (by decide)]
    exact State.rd_wr_of_lt (by rw [widthOf_var (by decide)]; decide)
  · rw [last (by decide) (by decide), raised.rd (by decide) _ (by decide), State.rd_wr_row _ _ _ _ (by decide) (by decide) (by decide), State.rd_wr_zero]
  · have streams' : v.rd l.reg TRC_STATE = 5 := by
      rw [raised.rd (by decide) _ (by decide), noted.rd (by decide) _ (by decide), streams]
    rw [queued.get.rd (not_anyRow (by decide) _ (by decide)), State.trcMLost, if_pos streams']
    exact State.rd_wr_mapRow (by decide +kernel) (kindOf_reg l) (by decide) (by decide)
  · have j' := j.congr noted.part (noted.rd (by decide) _ (ownerOf_lt _ _)) (noted.rd (by decide) _ (by decide))
    rw [last (by decide) (by decide), last (by decide) (by decide)]
    exact ⟨State.raise_err j' n' (by cases l <;> decide), State.raise_raw j' n'⟩
  · have lost : SameOff (fun k => FaultPlace k ∨ k ∈ [INT_M_LOST.key l.reg 0, INT_M_BEATS.key l.reg 0, TRC_STREAM_STATE.key l.reg 0]) s u :=
      ((SameOff.refl _ s).wr (.inr (by simp))).wr (.inr (by simp))
    have streamed : SameOff (fun k => FaultPlace k ∨ k ∈ [INT_M_LOST.key l.reg 0, INT_M_BEATS.key l.reg 0, TRC_STREAM_STATE.key l.reg 0]) v (v.trcMLost l) :=
      (Touches.ite ((Touches.refl _ v).wr (.inr (by simp))) (.refl _ v)).get
    exact ((lost.trans (raised.get.mono fun _ => .inl)).trans streamed).trans ((State.event_faults (.refl _) 8 0).get.mono fun _ => .inl)

end

end Sys2Proof.Machine
end

section
/-! PROOFS. The image slots of a lane: their states, the announcements and the choice after the wait. -/

namespace Sys2Proof.Machine

open Par Var

/-! ### The states of the slots -/

section
variable {l : LaneId} {s t : State}

theorem setSlot_value (s : State) (l : LaneId) (i st : Nat) : (s.setSlot l i st).rd l.reg UPD_SLOT_STATE =
    (s.rd l.reg UPD_SLOT_STATE - s.slotState l i * 16 ^ i + st * 16 ^ i) % 2 ^ 8 := by
  rw [State.setSlot, State.rd_wr_same, widthOf_mapRow (by decide +kernel) (kindOf_reg l) (by decide)]
  rfl

theorem slotState_setSlot_same {i st : Nat} (hi : i < 2) (hs : st < 16) : (s.setSlot l i st).slotState l i = st := by
  rw [State.slotState, setSlot_value, State.slotState]
  obtain rfl | rfl : i = 0 ∨ i = 1 := by omega
  · rw [Nat.pow_zero]
    omega
  · rw [Nat.pow_one]
    omega

theorem slotState_setSlot_other {i st : Nat} (hi : i < 2) (hs : st < 16) : (s.setSlot l i st).slotState l (1 - i) = s.slotState l (1 - i) := by
  rw [State.slotState, setSlot_value, State.slotState, State.slotState]
  obtain rfl | rfl : i = 0 ∨ i = 1 := by omega
  · rw [Nat.sub_zero, Nat.pow_zero, Nat.pow_one]
    omega
  · rw [Nat.sub_self, Nat.pow_zero, Nat.pow_one]
    omega

theorem slotState_congr (h : t.rd l.reg UPD_SLOT_STATE = s.rd l.reg UPD_SLOT_STATE) (i : Nat) : t.slotState l i = s.slotState l i := by
  rw [State.slotState, h, State.slotState]

/-- The rows that show which slot is active. -/
def slotRows : List PDesc := [UPD_SLOT_STATE, UPD_ACT, UPD_ACTIVE_DIGEST]

theorem State.setSlot_touches {rows : List PDesc} {u : State} (h : TouchesRows rows l.reg u s) (hd : UPD_SLOT_STATE ∈ rows) (i st : Nat) :
    TouchesRows rows l.reg u (s.setSlot l i st) := h.wr hd (by decide)

theorem State.activate_touches {rows : List PDesc} {u : State} (h : TouchesRows rows l.reg u s) (ha : UPD_ACT ∈ rows) (hd : UPD_ACTIVE_DIGEST ∈ rows)
    (i : Nat) : TouchesRows rows l.reg u (s.activate l i) := (h.wr ha (by decide)).wr hd (by decide)

theorem activate_act {i : Nat} (hi : i < 2) : (s.activate l i).rd l.reg UPD_ACT = i + 1 := by
  rw [State.activate, State.rd_wr_row _ _ _ _ (by decide) (by decide) (by decide)]
  exact State.rd_wr_of_lt (by rw [widthOf_var (by decide)]; omega)

theorem activate_digest (i : Nat) : (s.activate l i).rd l.reg UPD_ACTIVE_DIGEST = (s.lane l).boot.dig i % 2 ^ 128 := by
  rw [State.activate, State.rd_wr_same, widthOf_mapRow (by decide +kernel) (kindOf_reg l) (by decide)]
  rfl

theorem activate_slot (i j : Nat) : (s.activate l i).slotState l j = s.slotState l j :=
  slotState_congr ((State.activate_touches (rows := [UPD_ACT, UPD_ACTIVE_DIGEST]) (.refl _ s) (by simp) (by simp) i).rd (by decide) _ (by decide)) j

/-! ### Announcements -/

/-- The announcements of a lane with that of a peer replaced. -/
def State.announced (s : State) (l peer : LaneId) (active pending : Nat) : State :=
  s.modLane l (fun x => { x with boot := { x.boot with ann := x.boot.ann.filter (fun e => e.1 != peer) ++ [(peer, active, pending)] } })

theorem slotAnnounceReceive_eq (there : s.hasRegion l.reg = true) (powered : s.rdB l.reg INT_POWERED = true) {peer : LaneId} (other : peer ≠ l)
    (active pending : Nat) : exec (.slotAnnounceReceive l peer active pending) s = .next (
      if s.on l.reg = true ∧ s.slotState l (s.actSlot l) = 3 ∧ active ≠ s.rd l.reg UPD_ACTIVE_DIGEST
      then ((s.announced l peer active pending).rejectTrial l).resetLane l else s.announced l peer active pending) := by
  refine congrArg Host.Outcome.next ((if_neg (by simp [there, powered, other])).trans ?_)
  show (let a := s.announced l peer active pending
    if a.on l.reg = true ∧ a.slotState l (a.actSlot l) = 3 ∧ active ≠ a.rd l.reg UPD_ACTIVE_DIGEST then (a.rejectTrial l).resetLane l else a) = _
  have params : (s.announced l peer active pending).params = s.params := by simp [State.announced]
  have part : (s.announced l peer active pending).part = s.part := by simp [State.announced]
  generalize s.announced l peer active pending = a at params part
  exact if_congr (by simp only [State.on, State.hasRegion, State.rdB, State.rd, State.slotState, State.actSlot, params, part]) rfl rfl

/-- The active slot in trial given up. -/
theorem rejectTrial_eq (trial : s.slotState l (s.actSlot l) = 3) : s.rejectTrial l = (s.setSlot l (s.actSlot l) 5).activate l (1 - s.actSlot l) := if_pos trial

theorem rejectTrial_leaves {i : Nat} (hi : i < 2) (act : s.rd l.reg UPD_ACT = i + 1) (trial : s.slotState l i = 3) :
    (s.rejectTrial l).slotState l i = 5 ∧ (s.rejectTrial l).rd l.reg UPD_ACT = 2 - i := by
  have slot : s.actSlot l = i := by rw [State.actSlot, act]; rfl
  rw [rejectTrial_eq (by rwa [slot]), slot, activate_slot, activate_act (by omega)]
  exact ⟨slotState_setSlot_same hi (by decide), by omega⟩

end

/-! ### A lane reset keeps the image slots -/

/-- What a lane reset keeps of the image slots and how it leaves the phase and the region epoch. -/
theorem resetLane_leaves (s : State) (l : LaneId) : (s.resetLane l).rd l.reg UPD_SLOT_STATE = s.rd l.reg UPD_SLOT_STATE ∧
    (s.resetLane l).rd l.reg UPD_ACT = s.rd l.reg UPD_ACT ∧ (s.resetLane l).rd l.reg FAB_PHASE = 0 ∧
    (s.resetLane l).rd l.reg FAB_REGION_EPOCH = (s.rd l.reg FAB_REGION_EPOCH + 1) % 2 ^ 32 := by
  unfold State.resetLane
  extract_lets power shorts gone held collected ords emptied loaded
  have up : UpKept l s power := State.resetPower_up ⟨.refl _ s⟩
  have gone_rd (d : PDesc) : gone.rd l.reg d = if keptAtReset (d.key l.reg 0) then power.rd l.reg d else resetOf (d.key l.reg 0) := by
    refine (Store.get_filter power.params (fun k => k.region != l.reg || keptAtReset k) _).trans ?_
    rw [show (d.key l.reg 0).region = l.reg from rfl, bne_self_eq_false, Bool.false_or]
    rfl
  have held_up : UpKept l gone held := UpKept.foldl (fun _ _ g => g.row (by decide)) _ ⟨.refl _ gone⟩
  have collected_up : UpKept l gone collected := State.dropLinks_up (State.fclAfterReset_up held_up _) _
  have loaded_up : UpKept l (collected.raiseEpoch l.reg) (ords.foldl (fun s x => s.wr l.reg DPT_ORD_STATE x.o 1) loaded) :=
    UpKept.foldl (fun _ _ g => g.row (by decide)) _ (UpKept.of_params ⟨.refl _ _⟩ (by simp [loaded]))
  have last {d : PDesc} (hd : d.block ∈ upBlocks) (off : offRows [INT_REJOINING] d = true) :
      ((ords.foldl (fun s x => s.wr l.reg DPT_ORD_STATE x.o 1) loaded).wr l.reg INT_REJOINING 0 1).rd l.reg d = (collected.raiseEpoch l.reg).rd l.reg d := by
    rw [State.rd_wr_row _ _ _ _ off (by decide) (by decide), loaded_up.own_rd hd]
  have raised {d : PDesc} (hd : d.block ∈ upBlocks) (off : offRows [INT_REJOINING] d = true) (off' : offRows [FAB_REGION_EPOCH] d = true) :
      ((ords.foldl (fun s x => s.wr l.reg DPT_ORD_STATE x.o 1) loaded).wr l.reg INT_REJOINING 0 1).rd l.reg d =
        if keptAtReset (d.key l.reg 0) then s.rd l.reg d else resetOf (d.key l.reg 0) := by
    rw [last hd off, State.raiseEpoch, State.rd_wr_row _ _ _ _ off' (by decide) (by decide), collected_up.own_rd hd, gone_rd,
      up.own_rd hd]
  refine ⟨?_, ?_, ?_, ?_⟩
  · rw [raised (by decide) (by decide) (by decide), if_pos (by cases l <;> decide)]
  · rw [raised (by decide) (by decide) (by decide), if_pos (by cases l <;> decide)]
  · rw [raised (by decide) (by decide) (by decide), if_neg (by cases l <;> decide)]
    cases l <;> decide
  · rw [last (by decide) (by decide), State.raiseEpoch, State.rd_wr_same, collected_up.own_rd (by decide), gone_rd,
      if_pos (by cases l <;> decide), up.own_rd (by decide), widthOf_mapRow (by decide +kernel) (kindOf_reg l) (by decide)]
    exact Nat.mod_mod _ _

/-! ### SLOT_ANNOUNCE_RECEIVE -/

section
variable {l peer : LaneId} {active pending : Nat} {s : State}

theorem slotAnnounce_kept (there : s.hasRegion l.reg = true) (powered : s.rdB l.reg INT_POWERED = true) (other : peer ≠ l)
    (quiet : ¬ (s.on l.reg = true ∧ s.slotState l (s.actSlot l) = 3 ∧ active ≠ s.rd l.reg UPD_ACTIVE_DIGEST)) :
    Runs (.slotAnnounceReceive l peer active pending) s (fun t => t.params = s.params ∧ t.sent = s.sent ∧
      SameOtherLanes s t l ∧ ∀ e, e ∈ (t.lane l).boot.ann ↔ e = (peer, active, pending) ∨ (e ∈ (s.lane l).boot.ann ∧ e.1 ≠ peer)) := by
  refine ⟨s.announced l peer active pending, ?_, by simp [State.announced], by simp [State.announced], fun x hx => ?_, fun e => ?_⟩
  · rw [slotAnnounceReceive_eq there powered other, if_neg quiet]
  · exact State.lane_modLane_ne _ _ hx
  · rw [State.announced, State.lane_modLane]
    simp only [List.mem_append, List.mem_filter, List.mem_singleton, bne_iff_ne]
    tauto

theorem slotAnnounce_tried (there : s.hasRegion l.reg = true) (powered : s.rdB l.reg INT_POWERED = true) (other : peer ≠ l)
    (tried : s.on l.reg = true ∧ s.slotState l (s.actSlot l) = 3 ∧ active ≠ s.rd l.reg UPD_ACTIVE_DIGEST) {i : Nat} (hi : i < 2)
    (act : s.rd l.reg UPD_ACT = i + 1) (slot : s.actSlot l = i) :
    Runs (.slotAnnounceReceive l peer active pending) s (fun t => t.slotState l i = 5 ∧ t.rd l.reg UPD_ACT = 2 - i ∧ t.rd l.reg FAB_PHASE = 0 ∧
      t.rd l.reg FAB_REGION_EPOCH = (s.rd l.reg FAB_REGION_EPOCH + 1) % 2 ^ 32) := by
  let a := s.announced l peer active pending
  have params : a.params = s.params := by simp [a, State.announced]
  have act' : a.rd l.reg UPD_ACT = i + 1 := by rw [State.rd, params]; exact act
  have trial : a.slotState l i = 3 := by
    rw [slotState_congr (s := s) (by rw [State.rd, params, State.rd]), ← slot]
    exact tried.2.1
  obtain ⟨slots, active', phase, epoch⟩ := resetLane_leaves (a.rejectTrial l) l
  obtain ⟨rejected, back⟩ := rejectTrial_leaves hi act' trial
  refine ⟨(a.rejectTrial l).resetLane l, ?_, ?_, ?_, phase, ?_⟩
  · rw [slotAnnounceReceive_eq there powered other, if_pos tried]
  · rw [slotState_congr slots, rejected]
  · rw [active', back]
  · have kept : TouchesRows slotRows l.reg a (a.rejectTrial l) :=
      Touches.ite (State.activate_touches (State.setSlot_touches (.refl _ a) (by simp [slotRows]) _ _) (by simp [slotRows]) (by simp [slotRows]) _) (.refl _ a)
    rw [epoch, kept.rd (by decide) _ (by decide), State.rd, params, State.rd]

theorem slotAnnounce_self : Runs (.slotAnnounceReceive l l active pending) s (fun t => t = s) :=
  ⟨s, congrArg Host.Outcome.next (if_pos (by simp)), rfl⟩

end

/-! ### SLOT_ANNOUNCE_TIMEOUT -/

section
variable {l : LaneId} {s t u : State}

/-- The rows by which a self-test record is judged. -/
def recordRows : List PDesc := [BST_REC_ON, BST_REC, BST_OP_TIME, INT_POWERED, PWR_STATE, INT_ON_AT, UPD_ACTIVE_DIGEST, INT_LIFECYCLE]

theorem recValid_congr (h : ∀ d ∈ recordRows, t.rd l.reg d = s.rd l.reg d) (now : t.now = s.now) : t.recValid l = s.recValid l := by
  have rd {d : PDesc} (hd : d ∈ recordRows) : t.rd l.reg d = s.rd l.reg d := h d hd
  simp only [State.recValid, State.recField, State.recAge, State.opTime, State.rdB, now, rd (d := BST_REC_ON) (by simp [recordRows]),
    rd (d := BST_REC) (by simp [recordRows]), rd (d := BST_OP_TIME) (by simp [recordRows]), rd (d := INT_POWERED) (by simp [recordRows]),
    rd (d := PWR_STATE) (by simp [recordRows]), rd (d := INT_ON_AT) (by simp [recordRows]), rd (d := UPD_ACTIVE_DIGEST) (by simp [recordRows]),
    rd (d := INT_LIFECYCLE) (by simp [recordRows])]
  rfl

/-- The slot chosen, the record judged: READY is near, or LBIST runs first. -/
def State.judgeRecord (u : State) (l : LaneId) : State :=
  if u.recValid l then u.wr l.reg INT_BOOT 0 3
  else ((((u.wr l.reg INT_BOOT 0 2).wr l.reg BST_STATE 0 5).wr l.reg BST_LB_DONE 0 0).wr l.reg FAB_PHASE 0 2).wr l.pow FAB_PHASE 0 2

/-- The places that the judgement of the record writes. -/
def judgePlaces (l : LaneId) : List PKey :=
  [INT_BOOT.key l.reg 0, BST_STATE.key l.reg 0, BST_LB_DONE.key l.reg 0, FAB_PHASE.key l.reg 0, FAB_PHASE.key l.pow 0]

theorem State.judgeRecord_touches {P : PKey → Prop} (h : Touches P s u) (hp : ∀ k ∈ judgePlaces l, P k) : Touches P s (u.judgeRecord l) :=
  Touches.ite (h.wr (hp _ (by simp [judgePlaces]))) (((((h.wr (hp _ (by simp [judgePlaces]))).wr (hp _ (by simp [judgePlaces]))).wr
    (hp _ (by simp [judgePlaces]))).wr (hp _ (by simp [judgePlaces]))).wr (hp _ (by simp [judgePlaces])))

theorem judgePlaces_row {k : PKey} (h : k ∈ judgePlaces l) : AnyRow [INT_BOOT, BST_STATE, BST_LB_DONE, FAB_PHASE] k := by
  simp only [judgePlaces, List.mem_cons, List.not_mem_nil, or_false] at h
  rcases h with rfl | rfl | rfl | rfl | rfl <;> exact AnyRow.key (by simp) _ (by decide)

theorem State.judgeRecord_rows (u : State) (l : LaneId) : Touches (AnyRow [INT_BOOT, BST_STATE, BST_LB_DONE, FAB_PHASE]) u (u.judgeRecord l) :=
  State.judgeRecord_touches (.refl _ u) fun _ => judgePlaces_row

theorem judgeRecord_leaves (u : State) (l : LaneId) :
    ((u.judgeRecord l).recValid l = true → (u.judgeRecord l).rd l.reg INT_BOOT = 3 ∧ (u.judgeRecord l).rd l.reg FAB_PHASE = u.rd l.reg FAB_PHASE) ∧
    ((u.judgeRecord l).recValid l = false → (u.judgeRecord l).rd l.reg INT_BOOT = 2 ∧ (u.judgeRecord l).rd l.reg BST_STATE = 5 ∧ (u.judgeRecord l).rd l.reg FAB_PHASE = 2 ∧
      (u.judgeRecord l).rd l.pow FAB_PHASE = 2) := by
  have rows := u.judgeRecord_rows l
  have same : (u.judgeRecord l).recValid l = u.recValid l := recValid_congr (fun d hd => by
    refine rows.rd (not_anyRow ?_ _ (by decide))
    revert d
    decide) rows.now
  rw [same]
  constructor
  · intro valid
    rw [State.judgeRecord, if_pos valid]
    exact ⟨State.rd_wr_of_lt (by rw [widthOf_var (by decide)]; decide), State.rd_wr_row _ _ _ _ (by decide) (by decide) (by decide)⟩
  · intro invalid
    rw [State.judgeRecord, if_neg (by simp [invalid])]
    refine ⟨?_, ?_, ?_, ?_⟩
    · simp (disch := decide) only [State.rd_wr_row]
      exact State.rd_wr_of_lt (by rw [widthOf_var (by decide)]; decide)
    · simp (disch := decide) only [State.rd_wr_row]
      exact State.rd_wr_mapRow (by decide +kernel) (kindOf_reg l) (by decide) (by decide)
    · rw [State.rd_wr_region _ _ _ _ _ _ (reg_ne_pow l l)]
      exact State.rd_wr_mapRow (by decide +kernel) (kindOf_reg l) (by decide) (by decide)
    · exact State.rd_wr_mapRow (by decide +kernel) (kindOf_pow l) (by decide) (by decide)

theorem slotAnnounceTimeout_eq (boot : s.rd l.reg INT_BOOT = 1) (moved : Bool) :
    exec (.slotAnnounceTimeout l moved) s = .next ((s.chooseSlot l moved).judgeRecord l) :=
  congrArg Host.Outcome.next (if_neg (by simp [boot]))

/-- With no slot to try the record is judged, and nothing else changes. -/
theorem judged_only (boot : s.rd l.reg INT_BOOT = 1) {moved : Bool} (stays : s.chooseSlot l moved = s) :
    Runs (.slotAnnounceTimeout l moved) s (fun t => ((t.recValid l = true → t.rd l.reg INT_BOOT = 3 ∧ t.rd l.reg FAB_PHASE = s.rd l.reg FAB_PHASE) ∧
      (t.recValid l = false → t.rd l.reg INT_BOOT = 2 ∧ t.rd l.reg BST_STATE = 5 ∧ t.rd l.reg FAB_PHASE = 2 ∧ t.rd l.pow FAB_PHASE = 2)) ∧
      SameBut s t (judgePlaces l)) := by
  have touched : Touches (· ∈ judgePlaces l) s (s.judgeRecord l) := State.judgeRecord_touches (.refl _ s) fun _ => id
  exact ⟨s.judgeRecord l, by rw [slotAnnounceTimeout_eq boot, stays], judgeRecord_leaves s l, touched.rest, touched.get⟩

theorem chooseSlot_stays {moved : Bool} (h : moved = true ∨ s.pendingDigest l = 0 ∨
    ¬ ∀ p ∈ s.peersOf l, ∃ e ∈ (s.lane l).boot.ann, e.1 = p ∧ e.2.2 = s.pendingDigest l) : s.chooseSlot l moved = s := by
  have off : (s.pendingDigest l != 0 && (s.peersOf l).all (fun p => (s.lane l).boot.ann.any (fun e => e.1 == p && e.2.2 == s.pendingDigest l)) &&
      !moved) = false := by
    rw [← Bool.not_eq_true]
    simp only [Bool.and_eq_true, bne_iff_ne, List.all_eq_true, List.any_eq_true, beq_iff_eq, Bool.not_eq_true']
    rintro ⟨⟨some, agreed⟩, still⟩
    rcases h with h | h | h
    · simp [h] at still
    · exact some h
    · exact h agreed
  unfold State.chooseSlot
  extract_lets d all
  split
  · exact if_neg (by simp only [d, all, off]; decide)
  · rfl

/-- The lowest PENDING slot. -/
theorem find_pending {i : Nat} (hi : i < 2) (pending : s.slotState l i = 2) (lower : ∀ j, j < i → s.slotState l j ≠ 2) :
    [0, 1].find? (fun i => s.slotState l i == 2) = some i := by
  obtain rfl | rfl : i = 0 ∨ i = 1 := by omega
  · simp [pending]
  · simp [pending, lower 0 (by decide)]

theorem chooseSlot_tries {i : Nat} (hi : i < 2) (some : s.pendingDigest l ≠ 0)
    (agreed : ∀ p ∈ s.peersOf l, ∃ e ∈ (s.lane l).boot.ann, e.1 = p ∧ e.2.2 = s.pendingDigest l) (pending : s.slotState l i = 2)
    (lower : ∀ j, j < i → s.slotState l j ≠ 2) :
    s.chooseSlot l false = ((s.setSlot l i 3).activate l i).wr l.reg UPD_TRIAL_OK 0 0 := by
  unfold State.chooseSlot
  extract_lets d all
  rw [find_pending hi pending lower]
  refine if_pos ?_
  simp only [Bool.and_eq_true, bne_iff_ne, List.all_eq_true, List.any_eq_true, beq_iff_eq, Bool.not_false, and_true, d, all]
  exact ⟨some, agreed⟩

theorem pendingDigest_eq {i : Nat} (hi : i < 2) (pending : s.slotState l i = 2) (lower : ∀ j, j < i → s.slotState l j ≠ 2) :
    s.pendingDigest l = (s.lane l).boot.dig i := by
  rw [State.pendingDigest, find_pending hi pending lower]

theorem slot_tried {i : Nat} (hi : i < 2) (boot : s.rd l.reg INT_BOOT = 1) (some : s.pendingDigest l ≠ 0)
    (agreed : ∀ p ∈ s.peersOf l, ∃ e ∈ (s.lane l).boot.ann, e.1 = p ∧ e.2.2 = s.pendingDigest l) (pending : s.slotState l i = 2)
    (lower : ∀ j, j < i → s.slotState l j ≠ 2) :
    Runs (.slotAnnounceTimeout l false) s (fun t => ((t.recValid l = true → t.rd l.reg INT_BOOT = 3 ∧ t.rd l.reg FAB_PHASE = s.rd l.reg FAB_PHASE) ∧
      (t.recValid l = false → t.rd l.reg INT_BOOT = 2 ∧ t.rd l.reg BST_STATE = 5 ∧ t.rd l.reg FAB_PHASE = 2 ∧ t.rd l.pow FAB_PHASE = 2)) ∧
      t.slotState l i = 3 ∧ t.slotState l (1 - i) = s.slotState l (1 - i) ∧ t.rd l.reg UPD_ACT = i + 1 ∧
      t.rd l.reg UPD_ACTIVE_DIGEST = s.pendingDigest l % 2 ^ 128 ∧ t.rdB l.reg UPD_TRIAL_OK = false ∧ SameBut s t (judgePlaces l ++
        [UPD_SLOT_STATE.key l.reg 0, UPD_ACT.key l.reg 0, UPD_ACTIVE_DIGEST.key l.reg 0, UPD_TRIAL_OK.key l.reg 0])) := by
  let a := (s.setSlot l i 3).activate l i
  let c := a.wr l.reg UPD_TRIAL_OK 0 0
  have rows := c.judgeRecord_rows l
  have cleared : TouchesRows [UPD_TRIAL_OK] l.reg a c := TouchesRows.wr (.refl _ a) (by simp) (by decide)
  have chosen : TouchesRows (UPD_TRIAL_OK :: slotRows) l.reg s c :=
    TouchesRows.wr (State.activate_touches (State.setSlot_touches (.refl _ s) (by simp [slotRows]) _ _) (by simp [slotRows]) (by simp [slotRows]) _)
      (by simp) (by decide)
  have slots (j : Nat) : (c.judgeRecord l).slotState l j = (s.setSlot l i 3).slotState l j := by
    rw [slotState_congr (rows.rd (not_anyRow (by decide) _ (by decide))), slotState_congr (cleared.rd (by decide) _ (by decide)), activate_slot]
  obtain ⟨valid, invalid⟩ := judgeRecord_leaves c l
  refine ⟨c.judgeRecord l, by rw [slotAnnounceTimeout_eq boot, chooseSlot_tries hi some agreed pending lower],
    ⟨fun h => ⟨(valid h).1, (valid h).2.trans (chosen.rd (by decide) _ (by decide))⟩, invalid⟩, ?_, ?_, ?_, ?_, ?_, ?_⟩
  · rw [slots, slotState_setSlot_same hi (by decide)]
  · rw [slots, slotState_setSlot_other hi (by decide)]
  · rw [rows.rd (not_anyRow (by decide) _ (by decide)), cleared.rd (by decide) _ (by decide), activate_act hi]
  · rw [rows.rd (not_anyRow (by decide) _ (by decide)), cleared.rd (by decide) _ (by decide), activate_digest, pendingDigest_eq hi pending lower,
      State.setSlot, State.wr_lane]
  · rw [State.rdB, rows.rd (not_anyRow (by decide) _ (by decide)), State.rd_wr_zero]
    rfl
  · have wrote : Touches (· ∈ judgePlaces l ++ [UPD_SLOT_STATE.key l.reg 0, UPD_ACT.key l.reg 0, UPD_ACTIVE_DIGEST.key l.reg 0, UPD_TRIAL_OK.key l.reg 0])
        s c := ((((Touches.refl _ s).wr (by simp)).wr (by simp)).wr (by simp)).wr (by simp)
    have all := State.judgeRecord_touches (l := l) wrote fun k hk => List.mem_append_left _ hk
    exact ⟨all.rest, all.get⟩

end
end Sys2Proof.Machine
end

section
/-! PROOFS. A lane READY after its start. -/

namespace Sys2Proof.Machine

open Par Var

/-! ### Frames by rows -/

namespace LaneFrame

variable {rows : List PDesc} {r : Nat} {l : LaneId} {s t : State}

theorem row (h : LaneFrame (AnyRow rows) r s t) {d : PDesc} (hd : d ∈ rows) {r' i v : Nat} (hi : i < 256) : LaneFrame (AnyRow rows) r s (t.wr r' d i v) :=
  h.wr (AnyRow.key hd r' hi)

theorem release (h : LaneFrame (AnyRow rows) r s t) (sub : [FCL_RAW, FCL_QUIET_AT] ⊆ rows) (r' : Nat) {src : Nat} (hs : src < 256) :
    LaneFrame (AnyRow rows) r s (t.release r' src) :=
  ite ((h.row (sub (by simp)) (by decide)).row (sub (by simp)) hs) h

/-- One value written to the first place of some rows. -/
theorem rows_foldl (h : LaneFrame (AnyRow rows) r s t) {ds : List PDesc} (sub : ds ⊆ rows) (r' v : Nat) :
    LaneFrame (AnyRow rows) r s (ds.foldl (fun s d => s.wr r' d 0 v) t) :=
  foldl_mem ds (fun _ _ hd g => g.row (sub hd) (by decide)) h

theorem rd (h : LaneFrame (AnyRow rows) r s t) {d : PDesc} (off : offRows rows d = true) (r' : Nat) {i : Nat} (hi : i < 256) :
    t.rd r' d i = s.rd r' d i := h.get.rd (not_anyRow off r' hi)

theorem sub {rows' : List PDesc} (h : LaneFrame (AnyRow rows) r s t) (sub : rows ⊆ rows') : LaneFrame (AnyRow rows') r s t :=
  h.mono fun _ ⟨d, hd, e⟩ => ⟨d, sub hd, e⟩

end LaneFrame

/-! ### The Towline of a lane -/

/-- The rows that a node clears as it enters LISTEN. -/
def listenRows : List PDesc :=
  [VOT_AN_STATE, VOT_DI_VALUE, FCL_RAW, FCL_QUIET_AT, TWL_SEEN_NOW, TWL_JUNK_NOW, TWL_RAILS, TWL_ACTIVE, TWL_SENT, TWL_RB_OK, TWL_RESENT, TWL_RX_GOT,
    TWL_SEEN_PREV, TWL_JUNK_PREV, TWL_NOVAL_N, TWL_OFFC_N, TWL_RATEC_N, LKG_OPEN, LKG_STATE]

/-- The rows that a node writes as it starts. -/
def nodeRows : List PDesc :=
  listenRows ++ [TWL_STATE, TWL_C, TWL_CYCLE, INT_CYCLE_START, INT_SYNCED, WBE_RESYNC, STF_LISTEN, STF_WAIT_ON, STF_WAIT_AT, STF_LINK_OUT, STF_XFER_ON,
    STF_XFER_AT]

section
variable {l : LaneId} {s t u : State}

/-- The node in LISTEN at cycle 0 without synchronisation, before what it had gathered is cleared. -/
def State.unsynced (s : State) (l : LaneId) : State := ((s.wr l.reg TWL_STATE 0 1).wr l.reg TWL_CYCLE 0 0).wr l.reg INT_SYNCED 0 0

theorem State.setsInvalid_frame (h : LaneFrame (AnyRow listenRows) l.reg u s) : LaneFrame (AnyRow listenRows) l.reg u (s.setsInvalid l) :=
  ((LaneFrame.foldl_mem _ (fun _ i hi g => LaneFrame.ite g (g.row (by simp [listenRows]) (by have := List.mem_range.mp hi; omega))) h).row
    (by simp [listenRows]) (by decide)).release (by simp [listenRows]) _ (by decide)

theorem State.twlListen_clears (s : State) (l : LaneId) : LaneFrame (AnyRow listenRows) l.reg (s.unsynced l) (s.twlListen l) := by
  unfold State.twlListen State.twlClear
  extract_lets invalid fresh bare cleared counts closed
  have bare_frame : LaneFrame (AnyRow listenRows) l.reg (s.unsynced l) bare := ((State.setsInvalid_frame (.refl _ _ _)).modLane _).modLane _
  have cleared_frame : LaneFrame (AnyRow listenRows) l.reg (s.unsynced l) cleared :=
    ((bare_frame.rows_foldl (by simp [listenRows]) _ _).row (by simp [listenRows]) (by decide)).row (by simp [listenRows]) (by decide)
  have closed_frame : LaneFrame (AnyRow listenRows) l.reg (s.unsynced l) closed :=
    (cleared_frame.rows_foldl (by simp [listenRows]) _ _).row (by simp [listenRows]) (by decide)
  exact LaneFrame.ite closed_frame (closed_frame.row (by simp [listenRows]) (by decide))

/-- A node in LISTEN is not synchronised (R415). -/
theorem twlListen_leaves (s : State) (l : LaneId) : (s.twlListen l).twlState l = 1 ∧ (s.twlListen l).rd l.reg INT_SYNCED = 0 := by
  have clears := s.twlListen_clears l
  refine ⟨?_, ?_⟩
  · rw [State.twlState, clears.rd (by decide) _ (by decide), State.unsynced, State.rd_wr_row _ _ _ _ (by decide) (by decide) (by decide),
      State.rd_wr_row _ _ _ _ (by decide) (by decide) (by decide)]
    exact State.rd_wr_mapRow (by decide +kernel) (kindOf_reg l) (by decide) (by decide)
  · rw [clears.rd (by decide) _ (by decide), State.unsynced, State.rd_wr_zero]

abbrev NodeFrame (l : LaneId) (s t : State) : Prop := LaneFrame (AnyRow nodeRows) l.reg s t

theorem State.twlListen_node (h : NodeFrame l u s) : NodeFrame l u (s.twlListen l) :=
  LaneFrame.trans (((h.row (by simp [nodeRows]) (by decide)).row (by simp [nodeRows]) (by decide)).row (by simp [nodeRows]) (by decide))
    ((s.twlListen_clears l).sub (by simp [nodeRows]))

theorem State.hearRejoin_node (h : NodeFrame l u s) : NodeFrame l u (s.hearRejoin l) := by
  unfold State.hearRejoin State.beginRejoin State.requestXfer
  refine LaneFrame.ite (LaneFrame.ite h (LaneFrame.foldl_mem _ (fun _ _ _ g => g.send _) ?_)) h
  exact (((h.row (by simp [nodeRows]) (by decide)).row (by simp [nodeRows]) (by decide)).row (by simp [nodeRows]) (by decide)).row
    (by simp [nodeRows]) (by decide)

theorem State.nowSynced_node (h : NodeFrame l u s) : NodeFrame l u (s.nowSynced l) := by
  unfold State.nowSynced
  extract_lets synced listens waits
  have synced_node : NodeFrame l u synced := (h.row (by simp [nodeRows]) (by decide)).row (by simp [nodeRows]) (by decide)
  have listens_node : NodeFrame l u listens := LaneFrame.ite (synced_node.row (by simp [nodeRows]) (by decide)) synced_node
  exact State.hearRejoin_node (LaneFrame.ite listens_node ((listens_node.row (by simp [nodeRows]) (by decide)).row (by simp [nodeRows]) (by decide)))

theorem State.twlStart_node (h : NodeFrame l u s) : NodeFrame l u (s.twlStart l) :=
  LaneFrame.ite h (LaneFrame.ite (State.nowSynced_node ((((h.row (by simp [nodeRows]) (by decide)).row (by simp [nodeRows]) (by decide)).row
    (by simp [nodeRows]) (by decide)).row (by simp [nodeRows]) (by decide))) (State.twlListen_node h))

theorem twlStart_off (off : s.rdB l.reg TWL_EN = false) : s.twlStart l = s := if_pos (.inl (by simp [off]))

theorem twlStart_listens (on : s.rdB l.reg TWL_EN = true) (keeper : s.rd l.reg LKG_STATE ≠ 5) (part : s.part ≠ .fj3821) : s.twlStart l = s.twlListen l :=
  (if_neg (by simp [on, keeper])).trans (if_neg part)

/-! ### The timetable -/

/-- The digest of a timetable is of its parameters (R397). -/
theorem ttDigest_congr (h : ∀ d ∈ [TWL_CYCLE_LEN, TWL_NIT_LEN, TWL_SAMPLE_OFFSET, TWL_LATCH_OFFSET, TWL_COLDSTART_NODES, TWL_PATH_START, TWL_PATH_LEN,
    TWL_PATH_OWNER, TWL_PATH_KIND, TWL_PATH_PAYLOAD], ∀ i, i < 64 → t.rd l.reg d i = s.rd l.reg d i) : t.ttDigest l = s.ttDigest l := by
  have paths : (List.range 64).flatMap (fun p => [TWL_PATH_START, TWL_PATH_LEN, TWL_PATH_OWNER, TWL_PATH_KIND, TWL_PATH_PAYLOAD].map (fun d => t.rd l.reg d p)) =
      (List.range 64).flatMap (fun p => [TWL_PATH_START, TWL_PATH_LEN, TWL_PATH_OWNER, TWL_PATH_KIND, TWL_PATH_PAYLOAD].map (fun d => s.rd l.reg d p)) :=
    List.flatMap_congr fun p hp => List.map_congr_left fun d hd => h d (List.mem_append_right [TWL_CYCLE_LEN, TWL_NIT_LEN, TWL_SAMPLE_OFFSET, TWL_LATCH_OFFSET,
      TWL_COLDSTART_NODES] hd) p (List.mem_range.mp hp)
  have head : [TWL_CYCLE_LEN, TWL_NIT_LEN, TWL_SAMPLE_OFFSET, TWL_LATCH_OFFSET, TWL_COLDSTART_NODES].map (fun d => t.rd l.reg d) =
      [TWL_CYCLE_LEN, TWL_NIT_LEN, TWL_SAMPLE_OFFSET, TWL_LATCH_OFFSET, TWL_COLDSTART_NODES].map (fun d => s.rd l.reg d) :=
    List.map_congr_left fun d hd => h d (List.mem_append_left [TWL_PATH_START, TWL_PATH_LEN, TWL_PATH_OWNER, TWL_PATH_KIND, TWL_PATH_PAYLOAD] hd) 0 (by decide)
  simp only [State.ttDigest, head, paths]

/-- The timetable's digest and the check of its copy noted. -/
def State.noteTables (s : State) (l : LaneId) : State := (s.wr l.reg TWL_TT_DIGEST 0 (s.ttDigest l)).wr l.reg LKG_TT_CRC 0 (s.lkgCrc l)

theorem State.noteTables_touches (s : State) (l : LaneId) : TouchesRows [TWL_TT_DIGEST, LKG_TT_CRC] l.reg s (s.noteTables l) :=
  TouchesRows.wr (TouchesRows.wr (.refl _ s) (by simp) (by decide)) (by simp) (by decide)

theorem noteTables_digest (s : State) (l : LaneId) : (s.noteTables l).rd l.reg TWL_TT_DIGEST = s.ttDigest l % 2 ^ 32 := by
  rw [State.noteTables, State.rd_wr_row _ _ _ _ (by decide) (by decide) (by decide), State.rd_wr_same, widthOf_mapRow (by decide +kernel) (kindOf_reg l) (by decide)]
  rfl

theorem twlTables_eq (s : State) (l : LaneId) : s.twlTables l =
    if s.rd l.reg LKG_STATE = 5 then (((s.noteTables l).wr l.reg LKG_STATE 0 0).release l.reg 43).twlStart l else s.noteTables l := by
  rw [← (s.noteTables_touches l).rd (by decide) _ (by decide)]
  unfold State.twlTables State.noteTables
  rfl

theorem twlTables_keeps (h : s.rd l.reg LKG_STATE ≠ 5) : s.twlTables l = s.noteTables l := by rw [twlTables_eq, if_neg h]

theorem State.twlTables_node (s : State) (l : LaneId) : NodeFrame l (s.noteTables l) (s.twlTables l) := by
  rw [twlTables_eq]
  exact LaneFrame.ite (State.twlStart_node (((LaneFrame.refl _ _ _).row (by simp [nodeRows, listenRows]) (by decide)).release (by simp [nodeRows, listenRows]) _
    (by decide))) (.refl _ _ _)

/-- With the node disabled the timetables leave its state. -/
theorem twlTables_off (off : s.rdB l.reg TWL_EN = false) : LaneFrame (AnyRow listenRows) l.reg (s.noteTables l) (s.twlTables l) := by
  have cleared : LaneFrame (AnyRow listenRows) l.reg (s.noteTables l) (((s.noteTables l).wr l.reg LKG_STATE 0 0).release l.reg 43) :=
    ((LaneFrame.refl _ _ _).row (by simp [listenRows]) (by decide)).release (by simp [listenRows]) _ (by decide)
  rw [twlTables_eq, twlStart_off]
  · exact LaneFrame.ite cleared (.refl _ _ _)
  · rw [State.rdB, cleared.rd (by decide) _ (by decide), (s.noteTables_touches l).rd (by decide) _ (by decide)]
    exact off

/-! ### LANE_READY -/

/-- The rows that the lane die and its power die out of START write. -/
def outRows : List PDesc := [INT_BOOT, BST_STATE, BST_LB_DONE, FAB_PHASE, SUP_STATE, CLK_FREQ, STF_STEP_FAIL, FCL_RAW, FCL_QUIET_AT]

/-- The clocks and the steps of a rejoin as a lane die leaves START. -/
def clockRows : List PDesc := [CLK_FREQ, STF_STEP_FAIL, FCL_RAW, FCL_QUIET_AT]

/-- The lane die and its power die out of START. -/
def State.leaveStart (s : State) (l : LaneId) : State :=
  (((((s.wr l.reg INT_BOOT 0 0).wr l.reg BST_STATE 0 0).wr l.reg BST_LB_DONE 0 0).wr l.reg FAB_PHASE 0 3).wr l.pow FAB_PHASE 0 3).wr l.pow SUP_STATE 0 2

theorem State.leaveStart_touches (s : State) (l : LaneId) : Touches (AnyRow outRows) s (s.leaveStart l) :=
  ((((((Touches.refl _ s).wr (.key (by simp [outRows]) _ (by decide))).wr (.key (by simp [outRows]) _ (by decide))).wr (.key (by simp [outRows]) _
    (by decide))).wr (.key (by simp [outRows]) _ (by decide))).wr (.key (by simp [outRows]) _ (by decide))).wr (.key (by simp [outRows]) _ (by decide))

/-- The clocks set, step 1 of a rejoin passed. -/
theorem State.readyDies_clocks (s : State) (l : LaneId) : TouchesRows clockRows l.reg (s.leaveStart l) (s.readyDies l) :=
  State.release_touches (TouchesRows.wr (Touches.foldl_mem _ (fun _ i hi g => TouchesRows.wr g (by simp [clockRows])
    (by have := List.mem_range.mp hi; omega)) (.refl _ _)) (by simp [clockRows]) (by decide)) _ _ (RowPlace.key (by simp [clockRows]) _ (by decide))
    (RowPlace.key (by simp [clockRows]) _ (by decide))

theorem State.readyDies_touches (s : State) (l : LaneId) : Touches (AnyRow outRows) s (s.readyDies l) :=
  (s.leaveStart_touches l).trans (Touches.mono (s.readyDies_clocks l) fun _ place => (place.mono (by simp [clockRows, outRows])).2)

theorem readyDies_leaves (s : State) (l : LaneId) : (s.readyDies l).rd l.reg FAB_PHASE = 3 ∧ (s.readyDies l).rd l.pow FAB_PHASE = 3 ∧
    (s.readyDies l).rd l.reg INT_BOOT = 0 ∧ (s.readyDies l).rd l.reg BST_STATE = 0 ∧ (s.readyDies l).rd l.reg STF_STEP_FAIL 1 = 0 ∧
    (s.readyDies l).rd l.pow SUP_STATE = 2 := by
  have clocks := s.readyDies_clocks l
  refine ⟨?_, ?_, ?_, ?_, ?_, ?_⟩
  · rw [clocks.rd (by decide) _ (by decide), State.leaveStart, State.rd_wr_row _ _ _ _ (by decide) (by decide) (by decide),
      State.rd_wr_region _ _ _ _ _ _ (reg_ne_pow l l)]
    exact State.rd_wr_mapRow (by decide +kernel) (kindOf_reg l) (by decide) (by decide)
  · rw [clocks.rd (by decide) _ (by decide), State.leaveStart, State.rd_wr_row _ _ _ _ (by decide) (by decide) (by decide)]
    exact State.rd_wr_mapRow (by decide +kernel) (kindOf_pow l) (by decide) (by decide)
  · rw [clocks.rd (by decide) _ (by decide), State.leaveStart]
    simp (disch := decide) only [State.rd_wr_row, State.rd_wr_zero]
  · rw [clocks.rd (by decide) _ (by decide), State.leaveStart]
    simp (disch := decide) only [State.rd_wr_row, State.rd_wr_zero]
  · have passed {v : State} : TouchesRows [FCL_RAW, FCL_QUIET_AT] l.reg v (v.release l.reg 8) :=
      State.release_touches (.refl _ _) _ _ (RowPlace.key (by simp) _ (by decide)) (RowPlace.key (by simp) _ (by decide))
    rw [State.readyDies, passed.rd (by decide) _ (by decide), State.rd_wr_zero]
  · rw [clocks.rd (by decide) _ (by decide), State.leaveStart]
    exact State.rd_wr_mapRow (by decide +kernel) (kindOf_pow l) (by decide) (by decide)

/-- A lane READY, before its timetables are taken up. -/
def State.readyOut (s : State) (l : LaneId) : State :=
  (if s.slotState l (s.actSlot l) = 3 then (s.readyDies l).wr l.reg UPD_TRIAL_OK 0 1 else s.readyDies l).wr l.reg INT_REJOINING 0 1

theorem State.readyOut_touches (s : State) (l : LaneId) : Touches (AnyRow (outRows ++ [UPD_TRIAL_OK, INT_REJOINING])) s (s.readyOut l) := by
  have out : Touches (AnyRow (outRows ++ [UPD_TRIAL_OK, INT_REJOINING])) s (s.readyDies l) :=
    (s.readyDies_touches l).mono fun _ ⟨d, hd, e⟩ => ⟨d, List.mem_append_left _ hd, e⟩
  exact (Touches.ite (out.wr (.key (by simp) _ (by decide))) out).wr (.key (by simp) _ (by decide))

theorem laneReady_eq (s : State) (l : LaneId) : s.laneReady l =
    (if s.rdB l.reg TWL_EN = true then ((s.readyOut l).twlTables l).twlStart l else (s.readyOut l).twlTables l).updPin l.reg := by
  have out := s.readyDies_touches l
  have trial : (s.readyDies l).slotState l ((s.readyDies l).actSlot l) = s.slotState l (s.actSlot l) := by
    rw [slotState_congr (out.rd (not_anyRow (by decide) _ (by decide))), State.actSlot, out.rd (not_anyRow (by decide) _ (by decide)), State.actSlot]
  have enabled : ((s.readyOut l).twlTables l).rdB l.reg TWL_EN = s.rdB l.reg TWL_EN := by
    rw [State.rdB, ((s.readyOut l).twlTables_node l).rd (by decide) _ (by decide), ((s.readyOut l).noteTables_touches l).rd (by decide) _ (by decide),
      (s.readyOut_touches l).rd (not_anyRow (by decide) _ (by decide)), State.rdB]
  rw [← enabled]
  unfold State.laneReady State.readyOut
  dsimp only
  rw [trial]

theorem laneReady_leaves {s t : State} {l : LaneId} (ready : t = s.laneReady l) :
    t.rd l.reg FAB_PHASE = 3 ∧ t.rd l.pow FAB_PHASE = 3 ∧ t.rd l.reg INT_BOOT = 0 ∧ t.rd l.reg BST_STATE = 0 ∧ t.rd l.reg LSC_STATE = s.rd l.reg LSC_STATE ∧
        t.rd l.reg STF_STEP_FAIL 1 = 0 ∧
        t.rd l.pow SUP_STATE = 2 ∧ t.rd l.reg INT_REJOINING = 1 ∧ t.vstate l = s.vstate l ∧ SameOtherLanes s t l ∧
        t.rd l.reg TWL_TT_DIGEST = s.ttDigest l % 2 ^ 32 ∧ (s.slotState l (s.actSlot l) = 3 → t.rdB l.reg UPD_TRIAL_OK = true) ∧
        (s.rdB l.reg TWL_EN = true → s.rd l.reg LKG_STATE ≠ 5 → s.part ≠ .fj3821 → t.twlState l = 1 ∧ t.rd l.reg INT_SYNCED = 0) ∧
        (s.rdB l.reg TWL_EN = false → t.twlState l = s.twlState l) := by
  let a := s.readyOut l
  let w := if s.rdB l.reg TWL_EN = true then (a.twlTables l).twlStart l else a.twlTables l
  have out := s.readyOut_touches l
  have tables := a.noteTables_touches l
  have node : NodeFrame l (a.noteTables l) w := LaneFrame.ite (State.twlStart_node (a.twlTables_node l)) (a.twlTables_node l)
  have pin := w.updPin_rows l.reg
  replace ready : t = w.updPin l.reg := ready.trans (laneReady_eq s l)
  have last {d : PDesc} (off : offRows (TWL_TT_DIGEST :: LKG_TT_CRC :: nodeRows) d = true) (off' : offRows [FCL_PIN, FCL_PIN_HELD] d = true) (r : Nat)
      {i : Nat} (hi : i < 256) : t.rd r d i = a.rd r d i := by
    simp only [offRows, List.all_cons, Bool.and_eq_true] at off
    obtain ⟨digest, check, started⟩ := off
    rw [ready, pin.rd off' _ hi, node.rd started _ hi, tables.rd (by simp [offRows, digest, check]) _ hi]
  have dies {d : PDesc} (off : offRows [INT_REJOINING] d = true) (off' : offRows [UPD_TRIAL_OK] d = true) (r : Nat) {i : Nat} (hi : i < 256) :
      a.rd r d i = (s.readyDies l).rd r d i := by
    have trial : TouchesRows [UPD_TRIAL_OK] l.reg (s.readyDies l)
        (if s.slotState l (s.actSlot l) = 3 then (s.readyDies l).wr l.reg UPD_TRIAL_OK 0 1 else s.readyDies l) :=
      Touches.ite (TouchesRows.wr (.refl _ _) (by simp) (by decide)) (.refl _ _)
    rw [← trial.rd off' r hi]
    exact State.rd_wr_row _ _ _ _ off (by decide) hi
  obtain ⟨phase, power, boot, bist, step, supply⟩ := readyDies_leaves s l
  refine ⟨?_, ?_, ?_, ?_, ?_, ?_, ?_, ?_, ?_, fun x hx => ?_, ?_, fun trial => ?_, fun on keeper part => ?_, fun off => ?_⟩
  · rw [last (by decide) (by decide) _ (by decide), dies (by decide) (by decide) _ (by decide), phase]
  · rw [last (by decide) (by decide) _ (by decide), dies (by decide) (by decide) _ (by decide), power]
  · rw [last (by decide) (by decide) _ (by decide), dies (by decide) (by decide) _ (by decide), boot]
  · rw [last (by decide) (by decide) _ (by decide), dies (by decide) (by decide) _ (by decide), bist]
  · rw [last (by decide) (by decide) _ (by decide), out.rd (not_anyRow (by decide) _ (by decide))]
  · rw [last (by decide) (by decide) _ (by decide), dies (by decide) (by decide) _ (by decide), step]
  · rw [last (by decide) (by decide) _ (by decide), dies (by decide) (by decide) _ (by decide), supply]
  · rw [last (by decide) (by decide) _ (by decide)]
    exact State.rd_wr_of_lt (by rw [widthOf_var (by decide)]; decide)
  · rw [State.vstate, last (by decide) (by decide) _ (by decide), out.rd (not_anyRow (by decide) _ (by decide)), State.vstate]
  · have other : x.reg ≠ l.reg := fun e => hx (by cases x <;> cases l <;> simp_all [LaneId.reg])
    rw [ready, pin.lane, node.others x other, tables.lane, out.lane]
  · rw [ready, pin.rd (by decide) _ (by decide), node.rd (by decide) _ (by decide), noteTables_digest]
    exact congrArg (· % 2 ^ 32) (ttDigest_congr fun d hd i hi => out.rd (not_anyRow (by revert d; decide) _ (by omega)))
  · rw [State.rdB, last (by decide) (by decide) _ (by decide)]
    have ok : a.rd l.reg UPD_TRIAL_OK = 1 := by
      simp only [a, State.readyOut]
      rw [if_pos trial, State.rd_wr_row _ _ _ _ (by decide) (by decide) (by decide)]
      exact State.rd_wr_of_lt (by rw [widthOf_var (by decide)]; decide)
    rw [ok]
    rfl
  · have keeper' : a.rd l.reg LKG_STATE ≠ 5 := by rwa [out.rd (not_anyRow (by decide) _ (by decide))]
    have on' : (a.noteTables l).rdB l.reg TWL_EN = true := by
      rwa [State.rdB, tables.rd (by decide) _ (by decide), out.rd (not_anyRow (by decide) _ (by decide)), ← State.rdB]
    have listens : w = (a.noteTables l).twlListen l := by
      simp only [w]
      rw [if_pos on, twlTables_keeps keeper', twlStart_listens on' (by rwa [tables.rd (by decide) _ (by decide)]) (by rwa [tables.part, out.part])]
    obtain ⟨listen, unsynced⟩ := twlListen_leaves (a.noteTables l) l
    rw [ready, State.twlState, pin.rd (by decide) _ (by decide), pin.rd (by decide) _ (by decide), listens]
    exact ⟨listen, unsynced⟩
  · have off' : a.rdB l.reg TWL_EN = false := by rwa [State.rdB, out.rd (not_anyRow (by decide) _ (by decide)), ← State.rdB]
    have idle : w = a.twlTables l := by
      simp only [w, off]
      rfl
    rw [ready, State.twlState, pin.rd (by decide) _ (by decide), idle, (twlTables_off off').rd (by decide) _ (by decide), tables.rd (by decide) _ (by decide),
      out.rd (not_anyRow (by decide) _ (by decide)), State.twlState]

end
end Sys2Proof.Machine
end

section
/-! PROOFS. What the start of a lane may change after its image is chosen: the groups as at a cold start, the retention banks, the tasks. -/

namespace Sys2Proof.Machine

open Par Var

/-! ### The groups of a lane as the restored configuration starts them -/

/-- The rows that a group writes as at a cold start, beside the tables of RPC. -/
def coldRows : List PDesc :=
  [SDC_POS, SDC_LAST, SDC_HWM, SDC_HWMX, SDC_REV, SDC_STATE, RPC_TBL_CRC, RPC_ILAST, RPC_ION, RPC_ACC, RPC_N, RPC_QS1, RPC_QS2, RPC_FADE_N, RPC_REV_LEFT,
    RPC_REV_FROM, RPC_ACC_POS, RPC_PEND_SENT, RPC_DISCARD, RPC_HIST, RPC_HIST_OK, RPC_QNEW, RPC_DIR, RPC_OUT, RPC_FADE_NOW, RPC_PEND, RPC_PEND_CYC,
    RPC_FREEZE, RPC_STATE, CEN_CLOSING, CEN_STATUS, FBI_FAULT, FBI_INDEX_ARM, FBI_STATE, FBI_SPEED, FBI_POS, FBI_POS_SI, FBI_FLAGS, FCL_RAW, FCL_QUIET_AT]

/-- A place of the tables of RPC. -/
def TblPlace (k : PKey) : Prop := k.block = RPC_TBL.block ∧ RPC_TBL.index ≤ k.index

/-- What a group changes as at a cold start. -/
def ColdPlace (k : PKey) : Prop := AnyRow coldRows k ∨ TblPlace k

section
variable {l : LaneId} {s t u : State}

abbrev ColdFrame (l : LaneId) (s t : State) : Prop := LaneFrame ColdPlace l.reg s t

theorem ColdFrame.row (h : ColdFrame l u s) {d : PDesc} (hd : d ∈ coldRows) {r i v : Nat} (hi : i < 256) : ColdFrame l u (s.wr r d i v) :=
  h.wr (.inl (AnyRow.key hd r hi))

theorem TblPlace.key (r n : Nat) : TblPlace (RPC_TBL.key r n) := ⟨rfl, Nat.le_add_right _ _⟩

theorem State.srcCommitted_cold (h : ColdFrame l u s) : ColdFrame l u (s.srcCommitted l) :=
  ColdFrame.row (ColdFrame.row (ColdFrame.row (ColdFrame.row (ColdFrame.row (ColdFrame.row h (by simp [coldRows]) (by decide)) (by simp [coldRows]) (by decide))
    (by simp [coldRows]) (by decide)) (by simp [coldRows]) (by decide)) (by simp [coldRows]) (by decide)) (by simp [coldRows]) (by decide)

theorem State.rpcClear_cold (h : ColdFrame l u s) (r : Nat) : ColdFrame l u (s.rpcClear l r) :=
  ⟨h.get.filter (f := fun k => !(k.region == l.reg && k.block == RPC_TBL.block && decide (RPC_TBL.index + 32 * r ≤ k.index) &&
      decide (k.index < RPC_TBL.index + 32 * (r + 1)))) (fun k hk => .inr (by
    simp only [Bool.not_eq_false', Bool.and_eq_true, beq_iff_eq, decide_eq_true_eq] at hk
    exact ⟨hk.1.1.2, by omega⟩)) rfl, h.others⟩

theorem State.rpcRestore_cold (h : ColdFrame l u s) (r : Nat) : ColdFrame l u (s.rpcRestore l r) := by
  unfold State.rpcRestore
  extract_lets saved cleared
  have cleared_cold : ColdFrame l u cleared := State.rpcClear_cold h r
  clear_value saved
  split
  · exact LaneFrame.foldl_mem _ (fun _ _ _ g => g.wr (.inr (TblPlace.key _ _))) cleared_cold
  · exact cleared_cold

theorem State.rpcFresh_cold (h : ColdFrame l u s) {r : Nat} (hr : r < 8) : ColdFrame l u (s.rpcFresh l r) := by
  unfold State.rpcFresh
  extract_lets zeroed emptied
  have zeroed_cold : ColdFrame l u zeroed := LaneFrame.foldl_mem _ (fun _ d hd g => ColdFrame.row g (by revert d; decide) (by omega)) h
  have emptied_cold : ColdFrame l u emptied := LaneFrame.foldl_mem _ (fun _ a ha g => by
    have := List.mem_range.mp ha
    exact ColdFrame.row (ColdFrame.row g (by simp [coldRows]) (by omega)) (by simp [coldRows]) (by omega)) zeroed_cold
  exact ColdFrame.row (ColdFrame.row (ColdFrame.row (ColdFrame.row emptied_cold (by simp [coldRows]) (by omega)) (by simp [coldRows]) (by omega))
    (by simp [coldRows]) (by omega)) (by simp [coldRows]) (by omega)

theorem State.rpcEnable_cold (h : ColdFrame l u s) {r : Nat} (hr : r < 8) : ColdFrame l u (s.rpcEnable l r) := by
  unfold State.rpcEnable
  extract_lets stamped due d placed
  have stamped_cold : ColdFrame l u stamped := ColdFrame.row (State.rpcFresh_cold (State.rpcRestore_cold h r) hr) (by simp [coldRows]) (by omega)
  have due_cold : ColdFrame l u due := ColdFrame.row (ColdFrame.row (ColdFrame.row stamped_cold (by simp [coldRows]) (by omega)) (by simp [coldRows]) (by omega))
    (by simp [coldRows]) (by omega)
  exact ColdFrame.row (LaneFrame.ite (ColdFrame.row due_cold (by simp [coldRows]) (by omega)) due_cold) (by simp [coldRows]) (by omega)

theorem State.chConfigured_cold (h : ColdFrame l u s) {ch : Nat} (hc : ch < 8) : ColdFrame l u (s.chConfigured l ch) := by
  unfold State.chConfigured
  extract_lets fresh index still zero flags
  have fresh_cold : ColdFrame l u fresh := h.modLane _
  have index_cold : ColdFrame l u index := ColdFrame.row (ColdFrame.row fresh_cold (by simp [coldRows]) (by omega)) (by simp [coldRows]) (by omega)
  have still_cold : ColdFrame l u still := ColdFrame.row (ColdFrame.row index_cold (by simp [coldRows]) (by omega)) (by simp [coldRows]) (by omega)
  have zero_cold : ColdFrame l u zero := ColdFrame.row (ColdFrame.row still_cold (by simp [coldRows]) (by omega)) (by simp [coldRows]) (by omega)
  have flags_cold : ColdFrame l u flags := ColdFrame.row zero_cold (by simp [coldRows]) (by omega)
  exact LaneFrame.ite flags_cold (LaneFrame.ite (ColdFrame.row (ColdFrame.row flags_cold (by simp [coldRows]) (by decide)) (by simp [coldRows]) (by decide))
    flags_cold)

theorem State.coldGroup_cold (h : ColdFrame l u s) (g : Nat) : ColdFrame l u (s.coldGroup l g) := by
  unfold State.coldGroup
  split
  · exact State.srcCommitted_cold h
  · exact LaneFrame.foldl_mem _ (fun _ r hr g => LaneFrame.ite (State.rpcEnable_cold g (List.mem_range.mp hr)) g) h
  · exact LaneFrame.foldl_mem _ (fun _ n hn g => LaneFrame.ite (ColdFrame.row (ColdFrame.row g (by simp [coldRows])
      (by have := List.mem_range.mp hn; omega)) (by simp [coldRows]) (by have := List.mem_range.mp hn; omega)) g) h
  · exact LaneFrame.foldl_mem _ (fun _ ch hch g => State.chConfigured_cold g (List.mem_range.mp hch)) h
  · exact h

end

/-! ### The tasks of the image -/

/-- The rows of the tasks. -/
def taskRows : List PDesc :=
  [DPT_TASK_STATE, DPT_TASK_PRIO, DPT_TASKS_USED, DPT_CTX_USED, DPT_CMP_USED, DPT_DLIST_LEN, DPT_CNT_SPILL, DPT_TASK_MAX_LAT, DPT_CNT_TIMEOUT, DPT_CNT_DLIST]

/-- Only rows of the tasks change, and the numbers of the lane's tasks stay below 256. -/
structure TaskFrame (l : LaneId) (s t : State) : Prop where
  frame : LaneFrame (AnyRow taskRows) l.reg s t
  below : ∀ k ∈ (t.lane l).tasks, k.n < 256

section
variable {l : LaneId} {s u : State}

namespace TaskFrame

theorem row (h : TaskFrame l u s) {d : PDesc} (hd : d ∈ taskRows) {i v : Nat} (hi : i < 256) : TaskFrame l u (s.wr l.reg d i v) :=
  ⟨h.frame.row hd hi, by rw [State.wr_lane]; exact h.below⟩

theorem modTask (h : TaskFrame l u s) (n : Nat) {f : FwTask → FwTask} (hf : ∀ k, (f k).n = k.n := by intro _; rfl) : TaskFrame l u (s.modTask l n f) := by
  refine ⟨h.frame.modLane _, fun k hk => ?_⟩
  rw [State.modTask, State.lane_modLane] at hk
  obtain ⟨j, hj, rfl⟩ := List.mem_map.mp hk
  split
  · rw [hf]
    exact h.below j hj
  · exact h.below j hj

theorem seq (h : TaskFrame l u s) (q : Nat) : TaskFrame l u (s.modLane l (fun x => { x with dptSeq := q })) :=
  ⟨h.frame.modLane _, by rw [State.lane_modLane]; exact h.below⟩

theorem ite {c : Prop} [Decidable c] {t : State} (h : TaskFrame l u s) (g : TaskFrame l u t) : TaskFrame l u (if c then s else t) := by
  split <;> assumption

theorem foldl_mem {α : Type} {f : State → α → State} (xs : List α) (hf : ∀ v, ∀ a ∈ xs, TaskFrame l u v → TaskFrame l u (f v a))
    (h : TaskFrame l u s) : TaskFrame l u (xs.foldl f s) := by
  induction xs generalizing s with
  | nil => exact h
  | cons a xs ih => exact ih (fun v b hb => hf v b (List.mem_cons_of_mem _ hb)) (hf s a List.mem_cons_self h)

theorem readyTask (h : TaskFrame l u s) (n result : Nat) : TaskFrame l u (s.readyTask l n result) := by
  unfold State.readyTask
  exact (h.modTask n).seq _

theorem list (h : TaskFrame l u s) (n : Nat) : TaskFrame l u ((s.modTask l n (fun x => { x with listed := true })).bump l.reg DPT_CNT_DLIST) :=
  (h.modTask n (f := fun x => { x with listed := true })).row (by simp [taskRows]) (by decide)

theorem waitTask (h : TaskFrame l u s) {n : Nat} (hn : n < 256) (events : List Nat) (timeout : Nat) : TaskFrame l u (s.waitTask l n events timeout) := by
  unfold State.waitTask
  split
  · exact h
  · split
    · exact (h.modTask n).readyTask _ _
    · refine ite ((h.row (by simp [taskRows]) hn).readyTask _ _) ?_
      have waits := h.modTask n (f := fun x => { x with state := 4, events := events, deadline := s.usNow + timeout })
      extract_lets v
      split
      · exact ite (waits.modTask n) (waits.list n)
      · exact waits.list n

theorem takeCtx (h : TaskFrame l u s) (k : FwTask) : TaskFrame l u (s.takeCtx l k) := by
  unfold State.takeCtx
  refine ite h ?_
  extract_lets res pinned free spilled
  have spilled_frame : TaskFrame l u spilled := ite h (by
    split
    · exact (h.modTask _ (f := fun x => { x with ctx := false })).row (by simp [taskRows]) (by decide)
    · exact h)
  exact spilled_frame.modTask _

theorem runTask (h : TaskFrame l u s) {k : FwTask} (hk : k.n < 256) : TaskFrame l u (s.runTask l k) :=
  ((h.takeCtx k).row (by simp [taskRows]) hk).modTask _

theorem dptShow (h : TaskFrame l u s) : TaskFrame l u (s.dptShow l) :=
  ((((foldl_mem _ (fun _ k hk g => (g.row (by simp [taskRows]) (h.below k hk)).row (by simp [taskRows]) (h.below k hk)) h).row (by simp [taskRows]) (by decide)).row
    (by simp [taskRows]) (by decide)).row (by simp [taskRows]) (by decide)).row (by simp [taskRows]) (by decide)

end TaskFrame

/-- The first task in running order is one of those. -/
theorem firstTask_mem {ts : List FwTask} {k : FwTask} (h : firstTask ts = some k) : k ∈ ts := by
  induction ts generalizing k with
  | nil => simp [firstTask] at h
  | cons j js ih =>
    unfold firstTask at h
    split at h
    · simp_all
    · next m hm =>
      split at h
      · cases h
        exact List.mem_cons_of_mem _ (ih hm)
      · cases h
        exact List.mem_cons_self

theorem TaskFrame.schedule (h : TaskFrame l u s) : TaskFrame l u (s.schedule l) := by
  unfold State.schedule
  extract_lets ts ready run
  have ready_mem (k : FwTask) (hk : ready = some k) : k.n < 256 := by
    simp only [ready] at hk
    split at hk
    · cases hk
    · exact h.below k (List.mem_filter.mp (firstTask_mem hk)).1
  have run_frame : TaskFrame l u run := by
    simp only [run]
    clear_value ready
    cases ready with
    | none => exact h
    | some k =>
      have hk := ready_mem k rfl
      dsimp only
      split
      · exact h.runTask hk
      · exact ite ((h.modTask _).runTask hk) h
  exact run_frame.dptShow

theorem State.startTasks_frame (s : State) (l : LaneId) (ts : List TaskInit) : LaneFrame (AnyRow taskRows) l.reg s (s.startTasks l ts) := by
  unfold State.startTasks
  extract_lets ok listed
  have ok_below (k : TaskInit) (hk : k ∈ ok) : k.n < 256 := by
    have := (List.mem_filter.mp hk).2
    simp only [Bool.and_eq_true, decide_eq_true_eq] at this
    exact this.1
  have listed_frame : TaskFrame l s listed := ⟨(LaneFrame.refl _ _ s).modLane _, fun k hk => by
    rw [State.lane_modLane] at hk
    obtain ⟨j, hj, rfl⟩ := List.mem_map.mp hk
    exact ok_below j hj⟩
  exact (TaskFrame.schedule (TaskFrame.foldl_mem _ (fun _ k hk g => g.waitTask (ok_below k hk) _ _) listed_frame)).frame

end

/-! ### The retention banks -/

/-- The blocks that the retention banks and the groups lie in, whether a map shows the place or not. -/
def bankBlocks : List Nat := [0x16, 0x13, 0x12, 0x15, 0x17]

/-- The rows that a start may write after its image is chosen, beside those blocks. -/
def tailRows : List PDesc := noteRows ++ [FCL_RAW, PWR_RET_STATUS, PWR_CNT_RET_FAIL, INT_BOOT] ++ bank7 ++ taskRows

/-- What a start may change after its image is chosen, beside the configuration. -/
def TailPlace (k : PKey) : Prop := k.block % 0x80 ∈ bankBlocks ∨ AnyRow tailRows k

/-- A row that no start changes after its image is chosen. -/
def offTail (d : PDesc) : Bool := decide (d.block % 0x80 ∉ bankBlocks) && offRows tailRows d

theorem not_tailPlace {d : PDesc} (h : offTail d = true) (r : Nat) {i : Nat} (hi : i < 256) : ¬ TailPlace (d.key r i) := by
  simp only [offTail, Bool.and_eq_true, decide_eq_true_eq] at h
  exact fun p => p.elim h.1 (not_anyRow h.2 r hi)

theorem ColdPlace.tail {k : PKey} (h : ColdPlace k) : TailPlace k := by
  rcases h with ⟨d, hd, block, index⟩ | ⟨block, -⟩
  · have all : ∀ d ∈ coldRows, d.block % 0x80 ∈ bankBlocks ∨ d ∈ tailRows := by decide
    exact (all d hd).imp (fun b => block ▸ b) fun m => ⟨d, m, block, index⟩
  · exact .inl (by rw [block]; decide)

theorem bankOf_tail {k : PKey} {b : Nat} (h : bankOf k = some b) (r : Nat) : TailPlace { k with region := r } := by
  unfold bankOf at h
  split at h
  · cases h
  · split at h
    · next shown =>
      obtain ⟨d, hd, here⟩ := List.any_eq_true.mp shown
      have single : ∀ d ∈ bank7, d.span = 1 := by decide
      have one := single d hd
      simp only [PKey.isOf, Bool.and_eq_true, beq_iff_eq, decide_eq_true_eq] at here
      exact .inr ⟨d, by simp [tailRows, hd], here.1.1.symm, by dsimp only; omega⟩
    · left
      split at h <;> simp_all [bankBlocks]

/-- Values put at other places leave a place. -/
theorem Store.get_foldl_put {α : Type} {key : α → PKey} {val : α → Nat} {xs : List α} {k : PKey} (h : ∀ x ∈ xs, key x ≠ k) (m : Store) :
    Store.get (xs.foldl (fun m x => m.put (key x) (val x)) m) k = m.get k := by
  induction xs generalizing m with
  | nil => rfl
  | cons x xs ih => rw [List.foldl_cons, ih (fun y hy => h y (List.mem_cons_of_mem _ hy)), Store.get_put_ne _ _ (h x List.mem_cons_self).symm]

/-- A lane on its way out, or out, resets no region. -/
theorem NoReset.of_out {s : State} {l : LaneId} (out : 3 ≤ s.vstate l) (src : Nat) : NoReset s l.reg src := by
  refine .inr ?_
  have own : laneOfReg l.reg = some l := by cases l <;> rfl
  rw [State.quietLane, own]
  exact decide_eq_true out

section
variable {l : LaneId} {s t u : State}

abbrev TailFrame (l : LaneId) (s t : State) : Prop := LaneFrame TailPlace l.reg s t

namespace TailFrame

theorem row (h : TailFrame l u s) {d : PDesc} (hd : offTail d = false) {r i v : Nat} (hi : i < 256) : TailFrame l u (s.wr r d i v) :=
  h.wr (by
    simp only [offTail, Bool.and_eq_false_iff, decide_eq_false_iff_not, not_not, offRows, List.all_eq_false] at hd
    refine hd.imp id ?_
    rintro ⟨x, hx, same⟩
    simp only [Bool.not_eq_true, Bool.or_eq_false_iff, bne_eq_false_iff_eq] at same
    exact ⟨x, hx, same.1, by simp only [PDesc.key]; omega⟩)

theorem rd (h : TailFrame l u s) {d : PDesc} (off : offTail d = true) (r : Nat) {i : Nat} (hi : i < 256) : s.rd r d i = u.rd r d i :=
  h.get.rd (not_tailPlace off r hi)

theorem of_cold (h : TailFrame l u s) (g : ColdFrame l s t) : TailFrame l u t := h.trans (g.mono fun _ => ColdPlace.tail)

theorem putBank (h : TailFrame l u s) (keep : Retained) (b r : Nat) : TailFrame l u (s.putBank l keep b r) := by
  unfold State.putBank
  extract_lets vs put
  have apart {k : PKey} (hk : ¬ TailPlace k) (e : PKey × Nat) (he : e ∈ vs) : { e.1 with region := if e.1.region = r then l.reg else e.1.region } ≠ k := by
    rintro rfl
    exact hk (bankOf_tail (b := b) (by simpa using (List.mem_filter.mp he).2) _)
  have put_frame : TailFrame l u put := ⟨h.get.trans fun k hk => Store.get_foldl_put (apart hk) _, h.others⟩
  split
  · exact put_frame.modLane _
  · exact put_frame.modLane _
  · exact put_frame.modLane _
  · exact put_frame

theorem setVoid (h : TailFrame l u s) (out : 3 ≤ u.vstate l) (c : Nat) : TailFrame l u (s.setVoid l c) := by
  unfold State.setVoid
  extract_lets was caused counted
  have caused_frame : TailFrame l u caused := h.row (by decide) (by decide)
  have counted_frame : TailFrame l u counted := caused_frame.row (by decide) (by decide)
  refine LaneFrame.ite (LaneFrame.ite counted_frame ?_) caused_frame
  have seen : TailFrame l u (counted.wr l.reg SDC_VOID_SEEN 0 1) := counted_frame.row (by decide) (by decide)
  have out' : 3 ≤ (counted.wr l.reg SDC_VOID_SEEN 0 1).vstate l := by rwa [State.vstate, seen.rd (by decide) _ (by decide)]
  have raised := State.raise_notes (NoReset.of_out out' 20) false
  rw [if_neg (by simp)] at raised
  exact seen.trans (raised.mono fun _ ⟨d, hd, e⟩ => .inr ⟨d, by simp [tailRows, hd], e⟩)

theorem bankLost (h : TailFrame l u s) (out : 3 ≤ u.vstate l) (g : Nat) : TailFrame l u (s.bankLost l g) := by
  unfold State.bankLost
  extract_lets cold
  have cold_frame : TailFrame l u cold := h.of_cold (State.coldGroup_cold (.refl _ _ s) g)
  split
  · exact (setVoid (cold_frame.row (by decide) (by decide)) out 4).row (by decide) (by decide)
  · exact LaneFrame.foldl_mem _ (fun _ _ _ g => LaneFrame.ite (TailFrame.row (TailFrame.row g (by decide) (by decide)) (by decide) (by decide)) g) cold_frame
  · exact cold_frame

theorem wakeGroup (h : TailFrame l u s) (out : 3 ≤ u.vstate l) (keep : Retained) (bad g : Nat) : TailFrame l u (s.wakeGroup l keep bad g) := by
  unfold State.wakeGroup
  refine LaneFrame.ite (h.putBank _ _ _) (LaneFrame.ite (h.of_cold (State.coldGroup_cold (.refl _ _ s) 13)) ?_)
  split
  · split
    · exact h.putBank _ _ _
    · exact h.bankLost out g
  · exact h.bankLost out g

theorem useRetention (h : TailFrame l u s) (out : 3 ≤ u.vstate l) (bad : Nat) : TailFrame l u (s.useRetention l bad) := by
  unfold State.useRetention
  split
  · exact h
  · extract_lets bad woken ns counted
    have woken_frame : TailFrame l u woken := LaneFrame.foldl_mem _ (fun _ _ _ g => g.modLane _) (LaneFrame.foldl_mem _ (fun _ _ _ g => wakeGroup g out _ _ _) h)
    exact LaneFrame.foldl_mem _ (fun _ _ _ g => g.tell _ _ _) (TailFrame.row (TailFrame.row woken_frame (by decide) (by decide)) (by decide) (by decide))

end TailFrame
end
end Sys2Proof.Machine
end

section
/-! PROOFS. A lane start: the configuration kept, the image that runs. -/

namespace Sys2Proof.Machine

open Par Var

/-! ### The configuration of a lane -/

/-- A place of the RWS set of a lane die and its power die. -/
def isCfg (l : LaneId) (k : PKey) : Bool := (k.region == l.reg || k.region == l.pow) &&
  (match lookup k with
    | some d => d.acc == .rws
    | none => false)

theorem isCfg_iff {l : LaneId} {k : PKey} : isCfg l k = true ↔ (k.region = l.reg ∨ k.region = l.pow) ∧ ∃ d, lookup k = some d ∧ d.acc = .rws := by
  unfold isCfg
  cases lookup k <;> simp

/-- Rows none of which is of the RWS set. -/
def cfgFree (rows : List PDesc) : Bool := rows.all fun x => [RegionKind.lane, .power].all fun k =>
  (blockMap k x.block).all fun d => d.acc != .rws || decide (x.index < d.index) || decide (d.index + d.span ≤ x.index)

theorem lookup_mem {k : PKey} {d : PDesc} (h : lookup k = some d) : d ∈ blockMap (kindOf k.region) k.block ∧ d.index ≤ k.index ∧ k.index < d.index + d.span := by
  have here := List.find?_some h
  simp only [Bool.and_eq_true, decide_eq_true_eq] at here
  exact ⟨List.mem_of_find?_eq_some h, here.1, here.2⟩

theorem kindOf_cfg {l : LaneId} {k : PKey} (h : k.region = l.reg ∨ k.region = l.pow) : kindOf k.region ∈ [RegionKind.lane, .power] := by
  rcases h with h | h <;> rw [h] <;> cases l <;> decide

theorem isCfg_not_row {l : LaneId} {k : PKey} (h : isCfg l k = true) {rows : List PDesc} (free : cfgFree rows = true) : ¬ AnyRow rows k := by
  rintro ⟨x, hx, block, index⟩
  obtain ⟨region, d, found, rws⟩ := isCfg_iff.mp h
  obtain ⟨hd, above, below⟩ := lookup_mem found
  have apart := List.all_eq_true.mp (List.all_eq_true.mp (List.all_eq_true.mp free x hx) _ (kindOf_cfg region)) d (by rwa [block])
  simp [rws, index, Nat.not_lt.mpr above, Nat.not_le.mpr below] at apart

/-- Of the RWS set only the tables of RPC lie at their places. -/
theorem isCfg_tbl {l : LaneId} {k : PKey} (h : k.region = l.reg ∨ k.region = l.pow) {d : PDesc} (found : lookup k = some d) (tbl : TblPlace k) :
    d.name = RPC_TBL.name := by
  obtain ⟨block, index⟩ := tbl
  obtain ⟨hd, above, below⟩ := lookup_mem found
  have all : ∀ r ∈ [RegionKind.lane, .power], ∀ d ∈ blockMap r RPC_TBL.block, d.name = RPC_TBL.name ∨ d.index + d.span ≤ RPC_TBL.index := by decide
  rw [block] at hd
  exact (all _ (kindOf_cfg h) d hd).resolve_right (by omega)

section
variable {l : LaneId} {s t u : State}

/-- The RWS set of a lane at its reset values. -/
def State.clearCfg (s : State) (l : LaneId) : State := { s with params := s.params.filter (fun e => !isCfg l e.1) }

/-- The values of an archive slot that are of the RWS set. -/
def cfgValues (l : LaneId) (vs : Store) : Store := vs.filter fun v => isCfg l v.1

theorem restoreCfg_own (s : State) (l : LaneId) : s.restoreCfg l true = s := rfl

/-- With its own area failed a lane takes M's archive slot, else reset values (R562). -/
theorem restoreCfg_failed (s : State) (l : LaneId) : s.restoreCfg l false =
    match s.mdie.sets.find? (fun e => e.1 == l) with
    | some e => if (s.clearCfg l).mUp = true then (s.clearCfg l).puts (cfgValues l e.2) else s.clearCfg l
    | none => s.clearCfg l := by
  unfold State.restoreCfg
  extract_lets isRws cleared
  rw [if_neg (by decide)]
  have same : isRws = isCfg l := rfl
  simp only [cleared, same]
  rfl

theorem State.clearCfg_touches (s : State) (l : LaneId) : Touches (fun k => isCfg l k = true) s (s.clearCfg l) :=
  ⟨fun k hk => (Store.get_filter s.params (fun k => !isCfg l k) k).trans (by simp [hk]), rfl⟩

theorem clearCfg_get {k : PKey} (h : isCfg l k = true) : (s.clearCfg l).params.get k = resetOf k :=
  (Store.get_filter s.params (fun k => !isCfg l k) k).trans (by simp [h])

/-- M is of no lane's RWS set. -/
theorem clearCfg_mUp (s : State) (l : LaneId) : (s.clearCfg l).mUp = s.mUp := by
  have kept (d : PDesc) : (s.clearCfg l).rd 7 d = s.rd 7 d := (s.clearCfg_touches l).rd (by
    rw [isCfg_iff]
    exact fun h => by cases l <;> simp [PDesc.key, LaneId.reg, LaneId.pow] at h)
  simp only [State.mUp, State.on, State.rdB, kept]
  rfl

theorem State.restoreCfg_touches (s : State) (l : LaneId) (ok : Bool) : Touches (fun k => isCfg l k = true) s (s.restoreCfg l ok) := by
  cases ok with
  | true => exact .refl _ s
  | false =>
    have cleared := s.clearCfg_touches l
    rw [restoreCfg_failed]
    split
    · refine Touches.ite (cleared.trans ⟨fun k hk => Store.get_puts (fun m => hk ?_) _, rfl⟩) cleared
      obtain ⟨e, he, rfl⟩ := List.mem_map.mp m
      exact (List.mem_filter.mp he).2
    · exact cleared

/-- Without an archive slot the RWS set is at its reset values. -/
theorem restoreCfg_none (none : s.mdie.sets.find? (fun e => e.1 == l) = none) {k : PKey} (h : isCfg l k = true) :
    (s.restoreCfg l false).params.get k = resetOf k := by
  rw [restoreCfg_failed, none]
  exact clearCfg_get h

/-- M's archive slot of a lane gives its RWS set. -/
theorem restoreCfg_some {vs : Store} (some : s.mdie.sets.find? (fun e => e.1 == l) = some (l, vs)) (up : s.mUp = true) (apart : (vs.map Prod.fst).Nodup)
    {v : PKey × Nat} (hv : v ∈ vs) (h : isCfg l v.1 = true) : (s.restoreCfg l false).params.get v.1 = v.2 % 2 ^ widthOf v.1 := by
  rw [restoreCfg_failed, some]
  dsimp only
  rw [if_pos ((clearCfg_mUp s l).trans up)]
  have sub : (cfgValues l vs).map Prod.fst |>.Nodup := (List.Nodup.sublist (List.Sublist.map _ List.filter_sublist) apart)
  obtain ⟨-, reads, -⟩ := (s.clearCfg l).puts_writes sub
  exact reads v (List.mem_filter.mpr ⟨hv, h⟩)

/-! ### After the choice of the image -/

/-- A start goes on with the image chosen: the configuration and the retention, the tasks, the announcement of the slots (R561). -/
def State.startOn (s : State) (l : LaneId) (o : StartOutcome) : State :=
  let s := (s.restoreCfg l o.cfgOk).takeDigest l
  let s := if (s.lane l).ret.isSome then s.useRetention l o.badBanks
    else [4, 8, 12, 13].foldl (fun s g => s.coldGroup l g) s
  let s := (s.startTasks l o.tasks).wr l.reg INT_BOOT 0 1
  s.modLane l (fun x => { x with boot := { x.boot with ann := [] } })

/-- What a lane start may change once its image is chosen. -/
def StartPlace (l : LaneId) (k : PKey) : Prop := TailPlace k ∨ isCfg l k = true

theorem State.startOn_frame (s : State) (l : LaneId) (o : StartOutcome) (out : 3 ≤ s.vstate l) : LaneFrame (StartPlace l) l.reg s (s.startOn l o) := by
  unfold State.startOn
  extract_lets restored grouped booted
  have restored_frame : LaneFrame (fun k => isCfg l k = true) l.reg s restored := (LaneFrame.of_touches (s.restoreCfg_touches l o.cfgOk)).modLane _
  have out' : 3 ≤ restored.vstate l := by
    have kept : isCfg l (STF_STATE.key l.reg 0) = false := by cases l <;> decide
    rwa [State.vstate, restored_frame.get.rd (by simp [kept])]
  have grouped_frame : TailFrame l restored grouped := LaneFrame.ite (TailFrame.useRetention (.refl _ _ _) out' _)
    (LaneFrame.foldl_mem _ (fun _ g _ h => TailFrame.of_cold h (State.coldGroup_cold (.refl _ _ _) g)) (.refl _ _ _))
  have booted_frame : TailFrame l restored booted := TailFrame.row (grouped_frame.trans ((grouped.startTasks_frame l o.tasks).mono
    fun _ ⟨d, hd, e⟩ => .inr ⟨d, by simp [tailRows, hd], e⟩)) (by decide) (by decide)
  exact ((restored_frame.mono fun _ => .inr).trans (booted_frame.mono fun _ => .inl)).modLane _

/-- Without retention the RWS set is as restored, beside the tables of RPC. -/
theorem State.startOn_cfg (cold : (s.lane l).ret = none) (o : StartOutcome) {k : PKey} {d : PDesc} (region : k.region = l.reg ∨ k.region = l.pow)
    (found : lookup k = some d) (rws : d.acc = .rws) (tbl : d.name ≠ RPC_TBL.name) :
    (s.startOn l o).params.get k = (s.restoreCfg l o.cfgOk).params.get k := by
  unfold State.startOn
  extract_lets restored grouped booted
  have cfg : isCfg l k = true := isCfg_iff.mpr ⟨region, d, found, rws⟩
  have none' : (restored.lane l).ret = none := by
    simp only [restored, State.takeDigest, State.lane_modLane, (s.restoreCfg_touches l o.cfgOk).lane, cold]
  have grouped_frame : ColdFrame l restored grouped := by
    simp only [grouped]
    rw [if_neg (by simp [none'])]
    exact LaneFrame.foldl_mem _ (fun _ g _ h => State.coldGroup_cold h g) (.refl _ _ _)
  have booted_frame : LaneFrame (AnyRow (INT_BOOT :: taskRows)) l.reg grouped booted :=
    ((grouped.startTasks_frame l o.tasks).sub (by simp)).row (by simp) (by decide)
  rw [State.modLane_params, booted_frame.get k (isCfg_not_row cfg (by decide)), grouped_frame.get k]
  · simp [restored, State.takeDigest]
  · exact fun p => p.elim (isCfg_not_row cfg (by decide)) fun t => tbl (isCfg_tbl region found t)

/-- A start that goes on ends with the announcement of its slots. -/
theorem startOn_leaves (s : State) (l : LaneId) (o : StartOutcome) : (s.startOn l o).rd l.reg INT_BOOT = 1 ∧ ((s.startOn l o).lane l).boot.ann = [] := by
  unfold State.startOn
  extract_lets restored grouped booted
  constructor
  · rw [State.modLane_rd]
    exact State.rd_wr_of_lt (by rw [widthOf_var (by decide)]; decide)
  · rw [State.lane_modLane]

/-! ### The injection test and the choice of the image -/

/-- The rows that the injection test writes. -/
def injRows : List PDesc := [LSC_INJ_DURATION, FCL_TEST_EVENTS, LSC_INJ_RESULT, LSC_INJ_FAIL_GROUP, LSC_STATE]

theorem State.injTest_touches (s : State) (l : LaneId) (i : InjRun) : TouchesRows injRows l.reg s (s.injTest l i) := by
  unfold State.injTest
  extract_lets timed wired
  have timed_rows : TouchesRows injRows l.reg s timed := TouchesRows.wr (.refl _ _) (by simp [injRows]) (by decide)
  have wired_rows : TouchesRows injRows l.reg s wired := Touches.ite (TouchesRows.wr timed_rows (by simp [injRows]) (by decide)) timed_rows
  split <;> exact TouchesRows.wr (TouchesRows.wr (TouchesRows.wr wired_rows (by simp [injRows]) (by decide)) (by simp [injRows]) (by decide))
    (by simp [injRows]) (by decide)

/-- A passed injection test (R143). -/
theorem injTest_passes {i : InjRun} (pass : injFailure i = none) (s : State) (l : LaneId) : (s.injTest l i).rd l.reg LSC_INJ_RESULT = 1 ∧
    (s.injTest l i).rd l.reg LSC_STATE = 2 ∧ (s.injTest l i).rd l.reg LSC_INJ_DURATION = 23040 := by
  unfold State.injTest
  extract_lets timed wired
  rw [pass]
  have timed_value : wired.rd l.reg LSC_INJ_DURATION = 23040 := by
    have counted : TouchesRows [FCL_TEST_EVENTS] l.reg timed wired := Touches.ite (TouchesRows.wr (.refl _ _) (by simp) (by decide)) (.refl _ _)
    rw [counted.rd (by decide) _ (by decide)]
    exact State.rd_wr_mapRow (by decide +kernel) (kindOf_reg l) (by decide) (by decide)
  refine ⟨?_, ?_, ?_⟩
  · simp (disch := decide) only [State.rd_wr_row]
    exact State.rd_wr_mapRow (by decide +kernel) (kindOf_reg l) (by decide) (by decide)
  · exact State.rd_wr_mapRow (by decide +kernel) (kindOf_reg l) (by decide) (by decide)
  · simp (disch := decide) only [State.rd_wr_row]
    exact timed_value

/-- The slots with the digests of the images that the boot ROM found. -/
def State.findImages (s : State) (l : LaneId) (images : List (Option Nat)) : State :=
  s.modLane l (fun x => { x with boot := { x.boot with dig0 := (images.getD 0 none).getD 0, dig1 := (images.getD 1 none).getD 0 } })

theorem findImages_dig (s : State) (l : LaneId) (images : List (Option Nat)) {i : Nat} (hi : i < 2) :
    ((s.findImages l images).lane l).boot.dig i = (images.getD i none).getD 0 := by
  rw [State.findImages, State.lane_modLane]
  obtain rfl | rfl : i = 0 ∨ i = 1 := by omega
  · rfl
  · rfl

theorem findImages_rd (s : State) (l : LaneId) (images : List (Option Nat)) (r : Nat) (d : PDesc) (i : Nat) :
    (s.findImages l images).rd r d i = s.rd r d i := by rw [State.findImages, State.modLane_rd]

theorem bootCheck_eq (s : State) (l : LaneId) (images : List (Option Nat)) : s.bootCheck l images =
    if s.rd l.reg UPD_ACT = 0 then
      match [0, 1].find? (fun i => (images.getD i none).isSome) with
      | some i => ((s.findImages l images).setSlot l i 1).activate l i
      | none => s.findImages l images
    else (s.findImages l images).activate l (s.actSlot l) := by
  rw [State.actSlot, ← findImages_rd s l images l.reg UPD_ACT 0]
  rfl

/-- The image of a start after a passed injection test: the active one, or the previous one where a trial did not reach READY. -/
def State.chooseImage (s : State) (l : LaneId) (o : StartOutcome) : State :=
  let b := (s.injTest l o.injection).bootCheck l o.images
  if b.slotState l (b.actSlot l) = 3 ∧ b.rdB l.reg UPD_TRIAL_OK = false then b.rejectTrial l else b

theorem laneStart_failed {o : StartOutcome} (fail : (injFailure o.injection).isSome) : s.laneStart l o = (s.injTest l o.injection).startFail l := if_pos fail

theorem laneStart_passed {o : StartOutcome} (pass : injFailure o.injection = none) : s.laneStart l o =
    let c := s.chooseImage l o
    if c.rd l.reg UPD_ACT = 0 ∨ (o.images.getD (c.actSlot l) none).isNone then (c.wr l.reg LSC_STATE 0 0).startFail l
    else (c.startOn l o).send (.slots l ((c.startOn l o).rd l.reg UPD_ACTIVE_DIGEST) ((c.startOn l o).pendingDigest l)) := by
  unfold State.laneStart State.chooseImage
  rw [if_neg (by simp [pass])]
  simp only [Bool.not_eq_true']
  rfl

/-- The rows that a start writes up to the choice of its image. -/
def chooseRows : List PDesc := injRows ++ slotRows

/-- A start has passed its injection test and marked an image active. -/
structure Chosen (s c : State) (l : LaneId) (i d : Nat) : Prop where
  frame : LaneFrame (AnyRow chooseRows) l.reg s c
  act : c.rd l.reg UPD_ACT = i + 1
  digest : c.rd l.reg UPD_ACTIVE_DIGEST = d % 2 ^ 128
  tested : c.rd l.reg LSC_INJ_RESULT = 1 ∧ c.rd l.reg LSC_STATE = 2 ∧ c.rd l.reg LSC_INJ_DURATION = 23040
  ret : (c.lane l).ret = (s.lane l).ret
  mdie : c.mdie = s.mdie
  part : c.part = s.part

theorem Touches.mdie {P : PKey → Prop} (h : Touches P s t) : t.mdie = s.mdie := by rw [h.rest]

/-- A slot marked active after the test. -/
theorem chosen_activate {o : StartOutcome} (pass : injFailure o.injection = none) {v : State}
    (rows : TouchesRows slotRows l.reg ((s.injTest l o.injection).findImages l o.images) v) {i d : Nat} (hi : i < 2)
    (image : o.images.getD i none = some d) : Chosen s (v.activate l i) l i d := by
  let f := (s.injTest l o.injection).findImages l o.images
  have tested := s.injTest_touches l o.injection
  have rows' : TouchesRows slotRows l.reg f (v.activate l i) := State.activate_touches rows (by simp [slotRows]) (by simp [slotRows]) i
  have found : LaneFrame (AnyRow chooseRows) l.reg s f :=
    (LaneFrame.of_touches (Touches.mono tested fun _ place => (place.mono (by simp [chooseRows])).2)).modLane _
  obtain ⟨result, state, duration⟩ := injTest_passes pass s l
  have kept (d : PDesc) (off : offRows slotRows d = true) : (v.activate l i).rd l.reg d = (s.injTest l o.injection).rd l.reg d := by
    rw [rows'.rd off _ (by decide), findImages_rd]
  refine ⟨found.trans (.of_touches (Touches.mono rows' fun _ place => (place.mono (by simp [chooseRows])).2)), activate_act hi, ?_, ⟨?_, ?_, ?_⟩, ?_, ?_, ?_⟩
  · rw [activate_digest, rows.lane, findImages_dig _ _ _ hi, image]
    rfl
  · rw [kept _ (by decide), result]
  · rw [kept _ (by decide), state]
  · rw [kept _ (by decide), duration]
  · rw [rows'.lane]
    simp only [f, State.findImages, State.lane_modLane, tested.lane]
  · rw [rows'.mdie]
    simp only [f, State.findImages, State.modLane_mdie, tested.mdie]
  · rw [rows'.part]
    simp only [f, State.findImages, State.modLane_part, tested.part]

/-- The state of the slots and the trial before the choice are those of the state at the start. -/
theorem findImages_slots (s : State) (l : LaneId) (o : StartOutcome) {d : PDesc} (off : offRows injRows d = true) :
    ((s.injTest l o.injection).findImages l o.images).rd l.reg d = s.rd l.reg d := by
  rw [findImages_rd, (s.injTest_touches l o.injection).rd off _ (by decide)]

theorem bootCheck_active {o : StartOutcome} {i : Nat} (act : s.rd l.reg UPD_ACT = i + 1) :
    (s.injTest l o.injection).bootCheck l o.images = ((s.injTest l o.injection).findImages l o.images).activate l i := by
  have act' : (s.injTest l o.injection).rd l.reg UPD_ACT = i + 1 := by rw [(s.injTest_touches l o.injection).rd (by decide) _ (by decide), act]
  rw [bootCheck_eq, if_neg (by omega), State.actSlot, act']
  rfl

/-- The active slot of an activated one. -/
theorem activate_actSlot {i : Nat} (hi : i < 2) : (s.activate l i).actSlot l = i := by rw [State.actSlot, activate_act hi, Nat.add_sub_cancel]

theorem activate_trialOk (i : Nat) : (s.activate l i).rdB l.reg UPD_TRIAL_OK = s.rdB l.reg UPD_TRIAL_OK :=
  (State.activate_touches (rows := [UPD_ACT, UPD_ACTIVE_DIGEST]) (.refl _ s) (by simp) (by simp) i).rdB (by decide) _ (by decide)

/-- Outside a failed trial the active image runs. -/
theorem chooseImage_active {o : StartOutcome} {i : Nat} (hi : i < 2) (act : s.rd l.reg UPD_ACT = i + 1)
    (steady : ¬ (s.slotState l i = 3 ∧ s.rdB l.reg UPD_TRIAL_OK = false)) :
    s.chooseImage l o = ((s.injTest l o.injection).findImages l o.images).activate l i := by
  unfold State.chooseImage
  rw [bootCheck_active act]
  refine if_neg ?_
  rwa [activate_actSlot hi, activate_slot, activate_trialOk, slotState_congr (findImages_slots s l o (by decide)), State.rdB,
    findImages_slots s l o (by decide), ← State.rdB]

/-- A trial that did not reach READY is given up, and the previous image runs. -/
theorem chooseImage_trial {o : StartOutcome} {i : Nat} (hi : i < 2) (act : s.rd l.reg UPD_ACT = i + 1)
    (trial : s.slotState l i = 3 ∧ s.rdB l.reg UPD_TRIAL_OK = false) :
    s.chooseImage l o = ((((s.injTest l o.injection).findImages l o.images).activate l i).setSlot l i 5).activate l (1 - i) := by
  unfold State.chooseImage
  rw [bootCheck_active act]
  let f := (s.injTest l o.injection).findImages l o.images
  have slot : (f.activate l i).slotState l i = 3 := by
    rw [activate_slot, slotState_congr (findImages_slots s l o (by decide)), trial.1]
  have ok : (f.activate l i).rdB l.reg UPD_TRIAL_OK = false := by
    rw [activate_trialOk, State.rdB, findImages_slots s l o (by decide), ← State.rdB, trial.2]
  refine (if_pos ⟨by rw [activate_actSlot hi]; exact slot, ok⟩).trans ?_
  rw [rejectTrial_eq (by rw [activate_actSlot hi]; exact slot), activate_actSlot hi]

/-- The first image that passes runs where none is marked active. -/
theorem chooseImage_first {o : StartOutcome} {i d : Nat} (hi : i < 2) (act : s.rd l.reg UPD_ACT = 0) (image : o.images.getD i none = some d)
    (lower : ∀ j, j < i → o.images.getD j none = none) :
    s.chooseImage l o = (((s.injTest l o.injection).findImages l o.images).setSlot l i 1).activate l i := by
  have first : [0, 1].find? (fun i => (o.images.getD i none).isSome) = some i := by
    obtain rfl | rfl : i = 0 ∨ i = 1 := by omega
    · simp only [List.find?_cons, image, Option.isSome_some]
    · simp only [List.find?_cons, lower 0 (by decide), image, Option.isSome_none, Option.isSome_some]
  have act' : (s.injTest l o.injection).rd l.reg UPD_ACT = 0 := by rw [(s.injTest_touches l o.injection).rd (by decide) _ (by decide), act]
  unfold State.chooseImage
  rw [bootCheck_eq, if_pos act', first]
  refine if_neg fun trial => ?_
  have confirmed := trial.1
  rw [activate_actSlot hi, activate_slot, slotState_setSlot_same hi (by decide)] at confirmed
  omega

end
end Sys2Proof.Machine
end

section
/-! PROOFS. Lane starts: the one that ends, the one that runs an image, and what the family of starts says. -/

namespace Sys2Proof.Machine

open Par Var

/-! ### The image runs -/

/-- The lane runs the image of slot `i` and announces its slots. -/
def ImageRuns (s t : State) (l : LaneId) (i d : Nat) : Prop :=
  t.rd l.reg UPD_ACT = i + 1 ∧ t.rd l.reg UPD_ACTIVE_DIGEST = d % 2 ^ 128 ∧ t.rd l.reg INT_BOOT = 1 ∧
    (t.lane l).boot.ann = [] ∧ t.sent.getLast? = some (.slots l (d % 2 ^ 128) (t.pendingDigest l)) ∧ SameOtherLanes s t l ∧ t.rd l.reg LSC_INJ_RESULT = 1 ∧
    t.rd l.reg LSC_STATE = 2 ∧ t.rd l.reg LSC_INJ_DURATION = 23040

/-- A place of the RWS set of a lane die and its power die, but of the tables of RPC. -/
def OwnCfg (l : LaneId) (k : PKey) : Prop :=
  (k.region = l.reg ∨ k.region = l.pow) ∧ ∃ d, lookup k = some d ∧ d.acc = .rws ∧ d.name ≠ RPC_TBL.name

/-- A row that a start leaves once its image is chosen. -/
def offStart (d : PDesc) : Bool := offTail d && cfgFree [d]

section
variable {l : LaneId} {s c t : State} {o : StartOutcome} {i d : Nat}

theorem startOn_rd (out : 3 ≤ c.vstate l) {x : PDesc} (off : offStart x = true) : (c.startOn l o).rd l.reg x = c.rd l.reg x := by
  simp only [offStart, Bool.and_eq_true] at off
  refine (c.startOn_frame l o out).get.rd fun place => ?_
  exact place.elim (not_tailPlace off.1 _ (by decide)) fun cfg => isCfg_not_row cfg off.2 (AnyRow.key (by simp) _ (by decide))

/-- The end of a start: the slots announced. -/
def State.announceSlots (s : State) (l : LaneId) : State := s.send (.slots l (s.rd l.reg UPD_ACTIVE_DIGEST) (s.pendingDigest l))

theorem announceSlots_pending (s : State) (l : LaneId) : (s.announceSlots l).pendingDigest l = s.pendingDigest l := rfl

theorem reg_injective {x l : LaneId} (h : x ≠ l) : x.reg ≠ l.reg := fun e => h (by cases x <;> cases l <;> simp_all [LaneId.reg])

namespace Chosen

theorem out (h : Chosen s c l i d) (out : 3 ≤ s.vstate l) : 3 ≤ c.vstate l := by
  rwa [State.vstate, h.frame.rd (by decide) _ (by decide)]

theorem runs (h : Chosen s c l i d) (out : 3 ≤ s.vstate l) : ImageRuns s ((c.startOn l o).announceSlots l) l i d := by
  have out' := h.out out
  obtain ⟨boot, ann⟩ := startOn_leaves c l o
  have digest : (c.startOn l o).rd l.reg UPD_ACTIVE_DIGEST = d % 2 ^ 128 := by rw [startOn_rd out' (by decide), h.digest]
  obtain ⟨result, state, duration⟩ := h.tested
  refine ⟨(startOn_rd out' (by decide)).trans h.act, digest, boot, ?_, ?_, fun x hx => ?_, (startOn_rd out' (by decide)).trans result,
    (startOn_rd out' (by decide)).trans state, (startOn_rd out' (by decide)).trans duration⟩
  · rw [State.announceSlots, State.send_lane, ann]
  · rw [announceSlots_pending, State.announceSlots, digest]
    exact List.getLast?_concat
  · rw [State.announceSlots, State.send_lane, (c.startOn_frame l o out').others x (reg_injective hx), h.frame.others x (reg_injective hx)]

theorem slots (h : Chosen s c l i d) (out : 3 ≤ s.vstate l) (j : Nat) : ((c.startOn l o).announceSlots l).slotState l j = c.slotState l j :=
  slotState_congr (startOn_rd (h.out out) (by decide)) j

theorem laneStart (h : Chosen s c l i d) (pass : injFailure o.injection = none) (image : o.images.getD i none = some d)
    (hc : s.chooseImage l o = c) : s.laneStart l o = (c.startOn l o).announceSlots l := by
  rw [laneStart_passed pass]
  dsimp only
  rw [hc]
  refine if_neg ?_
  rw [State.actSlot, h.act, Nat.add_sub_cancel, image]
  simp

/-- Without retention the RWS set is as the choice of the image left it and as it was restored. -/
theorem cfg (h : Chosen s c l i d) (cold : (s.lane l).ret = none) {k : PKey} (own : OwnCfg l k) :
    ((c.startOn l o).announceSlots l).params.get k = (c.restoreCfg l o.cfgOk).params.get k ∧ c.params.get k = s.params.get k := by
  obtain ⟨region, x, found, rws, tbl⟩ := own
  exact ⟨State.startOn_cfg (h.ret.trans cold) o region found rws tbl,
    h.frame.get k (isCfg_not_row (isCfg_iff.mpr ⟨region, x, found, rws⟩) (by decide))⟩

theorem mUp (h : Chosen s c l i d) : c.mUp = s.mUp := by
  have kept (x : PDesc) (off : offRows chooseRows x = true) : c.rd 7 x = s.rd 7 x := h.frame.rd off _ (by decide)
  simp only [State.mUp, State.on, State.hasRegion, State.rdB, h.part, kept INT_POWERED (by decide), kept FAB_PHASE (by decide), kept BST_SCAN_REG (by decide)]

end Chosen

/-- A lane start that may begin: the lane die with its clock locked, not yet started (R561). -/
def State.mayStart (s : State) (l : LaneId) : Prop :=
  s.hasRegion l.reg = true ∧ s.rdB l.reg INT_POWERED = true ∧ s.rd l.reg FAB_PHASE = 0 ∧ s.rd l.reg CLK_STATE = 2 ∧ s.rd l.reg PWR_STATE < 2 ∧
    s.rd l.reg INT_BOOT = 0

theorem laneStart_exec (may : s.mayStart l) (o : StartOutcome) : exec (.laneStart l o) s = .next (s.laneStart l o) := by
  obtain ⟨there, powered, phase, clock, power, boot⟩ := may
  exact congrArg Host.Outcome.next (if_pos (by simp [there, powered, phase, clock, power, boot]))

theorem laneStart_refused (may : ¬ s.mayStart l) (o : StartOutcome) : Runs (.laneStart l o) s (fun t => t = s) := by
  refine ⟨s, congrArg Host.Outcome.next (if_neg fun h => may ?_), rfl⟩
  simp only [Bool.and_eq_true, beq_iff_eq, decide_eq_true_eq] at h
  obtain ⟨⟨⟨⟨⟨there, powered⟩, phase⟩, clock⟩, power⟩, boot⟩ := h
  exact ⟨there, powered, phase, clock, power, boot⟩

/-- The active image runs with its configuration, from M's slot where its own area failed (R562). -/
theorem laneStart_active (may : s.mayStart l) (pass : injFailure o.injection = none) (out : 3 ≤ s.vstate l) (hi : i < 2) (act : s.rd l.reg UPD_ACT = i + 1)
    (image : o.images.getD i none = some d) (steady : ¬ (s.slotState l i = 3 ∧ s.rdB l.reg UPD_TRIAL_OK = false)) :
    Runs (.laneStart l o) s (fun t => ImageRuns s t l i d ∧ s.slotState l i = t.slotState l i ∧
      (o.cfgOk = true → (s.lane l).ret = none → ∀ k, OwnCfg l k → t.params.get k = s.params.get k) ∧
      (o.cfgOk = false → (s.lane l).ret = none → s.mdie.sets.find? (fun e => e.1 == l) = none → ∀ k, OwnCfg l k → t.params.get k = resetOf k) ∧
      (o.cfgOk = false → (s.lane l).ret = none → s.mUp = true → ∀ vs, s.mdie.sets.find? (fun e => e.1 == l) = some (l, vs) →
        (vs.map Prod.fst).Nodup → ∀ v ∈ vs, OwnCfg l v.1 → t.params.get v.1 = v.2 % 2 ^ widthOf v.1)) := by
  have chosen : Chosen s (((s.injTest l o.injection).findImages l o.images).activate l i) l i d := chosen_activate pass (.refl _ _) hi image
  have hc := chooseImage_active (o := o) hi act steady
  refine ⟨_, (laneStart_exec may o).trans (congrArg _ (chosen.laneStart pass image hc)), chosen.runs out, ?_, fun own cold k hk => ?_, fun failed cold none k hk => ?_,
    fun failed cold up vs some apart v hv hk => ?_⟩
  · rw [chosen.slots out, activate_slot, slotState_congr (findImages_slots s l o (by decide))]
  · obtain ⟨restored, kept⟩ := chosen.cfg (o := o) cold hk
    rw [restored, own, restoreCfg_own, kept]
  · rw [(chosen.cfg cold hk).1, failed, restoreCfg_none (by rwa [chosen.mdie]) (isCfg_iff.mpr ⟨hk.1, hk.2.imp fun _ h => ⟨h.1, h.2.1⟩⟩)]
  · rw [(chosen.cfg cold hk).1, failed, restoreCfg_some (by rwa [chosen.mdie]) (chosen.mUp.trans up) apart hv
      (isCfg_iff.mpr ⟨hk.1, hk.2.imp fun _ h => ⟨h.1, h.2.1⟩⟩)]

/-- The previous image runs where a trial did not reach READY. -/
theorem laneStart_trial (may : s.mayStart l) (pass : injFailure o.injection = none) (out : 3 ≤ s.vstate l) (hi : i < 2) (act : s.rd l.reg UPD_ACT = i + 1)
    (trial : s.slotState l i = 3 ∧ s.rdB l.reg UPD_TRIAL_OK = false) (image : o.images.getD (1 - i) none = some d) :
    Runs (.laneStart l o) s (fun t => ImageRuns s t l (1 - i) d ∧ t.slotState l i = 5) := by
  let v := (((s.injTest l o.injection).findImages l o.images).activate l i).setSlot l i 5
  have rows : TouchesRows slotRows l.reg ((s.injTest l o.injection).findImages l o.images) v :=
    State.setSlot_touches (State.activate_touches (.refl _ _) (by simp [slotRows]) (by simp [slotRows]) _) (by simp [slotRows]) _ _
  have chosen : Chosen s (v.activate l (1 - i)) l (1 - i) d := chosen_activate pass rows (by omega) image
  refine ⟨_, (laneStart_exec may o).trans (congrArg _ (chosen.laneStart pass image (chooseImage_trial hi act trial))), chosen.runs out, ?_⟩
  rw [chosen.slots out, activate_slot, slotState_setSlot_same hi (by decide)]

/-- Without an active slot the first image that passes runs (log 36). -/
theorem laneStart_first (may : s.mayStart l) (pass : injFailure o.injection = none) (out : 3 ≤ s.vstate l) (hi : i < 2) (act : s.rd l.reg UPD_ACT = 0)
    (image : o.images.getD i none = some d) (lower : ∀ j, j < i → o.images.getD j none = none) :
    Runs (.laneStart l o) s (fun t => ImageRuns s t l i d ∧ t.slotState l i = 1) := by
  have chosen : Chosen s ((((s.injTest l o.injection).findImages l o.images).setSlot l i 1).activate l i) l i d :=
    chosen_activate pass (State.setSlot_touches (.refl _ _) (by simp [slotRows]) _ _) hi image
  refine ⟨_, (laneStart_exec may o).trans (congrArg _ (chosen.laneStart pass image (chooseImage_first hi act image lower))), chosen.runs out, ?_⟩
  rw [chosen.slots out, activate_slot, slotState_setSlot_same hi (by decide)]

/-! ### A start that ends -/

/-- A failed start of a lane begins again as step 1 of a rejoin, or stops there (R128, log 68). -/
theorem startFail_again (h : s.rdB l.reg INT_REJOINING = false ∨ s.rd l.reg STF_STEP_FAIL 1 < 2) : s.startFail l =
    (s.wr l.reg STF_STEP_FAIL 1 (s.rd l.reg STF_STEP_FAIL 1 + 1)).wr l.reg INT_BOOT 0 (if s.rdB l.reg INT_REJOINING = true then 0 else 4) := by
  unfold State.startFail
  extract_lets n failed
  have rejoins : failed.rdB l.reg INT_REJOINING = s.rdB l.reg INT_REJOINING := by
    rw [State.rdB, State.rd_wr_row _ _ _ _ (by decide) (by decide) (by decide), State.rdB]
  rw [rejoins]
  cases rejoining : s.rdB l.reg INT_REJOINING
  · rfl
  · have few : ¬ 3 ≤ n := by simp only [rejoining, Bool.true_eq_false, false_or] at h; omega
    rw [if_neg (by decide), if_neg few, if_pos rfl]

/-- After three failures in a row the lane stays out with source 12 (R128, log 68). -/
theorem startFail_third (rejoins : s.rdB l.reg INT_REJOINING = true) (third : 2 ≤ s.rd l.reg STF_STEP_FAIL 1) : s.startFail l =
    (((s.wr l.reg STF_STEP_FAIL 1 (s.rd l.reg STF_STEP_FAIL 1 + 1)).wr l.reg INT_BOOT 0 4).wr l.reg STF_STAY_OUT 0 1).raise l.reg 12 := by
  unfold State.startFail
  extract_lets n failed
  have rejoins' : failed.rdB l.reg INT_REJOINING = true := by
    rw [State.rdB, State.rd_wr_row _ _ _ _ (by decide) (by decide) (by decide), ← State.rdB, rejoins]
  rw [if_neg (by simp [rejoins']), if_pos (by omega)]

theorem startFail_touches (h : s.rdB l.reg INT_REJOINING = false ∨ s.rd l.reg STF_STEP_FAIL 1 < 2) :
    TouchesRows [STF_STEP_FAIL, INT_BOOT] l.reg s (s.startFail l) := by
  rw [startFail_again h]
  exact TouchesRows.wr (TouchesRows.wr (.refl _ _) (by simp) (by decide)) (by simp) (by decide)

theorem startFail_boot (h : s.rdB l.reg INT_REJOINING = false ∨ s.rd l.reg STF_STEP_FAIL 1 < 2) :
    (s.startFail l).rd l.reg INT_BOOT = if s.rdB l.reg INT_REJOINING = true then 0 else 4 := by
  rw [startFail_again h]
  exact State.rd_wr_of_lt (by rw [widthOf_var (by decide)]; split <;> decide)

theorem State.puts_cons (s : State) (r : Nat) (d : PDesc) (i v : Nat) (ws : List (PKey × Nat)) : s.puts ((d.key r i, v) :: ws) = (s.wr r d i v).puts ws := rfl

theorem State.puts_nil (s : State) : s.puts [] = s := rfl

/-- The state after a failed injection test, with its test event counted. -/
def State.timedTest (s : State) (l : LaneId) (wire : Bool) : State :=
  if wire then (s.wr l.reg LSC_INJ_DURATION 0 23040).bump l.reg FCL_TEST_EVENTS else s.wr l.reg LSC_INJ_DURATION 0 23040

theorem injTest_fails {inj : InjRun} {kind group : Nat} (fail : injFailure inj = some (kind, group)) : s.injTest l inj =
    (((s.timedTest l inj.wire).wr l.reg LSC_INJ_RESULT 0 kind).wr l.reg LSC_INJ_FAIL_GROUP 0 group).wr l.reg LSC_STATE 0 0 := by
  unfold State.injTest
  rw [fail]
  rfl

section
variable {kind group : Nat}

/-- A lane start ends at a failed injection test (R144, R145). -/
theorem laneStart_injection (may : s.mayStart l) (fail : injFailure o.injection = some (kind, group))
    (again : s.rdB l.reg INT_REJOINING = false ∨ s.rd l.reg STF_STEP_FAIL 1 < 2) : Runs (.laneStart l o) s (fun t => Writes s t
      ([(LSC_INJ_DURATION.key l.reg 0, 23040), (LSC_INJ_RESULT.key l.reg 0, kind), (LSC_INJ_FAIL_GROUP.key l.reg 0, group),
        (LSC_STATE.key l.reg 0, 0), (STF_STEP_FAIL.key l.reg 1, s.rd l.reg STF_STEP_FAIL 1 + 1),
        (INT_BOOT.key l.reg 0, if s.rdB l.reg INT_REJOINING = true then 0 else 4)] ++
        if o.injection.wire = true then [s.next l.reg FCL_TEST_EVENTS] else [])) := by
  have rows := s.injTest_touches l o.injection
  have rejoins : (s.injTest l o.injection).rdB l.reg INT_REJOINING = s.rdB l.reg INT_REJOINING := rows.rdB (by decide) _ (by decide)
  have steps : (s.injTest l o.injection).rd l.reg STF_STEP_FAIL 1 = s.rd l.reg STF_STEP_FAIL 1 := rows.rd (by decide) _ (by decide)
  refine ⟨_, (laneStart_exec may o).trans (congrArg _ (laneStart_failed (by simp [fail]))), ?_⟩
  rw [startFail_again (by rwa [rejoins, steps]), rejoins, steps, injTest_fails fail]
  generalize (if s.rdB l.reg INT_REJOINING = true then 0 else 4) = boot
  generalize s.rd l.reg STF_STEP_FAIL 1 + 1 = failures
  cases o.injection.wire
  · rw [State.timedTest, if_neg (by decide), if_neg (by decide), List.append_nil]
    exact .of_puts (by simp only [List.map_cons, List.map_nil]; cases l <;> decide) (by simp only [State.puts_cons, State.puts_nil])
  · have events : (s.wr l.reg LSC_INJ_DURATION 0 23040).next l.reg FCL_TEST_EVENTS = s.next l.reg FCL_TEST_EVENTS := by
      rw [State.next, State.rd_wr_row _ _ _ _ (by decide) (by decide) (by decide), State.next]
    rw [State.timedTest, if_pos rfl, if_pos rfl, State.bump_eq, events]
    refine Writes.congr (ws := (LSC_INJ_DURATION.key l.reg 0, 23040) :: s.next l.reg FCL_TEST_EVENTS :: [(LSC_INJ_RESULT.key l.reg 0, kind),
        (LSC_INJ_FAIL_GROUP.key l.reg 0, group), (LSC_STATE.key l.reg 0, 0), (STF_STEP_FAIL.key l.reg 1, failures), (INT_BOOT.key l.reg 0, boot)])
      (.of_puts (by simp only [State.next, List.map_cons, List.map_nil]; cases l <;> decide) (by simp only [State.next, State.puts_cons, State.puts_nil]))
      fun _ => (List.Perm.cons _ (List.perm_append_singleton _ _)).mem_iff

/-- A third failed start as step 1 of a rejoin keeps the lane out (log 68). -/
theorem laneStart_stayOut (may : s.mayStart l) (fail : injFailure o.injection = some (kind, group)) (rejoins : s.rdB l.reg INT_REJOINING = true)
    (third : 2 ≤ s.rd l.reg STF_STEP_FAIL 1) (out : 3 ≤ s.vstate l) : Runs (.laneStart l o) s (fun t =>
      t.rd l.reg INT_BOOT = 4 ∧ t.rd l.reg STF_STAY_OUT = 1 ∧ t.rd l.reg LSC_STATE = 0 ∧ t.rd l.reg LSC_INJ_RESULT = kind % 4 ∧
      (Judged s l.reg 12 → bit (t.rd l.reg FCL_ERR_STATUS) 12 = true)) := by
  let a := s.injTest l o.injection
  let v := ((a.wr l.reg STF_STEP_FAIL 1 (a.rd l.reg STF_STEP_FAIL 1 + 1)).wr l.reg INT_BOOT 0 4).wr l.reg STF_STAY_OUT 0 1
  have rows := s.injTest_touches l o.injection
  have rejoins' : a.rdB l.reg INT_REJOINING = true := (rows.rdB (by decide) _ (by decide)).trans rejoins
  have third' : 2 ≤ a.rd l.reg STF_STEP_FAIL 1 := by rwa [rows.rd (by decide) _ (by decide)]
  have noted : TouchesRows ([STF_STEP_FAIL, INT_BOOT, STF_STAY_OUT] ++ injRows) l.reg s v :=
    TouchesRows.wr (TouchesRows.wr (TouchesRows.wr (rows.mono (List.subset_append_right _ _)) (by simp) (by decide)) (by simp) (by decide)) (by simp) (by decide)
  have quiet : NoReset v l.reg 12 := .of_out (by rwa [State.vstate, noted.rd (by decide) _ (by decide)]) 12
  have raised := State.raise_faults v l.reg 12 false quiet
  refine ⟨v.raise l.reg 12, ?_, ?_, ?_, ?_, ?_, fun j => ?_⟩
  · rw [laneStart_exec may, laneStart_failed (by simp [fail]), startFail_third rejoins' third']
  · rw [raised.rd (by decide) _ (by decide), State.rd_wr_row _ _ _ _ (by decide) (by decide) (by decide)]
    exact State.rd_wr_of_lt (by rw [widthOf_var (by decide)]; decide)
  · rw [raised.rd (by decide) _ (by decide)]
    exact State.rd_wr_of_lt (by rw [widthOf_var (by decide)]; decide)
  · rw [raised.rd (by decide) _ (by decide)]
    simp (disch := decide) only [v, a, injTest_fails fail, State.rd_wr_row, State.rd_wr_zero]
  · rw [raised.rd (by decide) _ (by decide)]
    simp (disch := decide) only [v, a, injTest_fails fail, State.rd_wr_row, State.rd_wr_same]
    rw [widthOf_mapRow (by decide +kernel) (kindOf_reg l) (by decide)]
    rfl
  · exact State.raise_err (j.congr noted.part (noted.rd (by decide) _ (ownerOf_lt _ _)) (noted.rd (by decide) _ (by decide))) quiet (by cases l <;> decide)

end

/-- Where no image passes, the choice marks slots alone, and the slot marked active has none. -/
theorem chooseImage_none (first : o.images.getD 0 none = none) (second : o.images.getD 1 none = none) (act : s.rd l.reg UPD_ACT ≤ 2) :
    TouchesRows slotRows l.reg ((s.injTest l o.injection).findImages l o.images) (s.chooseImage l o) ∧
      (o.images.getD ((s.chooseImage l o).actSlot l) none).isNone := by
  let f := (s.injTest l o.injection).findImages l o.images
  let b := (s.injTest l o.injection).bootCheck l o.images
  have act' : (s.injTest l o.injection).rd l.reg UPD_ACT = s.rd l.reg UPD_ACT := (s.injTest_touches l o.injection).rd (by decide) _ (by decide)
  have marks {v : State} (h : TouchesRows slotRows l.reg f v) (i : Nat) : TouchesRows slotRows l.reg f (v.activate l i) :=
    State.activate_touches h (by simp [slotRows]) (by simp [slotRows]) i
  have boot : TouchesRows slotRows l.reg f b ∧ b.actSlot l < 2 := by
    simp only [b]
    rw [bootCheck_eq]
    split
    · next zero =>
      have absent : [0, 1].find? (fun i => (o.images.getD i none).isSome) = none := by
        simp only [List.find?_cons, List.find?_nil, first, second, Option.isSome_none]
      rw [absent]
      exact ⟨.refl _ _, by rw [State.actSlot, findImages_rd, zero]; decide⟩
    · next some =>
      have slot : (s.injTest l o.injection).actSlot l < 2 := by rw [State.actSlot]; omega
      exact ⟨marks (.refl _ _) _, by rwa [activate_actSlot slot]⟩
  have chosen : TouchesRows slotRows l.reg f (s.chooseImage l o) ∧ (s.chooseImage l o).actSlot l < 2 := by
    unfold State.chooseImage
    dsimp only
    split
    · next trial =>
      rw [rejectTrial_eq trial.1, activate_actSlot (by omega)]
      exact ⟨marks (State.setSlot_touches boot.1 (by simp [slotRows]) _ _) _, by omega⟩
    · exact boot
  refine ⟨chosen.1, ?_⟩
  obtain h | h : (s.chooseImage l o).actSlot l = 0 ∨ (s.chooseImage l o).actSlot l = 1 := by omega
  · rw [h, first]; rfl
  · rw [h, second]; rfl

/-- A lane start ends where no image passes (R561). -/
theorem laneStart_noImage (may : s.mayStart l) (pass : injFailure o.injection = none) (first : o.images.getD 0 none = none) (second : o.images.getD 1 none = none)
    (act : s.rd l.reg UPD_ACT ≤ 2) (again : s.rdB l.reg INT_REJOINING = false ∨ s.rd l.reg STF_STEP_FAIL 1 < 2) :
    Runs (.laneStart l o) s (fun t => t.rd l.reg INT_BOOT = (if s.rdB l.reg INT_REJOINING = true then 0 else 4) ∧ t.sent = s.sent ∧
      t.rd l.reg LSC_INJ_RESULT = 1 ∧ t.rd l.reg LSC_STATE = 0 ∧ t.rd l.reg FAB_PHASE = 0) := by
  obtain ⟨rows, none⟩ := chooseImage_none (l := l) first second act
  obtain ⟨result, -, -⟩ := injTest_passes pass s l
  let c := s.chooseImage l o
  let v := c.wr l.reg LSC_STATE 0 0
  have tested := s.injTest_touches l o.injection
  have kept {x : PDesc} (off : offRows (LSC_STATE :: slotRows) x = true) {i : Nat} (hi : i < 256) : v.rd l.reg x i = (s.injTest l o.injection).rd l.reg x i := by
    rw [(TouchesRows.wr (rows.mono (List.subset_cons_self _ _)) (by simp) (by decide) : TouchesRows (LSC_STATE :: slotRows) l.reg _ v).rd off _ hi, findImages_rd]
  have rejoins : v.rdB l.reg INT_REJOINING = s.rdB l.reg INT_REJOINING := by
    rw [State.rdB, kept (by decide) (by decide), tested.rd (by decide) _ (by decide), State.rdB]
  have again' : v.rdB l.reg INT_REJOINING = false ∨ v.rd l.reg STF_STEP_FAIL 1 < 2 := by
    rwa [rejoins, kept (by decide) (by decide), tested.rd (by decide) _ (by decide)]
  have ended := startFail_touches again'
  refine ⟨v.startFail l, ?_, ?_, ?_, ?_, ?_, ?_⟩
  · rw [laneStart_exec may, laneStart_passed pass]
    exact congrArg _ (if_pos (.inr none))
  · rw [startFail_boot again', rejoins]
  · rw [ended.sent, State.wr_sent, rows.sent, State.findImages, State.modLane_sent, tested.sent]
  · rw [ended.rd (by decide) _ (by decide), kept (by decide) (by decide), result]
  · rw [ended.rd (by decide) _ (by decide), State.rd_wr_zero]
  · rw [ended.rd (by decide) _ (by decide), kept (by decide) (by decide), tested.rd (by decide) _ (by decide)]
    exact may.2.2.1

end
end Sys2Proof.Machine
end

section
/-! PROOFS. The family of starts. -/

namespace Sys2Proof.Machine

open Par Var

section
variable {l : LaneId} {s : State}

theorem laneReady_ready (t0 : Nat) (boot : s.rd l.reg INT_BOOT = 3) (powered : s.rdB l.reg INT_POWERED = true) (pair : s.rd l.reg LSC_STATE ≠ 3) :
    exec (.laneReady l t0) s = .next ((s.atTime t0).laneReady l) :=
  congrArg Host.Outcome.next (if_pos ⟨boot, powered, pair⟩)

theorem laneReady_halted (t0 : Nat) (h : s.rd l.reg INT_BOOT ≠ 3 ∨ s.rd l.reg LSC_STATE = 3) : exec (.laneReady l t0) s = .next (s.atTime t0) :=
  congrArg Host.Outcome.next (if_neg fun ready => h.elim (fun boot => boot ready.1) fun pair => ready.2.2 pair)

end

/-- Settles O57. The start of a lane, `laneReady_leaves`, the slots, the shared dies and the heartbeats of M, each by its own lemma. -/
theorem start : Obligations.Start := by
  unfold Obligations.Start
  refine ⟨fun l o s => ⟨fun may => laneStart_refused may o, fun may => ⟨fun kind group fail => ⟨fun again => laneStart_injection may fail again,
      fun rejoins third out => laneStart_stayOut may fail rejoins third out⟩, fun pass out => ⟨?_, ?_, ?_, ?_⟩⟩, fun t0 => ⟨?_, ?_⟩⟩,
    fun l peer active pending s there powered => ⟨?_, ?_, ?_⟩, fun l moved s => ⟨?_, ?_, ?_⟩,
    fun l s up there powered => powerDieReady_runs up there powered, fun d recordOk creepWake s there powered => ⟨?_, ?_, ?_⟩,
    fun l lifecycle s up => ⟨?_, ?_, ?_, ?_, ?_, ?_, ?_, ?_⟩⟩
  · exact fun i d hi act image steady => laneStart_active may pass out hi act image steady
  · exact fun i d hi act trial image => laneStart_trial may pass out hi act trial image
  · exact fun i d hi act image lower => laneStart_first may pass out hi act image lower
  · exact fun first second act again => laneStart_noImage may pass first second act again
  · exact fun boot powered pair => ⟨_, laneReady_ready t0 boot powered pair, laneReady_leaves (s := s.atTime t0) rfl⟩
  · exact fun h => ⟨_, laneReady_halted t0 h, rfl⟩
  · exact fun other quiet => slotAnnounce_kept there powered other quiet
  · exact fun other tried hi act => slotAnnounce_tried there powered other tried hi act (by rw [State.actSlot, act, Nat.add_sub_cancel])
  · rintro rfl
    exact slotAnnounce_self
  · exact fun boot => ⟨s, congrArg Host.Outcome.next (if_pos boot), rfl⟩
  · exact fun boot h => judged_only boot (chooseSlot_stays h)
  · intro i hi boot still some agreed pending lower
    subst still
    exact slot_tried hi boot some agreed pending lower
  · intro phase hd
    subst hd
    exact ⟨_, sharedDieReady_s there powered phase recordOk creepWake, sReady_leaves s recordOk creepWake⟩
  · intro phase hd
    subst hd
    exact ⟨_, sharedDieReady_m there powered phase recordOk creepWake, mReady_writes s⟩
  · exact fun phase => ⟨s, congrArg Host.Outcome.next (if_neg (by simp [phase])), rfl⟩
  · intro here
    exact ⟨_, (mHeartbeatReceive_eq up lifecycle).trans (by rw [if_pos here]; rfl), .of_puts (by simp) rfl⟩
  · exact fun lost counts few => mHeartbeat_counts up lost lifecycle (beatCount_counts counts) (by omega)
  · exact fun lost counts many => mHeartbeat_ends up lost lifecycle (by rw [beatCount_counts counts]; omega)
  · exact fun lost counts same few => mHeartbeat_counts up lost lifecycle (beatCount_same counts same) few
  · exact fun lost counts missed => mHeartbeat_counts up lost lifecycle (beatCount_missed counts missed) (by decide)
  · intro lost active
    exact ⟨_, (mLostTimeout_eq up).trans (by rw [if_pos lost, if_pos active]; rfl), .of_puts (by simp) rfl⟩
  · exact fun lost idle quiet => mLost_again up lost idle quiet
  · exact fun here quiet => mLost_first up here quiet

end Sys2Proof.Machine
end

section
/-! PROOFS. The arbiter of a fabric: which requester is granted and what a grant writes. -/

namespace Sys2Proof.Machine

open Par Var

/-! ### The choice -/

theorem requesters_lt (r : Nat) : requesters r ≤ 14 := by
  unfold requesters
  split <;> decide

theorem roundRobin_mem {n last q : Nat} {qs : List Nat} (h : roundRobin n last qs = some q) : q ∈ qs := by
  simpa using List.find?_some h

/-- Some requester is found where one waits. -/
theorem roundRobin_isSome {n last q : Nat} {qs : List Nat} (hq : q ∈ qs) (hn : q < n) : (roundRobin n last qs).isSome := by
  rw [roundRobin, List.find?_isSome]
  refine ⟨q, List.mem_map.mpr ⟨(q + (n - last % n)) % n, List.mem_range.mpr (Nat.mod_lt _ (by omega)), ?_⟩, by simpa using hq⟩
  have turn := Nat.mod_lt last (show 0 < n by omega)
  rw [Nat.add_mod, Nat.mod_mod, ← Nat.add_mod, show last + (q + (n - last % n)) = q + n * (last / n + 1) by
    have := Nat.div_add_mod last n
    rw [Nat.mul_add, Nat.mul_one]; omega, Nat.add_mul_mod_self_left, Nat.mod_eq_of_lt hn]

/-- The only one of some requesters is found. -/
theorem roundRobin_only {n last q : Nat} {qs : List Nat} (hq : q ∈ qs) (hn : q < n) (only : ∀ y ∈ qs, y = q) : roundRobin n last qs = some q := by
  obtain ⟨x, hx⟩ := Option.isSome_iff_exists.mp (roundRobin_isSome (last := last) hq hn)
  rw [hx, only x (roundRobin_mem hx)]

/-- After the turn of one requester the next one is found first. -/
theorem roundRobin_next {n a b : Nat} (ha : a < n) (hb : b < n) (apart : a ≠ b) : roundRobin n (a + 1) [a, b] = some b := by
  obtain ⟨x, hx⟩ := Option.isSome_iff_exists.mp (roundRobin_isSome (last := a + 1) (qs := [a, b]) (List.mem_cons_of_mem _ List.mem_cons_self) hb)
  obtain rfl | rfl : x = a ∨ x = b := by simpa using roundRobin_mem hx
  · exfalso
    obtain ⟨-, i, hi, here, before⟩ := List.find?_eq_some_iff_getElem.mp hx
    simp only [List.getElem_map, List.getElem_range, List.length_map, List.length_range] at hi here before
    have last : i = n - 1 := by
      by_cases wrap : x + 1 + i < n
      · rw [Nat.mod_eq_of_lt wrap] at here; omega
      · rw [Nat.mod_eq_sub_mod (by omega), Nat.mod_eq_of_lt (by omega)] at here; omega
    by_cases above : x < b
    · have earlier := before (b - x - 1) (by omega)
      rw [show x + 1 + (b - x - 1) = b by omega, Nat.mod_eq_of_lt hb] at earlier
      simp at earlier
    · have earlier := before (b + n - x - 1) (by omega)
      rw [show x + 1 + (b + n - x - 1) = b + n by omega, Nat.add_mod_right, Nat.mod_eq_of_lt hb] at earlier
      simp at earlier
  · exact hx

section
variable {s : State} {r q : Nat}

/-- The requester of the highest priority is granted (R449). -/
theorem byPrio_best {qs : List Nat} (hq : q ∈ qs) (hn : q < requesters r) (prio : s.rd r FAB_PRIO q < 16)
    (best : ∀ y ∈ qs, y ≠ q → s.rd r FAB_PRIO q < s.rd r FAB_PRIO y) : s.byPrio r qs = some q := by
  have level : (List.range 16).find? (fun p => qs.any (fun q => s.rd r FAB_PRIO q == p)) = some (s.rd r FAB_PRIO q) := by
    rw [List.find?_range_eq_some]
    refine ⟨List.any_eq_true.mpr ⟨q, hq, by simp⟩, List.mem_range.mpr prio, fun p hp => ?_⟩
    rw [Bool.not_eq_true', List.any_eq_false]
    intro y hy same
    rw [beq_iff_eq] at same
    by_cases e : y = q
    · subst e; omega
    · have := best y hy e; omega
  rw [State.byPrio, level]
  refine roundRobin_only (List.mem_filter.mpr ⟨hq, by simp⟩) hn fun y hy => ?_
  obtain ⟨hy, same⟩ := List.mem_filter.mp hy
  by_contra e
  have := best y hy e
  rw [beq_iff_eq] at same
  omega

/-- A critical requester is granted before every other one, the lowest first (R448). -/
theorem arbitrate_critical {qs : List Nat} (hq : q ∈ qs) (hn : q < requesters r) (critical : s.rd r FAB_CLASS q = 0)
    (lowest : ∀ y ∈ qs, s.rd r FAB_CLASS y = 0 → q ≤ y) : s.fabArbitrate r qs = some (q, false) := by
  have first : (List.range (requesters r)).find? (fun q => qs.contains q && s.reqClass r q == 0) = some q := by
    rw [List.find?_range_eq_some]
    refine ⟨by simp [hq, State.reqClass, critical], List.mem_range.mpr hn, fun p hp => ?_⟩
    rw [Bool.not_eq_true', ← Bool.not_eq_true]
    intro other
    simp only [Bool.and_eq_true, List.contains_iff_mem, beq_iff_eq, State.reqClass] at other
    have := lowest p other.1 other.2
    omega
  rw [State.fabArbitrate, first]

theorem arbitrate_noCritical {qs : List Nat} (none : ∀ y ∈ qs, s.rd r FAB_CLASS y ≠ 0) : s.fabArbitrate r qs =
    match s.byPrio r (qs.filter (fun q => s.reqClass r q == 2 && decide (s.rd r FAB_BG_WAIT q ≥ 15))) with
    | some q => some (q, true)
    | .none => (s.byPrio r qs).map (fun q => (q, false)) := by
  have absent : (List.range (requesters r)).find? (fun q => qs.contains q && s.reqClass r q == 0) = .none := by
    rw [List.find?_eq_none]
    intro p _ critical
    simp only [Bool.and_eq_true, List.contains_iff_mem, beq_iff_eq, State.reqClass] at critical
    exact none p critical.1 critical.2
  rw [State.fabArbitrate, absent] <;> rfl

/-- Among background requesters whose share is due the highest priority is granted (R450). -/
theorem arbitrate_due {qs : List Nat} (hq : q ∈ qs) (hn : q < requesters r) (prio : s.rd r FAB_PRIO q < 16) (none : ∀ y ∈ qs, s.rd r FAB_CLASS y ≠ 0)
    (due : s.rd r FAB_CLASS q = 2 ∧ 15 ≤ s.rd r FAB_BG_WAIT q)
    (best : ∀ y ∈ qs, y ≠ q → s.rd r FAB_CLASS y = 2 ∧ 15 ≤ s.rd r FAB_BG_WAIT y → s.rd r FAB_PRIO q < s.rd r FAB_PRIO y) :
    s.fabArbitrate r qs = some (q, true) := by
  rw [arbitrate_noCritical none, byPrio_best (List.mem_filter.mpr ⟨hq, by simp [State.reqClass, due]⟩) hn prio]
  intro y hy apart
  obtain ⟨hy, waits⟩ := List.mem_filter.mp hy
  simp only [Bool.and_eq_true, beq_iff_eq, decide_eq_true_eq, State.reqClass] at waits
  exact best y hy apart waits

/-- With no critical requester and no share due the highest priority is granted (R449). -/
theorem arbitrate_prio {qs : List Nat} (none : ∀ y ∈ qs, s.rd r FAB_CLASS y ≠ 0)
    (idle : ∀ y ∈ qs, ¬ (s.rd r FAB_CLASS y = 2 ∧ 15 ≤ s.rd r FAB_BG_WAIT y)) (best : s.byPrio r qs = some q) :
    s.fabArbitrate r qs = some (q, false) := by
  have absent : qs.filter (fun q => s.reqClass r q == 2 && decide (s.rd r FAB_BG_WAIT q ≥ 15)) = [] := by
    rw [List.filter_eq_nil_iff]
    intro y hy waits
    simp only [Bool.and_eq_true, beq_iff_eq, decide_eq_true_eq, State.reqClass] at waits
    exact idle y hy waits
  have nothing : s.byPrio r [] = .none := by
    rw [State.byPrio, List.find?_eq_none.mpr (by simp)]
  rw [arbitrate_noCritical none, absent, nothing, best]
  rfl

/-- A requester alone is granted. -/
theorem arbitrate_alone (hn : q < requesters r) (prio : s.rd r FAB_PRIO q < 16) : ∃ share, s.fabArbitrate r [q] = some (q, share) := by
  have best : s.byPrio r [q] = some q := byPrio_best List.mem_cons_self hn prio (by simp)
  by_cases critical : s.rd r FAB_CLASS q = 0
  · exact ⟨_, arbitrate_critical List.mem_cons_self hn critical (by simp)⟩
  · by_cases due : s.rd r FAB_CLASS q = 2 ∧ 15 ≤ s.rd r FAB_BG_WAIT q
    · exact ⟨_, arbitrate_due List.mem_cons_self hn prio (by simpa using critical) due (by simp)⟩
    · exact ⟨_, arbitrate_prio (by simpa using critical) (by simpa using due) best⟩

/-- Of two requesters of one priority the one whose turn it is is granted (R449). -/
theorem arbitrate_turn {a b : Nat} (ha : a < requesters r) (hb : b < requesters r) (apart : a ≠ b) (classA : s.rd r FAB_CLASS a = 1)
    (classB : s.rd r FAB_CLASS b = 1) (prio : s.rd r FAB_PRIO a < 16) (same : s.rd r FAB_PRIO b = s.rd r FAB_PRIO a)
    (turn : s.rd r FAB_RR (s.rd r FAB_PRIO a) = a + 1) : s.fabArbitrate r [a, b] = some (b, false) := by
  have level : (List.range 16).find? (fun p => [a, b].any (fun q => s.rd r FAB_PRIO q == p)) = some (s.rd r FAB_PRIO a) := by
    rw [List.find?_range_eq_some]
    refine ⟨by simp, List.mem_range.mpr prio, fun p hp => ?_⟩
    simp [same]
    omega
  refine arbitrate_prio (by simp [classA, classB]) (by simp [classA, classB]) ?_
  rw [State.byPrio, level]
  simp only [turn, same, beq_self_eq_true, List.filter_cons_of_pos, List.filter_nil]
  exact roundRobin_next ha hb apart

end

/-! ### The grant -/

/-- The rows that a grant writes. -/
def grantRows : List PDesc := [FAB_OWNER, FAB_RR, FAB_BG_WAIT, FAB_CNT_GRANT, FAB_CNT_WAIT, FAB_MAX_WAIT, FAB_CNT_BG_FORCED]

section
variable {s u : State} {r q : Nat} {reqs : List FabReq} {share : Bool}

theorem fabCount_outside (h : s.rd r FAB_PHASE ≠ 1) (d : PDesc) (i n : Nat) : s.fabCount r d i n = s.bumpBy r d i n := if_neg h

theorem fabCount_run (h : s.rd r FAB_PHASE = 1) (d : PDesc) (i n : Nat) : s.fabCount r d i n = s := if_pos h

theorem State.fabCount_touches {rows : List PDesc} (h : TouchesRows rows r u s) {d : PDesc} (hd : d ∈ rows) {i n : Nat} (hi : i < 256) :
    TouchesRows rows r u (s.fabCount r d i n) := Touches.ite h (h.wr hd hi)

/-- The owner and its place in the round robin order noted. -/
def State.grantOwner (s : State) (r q : Nat) : State :=
  if (s.wr r FAB_OWNER 0 (q + 1)).reqClass r q = 0 then s.wr r FAB_OWNER 0 (q + 1)
  else (s.wr r FAB_OWNER 0 (q + 1)).wr r FAB_RR ((s.wr r FAB_OWNER 0 (q + 1)).rd r FAB_PRIO q) (q + 1)

/-- One more grant that a background requester has waited for (R450). -/
def State.waitOn (s : State) (r : Nat) (x : FabReq) : State :=
  if s.reqClass r x.q = 2 then s.wr r FAB_BG_WAIT x.q (min 255 (s.rd r FAB_BG_WAIT x.q + 1)) else s

/-- The waits of the background requesters after a grant. -/
def State.grantWaits (s : State) (r q : Nat) (reqs : List FabReq) : State :=
  match s.reqClass r q with
  | 1 => reqs.foldl (fun s x => s.waitOn r x) s
  | 2 => reqs.foldl (fun s x => s.wr r FAB_BG_WAIT x.q 0) s
  | _ => s

/-- The counters of a grant. -/
def State.grantCounts (s : State) (r q w : Nat) (share : Bool) : State :=
  let s := (s.fabCount r FAB_CNT_GRANT q 1).fabCount r FAB_CNT_WAIT q w
  let s := if s.rd r FAB_PHASE = 1 then s else s.wr r FAB_MAX_WAIT q (max (satNat 16 w) (s.rd r FAB_MAX_WAIT q))
  if share then s.fabCount r FAB_CNT_BG_FORCED 0 1 else s

theorem grant_eq {x : FabReq} (found : reqs.find? (fun x => x.q == q) = some x) (share : Bool) :
    s.grant r q share reqs = ((s.grantOwner r q).grantWaits r q reqs).grantCounts r q x.waited share := by
  unfold State.grant
  rw [found]
  rfl

theorem State.grantOwner_touches (prio : s.rd r FAB_PRIO q < 16) (hq : q < 256) : TouchesRows [FAB_OWNER, FAB_RR] r s (s.grantOwner r q) := by
  have owner : TouchesRows [FAB_OWNER, FAB_RR] r s (s.wr r FAB_OWNER 0 (q + 1)) := TouchesRows.wr (.refl _ s) (by simp) (by decide)
  exact Touches.ite owner (owner.wr (by simp) (by rw [State.rd_wr_row _ _ _ _ (by decide) (by decide) hq]; omega))

theorem grantOwner_owner (prio : s.rd r FAB_PRIO q < 16) (hq : q < 256) : (s.grantOwner r q).rd r FAB_OWNER = q + 1 := by
  have value : (s.wr r FAB_OWNER 0 (q + 1)).rd r FAB_OWNER = q + 1 := State.rd_wr_of_lt (by rw [widthOf_var (by decide)]; omega)
  unfold State.grantOwner
  split
  · exact value
  · rw [State.rd_wr_row _ _ _ _ (by decide) (by rw [State.rd_wr_row _ _ _ _ (by decide) (by decide) hq]; omega) (by decide), value]

theorem State.waitOn_touches (h : TouchesRows [FAB_BG_WAIT] r u s) {x : FabReq} (hx : x.q < 256) : TouchesRows [FAB_BG_WAIT] r u (s.waitOn r x) :=
  Touches.ite (h.wr (by simp) hx) h

theorem State.grantWaits_touches (small : ∀ y ∈ reqs, y.q < 256) : TouchesRows [FAB_BG_WAIT] r s (s.grantWaits r q reqs) := by
  unfold State.grantWaits
  split
  · exact Touches.foldl_mem _ (fun _ y hy g => State.waitOn_touches g (small y hy)) (.refl _ s)
  · exact Touches.foldl_mem _ (fun _ y hy g => TouchesRows.wr g (by simp) (small y hy)) (.refl _ s)
  · exact .refl _ s

theorem waitOn_class (hx : q < 256) (x : FabReq) (hy : x.q < 256) : (s.waitOn r x).rd r FAB_CLASS q = s.rd r FAB_CLASS q :=
  (State.waitOn_touches (.refl _ s) hy).rd (by decide) _ hx

theorem waitOn_other {x : FabReq} (hx : x.q < 256) (hq : q < 256) (apart : q ≠ x.q) : (s.waitOn r x).rd r FAB_BG_WAIT q = s.rd r FAB_BG_WAIT q := by
  unfold State.waitOn
  split
  · exact State.rd_wr_inst _ _ _ _ _ apart hx hq
  · rfl

/-- Waits of other requesters leave that of one. -/
theorem foldl_waitOn_other (hq : q < 256) (small : ∀ y ∈ reqs, y.q < 256) (apart : ∀ y ∈ reqs, q ≠ y.q) :
    (reqs.foldl (fun s x => s.waitOn r x) s).rd r FAB_BG_WAIT q = s.rd r FAB_BG_WAIT q := by
  induction reqs generalizing s with
  | nil => rfl
  | cons x xs ih =>
    rw [List.foldl_cons, ih (fun y hy => small y (List.mem_cons_of_mem _ hy)) (fun y hy => apart y (List.mem_cons_of_mem _ hy)),
      waitOn_other (small x List.mem_cons_self) hq (apart x List.mem_cons_self)]

/-- Every background requester waits one grant longer. -/
theorem foldl_waitOn (small : ∀ y ∈ reqs, y.q < 256) (apart : (reqs.map FabReq.q).Nodup) {y : FabReq} (hy : y ∈ reqs) (background : s.rd r FAB_CLASS y.q = 2) :
    (reqs.foldl (fun s x => s.waitOn r x) s).rd r FAB_BG_WAIT y.q = min 255 (s.rd r FAB_BG_WAIT y.q + 1) := by
  induction reqs generalizing s with
  | nil => simp at hy
  | cons x xs ih =>
    have small' : ∀ z ∈ xs, z.q < 256 := fun z hz => small z (List.mem_cons_of_mem _ hz)
    simp only [List.map_cons, List.nodup_cons, List.mem_map, not_exists, not_and] at apart
    rw [List.foldl_cons]
    rcases List.mem_cons.mp hy with rfl | hy
    · rw [foldl_waitOn_other (small y List.mem_cons_self) small' fun z hz e => apart.1 z hz e.symm, State.waitOn, State.reqClass, if_pos background]
      exact State.rd_wr_of_lt (by rw [widthOf_var (by decide)]; omega)
    · rw [ih small' apart.2 hy (by rwa [waitOn_class (small' y hy) x (small x List.mem_cons_self)]),
        waitOn_other (small x List.mem_cons_self) (small' y hy) (apart.1 y hy)]

/-- No background requester waits any more. -/
theorem foldl_noWait (hq : q < 256) (small : ∀ y ∈ reqs, y.q < 256) (h : (∃ y ∈ reqs, y.q = q) ∨ s.rd r FAB_BG_WAIT q = 0) :
    (reqs.foldl (fun s x => s.wr r FAB_BG_WAIT x.q 0) s).rd r FAB_BG_WAIT q = 0 := by
  induction reqs generalizing s with
  | nil => simpa using h
  | cons x xs ih =>
    rw [List.foldl_cons]
    refine ih (fun y hy => small y (List.mem_cons_of_mem _ hy)) ?_
    by_cases here : q = x.q
    · exact .inr (by rw [here, State.rd_wr_zero])
    · rcases h with ⟨y, hy, e⟩ | idle
      · exact .inl ⟨y, (List.mem_cons.mp hy).resolve_left (by rintro rfl; exact here e.symm), e⟩
      · exact .inr (by rw [State.rd_wr_inst _ _ _ _ _ here (small x List.mem_cons_self) hq, idle])

/-- The waits after a grant to a foreground or a background requester. -/
theorem grantWaits_waits (small : ∀ y ∈ reqs, y.q < 256) (apart : (reqs.map FabReq.q).Nodup) {y : FabReq} (hy : y ∈ reqs) :
    (s.rd r FAB_CLASS q = 1 → s.rd r FAB_CLASS y.q = 2 →
      (s.grantWaits r q reqs).rd r FAB_BG_WAIT y.q = min 255 (s.rd r FAB_BG_WAIT y.q + 1)) ∧
    (s.rd r FAB_CLASS q = 2 → (s.grantWaits r q reqs).rd r FAB_BG_WAIT y.q = 0) := by
  constructor
  · intro foreground background
    rw [State.grantWaits, State.reqClass, foreground]
    exact foldl_waitOn small apart hy background
  · intro background
    rw [State.grantWaits, State.reqClass, background]
    exact foldl_noWait (small y hy) small (.inl ⟨y, hy, rfl⟩)

/-- The rows of the counters of a grant. -/
def countRows : List PDesc := [FAB_CNT_GRANT, FAB_CNT_WAIT, FAB_MAX_WAIT, FAB_CNT_BG_FORCED]

theorem State.grantCounts_touches (hq : q < 256) (w : Nat) : TouchesRows countRows r s (s.grantCounts r q w share) := by
  unfold State.grantCounts
  extract_lets counted longest
  have counted_rows : TouchesRows countRows r s counted :=
    State.fabCount_touches (State.fabCount_touches (.refl _ s) (by simp [countRows]) hq) (by simp [countRows]) hq
  have longest_rows : TouchesRows countRows r s longest := Touches.ite counted_rows (counted_rows.wr (by simp [countRows]) hq)
  exact Touches.ite (State.fabCount_touches longest_rows (by simp [countRows]) (by decide)) longest_rows

/-- A row of the fabric has one width in every region. -/
def fabRow (d : PDesc) : Bool := [RegionKind.lane, .power, .m, .s].all fun k => mapRow k d

theorem widthOf_fabRow {d : PDesc} (h : fabRow d = true) (there : s.hasRegion r = true) {i : Nat} (hi : i < 256 * d.span) : widthOf (d.key r i) = d.width := by
  have kind : kindOf r ∈ [RegionKind.lane, .power, .m, .s] := by
    have all : ∀ x ∈ [1, 2, 3, 4, 5, 6, 7, 8], kindOf x ∈ [RegionKind.lane, .power, .m, .s] := by decide
    refine all r ?_
    simp only [State.hasRegion] at there
    cases g : s.part <;> simp [g, partRegions] at there ⊢ <;> omega
  exact widthOf_mapRow (List.all_eq_true.mp h _ kind) rfl hi

/-- Outside RUN a grant is counted, and the time waited for it; in RUN neither is (R454). -/
theorem grantCounts_counts (hq : q < 256) (there : s.hasRegion r = true) (w : Nat) :
    (s.rd r FAB_PHASE ≠ 1 → Counted s (s.grantCounts r q w share) r FAB_CNT_GRANT q ∧
      (s.grantCounts r q w share).rd r FAB_CNT_WAIT q = min (2 ^ FAB_CNT_WAIT.width - 1) (s.rd r FAB_CNT_WAIT q + w)) ∧
    (s.rd r FAB_PHASE = 1 → (s.grantCounts r q w share).rd r FAB_CNT_GRANT q = s.rd r FAB_CNT_GRANT q) := by
  unfold State.grantCounts
  extract_lets counted longest
  have last_rows : TouchesRows [FAB_MAX_WAIT, FAB_CNT_BG_FORCED] r counted (if share = true then longest.fabCount r FAB_CNT_BG_FORCED 0 1 else longest) := by
    have longest_rows : TouchesRows [FAB_MAX_WAIT, FAB_CNT_BG_FORCED] r counted longest :=
      Touches.ite (.refl _ _) (TouchesRows.wr (.refl _ _) (by simp) hq)
    exact Touches.ite (State.fabCount_touches longest_rows (by simp) (by decide)) longest_rows
  constructor
  · intro outside
    have granted : counted = (s.bumpBy r FAB_CNT_GRANT q 1).bumpBy r FAB_CNT_WAIT q w := by
      have phase : (s.bumpBy r FAB_CNT_GRANT q 1).rd r FAB_PHASE ≠ 1 := by rwa [State.bumpBy, State.rd_wr_row _ _ _ _ (by decide) hq (by decide)]
      simp only [counted]
      rw [fabCount_outside outside, fabCount_outside phase]
    refine ⟨?_, ?_⟩
    · rw [Counted, last_rows.rd (by decide) _ hq, granted, State.bumpBy, State.rd_wr_row _ _ _ _ (by decide) hq hq]
      exact State.rd_bumpBy (widthOf_fabRow (by decide +kernel) there (by simpa [FAB_CNT_GRANT] using hq))
    · rw [last_rows.rd (by decide) _ hq, granted, State.rd_bumpBy (widthOf_fabRow (by decide +kernel) there (by simpa [FAB_CNT_WAIT] using hq)),
        State.bumpBy, State.rd_wr_row _ _ _ _ (by decide) hq hq]
  · intro run
    rw [last_rows.rd (by decide) _ hq]
    have same : counted = s := by
      simp only [counted]
      rw [fabCount_run run, fabCount_run run]
    rw [same]

end
end Sys2Proof.Machine
end

section
/-! PROOFS. A fabric request: the requester granted, its burst of accesses to memory lines. -/

namespace Sys2Proof.Machine

open Par Var

/-! ### What a burst may change -/

/-- What an access to a memory line changes of the store. -/
def XferPlace (k : PKey) : Prop := TblPlace k ∨ AnyRow [MEM_POISONED] k

theorem not_xferPlace {d : PDesc} (off : (d.block != RPC_TBL.block && offRows [MEM_POISONED] d) = true) (r : Nat) {i : Nat} (hi : i < 256) :
    ¬ XferPlace (d.key r i) := by
  simp only [Bool.and_eq_true, bne_iff_ne] at off
  exact fun p => p.elim (fun t => off.1 t.1) (not_anyRow off.2 r hi)

section
variable {l : LaneId} {s t u : State} {r q : Nat} {reqs : List FabReq} {x : FabReq}

abbrev XferFrame (r : Nat) (s t : State) : Prop := LaneFrame XferPlace r s t

theorem State.storeLine_frame (h : XferFrame l.reg u s) (line : Nat) (data : List Byte) : XferFrame l.reg u (s.storeLine l line data) := by
  unfold State.storeLine
  extract_lets d clean stored
  have clean_frame : XferFrame l.reg u clean := h.modLane _
  have stored_frame : XferFrame l.reg u stored := by
    simp only [stored]
    split
    · exact LaneFrame.foldl_mem _ (fun _ _ _ g => g.wr (.inl (TblPlace.key _ _))) clean_frame
    · exact clean_frame.modLane _
  exact stored_frame.wr (.inr (AnyRow.key (by simp) _ (by decide)))

theorem State.lineXfer_frame (h : XferFrame l.reg u s) (a : LineXfer) : XferFrame l.reg u (s.lineXfer l q a) := by
  unfold State.lineXfer
  split
  · exact h.send _
  · refine LaneFrame.ite (State.storeLine_frame h _ _) ?_
    split
    · exact State.storeLine_frame h _ _
    · exact h.send _

theorem ofReg_reg {r : Nat} (h : LaneId.ofReg r = some l) : r = l.reg := by
  unfold LaneId.ofReg at h
  split at h <;> simp_all [LaneId.reg] <;> subst h <;> rfl

theorem State.burst_frame (s : State) (r q : Nat) (reqs : List FabReq) : XferFrame r s (s.burst r q reqs) := by
  unfold State.burst
  split
  · next l x own found =>
    have hr := ofReg_reg own
    subst hr
    exact LaneFrame.foldl_mem _ (fun _ a _ g => State.lineXfer_frame g a) (.refl _ _ _)
  · exact .refl _ _ _

/-- A request without accesses leaves the memory. -/
theorem burst_nil (found : reqs.find? (fun x => x.q == q) = some x) (none : x.xfer = []) : s.burst r q reqs = s := by
  unfold State.burst
  rw [found]
  split
  · next own found' =>
    cases found'
    rw [none]
    rfl
  · rfl

/-! ### The request granted -/

theorem find_request (hx : x ∈ reqs) (apart : (reqs.map FabReq.q).Nodup) : reqs.find? (fun y => y.q == x.q) = some x := by
  induction reqs with
  | nil => simp at hx
  | cons y ys ih =>
    simp only [List.map_cons, List.nodup_cons, List.mem_map, not_exists, not_and] at apart
    rcases List.mem_cons.mp hx with rfl | hx
    · simp
    · rw [List.find?_cons_of_neg (by simpa using fun e => apart.1 x hx e.symm), ih hx apart.2]

/-- The places of a fabric that a request may write, with those of the burst it gets. -/
theorem fabRequest_eq {g : Region} (there : s.hasRegion g.code = true) (small : ∀ y ∈ reqs, y.q < requesters g.code) {share : Bool}
    (first : s.fabArbitrate g.code (reqs.map FabReq.q) = some (q, share)) :
    exec (.fabRequest g reqs none) s = .next ((s.grant g.code q share reqs).burst g.code q reqs) := by
  refine congrArg Host.Outcome.next ((if_neg (by simp [there])).trans ?_)
  have all : reqs.filter (fun x => decide (x.q < requesters g.code)) = reqs := List.filter_eq_self.mpr fun y hy => by simpa using small y hy
  dsimp only
  rw [all, first]
  rfl

theorem grant_touches (found : reqs.find? (fun y => y.q == q) = some x) (prio : s.rd r FAB_PRIO q < 16) (hq : q < 256) (small : ∀ y ∈ reqs, y.q < 256)
    (share : Bool) : TouchesRows grantRows r s (s.grant r q share reqs) := by
  rw [grant_eq found]
  exact ((State.grantOwner_touches prio hq).mono (by simp [grantRows])).trans (((State.grantWaits_touches small).mono (by simp [grantRows])).trans
    ((State.grantCounts_touches hq _).mono (by simp [grantRows, countRows])))

/-- What a grant leaves, before its burst and after. -/
theorem grant_leaves (there : s.hasRegion r = true) (hx : x ∈ reqs) (apart : (reqs.map FabReq.q).Nodup)
    (small : ∀ y ∈ reqs, y.q < requesters r ∧ s.rd r FAB_PRIO y.q < 16) (share : Bool) (ht : t = (s.grant r x.q share reqs).burst r x.q reqs) :
    t.rd r FAB_OWNER = x.q + 1 ∧ (x.xfer = [] → t = { s with params := t.params }) ∧
      (s.rd r FAB_PHASE ≠ 1 → Counted s t r FAB_CNT_GRANT x.q ∧
        t.rd r FAB_CNT_WAIT x.q = min (2 ^ FAB_CNT_WAIT.width - 1) (s.rd r FAB_CNT_WAIT x.q + x.waited)) ∧
      (s.rd r FAB_PHASE = 1 → t.rd r FAB_CNT_GRANT x.q = s.rd r FAB_CNT_GRANT x.q) ∧
      (s.rd r FAB_CLASS x.q = 1 → ∀ y ∈ reqs, s.rd r FAB_CLASS y.q = 2 → t.rd r FAB_BG_WAIT y.q = min 255 (s.rd r FAB_BG_WAIT y.q + 1)) ∧
      (s.rd r FAB_CLASS x.q = 2 → ∀ y ∈ reqs, t.rd r FAB_BG_WAIT y.q = 0) := by
  have few := requesters_lt r
  have small' : ∀ y ∈ reqs, y.q < 256 := fun y hy => by have := (small y hy).1; omega
  have hq := small' x hx
  have found := find_request hx apart
  let a := s.grantOwner r x.q
  let b := a.grantWaits r x.q reqs
  let c := b.grantCounts r x.q x.waited share
  have owner : TouchesRows [FAB_OWNER, FAB_RR] r s a := State.grantOwner_touches (small x hx).2 hq
  have waits : TouchesRows [FAB_BG_WAIT] r a b := State.grantWaits_touches small'
  have counts : TouchesRows countRows r b c := State.grantCounts_touches hq _
  have burst : XferFrame r c t := by
    rw [ht, grant_eq found]
    exact State.burst_frame _ _ _ _
  have before {d : PDesc} (off : offRows [FAB_OWNER, FAB_RR] d = true) (off' : offRows [FAB_BG_WAIT] d = true) {i : Nat} (hi : i < 256) :
      b.rd r d i = s.rd r d i := by rw [waits.rd off' _ hi, owner.rd off _ hi]
  have after {d : PDesc} (off : (d.block != RPC_TBL.block && offRows [MEM_POISONED] d) = true) {i : Nat} (hi : i < 256) : t.rd r d i = c.rd r d i :=
    burst.get.rd (not_xferPlace off r hi)
  have there' : b.hasRegion r = true := by rw [State.hasRegion, waits.part, owner.part]; exact there
  obtain ⟨outside, run⟩ := grantCounts_counts (s := b) (share := share) hq there' x.waited
  refine ⟨?_, fun none => ?_, fun phase => ?_, fun phase => ?_, fun foreground y hy background => ?_, fun background y hy => ?_⟩
  · rw [after (by decide) (by decide), counts.rd (by decide) _ (by decide), waits.rd (by decide) _ (by decide), grantOwner_owner (small x hx).2 hq]
  · rw [ht, burst_nil found none]
    exact (grant_touches found (small x hx).2 hq small' share).rest
  · obtain ⟨granted, waited⟩ := outside (by rwa [before (by decide) (by decide) (by decide)])
    refine ⟨?_, ?_⟩
    · rw [Counted, after (by decide) hq, granted, before (by decide) (by decide) hq]
    · rw [after (by decide) hq, waited, before (by decide) (by decide) hq]
  · rw [after (by decide) hq, run (by rwa [before (by decide) (by decide) (by decide)]), before (by decide) (by decide) hq]
  · have hy' := small' y hy
    rw [after (by decide) hy', counts.rd (by decide) _ hy', (grantWaits_waits small' apart hy).1 (by rwa [owner.rd (by decide) _ hq])
      (by rwa [owner.rd (by decide) _ hy']), owner.rd (by decide) _ hy']
  · have hy' := small' y hy
    rw [after (by decide) hy', counts.rd (by decide) _ hy', (grantWaits_waits small' apart hy).2 (by rwa [owner.rd (by decide) _ hq])]

end
end Sys2Proof.Machine
end

section
/-! PROOFS. The lines of a lane's memory: a line written reads back with its check. -/

namespace Sys2Proof.Machine

open Par Var

/-! ### Little-endian fields -/

theorem toLe_ofLe (d : List Byte) : toLe d.length (ofLe d) = d := by
  induction d with
  | nil => rfl
  | cons b d ih =>
    have low : byte (b.toNat + 256 * ofLe d) = b := BitVec.eq_of_toNat_eq (by simp only [byte, BitVec.toNat_ofNat]; have := b.isLt; omega)
    have high : (b.toNat + 256 * ofLe d) / 256 = ofLe d := by have := b.isLt; omega
    simp only [List.length_cons, toLe, ofLe, low, high, ih]

theorem ofLe_lt (d : List Byte) : ofLe d < 256 ^ d.length := by
  induction d with
  | nil => decide
  | cons b d ih =>
    have := b.isLt
    simp only [List.length_cons, ofLe, Nat.pow_succ]
    omega

/-- The words of some bytes, one after the other, are the bytes. -/
theorem flatMap_words (d : List Byte) (n : Nat) : (List.range n).flatMap (fun i => (d.drop (4 * i)).take 4) = d.take (4 * n) := by
  induction n with
  | zero => simp
  | succ n ih =>
    rw [List.range_succ, List.flatMap_append, ih, Nat.mul_succ, List.take_add]
    simp

/-- A line as the little-endian words of its fields. -/
theorem line_words {d : List Byte} (full : d.length = 32) : (List.range 8).flatMap (fun i => toLe 4 (fieldLe d (4 * i) 4)) = d := by
  have word (i : Nat) (hi : i ∈ List.range 8) : toLe 4 (fieldLe d (4 * i) 4) = (d.drop (4 * i)).take 4 := by
    have length : ((d.drop (4 * i)).take 4).length = 4 := by
      have := List.mem_range.mp hi
      simp only [List.length_take, List.length_drop]
      omega
    have back := toLe_ofLe ((d.drop (4 * i)).take 4)
    rwa [length] at back
  rw [List.flatMap_congr word, flatMap_words, List.take_of_length_le (by omega)]

/-! ### Lines -/

section
variable {l : LaneId} {s t : State} {line : Nat} {d : List Byte}

theorem widthOf_tbl (l : LaneId) {n : Nat} (hn : n < 65536) : widthOf (RPC_TBL.key l.reg n) = 32 :=
  widthOf_mapRow (by decide +kernel) (kindOf_reg l) hn

/-- Words written to entries of the tables one after the other read back. -/
theorem foldl_entries (s : State) (l : LaneId) (first : Nat) (f : Nat → Nat) {n i : Nat} (hi : i < n) (low : first + i < 65536) (small : f i < 2 ^ 32) :
    ((List.range n).foldl (fun s i => s.wr l.reg RPC_TBL (first + i) (f i)) s).rd l.reg RPC_TBL (first + i) = f i := by
  induction n with
  | zero => omega
  | succ n ih =>
    rw [List.range_succ, List.foldl_append, List.foldl_cons, List.foldl_nil, State.rd_wr]
    split
    · next same =>
      obtain rfl : i = n := by have := PDesc.key_inj.mp same; omega
      rw [widthOf_tbl l low, Nat.mod_eq_of_lt small]
    · next apart =>
      refine ih ?_
      by_contra
      exact apart (by rw [show i = n by omega])

/-- The bytes of a table line that was stored. -/
theorem tblBytes_tblStore {first : Nat} (low : first + 8 ≤ 65536) (full : d.length = 32) : (s.tblStore l first d).tblBytes l first = d := by
  rw [State.tblBytes]
  refine (List.flatMap_congr fun i hi => ?_).trans (line_words full)
  have hi := List.mem_range.mp hi
  rw [State.tblStore, foldl_entries s l first (fun i => fieldLe d (4 * i) 4) hi (by omega)]
  refine (ofLe_lt _).trans_le (Nat.pow_le_pow_right (by decide) (List.length_take_le _ _)) |>.trans_le (by decide)

theorem State.tblStore_touches (s : State) (l : LaneId) (first : Nat) (d : List Byte) : Touches TblPlace s (s.tblStore l first d) :=
  Touches.foldl_mem _ (fun _ _ _ g => g.wr (TblPlace.key _ _)) (.refl _ s)

theorem tblLine_low {first : Nat} (h : s.tblLine l line = some first) : first + 8 ≤ 65536 := by
  simp only [State.tblLine] at h
  split at h
  · cases h
    omega
  · cases h

theorem putLine_find (m : MemLine) (ms : List MemLine) : (putLine m ms).find? (fun x => x.line == m.line) = some m := by
  induction ms with
  | nil => simp [putLine]
  | cons x xs ih =>
    unfold putLine
    split
    · next before => rw [List.find?_cons_of_neg (by simp; omega), ih]
    · split <;> simp

/-- The bytes, the check and the poison of a line are of the lane's record and the tables. -/
theorem tblBytes_congr (h : ∀ n, t.rd l.reg RPC_TBL n = s.rd l.reg RPC_TBL n) (first : Nat) : t.tblBytes l first = s.tblBytes l first := by
  simp only [State.tblBytes, h]

theorem tblLine_congr (at' : (t.lane l).tblAt = (s.lane l).tblAt) : t.tblLine l line = s.tblLine l line := by
  rw [State.tblLine, at', State.tblLine]

theorem lineBytes_congr (mem : (t.lane l).mem = (s.lane l).mem) (at' : (t.lane l).tblAt = (s.lane l).tblAt) (h : ∀ n, t.rd l.reg RPC_TBL n = s.rd l.reg RPC_TBL n) :
    t.lineBytes l line = s.lineBytes l line := by
  simp only [State.lineBytes, tblLine_congr at', mem, tblBytes_congr h]

theorem lineCheck_congr (mem : (t.lane l).mem = (s.lane l).mem) (at' : (t.lane l).tblAt = (s.lane l).tblAt) (h : ∀ n, t.rd l.reg RPC_TBL n = s.rd l.reg RPC_TBL n) :
    t.lineCheck l line = s.lineCheck l line := by
  rw [State.lineCheck, tblLine_congr at', lineBytes_congr mem at' h, mem, State.lineCheck]

theorem readLine_congr (mem : (t.lane l).mem = (s.lane l).mem) (at' : (t.lane l).tblAt = (s.lane l).tblAt)
    (poisoned : (t.lane l).poisoned = (s.lane l).poisoned) (h : ∀ n, t.rd l.reg RPC_TBL n = s.rd l.reg RPC_TBL n) : t.readLine l line = s.readLine l line := by
  simp only [State.readLine, poisoned, lineCheck_congr mem at' h, lineBytes_congr mem at' h]

/-- A line without poison whose check holds is read. -/
theorem readLine_some (clean : line ∉ (s.lane l).poisoned) (check : s.lineCheck l line = lineCrc line (s.lineBytes l line)) :
    s.readLine l line = some (s.lineBytes l line) := by
  rw [State.readLine, if_neg (by simp [clean, check])]

theorem readLine_none (h : line ∈ (s.lane l).poisoned ∨ s.lineCheck l line ≠ lineCrc line (s.lineBytes l line)) : s.readLine l line = none := by
  rw [State.readLine, if_pos (by simpa using h)]

/-- The line placed with its check, its poison cleared, before the count of poisoned lines. -/
def State.placeLine (s : State) (l : LaneId) (line : Nat) (d : List Byte) : State :=
  let s := s.modLane l (fun x => { x with poisoned := x.poisoned.filter (· != line) })
  match s.tblLine l line with
  | some first => s.tblStore l first d
  | none => s.modLane l (fun x => { x with mem := putLine ⟨line, d, lineCrc line d⟩ x.mem })

theorem storeLine_eq (full : d.length = 32) : s.storeLine l line d =
    (s.placeLine l line d).wr l.reg MEM_POISONED 0 (satNat 16 ((s.placeLine l line d).lane l).poisoned.length) := by
  have whole : padTo 32 (d.take 32) = d := by
    rw [padTo, List.take_of_length_le (by omega : d.length ≤ 32), ← full, List.take_left]
  unfold State.storeLine
  rw [whole]
  rfl

theorem placeLine_lane (s : State) (l : LaneId) (line : Nat) (d : List Byte) :
    ((s.placeLine l line d).lane l).poisoned = (s.lane l).poisoned.filter (· != line) ∧ ((s.placeLine l line d).lane l).tblAt = (s.lane l).tblAt ∧
      (s.placeLine l line d).sent = s.sent := by
  unfold State.placeLine
  extract_lets clean
  split
  · next first _ =>
    have stored := clean.tblStore_touches l first d
    refine ⟨?_, ?_, ?_⟩
    · rw [stored.lane]; simp [clean, State.lane_modLane]
    · rw [stored.lane]; simp [clean, State.lane_modLane]
    · rw [stored.sent]; simp [clean]
  · simp [clean, State.lane_modLane]

theorem placeLine_reads (full : d.length = 32) (l : LaneId) : (s.placeLine l line d).lineBytes l line = d ∧ (s.placeLine l line d).lineCheck l line = lineCrc line d := by
  obtain ⟨-, at', -⟩ := placeLine_lane s l line d
  have table : (s.placeLine l line d).tblLine l line = s.tblLine l line := tblLine_congr at'
  have clean : (s.modLane l (fun x => { x with poisoned := x.poisoned.filter (· != line) })).tblLine l line = s.tblLine l line :=
    tblLine_congr (by rw [State.lane_modLane])
  cases found : s.tblLine l line with
  | some first =>
    have bytes : (s.placeLine l line d).lineBytes l line = d := by
      rw [State.lineBytes, table, found]
      dsimp only
      rw [State.placeLine]
      rw [clean, found]
      exact tblBytes_tblStore (tblLine_low found) full
    refine ⟨bytes, ?_⟩
    rw [State.lineCheck, table, found, bytes]
    rfl
  | none =>
    have placed : ((s.placeLine l line d).lane l).mem.find? (fun m => m.line == line) = some ⟨line, d, lineCrc line d⟩ := by
      rw [State.placeLine]
      rw [clean, found]
      dsimp only
      rw [State.lane_modLane]
      exact putLine_find ⟨line, d, lineCrc line d⟩ _
    refine ⟨?_, ?_⟩
    · rw [State.lineBytes, table, found]
      dsimp only
      rw [placed]
    · rw [State.lineCheck, table, found, placed]
      rfl

/-- A line stored whole: its bytes and its check, its poison cleared and the poisoned lines counted (R462, R466). -/
theorem storeLine_leaves (full : d.length = 32) (ht : t = s.storeLine l line d) : t.sent = s.sent ∧ t.readLine l line = some d ∧
    t.lineCheck l line = lineCrc line d ∧ line ∉ (t.lane l).poisoned ∧ t.rd l.reg MEM_POISONED = min 65535 (t.lane l).poisoned.length ∧
    ∀ k, k ≠ line → (k ∈ (t.lane l).poisoned ↔ k ∈ (s.lane l).poisoned) := by
  obtain ⟨poisoned, -, sent⟩ := placeLine_lane s l line d
  obtain ⟨bytes, check⟩ := placeLine_reads (s := s) (line := line) full l
  rw [storeLine_eq full] at ht
  have lane : t.lane l = (s.placeLine l line d).lane l := by rw [ht, State.wr_lane]
  have entries (n : Nat) : t.rd l.reg RPC_TBL n = (s.placeLine l line d).rd l.reg RPC_TBL n := by
    rw [ht]
    exact State.rd_wr_block _ _ _ _ _ _ (by decide)
  have bytes' : t.lineBytes l line = d := (lineBytes_congr (by rw [lane]) (by rw [lane]) entries).trans bytes
  have check' : t.lineCheck l line = lineCrc line d := (lineCheck_congr (by rw [lane]) (by rw [lane]) entries).trans check
  have clean : line ∉ (t.lane l).poisoned := by rw [lane, poisoned]; simp
  refine ⟨by rw [ht, State.wr_sent, sent], ?_, check', clean, ?_, fun k hk => by rw [lane, poisoned]; simp [hk]⟩
  · rw [readLine_some clean (by rw [check', bytes']), bytes']
  · rw [lane, ht, State.rd_wr_mapRow (by decide +kernel) (kindOf_reg l) (by decide)]
    · rw [satNat_eq]; rfl
    · rw [satNat_eq]; simp only [MEM_POISONED]; omega

end

/-! ### A request of one requester in a lane die -/

section
variable {l : LaneId} {s t v : State} {line : Nat} {x : FabReq}

/-- A requester alone is granted, and its burst runs. -/
theorem request_alone (there : s.hasRegion l.reg = true) (hn : x.q < requesters l.reg) (prio : s.rd l.reg FAB_PRIO x.q < 16) :
    ∃ v, TouchesRows grantRows l.reg s v ∧ exec (.fabRequest l.region [x] none) s = .next (x.xfer.foldl (fun s a => s.lineXfer l x.q a) v) := by
  obtain ⟨share, first⟩ := arbitrate_alone hn prio
  have code : l.region.code = l.reg := by cases l <;> rfl
  have few := requesters_lt l.reg
  have found : [x].find? (fun y => y.q == x.q) = some x := by simp
  refine ⟨s.grant l.reg x.q share [x], grant_touches found prio (by omega) (by simp; omega) share, ?_⟩
  rw [fabRequest_eq (q := x.q) (share := share) (by rw [code]; exact there) (by simpa [code] using hn) (by rw [code]; exact first), code, State.burst, found]
  cases l <;> rfl

/-- A grant leaves the lines. -/
theorem granted_readLine (h : TouchesRows grantRows l.reg s v) (line : Nat) : v.readLine l line = s.readLine l line :=
  readLine_congr (by rw [h.lane]) (by rw [h.lane]) (by rw [h.lane]) fun _ => h.get.rd fun ⟨_, d, hd, block, _⟩ => by
    have apart : ∀ d ∈ grantRows, d.block ≠ RPC_TBL.block := by decide
    exact apart d hd block

theorem send_lineData (s : State) (l : LaneId) (q line : Nat) (data : Option (List Byte)) :
    (s.send (.lineData l q line data)).sent = s.sent ++ [.lineData l q line data] := rfl

/-- A read answers the bytes of a line, or a data error (R462, R466). -/
theorem request_read (there : s.hasRegion l.reg = true) (hn : x.q < requesters l.reg) (prio : s.rd l.reg FAB_PRIO x.q < 16) (read : x.xfer = [.read line]) :
    Runs (.fabRequest l.region [x] none) s (fun t => t.lane l = s.lane l ∧ t.sent = s.sent ++ [.lineData l x.q line (s.readLine l line)]) := by
  obtain ⟨v, granted, run⟩ := request_alone there hn prio
  refine ⟨_, run, ?_⟩
  rw [read]
  simp only [List.foldl_cons, List.foldl_nil, State.lineXfer]
  rw [State.send_lane, granted.lane, granted_readLine granted, send_lineData, granted.sent]
  exact ⟨rfl, rfl⟩

/-- A line written whole (R462, R466). -/
theorem request_write (there : s.hasRegion l.reg = true) (hn : x.q < requesters l.reg) (prio : s.rd l.reg FAB_PRIO x.q < 16) {data : List Byte}
    (full : data.length = 32) (write : x.xfer = [.write line 0 data]) : Runs (.fabRequest l.region [x] none) s (fun t => t.sent = s.sent ∧
      t.readLine l line = some data ∧ t.lineCheck l line = lineCrc line data ∧ line ∉ (t.lane l).poisoned ∧
      t.rd l.reg MEM_POISONED = min 65535 (t.lane l).poisoned.length ∧ ∀ k, k ≠ line → (k ∈ (t.lane l).poisoned ↔ k ∈ (s.lane l).poisoned)) := by
  obtain ⟨v, granted, run⟩ := request_alone there hn prio
  have store : x.xfer.foldl (fun s a => s.lineXfer l x.q a) v = v.storeLine l line data := by
    rw [write]
    exact if_pos ⟨rfl, by omega⟩
  refine ⟨_, run, ?_⟩
  obtain ⟨sent, reads, check, clean, count, others⟩ := storeLine_leaves full store
  exact ⟨sent.trans granted.sent, reads, check, clean, count, fun k hk => by rw [others k hk, granted.lane]⟩

/-- A write of part of a line is a read and a write; where the read fails nothing is written (R462, R466). -/
theorem request_part (there : s.hasRegion l.reg = true) (hn : x.q < requesters l.reg) (prio : s.rd l.reg FAB_PRIO x.q < 16) {off : Nat} {data : List Byte}
    (write : x.xfer = [.write line off data]) (part : data.length < 32) (inside : off + data.length ≤ 32) :
    (∀ old, s.readLine l line = some old → old.length = 32 → Runs (.fabRequest l.region [x] none) s (fun t => t.sent = s.sent ∧
      t.readLine l line = some (old.take off ++ data ++ old.drop (off + data.length)))) ∧
    (s.readLine l line = none → Runs (.fabRequest l.region [x] none) s (fun t => t.lane l = s.lane l ∧
      t.sent = s.sent ++ [.lineData l x.q line none])) := by
  obtain ⟨v, granted, run⟩ := request_alone there hn prio
  have burst : x.xfer.foldl (fun s a => s.lineXfer l x.q a) v =
      match s.readLine l line with
      | some old => v.storeLine l line (mergeLine old (off % 32) data)
      | none => v.send (.lineData l x.q line none) := by
    rw [write, ← granted_readLine granted]
    exact if_neg (by omega)
  constructor
  · intro old reads full
    have merged : mergeLine old (off % 32) data = old.take off ++ data ++ old.drop (off + data.length) := by
      rcases Nat.lt_or_ge off 32 with below | past
      · rw [mergeLine, Nat.mod_eq_of_lt below, List.take_of_length_le (by omega : data.length ≤ 32 - off)]
      · obtain ⟨rfl, rfl⟩ : off = 32 ∧ data = [] := ⟨by omega, List.length_eq_zero_iff.mp (by omega)⟩
        simp [mergeLine, ← full]
    rw [reads] at burst
    dsimp only at burst
    rw [merged] at burst
    have length : (old.take off ++ data ++ old.drop (off + data.length)).length = 32 := by
      simp only [List.length_append, List.length_take, List.length_drop]
      omega
    obtain ⟨sent, reads, -⟩ := storeLine_leaves length burst
    exact ⟨_, run, sent.trans granted.sent, reads⟩
  · intro fails
    rw [fails] at burst
    dsimp only at burst
    refine ⟨_, run, ?_, ?_⟩
    · rw [burst, State.send_lane, granted.lane]
    · rw [burst, send_lineData, granted.sent]

end
end Sys2Proof.Machine
end

section
/-! PROOFS. The turns of a fabric, its counters cleared, the locks of the shared dies. -/

namespace Sys2Proof.Machine

open Par Var

/-! ### Turns and withdrawals -/

section
variable {s : State} {g : Region} {x y : FabReq}

theorem request_turn (there : s.hasRegion g.code = true) (hx : x.q < requesters g.code) (hy : y.q < requesters g.code) (apart : x.q ≠ y.q)
    (classX : s.rd g.code FAB_CLASS x.q = 1) (prio : s.rd g.code FAB_PRIO x.q < 16) (classY : s.rd g.code FAB_CLASS y.q = 1)
    (same : s.rd g.code FAB_PRIO y.q = s.rd g.code FAB_PRIO x.q) (turn : s.rd g.code FAB_RR (s.rd g.code FAB_PRIO x.q) = x.q + 1) :
    Runs (.fabRequest g [x, y] none) s (fun t => t.rd g.code FAB_OWNER = y.q + 1) := by
  have first := arbitrate_turn hx hy apart classX classY prio same turn
  have small : ∀ z ∈ [x, y], z.q < requesters g.code ∧ s.rd g.code FAB_PRIO z.q < 16 := by
    simp only [List.mem_cons, List.not_mem_nil, or_false]
    rintro z (rfl | rfl)
    · exact ⟨hx, prio⟩
    · exact ⟨hy, by rwa [same]⟩
  refine ⟨_, fabRequest_eq there (fun z hz => (small z hz).1) first, ?_⟩
  exact (grant_leaves there (x := y) (by simp) (by simpa using apart) small false rfl).1

/-- A requester that withdraws after its grant costs a dead cycle (R448). -/
theorem request_withdrawn (there : s.hasRegion g.code = true) (hx : x.q < requesters g.code) (prio : s.rd g.code FAB_PRIO x.q < 16)
    (outside : s.rd g.code FAB_PHASE ≠ 1) : Runs (.fabRequest g [x] (some x.q)) s (fun t => Writes s t [s.next g.code FAB_CNT_DEAD x.q]) := by
  obtain ⟨share, first⟩ := arbitrate_alone hx prio
  have nobody (v : State) : v.fabArbitrate g.code [] = none := by
    have idle : v.byPrio g.code [] = none := by rw [State.byPrio, List.find?_eq_none.mpr (by simp)]
    rw [arbitrate_noCritical (by simp), List.filter_nil, idle]
    rfl
  refine ⟨s.bump g.code FAB_CNT_DEAD x.q, congrArg Host.Outcome.next ((if_neg (by simp [there])).trans ?_), ?_⟩
  · simp only [List.filter_cons, hx, decide_true, if_true, List.filter_nil, List.map_cons, List.map_nil, first, beq_self_eq_true, Option.getD_some, bne_self_eq_false,
      Bool.false_eq_true, if_false, nobody, fabCount_outside outside]
    rfl
  · rw [State.bump_eq]
    exact (Writes.nil s).wr _ (by simp)

end

/-! ### The counters cleared -/

theorem State.puts_append (s : State) (ws ws' : List (PKey × Nat)) : s.puts (ws ++ ws') = (s.puts ws).puts ws' := by
  simp only [State.puts, List.foldl_append]

/-- Lists of writes one after the other are one list. -/
theorem State.foldl_puts {α : Type} (f : α → List (PKey × Nat)) (xs : List α) (s : State) : xs.foldl (fun s x => s.puts (f x)) s = s.puts (xs.flatMap f) := by
  induction xs generalizing s with
  | nil => rfl
  | cons x xs ih => rw [List.foldl_cons, ih, List.flatMap_cons, State.puts_append]

/-- Places set to 0 read 0. -/
theorem State.puts_zero {ws : List (PKey × Nat)} (zero : ∀ w ∈ ws, w.2 = 0) {s : State} {k : PKey} (h : k ∈ ws.map Prod.fst ∨ s.params.get k = 0) :
    (s.puts ws).params.get k = 0 := by
  induction ws generalizing s with
  | nil => exact h.resolve_left (by simp)
  | cons w ws ih =>
    refine ih (s := s.puts [w]) (fun x hx => zero x (List.mem_cons_of_mem _ hx)) ?_
    have none : w.2 = 0 := zero w List.mem_cons_self
    by_cases here : k = w.1
    · right
      show Store.get (s.params.put w.1 w.2) k = 0
      rw [here, Store.get_put_same, none, Nat.zero_mod]
    · refine h.imp (fun m => ?_) fun idle => ?_
      · simpa [here] using m
      · show Store.get (s.params.put w.1 w.2) k = 0
        rw [Store.get_put_ne _ _ here, idle]

theorem State.puts_touches (s : State) (ws : List (PKey × Nat)) : Touches (· ∈ ws.map Prod.fst) s (s.puts ws) := ⟨fun _ hk => Store.get_puts hk s.params, rfl⟩

/-- One value written to one place of some rows. -/
theorem State.foldl_wr (ds : List PDesc) (s : State) (r i v : Nat) : ds.foldl (fun s d => s.wr r d i v) s = s.puts (ds.map fun d => (d.key r i, v)) := by
  induction ds generalizing s with
  | nil => rfl
  | cons d ds ih => exact ih (s.wr r d i v)

/-- The counters of the arbiter and their clearing. -/
def arbiterCounters : List PDesc := [FAB_CNT_GRANT, FAB_CNT_WAIT, FAB_MAX_WAIT, FAB_CNT_DEAD]

def clearedCounters (r : Nat) : List (PKey × Nat) :=
  (List.range 16).flatMap (fun q => arbiterCounters.map fun d => (d.key r q, 0)) ++ [(FAB_CNT_BG_FORCED.key r 0, 0)]

theorem fabCntClear_eq {s : State} {g : Region} (there : s.hasRegion g.code = true) :
    exec (.fabCntClear g true) s = .next (s.puts (clearedCounters g.code)) := by
  refine congrArg Host.Outcome.next ((if_pos ⟨rfl, there⟩).trans ?_)
  have one : (fun (s : State) (q : Nat) => s.puts (arbiterCounters.map fun d => (d.key g.code q, 0))) =
      fun s q => arbiterCounters.foldl (fun s d => s.wr g.code d q 0) s :=
    funext fun s => funext fun q => (State.foldl_wr arbiterCounters s g.code q 0).symm
  rw [clearedCounters, State.puts_append, ← State.foldl_puts, one]
  rfl

theorem fabCntClear_leaves (s : State) (r : Nat) {t : State} (ht : t = s.puts (clearedCounters r)) : t.rd r FAB_CNT_BG_FORCED = 0 ∧
    (∀ q, q < 16 → ∀ d ∈ arbiterCounters, t.rd r d q = 0) ∧
    SameBut s t (FAB_CNT_BG_FORCED.key r 0 :: (List.range 16).flatMap (fun q => arbiterCounters.map (fun d => d.key r q))) := by
  have zero : ∀ w ∈ clearedCounters r, w.2 = 0 := by
    intro w hw
    simp only [clearedCounters, List.mem_append, List.mem_flatMap, List.mem_map, List.mem_singleton] at hw
    obtain ⟨q, -, d, -, rfl⟩ | rfl := hw <;> rfl
  have keys (k : PKey) : k ∈ (clearedCounters r).map Prod.fst ↔
      k ∈ FAB_CNT_BG_FORCED.key r 0 :: (List.range 16).flatMap (fun q => arbiterCounters.map (fun d => d.key r q)) := by
    simp only [clearedCounters, List.map_append, List.map_flatMap, List.map_map, Function.comp_def, List.map_cons, List.map_nil, List.mem_append,
      List.mem_cons, List.not_mem_nil, or_false]
    exact or_comm
  have all := (s.puts_touches (clearedCounters r)).mono fun k => (keys k).mp
  refine ⟨?_, fun q hq d hd => ?_, ?_⟩
  · rw [ht]
    exact State.puts_zero zero (.inl ((keys _).mpr List.mem_cons_self))
  · rw [ht]
    exact State.puts_zero zero (.inl ((keys _).mpr (List.mem_cons_of_mem _ (List.mem_flatMap.mpr ⟨q, List.mem_range.mpr hq, List.mem_map.mpr ⟨d, hd, rfl⟩⟩))))
  · rw [ht]
    exact ⟨all.rest, all.get⟩

end Sys2Proof.Machine
end

section
/-! PROOFS. The locks of the shared dies: taken, recovered, refused, released, rolled back, broken. -/

namespace Sys2Proof.Machine

open Par Var

/-! ### Writes joined -/

namespace Writes

variable {s t u : State} {ws ws' : List (PKey × Nat)}

/-- Writes followed by writes at other places. -/
theorem append (h : Writes s t ws) (g : Writes t u ws') (apart : ∀ w ∈ ws, w.1 ∉ ws'.map Prod.fst) : Writes s u (ws ++ ws') := by
  obtain ⟨rest, reads, same⟩ := h
  obtain ⟨rest', reads', same'⟩ := g
  refine ⟨by rw [rest', rest]; rfl, fun w hw => ?_, fun k hk => ?_⟩
  · rcases List.mem_append.mp hw with hw | hw
    · rw [same' w.1 (apart w hw)]
      exact reads w hw
    · exact reads' w hw
  · rw [List.map_append, List.mem_append, not_or] at hk
    rw [same' k hk.2, same k hk.1]

theorem relayReply (h : Writes s t ws) (d : Shared) (l : LaneId) (tag : Nat) (r : Reply) :
    Writes s (t.send (.relayReply d l tag r)) ws [.relayReply d l tag r] := ⟨by rw [h.1]; rfl, h.2⟩

end Writes

/-! ### A relayed write of a lock -/

/-- The answer to a relayed write of a lock. -/
def lockSaid (d : Shared) (l : LaneId) (tag : Nat) (a : Rsp) : Sent :=
  .relayReply d l tag { flags := 1, opcode := 0x0102, seq := 0, status := a.status, region := l.reg, mask := 0, data := a.data }

/-- The fence of M after a write under a staff epoch (R110). -/
def fenceWrites (s : State) (d : Shared) (epoch : Nat) : List (PKey × Nat) :=
  if d = .m then [(NVS_FENCE.key 7 0, max epoch (s.rd 7 NVS_FENCE))] else []

section
variable {d : Shared} {u tag epoch : Nat} {l : LaneId} {s f : State}

theorem fence_writes (s : State) (d : Shared) (epoch : Nat) : Writes s (s.fence d.reg epoch) (fenceWrites s d epoch) := by
  cases d
  · exact .of_puts (by simp [fenceWrites]) rfl
  · exact .nil s

theorem fence_touches (s : State) (d : Shared) (epoch : Nat) : TouchesRows [NVS_FENCE] 7 s (s.fence d.reg epoch) := by
  cases d
  · exact TouchesRows.wr (.refl _ s) (by simp) (by decide)
  · exact .refl _ s

theorem fenceOk_iff (h : d = .s ∨ s.rd 7 NVS_FENCE ≤ epoch) : s.fenceOk d.reg epoch = true := by
  cases d
  · simpa [State.fenceOk, Shared.reg] using h
  · rfl

theorem lockRelay_passes (hu : u < locksOf d) (passes : d = .s ∨ s.rd 7 NVS_FENCE ≤ epoch) (w : State → State × Rsp) :
    s.lockRelay d u l tag epoch w = (w (s.fence d.reg epoch)).1.send (lockSaid d l tag (w (s.fence d.reg epoch)).2) := by
  unfold State.lockRelay
  rw [if_neg (by omega), fenceOk_iff passes]
  rfl

/-- Under a staff epoch below the fence of M a write is refused (R110). -/
theorem lockRelay_refused (hu : u < locksOf .m) (low : epoch < s.rd 7 NVS_FENCE) (w : State → State × Rsp) :
    Writes s (s.lockRelay .m u l tag epoch w) [] [lockSaid .m l tag (rNotHolder 0)] := by
  have fails : s.fenceOk Shared.m.reg epoch = false := by simpa [State.fenceOk, Shared.reg] using low
  unfold State.lockRelay
  rw [if_neg (by omega), fails]
  exact (Writes.nil s).relayReply _ _ _ _

theorem hold_exec (on : s.on d.reg = true) (value : Bool) :
    exec (.lockHoldWrite d u value l tag epoch) s = .next (s.lockRelay d u l tag epoch (fun s => s.lockHold d.reg u value l.reg)) :=
  congrArg Host.Outcome.next (if_pos on)

theorem rollback_exec (on : s.on d.reg = true) :
    exec (.lockRollbackWrite d u l tag epoch) s = .next (s.lockRelay d u l tag epoch (fun s => s.lockRollback d.reg u l.reg)) :=
  congrArg Host.Outcome.next (if_pos on)

/-- The fence and the writes of a lock, with the answer. -/
theorem lockRelay_writes (hu : u < locksOf d) (passes : d = .s ∨ s.rd 7 NVS_FENCE ≤ epoch) {w : State → State × Rsp} {ws : List (PKey × Nat)} {a : Rsp}
    (writes : Writes (s.fence d.reg epoch) (w (s.fence d.reg epoch)).1 ws) (answer : (w (s.fence d.reg epoch)).2 = a)
    (apart : NVS_FENCE.key 7 0 ∉ ws.map Prod.fst) :
    Writes s (s.lockRelay d u l tag epoch w) (fenceWrites s d epoch ++ ws) [lockSaid d l tag a] := by
  rw [lockRelay_passes hu passes, answer]
  refine ((fence_writes s d epoch).append writes fun x hx => ?_).relayReply _ _ _ _
  unfold fenceWrites at hx
  split at hx
  · rw [List.mem_singleton.mp hx]
    exact apart
  · simp at hx

/-! ### A lock taken, recovered, refused -/

/-- A lock as an owner takes it. -/
def tookWrites (s : State) (d : Shared) (u : Nat) (l : LaneId) (st : Nat) : List (PKey × Nat) :=
  [(FAB_LOCK_STATE.key d.reg u, st), (FAB_LOCK_OWNER.key d.reg u, l.reg), (FAB_LOCK_EPOCH.key d.reg u, s.rd d.reg FAB_PEER_EPOCH l.reg),
    (FAB_LOCK_HOLD.key d.reg u, 1)]

theorem reg_small (l : LaneId) : l.reg < 256 := by cases l <;> decide

theorem lock_small (hu : u < locksOf d) : u < 256 := by cases d <;> simp only [locksOf] at hu <;> omega

theorem ownerEpoch_reg (r : Nat) (l : LaneId) : s.ownerEpoch r l.reg = s.rd r FAB_PEER_EPOCH l.reg := if_neg (by cases l <;> decide)

theorem lock_cases (hu : u < locksOf d) : (d = .m ∧ u = 0) ∨ (d = .m ∧ u = 1) ∨ (d = .s ∧ u = 0) := by
  cases d <;> simp only [locksOf] at hu <;> simp <;> omega

theorem lockTo_eq (st : Nat) : s.lockTo d.reg u l.reg st =
    s.puts [(FAB_LOCK_STATE.key d.reg u, st), (FAB_LOCK_OWNER.key d.reg u, l.reg), (FAB_LOCK_EPOCH.key d.reg u, s.rd d.reg FAB_PEER_EPOCH l.reg)] := by
  rw [State.lockTo, ownerEpoch_reg]
  rfl

/-- A FREE lock is taken (R457). -/
theorem lockHold_free (hu : u < locksOf d) (free : f.rd d.reg FAB_LOCK_STATE u = 0) : Writes f (f.lockHold d.reg u true l.reg).1 (tookWrites f d u l 1) ∧
    (f.lockHold d.reg u true l.reg).2 = rOk := by
  have taken : f.lockHold d.reg u true l.reg = ((f.lockTo d.reg u l.reg 1).wr d.reg FAB_LOCK_HOLD u 1, rOk) := by
    simp [State.lockHold, State.lockTake, free]
  rw [taken, lockTo_eq]
  exact ⟨.of_puts (by
    simp only [tookWrites, List.map_cons, List.map_nil]
    obtain ⟨rfl, rfl⟩ | ⟨rfl, rfl⟩ | ⟨rfl, rfl⟩ := lock_cases hu <;> decide) rfl, rfl⟩

/-- A broken lock is recovered, with its previous owner and epoch (R460). -/
theorem lockHold_broken (hu : u < locksOf d) (broken : f.rd d.reg FAB_LOCK_STATE u = 2) :
    Writes f (f.lockHold d.reg u true l.reg).1 (tookWrites f d u l 3 ++ [f.next d.reg FAB_CNT_LOCK_RECOVER]) ∧
    (f.lockHold d.reg u true l.reg).2 = rRecovered (f.rd d.reg FAB_LOCK_OWNER u) (f.rd d.reg FAB_LOCK_EPOCH u) := by
  have taken : f.lockHold d.reg u true l.reg = (((f.lockTo d.reg u l.reg 3).bump d.reg FAB_CNT_LOCK_RECOVER).wr d.reg FAB_LOCK_HOLD u 1,
      rRecovered (f.rd d.reg FAB_LOCK_OWNER u) (f.rd d.reg FAB_LOCK_EPOCH u)) := by
    simp [State.lockHold, State.lockTake, broken]
  have small := lock_small hu
  have count : (f.lockTo d.reg u l.reg 3).next d.reg FAB_CNT_LOCK_RECOVER = f.next d.reg FAB_CNT_LOCK_RECOVER := by
    rw [State.next, State.lockTo, State.rd_wr_row _ _ _ _ (by decide) small (by decide), State.rd_wr_row _ _ _ _ (by decide) small (by decide),
      State.rd_wr_row _ _ _ _ (by decide) small (by decide), State.next]
  rw [taken, State.bump_eq, count, lockTo_eq]
  refine ⟨Writes.congr (ws := [(FAB_LOCK_STATE.key d.reg u, 3), (FAB_LOCK_OWNER.key d.reg u, l.reg),
      (FAB_LOCK_EPOCH.key d.reg u, f.rd d.reg FAB_PEER_EPOCH l.reg)] ++ [f.next d.reg FAB_CNT_LOCK_RECOVER, (FAB_LOCK_HOLD.key d.reg u, 1)])
    (.of_puts (by
      simp only [State.next, List.map_cons, List.map_nil, List.cons_append, List.nil_append]
      obtain ⟨rfl, rfl⟩ | ⟨rfl, rfl⟩ | ⟨rfl, rfl⟩ := lock_cases hu <;> decide) ?_) fun _ => ?_, rfl⟩
  · rw [State.puts_append]
    rfl
  · exact (((List.Perm.swap (f.next d.reg FAB_CNT_LOCK_RECOVER) (FAB_LOCK_HOLD.key d.reg u, 1) []).cons _).cons _).cons _ |>.mem_iff

/-- Another's lock is LOCKED, and the refusal is counted (R457, R470). -/
theorem lockHold_locked (held : f.rd d.reg FAB_LOCK_STATE u = 1 ∨ f.rd d.reg FAB_LOCK_STATE u = 3) (other : f.rd d.reg FAB_LOCK_OWNER u ≠ l.reg)
    (value : Bool) : Writes f (f.lockHold d.reg u value l.reg).1 [f.next d.reg FAB_CNT_LOCKED] ∧
      (f.lockHold d.reg u value l.reg).2 = rLocked (f.rd d.reg FAB_LOCK_OWNER u) := by
  have refused : f.lockHold d.reg u value l.reg = (f.bump d.reg FAB_CNT_LOCKED, rLocked (f.rd d.reg FAB_LOCK_OWNER u)) :=
    if_pos ⟨held, by simpa using other⟩
  rw [refused, State.bump_eq]
  exact ⟨(Writes.nil f).wr _ (by simp), rfl⟩

theorem lockRollback_locked (other : f.rd d.reg FAB_LOCK_OWNER u ≠ l.reg) : Writes f (f.lockRollback d.reg u l.reg).1 [f.next d.reg FAB_CNT_LOCKED] ∧
    (f.lockRollback d.reg u l.reg).2 = rLocked (f.rd d.reg FAB_LOCK_OWNER u) := by
  have refused : f.lockRollback d.reg u l.reg = (f.bump d.reg FAB_CNT_LOCKED, rLocked (f.rd d.reg FAB_LOCK_OWNER u)) := if_pos (.inr other)
  rw [refused, State.bump_eq]
  exact ⟨(Writes.nil f).wr _ (by simp), rfl⟩

/-! ### A lock released, rolled back -/

/-- The places of a lock that is FREE again. -/
def freeWrites (d : Shared) (u : Nat) : List (PKey × Nat) :=
  [(FAB_LOCK_HOLD.key d.reg u, 0), (FAB_LOCK_STATE.key d.reg u, 0), (FAB_LOCK_OWNER.key d.reg u, 0), (FAB_LOCK_EPOCH.key d.reg u, 0),
    (FAB_LOCK_JOURNAL.key d.reg u, 0)]

/-- One's own lock without open consists is released (R457). -/
theorem lockHold_release (hu : u < locksOf d) (held : f.rd d.reg FAB_LOCK_STATE u = 1) (own : f.rd d.reg FAB_LOCK_OWNER u = l.reg)
    (idle : f.openOn d.reg u l.reg = false) : f.lockHold d.reg u false l.reg =
      ({ f.puts (freeWrites d u) with journal := f.journal.filter (fun e => !(e.region == d.reg && e.u == u)) }, rOk) := by
  have small := lock_small hu
  let h := f.wr d.reg FAB_LOCK_HOLD u 0
  have kept {x : PDesc} (off : offRows [FAB_LOCK_HOLD] x = true) : h.rd d.reg x u = f.rd d.reg x u := State.rd_wr_row _ _ _ _ off small small
  have clear : h.rdB d.reg FAB_LOCK_HOLD u = false := by rw [State.rdB, State.rd_wr_zero]; rfl
  have idle' : h.openOn d.reg u l.reg = false := by
    rw [← idle]
    cases l <;> rfl
  have released : h.lockRelease d.reg u = h.lockFree d.reg u :=
    if_pos ⟨(kept (by decide)).trans held, by rw [clear]; rfl, by rw [kept (by decide), own, idle']; rfl⟩
  have eq : f.lockHold d.reg u false l.reg = (h.lockRelease d.reg u, rOk) := by
    simp [State.lockHold, held, own, h]
  rw [eq, released]
  rfl

/-- The pre-images of a lock's journal put back, the latest first (R461). -/
def State.putBack (s : State) (d : Shared) (u : Nat) : State :=
  { s with params := (s.journal.filter (fun e => e.region == d.reg && e.u == u)).reverse.foldl (fun (m : Store) (e : JEntry) => m.put e.key e.val) s.params }

/-- The oldest pre-image of a place comes back. -/
theorem foldl_reverse_put {es : List JEntry} (m : Store) (k : PKey) :
    Store.get (es.reverse.foldl (fun (m : Store) (e : JEntry) => m.put e.key e.val) m) k =
      match es.find? (fun e => e.key == k) with
      | some e => e.val % 2 ^ widthOf k
      | none => m.get k := by
  induction es with
  | nil => rfl
  | cons e es ih =>
    rw [List.reverse_cons, List.foldl_append, List.foldl_cons, List.foldl_nil]
    by_cases here : e.key = k
    · rw [List.find?_cons_of_pos (by simpa using here), ← here, Store.get_put_same]
    · rw [List.find?_cons_of_neg (by simpa using here), Store.get_put_ne _ _ (fun h => here h.symm), ih]

theorem putBack_get (s : State) (d : Shared) (u : Nat) (k : PKey) : (s.putBack d u).params.get k =
    match s.journal.find? (fun e => e.region == d.reg && e.u == u && e.key == k) with
    | some e => e.val % 2 ^ widthOf k
    | none => s.params.get k := by
  rw [State.putBack, foldl_reverse_put, List.find?_filter]
  simp only [Bool.decide_and, Bool.decide_eq_true]

theorem lockRollback_own (recovered : f.rd d.reg FAB_LOCK_STATE u = 3) (own : f.rd d.reg FAB_LOCK_OWNER u = l.reg) :
    f.lockRollback d.reg u l.reg = (((f.putBack d u).emptyJournal d.reg u).wr d.reg FAB_LOCK_STATE u 1, rOk) := by
  unfold State.lockRollback
  extract_lets st refusal back
  rw [if_neg (by simp [st, recovered, own]), if_neg (by simp [st, recovered])]
  rfl

end
end Sys2Proof.Machine
end

section
/-! PROOFS. Relayed writes of a lock answered; idle locks and locks of a lane that started again broken. -/

namespace Sys2Proof.Machine

open Par Var

theorem Sets.of_params {s t v : State} {ws : List (PKey × Nat)} (h : Sets s v ws) (e : t.params = v.params) : Sets s t ws := by
  simpa only [Sets, Reads, SamePlaces, e] using h

section
variable {d : Shared} {u tag epoch : Nat} {l : LaneId} {s : State}

/-- A row of the locks. -/
def lockRow (x : PDesc) : Bool := mapRow .m x && mapRow .s x

theorem widthOf_lockRow {x : PDesc} (h : lockRow x = true) (d : Shared) {i : Nat} (hi : i < 256 * x.span) : widthOf (x.key d.reg i) = x.width := by
  simp only [lockRow, Bool.and_eq_true] at h
  cases d
  · exact widthOf_mapRow h.1 rfl hi
  · exact widthOf_mapRow h.2 rfl hi

theorem fence_rd (s : State) (d : Shared) (epoch : Nat) {x : PDesc} (off : offRows [NVS_FENCE] x = true) (r : Nat) {i : Nat} (hi : i < 256) :
    (s.fence d.reg epoch).rd r x i = s.rd r x i := (fence_touches s d epoch).rd off r hi

theorem fence_lock (hu : u < locksOf d) (epoch : Nat) {x : PDesc} (off : offRows [NVS_FENCE] x = true) : (s.fence d.reg epoch).rd d.reg x u = s.rd d.reg x u :=
  fence_rd s d epoch off _ (lock_small hu)

theorem fence_next (s : State) (d : Shared) (epoch : Nat) {x : PDesc} (off : offRows [NVS_FENCE] x = true) (r : Nat) :
    (s.fence d.reg epoch).next r x = s.next r x := by rw [State.next, fence_rd s d epoch off r (by decide), State.next]

theorem fence_openOn (s : State) (d : Shared) (epoch : Nat) (r u owner : Nat) : (s.fence d.reg epoch).openOn r u owner = s.openOn r u owner := by
  simp only [State.openOn, (fence_touches s d epoch).lane]

theorem took_fence (s : State) (d : Shared) (epoch u : Nat) (l : LaneId) (st : Nat) : tookWrites (s.fence d.reg epoch) d u l st = tookWrites s d u l st := by
  rw [tookWrites, fence_rd s d epoch (by decide) _ (reg_small l), tookWrites]

variable (tag)

theorem hold_free (on : s.on d.reg = true) (hu : u < locksOf d) (passes : d = .s ∨ s.rd 7 NVS_FENCE ≤ epoch) (free : s.rd d.reg FAB_LOCK_STATE u = 0) :
    Runs (.lockHoldWrite d u true l tag epoch) s (fun t => Writes s t (fenceWrites s d epoch ++ tookWrites s d u l 1) [lockSaid d l tag rOk]) := by
  refine ⟨_, hold_exec on true, ?_⟩
  obtain ⟨writes, answer⟩ := lockHold_free (f := s.fence d.reg epoch) (l := l) hu (by rw [fence_lock hu epoch (by decide), free])
  rw [took_fence] at writes
  exact lockRelay_writes hu passes (w := fun s => s.lockHold d.reg u true l.reg) writes answer (by
    simp only [tookWrites, List.map_cons, List.map_nil]
    obtain ⟨rfl, rfl⟩ | ⟨rfl, rfl⟩ | ⟨rfl, rfl⟩ := lock_cases hu <;> decide)

theorem hold_broken (on : s.on d.reg = true) (hu : u < locksOf d) (passes : d = .s ∨ s.rd 7 NVS_FENCE ≤ epoch) (broken : s.rd d.reg FAB_LOCK_STATE u = 2) :
    Runs (.lockHoldWrite d u true l tag epoch) s (fun t => Writes s t (fenceWrites s d epoch ++ tookWrites s d u l 3 ++ [s.next d.reg FAB_CNT_LOCK_RECOVER])
      [lockSaid d l tag (rRecovered (s.rd d.reg FAB_LOCK_OWNER u) (s.rd d.reg FAB_LOCK_EPOCH u))]) := by
  refine ⟨_, hold_exec on true, ?_⟩
  obtain ⟨writes, answer⟩ := lockHold_broken (f := s.fence d.reg epoch) (l := l) hu (by rw [fence_lock hu epoch (by decide), broken])
  rw [took_fence, fence_next s d epoch (by decide)] at writes
  rw [fence_lock hu epoch (by decide), fence_lock hu epoch (by decide)] at answer
  rw [List.append_assoc]
  exact lockRelay_writes hu passes (w := fun s => s.lockHold d.reg u true l.reg) writes answer (by
    simp only [tookWrites, State.next, List.map_append, List.map_cons, List.map_nil]
    obtain ⟨rfl, rfl⟩ | ⟨rfl, rfl⟩ | ⟨rfl, rfl⟩ := lock_cases hu <;> decide)

theorem not_mem_locked (s : State) (d : Shared) : NVS_FENCE.key 7 0 ∉ [s.next d.reg FAB_CNT_LOCKED].map Prod.fst := by
  simp only [State.next, List.map_cons, List.map_nil]
  cases d <;> decide

/-- The writes of a lock of another owner are LOCKED. -/
theorem lock_locked (on : s.on d.reg = true) (hu : u < locksOf d) (passes : d = .s ∨ s.rd 7 NVS_FENCE ≤ epoch)
    (held : s.rd d.reg FAB_LOCK_STATE u = 1 ∨ s.rd d.reg FAB_LOCK_STATE u = 3) (other : s.rd d.reg FAB_LOCK_OWNER u ≠ l.reg) :
    ∀ c ∈ [Instr.lockHoldWrite d u true l tag epoch, .lockHoldWrite d u false l tag epoch, .lockRollbackWrite d u l tag epoch],
      Runs c s (fun t => Writes s t (fenceWrites s d epoch ++ [s.next d.reg FAB_CNT_LOCKED]) [lockSaid d l tag (rLocked (s.rd d.reg FAB_LOCK_OWNER u))]) := by
  let f := s.fence d.reg epoch
  have state : f.rd d.reg FAB_LOCK_STATE u = s.rd d.reg FAB_LOCK_STATE u := fence_lock hu epoch (by decide)
  have owner : f.rd d.reg FAB_LOCK_OWNER u = s.rd d.reg FAB_LOCK_OWNER u := fence_lock hu epoch (by decide)
  have count : f.next d.reg FAB_CNT_LOCKED = s.next d.reg FAB_CNT_LOCKED := fence_next s d epoch (by decide) _
  have hold (value : Bool) : Runs (.lockHoldWrite d u value l tag epoch) s (fun t => Writes s t (fenceWrites s d epoch ++ [s.next d.reg FAB_CNT_LOCKED])
      [lockSaid d l tag (rLocked (s.rd d.reg FAB_LOCK_OWNER u))]) := by
    obtain ⟨writes, answer⟩ := lockHold_locked (f := f) (d := d) (u := u) (l := l) (by rwa [state]) (by rwa [owner]) value
    rw [count] at writes
    rw [owner] at answer
    exact ⟨_, hold_exec on value, lockRelay_writes hu passes (w := fun s => s.lockHold d.reg u value l.reg) writes answer (not_mem_locked s d)⟩
  have rollback : Runs (.lockRollbackWrite d u l tag epoch) s (fun t => Writes s t (fenceWrites s d epoch ++ [s.next d.reg FAB_CNT_LOCKED])
      [lockSaid d l tag (rLocked (s.rd d.reg FAB_LOCK_OWNER u))]) := by
    obtain ⟨writes, answer⟩ := lockRollback_locked (f := f) (d := d) (u := u) (l := l) (by rwa [owner])
    rw [count] at writes
    rw [owner] at answer
    exact ⟨_, rollback_exec on, lockRelay_writes hu passes (w := fun s => s.lockRollback d.reg u l.reg) writes answer (not_mem_locked s d)⟩
  intro c hc
  simp only [List.mem_cons, List.not_mem_nil, or_false] at hc
  rcases hc with rfl | rfl | rfl
  · exact hold true
  · exact hold false
  · exact rollback

/-- Under a lower staff epoch than M has seen a write of a lock is refused (R110). -/
theorem lock_fenced (on : s.on 7 = true) (hu : u < locksOf .m) (low : epoch < s.rd 7 NVS_FENCE) :
    ∀ c ∈ [Instr.lockHoldWrite .m u true l tag epoch, .lockHoldWrite .m u false l tag epoch, .lockRollbackWrite .m u l tag epoch],
      Runs c s (fun t => Writes s t [] [lockSaid .m l tag (rNotHolder 0)]) := by
  intro c hc
  simp only [List.mem_cons, List.not_mem_nil, or_false] at hc
  rcases hc with rfl | rfl | rfl
  · exact ⟨_, hold_exec on true, lockRelay_refused hu low _⟩
  · exact ⟨_, hold_exec on false, lockRelay_refused hu low _⟩
  · exact ⟨_, rollback_exec on, lockRelay_refused hu low _⟩

theorem lockSaid_send (s : State) (d : Shared) (l : LaneId) (tag : Nat) (a : Rsp) : s.send (lockSaid d l tag a) = { s with sent := s.sent ++ [lockSaid d l tag a] } := rfl

/-- One's own lock released (R457). -/
theorem hold_release (on : s.on d.reg = true) (hu : u < locksOf d) (passes : d = .s ∨ s.rd 7 NVS_FENCE ≤ epoch) (held : s.rd d.reg FAB_LOCK_STATE u = 1)
    (own : s.rd d.reg FAB_LOCK_OWNER u = l.reg) (idle : s.openOn d.reg u l.reg = false) : Runs (.lockHoldWrite d u false l tag epoch) s (fun t =>
      Sets s t (fenceWrites s d epoch ++ freeWrites d u) ∧ t.sent = s.sent ++ [lockSaid d l tag rOk] ∧
        t.journal = s.journal.filter (fun e => !(e.region == d.reg && e.u == u))) := by
  let f := s.fence d.reg epoch
  have fenced := fence_touches s d epoch
  have released := lockHold_release (f := f) (l := l) hu (by rw [fence_lock hu epoch (by decide), held]) (by rw [fence_lock hu epoch (by decide), own])
    (by rw [fence_openOn, idle])
  have freed : Writes f (f.puts (freeWrites d u)) (freeWrites d u) := f.puts_writes (by
    simp only [freeWrites, List.map_cons, List.map_nil]
    obtain ⟨rfl, rfl⟩ | ⟨rfl, rfl⟩ | ⟨rfl, rfl⟩ := lock_cases hu <;> decide)
  have all := (fence_writes s d epoch).append freed (fun x hx => by
    unfold fenceWrites at hx
    split at hx
    · rw [List.mem_singleton.mp hx]
      simp only [freeWrites, List.map_cons, List.map_nil]
      obtain ⟨rfl, rfl⟩ | ⟨rfl, rfl⟩ | ⟨rfl, rfl⟩ := lock_cases hu <;> decide
    · simp at hx)
  refine ⟨_, (hold_exec on false).trans (congrArg _ (lockRelay_passes hu passes _)), ?_⟩
  rw [released, lockSaid_send]
  refine ⟨all.2.of_params rfl, ?_, ?_⟩
  · exact congrArg (· ++ _) fenced.sent
  · have journal : (s.fence d.reg epoch).journal = s.journal := by rw [fenced.rest]
    exact congrArg (List.filter _) journal

/-- A rollback gives the pre-images back (R461). -/
theorem rollback_own (on : s.on d.reg = true) (hu : u < locksOf d) (passes : d = .s ∨ s.rd 7 NVS_FENCE ≤ epoch) (recovered : s.rd d.reg FAB_LOCK_STATE u = 3)
    (own : s.rd d.reg FAB_LOCK_OWNER u = l.reg) : Runs (.lockRollbackWrite d u l tag epoch) s (fun t => t.sent = s.sent ++ [lockSaid d l tag rOk] ∧
      t.rd d.reg FAB_LOCK_STATE u = 1 ∧ t.rd d.reg FAB_LOCK_JOURNAL u = 0 ∧ t.journal = s.journal.filter (fun e => !(e.region == d.reg && e.u == u)) ∧
      ∀ k, k ≠ FAB_LOCK_STATE.key d.reg u → k ≠ FAB_LOCK_JOURNAL.key d.reg u → k ≠ NVS_FENCE.key 7 0 →
        t.params.get k = match s.journal.find? (fun e => e.region == d.reg && e.u == u && e.key == k) with
          | some e => e.val % 2 ^ widthOf k
          | none => s.params.get k) := by
  let f := s.fence d.reg epoch
  have small := lock_small hu
  have fenced := fence_touches s d epoch
  have journal : (s.fence d.reg epoch).journal = s.journal := by rw [fenced.rest]
  have back := lockRollback_own (f := f) (l := l) (d := d) (u := u) (by rw [fence_lock hu epoch (by decide), recovered])
    (by rw [fence_lock hu epoch (by decide), own])
  refine ⟨_, (rollback_exec on).trans (congrArg _ (lockRelay_passes hu passes _)), ?_⟩
  rw [back, lockSaid_send]
  refine ⟨congrArg (· ++ _) fenced.sent, ?_, ?_, congrArg (List.filter _) journal, fun k state log fence => ?_⟩
  · exact State.rd_wr_of_lt (by rw [widthOf_lockRow (by decide +kernel) d (by simpa [FAB_LOCK_STATE] using small)]; decide)
  · refine (State.rd_wr_row _ _ _ _ (by decide) small small).trans (State.rd_wr_zero _ _ _ _)
  · refine (State.wr_get_ne _ state).trans ((State.wr_get_ne _ log).trans ((putBack_get f d u k).trans ?_))
    have same : f.params.get k = s.params.get k := by
      cases d
      · exact State.wr_get_ne _ fence
      · rfl
    rw [journal, same] <;> rfl

/-! ### Locks broken -/

/-- A HELD lock is BROKEN: the owner's open consists on the resource are gone (R459). -/
theorem breakLock_held {r : Nat} (held : s.rd r FAB_LOCK_STATE u = 1) : Sets s (s.breakLock r u) [(FAB_LOCK_STATE.key r u, 2)] ∧
    (s.breakLock r u).sent = s.sent ∧ (s.breakLock r u).journal = s.journal ∧
    ∀ x : LaneId, x.reg = s.rd r FAB_LOCK_OWNER u → ∀ c ∈ ((s.breakLock r u).lane x).wbe.consists, c.on r u = false := by
  have wrote (v : State) (params : v.params = s.params) : Sets s (v.wr r FAB_LOCK_STATE u 2) [(FAB_LOCK_STATE.key r u, 2)] :=
    ((Sets.nil s).of_params params).wr 2 (by simp)
  unfold State.breakLock
  rw [if_pos held]
  cases owner : LaneId.ofReg (s.rd r FAB_LOCK_OWNER u) with
  | some l =>
    refine ⟨wrote _ (by simp), by simp, by simp, fun x hx c hc => ?_⟩
    obtain rfl : x = l := by
      have := ofReg_reg owner
      rw [← hx] at this
      by_contra apart
      exact reg_injective apart this
    rw [State.wr_lane] at hc
    simp only [State.modWbe, State.lane_modLane] at hc
    simpa using (List.mem_filter.mp hc).2
  | none =>
    refine ⟨wrote s rfl, by simp, rfl, fun x hx => ?_⟩
    rw [← hx] at owner
    cases x <;> cases owner

theorem breakLock_idle {r : Nat} (idle : s.rd r FAB_LOCK_STATE u ≠ 1) : s.breakLock r u = s := if_neg idle

theorem breakLock_get (s : State) {r : Nat} {k : PKey} (apart : k ≠ FAB_LOCK_STATE.key r u) : (s.breakLock r u).params.get k = s.params.get k := by
  by_cases held : s.rd r FAB_LOCK_STATE u = 1
  · exact (breakLock_held held).1.2 k (by simpa using apart)
  · rw [breakLock_idle held]

theorem breakLock_sent (s : State) (r u : Nat) : (s.breakLock r u).sent = s.sent := by
  by_cases held : s.rd r FAB_LOCK_STATE u = 1
  · exact (breakLock_held held).2.1
  · rw [breakLock_idle held]

theorem breakLock_state (small : u < 256) (d : Shared) : (s.breakLock d.reg u).rd d.reg FAB_LOCK_STATE u =
    if s.rd d.reg FAB_LOCK_STATE u = 1 then 2 else s.rd d.reg FAB_LOCK_STATE u := by
  split
  · next held =>
    have read := (breakLock_held held).1.1 _ List.mem_cons_self
    rw [widthOf_lockRow (by decide +kernel) d (by simpa [FAB_LOCK_STATE] using small)] at read
    exact read
  · next idle => rw [breakLock_idle idle]

/-- A lock that idles breaks (R459). -/
theorem lockIdle_runs (on : s.on d.reg = true) (hu : u < locksOf d) :
    (s.rd d.reg FAB_LOCK_STATE u = 1 → Runs (.lockIdleTimeout d u) s (fun t => Sets s t [(FAB_LOCK_STATE.key d.reg u, 2)] ∧ t.sent = s.sent ∧
      t.journal = s.journal ∧ ∀ x : LaneId, x.reg = s.rd d.reg FAB_LOCK_OWNER u → ∀ c ∈ (t.lane x).wbe.consists, c.on d.reg u = false)) ∧
    (s.rd d.reg FAB_LOCK_STATE u ≠ 1 → Runs (.lockIdleTimeout d u) s (fun t => t = s)) := by
  have run : exec (.lockIdleTimeout d u) s = .next (s.breakLock d.reg u) := congrArg Host.Outcome.next (if_pos ⟨on, hu⟩)
  exact ⟨fun held => ⟨_, run, breakLock_held held⟩, fun idle => ⟨_, run, breakLock_idle idle⟩⟩

/-- A lock of a lane that holds it under a lower region epoch breaks (R459). -/
def State.breakOld (s : State) (d : Shared) (l : LaneId) (epoch u : Nat) : State :=
  if s.rd d.reg FAB_LOCK_OWNER u = l.reg ∧ epoch > s.rd d.reg FAB_LOCK_EPOCH u then s.breakLock d.reg u else s

theorem breakOld_get (s : State) (d : Shared) (l : LaneId) (epoch : Nat) {k : PKey} (apart : k ≠ FAB_LOCK_STATE.key d.reg u) :
    (s.breakOld d l epoch u).params.get k = s.params.get k := by
  unfold State.breakOld
  split
  · exact breakLock_get s apart
  · rfl

theorem breakOld_sent (s : State) (d : Shared) (l : LaneId) (epoch u : Nat) : (s.breakOld d l epoch u).sent = s.sent := by
  unfold State.breakOld
  split
  · exact breakLock_sent s d.reg u
  · rfl

/-- Whether a lock is one that a lane holds under a lower region epoch. -/
def State.heldOld (s : State) (d : Shared) (l : LaneId) (epoch u : Nat) : Prop :=
  s.rd d.reg FAB_LOCK_STATE u = 1 ∧ s.rd d.reg FAB_LOCK_OWNER u = l.reg ∧ s.rd d.reg FAB_LOCK_EPOCH u < epoch

theorem breakOld_state (small : u < 256) : (s.heldOld d l epoch u → (s.breakOld d l epoch u).rd d.reg FAB_LOCK_STATE u = 2) ∧
    (¬ s.heldOld d l epoch u → (s.breakOld d l epoch u).rd d.reg FAB_LOCK_STATE u = s.rd d.reg FAB_LOCK_STATE u) := by
  unfold State.breakOld State.heldOld
  constructor
  · rintro ⟨held, own, old⟩
    rw [if_pos ⟨own, old⟩, breakLock_state small, if_pos held]
  · intro stays
    split
    · next h => rw [breakLock_state small, if_neg fun held => stays ⟨held, h.1, h.2⟩]
    · rfl

theorem foldl_breakOld {k : PKey} (xs : List Nat) (s : State) (apart : ∀ x ∈ xs, k ≠ FAB_LOCK_STATE.key d.reg x) :
    (xs.foldl (fun s u => s.breakOld d l epoch u) s).params.get k = s.params.get k := by
  induction xs generalizing s with
  | nil => rfl
  | cons x xs ih => rw [List.foldl_cons, ih _ fun y hy => apart y (List.mem_cons_of_mem _ hy), breakOld_get s d l epoch (apart x List.mem_cons_self)]

theorem foldl_breakOld_sent (xs : List Nat) (s : State) : (xs.foldl (fun s u => s.breakOld d l epoch u) s).sent = s.sent := by
  induction xs generalizing s with
  | nil => rfl
  | cons x xs ih => rw [List.foldl_cons, ih, breakOld_sent]

theorem breakOld_rd (s : State) (d : Shared) (l : LaneId) (epoch : Nat) {u v : Nat} (other : u ≠ v) (hu : u < 256) (hv : v < 256) {x : PDesc}
    (lock : x = FAB_LOCK_STATE ∨ offRows [FAB_LOCK_STATE] x = true) : (s.breakOld d l epoch v).rd d.reg x u = s.rd d.reg x u := by
  refine breakOld_get s d l epoch ?_
  rcases lock with rfl | off
  · exact fun e => other (PDesc.key_inj.mp e)
  · exact PDesc.key_ne_of_row off hu hv

theorem breakOld_heldOld (s : State) {v : Nat} (other : u ≠ v) (hu : u < 256) (hv : v < 256) :
    (s.breakOld d l epoch v).heldOld d l epoch u ↔ s.heldOld d l epoch u := by
  unfold State.heldOld
  rw [breakOld_rd s d l epoch other hu hv (.inl rfl), breakOld_rd s d l epoch other hu hv (.inr (by decide)),
    breakOld_rd s d l epoch other hu hv (.inr (by decide))]

theorem foldl_breakOld_state (s : State) {xs : List Nat} (apart : xs.Nodup) (small : ∀ x ∈ xs, x < 256) (hu : u ∈ xs) :
    (s.heldOld d l epoch u → (xs.foldl (fun s u => s.breakOld d l epoch u) s).rd d.reg FAB_LOCK_STATE u = 2) ∧
    (¬ s.heldOld d l epoch u → (xs.foldl (fun s u => s.breakOld d l epoch u) s).rd d.reg FAB_LOCK_STATE u = s.rd d.reg FAB_LOCK_STATE u) := by
  induction xs generalizing s with
  | nil => simp at hu
  | cons x xs ih =>
    simp only [List.nodup_cons] at apart
    rw [List.foldl_cons]
    rcases List.mem_cons.mp hu with rfl | hu
    · have rest := foldl_breakOld (d := d) (l := l) (epoch := epoch) (k := FAB_LOCK_STATE.key d.reg u) xs (s.breakOld d l epoch u) fun y hy e =>
        apart.1 (PDesc.key_inj.mp e ▸ hy)
      rw [State.rd, rest]
      exact breakOld_state (small u List.mem_cons_self)
    · have other : u ≠ x := fun e => apart.1 (e ▸ hu)
      have small_u := small u (List.mem_cons_of_mem _ hu)
      have small_x := small x List.mem_cons_self
      rw [← breakOld_rd s d l epoch other small_u small_x (.inl rfl), ← breakOld_heldOld s other small_u small_x]
      exact ih _ apart.2 (fun y hy => small y (List.mem_cons_of_mem _ hy)) hu

/-- A lane's status with its region epoch: its older locks break (R456, R459). -/
theorem epochStatus_exec (on : s.on d.reg = true) : exec (.epochStatusReceive d l epoch) s =
    .next ((List.range (locksOf d)).foldl (fun s u => s.breakOld d l epoch u) ((s.heartbeat d l).wr d.reg FAB_PEER_EPOCH l.reg epoch)) :=
  congrArg Host.Outcome.next (if_pos on)

theorem heartbeat_rd (s : State) (d : Shared) (l : LaneId) (r : Nat) (x : PDesc) (i : Nat) : (s.heartbeat d l).rd r x i = s.rd r x i := by
  cases d <;> rfl

theorem epochStatus_runs (on : s.on d.reg = true) (hu : u < locksOf d) :
    Runs (.epochStatusReceive d l epoch) s (fun t => t.rd d.reg FAB_PEER_EPOCH l.reg = epoch % 2 ^ 32 ∧ t.rd d.reg FAB_LOCK_STATE u =
      if s.rd d.reg FAB_LOCK_STATE u = 1 ∧ s.rd d.reg FAB_LOCK_OWNER u = l.reg ∧ s.rd d.reg FAB_LOCK_EPOCH u < epoch then 2
      else s.rd d.reg FAB_LOCK_STATE u) := by
  let h := (s.heartbeat d l).wr d.reg FAB_PEER_EPOCH l.reg epoch
  have small : ∀ x ∈ List.range (locksOf d), x < 256 := fun x hx => lock_small (List.mem_range.mp hx)
  have lock {x : PDesc} (off : offRows [FAB_PEER_EPOCH] x = true) : h.rd d.reg x u = s.rd d.reg x u :=
    (State.rd_wr_row _ _ _ _ off (reg_small l) (lock_small hu)).trans (heartbeat_rd s d l _ _ _)
  obtain ⟨breaks, stays⟩ := foldl_breakOld_state (d := d) (l := l) (epoch := epoch) h List.nodup_range small (List.mem_range.mpr hu)
  have held : h.heldOld d l epoch u ↔ s.heldOld d l epoch u := by
    unfold State.heldOld
    rw [lock (by decide), lock (by decide), lock (by decide)]
  refine ⟨_, epochStatus_exec on, ?_, ?_⟩
  · have kept := foldl_breakOld (d := d) (l := l) (epoch := epoch) (k := FAB_PEER_EPOCH.key d.reg l.reg) (List.range (locksOf d)) h fun x hx =>
      PDesc.key_ne_of_row (by decide) (reg_small l) (small x hx)
    refine kept.trans ((State.rd_wr_same _ _ _ _ _).trans ?_)
    rw [widthOf_lockRow (by decide +kernel) d (by simpa [FAB_PEER_EPOCH] using reg_small l)]
    rfl
  · split
    · next old => exact breaks (held.mpr old)
    · next young => exact (stays fun old => young (held.mp old)).trans (lock (by decide))

theorem epochStatus_sent (on : s.on d.reg = true) :
    (d = .m → Runs (.epochStatusReceive d l epoch) s (fun t => t.sent = s.sent ++ [.heartbeat l (s.rd 7 SMC_LIFECYCLE)])) ∧
    (d = .s → Runs (.epochStatusReceive d l epoch) s (fun t => t.sent = s.sent)) := by
  have sent := foldl_breakOld_sent (d := d) (l := l) (epoch := epoch) (List.range (locksOf d)) ((s.heartbeat d l).wr d.reg FAB_PEER_EPOCH l.reg epoch)
  rw [State.wr_sent] at sent
  constructor
  · rintro rfl
    exact ⟨_, epochStatus_exec on, sent⟩
  · rintro rfl
    exact ⟨_, epochStatus_exec on, sent⟩

end
end Sys2Proof.Machine
end

section
/-! PROOFS. A source that takes its lane out. -/

namespace Sys2Proof.Machine

open Par Var

section
variable {l : LaneId} {s t u : State} {b : Nat}

/-! ### Withdrawn bridges leave the fault collectors -/

/-- What a lane does to its bridges as it leaves: no place of a fault collector, no record of another lane. -/
abbrev BridgeFrame (l : LaneId) (s t : State) : Prop := LaneFrame (fun k => k.block ≠ 9) l.reg s t

theorem BridgeFrame.row (h : BridgeFrame l s t) {d : PDesc} (hd : d.block ≠ 9) {r i v : Nat} : BridgeFrame l s (t.wr r d i v) := h.wr hd

theorem State.noteFall_bridges (h : BridgeFrame l s t) (b k : Nat) : BridgeFrame l s (t.noteFall l b k) :=
  LaneFrame.ite (h.row (by decide)) (LaneFrame.ite (h.row (by decide)) h)

theorem State.riseLow_bridges (h : BridgeFrame l s t) (b k : Nat) : BridgeFrame l s (t.riseLow l b k) := by
  have rises : BridgeFrame l s (t.wr l.pow GDR_RISE_AT (swNum b k) t.now) := h.row (by decide)
  have freed := LaneFrame.ite (c := (t.wr l.pow GDR_RISE_AT (swNum b k) t.now).rd l.pow GDR_SW (swNum b k) = 3)
    (rises.row (d := GDR_SW) (r := l.pow) (i := swNum b k) (v := 0) (by decide)) rises
  exact LaneFrame.ite (h.row (by decide)) (LaneFrame.ite freed (BridgeFrame.row (BridgeFrame.row freed (by decide)) (by decide)))

theorem State.unblock_bridges (h : BridgeFrame l s t) (b : Nat) : BridgeFrame l s (t.unblock l b) :=
  LaneFrame.foldl_mem _ (fun _ _ _ g => BridgeFrame.row g (by decide)) h

theorem State.setBridge_bridges (h : BridgeFrame l s t) (b st : Nat) : BridgeFrame l s (t.setBridge l b st) := by
  have state : BridgeFrame l s (t.wr l.reg CMT_STATE b st) := h.row (by decide)
  have short : BridgeFrame l s ((t.wr l.reg CMT_STATE b st).shortGates l b) :=
    LaneFrame.ite (state.row (by decide)) (((State.unblock_bridges (LaneFrame.foldl_mem _ (fun _ k _ g => State.riseLow_bridges g b k)
      (LaneFrame.foldl_mem _ (fun _ k _ g => State.noteFall_bridges g b k) state)) b).row (by decide)).row (by decide))
  have ended : BridgeFrame l s ((t.wr l.reg CMT_STATE b st).commandsEnd l b) :=
    (State.unblock_bridges (LaneFrame.foldl_mem _ (fun _ k _ g => State.noteFall_bridges g b k) state) b).row (by decide)
  exact LaneFrame.ite short ((ended.row (by decide)).row (by decide))

theorem State.openExpress_bridges (h : BridgeFrame l s t) (n : Nat) : BridgeFrame l s (t.openExpress l n) :=
  (((((h.row (by decide)).row (by decide)).row (by decide)).row (by decide)).row (by decide)).row (by decide)

theorem State.dropOwn_bridges (h : BridgeFrame l s t) (b : Nat) : BridgeFrame l s (t.dropOwn l b) := by
  have reset : BridgeFrame l s ((t.modBridge l b fun x => { x with wOwn := 0, ramp := none, share := 0, iqRef := 0, hand := none, recon := false
    }).modBridge l b fun x => { x with obs := {}, closing := 0, placed := 0, hfi := [] }) := (h.modLane _).modLane _
  generalize hv : (t.modBridge l b fun x => { x with wOwn := 0, ramp := none, share := 0, iqRef := 0, hand := none, recon := false
    }).modBridge l b (fun x => { x with obs := {}, closing := 0, placed := 0, hfi := [] }) = v at reset
  have whole : t.dropOwn l b = ((((v.trackRestart l b).wr l.reg CMT_SHARE b 0).wr l.reg OBS_ALIGN b 0).openExpress l (2 * b)).openExpress l (2 * b + 1) := by
    rw [← hv]
    rfl
  have track : BridgeFrame l s (v.trackRestart l b) := BridgeFrame.row (reset.modLane _) (by decide)
  rw [whole]
  exact State.openExpress_bridges (State.openExpress_bridges ((track.row (by decide)).row (by decide)) _) _

theorem State.withdraw_bridges (h : BridgeFrame l s t) (b : Nat) : BridgeFrame l s (t.withdraw l b) :=
  have dropped := State.dropOwn_bridges (State.setBridge_bridges h b (t.withdrawTo l b)) b
  LaneFrame.ite (LaneFrame.ite dropped (dropped.row (by decide))) (LaneFrame.ite (State.setBridge_bridges h b 3) h)

theorem State.withdrawAll_bridges (h : BridgeFrame l s t) : BridgeFrame l s (t.withdrawAll l) :=
  LaneFrame.foldl_mem _ (fun _ b _ g => State.withdraw_bridges g b) h

theorem State.sendStaffAll_bridges (h : BridgeFrame l s t) (m : StaffMsg) : BridgeFrame l s (t.sendStaffAll l m) :=
  (LaneFrame.foldl_mem _ (fun _ _ _ g => g.send _) h).send _

/-- A lane that leaves is in state leaving; its fault collector stays. -/
theorem State.leave_out (serves : s.vstate l < 3) : (s.leave l).vstate l = 3 ∧ BridgeFrame l s (s.leave l) := by
  unfold State.leave
  rw [if_neg (by omega)]
  extract_lets relinquished released withdrawn counted
  have released_frame : BridgeFrame l s released :=
    have sent := State.sendStaffAll_bridges (.refl _ _ s) (s.staffMsg l 7 (if s.rd l.reg STF_HOLDER = l.reg then l.reg else 0) (s.rd l.reg STF_EPOCH) 0)
    LaneFrame.ite (sent.row (by decide)) sent
  have withdrawn_frame : BridgeFrame l s withdrawn := (State.withdrawAll_bridges released_frame).row (by decide)
  constructor
  · have out : withdrawn.vstate l = 3 := State.rd_wr_of_lt (by cases l <;> decide)
    unfold State.vstate
    rw [State.rd_wr_row _ _ _ _ (by decide) (by decide) (by decide), State.rd_wr_row _ _ _ _ (by decide) (by decide) (by decide),
      State.rd_wr_row _ _ _ _ (by decide) (by decide) (by decide), State.rd_wr_row _ _ _ _ (by decide) (by decide) (by decide)]
    exact out
  · exact (((withdrawn_frame.row (by decide)).row (by decide)).row (by decide)).row (by decide)

/-! ### The source enters the fault state -/

/-- What a reset ordered by a source does to its lane. -/
theorem State.react_out {src : Nat} (serves : s.vstate l < 3) (reset : (s.rd l.reg FCL_REACT src).testBit 3 = true) :
    (s.react l.reg src).vstate l = 3 ∧ (s.react l.reg src).rd l.reg FCL_ERR_STATUS = s.rd l.reg FCL_ERR_STATUS := by
  have own : laneOfReg l.reg = some l := by cases l <;> rfl
  have running : s.quietLane l.reg = false := by
    unfold State.quietLane
    rw [own]
    exact decide_eq_false (by omega)
  let w := ((s.coreReact l.reg src (s.rd l.reg FCL_REACT src)).stampReset l.reg src false).wr l.reg FCL_ORDERED 0 1
  have leaves : s.react l.reg src = w.leave l := by
    unfold State.react
    rw [if_neg (by simp [running]), if_pos reset]
    unfold State.regionReset
    cases l <;> rfl
  have faults : OnlyFaults s (s.coreReact l.reg src (s.rd l.reg FCL_REACT src)) := State.coreReact_faults (.refl s) _ _ _
  have state : w.vstate l = s.vstate l := by
    unfold State.vstate
    rw [State.rd_wr_row _ _ _ _ (by decide) (by decide) (by decide), State.stampReset, State.rd_wr_row _ _ _ _ (by decide) (by decide) (by decide),
      faults.rd (by decide) _ (by decide)]
  have err : w.rd l.reg FCL_ERR_STATUS = s.rd l.reg FCL_ERR_STATUS := by
    rw [State.err_wr _ _ _ _ _ _ (by decide), State.stampReset, State.err_wr _ _ _ _ _ _ (by decide), State.coreReact_err]
  obtain ⟨out, frame⟩ := State.leave_out (s := w) (by rwa [state])
  rw [leaves]
  exact ⟨out, (frame.get.rd (by simp [FCL_ERR_STATUS, PDesc.key])).trans err⟩

/-- A source that takes its lane out stands in the fault state. -/
theorem State.enterFault_out {src : Nat} (there : s.hasRegion l.reg = true) (serves : s.vstate l < 3)
    (reset : (s.rd l.reg FCL_REACT src).testBit 3 = true) (hs : src < 64) :
    (s.enterFault l.reg src).vstate l = 3 ∧ bit ((s.enterFault l.reg src).rd l.reg FCL_ERR_STATUS) src = true := by
  unfold State.enterFault
  extract_lets lim latch latched entered told
  have latched_faults : OnlyFaults s latched :=
    OnlyFaults.ite (State.tell_faults ((OnlyFaults.refl s).wrBit l.reg FCL_LATCHED 0 src true (by decide) (by decide)) _ _ _) (.refl s)
  have entered_faults : OnlyFaults s entered :=
    (latched_faults.wrBit l.reg FCL_ERR_STATUS 0 src true (by decide) (by decide)).bump l.reg FCL_TROUBLE src (by decide) (by omega)
  have told_faults : OnlyFaults s told := State.shadowNote_faults (State.tell_faults (State.stampFirst_faults entered_faults l.reg src) l.reg src 1) l.reg
  have stands : bit (told.rd l.reg FCL_ERR_STATUS) src = true := by
    rw [State.shadowNote_err, State.tell_err, State.stampFirst_err]
    change bit ((State.bump _ _ _ _).rd _ _) _ = true
    rw [State.bump, State.bumpBy, State.err_wr _ _ _ _ _ _ (by decide),
      State.wrBit, State.rd_wr_same, widthOf_err there, bit_mod hs]
    exact bit_setBit _ _
  obtain ⟨out, err⟩ := State.react_out (s := told) (l := l) (src := src)
    ((told_faults.rd (d := STF_STATE) (by decide) l.reg (i := 0) (by decide)).trans_lt serves)
    (by rw [told_faults.rd (by decide) _ (by omega)]; exact reset)
  have pin : OnlyFaults (told.react l.reg src) ((told.react l.reg src).updPin l.reg) := State.updPin_faults (.refl _) _
  exact ⟨(pin.rd (d := STF_STATE) (by decide) l.reg (i := 0) (by decide)).trans out, by rw [State.updPin_err, err]; exact stands⟩

theorem State.noteHit_err (s : State) (l : LaneId) {src : Nat} (hs : src < 256) :
    (s.noteHit l.reg src).rd l.reg FCL_ERR_STATUS = s.rd l.reg FCL_ERR_STATUS := by
  have hit : s.noteHit l.reg src = (s.wr l.reg TRC_HIT src 1).event l 9 src := by cases l <;> rfl
  have frame : LaneFrame (AnyRow [TRC_HIT, DPT_ORD_STATE, DPT_CNT_ORD_OVERLAP]) l.reg s ((s.wr l.reg TRC_HIT src 1).event l 9 src) :=
    ((LaneFrame.refl _ _ s).row (by simp) hs).event (fun o ho => AnyRow.key (by simp) _ (by omega)) (fun o ho => AnyRow.key (by simp) _ (by omega)) 9 src
  rw [hit, frame.rd (by decide) _ (by decide)]

/-- The asserted wire of a source whose entry takes the lane out. -/
theorem State.raise_out {src : Nat} (h : TakesOut s l src) (c : countOnly (classOf l.reg src) = false) :
    (s.raise l.reg src).vstate l = 3 ∧ bit ((s.raise l.reg src).rd l.reg FCL_ERR_STATUS) src = true := by
  obtain ⟨⟨there, listed, free, running⟩, fresh, reset, serves⟩ := h
  have hs := sourceListed_lt listed
  let noted := (s.stampLast l.reg src).noteHit l.reg src
  let w := noted.wr l.reg FCL_QUIET_AT src noted.now
  have stamped : OnlyFaults s noted := State.noteHit_faults ((OnlyFaults.refl s).wr l.reg FCL_LAST src _ (by decide) (by omega)) _ (by omega)
  have faults : OnlyFaults s w := stamped.wr l.reg FCL_QUIET_AT src _ (by decide) (by omega)
  have err : w.rd l.reg FCL_ERR_STATUS = s.rd l.reg FCL_ERR_STATUS := by
    rw [State.err_wr _ _ _ _ _ _ (by decide), State.noteHit_err _ l (by omega), State.stampLast, State.err_wr _ _ _ _ _ _ (by decide)]
  have enters : s.raise l.reg src = w.enterFault l.reg src := by
    unfold State.raise
    rw [if_neg (by simp [listed, there])]
    change (if s.rdB l.reg FCL_MASKED (ownerOf l.reg src) then _ else _) = _
    rw [if_neg (by simp [State.rdB, free])]
    change (if s.rd l.reg FAB_PHASE = 2 then _ else _) = _
    rw [if_neg running]
    change (if countOnly (classOf l.reg src) then _ else if bit (w.rd l.reg FCL_ERR_STATUS) src then _ else _) = _
    rw [if_neg (by simp [c]), if_neg (by rw [err]; simp [fresh])]
    rfl
  rw [enters]
  exact State.enterFault_out (by rw [State.hasRegion, faults.rest]; exact there) ((faults.rd (d := STF_STATE) (by decide) l.reg (i := 0) (by decide)).trans_lt serves)
    (by rw [faults.rd (by decide) _ (by omega)]; exact reset) hs

end
end Sys2Proof.Machine
end

section
/-! PROOFS. Errors of memory lines of a lane: corrected, repaired from a peer, poisoned or lost. -/

namespace Sys2Proof.Machine

open Par Var

section
variable {l : LaneId} {s t u : State} {line src : Nat} {area : LineArea}

/-! ### The memory of a lane, apart from its faults -/

/-- A place of the memory, of the repairs it waits for, or of the RPC tables. -/
def MemPlace (k : PKey) : Prop := k.block = 0x08 ∨ k.block = 0x88 ∨ k.block = 0x13

/-- What the handling of a line error changes before its source is asserted. -/
structure MemFrame (l : LaneId) (s t : State) : Prop where
  frame : LaneFrame MemPlace l.reg s t
  part : t.part = s.part

namespace MemFrame

theorem refl (l : LaneId) (s : State) : MemFrame l s s := ⟨.refl _ _ s, rfl⟩

theorem row (h : MemFrame l s t) {d : PDesc} (hd : d.block = 0x08 ∨ d.block = 0x88 ∨ d.block = 0x13) {i v : Nat} : MemFrame l s (t.wr l.reg d i v) :=
  ⟨h.frame.wr hd, h.part⟩

theorem modLane (h : MemFrame l s t) (f : Lane → Lane) : MemFrame l s (t.modLane l f) := ⟨h.frame.modLane f, by simpa using h.part⟩

theorem storeLine (h : MemFrame l s t) (line : Nat) (data : List Byte) : MemFrame l s (t.storeLine l line data) :=
  ⟨h.frame.trans ((State.storeLine_frame (.refl _ _ t) line data).mono fun k place => by
    rcases place with ⟨block, -⟩ | ⟨d, hd, block, -⟩
    · exact .inr (.inr block)
    · rw [List.mem_singleton.mp hd] at block
      exact .inl block.symm), (State.storeLine_keeps (u0 := t) t l line data (.refl t)).part.trans h.part⟩

theorem rd (h : MemFrame l s t) {d : PDesc} (hd : ¬ (d.block = 0x08 ∨ d.block = 0x88 ∨ d.block = 0x13)) (r i : Nat) : t.rd r d i = s.rd r d i :=
  h.frame.get.rd hd

theorem noReset (h : MemFrame l s t) {r : Nat} (n : NoReset s r src) : NoReset t r src := n.congr (h.rd (by decide) _ _) fun _ => h.rd (by decide) _ _

theorem judged (h : MemFrame l s t) {r : Nat} (j : Judged s r src) : Judged t r src := j.congr h.part (h.rd (by decide) _ _) (h.rd (by decide) _ _)

theorem takesOut (h : MemFrame l s t) (out : TakesOut s l src) : TakesOut t l src := by
  obtain ⟨judged, fresh, reset, serves⟩ := out
  exact ⟨h.judged judged, by rwa [h.rd (by decide)], by rwa [h.rd (by decide)], by unfold State.vstate; rwa [h.rd (by decide)]⟩

end MemFrame

/-! ### The record of a line error -/

/-- The record of a line error (R471). -/
def lineRecordOf (line cls : Nat) (peer : Bool) (cycle : Nat) : Nat := withCycle (line + cls * 2 ^ 27 + b2n peer * 2 ^ 29) cycle

theorem withCycle_lt (a c : Nat) : withCycle a c < 2 ^ 64 := by
  unfold withCycle
  omega

theorem lineRecord_rd (h : MemFrame l s u) (low : line < 2 ^ 27) (cls : Nat) (peer : Bool) :
    (u.lineRecord l line cls peer).rd l.reg MEM_LAST_ERR = lineRecordOf line cls peer (s.cycle l) := by
  have cycle : u.cycle l = s.cycle l := h.rd (by decide) _ _
  rw [State.lineRecord, Nat.mod_eq_of_lt low, cycle]
  exact State.rd_wr_mapRow (by decide +kernel) (kindOf_reg l) (by decide) (withCycle_lt _ _)

/-- What a line error of lane `l`, recorded and its source asserted after `u`, leaves: of the memory the record alone is written. -/
structure LineNoted (l : LaneId) (s u t : State) (line src cls : Nat) (peer : Bool) : Prop where
  mem : ∀ k, MemPlace k → k ≠ MEM_LAST_ERR.key l.reg 0 → t.params.get k = u.params.get k
  lane : ∃ q, t.lane l = { u.lane l with ordQ := q }
  record : t.rd l.reg MEM_LAST_ERR = lineRecordOf line cls peer (s.cycle l)
  stands : countOnly (classOf l.reg src) = false → Judged s l.reg src → bit (t.rd l.reg FCL_ERR_STATUS) src = true

theorem not_faultPlace_mem {k : PKey} (h : MemPlace k) : ¬ FaultPlace k := by
  rintro ⟨d, hd, block, -⟩
  have apart : ∀ d ∈ faultRows, d.block ≠ 0x08 ∧ d.block ≠ 0x88 ∧ d.block ≠ 0x13 := by decide
  obtain ⟨data, repair, table⟩ := apart d hd
  rw [block] at data repair table
  exact h.elim data (·.elim repair table)

theorem line_noted (h : MemFrame l s u) (low : line < 2 ^ 27) (n : NoReset s l.reg src) (cls : Nat) (peer : Bool) :
    LineNoted l s u ((u.lineRecord l line cls peer).raise l.reg src) line src cls peer := by
  have recorded : MemFrame l s (u.lineRecord l line cls peer) := h.row (by decide)
  have faults := State.raise_faults _ l.reg src false (recorded.noReset n)
  exact {
    mem := fun k place other => (faults.get k (not_faultPlace_mem place)).trans (State.wr_get_ne _ other)
    lane := by
      obtain ⟨q, lane⟩ := faults.lanes l
      exact ⟨q, lane.trans (by rw [State.lineRecord, State.wr_lane])⟩
    record := (faults.rd (by decide) _ (by decide)).trans (lineRecord_rd h low cls peer)
    stands := fun more judged => State.raise_err (recorded.judged judged) (recorded.noReset n) more }

variable {cls : Nat} {peer : Bool}

namespace LineNoted

theorem rd (h : LineNoted l s u t line src cls peer) {d : PDesc} (place : d.block = 0x08 ∨ d.block = 0x88) (off : offRows [MEM_LAST_ERR] d = true) {i : Nat}
    (hi : i < 256) : t.rd l.reg d i = u.rd l.reg d i :=
  h.mem _ (place.elim .inl fun p => .inr (.inl p)) (PDesc.key_ne_of_row off hi (by decide))

theorem readLine (h : LineNoted l s u t line src cls peer) (line' : Nat) : t.readLine l line' = u.readLine l line' := by
  obtain ⟨q, lane⟩ := h.lane
  exact readLine_congr (by rw [lane]) (by rw [lane]) (by rw [lane]) fun n => h.mem _ (.inr (.inr rfl)) (by simp [PDesc.key, RPC_TBL, MEM_LAST_ERR])

end LineNoted

/-! ### Read errors -/

theorem readError_exec {c : Instr} {p : Bool} (h : c = .lineReadError l.region line area p ∨ c = .scrubRead l.region line area (if p then .persistent else .transient) none) :
    exec c s = .next (s.readError l.region line area p) := by
  rcases h with rfl | rfl
  · rfl
  · cases p <;> cases l <;> rfl

theorem readError_up (up : s.up l = true) (p : Bool) : s.readError l.region line area p =
    if p then s.linePersistent l line area else (s.bump l.reg MEM_CNT_REREAD).lineCorrected l line false := by
  have here : s.readError l.region line area p = if l.region.code > 3 ∨ !s.up l then s else if p then s.linePersistent l line area
      else (s.bump l.reg MEM_CNT_REREAD).lineCorrected l line false := by cases l <;> rfl
  rw [here, if_neg (by simp only [up]; cases l <;> decide)]

theorem persistent_exec (up : s.up l = true) {c : Instr}
    (h : c = .lineReadError l.region line area true ∨ c = .scrubRead l.region line area (if true then .persistent else .transient) none) :
    exec c s = .next (s.linePersistent l line area) :=
  (readError_exec h).trans (congrArg _ ((readError_up up true).trans (if_pos rfl)))

/-- A counter of the memory raised after others of its places have changed. -/
theorem counted_mem {d : PDesc} (h : mapRow .lane d = true) (span : 0 < 256 * d.span) (before : u.rd l.reg d = s.rd l.reg d) :
    Counted s (u.bump l.reg d) l.reg d := by
  rw [Counted, ← before]
  exact State.counted_bump (widthOf_mapRow h (kindOf_reg l) span)

theorem LineNoted.counted (h : LineNoted l s u t line src cls peer) {d : PDesc} (place : d.block = 0x08 ∨ d.block = 0x88) (off : offRows [MEM_LAST_ERR] d = true)
    (counted : Counted s u l.reg d) : Counted s t l.reg d := (h.rd place off (by decide)).trans counted

/-- A read error that a second read does not find is counted and recorded (R463). -/
theorem read_transient (up : s.up l = true) (low : line < 2 ^ 27) (n : NoReset s l.reg 4) {c : Instr}
    (h : c = .lineReadError l.region line area false ∨ c = .scrubRead l.region line area (if false then .persistent else .transient) none) :
    Runs c s (fun t => Counted s t l.reg MEM_CNT_REREAD ∧ t.rd l.reg MEM_LAST_ERR = lineRecordOf line 1 false (s.cycle l)) := by
  refine ⟨_, (readError_exec h).trans (congrArg _ ((readError_up up false).trans (if_neg (by simp)))), ?_⟩
  have noted := line_noted (u := s.bump l.reg MEM_CNT_REREAD) ((MemFrame.refl l s).row (by decide)) low n 1 false
  exact ⟨(noted.rd (by decide) (by decide) (by decide)).trans (counted_mem (by decide +kernel) (by decide) rfl), noted.record⟩

/-- A persistent error in a line without another copy is fatal (R463). -/
theorem lineLost_other (s : State) (l : LaneId) (line : Nat) : s.lineLost l line .other = (s.lineRecord l line 3 false).raise l.reg 6 := rfl

theorem read_lost (up : s.up l = true) (low : line < 2 ^ 27) (n : NoReset s l.reg 6) {c : Instr}
    (h : c = .lineReadError l.region line .other true ∨ c = .scrubRead l.region line .other (if true then .persistent else .transient) none) :
    Runs c s (fun t => t.rd l.reg MEM_LAST_ERR = lineRecordOf line 3 false (s.cycle l) ∧ (Judged s l.reg 6 → bit (t.rd l.reg FCL_ERR_STATUS) 6 = true)) := by
  have noted := line_noted (MemFrame.refl l s) low n 3 false
  exact ⟨_, (persistent_exec up h).trans (congrArg _ (lineLost_other s l line)), noted.record, noted.stands (by cases l <;> decide)⟩

theorem read_out (up : s.up l = true) (out : TakesOut s l 6) {c : Instr}
    (h : c = .lineReadError l.region line .other true ∨ c = .scrubRead l.region line .other (if true then .persistent else .transient) none) :
    Runs c s (fun t => t.vstate l = 3 ∧ bit (t.rd l.reg FCL_ERR_STATUS) 6 = true) := by
  have recorded : MemFrame l s (s.lineRecord l line 3 false) := (MemFrame.refl l s).row (by decide)
  exact ⟨_, (persistent_exec up h).trans (congrArg _ (lineLost_other s l line)), State.raise_out (recorded.takesOut out) (by cases l <;> decide)⟩

/-- A line noted as poisoned, the poisoned lines counted. -/
def State.poison (s : State) (l : LaneId) (line : Nat) : State :=
  (s.modLane l (fun x => { x with poisoned := x.poisoned ++ [line] })).wr l.reg MEM_POISONED 0 (satNat 16 ((s.lane l).poisoned ++ [line]).length)

theorem poison_frame (s : State) (l : LaneId) (line : Nat) : MemFrame l s (s.poison l line) := ((MemFrame.refl l s).modLane _).row (by decide)

theorem poison_lane (s : State) (l : LaneId) (line : Nat) : ((s.poison l line).lane l).poisoned = (s.lane l).poisoned ++ [line] := by
  rw [State.poison, State.wr_lane, State.lane_modLane]

theorem lineLost_owned (clean : line ∉ (s.lane l).poisoned) :
    s.lineLost l line .owned = (((s.poison l line).bump l.reg MEM_CNT_CONTAINED).lineRecord l line 2 false).raise l.reg 5 := by
  refine (if_neg (by simpa using clean)).trans ?_
  rw [State.poison, State.lane_modLane]

/-- A persistent error in an owned line poisons it (R463). -/
theorem read_owned (up : s.up l = true) (low : line < 2 ^ 27) (clean : line ∉ (s.lane l).poisoned) (n : NoReset s l.reg 5) {c : Instr}
    (h : c = .lineReadError l.region line .owned true ∨ c = .scrubRead l.region line .owned (if true then .persistent else .transient) none) :
    Runs c s (fun t => (t.lane l).poisoned = (s.lane l).poisoned ++ [line] ∧ Counted s t l.reg MEM_CNT_CONTAINED ∧
      t.rd l.reg MEM_LAST_ERR = lineRecordOf line 2 false (s.cycle l) ∧ (Judged s l.reg 5 → bit (t.rd l.reg FCL_ERR_STATUS) 5 = true)) := by
  have noted := line_noted (u := (s.poison l line).bump l.reg MEM_CNT_CONTAINED) ((poison_frame s l line).row (by decide)) low n 2 false
  obtain ⟨q, lane⟩ := noted.lane
  refine ⟨_, (persistent_exec up h).trans (congrArg _ (lineLost_owned clean)), ?_, ?_, noted.record, noted.stands (by cases l <;> decide)⟩
  · have count_lane : ((s.poison l line).bump l.reg MEM_CNT_CONTAINED).lane l = (s.poison l line).lane l := by
      rw [State.bump, State.bumpBy, State.wr_lane]
    exact (congrArg Lane.poisoned lane).trans ((congrArg Lane.poisoned count_lane).trans (poison_lane s l line))
  · refine noted.counted (by decide) (by decide) (counted_mem (by decide +kernel) (by decide) ?_)
    rw [State.poison, State.rd_wr_row _ _ _ _ (by decide) (by decide) (by decide)]
    exact congrArg (fun m : Store => m.get _) (State.modLane_params _ _ _)

/-- A mirrored line is asked of the next peer (R463, R465). -/
theorem askRepair_peer {p : LaneId} {rest : List LaneId} (peers : s.repairPeers l = p :: rest) : s.askRepair l line =
    ((s.wr l.reg MEM_REP_LINE 0 (line + 1)).wrBit l.reg MEM_REP_ASKED 0 p.idx true).send (.repairRequest l p line (s.rd l.reg CEN_GRP)) := by
  rw [State.askRepair, peers]

theorem read_mirrored (up : s.up l = true) (fresh : s.rd l.reg MEM_REP_LINE ≠ line + 1) {p : LaneId} {rest : List LaneId}
    (peers : (s.wr l.reg MEM_REP_ASKED 0 0).repairPeers l = p :: rest) {c : Instr}
    (h : c = .lineReadError l.region line .mirrored true ∨ c = .scrubRead l.region line .mirrored (if true then .persistent else .transient) none) :
    Runs c s (fun t => Writes s t [(MEM_REP_ASKED.key l.reg 0, 2 ^ p.idx), (MEM_REP_LINE.key l.reg 0, line + 1)]
      [.repairRequest l p line (s.rd l.reg CEN_GRP)]) := by
  let a := s.wr l.reg MEM_REP_ASKED 0 0
  let b := a.wr l.reg MEM_REP_LINE 0 (line + 1)
  have asks : s.linePersistent l line .mirrored = (b.wrBit l.reg MEM_REP_ASKED 0 p.idx true).send (.repairRequest l p line (a.rd l.reg CEN_GRP)) :=
    (if_neg fresh).trans ((if_neg (by rw [peers]; simp)).trans (askRepair_peer peers))
  have grp : a.rd l.reg CEN_GRP = s.rd l.reg CEN_GRP := State.rd_wr_row _ _ _ _ (by decide) (by decide) (by decide)
  have asked : b.rd l.reg MEM_REP_ASKED = 0 := (State.rd_wr_row _ _ _ _ (by decide) (by decide) (by decide)).trans (State.rd_wr_zero _ _ _ _)
  have bits : b.wrBit l.reg MEM_REP_ASKED 0 p.idx true = b.wr l.reg MEM_REP_ASKED 0 (2 ^ p.idx) := by
    rw [State.wrBit, asked]
    cases p <;> rfl
  have apart : MEM_REP_LINE.key l.reg 0 ≠ MEM_REP_ASKED.key l.reg 0 := PDesc.key_ne_of_row (by decide) (by decide) (by decide)
  rw [grp, bits] at asks
  have sets : Sets s b [(MEM_REP_ASKED.key l.reg 0, 0), (MEM_REP_LINE.key l.reg 0, line + 1)] :=
    (((Sets.nil s).wr 0 (by simp)).wr (line + 1) (by simpa using apart)).congr fun w => by simp [or_comm]
  have marked : Sets s (b.wr l.reg MEM_REP_ASKED 0 (2 ^ p.idx)) [(MEM_REP_ASKED.key l.reg 0, 2 ^ p.idx), (MEM_REP_LINE.key l.reg 0, line + 1)] :=
    sets.rewr (by simpa using apart.symm)
  exact ⟨_, (persistent_exec up h).trans (congrArg _ asks), rfl, marked.of_params (by simp)⟩

end
end Sys2Proof.Machine
end

section
/-! PROOFS. Answers to a repair, the scrub, and what a lane answers to a repair request. -/

namespace Sys2Proof.Machine

open Par Var

section
variable {l : LaneId} {s t u v : State} {line : Nat}

/-! ### A line repaired -/

/-- A line repaired from a peer: stored, counted and recorded as corrected (R465). -/
def State.repaired (s : State) (l : LaneId) (line : Nat) (data : List Byte) : State :=
  ((s.storeLine l line data).bump l.reg MEM_CNT_REPAIR).lineCorrected l line true

theorem repaired_noted (h : MemFrame l s v) (low : line < 2 ^ 27) (n : NoReset s l.reg 4) (data : List Byte) :
    LineNoted l s ((v.storeLine l line data).bump l.reg MEM_CNT_REPAIR) (v.repaired l line data) line 4 1 true :=
  line_noted ((h.storeLine line data).row (by decide)) low n 1 true

/-- What a repair leaves of the memory's other places. -/
theorem repaired_rd (h : MemFrame l s v) (low : line < 2 ^ 27) (n : NoReset s l.reg 4) (data : List Byte) {d : PDesc}
    (place : d.block = 0x08 ∨ d.block = 0x88) (off : offRows [MEM_LAST_ERR] d = true) (count : offRows [MEM_CNT_REPAIR] d = true)
    (store : (d.block != RPC_TBL.block && offRows [MEM_POISONED] d) = true) : (v.repaired l line data).rd l.reg d = v.rd l.reg d :=
  ((repaired_noted h low n data).rd place off (by decide)).trans ((State.rd_wr_row _ _ _ _ count (by decide) (by decide)).trans
    ((State.storeLine_frame (.refl _ _ v) line data).get.rd (not_xferPlace store _ (by decide))))

theorem repaired_counted (h : MemFrame l s v) (low : line < 2 ^ 27) (n : NoReset s l.reg 4) (data : List Byte)
    (before : v.rd l.reg MEM_CNT_REPAIR = s.rd l.reg MEM_CNT_REPAIR) : Counted s (v.repaired l line data) l.reg MEM_CNT_REPAIR :=
  (repaired_noted h low n data).counted (by decide) (by decide) (counted_mem (by decide +kernel) (by decide)
    (((State.storeLine_frame (.refl _ _ v) line data).get.rd (not_xferPlace (by decide) _ (by decide))).trans before))

theorem repaired_reads (h : MemFrame l s v) (low : line < 2 ^ 27) (n : NoReset s l.reg 4) {data : List Byte} (full : data.length = 32) :
    (v.repaired l line data).readLine l line = some data := by
  obtain ⟨-, stored, -⟩ := storeLine_leaves (s := v) (l := l) (line := line) full rfl
  rw [(repaired_noted h low n data).readLine, ← stored]
  exact readLine_congr (by rw [State.bump, State.bumpBy, State.wr_lane]) (by rw [State.bump, State.bumpBy, State.wr_lane])
    (by rw [State.bump, State.bumpBy, State.wr_lane]) fun _ => State.rd_wr_block _ _ _ _ _ _ (by decide)

/-- The repair awaited no longer. -/
def State.repairOver (s : State) (l : LaneId) : State := (s.wr l.reg MEM_REP_LINE 0 0).wr l.reg MEM_REP_ASKED 0 0

theorem repairOver_frame (s : State) (l : LaneId) : MemFrame l s (s.repairOver l) := ((MemFrame.refl l s).row (by decide)).row (by decide)

theorem repairOver_line (s : State) (l : LaneId) : (s.repairOver l).rd l.reg MEM_REP_LINE = 0 :=
  (State.rd_wr_row _ _ _ _ (by decide) (by decide) (by decide)).trans (State.rd_wr_zero _ _ _ _)

theorem repairOver_rd (s : State) (l : LaneId) {d : PDesc} (off : offRows [MEM_REP_LINE] d = true) (off' : offRows [MEM_REP_ASKED] d = true) :
    (s.repairOver l).rd l.reg d = s.rd l.reg d :=
  (State.rd_wr_row _ _ _ _ off' (by decide) (by decide)).trans (State.rd_wr_row _ _ _ _ off (by decide) (by decide))

/-- A spare taken for a line whose read-back fails (R465). -/
def State.remapped (s : State) (l : LaneId) : State :=
  ((s.repairOver l).wr l.reg MEM_SPARE_USED 0 (s.rd l.reg MEM_SPARE_USED + 1)).bump l.reg MEM_CNT_REMAP

theorem repair_exec (up : s.up l = true) (awaited : s.rd l.reg MEM_REP_LINE = line + 1) (data : List Byte) (ok : Bool) :
    exec (.lineRepairReply l line (some data) ok) s = .next (if ok then (s.repairOver l).repaired l line data
      else if s.rd l.reg MEM_SPARE_USED < 128 then (s.remapped l).repaired l line data
      else ((s.repairOver l).bump l.reg MEM_CNT_REPAIR_FAIL).lineLost l line .other) :=
  congrArg Host.Outcome.next ((if_pos up).trans (if_neg (not_not.mpr awaited)))

theorem remapped_frame (s : State) (l : LaneId) : MemFrame l s (s.remapped l) := ((repairOver_frame s l).row (by decide)).row (by decide)

theorem remapped_rd (s : State) (l : LaneId) {d : PDesc} (off : offRows [MEM_REP_LINE] d = true) (off' : offRows [MEM_REP_ASKED] d = true)
    (spare : offRows [MEM_SPARE_USED] d = true) (count : offRows [MEM_CNT_REMAP] d = true) : (s.remapped l).rd l.reg d = s.rd l.reg d :=
  (State.rd_wr_row _ _ _ _ count (by decide) (by decide)).trans ((State.rd_wr_row _ _ _ _ spare (by decide) (by decide)).trans (repairOver_rd s l off off'))

/-- The answer with the line: written and read back, remapped where the read-back fails (R465). -/
theorem repair_stored (up : s.up l = true) (low : line < 2 ^ 27) (awaited : s.rd l.reg MEM_REP_LINE = line + 1) (n : NoReset s l.reg 4) (data : List Byte) {ok : Bool}
    (good : ok = true ∨ s.rd l.reg MEM_SPARE_USED < 128) : Runs (.lineRepairReply l line (some data) ok) s (fun t => Counted s t l.reg MEM_CNT_REPAIR ∧
      t.rd l.reg MEM_LAST_ERR = lineRecordOf line 1 true (s.cycle l) ∧ t.rd l.reg MEM_REP_LINE = 0 ∧ (data.length = 32 → t.readLine l line = some data) ∧
      (ok = false → t.rd l.reg MEM_SPARE_USED = s.rd l.reg MEM_SPARE_USED + 1 ∧ Counted s t l.reg MEM_CNT_REMAP)) := by
  refine ⟨_, repair_exec up awaited data ok, ?_⟩
  cases ok with
  | true =>
    have cleared := repairOver_frame s l
    rw [if_pos rfl]
    refine ⟨repaired_counted cleared low n data (repairOver_rd s l (by decide) (by decide)), (repaired_noted cleared low n data).record, ?_,
      fun full => repaired_reads cleared low n full, by simp⟩
    rw [repaired_rd cleared low n data (by decide) (by decide) (by decide) (by decide), repairOver_line]
  | false =>
    have spare : s.rd l.reg MEM_SPARE_USED < 128 := by simpa using good
    have moved := remapped_frame s l
    rw [if_neg (by simp), if_pos spare]
    refine ⟨repaired_counted moved low n data (remapped_rd s l (by decide) (by decide) (by decide) (by decide)), (repaired_noted moved low n data).record, ?_,
      fun full => repaired_reads moved low n full, fun _ => ⟨?_, ?_⟩⟩
    · rw [repaired_rd moved low n data (by decide) (by decide) (by decide) (by decide)]
      exact (State.rd_wr_row _ _ _ _ (by decide) (by decide) (by decide)).trans
        ((State.rd_wr_row _ _ _ _ (by decide) (by decide) (by decide)).trans (repairOver_line s l))
    · rw [repaired_rd moved low n data (by decide) (by decide) (by decide) (by decide)]
      refine (State.rd_wr_row _ _ _ _ (by decide) (by decide) (by decide)).trans (State.rd_wr_mapRow (k := .lane) (by decide +kernel) (kindOf_reg l) (by decide) ?_)
      simp only [MEM_SPARE_USED] at spare ⊢
      omega
    · refine (repaired_rd moved low n data (by decide) (by decide) (by decide) (by decide)).trans (counted_mem (by decide +kernel) (by decide) ?_)
      exact (State.rd_wr_row _ _ _ _ (by decide) (by decide) (by decide)).trans (repairOver_rd s l (by decide) (by decide))

/-- A repair that failed: the line is lost. -/
theorem repair_failed (low : line < 2 ^ 27) (n : NoReset s l.reg 6) {t : State} (ht : t = ((s.repairOver l).bump l.reg MEM_CNT_REPAIR_FAIL).lineLost l line .other) :
    Counted s t l.reg MEM_CNT_REPAIR_FAIL ∧ t.rd l.reg MEM_LAST_ERR = lineRecordOf line 3 false (s.cycle l) ∧ t.rd l.reg MEM_REP_LINE = 0 ∧
      (Judged s l.reg 6 → bit (t.rd l.reg FCL_ERR_STATUS) 6 = true) := by
  have noted := line_noted (u := (s.repairOver l).bump l.reg MEM_CNT_REPAIR_FAIL) ((repairOver_frame s l).row (by decide)) low n 3 false
  rw [ht, lineLost_other]
  refine ⟨noted.counted (by decide) (by decide) (counted_mem (by decide +kernel) (by decide) (repairOver_rd s l (by decide) (by decide))), noted.record, ?_,
    noted.stands (by cases l <;> decide)⟩
  exact (noted.rd (by decide) (by decide) (by decide)).trans ((State.rd_wr_row _ _ _ _ (by decide) (by decide) (by decide)).trans (repairOver_line s l))

theorem repair_unstored (up : s.up l = true) (low : line < 2 ^ 27) (awaited : s.rd l.reg MEM_REP_LINE = line + 1) (n : NoReset s l.reg 6) (data : List Byte)
    (spent : 128 ≤ s.rd l.reg MEM_SPARE_USED) : Runs (.lineRepairReply l line (some data) false) s (fun t => Counted s t l.reg MEM_CNT_REPAIR_FAIL ∧
      t.rd l.reg MEM_LAST_ERR = lineRecordOf line 3 false (s.cycle l)) := by
  refine ⟨_, (repair_exec up awaited data false).trans (congrArg _ ((if_neg (by simp)).trans (if_neg (by omega)))), ?_⟩
  obtain ⟨counted, recorded, -, -⟩ := repair_failed low n rfl
  exact ⟨counted, recorded⟩

theorem repair_refused (up : s.up l = true) (low : line < 2 ^ 27) (awaited : s.rd l.reg MEM_REP_LINE = line + 1) (n : NoReset s l.reg 6)
    (last : s.repairPeers l = []) : Runs (.lineRepairReply l line none true) s (fun t => Counted s t l.reg MEM_CNT_REPAIR_FAIL ∧
      t.rd l.reg MEM_REP_LINE = 0 ∧ (Judged s l.reg 6 → bit (t.rd l.reg FCL_ERR_STATUS) 6 = true)) := by
  have asks : s.askRepair l line = ((s.repairOver l).bump l.reg MEM_CNT_REPAIR_FAIL).lineLost l line .other := by
    rw [State.askRepair, last]
    rfl
  have run : exec (.lineRepairReply l line none true) s = .next (s.askRepair l line) :=
    congrArg Host.Outcome.next ((if_pos up).trans (if_neg (not_not.mpr awaited)))
  obtain ⟨counted, -, cleared, stands⟩ := repair_failed low n rfl
  exact ⟨_, run.trans (congrArg _ asks), counted, cleared, stands⟩

theorem repair_unasked (up : s.up l = true) (other : s.rd l.reg MEM_REP_LINE ≠ line + 1) (data : Option (List Byte)) (ok : Bool) :
    Runs (.lineRepairReply l line data ok) s (fun t => t = s) :=
  ⟨_, congrArg Host.Outcome.next ((if_pos up).trans (if_pos other)), rfl⟩

/-! ### The scrub -/

theorem scrub_clean (up : s.up l = true) (area : LineArea) (ms : Nat) : ∀ e ∈ [ScrubError.clean, .written],
    Runs (.scrubRead l.region line area e (some ms)) s (fun t => Writes s t [(MEM_SCRUB_LAST.key l.reg 0, min 65535 ms)]) := by
  intro e he
  have run : exec (.scrubRead l.region line area e (some ms)) s = .next (s.wr l.reg MEM_SCRUB_LAST 0 (satNat 16 ms)) := by
    have there : (if l.region.code ≤ 3 then s.whenUp l (fun s => s.wr l.reg MEM_SCRUB_LAST 0 (satNat 16 ms)) else s) = s.wr l.reg MEM_SCRUB_LAST 0 (satNat 16 ms) :=
      (if_pos (by cases l <;> decide)).trans (if_pos up)
    rw [← there]
    simp only [List.mem_cons, List.not_mem_nil, or_false] at he
    rcases he with rfl | rfl <;> cases l <;> rfl
  refine ⟨_, run, ?_⟩
  rw [satNat_eq]
  exact (Writes.nil s).wr _ (by simp)

/-! ### Requests of a peer -/

/-- What a lane answers to a repair request, where it does not wait. -/
theorem request_answered (up : s.up l = true) (votes : s.voting l l = true) {x : LaneId} (other : x ≠ l) {period : Nat} {ok : Bool}
    (now : s.repairWaits l line period ok = false) {data : Option (List Byte)} (answer : s.repairData l line period ok = data) :
    Runs (.repairRequestReceive l x line period ok) s (fun t => Writes s t [] [.repairAnswer l x line data]) := by
  refine ⟨_, congrArg Host.Outcome.next ((if_pos up).trans ((if_pos ⟨votes, other⟩).trans (if_neg (by simp [now])))), ?_⟩
  rw [answer]
  exact ⟨rfl, (Sets.nil s).of_params rfl⟩

/-- A line outside the tables is answered as it reads; a refusal where the peer's own copy fails (R465). -/
theorem repairData_plain (h : s.tblLine l line = none) (period : Nat) (ok : Bool) : s.repairWaits l line period ok = false ∧
    s.repairData l line period ok = if ok then s.readLine l line else none := by
  rw [State.repairWaits, State.repairData, h]
  cases ok <;> simp

theorem repairData_refused (period : Nat) : s.repairWaits l line period false = false ∧ s.repairData l line period false = none := ⟨rfl, rfl⟩

/-- A line of the tables is answered as of the group named, once it has run (R286). -/
theorem repairData_table {first period : Nat} (h : s.tblLine l line = some first) (ran : period ≤ s.rd l.reg CEN_GRP) :
    s.repairWaits l line period true = false ∧
    s.repairData l line period true = if line ∈ (s.lane l).poisoned then none else s.tblThen l first period := by
  rw [State.repairWaits, State.repairData, h]
  constructor
  · simpa using ran
  · simp

theorem tblThen_latest (l : LaneId) (first : Nat) {period : Nat} (h : period = s.rd l.reg CEN_GRP) : s.tblThen l first period = some (s.tblBytes l first) :=
  if_pos (by omega)

theorem tblThen_before (l : LaneId) (first : Nat) {period : Nat} (past : period < s.rd l.reg CEN_GRP) (kept : s.rd l.reg CEN_GRP_PREV ≤ period) :
    s.tblThen l first period = some (s.tblBefore l first) := (if_neg (by omega)).trans (if_pos kept)

theorem tblThen_older (l : LaneId) (first : Nat) {period : Nat} (past : period < s.rd l.reg CEN_GRP) (older : period < s.rd l.reg CEN_GRP_PREV) :
    s.tblThen l first period = none := (if_neg (by omega)).trans (if_neg (by omega))

/-- A table line of a group that has not run yet waits for it (R286). -/
theorem request_waits (up : s.up l = true) (votes : s.voting l l = true) {x : LaneId} (other : x ≠ l) {first period : Nat}
    (h : s.tblLine l line = some first) (ahead : s.rd l.reg CEN_GRP < period) :
    Runs (.repairRequestReceive l x line period true) s (fun t => t = s.modLane l (fun y => { y with repairs := y.repairs ++ [(x, line, period)] })) := by
  have waits : s.repairWaits l line period true = true := by simp [State.repairWaits, h, ahead]
  exact ⟨_, congrArg Host.Outcome.next ((if_pos up).trans ((if_pos ⟨votes, other⟩).trans (if_pos waits))), rfl⟩

end
end Sys2Proof.Machine
end

section
/-! PROOFS. Line errors of M's NVS, gated blocks, and the fabric's obligation. -/

namespace Sys2Proof.Machine

open Par Var

/-! ### Line errors of M's NVS -/

section
variable {s t u : State} {line : Nat} {area : LineArea}

/-- What a persistent error in the NVS does before its source is asserted (R537, R538). -/
theorem nvsPersistent_raises (s : State) (line : Nat) : ∃ u, s.nvsPersistent line = u.raise 7 (if 0x3400000 ≤ line * 32 ∧ line * 32 < 0x3800000 then 2 else 3) ∧
    SameOff (AnyRow [UPD_STATE, NVS_BAD_SLOT]) s u ∧ u.part = s.part := by
  unfold State.nvsPersistent
  extract_lets off session i records logged
  have session_same : SameOff (AnyRow [UPD_STATE, NVS_BAD_SLOT]) s session ∧ session.part = s.part := by
    simp only [session]
    split
    · exact ⟨(SameOff.refl _ s).wr (AnyRow.key (by simp) _ (by decide)), rfl⟩
    · exact ⟨.refl _ s, rfl⟩
  by_cases update : off < 0x1000000
  · rw [if_pos update, if_neg (by omega)]
    exact ⟨session, rfl, session_same⟩
  by_cases log : off < 0x3000000
  · rw [if_neg update, if_pos log, if_neg (by omega)]
    exact ⟨logged, rfl, fun _ _ => rfl, rfl⟩
  by_cases archive : off < 0x3400000
  · rw [if_neg update, if_neg log, if_pos archive, if_neg (by omega)]
    exact ⟨_, rfl, (SameOff.refl _ s).wr (AnyRow.key (by simp) _ (by omega)), rfl⟩
  by_cases mirror : off < 0x3800000
  · rw [if_neg update, if_neg log, if_neg archive, if_pos mirror, if_pos ⟨by omega, mirror⟩]
    exact ⟨s, rfl, .refl _ s, rfl⟩
  · rw [if_neg update, if_neg log, if_neg archive, if_neg mirror, if_neg (by omega)]
    exact ⟨s, rfl, .refl _ s, rfl⟩

theorem nvs_exec (on : s.on 7 = true) (line : Nat) (area : LineArea) (p : Bool) : exec (.lineReadError .m line area p) s = .next (s.nvsError line p) :=
  congrArg Host.Outcome.next (if_pos on)

/-- A corrected error of the NVS is counted (R538). -/
theorem nvs_corrected (on : s.on 7 = true) (n : NoReset s 7 2) (line : Nat) (area : LineArea) :
    Runs (.lineReadError .m line area false) s (fun t => Counted s t 7 NVS_CNT_CORRECTED) := by
  refine ⟨_, (nvs_exec on line area false).trans (congrArg _ (if_neg (by simp))), ?_⟩
  have counted : Touches (AnyRow [NVS_CNT_CORRECTED]) s (s.bump 7 NVS_CNT_CORRECTED) := (Touches.refl _ s).wr (AnyRow.key (by simp) _ (by decide))
  have faults := State.raise_faults (s.bump 7 NVS_CNT_CORRECTED) 7 2 false
    (n.congr (counted.rd (not_anyRow (by decide) _ (by decide))) fun _ => counted.rd (not_anyRow (by decide) _ (by decide)))
  exact (faults.rd (by decide) _ (by decide)).trans (State.counted_bump (widthOf_mapRow (k := .m) (by decide +kernel) rfl (by decide)))

/-- A persistent error of the NVS is counted, and asserts its source (R538). -/
theorem nvs_persistent (on : s.on 7 = true) (n2 : NoReset s 7 2) (n3 : NoReset s 7 3) (line : Nat) (area : LineArea) :
    Runs (.lineReadError .m line area true) s (fun t => Counted s t 7 NVS_CNT_PERSIST ∧
      (line * 32 < 0x3400000 ∨ 0x3800000 ≤ line * 32 → Judged s 7 3 → bit (t.rd 7 FCL_ERR_STATUS) 3 = true)) := by
  obtain ⟨u, raises, same, part⟩ := nvsPersistent_raises (s.bump 7 NVS_CNT_PERSIST) line
  have handled : SameOff (AnyRow [NVS_CNT_PERSIST, UPD_STATE, NVS_BAD_SLOT]) s u :=
    ((SameOff.refl _ s).wr (AnyRow.key (by simp) _ (by decide))).trans (same.mono fun _ ⟨d, hd, e⟩ => ⟨d, List.mem_cons_of_mem _ hd, e⟩)
  have rd {d : PDesc} (off : offRows [NVS_CNT_PERSIST, UPD_STATE, NVS_BAD_SLOT] d = true) {i : Nat} (hi : i < 256) : u.rd 7 d i = s.rd 7 d i :=
    handled.rd (not_anyRow off _ hi)
  have kept {src : Nat} (hs : src < 256) (n : NoReset s 7 src) : NoReset u 7 src :=
    n.congr (rd (by decide) hs) fun _ => handled.rd (not_anyRow (by decide) _ (by decide))
  have faults := State.raise_faults u 7 (if 0x3400000 ≤ line * 32 ∧ line * 32 < 0x3800000 then 2 else 3) false (by
    split
    · exact kept (by decide) n2
    · exact kept (by decide) n3)
  refine ⟨_, (nvs_exec on line area true).trans (congrArg _ ((if_pos rfl).trans raises)), ?_, fun outside judged => ?_⟩
  · refine (faults.rd (by decide) _ (by decide)).trans ((same.rd (not_anyRow (by decide) _ (by decide))).trans ?_)
    exact State.counted_bump (widthOf_mapRow (k := .m) (by decide +kernel) rfl (by decide))
  · rw [if_neg (by omega)]
    exact State.raise_err (judged.congr part (rd (by decide) (ownerOf_lt _ _)) (rd (by decide) (by decide))) (kept (by decide) n3) (by decide)

end

/-! ### Gated blocks -/

section
variable {l : LaneId} {s : State} {block master : Nat}

/-- A transaction that a closing gate cuts off: counted, source 7 (R468). -/
theorem gateForce_runs (up : s.up l = true) (n : NoReset s l.reg 7) : (s.gated l.reg block = true → Runs (.gateForceClose l block master) s (fun t =>
      OnlyFaults (s.bump l.reg FAB_CNT_GATE_FORCE) t ∧ Counted s t l.reg FAB_CNT_GATE_FORCE ∧ (Judged s l.reg 7 → bit (t.rd l.reg FCL_ERR_STATUS) 7 = true))) ∧
    (s.gated l.reg block = false → Runs (.gateForceClose l block master) s (fun t => t = s)) := by
  constructor
  · intro gated
    have counted : Touches (AnyRow [FAB_CNT_GATE_FORCE]) s (s.bump l.reg FAB_CNT_GATE_FORCE) := (Touches.refl _ s).wr (AnyRow.key (by simp) _ (by decide))
    have rd {d : PDesc} (off : offRows [FAB_CNT_GATE_FORCE] d = true) (r : Nat) {i : Nat} (hi : i < 256) : (s.bump l.reg FAB_CNT_GATE_FORCE).rd r d i = s.rd r d i :=
      counted.rd (not_anyRow off r hi)
    have n' : NoReset (s.bump l.reg FAB_CNT_GATE_FORCE) l.reg 7 := n.congr (rd (by decide) _ (by decide)) fun _ => rd (by decide) _ (by decide)
    have faults := State.raise_faults _ l.reg 7 false n'
    refine ⟨_, congrArg Host.Outcome.next ((if_pos up).trans (if_pos gated)), faults, ?_, fun judged => ?_⟩
    · exact (faults.rd (by decide) _ (by decide)).trans (State.counted_bump (widthOf_mapRow (k := .lane) (by decide +kernel) (kindOf_reg l) (by decide)))
    · exact State.raise_err (judged.congr rfl (rd (by decide) _ (ownerOf_lt _ _)) (rd (by decide) _ (by decide))) n' (by cases l <;> decide)
  · intro clear
    exact ⟨_, congrArg Host.Outcome.next ((if_pos up).trans (if_neg (by simp [clear]))), rfl⟩

/-- A touch of a gated block is recorded and counted (R469). -/
theorem gatedTouch_runs {g : Region} (there : s.hasRegion g.code = true) : (s.gated g.code block = true → Runs (.gatedTouch g block master) s (fun t =>
      Writes s t [s.next g.code FAB_GATED_TOUCH, (FAB_LAST_TOUCH.key g.code 0, block % 256 + master % 16 * 256)])) ∧
    (s.gated g.code block = false → Runs (.gatedTouch g block master) s (fun t => t = s)) := by
  constructor
  · intro gated
    refine ⟨_, congrArg Host.Outcome.next (if_pos ⟨there, gated⟩), .of_puts ?_ ?_⟩
    · have apart : FAB_GATED_TOUCH.key g.code 0 ≠ FAB_LAST_TOUCH.key g.code 0 := PDesc.key_ne_of_row (by decide) (by decide) (by decide)
      simpa [State.next] using apart
    · rw [State.bump_eq]
      rfl
  · intro clear
    exact ⟨_, congrArg Host.Outcome.next (if_neg (by simp [clear])), rfl⟩

end
end Sys2Proof.Machine
end

section
/-! PROOFS. Fabric grants, locks, memory lines and gates: the obligation. -/

namespace Sys2Proof.Machine

open Par Var

/-! ### A request among many -/

section
variable {g : Region} {x : FabReq} {reqs : List FabReq} {s : State} {r : Nat}

/-- The requester to serve first: the lowest critical one, else one whose share is due, else the one of the highest priority (R448, R449). -/
def GrantedFirst (s : State) (r : Nat) (x : FabReq) (reqs : List FabReq) : Prop :=
  (s.rd r FAB_CLASS x.q = 0 ∧ ∀ y ∈ reqs, s.rd r FAB_CLASS y.q = 0 → x.q ≤ y.q) ∨ ((∀ y ∈ reqs, s.rd r FAB_CLASS y.q ≠ 0) ∧
    (((s.rd r FAB_CLASS x.q = 2 ∧ 15 ≤ s.rd r FAB_BG_WAIT x.q) ∧ ∀ y ∈ reqs, y.q ≠ x.q → s.rd r FAB_CLASS y.q = 2 ∧ 15 ≤ s.rd r FAB_BG_WAIT y.q →
        s.rd r FAB_PRIO x.q < s.rd r FAB_PRIO y.q) ∨
     ((∀ y ∈ reqs, ¬ (s.rd r FAB_CLASS y.q = 2 ∧ 15 ≤ s.rd r FAB_BG_WAIT y.q)) ∧ ∀ y ∈ reqs, y.q ≠ x.q → s.rd r FAB_PRIO x.q < s.rd r FAB_PRIO y.q)))

theorem arbitrate_first (hx : x ∈ reqs) (small : ∀ y ∈ reqs, y.q < requesters r ∧ s.rd r FAB_PRIO y.q < 16) (first : GrantedFirst s r x reqs) :
    ∃ share, s.fabArbitrate r (reqs.map FabReq.q) = some (x.q, share) := by
  obtain ⟨hn, prio⟩ := small x hx
  have hq : x.q ∈ reqs.map FabReq.q := List.mem_map_of_mem hx
  rcases first with ⟨critical, lowest⟩ | ⟨none, ⟨due, best⟩ | ⟨idle, best⟩⟩
  · exact ⟨_, arbitrate_critical hq hn critical (List.forall_mem_map.mpr lowest)⟩
  · exact ⟨_, arbitrate_due hq hn prio (List.forall_mem_map.mpr none) due (List.forall_mem_map.mpr best)⟩
  · exact ⟨_, arbitrate_prio (List.forall_mem_map.mpr none) (List.forall_mem_map.mpr idle) (byPrio_best hq hn prio (List.forall_mem_map.mpr best))⟩

/-- A request granted among many, with what the grant writes (R448 to R450). -/
theorem request_granted (there : s.hasRegion g.code = true) (hx : x ∈ reqs) (apart : (reqs.map FabReq.q).Nodup)
    (small : ∀ y ∈ reqs, y.q < requesters g.code ∧ s.rd g.code FAB_PRIO y.q < 16) (first : GrantedFirst s g.code x reqs) :
    Runs (.fabRequest g reqs none) s (fun t => t.rd g.code FAB_OWNER = x.q + 1 ∧ (x.xfer = [] → t = { s with params := t.params }) ∧
      (s.rd g.code FAB_PHASE ≠ 1 → Counted s t g.code FAB_CNT_GRANT x.q ∧
        t.rd g.code FAB_CNT_WAIT x.q = min (2 ^ FAB_CNT_WAIT.width - 1) (s.rd g.code FAB_CNT_WAIT x.q + x.waited)) ∧
      (s.rd g.code FAB_PHASE = 1 → t.rd g.code FAB_CNT_GRANT x.q = s.rd g.code FAB_CNT_GRANT x.q) ∧
      (s.rd g.code FAB_CLASS x.q = 1 → ∀ y ∈ reqs, s.rd g.code FAB_CLASS y.q = 2 → t.rd g.code FAB_BG_WAIT y.q = min 255 (s.rd g.code FAB_BG_WAIT y.q + 1)) ∧
      (s.rd g.code FAB_CLASS x.q = 2 → ∀ y ∈ reqs, t.rd g.code FAB_BG_WAIT y.q = 0)) := by
  obtain ⟨share, granted⟩ := arbitrate_first hx small first
  exact ⟨_, fabRequest_eq there (fun y hy => (small y hy).1) granted, grant_leaves there hx apart small share rfl⟩

/-- The arbiter's counters cleared, or left (R450). -/
theorem fabCntClear_runs (there : s.hasRegion g.code = true) : Runs (.fabCntClear g false) s (fun t => t = s) ∧
    Runs (.fabCntClear g true) s (fun t => t.rd g.code FAB_CNT_BG_FORCED = 0 ∧ (∀ q, q < 16 → ∀ d ∈ arbiterCounters, t.rd g.code d q = 0) ∧
      SameBut s t (FAB_CNT_BG_FORCED.key g.code 0 :: (List.range 16).flatMap (fun q => arbiterCounters.map (fun d => d.key g.code q)))) :=
  ⟨⟨_, congrArg Host.Outcome.next (if_neg (by simp)), rfl⟩, ⟨_, fabCntClear_eq there, fabCntClear_leaves s g.code rfl⟩⟩

end

/-! ### A repair request answered -/

section
variable {l x : LaneId} {s : State} {line period : Nat}

/-- What a voting lane answers to a repair request (R286, R465). -/
theorem request_runs (up : s.up l = true) (votes : s.voting l l = true) (other : x ≠ l) (period : Nat) (ok : Bool) :
    let answers (data : Option (List Byte)) : Prop := Runs (.repairRequestReceive l x line period ok) s (fun t =>
      Writes s t [] [.repairAnswer l x line data])
    (ok = false → answers none) ∧ (s.tblLine l line = none → answers (if ok then s.readLine l line else none)) ∧
    ∀ first, s.tblLine l line = some first → ok = true →
      (s.rd l.reg CEN_GRP < period → Runs (.repairRequestReceive l x line period ok) s (fun t => t = s.modLane l (fun y =>
        { y with repairs := y.repairs ++ [(x, line, period)] }))) ∧
      (period ≤ s.rd l.reg CEN_GRP → line ∈ (s.lane l).poisoned → answers none) ∧
      (period ≤ s.rd l.reg CEN_GRP → line ∉ (s.lane l).poisoned →
        (period = s.rd l.reg CEN_GRP → answers (some (s.tblBytes l first))) ∧
        (s.rd l.reg CEN_GRP_PREV ≤ period → period < s.rd l.reg CEN_GRP → answers (some (s.tblBefore l first))) ∧
        (period < s.rd l.reg CEN_GRP_PREV → period < s.rd l.reg CEN_GRP → answers none)) := by
  intro answers
  refine ⟨?_, fun plain => ?_, ?_⟩
  · rintro rfl
    obtain ⟨now, answer⟩ := repairData_refused (l := l) (s := s) (line := line) period
    exact request_answered up votes other now answer
  · obtain ⟨now, answer⟩ := repairData_plain plain period ok
    exact request_answered up votes other now answer
  · rintro first table rfl
    refine ⟨request_waits up votes other table, fun ran poisoned => ?_, fun ran clean => ?_⟩
    · obtain ⟨now, answer⟩ := repairData_table table ran
      exact request_answered up votes other now (answer.trans (if_pos poisoned))
    · obtain ⟨now, answer⟩ := repairData_table table ran
      have then' {data : Option (List Byte)} (h : s.tblThen l first period = data) : answers data :=
        request_answered up votes other now (answer.trans ((if_neg clean).trans h))
      exact ⟨fun latest => then' (tblThen_latest l first latest), fun kept past => then' (tblThen_before l first past kept),
        fun older past => then' (tblThen_older l first past older)⟩

end

/-! ### The obligation -/

/-- Settles O53, clause by clause: the arbiter, the burst of a lane die, the locks of the shared dies, the memory lines and the gates. -/
theorem fabric : Obligations.Fabric := by
  unfold Obligations.Fabric
  refine ⟨?_, ?_, ?_, ?_, ?_, ?_, ?_, ?_, ?_, ?_⟩
  · rintro g q x reqs s there hx rfl apart small r cls due first
    exact request_granted there hx apart small first
  · intro g x y s there hx hy apart classX prio
    exact ⟨request_turn there hx hy apart classX prio, request_withdrawn there hx prio⟩
  · intro l x line s there hn prio
    exact ⟨request_read there hn prio, fun data full write => request_write there hn prio full write,
      fun off data write part inside => request_part there hn prio write part inside, readLine_none⟩
  · exact fun g s there => fabCntClear_runs there
  · intro d u tag epoch l s on hu r st owner said fence took
    refine ⟨?_, fun passes => ⟨hold_free tag on hu passes, hold_broken tag on hu passes, lock_locked tag on hu passes, hold_release tag on hu passes,
      rollback_own tag on hu passes⟩⟩
    rintro rfl
    exact lock_fenced tag on hu
  · intro d u epoch l s on hu
    obtain ⟨held, idle⟩ := lockIdle_runs on hu
    obtain ⟨beat, silent⟩ := epochStatus_sent (l := l) (epoch := epoch) on
    exact ⟨held, idle, epochStatus_runs on hu, beat, silent⟩
  · intro l line area s up low record reads
    refine ⟨fun n c h => read_transient up low n h, ?_, ?_, ?_, ?_, fun awaited n4 n6 data => ⟨fun ok good => repair_stored up low awaited n4 data good,
      repair_unstored up low awaited n6 data, repair_refused up low awaited n6⟩, repair_unasked up, fun ms => scrub_clean up area ms,
      fun x period ok other votes => request_runs up votes other period ok⟩
    · rintro rfl fresh p rest peers c h
      exact read_mirrored up fresh peers h
    · rintro rfl clean n c h
      exact read_owned up low clean n h
    · rintro rfl n c h
      exact read_lost up low n h
    · rintro rfl out c h
      exact read_out up out h
  · exact fun line area s on n2 n3 => ⟨nvs_corrected on n2 line area, nvs_persistent on n2 n3 line area⟩
  · exact fun l block master s up n => gateForce_runs up n
  · exact fun g block master s there => gatedTouch_runs there

end Sys2Proof.Machine
end

section
/-! PROOFS. Fields of bytes read back from what wrote them, and the bytes of a waybill. -/

namespace Sys2Proof

/-! ### Little-endian fields read back -/

@[simp] theorem length_toLe (n v : Nat) : (toLe n v).length = n := by
  induction n generalizing v with
  | zero => rfl
  | succ n ih => simp [toLe, ih]

theorem ofLe_take_toLe {n m : Nat} (h : n ≤ m) (v : Nat) : ofLe ((toLe m v).take n) = v % 256 ^ n := by
  induction n generalizing m v with
  | zero => simp [ofLe, Nat.mod_one]
  | succ n ih =>
    obtain ⟨m, rfl⟩ : ∃ k, m = k + 1 := ⟨m - 1, by omega⟩
    simp only [toLe, List.take_succ_cons, ofLe, ih (by omega : n ≤ m), byte, BitVec.toNat_ofNat]
    exact (Nat.pow_succ' ▸ Nat.mod_mul).symm

@[simp] theorem ofLe_toLe (n v : Nat) : ofLe (toLe n v) = v % 256 ^ n := by
  simpa [List.take_of_length_le] using ofLe_take_toLe (le_refl n) v

theorem drop_toLe {o m : Nat} (v : Nat) (h : o ≤ m) : (toLe m v).drop o = toLe (m - o) (v / 256 ^ o) := by
  induction o generalizing m v with
  | zero => simp
  | succ o ih =>
    obtain ⟨m, rfl⟩ : ∃ k, m = k + 1 := ⟨m - 1, by omega⟩
    rw [toLe, List.drop_succ_cons, ih _ (by omega), Nat.div_div_eq_div_mul, Nat.pow_succ, Nat.mul_comm 256, Nat.add_sub_add_right]

/-- A field inside a longer one holds its digits to base 256. -/
@[simp] theorem fieldLe_toLe {m o n : Nat} (v : Nat) (h : o + n ≤ m) : fieldLe (toLe m v) o n = v / 256 ^ o % 256 ^ n := by
  rw [fieldLe, drop_toLe v (by omega), ofLe_take_toLe (by omega)]

/-- A field that ends within the first of two parts. -/
theorem fieldLe_append_left {a b : List Byte} {o n : Nat} (h : o + n ≤ a.length) : fieldLe (a ++ b) o n = fieldLe a o n := by
  rw [fieldLe, fieldLe, List.drop_append_of_le_length (by omega), List.take_append_of_le_length (by simp only [List.length_drop]; omega)]

/-- A field that begins after the first of two parts. -/
theorem fieldLe_append_right {a b : List Byte} {o n : Nat} (h : a.length ≤ o) : fieldLe (a ++ b) o n = fieldLe b (o - a.length) n := by
  rw [fieldLe, fieldLe, List.drop_append, List.drop_eq_nil_of_le h, List.nil_append]

@[simp] theorem fieldLe_toLe_append {m o n : Nat} (v : Nat) (r : List Byte) (h : o + n ≤ m) :
    fieldLe (toLe m v ++ r) o n = v / 256 ^ o % 256 ^ n := by
  rw [fieldLe_append_left (by simpa using h), fieldLe_toLe v h]

@[simp] theorem fieldLe_after_toLe {m o n : Nat} (v : Nat) (r : List Byte) (h : m ≤ o) :
    fieldLe (toLe m v ++ r) o n = fieldLe r (o - m) n := by
  rw [fieldLe_append_right (by simpa using h), length_toLe]

@[simp] theorem drop_after_toLe {m o : Nat} (v : Nat) (r : List Byte) (h : m ≤ o) : (toLe m v ++ r).drop o = r.drop (o - m) := by
  rw [List.drop_append, List.drop_eq_nil_of_le (by simpa using h), length_toLe, List.nil_append]

/-! ### Waybills -/

section
variable {w : Waybill}

/-- What the well-formedness of a waybill says, field by field (R35). -/
theorem Waybill.ok_iff : w.ok = true ↔ w.version < 256 ∧ w.flags < 256 ∧ w.opcode < 65536 ∧ w.seq < 65536 ∧ w.consist < 65536 ∧
    w.target < 65536 ∧ w.plen = w.params.length ∧ w.params.length ≤ 1024 ∧ w.commit < 2 ^ 32 ∧ w.crc < 2 ^ 32 := by
  simp [Waybill.ok, and_assoc]

@[simp] theorem Waybill.length_header (w : Waybill) : w.header.length = 16 := by simp [Waybill.header]

theorem Waybill.length_encode (ok : w.ok = true) : w.encode.length = 20 + w.plen := by
  obtain ⟨-, -, -, -, -, -, len, -⟩ := Waybill.ok_iff.mp ok
  simp only [Waybill.encode, List.length_append, Waybill.length_header, length_toLe, len]
  omega

/-- The length field of a waybill, whatever follows its header (R35). -/
theorem Waybill.fieldLe_plen (ok : w.ok = true) (r : List Byte) : fieldLe (w.encode ++ r) 10 2 = w.plen := by
  obtain ⟨-, -, -, -, -, -, len, short, -⟩ := Waybill.ok_iff.mp ok
  simp only [Waybill.encode, Waybill.header, List.append_assoc]
  simp
  omega

/-- The bytes of a waybill give its fields back (R35). -/
theorem Waybill.parse_encode (ok : w.ok = true) : Waybill.parse w.encode = w := by
  obtain ⟨version, flags, opcode, seq, consist, target, len, short, commit, crc⟩ := Waybill.ok_iff.mp ok
  have plen : fieldLe w.encode 10 2 = w.plen := by simpa using Waybill.fieldLe_plen ok []
  have body : w.encode.drop 16 = w.params ++ toLe 4 w.crc := by
    rw [Waybill.encode, List.append_assoc, List.drop_left' (by simp)]
  have check : fieldLe w.encode (16 + w.plen) 4 = w.crc := by
    rw [Waybill.encode, fieldLe_append_right (by simp [len])]
    simpa [len] using crc
  rw [Waybill.parse, plen, body, check, len, List.take_left]
  simp only [Waybill.encode, Waybill.header, List.append_assoc, byteAt]
  cases w
  simp_all [Nat.mod_eq_of_lt]

/-- The check a waybill must carry is over its bytes but the last four (R37). -/
theorem Waybill.crcOf_eq (ok : w.ok = true) : w.crcOf = crc32c (w.encode.take (16 + w.plen)) := by
  obtain ⟨-, -, -, -, -, -, len, -⟩ := Waybill.ok_iff.mp ok
  rw [Waybill.crcOf, Waybill.encode, List.take_left' (by simp [len])]

end

/-- Settles O9: every field of a waybill reads back from its place, and the parameters from the length given. -/
theorem waybillBytesParseBack : Obligations.WaybillBytesParseBack := by
  intro w ok
  rw [Waybill.parse_encode ok]
  exact ⟨rfl, Waybill.length_encode ok, Waybill.crcOf_eq ok⟩

end Sys2Proof
end

section
/-! PROOFS. Operations read back from their opcode and parameters. -/

namespace Sys2Proof

open Machine

/-! ### Signed fields -/

theorem sgn_twos {w : Nat} {i : Int} (low : -(2 ^ (w - 1) : Nat) ≤ i) (high : i < (2 ^ (w - 1) : Nat)) (pos : 0 < w) :
    sgn w (twos w i) = i := by
  obtain ⟨w, rfl⟩ : ∃ k, w = k + 1 := ⟨w - 1, by omega⟩
  simp only [sgn, twos, Nat.add_sub_cancel, Nat.pow_succ] at *
  generalize 2 ^ w = p at *
  have pos : 0 < p * 2 := by omega
  have small : (i % (p * 2 : Nat)).toNat < p * 2 := by
    have := Int.emod_lt_of_pos i (show (0 : Int) < (p * 2 : Nat) by omega)
    omega
  rw [Nat.mod_eq_of_lt small]
  rcases lt_or_ge i 0 with neg | nonneg
  · have e : i % (p * 2 : Nat) = i + (p * 2 : Nat) := by
      rw [← Int.add_emod_right, Int.emod_eq_of_lt (by omega) (by omega)]
    split <;> omega
  · have e : i % (p * 2 : Nat) = i := Int.emod_eq_of_lt nonneg (by omega)
    split <;> omega

theorem twos_lt (w : Nat) (i : Int) : twos w i < 2 ^ w := by
  have pos := Nat.two_pow_pos w
  have := Int.emod_lt_of_pos i (show (0 : Int) < (2 ^ w : Nat) by omega)
  simp only [twos]
  omega

/-! ### The lists that parameters carry -/

theorem readIds_flatMap {ids : List Nat} (ok : ∀ x ∈ ids, x < 2 ^ 32) : readIds ids.length (ids.flatMap (toLe 4)) = ids := by
  induction ids with
  | nil => rfl
  | cons x ids ih =>
    obtain ⟨hx, ok⟩ := List.forall_mem_cons.mp ok
    rw [List.length_cons, readIds, List.flatMap_cons, List.take_left' (length_toLe 4 x), List.drop_left' (length_toLe 4 x), ih ok, ofLe_toLe,
      Nat.mod_eq_of_lt (show x < 256 ^ 4 from hx)]

theorem length_pad4 (l : List Byte) : (pad4 l).length = (l.length + 3) / 4 * 4 := by
  simp only [pad4, List.length_append, List.length_replicate]
  omega

@[simp] theorem Item.length_encode (i : Item) : i.encode.length = 8 + (i.len + 3) / 4 * 4 := by
  simp only [Item.encode, List.length_append, length_toLe, length_pad4]

/-- The items of a SET read back from their bytes (R63). -/
theorem readItems_flatMap {is : List Item} (ok : ∀ i ∈ is, i.ok = true) : readItems is.length (is.flatMap Item.encode) = some is := by
  induction is with
  | nil => rfl
  | cons i is ih =>
    obtain ⟨hi, ok⟩ := List.forall_mem_cons.mp ok
    simp only [Item.ok, Bool.and_eq_true, decide_eq_true_eq, and_assoc] at hi
    obtain ⟨id, len, val⟩ := hi
    have idBack (r : List Byte) : fieldLe (i.encode ++ r) 0 4 = i.id := by
      simpa [Item.encode] using Nat.mod_eq_of_lt id
    have lenBack (r : List Byte) : fieldLe (i.encode ++ r) 4 2 = i.len := by
      simpa [Item.encode] using Nat.mod_eq_of_lt len
    have value (r : List Byte) : ((i.encode ++ r).drop 8).take i.len = toLe i.len i.val := by
      simp only [Item.encode, pad4, List.append_assoc]
      simp [List.take_left']
    rw [List.length_cons, readItems, List.flatMap_cons]
    simp only [idBack, lenBack, value, ofLe_toLe, Nat.mod_eq_of_lt val]
    rw [if_neg (by simp only [List.length_append, Item.length_encode]; omega), List.drop_left' (Item.length_encode i), ih ok]
    rfl

@[simp] theorem Machine.TableEntry.length_encode (e : TableEntry) : (TableEntry.encode e).length = 24 := by
  simp [TableEntry.encode]

/-- The entries of a compare table read back from their bytes (R317). -/
theorem readEntries_flatMap {es : List TableEntry} (ok : ∀ e ∈ es, e.ok = true) :
    readEntries es.length (es.flatMap TableEntry.encode) = es := by
  induction es with
  | nil => rfl
  | cons e es ih =>
    obtain ⟨he, ok⟩ := List.forall_mem_cons.mp ok
    simp only [TableEntry.ok, Bool.and_eq_true, decide_eq_true_eq, and_assoc] at he
    obtain ⟨low, high, flags, tag, setM, clrM⟩ := he
    have posBack : sgn 48 (twos 48 e.pos) = e.pos := sgn_twos (by simpa using low) (by simpa using high) (by decide)
    have small := twos_lt 48 e.pos
    rw [List.length_cons, readEntries, List.flatMap_cons, List.drop_left' (TableEntry.length_encode e), ih ok]
    simp only [TableEntry.encode, List.append_assoc, byteAt]
    simp only [Nat.reducePow] at setM clrM small
    simp [Nat.mod_eq_of_lt small, Nat.mod_eq_of_lt flags, Nat.mod_eq_of_lt tag, Nat.mod_eq_of_lt setM, Nat.mod_eq_of_lt clrM, posBack]

/-- The waybills of a standing order read back from their bytes (R444). -/
theorem readWaybills_flatMap {ws : List Waybill} (ok : ∀ w ∈ ws, w.ok = true) :
    readWaybills ws.length (ws.flatMap Waybill.encode) = some ws := by
  induction ws with
  | nil => rfl
  | cons w ws ih =>
    obtain ⟨hw, ok⟩ := List.forall_mem_cons.mp ok
    have len := Waybill.length_encode hw
    rw [List.length_cons, readWaybills, List.flatMap_cons]
    simp only [Waybill.fieldLe_plen hw]
    rw [if_neg (by simp only [List.length_append, len]; omega), List.drop_left' len, List.take_left' len, ih ok, Waybill.parse_encode hw]
    rfl

/-! ### Operations with lists or data -/

section
variable {n : Nat} {d : List Byte} {is : List Item} {es : List TableEntry}

theorem parseOp_get {ids : List Nat} (ok : (Op.get ids).ok = true) : parseOp 0x0101 (opBytes (.get ids)) = .ok (.get ids) := by
  simp only [Op.ok, Bool.and_eq_true, decide_eq_true_eq, List.all_eq_true, and_assoc] at ok
  obtain ⟨-, few, small⟩ := ok
  have count : ids.length % 65536 = ids.length := Nat.mod_eq_of_lt (by omega)
  simp [parseOp, fixedLen, opBytes, count, readIds_flatMap small]
  omega

/-- The items of a SET or a SET_STAGED behind their count (R63). -/
theorem readItems_counted (few : is.length ≤ 64) (each : ∀ i ∈ is, i.ok = true) :
    let p := toLe 2 is.length ++ toLe 2 0 ++ is.flatMap Item.encode
    4 ≤ p.length ∧ readItems (fieldLe p 0 2) (p.drop 4) = some is := by
  have count : is.length % 65536 = is.length := Nat.mod_eq_of_lt (by omega)
  constructor
  · simp only [List.length_append, length_toLe]
    omega
  · simp [count, readItems_flatMap each]

theorem parseOp_set (ok : (Op.set is).ok = true) : parseOp 0x0102 (opBytes (.set is)) = .ok (.set is) := by
  simp only [Op.ok, Bool.and_eq_true, decide_eq_true_eq, List.all_eq_true, and_assoc] at ok
  obtain ⟨-, few, each⟩ := ok
  obtain ⟨long, items⟩ := readItems_counted few each
  simp only [parseOp, fixedLen, opBytes, if_neg (not_lt.mpr long), items]

theorem parseOp_setStaged (ok : (Op.setStaged is).ok = true) : parseOp 0x0103 (opBytes (.setStaged is)) = .ok (.setStaged is) := by
  simp only [Op.ok, Bool.and_eq_true, decide_eq_true_eq, List.all_eq_true, and_assoc] at ok
  obtain ⟨-, few, each⟩ := ok
  obtain ⟨long, items⟩ := readItems_counted few each
  simp only [parseOp, fixedLen, opBytes, if_neg (not_lt.mpr long), items]

theorem parseOp_tableLoad (ok : (Op.tableLoad n es).ok = true) : parseOp 0x0301 (opBytes (.tableLoad n es)) = .ok (.tableLoad n es) := by
  simp only [Op.ok, Bool.and_eq_true, decide_eq_true_eq, List.all_eq_true, and_assoc, Nat.reducePow] at ok
  obtain ⟨base, few, each⟩ := ok
  have count : es.length % 65536 = es.length := Nat.mod_eq_of_lt (by omega)
  simp [parseOp, fixedLen, opBytes, count, Nat.mod_eq_of_lt base, readEntries_flatMap each]
  omega

theorem parseOp_tableAppend (ok : (Op.tableAppend n es).ok = true) :
    parseOp 0x0302 (opBytes (.tableAppend n es)) = .ok (.tableAppend n es) := by
  simp only [Op.ok, Bool.and_eq_true, decide_eq_true_eq, List.all_eq_true, and_assoc, Nat.reducePow] at ok
  obtain ⟨base, few, each⟩ := ok
  have count : es.length % 65536 = es.length := Nat.mod_eq_of_lt (by omega)
  simp [parseOp, fixedLen, opBytes, count, Nat.mod_eq_of_lt base, readEntries_flatMap each]
  omega

theorem parseOp_updateChunk (ok : (Op.updateChunk n d).ok = true) :
    parseOp 0x0903 (opBytes (.updateChunk n d)) = .ok (.updateChunk n d) := by
  simp only [Op.ok, Bool.and_eq_true, decide_eq_true_eq, and_assoc, Nat.reducePow] at ok
  obtain ⟨off, some', few⟩ := ok
  simp [parseOp, fixedLen, opBytes, Nat.mod_eq_of_lt off]
  omega

theorem parseOp_lifecycleChunk (ok : (Op.lifecycleChunk n d).ok = true) :
    parseOp 0x0906 (opBytes (.lifecycleChunk n d)) = .ok (.lifecycleChunk n d) := by
  simp only [Op.ok, Bool.and_eq_true, decide_eq_true_eq, and_assoc, Nat.reducePow] at ok
  obtain ⟨off, some', few⟩ := ok
  simp [parseOp, fixedLen, opBytes, byteAt, Nat.mod_eq_of_lt off]
  omega

theorem parseOp_attest {part : Nat} {nonce : Option (List Byte)} (ok : (Op.attest part nonce).ok = true) :
    parseOp 0x0905 (opBytes (.attest part nonce)) = .ok (.attest part nonce) := by
  cases nonce with
  | none =>
    simp only [Op.ok, Bool.and_true, decide_eq_true_eq] at ok
    have high : part / 256 = 0 := by omega
    simp [parseOp, fixedLen, opBytes, byteAt, bit, high, ok]
  | some x =>
    simp only [Op.ok, Bool.and_eq_true, decide_eq_true_eq] at ok
    obtain ⟨small, full⟩ := ok
    simp [parseOp, fixedLen, opBytes, byteAt, bit, small, full]

theorem parseOp_orderLoad {o a : Nat} {t : OrderTrigger} {ws : List Waybill} (ok : (Op.orderLoad o a t ws).ok = true) :
    parseOp 0x0A01 (opBytes (.orderLoad o a t ws)) = .ok (.orderLoad o a t ws) := by
  simp only [Op.ok, OrderTrigger.ok, Bool.and_eq_true, decide_eq_true_eq, List.all_eq_true, and_assoc, Nat.reducePow] at ok
  obtain ⟨order, action, kind, flags, argA, argB, few, each⟩ := ok
  have count : ws.length % 256 = ws.length := Nat.mod_eq_of_lt (by omega)
  simp only [parseOp, fixedLen, opBytes, byteAt, List.append_assoc]
  rw [if_neg (by simp only [List.length_append, length_toLe]; omega)]
  simp [count, readWaybills_flatMap each, Nat.mod_eq_of_lt (show a < 256 by omega), order, kind, flags, argA, argB, Nat.mod_eq_of_lt]

/-- A kind of SELFTEST_RUN or of the lifecycle that the manual does not list stays in the operation (R39). -/
theorem parseOp_otherKind {oc k : Nat} (ok : (Op.otherKind oc k).ok = true) :
    parseOp oc (opBytes (.otherKind oc k)) = .ok (.otherKind oc k) := by
  simp only [Op.ok, Bool.and_eq_true, Bool.or_eq_true, decide_eq_true_eq, beq_iff_eq, bne_iff_ne, and_assoc] at ok
  obtain ⟨small, ⟨rfl, no1, no2⟩ | ⟨rfl, high⟩⟩ := ok
  · simp [parseOp, fixedLen, opBytes, byteAt, Nat.mod_eq_of_lt small, no1, no2]
  · obtain ⟨k, rfl⟩ : ∃ j, k = j + 3 := ⟨k - 3, by omega⟩
    simp [parseOp, fixedLen, opBytes, byteAt, Nat.mod_eq_of_lt small]

end

/-! ### Every operation -/

/-- Settles O10: the parameters of each operation hold its operands at their places. -/
theorem operationsParseBack : Obligations.OperationsParseBack := by
  intro op ok
  cases op
  case get => exact parseOp_get ok
  case set => exact parseOp_set ok
  case setStaged => exact parseOp_setStaged ok
  case tableLoad => exact parseOp_tableLoad ok
  case tableAppend => exact parseOp_tableAppend ok
  case updateChunk => exact parseOp_updateChunk ok
  case lifecycleChunk => exact parseOp_lifecycleChunk ok
  case attest => exact parseOp_attest ok
  case orderLoad => exact parseOp_orderLoad ok
  case otherKind => exact parseOp_otherKind ok
  case steerTarget a =>
    simp only [Op.ok, Bool.and_eq_true, decide_eq_true_eq] at ok
    have back : sgn 32 (twos 32 a) = a := sgn_twos (by simpa using ok.1) (by simpa using ok.2) (by decide)
    have small := twos_lt 32 a
    simp only [Nat.reducePow] at small
    simp [parseOp, fixedLen, opcodeOf, opBytes, Nat.mod_eq_of_lt small, back]
  case traceStream on => cases on <;> rfl
  -- the others lie in a layout of fixed length
  all_goals simp [parseOp, fixedLen, opcodeOf, opBytes, byteAt, Op.ok] at ok ⊢
  all_goals omega

end Sys2Proof
end

section
/-! PROOFS. What a host port does while it answers, and the SPI slave. -/

namespace Sys2Proof.Machine

open Par Var

/-! ### Commands of the host ports -/

section
variable {s t u : State} {l : LaneId} {c : Instr} {f : State → State} {P : State → Prop}

/-- What a command of the host ports does while they answer. -/
theorem Runs.ofHost (e : exec c s = .next (u.whenHost l f)) (up : u.hostUp l = true) (p : P (f u)) : Runs c s P :=
  ⟨_, e.trans (by rw [State.whenHost_on up]), p⟩

/-- A command of the host ports that does nothing where they answer does nothing anywhere. -/
theorem Runs.hostIdle (e : exec c s = .next (u.whenHost l f)) (idle : f u = u) : Runs c s (fun t => t = u) :=
  ⟨_, e, by unfold State.whenHost; rw [idle]; exact ite_self _⟩

theorem SameOtherLanes.refl (s : State) (l : LaneId) : SameOtherLanes s s l := fun _ _ => rfl

theorem SameOtherLanes.modLane (h : SameOtherLanes s t l) (g : Lane → Lane) : SameOtherLanes s (t.modLane l g) l :=
  fun x hx => (State.lane_modLane_ne t g hx).trans (h x hx)

theorem SameOtherLanes.wr (h : SameOtherLanes s t l) {r : Nat} {d : PDesc} {i v : Nat} : SameOtherLanes s (t.wr r d i v) l :=
  fun x hx => (State.wr_lane t r d i v x).trans (h x hx)

/-- A counter of the lane die raised where no parameter had changed before. -/
theorem State.counted_after {v : State} (params : v.params = s.params) (l : LaneId) {d : PDesc} (h : mapRow .lane d = true) {i : Nat}
    (hi : i < 256 * d.span) : SamePlaces s (v.bump l.reg d i) [d.key l.reg i] ∧ Counted s (v.bump l.reg d i) l.reg d i := by
  have counted : Counted v (v.bump l.reg d i) l.reg d i := State.counted_bump (widthOf_mapRow h (kindOf_reg l) hi)
  refine ⟨fun k hk => ?_, ?_⟩
  · rw [← params]
    exact State.samePlaces_wr v l.reg d i _ k hk
  · simpa [Counted, State.rd, params] using counted

theorem State.bump_lane (s : State) (r : Nat) (d : PDesc) (i : Nat) (x : LaneId) : (s.bump r d i).lane x = s.lane x := State.wr_lane ..

theorem State.bump_sent (s : State) (r : Nat) (d : PDesc) (i : Nat) : (s.bump r d i).sent = s.sent := rfl

end

/-! ### The SPI slave -/

section
variable {s : State} {l : LaneId}

theorem State.spiOut_eq (s : State) (l : LaneId) (out : List Byte) :
    s.spiOut l out = { s with sent := s.sent ++ [.spi l (byte (s.spiByte l) :: out)] } := rfl

@[simp] theorem State.spiOut_lane (s : State) (l : LaneId) (out : List Byte) (x : LaneId) : (s.spiOut l out).lane x = s.lane x := by
  cases x <;> rfl

@[simp] theorem State.spiOn_atTime (s : State) (t : Nat) (l : LaneId) : (s.atTime t).spiOn l = s.spiOn l := rfl

@[simp] theorem State.spiByte_atTime (s : State) (t : Nat) (l : LaneId) : (s.atTime t).spiByte l = s.spiByte l := by cases l <;> rfl

@[simp] theorem State.rxSpace_atTime (s : State) (t : Nat) (l : LaneId) : (s.atTime t).rxSpace l = s.rxSpace l := by cases l <;> rfl

/-- SPI_STATUS and SPI_CLEAR (R66). -/
theorem spiStatus_runs (up : s.hostUp l = true) (on : s.spiOn l = true) :
    Runs (.spiStatus l) s (fun t => t = { s with sent := s.sent ++ [.spi l [byte (s.spiByte l)]] }) :=
  .ofHost rfl up (if_pos on)

theorem spiClear_runs (up : s.hostUp l = true) (on : s.spiOn l = true) :
    Runs (.spiClear l) s (fun t => t = ({ s with sent := s.sent ++ [.spi l [byte (s.spiByte l)]] } : State).modHst l
      (fun x => { x with overrun := false })) :=
  .ofHost rfl up (if_pos on)

/-- A WRITE with no space left is discarded, with OVERRUN set and counted (R67). -/
theorem spiWrite_overrun (up : s.hostUp l = true) (on : s.spiOn l = true) (full : s.rxSpace l = false) (raw : List Byte) (t0 : Nat) :
    Runs (.spiWrite l raw t0) s (fun t => (t.lane l).hst = { (s.lane l).hst with overrun := true } ∧
      t.sent = s.sent ++ [.spi l [byte (s.spiByte l)]] ∧ SamePlaces s t [HST_CNT_SPI_OVR.key l.reg 0] ∧ SameOtherLanes s t l ∧
      Counted s t l.reg HST_CNT_SPI_OVR) := by
  refine .ofHost rfl (u := s.atTime t0) up ?_
  simp only [State.spiOn_atTime, on, State.rxSpace_atTime, full, Bool.not_true, Bool.false_eq_true, if_false]
  have lanes : SameOtherLanes s ((s.atTime t0).spiOut l []) l := fun x _ => by simp
  obtain ⟨same, counted⟩ := State.counted_after (s := s) (v := ((s.atTime t0).spiOut l []).modHst l (fun x => { x with overrun := true }))
    (by simp [State.spiOut_eq]) l (d := HST_CNT_SPI_OVR) (by decide +kernel) (i := 0) (by decide)
  exact ⟨by simp [State.bump_lane], by simp [State.bump_sent, State.spiOut_eq], same, (lanes.modLane _).wr, counted⟩

/-- A WRITE with space is taken to the engine (R47, R67). -/
theorem spiWrite_taken (up : s.hostUp l = true) (on : s.spiOn l = true) (space : s.rxSpace l = true) (empty : (s.lane l).wbe.inq = [])
    (raw : List Byte) (t0 : Nat) {u : State} (hu : u = { s.atTime t0 with sent := s.sent ++ [.spi l [byte (s.spiByte l)]] }) :
    ((s.lane l).wbe.busy ≤ t0 → Runs (.spiWrite l raw t0) s (fun t =>
      t = (u.modWbe l (fun w => { w with busy := t0 + 5000 })).process l ⟨.spi, (s.lane l).hst.gen, raw⟩ t0)) ∧
    (t0 < (s.lane l).wbe.busy → Runs (.spiWrite l raw t0) s (fun t =>
      t = u.modWbe l (fun w => { w with inq := [⟨t0, ⟨.spi, (s.lane l).hst.gen, raw⟩⟩] }))) := by
  have out : (s.atTime t0).spiOut l [] = u := by rw [hu, State.spiOut_eq, State.spiByte_atTime]; rfl
  have same : u.lane l = s.lane l := by rw [hu]; cases l <;> rfl
  have enabled : u.portOn l .spi = true := by rw [hu]; exact on
  constructor <;> intro time <;> refine .ofHost rfl (u := s.atTime t0) up ?_ <;>
    simp only [State.spiOn_atTime, on, State.rxSpace_atTime, space, Bool.not_true, Bool.false_eq_true, if_false, if_true, out, State.atTime_lane]
  · exact State.receive_idle enabled (by rw [same, empty]) (by rwa [same])
  · exact State.receive_busy enabled (by rw [same, empty]) (by rwa [same])

/-- A READ shifts out the oldest reply, and removes it once all of its bytes are out (R67). -/
theorem spiRead_reply (up : s.hostUp l = true) (on : s.spiOn l = true) {r : Reply} {rest : List Reply}
    (held : (s.lane l).hst.spiReplies = r :: rest) (count : Nat) :
    Runs (.spiRead l count) s (fun t =>
      t.sent = s.sent ++ [.spi l (byte (s.spiByte l) :: padTo count r.encode)] ∧ t.params = s.params ∧ SameOtherLanes s t l ∧
      (t.lane l).hst.spiReplies = (if count ≥ r.encode.length then rest else r :: rest) ∧
      s.satnLow l = s.on l.reg ∧ (rest = [] → (s.lane l).wbe.kept = [] → r.encode.length ≤ count → t.satnLow l = false)) := by
  have low : s.satnLow l = s.on l.reg := by simp [State.satnLow, on, held]
  have others (out : List Byte) : SameOtherLanes s (s.spiOut l out) l := fun x _ => by simp
  refine .ofHost rfl up ?_
  simp only [on, Bool.not_true, Bool.false_eq_true, if_false, held]
  by_cases whole : count ≥ r.encode.length
  · simp only [if_pos whole]
    refine ⟨by simp [State.spiOut_eq], by simp [State.spiOut_eq], (others _).modLane _, by simp, low, ?_⟩
    rintro rfl none -
    simp [State.satnLow, State.modHst, none]
  · simp only [if_neg whole]
    exact ⟨rfl, rfl, others _, by simp [held], low, fun _ _ all => absurd all whole⟩

theorem spiRead_empty (up : s.hostUp l = true) (on : s.spiOn l = true) (none : (s.lane l).hst.spiReplies = []) (count : Nat) :
    Runs (.spiRead l count) s (fun t =>
      t = { s with sent := s.sent ++ [.spi l (byte (s.spiByte l) :: List.replicate count 0)] }) := by
  refine .ofHost rfl up ?_
  simp only [on, Bool.not_true, Bool.false_eq_true, if_false, none]
  rfl

/-- The oldest kept reply enters the reply queue where an entry is free (R67). -/
theorem spiReplyEnqueue_runs (up : s.hostUp l = true) {r : Reply} {rest : List Reply} (kept : (s.lane l).wbe.kept = r :: rest)
    (free : (s.lane l).hst.spiReplies.length < 16) :
    Runs (.spiReplyEnqueue l) s (fun t => t.params = s.params ∧ t.sent = s.sent ∧
      (t.lane l).wbe = { (s.lane l).wbe with kept := rest } ∧ SameOtherLanes s t l ∧
      (t.lane l).hst = { (s.lane l).hst with spiReplies := (s.lane l).hst.spiReplies ++ [r] }) := by
  refine .ofHost rfl up ?_
  simp only [kept, free, if_true]
  exact ⟨by simp, by simp, by simp [State.modHst, State.modWbe], ((SameOtherLanes.refl s l).modLane _).modLane _, by
    simp [State.modHst, State.modWbe]⟩

/-- The waybill in the receive buffer is taken by an idle engine (R47, R67). -/
theorem spiBufferDrain_runs (up : s.hostUp l = true) {raw : List Byte} (buffer : (s.lane l).hst.spiBuf = some raw)
    (empty : (s.lane l).wbe.inq = []) {t0 : Nat} (idle : (s.lane l).wbe.busy ≤ t0) :
    Runs (.spiBufferDrain l t0) s (fun t =>
      t = (((s.atTime t0).modHst l (fun x => { x with spiBuf := none })).modWbe l (fun w => { w with busy := t0 + 5000 })).process l
        ⟨.spi, (s.lane l).hst.bufGen, raw⟩ t0) := by
  have wbe : (((s.atTime t0).modHst l (fun x => { x with spiBuf := none })).lane l).wbe = (s.lane l).wbe := by simp [State.modHst]
  refine .ofHost rfl (u := s.atTime t0) up ?_
  simp only [State.atTime_lane, buffer, State.inRoom_atTime, show s.inRoom l raw = true by simp [State.inRoom, empty], if_true]
  exact State.enqueue_idle (by rw [wbe, empty]) (by rwa [wbe])

/-- A disabled port is silent (R66). -/
theorem spi_silent (off : s.spiOn l = false) :
    Runs (.spiStatus l) s (fun t => t = s) ∧ Runs (.spiClear l) s (fun t => t = s) ∧ ∀ n, Runs (.spiRead l n) s (fun t => t = s) :=
  ⟨.hostIdle rfl (if_neg (by simp [off])), .hostIdle rfl (if_neg (by simp [off])), fun _ => .hostIdle rfl (if_pos (by simp [off]))⟩

end

/-- Settles O16, transaction by transaction. -/
theorem spiPort : Obligations.SpiPort :=
  ⟨fun _ _ up on => ⟨spiStatus_runs up on, spiClear_runs up on⟩,
    fun _ raw t0 _ up on => ⟨fun full => spiWrite_overrun up on full raw t0,
      fun space empty _ hu => spiWrite_taken up on space empty raw t0 hu⟩,
    fun _ count _ _ _ up on held => spiRead_reply up on held count, fun _ count _ up on none => spiRead_empty up on none count,
    fun _ _ _ _ up kept free => spiReplyEnqueue_runs up kept free,
    fun _ _ _ _ up buffer empty idle => spiBufferDrain_runs up buffer empty idle, fun _ _ off => spi_silent off⟩

end Sys2Proof.Machine
end

section
/-! PROOFS. 100BASE-T1, the service port of M, CAN0 and CAN1. -/

namespace Sys2Proof.Machine

open Par Var

/-! ### Datagrams -/

/-- A payload that is one waybill (R69). -/
theorem partsOf_one {raw : List Byte} (len : raw.length = 20 + fieldLe raw 10 2) (short : fieldLe raw 10 2 ≤ 1024) : partsOf raw = [raw] := by
  have some' : raw.isEmpty = false := by cases raw with
    | nil => rw [List.length_nil] at len; omega
    | cons _ _ => rfl
  have nothing (n : Nat) : datagramParts n [] = [] := by cases n <;> rfl
  unfold partsOf datagramParts
  simp only [some', Bool.false_eq_true, if_false, ← len, lt_self_iff_false, or_false]
  rw [if_neg (by omega), List.drop_length, List.take_length, nothing]

theorem udpJudge_tagged (ip port : Nat) (packet : List Byte) : udpJudge ip port true packet = .drop := by
  rw [udpJudge]
  exact if_pos rfl

section
variable {s : State} {l : LaneId} {tagged : Bool} {header body : List Byte} {t0 : Nat}

/-- The MAC address is a value of the part (R80). -/
theorem State.macOf_eq (s : State) (l : LaneId) : s.macOf l = Config.made (HST_MAC_ADDR.id l.reg 0) % 2 ^ 48 := by
  have others : ∀ d ∈ [WBE_CYCLE_NOW, HST_ISO_STATE, WBE_OPEN_CONSISTS], (HST_MAC_ADDR.key l.reg 0).isOf d = false := by cases l <;> decide
  have own : (HST_MAC_ADDR.key l.reg 0).isOf HST_MAC_ADDR = true := by cases l <;> decide
  simp only [List.forall_mem_cons, List.not_mem_nil, false_implies, implies_true, and_true] at others
  obtain ⟨cycle, iso, opened⟩ := others
  unfold State.macOf State.readKey
  simp only [show LaneId.ofReg (HST_MAC_ADDR.key l.reg 0).region = some l from LaneId.ofReg_reg l, cycle, iso, opened, own, Bool.false_and,
    Bool.false_eq_true, if_false, if_true]
  rfl

/-- The judgement of a packet at a lane's port. -/
abbrev State.judgePacket (s : State) (l : LaneId) (tagged : Bool) (packet : List Byte) : UdpVerdict :=
  udpJudge (s.rd l.reg HST_IP_ADDR) (s.rd l.reg HST_UDP_PORT) tagged packet

/-- A frame dropped at a lane's port is counted (R65, R69). -/
theorem udpDatagram_dropped (up : s.hostUp l = true) (on : s.portOn l .t1 = true) (judged : s.judgePacket l tagged (header ++ body) = .drop) :
    Runs (.udpDatagramReceive (some l) tagged header body t0) s (fun t => SameButAt t0 s t [HST_CNT_UDP_DROP.key l.reg 0] ∧
      Counted s t l.reg HST_CNT_UDP_DROP) := by
  refine .ofHost rfl (u := s.atTime t0) up ?_
  simp only [State.portOn_atTime, on, Bool.not_true, Bool.false_eq_true, if_false, State.atTime_rd, judged]
  obtain ⟨-, counted⟩ := State.counted_after (s := s) (v := s.atTime t0) rfl l (d := HST_CNT_UDP_DROP) (by decide +kernel) (i := 0) (by decide)
  exact ⟨State.sameBut_wr .., counted⟩

/-- A packet that is not for the port is answered where it asks for the port's address or for an echo (R65). -/
theorem udpDatagram_ignored (up : s.hostUp l = true) (on : s.portOn l .t1 = true) (judged : s.judgePacket l tagged (header ++ body) = .ignore) :
    Runs (.udpDatagramReceive (some l) tagged header body t0) s (fun t =>
      t = match ethAnswer (s.rd l.reg HST_IP_ADDR) (s.macOf l) (header ++ body) with
        | some p => (s.atTime t0).send (.eth l p)
        | none => s.atTime t0) := by
  obtain rfl : tagged = false := by
    cases tagged with
    | false => rfl
    | true => simp [udpJudge_tagged] at judged
  refine .ofHost rfl (u := s.atTime t0) up ?_
  simp only [State.portOn_atTime, on, Bool.not_true, Bool.false_eq_true, if_false, State.atTime_rd, judged, State.macOf_eq] <;> rfl

/-- One waybill for an idle engine (R47, R69). -/
theorem udpDatagram_taken (up : s.hostUp l = true) (on : s.portOn l .t1 = true) {src : Nat} {payload : List Byte}
    (judged : s.judgePacket l tagged (header ++ body) = .take src payload) (empty : (s.lane l).wbe.inq = []) (idle : (s.lane l).wbe.busy ≤ t0)
    (len : payload.length = 20 + fieldLe payload 10 2) (short : fieldLe payload 10 2 ≤ 1024) :
    Runs (.udpDatagramReceive (some l) tagged header body t0) s (fun t =>
      t = ((s.atTime t0).modWbe l (fun w => { w with busy := t0 + 5000 })).process l ⟨.t1, src, payload⟩ t0) := by
  refine .ofHost rfl (u := s.atTime t0) up ?_
  simp only [State.portOn_atTime, on, Bool.not_true, Bool.false_eq_true, if_false, State.atTime_rd, judged, State.datagram, partsOf_one len short,
    List.foldl_cons, List.foldl_nil]
  exact State.receive_idle on (by simpa using empty) (by simpa using idle)

/-- M's service port (R535, R558). -/
theorem udpDatagram_service (up : s.mUp = true) :
    (s.rdB 7 SMC_MX_LOST = true → Runs (.udpDatagramReceive none tagged header body t0) s (fun t => t = s.atTime t0)) ∧
    (∀ src payload, s.rdB 7 SMC_MX_LOST = false → udpJudge (s.rd 7 SMC_SVC_IP) 48011 tagged (header ++ body) = .take src payload →
      payload.length = 20 + fieldLe payload 10 2 → fieldLe payload 10 2 ≤ 1024 →
      Runs (.udpDatagramReceive none tagged header body t0) s (fun t => t = (s.atTime t0).serviceIn src payload)) ∧
    (udpJudge (s.rd 7 SMC_SVC_IP) 48011 tagged (header ++ body) = .drop → Runs (.udpDatagramReceive none tagged header body t0) s (fun t =>
      t = s.atTime t0)) := by
  refine ⟨fun lost => ⟨_, rfl, ?_⟩, fun src payload on judged len short => ⟨_, rfl, ?_⟩, fun judged => ⟨_, rfl, ?_⟩⟩
  · rw [State.whenM_on (s := s.atTime t0) up]
    exact if_pos lost
  · rw [State.whenM_on (s := s.atTime t0) up]
    simp only [State.atTime_rdB, on, Bool.false_eq_true, if_false, State.atTime_rd, judged, partsOf_one len short, List.foldl_cons, List.foldl_nil]
  · rw [State.whenM_on (s := s.atTime t0) up]
    simp only [State.atTime_rd, judged, ite_self]

end

/-! ### CAN0 -/

section
variable {s : State} {l : LaneId} {id : Nat} {frame : List Byte} {t0 : Nat}

theorem bit_lt {v n : Nat} (h : v < 2 ^ n) : bit v n = false := Nat.testBit_lt_two_pow h

theorem bit_last {n : Nat} (h : n < 64) : bit (64 + n) 6 = true := by
  rw [bit, Nat.testBit_two_pow_add_eq (i := 6), Nat.testBit_lt_two_pow (i := 6) h]
  rfl

/-- A segment with the request identifier at an enabled port, once its header byte is known (R70). -/
theorem can0Segment_runs {P : State → Prop} (up : s.hostUp l = true) (on : s.portOn l .can0 = true) (request : id = s.rd l.reg HST_CAN0_REQ_ID)
    (p : P (let u := s.atTime t0
      let head := byteAt frame 0
      let short := !bit head 6 && frame.length != 64
      if bit head 7 then
        if head % 64 = 0 ∧ !short then u.dropPart l |>.addSegment l (frame.drop 1) 1 (bit head 6) t0 else (u.dropPart l).bump l.reg HST_CNT_SEG_ERR
      else match (s.lane l).hst.canPart with
        | some p => if head % 64 = p.2 ∧ !short then u.addSegment l (p.1 ++ frame.drop 1) (p.2 + 1) (bit head 6) t0 else u.dropPart l
        | none => u)) :
    Runs (.can0SegmentReceive l ⟨id, frame⟩ t0) s P := by
  refine .ofHost rfl (u := s.atTime t0) up ?_
  simp only [State.portOn_atTime, on, request, State.atTime_rd, State.atTime_lane, Bool.not_true, Bool.false_eq_true, ne_eq, not_true, or_self, if_false]
  exact p

theorem can0Segment_other (on : id ≠ s.rd l.reg HST_CAN0_REQ_ID) : Runs (.can0SegmentReceive l ⟨id, frame⟩ t0) s (fun t => t = s.atTime t0) :=
  .hostIdle rfl (if_pos (Or.inr on))

/-- A first segment starts a waybill (R70). -/
theorem can0Segment_first (up : s.hostUp l = true) (on : s.portOn l .can0 = true) (request : id = s.rd l.reg HST_CAN0_REQ_ID)
    (head : byteAt frame 0 = 128) (full : frame.length = 64) (none : (s.lane l).hst.canPart = none) :
    Runs (.can0SegmentReceive l ⟨id, frame⟩ t0) s (fun t =>
      t = (s.atTime t0).modHst l (fun x => { x with canPart := some (frame.drop 1, 1) })) := by
  refine can0Segment_runs up on request ?_
  simp [head, full, bit, State.dropPart, none, State.addSegment, Nat.testBit]

/-- A segment that continues the waybill (R70). -/
theorem can0Segment_next (up : s.hostUp l = true) (on : s.portOn l .can0 = true) (request : id = s.rd l.reg HST_CAN0_REQ_ID)
    {part : List Byte} {n : Nat} (held : (s.lane l).hst.canPart = some (part, n)) (head : byteAt frame 0 = n) (small : n < 64)
    (full : frame.length = 64) :
    Runs (.can0SegmentReceive l ⟨id, frame⟩ t0) s (fun t =>
      t = (s.atTime t0).modHst l (fun x => { x with canPart := some (part ++ frame.drop 1, n + 1) })) := by
  refine can0Segment_runs up on request ?_
  have b7 : bit n 7 = false := bit_lt (by omega)
  have b6 : bit n 6 = false := bit_lt (by omega)
  simp [head, full, held, b6, b7, Nat.mod_eq_of_lt small, State.addSegment]

/-- The last segment completes the waybill (R70). -/
theorem can0Segment_last (up : s.hostUp l = true) (on : s.portOn l .can0 = true) (request : id = s.rd l.reg HST_CAN0_REQ_ID)
    {part : List Byte} {n : Nat} (held : (s.lane l).hst.canPart = some (part, n)) (head : byteAt frame 0 = 64 + n) (small : n < 64)
    (empty : (s.lane l).wbe.inq = []) (idle : (s.lane l).wbe.busy ≤ t0) :
    Runs (.can0SegmentReceive l ⟨id, frame⟩ t0) s (fun t =>
      t = (((s.atTime t0).modHst l (fun x => { x with canPart := none })).modWbe l (fun w => { w with busy := t0 + 5000 })).process l
        ⟨.can0, 0, cutPadding (part ++ frame.drop 1)⟩ t0) := by
  refine can0Segment_runs up on request ?_
  have b7 : bit (64 + n) 7 = false := bit_lt (by omega)
  have index : (64 + n) % 64 = n := by omega
  have wbe : (((s.atTime t0).modHst l (fun x => { x with canPart := none })).lane l).wbe = (s.lane l).wbe := by simp [State.modHst]
  have enabled : ((s.atTime t0).modHst l (fun x => { x with canPart := none })).portOn l .can0 = true := by simpa [State.portOn] using on
  simp only [head, held, b7, bit_last small, index, Bool.false_eq_true, if_false, Bool.not_true, Bool.false_and, Bool.not_false, and_self, if_true,
    State.addSegment]
  exact State.receive_idle enabled (by rw [wbe, empty]) (by rwa [wbe])

/-- A partial waybill discarded is counted (R71). -/
theorem State.dropPart_leaves {s u : State} (params : u.params = s.params) (sent : u.sent = s.sent) (lanes : ∀ x, u.lane x = s.lane x)
    (held : (s.lane l).hst.canPart.isSome = true) :
    ((u.dropPart l).lane l).hst = { (s.lane l).hst with canPart := none } ∧ (u.dropPart l).sent = s.sent ∧
      SamePlaces s (u.dropPart l) [HST_CNT_SEG_ERR.key l.reg 0] ∧ SameOtherLanes s (u.dropPart l) l ∧
      Counted s (u.dropPart l) l.reg HST_CNT_SEG_ERR := by
  obtain ⟨same, counted⟩ := State.counted_after (s := s) (v := u.modHst l (fun x => { x with canPart := none })) (by simpa using params) l
    (d := HST_CNT_SEG_ERR) (by decide +kernel) (i := 0) (by decide)
  have others : SameOtherLanes s u l := fun x _ => lanes x
  rw [State.dropPart, lanes, if_pos held]
  exact ⟨by simp [State.bump_lane, lanes], by simp [State.bump_sent, sent], same, (others.modLane _).wr, counted⟩

/-- A segment out of order discards the waybill (R71). -/
theorem can0Segment_broken (up : s.hostUp l = true) (on : s.portOn l .can0 = true) (request : id = s.rd l.reg HST_CAN0_REQ_ID)
    {part : List Byte} {n : Nat} (held : (s.lane l).hst.canPart = some (part, n)) (small : byteAt frame 0 < 64) (order : byteAt frame 0 ≠ n) :
    Runs (.can0SegmentReceive l ⟨id, frame⟩ t0) s (fun t => (t.lane l).hst = { (s.lane l).hst with canPart := none } ∧ t.sent = s.sent ∧
      SamePlaces s t [HST_CNT_SEG_ERR.key l.reg 0] ∧ SameOtherLanes s t l ∧ Counted s t l.reg HST_CNT_SEG_ERR) := by
  refine can0Segment_runs up on request ?_
  have b7 : bit (byteAt frame 0) 7 = false := bit_lt (by omega)
  simp only [b7, held, Nat.mod_eq_of_lt small, order, false_and, Bool.false_eq_true, if_false]
  exact State.dropPart_leaves (u := s.atTime t0) rfl rfl (fun x => by simp) (by simp [held])

/-- The time limit of a segment discards the waybill (R71). -/
theorem can0SegmentTimeout_runs (up : s.hostUp l = true) (held : (s.lane l).hst.canPart.isSome = true) :
    Runs (.can0SegmentTimeout l) s (fun t => (t.lane l).hst = { (s.lane l).hst with canPart := none } ∧ t.sent = s.sent ∧
      SamePlaces s t [HST_CNT_SEG_ERR.key l.reg 0] ∧ SameOtherLanes s t l ∧ Counted s t l.reg HST_CNT_SEG_ERR) :=
  .ofHost rfl up (State.dropPart_leaves rfl rfl (fun _ => rfl) held)

/-- Bus-off is counted in the byte of its port (R71, R80). -/
theorem canBusOff_runs (up : s.hostUp l = true) (can1 : Bool) : Runs (.canBusOff l can1) s (fun t =>
    SameBut s t [HST_CNT_BUSOFF.key l.reg 0] ∧
    bits (t.rd l.reg HST_CNT_BUSOFF) 7 0 = (if can1 then bits (s.rd l.reg HST_CNT_BUSOFF) 7 0 else min 255 (bits (s.rd l.reg HST_CNT_BUSOFF) 7 0 + 1)) ∧
    bits (t.rd l.reg HST_CNT_BUSOFF) 15 8 = (if can1 then min 255 (bits (s.rd l.reg HST_CNT_BUSOFF) 15 8 + 1) else bits (s.rd l.reg HST_CNT_BUSOFF) 15 8)) := by
  refine .ofHost rfl up ⟨State.sameBut_wr .., ?_⟩
  have fits {v : Nat} (h : v < 2 ^ 16) : (s.wr l.reg HST_CNT_BUSOFF 0 v).rd l.reg HST_CNT_BUSOFF = v :=
    State.rd_wr_mapRow (by decide +kernel) (kindOf_reg l) (by decide) h
  cases can1
  all_goals
    rw [fits (by simp; omega)]
    simp [bits]
    omega

end

/-! ### CAN1 and its address -/

section
variable {s : State} {l : LaneId}

theorem isoProprietaryA_runs (up : s.hostUp l = true) (on : s.portOn l .can1 = true) (empty : (s.lane l).wbe.inq = []) {t0 : Nat}
    (idle : (s.lane l).wbe.busy ≤ t0) (src : Nat) (raw : List Byte) : Runs (.isoProprietaryAReceive l src raw t0) s (fun t =>
      t = ((s.atTime t0).modWbe l (fun w => { w with busy := t0 + 5000 })).process l ⟨.can1, src, raw⟩ t0) :=
  .ofHost rfl (u := s.atTime t0) up (State.receive_idle on (by simpa using empty) (by simpa using idle))

/-- The state of the address written and a claim sent. -/
theorem isoState_sent (s : State) (l : LaneId) {v : Nat} (small : v < 4) (name sa : Nat) :
    let t := (s.wr l.reg HST_ISO_STATE 0 v).send (.isoClaim l name sa)
    t.rd l.reg HST_ISO_STATE = v ∧ SamePlaces s t [HST_ISO_STATE.key l.reg 0] ∧ t.sent = s.sent ++ [.isoClaim l name sa] ∧
      t = { s with params := t.params, sent := t.sent } :=
  ⟨State.rd_wr_mapRow (s := s) (by decide +kernel) (kindOf_reg l) (by decide) (small.trans_le (by decide)),
    State.samePlaces_wr s l.reg HST_ISO_STATE 0 v, rfl, rfl⟩

/-- The holder claims its address (R72, R122). -/
theorem isoAddressClaimSend_runs (up : s.hostUp l = true) (on : s.portOn l .can1 = true) (may : s.mayCan1 l = true)
    (ended : s.rd l.reg STF_ISO_WAIT = 0) (own : s.rd l.reg HST_ISO_SA ≤ 0xFD) (kept : s.rd l.reg HST_ISO_STATE ≠ 3) :
    Runs (.isoAddressClaimSend l) s (fun t => t.rd l.reg HST_ISO_STATE = 2 ∧ SamePlaces s t [HST_ISO_STATE.key l.reg 0] ∧
      t.sent = s.sent ++ [.isoClaim l (s.rd l.reg HST_ISO_NAME) (s.rd l.reg HST_ISO_SA)] ∧ t = { s with params := t.params, sent := t.sent }) := by
  refine .ofHost rfl up ?_
  have wait : (!s.rdB l.reg STF_ISO_WAIT) = true := by simp [State.rdB, ended]
  rw [if_pos ⟨on, may, wait, own, kept⟩]
  exact isoState_sent s l (by decide) _ _

/-- A claim of the lane's address by another NAME (R72). -/
theorem isoAddressClaimReceive_runs (up : s.hostUp l = true) (may : s.mayCan1 l = true) (claimed : s.rd l.reg HST_ISO_STATE = 2) (name : Nat) :
    (name < s.rd l.reg HST_ISO_NAME → Runs (.isoAddressClaimReceive l name (s.rd l.reg HST_ISO_SA)) s (fun t =>
      t.rd l.reg HST_ISO_STATE = 3 ∧ SamePlaces s t [HST_ISO_STATE.key l.reg 0] ∧
      t.sent = s.sent ++ [.isoClaim l (s.rd l.reg HST_ISO_NAME) 0xFE] ∧ t = { s with params := t.params, sent := t.sent })) ∧
    (s.rd l.reg HST_ISO_NAME ≤ name → Runs (.isoAddressClaimReceive l name (s.rd l.reg HST_ISO_SA)) s (fun t =>
      t = { s with sent := s.sent ++ [.isoClaim l (s.rd l.reg HST_ISO_NAME) (s.rd l.reg HST_ISO_SA)] })) := by
  have judged : ¬ ((!s.mayCan1 l) = true ∨ s.rd l.reg HST_ISO_STATE ≠ 2 ∨ s.rd l.reg HST_ISO_SA ≠ s.rd l.reg HST_ISO_SA) := by simp [may, claimed]
  constructor
  · intro less
    refine .ofHost rfl up ?_
    simp only [if_neg judged, if_pos less]
    exact isoState_sent s l (by decide) _ _
  · intro more
    refine .ofHost rfl up ?_
    simp only [if_neg judged, if_neg (not_lt.mpr more)]
    rfl

/-- A lane that may not transmit on CAN1 sends nothing (R110, R114). -/
theorem iso_silent (may : s.mayCan1 l = false) (name sa : Nat) :
    Runs (.isoAddressClaimReceive l name sa) s (fun t => t = s) ∧ Runs (.isoAddressClaimSend l) s (fun t => t = s) :=
  ⟨.hostIdle rfl (if_pos (by simp [may])), .hostIdle rfl (if_neg (by simp [may]))⟩

end

/-- Settles O17, port by port. -/
theorem networkPorts : Obligations.NetworkPorts := by
  refine ⟨⟨?_, fun _ _ _ _ _ up => udpDatagram_service up, ?_, fun _ _ up held => can0SegmentTimeout_runs up held,
      fun _ can1 _ up => canBusOff_runs up can1⟩,
    fun _ src raw _ _ up on empty idle => isoProprietaryA_runs up on empty idle src raw,
    fun _ _ up on may ended own kept => isoAddressClaimSend_runs up on may ended own kept,
    fun _ name _ up may claimed => isoAddressClaimReceive_runs up may claimed name, fun _ name sa _ may => iso_silent may name sa⟩
  · rintro l tagged header body t0 s up on v rfl
    exact ⟨fun tag => by rw [tag, udpJudge_tagged], udpDatagram_dropped up on, udpDatagram_ignored up on,
      fun src payload judged empty idle _ len short => udpDatagram_taken up on judged empty idle len short⟩
  · exact fun l id frame t0 s up on => ⟨can0Segment_other, fun request head full none => can0Segment_first up on request head full none,
      fun part n request held head small full => can0Segment_next up on request held head small full,
      fun part n request held head small empty idle => can0Segment_last up on request held head small empty idle,
      fun part n request held small order => can0Segment_broken up on request held small order⟩

end Sys2Proof.Machine
end

section
/-! PROOFS. What answering a waybill does: the reply at the 100BASE-T1 port, the records of the engine it leaves, a waybill performed at
once. -/

namespace Sys2Proof.Machine

open Par Var

/-! ### Checks in their order -/

@[simp] theorem firstFail_some (r : Rsp) (cs : List (Option Rsp)) : firstFail (some r :: cs) = some r := rfl

@[simp] theorem firstFail_pass (cs : List (Option Rsp)) : firstFail (none :: cs) = firstFail cs := rfl

theorem firstFail_none {cs : List (Option Rsp)} : firstFail cs = none ↔ ∀ c ∈ cs, c = none := by
  induction cs with
  | nil => simp [firstFail]
  | cons c cs ih => cases c <;> simp [ih]

theorem failIf_none {c : Bool} {r : Rsp} : failIf c r = none ↔ c = false := by cases c <;> simp [failIf]

theorem firstOf_none {α : Type} {f : α → Option Rsp} {xs : List α} : firstOf f xs = none ↔ ∀ x ∈ xs, f x = none := by
  induction xs with
  | nil => simp [firstOf]
  | cons x xs ih => cases h : f x <;> simp [firstOf, h, ih]

/-! ### What a reply leaves -/

section
variable {s t u : State} {l : LaneId} {h : Hdr} {op : Nat} {r : Rsp} {final deferred dup : Bool} {mask : Nat}

/-- A reply changes no record of the engine but the duplicate entries and the kept replies, and no record of the lane beside but the ports'. -/
def EngineKept (l : LaneId) (s t : State) : Prop :=
  ∃ d k g, t.lane l = { s.lane l with wbe := { (s.lane l).wbe with dup := d, kept := k }, hst := g }

namespace EngineKept

theorem refl (l : LaneId) (s : State) : EngineKept l s s := ⟨_, _, _, rfl⟩

theorem ite {c : Prop} [Decidable c] (a : EngineKept l s t) (b : EngineKept l s u) : EngineKept l s (if c then t else u) := by
  split <;> assumption

/-- A step that leaves the lane's records as they are. -/
theorem same (a : EngineKept l s t) (e : u.lane l = t.lane l) : EngineKept l s u := by
  obtain ⟨d, k, g, e'⟩ := a
  exact ⟨d, k, g, e.trans e'⟩

theorem wr (a : EngineKept l s t) {n : Nat} {d : PDesc} {i v : Nat} : EngineKept l s (t.wr n d i v) := a.same (State.wr_lane ..)

theorem bump (a : EngineKept l s t) {n : Nat} {d : PDesc} {i : Nat} : EngineKept l s (t.bump n d i) := a.wr

theorem send (a : EngineKept l s t) {x : Sent} : EngineKept l s (t.send x) := a.same (State.send_lane ..)

theorem modHst (a : EngineKept l s t) {f : Hst → Hst} : EngineKept l s (t.modHst l f) := by
  obtain ⟨d, k, g, e⟩ := a
  exact ⟨d, k, f g, by rw [State.modHst, State.lane_modLane, e]⟩

theorem modDup (a : EngineKept l s t) {f : List DupEntry → List DupEntry} : EngineKept l s (t.modWbe l (fun w => { w with dup := f w.dup })) := by
  obtain ⟨d, k, g, e⟩ := a
  exact ⟨f d, k, g, by rw [State.modWbe, State.lane_modLane, e]⟩

theorem modKept (a : EngineKept l s t) {f : List Reply → List Reply} : EngineKept l s (t.modWbe l (fun w => { w with kept := f w.kept })) := by
  obtain ⟨d, k, g, e⟩ := a
  exact ⟨d, f k, g, by rw [State.modWbe, State.lane_modLane, e]⟩

theorem consists (a : EngineKept l s t) : (t.lane l).wbe.consists = (s.lane l).wbe.consists := by
  obtain ⟨d, k, g, e⟩ := a
  rw [e]

theorem relays (a : EngineKept l s t) : (t.lane l).wbe.relays = (s.lane l).wbe.relays := by
  obtain ⟨d, k, g, e⟩ := a
  rw [e]

theorem vot (a : EngineKept l s t) : (t.lane l).vot = (s.lane l).vot := by
  obtain ⟨d, k, g, e⟩ := a
  rw [e]

end EngineKept

theorem State.orderNote_engine (a : EngineKept l s t) (r : Rsp) : EngineKept l s (t.orderNote l r) := by
  unfold State.orderNote
  exact a.ite (a.ite (a.ite a.wr.wr.bump))

theorem State.deliver_engine (a : EngineKept l s t) (x : Hdr) (rep : Reply) : EngineKept l s (t.deliver l x rep) := by
  unfold State.deliver
  split
  · exact a.ite (a.modHst.ite (a.modKept (f := (· ++ [rep]))))
  · exact a.bump.ite (a.ite a.send)
  · exact a
  · exact a.send

theorem State.reply_engine (a : EngineKept l s t) (x : Hdr) (n : Nat) (r : Rsp) (f d : Bool) (m : Nat) (dup : Bool) :
    EngineKept l s (t.reply l x n r f d m dup) := by
  have noted : EngineKept l s (if r.good then t else (t.bump l.reg WBE_CNT_ERR x.port.num).wr l.reg WBE_LAST_ERR 0
      (r.status + x.port.num * 2 ^ 16)) := a.ite a.bump.wr
  exact EngineKept.ite (State.orderNote_engine noted r).wr ((State.deliver_engine noted x _).ite noted)

theorem State.answer_engine (a : EngineKept l s t) (x : Hdr) (n : Nat) (r : Rsp) (f d : Bool) (m : Nat) (dup : Bool) :
    EngineKept l s (t.answer l x n r f d m dup) := State.reply_engine a.modDup x n r f d m dup

/-! ### The reply at the 100BASE-T1 port -/

/-- Two states from which a reply leaves the 100BASE-T1 port alike. -/
theorem State.replyT1_congr (addr : t.rd l.reg HST_IP_ADDR = s.rd l.reg HST_IP_ADDR) (port : t.rd l.reg HST_UDP_PORT = s.rd l.reg HST_UDP_PORT)
    (src : Nat) (rep : Reply) : t.replyT1 l src rep = s.replyT1 l src rep := by simp [State.replyT1, addr, port]

/-- The 100BASE-T1 port sends at once what it has to answer: a failure, a GET, another success where ACK_REQ asks for it (R42). -/
theorem State.reply_sent (hp : h.port = .t1) : (s.reply l h op r final deferred mask dup).sent =
    if (!r.good || op == 0x0101 || h.ackReq) = true then s.sent ++ [s.replyT1 l h.src (mkReply l h op r final deferred mask dup)] else s.sent := by
  have settings (d d' : PDesc) (hd : d.block = 1) (hd' : d'.block = 2) (v : State) (i n : Nat) :
      (v.wr l.reg d i n).rd l.reg d' 0 = v.rd l.reg d' 0 := State.rd_wr_block _ _ _ _ _ _ (by omega)
  have way (v : State) (rep : Reply) (sent : v.sent = s.sent) (addr : v.rd l.reg HST_IP_ADDR = s.rd l.reg HST_IP_ADDR)
      (port : v.rd l.reg HST_UDP_PORT = s.rd l.reg HST_UDP_PORT) : (v.deliver l h rep).sent = s.sent ++ [s.replyT1 l h.src rep] := by
    rw [← State.replyT1_congr addr port, ← sent]
    simp only [State.deliver, hp]
    rfl
  unfold State.reply
  simp only [hp, reduceCtorEq, if_false]
  by_cases asked : (!r.good || op == 0x0101 || h.ackReq) = true
  · rw [if_pos asked, if_pos asked]
    by_cases good : r.good = true
    · exact way _ _ (by simp [good]) (by simp [good]) (by simp [good])
    · simp only [good, Bool.false_eq_true, if_false]
      refine way _ _ rfl ?_ ?_ <;> rw [settings _ _ rfl rfl, State.bump, State.bumpBy, settings _ _ rfl rfl]
  · rw [if_neg asked, if_neg asked]
    have good : r.good = true := by
      cases g : r.good <;> simp [g] at asked ⊢
    simp [good]

theorem State.answer_sent (hp : h.port = .t1) : (s.answer l h op r final deferred mask dup).sent =
    if (!r.good || op == 0x0101 || h.ackReq) = true then s.sent ++ [s.replyT1 l h.src (mkReply l h op r final deferred mask dup)] else s.sent := by
  rw [State.answer, State.reply_sent hp, State.replyT1_congr (s := s) (by simp [State.noteReply]) (by simp [State.noteReply])]
  simp [State.noteReply]

/-- A failure is always answered (R42). -/
theorem State.answer_sent_failure (hp : h.port = .t1) (bad : r.good = false) :
    (s.answer l h op r final deferred mask dup).sent = s.sent ++ [s.replyT1 l h.src (mkReply l h op r final deferred mask dup)] := by
  rw [State.answer_sent hp, if_pos (by simp [bad])]

/-! ### The outcome of a waybill -/

/-- The parts of the checks every opcode shares. -/
theorem State.shared_none {chk : Option Rsp} (passed : s.shared l h op chk = none) :
    flagCheck h op = none ∧ s.busyCheck l h op = none ∧ s.regionReached l h.region = true ∧ chk = none ∧ s.modeCheck l op = none := by
  simp only [State.shared, firstFail_none, List.forall_mem_cons, List.not_mem_nil, false_implies, implies_true, and_true, failIf_none,
    Bool.not_eq_false'] at passed
  exact passed.2

theorem State.performs_of_shared {chk : Option Rsp} (up : s.pairUp l = true) (passed : s.shared l h op chk = none) : Performs s l h op := by
  obtain ⟨flags, busy, -, -, mode⟩ := State.shared_none passed
  exact ⟨up, flags, busy, mode⟩

/-- A final success is counted for its port and answered (R42, R79). -/
theorem State.outcome_performed (performs : Performs s l h op) (good : r.good = true) (final : interim op r = false) :
    Performed l h op r u (u.outcome l h op r 0) := by
  have e : u.outcome l h op r 0 = s.perform l h op none (u, r) := by
    rw [State.perform_ok performs rfl, State.outcome, good, final]
    rfl
  rw [e]
  exact State.perform_performed (eff := (u, r)) performs rfl

/-- A failure of what is no member of a consist has no effect (R39, R42). -/
theorem State.outcome_denied (bad : r.good = false) (single : memberOf h op = false) : Denied l h op r s (s.outcome l h op r 0) := by
  have e : s.outcome l h op r 0 = s.answer l h op r true false 0 := by
    simp [State.outcome, bad, State.markFailed, single, interim]
  rw [e]
  exact ⟨State.answer_replies (.refl l s) .., fun hp => State.answer_sent_failure hp bad⟩

theorem State.markFailed_replies (a : Replies l s t) (x : Hdr) (n : Nat) (r : Rsp) : Replies l s (t.markFailed l x n r) := by
  unfold State.markFailed
  split
  · exact a
  · split
    · exact a.ite (a.modWbe _)
    · exact a.ite (a.modWbe _)

/-- A member marked failed touches no parameter, no relay and sends nothing. -/
theorem State.markFailed_leaves (s : State) (l : LaneId) (h : Hdr) (n : Nat) (r : Rsp) : (s.markFailed l h n r).sent = s.sent ∧
    (s.markFailed l h n r).params = s.params ∧ ((s.markFailed l h n r).lane l).wbe.relays = (s.lane l).wbe.relays := by
  unfold State.markFailed
  split
  · exact ⟨rfl, rfl, rfl⟩
  · split <;> split <;> simp [State.modConsist]

/-- An outcome changes what answering may (R42, R79). -/
theorem State.outcome_replies (a : Replies l s t) (x : Hdr) (n : Nat) (r : Rsp) (m : Nat) : Replies l s (t.outcome l x n r m) :=
  State.answer_replies (Replies.ite (a.bump _ _ (by decide)) (State.markFailed_replies a x n r)) x n r _ _ m false

/-! ### A waybill performed at once -/

variable {o : Op}

/-- A waybill whose checks pass, performed at once in the lane. -/
theorem State.direct_eq (passed : s.shared l h (opcodeOf o) (s.opChk l h o) = none) (own : s.leavesToHolder l h (staffFn o) = false) :
    s.direct l h o = (s.opEff l h o).1.outcome l h (opcodeOf o) (s.opEff l h o).2 0 := by
  simp only [State.direct, passed, own, Bool.false_eq_true, if_false]

theorem leavesToHolder_plain (s : State) (l : LaneId) (h : Hdr) (plain : staffFn o = false) : s.leavesToHolder l h (staffFn o) = false := by
  simp [State.leavesToHolder, plain]

/-- A waybill whose checks pass, performed at once with a final success. -/
theorem State.direct_performed (up : s.pairUp l = true) (passed : s.shared l h (opcodeOf o) (s.opChk l h o) = none)
    (own : s.leavesToHolder l h (staffFn o) = false) (effect : s.opEff l h o = (u, r)) (good : r.good = true)
    (final : interim (opcodeOf o) r = false) : Performed l h (opcodeOf o) r u (s.direct l h o) := by
  rw [State.direct_eq passed own, effect]
  exact State.outcome_performed (State.performs_of_shared up passed) good final

/-- A waybill whose effect fails after its checks: no effect, the failure answered. -/
theorem State.direct_denied (passed : s.shared l h (opcodeOf o) (s.opChk l h o) = none) (own : s.leavesToHolder l h (staffFn o) = false)
    (effect : s.opEff l h o = (s, r)) (bad : r.good = false) (single : memberOf h (opcodeOf o) = false) :
    Denied l h (opcodeOf o) r s (s.direct l h o) := by
  rw [State.direct_eq passed own, effect]
  exact State.outcome_denied bad single

end

end Sys2Proof.Machine
end

section
/-! PROOFS. Waybills received at a port, the first acceptance checks, what runs out. -/

namespace Sys2Proof.Machine

open Par Var

/-! ### The input queue -/

section
variable {s : State} {l : LaneId} {p : Port} {src : Nat} {raw : List Byte} {t0 : Nat}

/-- A busy engine takes nothing from its queue. -/
theorem State.drainIn_busy (busy : t0 < (s.lane l).wbe.busy) (n : Nat) : s.drainIn l t0 n = s := by
  cases n with
  | zero => rfl
  | succ n =>
    unfold State.drainIn
    split
    · rfl
    · exact if_neg (by omega)

/-- A waybill that reaches a busy engine whose queue is full: counted, or on SPI kept in the receive buffer (R49, R67). -/
theorem State.enqueue_full (full : s.inRoom l raw = false) (busy : t0 < (s.lane l).wbe.busy) :
    (p ≠ .spi → s.enqueue l p src raw t0 = s.bump l.reg WBE_CNT_DROP p.num) ∧
    (p = .spi → badAtOnce raw = false → s.enqueue l p src raw t0 = s.modHst l (fun x => { x with spiBuf := some raw, bufGen := src })) := by
  have waits : ¬ ((s.lane l).wbe.inq.isEmpty && decide ((s.lane l).wbe.busy ≤ t0)) = true := by simp; omega
  unfold State.enqueue
  simp only [State.drainIn_busy busy, if_neg waits, full, Bool.false_eq_true, if_false]
  exact ⟨fun other => if_neg other, fun spi good => by rw [if_pos spi, if_neg (by simp [good])]⟩

theorem waybillReceive_idle (up : s.hostUp l = true) (on : s.portOn l p = true) (empty : (s.lane l).wbe.inq = []) (idle : (s.lane l).wbe.busy ≤ t0) :
    Runs (.waybillReceive l p src raw t0) s (fun t =>
      t = ((s.atTime t0).modWbe l (fun w => { w with busy := t0 + 5000 })).process l ⟨p, src, raw⟩ t0) :=
  .ofHost rfl (u := s.atTime t0) up (State.receive_idle on (by simpa using empty) (by simpa using idle))

theorem waybillReceive_busy (up : s.hostUp l = true) (on : s.portOn l p = true) (empty : (s.lane l).wbe.inq = []) (busy : t0 < (s.lane l).wbe.busy) :
    Runs (.waybillReceive l p src raw t0) s (fun t => t = (s.atTime t0).modWbe l (fun w => { w with inq := [⟨t0, ⟨p, src, raw⟩⟩] })) :=
  .ofHost rfl (u := s.atTime t0) up (State.receive_busy on (by simpa using empty) (by simpa using busy))

theorem waybillReceive_off (off : s.portOn l p = false) : Runs (.waybillReceive l p src raw t0) s (fun t => t = s.atTime t0) :=
  .hostIdle rfl (if_pos (by simp [off]))

theorem waybillReceive_full (up : s.hostUp l = true) (on : s.portOn l p = true) (full : s.inRoom l raw = false) (busy : t0 < (s.lane l).wbe.busy) :
    (p ≠ .spi → Runs (.waybillReceive l p src raw t0) s (fun t => SameButAt t0 s t [WBE_CNT_DROP.key l.reg p.num] ∧
      Counted s t l.reg WBE_CNT_DROP p.num)) ∧
    (p = .spi → badAtOnce raw = false → Runs (.waybillReceive l p src raw t0) s (fun t =>
      t = (s.atTime t0).modHst l (fun x => { x with spiBuf := some raw, bufGen := src }))) := by
  obtain ⟨counted, kept⟩ := State.enqueue_full (s := s.atTime t0) (l := l) (p := p) (src := src) (raw := raw) (t0 := t0) (by simpa using full)
    (by simpa using busy)
  have number : p.num < 256 := by cases p <;> decide
  constructor
  · intro other
    refine .ofHost rfl (u := s.atTime t0) up ?_
    rw [State.receive_on src raw t0 (by simpa using on), counted other]
    exact ⟨State.sameBut_wr .., (State.counted_after rfl l (by decide +kernel) (number.trans_le (by decide))).2⟩
  · intro spi good
    refine .ofHost rfl (u := s.atTime t0) up ?_
    rw [State.receive_on src raw t0 (by simpa using on), kept spi good]

end

/-! ### What runs out -/

section
variable {s : State} {l : LaneId} {p : Port} {id : Nat}

/-- The hold of a duplicate entry ends (R45). -/
theorem dupHoldExpiry_runs (up : s.hostUp l = true) (seq : Nat) :
    Runs (.dupHoldExpiry l p seq) s (fun t => t = s.modWbe l (fun w => { w with dup := (t.lane l).wbe.dup }) ∧
      ∀ e, e ∈ (t.lane l).wbe.dup ↔ e ∈ (s.lane l).wbe.dup ∧ ¬ (e.port = p ∧ e.seq = seq)) := by
  refine .ofHost rfl up ⟨?_, fun e => ?_⟩
  · exact State.modLane_congr (by simp)
  · simp [List.mem_filter, imp_iff_not_or]

/-- An open consist carries the port and the ID under which it is found (R53). -/
theorem State.consist_names {c : Consist} (found : s.consist l p id = some c) : c.port = p ∧ c.id = id := by
  simpa using List.find?_some found

theorem State.consist_closed (s : State) (l : LaneId) (c : Consist) : (s.closeConsist l c).consist l c.port c.id = none := by
  simp only [State.consist, State.closeConsist, State.modWbe_wbe, List.find?_eq_none, List.mem_filter]
  rintro d ⟨-, other⟩
  simpa [imp_iff_not_or] using other

/-- A consist without locks discarded: gone, counted, and nothing else (R55). -/
theorem State.dropConsist_eq {c : Consist} (free : locksIn (c.writes.map PWrite.k) = []) :
    s.dropConsist l c = (s.closeConsist l c).bump l.reg WBE_CNT_CONSIST_DISCARD := by
  simp [State.dropConsist, State.releaseLocks, free]

theorem State.dropConsist_leaves {c : Consist} (free : locksIn (c.writes.map PWrite.k) = []) (found : s.consist l p id = some c) :
    (s.dropConsist l c).sent = s.sent ∧ (s.dropConsist l c).consist l p id = none ∧ SameOtherLanes s (s.dropConsist l c) l ∧
      Counted s (s.dropConsist l c) l.reg WBE_CNT_CONSIST_DISCARD ∧
      SamePlaces s (s.dropConsist l c) [WBE_CNT_CONSIST_DISCARD.key l.reg 0] := by
  obtain ⟨rfl, rfl⟩ := State.consist_names found
  obtain ⟨same, counted⟩ := State.counted_after (s := s) (v := s.closeConsist l c) (by simp [State.closeConsist]) l
    (d := WBE_CNT_CONSIST_DISCARD) (by decide +kernel) (i := 0) (by decide)
  rw [State.dropConsist_eq free]
  refine ⟨by simp [State.bump_sent, State.closeConsist], ?_, ((SameOtherLanes.refl s l).modLane _).wr, counted, same⟩
  rw [State.consist, State.bump_lane]
  exact State.consist_closed s l c

/-- An idle consist is discarded (R55). -/
theorem consistIdleTimeout_open (up : s.hostUp l = true) {c : Consist} (found : s.consist l p id = some c) (open' : c.closed = false)
    (free : locksIn (c.writes.map PWrite.k) = []) :
    Runs (.consistIdleTimeout l p id) s (fun t => t.sent = s.sent ∧ t.consist l p id = none ∧ SameOtherLanes s t l ∧
      Counted s t l.reg WBE_CNT_CONSIST_DISCARD ∧ SamePlaces s t [WBE_CNT_CONSIST_DISCARD.key l.reg 0]) := by
  refine .ofHost rfl up ?_
  simp only [found, open', Bool.false_eq_true, if_false]
  exact State.dropConsist_leaves free found

/-- One whose COMMIT is accepted is not idle (R55). -/
theorem consistIdleTimeout_closed (up : s.hostUp l = true) {c : Consist} (found : s.consist l p id = some c) (closed : c.closed = true) :
    Runs (.consistIdleTimeout l p id) s (fun t => t = s) := by
  refine .ofHost rfl up ?_
  simp only [found, closed, if_true]

end

/-! ### A waybill at the 100BASE-T1 port through its checks -/

section
variable {s v : State} {l : LaneId} {src : Nat} {raw : List Byte} {t0 : Nat}

/-- Only from CAN1 does a target on another lane stand for the own one (R74). -/
theorem State.asTaken_t1 (s : State) (l : LaneId) (src : Nat) (raw : List Byte) : s.asTaken l ⟨.t1, src, raw⟩ = Waybill.parse raw := by
  have atLane (w : Waybill) : w.atLane l .t1 = w := if_neg (by simp)
  simp [State.asTaken, atLane]

theorem Waybill.hdr_ackReq (w : Waybill) (src : Nat) : { w.hdr .t1 src with ackReq := bit w.flags 0 && Port.t1 != .so } = w.hdr .t1 src := by
  simp [Waybill.hdr]

/-- A waybill refused by checks 1 to 7 is answered, and nothing of it takes effect (R39, R42). -/
theorem State.process_refused {r : Rsp} (bad : r.good = false)
    (front : v.frontChecks l .t1 (Waybill.parse raw) ((Waybill.parse raw).hdr .t1 src) raw = .error r) :
    (v.process l ⟨.t1, src, raw⟩ t0).sent = v.sent ++ [v.replyT1 l src (mkReply l ((Waybill.parse raw).hdr .t1 src) (Waybill.parse raw).opcode r true
      false (v.failMask l ((Waybill.parse raw).hdr .t1 src) raw))] ∧ Replies l v (v.process l ⟨.t1, src, raw⟩ t0) := by
  simp only [State.process, State.asTaken_t1, Waybill.hdr_ackReq, front]
  have marked := State.markFailed_replies (.refl l v) ((Waybill.parse raw).hdr .t1 src) (Waybill.parse raw).opcode r
  refine ⟨?_, State.reply_replies marked ..⟩
  obtain ⟨sent, params, -⟩ := State.markFailed_leaves v l ((Waybill.parse raw).hdr .t1 src) (Waybill.parse raw).opcode r
  rw [State.reply_sent rfl, if_pos (by simp [bad]), sent, State.replyT1_congr (s := v) (by simp [State.rd, params]) (by simp [State.rd, params])]
  rfl

/-- The lanes that hold a matching copy do not depend on what else the engine's records hold. -/
theorem State.heldMask_congr (vot : (v.lane l).vot = (s.lane l).vot) (consists : (v.lane l).wbe.consists = (s.lane l).wbe.consists) (h : Hdr) :
    v.heldMask l h raw = s.heldMask l h raw := by
  unfold State.heldMask State.copyCrc State.consistCrc State.consist
  rw [vot, consists]

/-- Checks 1 to 3 in their order (R39, R40). -/
theorem State.frontChecks_first (w : Waybill) (h : Hdr) :
    (fieldLe raw 10 2 > 1024 → v.frontChecks l .t1 w h raw = .error (rBadLength raw.length 0)) ∧
    (fieldLe raw 10 2 ≤ 1024 → raw.length ≠ 20 + fieldLe raw 10 2 →
      v.frontChecks l .t1 w h raw = .error (rBadLength raw.length (20 + fieldLe raw 10 2))) ∧
    (fieldLe raw 10 2 ≤ 1024 → raw.length = 20 + fieldLe raw 10 2 → (Waybill.parse raw).crc ≠ (Waybill.parse raw).crcOf →
      v.frontChecks l .t1 w h raw = .error rBadCrc) ∧
    (badAtOnce raw = false → w.version ≠ 2 → v.frontChecks l .t1 w h raw = .error (rRange 0 0)) := by
  refine ⟨fun long => ?_, fun short wrong => ?_, fun short right check => ?_, fun good version => ?_⟩
  · simp [State.frontChecks, chkLength, long]
  · simp [State.frontChecks, chkLength, not_lt.mpr short, failIf, wrong]
  · simp [State.frontChecks, chkLength, not_lt.mpr short, failIf, right, check]
  · simp only [badAtOnce, Bool.or_eq_false_iff, Option.isSome_eq_false_iff, Option.isNone_iff_eq_none] at good
    simp [State.frontChecks, good, failIf, chkHeader, version]
    rfl

theorem badAtOnce_iff : badAtOnce raw = true ↔ fieldLe raw 10 2 > 1024 ∨ raw.length ≠ 20 + fieldLe raw 10 2 ∨
    (Waybill.parse raw).crc ≠ (Waybill.parse raw).crcOf := by
  simp only [badAtOnce, chkLength]
  split
  · simp [*]
  · simp [*, failIf]

/-- The answers of the first checks at an idle engine (R39 to R41). -/
theorem waybillReceive_refused (up : s.hostUp l = true) (on : s.portOn l .t1 = true) (empty : (s.lane l).wbe.inq = [])
    (idle : (s.lane l).wbe.busy ≤ t0) :
    Runs (.waybillReceive l .t1 src raw t0) s (fun t =>
      let h := (Waybill.parse raw).hdr .t1 src
      let refused (r : Rsp) (mask : Nat := 0) : Prop :=
        t.sent = s.sent ++ [s.replyT1 l src (mkReply l h (Waybill.parse raw).opcode r true false mask)] ∧ ∀ k, NoReplyPlace l k → t.params.get k = s.params.get k
      (fieldLe raw 10 2 ≤ 1024 → raw.length ≠ 20 + fieldLe raw 10 2 → refused (rBadLength raw.length (20 + fieldLe raw 10 2))) ∧
      (fieldLe raw 10 2 > 1024 → refused (rBadLength raw.length 0)) ∧
      (fieldLe raw 10 2 ≤ 1024 → raw.length = 20 + fieldLe raw 10 2 → (Waybill.parse raw).crc ≠ (Waybill.parse raw).crcOf →
        refused rBadCrc) ∧
      (fieldLe raw 10 2 ≤ 1024 → raw.length = 20 + fieldLe raw 10 2 → (Waybill.parse raw).crc = (Waybill.parse raw).crcOf →
        (Waybill.parse raw).version ≠ 2 → refused (rRange 0 0) (if h.voted then s.heldMask l h raw else 0))) := by
  obtain ⟨t, runs, rfl⟩ := waybillReceive_idle (src := src) (raw := raw) up on empty idle
  refine ⟨_, runs, ?_⟩
  set v := (s.atTime t0).modWbe l (fun w => { w with busy := t0 + 5000 }) with hv
  have params : v.params = s.params := by simp [hv]
  have mask : v.heldMask l ((Waybill.parse raw).hdr .t1 src) raw = s.heldMask l ((Waybill.parse raw).hdr .t1 src) raw :=
    State.heldMask_congr (by simp [hv, State.modWbe]) (by simp [hv, State.modWbe]) _
  have refused {r : Rsp} (bad : r.good = false) (front : v.frontChecks l .t1 (Waybill.parse raw) ((Waybill.parse raw).hdr .t1 src) raw = .error r)
      {m : Nat} (hm : v.failMask l ((Waybill.parse raw).hdr .t1 src) raw = m) :
      (v.process l ⟨.t1, src, raw⟩ t0).sent = s.sent ++ [s.replyT1 l src (mkReply l ((Waybill.parse raw).hdr .t1 src) (Waybill.parse raw).opcode r true
        false m)] ∧ ∀ k, NoReplyPlace l k → (v.process l ⟨.t1, src, raw⟩ t0).params.get k = s.params.get k := by
    obtain ⟨sent, replies⟩ := State.process_refused (t0 := t0) bad front
    rw [← params, ← hm]
    refine ⟨?_, replies.get⟩
    rw [sent, State.replyT1_congr (s := s) (by simp [State.rd, params]) (by simp [State.rd, params])]
    simp [hv]
  have untrusted (bad : badAtOnce raw = true) : v.failMask l ((Waybill.parse raw).hdr .t1 src) raw = 0 := by simp [State.failMask, bad]
  obtain ⟨long, wrong, check, version⟩ := State.frontChecks_first (v := v) (l := l) (raw := raw) (Waybill.parse raw) ((Waybill.parse raw).hdr .t1 src)
  refine ⟨fun a b => refused rfl (wrong a b) (untrusted ?_), fun a => refused rfl (long a) (untrusted ?_),
    fun a b c => refused rfl (check a b c) (untrusted ?_), fun a b c d => ?_⟩
  · exact badAtOnce_iff.mpr (Or.inr (Or.inl b))
  · exact badAtOnce_iff.mpr (Or.inl a)
  · exact badAtOnce_iff.mpr (Or.inr (Or.inr c))
  · have good : badAtOnce raw = false := by
      rw [← Bool.not_eq_true, badAtOnce_iff]
      omega
    exact refused rfl (version good d) (by simp [State.failMask, good, mask])

/-- A waybill of the 100BASE-T1 port that passes checks 1 to 7 and is no duplicate (R39, R45). -/
theorem State.process_accept {op : Op} {h : Hdr} (hh : h = (Waybill.parse raw).hdr .t1 src)
    (front : v.frontChecks l .t1 (Waybill.parse raw) h raw = .ok op) (new : v.dupOf l .t1 (Waybill.parse raw).seq = none) :
    v.process l ⟨.t1, src, raw⟩ t0 = (v.noteDup l h (Waybill.parse raw)).accept l h op raw t0 := by
  subst hh
  simp only [State.process, State.asTaken_t1, Waybill.hdr_ackReq, front, new, reduceCtorEq, if_false]

/-- One that passes its other checks too, unvoted and for now, is performed with its opcode (R38, R42). -/
theorem State.process_performed {op : Op} {h : Hdr} (hh : h = (Waybill.parse raw).hdr .t1 src)
    (front : v.frontChecks l .t1 (Waybill.parse raw) h raw = .ok op) (new : v.dupOf l .t1 (Waybill.parse raw).seq = none) {u x : State}
    (hu : u = v.noteDup l h (Waybill.parse raw)) (mid : u.midChecks l h (opcodeOf op) = none) (unvoted : h.voted = false) (now : h.commit = 0)
    {r : Rsp} (run : u.runOp l h op 0 none (some h) = (x, some r)) :
    v.process l ⟨.t1, src, raw⟩ t0 = (x.noteParams l h op raw).outcome l h (opcodeOf op) r 0 := by
  rw [State.process_accept hh front new, ← hu]
  simp only [State.accept, mid, unvoted, now, run, Bool.false_eq_true, if_false, ne_eq, not_true, false_and]

theorem State.leavesToHolder_unvoted {h : Hdr} (unvoted : h.voted = false) (s : State) (fn : Bool) : s.leavesToHolder l h fn = false := by
  simp [State.leavesToHolder, unvoted]

section
variable {h : Hdr} {op : Op} {mask : Nat} {key : Option VKey} {own : Option Hdr}

/-- An unvoted waybill for the lane itself, other than a COMMIT, taking effect. -/
theorem State.runOp_passed (unvoted : h.voted = false) (near : h.region < 7) (noCommit : opcodeOf op ≠ 0x0104)
    (passed : s.shared l h (opcodeOf op) (s.opChk l h op) = none) :
    s.runOp l h op mask key own = ((s.opEff l h op).1, some (s.opEff l h op).2) := by
  have near : ¬ h.region ≥ 7 := by omega
  simp only [State.runOp, near, decide_false, Bool.false_and, Bool.false_eq_true, if_false, passed, State.leavesToHolder_unvoted unvoted, noCommit]

theorem State.runOp_refused (near : h.region < 7) {r : Rsp} (failed : s.shared l h (opcodeOf op) (s.opChk l h op) = some r) :
    s.runOp l h op mask key own = (s.noteLocked h.region (some r), some r) := by
  have near : ¬ h.region ≥ 7 := by omega
  simp only [State.runOp, near, decide_false, Bool.false_and, Bool.false_eq_true, if_false, failed]

end

/-- The same as the opcode performed at once. -/
theorem State.process_direct {op : Op} {h : Hdr} (hh : h = (Waybill.parse raw).hdr .t1 src)
    (front : v.frontChecks l .t1 (Waybill.parse raw) h raw = .ok op) (new : v.dupOf l .t1 (Waybill.parse raw).seq = none) {u : State}
    (hu : u = v.noteDup l h (Waybill.parse raw)) (mid : u.midChecks l h (opcodeOf op) = none) (unvoted : h.voted = false) (now : h.commit = 0)
    (near : h.region < 7) (noCommit : opcodeOf op ≠ 0x0104) (noStage : opcodeOf op ≠ 0x0103) :
    v.process l ⟨.t1, src, raw⟩ t0 = u.direct l h op := by
  have noParams (x : State) : x.noteParams l h op raw = x := by
    cases op with
    | setStaged => exact absurd rfl noStage
    | _ => rfl
  cases checks : u.shared l h (opcodeOf op) (u.opChk l h op) with
  | some r =>
    rw [State.process_performed hh front new hu mid unvoted now (State.runOp_refused near checks), noParams]
    simp only [State.direct, checks]
  | none =>
    rw [State.process_performed hh front new hu mid unvoted now (State.runOp_passed unvoted near noCommit checks), noParams,
      State.direct_eq checks (State.leavesToHolder_unvoted unvoted _ _)]

/-- A member staged, with the bytes of its parameters as they came (R53, R60). -/
theorem State.process_staged {items : List Item} {h : Hdr} (hh : h = (Waybill.parse raw).hdr .t1 src)
    (front : v.frontChecks l .t1 (Waybill.parse raw) h raw = .ok (.setStaged items)) (new : v.dupOf l .t1 (Waybill.parse raw).seq = none)
    {u : State} (hu : u = v.noteDup l h (Waybill.parse raw)) (mid : u.midChecks l h 0x0103 = none) (unvoted : h.voted = false) (now : h.commit = 0)
    (near : h.region < 7) (passed : u.shared l h 0x0103 (u.chkStage l h items) = none) :
    v.process l ⟨.t1, src, raw⟩ t0 = (((u.stage l h items).1).noteParams l h (.setStaged items) raw).outcome l h 0x0103 (u.stage l h items).2 0 :=
  State.process_performed hh front new hu mid unvoted now (State.runOp_passed (op := .setStaged items) unvoted near (by simp [opcodeOf]) passed)

end

/-- Settles O12. -/
theorem receivingAndExpiry : Obligations.ReceivingAndExpiry := by
  refine ⟨⟨fun l p src raw t0 s up on empty => ⟨waybillReceive_idle up on empty, waybillReceive_busy up on empty⟩,
    fun l p src raw t0 s off => waybillReceive_off off, fun l p src raw t0 s up on full busy => waybillReceive_full up on full busy,
    fun l p seq s up => dupHoldExpiry_runs up seq, fun l p id s c up found open' free => consistIdleTimeout_open up found open' free,
    fun l p id s c up found closed => consistIdleTimeout_closed up found closed⟩,
    fun l src raw t0 s up on empty idle => waybillReceive_refused up on empty idle, ?_⟩
  intro l src raw t0 op s up on empty idle w h v u front new mid unvoted now near noCommit
  obtain ⟨t, runs, rfl⟩ := waybillReceive_idle (src := src) (raw := raw) up on empty idle
  constructor
  · rintro items rfl passed
    exact ⟨_, runs, State.process_staged rfl front new rfl mid unvoted now near passed⟩
  · intro noStage
    have done : v.process l ⟨.t1, src, raw⟩ t0 = u.direct l h op := State.process_direct rfl front new rfl mid unvoted now near noCommit noStage
    have up' : u.hostUp l = true := by
      simpa [u, v, State.hostUp, State.pairUp, State.up, State.on, State.noteDup, State.hasRegion, State.rdB] using up
    refine ⟨_, runs, done, ?_, ?_⟩
    · rintro ids rfl
      rw [done]
      exact congrArg Host.Outcome.next (State.whenHost_on up')
    · rintro items rfl
      rw [done]
      exact congrArg Host.Outcome.next (State.whenHost_on up')

end Sys2Proof.Machine
end

section
/-! PROOFS. Consists: members staged, a COMMIT at once, an ABORT_CONSIST (R53 to R57). -/

namespace Sys2Proof.Machine

open Par Var

section
variable {s t : State} {l : LaneId} {h : Hdr} {p : Port} {id : Nat}

/-! ### The open consists -/

/-- What a state without new or closed consists holds open. -/
theorem State.consist_congr (same : (t.lane l).wbe.consists = (s.lane l).wbe.consists) : t.consist l p id = s.consist l p id := by
  simp only [State.consist, same]

/-- A good outcome leaves the open consists as they are. -/
theorem State.outcome_consists {r : Rsp} (good : r.good = true) (n m : Nat) :
    ((s.outcome l h n r m).lane l).wbe.consists = (s.lane l).wbe.consists := by
  simp only [State.outcome, good, if_true]
  exact (State.answer_engine (EngineKept.refl l s).bump ..).consists

/-- The first entry a test picks, changed so that the test still picks it. -/
theorem find?_map_changed {α : Type} {q : α → Bool} {f : α → α} {c : α} (kept : q (f c) = true) {xs : List α} (found : xs.find? q = some c) :
    (xs.map (fun x => if q x then f x else x)).find? q = some (f c) := by
  induction xs with
  | nil => cases found
  | cons x xs ih =>
    rw [List.map_cons]
    by_cases named : q x = true
    · rw [List.find?_cons_of_pos named] at found
      cases found
      rw [if_pos named, List.find?_cons_of_pos kept]
    · rw [List.find?_cons_of_neg named] at found
      rw [if_neg named, List.find?_cons_of_neg named, ih found]

theorem State.consist_modConsist {c : Consist} (found : s.consist l p id = some c) (f : Consist → Consist)
    (names : (f c).port = c.port ∧ (f c).id = c.id) : (s.modConsist l p id f).consist l p id = some (f c) := by
  obtain ⟨port, name⟩ := State.consist_names found
  simp only [State.consist, State.modConsist, State.modWbe_wbe]
  exact find?_map_changed (q := fun c : Consist => c.port == p && c.id == id) (by simp [names, port, name]) found

theorem State.consist_opened {c : Consist} (none : s.consist l p id = none) (names : c.port = p ∧ c.id = id) :
    (s.modWbe l (fun x => { x with consists := x.consists ++ [c] })).consist l p id = some c := by
  unfold State.consist at none ⊢
  simp [List.find?_append, none, names]

/-! ### A member staged (R53) -/

/-- The member a SET_STAGED is. -/
def stagedMember (h : Hdr) (items : List Item) : Member := { hdr := h, op := .setStaged items, params := itemBytes items }

/-- The member stands last in its consist, which its first member opens. -/
theorem State.addMember_consist (s : State) (l : LaneId) (h : Hdr) (items : List Item) :
    ∃ c, (s.addMember l h items).consist l h.port h.consist = some c ∧ c.members.getLast? = some (stagedMember h items) ∧
      c.members.length = ((s.consist l h.port h.consist).map (fun c => c.members.length)).getD 0 + 1 := by
  unfold State.addMember
  cases found : s.consist l h.port h.consist with
  | some c => exact ⟨_, State.consist_modConsist found _ ⟨rfl, rfl⟩, by simp [stagedMember], by simp⟩
  | none => exact ⟨_, State.consist_opened found ⟨rfl, rfl⟩, rfl, rfl⟩

theorem State.addMember_params (s : State) (l : LaneId) (h : Hdr) (items : List Item) : (s.addMember l h items).params = s.params := by
  unfold State.addMember
  split
  · exact State.modWbe_params ..
  · exact State.modWbe_params ..

/-- Outside the locks and the shared configuration, staging is the record of the member and nothing else. -/
theorem State.stage_free {items : List Item} (free : locksIn ((writesOf 20 items).map PWrite.k) = [])
    (own : ((writesOf 20 items).map PWrite.k).any sharedKey = false) : s.stage l h items = (s.addMember l h items, rPending 0) := by
  simp [State.stage, State.stageAt, State.locksTake, free, own, rOk]

theorem setStaged_runs {items : List Item} (up : s.pairUp l = true) (passed : s.shared l h 0x0103 (s.chkStage l h items) = none)
    (free : locksIn ((writesOf 20 items).map PWrite.k) = []) (own : ((writesOf 20 items).map PWrite.k).any sharedKey = false) :
    Runs (.setStaged l h items) s (fun t =>
      (∃ c, t.consist l h.port h.consist = some c ∧ c.members.getLast? = some (stagedMember h items) ∧
        c.members.length = ((s.consist l h.port h.consist).map (fun c => c.members.length)).getD 0 + 1) ∧
      ∀ k, NoReplyPlace l k → t.params.get k = s.params.get k) := by
  refine .ofHost rfl (State.hostUp_of_pairUp up) ?_
  have staged : s.opEff l h (.setStaged items) = (s.addMember l h items, rPending 0) := State.stage_free free own
  rw [State.direct_eq passed (leavesToHolder_plain s l h rfl), staged]
  refine ⟨?_, fun k hk => ?_⟩
  · rw [State.consist_congr (State.outcome_consists rfl _ _)]
    exact State.addMember_consist s l h items
  · rw [(State.outcome_replies (.refl l _) ..).get k hk, State.addMember_params]

/-! ### COMMIT and ABORT_CONSIST (R55 to R57) -/

/-- A consist accepted by its COMMIT with instant 0 is committed at once, closed to further members. -/
theorem State.commit_eq {c : Consist} (now : h.commit = 0) (found : s.consist l h.port h.consist = some c) (open' : c.closed = false)
    (whole : c.failed = none) (consistent : s.chkSetOf l c = none) :
    s.commit l h = (s.modConsist l h.port h.consist (fun c => { c with closed := true })).commitNow l h { c with closed := true } := by
  have instant : s.chkInstant l 0 = none := by simp [State.chkInstant, failIf]
  have closed := State.consist_modConsist found (fun c => { c with closed := true }) ⟨rfl, rfl⟩
  simp only [State.commit, State.commitHead, instant, State.commitAccept, found, open', whole, consistent, now, Bool.false_eq_true, if_false, if_true,
    closed]

theorem State.commitNow_eq {c : Consist} (passed : s.chkConsist l h c = none) : s.commitNow l h c =
    ((((s.closeConsist l c).applyWrites l (s.rd l.reg STF_EPOCH) c.region c.writes).1).answerMembers l c rOk, rOk) := by
  simp only [State.commitNow, passed]

theorem commit_runs {c : Consist} (up : s.pairUp l = true) (passed : s.shared l h 0x0104 none = none) (now : h.commit = 0)
    (found : s.consist l h.port h.consist = some c) (open' : c.closed = false) (whole : c.failed = none) (consistent : s.chkSetOf l c = none)
    (again : (s.modConsist l h.port h.consist (fun c => { c with closed := true })).chkConsist l h { c with closed := true } = none) :
    Runs (.commit l h) s (fun t => ∃ u, Performed l h 0x0104 rOk u t ∧
      u = ((((s.modConsist l h.port h.consist (fun c => { c with closed := true })).closeConsist l { c with closed := true }).applyWrites
        l (s.rd l.reg STF_EPOCH) c.region c.writes).1).answerMembers l { c with closed := true } rOk) := by
  refine .ofHost rfl (State.hostUp_of_pairUp up) ⟨_, ?_, rfl⟩
  refine State.direct_performed (o := .commit) (r := rOk) up passed (leavesToHolder_plain s l h rfl) ?_ rfl rfl
  have epoch : (s.modConsist l h.port h.consist (fun c => { c with closed := true })).rd l.reg STF_EPOCH = s.rd l.reg STF_EPOCH := by
    simp [State.modConsist, State.rd]
  rw [State.opEff, State.commit_eq now found open' whole consistent, State.commitNow_eq again, epoch]
  rfl

/-- Neither a COMMIT nor an ABORT_CONSIST has an effect on a consist that is not open (log 60). -/
theorem State.commit_notOpen (now : h.commit = 0)
    (gone : s.consist l h.port h.consist = none ∨ ∃ c, s.consist l h.port h.consist = some c ∧ c.closed = true) :
    s.commit l h = (s, rRange 0 6) := by
  have instant : s.chkInstant l h.commit = none := by simp [State.chkInstant, failIf, now]
  obtain none | ⟨c, found, closed⟩ := gone
  · simp only [State.commit, State.commitHead, instant, State.commitAccept, none]
  · simp only [State.commit, State.commitHead, instant, State.commitAccept, found, closed, if_true]

theorem State.abortConsist_notOpen
    (gone : s.consist l h.port h.consist = none ∨ ∃ c, s.consist l h.port h.consist = some c ∧ c.closed = true) :
    s.abortConsist l h = (s, rRange 0 6) := by
  obtain none | ⟨c, found, closed⟩ := gone
  · simp only [State.abortConsist, State.abortable, none]
  · simp only [State.abortConsist, State.abortable, found, closed, if_true]

theorem State.abortConsist_open {c : Consist} (found : s.consist l h.port h.consist = some c) (open' : c.closed = false) :
    s.abortConsist l h = (s.dropConsist l c, rOk) := by
  simp only [State.abortConsist, State.abortable, found, open', Bool.false_eq_true, if_false]

/-- A COMMIT or an ABORT_CONSIST turned away. -/
theorem denied_at_once {n : Nat} {r : Rsp} (denied : Denied l h n r s t) : (∀ k, NoReplyPlace l k → t.params.get k = s.params.get k) ∧
    (h.port = .t1 → t.sent = s.sent ++ [s.replyT1 l h.src (mkReply l h n r true false 0)]) := ⟨denied.1.get, denied.2⟩

theorem commit_notOpen_runs (up : s.pairUp l = true) (passed : s.shared l h 0x0104 none = none) (now : h.commit = 0)
    (gone : s.consist l h.port h.consist = none ∨ ∃ c, s.consist l h.port h.consist = some c ∧ c.closed = true) :
    Runs (.commit l h) s (fun t => (∀ k, NoReplyPlace l k → t.params.get k = s.params.get k) ∧
      (h.port = .t1 → t.sent = s.sent ++ [s.replyT1 l h.src (mkReply l h 0x0104 (rRange 0 6) true false 0)])) :=
  .ofHost rfl (State.hostUp_of_pairUp up) (denied_at_once (State.direct_denied (o := .commit) passed (leavesToHolder_plain s l h rfl)
    (State.commit_notOpen now gone) rfl (by simp [memberOf, opcodeOf])))

theorem abortConsist_notOpen_runs (up : s.pairUp l = true) (passed : s.shared l h 0x0105 none = none)
    (gone : s.consist l h.port h.consist = none ∨ ∃ c, s.consist l h.port h.consist = some c ∧ c.closed = true) :
    Runs (.abortConsist l h) s (fun t => (∀ k, NoReplyPlace l k → t.params.get k = s.params.get k) ∧
      (h.port = .t1 → t.sent = s.sent ++ [s.replyT1 l h.src (mkReply l h 0x0105 (rRange 0 6) true false 0)])) :=
  .ofHost rfl (State.hostUp_of_pairUp up) (denied_at_once (State.direct_denied (o := .abortConsist) passed (leavesToHolder_plain s l h rfl)
    (State.abortConsist_notOpen gone) rfl (by simp [memberOf, opcodeOf])))

theorem abortConsist_runs {c : Consist} (up : s.pairUp l = true) (passed : s.shared l h 0x0105 none = none)
    (found : s.consist l h.port h.consist = some c) (open' : c.closed = false) (free : locksIn (c.writes.map PWrite.k) = []) :
    Runs (.abortConsist l h) s (fun t => t.consist l h.port h.consist = none ∧ ∃ u, Performed l h 0x0105 rOk u t ∧
      SamePlaces s u [WBE_CNT_CONSIST_DISCARD.key l.reg 0] ∧ Counted s u l.reg WBE_CNT_CONSIST_DISCARD) := by
  have effect : s.opEff l h .abortConsist = (s.dropConsist l c, rOk) := State.abortConsist_open found open'
  have own := leavesToHolder_plain s l h (o := .abortConsist) rfl
  obtain ⟨-, gone, -, counted, same⟩ := State.dropConsist_leaves free found
  refine .ofHost rfl (State.hostUp_of_pairUp up) ⟨?_, _, State.direct_performed up passed own effect rfl rfl, same, counted⟩
  rw [State.direct_eq passed own, effect, State.consist_congr (State.outcome_consists rfl _ _)]
  exact gone

end

/-- Settles O14. -/
theorem consistOpcodes : Obligations.ConsistOpcodes :=
  ⟨fun _ _ _ _ up passed free own => setStaged_runs up passed free own,
    fun _ _ _ _ up passed now found open' whole consistent again => commit_runs up passed now found open' whole consistent again,
    fun _ _ _ up passed now gone => commit_notOpen_runs up passed now gone,
    fun _ _ _ up passed gone => abortConsist_notOpen_runs up passed gone,
    fun _ _ _ _ up passed found open' free => abortConsist_runs up passed found open' free⟩

end Sys2Proof.Machine
end

section
/-! PROOFS. GET and SET: the item of one place, the answers of a set, a set of one value of the power die (R59, R63, R64). -/

namespace Sys2Proof.Machine

open Par Var

/-! ### GET -/

section
variable {s : State} {l : LaneId} {h : Hdr}

/-- No row of a map is wider than 544 bits. -/
theorem blockMap_width (b : Nat) (kind : RegionKind) : ∀ d ∈ blockMap kind b, d.width ≤ 544 := by
  by_cases known : b < 0x80
  · have all : ∀ kind ∈ [RegionKind.lane, .power, .m, .s, .every], ∀ b < 0x80, (blockMap kind b).all (fun d => decide (d.width ≤ 544)) = true := by
      decide +kernel
    have rows := all kind (by cases kind <;> simp) b known
    simpa using rows
  · simp [blockMap_var (Nat.le_of_not_lt known)]

/-- The item of one place fits the 1,024 bytes of a reply. -/
theorem State.length_getItem (s : State) (k : PKey) : (s.getItem k).length ≤ 1024 := by
  unfold State.getItem
  split
  · simp
  · next d found =>
    split
    · simp
    · have wide : d.width ≤ 544 := blockMap_width _ _ d (List.mem_of_find?_eq_some found)
      have bytes : cdiv d.width 8 ≤ 68 := by unfold cdiv; omega
      simp only [itemReply, List.length_append, length_toLe, length_pad4]
      omega

/-- A GET of one ID: its item, and the place cleared where reading clears it. -/
theorem State.effGet_one (s : State) (id : Nat) :
    s.effGet [id] = ((s.draw).2.clearRead (PKey.ofId id), rOk ((s.draw).2.getItem (PKey.ofId id))) := by
  have fits : ¬ 0 + ((s.draw).2.getItem (PKey.ofId id)).length > 1024 := by
    have := State.length_getItem (s.draw).2 (PKey.ofId id)
    omega
  simp only [State.effGet, List.map_cons, List.map_nil, State.getItems, if_neg fits, List.append_nil]

theorem State.clearRead_sameBut (s : State) (k : PKey) : SameBut s (s.clearRead k) [k] := by
  have refl : SameBut s s [k] := ⟨rfl, fun _ _ => rfl⟩
  have cleared : SameBut s { s with params := s.params.put k 0 } [k] := ⟨rfl, fun x hx => Store.get_put_ne _ _ (by simpa using hx)⟩
  unfold State.clearRead
  split
  · split
    · exact cleared
    · exact refl
  · exact refl

/-- What a place reads as after a GET: 0 where reading clears it (R11). -/
theorem State.clearRead_get {k : PKey} {d : PDesc} (found : lookup k = some d) (reads : s.readable k = true) (open' : s.gatedKey k = false) :
    (s.clearRead k).params.get k = if d.acc = .rc then 0 else s.params.get k := by
  simp only [State.clearRead, found, reads, open', Bool.not_false, Bool.and_true, beq_iff_eq]
  split
  · simp
  · rfl

/-- The item of a place that reads (R63). -/
theorem State.getItem_reads {k : PKey} {d : PDesc} (found : lookup k = some d) (reads : s.readable k = true) (open' : s.gatedKey k = false) :
    s.getItem k = toLe 4 k.toId ++ toLe 2 0 ++ toLe 2 (cdiv d.width 8) ++ pad4 (toLe (cdiv d.width 8) (if d.acc = .wo then 0 else s.readKey k)) := by
  simp [State.getItem, found, reads, itemReply, State.getValue, open']

theorem get_one_runs {id : Nat} (up : s.pairUp l = true) (passed : s.shared l h 0x0101 (chkGet h [id]) = none) (own : s.ownView l [id] = false) :
    Runs (.get l h [id]) s (fun t => ∃ u data, Performed l h 0x0101 (rOk data) u t ∧ data = (s.draw).2.getItem (PKey.ofId id) ∧
      SameBut (s.draw).2 u [PKey.ofId id] ∧
      (∀ d, lookup (PKey.ofId id) = some d → s.readable (PKey.ofId id) = true → s.gatedKey (PKey.ofId id) = false →
        data = toLe 4 (PKey.ofId id).toId ++ toLe 2 0 ++ toLe 2 (cdiv d.width 8) ++
          pad4 (toLe (cdiv d.width 8) (if d.acc = .wo then 0 else (s.draw).2.readKey (PKey.ofId id))) ∧
        u.params.get (PKey.ofId id) = if d.acc = .rc then 0 else s.params.get (PKey.ofId id))) := by
  have effect : s.opEff l h (.get [id]) = ((s.draw).2.clearRead (PKey.ofId id), rOk ((s.draw).2.getItem (PKey.ofId id))) := by
    rw [State.opEff, own, if_neg Bool.false_ne_true, State.effGet_one]
  refine .ofHost rfl (State.hostUp_of_pairUp up) ⟨_, _, State.direct_performed (o := .get [id]) up passed (leavesToHolder_plain s l h rfl) effect
    rfl rfl, rfl, State.clearRead_sameBut _ _, fun d found reads open' => ?_⟩
  exact ⟨State.getItem_reads found reads open', State.clearRead_get (s := (s.draw).2) found reads open'⟩

/-- A GET of nothing but values of the lane's own view of S (R333). -/
theorem get_view_runs {ids : List Nat} (up : s.pairUp l = true) (passed : s.shared l h 0x0101 (chkGet h ids) = none)
    (own : s.ownView l ids = true) : Runs (.get l h ids) s (fun t => Performed l h 0x0101 (rOk (s.viewItems l ids)) s t) := by
  have effect : s.opEff l h (.get ids) = (s, rOk (s.viewItems l ids)) := by rw [State.opEff, own, if_pos rfl]
  exact .ofHost rfl (State.hostUp_of_pairUp up) (State.direct_performed (o := .get ids) up passed (leavesToHolder_plain s l h rfl) effect rfl rfl)

/-! ### The answer of a set -/

/-- Answers of success that are no interim one: OK, and LOCK_RECOVERED (R42, R460). -/
def FinalGood (r : Rsp) : Prop := r.status = 0 ∨ r.status = 0x303

theorem FinalGood.good {r : Rsp} (f : FinalGood r) : r.good = true := by
  obtain e | e := f <;> simp [Rsp.good, e]

theorem FinalGood.final {r : Rsp} (f : FinalGood r) : interim 0x0102 r = false := by
  obtain e | e := f <;> simp [interim, e]

theorem State.lockTake_final (s : State) (r u owner : Nat) : FinalGood (s.lockTake r u owner).2 := by
  unfold State.lockTake
  split
  · exact .inl rfl
  · exact .inr rfl
  · exact .inl rfl

/-- Locks taken answer OK, or LOCK_RECOVERED where one was BROKEN. -/
theorem State.locksTake_final (s : State) (owner : Nat) (us : List (Nat × Nat)) : FinalGood (s.locksTake owner us).2 := by
  unfold State.locksTake
  refine List.foldlRecOn us _ (motive := fun p : State × Rsp => FinalGood p.2) (.inl rfl) (fun p before u _ => ?_)
  dsimp only
  split
  · exact before
  · exact State.lockTake_final ..

/-- A set without a hold of a lock is answered as its locks are. -/
theorem State.applyWrites_answer {ws : List PWrite} (free : ws.all (fun w => !w.k.isOf FAB_LOCK_HOLD) = true) (epoch region : Nat) :
    (s.applyWrites l epoch region ws).2 = (s.locksTake l.reg (locksIn (ws.map PWrite.k))).2 := by
  have noHold : ws.find? (fun w => w.k.isOf FAB_LOCK_HOLD && w.v == 1) = none := by
    rw [List.find?_eq_none]
    intro w hw
    have := List.all_eq_true.mp free w hw
    simp_all
  simp only [State.applyWrites, noHold]

theorem set_runs {items : List Item} (up : s.pairUp l = true) (passed : s.shared l h 0x0102 (s.opChk l h (.set items)) = none)
    (own : s.leavesToHolder l h (staffFn (.set items)) = false) (free : (writesOf 20 items).all (fun w => !w.k.isOf FAB_LOCK_HOLD) = true) :
    Runs (.set l h items) s (fun t => ∃ u r, Performed l h 0x0102 r u t ∧
      (u, r) = s.applyWrites l (s.rd l.reg STF_EPOCH) h.region (writesOf 20 items)) := by
  have final : FinalGood (s.applyWrites l (s.rd l.reg STF_EPOCH) h.region (writesOf 20 items)).2 := by
    rw [State.applyWrites_answer free]
    exact State.locksTake_final ..
  exact .ofHost rfl (State.hostUp_of_pairUp up) ⟨_, _, State.direct_performed (o := .set items) up passed own rfl final.good final.final, rfl⟩

end

/-! ### A set of one value of the gate drivers -/

section
variable {s t : State} {l : LaneId} {k : PKey}

/-- A place of the gate drivers' block of a lane's power die. -/
def GdrPlace (l : LaneId) (k : PKey) : Prop := k.region = l.pow ∧ k.block = 0x20

theorem GdrPlace.ne_key (g : GdrPlace l k) {d : PDesc} (hd : d.block ≠ 0x20) (r i : Nat) : d.key r i ≠ k := by
  rintro rfl
  exact hd g.2

theorem GdrPlace.isOf (g : GdrPlace l k) {d : PDesc} (hd : d.block ≠ 0x20) : k.isOf d = false := by
  simp [PKey.isOf, g.2, Ne.symm hd]

theorem GdrPlace.lockOfKey (g : GdrPlace l k) : lockOfKey k = none := by
  have far : k.region ≠ 7 ∧ k.region ≠ 8 := by rw [g.1]; cases l <;> decide
  unfold Machine.lockOfKey
  split
  · rfl
  · simp [far]

theorem GdrPlace.locksIn (g : GdrPlace l k) : locksIn [k] = [] := by simp [Machine.locksIn, g.lockOfKey]

theorem GdrPlace.sharedKey (g : GdrPlace l k) : sharedKey k = false := by
  have far : k.region ≠ 7 := by rw [g.1]; cases l <;> decide
  simp [Machine.sharedKey, far]

theorem GdrPlace.reservedIn (g : GdrPlace l k) : reservedIn k = 0 := by simp [Machine.reservedIn, g.1, g.2]

/-- Two states that differ at one place of the gate drivers at most. -/
def SameButGdr (s t : State) : Prop := ∀ k, k.block ≠ 0x20 → t.params.get k = s.params.get k

theorem SameButGdr.rd (e : SameButGdr s t) {d : PDesc} (hd : d.block ≠ 0x20) (r i : Nat) : t.rd r d i = s.rd r d i := e _ hd

theorem SameButGdr.rdB (e : SameButGdr s t) {d : PDesc} (hd : d.block ≠ 0x20) (r i : Nat) : t.rdB r d i = s.rdB r d i := by
  rw [State.rdB, e.rd hd, State.rdB]

/-! The blocks that a commit informs and that see no change of theirs. -/

theorem State.cenCommitted_gdr (e : SameButGdr s t) (l : LaneId) (ks : List PKey) : s.cenCommitted t l ks = t := by
  refine List.foldl_fixed' (fun n => ?_) _
  have mode : t.rd l.reg CEN_MODE n = s.rd l.reg CEN_MODE n := e.rd (by decide) _ _
  simp only [mode]
  rw [if_neg (by omega), if_neg (by omega)]

theorem State.rpcCommitted_gdr (g : GdrPlace l k) : s.rpcCommitted t l [k] = t := by simp [State.rpcCommitted, g.1]

theorem State.chConfigured_gdr (e : SameButGdr s t) (l : LaneId) :
    (List.range 8).foldl (fun u ch => if s.rd l.reg FBI_MODE ch != u.rd l.reg FBI_MODE ch then u.chConfigured l ch else u) t = t :=
  List.foldl_fixed' (fun ch => by simp [e.rd (d := FBI_MODE) (by decide)]) _

theorem State.twlCommitted_gdr (e : SameButGdr s t) (l : LaneId) : s.twlCommitted t l = t := by
  have plan : (TWL_COLDSTART_NODES.key l.reg 0 :: timetable l.reg).any (fun k => s.params.get k != t.params.get k) = false := by
    rw [List.any_eq_false]
    intro k hk
    have block : k.block = 0x18 := by
      simp only [timetable, PDesc.keys, List.mem_cons, List.mem_append, List.mem_flatMap, List.mem_map, List.not_mem_nil, or_false] at hk
      obtain rfl | (rfl | rfl | rfl | rfl) | ⟨d, rfl | rfl | rfl | rfl | rfl, i, -, rfl⟩ := hk <;> rfl
    simp [e k (by omega)]
  simp only [State.twlCommitted, plan, Bool.false_eq_true, if_false, e.rdB (d := TWL_EN) (by decide)]
  cases s.rdB l.reg TWL_EN <;> rfl

theorem State.spiCommitted_gdr (e : SameButGdr s t) (l : LaneId) : s.spiCommitted t l = t := by
  simp [State.spiCommitted, e.rd (d := HST_PORT_EN) (by decide)]

theorem State.calCommitted_gdr (e : SameButGdr s t) (l : LaneId) : s.calCommitted t l = t := by
  simp [State.calCommitted, e.rdB (d := ADC_CAL_EN) (by decide)]

theorem State.trackCommitted_gdr (g : GdrPlace l k) : s.trackCommitted t l [k] = t := by
  simp [State.trackCommitted, g.2]

/-- A commit that touches the gate drivers alone writes no parameter beside, and sends nothing. -/
theorem State.committed_gdr (e : SameButGdr s t) (g : GdrPlace l k) :
    (s.committed t l l.pow [k]).params = t.params ∧ (s.committed t l l.pow [k]).sent = t.sent := by
  have region : l.pow ≠ 8 ∧ l.pow ≠ 7 := by cases l <;> decide
  have old : (s.cmtCommitted t l [k]).params = t.params ∧ (s.cmtCommitted t l [k]).sent = t.sent := by
    unfold State.cmtCommitted
    dsimp only
    split <;> simp
  have clk : (List.range 3).any (fun p => s.rd l.reg CLK_ISL_CFG p != t.rd l.reg CLK_ISL_CFG p) = false := by
    simp [e.rd (d := CLK_ISL_CFG) (by decide)]
  have none (u : State) : u.announceCrcs l [k] = u :=
    List.foldl_fixed' (fun b => by simp [g.1]) _
  have archive (u : State) : (u.archiveSet l).params = u.params ∧ (u.archiveSet l).sent = u.sent := by
    unfold State.archiveSet
    split <;> exact ⟨rfl, rfl⟩
  simp only [State.committed, region, if_false, State.cenCommitted_gdr e, State.rpcCommitted_gdr g, State.chConfigured_gdr e,
    List.contains_cons, List.contains_nil, Bool.or_false, beq_iff_eq, g.ne_key (d := SDC_SRC) (by decide),
    g.ne_key (d := SDC_AUT_LEVEL) (by decide), State.twlCommitted_gdr e, State.spiCommitted_gdr e, clk, Bool.false_eq_true, State.calCommitted_gdr e,
    State.trackCommitted_gdr g, List.any_cons, List.any_nil, g.isOf (d := FCL_REACT) (by decide), Bool.and_false, none, archive]
  exact ⟨by simp [State.takeDigest, old], by simp [State.takeDigest, old]⟩

theorem clrMask_zero (v : Nat) : clrMask v 0 = v := by simp [clrMask]

/-- A set of one plain value of the gate drivers: its place written, and nothing else. -/
theorem State.applyWrites_gdr (g : GdrPlace l k) (plain : k.plain = true) (epoch v off : Nat) :
    (s.applyWrites l epoch l.pow [⟨k, v, off⟩]).2 = rOk ∧ (s.applyWrites l epoch l.pow [⟨k, v, off⟩]).1.params = s.params.put k v ∧
      (s.applyWrites l epoch l.pow [⟨k, v, off⟩]).1.sent = s.sent := by
  have written : (s.putAll [⟨k, v, off⟩]).params = s.params.put k v := by
    simp [State.putAll, plain, g.reservedIn, clrMask_zero]
  have rest : SameButGdr s (s.putAll [⟨k, v, off⟩]) := fun x hx => by
    rw [written]
    exact Store.get_put_ne _ _ (fun same => hx (same ▸ g.2))
  obtain ⟨params, sent⟩ := State.committed_gdr rest g
  simp only [State.applyWrites, List.map_cons, List.map_nil, g.locksIn, State.locksTake, List.foldl_nil, List.any_cons, List.any_nil, g.sharedKey,
    Bool.or_false, Bool.false_eq_true, if_false, List.foldl_cons, State.applyOne, plain, if_true, List.find?_cons, List.find?_nil,
    g.isOf (d := FAB_LOCK_HOLD) (by decide), Bool.false_and]
  exact ⟨trivial, params.trans written, sent⟩

end

section
variable {s : State} {l : LaneId} {h : Hdr}

/-- The last of the checks of a write: its place and its value (R39, R64). -/
theorem State.itemRange_none {region block : Nat} {w : PWrite} {d : PDesc} (passed : s.itemRange region block w = none) (found : lookup w.k = some d) :
    w.k.region = region ∧ w.k.block = block ∧ w.v < 2 ^ d.width := by
  simp only [State.itemRange, found] at passed
  split at passed
  · cases passed
  · next here =>
    split at passed
    · cases passed
    · next good => simp_all

/-- The value of each item of a SET whose checks pass lies in its place's range (R64). -/
theorem State.itemRange_of_set {items : List Item} (passed : s.shared l h 0x0102 (s.opChk l h (.set items)) = none) {w : PWrite}
    (mem : w ∈ writesOf 20 items) : s.itemRange h.region h.block w = none := by
  obtain ⟨-, -, -, checks, -⟩ := State.shared_none passed
  simp only [State.opChk, State.chkSet, State.chkWrites, firstFail_none, List.forall_mem_cons, firstOf_none] at checks
  obtain ⟨-, ⟨-, -, -, ⟨-, -, ranges, -⟩, -⟩, -⟩ := checks
  exact ranges w mem

theorem set_gdr_runs {i : Item} {d : PDesc} (up : s.pairUp l = true) (passed : s.shared l h 0x0102 (s.opChk l h (.set [i])) = none)
    (found : lookup (PKey.ofId i.id) = some d) (plain : (PKey.ofId i.id).plain = true) (region : h.region = l.pow) (block : h.block = 0x20) :
    Runs (.set l h [i]) s (fun t => ∃ u, Performed l h 0x0102 rOk u t ∧ u.params.get (PKey.ofId i.id) = i.val ∧
      SamePlaces s u [PKey.ofId i.id] ∧ u.sent = s.sent) := by
  obtain ⟨inRegion, inBlock, fits⟩ := State.itemRange_none (w := ⟨PKey.ofId i.id, i.val, 20⟩) (State.itemRange_of_set passed (by simp [writesOf])) found
  have g : GdrPlace l (PKey.ofId i.id) := ⟨inRegion.trans region, inBlock.trans block⟩
  obtain ⟨answer, params, sent⟩ := State.applyWrites_gdr (s := s) g plain (s.rd l.reg STF_EPOCH) i.val 20
  have effect : s.opEff l h (.set [i]) = ((s.applyWrites l (s.rd l.reg STF_EPOCH) l.pow [⟨PKey.ofId i.id, i.val, 20⟩]).1, rOk) := by
    rw [← answer, ← region]
    rfl
  have own : s.leavesToHolder l h (staffFn (.set [i])) = false := leavesToHolder_plain s l h (by simp [staffFn, writesOf, g.sharedKey])
  refine .ofHost rfl (State.hostUp_of_pairUp up) ⟨_, State.direct_performed (o := .set [i]) up passed own effect rfl rfl, ?_, fun k hk => ?_, sent⟩
  · rw [params, Store.get_put_same, widthOf, found]
    exact Nat.mod_eq_of_lt fits
  · rw [params]
    exact Store.get_put_ne _ _ (by simpa using hk)

end

/-- Settles O13. -/
theorem getAndSet : Obligations.GetAndSet :=
  ⟨fun _ _ _ _ up passed own => get_one_runs up passed own, fun _ _ _ _ up passed own => get_view_runs up passed own,
    fun _ _ _ _ up passed own free => set_runs up passed own free,
    fun _ _ _ _ _ up passed found plain _ region block => set_gdr_runs up passed found plain region block⟩

end Sys2Proof.Machine
end

section
/-! PROOFS. No opcode's effect changes the vote record of a lane: what every operation that an effect reaches leaves of it. -/

namespace Sys2Proof.Machine

open Par Var

/-- The vote record of a lane. -/
def State.votes (s : State) (y : LaneId) : Vot := (s.lane y).vot

section
variable {s : State} {y : LaneId}

theorem State.votes_congr {t : State} (same : t.lane y = s.lane y) : t.votes y = s.votes y := by rw [State.votes, same, State.votes]

@[simp] theorem State.ite_votes {c : Prop} [Decidable c] {a b : State} : (if c then a else b).votes y = if c then a.votes y else b.votes y :=
  apply_ite (fun s => s.votes y) c a b

@[simp] theorem State.iteFst_votes {α : Type} {c : Prop} [Decidable c] {a b : State × α} :
    (if c then a else b).1.votes y = if c then a.1.votes y else b.1.votes y := apply_ite (fun p => p.1.votes y) c a b

@[simp] theorem State.foldl_votes {α : Type} {f : State → α → State} (step : ∀ s a, (f s a).votes y = s.votes y) (xs : List α) :
    (xs.foldl f s).votes y = s.votes y := by
  induction xs generalizing s with
  | nil => rfl
  | cons a xs ih => exact ih.trans (step s a)

@[simp] theorem State.foldlFst_votes {α β : Type} {f : State × β → α → State × β} (step : ∀ p a, (f p a).1.votes y = p.1.votes y) (xs : List α)
    (p : State × β) : (xs.foldl f p).1.votes y = p.1.votes y := by
  induction xs generalizing p with
  | nil => rfl
  | cons a xs ih => exact (ih _).trans (step p a)

/-! ### Operations that build a state -/

/-- Another change of a lane's records. -/
@[simp] theorem State.modLane_votes {l : LaneId} {f : Lane → Lane} (kept : ∀ x, (f x).vot = x.vot) : (s.modLane l f).votes y = s.votes y := by
  by_cases same : y = l
  · subst same
    simp [State.votes, kept]
  · rw [State.votes, State.lane_modLane_ne s f same, State.votes]

@[simp] theorem State.wr_votes {r : Nat} {d : PDesc} {i v : Nat} : (s.wr r d i v).votes y = s.votes y := State.votes_congr (State.wr_lane ..)

/-- A change of everything but the lanes' records. -/
@[simp] theorem State.fields_votes {part : Part} {p : Store} {links : List (Link × LinkSt)} {sdie : SDie} {mdie : MDie} {recoveries : List FclEv}
    {archive : List (List Byte)} {journal : List JEntry} {sent : List Sent} {now fv : Nat} {pending : List Instr} :
    (⟨part, p, s.la, s.lb, s.lc, links, sdie, mdie, recoveries, archive, journal, sent, now, fv, pending⟩ : State).votes y = s.votes y := by
  cases y <;> rfl

@[simp] theorem State.draw_votes : (s.draw).2.votes y = s.votes y := by simp [State.draw]

@[simp] theorem State.modM_votes {f : MDie → MDie} : (s.modM f).votes y = s.votes y := by simp [State.modM]

@[simp] theorem State.clearRead_votes {k : PKey} : (s.clearRead k).votes y = s.votes y := by
  unfold State.clearRead
  split <;> simp

@[simp] theorem State.getItems_votes {n : Nat} {ks : List PKey} : (s.getItems n ks).1.votes y = s.votes y := by
  induction ks generalizing s n with
  | nil => rfl
  | cons k ks ih => simp [State.getItems, ih]

@[simp] theorem State.setLink_votes {k : Link} {x : LinkSt} : (s.setLink k x).votes y = s.votes y := by simp [State.setLink]

@[simp] theorem State.pump_votes {n : Nat} {k : Link} : (State.pump n k s).votes y = s.votes y := by
  induction n generalizing s with
  | zero => rfl
  | succ n ih =>
    unfold State.pump
    split
    · rfl
    · split
      · rfl
      · simp [ih]

variable {s0 : State} {ids ts : List Nat}
  {r u owner st i n epoch src b bits v ch k t dir type old region id opcode mask f1 f2 f3 f4 kind o code arg blk cause succ lane state point
    action total cycle : Nat}
  {d : PDesc} {us fails : List (Nat × Nat)} {ws : List PWrite} {ks : List PKey} {a : Rsp}
  {value manWritten final deferred dup good voted urgent on timeout held : Bool} {l : LaneId} {f : Bridge → Bridge} {w th : Rat}
  {msg data nonce : List Byte} {dst : List Region} {x : Sent} {c : Consist} {items : List Item} {p : Port} {h : Hdr} {op : Op} {angle : Int}
  {hand ab : Vec} {m : StaffMsg} {reg : Region} {es : List TableEntry}

/-! ### Operations of Params -/

@[simp] theorem State.wrI_votes {v : Int} : (s.wrI r d i v).votes y = s.votes y := by simp [State.wrI]
@[simp] theorem State.wrB_votes {v : Bool} : (s.wrB r d i v).votes y = s.votes y := by simp [State.wrB]
@[simp] theorem State.bumpBy_votes : (s.bumpBy r d i n).votes y = s.votes y := by simp [State.bumpBy]
@[simp] theorem State.bump_votes : (s.bump r d i).votes y = s.votes y := by simp [State.bump]
@[simp] theorem State.wrBit_votes {b : Bool} : (s.wrBit r d i n b).votes y = s.votes y := by simp [State.wrBit]
@[simp] theorem State.clr_votes : (s.clr r d i).votes y = s.votes y := by simp [State.clr]

/-! ### Operations of Flits -/

@[simp] theorem State.linkSend_votes {k : Link} : (s.linkSend k type msg).votes y = s.votes y := by simp [State.linkSend]

@[simp] theorem State.laneSend_votes : (s.laneSend r dst type msg).votes y = s.votes y := by
  unfold State.laneSend
  split <;> simp

@[simp] theorem State.onLinks_votes : (s.onLinks x).votes y = s.votes y := by
  unfold State.onLinks
  split <;> simp

@[simp] theorem State.send_votes : (s.send x).votes y = s.votes y := by simp [State.send]

/-! ### Operations of Ops -/

@[simp] theorem State.modBridge_votes : (s.modBridge l b f).votes y = s.votes y := by simp [State.modBridge]
@[simp] theorem State.modWbe_votes {f : Wbe → Wbe} : (s.modWbe l f).votes y = s.votes y := by simp [State.modWbe]
@[simp] theorem State.modHst_votes {f : Hst → Hst} : (s.modHst l f).votes y = s.votes y := by simp [State.modHst]
@[simp] theorem State.sendStaffAll_votes : (s.sendStaffAll l m).votes y = s.votes y := by simp [State.sendStaffAll]
@[simp] theorem State.triggerOrder_votes : (s.triggerOrder l o).votes y = s.votes y := by simp [State.triggerOrder]
@[simp] theorem State.event_votes : (s.event l code arg).votes y = s.votes y := by simp [State.event]
@[simp] theorem State.noteFall_votes : (s.noteFall l b k).votes y = s.votes y := by simp [State.noteFall]
@[simp] theorem State.riseLow_votes : (s.riseLow l b k).votes y = s.votes y := by simp [State.riseLow]
@[simp] theorem State.unblock_votes : (s.unblock l b).votes y = s.votes y := by simp [State.unblock]
@[simp] theorem State.shortGates_votes : (s.shortGates l b).votes y = s.votes y := by simp [State.shortGates]
@[simp] theorem State.commandsEnd_votes : (s.commandsEnd l b).votes y = s.votes y := by simp [State.commandsEnd]
@[simp] theorem State.setBridge_votes : (s.setBridge l b st).votes y = s.votes y := by simp [State.setBridge]
@[simp] theorem State.openExpress_votes : (s.openExpress l n).votes y = s.votes y := by simp [State.openExpress]
@[simp] theorem State.trackRestart_votes : (s.trackRestart l b).votes y = s.votes y := by simp [State.trackRestart]
@[simp] theorem State.dropOwn_votes : (s.dropOwn l b).votes y = s.votes y := by simp [State.dropOwn]
@[simp] theorem State.loseWinding_votes : (s.loseWinding l b).votes y = s.votes y := by simp [State.loseWinding]
@[simp] theorem State.withdraw_votes : (s.withdraw l b).votes y = s.votes y := by simp [State.withdraw]
@[simp] theorem State.withdrawAll_votes : (s.withdrawAll l).votes y = s.votes y := by simp [State.withdrawAll]
@[simp] theorem State.leave_votes : (s.leave l).votes y = s.votes y := by simp [State.leave]
@[simp] theorem State.fclAfterReset_votes : (s.fclAfterReset r).votes y = s.votes y := by simp [State.fclAfterReset]
@[simp] theorem State.stampReset_votes : (s.stampReset r src timeout).votes y = s.votes y := by simp [State.stampReset]
@[simp] theorem State.raiseEpoch_votes : (s.raiseEpoch r).votes y = s.votes y := by simp [State.raiseEpoch]
@[simp] theorem State.dropLinks_votes : (s.dropLinks reg).votes y = s.votes y := by simp [State.dropLinks]
@[simp] theorem State.resetPower_votes : (s.resetPower l).votes y = s.votes y := by simp [State.resetPower]

@[simp] theorem State.breakLock_votes : (s.breakLock r u).votes y = s.votes y := by
  unfold State.breakLock
  split
  · dsimp only
    split <;> simp
  · rfl

@[simp] theorem State.breakLocks_votes : (s.breakLocks r).votes y = s.votes y := by simp [State.breakLocks]
@[simp] theorem State.resetS_votes : s.resetS.votes y = s.votes y := by simp [State.resetS]
@[simp] theorem State.resetM_votes : s.resetM.votes y = s.votes y := by simp [State.resetM]

/-! ### Operations of Collector -/

@[simp] theorem State.updPin_votes : (s.updPin r).votes y = s.votes y := by simp [State.updPin]

@[simp] theorem State.tell_votes : (s.tell r src kind).votes y = s.votes y := by
  unfold State.tell
  split <;> simp

@[simp] theorem State.ordersLoaded_votes : (s.ordersLoaded l).votes y = s.votes y := by simp [State.ordersLoaded]

theorem laneBlockReset_vot (blk : Nat) (x : Lane) : (laneBlockReset blk x).vot = x.vot := by
  unfold laneBlockReset
  dsimp only
  split <;> rfl

@[simp] theorem State.blockReset_votes : (s.blockReset r blk).votes y = s.votes y := by
  unfold State.blockReset
  cases LaneId.ofReg r <;> simp [laneBlockReset_vot]

@[simp] theorem State.regionReset_votes : (s.regionReset r src timeout).votes y = s.votes y := by
  unfold State.regionReset
  dsimp only
  split
  · split <;> simp
  · split <;> simp
  all_goals simp

@[simp] theorem State.coreReact_votes : (s.coreReact r src bits).votes y = s.votes y := by
  unfold State.coreReact
  split <;> simp

@[simp] theorem State.react_votes : (s.react r src).votes y = s.votes y := by simp [State.react]
@[simp] theorem State.trouble_votes : (s.trouble r src).votes y = s.votes y := by simp [State.trouble]
@[simp] theorem State.stampLast_votes : (s.stampLast r src).votes y = s.votes y := by simp [State.stampLast]
@[simp] theorem State.stampFirst_votes : (s.stampFirst r src).votes y = s.votes y := by simp [State.stampFirst]

@[simp] theorem State.shadowNote_votes : (s.shadowNote r).votes y = s.votes y := by
  unfold State.shadowNote
  split <;> simp

@[simp] theorem State.noteHit_votes : (s.noteHit r src).votes y = s.votes y := by
  unfold State.noteHit
  split <;> simp

@[simp] theorem State.enterFault_votes : (s.enterFault r src).votes y = s.votes y := by simp [State.enterFault]
@[simp] theorem State.raise_votes : (s.raise r src held).votes y = s.votes y := by simp [State.raise]
@[simp] theorem State.release_votes : (s.release r src).votes y = s.votes y := by simp [State.release]
@[simp] theorem State.setRecTimes_votes : (s.setRecTimes r src ts).votes y = s.votes y := by simp [State.setRecTimes]
@[simp] theorem State.recover_votes : (s.recover r src).votes y = s.votes y := by simp [State.recover]
@[simp] theorem State.unlatch_votes : (s.unlatch r src).votes y = s.votes y := by simp [State.unlatch]

/-! ### Operations of Operands -/

@[simp] theorem State.takeDigest_votes : (s.takeDigest l).votes y = s.votes y := by simp [State.takeDigest]

/-! ### Operations of Learn -/

@[simp] theorem State.rpcClear_votes : (s.rpcClear l r).votes y = s.votes y := by simp [State.rpcClear]
@[simp] theorem State.rpcStamp_votes : (s.rpcStamp l r).votes y = s.votes y := by simp [State.rpcStamp]
@[simp] theorem State.rpcSave_votes : (s.rpcSave l r).votes y = s.votes y := by simp [State.rpcSave]

@[simp] theorem State.rpcRestore_votes : (s.rpcRestore l r).votes y = s.votes y := by
  unfold State.rpcRestore
  dsimp only
  split <;> simp

@[simp] theorem State.rpcFresh_votes : (s.rpcFresh l r).votes y = s.votes y := by simp [State.rpcFresh]
@[simp] theorem State.rpcEnable_votes : (s.rpcEnable l r).votes y = s.votes y := by simp [State.rpcEnable]
@[simp] theorem State.rpcDisable_votes : (s.rpcDisable l r).votes y = s.votes y := by simp [State.rpcDisable]

@[simp] theorem State.rpcCommand_votes : (s.rpcCommand l r).votes y = s.votes y := by
  unfold State.rpcCommand
  split <;> simp

@[simp] theorem State.rpcFadeLen_votes : (s.rpcFadeLen l r old).votes y = s.votes y := by simp [State.rpcFadeLen]

/-! ### Operations of Reply -/

@[simp] theorem State.orderNote_votes {r : Rsp} : (s.orderNote l r).votes y = s.votes y := by simp [State.orderNote]

@[simp] theorem State.deliver_votes {r : Reply} : (s.deliver l h r).votes y = s.votes y := by
  unfold State.deliver
  split <;> simp

@[simp] theorem State.noteReply_votes {r : Reply} : (s.noteReply l h opcode r good).votes y = s.votes y := by simp [State.noteReply]
@[simp] theorem State.reply_votes {r : Rsp} : (s.reply l h opcode r final deferred mask dup).votes y = s.votes y := by simp [State.reply]
@[simp] theorem State.answer_votes {r : Rsp} : (s.answer l h opcode r final deferred mask dup).votes y = s.votes y := by simp [State.answer]

/-! ### Operations of Gate -/

@[simp] theorem State.gatesOff_votes : (s.gatesOff l b).votes y = s.votes y := by simp [State.gatesOff]
@[simp] theorem State.clearLatch_votes : (s.clearLatch l b v).votes y = s.votes y := by simp [State.clearLatch]
@[simp] theorem State.latchWrite_votes : (s.latchWrite l b v).votes y = s.votes y := by simp [State.latchWrite]
@[simp] theorem State.precharge_votes : (s.precharge l b).votes y = s.votes y := by simp [State.precharge]
@[simp] theorem State.holdCal_votes {c : Nat} : (s.holdCal l s0 c).votes y = s.votes y := by simp [State.holdCal]

/-! ### Operations of Control -/

@[simp] theorem State.satRestart_votes : (s.satRestart l n).votes y = s.votes y := by simp [State.satRestart]
@[simp] theorem State.cenOpened_votes : (s.cenOpened l n manWritten).votes y = s.votes y := by simp [State.cenOpened]
@[simp] theorem State.cenClosed_votes : (s.cenClosed l n).votes y = s.votes y := by simp [State.cenClosed]
@[simp] theorem State.targetCmd_votes {v : Int} : (s.targetCmd l t v urgent).votes y = s.votes y := by simp [State.targetCmd]
@[simp] theorem State.effSteer_votes : (s.effSteer l h angle).votes y = s.votes y := by simp [State.effSteer]
@[simp] theorem State.effBrake_votes : (s.effBrake l h f1 f2 f3 f4).votes y = s.votes y := by simp [State.effBrake]

/-! ### Operations of Rotor -/

@[simp] theorem State.band_votes : (s.band l b w).votes y = s.votes y := by simp [State.band]
@[simp] theorem State.obsStart_votes {i : Vec} : (s.obsStart l b i th w).votes y = s.votes y := by simp [State.obsStart]
@[simp] theorem State.obsReport_votes : (s.obsReport l b).votes y = s.votes y := by simp [State.obsReport]
@[simp] theorem State.obsEnter_votes : (s.obsEnter l b src th w).votes y = s.votes y := by simp [State.obsEnter]

/-! ### Operations of Drive -/

@[simp] theorem State.enterRun_votes : (s.enterRun l b hand ab).votes y = s.votes y := by simp [State.enterRun]
@[simp] theorem State.beginCapture_votes : (s.beginCapture l b).votes y = s.votes y := by simp [State.beginCapture]

@[simp] theorem State.startBridge_votes : (s.startBridge l b).votes y = s.votes y := by
  unfold State.startBridge
  split
  · rfl
  · split <;> simp

@[simp] theorem State.markStopped_votes : (s.markStopped l b on).votes y = s.votes y := by simp [State.markStopped]
@[simp] theorem State.abortTest_votes : (s.abortTest l mask).votes y = s.votes y := by simp [State.abortTest]
@[simp] theorem State.effStart_votes : (s.effStart l mask).votes y = s.votes y := by simp [State.effStart]
@[simp] theorem State.startAlso_votes : (s.startAlso l b).votes y = s.votes y := by simp [State.startAlso]

@[simp] theorem State.stopBridge_votes : (s.stopBridge l b kind).votes y = s.votes y := by
  unfold State.stopBridge
  split
  · simp
  · split <;> simp

@[simp] theorem State.effStop_votes : (s.effStop l mask kind).votes y = s.votes y := by simp [State.effStop]
@[simp] theorem State.rejoinDrives_votes : (s.rejoinDrives l).votes y = s.votes y := by simp [State.rejoinDrives]

/-! ### Operations of Feedback -/

@[simp] theorem State.modCh_votes {f : FbiCh → FbiCh} : (s.modCh l ch f).votes y = s.votes y := by simp [State.modCh]
@[simp] theorem State.clearFaults_votes : (s.clearFaults l ch bits).votes y = s.votes y := by simp [State.clearFaults]
@[simp] theorem State.chConfigured_votes : (s.chConfigured l ch).votes y = s.votes y := by simp [State.chConfigured]

/-! ### Operations of Staff -/

@[simp] theorem State.holderGone_votes : (s.holderGone l cause).votes y = s.votes y := by simp [State.holderGone]
@[simp] theorem State.releaseStaff_votes : (s.releaseStaff l succ).votes y = s.votes y := by simp [State.releaseStaff]
@[simp] theorem State.effStaffRequest_votes : (s.effStaffRequest l lane).votes y = s.votes y := by simp [State.effStaffRequest]
@[simp] theorem State.effExcludeLane_votes : (s.effExcludeLane l lane).votes y = s.votes y := by simp [State.effExcludeLane]

/-! ### Operations of Sections -/

@[simp] theorem State.sendVote_votes : (s.sendVote l).votes y = s.votes y := by simp [State.sendVote]
@[simp] theorem State.voteFall_votes : (s.voteFall l).votes y = s.votes y := by simp [State.voteFall]
@[simp] theorem State.srcCommitted_votes : (s.srcCommitted l).votes y = s.votes y := by simp [State.srcCommitted]
@[simp] theorem State.setVoid_votes {c : Nat} : (s.setVoid l c).votes y = s.votes y := by simp [State.setVoid]
@[simp] theorem State.sdcReport_votes : (s.sdcReport l).votes y = s.votes y := by simp [State.sdcReport]

@[simp] theorem State.writeEntries_votes : (s.writeEntries l es).votes y = s.votes y := by
  unfold State.writeEntries
  split <;> simp

@[simp] theorem State.effTableLoad_votes : (s.effTableLoad l es).votes y = s.votes y := by simp [State.effTableLoad]
@[simp] theorem State.effTableAppend_votes : (s.effTableAppend l es).votes y = s.votes y := by simp [State.effTableAppend]
@[simp] theorem State.effForceOff_votes : (s.effForceOff l mask).votes y = s.votes y := by simp [State.effForceOff]
@[simp] theorem State.effHold_votes : (s.effHold l mask).votes y = s.votes y := by simp [State.effHold]
@[simp] theorem State.effRelease_votes : (s.effRelease l mask).votes y = s.votes y := by simp [State.effRelease]

/-! ### Operations of Inputs -/

@[simp] theorem State.tripReset_votes : (s.tripReset l).votes y = s.votes y := by simp [State.tripReset]
@[simp] theorem State.effConfirm_votes : (s.effConfirm l).1.votes y = s.votes y := by simp [State.effConfirm]

/-! ### Operations of Trace -/

@[simp] theorem State.modTrc_votes {f : Trc → Trc} : (s.modTrc l f).votes y = s.votes y := by simp [State.modTrc]
@[simp] theorem State.trcFilled_votes : (s.trcFilled l).votes y = s.votes y := by simp [State.trcFilled]
@[simp] theorem State.trcStart_votes : (s.trcStart l st).votes y = s.votes y := by simp [State.trcStart]
@[simp] theorem State.effTraceArm_votes : (s.effTraceArm l).votes y = s.votes y := by simp [State.effTraceArm]
@[simp] theorem State.effTraceTrigger_votes : (s.effTraceTrigger l).votes y = s.votes y := by simp [State.effTraceTrigger]
@[simp] theorem State.effTraceStop_votes : (s.effTraceStop l).votes y = s.votes y := by simp [State.effTraceStop]
@[simp] theorem State.effTraceStream_votes : (s.effTraceStream l on).votes y = s.votes y := by simp [State.effTraceStream]

/-! ### Operations of Outputs -/

@[simp] theorem State.athOut_votes : s.athOut.votes y = s.votes y := by simp [State.athOut]
@[simp] theorem State.voidS_votes : s.voidS.votes y = s.votes y := by simp [State.voidS]
@[simp] theorem State.setLatch_votes : (s.setLatch t v).votes y = s.votes y := by simp [State.setLatch]
@[simp] theorem State.stopPulse_votes : (s.stopPulse t).votes y = s.votes y := by simp [State.stopPulse]
@[simp] theorem State.pulse_votes : (s.pulse dir t).votes y = s.votes y := by simp [State.pulse]
@[simp] theorem State.engage_votes : (s.engage t).votes y = s.votes y := by simp [State.engage]
@[simp] theorem State.latchHolds_votes : s.latchHolds.votes y = s.votes y := by simp [State.latchHolds]

@[simp] theorem State.latchReleases_votes : s.latchReleases.votes y = s.votes y := by
  unfold State.latchReleases
  split
  · rfl
  · split <;> simp

@[simp] theorem State.testOver_votes : (s.testOver k).votes y = s.votes y := by simp [State.testOver]
@[simp] theorem State.evalS_votes : s.evalS.votes y = s.votes y := by simp [State.evalS]
@[simp] theorem State.armS_votes : (s.armS l epoch mask).1.votes y = s.votes y := by simp [State.armS]
@[simp] theorem State.disarmS_votes : (s.disarmS l mask).1.votes y = s.votes y := by simp [State.disarmS]
@[simp] theorem State.secClear_votes : (s.secClear k bits).votes y = s.votes y := by simp [State.secClear]

/-! ### Operations of Rejoin -/

@[simp] theorem State.armOrder_votes : (s.armOrder l o).votes y = s.votes y := by simp [State.armOrder]
@[simp] theorem State.servePhase_votes : (s.servePhase l).votes y = s.votes y := by simp [State.servePhase]
@[simp] theorem State.requestXfer_votes : (s.requestXfer l).votes y = s.votes y := by simp [State.requestXfer]
@[simp] theorem State.beginRejoin_votes : (s.beginRejoin l).votes y = s.votes y := by simp [State.beginRejoin]
@[simp] theorem State.hearRejoin_votes : (s.hearRejoin l).votes y = s.votes y := by simp [State.hearRejoin]
@[simp] theorem State.effRejoin_votes : (s.effRejoin l lane).votes y = s.votes y := by simp [State.effRejoin]

/-! ### Operations of Towline -/

@[simp] theorem State.twlClear_votes : (s.twlClear l).votes y = s.votes y := by simp [State.twlClear]
@[simp] theorem State.setsInvalid_votes : (s.setsInvalid l).votes y = s.votes y := by simp [State.setsInvalid]
@[simp] theorem State.twlListen_votes : (s.twlListen l).votes y = s.votes y := by simp [State.twlListen]
@[simp] theorem State.nowSynced_votes : (s.nowSynced l).votes y = s.votes y := by simp [State.nowSynced]
@[simp] theorem State.twlStart_votes : (s.twlStart l).votes y = s.votes y := by simp [State.twlStart]
@[simp] theorem State.twlOff_votes : (s.twlOff l).votes y = s.votes y := by simp [State.twlOff]
@[simp] theorem State.twlTables_votes : (s.twlTables l).votes y = s.votes y := by simp [State.twlTables]
@[simp] theorem State.lkgHalt_votes : (s.lkgHalt l).votes y = s.votes y := by simp [State.lkgHalt]

/-! ### Operations of Dispatcher -/

@[simp] theorem State.storeOrder_votes {ws : List (List Byte)} : (s.storeOrder l o ws).votes y = s.votes y := by simp [State.storeOrder]
@[simp] theorem State.effOrderLoad_votes {d : OrderTrigger} {ws : List Waybill} : (s.effOrderLoad l o action d ws).votes y = s.votes y :=
  by simp [State.effOrderLoad]
@[simp] theorem State.effOrderStart_votes : (s.effOrderStart l o).votes y = s.votes y := by simp [State.effOrderStart]
@[simp] theorem State.effOrderStop_votes : (s.effOrderStop l o).votes y = s.votes y := by simp [State.effOrderStop]

/-! ### Operations of Faults -/

@[simp] theorem State.sourceAssert_votes : (s.sourceAssert r src held).votes y = s.votes y := by
  unfold State.sourceAssert
  split <;> simp

@[simp] theorem State.effLatchClear_votes : (s.effLatchClear r bits).votes y = s.votes y := by simp [State.effLatchClear]
@[simp] theorem State.effErrClear_votes : (s.effErrClear r bits).votes y = s.votes y := by simp [State.effErrClear]

@[simp] theorem State.effTrouble_votes : (s.effTrouble r value).votes y = s.votes y := by
  unfold State.effTrouble
  split
  · rfl
  · dsimp only
    split <;> simp


/-! ### Operations of SelfTest -/

@[simp] theorem State.startRolling_votes : (s.startRolling l).votes y = s.votes y := by simp [State.startRolling]
@[simp] theorem State.effRolling_votes : (s.effRolling l lane).votes y = s.votes y := by simp [State.effRolling]
@[simp] theorem State.effConverter_votes : (s.effConverter l mask).votes y = s.votes y := by simp [State.effConverter]
@[simp] theorem State.effComparator_votes : (s.effComparator l mask fails).votes y = s.votes y := by simp [State.effComparator]
@[simp] theorem State.effInject_votes : (s.effInject l region src).votes y = s.votes y := by simp [State.effInject]

/-! ### Operations of Power -/

@[simp] theorem State.clkSet_votes : (s.clkSet l).votes y = s.votes y := by simp [State.clkSet]
@[simp] theorem State.effPower_votes : (s.effPower l state point).votes y = s.votes y := by simp [State.effPower]

/-! ### Operations of Fabric -/

@[simp] theorem State.emptyJournal_votes : (s.emptyJournal r u).votes y = s.votes y := by simp [State.emptyJournal]
@[simp] theorem State.journalAdd_votes : (s.journalAdd r u ks).votes y = s.votes y := by simp [State.journalAdd]
@[simp] theorem State.lockTo_votes : (s.lockTo r u owner st).votes y = s.votes y := by simp [State.lockTo]
@[simp] theorem State.lockFree_votes : (s.lockFree r u).votes y = s.votes y := by simp [State.lockFree]
@[simp] theorem State.lockRelease_votes : (s.lockRelease r u).votes y = s.votes y := by simp [State.lockRelease]

@[simp] theorem State.lockTake_votes : (s.lockTake r u owner).1.votes y = s.votes y := by
  unfold State.lockTake
  split <;> simp

@[simp] theorem State.countLocked_votes : (s.countLocked r a).votes y = s.votes y := by simp [State.countLocked]
@[simp] theorem State.lockHold_votes : (s.lockHold r u value owner).1.votes y = s.votes y := by simp [State.lockHold]
@[simp] theorem State.lockRollback_votes : (s.lockRollback r u owner).1.votes y = s.votes y := by simp [State.lockRollback]
@[simp] theorem State.fence_votes : (s.fence r epoch).votes y = s.votes y := by simp [State.fence]

/-! ### Operations of Station -/

@[simp] theorem State.logAppend_votes : (s.logAppend region kind code cycle data).votes y = s.votes y := by simp [State.logAppend]
@[simp] theorem State.effBegin_votes {o : UpdSource} : (s.effBegin o total).votes y = s.votes y := by simp [State.effBegin]
@[simp] theorem State.effChunk_votes : (s.effChunk data).votes y = s.votes y := by simp [State.effChunk]
@[simp] theorem State.reserveLeaf_votes : s.reserveLeaf.votes y = s.votes y := by simp [State.reserveLeaf]
@[simp] theorem State.effAttestNew_votes : (s.effAttestNew nonce).votes y = s.votes y := by simp [State.effAttestNew]
@[simp] theorem State.effApply_votes : s.effApply.votes y = s.votes y := by simp [State.effApply]
@[simp] theorem State.sendReports_votes : s.sendReports.votes y = s.votes y := by simp [State.sendReports]

/-! ### Operations of Write -/

@[simp] theorem State.putAll_votes : (s.putAll ws).votes y = s.votes y := by simp [State.putAll]
@[simp] theorem State.locksTake_votes : (s.locksTake owner us).1.votes y = s.votes y := by simp [State.locksTake]

@[simp] theorem State.applySpecial_votes {w : PWrite} : (s.applySpecial l w).votes y = s.votes y := by
  unfold State.applySpecial
  split <;> simp

@[simp] theorem State.applyOne_votes {w : PWrite} : (s.applyOne l w).votes y = s.votes y := by simp [State.applyOne]
@[simp] theorem State.cenCommitted_votes : (s0.cenCommitted s l ks).votes y = s.votes y := by simp [State.cenCommitted]
@[simp] theorem State.rpcCommitted_votes : (s0.rpcCommitted s l ks).votes y = s.votes y := by simp [State.rpcCommitted]
@[simp] theorem State.spiCommitted_votes : (s0.spiCommitted s l).votes y = s.votes y := by simp [State.spiCommitted]
@[simp] theorem State.twlCommitted_votes : (s0.twlCommitted s l).votes y = s.votes y := by simp [State.twlCommitted]
@[simp] theorem State.archiveSet_votes : (s.archiveSet l).votes y = s.votes y := by simp [State.archiveSet]
@[simp] theorem State.announceCrcs_votes : (s.announceCrcs l ks).votes y = s.votes y := by simp [State.announceCrcs]
@[simp] theorem State.calCommitted_votes : (s0.calCommitted s l).votes y = s.votes y := by simp [State.calCommitted]
@[simp] theorem State.trackCommitted_votes : (s0.trackCommitted s l ks).votes y = s.votes y := by simp [State.trackCommitted]
@[simp] theorem State.cmtCommitted_votes : (s0.cmtCommitted s l ks).votes y = s.votes y := by simp [State.cmtCommitted]
@[simp] theorem State.committed_votes : (s0.committed s l region ks).votes y = s.votes y := by simp [State.committed]
@[simp] theorem State.applyWrites_votes : (s.applyWrites l epoch region ws).1.votes y = s.votes y := by simp [State.applyWrites]
@[simp] theorem State.effGet_votes : (s.effGet ids).1.votes y = s.votes y := by simp [State.effGet]

/-! ### Operations of Consists -/

@[simp] theorem State.modConsist_votes {f : Consist → Consist} : (s.modConsist l p id f).votes y = s.votes y := by simp [State.modConsist]
@[simp] theorem State.closeConsist_votes : (s.closeConsist l c).votes y = s.votes y := by simp [State.closeConsist]
@[simp] theorem State.releaseLocks_votes : (s.releaseLocks c).votes y = s.votes y := by simp [State.releaseLocks]
@[simp] theorem State.dropConsist_votes : (s.dropConsist l c).votes y = s.votes y := by simp [State.dropConsist]
@[simp] theorem State.answerMembers_votes {r : Rsp} : (s.answerMembers l c r).votes y = s.votes y := by simp [State.answerMembers]
@[simp] theorem State.failConsist_votes {r : Rsp} : (s.failConsist l c r).votes y = s.votes y := by simp [State.failConsist]
@[simp] theorem State.stageAt_votes : (s.stageAt l epoch items).1.votes y = s.votes y := by simp [State.stageAt]

@[simp] theorem State.addMember_votes : (s.addMember l h items).votes y = s.votes y := by
  unfold State.addMember
  split <;> simp

@[simp] theorem State.stage_votes : (s.stage l h items).1.votes y = s.votes y := by simp [State.stage]

@[simp] theorem State.commitNow_votes : (s.commitNow l h c).1.votes y = s.votes y := by
  unfold State.commitNow
  split <;> simp

@[simp] theorem State.hold_votes : (s.hold l h op voted).votes y = s.votes y := by simp [State.hold]

@[simp] theorem State.commitAccept_votes : (s.commitAccept l h).1.votes y = s.votes y := by
  unfold State.commitAccept
  split
  · rfl
  · split
    · rfl
    · split
      · simp
      · split <;> simp

@[simp] theorem State.commitHead_votes : (s.commitHead l h).1.votes y = s.votes y := by
  unfold State.commitHead
  split
  · rfl
  · dsimp only
    split <;> simp

@[simp] theorem State.commit_votes : (s.commit l h).1.votes y = s.votes y := by
  unfold State.commit
  dsimp only
  split
  · simp
  · split <;> simp

@[simp] theorem State.abortConsist_votes : (s.abortConsist l h).1.votes y = s.votes y := by
  unfold State.abortConsist
  split <;> simp

@[simp] theorem State.mEff_votes {o : UpdSource} : (s.mEff o op).1.votes y = s.votes y := by
  cases op with
  | attest part n => cases n <;> simp [State.mEff]
  | _ => simp [State.mEff]

@[simp] theorem State.opEff_votes : (s.opEff l h op).1.votes y = s.votes y := by
  unfold State.opEff
  split <;> simp

end

end Sys2Proof.Machine
end

section
/-! PROOFS. Commit instants, relays to M and S and their answers (R38, R42, R51, R58, R100). -/

namespace Sys2Proof.Machine

open Par Var

section
variable {s t u : State} {l : LaneId} {tag : Nat} {h : Hdr} {r : Rsp}

/-! ### A copy a peer announces (R93, R100) -/

theorem announceReceive_runs {x : LaneId} (up : s.up l = true) (peer : x ≠ l) (there : s.hasRegion x.reg = true)
    (noAgreed : (s.lane l).vot.agreed = []) (noWaiting : (s.lane l).vot.waiting = []) (stamp crc : Nat) (raw : List Byte) :
    Runs (.announceReceive l x stamp raw crc) s (fun t =>
      (∃ c ∈ (t.lane l).vot.copies, c.lane = x ∧ c.stamp = stamp ∧ c.raw = raw ∧ c.crc = crc ∧ c.own = none) ∧ (∀ c ∈ (s.lane l).vot.copies,
        c ∈ (t.lane l).vot.copies) ∧ t.params = s.params ∧ t.sent = s.sent ∧ SameOtherLanes s t l) := by
  set c : VCopy := ⟨x, stamp, s.cycleAt l stamp, raw, crc, none⟩ with hc
  have fresh (k : VKey) : ¬ (((s.lane l).vot.agreedOf k).isSome = true ∨ ((s.lane l).vot.waitingOf k).isSome = true) := by
    simp [Vot.agreedOf, Vot.waitingOf, noAgreed, noWaiting]
  have entered : exec (.announceReceive l x stamp raw crc) s = .next (s.modVot l (fun v => { v with copies := v.copies ++ [c] })) := by
    refine congrArg Host.Outcome.next ?_
    rw [State.whenUp, if_pos up, if_neg (by simp [peer, there]), if_neg (fresh _)]
  refine ⟨_, entered, ⟨c, ?_⟩, ?_, by simp, by simp, (SameOtherLanes.refl s l).modLane _⟩
  · simp [hc]
  · intro d hd
    simp [hd]

/-! ### Answers to a relay (R38, R42) -/

/-- The relay awaited is found under its tag. -/
theorem State.relayOf_tag {x : RelayWait} (found : s.relayOf l tag = some x) : x.tag = tag := by
  simpa using List.find?_some found

theorem State.relayOf_gone (same : (t.lane l).wbe.relays = ((s.relayGone l tag).lane l).wbe.relays) : t.relayOf l tag = none := by
  simp [State.relayOf, same, State.relayGone, List.find?_eq_none]

/-- What an answer does before it goes out: the relay is no longer awaited, a member that failed is out of its consist (R38, R56). -/
theorem State.memberDone_leaves (s : State) (l : LaneId) (x : RelayWait) (r : Rsp) :
    Replies l s ((s.relayGone l tag).memberDone l x r) ∧ ((s.relayGone l tag).memberDone l x r).sent = s.sent ∧
      ((s.relayGone l tag).memberDone l x r).params = s.params ∧
      (((s.relayGone l tag).memberDone l x r).lane l).wbe.relays = ((s.relayGone l tag).lane l).wbe.relays := by
  have gone : Replies l s (s.relayGone l tag) := (Replies.refl l s).modWbe _
  have base : (s.relayGone l tag).sent = s.sent ∧ (s.relayGone l tag).params = s.params := ⟨by simp [State.relayGone], by simp [State.relayGone]⟩
  unfold State.memberDone
  split
  · next h _ =>
    split
    · obtain ⟨sent, params, relays⟩ := State.markFailed_leaves ((s.relayGone l tag).dropMember l h) l h 0x0103 r
      refine ⟨State.markFailed_replies (gone.modWbe _) h 0x0103 r, ?_, ?_, ?_⟩
      · rw [sent, ← base.1]
        exact State.modWbe_sent ..
      · rw [params, ← base.2]
        exact State.modWbe_params ..
      · rw [relays, State.dropMember, State.modConsist, State.modWbe_wbe]
    · exact ⟨gone, base.1, base.2, rfl⟩
  · exact ⟨gone, base.1, base.2, rfl⟩

/-- The answer to a relayed waybill of the 100BASE-T1 port is its final one, or the interim one of a member. -/
theorem State.relayDone_t1 {x : RelayWait} (found : s.relayOf l tag = some x) (asked : x.hdr = some h) (plain : x.key = none)
    (single : x.consist = none) (alone : x.also = []) (port : h.port = .t1) (heard : (!r.good || h.ackReq) = true) :
    (s.relayDone l x r).sent = s.sent ++ [s.replyT1 l h.src (mkReply l h x.opcode r (!interim x.opcode r) (interim x.opcode r) x.mask)] ∧
      (s.relayDone l x r).relayOf l tag = none ∧ (∀ k, NoReplyPlace l k → (s.relayDone l x r).params.get k = s.params.get k) ∧
      SameOtherLanes s (s.relayDone l x r) l := by
  obtain ⟨replies, sent, params, relays⟩ := State.memberDone_leaves (tag := tag) s l x r
  set u := (s.relayGone l tag).memberDone l x r with hu
  have done : s.relayDone l x r = u.answer l h x.opcode r (!interim x.opcode r) (interim x.opcode r) x.mask := by
    simp only [State.relayDone, State.relayOf_tag found, State.consistDone, single, asked, alone, plain, List.foldl_nil, hu]
  have answered : (!r.good || x.opcode == 0x0101 || h.ackReq) = true := by
    cases g : r.good <;> simp_all
  have all : Replies l s (s.relayDone l x r) := by
    rw [done]
    exact State.answer_replies replies ..
  refine ⟨?_, ?_, all.get, all.others⟩
  · rw [done, State.answer_sent port, if_pos answered, sent]
    rw [State.replyT1_congr (s := s) (by simp [State.rd, params]) (by simp [State.rd, params])]
  · rw [done]
    exact State.relayOf_gone ((State.answer_engine (.refl l u) ..).relays.trans relays)

theorem relayTimeout_runs {x : RelayWait} (up : s.hostUp l = true) (found : s.relayOf l tag = some x) (asked : x.hdr = some h)
    (plain : x.key = none) (single : x.consist = none) (alone : x.also = []) (port : h.port = .t1) :
    Runs (.relayTimeout l tag) s (fun t => t.sent = s.sent ++ [s.replyT1 l h.src (mkReply l h x.opcode (rRange 0 8) true false x.mask)] ∧
      t.relayOf l tag = none ∧ (∀ k, NoReplyPlace l k → t.params.get k = s.params.get k) ∧ SameOtherLanes s t l) := by
  refine .ofHost rfl up ?_
  simp only [found]
  exact State.relayDone_t1 (r := rRange 0 8) found asked plain single alone port rfl

theorem relayReplyReceive_runs {x : RelayWait} (up : s.hostUp l = true) (found : s.relayOf l tag = some x) (asked : x.hdr = some h)
    (plain : x.key = none) (single : x.consist = none) (alone : x.also = []) (port : h.port = .t1) (ack : h.ackReq = true) (r : Reply) :
    Runs (.relayReplyReceive l tag r) s (fun t =>
      t.sent = s.sent ++ [s.replyT1 l h.src (mkReply l h x.opcode ⟨r.status, r.data⟩ (!interim x.opcode ⟨r.status, r.data⟩)
        (interim x.opcode ⟨r.status, r.data⟩) x.mask)] ∧
      t.relayOf l tag = none ∧ (∀ k, NoReplyPlace l k → t.params.get k = s.params.get k) ∧ SameOtherLanes s t l) := by
  refine .ofHost rfl up ?_
  simp only [found]
  exact State.relayDone_t1 found asked plain single alone port (by simp [ack])

/-- An answer no longer awaited is discarded. -/
theorem relay_forgotten (gone : s.relayOf l tag = none) (r : Reply) :
    Runs (.relayReplyReceive l tag r) s (fun t => t = s) ∧ Runs (.relayTimeout l tag) s (fun t => t = s) :=
  ⟨.hostIdle rfl (by simp only [gone]), .hostIdle rfl (by simp only [gone])⟩

/-! ### M and S answer (R38, R39) -/

/-- Only the opcode of GET parses to a GET. -/
theorem parseOp_get {n : Nat} {p : List Byte} {ids : List Nat} (parsed : parseOp n p = .ok (.get ids)) : n ≠ 0x0104 := by
  rintro rfl
  simp only [parseOp, fixedLen] at parsed
  split at parsed <;> simp at parsed

/-- The target of a relayed waybill is a block of the die. -/
theorem relay_target {d : Shared} {w : Waybill} (here : w.region = d.reg) (block : blockIn w.region w.block = true) :
    ¬ (w.region ≠ d.reg ∨ (!blockIn w.region w.block) = true) := by
  rw [block]
  exact not_or.mpr ⟨not_not.mpr here, by decide⟩

theorem State.relayIn_get {d : Shared} {epoch : Nat} {w : Waybill} {ids : List Nat} (here : w.region = d.reg)
    (block : blockIn w.region w.block = true) (opcode : opcodeIn w.opcode w.region w.block l.reg l.pow = true)
    (parsed : parseOp w.opcode w.params = .ok (.get ids)) (passed : chkGet (w.hdr .spi 0) ids = none) :
    s.relayIn d l epoch w = s.effGet ids := by
  rw [State.relayIn, if_neg (relay_target here block), if_neg (by simp [opcode]), if_neg (parseOp_get parsed)]
  simp only [parsed, State.dieRun, passed]

theorem relayReceive_runs {d : Shared} (up : s.sharedUp d = true) (l : LaneId) (tag epoch : Nat) (w : Waybill) :
    Runs (.relayReceive d l tag epoch w) s (fun t =>
      t = ((s.relayIn d l epoch w).1).send (.relayReply d l tag (dieReply l w (s.relayIn d l epoch w).2)) ∧
      (w.region ≠ d.reg → t = s.send (.relayReply d l tag (dieReply l w (rRange 0 8)))) ∧
      (w.region = d.reg → blockIn w.region w.block = true → opcodeIn w.opcode w.region w.block l.reg l.pow = false →
        t = s.send (.relayReply d l tag (dieReply l w rUnknown))) ∧
      (∀ ids, w.region = d.reg → blockIn w.region w.block = true → opcodeIn w.opcode w.region w.block l.reg l.pow = true →
        parseOp w.opcode w.params = .ok (.get ids) → chkGet (w.hdr .spi 0) ids = none →
        t = (s.effGet ids).1.send (.relayReply d l tag (dieReply l w (s.effGet ids).2)))) := by
  refine ⟨_, congrArg Host.Outcome.next (if_pos up), rfl, fun other => ?_, fun here block unknown => ?_, fun ids here block opcode parsed passed => ?_⟩
  · rw [State.relayIn, if_pos (.inl other)]
  · rw [State.relayIn, if_neg (relay_target here block), if_pos (by simp [unknown])]
  · rw [State.relayIn_get here block opcode parsed passed]

/-! ### The commit instant (R51, R58) -/

/-- A held waybill other than a COMMIT takes the effect of its opcode. -/
theorem State.heldRun_op {e : HeldWb} (noCommit : e.op ≠ .commit) : s.heldRun l e = s.runOp l e.hdr e.op 0 none (some e.hdr) := by
  unfold State.heldRun
  split
  · contradiction
  · rfl

/-- The one waybill due. -/
theorem State.dueNow_one {e : HeldWb} (queue : (s.lane l).wbe.commitQ = [e]) (unvoted : e.voted = false) (due : s.cycleDue l e.at' = true)
    (noWaiting : (s.lane l).vot.waiting = []) : s.dueNow l = [.inl e] := by
  simp [State.dueNow, queue, unvoted, due, noWaiting, sortBy, insertBy, mergeDue]

/-- A record without copies has no key to fail. -/
theorem State.failOverdue_none (empty : (s.lane l).vot.copies = []) : s.failOverdue l = s := by
  unfold State.failOverdue
  split
  · rfl
  · simp [Vot.openKeys, empty]

theorem State.modVot_id {f : Vot → Vot} (kept : f (s.lane l).vot = (s.lane l).vot) : s.modVot l f = s := by
  refine State.modLane_id ?_
  rw [kept]

theorem Vot.filter_waiting_nil {v : Vot} (none : v.waiting = []) (p : VWaiting → Bool) : { v with waiting := v.waiting.filter p } = v := by
  cases v
  cases none
  rfl

/-- What is due is taken out of the queue and takes effect. -/
theorem State.commitInstant_one {e : HeldWb} (synced : s.synced l = true) (steady : s.rdB l.reg WBE_RESYNC = false)
    (queue : (s.lane l).wbe.commitQ = [e]) (unvoted : e.voted = false) (due : s.cycleDue l e.at' = true)
    (noWaiting : (s.lane l).vot.waiting = []) :
    s.commitInstant l = ((s.modWbe l (fun w => { w with commitQ := [] })).heldEffect l e).failOverdue l := by
  have calm : s.resyncQueue l = s := by simp [State.resyncQueue, steady]
  have taken : s.modWbe l (fun x => { x with commitQ := x.commitQ.filter (fun e => !(!e.voted && s.cycleDue l e.at')) }) =
      s.modWbe l (fun w => { w with commitQ := [] }) := State.modLane_congr (by simp [queue, unvoted, due])
  have rest : (s.modWbe l (fun w => { w with commitQ := [] })).modVot l (fun v => { v with waiting := v.waiting.filter (fun w => !s.cycleDue l w.at') }) =
      s.modWbe l (fun w => { w with commitQ := [] }) := by
    have none : ((s.modWbe l (fun w => { w with commitQ := [] })).lane l).vot.waiting = [] := by simp [State.modWbe, noWaiting]
    exact State.modVot_id (Vot.filter_waiting_nil none _)
  simp only [State.commitInstant, synced, Bool.not_true, Bool.false_eq_true, if_false, calm, taken, rest, State.dueNow_one queue unvoted due noWaiting,
    List.foldl_cons, List.foldl_nil, State.dueEffect]

theorem commitInstantReached_runs {e : HeldWb} (up : s.hostUp l = true) (synced : s.synced l = true) (steady : s.rdB l.reg WBE_RESYNC = false)
    (queue : (s.lane l).wbe.commitQ = [e]) (held : e.voted = false) (unvoted : e.hdr.voted = false) (due : s.cycleDue l e.at' = true)
    (noCommit : e.op ≠ .commit) (near : e.hdr.region < 7) (single : ofConsist (opcodeOf e.op) = false)
    (hu : u = s.modWbe l (fun w => { w with commitQ := [] })) (passed : u.shared l e.hdr (opcodeOf e.op) (u.opChk l e.hdr e.op) = none)
    (noWaiting : (s.lane l).vot.waiting = []) (noCopies : (s.lane l).vot.copies = []) :
    Runs (.commitInstantReached l) s (fun t => t = (u.opEff l e.hdr e.op).1.answer l e.hdr (opcodeOf e.op) (u.opEff l e.hdr e.op).2
      true false 0) := by
  have opcode : opcodeOf e.op ≠ 0x0104 := by
    intro commit
    simp [ofConsist, commit] at single
  have effect : u.heldEffect l e = (u.opEff l e.hdr e.op).1.answer l e.hdr (opcodeOf e.op) (u.opEff l e.hdr e.op).2 true false 0 := by
    simp only [State.heldEffect, State.heldRun_op noCommit, State.runOp_passed unvoted near opcode passed]
  have votes : ((u.opEff l e.hdr e.op).1.answer l e.hdr (opcodeOf e.op) (u.opEff l e.hdr e.op).2 true false 0).votes l = s.votes l := by simp [hu]
  refine .ofHost rfl up ?_
  rw [State.commitInstant_one synced steady queue held due noWaiting, ← hu, effect]
  exact State.failOverdue_none ((congrArg Vot.copies votes).trans noCopies)

end

/-- Settles O15. -/
theorem commitInstantsAndRelays : Obligations.CommitInstantsAndRelays :=
  ⟨fun _ _ stamp crc raw _ up peer there noAgreed noWaiting => announceReceive_runs up peer there noAgreed noWaiting stamp crc raw,
    fun _ _ _ _ up synced steady queue held unvoted due noCommit near single hu passed noWaiting noCopies =>
      commitInstantReached_runs up synced steady queue held unvoted due noCommit near single hu passed noWaiting noCopies,
    fun _ _ out => .hostIdle rfl (if_pos (by simp [out])),
    fun _ _ _ _ _ up found asked plain single alone port => relayTimeout_runs up found asked plain single alone port,
    fun _ _ r _ _ _ up found asked plain single alone port ack => relayReplyReceive_runs up found asked plain single alone port ack r,
    fun _ _ r _ gone => relay_forgotten gone r, fun _ l tag epoch w _ up => relayReceive_runs up l tag epoch w⟩

end Sys2Proof.Machine
end

section
/-! PROOFS. Flits: their check bit by bit, the fields of a flit, a message cut into payloads, and the bytes of the messages between dies. -/

namespace Sys2Proof

/-! ### The check of a flit (R83) -/

/-- One bit of the check of R83: the remainder moves up, and takes the polynomial where its top bit and the message's bit differ. -/
def crc16Step (c : Nat) (m : Bool) : Nat :=
  let c2 := (c * 2) % 65536
  if (c.testBit 15).xor m then c2 ^^^ 0x1021 else c2

/-- Bits of the message still to come stand above the remainder: the one that leaves at the top is the one that enters the step. -/
theorem crc16Bit_xor (c y : Nat) : crc16Bit (c ^^^ y) = crc16Step c (y.testBit 15) ^^^ ((y * 2) % 65536) := by
  have up : ((c ^^^ y) * 2) % 65536 = (c * 2 % 65536) ^^^ (y * 2 % 65536) := by
    rw [show 65536 = 2 ^ 16 from rfl, ← Nat.xor_mod_two_pow]
    congr 1
    simpa [Nat.shiftLeft_eq] using Nat.shiftLeft_xor_distrib (a := c) (b := y) (i := 1)
  simp only [crc16Bit, crc16Step, Nat.testBit_xor, up]
  split
  · rw [Nat.xor_assoc, Nat.xor_comm _ 0x1021, ← Nat.xor_assoc]
  · rfl

/-- What is left of a byte above the remainder after `i` of its bits have entered. -/
def crc16Left (b : Byte) (i : Nat) : Nat := b.toNat * 2 ^ (8 + i) % 65536

theorem crc16Left_succ (b : Byte) (i : Nat) : crc16Left b i * 2 % 65536 = crc16Left b (i + 1) := by
  simp only [crc16Left, Nat.mod_mul_mod, ← Nat.add_assoc, Nat.pow_succ _ (8 + i), Nat.mul_assoc]

theorem crc16Left_top (b : Byte) {i : Nat} (h : i < 8) : (crc16Left b i).testBit 15 = b.getLsbD (7 - i) := by
  rw [crc16Left, show 65536 = 2 ^ 16 from rfl, Nat.testBit_mod_two_pow, ← Nat.shiftLeft_eq, Nat.testBit_shiftLeft, BitVec.testBit_toNat]
  have at7 : 15 - (8 + i) = 7 - i := by omega
  have le : 15 ≥ 8 + i := by omega
  simp [at7, le]

theorem crc16Left_end (b : Byte) : crc16Left b (7 + 1) = 0 := by simp [crc16Left]

theorem crc16Bit_left (c : Nat) (b : Byte) {i : Nat} (h : i < 8) :
    crc16Bit (c ^^^ crc16Left b i) = crc16Step c (b.getLsbD (7 - i)) ^^^ crc16Left b (i + 1) := by
  rw [crc16Bit_xor, crc16Left_top b h, crc16Left_succ]

/-- A byte enters bit by bit, most significant first. -/
theorem crc16Byte_eq (c : Nat) (b : Byte) : crc16Byte c b = (List.range 8).foldl (fun c i => crc16Step c (b.getLsbD (7 - i))) c := by
  have start : b.toNat * 256 = crc16Left b 0 := by
    have := b.isLt
    simp only [crc16Left]
    omega
  simp only [crc16Byte, start, crc16Bit_left _ _ (by decide : 0 < 8), crc16Bit_left _ _ (by decide : 1 < 8),
    crc16Bit_left _ _ (by decide : 2 < 8), crc16Bit_left _ _ (by decide : 3 < 8), crc16Bit_left _ _ (by decide : 4 < 8),
    crc16Bit_left _ _ (by decide : 5 < 8), crc16Bit_left _ _ (by decide : 6 < 8), crc16Bit_left _ _ (by decide : 7 < 8), crc16Left_end,
    Nat.xor_zero]
  rfl

/-- The check of bytes followed by one more. -/
theorem crc16_snoc (raw : List Byte) (b : Byte) :
    crc16 (raw ++ [b]) = (List.range 8).foldl (fun c i => crc16Step c (b.getLsbD (7 - i))) (crc16 raw) := by
  rw [crc16, List.foldl_append, List.foldl_cons, List.foldl_nil, crc16Byte_eq]
  rfl

theorem crc16Step_lt (c : Nat) (m : Bool) : crc16Step c m < 2 ^ 16 := by
  have low : (c * 2) % 65536 < 2 ^ 16 := Nat.mod_lt _ (by decide)
  simp only [crc16Step]
  split
  · exact Nat.xor_lt_two_pow low (by decide)
  · exact low

/-- The check has 16 bits. -/
theorem crc16_lt (raw : List Byte) : crc16 raw < 2 ^ 16 := by
  induction raw using List.reverseRecOn with
  | nil => decide
  | append_singleton raw b =>
    rw [crc16_snoc, List.range_succ, List.foldl_append]
    exact crc16Step_lt _ _

/-! ### A sealed flit (R82, R83) -/

/-- The first bytes of a field know nothing of what lies above them. -/
theorem toLe_add_mul (n v x : Nat) : toLe n (v + 256 ^ n * x) = toLe n v := by
  induction n generalizing v with
  | zero => rfl
  | succ n ih =>
    have e : v + 256 ^ (n + 1) * x = v + 256 * (256 ^ n * x) := by rw [Nat.pow_succ', Nat.mul_assoc]
    rw [toLe, toLe, e, Nat.add_mul_div_left _ _ (by decide), ih]
    congr 1
    exact BitVec.eq_of_toNat_eq (by simp [byte])

section
variable {low : Nat} (short : low < 2 ^ 112)
include short

theorem flitSeal_low : flitSeal low % 2 ^ 112 = low := by
  rw [flitSeal, Nat.add_mul_mod_self_left, Nat.mod_eq_of_lt short]

theorem flitSeal_check : bits (flitSeal low) 127 112 = crc16 (toLe 14 low) := by
  rw [flitSeal, bits, Nat.add_mul_div_left _ _ (by decide), Nat.div_eq_of_lt short, Nat.zero_add]
  exact Nat.mod_eq_of_lt (crc16_lt _)

theorem flitSeal_checkLow : bits (flitSeal low) 119 112 = crc16 (toLe 14 low) % 256 := by
  rw [flitSeal, bits, Nat.add_mul_div_left _ _ (by decide), Nat.div_eq_of_lt short, Nat.zero_add]
  rfl

/-- A sealed flit passes its check. -/
theorem flitOk_flitSeal : flitOk (flitSeal low) = true := by
  rw [flitOk, flitSeal_check short, flitSeal, show (2 : Nat) ^ 112 = 256 ^ 14 by norm_num, toLe_add_mul]
  exact beq_self_eq_true _

omit short in
/-- A field below the check is the field of what was sealed. -/
theorem bits_flitSeal {hi lo : Nat} (order : lo ≤ hi) (below : hi < 112) : bits (flitSeal low) hi lo = bits low hi lo := by
  have split : 2 ^ 112 = 2 ^ lo * (2 ^ (hi - lo + 1) * 2 ^ (111 - hi)) := by
    rw [← pow_add, ← pow_add]
    congr 1
    omega
  rw [flitSeal, bits, bits, split, Nat.mul_assoc, Nat.add_mul_div_left _ _ (Nat.two_pow_pos _), Nat.mul_assoc, Nat.add_mul_mod_self_left]

theorem bit_flitSeal {i : Nat} (below : i < 112) : bit (flitSeal low) i = bit low i := by
  rw [bit, bit, ← flitSeal_low short, Nat.testBit_mod_two_pow, flitSeal_low short]
  simp [below]

end

/-- The check polynomial of the manual on its example (R83). -/
theorem crc16_example : crc16 ("123456789".toList.map (fun c => byte c.toNat)) = 0x29B1 := by decide +kernel

/-- Settles O7: the byte step unrolled into its eight bits, and the seal's two parts apart. -/
theorem flitCheckIsTheCrc16OfTheManual : Obligations.FlitCheckIsTheCrc16OfTheManual := by
  unfold Obligations.FlitCheckIsTheCrc16OfTheManual
  exact ⟨rfl, crc16_snoc, crc16_example, fun _ short => ⟨flitSeal_check short, flitSeal_low short, flitSeal_checkLow short⟩⟩

/-! ### The fields of a flit (R82) -/

/-- The low 112 bits of a flit with 12 bytes of payload. -/
def flitLow (type src seq : Nat) (first last : Bool) (p : List Byte) : Nat :=
  type + src * 2 ^ 4 + seq * 2 ^ 8 + b2n first * 2 ^ 12 + b2n last * 2 ^ 13 + 2 ^ 16 * ofLe p

theorem b2n_lt (b : Bool) : b2n b < 2 := by cases b <;> decide

theorem decide_b2n (b : Bool) : decide (b2n b = 1) = b := by cases b <;> decide

section
variable {type src seq : Nat} {first last : Bool} {p : List Byte} (ht : type < 16) (hsrc : src < 16) (hseq : seq < 16) (hp : p.length = 12)
include ht hsrc hseq hp

theorem flitLow_lt : flitLow type src seq first last p < 2 ^ 112 := by
  have payload : ofLe p < 2 ^ 96 := by simpa [hp] using Machine.ofLe_lt p
  have := b2n_lt first
  have := b2n_lt last
  rw [flitLow]
  omega

theorem flitWord_eq : flitWord type src seq first last p = flitSeal (flitLow type src seq first last p) := by
  have pad : padTo 12 p = p := by simp [padTo, ← hp]
  rw [flitWord, flitLow, pad, Nat.mod_eq_of_lt ht, Nat.mod_eq_of_lt hsrc, Nat.mod_eq_of_lt hseq]

theorem flitPayload_flitWord : flitPayload (flitWord type src seq first last p) = p := by
  have := b2n_lt first
  have := b2n_lt last
  have above : flitSeal (flitLow type src seq first last p) / 2 ^ 16 = ofLe p + 256 ^ 12 * crc16 (toLe 14 (flitLow type src seq first last p)) := by
    rw [flitSeal]
    generalize crc16 (toLe 14 (flitLow type src seq first last p)) = c
    rw [flitLow]
    omega
  rw [flitPayload, flitWord_eq ht hsrc hseq hp, above, toLe_add_mul, ← hp, Machine.toLe_ofLe]

/-- A flit passes its check, gives its payload back and carries its fields where R82 places them. -/
theorem flitWord_fields : flitOk (flitWord type src seq first last p) = true ∧ flitPayload (flitWord type src seq first last p) = p ∧
    bits (flitWord type src seq first last p) 3 0 = type ∧ bits (flitWord type src seq first last p) 7 4 = src ∧
    bits (flitWord type src seq first last p) 11 8 = seq ∧ bit (flitWord type src seq first last p) 12 = first ∧
    bit (flitWord type src seq first last p) 13 = last := by
  have short := flitLow_lt (first := first) (last := last) ht hsrc hseq hp
  have f2 := b2n_lt first
  have l2 := b2n_lt last
  refine ⟨?_, flitPayload_flitWord ht hsrc hseq hp, ?_⟩
  · rw [flitWord_eq ht hsrc hseq hp]
    exact flitOk_flitSeal short
  · rw [flitWord_eq ht hsrc hseq hp, bits_flitSeal (by decide) (by decide), bits_flitSeal (by decide) (by decide),
      bits_flitSeal (by decide) (by decide), bit_flitSeal short (by decide), bit_flitSeal short (by decide)]
    simp only [bits, bit, Nat.testBit_eq_decide_div_mod_eq, flitLow]
    have at12 : (type + src * 2 ^ 4 + seq * 2 ^ 8 + b2n first * 2 ^ 12 + b2n last * 2 ^ 13 + 2 ^ 16 * ofLe p) / 2 ^ 12 % 2 = b2n first := by omega
    have at13 : (type + src * 2 ^ 4 + seq * 2 ^ 8 + b2n first * 2 ^ 12 + b2n last * 2 ^ 13 + 2 ^ 16 * ofLe p) / 2 ^ 13 % 2 = b2n last := by omega
    rw [at12, at13]
    exact ⟨by omega, by omega, by omega, decide_b2n first, decide_b2n last⟩

end

/-! ### A message in payloads (R84) -/

theorem payloads_flatten : ∀ (n : Nat) (raw : List Byte), raw.length ≤ n → (payloads n raw).flatten = raw
  | 0, raw, h => by simp [payloads, List.length_eq_zero_iff.mp (Nat.le_zero.mp h)]
  | n + 1, raw, h => by
    rw [payloads]
    split
    · next empty => simp [List.isEmpty_iff.mp empty]
    · next some =>
      have pos : 0 < raw.length := List.length_pos_iff.mpr (by simpa using some)
      rw [List.flatten_cons, payloads_flatten n (raw.drop 12) (by rw [List.length_drop]; omega), List.take_append_drop]

theorem length_of_mem_payloads : ∀ {n : Nat} {raw p : List Byte}, p ∈ payloads n raw → p.length ≤ 12
  | 0, _, _, h => by simp [payloads] at h
  | n + 1, raw, p, h => by
    rw [payloads] at h
    split at h
    · simp at h
    · rcases List.mem_cons.mp h with rfl | h
      · simp
      · exact length_of_mem_payloads h

/-- Bytes that fit one payload make one. -/
theorem payloads_one {raw : List Byte} (some : raw ≠ []) (short : raw.length ≤ 12) : ∀ {n : Nat}, 0 < n → payloads n raw = [raw]
  | n + 1, _ => by
    have rest : raw.drop 12 = [] := List.drop_eq_nil_of_le short
    rw [payloads, if_neg (by simpa using some), rest, List.take_of_length_le short]
    cases n <;> simp [payloads]

/-- Settles O8: the payloads of a message joined, and the fields of a flit read back. -/
theorem flitsCarryAMessageWhole : Obligations.FlitsCarryAMessageWhole := by
  unfold Obligations.FlitsCarryAMessageWhole
  exact ⟨fun msg _ => ⟨payloads_flatten _ _ (le_refl _), fun _ h => length_of_mem_payloads h⟩,
    fun _ _ _ _ _ _ ht hsrc hseq hp => flitWord_fields ht hsrc hseq hp⟩

/-! ### The bytes of messages (R88, R90, R132, R330, R356) -/

theorem length_flatMap_two {α : Type} (f : α → Nat) (xs : List α) : (xs.flatMap (fun x => toLe 2 (f x))).length = 2 * xs.length := by
  induction xs with
  | nil => rfl
  | cons x xs ih => rw [List.flatMap_cons, List.length_append, ih, length_toLe, List.length_cons]; omega

theorem length_exchBytes {f : ExchFrame} (currents : f.idq.length = 12) (angles : f.angles.length = 6) : (exchBytes f).length = 64 := by
  have points : (f.angles.flatMap (fun a => toLe 2 a)).length = 12 := by rw [length_flatMap_two (fun a => a), angles]
  simp only [exchBytes, List.length_append, length_toLe, length_flatMap_two, currents, points]

theorem length_voteBytes (v : VoteMsg) : (voteBytes v).length = 24 := by simp only [voteBytes, List.length_append, length_toLe]

theorem length_echoBytes (e : SEcho) : (echoBytes e).length = 16 := by simp only [echoBytes, List.length_append, length_toLe]

theorem length_staffBytes (m : StaffMsg) : (staffBytes m).length = 10 := by simp only [staffBytes, List.length_append, length_toLe]

theorem length_tripBytes (m : TripMsg) : (tripBytes m).length = 10 := by simp only [tripBytes, List.length_append, length_toLe]

/-- A message of 10 bytes takes one flit. -/
theorem messagePayloads_ten {msg : List Byte} (ten : msg.length = 10) : (messagePayloads msg).length = 1 := by
  have whole : (toLe 2 msg.length ++ msg).length = 12 := by simp [ten]
  rw [messagePayloads, payloads_one (List.ne_nil_of_length_pos (by omega)) (by omega) (by omega)]
  rfl

/-- The fields of a STAFF message, each within its place, read back where R132 lays them. -/
theorem staffBytes_fields {m : StaffMsg} (kind : m.kind < 256) (sender : m.sender < 16) (subject : m.subject < 16) (epoch : m.epoch < 2 ^ 32)
    (lease : m.lease < 256) (reason : m.reason < 256) (cycle : m.cycle < 65536) :
    byteAt (staffBytes m) 0 = m.kind ∧ byteAt (staffBytes m) 1 = m.sender + 16 * m.subject ∧ fieldLe (staffBytes m) 2 4 = m.epoch ∧
      byteAt (staffBytes m) 6 = m.lease ∧ byteAt (staffBytes m) 7 = m.reason ∧ fieldLe (staffBytes m) 8 2 = m.cycle := by
  simp [staffBytes, byteAt, List.append_assoc]
  omega

/-- Settles O11: the parts of each message counted, and the fields of a STAFF message read back. -/
theorem messageBytes : Obligations.MessageBytes := by
  unfold Obligations.MessageBytes
  exact ⟨⟨fun _ currents angles => length_exchBytes currents angles, length_voteBytes, length_echoBytes, length_staffBytes, length_tripBytes,
    fun m => messagePayloads_ten (length_staffBytes m), fun m => messagePayloads_ten (length_tripBytes m)⟩,
    fun _ kind sender subject epoch lease reason cycle => staffBytes_fields kind sender subject epoch lease reason cycle⟩

end Sys2Proof
end

section
/-! PROOFS. One end of a link: what it reads after a change, its counters, and the flits received, acknowledged, sent again and given up. -/

namespace Sys2Proof.Machine

open Par Var

/-! ### The ends of the links -/

/-- The end changed reads what it was given, every other end as before. -/
theorem State.link_setLink (s : State) (k : Link) (x : LinkSt) (j : Link) : (s.setLink k x).link j = if j = k then x else s.link j := by
  have keeps (e : Link × LinkSt) : (if e.1 == k then (k, x) else e).1 = e.1 := by
    split
    · next same => exact (beq_iff_eq.mp same).symm
    · rfl
  by_cases held : s.links.any (fun e => e.1 == k) = true
  · have found : (s.links.map (fun e => if e.1 == k then (k, x) else e)).find? (fun e => e.1 == j) =
        (s.links.find? (fun e => e.1 == j)).map (fun e => if e.1 == k then (k, x) else e) := by
      rw [List.find?_map]
      congr 2
      funext e
      simp only [Function.comp, keeps]
    rw [State.setLink, if_pos held, State.link, found]
    by_cases e : j = k
    · subst e
      obtain ⟨y, hy⟩ := Option.isSome_iff_exists.mp (List.find?_isSome.mpr (List.any_eq_true.mp held))
      have at' : y.1 = j := by
          have := List.find?_some hy
          simpa using this
      simp [hy, at']
    · rw [if_neg e, State.link]
      cases hy : s.links.find? (fun e => e.1 == j) with
      | none => rfl
      | some y =>
        have at' : y.1 = j := by
          have := List.find?_some hy
          simpa using this
        simp [at', e]
  · have none : s.links.find? (fun e => e.1 == k) = none := List.find?_eq_none.mpr fun e he off => held (List.any_eq_true.mpr ⟨e, he, off⟩)
    rw [State.setLink, if_neg held, State.link, List.find?_append]
    by_cases e : j = k
    · subst e
      simp [none]
    · have off : (k == j) = false := by simpa using fun h => e h.symm
      rw [if_neg e, State.link]
      simp [off]

@[simp] theorem State.link_setLink_same (s : State) (k : Link) (x : LinkSt) : (s.setLink k x).link k = x := by simp [State.link_setLink]

theorem State.link_setLink_ne {s : State} {k j : Link} (h : j ≠ k) (x : LinkSt) : (s.setLink k x).link j = s.link j := by
  simp [State.link_setLink, h]

/-- Nothing but the ends of the links changes. -/
theorem State.setLink_rest (s : State) (k : Link) (x : LinkSt) : s.setLink k x = { s with links := (s.setLink k x).links } := by
  unfold State.setLink
  split <;> rfl

/-- Nothing waits at an end: no flit follows. -/
theorem State.pump_idle {s : State} {k : Link} (idle : (s.link k).outq = []) (n : Nat) : State.pump n k s = s := by
  have none : (s.link k).pick = none := by simp [LinkSt.pick, idle]
  cases n with
  | zero => rfl
  | succ n => simp only [State.pump, none, ite_self]

/-- What a link end does is done where the link runs. -/
theorem LinkRuns.onLink {s : State} {k : Link} (runs : LinkRuns s k) (f : State → State) : s.onLink k f = f s := by
  obtain ⟨there, up, state⟩ := runs
  refine if_pos ?_
  rw [State.linkThere] at there
  rw [there, up, state]
  rfl

/-! ### The counters of a lane's end (R109) -/

/-- The rows with a place for each link of a lane. -/
def linkRows : List PDesc := [XLK_LINK_STATE, XLK_CNT_CRC, XLK_CNT_RESEND, XLK_CNT_MSG_LOST, XLK_CNT_RETRAIN]

theorem Region.code_le (r : Region) : r.code ≤ 8 := by cases r <;> decide

theorem Region.code_pos (r : Region) : 0 < r.code := by cases r <;> decide

theorem kindOf_lane {r : Nat} (pos : 0 < r) (lane : r ≤ 3) : kindOf r = .lane := by
  interval_cases r <;> rfl

theorem widthOf_linkRow {d : PDesc} (hd : d ∈ linkRows) {k : Link} (lane : k.near.code ≤ 3) :
    widthOf (d.key k.near.code k.far.code) = d.width := by
  have row : ∀ d ∈ linkRows, mapRow .lane d = true ∧ 9 ≤ 256 * d.span := by decide +kernel
  obtain ⟨map, span⟩ := row d hd
  exact widthOf_mapRow map (kindOf_lane (Region.code_pos _) lane) (by have := Region.code_le k.far; omega)

section
variable {s : State} {k : Link} {d : PDesc}

theorem State.countAt_lane (lane : k.near.code ≤ 3) : s.countAt k d = s.bump k.near.code d k.far.code := if_pos lane

theorem State.countAt_other (other : 3 < k.near.code) : s.countAt k d = s := if_neg (by omega)

/-- Counting changes the counter of a lane's end alone. -/
theorem State.countAt_touches (s : State) (k : Link) (d : PDesc) : Touches (· = d.key k.near.code k.far.code) s (s.countAt k d) :=
  Touches.ite ((Touches.refl _ s).wr rfl) (.refl _ s)

@[simp] theorem State.countAt_links (s : State) (k : Link) (d : PDesc) : (s.countAt k d).links = s.links := by
  rw [(State.countAt_touches s k d).rest]

@[simp] theorem State.countAt_link (s : State) (k : Link) (d : PDesc) (j : Link) : (s.countAt k d).link j = s.link j := by
  simp only [State.link, State.countAt_links]

@[simp] theorem State.countAt_sent (s : State) (k : Link) (d : PDesc) : (s.countAt k d).sent = s.sent := (State.countAt_touches s k d).sent

theorem Counted.of_params {s s' t t' : State} {r i : Nat} (c : Counted s t r d i) (before : s'.params = s.params) (after : t'.params = t.params) :
    Counted s' t' r d i := by
  rw [Counted, State.rd, State.rd, after, before]
  exact c

/-- A lane's end counts one more; the other ends count nothing. -/
theorem State.countAt_counts {u t : State} (hd : d ∈ linkRows) (before : u.params = s.params) (after : t.params = (u.countAt k d).params) :
    (k.near.code ≤ 3 → Counted s t k.near.code d k.far.code ∧ SamePlaces s t [d.key k.near.code k.far.code]) ∧
    (3 < k.near.code → t.params = s.params) := by
  refine ⟨fun lane => ⟨?_, fun p hp => ?_⟩, fun other => ?_⟩
  · refine Counted.of_params (s := u) (t := u.countAt k d) ?_ before.symm after
    rw [State.countAt_lane lane]
    exact State.counted_bump (widthOf_linkRow hd lane)
  · rw [after, ← before]
    exact (State.countAt_touches u k d).get p (by simpa using hp)
  · rw [after, State.countAt_other other, before]

end

/-! ### A flit received (R82, R85) -/

section
variable {s : State} {k : Link} {w : Nat} {c : Nat} (kind : linkKind k = some c)
include kind

theorem State.flitIn_bad (bad : flitOk w = false ∨ (linkTypes c).contains (bits w 3 0) = false) :
    s.flitIn k w = (s.countAt k XLK_CNT_CRC).send (.flitAck k false (s.link k).rxSeq) := by
  refine if_pos ?_
  simpa [kind] using bad

variable (good : flitOk w = true) (carried : (linkTypes c).contains (bits w 3 0) = true)
include good carried

theorem State.flitIn_outOfSequence (out : bits w 11 8 ≠ (s.link k).rxSeq) : s.flitIn k w = s.send (.flitAck k false (s.link k).rxSeq) := by
  refine (if_neg ?_).trans (if_pos out)
  simpa [kind, good] using carried

theorem State.flitIn_expected (expected : bits w 11 8 = (s.link k).rxSeq) :
    s.flitIn k w = (s.setLink k { (s.link k).take w with rxSeq := ((s.link k).rxSeq + 1) % 16 }).send (.flitAck k true (s.link k).rxSeq) := by
  refine (if_neg ?_).trans (if_neg (not_not_intro expected))
  simpa [kind, good] using carried

end

/-- FLIT_RECEIVE on a link that runs: taken and acknowledged, answered with the expected sequence, or counted and answered so. -/
theorem flitReceive_runs {s : State} {k : Link} {c : Nat} (runs : LinkRuns s k) (kind : linkKind k = some c) (w : Nat) :
    (flitOk w = true → (linkTypes c).contains (bits w 3 0) = true → bits w 11 8 = (s.link k).rxSeq →
      Runs (.flitReceive k w) s (fun t => t.link k = { (s.link k).take w with rxSeq := ((s.link k).rxSeq + 1) % 16 } ∧
        t.sent = s.sent ++ [.flitAck k true (s.link k).rxSeq] ∧ (∀ j, j ≠ k → t.link j = s.link j) ∧
        t = { s with links := t.links, sent := t.sent })) ∧
    (flitOk w = true → (linkTypes c).contains (bits w 3 0) = true → bits w 11 8 ≠ (s.link k).rxSeq →
      Runs (.flitReceive k w) s (fun t => t = { s with sent := s.sent ++ [.flitAck k false (s.link k).rxSeq] })) ∧
    ((flitOk w = false ∨ (linkTypes c).contains (bits w 3 0) = false) →
      Runs (.flitReceive k w) s (fun t => t.sent = s.sent ++ [.flitAck k false (s.link k).rxSeq] ∧
        t = { s with params := t.params, sent := t.sent } ∧
        (k.near.code ≤ 3 → Counted s t k.near.code XLK_CNT_CRC k.far.code ∧ SamePlaces s t [XLK_CNT_CRC.key k.near.code k.far.code]) ∧
        (3 < k.near.code → t.params = s.params))) := by
  have received : exec (.flitReceive k w) s = .next (s.flitIn k w) := congrArg Host.Outcome.next (runs.onLink _)
  refine ⟨fun good carried expected => ?_, fun good carried out => ?_, fun bad => ?_⟩
  · refine ⟨_, received.trans (congrArg _ (State.flitIn_expected kind good carried expected)), State.link_setLink_same s k _, ?_,
      fun j hj => State.link_setLink_ne hj _, ?_⟩
    · exact congrArg (· ++ _) (State.setLink_sent s k _)
    · rw [State.setLink_rest]
      rfl
  · exact ⟨_, received.trans (congrArg _ (State.flitIn_outOfSequence kind good carried out)), rfl⟩
  · refine ⟨_, received.trans (congrArg _ (State.flitIn_bad kind bad)), ?_, ?_, State.countAt_counts (u := s) (by simp [linkRows]) rfl rfl⟩
    · exact congrArg (· ++ _) (State.countAt_sent s k _)
    · rw [(State.countAt_touches s k _).rest]
      rfl

/-! ### The window of a sender (R85) -/

section
variable {s : State} {k : Link} (runs : LinkRuns s k) (idle : (s.link k).outq = [])
include runs

/-- An acknowledge of an outstanding flit takes it and those before it out of the window. -/
theorem flitAckReceive_taken (idle : (s.link k).outq = []) {seq : Nat} {xs ys : List TxFlit} {f : TxFlit}
    (window : (s.link k).unacked = xs ++ f :: ys) (found : f.seq = seq) (before : ∀ g ∈ xs, g.seq ≠ seq) :
    exec (.flitAckReceive k seq) s = .next (s.setLink k { s.link k with unacked := ys }) := by
  refine congrArg Host.Outcome.next ((runs.onLink _).trans ?_)
  have any : (s.link k).unacked.any (fun f => f.seq == seq) = true := by simp [window, found]
  have rest : ((s.link k).unacked.dropWhile (fun f => f.seq != seq)).drop 1 = ys := by
    rw [window, List.dropWhile_append_of_pos (by simpa using before), List.dropWhile_cons_of_neg (by simp [found])]
    rfl
  rw [if_pos any, rest]
  exact State.pump_idle (by simpa using idle) 8

/-- An acknowledge of no outstanding flit changes nothing. -/
theorem flitAckReceive_unknown {seq : Nat} (unknown : ∀ g ∈ (s.link k).unacked, g.seq ≠ seq) : exec (.flitAckReceive k seq) s = .next s :=
  congrArg Host.Outcome.next ((runs.onLink _).trans (if_neg (by simpa using unknown)))

/-- A negative acknowledge of the next sequence empties the window. -/
theorem flitNackReceive_next (idle : (s.link k).outq = []) (unknown : ∀ g ∈ (s.link k).unacked, g.seq ≠ (s.link k).txSeq) :
    exec (.flitNackReceive k (s.link k).txSeq) s = .next (s.setLink k { s.link k with unacked := [] }) := by
  refine congrArg Host.Outcome.next ((runs.onLink _).trans ((if_neg (by simpa using unknown)).trans ((if_pos rfl).trans ?_)))
  exact State.pump_idle (by simpa using idle) 8

end

/-! ### One flit sent again, or given up (R85) -/

theorem flitOrder_nodup : flitOrder.Nodup := by decide

/-- Of the types in their order one is picked once. -/
theorem flitOrder_filter {t : Nat} (ht : t ∈ flitOrder) : flitOrder.filter (fun x => t == x) = [t] := by
  have same : (fun x => t == x) = (fun x => x == t) := funext fun _ => BEq.comm
  rw [same, List.filter_beq, List.count_eq_one_of_mem flitOrder_nodup ht]
  rfl

section
variable {s : State} {k : Link} {f : TxFlit} (window : (s.link k).unacked = [f]) (idle : (s.link k).outq = [])
include window idle

/-- A flit that is neither a sample nor out of attempts is sent again with the sequence it had. -/
theorem State.resendFlits_again (sample : f.type ≠ 9) (left : f.tries < 4) : s.resendFlits k =
    (((s.setLink k { s.link k with unacked := [⟨f.seq, flitReseq f.word f.seq, f.type, f.tries + 1⟩], txSeq := (f.seq + 1) % 16 }).countAt k
      XLK_CNT_RESEND).send (.flit k (flitReseq f.word f.seq))) := by
  have lost : flitOrder.filter (fun t => t != 9 && [f].any (fun g => g.type == t && decide (g.tries ≥ 4))) = [] :=
    List.filter_eq_nil_iff.mpr fun t _ => by simp; omega
  have kept : [f].filter (fun g => !(9 :: ([] : List Nat)).contains g.type) = [f] := by simp [sample]
  simp only [State.resendFlits, window, lost, kept, renumber, idle, List.filter_nil, List.foldl_nil, List.foldl_cons, List.length_singleton]
  exact State.pump_idle (congrArg LinkSt.outq ((State.countAt_link ..).trans (State.link_setLink_same s k _))) 8

/-- A flit whose fourth attempt failed takes its message with it. -/
theorem State.resendFlits_lost (known : f.type ∈ flitOrder) (sample : f.type ≠ 9) (spent : 4 ≤ f.tries) : s.resendFlits k =
    ((s.setLink k { s.link k with unacked := [], txSeq := f.seq % 16 }).countAt k XLK_CNT_MSG_LOST) := by
  have lost : flitOrder.filter (fun t => t != 9 && [f].any (fun g => g.type == t && decide (g.tries ≥ 4))) = [f.type] := by
    rw [← flitOrder_filter known]
    refine List.filter_congr fun t _ => ?_
    by_cases e : f.type = t
    · simp [← e, sample, spent]
    · have off : (f.type == t) = false := beq_eq_false_iff_ne.mpr e
      simp [off]
  have kept : [f].filter (fun g => !(9 :: [f.type]).contains g.type) = [] := by simp
  simp only [State.resendFlits, window, lost, kept, renumber, idle, List.filter_nil, List.foldl_nil, List.foldl_cons, List.length_nil, Nat.add_zero]
  exact State.pump_idle (by simp) 8

/-- A sample is never sent again. -/
theorem State.resendFlits_sample (sample : f.type = 9) : s.resendFlits k =
    s.setLink k { s.link k with unacked := [], txSeq := f.seq % 16 } := by
  have lost : flitOrder.filter (fun t => t != 9 && [f].any (fun g => g.type == t && decide (g.tries ≥ 4))) = [] :=
    List.filter_eq_nil_iff.mpr fun t _ h => by
      simp [sample] at h
      exact h.1 h.2.1.symm
  have kept : [f].filter (fun g => !(9 :: ([] : List Nat)).contains g.type) = [] := by simp [sample]
  simp only [State.resendFlits, window, lost, kept, renumber, idle, List.filter_nil, List.foldl_nil, List.length_nil, Nat.add_zero]
  exact State.pump_idle (by simp) 8

end

section
variable {s : State} {k : Link} {f : TxFlit}

/-- What a reader sees of a flit sent again. -/
theorem State.resendFlits_again_seen {u : State} (window : (u.link k).unacked = [f]) (idle : (u.link k).outq = []) (params : u.params = s.params)
    (sent : u.sent = s.sent) (sample : f.type ≠ 9) (left : f.tries < 4) :
    (u.resendFlits k).sent = s.sent ++ [.flit k (flitReseq f.word f.seq)] ∧
    ((u.resendFlits k).link k).unacked = [⟨f.seq, flitReseq f.word f.seq, f.type, f.tries + 1⟩] ∧
    ((u.resendFlits k).link k).txSeq = (f.seq + 1) % 16 ∧
    (k.near.code ≤ 3 → Counted s (u.resendFlits k) k.near.code XLK_CNT_RESEND k.far.code ∧
      SamePlaces s (u.resendFlits k) [XLK_CNT_RESEND.key k.near.code k.far.code]) ∧
    (3 < k.near.code → (u.resendFlits k).params = s.params) := by
  rw [State.resendFlits_again window idle sample left]
  refine ⟨by simp [State.send, State.onLinks, sent], ?_, ?_, State.countAt_counts (by simp [linkRows]) ((State.setLink_params u k _).trans params) rfl⟩
  · exact congrArg LinkSt.unacked ((State.countAt_link ..).trans (State.link_setLink_same u k _))
  · exact congrArg LinkSt.txSeq ((State.countAt_link ..).trans (State.link_setLink_same u k _))

/-- FLIT_ACK_TIMEOUT and a FLIT_NACK_RECEIVE of its sequence, with one flit outstanding. -/
theorem oneFlit_runs (runs : LinkRuns s k) (idle : (s.link k).outq = []) (window : (s.link k).unacked = [f]) (known : f.type ∈ flitOrder) :
    (f.type ≠ 9 → f.tries < 4 → ∀ c ∈ [Instr.flitAckTimeout k, Instr.flitNackReceive k f.seq], Runs c s (fun t =>
      t.sent = s.sent ++ [.flit k (flitReseq f.word f.seq)] ∧
      (t.link k).unacked = [⟨f.seq, flitReseq f.word f.seq, f.type, f.tries + 1⟩] ∧ (t.link k).txSeq = (f.seq + 1) % 16 ∧
      (k.near.code ≤ 3 → Counted s t k.near.code XLK_CNT_RESEND k.far.code ∧ SamePlaces s t [XLK_CNT_RESEND.key k.near.code k.far.code]) ∧
      (3 < k.near.code → t.params = s.params))) ∧
    (f.type ≠ 9 → 4 ≤ f.tries → Runs (.flitAckTimeout k) s (fun t => t.sent = s.sent ∧ (t.link k).unacked = [] ∧
      (t.link k).txSeq = f.seq % 16 ∧
      (k.near.code ≤ 3 → Counted s t k.near.code XLK_CNT_MSG_LOST k.far.code ∧ SamePlaces s t [XLK_CNT_MSG_LOST.key k.near.code k.far.code]))) ∧
    (f.type = 9 → Runs (.flitAckTimeout k) s (fun t => t.sent = s.sent ∧ t.params = s.params ∧ (t.link k).unacked = [])) := by
  have timeout : exec (.flitAckTimeout k) s = .next (s.resendFlits k) := congrArg Host.Outcome.next (runs.onLink _)
  refine ⟨fun sample left c hc => ?_, fun sample spent => ⟨_, timeout, ?_⟩, fun sample => ⟨_, timeout, ?_⟩⟩
  · rcases List.mem_pair.mp hc with rfl | rfl
    · exact ⟨_, timeout, State.resendFlits_again_seen window idle rfl rfl sample left⟩
    · have any : (s.link k).unacked.any (fun g => g.seq == f.seq) = true := by simp [window]
      have rest : (s.link k).unacked.dropWhile (fun g => g.seq != f.seq) = [f] := by simp [window]
      exact ⟨_, congrArg Host.Outcome.next ((runs.onLink _).trans (if_pos any)), State.resendFlits_again_seen (by simp [rest]) (by simp [idle])
        (State.setLink_params s k _) (State.setLink_sent s k _) sample left⟩
  · rw [State.resendFlits_lost window idle known sample spent]
    exact ⟨by simp, by simp, by simp, (State.countAt_counts (by simp [linkRows]) (State.setLink_params s k _) rfl).1⟩
  · rw [State.resendFlits_sample window idle sample]
    exact ⟨by simp, by simp, by simp⟩

end

/-- Settles O18: a flit at the receiver, then acknowledges, then one outstanding flit at the sender. -/
theorem flitWindow : Obligations.FlitWindow := by
  unfold Obligations.FlitWindow
  refine ⟨fun k w s c runs kind => flitReceive_runs runs kind w, fun k s runs idle => ⟨fun seq xs f ys window found before => ?_,
    fun seq unknown => ?_, fun unknown => ?_, fun f window known => oneFlit_runs runs idle window known⟩⟩
  · exact ⟨_, flitAckReceive_taken runs idle window found before, rfl⟩
  · exact ⟨_, flitAckReceive_unknown runs unknown, rfl⟩
  · exact ⟨_, flitNackReceive_next runs idle unknown, rfl⟩

end Sys2Proof.Machine
end

section
/-! PROOFS. The states of a link: retraining, training that completes or does not, a failed link tried again. -/

namespace Sys2Proof.Machine

open Par Var

/-! ### The ends of a link of the part -/

/-- A link joins two dies, at least one of them a lane die (R81). -/
theorem linkKind_ends {k : Link} (joins : (linkKind k).isSome = true) : k.near.code ≠ k.far.code ∧ (k.near.code ≤ 3 ∨ k.far.code ≤ 3) := by
  obtain ⟨n, f⟩ := k
  cases n <;> cases f <;> simp [linkKind, Region.code] at joins ⊢

section
variable {s t u : State} {k : Link} (there : s.linkThere k = true)
include there

theorem State.ends_of_there : k.near.code ≠ k.far.code ∧ (k.near.code ≤ 3 ∨ k.far.code ≤ 3) := by
  simp only [State.linkThere, Bool.and_eq_true] at there
  exact linkKind_ends there.1.1

theorem State.otherEnd_ne : otherEnd k ≠ k := fun e => (State.ends_of_there there).1 (congrArg (fun j : Link => j.far.code) e)

end

/-! ### The state of a link at its lane ends (R87) -/

section
variable {s t u : State} {k : Link}

theorem State.linkState_of_params (e : t.params = s.params) : t.linkState k = s.linkState k := by
  simp only [State.linkState, State.rd, e]

theorem State.linkState_of_frame {rows : List PDesc} (h : SameOff (AnyRow rows) s t) (off : offRows rows XLK_LINK_STATE = true) :
    t.linkState k = s.linkState k := by
  have le (r : Region) : r.code < 256 := by have := Region.code_le r; omega
  simp only [State.linkState, h.rd (not_anyRow off _ (le _))]

/-- A change at each lane end, each within some places, is within them. -/
theorem State.atEnds_touches {P : PKey → Prop} {f : Link → State → State} (h : Touches P s u) (near : ∀ v, Touches P s v → Touches P s (f k v))
    (far : ∀ v, Touches P s v → Touches P s (f (otherEnd k) v)) : Touches P s (u.atEnds k f) :=
  Touches.ite (far _ (Touches.ite (near _ h) h)) (Touches.ite (near _ h) h)

theorem State.setLinkState_touches (s : State) (k : Link) (v : Nat) : Touches (AnyRow [XLK_LINK_STATE]) s (s.setLinkState k v) := by
  have le (r : Region) : r.code < 256 := by have := Region.code_le r; omega
  exact State.atEnds_touches (.refl _ s) (fun _ h => h.wr (AnyRow.key (by simp) _ (le _))) (fun _ h => h.wr (AnyRow.key (by simp) _ (le _)))

/-- At a lane's end the state reads as written. -/
theorem State.rd_setLinkState (ends : k.near.code ≠ k.far.code) (lane : k.near.code ≤ 3) (v : Nat) :
    (s.setLinkState k v).rd k.near.code XLK_LINK_STATE k.far.code = v % 4 := by
  have width := widthOf_linkRow (d := XLK_LINK_STATE) (by simp [linkRows]) lane
  have own : (s.wr k.near.code XLK_LINK_STATE k.far.code v).rd k.near.code XLK_LINK_STATE k.far.code = v % 4 := by
    rw [State.rd_wr_same, width]
    rfl
  simp only [State.setLinkState, State.atEnds, if_pos lane]
  split
  · exact (State.rd_wr_region _ _ _ _ _ _ ends).trans own
  · exact own

/-- The states of the other links of a lane's end stay. -/
theorem State.rd_setLinkState_ne (ends : k.near.code ≠ k.far.code) {f : Nat} (small : f < 256) (other : f ≠ k.far.code) (v : Nat) :
    (s.setLinkState k v).rd k.near.code XLK_LINK_STATE f = s.rd k.near.code XLK_LINK_STATE f := by
  have := Region.code_le k.far
  have kept : (if k.near.code ≤ 3 then s.wr k.near.code XLK_LINK_STATE k.far.code v else s).rd k.near.code XLK_LINK_STATE f =
      s.rd k.near.code XLK_LINK_STATE f := by
    split
    · exact State.rd_wr_inst _ _ _ _ _ other (by omega) small
    · rfl
  simp only [State.setLinkState, State.atEnds]
  split
  · exact (State.rd_wr_region _ _ _ _ _ _ ends).trans kept
  · exact kept

theorem State.linkState_setLinkState (there : s.linkThere k = true) (v : Nat) : (s.setLinkState k v).linkState k = v % 4 := by
  obtain ⟨ends, lanes⟩ := State.ends_of_there there
  by_cases lane : k.near.code ≤ 3
  · rw [State.linkState, if_pos lane, State.rd_setLinkState ends lane]
  · have far := lanes.resolve_left lane
    have width := widthOf_linkRow (d := XLK_LINK_STATE) (by simp [linkRows]) (k := otherEnd k) far
    rw [State.linkState, if_neg lane]
    simp only [State.setLinkState, State.atEnds, if_neg lane, if_pos far]
    exact (State.rd_wr_same ..).trans (by rw [width]; rfl)

end

/-! ### Retraining (R87, R109) -/

section
variable {s u : State} {k : Link}

/-- The counters of retrainings raised at the lane ends. -/
def State.retrainCounts (s : State) (k : Link) : State := (s.setLinkState k 1).atEnds k (fun e s => s.countAt e XLK_CNT_RETRAIN)

theorem State.retrain_eq (s : State) (k : Link) : s.retrain k = ((s.retrainCounts k).clearEnd k).clearEnd (otherEnd k) := rfl

theorem State.retrainCounts_touches (s : State) (k : Link) : Touches (AnyRow [XLK_LINK_STATE, XLK_CNT_RETRAIN]) s (s.retrainCounts k) := by
  have le (r : Region) : r.code < 256 := by have := Region.code_le r; omega
  have state := (State.setLinkState_touches s k 1).mono (Q := AnyRow [XLK_LINK_STATE, XLK_CNT_RETRAIN])
    fun p ⟨d, hd, e⟩ => ⟨d, by simp at hd; simp [hd], e⟩
  have count (e : Link) (v : State) (h : Touches (AnyRow [XLK_LINK_STATE, XLK_CNT_RETRAIN]) s v) :
      Touches (AnyRow [XLK_LINK_STATE, XLK_CNT_RETRAIN]) s (v.countAt e XLK_CNT_RETRAIN) :=
    h.trans ((State.countAt_touches v e _).mono fun p hp => hp ▸ AnyRow.key (by simp) _ (le _))
  exact (State.atEnds_touches state (fun v h => count k v h) fun v h => count (otherEnd k) v h)

theorem State.retrainCounts_linkState (there : s.linkThere k = true) : (s.retrainCounts k).linkState k = 1 := by
  have le (r : Region) : r.code < 256 := by have := Region.code_le r; omega
  have count (e : Link) (v : State) (h : Touches (AnyRow [XLK_CNT_RETRAIN]) (s.setLinkState k 1) v) :
      Touches (AnyRow [XLK_CNT_RETRAIN]) (s.setLinkState k 1) (v.countAt e XLK_CNT_RETRAIN) :=
    h.trans ((State.countAt_touches v e _).mono fun p hp => hp ▸ AnyRow.key (by simp) _ (le _))
  have counts : Touches (AnyRow [XLK_CNT_RETRAIN]) (s.setLinkState k 1) (s.retrainCounts k) :=
    State.atEnds_touches (.refl _ _) (fun v h => count k v h) fun v h => count (otherEnd k) v h
  rw [State.linkState_of_frame counts.get (by decide), State.linkState_setLinkState there]

theorem State.retrainCounts_counted (there : s.linkThere k = true) (lane : k.near.code ≤ 3) :
    Counted s (s.retrainCounts k) k.near.code XLK_CNT_RETRAIN k.far.code := by
  obtain ⟨ends, -⟩ := State.ends_of_there there
  have le : k.far.code < 256 := by have := Region.code_le k.far; omega
  have before : (s.setLinkState k 1).rd k.near.code XLK_CNT_RETRAIN k.far.code = s.rd k.near.code XLK_CNT_RETRAIN k.far.code :=
    (State.setLinkState_touches s k 1).rd (not_anyRow (by decide) _ le)
  have own : Counted s ((s.setLinkState k 1).countAt k XLK_CNT_RETRAIN) k.near.code XLK_CNT_RETRAIN k.far.code := by
    have one := State.counted_bump (s := s.setLinkState k 1) (widthOf_linkRow (d := XLK_CNT_RETRAIN) (by simp [linkRows]) lane)
    rwa [Counted, before, ← State.countAt_lane lane] at one
  have after (v : State) : (v.countAt (otherEnd k) XLK_CNT_RETRAIN).rd k.near.code XLK_CNT_RETRAIN k.far.code =
      v.rd k.near.code XLK_CNT_RETRAIN k.far.code :=
    (State.countAt_touches v (otherEnd k) _).rd (PDesc.key_ne_of_region ends)
  unfold State.retrainCounts State.atEnds
  rw [if_pos lane]
  split
  · rwa [Counted, after]
  · exact own

theorem State.clearEnd_params (s : State) (k : Link) : (s.clearEnd k).params = s.params := State.setLink_params s k _

theorem State.clearEnd_sent (s : State) (k : Link) : (s.clearEnd k).sent = s.sent := State.setLink_sent s k _

theorem State.link_clearEnd (s : State) (k j : Link) : (s.clearEnd k).link j = if j = k then
    { outq := (s.link k).outq.filter (fun m => !m.started), delivered := (s.link k).delivered } else s.link j := State.link_setLink ..

theorem State.retrain_params (s : State) (k : Link) : (s.retrain k).params = (s.retrainCounts k).params := by
  rw [State.retrain_eq, State.clearEnd_params, State.clearEnd_params]

theorem State.retrainCounts_link (s : State) (k j : Link) : (s.retrainCounts k).link j = s.link j := by
  rw [(State.retrainCounts_touches s k).rest]
  rfl

/-- At both ends everything in flight is gone and the sequences start anew; what had not begun still waits. -/
theorem State.retrain_links (there : s.linkThere k = true) :
    (s.retrain k).link k = { outq := (s.link k).outq.filter (fun m => !m.started), delivered := (s.link k).delivered } ∧
    (s.retrain k).link (otherEnd k) =
      { outq := (s.link (otherEnd k)).outq.filter (fun m => !m.started), delivered := (s.link (otherEnd k)).delivered } := by
  have ne := State.otherEnd_ne there
  rw [State.retrain_eq]
  simp only [State.link_clearEnd, if_neg ne, if_neg ne.symm, if_true, State.retrainCounts_link, and_self]

/-- What a reader sees of a link that retrains, from a state `u` of the same links that may have counted a failed check. -/
theorem State.retrain_seen (there : u.linkThere k = true) (links : u.links = s.links) (sent : u.sent = s.sent)
    (frame : SameOff (· = XLK_CNT_CRC.key k.near.code k.far.code) s u) :
    (u.retrain k).linkState k = 1 ∧ (u.retrain k).sent = s.sent ∧
    (k.near.code ≤ 3 → Counted s (u.retrain k) k.near.code XLK_CNT_RETRAIN k.far.code) ∧
    ((u.retrain k).link k).unacked = [] ∧ ((u.retrain k).link k).partials = [] ∧ ((u.retrain k).link (otherEnd k)).unacked = [] ∧
    ((u.retrain k).link (otherEnd k)).partials = [] ∧ ((u.retrain k).link k).txSeq = 0 ∧ ((u.retrain k).link (otherEnd k)).rxSeq = 0 ∧
    (∀ m ∈ (s.link k).outq, m.started = false → m ∈ ((u.retrain k).link k).outq) ∧ SameOff (fun x => x.block = 4) s (u.retrain k) := by
  have le : k.far.code < 256 := by have := Region.code_le k.far; omega
  have same (j : Link) : u.link j = s.link j := by rw [State.link, State.link, links]
  obtain ⟨own, other⟩ := State.retrain_links there
  refine ⟨?_, ?_, fun lane => ?_, ?_⟩
  · rw [State.linkState_of_params (State.retrain_params u k), State.retrainCounts_linkState there]
  · rw [State.retrain_eq, State.clearEnd_sent, State.clearEnd_sent, (State.retrainCounts_touches u k).sent, sent]
  · have one := Counted.of_params (State.retrainCounts_counted there lane) rfl (State.retrain_params u k)
    rwa [Counted, frame.rd (PDesc.key_ne_of_row (by decide) le le)] at one
  · rw [own, other]
    refine ⟨rfl, rfl, rfl, rfl, rfl, rfl, fun m hm waits => List.mem_filter.mpr ⟨same k ▸ hm, by simp [waits]⟩, ?_⟩
    have counts : SameOff (fun x => x.block = 4) u (u.retrainCounts k) := (State.retrainCounts_touches u k).get.mono
      fun p ⟨d, hd, block, _⟩ => by
        rcases List.mem_pair.mp hd with rfl | rfl <;> exact block.symm
    exact ((frame.mono fun p hp => by rw [hp]; rfl).trans counts).of_params (State.retrain_params u k)

/-- LINK_CODE_ERRORS, and LINK_ACK_SILENCE with flits outstanding. -/
theorem linkRetrains_runs (runs : LinkRuns s k) (c : Instr) (trigger : c = Instr.linkCodeErrors k ∨ (c = Instr.linkAckSilence k ∧ (s.link k).unacked ≠ [])) :
    Runs c s (fun t => t.linkState k = 1 ∧ t.sent = s.sent ∧ (k.near.code ≤ 3 → Counted s t k.near.code XLK_CNT_RETRAIN k.far.code ∧
        (c = Instr.linkCodeErrors k → Counted s t k.near.code XLK_CNT_CRC k.far.code)) ∧
      (t.link k).unacked = [] ∧ (t.link k).partials = [] ∧ (t.link (otherEnd k)).unacked = [] ∧ (t.link (otherEnd k)).partials = [] ∧
      (t.link k).txSeq = 0 ∧ (t.link (otherEnd k)).rxSeq = 0 ∧ (∀ m ∈ (s.link k).outq, m.started = false → m ∈ (t.link k).outq) ∧
      SameOff (fun x => x.block = 4) s t) := by
  have there := runs.1
  rcases trigger with rfl | ⟨rfl, outstanding⟩
  · have touched := State.countAt_touches s k XLK_CNT_CRC
    have there' : (s.countAt k XLK_CNT_CRC).linkThere k = true := by
      rw [touched.rest]
      exact there
    obtain ⟨state, sent, counted, rest⟩ := State.retrain_seen there' (State.countAt_links s k _) (State.countAt_sent s k _) touched.get
    refine ⟨_, congrArg Host.Outcome.next (runs.onLink _), state, sent, fun lane => ⟨counted lane, fun _ => ?_⟩, rest⟩
    have le : k.far.code < 256 := by have := Region.code_le k.far; omega
    have one := ((State.countAt_counts (s := s) (t := s.countAt k XLK_CNT_CRC) (by simp [linkRows]) rfl rfl).1 lane).1
    have kept : ((s.countAt k XLK_CNT_CRC).retrain k).rd k.near.code XLK_CNT_CRC k.far.code =
        (s.countAt k XLK_CNT_CRC).rd k.near.code XLK_CNT_CRC k.far.code :=
      ((State.retrainCounts_touches _ k).get.of_params (State.retrain_params _ k)).rd (not_anyRow (by decide) _ le)
    rw [Counted, kept]
    exact one
  · obtain ⟨state, sent, counted, rest⟩ := State.retrain_seen (s := s) there rfl rfl (.refl _ s)
    refine ⟨_, congrArg Host.Outcome.next ((runs.onLink _).trans (if_neg (by simpa using outstanding))), state, sent,
      fun lane => ⟨counted lane, fun e => by simp at e⟩, rest⟩

end

/-! ### Training that completes (R87, R456) -/

theorem State.sendEpoch_params (s : State) (k : Link) : (s.sendEpoch k).params = s.params := by
  unfold State.sendEpoch
  split
  · exact State.linkSend_params ..
  · rfl

section
variable {s : State} {k : Link}

/-- Source 13 released at a lane's end none of whose links has failed. -/
def State.releaseLink (e : Link) (s : State) : State := if s.anyFailed e.near.code then s else s.release e.near.code 13

/-- The link up, source 13 released where no link remains failed. -/
def State.trained (s : State) (k : Link) : State := (s.setLinkState k 2).atEnds k State.releaseLink

theorem linkTrainComplete_params (there : s.linkThere k = true) (near : s.dieUp k.near = true) (far : s.dieUp k.far = true)
    (state : s.linkState k ≤ 1) : ∃ t, exec (.linkTrainComplete k) s = .next t ∧ t.params = (s.trained k).params := by
  refine ⟨_, congrArg Host.Outcome.next (if_pos ⟨there, near, far, state⟩), ?_⟩
  rw [State.sendEpoch_params, State.sendEpoch_params, State.pump_params, State.pump_params]
  rfl

/-- Releasing source 13 writes its raw bit and its quiet time. -/
theorem State.releaseLink_touches (e : Link) (s : State) :
    Touches (fun p => p.region = e.near.code ∧ AnyRow [FCL_RAW, FCL_QUIET_AT] p) s (State.releaseLink e s) :=
  Touches.ite (.refl _ s) (State.release_touches (.refl _ s) _ _ ⟨rfl, AnyRow.key (by simp) _ (by decide)⟩ ⟨rfl, AnyRow.key (by simp) _ (by decide)⟩)

theorem State.trained_touches (s : State) (k : Link) : Touches (AnyRow [FCL_RAW, FCL_QUIET_AT]) (s.setLinkState k 2) (s.trained k) :=
  State.atEnds_touches (.refl _ _) (fun v h => h.trans ((State.releaseLink_touches _ v).mono fun _ p => p.2))
    (fun v h => h.trans ((State.releaseLink_touches _ v).mono fun _ p => p.2))

theorem State.trained_linkState (there : s.linkThere k = true) : (s.trained k).linkState k = 2 := by
  rw [State.linkState_of_frame (State.trained_touches s k).get (by decide), State.linkState_setLinkState there]

theorem State.trained_frame (s : State) (k : Link) : SameOff (fun x => x.block = 4 ∨ FaultPlace x) s (s.trained k) := by
  refine SameOff.trans ((State.setLinkState_touches s k 2).get.mono ?_) ((State.trained_touches s k).get.mono ?_)
  · rintro p ⟨d, hd, block, -⟩
    obtain rfl := List.mem_singleton.mp hd
    exact .inl block.symm
  · rintro p ⟨d, hd, e⟩
    refine .inr ⟨d, ?_, e⟩
    rcases List.mem_pair.mp hd with rfl | rfl <;> simp [faultRows]

/-- With no other link failed, source 13 is released at the lane's end. -/
theorem State.trained_raw (there : s.linkThere k = true) (lane : k.near.code ≤ 3)
    (whole : (List.range 9).any (fun f => f != k.far.code && s.rd k.near.code XLK_LINK_STATE f == 3) = false) :
    bit ((s.trained k).rd k.near.code FCL_RAW) 13 = false := by
  obtain ⟨ends, -⟩ := State.ends_of_there there
  have none : (s.setLinkState k 2).anyFailed k.near.code = false := by
    refine List.any_eq_false.mpr fun f hf => ?_
    by_cases own : f = k.far.code
    · rw [own, State.rd_setLinkState ends lane]
      decide
    · have small := List.mem_range.mp hf
      rw [State.rd_setLinkState_ne ends (by omega) own]
      simpa [own] using List.any_eq_false.mp whole f hf
  have released : State.releaseLink k (s.setLinkState k 2) = (s.setLinkState k 2).release k.near.code 13 := if_neg (by simp [none])
  have kept (v : State) : (State.releaseLink (otherEnd k) v).rd k.near.code FCL_RAW = v.rd k.near.code FCL_RAW :=
    (State.releaseLink_touches (otherEnd k) v).rd fun p => ends p.1
  unfold State.trained State.atEnds
  rw [if_pos lane, released]
  split
  · rw [kept]
    exact State.release_raw (by decide)
  · exact State.release_raw (by decide)

end

/-! ### Training that does not complete (R87, R109) -/

section
variable {s : State} {k : Link}

/-- Source 13 asserted at a lane's end whose die runs. -/
def State.raiseLink (e : Link) (s : State) : State := if s.dieUp e.near then s.raise e.near.code 13 true else s

theorem linkFailTimeout_eq (there : s.linkThere k = true) (state : s.linkState k ≤ 1) :
    exec (.linkFailTimeout k) s = .next ((s.setLinkState k 3).atEnds k State.raiseLink) :=
  congrArg Host.Outcome.next (if_pos ⟨there, state⟩)

theorem State.raiseLink_faults {e : Link} (n : NoReset s e.near.code 13) : OnlyFaults s (State.raiseLink e s) :=
  OnlyFaults.ite (State.raise_faults s _ 13 true n) (.refl s)

theorem State.setLinkState_noReset {r : Nat} (n : NoReset s r 13) (v : Nat) : NoReset (s.setLinkState k v) r 13 :=
  n.congr ((State.setLinkState_touches s k v).rd (not_anyRow (by decide) _ (by decide)))
    fun _ => (State.setLinkState_touches s k v).rd (not_anyRow (by decide) _ (by decide))

theorem State.linkFailed_faults (near : k.near.code ≤ 3 → NoReset s k.near.code 13) (far : k.far.code ≤ 3 → NoReset s k.far.code 13) :
    OnlyFaults (s.setLinkState k 3) ((s.setLinkState k 3).atEnds k State.raiseLink) := by
  have first : OnlyFaults (s.setLinkState k 3) (if k.near.code ≤ 3 then State.raiseLink k (s.setLinkState k 3) else s.setLinkState k 3) := by
    split
    · next lane => exact State.raiseLink_faults (State.setLinkState_noReset (near lane) 3)
    · exact .refl _
  unfold State.atEnds
  extract_lets v
  split
  · next lane => exact first.trans (State.raiseLink_faults (first.noReset (State.setLinkState_noReset (far lane) 3) (by decide)))
  · exact first

theorem State.linkFailed_err (lane : k.near.code ≤ 3) (other : 3 < k.far.code) (up : s.dieUp k.near = true) (n : NoReset s k.near.code 13)
    (judged : Judged s k.near.code 13) : bit (((s.setLinkState k 3).atEnds k State.raiseLink).rd k.near.code FCL_ERR_STATUS) 13 = true := by
  have same := State.setLinkState_touches s k 3
  have phase : (s.setLinkState k 3).rd k.near.code FAB_PHASE = s.rd k.near.code FAB_PHASE := same.rd (not_anyRow (by decide) _ (by decide))
  have up' : (s.setLinkState k 3).dieUp k.near = true := by
    have on : (s.setLinkState k 3).on k.near.code = s.on k.near.code := by
      simp only [State.on, State.hasRegion, same.part, phase, same.rdB (not_anyRow (by decide : offRows _ INT_POWERED = true) k.near.code (by decide : 0 < 256)),
        same.rd (not_anyRow (by decide : offRows _ BST_SCAN_REG = true) 7 (by decide : 0 < 256))]
    rw [State.dieUp, on, phase]
    exact up
  have judged' : Judged (s.setLinkState k 3) k.near.code 13 := judged.congr same.part (same.rd (not_anyRow (by decide) _ (ownerOf_lt _ _))) phase
  have counts : countOnly (classOf k.near.code 13) = false := by
    have := Region.code_pos k.near
    interval_cases k.near.code <;> rfl
  simp only [State.atEnds, if_pos lane, if_neg (show ¬ k.far.code ≤ 3 by omega), State.raiseLink, up', if_true]
  exact State.raise_err judged' (State.setLinkState_noReset n 3) counts

end

/-- Settles O19: retraining, an idle silence, training that completes, training that does not, and the next try. -/
theorem linkStates : Obligations.LinkStates := by
  unfold Obligations.LinkStates
  refine ⟨fun k s runs => linkRetrains_runs runs, fun k s runs idle => ⟨s, ?_, rfl⟩, fun k s there near far state => ?_,
    fun k s there state near far => ?_, fun k s there state => ?_⟩
  · exact congrArg Host.Outcome.next ((runs.onLink _).trans (if_pos (by simp [idle])))
  · obtain ⟨t, run, params⟩ := linkTrainComplete_params there near far state
    refine ⟨t, run, ?_, (State.trained_frame s k).of_params params, fun lane whole => ?_⟩
    · rw [State.linkState_of_params params, State.trained_linkState there]
    · rw [State.rd, params]
      exact State.trained_raw there lane whole
  · have faults := State.linkFailed_faults near far
    refine ⟨_, linkFailTimeout_eq there state, ?_, faults, fun lane other up judged => State.linkFailed_err lane other up (near lane) judged⟩
    have kept : SameOff (AnyRow faultRows) _ _ := faults.get.mono fun p hp => hp
    rw [State.linkState_of_frame kept (by decide), State.linkState_setLinkState there]
  · refine ⟨_, congrArg Host.Outcome.next (if_pos ⟨there, state⟩), ?_, rfl⟩
    rw [State.linkState_setLinkState there]

end Sys2Proof.Machine
end

section
/-! PROOFS. The votes: the median and the mean of values, the majority of bits, the order in which agreed waybills take effect. -/

namespace Sys2Proof.Machine

/-! ### A list in an order (R98) -/

section
variable {α : Type} {before : α → α → Bool}

theorem insertBy_perm (x : α) (xs : List α) : (insertBy before x xs).Perm (x :: xs) := by
  induction xs with
  | nil => exact .refl _
  | cons y ys ih =>
    rw [insertBy]
    split
    · exact (ih.cons y).trans (.swap x y ys)
    · exact .refl _

theorem foldl_insertBy_perm (xs acc : List α) : (xs.foldl (fun r x => insertBy before x r) acc).Perm (acc ++ xs) := by
  induction xs generalizing acc with
  | nil => simp
  | cons x xs ih => exact (ih _).trans (((insertBy_perm x acc).append_right xs).trans List.perm_middle.symm)

theorem sortBy_perm (xs : List α) : (sortBy before xs).Perm xs := foldl_insertBy_perm xs []

variable (total : ∀ a b, before a b = true ∨ before b a = true) (trans : ∀ a b c, before a b = true → before b c = true → before a c = true)
include total trans

theorem insertBy_sorted (x : α) {xs : List α} (sorted : xs.Pairwise (fun a b => before a b = true)) :
    (insertBy before x xs).Pairwise (fun a b => before a b = true) := by
  induction xs with
  | nil => exact List.pairwise_singleton _ x
  | cons y ys ih =>
    obtain ⟨first, rest⟩ := List.pairwise_cons.mp sorted
    rw [insertBy]
    split
    · next yx =>
      refine List.pairwise_cons.mpr ⟨fun z hz => ?_, ih rest⟩
      rcases List.mem_cons.mp ((insertBy_perm x ys).mem_iff.mp hz) with rfl | hz
      · exact yx
      · exact first z hz
    · next later =>
      have xy := (total x y).resolve_right later
      refine List.pairwise_cons.mpr ⟨fun z hz => ?_, sorted⟩
      rcases List.mem_cons.mp hz with rfl | hz
      · exact xy
      · exact trans _ _ _ xy (first z hz)

theorem sortBy_sorted (xs : List α) : (sortBy before xs).Pairwise (fun a b => before a b = true) := by
  have all (xs acc : List α) (sorted : acc.Pairwise (fun a b => before a b = true)) :
      (xs.foldl (fun r x => insertBy before x r) acc).Pairwise (fun a b => before a b = true) := by
    induction xs generalizing acc with
    | nil => exact sorted
    | cons x xs ih => exact ih _ (insertBy_sorted total trans x sorted)
  exact all xs [] .nil

end

/-- The order of effect, by the earliest copy's time and then its lane. -/
theorem VWaiting.before_iff {a b : VWaiting} : a.before b = true ↔ a.stamp < b.stamp ∨ (a.stamp = b.stamp ∧ a.lane.idx ≤ b.lane.idx) :=
  decide_eq_true_iff

theorem VWaiting.before_total (a b : VWaiting) : a.before b = true ∨ b.before a = true := by
  simp only [VWaiting.before_iff]
  omega

theorem VWaiting.before_trans (a b c : VWaiting) : a.before b = true → b.before c = true → a.before c = true := by
  simp only [VWaiting.before_iff]
  omega

/-- Agreed waybills in the order of their effect. -/
theorem sortBy_effect (ws : List VWaiting) : (sortBy VWaiting.before ws).Perm ws ∧
    (sortBy VWaiting.before ws).Pairwise (fun a b => a.stamp < b.stamp ∨ (a.stamp = b.stamp ∧ a.lane.idx ≤ b.lane.idx)) :=
  ⟨sortBy_perm ws, (sortBy_sorted VWaiting.before_total VWaiting.before_trans ws).imp VWaiting.before_iff.mp⟩

/-! ### The analog vote (R105) -/

section
variable {a b x : Int} {diff tol : Nat} {n h : Bool} {last : Int}

/-- The middle one of three: one of them, and of any two one lies on each side of it. -/
theorem median_of_three (a b c : Int) : let m := max (min a b) (min (max a b) c)
    (m = a ∨ m = b ∨ m = c) ∧ (m ≤ a ∨ m ≤ b) ∧ (m ≤ b ∨ m ≤ c) ∧ (m ≤ a ∨ m ≤ c) ∧ (a ≤ m ∨ b ≤ m) ∧ (b ≤ m ∨ c ≤ m) ∧ (a ≤ m ∨ c ≤ m) := by
  intro m
  omega

theorem anVote_three (a b c : Int) (vs : List Int) (ref : Option Int) :
    anVote (a :: b :: c :: vs) diff tol ref n last h = ⟨max (min a b) (min (max a b) c), 0, true, false, false⟩ := rfl

theorem apart_eq_true {d : Nat} : apart a b d = true ↔ (a - b).natAbs > d := decide_eq_true_iff

theorem apart_eq_false {d : Nat} : apart a b d = false ↔ (a - b).natAbs ≤ d := decide_eq_false_iff_not.trans Nat.not_lt

/-- Two within the allowed difference give their floored mean. -/
theorem anVote_mean (close : (a - b).natAbs ≤ diff) (ref : Option Int) : (anVote [a, b] diff tol ref n last h).val = (a + b) / 2 ∧
    (anVote [a, b] diff tol ref n last h).method = 1 ∧ (anVote [a, b] diff tol ref n last h).valid = true := by
  simp only [anVote, apart_eq_false.mpr close, Bool.not_false, if_true, and_self]

/-- Of two that disagree the one near the reference counts, in whichever place it stands. -/
theorem anVote_near (disagree : (a - b).natAbs > diff) (near : (a - x).natAbs ≤ tol) (far : (b - x).natAbs > tol) :
    anVote [a, b] diff tol (some x) n last h = ⟨a, 2, true, false, false⟩ ∧ anVote [b, a] diff tol (some x) n last h = ⟨a, 2, true, false, false⟩ := by
  have disagree' : (b - a).natAbs > diff := by omega
  simp [anVote, apart_eq_true.mpr disagree, apart_eq_true.mpr disagree', apart_eq_false.mpr near, apart_eq_true.mpr far]

/-- Two that disagree without a reference hold the last result. -/
theorem anVote_held (disagree : (a - b).natAbs > diff) : anVote [a, b] diff tol none n last h = ⟨last, 3, h, false, true⟩ := by
  simp [anVote, apart_eq_true.mpr disagree]

end

/-! ### The discrete vote (R107) -/

theorem diVote_cases (a b c : Bool) (bs : List Bool) (safe one : Bool) : diVote (a :: b :: c :: bs) safe one = ((a && b) || (a && c) || (b && c)) ∧
    diVote [a, a] safe one = a ∧ diVote [a, !a] safe one = safe ∧ diVote [a] safe true = a ∧ diVote [a] safe false = safe ∧
    diVote [] safe one = safe := by
  refine ⟨rfl, ?_, ?_, rfl, rfl, rfl⟩ <;> cases a <;> rfl

/-- Settles O24: three values, two that agree, two with and without a reference, bits, and the order of effect. -/
theorem votes : Obligations.Votes := by
  unfold Obligations.Votes
  refine ⟨fun a b c vs diff tol ref n h last => ?_, fun a b diff tol ref n h last close => ?_, fun a b x diff tol n h last disagree near far => ?_,
    fun a b diff tol n h last disagree => ?_, diVote_cases, sortBy_effect⟩
  · exact ⟨rfl, rfl, median_of_three a b c⟩
  · obtain ⟨val, method, valid⟩ := anVote_mean (tol := tol) (n := n) (h := h) (last := last) close ref
    exact ⟨valid, method, by rw [val]; omega, by rw [val]; omega⟩
  · obtain ⟨first, second⟩ := anVote_near (n := n) (h := h) (last := last) disagree near far
    rw [first, second]
    exact ⟨rfl, rfl, rfl⟩
  · rw [anVote_held disagree]
    exact ⟨rfl, rfl⟩

end Sys2Proof.Machine
end

section
/-! PROOFS. What a lane and S hear of their peers: exchange frames, echoes, a lane that falls silent, copies announced, INPUT messages. -/

namespace Sys2Proof.Machine

open Par Var

/-! ### Copies of VOTED waybills and INPUT messages (R93, R100, R104) -/

section
variable {s : State} {l : LaneId}

/-- What a lane of the record does with a copy announced by a peer. -/
theorem announceReceive_peer (up : s.up l = true) {x : LaneId} (peer : x ≠ l) (there : s.hasRegion x.reg = true) (stamp : Nat) (raw : List Byte)
    (crc : Nat) {c : VCopy} (hc : c = ⟨x, stamp, s.cycleAt l stamp, raw, crc, none⟩) : exec (.announceReceive l x stamp raw crc) s = .next
      (if ((s.lane l).vot.agreedOf c.key).isSome ∨ ((s.lane l).vot.waitingOf c.key).isSome then s.bump l.reg VOT_CNT_LATE x.reg
        else s.modVot l (fun v => { v with copies := v.copies ++ [c] })) := by
  subst hc
  exact congrArg Host.Outcome.next ((State.whenUp_up up).trans (if_neg (by simp [peer, there])))

/-- A copy that names the lane itself is none. -/
theorem announceReceive_own (stamp : Nat) (raw : List Byte) (crc : Nat) : exec (.announceReceive l l stamp raw crc) s = .next s := by
  refine congrArg Host.Outcome.next ?_
  cases up : s.up l
  · exact State.whenUp_down up
  · exact (State.whenUp_up up).trans (if_pos (.inl rfl))

/-- The late copy of a peer is counted (R100). -/
theorem State.lateCount (s : State) (l x : LaneId) : SameBut s (s.bump l.reg VOT_CNT_LATE x.reg) [VOT_CNT_LATE.key l.reg x.reg] ∧
    Counted s (s.bump l.reg VOT_CNT_LATE x.reg) l.reg VOT_CNT_LATE x.reg :=
  ⟨State.sameBut_wr s _ _ _ _, State.counted_bump (widthOf_mapRow (by decide +kernel) (kindOf_reg l) (by cases x <;> decide))⟩

/-- A message in the place of the older one of its lane. -/
theorem Vot.mem_putInput (v : Vot) (m x : InputMsg) : x ∈ (v.putInput m).inputs ↔ x = m ∨ (x ∈ v.inputs ∧ x.lane ≠ m.lane) := by
  simp [Vot.putInput, or_comm]

theorem inputReceive_peer (up : s.up l = true) {m : InputMsg} (peer : m.lane ≠ l) (there : s.hasRegion m.lane.reg = true) :
    exec (.inputReceive l m) s = .next (s.modVot l (fun v => v.putInput m)) :=
  congrArg Host.Outcome.next ((State.whenUp_up up).trans (if_neg (by simp [peer, there])))

theorem inputVoteDeadline_unsynced (alone : s.synced l = false) : exec (.inputVoteDeadline l) s = .next s := by
  refine congrArg Host.Outcome.next ?_
  cases up : s.up l
  · exact State.whenUp_down up
  · exact (State.whenUp_up up).trans (if_pos (.inl (by simp [alone])))

end

/-- Settles O23: a copy recorded, late, or of the lane itself; an INPUT message in the place of an older one; the deadline. -/
theorem copiesAndInputs : Obligations.CopiesAndInputs := by
  unfold Obligations.CopiesAndInputs
  refine ⟨fun l x stamp raw crc s c up peer there hc => ⟨fun fresh free => ?_, fun late => ?_⟩, fun l stamp raw crc s => ?_,
    fun l m s up peer there => ?_, fun l s up => ?_, fun l s alone => ⟨s, inputVoteDeadline_unsynced alone, rfl⟩⟩
  · exact ⟨_, (announceReceive_peer up peer there stamp raw crc hc).trans (congrArg _ (if_neg (by simp [fresh, free]))), rfl⟩
  · exact ⟨_, (announceReceive_peer up peer there stamp raw crc hc).trans (congrArg _ (if_pos (.inl late))), State.lateCount s l x⟩
  · exact ⟨s, announceReceive_own stamp raw crc, rfl⟩
  · refine ⟨_, inputReceive_peer up peer there, ?_, fun x => ?_⟩
    · exact State.modLane_congr (by simp [Vot.putInput])
    · rw [State.modVot_vot]
      exact Vot.mem_putInput _ m x
  · exact ⟨_, congrArg Host.Outcome.next (State.whenUp_up up), rfl⟩

/-! ### A peer's frame in a lane (R88) -/

theorem Vot.putFrame_frame (v : Vot) (x : LaneId) (f : ExchFrame) : (v.putFrame x f).frame x = some f := by cases x <;> rfl

theorem Vot.putFrame_prev (v : Vot) (x : LaneId) (f : ExchFrame) : (v.putFrame x f).prev x = v.frame x := by cases x <;> rfl

/-- The lost windings of a lane as another lane notes them, a place per bridge. -/
def LostPlace (l x : LaneId) (k : PKey) : Prop := ∃ b, b < 6 ∧ k = VOT_LOST_W.key l.reg (8 * x.reg + b)

theorem State.noteWindings_touches (s : State) (l x : LaneId) (old new : Nat) : Touches (LostPlace l x) s (s.noteWindings l x old new) :=
  Touches.foldl_range 6 (fun _ b hb h => .ite (h.wr ⟨b, hb, rfl⟩) (.ite (h.wr ⟨b, hb, rfl⟩) h)) (.refl _ s)

theorem not_lostPlace {l x : LaneId} {d : PDesc} (h : offRows [VOT_LOST_W] d = true) (r : Nat) {i : Nat} (hi : i < 256) :
    ¬ LostPlace l x (d.key r i) := by
  rintro ⟨b, hb, e⟩
  have : x.reg ≤ 3 := by cases x <;> decide
  exact PDesc.key_ne_of_row h hi (by omega) e

section
variable {s : State} {l x : LaneId} {f : ExchFrame} {t : Nat}

/-- The state in which a lane has kept the frame of a peer and noted its windings. -/
def State.heard (s : State) (l x : LaneId) (f : ExchFrame) : State :=
  ((s.modVot l (fun v => v.putFrame x f)).wr l.reg VOT_GOT x.reg 1).noteWindings l x
    (((s.lane l).vot.frame x).map ExchFrame.active |>.getD 0) f.active

theorem State.heard_lane (s : State) (l x : LaneId) (f : ExchFrame) (y : LaneId) :
    (s.heard l x f).lane y = (s.modVot l (fun v => v.putFrame x f)).lane y := by
  rw [State.heard, (State.noteWindings_touches ..).lane, State.wr_lane]

theorem State.heard_sent (s : State) (l x : LaneId) (f : ExchFrame) : (s.heard l x f).sent = s.sent := by
  rw [State.heard, (State.noteWindings_touches ..).sent]
  exact State.modVot_sent ..

/-- Hearing a frame writes that the peer was heard and its windings. -/
theorem State.heard_get (s : State) (l x : LaneId) (f : ExchFrame) :
    SameOff (fun k => k = VOT_GOT.key l.reg x.reg ∨ LostPlace l x k) s (s.heard l x f) := by
  refine SameOff.trans (t := (s.modVot l (fun v => v.putFrame x f)).wr l.reg VOT_GOT x.reg 1) ?_ ((State.noteWindings_touches ..).get.mono fun _ => .inr)
  exact ((SameOff.refl _ s).of_params (State.modVot_params ..)).wr (.inl rfl)

/-- A row of neither is read as before. -/
theorem State.heard_rd {d : PDesc} (off : offRows [VOT_GOT, VOT_LOST_W] d = true) {r i : Nat} (hi : i < 256) :
    (s.heard l x f).rd r d i = s.rd r d i := by
  obtain ⟨got, lost⟩ : offRows [VOT_GOT] d = true ∧ offRows [VOT_LOST_W] d = true := by simpa [offRows] using off
  refine (State.heard_get s l x f).rd ?_
  rintro (e | e)
  · exact PDesc.key_ne_of_row got hi (by cases x <;> decide) e
  · exact not_lostPlace lost r hi e

theorem State.heard_got (s : State) (l x : LaneId) (f : ExchFrame) : (s.heard l x f).rd l.reg VOT_GOT x.reg = 1 := by
  rw [State.heard, (State.noteWindings_touches ..).rd (not_lostPlace (by decide) _ (by cases x <;> decide)), State.rd_wr_same,
    widthOf_var (by decide)]
  rfl

/-- A lane that is not out, that hears S, tries no image and has taken the digest of this cycle only keeps the frame. -/
theorem State.hearFrame_kept (inside : s.vstate l ≠ 4) (hearsS : s.rdB l.reg STF_S_SILENT = false) (noTrial : s.slotState l (s.actSlot l) ≠ 3)
    (taken : s.rdB l.reg VOT_DIG_DONE x.reg = true) : s.hearFrame l x f t = s.heard l x f := by
  have state : (s.heard l x f).vstate l ≠ 4 := by rwa [State.vstate, State.heard_rd (by decide) (by decide)]
  have silent : (s.heard l x f).rdB l.reg STF_S_SILENT = false := by rwa [State.rdB, State.heard_rd (by decide) (by decide)]
  have trial : (s.heard l x f).slotState l ((s.heard l x f).actSlot l) ≠ 3 := by
    rwa [State.slotState, State.actSlot, State.heard_rd (by decide) (by decide), State.heard_rd (by decide) (by decide)]
  have digest : (s.heard l x f).rdB l.reg VOT_DIG_DONE x.reg = true := by
    rwa [State.rdB, State.heard_rd (by decide) (by cases x <;> decide)]
  have rejoin : (s.heard l x f).hearRejoin l = s.heard l x f := if_neg fun h => state h.1
  have confirm : (s.heard l x f).confirmTrial l = s.heard l x f := if_neg fun h => trial h.1
  have back : (s.heard l x f).staffReturn l = s.heard l x f := if_neg (by simp [silent])
  have digests : (s.heard l x f).digestTake l x f t = s.heard l x f :=
    if_neg (by simp [digest])
  change ((((s.heard l x f).hearRejoin l).confirmTrial l).staffReturn l).digestTake l x f t = _
  rw [rejoin, confirm, back, digests]

theorem exchFrameReceive_peer (up : s.up l = true) (region : f.region = x.reg) (peer : x ≠ l) (there : s.hasRegion x.reg = true) :
    exec (.exchFrameReceive l f t) s = .next ((s.atTime t).hearFrame l x f t) := by
  refine congrArg Host.Outcome.next ((State.whenUp_up (s := s.atTime t) up).trans ?_)
  simp only [region, LaneId.ofReg_reg]
  exact if_pos ⟨peer, there⟩

theorem exchFrameReceive_own (region : f.region = l.reg) : exec (.exchFrameReceive l f t) s = .next (s.atTime t) := by
  refine congrArg Host.Outcome.next ?_
  cases up : (s.atTime t).up l
  · exact State.whenUp_down up
  · simp [State.whenUp_up up, region]

end

/-! ### A frame at S and its echo (R90, R116) -/

/-- What an end of a link sends is added to what was sent. -/
theorem State.pump_sent (n : Nat) (k : Link) (s : State) : ∃ fs, (State.pump n k s).sent = s.sent ++ fs := by
  induction n generalizing s with
  | zero => exact ⟨[], by simp [State.pump]⟩
  | succ n ih =>
    unfold State.pump
    split
    · exact ⟨[], by simp⟩
    · split
      · exact ⟨[], by simp⟩
      · next m _ =>
        obtain ⟨fs, e⟩ := ih { (s.setLink k ((s.link k).push k.near.code m).1) with
          sent := s.sent ++ [.flit k ((s.link k).push k.near.code m).2] }
        exact ⟨.flit k ((s.link k).push k.near.code m).2 :: fs, e.trans (by simp)⟩

theorem State.linkSend_sent (s : State) (k : Link) (type : Nat) (msg : List Byte) : ∃ fs, (s.linkSend k type msg).sent = s.sent ++ fs := by
  unfold State.linkSend
  split
  · obtain ⟨fs, e⟩ := State.pump_sent 8 k
      (s.setLink k { s.link k with outq := (s.link k).outq ++ [⟨type, false, messagePayloads msg⟩] })
    exact ⟨fs, by rw [e, State.setLink_sent]⟩
  · exact ⟨[], by simp⟩

/-- An echo stands in what is sent. -/
theorem State.echo_mem_sent (s : State) (l : LaneId) (e : SEcho) : Sent.echo l e ∈ (s.send (.echo l e)).sent := by
  obtain ⟨fs, h⟩ := State.linkSend_sent { s with sent := s.sent ++ [.echo l e] } ⟨.s, l.region⟩ 1 (echoBytes e)
  rw [show (s.send (.echo l e)).sent = _ from h]
  simp

section
variable {s : State} {l : LaneId} {f : ExchFrame} {t : Nat}

theorem State.keepFrame_frame (s : State) (l : LaneId) (f : ExchFrame) (t : Nat) : (s.keepFrame l f t).sdie.frame l = some f := by
  cases l <;> rfl

theorem State.keepFrame_places (s : State) (l : LaneId) (f : ExchFrame) (t : Nat) :
    SamePlaces s (s.keepFrame l f t) [STF_SEEN.key 8 l.reg, STF_SEEN_AT.key 8 l.reg] := by
  cases l <;> exact SamePlaces.wr (SamePlaces.wr (fun _ _ => rfl) (by simp)) (by simp)

/-- A row S does not write when it keeps a frame. -/
theorem State.keepFrame_rd {d : PDesc} (off : offRows [STF_SEEN, STF_SEEN_AT] d = true) {i : Nat} (hi : i < 256) :
    (s.keepFrame l f t).rd 8 d i = s.rd 8 d i := by
  obtain ⟨seen, time⟩ : offRows [STF_SEEN] d = true ∧ offRows [STF_SEEN_AT] d = true := by simpa [offRows] using off
  have small : l.reg < 256 := by cases l <;> decide
  exact State.keepFrame_places s l f t _ (by simp [PDesc.key_ne_of_row seen hi small, PDesc.key_ne_of_row time hi small])

theorem State.keepFrame_seen (s : State) (l : LaneId) (f : ExchFrame) (t : Nat) :
    (s.keepFrame l f t).rd 8 STF_SEEN l.reg = 1 ∧ (s.keepFrame l f t).rd 8 STF_SEEN_AT l.reg = t % 2 ^ 64 := by
  have small : l.reg < 256 := by cases l <;> decide
  unfold State.keepFrame
  rw [State.rd_wr_row _ _ _ _ (by decide) small small, State.rd_wr_same, State.rd_wr_same, widthOf_var (by decide), widthOf_var (by decide)]
  exact ⟨rfl, rfl⟩

/-- The state in which S has kept a frame and noted its staff epoch. -/
def State.noted (s : State) (l : LaneId) (f : ExchFrame) (t : Nat) : State := (s.keepFrame l f t).learnEpoch f.epoch

theorem State.noted_touches (s : State) (l : LaneId) (f : ExchFrame) (t : Nat) :
    Touches (· = S_STF_EPOCH.key 8 0) (s.keepFrame l f t) (s.noted l f t) := Touches.ite ((Touches.refl _ _).wr rfl) (.refl _ _)

theorem State.noted_frame (s : State) (l : LaneId) (f : ExchFrame) (t : Nat) : (s.noted l f t).sdie.frame l = some f := by
  rw [(State.noted_touches s l f t).rest]
  exact State.keepFrame_frame s l f t

theorem State.noted_part (s : State) (l : LaneId) (f : ExchFrame) (t : Nat) : (s.noted l f t).part = s.part := by
  rw [(State.noted_touches s l f t).part]
  cases l <;> rfl

/-- S forms no package with a frame in service. -/
theorem State.noted_active (there : s.hasRegion l.reg = true) (service : f.vstate = 2) :
    (s.noted l f t).lanesOf.all (fun x => (s.noted l f t).shadowS x) = false := by
  have member : l ∈ (s.noted l f t).lanesOf := by
    refine List.mem_filter.mpr ⟨by cases l <;> decide, ?_⟩
    rwa [State.hasRegion, State.noted_part]
  exact List.all_eq_false.mpr ⟨l, member, by simp [State.shadowS, State.noted_frame, service]⟩

theorem State.formCycle_touches (s : State) (l : LaneId) (f : ExchFrame) : Touches (· = S_STF_FORM_LAST.key 8 0) s (s.formCycle l f) :=
  Touches.ite ((Touches.refl _ s).wr rfl) (.refl _ s)

/-- The state in which S has taken the frame of a lane in service. -/
def State.framed (s : State) (l : LaneId) (f : ExchFrame) (t : Nat) : State := (s.noted l f t).formCycle l f

/-- Of the frame of a lane in service S keeps the frame, its time and its epoch, and answers its echo. -/
theorem State.frameS_service (there : s.hasRegion l.reg = true) (service : f.vstate = 2) :
    s.frameS l f t = (s.framed l f t).send (.echo l ((s.noted l f t).echoS f)) := by
  have forms : (if (s.noted l f t).mayForm ∧ (s.noted l f t).lanesOf.all (fun x => (s.noted l f t).shadowS x)
      then (s.noted l f t).formS (s.noted l f t).lanesOf false else s.noted l f t) = s.noted l f t :=
    if_neg (by simp [State.noted_active there service])
  have left : f.vstate ≠ 3 := by omega
  have shadow : f.vstate ≠ 0 := by omega
  rw [State.noted] at forms
  simp only [State.frameS, if_neg left, if_neg shadow, forms]
  rfl

theorem State.framed_places (s : State) (l : LaneId) (f : ExchFrame) (t : Nat) : SamePlaces s (s.framed l f t)
    [STF_SEEN.key 8 l.reg, STF_SEEN_AT.key 8 l.reg, S_STF_FORM_LAST.key 8 0, S_STF_EPOCH.key 8 0] := fun k hk => by
  simp only [List.mem_cons, List.not_mem_nil, or_false, not_or] at hk
  obtain ⟨seen, time, form, epoch⟩ := hk
  rw [State.framed, (State.formCycle_touches _ l f).get k form, (State.noted_touches s l f t).get k epoch,
    State.keepFrame_places s l f t k (by simp [seen, time])]

/-- Noting the epoch and the cycle of formation leaves what S kept of the frame. -/
theorem State.framed_rd {d : PDesc} (off : offRows [S_STF_FORM_LAST, S_STF_EPOCH] d = true) {i : Nat} (hi : i < 256) :
    (s.framed l f t).rd 8 d i = (s.keepFrame l f t).rd 8 d i := by
  obtain ⟨form, epoch⟩ : offRows [S_STF_FORM_LAST] d = true ∧ offRows [S_STF_EPOCH] d = true := by simpa [offRows] using off
  rw [State.framed, (State.formCycle_touches _ l f).rd (PDesc.key_ne_of_row form hi (by decide)),
    (State.noted_touches s l f t).rd (PDesc.key_ne_of_row epoch hi (by decide))]

theorem State.framed_frame (s : State) (l : LaneId) (f : ExchFrame) (t : Nat) : (s.framed l f t).sdie.frame l = some f := by
  rw [State.framed, (State.formCycle_touches _ l f).rest]
  exact State.noted_frame s l f t

/-- Until S has granted a claim since its reset it takes the highest epoch; later the frames leave it. -/
theorem State.framed_epoch (s : State) (l : LaneId) (f : ExchFrame) (t : Nat) : (s.framed l f t).rd 8 S_STF_EPOCH =
    if s.rd 8 S_STF_HOLDER = 0 ∧ s.rd 8 STF_PREV = 0 then max f.epoch (s.rd 8 S_STF_EPOCH) % 2 ^ 32 else s.rd 8 S_STF_EPOCH := by
  rw [State.framed, (State.formCycle_touches _ l f).rd (PDesc.key_ne_of_row (by decide) (by decide) (by decide)), State.noted, State.learnEpoch]
  simp only [State.keepFrame_rd (s := s) (l := l) (f := f) (t := t) (d := S_STF_HOLDER) (i := 0) (by decide) (by decide),
    State.keepFrame_rd (s := s) (l := l) (f := f) (t := t) (d := STF_PREV) (i := 0) (by decide) (by decide),
    State.keepFrame_rd (s := s) (l := l) (f := f) (t := t) (d := S_STF_EPOCH) (i := 0) (by decide) (by decide)]
  split
  · rw [State.rd_wr_same, widthOf_mapRow (k := .s) (by decide +kernel) (by decide) (by decide)]
    rfl
  · exact State.keepFrame_rd (by decide) (by decide)

theorem sExchReceive_service (up : s.sUp = true) (region : f.region = l.reg) (there : s.hasRegion l.reg = true) (service : f.vstate = 2) :
    exec (.sExchReceive f t) s = .next (((s.atTime t).framed l f t).send (.echo l (((s.atTime t).noted l f t).echoS f))) := by
  refine congrArg Host.Outcome.next ((State.whenS_on (s := s.atTime t) up).trans ?_)
  simp only [region, LaneId.ofReg_reg]
  exact (if_pos there).trans (State.frameS_service (s := s.atTime t) there service)

end

/-! ### The echo in a lane, and a lane that falls silent (R90, R117) -/

section
variable {s : State} {l : LaneId} {e : SEcho} {t : Nat}

/-- The state of a lane that has heard S's echo, which excludes it not. -/
def State.echoed (s : State) (l : LaneId) (e : SEcho) (t : Nat) : State :=
  (((s.modVot l (fun v => { v with echo := some e })).wr l.reg VOT_ECHO_GOT 0 1).wr l.reg VOT_ECHO_AT 0 t).wr l.reg STF_EXCL_SEEN 0 e.excluded

theorem sEchoReceive_heard (up : s.up l = true) (inside : bit e.excluded l.idx = false) :
    exec (.sEchoReceive l e t) s = .next ((s.atTime t).echoed l e t) :=
  congrArg Host.Outcome.next ((State.whenUp_up (s := s.atTime t) up).trans (if_neg (by simp [inside])))

theorem State.echoed_reads (s : State) (l : LaneId) (e : SEcho) (t : Nat) : (s.echoed l e t).rd l.reg VOT_ECHO_AT = t % 2 ^ 64 ∧
    (s.echoed l e t).rd l.reg VOT_ECHO_GOT = 1 ∧ (s.echoed l e t).rd l.reg STF_EXCL_SEEN = e.excluded % 2 ^ 64 := by
  unfold State.echoed
  refine ⟨?_, ?_, ?_⟩
  · rw [State.rd_wr_row _ _ _ _ (by decide) (by decide) (by decide), State.rd_wr_same, widthOf_var (by decide)]
  · rw [State.rd_wr_row _ _ _ _ (by decide) (by decide) (by decide), State.rd_wr_row _ _ _ _ (by decide) (by decide) (by decide),
      State.rd_wr_same, widthOf_var (by decide)]
    rfl
  · rw [State.rd_wr_same, widthOf_var (by decide)]

theorem sFrameSilence_excluded (out : s.excl l.reg = true) : exec (.sFrameSilence l) s = .next s := by
  refine congrArg Host.Outcome.next ?_
  unfold State.whenS
  split
  · exact if_pos out
  · rfl

end

/-- Settles O22: a peer's frame and one's own, a frame at S, an echo heard, a lane silent at S. -/
theorem exchangeFrames : Obligations.ExchangeFrames := by
  unfold Obligations.ExchangeFrames
  refine ⟨fun l x f t0 s up region peer there inside hearsS noTrial taken => ?_, fun l f t0 s region => ⟨_, exchFrameReceive_own region, rfl⟩,
    fun l f t0 s up region there service _ => ?_, fun l e t0 s up inside => ?_, fun l s up => ⟨_, congrArg Host.Outcome.next (State.whenS_on up), rfl⟩,
    fun l s out => ⟨s, sFrameSilence_excluded out, rfl⟩⟩
  · refine ⟨_, (exchFrameReceive_peer up region peer there).trans (congrArg _ (State.hearFrame_kept (s := s.atTime t0) inside hearsS noTrial taken)),
      ?_, ?_, State.heard_got _ l x f, (State.heard_sent _ l x f).trans rfl, fun y other => ?_, State.heard_get (s.atTime t0) l x f⟩
    · rw [State.heard_lane, State.modVot_vot, Vot.putFrame_frame]
    · rw [State.heard_lane, State.modVot_vot, Vot.putFrame_prev, State.atTime_lane]
    · rw [State.heard_lane, State.modVot, State.lane_modLane_ne _ _ other, State.atTime_lane]
  · refine ⟨_, sExchReceive_service up region there service, ?_⟩
    obtain ⟨seen, time⟩ := State.keepFrame_seen (s.atTime t0) l f t0
    have small : l.reg < 256 := by cases l <;> decide
    have places := State.framed_places (s.atTime t0) l f t0
    have epoch := State.framed_epoch (s.atTime t0) l f t0
    simp only [State.send_sdie, State.send_rd]
    refine ⟨State.framed_frame .., ?_, ?_, ⟨_, State.echo_mem_sent _ l _, rfl, ?_⟩, fun holder prev => ?_, fun holder => ?_, fun k hk => ?_⟩
    · rw [State.framed_rd (by decide) small, time]
    · rw [State.framed_rd (by decide) small, seen]
    · exact ((State.noted_touches _ l f t0).rd (PDesc.key_ne_of_row (by decide) (by decide) (by decide))).trans
        (State.keepFrame_rd (by decide) (by decide))
    · exact epoch.trans (if_pos ⟨holder, prev⟩)
    · exact epoch.trans (if_neg fun h => holder h.1)
    · rw [State.send_params]
      exact places k hk
  · obtain ⟨time, got, excluded⟩ := State.echoed_reads (s.atTime t0) l e t0
    refine ⟨_, sEchoReceive_heard up inside, ?_, time, got, excluded, fun y other => ?_, ?_, ?_⟩
    · simp [State.echoed]
    · simp [State.echoed, State.modVot, State.lane_modLane_ne _ _ other]
    · simp [State.echoed]
    · refine SamePlaces.wr (SamePlaces.wr (SamePlaces.wr (fun _ _ => ?_) (by simp)) (by simp)) (by simp)
      rw [State.modVot_params, State.atTime_params]

end Sys2Proof.Machine
end

section
/-! PROOFS. The rejoin of a lane: writes followed by messages, the transfer requested, answered, loaded or failed, the end of the shadow,
the second transfer. -/

namespace Sys2Proof.Machine

open Par Var

/-! ### Messages after writes -/

/-- The same but for its store. -/
def State.withStore (s : State) (m : Store) : State := { s with params := m }

/-- A store that shows every link in the same state. -/
def SameLinks (s : State) (m : Store) : Prop := ∀ k, (s.withStore m).linkState k = s.linkState k

section
variable {s : State} {m : Store}

theorem SameLinks.of_params (same : SameLinks s m) {u : State} (e : u.params = s.params) : SameLinks u m := fun k => by
  rw [State.linkState_of_params (k := k) e, ← same k]
  rfl

theorem State.setLink_withStore (s : State) (m : Store) (k : Link) (x : LinkSt) : (s.withStore m).setLink k x = (s.setLink k x).withStore m := by
  cases held : s.links.any (fun e => e.1 == k) <;> simp [State.setLink, State.withStore, held]

theorem State.pump_withStore (n : Nat) (k : Link) (s : State) (m : Store) : State.pump n k (s.withStore m) = (State.pump n k s).withStore m := by
  induction n generalizing s with
  | zero => rfl
  | succ n ih =>
    have link : (s.withStore m).link k = s.link k := rfl
    simp only [State.pump, link, State.setLink_withStore]
    split
    · rfl
    · split
      · rfl
      · next x _ =>
        exact ih { (s.setLink k ((s.link k).push k.near.code x).1) with sent := s.sent ++ [.flit k ((s.link k).push k.near.code x).2] }

theorem State.linkSend_withStore (same : SameLinks s m) (k : Link) (type : Nat) (msg : List Byte) :
    (s.withStore m).linkSend k type msg = (s.linkSend k type msg).withStore m := by
  have link : (s.withStore m).link k = s.link k := rfl
  unfold State.linkSend
  simp only [same k, link, State.setLink_withStore, State.pump_withStore]
  split <;> rfl

theorem State.laneSend_withStore (same : SameLinks s m) (r : Nat) (dst : List Region) (type : Nat) (msg : List Byte) :
    (s.withStore m).laneSend r dst type msg = (s.laneSend r dst type msg).withStore m := by
  unfold State.laneSend
  split
  · rfl
  · next n _ =>
    induction dst generalizing s with
    | nil => rfl
    | cons f dst ih =>
      simp only [List.foldl_cons]
      split
      · exact ih same
      · rw [State.linkSend_withStore same]
        exact ih (same.of_params (State.linkSend_params ..))

/-- What is sent does not depend on the store but by the links' states. -/
theorem State.send_withStore (same : SameLinks s m) (x : Sent) : (s.withStore m).send x = (s.send x).withStore m := by
  have told : SameLinks { s with sent := s.sent ++ [x] } m := same.of_params rfl
  show State.onLinks ({ s with sent := s.sent ++ [x] }.withStore m) x = (State.onLinks { s with sent := s.sent ++ [x] } x).withStore m
  generalize ({ s with sent := s.sent ++ [x] } : State) = u at told
  unfold State.onLinks
  split
  · exact State.laneSend_withStore told ..
  · exact State.laneSend_withStore told ..
  · exact State.linkSend_withStore told ..
  · exact State.laneSend_withStore told ..
  · exact State.laneSend_withStore told ..
  · rfl

theorem State.tells_withStore (same : SameLinks s m) (ms : List Sent) : (s.withStore m).tells ms = (s.tells ms).withStore m := by
  induction ms generalizing s with
  | nil => rfl
  | cons x ms ih =>
    simp only [State.tells, List.foldl_cons, State.send_withStore same]
    exact ih (same.of_params (State.send_params s x))

theorem State.tells_params (s : State) (ms : List Sent) : (s.tells ms).params = s.params := by
  induction ms generalizing s with
  | nil => rfl
  | cons x ms ih => exact (ih (s.send x)).trans (State.send_params s x)

/-- A row that no link's state is read from. -/
def notLinkState (k : PKey) : Bool := k.block != XLK_LINK_STATE.block || k.index != XLK_LINK_STATE.index

/-- Writes apart from the links' states, and the messages sent after them. -/
theorem Writes.tells {t : State} {ws : List (PKey × Nat)} (h : Writes s t ws) (off : ∀ k ∈ ws.map Prod.fst, notLinkState k = true) (ms : List Sent) :
    Writes s (t.tells ms) ws ms := by
  obtain ⟨rest, reads, same⟩ := h
  have stored : t = s.withStore t.params := rest
  have links : SameLinks s t.params := fun k => by
    have le (r : Region) : r.code < 256 := by have := Region.code_le r; omega
    have one (r i : Nat) (hi : i < 256) : (s.withStore t.params).rd r XLK_LINK_STATE i = s.rd r XLK_LINK_STATE i :=
      same _ fun at' => by
        have := off _ at'
        simp [notLinkState, PDesc.key, show i / 256 = 0 by omega] at this
    simp only [State.linkState, one _ _ (le _)]
  have params : (t.tells ms).params = t.params := State.tells_params t ms
  refine ⟨?_, fun w hw => ?_, fun k hk => ?_⟩
  · rw [stored, State.tells_withStore links]
    rfl
  · rw [params]
    exact reads w hw
  · rw [params]
    exact same k hk

end

/-! ### Writes and the records of a lane -/

/-- A value written that fits its place. -/
theorem Reads.rd {t : State} {ws : List (PKey × Nat)} (h : Reads t ws) {r i v : Nat} {d : PDesc} (written : (d.key r i, v) ∈ ws)
    (fits : v < 2 ^ widthOf (d.key r i)) : t.rd r d i = v := (h _ written).trans (Nat.mod_eq_of_lt fits)

theorem State.wr_eq_puts (s : State) (r : Nat) (d : PDesc) (i v : Nat) : s.wr r d i v = s.puts [(d.key r i, v)] := rfl

theorem State.puts_puts (s : State) (ws ws' : List (PKey × Nat)) : (s.puts ws).puts ws' = s.puts (ws ++ ws') := (State.puts_append s ws ws').symm

theorem State.modLane_puts (s : State) (ws : List (PKey × Nat)) (l : LaneId) (f : Lane → Lane) : (s.puts ws).modLane l f = (s.modLane l f).puts ws := by
  cases l <;> rfl

/-- What depends on the numbers of a list alone. -/
theorem flatMap_zipIdx {α β : Type} (xs : List α) (g : Nat → List β) : xs.zipIdx.flatMap (fun p => g p.2) = (List.range xs.length).flatMap g := by
  rw [List.range_eq_range', ← List.zipIdx_map_snd 0 xs, List.flatMap_map]

/-! ### The transfer requested (R128, R129) -/

section
variable {s : State} {l : LaneId}

/-- The peers heard in standby or in service are seen by their frames alone. -/
theorem State.liveHeard_touches {rows : List PDesc} {t : State} (h : Touches (AnyRow rows) s t)
    (off : (offRows rows VOT_LOST && offRows rows UPD_ACTIVE_DIGEST) = true) : t.liveHeard l = s.liveHeard l := by
  obtain ⟨lost, image⟩ := Bool.and_eq_true_iff.mp off
  have seen (x : LaneId) (other : x ≠ l) : t.seen l x = s.seen l x := by
    rw [State.seen, State.seen, if_neg other, if_neg other, h.lane, h.rdB (not_anyRow lost _ (by cases x <;> decide)),
      h.rd (not_anyRow image _ (by decide)), h.rd (not_anyRow image _ (by decide))]
  have peers : t.peersOf l = s.peersOf l := by simp only [State.peersOf, State.hasRegion, h.part]
  rw [State.liveHeard, State.liveHeard, peers]
  refine List.filter_congr fun x hx => ?_
  have other : x ≠ l := by
    have := (List.mem_filter.mp hx).1
    rintro rfl
    cases x <;> simp [LaneId.peers] at this
  rw [seen x other]

/-- The requests for a transfer. -/
def State.requests (s : State) (l : LaneId) : List Sent := (s.liveHeard l).map (fun p => .xferRequest l p)

/-- The step begun: noted with its time, and the transfer requested. -/
theorem State.requestXfer_eq (s : State) (l : LaneId) :
    s.requestXfer l = ((s.wr l.reg STF_XFER_ON 0 1).wr l.reg STF_XFER_AT 0 s.now).tells (s.requests l) := by
  have noted : Touches (AnyRow [STF_XFER_ON, STF_XFER_AT]) s ((s.wr l.reg STF_XFER_ON 0 1).wr l.reg STF_XFER_AT 0 s.now) :=
    ((Touches.refl _ s).wr (AnyRow.key (by simp) _ (by decide))).wr (AnyRow.key (by simp) _ (by decide))
  rw [State.requests, ← State.liveHeard_touches noted (by decide), State.tells, List.foldl_map]
  rfl

theorem formationListenEnd_rejoins (up : s.up l = true) (out : s.vstate l = 4) (synced : s.synced l = true) (stays : s.rdB l.reg STF_STAY_OUT = false)
    (idle : s.rdB l.reg STF_XFER_ON = false) (live : s.liveHeard l ≠ []) (pair : s.rd l.reg LSC_STATE ≠ 3) (back : s.linksBack l = true) :
    Runs (.formationListenEnd l) s (fun t => Writes s t
      [(STF_LISTEN.key l.reg 0, 0), (STF_LINK_OUT.key l.reg 0, 0), (STF_XFER_ON.key l.reg 0, 1), (STF_XFER_AT.key l.reg 0, s.now)] (s.requests l)) := by
  have run : exec (.formationListenEnd l) s = .next (((s.wr l.reg STF_LISTEN 0 0).wr l.reg STF_LINK_OUT 0 0).requestXfer l) := by
    refine congrArg Host.Outcome.next ((State.whenUp_up up).trans ((if_pos (by simp [out, synced, stays, idle, back, pair])).trans ?_))
    exact (if_neg (by simp [live])).trans (if_neg (by simp [stays, idle, back]))
  refine ⟨_, run, ?_⟩
  show Writes s _ _ _
  have left : Touches (AnyRow [STF_LISTEN, STF_LINK_OUT]) s ((s.wr l.reg STF_LISTEN 0 0).wr l.reg STF_LINK_OUT 0 0) :=
    ((Touches.refl _ s).wr (AnyRow.key (by simp) _ (by decide))).wr (AnyRow.key (by simp) _ (by decide))
  rw [State.requestXfer_eq, State.requests, State.liveHeard_touches left (by decide)]
  have notes : Writes s _ [(STF_LISTEN.key l.reg 0, 0), (STF_LINK_OUT.key l.reg 0, 0), (STF_XFER_ON.key l.reg 0, 1),
    (STF_XFER_AT.key l.reg 0, s.now)] := Writes.of_puts (by simp only [List.map]; cases l <;> decide) rfl
  exact notes.tells (by simp only [List.map]; cases l <;> decide) _

theorem formationListenEnd_waits (up : s.up l = true) (away : s.linksBack l = false) : exec (.formationListenEnd l) s = .next s :=
  congrArg Host.Outcome.next ((State.whenUp_up up).trans (if_neg (by simp [away])))

/-! ### A request answered (R129) -/

theorem Writes.told (s : State) (ms : List Sent) : Writes s (s.tells ms) [] ms := (Writes.nil s).tells (by simp) ms

section
variable {x : LaneId} (up : s.up l = true) (other : x ≠ l) (there : s.vstate l = 1 ∨ s.vstate l = 2)
include up other there

/-- The holder answers with its state. -/
theorem stateTransferRequest_source (holds : s.rd l.reg STF_HOLDER = l.reg) :
    exec (.stateTransferRequest l x) s = .next (s.tells [.stateXfer x (s.stateXfer l)]) := by
  have apart : l.reg ≠ x.reg := (reg_injective other).symm
  have some' : l.reg ≠ 0 := by cases l <;> decide
  refine congrArg Host.Outcome.next ((State.whenUp_up up).trans ((if_neg (by simp [other]; omega)).trans (if_pos ?_)))
  simp [holds, apart, some']

/-- Another lane answers with its check. -/
theorem stateTransferRequest_second (held : s.rd l.reg STF_HOLDER ≠ 0) (notAsks : s.rd l.reg STF_HOLDER ≠ x.reg)
    (notOwn : s.rd l.reg STF_HOLDER ≠ l.reg) :
    exec (.stateTransferRequest l x) s = .next (s.tells [.xferCrc x (xferCheck (s.stateXfer l))]) := by
  refine congrArg Host.Outcome.next ((State.whenUp_up up).trans ((if_neg (by simp [other]; omega)).trans (if_neg ?_)))
  simp [held, notAsks, notOwn]

end

/-! ### A step that fails (R128) -/

/-- The counter of the failed steps. -/
def stepCounter (step : Nat) : PDesc := if step = 2 then STF_CNT_XFER_FAIL else STF_CNT_SHADOW_FAIL

/-- What a failed step notes at once. -/
def State.failNotes (s : State) (l : LaneId) (step : Nat) : List (PKey × Nat) :=
  [(STF_STATE.key l.reg 0, 4), (STF_XFER_ON.key l.reg 0, 0), (STF_STEP_FAIL.key l.reg step, s.rd l.reg STF_STEP_FAIL step + 1),
    s.next l.reg (stepCounter step)]

theorem stepCounter_cases (step : Nat) : stepCounter step = STF_CNT_XFER_FAIL ∨ stepCounter step = STF_CNT_SHADOW_FAIL := by
  unfold stepCounter
  split <;> simp

/-- The places of a failed step lie apart, and none is a link's state. -/
theorem stepPlaces_apart (l : LaneId) {step : Nat} (hs : step < 4) :
    [STF_STATE.key l.reg 0, STF_XFER_ON.key l.reg 0, STF_STEP_FAIL.key l.reg step, (stepCounter step).key l.reg 0].Nodup ∧
    STF_XFER_ON.key l.reg 0 ∉ [STF_STATE.key l.reg 0, STF_STEP_FAIL.key l.reg step, (stepCounter step).key l.reg 0] ∧
    STF_XFER_AT.key l.reg 0 ∉ [STF_XFER_ON.key l.reg 0, STF_STATE.key l.reg 0, STF_STEP_FAIL.key l.reg step, (stepCounter step).key l.reg 0] ∧
    ∀ k ∈ [STF_XFER_AT.key l.reg 0, STF_XFER_ON.key l.reg 0, STF_STATE.key l.reg 0, STF_STEP_FAIL.key l.reg step,
      (stepCounter step).key l.reg 0], notLinkState k = true := by
  interval_cases step <;> cases l <;> decide

/-- The rows a failed step writes. -/
def failRows : List PDesc := [STF_STATE, STF_XFER_ON, STF_STEP_FAIL, STF_CNT_XFER_FAIL, STF_CNT_SHADOW_FAIL, STF_STAY_OUT]

theorem State.failNotes_touches {step : Nat} (hs : step < 4) : Touches (AnyRow failRows) s (s.puts (s.failNotes l step)) := by
  refine (State.puts_touches s _).mono fun k hk => ?_
  simp only [State.failNotes, State.next, List.map, List.mem_cons, List.not_mem_nil, or_false] at hk
  rcases hk with rfl | rfl | rfl | rfl
  · exact AnyRow.key (by simp [failRows]) _ (by decide)
  · exact AnyRow.key (by simp [failRows]) _ (by decide)
  · exact AnyRow.key (by simp [failRows]) _ (by omega)
  · exact AnyRow.key (by rcases stepCounter_cases step with e | e <;> simp [e, failRows]) _ (by decide)

/-- A failed step: its notes, then the next try, or the stay out with source 12. -/
theorem State.stepFail_eq {step : Nat} (hs : step < 4) : s.stepFail l step =
    if 3 ≤ s.rd l.reg STF_STEP_FAIL step + 1 then ((s.puts (s.failNotes l step)).wr l.reg STF_STAY_OUT 0 1).raise l.reg 12
    else (s.puts (s.failNotes l step)).requestXfer l := by
  let u := ((s.wr l.reg STF_STATE 0 4).wr l.reg STF_XFER_ON 0 0).wr l.reg STF_STEP_FAIL step (s.rd l.reg STF_STEP_FAIL step + 1)
  have rows : TouchesRows [STF_STATE, STF_XFER_ON, STF_STEP_FAIL] l.reg s u :=
    (((Touches.refl _ s).wr (RowPlace.key (by simp) _ (by decide))).wr (RowPlace.key (by simp) _ (by decide))).wr
      (RowPlace.key (by simp) _ (by omega))
  have count : u.rd l.reg (stepCounter step) = s.rd l.reg (stepCounter step) := by
    rcases stepCounter_cases step with e | e <;> rw [e] <;> exact rows.rd (by decide) _ (by decide)
  have notes : u.bump l.reg (stepCounter step) = s.puts (s.failNotes l step) := by
    rw [State.bump_eq, State.next, count]
    rfl
  rw [← notes]
  rfl

/-- Up to the second failure of a step it starts again. -/
theorem State.stepFail_again {step : Nat} (hs : step < 4) (again : s.rd l.reg STF_STEP_FAIL step < 2) : Writes s (s.stepFail l step)
    [(STF_STATE.key l.reg 0, 4), (STF_XFER_ON.key l.reg 0, 1), (STF_XFER_AT.key l.reg 0, s.now),
      (STF_STEP_FAIL.key l.reg step, s.rd l.reg STF_STEP_FAIL step + 1), s.next l.reg (stepCounter step)] (s.requests l) := by
  have begun : s.stepFail l step = ((s.puts (s.failNotes l step ++ [(STF_XFER_ON.key l.reg 0, 1), (STF_XFER_AT.key l.reg 0, s.now)]))).tells
      (s.requests l) := by
    rw [State.stepFail_eq hs, if_neg (by omega), State.requestXfer_eq, State.requests, State.liveHeard_touches (State.failNotes_touches hs) (by decide),
      State.puts_append]
    rfl
  obtain ⟨apart, on, time, off⟩ := stepPlaces_apart l hs
  have notes : Writes s (s.puts (s.failNotes l step)) [(STF_XFER_ON.key l.reg 0, 0), (STF_STATE.key l.reg 0, 4),
      (STF_STEP_FAIL.key l.reg step, s.rd l.reg STF_STEP_FAIL step + 1), s.next l.reg (stepCounter step)] :=
    (State.puts_writes s (ws := s.failNotes l step) apart).congr fun w => by simp only [State.failNotes, List.mem_cons]; tauto
  rw [begun]
  exact (((notes.rewr on).wr s.now time).tells off _).congr fun w => by simp only [List.mem_cons]; tauto

/-- A third failure in a row: the lane is out, stays out and asserts source 12. -/
theorem State.stepFail_out (third : s.rd l.reg STF_STEP_FAIL 2 = 2) : (s.stepFail l 2).vstate l = 4 ∧ (s.stepFail l 2).rd l.reg STF_STAY_OUT = 1 ∧
    (s.stepFail l 2).rd l.reg STF_XFER_ON = 0 ∧ Counted s (s.stepFail l 2) l.reg STF_CNT_XFER_FAIL ∧
    (Judged s l.reg 12 → bit ((s.stepFail l 2).rd l.reg FCL_ERR_STATUS) 12 = true) := by
  let u := (s.puts (s.failNotes l 2)).wr l.reg STF_STAY_OUT 0 1
  have fails : s.stepFail l 2 = u.raise l.reg 12 := by rw [State.stepFail_eq (by decide), if_pos (by omega)]
  have notes : Writes s u ((STF_STAY_OUT.key l.reg 0, 1) :: s.failNotes l 2) :=
    (State.puts_writes s (ws := s.failNotes l 2) (stepPlaces_apart l (by decide)).1).wr 1 (by simp only [State.failNotes, State.next, List.map]; cases l <;> decide)
  obtain ⟨-, reads, -⟩ := notes
  have state : u.vstate l = 4 := 
    reads.rd (by simp [State.failNotes]) (by rw [widthOf_mapRow (by decide +kernel) (kindOf_reg l) (by decide)]; decide)
  have quiet : NoReset u l.reg 12 := .inr (by
    unfold State.quietLane
    rw [show laneOfReg l.reg = some l by cases l <;> rfl]
    simp [state])
  have faults : OnlyFaults u (u.raise l.reg 12) := State.raise_faults u l.reg 12 _ quiet
  rw [fails]
  refine ⟨?_, ?_, ?_, ?_, fun judged => ?_⟩
  · rw [State.vstate, faults.rd (by decide) _ (by decide)]
    exact state
  · rw [faults.rd (by decide) _ (by decide)]
    exact reads.rd (by simp) (by rw [widthOf_var (by decide)]; decide)
  · rw [faults.rd (by decide) _ (by decide)]
    exact reads.rd (by simp [State.failNotes]) (by rw [widthOf_var (by decide)]; decide)
  · rw [Counted, faults.rd (by decide) _ (by decide)]
    refine reads.rd (by simp [State.failNotes, stepCounter, State.next]) ?_
    rw [widthOf_mapRow (by decide +kernel) (kindOf_reg l) (by decide)]
    have : 0 < 2 ^ STF_CNT_XFER_FAIL.width := by decide
    omega
  · have rows : Touches (AnyRow failRows) s u := (State.failNotes_touches (by decide)).wr (AnyRow.key (by simp [failRows]) _ (by decide))
    exact State.raise_err (judged.congr rows.part (rows.rd (not_anyRow (by decide) _ (ownerOf_lt _ _))) (rows.rd (not_anyRow (by decide) _ (by decide))))
      quiet (by cases l <;> decide)

end

/-! ### The transfer loaded (R129) -/

/-- What of a lane's records a transfer replaces. -/
def xferRecords (x : StateXfer) (y : Lane) : Lane :=
  { y with vot := { y.vot with agreed := x.agreed, minority := x.minority, copies := [], windows := [], waiting := [] }, tblLoad := some x.table }

/-- What a transfer writes of the windings. -/
def windingWrites (l : LaneId) (d : PDesc) (ms : List Nat) : List (PKey × Nat) :=
  (List.range 18).flatMap fun i => [(d.key l.reg (8 * (i / 6 + 1) + i % 6), b2n (bit (ms.getD (i / 6) 0) (i % 6)))]

/-- What a transfer writes. -/
def xferWrites (x : StateXfer) (l : LaneId) : List (PKey × Nat) :=
  [(STF_HOLDER.key l.reg 0, x.holder)] ++ [(STF_EPOCH.key l.reg 0, x.epoch)] ++ [(STF_LEASE_MS.key l.reg 0, x.lease)] ++
    [(VOT_DIGEST.key l.reg 0, x.digest)] ++ [(VOT_NET_STATE.key l.reg 0, x.netState)] ++
    x.anFailed.zipIdx.flatMap (fun p => [(VOT_AN_STATE.key l.reg p.2, p.1)]) ++
    x.diFailed.zipIdx.flatMap (fun p => [(VOT_DI_FAILED.key l.reg (p.2 + 1), p.1)]) ++
    [(SDC_X.key l.reg 0, twos SDC_X.width x.pos)] ++ windingWrites l VOT_LOST_W x.lostW ++ windingWrites l VOT_STOPPED_W x.stoppedW ++
    [(VOT_MODE.key l.reg 0, x.mode)] ++
    x.targets.zipIdx.flatMap (fun p => [(CEN_TARGET.key l.reg p.2, p.1.1)] ++ [(CEN_TGT_CMD.key l.reg p.2, p.1.2)])

theorem State.loadXfer_eq (s : State) (l : LaneId) (x : StateXfer) : s.loadXfer l x = (s.modLane l (xferRecords x)).puts (xferWrites x l) := by
  simp only [State.loadXfer, State.loadWindings, State.wrI, State.wrB, State.wr_eq_puts, State.puts_puts, State.foldl_puts, State.modVot, State.modLane_puts,
    State.modLane_modLane]
  rfl

/-- What is written of a completed transfer beside its contents. -/
def shadowWrites (l : LaneId) (us now : Nat) : List (PKey × Nat) :=
  [(STF_XFER_ON.key l.reg 0, 0), (STF_XFER_LAST.key l.reg 0, satNat 16 us), (STF_STEP_FAIL.key l.reg 2, 0), (STF_STATE.key l.reg 0, 0),
    (STF_SHADOW_AT.key l.reg 0, now), (STF_SHADOW_BAD.key l.reg 0, 0), (STF_SHADOW_N.key l.reg 0, 0), (STF_LOOP_GOT.key l.reg 0, 0),
    (STF_LISTEN.key l.reg 0, 0)]

theorem State.shadowWrites_eq (s : State) (l : LaneId) (us : Nat) :
    (((s.wr l.reg STF_XFER_ON 0 0).wr l.reg STF_XFER_LAST 0 (satNat 16 us)).wr l.reg STF_STEP_FAIL 2 0).enterShadow l =
      s.puts (shadowWrites l us s.now) := by
  simp only [State.enterShadow, State.wr_eq_puts, State.puts_puts, List.cons_append, List.nil_append]
  rfl

/-- The places of a transfer loaded. -/
def xferPlaces (l : LaneId) : List PKey :=
  [STF_HOLDER.key l.reg 0, STF_EPOCH.key l.reg 0, STF_LEASE_MS.key l.reg 0, VOT_DIGEST.key l.reg 0, VOT_NET_STATE.key l.reg 0] ++
    (List.range 8).flatMap (fun i => [VOT_AN_STATE.key l.reg i]) ++ (List.range 3).flatMap (fun i => [VOT_DI_FAILED.key l.reg (i + 1)]) ++
    [SDC_X.key l.reg 0] ++ (List.range 18).flatMap (fun i => [VOT_LOST_W.key l.reg (8 * (i / 6 + 1) + i % 6)]) ++
    (List.range 18).flatMap (fun i => [VOT_STOPPED_W.key l.reg (8 * (i / 6 + 1) + i % 6)]) ++ [VOT_MODE.key l.reg 0] ++
    (List.range 5).flatMap (fun i => [CEN_TARGET.key l.reg i, CEN_TGT_CMD.key l.reg i]) ++
    [STF_XFER_ON.key l.reg 0, STF_XFER_LAST.key l.reg 0, STF_STEP_FAIL.key l.reg 2, STF_STATE.key l.reg 0, STF_SHADOW_AT.key l.reg 0,
      STF_SHADOW_BAD.key l.reg 0, STF_SHADOW_N.key l.reg 0, STF_LOOP_GOT.key l.reg 0, STF_LISTEN.key l.reg 0]

theorem xferPlaces_nodup (l : LaneId) : (xferPlaces l).Nodup := by cases l <;> decide +kernel

section
variable {x : StateXfer} (an : x.anFailed.length = 8) (di : x.diFailed.length = 3) (targets : x.targets.length = 5)
include an di targets

theorem xferWrites_places (l : LaneId) (us now : Nat) : (xferWrites x l ++ shadowWrites l us now).map Prod.fst = xferPlaces l := by
  simp only [xferWrites, windingWrites, List.map_append, List.map_flatMap, List.map_cons, List.map_nil]
  rw [flatMap_zipIdx x.anFailed (fun i => [VOT_AN_STATE.key l.reg i]), flatMap_zipIdx x.diFailed (fun i => [VOT_DI_FAILED.key l.reg (i + 1)]),
    flatMap_zipIdx x.targets (fun i => [CEN_TARGET.key l.reg i] ++ [CEN_TGT_CMD.key l.reg i]), an, di, targets]
  rfl

end

section
variable {s : State} {l : LaneId} {x : StateXfer} {crc : Option Nat} {us : Nat} (up : s.up l = true) (on : s.rdB l.reg STF_XFER_ON = true)
include up on

/-- A transfer in time and equal to the second check is loaded, and the lane is in shadow. -/
theorem stateTransferComplete_good (inTime : us ≤ 15000) (same : crc = none ∨ crc = some (xferCheck x)) :
    exec (.stateTransferComplete l x crc us) s = .next ((s.modLane l (xferRecords x)).puts (xferWrites x l ++ shadowWrites l us s.now)) := by
  refine congrArg Host.Outcome.next ((State.whenUp_up up).trans ((if_neg (by simp [on])).trans ((if_pos ⟨inTime, ?_⟩).trans ?_)))
  · rw [State.shadowWrites_eq, State.loadXfer_eq, State.puts_append]
    exact congrArg (fun now => State.puts _ (shadowWrites l us now)) (State.modLane_now s l (xferRecords x))
  · rcases same with rfl | rfl
    · rfl
    · exact beq_self_eq_true (xferCheck x)

/-- One too late or different from the second check fails the step, as no complete one does. -/
theorem stateTransfer_bad (bad : us > 15000 ∨ (∃ c, crc = some c ∧ c ≠ xferCheck x)) :
    ∀ c ∈ [Instr.stateTransferComplete l x crc us, .stateTransferTimeout l], exec c s = .next (s.stepFail l 2) := by
  intro c hc
  rcases List.mem_pair.mp hc with rfl | rfl
  · refine congrArg Host.Outcome.next ((State.whenUp_up up).trans ((if_neg (by simp [on])).trans (if_neg ?_)))
    rintro ⟨inTime, same⟩
    rcases bad with late | ⟨c, rfl, different⟩
    · omega
    · exact different (by simpa using same)
  · exact congrArg Host.Outcome.next ((State.whenUp_up up).trans (if_pos on))

end

/-- What the transfer leaves of the windings. -/
theorem windingWrites_mem {l : LaneId} {d : PDesc} {ms : List Nat} {i : Nat} (hi : i < 18) :
    (d.key l.reg (8 * (i / 6 + 1) + i % 6), b2n (bit (ms.getD (i / 6) 0) (i % 6))) ∈ windingWrites l d ms :=
  List.mem_flatMap.mpr ⟨i, List.mem_range.mpr hi, List.mem_singleton.mpr rfl⟩

theorem Reads.winding {t : State} {l : LaneId} {d : PDesc} {ms : List Nat} (h : Reads t (windingWrites l d ms)) (var : 0x80 ≤ d.block) {i : Nat}
    (hi : i < 18) : t.rdB l.reg d (8 * (i / 6 + 1) + i % 6) = bit (ms.getD (i / 6) 0) (i % 6) := by
  rw [State.rdB, Reads.rd h (windingWrites_mem hi) (by rw [widthOf_var var]; unfold b2n; split <;> decide)]
  cases bit (ms.getD (i / 6) 0) (i % 6) <;> rfl

/-- What a reader sees of a transfer loaded. -/
theorem xferLoaded_seen (s : State) (l : LaneId) (x : StateXfer) {us : Nat} (inTime : us ≤ 15000) (an : x.anFailed.length = 8)
    (di : x.diFailed.length = 3) (targets : x.targets.length = 5) {t : State}
    (ht : t = (s.modLane l (xferRecords x)).puts (xferWrites x l ++ shadowWrites l us s.now)) : t.vstate l = 0 ∧ t.sent = s.sent ∧ SameOtherLanes s t l ∧
      Reads t ([(STF_HOLDER.key l.reg 0, x.holder), (STF_EPOCH.key l.reg 0, x.epoch), (STF_LEASE_MS.key l.reg 0, x.lease),
        (VOT_DIGEST.key l.reg 0, x.digest), (VOT_NET_STATE.key l.reg 0, x.netState), (VOT_MODE.key l.reg 0, x.mode),
        (STF_XFER_ON.key l.reg 0, 0), (STF_XFER_LAST.key l.reg 0, us), (STF_SHADOW_AT.key l.reg 0, s.now)] ++
        x.targets.zipIdx.flatMap (fun p => [(CEN_TARGET.key l.reg p.2, p.1.1), (CEN_TGT_CMD.key l.reg p.2, p.1.2)]) ++
        x.anFailed.zipIdx.map (fun p => (VOT_AN_STATE.key l.reg p.2, p.1)) ++
        x.diFailed.zipIdx.map (fun p => (VOT_DI_FAILED.key l.reg (p.2 + 1), p.1))) ∧
      (t.lane l).vot = { (s.lane l).vot with agreed := x.agreed, minority := x.minority, copies := [], windows := [], waiting := [] } ∧
      (t.lane l).tblLoad = some x.table ∧
      ∀ i, i < 18 → t.rdB l.reg VOT_LOST_W (8 * (i / 6 + 1) + i % 6) = bit (x.lostW.getD (i / 6) 0) (i % 6) ∧
        t.rdB l.reg VOT_STOPPED_W (8 * (i / 6 + 1) + i % 6) = bit (x.stoppedW.getD (i / 6) 0) (i % 6) := by
  have written : Writes (s.modLane l (xferRecords x)) t (xferWrites x l ++ shadowWrites l us s.now) :=
    Writes.of_puts (by rw [xferWrites_places an di targets]; exact xferPlaces_nodup l) ht
  obtain ⟨-, reads, -⟩ := written
  have lane (y : LaneId) : t.lane y = (s.modLane l (xferRecords x)).lane y := by rw [ht, (State.puts_touches _ _).lane]
  have time : satNat 16 us = us := by rw [satNat_eq]; omega
  refine ⟨?_, ?_, fun y other => ?_, ?_, ?_, ?_, fun i hi => ⟨?_, ?_⟩⟩
  · refine reads.rd (by simp [shadowWrites]) ?_
    rw [widthOf_mapRow (by decide +kernel) (kindOf_reg l) (by decide)]
    decide
  · rw [ht, (State.puts_touches _ _).sent, State.modLane_sent]
  · rw [lane, State.lane_modLane_ne _ _ other]
  · refine reads.congr fun w hw => ?_
    simp only [List.map_eq_flatMap, List.mem_append, List.mem_cons, List.not_mem_nil, or_false] at hw
    simp only [xferWrites, shadowWrites, time, List.mem_append, List.mem_cons, List.not_mem_nil, or_false, List.cons_append, List.nil_append]
    tauto
  · rw [lane, State.lane_modLane]
    rfl
  · rw [lane, State.lane_modLane]
    rfl
  · exact Reads.winding (reads.congr fun w hw => by simp [xferWrites, hw]) (by decide) hi
  · exact Reads.winding (reads.congr fun w hw => by simp [xferWrites, hw]) (by decide) hi

/-! ### The end of the shadow (R128, R130, R248) -/

section
variable {s : State} {l : LaneId}

theorem shadowEnd_own (up : s.up l = true) (shadow : s.vstate l = 0) (waits : s.rdB l.reg STF_ENTER = false) (good : s.rdB l.reg STF_SHADOW_BAD = false)
    (digest : s.digestSame l = true) (sets : s.setsValid l = true)
    (time : s.rd l.reg STF_SHADOW_AT + 1000000 * s.rd l.reg STF_SHADOW_TIME ≤ s.now) :
    exec (.shadowEnd l l) s = .next (s.wr l.reg STF_STEP_FAIL 3 0) := by
  refine congrArg Host.Outcome.next ((State.whenUp_up up).trans ((if_pos rfl).trans ((if_neg (by simp [shadow, waits])).trans (if_neg ?_))))
  simp [good, digest, sets, time]

/-- No controller enabled, none discards. -/
theorem State.discardBins_none (off : s.rpcOn l = []) : s.discardBins l = s := by simp [State.discardBins, off]

/-- The messages of an ADMIT, sent in their order. -/
theorem State.sendStaffAll_eq (s : State) (l : LaneId) (m : StaffMsg) : s.sendStaffAll l m = s.tells (s.toAll l m) := by
  simp only [State.sendStaffAll, State.tells, State.toAll, List.foldl_append, List.foldl_map, List.foldl_cons, List.foldl_nil]

section
variable {x : LaneId} (up : s.up l = true) (other : x ≠ l) (inService : s.vstate l = 1 ∨ s.vstate l = 2) (seen : s.seen l x = 0)
  (controllers : s.rpcOn l = [])
include up other inService seen controllers

/-- The holder sends the second transfer and its ADMIT. -/
theorem shadowEnd_holder (holds : s.rd l.reg STF_HOLDER = l.reg) : exec (.shadowEnd l x) s = .next
    ((s.wr l.reg STF_RELINQ x.reg 0).tells (.loopXfer x (s.loopXfer l) :: s.toAll l (s.staffMsg l 8 x.reg (s.rd l.reg STF_EPOCH) 0))) := by
  have some' : l.reg ≠ 0 := by cases l <;> decide
  refine congrArg Host.Outcome.next ((State.whenUp_up up).trans ((if_neg other.symm).trans ((if_neg (by rw [seen]; omega)).trans ?_)))
  simp only [holds, some', ne_eq, not_false_eq_true, if_true, beq_self_eq_true]
  rw [State.discardBins_none (s := s.send (.loopXfer x (s.loopXfer l))) controllers, State.sendAdmit, State.sendStaffAll_eq]
  rfl

/-- Without a holder a lane in standby keeps the ADMIT for the next GRANT. -/
theorem shadowEnd_waits (holder : s.rd l.reg STF_HOLDER = 0) (standby : s.vstate l = 1) :
    exec (.shadowEnd l x) s = .next (s.wr l.reg STF_ADMIT_WAIT 0 (setBit (s.rd l.reg STF_ADMIT_WAIT) x.idx)) := by
  have some' : (0 : Nat) ≠ l.reg := by cases l <;> decide
  have notSource : ((LaneId.all.filter (fun y => y != x && s.seen l y == 2)).head? == some l) = false := by
    refine beq_eq_false_iff_ne.mpr fun first => ?_
    have own : s.seen l l = 2 := by
      have := (List.mem_filter.mp (List.mem_of_head? first)).2
      simp only [Bool.and_eq_true, beq_iff_eq] at this
      exact this.2
    rw [State.seen, if_pos rfl, standby] at own
    omega
  refine congrArg Host.Outcome.next ((State.whenUp_up up).trans ((if_neg other.symm).trans ((if_neg (by rw [seen]; omega)).trans ?_)))
  simp only [holder, ne_eq, not_true_eq_false, if_false, notSource, Bool.false_eq_true, State.discardBins_none controllers, some', if_true]
  rfl

end

end

/-! ### The second transfer (R248) -/

section
variable {s : State} {l : LaneId} {x : LoopXfer}

theorem loopStateTransferComplete_good (up : s.up l = true) (shadow : s.vstate l = 0) :
    exec (.loopStateTransferComplete l x true) s = .next (s.modLane l (fun y => { y with loopLoad := some x })) :=
  congrArg Host.Outcome.next ((State.whenUp_up up).trans ((if_neg (not_not_intro shadow)).trans (if_pos rfl)))

theorem loopStateTransferComplete_bad (up : s.up l = true) (shadow : s.vstate l = 0) :
    exec (.loopStateTransferComplete l x false) s = .next (s.stepFail l 3) :=
  congrArg Host.Outcome.next ((State.whenUp_up up).trans ((if_neg (not_not_intro shadow)).trans (if_neg (by decide))))

/-- What the time at the limit of a loop writes. -/
def satWrites (l : LaneId) (n ms : Nat) : List (PKey × Nat) :=
  [(CEN_SAT_TIME.key l.reg n, ms), (CEN_SAT_PS.key l.reg n, ms * 1000000000)] ++ if ms = 0 then [] else [(CEN_X_PREV.key l.reg n, 1)]

theorem State.loadSat_eq (s : State) (l : LaneId) (n ms : Nat) : s.loadSat l n ms = s.puts (satWrites l n ms) := by
  by_cases zero : ms = 0
  · rw [State.loadSat, satWrites, if_pos zero, if_pos zero, List.append_nil, State.puts_cons, State.puts_cons, State.puts_nil]
  · rw [State.loadSat, satWrites, if_neg zero, if_neg zero, List.cons_append, List.cons_append, List.nil_append, State.puts_cons, State.puts_cons,
      State.puts_cons, State.puts_nil]

/-- What a second transfer without sections and controllers writes. -/
def loopWrites (x : LoopXfer) (l : LaneId) : List (PKey × Nat) :=
  x.sat.zipIdx.flatMap (fun p => satWrites l p.2 p.1) ++
    x.targets.zipIdx.flatMap (fun p => [(CEN_TARGET.key l.reg p.2, p.1.1)] ++ [(CEN_TGT_CMD.key l.reg p.2, p.1.2)]) ++ [(STF_LOOP_GOT.key l.reg 0, 1)]

theorem State.loadLoops_eq (secs : x.secs = []) (rpc : x.rpc = []) : s.loadLoops l x = s.puts (loopWrites x l) := by
  simp only [State.loadLoops, secs, rpc, List.foldl_nil, State.loadSat_eq, State.wr_eq_puts, State.puts_puts, State.foldl_puts]
  rfl

/-- The places of such a transfer. -/
def loopPlaces (l : LaneId) : List PKey :=
  (List.range 48).flatMap (fun i => [CEN_SAT_TIME.key l.reg i, CEN_SAT_PS.key l.reg i, CEN_X_PREV.key l.reg i]) ++
    (List.range 5).flatMap (fun i => [CEN_TARGET.key l.reg i, CEN_TGT_CMD.key l.reg i]) ++ [STF_LOOP_GOT.key l.reg 0]

/-- Rows apart from one another, each with its places below 256. -/
theorem rowPlaces_nodup (r : Nat) {ds : List PDesc} (apart : ds.Pairwise (fun d e => offRows [e] d = true)) {n : Nat} (hn : n ≤ 256) :
    ((List.range n).flatMap fun i => ds.map fun d => d.key r i).Nodup := by
  refine List.nodup_flatMap.mpr ⟨fun i hi => ?_, List.nodup_range.imp_of_mem fun {i j} hi hj different => ?_⟩
  · have small := List.mem_range.mp hi
    exact List.pairwise_map.mpr (apart.imp fun off => PDesc.key_ne_of_row off (by omega) (by omega))
  · have small := List.mem_range.mp hi
    have small' := List.mem_range.mp hj
    intro k hk hk'
    obtain ⟨d, -, rfl⟩ := List.mem_map.mp hk
    obtain ⟨e, -, same⟩ := List.mem_map.mp hk'
    simp only [PDesc.key, PKey.mk.injEq] at same
    omega

theorem rowPlaces_anyRow {r : Nat} {ds : List PDesc} {n : Nat} (hn : n ≤ 256) {k : PKey}
    (hk : k ∈ (List.range n).flatMap fun i => ds.map fun d => d.key r i) : AnyRow ds k := by
  obtain ⟨i, hi, hk⟩ := List.mem_flatMap.mp hk
  obtain ⟨d, hd, rfl⟩ := List.mem_map.mp hk
  exact AnyRow.key hd _ (by have := List.mem_range.mp hi; omega)

/-- Two lists of places of rows apart. -/
theorem AnyRow.disjoint {ds es : List PDesc} (off : (ds.all fun d => offRows es d) = true) {k : PKey} (hd : AnyRow ds k) : ¬ AnyRow es k := by
  rintro ⟨e, he, block, index⟩
  obtain ⟨d, hd, block', index'⟩ := hd
  have := List.all_eq_true.mp (List.all_eq_true.mp off d hd) e he
  simp [block, index, block', index'] at this

theorem loopPlaces_nodup (l : LaneId) : (loopPlaces l).Nodup := by
  have sat := rowPlaces_nodup l.reg (ds := [CEN_SAT_TIME, CEN_SAT_PS, CEN_X_PREV]) (by decide) (n := 48) (by decide)
  have targets := rowPlaces_nodup l.reg (ds := [CEN_TARGET, CEN_TGT_CMD]) (by decide) (n := 5) (by decide)
  refine List.Nodup.append (List.Nodup.append sat targets fun k h h' => ?_) (List.nodup_singleton _) fun k h h' => ?_
  · have row := rowPlaces_anyRow (ds := [CEN_SAT_TIME, CEN_SAT_PS, CEN_X_PREV]) (n := 48) (by decide) h
    exact row.disjoint (by decide) (rowPlaces_anyRow (ds := [CEN_TARGET, CEN_TGT_CMD]) (n := 5) (by decide) h')
  · obtain rfl := List.mem_singleton.mp h'
    rcases List.mem_append.mp h with h | h
    · have row := rowPlaces_anyRow (ds := [CEN_SAT_TIME, CEN_SAT_PS, CEN_X_PREV]) (n := 48) (by decide) h
      exact not_anyRow (by decide) _ (by decide) row
    · have row := rowPlaces_anyRow (ds := [CEN_TARGET, CEN_TGT_CMD]) (n := 5) (by decide) h
      exact not_anyRow (by decide) _ (by decide) row

theorem satWrites_places (l : LaneId) (n ms : Nat) :
    ((satWrites l n ms).map Prod.fst).Sublist [CEN_SAT_TIME.key l.reg n, CEN_SAT_PS.key l.reg n, CEN_X_PREV.key l.reg n] := by
  unfold satWrites
  split <;> simp

theorem loopWrites_nodup (l : LaneId) (sat : x.sat.length = 48) (targets : x.targets.length = 5) : ((loopWrites x l).map Prod.fst).Nodup := by
  refine (loopPlaces_nodup l).sublist ?_
  simp only [loopWrites, List.map_append, List.map_flatMap, List.map_cons, List.map_nil]
  rw [flatMap_zipIdx x.targets (fun i => [CEN_TARGET.key l.reg i] ++ [CEN_TGT_CMD.key l.reg i]), targets]
  refine List.Sublist.append (List.Sublist.append ?_ (.refl _)) (.refl _)
  refine (List.Sublist.flatMap_right _ fun p _ => satWrites_places l p.2 p.1).trans ?_
  rw [flatMap_zipIdx x.sat (fun i => [CEN_SAT_TIME.key l.reg i, CEN_SAT_PS.key l.reg i, CEN_X_PREV.key l.reg i]), sat]

theorem mem_satWrites {l : LaneId} {w : PKey × Nat} {n ms : Nat} : w ∈ satWrites l n ms ↔
    w = (CEN_SAT_TIME.key l.reg n, ms) ∨ w = (CEN_SAT_PS.key l.reg n, ms * 1000000000) ∨ (ms ≠ 0 ∧ w = (CEN_X_PREV.key l.reg n, 1)) := by
  unfold satWrites
  split <;> simp_all

/-- The transfer that waits is kept through the base period it names, and loaded after it. -/
theorem State.loadPending_early (held : (s.lane l).loopLoad = some x) (same : s.baseNumber l = x.period) : s.loadPending l = s := by
  simp [State.loadPending, held, same]

theorem State.loadPending_due (held : (s.lane l).loopLoad = some x) (after : s.baseNumber l ≠ x.period) (secs : x.secs = []) (rpc : x.rpc = [])
    (sat : x.sat.length = 48) (targets : x.targets.length = 5) :
    Writes (s.modLane l (fun y => { y with loopLoad := none })) (s.loadPending l) (x.sat.zipIdx.map (fun p => (CEN_SAT_TIME.key l.reg p.2, p.1)) ++
          x.sat.zipIdx.map (fun p => (CEN_SAT_PS.key l.reg p.2, p.1 * 1000000000)) ++
          (x.sat.zipIdx.filter (fun p => decide (p.1 ≠ 0))).map (fun p => (CEN_X_PREV.key l.reg p.2, 1)) ++ [(STF_LOOP_GOT.key l.reg 0, 1)] ++
          x.targets.zipIdx.flatMap (fun p => [(CEN_TARGET.key l.reg p.2, p.1.1), (CEN_TGT_CMD.key l.reg p.2, p.1.2)])) := by
  have loaded : s.loadPending l = (s.modLane l (fun y => { y with loopLoad := none })).puts (loopWrites x l) := by
    simp only [State.loadPending, held, if_neg after]
    exact State.loadLoops_eq secs rpc
  refine (Writes.of_puts (loopWrites_nodup l sat targets) loaded).congr fun w => ?_
  simp only [loopWrites, List.mem_append, List.mem_flatMap, mem_satWrites, List.mem_map, List.mem_filter, List.mem_cons, List.not_mem_nil, or_false]
  grind

end

/-- Settles O30: the listening ends, the transfer requested, answered, loaded or failed, the end of the shadow, the second transfer. -/
theorem rejoin : Obligations.Rejoin := by
  unfold Obligations.Rejoin
  refine ⟨fun l s up out synced stays idle live pair => ⟨fun back => formationListenEnd_rejoins up out synced stays idle live pair back,
      fun away => ⟨s, formationListenEnd_waits up away, rfl⟩⟩,
    fun l x s up other there => ⟨fun holds => ⟨_, stateTransferRequest_source up other there holds, .told s _⟩,
      fun held notAsks notOwn => ⟨_, stateTransferRequest_second up other there held notAsks notOwn, .told s _⟩⟩,
    fun l x crc us s up on inTime same an di targets => ⟨_, stateTransferComplete_good up on inTime same, xferLoaded_seen s l x inTime an di targets rfl⟩,
    fun l x crc us s up on bad c hc => ⟨fun again => ⟨_, stateTransfer_bad up on bad c hc, State.stepFail_again (by decide) again⟩,
      fun third _ => ⟨_, stateTransfer_bad up on bad c hc, State.stepFail_out third⟩⟩,
    fun l s up shadow waits good digest sets time => ⟨_, shadowEnd_own up shadow waits good digest sets time, ?_⟩,
    fun l x s up other inService seen controllers => ⟨fun holds => ⟨_, shadowEnd_holder up other inService seen controllers holds, ?_⟩,
      fun holder standby => ⟨_, shadowEnd_waits up other inService seen controllers holder standby, (Writes.nil s).wr _ (by simp)⟩⟩,
    fun l x s up shadow => ⟨⟨_, loopStateTransferComplete_good up shadow, rfl⟩,
      fun again => ⟨_, loopStateTransferComplete_bad up shadow, State.stepFail_again (by decide) again⟩⟩,
    fun l x s held => ⟨State.loadPending_early held, State.loadPending_due held⟩⟩
  · exact (Writes.nil s).wr 0 (by simp)
  · exact ((Writes.nil s).wr 0 (by simp)).tells (by cases l <;> cases x <;> decide) _

end Sys2Proof.Machine
end

section
/-! PROOFS. What a change of one bridge leaves of the others: the places of a bridge, a frame for some bridges, the operations of the
winding drive within it. -/

namespace Sys2Proof.Machine

open Par Var

/-! ### The places of a bridge -/

/-- Rows with a place per bridge. -/
def bridgeRows : List PDesc :=
  [CMT_STATE, CMT_SHARE, CMT_INVALID_N, CMT_VDC_LOW, OBS_CAP_TRY, OBS_GONE, OBS_STATE, OBS_TRACK, OBS_ALIGN, OBS_RUN_N, OBS_INNOV_N, OBS_SRC,
   OBS_LOST, OBS_ENC_OUT, OBS_BLEND_N, OBS_DIS_N, OBS_CLEAN_N, OBS_HIGH, OBS_ANGLE, OBS_SPEED, GDR_GATES, GDR_PRE_ON, GDR_ZC_ON, GDR_LOW_AT,
   GDR_DUTY_GOT, GDR_DUTY_MISS, GDR_MISSING, GDR_CNT_FLOOR, GDR_FLOOR_SEEN]

/-- Rows with a place per EXPRESS loop, two for each bridge. -/
def loopRows : List PDesc := [CEN_MODE, CEN_CLOSING, CEN_STATUS, CEN_SAT_TIME, CEN_SAT_PS, CEN_X_PREV]

/-- Rows with a place per switch, six for each bridge. -/
def switchRows : List PDesc := [GDR_OFF_AT, GDR_BLOCK, GDR_RISE_AT, GDR_SW]

/-- Rows with a place per winding, eight for each lane: what is lost, and where an opcode is agreed, what is stopped. -/
def windingRows (agreed : Bool) : List PDesc := VOT_LOST_W :: if agreed then [VOT_STOPPED_W] else []

/-- Rows of the drive as a whole: the self-test, the return to point 0. -/
def sharedRows : List PDesc := [BST_MASK, BST_CNT_ABORT, BST_STATE, PWR_DVFS_TO]

/-- A place of one of the bridges `B`. -/
def BridgePlace (agreed : Bool) (B : Nat → Prop) (k : PKey) : Prop :=
  AnyRow sharedRows k ∨ (AnyRow bridgeRows k ∧ B k.inst) ∨ (AnyRow loopRows k ∧ B (k.inst / 2)) ∨ (AnyRow switchRows k ∧ B (k.inst / 6)) ∨
    (AnyRow (windingRows agreed) k ∧ B (k.inst % 8))

/-- Of a lane only the bridges `B` change: their places and records, and their bits of the starts that wait. -/
structure BridgesFrame (agreed : Bool) (l : LaneId) (B : Nat → Prop) (s t : State) : Prop where
  get : SameOff (fun k => BridgePlace agreed B k ∨ k = PWR_START_MASK.key l.reg 0) s t
  others : SameOtherLanes s t l
  bridge : ∀ c, ¬ B c → t.bridge l c = s.bridge l c
  length : (t.lane l).bridges.length = (s.lane l).bridges.length
  sent : t.sent = s.sent
  part : t.part = s.part
  waits : ∀ c, ¬ B c → c < 64 → bit (t.rd l.reg PWR_START_MASK) c = bit (s.rd l.reg PWR_START_MASK) c

theorem BridgePlace.mono {agreed : Bool} {B C : Nat → Prop} (h : ∀ b, B b → C b) {k : PKey} (p : BridgePlace agreed B k) : BridgePlace agreed C k := by
  rcases p with p | ⟨p, b⟩ | ⟨p, b⟩ | ⟨p, b⟩ | ⟨p, b⟩
  · exact .inl p
  · exact .inr (.inl ⟨p, h _ b⟩)
  · exact .inr (.inr (.inl ⟨p, h _ b⟩))
  · exact .inr (.inr (.inr (.inl ⟨p, h _ b⟩)))
  · exact .inr (.inr (.inr (.inr ⟨p, h _ b⟩)))

/-- No place of the drive is the mask of the starts that wait. -/
theorem startMask_not_bridgePlace (agreed : Bool) (B : Nat → Prop) (l : LaneId) : ¬ BridgePlace agreed B (PWR_START_MASK.key l.reg 0) := by
  cases agreed <;> rintro (p | ⟨p, -⟩ | ⟨p, -⟩ | ⟨p, -⟩ | ⟨p, -⟩) <;> exact not_anyRow (by decide) _ (by decide) p

theorem PDesc.key_inst {d : PDesc} {r i : Nat} (hi : i < 256) : (d.key r i).inst = i := Nat.mod_eq_of_lt hi

section
variable {agreed : Bool} {B : Nat → Prop} {d : PDesc} {r i : Nat}

/-- A place that is none of the bridges `B`, row by row. -/
theorem not_bridgePlace (hi : i < 256) (shared : offRows sharedRows d = true) (bridge : offRows bridgeRows d = true ∨ ¬ B i)
    (loop : offRows loopRows d = true ∨ ¬ B (i / 2)) (switch : offRows switchRows d = true ∨ ¬ B (i / 6))
    (winding : offRows (windingRows agreed) d = true ∨ ¬ B (i % 8)) : ¬ BridgePlace agreed B (d.key r i) := by
  have none {rows : List PDesc} {b : Nat} (off : offRows rows d = true ∨ ¬ B b) (p : AnyRow rows (d.key r i)) (hb : B b) : False :=
    off.elim (fun off => not_anyRow off r hi p) fun other => other hb
  rintro (p | ⟨p, b⟩ | ⟨p, b⟩ | ⟨p, b⟩ | ⟨p, b⟩)
  · exact not_anyRow shared r hi p
  · exact none bridge p (PDesc.key_inst hi ▸ b)
  · exact none loop p (PDesc.key_inst hi ▸ b)
  · exact none switch p (PDesc.key_inst hi ▸ b)
  · exact none winding p (PDesc.key_inst hi ▸ b)

end

/-! ### The frame -/

theorem State.bridge_modBridge_ne (s : State) (l : LaneId) {b c : Nat} (h : c ≠ b) (f : Bridge → Bridge) :
    (s.modBridge l b f).bridge l c = s.bridge l c := by
  rw [State.bridge, State.modBridge, State.lane_modLane, State.bridge]
  simp [List.getD, List.getElem?_set_ne h.symm]

namespace BridgesFrame

variable {agreed : Bool} {l : LaneId} {B C : Nat → Prop} {s t u : State}

theorem refl (agreed : Bool) (l : LaneId) (B : Nat → Prop) (s : State) : BridgesFrame agreed l B s s :=
  ⟨.refl _ s, fun _ _ => rfl, fun _ _ => rfl, rfl, rfl, rfl, fun _ _ _ => rfl⟩

theorem trans (h : BridgesFrame agreed l B s t) (g : BridgesFrame agreed l B t u) : BridgesFrame agreed l B s u :=
  ⟨h.get.trans g.get, fun x hx => (g.others x hx).trans (h.others x hx), fun c hc => (g.bridge c hc).trans (h.bridge c hc),
    g.length.trans h.length, g.sent.trans h.sent, g.part.trans h.part, fun c hc small => (g.waits c hc small).trans (h.waits c hc small)⟩

theorem mono (h : BridgesFrame agreed l B s t) (sub : ∀ b, B b → C b) : BridgesFrame agreed l C s t :=
  ⟨h.get.mono fun _ p => p.imp_left (BridgePlace.mono sub), h.others, fun c hc => h.bridge c fun b => hc (sub c b), h.length, h.sent, h.part,
    fun c hc => h.waits c fun b => hc (sub c b)⟩

/-- One more write at a place of the bridges. -/
theorem wr (h : BridgesFrame agreed l B s t) {r i v : Nat} {d : PDesc} (p : BridgePlace agreed B (d.key r i)) : BridgesFrame agreed l B s (t.wr r d i v) := by
  have mask : PWR_START_MASK.key l.reg 0 ≠ d.key r i := fun e => startMask_not_bridgePlace agreed B l (by rwa [e])
  refine ⟨h.get.wr (.inl p), fun x hx => by rw [State.wr_lane, h.others x hx], fun c hc => ?_, ?_, ?_, h.part, fun c hc small => ?_⟩
  · rw [State.bridge, State.wr_lane]
    exact h.bridge c hc
  · rw [State.wr_lane]
    exact h.length
  · rw [State.wr_sent]
    exact h.sent
  · rw [State.rd, State.wr_get_ne t mask]
    exact h.waits c hc small

theorem ite {c : Prop} [Decidable c] (h : BridgesFrame agreed l B s t) (g : BridgesFrame agreed l B s u) : BridgesFrame agreed l B s (if c then t else u) := by
  split <;> assumption

theorem foldl_mem {α : Type} {f : State → α → State} (xs : List α) (hf : ∀ u, ∀ a ∈ xs, BridgesFrame agreed l B s u → BridgesFrame agreed l B s (f u a))
    (h : BridgesFrame agreed l B s t) : BridgesFrame agreed l B s (xs.foldl f t) := by
  induction xs generalizing t with
  | nil => exact h
  | cons a xs ih => exact ih (fun u b hb => hf u b (List.mem_cons_of_mem _ hb)) (hf t a List.mem_cons_self h)

theorem shared (h : BridgesFrame agreed l B s t) {r i v : Nat} {d : PDesc} (hd : d ∈ sharedRows) (hi : i < 256) : BridgesFrame agreed l B s (t.wr r d i v) :=
  h.wr (.inl (AnyRow.key hd r hi))

/-! Reads that the frame keeps: at a row of none, at a bridge, an EXPRESS loop or a winding of another bridge. -/

section
variable {r i : Nat} {d : PDesc} (h : BridgesFrame agreed l B s t) (hi : i < 256)
include h hi

theorem rd_of_not (waits : offRows [PWR_START_MASK] d = true) (none : ¬ BridgePlace agreed B (d.key r i)) : t.rd r d i = s.rd r d i :=
  h.get.rd fun p => p.elim none (PDesc.key_ne_of_row waits hi (by decide))

theorem rd (off : (offRows [PWR_START_MASK] d && offRows sharedRows d && offRows bridgeRows d && offRows loopRows d && offRows switchRows d &&
    offRows (windingRows agreed) d) = true) : t.rd r d i = s.rd r d i := by
  simp only [Bool.and_eq_true] at off
  obtain ⟨⟨⟨⟨⟨waits, shared⟩, bridge⟩, loop⟩, switch⟩, winding⟩ := off
  exact h.rd_of_not hi waits (not_bridgePlace hi shared (.inl bridge) (.inl loop) (.inl switch) (.inl winding))

theorem rdB (off : (offRows [PWR_START_MASK] d && offRows sharedRows d && offRows bridgeRows d && offRows loopRows d && offRows switchRows d &&
    offRows (windingRows agreed) d) = true) : t.rdB r d i = s.rdB r d i := by rw [State.rdB, h.rd hi off, State.rdB]

theorem rd_bridge (off : (offRows [PWR_START_MASK] d && offRows sharedRows d && offRows loopRows d && offRows switchRows d &&
    offRows (windingRows agreed) d) = true) (other : ¬ B i) : t.rd r d i = s.rd r d i := by
  simp only [Bool.and_eq_true] at off
  obtain ⟨⟨⟨⟨waits, shared⟩, loop⟩, switch⟩, winding⟩ := off
  exact h.rd_of_not hi waits (not_bridgePlace hi shared (.inr other) (.inl loop) (.inl switch) (.inl winding))

theorem rd_loop (off : (offRows [PWR_START_MASK] d && offRows sharedRows d && offRows bridgeRows d && offRows switchRows d &&
    offRows (windingRows agreed) d) = true) (other : ¬ B (i / 2)) : t.rd r d i = s.rd r d i := by
  simp only [Bool.and_eq_true] at off
  obtain ⟨⟨⟨⟨waits, shared⟩, bridge⟩, switch⟩, winding⟩ := off
  exact h.rd_of_not hi waits (not_bridgePlace hi shared (.inl bridge) (.inr other) (.inl switch) (.inl winding))

theorem rd_winding (off : (offRows [PWR_START_MASK] d && offRows sharedRows d && offRows bridgeRows d && offRows loopRows d &&
    offRows switchRows d) = true) (other : ¬ B (i % 8)) : t.rd r d i = s.rd r d i := by
  simp only [Bool.and_eq_true] at off
  obtain ⟨⟨⟨⟨waits, shared⟩, bridge⟩, loop⟩, switch⟩ := off
  exact h.rd_of_not hi waits (not_bridgePlace hi shared (.inl bridge) (.inl loop) (.inl switch) (.inr other))

end

end BridgesFrame

/-! ### The operations of the drive on one bridge -/

/-- Only bridge `b` of a lane changes. -/
abbrev OneBridge (agreed : Bool) (l : LaneId) (b : Nat) (s t : State) : Prop := BridgesFrame agreed l (· = b) s t

namespace OneBridge

variable {agreed : Bool} {l : LaneId} {b : Nat} {s t : State}

theorem own (h : OneBridge agreed l b s t) (hb : b < 6) {r v : Nat} {d : PDesc} (hd : d ∈ bridgeRows) : OneBridge agreed l b s (t.wr r d b v) :=
  BridgesFrame.wr h (.inr (.inl ⟨AnyRow.key hd r (by omega), PDesc.key_inst (by omega)⟩))

theorem loop (h : OneBridge agreed l b s t) {r n v : Nat} {d : PDesc} (hn : n < 12 ∧ n / 2 = b) (hd : d ∈ loopRows) : OneBridge agreed l b s (t.wr r d n v) := by
  obtain ⟨small, own⟩ := hn
  exact BridgesFrame.wr h (.inr (.inr (.inl ⟨AnyRow.key hd r (by omega), by rwa [PDesc.key_inst (by omega)]⟩)))

theorem switch (h : OneBridge agreed l b s t) (hb : b < 6) {r k v : Nat} (hk : k < 6) {d : PDesc} (hd : d ∈ switchRows) :
    OneBridge agreed l b s (t.wr r d (swNum b k) v) := by
  have small := swNum_lt hb hk
  exact BridgesFrame.wr h (.inr (.inr (.inr (.inl ⟨AnyRow.key hd r small, by rw [PDesc.key_inst small, swNum]; omega⟩))))

theorem winding (h : OneBridge agreed l b s t) (hb : b < 6) (x : LaneId) {r v : Nat} {d : PDesc} (hd : d ∈ windingRows agreed) :
    OneBridge agreed l b s (t.wr r d (8 * x.reg + b) v) := by
  have small : x.reg ≤ 3 := by cases x <;> decide
  exact BridgesFrame.wr h (.inr (.inr (.inr (.inr ⟨AnyRow.key hd r (by omega), by rw [PDesc.key_inst (by omega)]; omega⟩))))

theorem modBridge (h : OneBridge agreed l b s t) (f : Bridge → Bridge) : OneBridge agreed l b s (t.modBridge l b f) := by
  refine ⟨h.get.of_params (by simp), fun x hx => ?_, fun c hc => ?_, ?_, by rw [State.modBridge_sent, h.sent], by rw [State.modBridge_part, h.part],
    fun c hc small => by rw [State.modBridge_rd]; exact h.waits c hc small⟩
  · rw [State.modBridge, State.lane_modLane_ne _ _ hx, h.others x hx]
  · rw [State.bridge_modBridge_ne _ _ hc, h.bridge c hc]
  · rw [State.bridges_length_modBridge, h.length]

end OneBridge

section
variable {agreed : Bool} {l : LaneId} {b : Nat} {u s : State} (hb : b < 6) (h : OneBridge agreed l b u s)
include hb h

theorem State.noteFall_one {k : Nat} (hk : k < 6) : OneBridge agreed l b u (s.noteFall l b k) :=
  BridgesFrame.ite (h.switch hb hk (by simp [switchRows])) (BridgesFrame.ite (h.switch hb hk (by simp [switchRows])) h)

theorem State.riseLow_one {k : Nat} (hk : k < 6) : OneBridge agreed l b u (s.riseLow l b k) := by
  unfold State.riseLow
  extract_lets rises freed
  have rises_one : OneBridge agreed l b u rises := h.switch hb hk (by simp [switchRows])
  have freed_one : OneBridge agreed l b u freed := BridgesFrame.ite (rises_one.switch hb hk (by simp [switchRows])) rises_one
  exact BridgesFrame.ite (h.switch hb hk (by simp [switchRows]))
    (BridgesFrame.ite freed_one (OneBridge.own (OneBridge.own freed_one hb (by simp [bridgeRows])) hb (by simp [bridgeRows])))

theorem State.unblock_one : OneBridge agreed l b u (s.unblock l b) :=
  BridgesFrame.foldl_mem _ (fun _ _ hk g => OneBridge.switch g hb (List.mem_range.mp hk) (by simp [switchRows])) h

theorem State.shortGates_one : OneBridge agreed l b u (s.shortGates l b) := by
  have fallen := BridgesFrame.foldl_mem [0, 2, 4] (fun _ k hk g => State.noteFall_one (k := k) hb g (by simp at hk; omega)) h
  have risen := BridgesFrame.foldl_mem [1, 3, 5] (fun _ k hk g => State.riseLow_one (k := k) hb g (by simp at hk; omega)) fallen
  exact BridgesFrame.ite (h.own hb (by simp [bridgeRows]))
    (((State.unblock_one hb risen).own hb (by simp [bridgeRows])).own hb (by simp [bridgeRows]))

theorem State.commandsEnd_one : OneBridge agreed l b u (s.commandsEnd l b) := by
  have fallen := BridgesFrame.foldl_mem (List.range 6) (fun _ k hk g => State.noteFall_one (k := k) hb g (List.mem_range.mp hk)) h
  exact (State.unblock_one hb fallen).own hb (by simp [bridgeRows])

theorem State.setBridge_one (st : Nat) : OneBridge agreed l b u (s.setBridge l b st) := by
  have state : OneBridge agreed l b u (s.wr l.reg CMT_STATE b st) := h.own hb (by simp [bridgeRows])
  exact BridgesFrame.ite (State.shortGates_one hb state)
    (((State.commandsEnd_one hb state).own hb (by simp [bridgeRows])).own hb (by simp [bridgeRows]))

theorem State.gatesOff_one : OneBridge agreed l b u (s.gatesOff l b) :=
  ((((State.commandsEnd_one hb h).own hb (by simp [bridgeRows])).own hb (by simp [bridgeRows])).own hb (by simp [bridgeRows])).own hb
    (by simp [bridgeRows])

theorem State.precharge_one : OneBridge agreed l b u (s.precharge l b) := (State.shortGates_one hb h).own hb (by simp [bridgeRows])

theorem State.obsReport_one : OneBridge agreed l b u (s.obsReport l b) := h.own hb (by simp [bridgeRows])

omit hb in
theorem State.openExpress_one {n : Nat} (hn : n < 12 ∧ n / 2 = b) : OneBridge agreed l b u (s.openExpress l n) :=
  (((((h.loop hn (by simp [loopRows])).loop hn (by simp [loopRows])).loop hn (by simp [loopRows])).loop hn (by simp [loopRows])).loop hn
    (by simp [loopRows])).loop hn (by simp [loopRows])

theorem State.trackRestart_one : OneBridge agreed l b u (s.trackRestart l b) := (h.modBridge _).own hb (by simp [bridgeRows])

theorem State.dropOwn_one : OneBridge agreed l b u (s.dropOwn l b) := by
  have reset := State.trackRestart_one hb ((h.modBridge fun x => { x with
    wOwn := 0, ramp := none, share := 0, iqRef := 0, hand := none, recon := false }).modBridge fun x => { x with
    obs := {}, closing := 0, placed := 0, hfi := [] })
  exact State.openExpress_one (State.openExpress_one ((reset.own hb (by simp [bridgeRows])).own hb (by simp [bridgeRows])) (by omega)) (by omega)

theorem State.withdraw_one : OneBridge agreed l b u (s.withdraw l b) := by
  have dropped := State.dropOwn_one hb (State.setBridge_one hb h (s.withdrawTo l b))
  exact BridgesFrame.ite (BridgesFrame.ite dropped (dropped.winding hb l (by simp [windingRows]))) (BridgesFrame.ite (State.setBridge_one hb h 3) h)

theorem State.beginCapture_one : OneBridge agreed l b u (s.beginCapture l b) := by
  have begun := (h.own hb (r := l.reg) (d := OBS_CAP_TRY) (v := 0) (by simp [bridgeRows])).own hb (r := l.reg) (d := OBS_GONE) (v := 0) (by simp [bridgeRows])
  exact BridgesFrame.ite (State.obsReport_one hb (State.setBridge_one hb begun 1)) (State.precharge_one hb begun)

theorem State.band_one (w : Rat) : OneBridge agreed l b u (s.band l b w) :=
  BridgesFrame.ite (h.own hb (by simp [bridgeRows])) (BridgesFrame.ite (h.own hb (by simp [bridgeRows])) h)

theorem State.obsStart_one (i : Vec) (th w : Rat) : OneBridge agreed l b u (s.obsStart l b i th w) :=
  ((h.modBridge _).own hb (by simp [bridgeRows])).own hb (by simp [bridgeRows])

theorem State.obsEnter_one (src : Nat) (th w : Rat) : OneBridge agreed l b u (s.obsEnter l b src th w) := by
  have started := (State.obsStart_one hb h (s.measuredI l b) th w).own hb (r := l.reg) (d := OBS_SRC) (v := src) (by simp [bridgeRows])
  have cleared := ((((((started.own hb (r := l.reg) (d := OBS_LOST) (v := 0) (by simp [bridgeRows])).own hb (r := l.reg) (d := OBS_ENC_OUT) (v := 0)
    (by simp [bridgeRows])).own hb (r := l.reg) (d := OBS_GONE) (v := 0) (by simp [bridgeRows])).own hb (r := l.reg) (d := OBS_BLEND_N) (v := 0)
    (by simp [bridgeRows])).own hb (r := l.reg) (d := OBS_DIS_N) (v := 0) (by simp [bridgeRows])).own hb (r := l.reg) (d := OBS_CLEAN_N) (v := 0)
    (by simp [bridgeRows]))
  exact State.obsReport_one hb (((State.band_one hb cleared w).own hb (by simp [bridgeRows])).own hb (by simp [bridgeRows]))

theorem State.enterRun_one (hand ab : Vec) : OneBridge agreed l b u (s.enterRun l b hand ab) := by
  unfold State.enterRun
  extract_lets entered closed kept tracked counted duty
  have tracked_one : OneBridge agreed l b u tracked := (State.trackRestart_one hb (((((h.own hb (by simp [bridgeRows])).winding hb l
    (by simp [windingRows])).modBridge _).modBridge _))).modBridge _
  have duty_one : OneBridge agreed l b u duty :=
    ((((((tracked_one.own hb (by simp [bridgeRows])).own hb (by simp [bridgeRows])).own hb (by simp [bridgeRows])).own hb (by simp [bridgeRows])).own hb
      (by simp [bridgeRows])).own hb (by simp [bridgeRows]))
  refine BridgesFrame.foldl_mem _ (fun v n hn g => ?_) duty_one
  have own : n < 12 ∧ n / 2 = b := by
    rcases List.mem_pair.mp hn with rfl | rfl <;> omega
  exact OneBridge.loop (OneBridge.loop g own (by simp [loopRows])) own (by simp [loopRows])

theorem State.startBridge_one : OneBridge agreed l b u (s.startBridge l b) := by
  unfold State.startBridge
  refine BridgesFrame.ite h ?_
  split
  · exact BridgesFrame.ite h (State.beginCapture_one hb h)
  · exact BridgesFrame.ite h (State.beginCapture_one hb h)
  · exact State.obsEnter_one hb (State.enterRun_one hb h _ _) _ _ _
  · exact h

theorem State.stopBridge_one (kind : Nat) : OneBridge agreed l b u (s.stopBridge l b kind) := by
  unfold State.stopBridge
  refine BridgesFrame.ite (State.obsReport_one hb ((State.gatesOff_one hb h).own hb (by simp [bridgeRows]))) ?_
  split
  · exact State.obsReport_one hb (State.setBridge_one hb h 0)
  · exact BridgesFrame.ite (h.modBridge _) (State.obsReport_one hb (State.withdraw_one hb h))
  · exact State.obsReport_one hb (State.setBridge_one hb h 0)
  · exact BridgesFrame.ite h (State.setBridge_one hb h 0)
  · exact h

end

/-- The windings an agreed opcode marks. -/
theorem State.markStopped_one {l : LaneId} {b : Nat} {u s : State} (hb : b < 6) (h : OneBridge true l b u s) (on : Bool) :
    OneBridge true l b u (s.markStopped l b on) :=
  BridgesFrame.foldl_mem _ (fun _ x _ g => OneBridge.winding g hb x (by simp [windingRows])) h

/-! ### The bridges of a mask, one after the other -/

theorem mem_bridgesOf {mask b : Nat} : b ∈ bridgesOf mask ↔ b < 6 ∧ mask.testBit b = true := by simp [bridgesOf]

theorem bridgesOf_nodup (mask : Nat) : (bridgesOf mask).Nodup := List.nodup_range.filter _

section
variable {agreed : Bool} {l : LaneId} {f : State → Nat → State} (one : ∀ s b, b < 6 → OneBridge agreed l b s (f s b))
include one

/-- Bridges changed one after the other: the others stay. -/
theorem BridgesFrame.foldl_others {bs : List Nat} {c : Nat} (small : ∀ b ∈ bs, b < 6) (other : c ∉ bs) (s : State) :
    BridgesFrame agreed l (· ≠ c) s (bs.foldl f s) :=
  BridgesFrame.foldl_mem bs (fun u b hb h => h.trans ((one u b (small b hb)).mono fun _ e => by rintro rfl; exact other (e ▸ hb))) (.refl ..)

/-- One of them is changed once, from a state and to one in which only others have changed. -/
theorem BridgesFrame.foldl_at {bs : List Nat} {c : Nat} (small : ∀ b ∈ bs, b < 6) (once : bs.Nodup) (hc : c ∈ bs) (s : State) :
    ∃ v, BridgesFrame agreed l (· ≠ c) s v ∧ BridgesFrame agreed l (· ≠ c) (f v c) (bs.foldl f s) := by
  obtain ⟨xs, ys, rfl⟩ := List.append_of_mem hc
  rw [List.nodup_append, List.nodup_cons] at once
  obtain ⟨-, ⟨later, -⟩, before⟩ := once
  have earlier : c ∉ xs := fun h => before c h c (by simp) rfl
  refine ⟨xs.foldl f s, foldl_others one (fun b hb => small b (by simp [hb])) earlier s, ?_⟩
  rw [List.foldl_append, List.foldl_cons]
  exact foldl_others one (fun b hb => small b (by simp [hb])) later _

end

/-- The self-test that ends writes its own places (R499). -/
theorem State.abortTest_frame (agreed : Bool) (s : State) (l : LaneId) (mask : Nat) (B : Nat → Prop) : BridgesFrame agreed l B s (s.abortTest l mask) := by
  have counted : BridgesFrame agreed l B s (((s.wr l.reg BST_MASK 0 (clrMask (s.rd l.reg BST_MASK) (s.rd l.reg BST_MASK &&& mask % 64))).bumpBy l.reg BST_CNT_ABORT 0
      (bridgesOf (s.rd l.reg BST_MASK &&& mask % 64)).length)) :=
    ((BridgesFrame.refl agreed l B s).shared (by simp [sharedRows]) (by decide)).shared (by simp [sharedRows]) (by decide)
  exact BridgesFrame.ite (.refl ..) (BridgesFrame.ite (counted.shared (by simp [sharedRows]) (by decide)) counted)

end Sys2Proof.Machine
end

section
/-! PROOFS. START_DRIVE, STOP_DRIVE and the end of a stop ramp: what each operation of the drive leaves to be read of its bridge, and the
three commands. -/

namespace Sys2Proof.Machine

open Par Var

/-! ### What a change of other bridges keeps -/

section
variable {l : LaneId} {B : Nat → Prop} {s t : State} (h : BridgesFrame true l B s t)
include h

theorem BridgesFrame.gatesReady : t.gatesReady l = s.gatesReady l := by
  have on : t.on l.pow = s.on l.pow := by
    simp only [State.on, State.hasRegion, h.part, h.rdB (r := l.pow) (d := INT_POWERED) (i := 0) (by decide) (by decide),
      h.rd (r := l.pow) (d := FAB_PHASE) (i := 0) (by decide) (by decide), h.rd (r := 7) (d := BST_SCAN_REG) (i := 0) (by decide) (by decide)]
  rw [State.gatesReady, State.gatesReady, on, h.rdB (by decide) (by decide)]

theorem BridgesFrame.hasRegion (r : Nat) : t.hasRegion r = s.hasRegion r := by rw [State.hasRegion, h.part, State.hasRegion]

theorem BridgesFrame.bootReady (b : Nat) : t.bootReady l b = s.bootReady l b := by
  simp only [State.bootReady, h.rd (r := l.pow) (d := GDR_BOOT_READY) (i := 0) (by decide) (by decide)]

theorem BridgesFrame.vstate : t.vstate l = s.vstate l := h.rd (by decide) (by decide)

theorem BridgesFrame.basePeriod : t.basePeriod l = s.basePeriod l := by
  have used : (List.range 6).filter (fun b => t.bridgeUsed l b) = (List.range 6).filter (fun b => s.bridgeUsed l b) :=
    List.filter_congr fun b hb => by
      have := List.mem_range.mp hb
      rw [State.bridgeUsed, State.bridgeUsed, h.rd (by omega) (by decide)]
  simp only [State.basePeriod, used]
  refine List.foldl_ext _ _ _ fun m b hb => ?_
  have small : b < 6 := by
    split at hb
    · exact List.mem_range.mp hb
    · exact List.mem_range.mp (List.mem_filter.mp hb).1
  rw [h.rd (by omega) (by decide)]

end

section
variable {l : LaneId} {c : Nat} {s t : State} (hc : c < 6) (h : BridgesFrame true l (· ≠ c) s t)
include hc h

theorem BridgesFrame.state : t.rd l.reg CMT_STATE c = s.rd l.reg CMT_STATE c := h.rd_bridge (by omega) (by decide) (by simp)

theorem BridgesFrame.precharging : t.rdB l.pow GDR_PRE_ON c = s.rdB l.pow GDR_PRE_ON c := by
  rw [State.rdB, h.rd_bridge (by omega) (by decide) (by simp), State.rdB]

theorem BridgesFrame.latched : t.latchedB l c = s.latchedB l c := by
  rw [State.latchedB, State.latchedB, h.rd (by omega) (by decide)]

theorem BridgesFrame.withdrawTo : t.withdrawTo l c = s.withdrawTo l c := by
  simp only [State.withdrawTo, State.rdB, State.rdI, h.rd (r := l.reg) (d := OBS_SPEED_OK) (i := c) (by omega) (by decide),
    h.rd_bridge (r := l.reg) (d := OBS_SPEED) (i := c) (by omega) (by decide) (by simp),
    h.rd (r := l.reg) (d := CMT_SHORT_MARGIN) (i := 0) (by decide) (by decide), h.rd (r := l.reg) (d := CMT_VDC) (i := c) (by omega) (by decide),
    h.rd (r := l.reg) (d := CMT_PSI) (i := c) (by omega) (by decide)]
  rfl

end

/-! ### The gates of a bridge -/

/-- The rows of the power die that the gates of a bridge write. -/
def driveRows : List PDesc := gatesOffRows ++ [GDR_RISE_AT, GDR_SW, GDR_CNT_FLOOR, GDR_FLOOR_SEEN]

section
variable {l : LaneId} {b : Nat} {u s : State} (hb : b < 6) (h : TouchesRows driveRows l.pow u s)
include hb h

theorem State.riseLow_touches {k : Nat} (hk : k < 6) : TouchesRows driveRows l.pow u (s.riseLow l b k) := by
  have small := swNum_lt hb hk
  unfold State.riseLow
  extract_lets rises freed
  have rises_rows : TouchesRows driveRows l.pow u rises := h.wr (by simp [driveRows]) small
  have freed_rows : TouchesRows driveRows l.pow u freed := Touches.ite (rises_rows.wr (by simp [driveRows]) small) rises_rows
  exact Touches.ite (h.wr (by simp [driveRows]) small)
    (Touches.ite freed_rows (TouchesRows.wr (TouchesRows.wr freed_rows (by simp [driveRows]) (by omega)) (by simp [driveRows]) (by omega)))

/-- The three low sides on but for the mode of the gates. -/
theorem State.lowSides_touches : TouchesRows driveRows l.pow u
    ((([1, 3, 5].foldl (fun s k => s.riseLow l b k) ([0, 2, 4].foldl (fun s k => s.noteFall l b k) s))).unblock l b) := by
  have fallen := Touches.foldl_mem [0, 2, 4] (fun _ k hk g => State.noteFall_touches (k := k) g (rows := driveRows) (by simp [driveRows, gatesOffRows]) hb
    (by simp at hk; omega)) h
  have risen := Touches.foldl_mem [1, 3, 5] (fun _ k hk g => State.riseLow_touches (k := k) hb g (by simp at hk; omega)) fallen
  exact State.unblock_touches risen (by simp [driveRows, gatesOffRows]) hb

theorem State.shortGates_touches : TouchesRows driveRows l.pow u (s.shortGates l b) :=
  Touches.ite (h.wr (by simp [driveRows, gatesOffRows]) (by omega)) (((State.lowSides_touches hb h).wr (by simp [driveRows, gatesOffRows]) (by omega)).wr
    (by simp [driveRows, gatesOffRows]) (by omega))

end

section
variable {l : LaneId} {b : Nat} {s : State} (hb : b < 6)
include hb

theorem State.setBridge_touches (s : State) (l : LaneId) (st : Nat) :
    TouchesRows driveRows l.pow (s.wr l.reg CMT_STATE b st) (s.setBridge l b st) := by
  have ended := State.commandsEnd_touches (Touches.refl (RowPlace driveRows l.pow) (s.wr l.reg CMT_STATE b st)) (by simp [driveRows]) hb
  exact Touches.ite (State.shortGates_touches hb (.refl ..)) ((TouchesRows.wr ended (by simp [driveRows, gatesOffRows]) (by omega)).wr
    (by simp [driveRows, gatesOffRows]) (by omega))

/-- Of the lane die a bridge's change of state writes its state alone. -/
theorem State.setBridge_rd (s : State) (l : LaneId) (st : Nat) (d : PDesc) (i : Nat) :
    (s.setBridge l b st).rd l.reg d i = (s.wr l.reg CMT_STATE b st).rd l.reg d i :=
  Touches.rd (State.setBridge_touches hb s l st) (not_rowPlace_reg _ _ _ _ _)

theorem State.wr_state {st : Nat} (small : st < 8) : (s.wr l.reg CMT_STATE b st).rd l.reg CMT_STATE b = st := by
  refine State.rd_wr_of_lt ?_
  rwa [widthOf_mapRow (by decide +kernel) (kindOf_reg l) (by simp [CMT_STATE]; omega)]

theorem State.setBridge_state {st : Nat} (small : st < 8) : (s.setBridge l b st).rd l.reg CMT_STATE b = st := by
  rw [State.setBridge_rd hb, State.wr_state hb small]

/-- The report of OBS leaves every other row. -/
theorem State.obsReport_rd {d : PDesc} (off : offRows [OBS_STATE] d = true) {r i : Nat} (hi : i < 256) : (s.obsReport l b).rd r d i = s.rd r d i :=
  State.rd_wr_row _ _ _ _ off (by omega) hi

/-- The gates after the three low sides are commanded on. -/
theorem State.shortGates_gates : (s.shortGates l b).rd l.pow GDR_GATES b = if s.rdB l.reg INT_EXTEST ∨ s.latchedB l b = true then 0 else 2 := by
  unfold State.shortGates
  split
  · exact State.rd_wr_zero ..
  · rw [State.rd_wr_row _ _ _ _ (by decide) (by omega) (by omega), State.rd_wr_same, widthOf_var (by decide)]
    rfl

/-- A precharge leaves the state; its low sides are on. -/
theorem State.precharge_reads : (s.precharge l b).rd l.pow GDR_PRE_ON b = 1 ∧ (s.precharge l b).rd l.reg CMT_STATE b = s.rd l.reg CMT_STATE b ∧
    (s.precharge l b).rd l.pow GDR_GATES b = if s.rdB l.reg INT_EXTEST ∨ s.latchedB l b = true then 0 else 2 := by
  have rows := State.shortGates_touches hb (Touches.refl (RowPlace driveRows l.pow) s)
  unfold State.precharge
  refine ⟨?_, ?_, ?_⟩
  · rw [State.rd_wr_same, widthOf_var (by decide)]
    rfl
  · rw [State.rd_wr_region _ _ _ _ _ _ (reg_ne_pow l l), rows.get.rd (not_rowPlace_reg _ _ _ _ _)]
  · rw [State.rd_wr_row _ _ _ _ (by decide) (by omega) (by omega), State.shortGates_gates hb]

end

/-! ### Entry into RUN -/

@[simp] theorem State.bridge_wr (s : State) (r : Nat) (d : PDesc) (i v : Nat) (l : LaneId) (b : Nat) : (s.wr r d i v).bridge l b = s.bridge l b := by
  rw [State.bridge, State.wr_lane, State.bridge]

/-- The rows that OBS writes as a bridge enters RUN. -/
def obsEnterRows : List PDesc :=
  [OBS_RUN_N, OBS_INNOV_N, OBS_SRC, OBS_LOST, OBS_ENC_OUT, OBS_GONE, OBS_BLEND_N, OBS_DIS_N, OBS_CLEAN_N, OBS_HIGH, OBS_ANGLE, OBS_SPEED, OBS_STATE]

section
variable {l : LaneId} {b : Nat} {s : State} (hb : b < 6)
include hb

/-- OBS starts its observer and writes rows of its own. -/
theorem State.obsEnter_touches {src : Nat} {th w : Rat} {t : State} (ht : t = s.obsEnter l b src th w) :
    ∃ o, TouchesRows obsEnterRows l.reg (s.modBridge l b (fun x => { x with obs := o })) t := by
  unfold State.obsEnter State.obsStart at ht
  extract_lets psi angle o started lost cleared bound told at ht
  have started_rows : TouchesRows obsEnterRows l.reg (s.modBridge l b (fun x => { x with obs := o })) started :=
    (((Touches.refl (RowPlace obsEnterRows l.reg) _).wr (RowPlace.key (by simp [obsEnterRows]) _ (by omega))).wr
      (RowPlace.key (by simp [obsEnterRows]) _ (by omega))).wr (RowPlace.key (by simp [obsEnterRows]) _ (by omega))
  have lost_rows : TouchesRows obsEnterRows l.reg (s.modBridge l b (fun x => { x with obs := o })) lost :=
    ((started_rows.wr (by simp [obsEnterRows]) (by omega)).wr (by simp [obsEnterRows]) (by omega)).wr (by simp [obsEnterRows]) (by omega)
  have cleared_rows : TouchesRows obsEnterRows l.reg (s.modBridge l b (fun x => { x with obs := o })) cleared :=
    ((lost_rows.wr (by simp [obsEnterRows]) (by omega)).wr (by simp [obsEnterRows]) (by omega)).wr (by simp [obsEnterRows]) (by omega)
  have bound_rows : TouchesRows obsEnterRows l.reg (s.modBridge l b (fun x => { x with obs := o })) bound :=
    Touches.ite (cleared_rows.wr (by simp [obsEnterRows]) (by omega)) (Touches.ite (cleared_rows.wr (by simp [obsEnterRows]) (by omega)) cleared_rows)
  rw [ht]
  exact ⟨o, ((bound_rows.wr (by simp [obsEnterRows]) (by omega)).wr (by simp [obsEnterRows]) (by omega)).wr (by simp [obsEnterRows]) (by omega)⟩

theorem State.obsEnter_rd {src : Nat} {th w : Rat} {d : PDesc} (off : offRows obsEnterRows d = true) {r i : Nat} (hi : i < 256) :
    (s.obsEnter l b src th w).rd r d i = s.rd r d i := by
  obtain ⟨o, rows⟩ := State.obsEnter_touches (s := s) (l := l) (src := src) (th := th) (w := w) hb rfl
  rw [rows.rd off r hi, State.modBridge_rd]

theorem State.obsEnter_wOwn {src : Nat} {th w : Rat} (there : b < (s.lane l).bridges.length) :
    ((s.obsEnter l b src th w).bridge l b).wOwn = (s.bridge l b).wOwn := by
  obtain ⟨o, rows⟩ := State.obsEnter_touches (s := s) (l := l) (src := src) (th := th) (w := w) hb rfl
  rw [State.bridge, rows.lane, ← State.bridge, State.bridge_modBridge_same there]

/-- The rows of the drive that a bridge's entry into RUN writes beside its state, its winding and its loops. -/
def runRows : List PDesc := [OBS_TRACK, CMT_INVALID_N, CMT_VDC_LOW, OBS_CAP_TRY, GDR_DUTY_GOT, GDR_DUTY_MISS, GDR_MISSING]

/-- The two EXPRESS loops of a bridge closed. -/
def State.closeLoops (s : State) (l : LaneId) (b : Nat) : State :=
  [2 * b, 2 * b + 1].foldl (fun s n => (s.wr l.reg CEN_MODE n 1).wr l.reg CEN_CLOSING n 1) s

theorem State.closeLoops_touches (s : State) (l : LaneId) : TouchesRows [CEN_MODE, CEN_CLOSING] l.reg s (s.closeLoops l b) :=
  Touches.foldl_mem _ (fun _ n hn h => by
    have small : n < 256 := by rcases List.mem_pair.mp hn with rfl | rfl <;> omega
    exact TouchesRows.wr (TouchesRows.wr h (by simp) small) (by simp) small) (.refl ..)

theorem State.closeLoops_modes (s : State) (l : LaneId) :
    (s.closeLoops l b).rd l.reg CEN_MODE (2 * b) = 1 ∧ (s.closeLoops l b).rd l.reg CEN_MODE (2 * b + 1) = 1 := by
  have mode {u : State} {n : Nat} (hn : n < 12) : (u.wr l.reg CEN_MODE n 1).rd l.reg CEN_MODE n = 1 := by
    refine State.rd_wr_of_lt ?_
    rw [widthOf_mapRow (by decide +kernel) (kindOf_reg l) (by simp [CEN_MODE]; omega)]
    decide
  simp only [State.closeLoops, List.foldl_cons, List.foldl_nil]
  constructor
  · rw [State.rd_wr_row _ _ _ _ (by decide) (by omega) (by omega), State.rd_wr_inst _ _ _ _ _ (by omega) (by omega) (by omega),
      State.rd_wr_row _ _ _ _ (by decide) (by omega) (by omega), mode (by omega)]
  · rw [State.rd_wr_row _ _ _ _ (by decide) (by omega) (by omega), mode (by omega)]

/-- What a bridge that enters RUN shows. -/
theorem State.enterRun_reads (s : State) (l : LaneId) (hand ab : Vec) : (s.enterRun l b hand ab).rd l.reg CMT_STATE b = 2 ∧
    (s.enterRun l b hand ab).rd l.reg VOT_LOST_W (8 * l.reg + b) = 0 ∧
    (s.enterRun l b hand ab).rd l.reg CEN_MODE (2 * b) = 1 ∧ (s.enterRun l b hand ab).rd l.reg CEN_MODE (2 * b + 1) = 1 ∧
    (b < (s.lane l).bridges.length → ((s.enterRun l b hand ab).bridge l b).wOwn = 0) := by
  have reg : l.reg ≤ 3 := by cases l <;> decide
  unfold State.enterRun
  extract_lets entered closed kept tracked counted duty
  have tracked_frame : LaneFrame (AnyRow runRows) l.reg entered tracked :=
    LaneFrame.modLane (LaneFrame.wr (LaneFrame.modLane (LaneFrame.modLane (LaneFrame.modLane (.refl ..) _) _) _)
      (AnyRow.key (by simp [runRows]) _ (by omega))) _
  have duty_frame : LaneFrame (AnyRow runRows) l.reg entered duty :=
    (((((tracked_frame.wr (AnyRow.key (by simp [runRows]) _ (by omega))).wr (AnyRow.key (by simp [runRows]) _ (by omega))).wr
      (AnyRow.key (by simp [runRows]) _ (by omega))).wr (AnyRow.key (by simp [runRows]) _ (by omega))).wr
      (AnyRow.key (by simp [runRows]) _ (by omega))).wr (AnyRow.key (by simp [runRows]) _ (by omega))
  have own {d : PDesc} (off : offRows (runRows ++ [CEN_MODE, CEN_CLOSING]) d = true) {i : Nat} (hi : i < 256) :
      (duty.closeLoops l b).rd l.reg d i = entered.rd l.reg d i := by
    have parts : offRows runRows d = true ∧ offRows [CEN_MODE, CEN_CLOSING] d = true := by
      rw [offRows, List.all_append, Bool.and_eq_true] at off
      exact off
    rw [(State.closeLoops_touches hb duty l).rd parts.2 _ hi, duty_frame.get.rd (not_anyRow parts.1 _ hi)]
  obtain ⟨first, second⟩ := State.closeLoops_modes hb duty l
  refine ⟨?_, ?_, first, second, fun there => ?_⟩
  · refine (own (by decide) (by omega)).trans ?_
    rw [State.rd_wr_row _ _ _ _ (by decide) (by omega) (by omega), State.wr_state hb (by decide)]
  · exact (own (by decide) (by omega)).trans (State.rd_wr_zero ..)
  · change ((duty.closeLoops l b).bridge l b).wOwn = 0
    rw [State.bridge, (State.closeLoops_touches hb duty l).lane, ← State.bridge]
    simp [duty, counted, tracked, kept, closed, entered, State.trackRestart, State.bridge_modBridge_same, State.bridges_length_modBridge, there]

end

/-! ### START_DRIVE on one bridge -/

section
variable {l : LaneId} {b : Nat} {s : State}

/-- Every lane's winding marked the same. -/
theorem State.markStopped_mark (there : s.hasRegion l.reg = true) (on : Bool) :
    (s.markStopped l b on).rd l.reg VOT_STOPPED_W (8 * l.reg + b) = b2n on := by
  have fits (x : LaneId) (v : State) : (v.wrB l.reg VOT_STOPPED_W (8 * x.reg + b) on).rd l.reg VOT_STOPPED_W (8 * x.reg + b) = b2n on :=
    State.rd_wr_of_lt (by rw [widthOf_var (by decide)]; cases on <;> decide)
  have all (xs : List LaneId) (v : State) (h : l ∈ xs ∨ v.rd l.reg VOT_STOPPED_W (8 * l.reg + b) = b2n on) :
      (xs.foldl (fun s x => s.wrB l.reg VOT_STOPPED_W (8 * x.reg + b) on) v).rd l.reg VOT_STOPPED_W (8 * l.reg + b) = b2n on := by
    induction xs generalizing v with
    | nil => exact h.resolve_left (by simp)
    | cons x xs ih =>
      refine ih _ ?_
      by_cases own : x = l
      · exact .inr (own ▸ fits x v)
      · refine h.imp (fun m => (List.mem_cons.mp m).resolve_left (Ne.symm own)) fun e => ?_
        have apart : 8 * l.reg + b ≠ 8 * x.reg + b := by
          have := reg_injective own
          omega
        exact (State.wr_get_ne _ fun e => apart (PDesc.key_inj.mp e)).trans e
  exact all _ s (.inl (List.mem_filter.mpr ⟨by cases l <;> decide, there⟩))

theorem State.markStopped_touches (hb : b < 6) (on : Bool) : TouchesRows [VOT_STOPPED_W] l.reg s (s.markStopped l b on) :=
  Touches.foldl_mem _ (fun _ x _ h => TouchesRows.wr h (by simp) (by cases x <;> simp [LaneId.reg] <;> omega)) (.refl ..)

/-- The marks that START_DRIVE leaves: a winding still in its stop ramp stays marked. -/
def State.startMarks (s : State) (l : LaneId) (b : Nat) : State :=
  if (s.bridge l b).ramp.isSome then (s.markStopped l b false).wr l.reg VOT_STOPPED_W (8 * l.reg + b) 1 else s.markStopped l b false

theorem State.startMarks_touches (hb : b < 6) : TouchesRows [VOT_STOPPED_W] l.reg s (s.startMarks l b) :=
  Touches.ite (TouchesRows.wr (State.markStopped_touches hb false) (by simp) (by cases l <;> simp [LaneId.reg] <;> omega)) (State.markStopped_touches hb false)

theorem State.startMarks_mark (there : s.hasRegion l.reg = true) :
    (s.startMarks l b).rd l.reg VOT_STOPPED_W (8 * l.reg + b) = b2n (s.bridge l b).ramp.isSome := by
  unfold State.startMarks
  split
  · next ramp =>
    rw [State.rd_wr_same, widthOf_var (by decide), ramp]
    rfl
  · next ramp => rw [State.markStopped_mark there, Bool.eq_false_iff.mpr ramp]

theorem State.startMarks_one {u : State} (hb : b < 6) (h : OneBridge true l b u s) : OneBridge true l b u (s.startMarks l b) :=
  BridgesFrame.ite (OneBridge.winding (State.markStopped_one hb h false) hb l (by simp [windingRows])) (State.markStopped_one hb h false)

/-- A start that waits for the return to point 0 (R519). -/
def State.startWaits (s : State) (l : LaneId) (b : Nat) : State := (s.wr l.reg PWR_DVFS_TO 0 1).wrBit l.reg PWR_START_MASK 0 b true

theorem State.startWaits_one {agreed : Bool} : OneBridge agreed l b s (s.startWaits l b) := by
  have turned : OneBridge agreed l b s (s.wr l.reg PWR_DVFS_TO 0 1) := (BridgesFrame.refl agreed l (· = b) s).shared (by simp [sharedRows]) (by decide)
  obtain ⟨get, others, bridge, length, sent, part, waits⟩ := turned
  refine ⟨get.wr (.inr rfl), others, bridge, length, sent, part, fun c hc small => ?_⟩
  rw [State.startWaits, State.wrBit, State.rd_wr_same, widthOf_var (by decide), bit_mod small, bit_putBit, if_neg hc]
  exact waits c hc small

theorem State.startWaits_reads (hb : b < 6) : bit ((s.startWaits l b).rd l.reg PWR_START_MASK) b = true ∧
    (s.startWaits l b).rd l.reg CMT_STATE b = s.rd l.reg CMT_STATE b := by
  constructor
  · rw [State.startWaits, State.wrBit, State.rd_wr_same, widthOf_var (by decide), bit_mod (by omega), bit_putBit, if_pos rfl]
  · rw [State.startWaits, State.wrBit, State.rd_wr_row _ _ _ _ (by decide) (by decide) (by omega),
      State.rd_wr_row _ _ _ _ (by decide) (by decide) (by omega)]

/-- What START_DRIVE does to one bridge it names. -/
def State.startStep (s : State) (l : LaneId) (b : Nat) : State :=
  if (s.startMarks l b).vstate l = 0 then s.startMarks l b
  else if (s.startMarks l b).rd l.reg CLK_POINT ≠ 0 then (s.startMarks l b).startWaits l b
  else (s.startMarks l b).startBridge l b

theorem State.effStart_eq (s : State) (l : LaneId) (mask : Nat) :
    s.effStart l mask = (bridgesOf mask).foldl (fun s b => s.startStep l b) (s.abortTest l mask) := rfl

theorem State.startStep_one (hb : b < 6) : OneBridge true l b s (s.startStep l b) := by
  have marks := State.startMarks_one hb (BridgesFrame.refl true l (· = b) s)
  exact BridgesFrame.ite marks (BridgesFrame.ite (marks.trans State.startWaits_one) (State.startBridge_one hb marks))

/-! The states a bridge starts from (R178). -/

theorem State.startBridge_begins (ready : s.gatesReady l = true) (off : s.rd l.reg CMT_STATE b = 0 ∨ s.rd l.reg CMT_STATE b = 3)
    (idle : s.rdB l.pow GDR_PRE_ON b = false) : s.startBridge l b = s.beginCapture l b := by
  unfold State.startBridge
  rw [if_neg (by simp [ready])]
  rcases off with e | e <;> simp [e, idle]

theorem State.startBridge_runs (ready : s.gatesReady l = true) (short : s.rd l.reg CMT_STATE b = 4) :
    s.startBridge l b = (s.enterRun l b (0, 0) (0, 0)).obsEnter l b 1 ((s.encAngle l b : Nat) : Rat) (s.encSpeed l b) := by
  unfold State.startBridge
  rw [if_neg (by simp [ready])]
  simp [short]

theorem State.startBridge_stays (underWay : s.rd l.reg CMT_STATE b = 1 ∨ s.rd l.reg CMT_STATE b = 2) : s.startBridge l b = s := by
  unfold State.startBridge
  split
  · rfl
  · rcases underWay with e | e <;> simp [e]

/-- A capture begun, or the precharge before it. -/
theorem State.beginCapture_reads (hb : b < 6) : (s.bootReady l b = true → (s.beginCapture l b).rd l.reg CMT_STATE b = 1) ∧
    (s.bootReady l b = false → (s.beginCapture l b).rd l.pow GDR_PRE_ON b = 1 ∧ (s.beginCapture l b).rd l.reg CMT_STATE b = s.rd l.reg CMT_STATE b ∧
      (s.beginCapture l b).rd l.pow GDR_GATES b = if s.rdB l.reg INT_EXTEST ∨ s.latchedB l b = true then 0 else 2) := by
  unfold State.beginCapture
  extract_lets v
  have rows : TouchesRows [OBS_CAP_TRY, OBS_GONE] l.reg s v :=
    TouchesRows.wr (TouchesRows.wr (Touches.refl ..) (by simp) (by omega)) (by simp) (by omega)
  have boot : v.bootReady l b = s.bootReady l b := by simp only [State.bootReady, rows.rd (d := GDR_BOOT_READY) (by decide) l.pow (i := 0) (by decide)]
  have latched : v.latchedB l b = s.latchedB l b := by simp only [State.latchedB, rows.rd (d := GDR_LATCHED) (by decide) l.pow (i := b) (by omega)]
  rw [boot]
  refine ⟨fun ready => ?_, fun ready => ?_⟩
  · rw [if_pos ready, State.obsReport_rd hb (by decide) (by omega), State.setBridge_state hb (by decide)]
  · obtain ⟨on, state, gates⟩ := State.precharge_reads (s := v) (l := l) hb
    rw [if_neg (by simp [ready])]
    rw [rows.rd (by decide) _ (by omega)] at state
    rw [rows.rdB (by decide) _ (by decide), latched] at gates
    exact ⟨on, state, gates⟩

/-- A bridge in SHORT that starts. -/
theorem State.startShort_reads (hb : b < 6) {src : Nat} {th w : Rat} {t : State} (ht : t = (s.enterRun l b (0, 0) (0, 0)).obsEnter l b src th w) :
    t.rd l.reg CMT_STATE b = 2 ∧ t.rd l.reg VOT_LOST_W (8 * l.reg + b) = 0 ∧ t.rd l.reg CEN_MODE (2 * b) = 1 ∧ t.rd l.reg CEN_MODE (2 * b + 1) = 1 ∧
    ((s.lane l).bridges.length = 6 → (t.bridge l b).wOwn = 0) := by
  have reg : l.reg ≤ 3 := by cases l <;> decide
  obtain ⟨state, lost, first, second, weight⟩ := State.enterRun_reads (b := b) hb s l (0, 0) (0, 0)
  have length := (State.enterRun_one hb (BridgesFrame.refl true l (· = b) s) (0, 0) (0, 0)).length
  rw [ht]
  refine ⟨?_, ?_, ?_, ?_, fun six => ?_⟩
  · rw [State.obsEnter_rd hb (by decide) (by omega), state]
  · rw [State.obsEnter_rd hb (by decide) (by omega), lost]
  · rw [State.obsEnter_rd hb (by decide) (by omega), first]
  · rw [State.obsEnter_rd hb (by decide) (by omega), second]
  · rw [State.obsEnter_wOwn hb (by omega), weight (by omega)]

/-- What START_DRIVE leaves of one bridge it names. -/
def StartsBridge (l : LaneId) (b : Nat) (s t : State) : Prop :=
  (s.vstate l = 0 → t.rd l.reg CMT_STATE b = s.rd l.reg CMT_STATE b) ∧
  t.rd l.reg VOT_STOPPED_W (8 * l.reg + b) = b2n (s.bridge l b).ramp.isSome ∧
  (s.vstate l ≠ 0 → s.rd l.reg CLK_POINT = 0 →
    (s.rd l.reg CMT_STATE b = 0 ∨ s.rd l.reg CMT_STATE b = 3 → s.rdB l.pow GDR_PRE_ON b = false →
      (s.bootReady l b = true → t.rd l.reg CMT_STATE b = 1) ∧
      (s.bootReady l b = false → t.rd l.pow GDR_PRE_ON b = 1 ∧ t.rd l.reg CMT_STATE b = s.rd l.reg CMT_STATE b ∧
        t.rd l.pow GDR_GATES b = (if s.rdB l.reg INT_EXTEST ∨ s.latchedB l b = true then 0 else 2))) ∧
    (s.rd l.reg CMT_STATE b = 4 → t.rd l.reg CMT_STATE b = 2 ∧ t.rd l.reg VOT_LOST_W (8 * l.reg + b) = 0 ∧
      t.rd l.reg CEN_MODE (2 * b) = 1 ∧ t.rd l.reg CEN_MODE (2 * b + 1) = 1 ∧
      ((s.lane l).bridges.length = 6 → (t.bridge l b).wOwn = 0)) ∧
    (s.rd l.reg CMT_STATE b = 1 ∨ s.rd l.reg CMT_STATE b = 2 → t.rd l.reg CMT_STATE b = s.rd l.reg CMT_STATE b)) ∧
  (s.vstate l ≠ 0 → s.rd l.reg CLK_POINT ≠ 0 →
    bit (t.rd l.reg PWR_START_MASK) b = true ∧ t.rd l.reg CMT_STATE b = s.rd l.reg CMT_STATE b)

theorem State.startStep_starts (hb : b < 6) (there : s.hasRegion l.reg = true) (ready : s.gatesReady l = true) :
    StartsBridge l b s (s.startStep l b) := by
  have reg : l.reg ≤ 3 := by cases l <;> decide
  have rows := State.startMarks_touches (s := s) (l := l) hb
  have mark := State.startMarks_mark (b := b) there
  have marks := State.startMarks_one hb (BridgesFrame.refl true l (· = b) s)
  have stopped {w : State} (h : OneBridge false l b (s.startMarks l b) w) :
      w.rd l.reg VOT_STOPPED_W (8 * l.reg + b) = b2n (s.bridge l b).ramp.isSome := by
    rw [h.rd (by omega) (by decide), mark]
  have state : (s.startMarks l b).rd l.reg CMT_STATE b = s.rd l.reg CMT_STATE b := rows.rd (by decide) _ (by omega)
  have vstate : (s.startMarks l b).vstate l = s.vstate l := rows.rd (by decide) _ (by decide)
  have point : (s.startMarks l b).rd l.reg CLK_POINT = s.rd l.reg CLK_POINT := rows.rd (by decide) _ (by decide)
  unfold State.startStep
  rw [vstate, point]
  by_cases shadow : s.vstate l = 0
  · rw [if_pos shadow]
    exact ⟨fun _ => state, mark, fun h => absurd shadow h, fun h => absurd shadow h⟩
  rw [if_neg shadow]
  by_cases trim : s.rd l.reg CLK_POINT = 0
  · rw [if_neg (not_not_intro trim)]
    refine ⟨fun h => absurd h shadow, stopped (State.startBridge_one hb (.refl ..)), fun _ _ => ⟨fun off idle => ?_, fun short => ?_, fun underWay => ?_⟩,
      fun _ h => absurd trim h⟩
    · rw [State.startBridge_begins (by rw [marks.gatesReady]; exact ready) (by rw [state]; exact off) (by rw [rows.rdB (by decide) _ (by omega)]; exact idle)]
      have reads := State.beginCapture_reads (s := s.startMarks l b) (l := l) hb
      rwa [marks.bootReady, state, rows.rdB (by decide) _ (by decide), show (s.startMarks l b).latchedB l b = s.latchedB l b from
        congrArg (bit · 6) (rows.rd (by decide) _ (by omega))] at reads
    · have reads := State.startShort_reads hb (State.startBridge_runs (by rw [marks.gatesReady]; exact ready) (by rw [state]; exact short))
      rwa [marks.length] at reads
    · rw [State.startBridge_stays (by rw [state]; exact underWay), state]
  · rw [if_pos trim]
    obtain ⟨waits, kept⟩ := State.startWaits_reads (s := s.startMarks l b) (l := l) hb
    exact ⟨fun h => absurd h shadow, stopped State.startWaits_one, fun _ h => absurd h trim, fun _ _ => ⟨waits, kept.trans state⟩⟩

/-- Changes of other bridges before and after it do not matter. -/
theorem StartsBridge.between {v w t : State} (hb : b < 6) (before : BridgesFrame true l (· ≠ b) s v) (h : StartsBridge l b v w)
    (after : BridgesFrame true l (· ≠ b) w t) : StartsBridge l b s t := by
  have reg : l.reg ≤ 3 := by cases l <;> decide
  have own : ¬ b ≠ b := not_not_intro rfl
  unfold StartsBridge at h ⊢
  rw [before.vstate, before.state hb, before.bridge b own, before.rd (d := CLK_POINT) (by decide) (by decide), before.precharging hb, before.bootReady,
    before.latched hb, before.length, before.rdB (d := INT_EXTEST) (by decide) (by decide)] at h
  rw [after.state hb, after.rd_winding (d := VOT_STOPPED_W) (by omega) (by decide) (by omega), after.rd_bridge (d := GDR_PRE_ON) (by omega) (by decide) own,
    after.rd_bridge (d := GDR_GATES) (by omega) (by decide) own, after.rd_winding (d := VOT_LOST_W) (by omega) (by decide) (by omega),
    after.rd_loop (i := 2 * b) (d := CEN_MODE) (by omega) (by decide) (by omega), after.rd_loop (i := 2 * b + 1) (d := CEN_MODE) (by omega) (by decide) (by omega),
    after.bridge b own, after.waits b own (by omega)]
  exact h

end

/-! ### A bridge withdrawn -/

/-- The rows a bridge that leaves RUN writes beside its state. -/
def dropRows : List PDesc := [OBS_TRACK, CMT_SHARE, OBS_ALIGN] ++ loopRows

section
variable {l : LaneId} {b : Nat} {s : State}

theorem State.openExpress_touches {n : Nat} (hn : n < 256) : TouchesRows loopRows l.reg s (s.openExpress l n) :=
  (((((TouchesRows.wr (Touches.refl ..) (by simp [loopRows]) hn).wr (by simp [loopRows]) hn).wr (by simp [loopRows]) hn).wr (by simp [loopRows]) hn).wr
    (by simp [loopRows]) hn).wr (by simp [loopRows]) hn

theorem State.openExpress_mode {n m : Nat} (hn : n < 256) (hm : m < 256) :
    (s.openExpress l n).rd l.reg CEN_MODE m = if m = n then 0 else s.rd l.reg CEN_MODE m := by
  have later : (s.openExpress l n).rd l.reg CEN_MODE m = (s.wr l.reg CEN_MODE n 0).rd l.reg CEN_MODE m := by
    unfold State.openExpress
    rw [State.rd_wr_row _ _ _ _ (by decide) hn hm, State.rd_wr_row _ _ _ _ (by decide) hn hm, State.rd_wr_row _ _ _ _ (by decide) hn hm,
      State.rd_wr_row _ _ _ _ (by decide) hn hm, State.rd_wr_row _ _ _ _ (by decide) hn hm]
  rw [later]
  split
  · next e => rw [e, State.rd_wr_zero]
  · next e => exact State.rd_wr_inst _ _ _ _ _ e hn hm

/-- A bridge that leaves RUN: its share at 0, its two loops open, its state as it stands. -/
theorem State.dropOwn_reads (hb : b < 6) (s : State) (l : LaneId) : (s.dropOwn l b).rd l.reg CMT_STATE b = s.rd l.reg CMT_STATE b ∧
    (s.dropOwn l b).rd l.reg CMT_SHARE b = 0 ∧ (s.dropOwn l b).rd l.reg CEN_MODE (2 * b) = 0 ∧
    (s.dropOwn l b).rd l.reg CEN_MODE (2 * b + 1) = 0 := by
  unfold State.dropOwn
  extract_lets reset tracked
  have tracked_frame : LaneFrame (AnyRow dropRows) l.reg s tracked :=
    LaneFrame.wr (LaneFrame.modLane (LaneFrame.modLane (LaneFrame.modLane (.refl ..) _) _) _) (AnyRow.key (by simp [dropRows]) _ (by omega))
  let v := (tracked.wr l.reg CMT_SHARE b 0).wr l.reg OBS_ALIGN b 0
  have loops : TouchesRows loopRows l.reg v ((v.openExpress l (2 * b)).openExpress l (2 * b + 1)) :=
    (State.openExpress_touches (by omega)).trans (State.openExpress_touches (by omega))
  refine ⟨?_, ?_, ?_, ?_⟩
  · refine (loops.rd (by decide) _ (by omega)).trans ?_
    rw [State.rd_wr_row _ _ _ _ (by decide) (by omega) (by omega), State.rd_wr_row _ _ _ _ (by decide) (by omega) (by omega),
      tracked_frame.get.rd (not_anyRow (by decide) _ (by omega))]
  · refine (loops.rd (by decide) _ (by omega)).trans ?_
    rw [State.rd_wr_row _ _ _ _ (by decide) (by omega) (by omega), State.rd_wr_zero]
  · rw [State.openExpress_mode (by omega) (by omega), if_neg (by omega), State.openExpress_mode (by omega) (by omega), if_pos rfl]
  · rw [State.openExpress_mode (by omega) (by omega), if_pos rfl]

theorem State.loseWinding_rd {d : PDesc} (off : offRows [VOT_LOST_W] d = true) (hb : b < 6) {i : Nat} (hi : i < 256) :
    (s.loseWinding l b).rd l.reg d i = s.rd l.reg d i := by
  have small : l.reg ≤ 3 := by cases l <;> decide
  unfold State.loseWinding
  split
  · rfl
  · exact State.rd_wr_row _ _ _ _ off (by omega) hi

theorem State.withdrawTo_lt (s : State) (l : LaneId) (b : Nat) : s.withdrawTo l b < 8 := by
  unfold State.withdrawTo
  split
  · decide
  · split <;> decide

/-- A bridge withdrawn from RUN (R171, R175). -/
theorem State.withdraw_reads (hb : b < 6) (running : s.rd l.reg CMT_STATE b = 2) {t : State} (ht : t = (s.withdraw l b).obsReport l b) :
    t.rd l.reg CMT_STATE b = s.withdrawTo l b ∧ t.rd l.reg CMT_SHARE b = 0 ∧ t.rd l.reg CEN_MODE (2 * b) = 0 ∧
    t.rd l.reg CEN_MODE (2 * b + 1) = 0 := by
  obtain ⟨state, share, first, second⟩ := State.dropOwn_reads hb (s.setBridge l b (s.withdrawTo l b)) l
  rw [ht, State.withdraw, if_pos running]
  refine ⟨?_, ?_, ?_, ?_⟩
  · rw [State.obsReport_rd hb (by decide) (by omega), State.loseWinding_rd (by decide) hb (by omega), state,
      State.setBridge_state hb (State.withdrawTo_lt ..)]
  · rw [State.obsReport_rd hb (by decide) (by omega), State.loseWinding_rd (by decide) hb (by omega), share]
  · rw [State.obsReport_rd hb (by decide) (by omega), State.loseWinding_rd (by decide) hb (by omega), first]
  · rw [State.obsReport_rd hb (by decide) (by omega), State.loseWinding_rd (by decide) hb (by omega), second]

/-! ### STOP_DRIVE on one bridge -/

/-- What STOP_DRIVE does to one bridge it names. -/
def State.stopStep (s : State) (l : LaneId) (b kind : Nat) : State :=
  if (s.markStopped l b true).vstate l = 0 then s.markStopped l b true else (s.markStopped l b true).stopBridge l b kind

theorem State.effStop_eq (s : State) (l : LaneId) (mask kind : Nat) :
    s.effStop l mask kind = (bridgesOf mask).foldl (fun s b => s.stopStep l b kind) (s.abortTest l mask) := rfl

theorem State.stopStep_one (hb : b < 6) (kind : Nat) : OneBridge true l b s (s.stopStep l b kind) := by
  have marks := State.markStopped_one hb (BridgesFrame.refl true l (· = b) s) true
  exact BridgesFrame.ite marks (State.stopBridge_one hb marks kind)

/-- The fall of a bridge's weight per base period over `STOP_RAMP` (R178). -/
def State.stopFall (s : State) (l : LaneId) (b : Nat) : Rat :=
  (s.bridge l b).wOwn * (s.baseSec l * 1000 / ((max 1 (s.rd l.reg CMT_STOP_RAMP) : Nat) : Rat))

/-- What STOP_DRIVE leaves of one bridge it names. -/
def StopsBridge (l : LaneId) (b kind : Nat) (s t : State) : Prop :=
  (s.vstate l = 0 → t.rd l.reg CMT_STATE b = s.rd l.reg CMT_STATE b) ∧
  t.rd l.reg VOT_STOPPED_W (8 * l.reg + b) = 1 ∧
  (s.vstate l ≠ 0 → s.rdB l.pow GDR_PRE_ON b = false →
    (s.rd l.reg CMT_STATE b = 1 ∨ s.rd l.reg CMT_STATE b = 3 → t.rd l.reg CMT_STATE b = 0) ∧
    (s.rd l.reg CMT_STATE b = 4 → t.rd l.reg CMT_STATE b = 4) ∧
    (s.rd l.reg CMT_STATE b = 2 → kind = 1 → t.rd l.reg CMT_STATE b = s.withdrawTo l b) ∧
    (s.rd l.reg CMT_STATE b = 2 → kind = 0 → t.rd l.reg CMT_STATE b = 2 ∧ ((s.lane l).bridges.length = 6 →
      (s.bridge l b).ramp = none → (t.bridge l b).ramp = some (s.stopFall l b))))

/-! The states a bridge stops in (R152, R178). -/

section
variable {kind : Nat} (idle : s.rdB l.pow GDR_PRE_ON b = false)
include idle

theorem State.stopBridge_off (free : s.rd l.reg CMT_STATE b = 1 ∨ s.rd l.reg CMT_STATE b = 3) :
    s.stopBridge l b kind = (s.setBridge l b 0).obsReport l b := by
  unfold State.stopBridge
  rw [if_neg (by simp [idle])]
  rcases free with e | e <;> simp [e]

theorem State.stopBridge_short (short : s.rd l.reg CMT_STATE b = 4) : s.stopBridge l b kind = s := by
  unfold State.stopBridge
  rw [if_neg (by simp [idle])]
  simp [short]

theorem State.stopBridge_withdraws (running : s.rd l.reg CMT_STATE b = 2) : s.stopBridge l b 1 = (s.withdraw l b).obsReport l b := by
  unfold State.stopBridge
  rw [if_neg (by simp [idle])]
  simp [running]

theorem State.stopBridge_ramps (running : s.rd l.reg CMT_STATE b = 2) : s.stopBridge l b 0 =
    s.modBridge l b (fun x => if x.ramp.isSome then x else
      { x with ramp := some (x.wOwn * (s.baseSec l * 1000 / ((max 1 (s.rd l.reg CMT_STOP_RAMP) : Nat) : Rat))) }) := by
  unfold State.stopBridge
  rw [if_neg (by simp [idle])]
  simp [running]

end

theorem State.withdrawTo_markStopped (hb : b < 6) (on : Bool) : (s.markStopped l b on).withdrawTo l b = s.withdrawTo l b := by
  have rows := State.markStopped_touches (s := s) (l := l) hb on
  simp only [State.withdrawTo, State.rdB, State.rdI, rows.rd (d := OBS_SPEED_OK) (by decide) l.reg (i := b) (by omega),
    rows.rd (d := OBS_SPEED) (by decide) l.reg (i := b) (by omega), rows.rd (d := CMT_SHORT_MARGIN) (by decide) l.reg (i := 0) (by decide),
    rows.rd (d := CMT_VDC) (by decide) l.reg (i := b) (by omega), rows.rd (d := CMT_PSI) (by decide) l.reg (i := b) (by omega)]
  rfl

theorem State.stopStep_stops (hb : b < 6) (there : s.hasRegion l.reg = true) (kind : Nat) : StopsBridge l b kind s (s.stopStep l b kind) := by
  have reg : l.reg ≤ 3 := by cases l <;> decide
  have rows := State.markStopped_touches (s := s) (l := l) hb true
  have mark : (s.markStopped l b true).rd l.reg VOT_STOPPED_W (8 * l.reg + b) = 1 := State.markStopped_mark there true
  have marks := State.markStopped_one hb (BridgesFrame.refl true l (· = b) s) true
  have state : (s.markStopped l b true).rd l.reg CMT_STATE b = s.rd l.reg CMT_STATE b := rows.rd (by decide) _ (by omega)
  have vstate : (s.markStopped l b true).vstate l = s.vstate l := rows.rd (by decide) _ (by decide)
  have bridge : (s.markStopped l b true).bridge l b = s.bridge l b := by rw [State.bridge, rows.lane, State.bridge]
  unfold State.stopStep
  rw [vstate]
  by_cases shadow : s.vstate l = 0
  · rw [if_pos shadow]
    exact ⟨fun _ => state, mark, fun h => absurd shadow h⟩
  rw [if_neg shadow]
  have stopped : ((s.markStopped l b true).stopBridge l b kind).rd l.reg VOT_STOPPED_W (8 * l.reg + b) = 1 := by
    rw [(State.stopBridge_one hb (BridgesFrame.refl false l (· = b) _) kind).rd (by omega) (by decide), mark]
  refine ⟨fun h => absurd h shadow, stopped, fun _ idle => ⟨fun free => ?_, fun short => ?_, fun running e => ?_, fun running e => ?_⟩⟩
  all_goals rw [← rows.rdB (by decide) _ (by omega)] at idle
  · rw [State.stopBridge_off idle (by rwa [state]), State.obsReport_rd hb (by decide) (by omega), State.setBridge_state hb (by decide)]
  · rw [State.stopBridge_short idle (by rwa [state]), state, short]
  · subst e
    have reads := State.withdraw_reads hb (by rwa [state]) (State.stopBridge_withdraws idle (by rwa [state]))
    obtain ⟨withdrawn, -, -, -⟩ := reads
    rw [withdrawn, State.withdrawTo_markStopped hb]
  · subst e
    rw [State.stopBridge_ramps idle (by rwa [state])]
    refine ⟨by rw [State.modBridge_rd, state, running], fun six none => ?_⟩
    rw [State.bridge_modBridge_same (by rw [marks.length]; omega), bridge, none, State.stopFall, State.baseSec, State.baseSec, marks.basePeriod,
      rows.rd (by decide) _ (by decide)]
    rfl

/-- Changes of other bridges before and after it do not matter. -/
theorem StopsBridge.between {kind : Nat} {v w t : State} (hb : b < 6) (before : BridgesFrame true l (· ≠ b) s v) (h : StopsBridge l b kind v w)
    (after : BridgesFrame true l (· ≠ b) w t) : StopsBridge l b kind s t := by
  have reg : l.reg ≤ 3 := by cases l <;> decide
  have own : ¬ b ≠ b := not_not_intro rfl
  have fall : v.stopFall l b = s.stopFall l b := by
    rw [State.stopFall, State.stopFall, State.baseSec, State.baseSec, before.bridge b own, before.basePeriod,
      before.rd (d := CMT_STOP_RAMP) (by decide) (by decide)]
  unfold StopsBridge at h ⊢
  rw [before.vstate, before.state hb, before.precharging hb, before.withdrawTo hb, before.bridge b own, before.length, fall] at h
  rw [after.state hb, after.rd_winding (d := VOT_STOPPED_W) (by omega) (by decide) (by omega), after.bridge b own]
  exact h

end

/-! ### The bridges of a mask -/

theorem bridgesOf_small (mask : Nat) : ∀ b ∈ bridgesOf mask, b < 6 := fun _ hb => (mem_bridgesOf.mp hb).1

section
variable {l : LaneId} {f : State → Nat → State} (one : ∀ s b, b < 6 → OneBridge true l b s (f s b)) (s : State) (mask : Nat)
include one

/-- Bridges of a mask changed one after the other, the self-test ended before: the rest of the package stays. -/
theorem drive_frame : BridgesFrame true l (fun _ => True) s ((bridgesOf mask).foldl f (s.abortTest l mask)) :=
  BridgesFrame.foldl_mem _ (fun u b hb h => h.trans ((one u b (bridgesOf_small mask b hb)).mono fun _ _ => trivial))
    (State.abortTest_frame true s l mask _)

theorem drive_unnamed {b : Nat} (hb : b < 6) (unnamed : mask.testBit b = false) :
    ((bridgesOf mask).foldl f (s.abortTest l mask)).rd l.reg CMT_STATE b = s.rd l.reg CMT_STATE b :=
  ((State.abortTest_frame true s l mask _).trans (BridgesFrame.foldl_others one (bridgesOf_small mask)
    (fun h => by simp [(mem_bridgesOf.mp h).2] at unnamed) _)).state hb

/-- A bridge the mask names is changed once, from a state and to one in which only others have changed. -/
theorem drive_named {b : Nat} (hb : b < 6) (named : mask.testBit b = true) : ∃ v, BridgesFrame true l (· ≠ b) s v ∧
    BridgesFrame true l (· ≠ b) (f v b) ((bridgesOf mask).foldl f (s.abortTest l mask)) := by
  obtain ⟨v, before, after⟩ := BridgesFrame.foldl_at one (bridgesOf_small mask) (bridgesOf_nodup mask) (mem_bridgesOf.mpr ⟨hb, named⟩) (s.abortTest l mask)
  exact ⟨v, (State.abortTest_frame true s l mask _).trans before, after⟩

end

section
variable {l : LaneId} {s : State}

theorem State.effStart_starts (there : s.hasRegion l.reg = true) (ready : s.gatesReady l = true) {mask b : Nat} (hb : b < 6)
    (named : mask.testBit b = true) : StartsBridge l b s (s.effStart l mask) := by
  obtain ⟨v, before, after⟩ := drive_named (fun _ _ => State.startStep_one) s mask hb named
  rw [State.effStart_eq]
  exact StartsBridge.between hb before (State.startStep_starts hb (by rwa [before.hasRegion]) (by rwa [before.gatesReady])) after

theorem State.effStop_stops (there : s.hasRegion l.reg = true) (kind : Nat) {mask b : Nat} (hb : b < 6) (named : mask.testBit b = true) :
    StopsBridge l b kind s (s.effStop l mask kind) := by
  obtain ⟨v, before, after⟩ := drive_named (fun _ _ hb => State.stopStep_one hb kind) s mask hb named
  rw [State.effStop_eq]
  exact StopsBridge.between hb before (State.stopStep_stops hb (by rwa [before.hasRegion]) kind) after

end

/-! ### The commands -/

theorem State.hasRegion_of_pairUp {s : State} {l : LaneId} (h : s.pairUp l = true) : s.hasRegion l.reg = true := by
  have up := State.up_of_pairUp h
  simp only [State.up, State.on, Bool.and_eq_true] at up
  exact up.1.1.1.1

/-- A failing check of an opcode is its answer, and nothing else happens (R39, R42). -/
theorem State.perform_denied {s : State} {l : LaneId} {h : Hdr} {op : Nat} {r : Rsp} {eff : State × Rsp} (performs : Performs s l h op)
    (bad : r.good = false) : Denied l h op r s (s.perform l h op (some r) eff) := by
  obtain ⟨up, flags, busy, -⟩ := performs
  have rolling : s.rollCheck l = none := failIf_none.mpr (by simp [State.up_of_pairUp up])
  have e : s.perform l h op (some r) eff = s.answer l h op r true false 0 := by
    rw [State.perform, rolling, flags, busy]
    rfl
  rw [e]
  exact ⟨State.answer_replies (.refl l s) .., fun hp => State.answer_sent_failure hp bad⟩

theorem rRange_bad (id off : Nat) : (rRange id off).good = false := rfl

section
variable {l : LaneId} {h : Hdr} {s : State} {mask kind : Nat}

theorem State.gatesReady_of_chkStart (passed : s.chkStart l mask kind = none) : s.gatesReady l = true := by
  have supply := failIf_none.mp (firstFail_none.mp passed (failIf (!s.gatesReady l) (rRange (GDR_VGD.id l.pow 0) 0)) (by simp))
  simpa using supply

theorem State.chkStart_kind (other : kind ≠ 0) : s.chkStart l mask kind = some (rRange 0 17) := by
  simp [State.chkStart, failIf, other]

theorem State.chkStart_supply (off : s.gatesReady l = false) (can : ∀ b, b < 6 → mask.testBit b = true → s.cannotStart l b = false)
    (few : s.tooMany l mask = false) : s.chkStart l mask 0 = some (rRange (GDR_VGD.id l.pow 0) 0) := by
  have startable : (bridgesOf mask).any (fun b => s.cannotStart l b) = false :=
    List.any_eq_false.mpr fun b hb => by simp [can b (mem_bridgesOf.mp hb).1 (mem_bridgesOf.mp hb).2]
  simp [State.chkStart, failIf, startable, few, off]

theorem execStartDrive_denied {r : Rsp} (performs : Performs s l h 0x0210) (failed : s.chkStart l mask kind = some r) (bad : r.good = false) :
    Runs (.startDrive l h mask kind) s (Denied l h 0x0210 r s) :=
  ⟨_, congrArg Host.Outcome.next (State.whenHost_up performs.1), by rw [failed]; exact State.perform_denied performs bad⟩

end

/-- The end of a stop ramp withdraws its bridge (R178). -/
theorem execStopRampEnd_withdraws {l : LaneId} {b : Nat} {s : State} (up : s.up l = true) (hb : b < 6) (running : s.rd l.reg CMT_STATE b = 2)
    (ramp : (s.bridge l b).ramp.isSome = true) : exec (.stopRampEnd l b) s = .next ((s.withdraw l b).obsReport l b) := by
  change Host.Outcome.next (s.whenUp l _) = _
  rw [State.whenUp_up up, if_pos ⟨hb, running, ramp⟩]

/-- Settles O33: each bridge a mask names is changed once, between changes of other bridges that leave what it reads and what it left. -/
theorem driveOpcodes : Obligations.DriveOpcodes := by
  unfold Obligations.DriveOpcodes
  refine ⟨fun l h mask kind s performs passed => ?start, fun l h mask kind s performs other => ?kind, fun l h mask s performs off can few => ?supply,
    fun l h mask kind s performs passed => ?stop, fun l b s up hb running ramp => ?ramp⟩
  case start =>
    refine ⟨_, congrArg Host.Outcome.next (State.whenHost_up performs.1), s.effStart l mask,
      State.perform_performed (eff := (s.effStart l mask, rOk)) performs passed, ?_⟩
    have frame := drive_frame (fun _ _ => State.startStep_one) s mask (l := l)
    have unnamed (b : Nat) (hb : b < 6) (e : mask.testBit b = false) : (s.effStart l mask).rd l.reg CMT_STATE b = s.rd l.reg CMT_STATE b :=
      drive_unnamed (fun _ _ => State.startStep_one) s mask hb e
    have named (b : Nat) (hb : b < 6) (e : mask.testBit b = true) : StartsBridge l b s (s.effStart l mask) :=
      State.effStart_starts (State.hasRegion_of_pairUp performs.1) (State.gatesReady_of_chkStart passed) hb e
    refine ⟨frame.others, frame.sent, unnamed, fun shadow b hb => ?_, fun b hb e => ?_, fun active point b hb e => ?_, fun active trim b hb e => ?_⟩
    · cases e : mask.testBit b
      · exact unnamed b hb e
      · obtain ⟨stays, -, -, -⟩ := named b hb e
        exact stays shadow
    · obtain ⟨-, mark, -, -⟩ := named b hb e
      exact mark
    · obtain ⟨-, -, starts, -⟩ := named b hb e
      exact starts active point
    · obtain ⟨-, -, -, waits⟩ := named b hb e
      exact waits active trim
  case kind => exact execStartDrive_denied performs (State.chkStart_kind other) (rRange_bad ..)
  case supply => exact execStartDrive_denied performs (State.chkStart_supply off can few) (rRange_bad ..)
  case stop =>
    refine ⟨_, congrArg Host.Outcome.next (State.whenHost_up performs.1), s.effStop l mask kind,
      State.perform_performed (eff := (s.effStop l mask kind, rOk)) performs passed, ?_⟩
    have frame := drive_frame (fun _ _ hb => State.stopStep_one hb kind) s mask (l := l)
    have named (b : Nat) (hb : b < 6) (e : mask.testBit b = true) : StopsBridge l b kind s (s.effStop l mask kind) :=
      State.effStop_stops (State.hasRegion_of_pairUp performs.1) kind hb e
    refine ⟨frame.others, frame.sent, fun b hb stays => ?_, fun b hb e => ?_, fun active b hb e => ?_⟩
    · cases e : mask.testBit b
      · exact drive_unnamed (fun _ _ hb => State.stopStep_one hb kind) s mask hb e
      · obtain ⟨shadow, -, -⟩ := named b hb e
        exact shadow (stays.resolve_left (by simp [e]))
    · obtain ⟨-, mark, -⟩ := named b hb e
      exact mark
    · obtain ⟨-, -, stops⟩ := named b hb e
      exact stops active
  case ramp =>
    obtain ⟨state, share, first, second⟩ := State.withdraw_reads hb running rfl
    have frame := State.obsReport_one hb (State.withdraw_one hb (BridgesFrame.refl false l (· = b) s))
    exact ⟨_, execStopRampEnd_withdraws up hb running ramp, state, share, first, second, frame.sent, frame.others,
      fun c hc other => frame.rd_bridge (by omega) (by decide) other⟩

end Sys2Proof.Machine
end
